-- ==== Sys2Proof/Word.lean ====
section
/-! DEFINITION. The words of the block: registers are 32 bits wide (R34), bytes are 8 bits. -/

namespace Sys2Proof

/-- A register or descriptor word. -/
abbrev Word := BitVec 32

/-- A byte of a buffer, frame or memory. -/
abbrev Byte := BitVec 8

end Sys2Proof
end

