-- ==== Sys2Proof/Operand.lean ====
section
/-! DEFINITION. The operands of commands that are more than a number: rings, readers, pictures, what a host or a
measurement answers. Plain data. -/

namespace Sys2Proof

/-- A 64-byte descriptor as sixteen 32-bit words, word 0 first (R68). -/
abbrev Descriptor := Vector Word 16

/-- A ring of a partition: command ring k with its completion ring, or event ring e (R56). -/
inductive RingId where
  | cmd (k : Fin 64)
  | evt (e : Fin 4)
  deriving DecidableEq, Repr

/-- Which host memory access the host answered with an error (R66): the read of descriptors of command ring k, the
write of a completion record of ring k, or the write of an event record of ring e. -/
inductive HostAccess where
  | descRead (k : Fin 64)
  | complWrite (k : Fin 64)
  | eventWrite (e : Fin 4)
  deriving DecidableEq, Repr

/-- What the host answered to the read of a buffer (R66): its bytes, or an error at an address. -/
inductive HostAnswer where
  | bytes (data : List Byte)
  | error (addr : BitVec 64)
  deriving DecidableEq, Repr

/-- A reader of the frame store: a destination, a compositor layer of kind VIDEO, or a tile of a MOSAIC layer
(R151, 07_freshness.md). -/
inductive Reader where
  | dst (d : Fin 1024)
  | layer (c : Fin 96) (l : Fin 8)
  | tile (c : Fin 96) (l : Fin 8) (t : Fin 64)
  deriving DecidableEq, Repr

/-- One plane of samples: `h` rows of `w` values, row after row. -/
structure Plane where
  w : Nat
  h : Nat
  data : List Nat
  deriving DecidableEq, Repr

/-- A picture: its components as planes, in the order Y, Cb, Cr or R, G, B (R131, R132). -/
structure Pic where
  comps : List Plane
  deriving DecidableEq, Repr

/-- What the timing core measures of one reference at a 1 ms tick (R104, R106, R109): references 1 .. 6 and 9; it has
its own measures of the others. -/
structure RefMeasure where
  ref : Nat
  /-- References 1 and 2: the time of day that the reference gives for this instant. References 3 .. 6 and 9: the device
  time of its latest edge. -/
  time : Int
  /-- Quality that reference 1 or 2 advertises: the clockClass. -/
  quality : Nat
  /-- Frequency error in ppb, used by a 10 MHz reference (R111). -/
  freqPpb : Int
  deriving DecidableEq, Repr

/-- What is seen of a reference input when its loss is reported (R105, R106). -/
inductive RefFault where
  /-- Time in ns since the last Announce, and the base-2 logarithm of the Announce interval in s. -/
  | noAnnounce (ns : Nat) (log2 : Int)
  /-- Time in ns since the last Sync, and the base-2 logarithm of the Sync interval in s. -/
  | noSync (ns : Nat) (log2 : Int)
  /-- The last expected frame starts or Z preambles, the newest first: the distance of each edge from its expected
  instant, in ns; none where no edge came. -/
  | edges (late : List (Option Int))
  /-- The SDI source has left its format. -/
  | leftFormat
  /-- Time in ns since the previous edge. -/
  | noEdge (ns : Nat)
  /-- Biphase lock of the AES3 input is lost. -/
  | noBiphase
  /-- The Causeway link is down. -/
  | linkDown
  /-- Time in ns since the peer's last time message. -/
  | noTime (ns : Nat)
  deriving DecidableEq, Repr

/-- A reference whose loss is reported, and what is seen of it. -/
structure LostRef where
  ref : Fin 11
  seen : RefFault
  deriving DecidableEq, Repr

/-- What the timing core measures at a 1 ms tick (R107). -/
structure TimeMeasure where
  refs : List RefMeasure
  /-- TAI minus UTC as announced by the selected PTP reference. -/
  utcOffset : Option Word
  deriving DecidableEq, Repr

/-! ### Serial video, ancillary data and audio as they arrive -/

/-- An SDI receiver: a receive lane, or the framer of an ST 2022-6 source (R318). -/
inductive VideoIn where
  | lane (l : Fin 256)
  | flow (n : Fin 1024)
  deriving DecidableEq, Repr

/-- What an ST 352 payload identifier declares (R273). -/
structure PayloadId where
  /-- The identifier, byte 1 in bits 7 .. 0. -/
  id : Word
  /-- Link number of a quad-link signal, 1 .. 4; 0 for a single link. -/
  link : Nat
  levelB : Bool
  s444 : Bool
  /-- BITS code: 1 for 8 or 10 bits as SRC_FMT codes them (R167). -/
  bits : Nat
  rgb : Bool
  /-- COLOR code, where the identifier declares one of the four of R287. -/
  color : Option Nat
  deriving DecidableEq, Repr

/-- What one link of an SDI signal delivered in a frame (R282). -/
structure SdiMember where
  /-- The member delivered the frame. -/
  present : Bool
  raster : Nat
  rate : Nat
  interlaced : Bool
  payload : Option PayloadId
  /-- Its part of the picture. -/
  pic : Pic
  /-- Rows of the part, in stored order, that were not received. -/
  missing : List Nat
  /-- Lines with CRC errors, fields with EDH errors, line number errors, TRS errors. -/
  crc : Nat
  edh : Nat
  line : Nat
  trs : Nat
  /-- Arrival after the earliest member, in ns. -/
  skewNs : Nat
  deriving DecidableEq, Repr

/-- A frame as a receiver has it at its end: one member, or the four of a quad-link signal. -/
structure SdiFrame where
  members : List SdiMember
  deriving DecidableEq, Repr

/-- One audio sample of a channel with its side bits. -/
structure SideSample where
  /-- 24-bit sample, two's complement. -/
  x : BitVec 24
  v : Bool
  u : Bool
  c : Bool
  z : Bool
  deriving DecidableEq, Repr

/-- What an ST 299 packet says (R358): nothing, samples of an audio group, or the rate code of a control packet. -/
inductive AncAudio where
  | none
  /-- Group 1 .. 8; for each instant the samples of channels 1 .. 4. -/
  | data (group : Nat) (samples : List (List SideSample))
  /-- Group 1 .. 8 and its rate code; 0 is 48 kHz. -/
  | control (group rate : Nat)
  deriving DecidableEq, Repr

/-- An ancillary packet as received: ten-bit words (R283). -/
structure AncPacket where
  did : BitVec 10
  sdid : BitVec 10
  dc : BitVec 10
  udw : List (BitVec 10)
  checksum : BitVec 10
  hanc : Bool
  /-- C stream. -/
  stream : Bool
  /-- Quad-link: link number minus 1. -/
  link : Nat
  field2 : Bool
  line : Nat
  audio : AncAudio
  deriving DecidableEq, Repr

/-- A subframe of an AES3 frame (R377). -/
structure AesSub where
  x : BitVec 24
  v : Bool
  u : Bool
  c : Bool
  parityOk : Bool
  deriving DecidableEq, Repr

/-- An AES3 frame as decoded: its subframes, and whether its coding was without a violation. -/
structure AesFrame where
  a : AesSub
  b : AesSub
  codingOk : Bool
  deriving DecidableEq, Repr

/-- Which feed's ASRC locks (R363): the channels of a window, or an AES3 input. -/
inductive AsrcFeed where
  | window (n : Fin 1024)
  | aes (i : Fin 64)
  deriving DecidableEq, Repr

/-! ### Media ports, lanes and memory -/

/-- A frame at a media port: its bytes from the destination address, without the FCS (R304). -/
structure NetFrame where
  bytes : List Byte
  fcsOk : Bool
  /-- RS codewords corrected, and not correctable, in the frame. -/
  fecCorr : Nat
  fecBad : Nat
  deriving DecidableEq, Repr

/-- A lane PLL (R334): of the TX lanes of an SDI quad on one of the two clocks, of a media lane, of the Causeway. -/
inductive LanePll where
  | sdiTx (q : Fin 64) (frac : Bool)
  | media (l : Fin 64)
  | causeway
  deriving DecidableEq, Repr

/-- A 64b/66b block as it arrives on a Causeway lane: its sync header, its payload as sent, bit 0 first, and the 58 payload
bits sent before it, the newest in bit 0 (R347). -/
structure RxBlock where
  header : BitVec 2
  payload : BitVec 64
  before : BitVec 58
  deriving DecidableEq, Repr

/-- The sync headers that a Causeway lane has received, the newest first. -/
structure LaneHeaders where
  lane : Fin 8
  headers : List (BitVec 2)
  deriving DecidableEq, Repr

/-- A block that stands where a marker may be, and how many blocks it comes after the last marker (R349). -/
structure MarkerBlock where
  block : RxBlock
  apart : Nat
  deriving DecidableEq, Repr

/-- A column that arrives at the elastic buffer, and the columns that the buffer then holds (R351). -/
structure ElasticColumn where
  column : Vector RxBlock 8
  fill : Fin 17
  deriving DecidableEq, Repr

/-- Equaliser values in use: CTLE, five DFE taps, three TX taps. -/
structure EqNow where
  ctle : BitVec 4
  dfe : Vector (BitVec 8) 5
  pre : BitVec 4
  main : BitVec 6
  post : BitVec 5
  deriving DecidableEq, Repr

/-! ### Start-up, Towpath and debug -/

/-- The straps sampled at boot start (R506). -/
structure Straps where
  role : Bool
  mode : BitVec 2
  testMode : BitVec 3
  deriving DecidableEq, Repr

/-- What the fuses of a part read when it is first powered (R519): the serial number, the hashes of the public keys of the
three slots, revoked key slots, SVN bits blown.
TEST_KILL is blown on every shipped part (R5), and DBG_KILL is in the block's own state (R3, R4). -/
structure Fuses where
  serial : BitVec 64
  keyHash : Vector (BitVec 384) 3
  revoked : BitVec 3
  svn : BitVec 7
  deriving DecidableEq, Repr

/-- The frequency of REFOSC (R111). -/
inductive RefOsc where
  | mhz10 | mhz20 | mhz25
  deriving DecidableEq, Repr

/-- What the boot configuration record selects (R28, R30, R111, R457, R530). -/
structure BootRecord where
  linkCfg : BitVec 2
  present : BitVec 8
  /-- Subsystem vendor ID in bits 15 .. 0, subsystem ID in bits 31 .. 16. -/
  subsystem : BitVec 32
  refosc : RefOsc
  pairEn : Bool
  /-- Bit d: domain d starts gated. -/
  gate : BitVec 184
  deriving DecidableEq, Repr

/-- A transmission on a Towpath bus as received (R491, R492): the bytes after the start delimiter, whether every bit had a
valid transition, the bits beyond a multiple of 8, and the device time at the end of the start delimiter. -/
structure TowWire where
  bytes : List Byte
  manchOk : Bool
  spare : Nat
  time : BitVec 64
  deriving DecidableEq, Repr

/-- A request of a master that has no answer (R548): its address, and for how long in ns it has waited, where it is none of
the debug master's. -/
structure Unanswered where
  addr : BitVec 48
  waited : Nat
  deriving DecidableEq, Repr

/-- The answer of a target to a bus access (R539, R548): read data, or none within the limit. -/
inductive BusAnswer where
  | data (v : Word)
  | timeout
  deriving DecidableEq, Repr

end Sys2Proof
end

