-- ==== Sys2Proof/Syntax.lean ====
section
/-! DEFINITION. The commands of the block: one constructor per row of the table of operations and events. Operands
say who writes and where, which object is concerned, and what arrives from outside the block. -/

namespace Sys2Proof

/-- A command: an operation or event of the table. -/
inductive Instr where
  /-- REGISTER_WRITE (R39): A host write to a BAR0 register that has no row of its own is checked under R37 and applied in
  arrival order. -/
  | registerWrite (w : Fin 8) (off : BitVec 26) (width : Nat) (val : BitVec 64)
  /-- BAR0_READ_ERROR (R37): A BAR0 read that fails the width, mapping or rights check returns zero or an error completion
  and logs its bit in PCB_ACCERR. -/
  | bar0ReadError (r : Fin 8) (off : BitVec 26) (width : Nat)
  /-- BAR2_ACCESS_ERROR (R62): An access to an unmapped BAR2 offset is handled like an unmapped BAR0 access and logged
  with ERR_BAR = 1. -/
  | bar2AccessError (r : Fin 8) (off : BitVec 19) (isRead : Bool)
  /-- ACCERR_CLEAR (R37): A W1C write to PCB_ACCERR clears error bits, and ERR_OFFSET re-arms once bits [3:0] are all
  clear. -/
  | accerrClear (w p : Fin 8) (val : Word)
  /-- PERST_RELEASE (R31): Release of PERSTn_N of an endpoint applies a PART reset to every partition of that endpoint. -/
  | perstRelease (ep : Fin 4)
  /-- PCIE_LINK_DOWN (R31): Loss of an endpoint's PCIe link applies a PART reset to the partitions of that endpoint. -/
  | pcieLinkDown (ep : Fin 4)
  /-- HOT_RESET (R31): A PCIe hot reset applies a PART reset to the partitions of the endpoint. -/
  | hotReset (ep : Fin 4)
  /-- FUNCTION_LEVEL_RESET (R31): A function-level reset applies a PART reset to that function's partition and completes
  within 10 ms. -/
  | functionLevelReset (p : Fin 8)
  /-- PART_RST (R54): A write of PCB_PART_RST resets the partition's rings, MSI-X state and Keep T fields and aborts its
  unsealed groups. -/
  | partRst (w p : Fin 8)
  /-- CLAIM (R45): A PCB_CLAIM request with action CLAIM gives an unowned resource to the requesting partition. -/
  | claim (w p : Fin 8) (ori : BitVec 12)
  /-- RELEASE (R45): A PCB_CLAIM request with action RELEASE frees an owned resource unless it is in use. -/
  | release (w p : Fin 8) (ori : BitVec 12)
  /-- SHARE (R45): A PCB_CLAIM request with action SHARE sets the SHARED bit of an owned source or compositor. -/
  | share (w p : Fin 8) (ori : BitVec 12)
  /-- UNSHARE (R45): A PCB_CLAIM request with action UNSHARE clears the SHARED bit unless REFS or staged changes hold it. -/
  | unshare (w p : Fin 8) (ori : BitVec 12)
  /-- ASSIGN (R45): A PCB_CLAIM request with action ASSIGN from P0 gives a resource to a present target partition holding
  a lease. -/
  | assign (w p : Fin 8) (ori : BitVec 12) (target : Fin 8)
  /-- HEARTBEAT (R49): A write to PCB_HEARTBEAT renews the lease and returns a LAPSED partition to LIVE, releasing held
  completion records. -/
  | heartbeat (w p : Fin 8)
  /-- LEASE_MS (R48): A write to PCB_LEASE_MS sets the lease, clamped, and is ignored when it writes 0 while the partition
  owns resources. -/
  | leaseMs (w p : Fin 8) (val : Word)
  /-- LEASE_EXPIRY (R49): When the time since the last renewal reaches PCB_LEASE_MS the partition enters LAPSED. -/
  | leaseExpiry (p : Fin 8)
  /-- REVOKE (R51): A write of REVOKE aborts the partition's unsealed groups, disables its rings and starts a revocation. -/
  | revoke (w p : Fin 8)
  /-- REVOCATION_TRANSFER (R51): Once the sealed groups of the revoked partition have applied or deferred, its resources
  pass to the revoking partition. -/
  | revocationTransfer (p : Fin 8)
  /-- PCB_ENABLE_SET (R55): A write of ENABLE = 1 by P0 moves a present partition from OFF to LIVE with its rings
  disabled. -/
  | pcbEnableSet (w p : Fin 8)
  /-- PCB_ENABLE_CLEAR (R55): A write of ENABLE = 0 by P0 revokes the partition, applies a PART reset and sets it OFF. -/
  | pcbEnableClear (w p : Fin 8)
  /-- RING_ENABLE (R59): A write of ring ENABLE = 1 with a valid size zeroes the ring's pointers and sets the phase to 1. -/
  | ringEnable (w p : Fin 8) (ring : RingId) (val : Word)
  /-- RING_DISABLE (R59): A write of ring ENABLE = 0 stops fetching and discards fetched but ungranted descriptors. -/
  | ringDisable (w p : Fin 8) (ring : RingId) (val : Word)
  /-- COMMAND_TAIL_DOORBELL (R60): A doorbell write of a command ring tail is checked and, when accepted, makes
  descriptors pending. -/
  | commandTailDoorbell (p : Fin 8) (k : Fin 64) (width : Nat) (val : Word)
  /-- COMPLETION_HEAD_DOORBELL (R60): A doorbell write of a completion ring head frees the consumed records when it passes
  the check. -/
  | completionHeadDoorbell (p : Fin 8) (k : Fin 64) (width : Nat) (val : Word)
  /-- EVENT_HEAD_DOORBELL (R60): A doorbell write of an event ring head frees the consumed event records when it passes
  the check. -/
  | eventHeadDoorbell (p : Fin 8) (e : Fin 4) (width : Nat) (val : Word)
  /-- RING_FETCH (R64): The ring walker reads up to 8 pending descriptors of a ring when the partition is LIVE and
  completion space exists. -/
  | ringFetch (p : Fin 8) (k : Fin 64) (answer : List Descriptor)
  /-- DESCRIPTOR_READ_ERROR (R66): A host error on a descriptor read sets the ring's HOST_FAULT, drops the descriptors and
  stops fetching from the ring. -/
  | descriptorReadError (p : Fin 8) (access : HostAccess) (addr : BitVec 64)
  /-- BUFFER_READ (R66): Completion of the read of a descriptor's host buffer sends the descriptor to the engines, or
  completes it with HOST_FAULT on an error. -/
  | bufferRead (p : Fin 8) (k : Fin 64) (answer : HostAnswer)
  /-- HOST_FAULT_CLEAR (R66): A W1C write clearing a ring's HOST_FAULT makes the walker fetch again from HEAD. -/
  | hostFaultClear (w p : Fin 8) (ring : RingId)
  /-- ENGINE_PLACEMENT (R93): A fetched descriptor is placed on an idle unfrozen engine, in a Layby, or held at its ring. -/
  | enginePlacement (p : Fin 8) (k : Fin 64)
  /-- ENGINE_DRAW (R94): An unfrozen engine that becomes idle draws a Layby entry by the ticket lottery. -/
  | engineDraw (e : Fin 16)
  /-- CMD_FREEZE (R97): A write of CMD_FREEZE stops or resumes new draws and placements on an engine. -/
  | cmdFreeze (w : Fin 8) (e : Fin 16) (freeze : Bool)
  /-- ENG_RST (R98): A write of ENG_RST abandons the descriptor in process, completes it with ENGINE_RESET and aborts its
  group. -/
  | engRst (w : Fin 8) (e : Fin 16)
  /-- WDOG_US (R98): A write of WDOG_US takes effect at once, also for the descriptor held, and may raise ENGINE_STUCK
  immediately. -/
  | wdogUs (w : Fin 8) (e : Fin 16) (val : Word)
  /-- LFSR_SEED (R97): A write of LFSR_SEED loads the engine's lottery LFSR, with 0 loading 1. -/
  | lfsrSeed (w : Fin 8) (e : Fin 16) (val : Word)
  /-- ENGINE_STUCK (R98): When an engine has held one descriptor for WDOG_US, ENGINE_STUCK is raised to P0 once. -/
  | engineStuck (e : Fin 16)
  /-- COALESCING_TIMEOUT (R92): When the oldest unsignalled record reaches COAL_US, the ring's MSI-X vector is signalled. -/
  | coalescingTimeout (p : Fin 8) (ring : RingId)
  /-- NOP (R75): The NOP descriptor does nothing and completes with OK. -/
  | nop (e : Fin 16)
  /-- BAD_OPCODE (R75): A descriptor with an unlisted OPCODE completes with BAD_OPCODE. -/
  | badOpcode (e : Fin 16)
  /-- FENCE (R83): A FENCE parks its ring until earlier descriptors of the masked rings and committed groups complete, or
  tests once. -/
  | fence (e : Fin 16)
  /-- FENCE_MET (R83): A waiting FENCE whose conditions become true completes with OK. -/
  | fenceMet (p : Fin 8) (k : Fin 64)
  /-- FENCE_TIMEOUT (R83): A waiting FENCE whose TIMEOUT_US passes completes with TIMEOUT. -/
  | fenceTimeout (p : Fin 8) (k : Fin 64)
  /-- ROUTE (R76): ROUTE sets the video, audio and ANC source and latency mode of a destination as a take, group member or
  bank write. -/
  | route (e : Fin 16)
  /-- ROUTE_BULK (R77): ROUTE_BULK applies up to 4,096 route entries from a host buffer. -/
  | routeBulk (e : Fin 16)
  /-- AUDIO_MAP (R77): AUDIO_MAP sets the inputs and polarity of pool output channels from buffer entries. -/
  | audioMap (e : Fin 16)
  /-- AUDIO_GAIN (R77): AUDIO_GAIN sets the input gains and ramp times of pool output channels from buffer entries. -/
  | audioGain (e : Fin 16)
  /-- LAYER (R78): LAYER replaces every field and the tile list of one compositor layer. -/
  | layer (e : Fin 16)
  /-- COMPOSITOR_SET (R79): COMPOSITOR_SET enables or disables a compositor and sets its output format, plane, z-order and
  background. -/
  | compositorSet (e : Fin 16)
  /-- FRESH_POLICY (R80): FRESH_POLICY sets the freshness policy of a destination or compositor layer. -/
  | freshPolicy (e : Fin 16)
  /-- COMMIT (R81): COMMIT admits a commit group and schedules it at its milepost. -/
  | commit (e : Fin 16)
  /-- COMMIT_ABORT (R81): COMMIT with ABORT = 1 discards the group before its staging deadline. -/
  | commitAbort (e : Fin 16)
  /-- BANK_FLIP (R189): BANK_FLIP admits the whole inactive bank and schedules the flip at a milepost. -/
  | bankFlip (e : Fin 16)
  /-- BANK_FLIP_ABORT (R190): BANK_FLIP with ABORT = 1 cancels a scheduled flip before its seal and keeps the marks. -/
  | bankFlipAbort (e : Fin 16)
  /-- ALLOC (R82): ALLOC reserves frame-store pages for a source's slot ring, to be used when its group applies or its
  bank flips. -/
  | alloc (e : Fin 16)
  /-- GRAPHIC_LOAD (R84): GRAPHIC_LOAD stores or deletes an ARGB picture under a partition handle. -/
  | graphicLoad (e : Fin 16)
  /-- THUMB_CAPTURE (R85): THUMB_CAPTURE parks its ring and copies the next COUNT completed slots of a ladder level to the
  host. -/
  | thumbCapture (e : Fin 16)
  /-- THUMB_CAPTURE_DONE (R85): When the last of COUNT slots has been copied the THUMB_CAPTURE completes. -/
  | thumbCaptureDone (p : Fin 8) (k : Fin 64) (fail : Option (BitVec 64))
  /-- ANC_DRAIN (R85): ANC_DRAIN rewinds, marks, reads whole packets to the host and releases an ANC queue. -/
  | ancDrain (e : Fin 16) (fail : Option (BitVec 64))
  /-- ANC_INSERT (R86): ANC_INSERT queues ancillary packets for insertion in a destination's frames. -/
  | ancInsert (e : Fin 16)
  /-- STATS_SNAPSHOT (R86): STATS_SNAPSHOT samples the counters of one set at one device time and writes them to the host. -/
  | statsSnapshot (e : Fin 16) (fail : Option (BitVec 64))
  /-- FLOW_ADD (R311): FLOW_ADD installs a receive or send flow context. -/
  | flowAdd (e : Fin 16)
  /-- FLOW_DEL (R311): FLOW_DEL removes a flow context. -/
  | flowDel (e : Fin 16)
  /-- PROBE_LOAD (R424): PROBE_LOAD writes a stopped probe core's instruction or data memory. -/
  | probeLoad (e : Fin 16)
  /-- PROBE_START (R424): PROBE_CTL with ACTION START arms a stopped core at START_PC. -/
  | probeStart (e : Fin 16)
  /-- PROBE_STOP (R424): PROBE_CTL with ACTION STOP stops a core, abandoning a stalled PUSH. -/
  | probeStop (e : Fin 16)
  /-- PROBE_RESET (R424): PROBE_CTL with ACTION RESET stops the core and clears its architectural state and results. -/
  | probeReset (e : Fin 16)
  /-- PROBE_RESET_START (R424): PROBE_CTL with ACTION RESET then START resets the core and arms it. -/
  | probeResetStart (e : Fin 16)
  /-- TIME_QUERY (R86): TIME_QUERY returns device time and the time status. -/
  | timeQuery (e : Fin 16)
  /-- ACCEPT_STEP (R118): ACCEPT_STEP from P0 applies the pending time step when it is within TM_JUMP_NS of STEP_NS. -/
  | acceptStep (e : Fin 16)
  /-- HANDOVER (R454): HANDOVER schedules a voluntary handover of the active role to a ready standby at a milepost. -/
  | handover (e : Fin 16)
  /-- TM_NOW_LO (R102): A 32-bit read of TM_NOW_LO returns device time [31:0] and latches the upper half. -/
  | tmNowLo (r : Fin 8)
  /-- REF_SIGNAL_PRESENT (R106): A signal appearing on a reference input makes it VALID, and a return within the hold-off
  resumes corrections. -/
  | refSignalPresent (r : Fin 11)
  /-- REF_QUALIFIED (R106): A reference VALID for 2 s without a break becomes QUALIFIED. -/
  | refQualified (r : Fin 11)
  /-- REF_LOSS (R106): Loss detection on a reference stops the loop taking corrections from it. -/
  | refLoss (loss : LostRef)
  /-- HOLDOFF_EXPIRY (R108): When the selected reference stays lost for TM_HOLDOFF_MS the best ranked reference is
  selected or holdover entered. -/
  | holdoffExpiry
  /-- REF_SELECTION_TICK (R107): Once per 1 ms tick the timing core ranks the qualified references and measures pending
  offsets. -/
  | refSelectionTick (m : TimeMeasure)
  /-- WTR_EXPIRY (R108): In revertive mode a better reference that has ranked above the selected one for TM_WTR_S is
  selected. -/
  | wtrExpiry
  /-- PRIO_WRITE (R108): A write of PRIO = 0 to the selected reference is treated as a loss with no hold-off. -/
  | prioWrite (w : Fin 8) (r : Fin 11) (val : Word)
  /-- LOCK_ACQUIRED (R111): After 5 s within the lock bounds the timing core becomes LOCKED. -/
  | lockAcquired
  /-- LOCK_LOST (R111): After 1 s outside the lock bounds the timing core returns to ACQUIRING. -/
  | lockLost
  /-- HOLDOVER_OOS (R114): When holdover lasts TM_OOS_S the core sets OOS and raises HOLDOVER_OOS. -/
  | holdoverOos
  /-- SET_GO (R115): A write of TM_SET_GO sets device time the first time, or is handled as a pending step once SET = 1. -/
  | setGo (w : Fin 8)
  /-- OFFSET_NS (R121): A write of a plane's OFFSET_NS takes effect whole at the next frame start or by slewing. -/
  | offsetNs (w : Fin 8) (plane : Fin 8) (val : Word)
  /-- WCLK_LOST (R123): Loss of the WCLK_IN or DARS source of the audio plane puts its loop in holdover. -/
  | wclkLost
  /-- FRAME_START (R120): At each frame start of a plane, readers release held slots, destinations render and transmit,
  compositors render, and pending changes apply at their boundary. -/
  | frameStart (plane : Fin 8)
  /-- LINE_START (R120): At each line start SDI TX lanes begin the line and CHASE readers read the next line. -/
  | lineStart (plane : Fin 8) (late : List Reader)
  /-- SELECTION_INSTANT (R151): At a reader's selection instant it chooses the slot for its next frame under its latency
  mode and freshness policy. -/
  | selectionInstant (reader : Reader)
  /-- SAMPLE_TICK (R366): At each 48 kHz sample tick the pool and channel matrix produce every output sample. -/
  | sampleTick
  /-- AUDIO_BLOCK (R368): At each 1 ms audio block map and gain changes apply and underrun channels may re-enter. -/
  | audioBlock
  /-- MILEPOST (R169): At milepost T, changes whose boundary is T itself apply: ALLOC, FLOW_ADD, FLOW_DEL and PROBE_CTL. -/
  | milepost
  /-- STAGING_DEADLINE (R177): At T − 2 ms a scheduled group or flip is sealed after the second ownership check and copied
  into its islands. -/
  | stagingDeadline
  /-- DECISION_INSTANT (R178): At T − 1 ms the group or flip is decided to apply or defer. -/
  | decisionInstant (late : List Nat)
  /-- FLIP_SETTLE (R190): After the last boundary of a flip the banks are settled, marks cleared and FLIP_STATE set to 0. -/
  | flipSettle (p : Fin 8)
  /-- DISCARD (R188): A write of PCB_TK_BANK.DISCARD unmarks every object and returns reserved pages. -/
  | discard (w p : Fin 8)
  /-- SOURCE_FRAME_START (R145): At a source's frame start ingest opens the next slot in ring order as WRITING. -/
  | sourceFrameStart (rx : VideoIn) (cut : SdiFrame)
  /-- SDI_FRAME_END (R284): Receipt of a frame's last active line ends its writing and judges it for the good-frame count. -/
  | sdiFrameEnd (rx : VideoIn) (frame : SdiFrame)
  /-- SLOT_CLOSE (R150): When every write of a slot is acknowledged it is closed COMPLETE or DAMAGED with T_CLOSE stamped. -/
  | slotClose (n : Fin 1120)
  /-- CLOSE_DEADLINE (R148): An ST 2110-20 slot short of coverage at its close deadline closes DAMAGED with INCOMPLETE. -/
  | closeDeadline (n : Fin 1024)
  /-- ECC_CORRECTED (R160): A corrected HBM ECC error returns correct data, is counted and written back. -/
  | eccCorrected (stack : Fin 4) (qp : BitVec 16) (byte : BitVec 19) (scrub : Bool)
  /-- MEM_UE (R160): An uncorrectable HBM error blackens slot data or, in a device structure, raises a critical fault. -/
  | memUe (stack : Fin 4) (qp : BitVec 16) (line : BitVec 13) (byte : BitVec 6)
  /-- SCRUB_PASS_END (R162): At the end of each scrub period the scrubber starts the next pass and flags a late pass. -/
  | scrubPassEnd (stack : Fin 4) (finished : Bool)
  /-- TEMP_SENSOR_READ (R556): Every 1 ms the die and stack sensors are read and the temperature thresholds applied. -/
  | tempSensorRead (die : Vector (BitVec 8) 16) (hbm : Vector (BitVec 8) 4)
  /-- DST_ENABLE (R215): A write of DST_CTL.ENABLE = 1 checks and admits a destination and starts it at a later frame
  start. -/
  | dstEnable (w : Fin 8) (d : Fin 1024)
  /-- DST_DISABLE (R216): A write of ENABLE = 0 to an unrouted destination stops it at its next frame start. -/
  | dstDisable (w : Fin 8) (d : Fin 1024)
  /-- SDI_LANE_LOCK (R335): An SDI RX lane locks to an input and the receiver starts acquiring. -/
  | sdiLaneLock (l : Fin 256) (rate : BitVec 4)
  /-- SDI_LOSS (R288): A locked lane losing signal, lock or EAV makes the source ABSENT and closes the slot DAMAGED. -/
  | sdiLoss (rx : VideoIn) (cut : SdiFrame)
  /-- QUAD_MEMBER_LOST (R291): A quad-link member lost during a frame closes it DAMAGED and later frames are written
  without it. -/
  | quadMemberLost (l : Fin 256) (skew : Bool)
  /-- QUAD_MEMBER_REJOIN (R291): A lost quad-link member that locks and aligns again is written from the next frame. -/
  | quadMemberRejoin (l : Fin 256)
  /-- ANC_PACKET_RECEIVED (R283): An ancillary packet taken from SDI blanking is checked and sent to the audio engine, ANC
  queues and passthrough area. -/
  | ancPacketReceived (rx : VideoIn) (packet : AncPacket)
  /-- MPORT_ENABLE (R303): A write of MPORT ENABLE = 1 checks the port's mode and lanes and starts link training. -/
  | mportEnable (w : Fin 8) (m : Fin 64)
  /-- MPORT_DISABLE (R303): A write of ENABLE = 0 stops a port unless a flow context or PTP instance names it. -/
  | mportDisable (w : Fin 8) (m : Fin 64)
  /-- PORT_UP (R330): A media port's PCS aligns and its link comes up. -/
  | portUp (m : Fin 64)
  /-- PORT_DOWN (R330): A media port's link goes down, and every context of the port becomes DOWN. -/
  | portDown (m : Fin 64)
  /-- LINK_TRAINING_END (R340): Link training of a media lane completes, or after 500 ms the link comes up untrained. -/
  | linkTrainingEnd (l : Fin 64) (taps : Option EqNow)
  /-- MEDIA_FRAME_RECEIVE (R306): A received Ethernet frame passes the MAC checks and the parse chain to a flow, a PTP
  instance, the host path or a drop. -/
  | mediaFrameReceive (m : Fin 64) (frame : NetFrame)
  /-- SHORT_PATH_LOOKUP (R307): A queued frame shorter than 256 B is looked up by the island's short path. -/
  | shortPathLookup (isl : Fin 16)
  /-- HP_RX_HEAD (R310): A write of HP_RX_HEAD frees host receive records when it passes the pointer check. -/
  | hpRxHead (w : Fin 8) (m : Fin 64) (val : Word)
  /-- HP_TX_TAIL (R310): A write of HP_TX_TAIL posts host frames for transmission when it passes the pointer check. -/
  | hpTxTail (w : Fin 8) (m : Fin 64) (val : Word)
  /-- HP_RING_ENABLE (R310): A write of HP_RX_EN or HP_TX_EN enables or disables a host-path ring as R59 does. -/
  | hpRingEnable (w : Fin 8) (m : Fin 64) (tx : Bool) (val : Word)
  /-- HP_TX_SEND (R309): A posted host frame is sent in a gap that ends before the next media packet. -/
  | hpTxSend (m : Fin 64) (answer : HostAnswer)
  /-- FLOW_LEG_DOWN (R322): A receive context that delivers no accepted packet for its set time becomes DOWN. -/
  | flowLegDown (f : Fin 262144)
  /-- NET_LOSS (R317): A KIND 2 or 3 source with no accepted packet for 2 ms becomes ABSENT and its slot closes DAMAGED. -/
  | netLoss (n : Fin 1024)
  /-- SEND_PACKET_DUE (R325): At a send context's due time its next media packet is built and sent. -/
  | sendPacketDue (f : Fin 262144)
  /-- LANE_PLL_UNLOCK (R336): A lane PLL losing lock idles its TX lanes and loses its RX lanes. -/
  | lanePllUnlock (pll : LanePll)
  /-- LANE_PLL_RELOCK (R336): A lane PLL relocks when its reference returns and its lanes recalibrate. -/
  | lanePllRelock (pll : LanePll)
  /-- LANE_POWER_UP (R338): A write of PWR = 1 powers a lane, which then calibrates. -/
  | lanePowerUp (w : Fin 8) (l : Fin 584)
  /-- LANE_POWER_DOWN (R338): A write of PWR = 0 powers a lane down unless it is in use. -/
  | lanePowerDown (w : Fin 8) (l : Fin 584)
  /-- LANE_READY (R338): A lane's calibration completes and READY is set. -/
  | laneReady (l : Fin 584)
  /-- ADAPT_DONE (R339): The first adaptation of CTLE and DFE after lock completes. -/
  | adaptDone (l : Fin 584) (eq : EqNow)
  /-- TXEQ_WRITE (R341): A write of manual TX taps applies them or is ignored with EQ_ERR when they exceed 63. -/
  | txeqWrite (w : Fin 8) (l : Fin 584) (val : Word)
  /-- LOOP_WRITE (R346): A write of LOOP or PRBS fields is ignored with LOOP_ERR while the lane is in use. -/
  | loopWrite (w : Fin 8) (l : Fin 584) (val : Word)
  /-- PRBS_CHK_WRITE (R344): A write of PRBS_CHK selects the checked pattern and clears PRBS_ERR. -/
  | prbsChkWrite (w : Fin 8) (l : Fin 584) (val : Word)
  /-- ES_GO (R342): A write of ES_GO starts an eye scan at the set phase and voltage. -/
  | esGo (w : Fin 8) (l : Fin 584)
  /-- ES_DONE (R342): An eye scan completes its dwell and sets ES_DONE. -/
  | esDone (l : Fin 584) (errors : Word)
  /-- ES_ABORT (R343): Lane loss or an equaliser write during a scan stops it with ES_ABORT. -/
  | esAbort (l : Fin 584) (errors bits : Word)
  /-- CW_BLOCK_LOCK_GAINED (R350): A Causeway lane gains block lock after 64 valid sync headers. -/
  | cwBlockLockGained (seen : LaneHeaders)
  /-- CW_LANE_DOWN (R350): A Causeway lane loses block or marker lock and takes the link down. -/
  | cwLaneDown (l : Fin 8) (headers : List (BitVec 2))
  /-- ALIGNMENT_MARKER (R350): A received alignment marker advances marker lock, checks BIP-8 and drives deskew and link
  up. -/
  | alignmentMarker (l : Fin 8) (marker : MarkerBlock) (bip : Byte) (skew : Nat)
  /-- CW_MARKER_SEND (R349): Every 16,384 columns the transmitter sends an alignment marker column. -/
  | cwMarkerSend
  /-- FILLER (R351): A received filler column is deleted or repeated to keep the elastic buffer near 8. -/
  | filler (arrived : ElasticColumn)
  /-- AIN_WRITE (R357): A write of an input window is applied or ignored with AIN_ERR. -/
  | ainWrite (w : Fin 8) (n : Fin 1024) (word : Fin 2) (val : Word)
  /-- AGRP_WRITE (R365): A write of an alignment group is applied or ignored with AG_ERR on overlap. -/
  | agrpWrite (w : Fin 8) (g : Fin 512) (val : Word)
  /-- EMB_WRITE (R370): A write of an embedder's settings takes effect at the next frame start or is ignored with EMB_ERR. -/
  | embWrite (w : Fin 8) (d : Fin 1024) (word : Fin 2) (val : Word)
  /-- ASRC_LOCK (R363): An ASRC channel's ratio estimate locks and the channel fades in. -/
  | asrcLock (feed : AsrcFeed)
  /-- AESIN_ENABLE (R380): A write of AESIN EN reserves two ASRC channels or is refused with BIND_ERR. -/
  | aesinEnable (w : Fin 8) (i : Fin 64) (en : Bool)
  /-- AESIN_BIND (R380): A write of an input's SRC or WOFS binds it or is ignored with BIND_ERR. -/
  | aesinBind (w : Fin 8) (i : Fin 64) (word : Fin 2) (val : Word)
  /-- AES_FRAME (R382): A received AES3 frame writes its samples and repeats samples on parity or biphase errors. -/
  | aesFrame (i : Fin 64) (frame : AesFrame)
  /-- Z_PREAMBLE (R379): A Z preamble is timestamped to measure the rate and may declare a rate change. -/
  | zPreamble (i : Fin 64)
  /-- CHANNEL_STATUS_BLOCK (R381): A complete channel-status block is CRC-checked, latched and may mute the input as
  non-audio. -/
  | channelStatusBlock (i : Fin 64)
  /-- AES_LOSS (R382): No valid preamble for 64 µs makes the input NO_SIGNAL and its channels underrun. -/
  | aesLoss (i : Fin 64)
  /-- AESOUT_ENABLE (R387): A write of AESOUT EN = 1 starts framing silently at the next 1 ms block. -/
  | aesoutEnable (w : Fin 8) (o : Fin 64)
  /-- AESOUT_DISABLE (R387): A write of AESOUT EN = 0 fades out and stops the output after a whole block. -/
  | aesoutDisable (w : Fin 8) (o : Fin 64)
  /-- OUT_CH (R383): A write of OUT_CH sets the output's pool channels or is ignored with OUT_ERR. -/
  | outCh (w : Fin 8) (o : Fin 64) (val : Word)
  /-- ANCQ_ENABLE (R402): A write of ANCQ EN = 1 checks the region and zeroes the pointers. -/
  | ancqEnable (w : Fin 8) (q : Fin 256)
  /-- ANCQ_DISABLE (R402): A write of ANCQ EN = 0 discards the queue's contents. -/
  | ancqDisable (w : Fin 8) (q : Fin 256)
  /-- FSRC_WRITE (R394): A write of a queue's FSRC is applied or ignored with CFG_ERR when the source is not readable. -/
  | fsrcWrite (w : Fin 8) (q : Fin 256) (val : Word)
  /-- WATERMARK_WRITE (R400): A write of HI_WM and LO_WM is applied or ignored with CFG_ERR. -/
  | watermarkWrite (w : Fin 8) (q : Fin 256) (val : Word)
  /-- CONSUMER_WRITE (R401): A write of a queue's consumer or producer fields is applied only while EN = 0 and for owned
  cores. -/
  | consumerWrite (w : Fin 8) (q : Fin 256) (val : Word)
  /-- PROBE_TRIGGER (R407): A probe trigger fills a waiting core's tap windows or counts an overrun. -/
  | probeTrigger (c : Fin 32)
  /-- PROBE_FILL_DONE (R418): The tap window fills complete and the core starts RUNNING at ENTRY. -/
  | probeFillDone (c : Fin 32)
  /-- PROBE_WINDOW_WRITE (R417): A write of a tap window is checked for readability and ignored with CFG_ERR when it
  fails. -/
  | probeWindowWrite (w : Fin 8) (c : Fin 32) (win : Fin 4) (word : Fin 6) (val : Word)
  /-- PROBE_NOP (R412): The probe NOP instruction does nothing for one cycle. -/
  | probeNop (c : Fin 32)
  /-- HALT (R407): HALT ends the probe cycle and returns the core to WAITING. -/
  | halt (c : Fin 32)
  /-- BR (R415): BR branches when its condition holds. -/
  | br (c : Fin 32)
  /-- CALL (R412): CALL pushes PC + 1 and branches. -/
  | call (c : Fin 32)
  /-- RET (R412): RET pops the return address into PC. -/
  | ret (c : Fin 32)
  /-- LP (R411): LP starts a hardware loop with an immediate count. -/
  | lp (c : Fin 32)
  /-- LPR (R411): LPR starts a hardware loop with a register count. -/
  | lpr (c : Fin 32)
  /-- LPX (R411): LPX ends a loop. -/
  | lpx (c : Fin 32)
  /-- LDI (R412): LDI loads an immediate into a data register. -/
  | ldi (c : Fin 32)
  /-- MOV (R412): MOV copies a data register. -/
  | mov (c : Fin 32)
  /-- ADD (R412): ADD adds two data registers. -/
  | add (c : Fin 32)
  /-- SUB (R412): SUB subtracts two data registers. -/
  | sub (c : Fin 32)
  /-- AND (R412): AND forms the bitwise and of two data registers. -/
  | andReg (c : Fin 32)
  /-- OR (R412): OR forms the bitwise or of two data registers. -/
  | orReg (c : Fin 32)
  /-- XOR (R412): XOR forms the bitwise exclusive-or of two data registers. -/
  | xorReg (c : Fin 32)
  /-- CMP (R415): CMP subtracts two registers for the flags only. -/
  | cmp (c : Fin 32)
  /-- ADDI (R412): ADDI adds an immediate to a register. -/
  | addi (c : Fin 32)
  /-- CMPI (R415): CMPI compares a register with an immediate for the flags. -/
  | cmpi (c : Fin 32)
  /-- ANDI (R412): ANDI masks a register with an immediate. -/
  | andi (c : Fin 32)
  /-- SHL (R412): SHL shifts a register left. -/
  | shl (c : Fin 32)
  /-- SHR (R412): SHR shifts a register right logically. -/
  | shr (c : Fin 32)
  /-- SRA (R412): SRA shifts a register right arithmetically. -/
  | sra (c : Fin 32)
  /-- ABS (R412): ABS takes the saturated absolute value of a register. -/
  | absReg (c : Fin 32)
  /-- MIN (R412): MIN takes the signed minimum of two registers. -/
  | minReg (c : Fin 32)
  /-- MAX (R412): MAX takes the signed maximum of two registers. -/
  | maxReg (c : Fin 32)
  /-- LD (R410): LD loads a data word at an address register and modifies it. -/
  | ld (c : Fin 32)
  /-- ST (R410): ST stores a data word at an address register and modifies it. -/
  | st (c : Fin 32)
  /-- LDD (R410): LDD loads two data words through two address registers. -/
  | ldd (c : Fin 32)
  /-- SETX (R412): SETX sets a field of an address register to an immediate. -/
  | setx (c : Fin 32)
  /-- MOVX (R412): MOVX sets a field of an address register from a data register. -/
  | movx (c : Fin 32)
  /-- GETX (R412): GETX reads a field of an address register. -/
  | getx (c : Fin 32)
  /-- GETS (R420): GETS reads a system value such as a window status. -/
  | gets (c : Fin 32)
  /-- MPY (R413): MPY sets an accumulator to a product. -/
  | mpy (c : Fin 32)
  /-- MAC (R413): MAC adds a product to an accumulator. -/
  | mac (c : Fin 32)
  /-- MSU (R413): MSU subtracts a product from an accumulator. -/
  | msu (c : Fin 32)
  /-- ADA (R413): ADA adds an absolute difference to an accumulator. -/
  | ada (c : Fin 32)
  /-- CLRA (R412): CLRA clears an accumulator. -/
  | clra (c : Fin 32)
  /-- MOVA (R412): MOVA loads an accumulator from a data register. -/
  | mova (c : Fin 32)
  /-- STA (R414): STA stores the shifted, truncated accumulator in a data register. -/
  | sta (c : Fin 32)
  /-- POP (R421): POP reads the next word of a consumed ANC queue. -/
  | pop (c : Fin 32)
  /-- PUSH (R422): PUSH writes a word into a produced ANC queue, stalling while it is full or paused. -/
  | push (c : Fin 32)
  /-- PUSH_RESUME (R422): A stalled PUSH completes when a release frees space or the pause ends. -/
  | pushResume (c : Fin 32)
  /-- QCTL (R421): QCTL marks, rewinds or releases an ANC queue port. -/
  | qctl (c : Fin 32)
  /-- POST (R425): POST writes a result register. -/
  | post (c : Fin 32)
  /-- VRD (R426): VRD posts a pass or fail verdict into the slot record of a window's last fill. -/
  | vrd (c : Fin 32)
  /-- SIG (R428): SIG raises PROBE_SIGNAL with a code and two registers. -/
  | sig (c : Fin 32)
  /-- TOKEN_IN_ASSERTED (R435): A sensed assertion of TOKEN_IN moves an INIT device to JOINING or detects a split brain. -/
  | tokenInAsserted
  /-- TOKEN_IN_DEASSERTED (R452): A sensed deassertion of TOKEN_IN makes a standby take over or a joining device return to
  INIT. -/
  | tokenInDeasserted
  /-- PAIR_FAULT_N_LOW (R433): PAIR_FAULT_N pulled low while this device does not drive it reports a failed peer. -/
  | pairFaultNLow
  /-- NEGOTIATION_WAIT (R436): An INIT device that hears no peer for its wait asserts TOKEN_OUT and enters SOLO. -/
  | negotiationWait
  /-- HELLO_INTERVAL (R436): Every 1 ms the device sends HELLO. -/
  | helloInterval
  /-- TIME_INTERVAL (R445): Every 1 ms the device sends a TIME message. -/
  | timeInterval
  /-- HEALTH_INTERVAL (R445): Every 100 ms the device sends a HEALTH report. -/
  | healthInterval
  /-- PEER_LOST (R435): No HELLO for 10 ms or a Causeway loss moves an ACTIVE device to SOLO. -/
  | peerLost
  /-- JOIN_TIMEOUT (R435): A joining device that exceeds JOIN_S enters HELD with cause 5. -/
  | joinTimeout
  /-- HELD_RETRY (R435): A HELD device with the Causeway up and READY, after 10 s for some causes, rejoins. -/
  | heldRetry
  /-- HELLO (R436): A received HELLO updates peer state and drives negotiation. -/
  | hello (flags : BitVec 8) (mseq : BitVec 24) (words : List (BitVec 64))
  /-- ROLE (R435): A received ROLE message reports the peer's role change, a RESYNC or a handover. -/
  | role (flags : BitVec 8) (mseq : BitVec 24) (words : List (BitVec 64))
  /-- LINK_ACK (R444): A received LINK_ACK advances or, with NAK, triggers retransmission of class 3 messages. -/
  | linkAck (flags : BitVec 8) (mseq : BitVec 24) (words : List (BitVec 64))
  /-- TIME (R446): A received TIME message updates PEER_OFS and the peer's time state and steps. -/
  | time (flags : BitVec 8) (mseq : BitVec 24) (words : List (BitVec 64))
  /-- SELECT (R441): A received SELECT record makes the standby render a reader from the named slot and state. -/
  | select (flags : BitVec 8) (mseq : BitVec 24) (words : List (BitVec 64))
  /-- TEAR (R441): A received TEAR record makes the standby tear the reader at the same line. -/
  | tear (flags : BitVec 8) (mseq : BitVec 24) (words : List (BitVec 64))
  /-- AUDIO_DEC (R441): A received AUDIO_DEC record replaces the standby's own audio decision. -/
  | audioDec (flags : BitVec 8) (mseq : BitVec 24) (words : List (BitVec 64))
  /-- DIG_IN (R448): A received ingest digest is compared with the local one. -/
  | digIn (flags : BitVec 8) (mseq : BitVec 24) (words : List (BitVec 64))
  /-- DIG_OUT (R448): A received output digest is compared with the local one. -/
  | digOut (flags : BitVec 8) (mseq : BitVec 24) (words : List (BitVec 64))
  /-- DIG_AUD (R448): A received audio digest is compared with the local one. -/
  | digAud (flags : BitVec 8) (mseq : BitVec 24) (words : List (BitVec 64))
  /-- DIGEST_MISSING (R448): A peer digest not arrived within its limit is counted in DIG_MISSING. -/
  | digestMissing
  /-- HEALTH (R451): A received HEALTH report updates the peer's health and READY. -/
  | health (flags : BitVec 8) (mseq : BitVec 24) (words : List (BitVec 64))
  /-- KAT_REQ (R449): A received KAT_REQ tests the named islands at once. -/
  | katReq (flags : BitVec 8) (mseq : BitVec 24) (words : List (BitVec 64))
  /-- MIRROR_CMD (R440): The standby processes a mirrored descriptor in CMD_ID order and compares its status. -/
  | mirrorCmd (flags : BitVec 8) (mseq : BitVec 24) (words : List (BitVec 64))
  /-- MIRROR_DATA (R445): The standby stores buffer bytes of a mirrored descriptor. -/
  | mirrorData (flags : BitVec 8) (mseq : BitVec 24) (words : List (BitVec 64))
  /-- MIRROR_REG (R439): The standby holds a mirrored register write for application at T_w. -/
  | mirrorReg (flags : BitVec 8) (mseq : BitVec 24) (words : List (BitVec 64))
  /-- MIRROR_REG_APPLY (R439): At T_w a mirrored register write applies on both devices. -/
  | mirrorRegApply
  /-- MIRROR_OWN (R439): The standby's OWN entry follows a mirrored ownership result. -/
  | mirrorOwn (flags : BitVec 8) (mseq : BitVec 24) (words : List (BitVec 64))
  /-- GROUP_END (R440): The standby receives a scheduled group, flip, take or handover for sealing. -/
  | groupEnd (flags : BitVec 8) (mseq : BitVec 24) (words : List (BitVec 64))
  /-- GROUP_ACK (R440): The active device records the standby's acknowledgement of a copied group. -/
  | groupAck (flags : BitVec 8) (mseq : BitVec 24) (words : List (BitVec 64))
  /-- DECISION (R440): The standby applies or defers a group as the active device decided. -/
  | decision (flags : BitVec 8) (mseq : BitVec 24) (words : List (BitVec 64))
  /-- DECISION_MISSING (R440): A standby with no DECISION by T applies nothing and enters HELD with cause 4. -/
  | decisionMissing
  /-- SNAP_BEGIN (R446): A received SNAP_BEGIN starts a snapshot of committed state. -/
  | snapBegin (flags : BitVec 8) (mseq : BitVec 24) (words : List (BitVec 64))
  /-- SNAP_END (R446): A received SNAP_END completes the snapshot and starts the live mirror. -/
  | snapEnd (flags : BitVec 8) (mseq : BitVec 24) (words : List (BitVec 64))
  /-- SEQ_ALIGN (R447): A received SEQ_ALIGN sets the standby's SEQ count for a source. -/
  | seqAlign (flags : BitVec 8) (mseq : BitVec 24) (words : List (BitVec 64))
  /-- RETRANSMIT_TIMEOUT (R444): 200 µs without an acknowledgement moving forward retransmits class 3 messages from NEXT. -/
  | retransmitTimeout
  /-- LINK_ACK_INTERVAL (R444): While class 3 traffic arrives a LINK_ACK is sent at least every 20 µs. -/
  | linkAckInterval
  /-- MESSAGE_TIMEOUT (R443): A message whose blocks stop for 10 µs is discarded. -/
  | messageTimeout
  /-- KAT_PERIOD (R450): Each KAT_PERIOD_S every self-tested island starts a known-answer test. -/
  | katPeriod
  /-- KAT_COMPLETE (R450): A known-answer test finishes and its result updates READY and mismatch handling. -/
  | katComplete (island : Fin 145) (pass : Bool)
  /-- HANDOVER_APPLY (R454): At the handover milepost T the standby asserts TOKEN_OUT and enters SOLO. -/
  | handoverApply
  /-- HANDOVER_RELEASE (R454): At T + 2 µs the old active device deasserts TOKEN_OUT and enters STANDBY. -/
  | handoverRelease
  /-- FLT_SEV_WRITE (R458): A write of FLT_SEV sets a source's programmed class, bounded by its floor. -/
  | fltSevWrite (w : Fin 8) (source : Fin 1024) (val : Word)
  /-- ACK_GO (R462): A write of ACK_GO acknowledges a fault record unless its condition still holds. -/
  | ackGo (w : Fin 8) (record : Fin 16)
  /-- SAFE_STATE_REACHED (R463): Within 8 µs of a critical fault every safe-state item holds and SAFE_ENTER is raised. -/
  | safeStateReached
  /-- SAFE_REQ (R467): SAFE_REQ_N low for 1 µs raises SAFE_REQ and starts the safe state. -/
  | safeReq
  /-- SRAM_CE (R469): A corrected on-chip SRAM error is written back and reported. -/
  | sramCe (mem : Fin 9) (unit : Fin 32)
  /-- CTRL_UE (R469): An uncorrectable on-chip SRAM error raises CTRL_UE and the safe state. -/
  | ctrlUe (mem : Fin 9) (unit : Fin 32) (addr : Word)
  /-- RAIL_FAULT (R554): A rail leaving its operating range above brown-out raises RAIL_FAULT. -/
  | railFault (rail : Fin 13)
  /-- BROWN_OUT (R554): A rail below 85 % of nominal applies POR at once. -/
  | brownOut (rail : Fin 13) (straps : Straps)
  /-- ROSC_OK (R477): The ring oscillator's detector sets ROSC_OK, latched trips are acted on and reset extension ends. -/
  | roscOk
  /-- ROSC_START_TIMEOUT (R477): Without ROSC_OK within 1 ms the device stays in reset extension with FAULT_N low. -/
  | roscStartTimeout
  /-- CLOCK_STOP_CHECK (R478): A monitored clock with no edge for 256 ROSC cycles trips its stop check and takes its
  fallback. -/
  | clockStopCheck (mon : Fin 10) (stopped : Bool)
  /-- CLOCK_FREQUENCY_CHECK (R478): At the end of a 65,536-cycle window a monitor compares the count against FREQ_TOL_PPM. -/
  | clockFrequencyCheck (mon : Fin 10) (ppm : BitVec 32)
  /-- CLOCK_RETURN (R486): A tripped clock GOOD for RETURN_MS reverses its fallback. -/
  | clockReturn (mon : Fin 10)
  /-- PLL_RELOCK (R480): A PLL completes its lock to the fallback reference. -/
  | pllRelock (pll : Fin 3)
  /-- CLOCK_SWITCH_DONE (R484): A glitch-free multiplexer enables its target clock after two target cycles. -/
  | clockSwitchDone (isl : Fin 145)
  /-- CLKSW_FORCED (R485): With the old clock stopped, the multiplexer forces its switch after 64 target cycles. -/
  | clkswForced (isl : Fin 145)
  /-- ICG_RAMP_STEP (R476): Each RAMP_STEP_NS an ICG moves its divider one step, releasing the island's reset at the end
  of a start ramp. -/
  | icgRampStep (isl : Fin 145)
  /-- TOW_ENABLE (R500): A write of TOW EN = 1 starts a Towpath controller and empties its receive queue. -/
  | towEnable (w : Fin 8) (b : Fin 2) (val : Word)
  /-- TOW_DISABLE (R500): A write of TOW EN = 0 flushes the transmit queue and stops reception. -/
  | towDisable (w : Fin 8) (b : Fin 2) (val : Word)
  /-- TX_GO (R499): TX_GO copies the frame in TX_BUF into the transmit queue or sets TX_ERR. -/
  | txGo (w : Fin 8) (b : Fin 2)
  /-- TX_FLUSH (R500): TX_FLUSH discards every queued frame that has not started. -/
  | txFlush (w : Fin 8) (b : Fin 2)
  /-- RX_POP (R498): RX_POP discards the head frame of the receive queue. -/
  | rxPop (w : Fin 8) (b : Fin 2)
  /-- TOW_FRAME_RECEIVE (R492): A received Towpath frame is checked, filtered and stored in the receive queue. -/
  | towFrameReceive (b : Fin 2) (f : TowWire)
  /-- TOW_TX_START (R493): After 96 idle bit times a queued frame starts transmission. -/
  | towTxStart (b : Fin 2) (defers : Nat)
  /-- TOW_COLLISION (R494): A mismatch while transmitting is a collision and a jam is sent. -/
  | towCollision (b : Fin 2) (bitTime : Nat)
  /-- TOW_JAM_END (R494): At the end of the jam the back-off is drawn, or the frame is discarded. -/
  | towJamEnd (b : Fin 2)
  /-- TOW_BACKOFF_END (R494): When the back-off wait ends the frame is sent again under R493. -/
  | towBackoffEnd (b : Fin 2)
  /-- TOW_TX_DONE (R499): A frame finishes transmission and TX_LAST records its outcome. -/
  | towTxDone (b : Fin 2)
  /-- TOW_BUS_FAIL (R496): A bus stuck for 1 ms raises TOW_BUS_FAIL. -/
  | towBusFail (b : Fin 2)
  /-- POWER_ON_RESET (R505): POR is released once every rail has stayed in range for 1 ms and boot starts. -/
  | powerOnReset (straps : Straps)
  /-- PIN_RESET (R505): RESET_N low for 1 µs applies a PIN reset and boot restarts when it rises. -/
  | pinReset (straps : Straps)
  /-- WARM_RST (R526): A write of GLB WARM_RST restarts the device from stage 5. -/
  | warmRst (w : Fin 8)
  /-- FUSE_LOAD_DONE (R511): Fuses are loaded and checked and the core PLL locks, or FUSE_ERR latches FATAL. -/
  | fuseLoadDone (fuses : Option Fuses)
  /-- BANK_CHECK_DONE (R514): A flash bank's check completes and the device boots it, tries the other or enters recovery. -/
  | bankCheckDone (readOk : Bool)
  /-- BOOT_RECORD_APPLIED (R509): The boot configuration record is applied and PCIe configuration becomes ready. -/
  | bootRecordApplied (record : BootRecord)
  /-- MEMORY_TRAINING_DONE (R509): The HBM3E stacks finish training and lanes are calibrated. -/
  | memoryTrainingDone (ok : BitVec 4)
  /-- SETTINGS_APPLIED (R523): The chosen settings copy is applied as P0 writes. -/
  | settingsApplied
  /-- SERVICE_REACHED (R509): The first KAT pass completes, SERVICE is set and post-boot writes and fuse blows run. -/
  | serviceReached (readOk : Bool)
  /-- FL_DATA_READ (R516): A read of FL_DATA returns 4 flash bytes and advances FL_ADDR. -/
  | flDataRead (r : Fin 8)
  /-- FL_DATA_WRITE (R516): A write of FL_DATA fills the page buffer and advances FL_ADDR. -/
  | flDataWrite (w : Fin 8) (val : Word)
  /-- ERASE (R516): FL_CMD ERASE erases the flash sector at FL_ADDR unless it is protected. -/
  | erase (w : Fin 8)
  /-- PROGRAM (R516): FL_CMD PROGRAM writes the page buffer to flash unless protected. -/
  | program (w : Fin 8)
  /-- DELTA_GO (R517): FL_CMD DELTA_GO applies the staged delta package to build the other bank. -/
  | deltaGo (w : Fin 8)
  /-- PREF_A (R512): FL_CMD PREF_A writes boot control to prefer bank A. -/
  | prefA (w : Fin 8)
  /-- PREF_B (R512): FL_CMD PREF_B writes boot control to prefer bank B. -/
  | prefB (w : Fin 8)
  /-- SAVE (R525): FL_CMD SAVE writes the start-up list and learned values into the other settings copy. -/
  | save (w : Fin 8)
  /-- FLASH_OP_DONE (R516): A running flash command completes and FL_BUSY clears. -/
  | flashOpDone (ok : Bool)
  /-- FW_DELTA_DONE (R517): DELTA_GO ends, writing boot control on success and raising FW_DELTA_DONE. -/
  | fwDeltaDone (readOk eraseOk programOk : Bool)
  /-- SETTINGS_MIGRATED (R524): A migrated settings copy reads back good and the migration commits. -/
  | settingsMigrated (ok : Bool)
  /-- SETTINGS_AUTOSAVE (R525): The device saves settings by itself after a retirement and every 24 h. -/
  | settingsAutosave
  /-- BLOW_DBG (R520): BLOW_DBG after the fuse key blows DBG_KILL for the next reset. -/
  | blowDbg (w : Fin 8)
  /-- FUSE_KEY (R520): A write of FUSE_KEY arms DBG_KILL blowing until the next P0 write. -/
  | fuseKey (w : Fin 8) (val : Word)
  /-- DOMAIN_GATE_REQUEST (R530): A write of REQ = 0 gates a power domain or is refused with PWR_GATE_REFUSED. -/
  | domainGateRequest (w : Fin 8) (d : Fin 184)
  /-- DOMAIN_WAKE_REQUEST (R530): A write of REQ = 1 to an OFF domain powers it, clears memories and ramps clocks. -/
  | domainWakeRequest (w : Fin 8) (d : Fin 184)
  /-- DOMAIN_OFF_REACHED (R530): A gating domain becomes OFF. -/
  | domainOffReached (d : Fin 184)
  /-- DOMAIN_ON_REACHED (R530): A waking domain's ISL reset is released and it becomes ON. -/
  | domainOnReached (d : Fin 184)
  /-- ISL_RST (R25): A write of PWR ISL_RST resets the islands of a domain, discarding in-flight crossings. -/
  | islRst (w : Fin 8) (d : Fin 184)
  /-- TAP_RESET (R534): TRST_N or five TMS-high cycles reset the TAP to IDCODE. -/
  | tapReset
  /-- IDCODE (R534): IDCODE selects the 32-bit identification register. -/
  | idcode
  /-- SAMPLE_PRELOAD (R534): SAMPLE/PRELOAD selects the boundary register without taking the pins. -/
  | samplePreload
  /-- EXTEST (R536): EXTEST raises SAFE_REQ and takes the pins once the safe state holds. -/
  | extest
  /-- CLAMP (R536): CLAMP raises SAFE_REQ and clamps the pins once the safe state holds. -/
  | clamp
  /-- HIGHZ (R536): HIGHZ raises SAFE_REQ and floats the pins once the safe state holds. -/
  | highz
  /-- BYPASS (R534): BYPASS selects the one-bit bypass register. -/
  | bypass
  /-- DBG_STATUS (R543): DBG_STATUS returns the fuse, boot stage, safe and fatal status. -/
  | dbgStatus
  /-- DBG_READ (R537): A DBG_ACCESS Update-DR with operation read reads the debug space. -/
  | dbgRead (addr : BitVec 16)
  /-- DBG_WRITE (R537): A DBG_ACCESS Update-DR with operation write writes the debug space. -/
  | dbgWrite (addr : BitVec 16) (val : Word)
  /-- ATTACH (R538): A debug write of ATTACH = 1 powers domain 183 and raises DBG_ATTACH. -/
  | attach
  /-- DETACH (R538): A debug write of ATTACH = 0 resumes every core and clears breakpoints. -/
  | detach
  /-- GO_RD (R539): GO_RD starts a debug master read of the interconnect. -/
  | goRd
  /-- GO_WR (R539): GO_WR starts a debug master write on the interconnect. -/
  | goWr
  /-- BUS_ACCESS_DONE (R539): A debug bus access completes with its response code. -/
  | busAccessDone (answer : BusAnswer)
  /-- HALT_REQ (R540): HALT_REQ halts a core at an instruction boundary. -/
  | haltReq (k : Fin 36)
  /-- RESUME (R541): RESUME lets a halted core run again. -/
  | resume (k : Fin 36)
  /-- STEP (R541): STEP executes one instruction of a halted core and halts again. -/
  | step (k : Fin 36)
  /-- REG_DATA (R541): A debug access of REG_DATA reads or writes a halted core's register. -/
  | regData (k : Fin 36) (hi : Bool) (write : Option Word)
  /-- IC_TIMEOUT (R548): A target not responding within TIMEOUT_US gets an error response. -/
  | icTimeout (target : Option (Fin 14)) (master : Fin 12) (request : Unanswered)
  /-- DEC_SEEN (R550): A W1C write of DEC_SEEN re-arms the first-decode-error capture. -/
  | decSeen (w : Fin 8)
  /-- AUDIO_PLANE_SOURCE_RETURN (R123): When the lost WCLK_IN or DARS source of the audio plane returns, the plane leaves
  holdover and slews back to its phase at no more than 1 ppm. -/
  | audioPlaneSourceReturn
  /-- RAIL_RETURN (R554): A rail that left its operating range comes back into range, and HOLDS of its RAIL_FAULT record
  becomes 0. -/
  | railReturn (rail : Fin 13)
  /-- SAFE_REQ_N_RELEASE (R467): SAFE_REQ_N rising clears HOLDS of the SAFE_REQ record, which makes the record
  acknowledgeable and stops a re-entry after reset. -/
  | safeReqNRelease
  /-- MSG_CRC_ERR (R443): A Causeway message received with a bad CRC or an unknown TYPE is discarded and counted in
  MSG_CRC_ERR. -/
  | msgCrcErr
  /-- CLAIM_COMPLETE (R45): A PCB_CLAIM request being processed completes within 2 µs, sets RESULT and clears BUSY, and
  the next queued request starts. -/
  | claimComplete
  /-- DBG_OPERATION_DONE (R537): A debug-space operation started by Update-DR completes within 1 µs, after which
  Capture-DR loads OK, ERROR or LOCKED in place of BUSY. -/
  | dbgOperationDone
  /-- MSIX_TABLE_WRITE (R92): A host write to the MSI-X table or its vector mask in BAR4 masks or unmasks a vector, and
  unmasking sends a pending message under the PCIe rules. -/
  | msixTableWrite (p : Fin 8) (dword : Fin 256) (val : Word)
  deriving DecidableEq, Repr

end Sys2Proof
end

