-- ==== Sys2Proof/Decode.lean ====
section
/-! DEFINITION. Decoding of words into commands. The table gives its rows no bits: the commands of the block reach it
as register accesses, descriptors, frames and pins, and no row is spelled by a word. -/

namespace Sys2Proof

/-- The command that a word spells by the bits of the table: none, for the table gives no row any bits. -/
def decodeTableWord (_nbits _w : Nat) : Option Instr := none

end Sys2Proof
end

