-- ==== Sys2Proof/Config.lean ====
section
/-! DEFINITION. What the spec leaves open, as constants without a body: no proof can see their values. Each is
applied to the operands it depends on or to the counter `free` of State. -/

namespace Sys2Proof.Config

/-- Frequency correction in ppt that the loop comes to at a 1 ms tick, from its bandwidth in mHz and the error of its
reference in ns (ppb for a 10 MHz one): the spec gives the bandwidth of the loop and no filter (R109, R112). Log 4. -/
opaque loopFreq : (mHz : Nat) → (error : Int) → (free : Nat) → Int

/-- A PTP instance sends a Delay_Req upon an event message of its master: the spec names the mechanism of IEEE 1588 and
gives no interval (R105). Log 80. -/
opaque sendsDelayReq : Nat → Bool

/-- Quarter-page that the scrubber of a stack reads at a grid time: the spec gives no course within a pass (R162, R168).
Modulo the quarter-pages of a stack. Log 81. -/
opaque scrubPos : (stack grid : Nat) → Nat

/-- A sample of a graphic or a hold picture of whose pages a word was lost, by its number and its value before (R160).
Log 81. -/
opaque lostSample : (free i old : Nat) → Nat

/-- DATA of REF_GLITCH, whose two values have no bits given (R125). Log 14. -/
opaque glitchData : (ref us : Nat) → Nat

/-- The grid time at which the spread profiles of the islands begin, in ns (R475). Log 5. -/
opaque sscStart : Nat

/-- Where within its limits ROSC runs while it feeds CTRL (R95, R477): it counts modulo their width in kHz. Log 5. -/
opaque ctrlRate : Nat → Nat

/-- The pixel of the built-in 8 x 12 font at column x, row y, for a character (R209). Log 6. -/
opaque fontPixel : (char x y : Nat) → Bool

/-- Coefficient of a tap of the ASRC filter in one of its phases, and the bits, less 1, that its sums lose: the spec gives
the numbers of taps and phases and the response, and no coefficients (R363). Log 8. -/
opaque asrcCoef : (phase tap : Nat) → Int
opaque asrcShift : Nat

/-- A ratio that the ASRC estimates, in units of 2^-28, which the spec does not give (R363, R446): the value modulo 2^32.
Log 8. -/
opaque asrcRatio : Nat → Nat

/-- Ten-bit words of ancillary data that fit, beside the generated packets, in a line of a format, in horizontal or in
vertical blanking: the spec gives no total line length (R296). Log 9. -/
opaque lineRoom : (fmt line : Nat) → (hanc : Bool) → Nat

/-- The four bytes of the payload identifier that a TX lane sends, byte 1 in bits 7 .. 0, for a format, a link type and a
link number: the spec gives what they describe and not their codes (R293). Modulo 2^32. Log 83. -/
opaque payloadWord : (fmt linkType link : Nat) → Nat

/-- The CRC words of a line, by its number and the samples it carries: the spec gives no polynomial (R293). Log 83. -/
opaque lineCrc : (number : Nat) → (samples : List Int) → Nat

/-- The line of a field that carries its EDH packet (R293). Log 83. -/
opaque edhLine : (raster : Nat) → (field2 : Bool) → Nat

/-- Byte i of an EDH packet (R293). Log 83. -/
opaque edhByte : (free i : Nat) → Nat

/-- The marker bit of an RTP packet sent, which the spec does not give (R323). Log 13. -/
opaque rtpMarker : Nat → Bool

/-- Byte i of an ST 2022-6 payload sent: the HBRMT header and the serial signal, whose bits the spec does not give in
full (R318, R324). Log 13. -/
opaque hbrmtByte : (free i : Nat) → BitVec 8

/-- Bit errors that a pattern checker finds in one nanosecond of a signal from outside (R344). Log 86. -/
opaque prbsErrors : (free lane : Nat) → Nat

/-- DATA of an event record whose DATA the spec does not give (R89): the value modulo 2^64. Log 14. -/
opaque eventData : (event free : Nat) → Nat

/-- Size in bytes of a STATS_SNAPSHOT record of set 1, 2, 5 or 7, whose layouts no chapter gives (R86). Log 16. -/
opaque statsSize : (set : Nat) → Nat

/-- Byte i of such a record. Log 16. -/
opaque statsByte : (set free i : Nat) → BitVec 8

/-- The counters of a register are among those that CLEAR clears with set 1, 2 or 5, by its offset in its block (R86).
Log 16. -/
opaque statsClears : (set off : Nat) → Bool

/-- Byte `offset` of a settings copy in the flash, of its contents (R522): the spec does not say where the fields of a copy
lie. Log 17. -/
opaque settingsByte : (contents : List Nat) → (offset : Nat) → BitVec 8

/-- Granting a request now would close a cycle of queues (R547): the spec does not describe the queues inside the targets.
Log 69. -/
opaque closesCycle : (master target line free : Nat) → Bool

/-- A register of a conductor core, whose program the spec does not give, as a halt or a step leaves it (R551): the value
modulo 2^32. Log 33. -/
opaque conductorReg : Nat → Nat

/-- The levels of the balls that a scan of the boundary register captures, and the bits that it shifts in, cell i in bit i
(R535): the values modulo 2^176. Log 91. -/
opaque ballLevels : Nat → Nat
opaque shiftedIn : Nat → Nat

/-- Read data that a scan captures after a debug-space operation that reads nothing (R537): the value modulo 2^32.
Log 34. -/
opaque scanData : Nat → Nat

end Sys2Proof.Config
end

