-- ==== Sys2Proof/Machine/Bits.lean ====
section
/-! DEFINITION. Bit-field, sign and byte-order helpers that the whole machine uses. -/

namespace Sys2Proof.Machine

/-- The field of `w` bits at bit `lo` of a number. -/
def bitField (v lo w : Nat) : Nat := v / 2 ^ lo % 2 ^ w

/-- Bit `i` of a number. -/
def bitAt (v i : Nat) : Bool := v / 2 ^ i % 2 == 1

/-- A Bool as the value of a one-bit field. -/
def bit (b : Bool) : Nat := if b then 1 else 0

/-- A number of `w` bits read as two's complement. -/
def signed (w v : Nat) : Int :=
  let v := v % 2 ^ w
  if v < 2 ^ (w - 1) then (v : Int) else (v : Int) - 2 ^ w

/-- An integer as a two's complement number of `w` bits, wrapping. -/
def unsignedOf (w : Nat) (x : Int) : Nat := (x % (2 ^ w : Int)).toNat

/-- An integer held within the signed range of `w` bits. -/
def satSigned (w : Nat) (x : Int) : Int :=
  max (-(2 ^ (w - 1) : Int)) (min (2 ^ (w - 1) - 1 : Int) x)

/-- The number of ones in the low `n` bits. -/
def bitCount : Nat → Nat → Nat
  | 0, _ => 0
  | n + 1, v => v % 2 + bitCount n (v / 2)

/-- Largest stored value `m`: a value above it is stored as `m`. -/
def capAt (m v : Nat) : Nat := if m < v then m else v

/-- Smallest stored value `m`: a value below it is stored as `m`. -/
def raiseTo (m v : Nat) : Nat := if v < m then m else v

/-- A value above `m` is stored as 0. -/
def zeroAbove (m v : Nat) : Nat := if m < v then 0 else v

/-- A signed value of `w` bits whose magnitude is above `m` is stored as 0. -/
def zeroIfMagOver (w m v : Nat) : Nat := if m < (signed w v).natAbs then 0 else v

/-- One more, staying at the largest value of `w` bits. -/
def satInc (w v : Nat) : Nat := if v + 1 < 2 ^ w then v + 1 else 2 ^ w - 1

/-- A number held at the largest value of `w` bits. -/
def saturate (w v : Nat) : Nat := if v < 2 ^ w then v else 2 ^ w - 1

/-- `ceil (a / b)`. -/
def ceilDiv (a b : Nat) : Nat := (a + b - 1) / b

/-- Bytes, first byte least significant, as a number. -/
def leNat : List Byte → Nat
  | [] => 0
  | b :: bs => b.toNat + 256 * leNat bs

/-- Bytes, first byte most significant, as a number. -/
def beNat (bs : List Byte) : Nat := bs.foldl (fun acc b => acc * 256 + b.toNat) 0

/-- A number as `n` bytes, least significant first. -/
def leBytes : Nat → Nat → List Byte
  | 0, _ => []
  | n + 1, v => BitVec.ofNat 8 v :: leBytes n (v / 256)

/-- A number as `n` bytes, most significant first. -/
def beBytes (n v : Nat) : List Byte := (leBytes n v).reverse

/-- The list of `n` bytes at place `i`, short where the list ends. -/
def slice {α : Type} (i n : Nat) (l : List α) : List α := (l.drop i).take n

/-- Groups of four bytes as words, first byte least significant; a tail of fewer bytes is dropped. -/
def leWords : List Byte → List Nat
  | a :: b :: c :: d :: rest => leNat [a, b, c, d] :: leWords rest
  | _ => []

/-- The list with element `i` replaced. -/
def setAt {α : Type} (l : List α) (i : Nat) (v : α) : List α := l.set i v

/-! ### CRC-32 of IEEE 802.3 -/

def crcShift : Nat → Nat → Nat
  | 0, c => c
  | n + 1, c => crcShift n (if c % 2 = 1 then (c / 2) ^^^ 0xEDB88320 else c / 2)

/-- The CRC-32 of bytes, as a number whose least significant byte is sent first. -/
def crc32 (bs : List Nat) : Nat := (bs.foldl (fun c b => crcShift 8 (c ^^^ b % 256)) 0xFFFFFFFF) ^^^ 0xFFFFFFFF

end Sys2Proof.Machine
end

