-- ==== Sys2Proof/Machine/Events.lean ====
section
/-! DEFINITION. The event catalogue (R470): the number of each event source and its floor class. -/

namespace Sys2Proof.Machine.Ev

def SAFE_ENTER : Nat := 0x000
def SAFE_REQ : Nat := 0x001
def CTRL_UE : Nat := 0x002
def FUSE_ERR : Nat := 0x003
def RAIL_FAULT : Nat := 0x004
def DIE_HOT : Nat := 0x005
def DIE_CRIT : Nat := 0x006
def SRAM_CE : Nat := 0x007
def CLK_FAULT : Nat := 0x010
def CLKSW_FORCED : Nat := 0x011
def REFCLK_LOST : Nat := 0x012
def BOOT_FALLBACK : Nat := 0x020
def SETTINGS_MIGRATED : Nat := 0x021
def FW_DELTA_DONE : Nat := 0x022
def PWR_GATE_REFUSED : Nat := 0x023
def PART_LAPSED : Nat := 0x040
def OWNERSHIP_REVOKED : Nat := 0x041
def DOORBELL_BAD : Nat := 0x042
def ENGINE_STUCK : Nat := 0x043
def HOST_FAULT : Nat := 0x044
def PCIE_LINK_DOWN : Nat := 0x045
def REF_GLITCH : Nat := 0x080
def REF_LOST : Nat := 0x081
def REF_SWITCH : Nat := 0x082
def LOCK_ACQUIRED : Nat := 0x083
def HOLDOVER_ENTER : Nat := 0x084
def HOLDOVER_OOS : Nat := 0x085
def TIME_SET : Nat := 0x086
def TIME_STEP_REFUSED : Nat := 0x087
def TIME_STEPPED : Nat := 0x088
def WCLK_LOST : Nat := 0x089
def SLOT_DROP : Nat := 0x0C0
def CHASE_DEGRADED : Nat := 0x0C1
def MEM_UE_SLOT : Nat := 0x0C2
def MEM_UE_STRUCT : Nat := 0x0C3
def PAGE_RETIRED : Nat := 0x0C4
def HBM_HOT : Nat := 0x0C5
def GROUP_APPLIED : Nat := 0x100
def GROUP_DEFERRED : Nat := 0x101
def GROUP_REFUSED : Nat := 0x102
def FRESH_ACT : Nat := 0x140
def FRESH_CLEAR : Nat := 0x141
def FRESH_DAMAGED : Nat := 0x142
def SDI_LOSS : Nat := 0x180
def SDI_ACCEPT : Nat := 0x181
def SDI_WRONG_FMT : Nat := 0x182
def QUAD_MEMBER : Nat := 0x183
def SDI_ERRORS : Nat := 0x184
def SDITX_IRREG : Nat := 0x185
def PORT_DOWN : Nat := 0x1C0
def PORT_UP : Nat := 0x1C1
def FLOW_LEG_DOWN : Nat := 0x1C2
def FLOW_LEG_UP : Nat := 0x1C3
def NET_LOSS : Nat := 0x1C4
def HP_RX_OVF : Nat := 0x1C5
def FEC_UNCORR : Nat := 0x1C6
def LANE_PLL_UNLOCK : Nat := 0x200
def CW_LANE_DOWN : Nat := 0x201
def CW_DESKEW_FAIL : Nat := 0x202
def CW_BIP : Nat := 0x203
def AUD_UNDERRUN : Nat := 0x240
def AUD_SLIP : Nat := 0x241
def ASRC_AUTO : Nat := 0x242
def ASRC_SHORT : Nat := 0x243
def AUD_RATE : Nat := 0x244
def EMB_TRUNC : Nat := 0x245
def AES_LOSS : Nat := 0x280
def AES_LOCK : Nat := 0x281
def AES_RATE : Nat := 0x282
def AES_NONAUDIO : Nat := 0x283
def AES_CS_CRC : Nat := 0x284
def ANCQ_HIGH : Nat := 0x2C0
def ANCQ_LOW : Nat := 0x2C1
def ANCQ_DROP : Nat := 0x2C2
def ANCQ_MARK_LOST : Nat := 0x2C3
def PROBE_FAULT : Nat := 0x300
def PROBE_OVERRUN : Nat := 0x301
def PROBE_SIGNAL : Nat := 0x302
def PAIR_ROLE : Nat := 0x340
def TAKEOVER : Nat := 0x341
def PEER_LOST : Nat := 0x342
def PAIR_SPLIT : Nat := 0x343
def ROLE_STRAP_CONFLICT : Nat := 0x344
def DIGEST_MISMATCH : Nat := 0x345
def PAIR_DIVERGED : Nat := 0x346
def SELF_TEST_FAIL : Nat := 0x347
def HANDOVER_DONE : Nat := 0x348
def HANDOVER_FAILED : Nat := 0x349
def TOW_CNT_HALF : Nat := 0x380
def TOW_CNT_WRAP : Nat := 0x381
def TOW_BUS_FAIL : Nat := 0x382
def IC_DECODE : Nat := 0x3C0
def IC_TIMEOUT : Nat := 0x3C1
def DBG_ATTACH : Nat := 0x3C2

/-- The catalogue: each event source with its floor class (0 NOTE .. 4 FATAL). -/
def catalogue : List (Nat × Nat) :=
  [(SAFE_ENTER, 0), (SAFE_REQ, 3), (CTRL_UE, 3), (FUSE_ERR, 4), (RAIL_FAULT, 3), (DIE_HOT, 2), (DIE_CRIT, 3), (SRAM_CE, 0)] ++
  [(CLK_FAULT, 2), (CLKSW_FORCED, 0), (REFCLK_LOST, 1), (BOOT_FALLBACK, 1), (SETTINGS_MIGRATED, 0), (FW_DELTA_DONE, 0), (PWR_GATE_REFUSED, 0), (PART_LAPSED, 1)] ++
  [(OWNERSHIP_REVOKED, 1), (DOORBELL_BAD, 0), (ENGINE_STUCK, 2), (HOST_FAULT, 1), (PCIE_LINK_DOWN, 1), (REF_GLITCH, 0), (REF_LOST, 0), (REF_SWITCH, 0)] ++
  [(LOCK_ACQUIRED, 0), (HOLDOVER_ENTER, 1), (HOLDOVER_OOS, 2), (TIME_SET, 0), (TIME_STEP_REFUSED, 1), (TIME_STEPPED, 0), (WCLK_LOST, 1), (SLOT_DROP, 0)] ++
  [(CHASE_DEGRADED, 1), (MEM_UE_SLOT, 2), (MEM_UE_STRUCT, 3), (PAGE_RETIRED, 0), (HBM_HOT, 1), (GROUP_APPLIED, 0), (GROUP_DEFERRED, 1), (GROUP_REFUSED, 1)] ++
  [(FRESH_ACT, 1), (FRESH_CLEAR, 0), (FRESH_DAMAGED, 0), (SDI_LOSS, 1), (SDI_ACCEPT, 0), (SDI_WRONG_FMT, 1), (QUAD_MEMBER, 1), (SDI_ERRORS, 0)] ++
  [(SDITX_IRREG, 0), (PORT_DOWN, 1), (PORT_UP, 0), (FLOW_LEG_DOWN, 1), (FLOW_LEG_UP, 0), (NET_LOSS, 1), (HP_RX_OVF, 0), (FEC_UNCORR, 1)] ++
  [(LANE_PLL_UNLOCK, 2), (CW_LANE_DOWN, 1), (CW_DESKEW_FAIL, 1), (CW_BIP, 0), (AUD_UNDERRUN, 1), (AUD_SLIP, 0), (ASRC_AUTO, 0), (ASRC_SHORT, 1)] ++
  [(AUD_RATE, 1), (EMB_TRUNC, 0), (AES_LOSS, 1), (AES_LOCK, 0), (AES_RATE, 1), (AES_NONAUDIO, 1), (AES_CS_CRC, 0), (ANCQ_HIGH, 0)] ++
  [(ANCQ_LOW, 0), (ANCQ_DROP, 1), (ANCQ_MARK_LOST, 0), (PROBE_FAULT, 1), (PROBE_OVERRUN, 0), (PROBE_SIGNAL, 0), (PAIR_ROLE, 0), (TAKEOVER, 1)] ++
  [(PEER_LOST, 1), (PAIR_SPLIT, 2), (ROLE_STRAP_CONFLICT, 2), (DIGEST_MISMATCH, 1), (PAIR_DIVERGED, 2), (SELF_TEST_FAIL, 2), (HANDOVER_DONE, 0), (HANDOVER_FAILED, 1)] ++
  [(TOW_CNT_HALF, 0), (TOW_CNT_WRAP, 0), (TOW_BUS_FAIL, 1), (IC_DECODE, 0), (IC_TIMEOUT, 2), (DBG_ATTACH, 0)]

end Sys2Proof.Machine.Ev

namespace Sys2Proof.Machine

/-- The floor class of an event source; a reserved source reads zero (R470). -/
def eventFloor (e : Nat) : Nat := ((Ev.catalogue.find? (fun x => x.1 == e)).map (·.2)).getD 0

/-- Whether the catalogue lists the source. -/
def eventListed (e : Nat) : Bool := Ev.catalogue.any (fun x => x.1 == e)

/-- What a write of FLT_SEV[e].CLASS is stored as (R458); a source that is not listed has no entry (R470, R11). -/
def storedClass (e v : Nat) : Nat :=
  let f := eventFloor e
  if e = Ev.SAFE_ENTER ∨ !eventListed e then 0
  else if 5 ≤ v then f
  else if v < f then f
  else if v = 4 then (if f = 4 then 4 else 3)
  else v

end Sys2Proof.Machine
end

