-- ==== Sys2Proof/Machine/RegField.lean ====
section
/-! DEFINITION. What a row of a register field table says: where the field stands, its type (R8), its Keep class
(R9), its reset value, and what a host write of it is stored as. -/

namespace Sys2Proof.Machine

/-- Field types of R8. -/
inductive FieldType where
  | rw | ro | w1c | w1s | wo | rwl
  deriving DecidableEq, Repr

/-- Reset classes of R9, strongest first. -/
inductive ResetClass where
  | por | pin | warm | part | isl
  deriving DecidableEq, Repr

/-- The strength of a reset class: a stronger class clears what a weaker one clears (R9). -/
def ResetClass.rank : ResetClass → Nat
  | .por => 4 | .pin => 3 | .warm => 2 | .part => 1 | .isl => 0

/-- The Who column of R53: the partition itself and P0, P0 only, or P0 with the deputy in PCB[0]. -/
inductive Who where
  | own | sup | deputy
  deriving DecidableEq, Repr

/-- One row of a register field table. `base` is the byte offset of the instance (0, 0); instance (i, j) stands
`i * s1 + j * s2` bytes above it. -/
structure Field where
  base : Nat
  s1 : Nat := 0
  n1 : Nat := 1
  s2 : Nat := 0
  n2 : Nat := 1
  lo : Nat
  w : Nat
  ty : FieldType
  keep : ResetClass := .warm
  who : Who := .own
  reset : Nat → Nat → Nat := fun _ _ => 0
  norm : Nat → Nat → Nat := fun _ v => v
  only : Nat → Bool := fun _ => true

/-- The byte offset of instance (i, j). -/
def Field.off (f : Field) (i j : Nat) : Nat := f.base + i * f.s1 + j * f.s2

/-- The key of instance (i, j) in the table of register fields: the bit number, within the register space, of the
field's lowest bit. -/
def Field.key (f : Field) (i j : Nat) : Nat := 8 * f.off i j + f.lo

/-- The instance of the field that the 32-bit register at a byte offset holds, if it holds one. -/
def Field.at? (f : Field) (off : Nat) : Option (Nat × Nat) :=
  if off < f.base then none
  else
    let r := off - f.base
    let i := r / f.s1
    let r := r % f.s1
    let j := r / f.s2
    if r % f.s2 = 0 ∧ i < f.n1 ∧ j < f.n2 ∧ f.only i = true then some (i, j) else none

/-- QUAL of a TM_REF block at reset (R104). -/
def refQualReset (r : Nat) : Nat := if 3 ≤ r ∧ r ≤ 6 then 100 else if 7 ≤ r ∧ r ≤ 9 then 150 else 0

/-- The nominal DIV of an island clock generator, by island number (R472, R474); 0 for an island without one. -/
def icgNominal (i : Nat) : Nat :=
  if i = 7 ∨ (92 ≤ i ∧ i ≤ 135) then 60
  else if i = 6 ∨ i = 137 then 80
  else if i = 136 ∨ (139 ≤ i ∧ i ≤ 142) then 96
  else 0

/-- Power domains that can ever be gated (R529). -/
def domainGateable (d : Nat) : Bool :=
  !(d ≤ 2 || (6 ≤ d && d ≤ 11) || (92 ≤ d && d ≤ 123) || d == 136 || d == 137)

/-- The QoS of an interconnect master at reset (R544). -/
def masterQos (m : Nat) : Nat :=
  if m ≤ 3 then 8 else if m ≤ 7 then 10 else if m = 8 then 12 else if m = 9 then 6 else if m = 10 then 14 else 2

/-- The basic scaler coefficients of phase t (R229), as 16-bit two's complement: 0 gives c_-1, 1 gives c_0,
2 gives c_1, 3 gives c_2. -/
def basicTap (t : Int) : Nat → Int
  | 0 => (-t * t * t + 128 * t * t - 4096 * t + 1024) / 2048
  | 2 => (-3 * t * t * t + 256 * t * t + 4096 * t + 1024) / 2048
  | 3 => (t * t * t - 64 * t * t + 1024) / 2048
  | _ => 256 - (-t * t * t + 128 * t * t - 4096 * t + 1024) / 2048
      - (-3 * t * t * t + 256 * t * t + 4096 * t + 1024) / 2048 - (t * t * t - 64 * t * t + 1024) / 2048

/-- The reset value of a CMP_TAPS field (R229). -/
def tapReset (t c : Nat) : Nat := unsignedOf 16 (basicTap t c)

/-- What a write of PRBS_GEN or PRBS_CHK is stored as on lane i (R344): codes 4 and 5 only on the media lanes,
which can carry PAM4. -/
def storedPrbs (i v : Nat) : Nat := if 6 ≤ v then 0 else if 4 ≤ v ∧ ¬(512 ≤ i ∧ i < 576) then 0 else v

end Sys2Proof.Machine
end

