-- ==== Sys2Proof/Machine/StateTypes.lean ====
section
/-! DEFINITION. What the block holds beside its registers, for hosts and rings, timing, takes, the frame store, the
freshness guard and the fault records (02 .. 07, 18). Plain data. -/

namespace Sys2Proof.Machine

/-- A 64b/66b block as a Causeway lane sends it: sync header 0b01 of data or 0b10 of control, and its payload on the line
(R347). -/
structure CwBlock where
  header : Nat
  payload : Nat
  deriving DecidableEq, Repr

/-- A line of an SDI signal as it is sent (R293): its number and the line CRC in HD and above, the last words of EAV and
SAV, the row of the lane's picture that it carries, none in blanking, and its ancillary packets. -/
structure TxLine where
  number : Option Nat
  eav : Nat
  sav : Nat
  crc : Option Nat
  row : Option Nat
  anc : List AncPacket
  deriving DecidableEq, Repr

/-- A frame of an SDI signal as one lane sends it: its link type, its lane rate as RATE_DET codes it, what its payload
identifier declares, its part of the picture and its lines. `tail` is by how many ns the last line ends late, or early
where it is negative (R295). -/
structure TxSignal where
  linkType : Nat
  rate : Nat
  payload : PayloadId
  pic : Pic
  lines : List TxLine
  tail : Int
  deriving DecidableEq, Repr

/-- An embedded audio packet (R371): the samples of one tick in an audio group 1 .. 8, or the control packet of a group
at 48 kHz synchronous, with its audio frame number. -/
inductive EmbPacket where
  | data (group tick : Nat) (samples : List Int)
  | control (group frame : Nat)
  deriving DecidableEq, Repr

/-- What leaves the block: a write to host memory, an interrupt, the answer of a read, a frame on a pin. -/
inductive Output where
  /-- A completion record of ring k of partition p: its host address and its eight words (R67, R87). -/
  | completion (p k addr : Nat) (words : List Nat)
  /-- An event record of event ring e of partition p (R67, R89). -/
  | event (p e addr : Nat) (words : List Nat)
  /-- Data written to the memory of the host of partition p (R66). -/
  | hostData (p addr : Nat) (bytes : List Byte)
  /-- An MSI-X message of vector v of partition p (R92). -/
  | msix (p v addr data : Nat)
  /-- The answer of a register or doorbell read: its completion status (0 successful, 1 Unsupported Request,
  2 Completer Abort) and its value. -/
  | readAnswer (p status value : Nat)
  /-- A message on the Causeway: type, FLAGS, MSEQ and payload words (R443). -/
  | causeway (ty flags mseq : Nat) (words : List Nat)
  /-- The picture that destination d sends in a frame: format, full components (R227). -/
  | picture (d frame : Nat) (pic : Pic)
  /-- An ancillary packet on link 1 of destination d (R296): line, horizontal blanking or not, ten-bit words from DID
  to the checksum. -/
  | ancTx (d frame line : Nat) (hanc : Bool) (words : List Nat)
  /-- An embedded audio packet in the horizontal blanking of a line of link number `link` + 1 of destination d (R371). -/
  | embedded (d link line : Nat) (p : EmbPacket)
  /-- A frame of destination d as TX lane l sends it (R292, R293, R295). -/
  | sdi (l d frame : Nat) (signal : TxSignal)
  /-- A frame of AES3 output o (R383): block start, then for each subframe the 24-bit sample, V, U and C. -/
  | aes (o tick : Nat) (z : Bool) (a b : List Nat)
  /-- A frame sent by media port m (R305, R323). -/
  | frame (m : Nat) (bytes : List Byte)
  /-- A Delay_Req of the PTP instance of reference r on media port m: its domain, and whether it goes by unicast (R105). -/
  | delayReq (m r domain : Nat) (unicast : Bool)
  /-- The columns that the Causeway lanes send since the last marker column, and the marker column with its count (R347,
  R349). -/
  | columns (count : Nat) (cols : List (List CwBlock))
  /-- What bus b of the Towpath carries from its driver in one transmission: the level of each half bit time (R489, R494). -/
  | towpath (b : Nat) (halves : List Bool)
  /-- A frame that SDI RX lane l receives, sent out of the TX ball of its pair (R345). -/
  | farEnd (l : Nat) (m : SdiMember)
  /-- What an instruction register scan of the TAP captures (R534). -/
  | irScan (value : Nat)
  /-- What a data register scan of the TAP captures: its width and its value (R534, R537, R543). -/
  | scan (width value : Nat)
  deriving DecidableEq, Repr

/-! ### Hosts, partitions and rings (02, 03) -/

/-- A descriptor in the block: fetched, waiting or in process (R65, R93). -/
structure Request where
  part : Nat
  ring : Nat
  /-- Ring index of the descriptor. -/
  index : Nat
  words : Descriptor
  /-- Bytes of its host buffer, once read (R66). -/
  buf : List Byte
  deriving DecidableEq, Repr

/-- Where the oldest fetched descriptor of a ring is. -/
inductive ReqPlace where
  /-- In the walker, its host buffer not yet read. -/
  | atRing
  /-- Its buffer, if it has one, is read: it requests an engine. -/
  | ready
  /-- Held at its ring because no engine and no Layby could take it (R93). -/
  | held
  /-- In the Layby of an engine. -/
  | layby
  /-- An engine processes it. -/
  | engine
  /-- A FENCE or THUMB_CAPTURE that waits (R83, R85). -/
  | parked
  /-- Processed while the partition is LAPSED: its record is held (R50). -/
  | recordHeld
  deriving DecidableEq, Repr

/-- A completion record (R87). -/
structure Completion where
  tag : Nat
  opcode : Nat
  status : Nat
  index : Nat
  group : Nat
  value0 : Nat
  value1 : Nat
  detail : Nat
  irq : Bool
  deriving DecidableEq, Repr

/-- What a waiting FENCE waits for (R83): for each masked ring the index its tail had when the FENCE began, the
commit sequence numbers it waits for, and its limit. -/
structure FenceWait where
  rings : List (Nat × Nat)
  takes : List Nat
  since : Nat
  limitUs : Nat
  deriving DecidableEq, Repr

/-- A waiting THUMB_CAPTURE (R85). -/
structure ThumbWait where
  src : Nat
  level : Nat
  left : Nat
  addr : Nat
  firstSeq : Nat
  bytes : Nat
  /-- SEQ of the last slot copied or, at the start, of the newest slot then closed. -/
  lastSeq : Nat
  deriving DecidableEq, Repr

/-- What a command ring and its completion ring hold beside their registers. -/
structure RingRun where
  /-- Last accepted value of the command ring tail doorbell. -/
  tail : Nat := 0
  /-- Last accepted value of the completion ring head doorbell. -/
  cqHead : Nat := 0
  /-- PHASE of the next completion record (R67). -/
  phase : Bool := true
  /-- Fetched descriptors not yet completed, oldest first. -/
  fetched : List Request := []
  place : ReqPlace := .atRing
  /-- The ring was disabled while a descriptor was in process (R59): its record is still written. -/
  draining : Bool := false
  /-- A read of descriptors failed: the walker fetches no more until HOST_FAULT is cleared (R66). -/
  stopped : Bool := false
  fence : Option FenceWait := none
  thumb : Option ThumbWait := none
  heldRecord : Option Completion := none
  /-- Data written to host memory that waits with the record, oldest first: host address and bytes (R50, R66). -/
  heldData : List (Nat × List Byte) := []
  /-- Records written and not yet signalled (R92), and the grid time of the oldest. -/
  unsignalled : Nat := 0
  oldest : Nat := 0
  /-- Descriptors completed or discarded since the ring was enabled, counted without wrapping (for FENCE). -/
  passed : Nat := 0
  /-- HEAD and CQ_TAIL as they were at the start of the cycle in which each last moved, and that cycle (R61). -/
  headWas : Nat := 0
  headMoved : Nat := 0
  cqTailWas : Nat := 0
  cqTailMoved : Nat := 0
  deriving DecidableEq, Repr

/-- What an event ring holds beside its registers. -/
structure EvtRingRun where
  head : Nat := 0
  /-- Its tail as it was at the start of the cycle in which it last moved, and that cycle (R61). -/
  tailWas : Nat := 0
  tailMoved : Nat := 0
  phase : Bool := true
  unsignalled : Nat := 0
  oldest : Nat := 0
  deriving DecidableEq, Repr

/-- What a partition holds beside its registers. -/
structure PartRun where
  /-- SEQ of the last event record raised for the partition (R89). -/
  evtSeq : Nat := 0
  /-- Grid time of the last lease renewal, or of the last reset (R49). -/
  leaseFrom : Nat := 0
  /-- Grid time of the last write that changed LEASE_MS: only a later tick tests the lease against it (R49). -/
  leaseSet : Nat := 0
  /-- Grid time of the tick at which the partition last lapsed (R49). -/
  lapsedAt : Nat := 0
  /-- Partition that revokes this one, while a revocation is in progress (R51). -/
  revoker : Option Nat := none
  /-- The revocation ends with the partition OFF (R55). -/
  thenOff : Bool := false
  /-- Pending bits of the MSI-X vectors (R92). -/
  pba : Nat := 0
  /-- ERR_OFFSET and ERR_BAR hold the first error logged since bits [3:0] of PCB_ACCERR were last all clear (R37). -/
  errHeld : Bool := false
  deriving DecidableEq, Repr

/-- A claim request waiting or being processed (R45). -/
structure ClaimReq where
  part : Nat
  ori : Nat
  act : Nat
  target : Nat
  deriving DecidableEq, Repr

/-- A command engine (R93 .. R98). -/
structure Engine where
  cur : Option Request := none
  /-- Grid time of the grant. -/
  grantedAt : Nat := 0
  /-- ENGINE_STUCK has been raised for the descriptor held. -/
  stuck : Bool := false
  /-- Oldest entry first. -/
  layby : List Request := []
  lfsr : Word := 1
  deriving DecidableEq, Repr

structure HostState where
  /-- Number of the cycle in progress, from 1: one passes with each nanosecond of the TIME clock (R61, log 71). -/
  cycle : Nat := 1
  /-- Part of a CTRL cycle that has passed, in millionths (R95). -/
  ctrlPhase : Nat := 0
  parts : Tab PartRun := []
  rings : Tab RingRun := []
  evtRings : Tab EvtRingRun := []
  claims : List ClaimReq := []
  /-- Requests held because every engine is frozen or every Layby full, oldest first (R93). -/
  held : List Request := []
  engines : Tab Engine := []
  /-- MSI-X tables: vector v of partition p, double word i at key 256 p + 4 v + i. -/
  msix : Tab Nat := []
  deriving DecidableEq, Repr

/-! ### Timing core (04) -/

/-- What the timing core keeps of a reference beside its registers. -/
structure RefRun where
  /-- Grid time since which a signal is present without a break; once QUALIFIED, since which it is that. -/
  validFrom : Nat := 0
  /-- Grid time at which the loss of the selected reference was detected. -/
  lostAt : Option Nat := none
  /-- That loss is a PRIO written to 0: it has no hold-off (R108). -/
  noHold : Bool := false
  /-- Grid time since which the reference has ranked above the selected one (R108). -/
  aboveFrom : Option Nat := none
  /-- A reference that carries the time of day: its time less the tick grid, as last measured. -/
  lead : Int := 0
  /-- A reference that carries a phase: grid time of its latest edge (R104). -/
  edge : Option Int := none
  quality : Nat := 0
  freqPpb : Int := 0
  /-- BW in force, as the last 1 ms tick took it over (R112). -/
  bw : Nat := 0
  deriving DecidableEq, Repr

/-- What a timing plane keeps beside its registers. -/
structure PlaneRun where
  /-- k + 1 of the last frame started; 0 before the first and after a step. -/
  lastK : Nat := 0
  /-- k + 1 of the frame in progress; 0 before the first. -/
  frame : Nat := 0
  /-- Frame start of the frame in progress, on the timeline in force. -/
  start : Int := 0
  /-- Line of the current frame last started, plus 1. -/
  lastLine : Nat := 0
  /-- Offset in use from the frame after the one in progress on, and the one that its frames so far have (R121). -/
  offsetUsed : Int := 0
  offsetWas : Int := 0
  /-- No frame starts before this device time (R119). -/
  notBefore : Int := 0
  deriving DecidableEq, Repr

/-- The clock of the audio plane while an external source feeds it (R122, R123): sample `idx` lies at `base`, and the
samples follow at `per`, all in units of 2^-32 ns of grid time, with `left` still to be slewed away at 1 ppm. -/
structure AudioClock where
  idx : Nat := 0
  base : Int := 0
  per : Nat := 89478485333333
  left : Int := 0
  /-- Grid time of the last edge taken. -/
  edge : Option Int := none
  /-- The source has returned: its next edge says how much is to be slewed. -/
  back : Bool := false
  deriving DecidableEq, Repr

structure TimeState where
  /-- The tick grid of R103, in ns since device time last started at 0. -/
  grid : Nat := 0
  /-- Sum of all steps and sets (R103): device time is the grid plus this, modulo 2^64. -/
  stepSum : Int := 0
  /-- Grid time of the last single-nanosecond correction (R101). -/
  lastAdjust : Nat := 0
  /-- The fractional accumulator, in units of 2^-48 ns (R101). -/
  acc : Int := 0
  /-- Frequency correction of the loop in ppt: the last one while no reference steers (R108). -/
  loopFreq : Int := 0
  /-- Offset still to be slewed away, in units of 2^-48 ns (R109, R110). -/
  slewLeft : Int := 0
  /-- Corrections of the loop while LOCKED, the newest first, with their grid times, for 7 days (R113). -/
  hist : List (Nat × Int) := []
  /-- Number of the 1 ms tick at which the references were last ranked (R107). -/
  lastTick : Nat := 0
  refs : Tab RefRun := []
  peerOnCauseway : Bool := false
  /-- Offset of a host-written time that waits as the pending step (R116). -/
  hostPending : Bool := false
  /-- Pending step last reported by TIME_STEP_REFUSED. -/
  lastReported : Int := 0
  /-- Grid time since which the error has stayed within, and outside, the bounds of R111. -/
  goodFrom : Option Nat := none
  badFrom : Option Nat := none
  /-- Grid time at which HOLDOVER was entered. -/
  holdoverFrom : Nat := 0
  planes : Tab PlaneRun := []
  /-- The audio plane on an external source (R122). -/
  aud : AudioClock := {}
  /-- Sample tick and 1 ms block last acted on, plus 1. -/
  lastSample : Nat := 0
  lastBlock : Nat := 0
  /-- A step is being faded across on the audio plane: sample ticks still to fade, of 96 (R119). -/
  audioStepFade : Nat := 0
  deriving DecidableEq, Repr

/-! ### Changes and takes (03, 06) -/

/-- A freshness policy (R80, R203): the preset and the thresholds in effect. -/
structure Policy where
  preset : Nat := 0
  maxAgeMs : Nat := 0
  stallMs : Nat := 0
  hbChk : Bool := false
  verdict : Bool := false
  action : Nat := 0
  deriving DecidableEq, Repr

/-- Routing and freshness state of a destination (R187). -/
structure DstCfg where
  vsrc : Nat := 2047
  asrc : Nat := 2047
  nsrc : Nat := 2047
  lat : Nat := 0
  /-- Cost, in sixteenths, of the level the route reads, as computed when it was processed (R19, R226). -/
  charge : Nat := 0
  policy : Policy := {}
  deriving DecidableEq, Repr

/-- A MOSAIC tile (R78). -/
structure Tile where
  src : Nat
  lat : Nat
  x : Int
  y : Int
  w : Nat
  h : Nat
  /-- Charge in sixteenths (R255). -/
  charge : Nat
  deriving DecidableEq, Repr

/-- A compositor layer (R78, R249). -/
structure LayerCfg where
  kind : Nat := 0
  src : Nat := 2047
  lat : Nat := 0
  x : Int := 0
  y : Int := 0
  w : Nat := 0
  h : Nat := 0
  alpha : Nat := 0
  ref : Nat := 0
  cropX : Nat := 0
  cropY : Nat := 0
  cropW : Nat := 0
  cropH : Nat := 0
  level : Nat := 0
  tiles : List Tile := []
  /-- Charge of the layer's own read in sixteenths (R255), tiles not included. -/
  charge : Nat := 0
  /-- Partition in whose handle space REF was resolved (R261). -/
  gfxPart : Nat := 0
  policy : Policy := {}
  deriving DecidableEq, Repr

/-- Settings and layers of a compositor (R79, R187). `plane` is 0 for none, 1 .. 8 for plane 0 .. 7. -/
structure CmpCfg where
  enabled : Bool := false
  outFmt : Nat := 0
  plane : Nat := 0
  zperm : Nat := 0
  zpermEn : Bool := false
  bg : Nat := 0x04080200
  layers : Tab LayerCfg := []
  deriving DecidableEq, Repr

/-- Map and gains of a pool output channel (R77, R366): the two words of the map entry and the two gains. -/
structure ChanCfg where
  map0 : Nat := 0
  map1 : Nat := 0
  gainA : Nat := 0x01000000
  gainB : Nat := 0x01000000
  rampMs : Nat := 0
  deriving DecidableEq, Repr

/-- Parameters of a slot ring (R82, R136, R163). Depth 0 is no ring. -/
structure RingShape where
  depth : Nat := 0
  ladder : Nat := 0
  /-- Store format (R131). -/
  store : Nat := 0
  slotPages : Nat := 0
  mask : Nat := 0
  /-- Pages by which an accepted format has grown each slot (R141). -/
  extra : Nat := 0
  deriving DecidableEq, Repr

/-- A 2 MiB page (R128, R163): the stacks it is striped over, in order, each with its quarter-pages there. -/
structure Page where
  parts : List (Nat × List Nat)
  deriving DecidableEq, Repr

/-- Committed configuration: what changes act on. -/
structure Cfg where
  dsts : Tab DstCfg := []
  cmps : Tab CmpCfg := []
  chans : Tab ChanCfg := []
  rings : Tab RingShape := []
  deriving DecidableEq, Repr

/-- A flow context (R312): its sixteen words. -/
abbrev FlowWords := List Nat

/-- One staged or scheduled change (R70, R169). -/
inductive Change where
  | route (d src lat charge : Nat) (video audio anc : Bool)
  | audioMap (out w0 w1 : Nat)
  | audioGain (out : Nat) (inputB : Bool) (rampMs gain : Nat)
  | layer (c l : Nat) (cfg : LayerCfg)
  | compSet (c enAct outFmt plane zperm : Nat) (zpermEn : Bool) (bg : Nat)
  | freshDst (d : Nat) (p : Policy)
  | freshLayer (c l : Nat) (p : Policy)
  /-- An ALLOC step, explicit or implicit, with the pages it holds in reserve (R82, R137, R246). -/
  | alloc (src : Nat) (shape : RingShape) (pages : Nat) (explicit : Bool)
  /-- Reservation of a hold buffer, in bytes, for a reader (R207). -/
  | holdBuf (reader bytes : Nat)
  | ancInsert (d line rep : Nat) (words : List Nat)
  | flowAdd (flow : Nat) (words : FlowWords)
  /-- The words are those of the context when the command was processed; none when it was free. -/
  | flowDel (flow : Nat) (words : FlowWords)
  | probeCtl (core action startPc : Nat)
  deriving DecidableEq, Repr

/-- How a take came about (R70, R172). -/
inductive TakeKind where
  | group | internal | immediate | flip
  deriving DecidableEq, Repr

/-- Where a take stands. -/
inductive TakeState where
  | opened | failed | scheduled | sealed | decided
  deriving DecidableEq, Repr

/-- A commit group, an internal group, an immediate take or a bank flip (06). -/
structure Take where
  kind : TakeKind
  part : Nat
  /-- Group number; 0 for the other kinds. -/
  group : Nat := 0
  state : TakeState := .opened
  /-- Changes not yet applied, in order. -/
  todo : List Change := []
  /-- Objects that a flip has still to switch, by object number. -/
  marks : List Nat := []
  /-- Changes counted (R71). -/
  count : Nat := 0
  /-- Increases held against the budgets, by charged object (R176). -/
  held : Tab Nat := []
  /-- Commit sequence number (R180). -/
  seq : Nat := 0
  /-- Milepost in force; for an immediate take on an unpaired device, the instant t_c. -/
  t : Nat := 0
  deferrals : Nat := 0
  /-- The longest frame period among the members, rounded up to ms, in ns (R178). -/
  step : Nat := 0
  /-- The take was processed while the device was ACTIVE (R440). -/
  mirrored : Bool := false
  /-- In a pair: the standby has acknowledged the take (R178). -/
  acked : Bool := false
  /-- On a device that follows: GROUP_END has arrived, and its number of changes (R440). -/
  endGot : Bool := false
  endCount : Nat := 0
  /-- The milepost in force has passed and the changes that apply at it have applied (R169). -/
  reached : Bool := false
  /-- Grid time at which its sealed changes are copied at the latest (R177). -/
  copiedBy : Nat := 0
  /-- On a device that follows: its GROUP_ACK has still to leave, once every member is copied (R440). -/
  ackDue : Bool := false
  deriving DecidableEq, Repr

/-- A partition's bank (R187): its marked copies and the steps that apply with the flip. -/
structure Bank where
  copies : Cfg := {}
  /-- Marked objects, by object number. -/
  marks : List Nat := []
  steps : List Change := []
  deriving DecidableEq, Repr

/-- A Causeway message: its type and payload words (R443, R445). -/
structure CwMsg where
  ty : Nat
  words : List Nat
  deriving DecidableEq, Repr

/-- A MIRROR_CMD received or sent, with the data of its buffer (R440). -/
structure MirrorCmd where
  id : Nat
  part : Nat
  status : Nat
  cseq : Nat
  desc : List Nat
  data : List Byte
  deriving DecidableEq, Repr

/-- A register write held for its common instant (R439). -/
structure HeldWrite where
  at' : Nat
  /-- Partition that wrote. -/
  part : Nat
  off : Nat
  value : Nat
  deriving DecidableEq, Repr

/-- A digest of R447: kind 0 ingest, 1 output, 2 audio; its key; for a slot its STATE, bits [8:4] and FMT_GEN. -/
structure Dig where
  kind : Nat
  obj : Nat
  key : Nat
  hash : Nat
  nc : Bool := false
  state : Nat := 0
  flags : Nat := 0
  fmtGen : Nat := 0
  /-- Grid time at which it was formed or arrived. -/
  at' : Nat := 0
  deriving DecidableEq, Repr

/-- A mirrored descriptor that arrives (R440): its message and the bytes of its buffer that have come. -/
structure MirrorIn where
  cmd : MirrorCmd
  len : Nat
  /-- Sent within a snapshot: its STATUS is not compared (R446). -/
  snap : Bool
  deriving DecidableEq, Repr

/-- A handover (R454). -/
structure Handover where
  /-- Commit sequence number, partition and milepost. -/
  seq : Nat
  part : Nat
  t : Nat
  /-- The peer has acknowledged it; the active device has decided that it applies. -/
  acked : Bool := false
  decided : Bool := false
  deriving DecidableEq, Repr

/-- The pair beside the registers of CWAY (17). -/
structure PairRun where
  /-- Next MSEQ of each class. -/
  mseq : Tab Nat := []
  /-- Class 3 messages not acknowledged, oldest first, with their MSEQ (R444). -/
  unacked : List (Nat × CwMsg) := []
  /-- CMD_ID of the next MIRROR_CMD. -/
  cmdId : Nat := 0
  held : List HeldWrite := []
  /-- Digests of this device and of the peer that wait for their counterpart (R448). -/
  digOwn : List Dig := []
  digPeer : List Dig := []
  /-- Slots whose ingest digests differed. -/
  badSlots : List (Nat × Nat) := []
  /-- Consecutive mismatching frames by destination, and grid times of the mismatches of the last second. -/
  mismatches : Tab Nat := []
  mismatchAt : List Nat := []
  /-- Islands under test on request, islands that failed their latest test (R450). -/
  katOn : List Nat := []
  katFail : List Nat := []
  /-- Step applied since the last TIME message, and its device time (R118). -/
  step : Int := 0
  stepAt : Nat := 0
  /-- Class 3 MSEQ expected next; class 3 traffic has come since the last LINK_ACK; grid time of that LINK_ACK. -/
  rxNext : Nat := 0
  /-- The next class 3 message taken sets the number expected: a join begins (log 31). -/
  rxSync : Bool := false
  ackDue : Bool := false
  ackSent : Nat := 0
  /-- Grid time at which an acknowledgement last moved forward, or the first unacknowledged message left. -/
  ackMoved : Nat := 0
  /-- Grid time at which the role was entered. -/
  roleFrom : Nat := 0
  /-- Grid time of the last HELLO received plus 1, and of the last HELLO, TIME and HEALTH sent. -/
  helloAt : Nat := 0
  helloSent : Nat := 0
  timeSent : Nat := 0
  healthSent : Nat := 0
  /-- A HELLO from a peer in INIT has been held since INIT was entered (R436). -/
  initHello : Bool := false
  /-- Standby: a snapshot is arriving, and one has been applied. Active: one has been sent to the peer that joins. -/
  snapIn : Bool := false
  snapDone : Bool := false
  snapSent : Bool := false
  /-- Consecutive agreeing output digests, by destination (R435). -/
  agrees : Tab Nat := []
  /-- Own receive time of the peer's last TIME, and that message's T_SEND. -/
  timeRx : Nat := 0
  timePeer : Nat := 0
  /-- Mirrored descriptors that wait for data, in CMD_ID order. -/
  cmdsIn : List MirrorIn := []
  /-- Handovers that are to come, oldest first (R454). -/
  handovers : List Handover := []
  /-- KAT passes completed, islands still to be tested in the pass that runs, grid time of its start; CE at the last
  report. -/
  katPasses : Nat := 0
  katLeft : List Nat := []
  katFrom : Nat := 0
  ceLast : Nat := 0
  /-- Islands that failed in the pass that runs and in the latest completed one (R451); islands under test on request, and
  those that failed such a test and have passed none since (R449). -/
  passFail : List Nat := []
  lastFail : List Nat := []
  katAsked : List Nat := []
  askFail : List Nat := []
  /-- The peer's KAT_FAIL and READY as last reported. -/
  peerFail : List Nat := []
  /-- Device time from which this device sends media packets: when it took the outputs (R452, R454). -/
  sendFrom : Nat := 0
  /-- The PEER_LOST causes raised since the peer was last seen. -/
  lostRaised : Bool := false
  deriving DecidableEq, Repr

structure TakeRun where
  cfg : Cfg := {}
  takes : List Take := []
  banks : Tab Bank := []
  /-- Next commit sequence number. -/
  nextSeq : Nat := 1
  /-- Grid time until which the take sequencer has changes to copy at its least rate (R177). -/
  copyBusy : Nat := 0
  deriving DecidableEq, Repr

/-! ### Frame store (05) and freshness guard (07) -/

/-- A slot with its record (R142) and its pixels. -/
structure Slot where
  /-- 0: FREE. 1: WRITING. 2: COMPLETE. 3: DAMAGED. -/
  state : Nat := 0
  seq : Nat := 0
  tStart : Nat := 0
  tClose : Nat := 0
  hash : Nat := 0
  hb : Nat := 0
  /-- Bits [11:4] of the last word of the record, from bit 0. -/
  flags : Nat := 0
  ladder : Nat := 0
  verdict : Nat := 0
  fmtGen : Nat := 0
  /-- Format of the frame, in the layout of SRC_FMT [15:0], and the store format it is held in. -/
  fmt : Nat := 0
  store : Nat := 0
  /-- L0 .. L4 as written. -/
  levels : List Pic := []
  /-- Writing has ended; the slot closes when its writes are acknowledged (R150). -/
  ended : Bool := false
  /-- Coverage of an ST 2110-20 slot (R148): RTP numbers seen, pixel groups counted, RTP timestamps. -/
  covered : List Nat := []
  groups : Nat := 0
  rtp : Nat := 0
  rtp2 : Option Nat := none
  /-- S and N of R195 and of R196 over the units written. -/
  hashSum : Nat := 0
  hashN : Nat := 0
  hbSum : Nat := 0
  hbN : Nat := 0
  /-- Heartbeat region of the frame: x, y, w, h (R196). -/
  region : List Nat := [0, 0, 0, 0]
  deriving DecidableEq, Repr

/-- A slot ring (R136, R140). -/
structure Ring where
  /-- Number of the ring within its source, counted from its first one. -/
  id : Nat
  shape : RingShape
  /-- The page table: the pages of each slot in order; those of the merge buffer stand after the last slot (R134, R318). -/
  pages : List (List Page) := []
  /-- The ring has been released: its slots are no longer selectable (R139). -/
  dead : Bool := false
  slots : Tab Slot := []
  /-- Index of the last slot written plus 1; 0 before the first. -/
  last : Nat := 0
  deriving DecidableEq, Repr

/-- What ingest keeps of a source beside its registers. The newest ring comes first (R140). -/
structure SrcRun where
  rings : List Ring := []
  ringCount : Nat := 0
  seq : Nat := 0
  fmtGen : Nat := 0
  /-- A format has been accepted since the ring was first created (R141). -/
  accepted : Bool := false
  /-- Format in force, in the layout of SRC_FMT [15:0]. -/
  fmt : Nat := 0
  /-- Grid time of the last drop plus 1 (R158). -/
  lastDrop : Nat := 0
  /-- Ingest island that carries the source plus 1 (R22). -/
  island : Nat := 0
  /-- Grid time of the last accepted packet plus 1 (KIND 2 and 3). -/
  lastPacket : Nat := 0
  /-- KIND 2: RTP timestamps of the last frame started, of its first and second field (R145, R147). -/
  rtp : Option Nat := none
  rtp2 : Option Nat := none
  deriving DecidableEq, Repr

/-- A slot as a reader names it. -/
structure SlotRef where
  src : Nat
  ring : Nat
  seq : Nat
  deriving DecidableEq, Repr

/-- What a reader shows in a frame. -/
structure Shown where
  /-- Slot read, if any. -/
  slot : Option SlotRef := none
  /-- 0: the picture. 1: hold. 2: slate. 3: black by the action. 4: black for want of a source or slot. -/
  act : Nat := 4
  /-- The frame is read behind the write (R155). -/
  chase : Bool := false
  /-- A CHASE frame not yet bound: the slot is taken at the next frame start of this source. -/
  await : Option Nat := none
  /-- First output line taken from another slot after a tear (R156), and that slot. -/
  tearLine : Option Nat := none
  tearSlot : Option SlotRef := none
  /-- The frame with SEQ one lower, held for MOTION (R237). -/
  prev : Option SlotRef := none
  /-- The frame carries the hold picture from G's slot, not from the buffer: the entry frame (R207). -/
  entry : Bool := false
  /-- The frame carries an action, PASS included (R205). -/
  acting : Bool := false
  /-- Ladder level read, and whether it was clamped or a forced level was not taken (R226, R240, R254, R255). -/
  level : Nat := 0
  clamp : Bool := false
  /-- Age that the slate shows, in s; none for "---s" (R210). -/
  age : Option Nat := none
  deriving DecidableEq, Repr

/-- The picture in a hold buffer, with its SEQ, its level, its format and its store format (R207). -/
structure HoldPic where
  pic : Pic
  seq : Nat
  level : Nat
  fmt : Nat
  store : Nat
  deriving DecidableEq, Repr

/-- A reader: its holds, its facts (R198) and its state (R206). -/
structure ReaderRun where
  /-- Source for which the facts stand. -/
  src : Nat := 2047
  cur : Shown := {}
  nxt : Option Shown := none
  /-- Frame start that `nxt` was chosen for. -/
  nxtAt : Int := 0
  h : Option Nat := none
  c : Nat := 0
  lastSeq : Nat := 0
  /-- G: the picture shown in the previous frame without an action. -/
  g : Option SlotRef := none
  /-- G is the frame that the next frame start of this source begins (R155, R198). -/
  gAwait : Option Nat := none
  gLevel : Nat := 0
  tRef : Nat := 0
  hold : Option HoldPic := none
  /-- 0: OFF. 1: FRESH. 2: ACTING. 3: RECOVERING. -/
  fstate : Nat := 0
  good : Nat := 0
  actFrames : Nat := 0
  cond : Nat := 0
  ageMs : Nat := 0
  shownSeq : Nat := 0
  shownLevel : Nat := 0
  chaseDeg : Bool := false
  /-- Grid time of the last FRESH_DAMAGED plus 1. -/
  lastDamaged : Nat := 0
  /-- Bytes of hold buffer reserved (R207). -/
  holdBytes : Nat := 0
  deriving DecidableEq, Repr

/-- The frame timing of a destination or compositor (R223, R224). -/
structure ObjRun where
  /-- Frames start. -/
  running : Bool := false
  /-- k + 1 of the last frame started; 0 before the first and after a step. -/
  lastK : Nat := 0
  /-- k + 1 of the frame in progress; 0 before the first. -/
  frame : Nat := 0
  /-- Frame start of the frame in progress, on the timeline in force. -/
  start : Int := 0
  /-- No frame starts before this instant. -/
  notBefore : Int := 0
  /-- The plane's own frame start of the first frame is not before this instant (R215). -/
  planeFrom : Int := 0
  phaseUsed : Int := 0
  /-- LEAD_EXTRA_US in use, and the device time of its last write. -/
  leadUsed : Nat := 150
  leadAt : Int := 0
  deriving DecidableEq, Repr

/-- Ancillary packets to insert in frames of a destination (R86, R297): line (0: chosen by the device), frames left,
and the words of the packets. -/
structure AncInsert where
  line : Nat
  left : Nat
  words : List Nat
  deriving DecidableEq, Repr

/-- A destination beside its registers. -/
structure DstRun where
  obj : ObjRun := {}
  /-- A write of 0 to ENABLE has been accepted and the stop is due (R216). -/
  stopping : Bool := false
  /-- Picture of the frame in progress. -/
  pic : Pic := { comps := [] }
  frameK : Nat := 0
  /-- DEST island that carries the destination plus 1 (R22). -/
  island : Nat := 0
  /-- The previous frame showed this slot without an action (R235). -/
  prevShown : Option SlotRef := none
  /-- A CHASE frame whose picture is sent at its end, with the registers as they stood at its start (R213, R240 .. R242). -/
  late : Bool := false
  latch : Tab Nat := []
  /-- The look-up tables of the frame in progress (R242). -/
  lutIn : Option Plane := none
  lutOut : Option Plane := none
  /-- The digest of the frame in progress is not comparable (R441). -/
  nc : Bool := false
  inserts : List AncInsert := []
  deriving DecidableEq, Repr

/-- A compositor beside its registers. -/
structure CmpRun where
  obj : ObjRun := {}
  /-- The last frame on the old plane has ended; frames go on on this plane, plus 1 (R169). -/
  moveTo : Nat := 0
  /-- The output slot of the frame in progress, while a CHASE layer delays its content to the slot's close (R266), and the
  plane frame index. -/
  late : Option SlotRef := none
  lateK : Nat := 0
  /-- The registers as they stood at the start of that frame (R213, R270). -/
  latch : Tab Nat := []
  deriving DecidableEq, Repr

structure StoreState where
  srcs : Tab SrcRun := []
  dsts : Tab DstRun := []
  cmps : Tab CmpRun := []
  /-- Readers, by reader number. -/
  readers : Tab ReaderRun := []
  /-- Graphics as 32-bit pixels: handle h of partition p at key 4096 p + h (R84). -/
  graphics : Tab (Option Plane) := []
  /-- Bytes of hold buffers reserved, staged ones included (R207). -/
  holdBytes : Nat := 0
  /-- Quarter-pages retired, as (stack, number) (R161). -/
  retiredQp : List (Nat × Nat) := []
  /-- Quarter-pages of the pool that are used or reserved (R129). -/
  used : List (Nat × Nat) := []
  /-- Pages that steps not yet applied hold in reserve (R130), and the pages of hold buffers and of each graphic. -/
  reserved : List Page := []
  holdPages : List Page := []
  gfxPages : Tab (List Page) := []
  /-- Slots that an uncorrectable error hit after their close: they read DAMAGED from the next selection instant (R144). -/
  ueSlots : List SlotRef := []
  /-- Words corrected in the last and in the current scrub pass, as (stack, address) (R161). -/
  lastPass : List (Nat × Nat) := []
  thisPass : List (Nat × Nat) := []
  deriving DecidableEq, Repr

/-! ### Faults (18) -/

/-- What the fault collection keeps beside its records (R460 .. R469). -/
structure FaultRun where
  /-- Records in the order of their creation, newest first. -/
  order : List (Fin 16) := []
  /-- Record being handled (R461). -/
  handled : Option (Fin 16) := none
  /-- Grid time at which the handling of a SERVICE record ends. -/
  handledTo : Nat := 0
  /-- The safe state is to be reached: record and detection instant (R463). -/
  safeDue : Option (Fin 16 × Nat) := none
  /-- SAFE_REQ_N is low (R467). -/
  safeReqLow : Bool := false
  /-- INDEX, SUB and DATA of the raise that latched FATAL (R465). -/
  fatalIndex : Nat := 0
  fatalSub : Nat := 0
  fatalData : Nat := 0
  /-- Highest die temperature of the last reading, and whether DIE_HOT and DIE_CRIT stand (R556). -/
  dieTemp : Nat := 0
  dieHot : Bool := false
  dieCrit : Bool := false
  /-- Rails outside their operating range (R554). -/
  railsOut : List Nat := []
  /-- Rails that left their range in reset extension: RAIL_FAULT waits for the release of POR (R554). -/
  railsAtBoot : List Nat := []
  /-- Corrected SRAM errors since the last SRAM_CE of a memory (R469): count, and grid time of that event plus 1. -/
  corrected : Tab (Nat × Nat) := []
  deriving DecidableEq, Repr

end Sys2Proof.Machine
end

