-- ==== Sys2Proof/Machine/StateAv.lean ====
section
/-! DEFINITION. What the block holds beside its registers, for serial video, media ports and flows, lanes, audio, AES3
ports, ancillary queues and probe cores (10 .. 16). Plain data. -/

namespace Sys2Proof.Machine

/-! ### Serial video (10) -/

/-- What a receiver detects of a frame: format, in the layout of SRC_FMT [15:0] without COLOR, and identifier. -/
structure Detected where
  fmt : Nat
  payload : Option PayloadId
  deriving DecidableEq, Repr

/-- A serial video receiver beside its registers (R284 .. R291). -/
structure RxRun where
  locked : Bool := false
  /-- Good frames counted (R285). -/
  good : Nat := 0
  /-- CRC_MASK in use (R299). -/
  crcMask : Bool := false
  /-- What the frame before had. -/
  prev : Option Detected := none
  /-- What was accepted, or judged not acceptable. -/
  accepted : Option Detected := none
  /-- Frames that differed from it in a row. -/
  differ : Nat := 0
  /-- The frame in progress began while the receiver could count it. -/
  inFrame : Bool := false
  /-- Grid time of the latest frame start (R281). -/
  frameAt : Option Nat := none
  /-- Members lost since the frame in progress began, and members that rejoin at the next frame (quad-link). -/
  lost : List Nat := []
  rejoin : List Nat := []
  /-- The link, counted from 0, that each member carried in the last frame. -/
  places : List (Option Nat) := []
  /-- Grid time, plus 1, of the last SDI_ERRORS of the lane (R298). -/
  lastErrors : Nat := 0
  deriving DecidableEq, Repr

/-- The ancillary area of a slot (R283): its packets and the bytes they take. -/
structure AncArea where
  seq : Nat
  bytes : Nat := 0
  packets : List AncPacket := []
  deriving DecidableEq, Repr

structure SdiState where
  /-- Receivers: lane l at l, the framer of source n at 256 + n. -/
  rx : Tab RxRun := []
  /-- Ancillary areas of a source, the newest first. -/
  areas : Tab (List AncArea) := []
  /-- Slot whose packets destination d sent last (R296). -/
  ancSent : Tab (Option SlotRef) := []
  deriving DecidableEq, Repr

/-! ### Media ports and flows (11) -/

/-- A frame that a send context sends (R323 .. R327): its index, its start and period, the stream's number of its first
packet, its packets, those sent, and TX_OFS_NS as it stood. -/
structure SendFrame where
  k : Nat
  start : Int
  period : Nat
  base : Nat
  count : Nat
  next : Nat := 0
  ofs : Int := 0
  field2 : Bool := false
  /-- Ancillary packets of the frame, for ST 2110-40. -/
  anc : List AncPacket := []
  deriving DecidableEq, Repr

/-- The side bits of a pair of subframes as they are sent (R384, R386): the position in the block of the next frame; the
ticks since the last block start in the pool samples of A and B, and whether the last two lay 192 apart; passed or not. -/
structure SideRun where
  pos : Nat := 0
  sinceA : Nat := 0
  sinceB : Nat := 0
  okA : Bool := false
  okB : Bool := false
  passA : Bool := false
  passB : Bool := false
  deriving DecidableEq, Repr

/-- A flow context beside its words: its counters (R329) and its state. -/
structure FlowRun where
  words : FlowWords
  pkts : Nat := 0
  lost : Nat := 0
  dup : Nat := 0
  late : Nat := 0
  bad : Nat := 0
  down : Bool := false
  last : Nat := 0
  /-- Grid time of the last accepted packet, or of the apply instant. -/
  lastGrid : Nat := 0
  /-- Sequence number of the last accepted packet plus 1; 0 before the first. -/
  lastSeq : Nat := 0
  /-- Send: instant from which the context sends (R327). -/
  from' : Nat := 0
  /-- Send: frames whose packets are still to send, oldest first. -/
  queue : List SendFrame := []
  /-- Send, audio: index of the next packet plus 1; 0 before the first. -/
  next : Nat := 0
  /-- Send, ST 2110-31: the side bits of each pair of channels; none before the first packet. -/
  sides : List SideRun := []
  deriving DecidableEq, Repr

/-- A stream (R314, R321, R323): the merge ring of a receive stream, or the counter of a send stream. -/
structure StreamRun where
  /-- Receive: extended sequence numbers that fill positions 0 .. 63, plus 1. -/
  ring : Tab Nat := []
  newest : Option Nat := none
  /-- Send: a packet number has been given; the frame (plus 1) or audio packet (plus 1) that it was given for, the number
  of its first packet, and the packets. -/
  started : Bool := false
  frameK : Nat := 0
  base : Nat := 0
  count : Nat := 0
  deriving DecidableEq, Repr

/-- A frame waiting for the short path (R307). -/
structure ShortFrame where
  port : Nat
  bytes : List Byte
  rxTime : Nat
  deriving DecidableEq, Repr

/-- A media port beside its registers. -/
structure PortRun where
  rxPhase : Bool := true
  /-- Lanes whose training has not ended. -/
  training : List Nat := []
  /-- MODE has been committed by a first ENABLE (R8, R303). -/
  modeLocked : Bool := false
  /-- Grid time of the last HP_RX_OVF and FEC_UNCORR plus 1. -/
  lastOvf : Nat := 0
  lastFec : Nat := 0
  /-- Grid time until which a frame and the gap after it take the port (R305). -/
  busyUntil : Nat := 0
  deriving DecidableEq, Repr

structure MediaState where
  flows : Tab (Option FlowRun) := []
  /-- Streams: receive by source, send by destination, with type and, for audio, first channel. -/
  streams : Tab StreamRun := []
  ports : Tab PortRun := []
  /-- Short-path queues of the MEDIA islands, oldest first. -/
  short : Tab (List ShortFrame) := []
  /-- Grid time of the last lookup of each, plus 1 (R307). -/
  shortAt : Tab Nat := []
  /-- Pictures of the last two frames of a destination, the newest first, with their indices. -/
  sent : Tab (List (Nat × Pic)) := []
  /-- Ancillary packets of the frame in progress, by destination (R324). -/
  anc : Tab (List AncPacket) := []
  deriving DecidableEq, Repr

/-! ### Lanes (12) -/

/-- A lane beside its registers. -/
structure LaneRun where
  /-- Grid time since which the lane calibrates plus 1; 0 while it does not. -/
  calFrom : Nat := 0
  /-- Causeway: markers seen in order, markers missed in a row, the last marker count. -/
  good : Nat := 0
  missed : Nat := 0
  count : Nat := 0
  /-- Causeway: grid time of the last CW_BIP plus 1. -/
  lastBip : Nat := 0
  /-- Causeway: skew measured at the last marker, in blocks. -/
  skew : Nat := 0
  /-- A running eye scan has been stopped; its counts are to be read out (R343). -/
  scanStop : Bool := false
  /-- Error-free bits that the pattern checker has seen, in millionths; none while it is off (R344). -/
  prbs : Option Nat := none
  deriving DecidableEq, Repr

/-- The transmit side of the Causeway lanes (R347 .. R349). -/
structure CwTx where
  /-- The last 58 line bits of each lane, the newest in bit 0. -/
  scram : List Nat := []
  /-- BIP-8 of each lane since its last marker. -/
  bip : List Nat := []
  /-- Columns sent since the last filler column. -/
  sinceFill : Nat := 0
  /-- Columns left of the message that has started, and the messages that wait, with their classes. -/
  current : List (List CwBlock) := []
  waiting : List (Nat × List (List CwBlock)) := []
  deriving DecidableEq, Repr

structure LaneState where
  lanes : Tab LaneRun := []
  /-- Marker count of the transmitter (R349). -/
  txMarker : Nat := 0
  cwTx : CwTx := {}
  /-- PLLs that have lost lock (R336). -/
  unlocked : List LanePll := []
  deriving DecidableEq, Repr

/-! ### Audio engine (13) -/

/-- A pool sample (R354): the value and its side bits, bit 0 V, bit 1 U, bit 2 C, bit 3 block start. -/
structure Sample where
  v : Int := 0
  side : Nat := 0
  deriving DecidableEq, Repr

/-- A pool input channel that a feed writes. -/
structure ChanIn where
  src : Nat := 2047
  /-- 0: none. 1: de-embedder. 2: flow. 3: AES3 input. -/
  feed : Nat := 0
  /-- Flow: the merge ring's span in samples (R321, R361). -/
  span : Nat := 0
  /-- The channel is resampled. -/
  asrc : Bool := false
  /-- FIFO of a de-embedder or before an ASRC, oldest first, and the last samples played, newest first: 24 of a de-embedder,
  the 64 in reach of an ASRC's taps. -/
  fifo : List Sample := []
  played : List Sample := []
  /-- Flow samples by sample index. -/
  ring : Tab Sample := []
  /-- Deadlines met in a row. -/
  met : Nat := 0
  playing : Bool := false
  /-- Fade-in sample to come; 48: no fade. -/
  fin : Nat := 48
  /-- Fade-out sample to come. -/
  fout : Option Nat := none
  /-- Old read position of a slip: its samples to come. -/
  cross : List Sample := []
  /-- The channel is in underrun. -/
  under : Bool := false
  /-- The ratio estimate is locked. -/
  locked : Bool := false
  /-- ASRC: input samples a tick, and the part of a sample that the read position is past the last one, in units of 2^-28;
  grid time of the first input sample since a reset, plus 1. -/
  ratio : Nat := 268435456
  pos : Nat := 0
  since : Nat := 0
  /-- Side bits that an AES3 input attaches. -/
  side : Nat := 0
  deriving DecidableEq, Repr

/-- A gain ramp (R368): value number `i` of `n`. -/
structure Ramp where
  g0 : Nat := 0x01000000
  g1 : Nat := 0x01000000
  i : Nat := 0
  n : Nat := 0
  deriving DecidableEq, Repr

/-- A pool output channel: its map and gains in use, and the side it crossfades from (R368). -/
structure ChanOut where
  map0 : Nat := 0
  map1 : Nat := 0
  rampA : Ramp := {}
  rampB : Ramp := {}
  /-- Old map and ramps, and the crossfade sample to come. -/
  old : Option (Nat × Nat × Ramp × Ramp × Nat) := none
  deriving DecidableEq, Repr

/-- An audio decision (R441): kind 1 ratio, 2 slip, 3 underrun, 4 re-entry, 5 ASRC switch. -/
structure AudDec where
  kind : Nat
  ch : Nat
  count : Nat
  tick : Nat
  value : Int
  deriving DecidableEq, Repr

/-- What the audio engine keeps of a source. -/
structure AudSrc where
  /-- Grid time of the last slip plus 1, and whether two have come within 10 s (R364). -/
  lastSlip : Nat := 0
  twice : Bool := false
  /-- Grid time of the last AUD_UNDERRUN plus 1. -/
  lastUnder : Nat := 0
  /-- Audio groups muted for another sampling rate (R358). -/
  muted : List Nat := []
  deriving DecidableEq, Repr

/-- Statistics of an output group (R375) and the digest of its block in progress (R447). -/
structure AudGroup where
  clips : Nat := 0
  changes : Nat := 0
  last : Nat := 0
  sum : Nat := 0
  nc : Bool := false
  deriving DecidableEq, Repr

/-- An embedder: settings in use (R370), the source it plays, the old one with the crossfade sample to come, the
embedded samples of the last ticks, newest first, and the index of the frame in progress. -/
structure EmbRun where
  outBase : Nat := 0
  mode : Nat := 1
  ch : Nat := 16
  dly : Nat := 0
  src : Nat := 2047
  old : Option (Nat × Nat) := none
  hist : List (List Int) := []
  /-- Samples due for embedding: their tick, the line starts since they came due, the samples (R371). -/
  due : List (Nat × Nat × List Int) := []
  frame : Nat := 0
  deriving DecidableEq, Repr

structure AudioState where
  ins : Tab ChanIn := []
  outs : Tab ChanOut := []
  /-- Input and output samples of the last ticks, newest first. -/
  hist : List (Tab Sample) := []
  outHist : List (Tab Sample) := []
  srcs : Tab AudSrc := []
  groups : Tab AudGroup := []
  embs : Tab EmbRun := []
  /-- Own decisions of this block and the one before, and those of the peer (R441). -/
  decs : List AudDec := []
  peerDecs : List AudDec := []
  deriving DecidableEq, Repr

/-! ### AES3 ports (14) -/

structure AesIn where
  /-- Frames since the last Z; none before one. -/
  frames : Option Nat := none
  /-- Grid time of that Z. -/
  lastZ : Nat := 0
  /-- Rate at lock, and Z intervals in a row that differ from it. -/
  rateAtLock : Nat := 0
  off : Nat := 0
  /-- Channel status bits of the block in progress, oldest first. -/
  cs : List Bool := []
  /-- The last complete block of them, until it is checked. -/
  csDone : List Bool := []
  /-- Latched block; empty before a good one. -/
  latched : List Byte := []
  /-- Channel status block that is being sent out to the pool (R381). -/
  csOut : List Byte := []
  /-- V bits and samples of the last frame, and its grid time plus 1. -/
  va : Bool := false
  vb : Bool := false
  xa : Int := 0
  xb : Int := 0
  frameAt : Nat := 0
  /-- Grid time of the last valid preamble. -/
  seen : Nat := 0
  /-- Grid time of the first sample that the ASRC has taken since a reset, plus 1. -/
  firstAt : Nat := 0
  /-- Grid time of the last AES_CS_CRC plus 1. -/
  lastCrc : Nat := 0
  deriving DecidableEq, Repr

structure AesOut where
  side : SideRun := {}
  /-- Silent start: block starts sent since framing began. Silent stop: frames of the last block left, plus 1, once the
  block after the fade has begun. -/
  starts : Nat := 0
  /-- Fade sample to come; 48: none. -/
  fade : Nat := 48
  deriving DecidableEq, Repr

structure AesState where
  ins : Tab AesIn := []
  outs : Tab AesOut := []
  deriving DecidableEq, Repr

/-! ### Ancillary data queues (15) -/

/-- A queue in a cycle in which its pointers have moved (R395, R398): W, R and L at the start of the cycle, and the
ingest packets that have been written since, the last ones of the queue, each with its source. -/
structure AncCycle where
  wr : Nat := 0
  rd : Nat := 0
  rel : Nat := 0
  packets : List (Nat × List Nat) := []
  deriving DecidableEq, Repr

structure AncState where
  /-- The 8 MiB: word at its word address, END as bit 32. -/
  mem : Tab Nat := []
  /-- Words pushed of the probe packet in progress, by queue. -/
  pushed : Tab Nat := []
  /-- Grid time of the last ANCQ_DROP plus 1, by queue. -/
  lastDrop : Tab Nat := []
  /-- Queues that the cycle of R398 in progress has touched. -/
  cycle : Tab AncCycle := []
  deriving DecidableEq, Repr

/-! ### Probe cores (16) -/

structure ProbeLoop where
  active : Bool := false
  count : Nat := 0
  start : Nat := 0
  last : Nat := 0
  /-- Started after the other loop. -/
  later : Bool := false
  deriving DecidableEq, Repr

/-- A tap window beside its registers: its settings in use and what its fills left. -/
structure TapWin where
  /-- Settings in use, in the order of R429: KIND, PP, COMP, LEVEL, SRC, X, Y, W, H, DBASE_A, DBASE_B, CH, POOL_OUT,
  WIDE, MAXN. -/
  words : List Nat := []
  /-- Source and SEQ of the last OK fill, and whether it lies in buffer B. -/
  okSeq : Option (Nat × Nat) := none
  okB : Bool := false
  /-- Slot of the last fill. -/
  slot : Option SlotRef := none
  /-- Index of the last audio sample copied plus 1; 0: the first fill is to come. -/
  lastTick : Nat := 0
  copied : Nat := 0
  dropped : Nat := 0
  deriving DecidableEq, Repr

structure CoreRun where
  /-- D0 .. D15. -/
  d : Tab Nat := []
  a0 : Int := 0
  a1 : Int := 0
  /-- Field f of Xx at 4 x + f. -/
  x : Tab Nat := []
  z : Bool := false
  n : Bool := false
  c : Bool := false
  v : Bool := false
  e : Bool := false
  k : Bool := false
  f : Bool := false
  loop0 : ProbeLoop := {}
  loop1 : ProbeLoop := {}
  stack : List Nat := []
  /-- Call stack entries above the depth, as the debug port has left them (R551). -/
  spare : Tab Nat := []
  imem : Tab Nat := []
  dmem : Tab Nat := []
  /-- A PROBE_LOAD has written a memory of the core since they were last cleared (R529). -/
  loaded : Bool := false
  wins : Tab TapWin := []
  /-- Trigger: frame index, instant, and the plane frame last triggered, plus 1, times 16, plus TRIG_PLANE. -/
  trigK : Nat := 0
  trigAt : Nat := 0
  lastTrig : Nat := 0
  cycles : Nat := 0
  /-- Grid time of the last PROBE_OVERRUN plus 1. -/
  lastOverrun : Nat := 0
  /-- Grid time at which a stall began (R422). -/
  stallFrom : Nat := 0
  /-- Debug (R540, R541): causes of a halt that waits for the next instruction boundary, whether one waits, a step in
  progress, and whether the next instruction runs whatever breakpoint it has. -/
  haltCause : Nat := 0
  haltPend : Bool := false
  stepping : Bool := false
  skipBreak : Bool := false
  deriving DecidableEq, Repr

structure ProbeState where
  cores : Tab CoreRun := []
  deriving DecidableEq, Repr

end Sys2Proof.Machine
end

