-- ==== Sys2Proof/Machine/StateDev.lean ====
section
/-! DEFINITION. What the block holds beside its registers, for clocks and power domains, the Towpath, start-up and flash,
and the debug port (19 .. 22). Plain data. -/

namespace Sys2Proof.Machine

/-! ### Clocks and domains (19, 21) -/

/-- A clock monitor beside its registers (R478 .. R486). -/
structure MonRun where
  /-- Checks that have tripped and stand. -/
  stop : Bool := false
  freq : Bool := false
  /-- Grid time since which both checks pass plus 1; 0 while one does not, or neither has tripped. -/
  goodFrom : Nat := 0
  /-- Check that tripped before ROSC_OK: 1 stop, 2 frequency; 0 none (R483). -/
  latched : Nat := 0
  deriving DecidableEq, Repr

/-- A clock multiplexer (R484): the source that feeds the island, and the one that a switch waits for. -/
structure ClkMux where
  src : Nat := 0
  dest : Option Nat := none
  /-- The switch is a return, which is never forced (R486). -/
  back : Bool := false
  deriving DecidableEq, Repr

/-- A divider ramp (R476). -/
structure ClkRamp where
  /-- Towards the nominal divider; else towards 320. -/
  up : Bool
  /-- Among the sixteen that run; else it waits. -/
  runs : Bool
  /-- Grid time of its last step. -/
  at' : Nat
  deriving DecidableEq, Repr

/-- The spread of an island clock generator (R475): grid time plus 1 at which its next modulation period begins, 0 before the
first one, and the depth and rate in force. -/
structure SscRun where
  next : Nat := 0
  depth : Nat := 6
  rate : Nat := 31
  deriving DecidableEq, Repr

structure ClkState where
  mons : Tab MonRun := []
  /-- Spread spectrum, by island. -/
  ssc : Tab SscRun := []
  /-- Multiplexers, by island. -/
  muxes : Tab ClkMux := []
  ramps : Tab (Option ClkRamp) := []
  /-- PLLs that are to lock to a reference: core 0, memory 1, timing 2; the value is the source code plus 1. -/
  relock : Tab Nat := []
  /-- ROSC_OK did not come within 1 ms (R477). -/
  noStart : Bool := false
  /-- Both references have tripped their stop checks (R481). -/
  bothLost : Bool := false
  deriving DecidableEq, Repr

/-! ### Towpath (20) -/

/-- A frame in the receive queue: DST, SRC, TYPE, LEN and payload, its kind and its time (R498). -/
structure TowRxFrame where
  bytes : List Nat
  kind : Nat
  time : Nat
  deriving DecidableEq, Repr

/-- What the transmitter of a bus does (R493, R494). -/
inductive TowPhase where
  | idle
  | sending
  | jam
  /-- Waiting: grid time at which the wait ends. -/
  | backoff (dest : Nat)
  deriving DecidableEq, Repr

structure TowRun where
  rx : List TowRxFrame := []
  /-- Transmit queue, the head first: DST, SRC, TYPE, LEN and payload. -/
  tx : List (List Nat) := []
  phase : TowPhase := .idle
  /-- Collisions of the head frame, and attempts made. -/
  colls : Nat := 0
  attempts : Nat := 0
  /-- The head frame has been started. -/
  started : Bool := false
  /-- The collision in progress is a late one. -/
  late : Bool := false
  lfsr : Word := 1
  /-- Frames discarded under TX_EXCESS in a row. -/
  excess : Nat := 0
  /-- TOW_BUS_FAIL has been raised and no frame has been carried since (R496). -/
  failed : Bool := false
  /-- Cycle of the last change of the receive queue plus 1, the depth at its start, and the frame at the head then if a pop
  has discarded it since (R498). -/
  cycle : Nat := 0
  startDepth : Nat := 0
  popped : Option TowRxFrame := none
  /-- Grid time at which the transmission in progress started, and at which the last one on the bus ended (R490, R493). -/
  startAt : Nat := 0
  idleFrom : Nat := 0
  /-- Device time at which a frame being received was last broken off (R501). -/
  brokenAt : Nat := 0
  deriving DecidableEq, Repr

structure TowState where
  buses : Tab TowRun := []
  /-- TOW clock cycles so far, and nanoseconds into the next one. -/
  cycles : Nat := 0
  phase : Nat := 0
  deriving DecidableEq, Repr

/-! ### Start-up, flash and fuses (21) -/

/-- The header of the image that was booted (R513). -/
structure ImageHdr where
  imgVer : Nat := 0
  svn : Nat := 0
  svnCommit : Bool := false
  revoke : Nat := 0
  slot : Nat := 0
  setVer : Nat := 0
  setMin : Nat := 0
  deriving DecidableEq, Repr

/-- A copy in the settings store (R522). -/
structure SettingsCopy where
  fmtVer : Nat
  seq : Nat
  /-- Start-up list: BAR0 offsets and values. -/
  list : List (Nat × Nat)
  hoFreq : Nat
  hoAge : Nat
  /-- Retired quarter-pages, as (stack, number). -/
  retired : List (Nat × Nat)
  deriving DecidableEq, Repr

/-- A flash command that runs (R516, R517, R525). -/
inductive FlashOp where
  | erase (addr : Nat)
  | program (addr : Nat) (page : List Nat)
  | delta
  | pref (bank : Nat)
  | save (copy : Nat) (c : SettingsCopy)
  deriving DecidableEq, Repr

structure BootRun where
  /-- Recovery (R515). -/
  recovery : Bool := false
  /-- Bank under check plus 1, and whether the other bank has been tried. -/
  trying : Nat := 0
  triedOther : Bool := false
  /-- An image was booted. -/
  booted : Bool := false
  image : ImageHdr := {}
  /-- Domains that the boot configuration record gates (R530), as a mask. -/
  gateInit : Nat := 0
  /-- Subsystem IDs that the record gives every function (R30), and its REFOSC frequency (R111). -/
  subsystem : Nat := 0
  refosc : RefOsc := .mhz10
  /-- Endpoints whose PERSTn_N has been released since boot start, as a mask (R507). -/
  perst : Nat := 0
  /-- What the fuses read at the first load, which every later load finds again. -/
  fuses : Option Fuses := none
  /-- DBG_KILL is blown: from the factory on an -L part, or by BLOW_DBG (R3, R4, R520). State.reset is a -C part; the
  same state with this field true is an -L part. -/
  blownDbg : Bool := false
  /-- Fuses blown by the device since it was made: KEY_REVOKED bits, number of SVN bits. -/
  blownKeys : Nat := 0
  blownSvn : Nat := 0
  /-- Value of FUSE_KEY that arms BLOW_DBG (R520). -/
  armed : Bool := false
  /-- Bytes of the flash; an unlisted address reads 0xFF, as erased flash does. Kept as 255 minus the byte. -/
  flash : Tab Nat := []
  /-- The 256 B page buffer. -/
  page : Tab Nat := []
  op : Option FlashOp := none
  /-- Copies 0 and 1 of the settings store; none without a good CRC. -/
  copy0 : Option SettingsCopy := none
  copy1 : Option SettingsCopy := none
  /-- Copy in use plus 1. -/
  copyUsed : Nat := 0
  /-- Start-up list window (R532). -/
  list : Tab (Nat × Nat) := []
  /-- Retirements not saved yet, and grid time of the last save by the device itself. -/
  savedRetired : Nat := 0
  lastSave : Nat := 0
  deriving DecidableEq, Repr

/-! ### The interconnect (R544 .. R549) -/

/-- A request that waits at a target of the interconnect. -/
structure IcReq where
  master : Nat
  target : Nat
  /-- The 64 B line of its address. -/
  line : Nat
  write : Bool
  /-- Grid time of its arrival. -/
  since : Nat
  /-- It has been held back once (R547). -/
  held : Bool := false
  deriving DecidableEq, Repr

structure IcState where
  /-- Requests that wait, the first to arrive at the front. -/
  waiting : List IcReq := []
  /-- The masters that each target has granted, the last first; at reset conductor core 0. -/
  recent : Tab (List Nat) := []
  /-- Target and master of what has been granted in this cycle. -/
  used : List (Nat × Nat) := []
  /-- Master, target and line of the writes that have been granted and are not complete. -/
  writes : List (Nat × Nat × Nat) := []
  /-- Requests held back (R547). -/
  heldCnt : Nat := 0
  deriving DecidableEq, Repr

/-! ### Debug port (22) -/

/-- A conductor core as the debug port sees it (R551): general registers 0 .. 31, PC and status word. -/
structure Conductor where
  regs : Tab Nat := []
  pc : Nat := 0
  status : Nat := 0
  deriving DecidableEq, Repr

/-- A running debug-space operation and what it will answer (R537). -/
structure DbgOp where
  /-- The result: 0 OK, 2 ERROR, 3 LOCKED. -/
  status : Nat
  data : Nat
  /-- The operation ends with the bus access that it started. -/
  bus : Bool := false
  deriving DecidableEq, Repr

/-- An access of the debug master in progress: its address, its data if it writes, and the grid time at which it started. -/
structure BusAccess where
  addr : Nat
  write : Option Nat
  since : Nat
  deriving DecidableEq, Repr

structure DbgState where
  /-- Instruction register of the TAP (R534). -/
  ir : Nat := 1
  op : Option DbgOp := none
  /-- What Capture-DR loads for DBG_ACCESS when no operation runs: STATUS and data. -/
  status : Nat := 0
  data : Nat := 0
  access : Option BusAccess := none
  /-- What the cells of the boundary register hold for the pins, cell i in bit i (R535). The spec gives them no value before
  the first scan: 0, DESIGN CHOICE, log 91. -/
  cells : Nat := 0
  cores : Tab Conductor := []
  /-- Words of conductor memory (R544) that the debug master has written while all four conductor cores were halted, by
  word address; every other word is the firmware's. -/
  cmem : Tab (Option Nat) := []
  /-- DBG_KILL as it stood at the last PIN or POR reset (R543). -/
  killed : Bool := false
  deriving DecidableEq, Repr

end Sys2Proof.Machine
end

