-- ==== Sys2Proof/Machine/State.lean ====
section
/-! DEFINITION. The state of the block as plain data, the reasons a step can stop, and the state after reset. -/

namespace Sys2Proof.Machine

/-- Reasons for which a step stops the block. -/
inductive Fault where
  /-- Raised by no meaning: the spec gives the block no error that stops it; every error it describes is an event, a
  status or a discarded access. Safe. -/
  | never
  deriving DecidableEq, Repr

/-- Reasons for which a command has no effect in the model. -/
inductive Refusal where
  /-- A command that the model gives no meaning yet, by its mnemonic. Raised by arms of exec only. Safe. -/
  | notModelled (mnemonic : String)
  deriving DecidableEq, Repr

/-- The whole state of the block. -/
structure State where
  /-- Commands that wait, the first at the front. -/
  pending : List Instr := []
  /-- Register fields whose value is not their reset value, by field key (R8, R34). -/
  regs : Tab Nat := []
  /-- The model's own counter: a free value of Config is applied to it and it advances. Log 1. -/
  free : Nat := 0
  /-- What has left the block, newest first. Log 7. -/
  out : List Output := []
  host : HostState := {}
  time : TimeState := {}
  take : TakeRun := {}
  store : StoreState := {}
  faults : FaultRun := {}
  cway : PairRun := {}
  sdi : SdiState := {}
  media : MediaState := {}
  lane : LaneState := {}
  audio : AudioState := {}
  aes : AesState := {}
  anc : AncState := {}
  probe : ProbeState := {}
  clk : ClkState := {}
  tow : TowState := {}
  boot : BootRun := {}
  ic : IcState := {}
  dbg : DbgState := {}
  deriving DecidableEq, Repr

/-- The block right after reset: every register at its reset value and every memory and queue empty. -/
def State.reset : State := {}

end Sys2Proof.Machine
end

