-- ==== Sys2Proof/Machine/Fabric.lean ====
section
/-! DEFINITION. Accesses of the interconnect that commands of the block make (R544, R545, R547). -/

namespace Sys2Proof.Machine

/-- Target t has granted master m: of those it has granted, m is now the last (R545). -/
def IcState.grant (x : IcState) (t m : Nat) : IcState :=
  { x with recent := Tab.set [4] x.recent t (m :: (Tab.get [4] x.recent t).filter (· != m)) }

/-- An earlier write of the master to one of the lines is not complete (R547). -/
def IcState.behind (x : IcState) (m t : Nat) (lines : List Nat) : Bool := lines.any (fun l => x.writes.contains (m, t, l))

/-- An access that is made by a command: it is granted in this cycle, and counted where it had to wait behind an earlier
write. A write is complete when the cycle ends. DESIGN CHOICE, log 69. -/
def IcState.access (x : IcState) (m t : Nat) (lines : List Nat) (write : Bool) : IcState :=
  let y := x.grant t m
  { y with
    used := (t, m) :: x.used
    heldCnt := if x.behind m t lines then x.heldCnt + 1 else x.heldCnt
    writes := if write then lines.map (fun l => (m, t, l)) ++ x.writes else x.writes }

/-- The 64 B lines of n bytes at an address. -/
def spanLines (addr n : Nat) : List Nat :=
  (List.range ((addr + n - 1) / 64 + 1 - addr / 64)).map (fun i => addr / 64 + i)

/-- What an output writes to the memory of a host: the partition, the address and the bytes. -/
def Output.hostWrite : Output → Option (Nat × Nat × Nat)
  | .completion p _ addr ws => some (p, addr, 4 * ws.length)
  | .event p _ addr ws => some (p, addr, 4 * ws.length)
  | .hostData p addr bytes => some (p, addr, bytes.length)
  | .msix p _ addr _ => some (p, addr, 4)
  | _ => none

/-- An output on its way: the writes of command engines and ring walkers (master 8) go to the host memory of the partition's
endpoint (targets 5 .. 8). -/
def IcState.sends (x : IcState) (o : Output) : IcState :=
  match o.hostWrite with
  | some (p, addr, n) => x.access 8 (5 + p / 2) (spanLines addr n) true
  | none => x

/-- Targets of an engine's own accesses for a descriptor, by its opcode: the flow table, ANC queue memory, probe core
memories, the frame store, else the register space. -/
def engineTargets (op : Nat) : List Nat :=
  if op = 0x40 ∨ op = 0x41 then [12]
  else if op = 0x32 ∨ op = 0x33 then [11]
  else if op = 0x50 ∨ op = 0x51 then [10]
  else if op = 0x30 ∨ op = 0x31 then [1, 2, 3, 4]
  else if op = 0x00 ∨ op = 0x01 then []
  else [0]

end Sys2Proof.Machine
end

