-- ==== Sys2Proof/Machine/RegControl.lean ====
section
/-! DEFINITION. The register fields of the Control blocks, one constant per field, transcribed from the field tables
of the spec: byte offset, strides, bits, type (R8), Keep class (R9), reset value and the value a write is stored as. -/

namespace Sys2Proof.Machine.Reg
open Sys2Proof.Machine

/-! ### GLB: 02_hosts_and_partitions.md R52 -/

def GLB_DEV_ID : Field := { base := 0x0, lo := 0, w := 16, ty := .ro, keep := .por, reset := fun _ _ => 0x1024 }
def GLB_SI_REV : Field := { base := 0x0, lo := 16, w := 8, ty := .ro, keep := .por, reset := fun _ _ => 1 }
def GLB_LINK_CFG : Field := { base := 0x4, lo := 0, w := 2, ty := .ro, keep := .pin }
def GLB_PART_PRESENT : Field := { base := 0x4, lo := 8, w := 8, ty := .ro, keep := .pin, reset := fun _ _ => 1 }
def GLB_DEPUTY : Field := { base := 0x8, lo := 0, w := 4, ty := .rw, norm := fun _ v => if 2 ≤ v ∧ v ≤ 8 then v else 0 }
def GLB_WARM_RST : Field := { base := 0xC, lo := 0, w := 1, ty := .wo }

/-- Every field of the GLB tables. -/
def fieldsGLB : List Field :=
  [GLB_DEV_ID, GLB_SI_REV, GLB_LINK_CFG, GLB_PART_PRESENT, GLB_DEPUTY, GLB_WARM_RST]


/-! ### PCB: 02_hosts_and_partitions.md R53, R91 -/

def PCB_PART_NUM : Field := { base := 0x1000, s1 := 0x1000, n1 := 8, lo := 0, w := 3, ty := .ro, keep := .por, reset := fun i _ => i }
def PCB_EP : Field := { base := 0x1000, s1 := 0x1000, n1 := 8, lo := 4, w := 2, ty := .ro, keep := .por, reset := fun i _ => i / 2 }
def PCB_FUNC : Field := { base := 0x1000, s1 := 0x1000, n1 := 8, lo := 8, w := 1, ty := .ro, keep := .por, reset := fun i _ => i % 2 }
def PCB_STATE : Field := { base := 0x1004, s1 := 0x1000, n1 := 8, lo := 0, w := 2, ty := .ro, keep := .part, reset := fun i _ => if i = 0 then 1 else 0 }
def PCB_REVOKING : Field := { base := 0x1004, s1 := 0x1000, n1 := 8, lo := 2, w := 1, ty := .ro }
def PCB_PART_RST : Field := { base := 0x1008, s1 := 0x1000, n1 := 8, lo := 0, w := 1, ty := .wo }
def PCB_REVOKE : Field := { base := 0x1008, s1 := 0x1000, n1 := 8, lo := 1, w := 1, ty := .wo, who := .deputy }
def PCB_ENABLE : Field := { base := 0x1008, s1 := 0x1000, n1 := 8, lo := 8, w := 1, ty := .rw, who := .sup, reset := fun i _ => if i = 0 then 1 else 0 }
def PCB_TICKETS : Field := { base := 0x100C, s1 := 0x1000, n1 := 8, lo := 0, w := 8, ty := .rw, who := .sup, reset := fun _ _ => 16 }
def PCB_LEASE_MS : Field := { base := 0x1010, s1 := 0x1000, n1 := 8, lo := 0, w := 16, ty := .rw, norm := fun _ v => if v = 0 then 0 else if v < 10 then 10 else if 60000 < v then 60000 else v }
def PCB_HEARTBEAT : Field := { base := 0x1014, s1 := 0x1000, n1 := 8, lo := 0, w := 32, ty := .wo }
def PCB_LEASE_LEFT : Field := { base := 0x1018, s1 := 0x1000, n1 := 8, lo := 0, w := 16, ty := .ro }
def PCB_CLAIM_ORI : Field := { base := 0x1020, s1 := 0x1000, n1 := 8, lo := 0, w := 12, ty := .wo }
def PCB_CLAIM_ACT : Field := { base := 0x1020, s1 := 0x1000, n1 := 8, lo := 12, w := 3, ty := .wo }
def PCB_CLAIM_TGT : Field := { base := 0x1020, s1 := 0x1000, n1 := 8, lo := 16, w := 3, ty := .wo, who := .sup }
def PCB_LAST_ORI : Field := { base := 0x1024, s1 := 0x1000, n1 := 8, lo := 0, w := 12, ty := .ro, keep := .part }
def PCB_LAST_ACT : Field := { base := 0x1024, s1 := 0x1000, n1 := 8, lo := 12, w := 3, ty := .ro, keep := .part }
def PCB_RESULT : Field := { base := 0x1024, s1 := 0x1000, n1 := 8, lo := 16, w := 4, ty := .ro, keep := .part }
def PCB_BUSY : Field := { base := 0x1024, s1 := 0x1000, n1 := 8, lo := 31, w := 1, ty := .ro, keep := .part }
def PCB_OWNED_CNT : Field := { base := 0x1028, s1 := 0x1000, n1 := 8, lo := 0, w := 12, ty := .ro }
def PCB_UNMAPPED : Field := { base := 0x1030, s1 := 0x1000, n1 := 8, lo := 0, w := 1, ty := .w1c, keep := .part }
def PCB_DENIED : Field := { base := 0x1030, s1 := 0x1000, n1 := 8, lo := 1, w := 1, ty := .w1c, keep := .part }
def PCB_WIDTH : Field := { base := 0x1030, s1 := 0x1000, n1 := 8, lo := 2, w := 1, ty := .w1c, keep := .part }
def PCB_CLAIM_BUSY : Field := { base := 0x1030, s1 := 0x1000, n1 := 8, lo := 3, w := 1, ty := .w1c, keep := .part }
def PCB_ERR_OFFSET : Field := { base := 0x1034, s1 := 0x1000, n1 := 8, lo := 0, w := 26, ty := .ro, keep := .part }
def PCB_ERR_BAR : Field := { base := 0x1034, s1 := 0x1000, n1 := 8, lo := 31, w := 1, ty := .ro, keep := .part }
def PCB_NMI_CLOCK : Field := { base := 0x1980, s1 := 0x1000, n1 := 8, lo := 0, w := 1, ty := .w1c, keep := .part }
def PCB_EVT_LOST : Field := { base := 0x1984, s1 := 0x1000, n1 := 8, lo := 0, w := 32, ty := .ro, keep := .part }

/-- Every field of the PCB tables. -/
def fieldsPCB : List Field :=
  [PCB_PART_NUM, PCB_EP, PCB_FUNC, PCB_STATE, PCB_REVOKING, PCB_PART_RST, PCB_REVOKE, PCB_ENABLE, PCB_TICKETS, PCB_LEASE_MS, PCB_HEARTBEAT, PCB_LEASE_LEFT, PCB_CLAIM_ORI, PCB_CLAIM_ACT, PCB_CLAIM_TGT, PCB_LAST_ORI, PCB_LAST_ACT, PCB_RESULT, PCB_BUSY, PCB_OWNED_CNT, PCB_UNMAPPED, PCB_DENIED, PCB_WIDTH, PCB_CLAIM_BUSY, PCB_ERR_OFFSET, PCB_ERR_BAR, PCB_NMI_CLOCK, PCB_EVT_LOST]


/-! ### RING: 03_command_rings.md R58 -/

def RING_CR_BASE_LO : Field := { base := 0x1100, s1 := 0x1000, n1 := 8, s2 := 0x20, n2 := 64, lo := 12, w := 20, ty := .rw, keep := .part }
def RING_CR_BASE_HI : Field := { base := 0x1104, s1 := 0x1000, n1 := 8, s2 := 0x20, n2 := 64, lo := 0, w := 32, ty := .rw, keep := .part }
def RING_CQ_BASE_LO : Field := { base := 0x1108, s1 := 0x1000, n1 := 8, s2 := 0x20, n2 := 64, lo := 12, w := 20, ty := .rw, keep := .part }
def RING_CQ_BASE_HI : Field := { base := 0x110C, s1 := 0x1000, n1 := 8, s2 := 0x20, n2 := 64, lo := 0, w := 32, ty := .rw, keep := .part }
def RING_SIZE_LOG2 : Field := { base := 0x1110, s1 := 0x1000, n1 := 8, s2 := 0x20, n2 := 64, lo := 0, w := 5, ty := .rw, keep := .part, norm := fun _ v => if 4 ≤ v ∧ v ≤ 16 then v else 0 }
def RING_ENABLE : Field := { base := 0x1110, s1 := 0x1000, n1 := 8, s2 := 0x20, n2 := 64, lo := 8, w := 1, ty := .rw, keep := .part }
def RING_VECTOR : Field := { base := 0x1110, s1 := 0x1000, n1 := 8, s2 := 0x20, n2 := 64, lo := 16, w := 6, ty := .rw, keep := .part }
def RING_INT_EN : Field := { base := 0x1110, s1 := 0x1000, n1 := 8, s2 := 0x20, n2 := 64, lo := 24, w := 1, ty := .rw, keep := .part }
def RING_COAL_US : Field := { base := 0x1114, s1 := 0x1000, n1 := 8, s2 := 0x20, n2 := 64, lo := 0, w := 16, ty := .rw, keep := .part }
def RING_COAL_CNT : Field := { base := 0x1114, s1 := 0x1000, n1 := 8, s2 := 0x20, n2 := 64, lo := 16, w := 16, ty := .rw, keep := .part }
def RING_HEAD : Field := { base := 0x1118, s1 := 0x1000, n1 := 8, s2 := 0x20, n2 := 64, lo := 0, w := 16, ty := .ro, keep := .part }
def RING_CQ_TAIL : Field := { base := 0x1118, s1 := 0x1000, n1 := 8, s2 := 0x20, n2 := 64, lo := 16, w := 16, ty := .ro, keep := .part }
def RING_ACTIVE : Field := { base := 0x111C, s1 := 0x1000, n1 := 8, s2 := 0x20, n2 := 64, lo := 0, w := 1, ty := .ro, keep := .part }
def RING_PARKED : Field := { base := 0x111C, s1 := 0x1000, n1 := 8, s2 := 0x20, n2 := 64, lo := 1, w := 1, ty := .ro, keep := .part }
def RING_CQ_FULL : Field := { base := 0x111C, s1 := 0x1000, n1 := 8, s2 := 0x20, n2 := 64, lo := 2, w := 1, ty := .ro, keep := .part }
def RING_HOST_FAULT : Field := { base := 0x111C, s1 := 0x1000, n1 := 8, s2 := 0x20, n2 := 64, lo := 3, w := 1, ty := .w1c, keep := .part }
def RING_DROPS : Field := { base := 0x111C, s1 := 0x1000, n1 := 8, s2 := 0x20, n2 := 64, lo := 16, w := 16, ty := .ro, keep := .part }

/-- Every field of the RING tables. -/
def fieldsRING : List Field :=
  [RING_CR_BASE_LO, RING_CR_BASE_HI, RING_CQ_BASE_LO, RING_CQ_BASE_HI, RING_SIZE_LOG2, RING_ENABLE, RING_VECTOR, RING_INT_EN, RING_COAL_US, RING_COAL_CNT, RING_HEAD, RING_CQ_TAIL, RING_ACTIVE, RING_PARKED, RING_CQ_FULL, RING_HOST_FAULT, RING_DROPS]


/-! ### ERING: 03_command_rings.md R58 -/

def ERING_CR_BASE_LO : Field := { base := 0x1900, s1 := 0x1000, n1 := 8, s2 := 0x20, n2 := 4, lo := 12, w := 20, ty := .rw, keep := .part }
def ERING_CR_BASE_HI : Field := { base := 0x1904, s1 := 0x1000, n1 := 8, s2 := 0x20, n2 := 4, lo := 0, w := 32, ty := .rw, keep := .part }
def ERING_SIZE_LOG2 : Field := { base := 0x1910, s1 := 0x1000, n1 := 8, s2 := 0x20, n2 := 4, lo := 0, w := 5, ty := .rw, keep := .part, norm := fun _ v => if 4 ≤ v ∧ v ≤ 16 then v else 0 }
def ERING_ENABLE : Field := { base := 0x1910, s1 := 0x1000, n1 := 8, s2 := 0x20, n2 := 4, lo := 8, w := 1, ty := .rw, keep := .part }
def ERING_VECTOR : Field := { base := 0x1910, s1 := 0x1000, n1 := 8, s2 := 0x20, n2 := 4, lo := 16, w := 6, ty := .rw, keep := .part }
def ERING_INT_EN : Field := { base := 0x1910, s1 := 0x1000, n1 := 8, s2 := 0x20, n2 := 4, lo := 24, w := 1, ty := .rw, keep := .part }
def ERING_COAL_US : Field := { base := 0x1914, s1 := 0x1000, n1 := 8, s2 := 0x20, n2 := 4, lo := 0, w := 16, ty := .rw, keep := .part }
def ERING_COAL_CNT : Field := { base := 0x1914, s1 := 0x1000, n1 := 8, s2 := 0x20, n2 := 4, lo := 16, w := 16, ty := .rw, keep := .part }
def ERING_CQ_TAIL : Field := { base := 0x1918, s1 := 0x1000, n1 := 8, s2 := 0x20, n2 := 4, lo := 16, w := 16, ty := .ro, keep := .part }
def ERING_CQ_FULL : Field := { base := 0x191C, s1 := 0x1000, n1 := 8, s2 := 0x20, n2 := 4, lo := 2, w := 1, ty := .ro, keep := .part }
def ERING_HOST_FAULT : Field := { base := 0x191C, s1 := 0x1000, n1 := 8, s2 := 0x20, n2 := 4, lo := 3, w := 1, ty := .w1c, keep := .part }
def ERING_DROPS : Field := { base := 0x191C, s1 := 0x1000, n1 := 8, s2 := 0x20, n2 := 4, lo := 16, w := 16, ty := .ro, keep := .part }

/-- Every field of the ERING tables. -/
def fieldsERING : List Field :=
  [ERING_CR_BASE_LO, ERING_CR_BASE_HI, ERING_SIZE_LOG2, ERING_ENABLE, ERING_VECTOR, ERING_INT_EN, ERING_COAL_US, ERING_COAL_CNT, ERING_CQ_TAIL, ERING_CQ_FULL, ERING_HOST_FAULT, ERING_DROPS]


/-! ### TK: 06_takes_and_mileposts.md R193 -/

def TK_DEFER_MAX : Field := { base := 0x1A00, s1 := 0x1000, n1 := 8, lo := 0, w := 4, ty := .rw, reset := fun _ _ => 3 }
def TK_ACTIVE : Field := { base := 0x1A04, s1 := 0x1000, n1 := 8, lo := 0, w := 1, ty := .ro }
def TK_FLIP_STATE : Field := { base := 0x1A04, s1 := 0x1000, n1 := 8, lo := 4, w := 2, ty := .ro }
def TK_DISCARD : Field := { base := 0x1A04, s1 := 0x1000, n1 := 8, lo := 8, w := 1, ty := .wo }
def TK_BANK_CHANGES : Field := { base := 0x1A08, s1 := 0x1000, n1 := 8, lo := 0, w := 32, ty := .ro }
def TK_FLIP_T_LO : Field := { base := 0x1A0C, s1 := 0x1000, n1 := 8, lo := 0, w := 32, ty := .ro }
def TK_FLIP_T_HI : Field := { base := 0x1A10, s1 := 0x1000, n1 := 8, lo := 0, w := 32, ty := .ro }
def TK_GROUPS_OPEN : Field := { base := 0x1A14, s1 := 0x1000, n1 := 8, lo := 0, w := 9, ty := .ro }
def TK_GROUPS_SCHED : Field := { base := 0x1A14, s1 := 0x1000, n1 := 8, lo := 16, w := 9, ty := .ro }
def TK_NEXT_T_LO : Field := { base := 0x1A18, s1 := 0x1000, n1 := 8, lo := 0, w := 32, ty := .ro }
def TK_NEXT_T_HI : Field := { base := 0x1A1C, s1 := 0x1000, n1 := 8, lo := 0, w := 32, ty := .ro }
def TK_APPLIED : Field := { base := 0x1A20, s1 := 0x1000, n1 := 8, lo := 0, w := 32, ty := .ro }
def TK_DEFERRED : Field := { base := 0x1A24, s1 := 0x1000, n1 := 8, lo := 0, w := 32, ty := .ro }
def TK_REFUSED : Field := { base := 0x1A28, s1 := 0x1000, n1 := 8, lo := 0, w := 32, ty := .ro }

/-- Every field of the TK tables. -/
def fieldsTK : List Field :=
  [TK_DEFER_MAX, TK_ACTIVE, TK_FLIP_STATE, TK_DISCARD, TK_BANK_CHANGES, TK_FLIP_T_LO, TK_FLIP_T_HI, TK_GROUPS_OPEN, TK_GROUPS_SCHED, TK_NEXT_T_LO, TK_NEXT_T_HI, TK_APPLIED, TK_DEFERRED, TK_REFUSED]


/-! ### OWN: 02_hosts_and_partitions.md R41 -/

def OWN_OWNER : Field := { base := 0x10000, s1 := 0x4, n1 := 3072, lo := 0, w := 4, ty := .ro }
def OWN_SHARED : Field := { base := 0x10000, s1 := 0x4, n1 := 3072, lo := 4, w := 1, ty := .ro }
def OWN_REFS : Field := { base := 0x10000, s1 := 0x4, n1 := 3072, lo := 16, w := 12, ty := .ro }

/-- Every field of the OWN tables. -/
def fieldsOWN : List Field :=
  [OWN_OWNER, OWN_SHARED, OWN_REFS]


/-! ### CMDENG: 03_command_rings.md R97 -/

def CMDENG_CMD_FREEZE : Field := { base := 0x18000, s1 := 0x100, n1 := 16, lo := 0, w := 1, ty := .rw }
def CMDENG_ENG_RST : Field := { base := 0x18000, s1 := 0x100, n1 := 16, lo := 1, w := 1, ty := .wo }
def CMDENG_BUSY : Field := { base := 0x18004, s1 := 0x100, n1 := 16, lo := 0, w := 1, ty := .ro }
def CMDENG_DRAINED : Field := { base := 0x18004, s1 := 0x100, n1 := 16, lo := 1, w := 1, ty := .ro }
def CMDENG_CUR_PART : Field := { base := 0x18004, s1 := 0x100, n1 := 16, lo := 4, w := 3, ty := .ro }
def CMDENG_CUR_RING : Field := { base := 0x18004, s1 := 0x100, n1 := 16, lo := 8, w := 6, ty := .ro }
def CMDENG_LAYBY : Field := { base := 0x18004, s1 := 0x100, n1 := 16, lo := 16, w := 7, ty := .ro }
def CMDENG_WDOG_US : Field := { base := 0x18008, s1 := 0x100, n1 := 16, lo := 0, w := 16, ty := .rw, reset := fun _ _ => 1000 }
def CMDENG_LFSR_SEED : Field := { base := 0x1800C, s1 := 0x100, n1 := 16, lo := 0, w := 32, ty := .rw, reset := fun i _ => i + 1 }

/-- Every field of the CMDENG tables. -/
def fieldsCMDENG : List Field :=
  [CMDENG_CMD_FREEZE, CMDENG_ENG_RST, CMDENG_BUSY, CMDENG_DRAINED, CMDENG_CUR_PART, CMDENG_CUR_RING, CMDENG_LAYBY, CMDENG_WDOG_US, CMDENG_LFSR_SEED]


/-! ### EVT: 03_command_rings.md R90 -/

def EVT_MASK : Field := { base := 0x20000, s1 := 0x8, n1 := 1024, lo := 0, w := 8, ty := .rw, reset := fun i _ => bit (eventListed i), norm := fun i v => if eventListed i then v else 0 }
def EVT_RING : Field := { base := 0x20000, s1 := 0x8, n1 := 1024, lo := 8, w := 2, ty := .rw, norm := fun i v => if eventListed i then v else 0 }
def EVT_NONMASK : Field := { base := 0x20000, s1 := 0x8, n1 := 1024, lo := 12, w := 1, ty := .ro, keep := .por, reset := fun i _ => if i = 0x010 then 1 else 0 }
def EVT_SUPPRESS : Field := { base := 0x20000, s1 := 0x8, n1 := 1024, lo := 16, w := 1, ty := .rw, norm := fun i v => if eventListed i then v else 0 }
def EVT_COUNT : Field := { base := 0x20004, s1 := 0x8, n1 := 1024, lo := 0, w := 32, ty := .ro }

/-- Every field of the EVT tables. -/
def fieldsEVT : List Field :=
  [EVT_MASK, EVT_RING, EVT_NONMASK, EVT_SUPPRESS, EVT_COUNT]


/-! ### FLT: 18_faults_and_events.md R471 -/

def FLT_SAFE : Field := { base := 0x24000, lo := 0, w := 1, ty := .ro }
def FLT_FATAL : Field := { base := 0x24000, lo := 1, w := 1, ty := .ro, keep := .por }
def FLT_HIGHEST : Field := { base := 0x24000, lo := 2, w := 3, ty := .ro }
def FLT_SAFE_REC : Field := { base := 0x24000, lo := 8, w := 4, ty := .ro }
def FLT_ACTIVE_CNT : Field := { base := 0x24000, lo := 16, w := 5, ty := .ro }
def FLT_OVERFLOW : Field := { base := 0x24000, lo := 24, w := 1, ty := .w1c }
def FLT_FN_MIN : Field := { base := 0x24004, lo := 0, w := 3, ty := .rw, reset := fun _ _ => 2, norm := fun _ v => if v = 1 then 2 else zeroAbove 4 v }
def FLT_ACK_REC : Field := { base := 0x24008, lo := 0, w := 4, ty := .wo }
def FLT_ACK_GO : Field := { base := 0x24008, lo := 8, w := 1, ty := .wo }
def FLT_SAFE_T_LO : Field := { base := 0x24010, lo := 0, w := 32, ty := .ro, keep := .por }
def FLT_SAFE_T_HI : Field := { base := 0x24014, lo := 0, w := 32, ty := .ro, keep := .por }
def FLT_SAFE_LAT_NS : Field := { base := 0x24018, lo := 0, w := 32, ty := .ro, keep := .por }
def FLT_SAFE_COUNT : Field := { base := 0x2401C, lo := 0, w := 32, ty := .ro, keep := .por }
def FLT_FATAL_EVENT : Field := { base := 0x24020, lo := 0, w := 10, ty := .ro, keep := .por }

/-- Every field of the FLT tables. -/
def fieldsFLT : List Field :=
  [FLT_SAFE, FLT_FATAL, FLT_HIGHEST, FLT_SAFE_REC, FLT_ACTIVE_CNT, FLT_OVERFLOW, FLT_FN_MIN, FLT_ACK_REC, FLT_ACK_GO, FLT_SAFE_T_LO, FLT_SAFE_T_HI, FLT_SAFE_LAT_NS, FLT_SAFE_COUNT, FLT_FATAL_EVENT]


/-! ### FREC: 18_faults_and_events.md R471 -/

def FREC_EVENT : Field := { base := 0x24100, s1 := 0x20, n1 := 16, lo := 0, w := 10, ty := .ro, keep := .por }
def FREC_CLASS : Field := { base := 0x24100, s1 := 0x20, n1 := 16, lo := 12, w := 3, ty := .ro, keep := .por }
def FREC_ACTIVE : Field := { base := 0x24100, s1 := 0x20, n1 := 16, lo := 16, w := 1, ty := .ro }
def FREC_HOLDS : Field := { base := 0x24100, s1 := 0x20, n1 := 16, lo := 17, w := 1, ty := .ro }
def FREC_CAUSED_SAFE : Field := { base := 0x24100, s1 := 0x20, n1 := 16, lo := 18, w := 1, ty := .ro, keep := .por }
def FREC_ESCALATED : Field := { base := 0x24100, s1 := 0x20, n1 := 16, lo := 19, w := 1, ty := .ro, keep := .por }
def FREC_VALID : Field := { base := 0x24100, s1 := 0x20, n1 := 16, lo := 20, w := 1, ty := .ro, keep := .por }
def FREC_INDEX : Field := { base := 0x24104, s1 := 0x20, n1 := 16, lo := 0, w := 16, ty := .ro, keep := .por }
def FREC_SUB : Field := { base := 0x24104, s1 := 0x20, n1 := 16, lo := 16, w := 16, ty := .ro, keep := .por }
def FREC_TIME_LO : Field := { base := 0x24108, s1 := 0x20, n1 := 16, lo := 0, w := 32, ty := .ro, keep := .por }
def FREC_TIME_HI : Field := { base := 0x2410C, s1 := 0x20, n1 := 16, lo := 0, w := 32, ty := .ro, keep := .por }
def FREC_DATA_LO : Field := { base := 0x24110, s1 := 0x20, n1 := 16, lo := 0, w := 32, ty := .ro, keep := .por }
def FREC_DATA_HI : Field := { base := 0x24114, s1 := 0x20, n1 := 16, lo := 0, w := 32, ty := .ro, keep := .por }
def FREC_MERGES : Field := { base := 0x24118, s1 := 0x20, n1 := 16, lo := 0, w := 16, ty := .ro, keep := .por }
def FREC_LAST_EVENT : Field := { base := 0x24118, s1 := 0x20, n1 := 16, lo := 16, w := 10, ty := .ro, keep := .por }
def FREC_LAST_TIME : Field := { base := 0x2411C, s1 := 0x20, n1 := 16, lo := 0, w := 32, ty := .ro, keep := .por }

/-- Every field of the FREC tables. -/
def fieldsFREC : List Field :=
  [FREC_EVENT, FREC_CLASS, FREC_ACTIVE, FREC_HOLDS, FREC_CAUSED_SAFE, FREC_ESCALATED, FREC_VALID, FREC_INDEX, FREC_SUB, FREC_TIME_LO, FREC_TIME_HI, FREC_DATA_LO, FREC_DATA_HI, FREC_MERGES, FREC_LAST_EVENT, FREC_LAST_TIME]


/-! ### FSEV: 18_faults_and_events.md R471 -/

def FSEV_CLASS : Field := { base := 0x25000, s1 := 0x4, n1 := 1024, lo := 0, w := 3, ty := .rw, reset := fun i _ => eventFloor i, norm := fun i v => storedClass i v }
def FSEV_FLOOR : Field := { base := 0x25000, s1 := 0x4, n1 := 1024, lo := 4, w := 3, ty := .ro, keep := .por, reset := fun i _ => eventFloor i }

/-- Every field of the FSEV tables. -/
def fieldsFSEV : List Field :=
  [FSEV_CLASS, FSEV_FLOOR]


end Sys2Proof.Machine.Reg
end

