-- ==== Sys2Proof/Machine/RegTiming.lean ====
section
/-! DEFINITION. The register fields of the Timing blocks, one constant per field, transcribed from the field tables
of the spec: byte offset, strides, bits, type (R8), Keep class (R9), reset value and the value a write is stored as. -/

namespace Sys2Proof.Machine.Reg
open Sys2Proof.Machine

/-! ### TM: 04_timing_core.md R126 -/

def TM_STATE : Field := { base := 0x30000, lo := 0, w := 2, ty := .ro }
def TM_LOCKED : Field := { base := 0x30000, lo := 2, w := 1, ty := .ro }
def TM_HOLDOVER : Field := { base := 0x30000, lo := 3, w := 1, ty := .ro }
def TM_STEP_PENDING : Field := { base := 0x30000, lo := 4, w := 1, ty := .ro }
def TM_OOS : Field := { base := 0x30000, lo := 5, w := 1, ty := .ro }
def TM_SET : Field := { base := 0x30000, lo := 6, w := 1, ty := .ro }
def TM_SEL_REF : Field := { base := 0x30000, lo := 8, w := 4, ty := .ro }
def TM_REVERTIVE : Field := { base := 0x30004, lo := 0, w := 1, ty := .rw, reset := fun _ _ => 1 }
def TM_NOW_LO : Field := { base := 0x30008, lo := 0, w := 32, ty := .ro }
def TM_NOW_HI : Field := { base := 0x3000C, lo := 0, w := 32, ty := .ro }
def TM_STEP_PEND_LO : Field := { base := 0x30010, lo := 0, w := 32, ty := .ro }
def TM_STEP_PEND_HI : Field := { base := 0x30014, lo := 0, w := 32, ty := .ro }
def TM_JUMP_NS : Field := { base := 0x30018, lo := 0, w := 32, ty := .rw, reset := fun _ _ => 1000 }
def TM_SLEW_PPB : Field := { base := 0x3001C, lo := 0, w := 16, ty := .rw, reset := fun _ _ => 10000 }
def TM_HOLDOFF_MS : Field := { base := 0x30020, lo := 0, w := 16, ty := .rw, reset := fun _ _ => 300 }
def TM_WTR_S : Field := { base := 0x30024, lo := 0, w := 16, ty := .rw, reset := fun _ _ => 60 }
def TM_OOS_S : Field := { base := 0x30028, lo := 0, w := 32, ty := .rw, reset := fun _ _ => 1800 }
def TM_HO_ELAPSED_S : Field := { base := 0x3002C, lo := 0, w := 32, ty := .ro }
def TM_SET_LO : Field := { base := 0x30030, lo := 0, w := 32, ty := .rw }
def TM_SET_HI : Field := { base := 0x30034, lo := 0, w := 32, ty := .rw }
def TM_SET_GO : Field := { base := 0x30038, lo := 0, w := 1, ty := .wo }
def TM_UTC_OFS : Field := { base := 0x3003C, lo := 0, w := 16, ty := .rw, reset := fun _ _ => 37 }
def TM_HO_MANUAL : Field := { base := 0x30040, lo := 0, w := 1, ty := .rw }
def TM_HO_FREQ : Field := { base := 0x30044, lo := 0, w := 32, ty := .rw }
def TM_HO_AGE : Field := { base := 0x30048, lo := 0, w := 32, ty := .rw }
def TM_PEER_OFS : Field := { base := 0x30050, lo := 0, w := 32, ty := .ro }

/-- Every field of the TM tables. -/
def fieldsTM : List Field :=
  [TM_STATE, TM_LOCKED, TM_HOLDOVER, TM_STEP_PENDING, TM_OOS, TM_SET, TM_SEL_REF, TM_REVERTIVE, TM_NOW_LO, TM_NOW_HI, TM_STEP_PEND_LO, TM_STEP_PEND_HI, TM_JUMP_NS, TM_SLEW_PPB, TM_HOLDOFF_MS, TM_WTR_S, TM_OOS_S, TM_HO_ELAPSED_S, TM_SET_LO, TM_SET_HI, TM_SET_GO, TM_UTC_OFS, TM_HO_MANUAL, TM_HO_FREQ, TM_HO_AGE, TM_PEER_OFS]


/-! ### REF: 04_timing_core.md R126 -/

def REF_PRIO : Field := { base := 0x30100, s1 := 0x20, n1 := 11, lo := 0, w := 4, ty := .rw, reset := fun i _ => if i = 10 then 15 else 0, only := fun i => 1 ≤ i }
def REF_QUAL : Field := { base := 0x30100, s1 := 0x20, n1 := 11, lo := 8, w := 8, ty := .rw, reset := fun i _ => refQualReset i, only := fun i => 1 ≤ i }
def REF_BW : Field := { base := 0x30100, s1 := 0x20, n1 := 11, lo := 16, w := 3, ty := .rw, only := fun i => 1 ≤ i }
def REF_INPUT : Field := { base := 0x30104, s1 := 0x20, n1 := 11, lo := 0, w := 9, ty := .rw, only := fun i => 1 ≤ i }
def REF_MODE : Field := { base := 0x30104, s1 := 0x20, n1 := 11, lo := 9, w := 2, ty := .rw, only := fun i => 1 ≤ i }
def REF_PULSE_RATE : Field := { base := 0x30104, s1 := 0x20, n1 := 11, lo := 12, w := 4, ty := .rw, norm := fun _ v => zeroAbove 8 v, only := fun i => 1 ≤ i }
def REF_DOMAIN : Field := { base := 0x30104, s1 := 0x20, n1 := 11, lo := 16, w := 7, ty := .rw, reset := fun _ _ => 127, only := fun i => 1 ≤ i }
def REF_DREQ_UC : Field := { base := 0x30104, s1 := 0x20, n1 := 11, lo := 24, w := 1, ty := .rw, only := fun i => 1 ≤ i }
def REF_RSTATE : Field := { base := 0x30108, s1 := 0x20, n1 := 11, lo := 0, w := 2, ty := .ro, only := fun i => 1 ≤ i }
def REF_SELECTED : Field := { base := 0x30108, s1 := 0x20, n1 := 11, lo := 2, w := 1, ty := .ro, only := fun i => 1 ≤ i }
def REF_LOST_SEEN : Field := { base := 0x30108, s1 := 0x20, n1 := 11, lo := 3, w := 1, ty := .w1c, only := fun i => 1 ≤ i }
def REF_QUAL_EFF : Field := { base := 0x30108, s1 := 0x20, n1 := 11, lo := 8, w := 8, ty := .ro, only := fun i => 1 ≤ i }
def REF_PHASE_ERR : Field := { base := 0x3010C, s1 := 0x20, n1 := 11, lo := 0, w := 32, ty := .ro, only := fun i => 1 ≤ i }
def REF_QUAL_TIME_S : Field := { base := 0x30110, s1 := 0x20, n1 := 11, lo := 0, w := 32, ty := .ro, only := fun i => 1 ≤ i }

/-- Every field of the REF tables. -/
def fieldsREF : List Field :=
  [REF_PRIO, REF_QUAL, REF_BW, REF_INPUT, REF_MODE, REF_PULSE_RATE, REF_DOMAIN, REF_DREQ_UC, REF_RSTATE, REF_SELECTED, REF_LOST_SEEN, REF_QUAL_EFF, REF_PHASE_ERR, REF_QUAL_TIME_S]


/-! ### PLANE: 04_timing_core.md R126 -/

def PLANE_RATE : Field := { base := 0x30400, s1 := 0x40, n1 := 8, lo := 0, w := 4, ty := .rw, norm := fun _ v => zeroAbove 8 v }
def PLANE_LINES : Field := { base := 0x30400, s1 := 0x40, n1 := 8, lo := 4, w := 3, ty := .rw, norm := fun _ v => zeroAbove 5 v }
def PLANE_SCAN : Field := { base := 0x30400, s1 := 0x40, n1 := 8, lo := 8, w := 1, ty := .rw }
def PLANE_OFFSET_NS : Field := { base := 0x30404, s1 := 0x40, n1 := 8, lo := 0, w := 32, ty := .rw }
def PLANE_PH_SLEW_NS : Field := { base := 0x30408, s1 := 0x40, n1 := 8, lo := 0, w := 16, ty := .rw }
def PLANE_USERS : Field := { base := 0x3040C, s1 := 0x40, n1 := 8, lo := 0, w := 12, ty := .ro }
def PLANE_FRAME_IDX : Field := { base := 0x30410, s1 := 0x40, n1 := 8, lo := 0, w := 32, ty := .ro }

/-- Every field of the PLANE tables. -/
def fieldsPLANE : List Field :=
  [PLANE_RATE, PLANE_LINES, PLANE_SCAN, PLANE_OFFSET_NS, PLANE_PH_SLEW_NS, PLANE_USERS, PLANE_FRAME_IDX]


/-! ### APLANE: 04_timing_core.md R126 -/

def APLANE_SRC : Field := { base := 0x30600, lo := 0, w := 2, ty := .rw, reset := fun _ _ => 1, norm := fun _ v => if v = 0 then 1 else v }
def APLANE_DARS_IN : Field := { base := 0x30600, lo := 8, w := 6, ty := .rw }
def APLANE_A_OFFSET_NS : Field := { base := 0x30604, lo := 0, w := 32, ty := .rw, norm := fun _ v => zeroIfMagOver 32 20833 v }
def APLANE_A_LOCKED : Field := { base := 0x30608, lo := 0, w := 1, ty := .ro }
def APLANE_A_HOLDOVER : Field := { base := 0x30608, lo := 1, w := 1, ty := .ro }
def APLANE_WCLK_PRESENT : Field := { base := 0x30608, lo := 2, w := 1, ty := .ro }

/-- Every field of the APLANE tables. -/
def fieldsAPLANE : List Field :=
  [APLANE_SRC, APLANE_DARS_IN, APLANE_A_OFFSET_NS, APLANE_A_LOCKED, APLANE_A_HOLDOVER, APLANE_WCLK_PRESENT]


/-! ### CLK: 19_clocks_and_islands.md R487 -/

def CLK_ROSC_OK : Field := { base := 0x40000, lo := 0, w := 1, ty := .ro, keep := .por }
def CLK_PRE_TRIP : Field := { base := 0x40000, lo := 1, w := 1, ty := .ro, keep := .por }
def CLK_CORE_SRC : Field := { base := 0x40000, lo := 2, w := 2, ty := .ro, keep := .por }
def CLK_MEM_SRC : Field := { base := 0x40000, lo := 4, w := 2, ty := .ro, keep := .por }
def CLK_TIME_SRC : Field := { base := 0x40000, lo := 6, w := 1, ty := .ro, keep := .por }
def CLK_AON_SRC : Field := { base := 0x40000, lo := 7, w := 1, ty := .ro, keep := .por }
def CLK_TOW_SRC : Field := { base := 0x40000, lo := 8, w := 1, ty := .ro, keep := .por }
def CLK_RAMPS : Field := { base := 0x40000, lo := 16, w := 5, ty := .ro, keep := .por }
def CLK_SSC_DEPTH : Field := { base := 0x40004, lo := 0, w := 4, ty := .rw, reset := fun _ _ => 6, norm := fun _ v => capAt 10 v }
def CLK_SSC_RATE_KHZ : Field := { base := 0x40004, lo := 8, w := 5, ty := .rw, reset := fun _ _ => 31, norm := fun _ v => if 30 ≤ v ∧ v ≤ 33 then v else 31 }
def CLK_RAMP_STEP_NS : Field := { base := 0x40004, lo := 16, w := 12, ty := .rw, reset := fun _ _ => 200, norm := fun _ v => raiseTo 100 v }
def CLK_RETURN_MS : Field := { base := 0x40008, lo := 0, w := 16, ty := .rw, reset := fun _ _ => 100 }
def CLK_FREQ_TOL_PPM : Field := { base := 0x40008, lo := 16, w := 16, ty := .rw, reset := fun _ _ => 1000 }
def CLK_FORCED_CNT : Field := { base := 0x4000C, lo := 0, w := 32, ty := .ro, keep := .por }

/-- Every field of the CLK tables. -/
def fieldsCLK : List Field :=
  [CLK_ROSC_OK, CLK_PRE_TRIP, CLK_CORE_SRC, CLK_MEM_SRC, CLK_TIME_SRC, CLK_AON_SRC, CLK_TOW_SRC, CLK_RAMPS, CLK_SSC_DEPTH, CLK_SSC_RATE_KHZ, CLK_RAMP_STEP_NS, CLK_RETURN_MS, CLK_FREQ_TOL_PPM, CLK_FORCED_CNT]


/-! ### CLKMON: 19_clocks_and_islands.md R488 -/

def CLKMON_EN : Field := { base := 0x40100, s1 := 0x10, n1 := 10, lo := 0, w := 1, ty := .rw, reset := fun _ _ => 1, norm := fun i v => if i ≤ 1 ∨ 6 ≤ i then 1 else v }
def CLKMON_MSTATE : Field := { base := 0x40100, s1 := 0x10, n1 := 10, lo := 4, w := 2, ty := .ro, keep := .por }
def CLKMON_CMP_ALT : Field := { base := 0x40100, s1 := 0x10, n1 := 10, lo := 8, w := 1, ty := .ro, keep := .por }
def CLKMON_LAST_PPM : Field := { base := 0x40104, s1 := 0x10, n1 := 10, lo := 0, w := 32, ty := .ro, keep := .por }
def CLKMON_TRIPS : Field := { base := 0x40108, s1 := 0x10, n1 := 10, lo := 0, w := 32, ty := .ro, keep := .por }

/-- Every field of the CLKMON tables. -/
def fieldsCLKMON : List Field :=
  [CLKMON_EN, CLKMON_MSTATE, CLKMON_CMP_ALT, CLKMON_LAST_PPM, CLKMON_TRIPS]


/-! ### CLKISL: 19_clocks_and_islands.md R488 -/

def CLKISL_DIV_NOW : Field := { base := 0x40400, s1 := 0x4, n1 := 145, lo := 0, w := 9, ty := .ro, keep := .por }
def CLKISL_DIV_NOM : Field := { base := 0x40400, s1 := 0x4, n1 := 145, lo := 16, w := 9, ty := .ro, keep := .por, reset := fun i _ => icgNominal i }
def CLKISL_RAMPING : Field := { base := 0x40400, s1 := 0x4, n1 := 145, lo := 28, w := 1, ty := .ro, keep := .por }
def CLKISL_SSC : Field := { base := 0x40400, s1 := 0x4, n1 := 145, lo := 29, w := 1, ty := .ro, keep := .por }
def CLKISL_STOPPED : Field := { base := 0x40400, s1 := 0x4, n1 := 145, lo := 30, w := 1, ty := .ro, keep := .por, reset := fun _ _ => 1 }

/-- Every field of the CLKISL tables. -/
def fieldsCLKISL : List Field :=
  [CLKISL_DIV_NOW, CLKISL_DIV_NOM, CLKISL_RAMPING, CLKISL_SSC, CLKISL_STOPPED]


/-! ### PWR: 21_boot_firmware_resets.md R533 -/

def PWR_DOM_OFF : Field := { base := 0x41000, lo := 0, w := 8, ty := .ro }
def PWR_LAST_REFUSED : Field := { base := 0x41004, lo := 0, w := 8, ty := .ro }
def PWR_REFUSED_CNT : Field := { base := 0x41008, lo := 0, w := 32, ty := .ro }

/-- Every field of the PWR tables. -/
def fieldsPWR : List Field :=
  [PWR_DOM_OFF, PWR_LAST_REFUSED, PWR_REFUSED_CNT]


/-! ### DOM: 21_boot_firmware_resets.md R533 -/

def DOM_REQ : Field := { base := 0x41100, s1 := 0x4, n1 := 184, lo := 0, w := 1, ty := .rw, reset := fun _ _ => 1 }
def DOM_DSTATE : Field := { base := 0x41100, s1 := 0x4, n1 := 184, lo := 1, w := 2, ty := .ro }
def DOM_GATEABLE : Field := { base := 0x41100, s1 := 0x4, n1 := 184, lo := 3, w := 1, ty := .ro, keep := .por, reset := fun i _ => if domainGateable i then 1 else 0 }
def DOM_REFUSE : Field := { base := 0x41100, s1 := 0x4, n1 := 184, lo := 4, w := 4, ty := .ro }
def DOM_ISL_RST : Field := { base := 0x41100, s1 := 0x4, n1 := 184, lo := 8, w := 1, ty := .wo }
def DOM_LOCKED_OFF : Field := { base := 0x41100, s1 := 0x4, n1 := 184, lo := 9, w := 1, ty := .ro, keep := .por }

/-- Every field of the DOM tables. -/
def fieldsDOM : List Field :=
  [DOM_REQ, DOM_DSTATE, DOM_GATEABLE, DOM_REFUSE, DOM_ISL_RST, DOM_LOCKED_OFF]


/-! ### BOOT: 21_boot_firmware_resets.md R532 -/

def BOOT_STAGE : Field := { base := 0x42000, lo := 0, w := 3, ty := .ro, keep := .pin }
def BOOT_MODE : Field := { base := 0x42000, lo := 4, w := 2, ty := .ro, keep := .pin }
def BOOT_TESTMODE_SEEN : Field := { base := 0x42000, lo := 6, w := 1, ty := .ro, keep := .pin }
def BOOT_BANK : Field := { base := 0x42000, lo := 8, w := 1, ty := .ro, keep := .pin }
def BOOT_FALLBACK : Field := { base := 0x42000, lo := 9, w := 1, ty := .ro, keep := .pin }
def BOOT_PREF : Field := { base := 0x42000, lo := 10, w := 1, ty := .ro, keep := .pin }
def BOOT_SERVICE : Field := { base := 0x42000, lo := 12, w := 1, ty := .ro }
def BOOT_SET_DEFAULTS : Field := { base := 0x42000, lo := 13, w := 1, ty := .ro }
def BOOT_MIGRATING : Field := { base := 0x42000, lo := 14, w := 1, ty := .ro }
def BOOT_REVOKE_HELD : Field := { base := 0x42000, lo := 15, w := 1, ty := .ro, keep := .pin }
def BOOT_LAST_RESET : Field := { base := 0x42000, lo := 16, w := 4, ty := .ro, keep := .por, reset := fun _ _ => 1 }
def BOOT_CAUSE_A : Field := { base := 0x42004, lo := 0, w := 4, ty := .ro, keep := .pin }
def BOOT_CAUSE_B : Field := { base := 0x42004, lo := 4, w := 4, ty := .ro, keep := .pin }
def BOOT_IMG_VER : Field := { base := 0x42008, lo := 0, w := 32, ty := .ro, keep := .pin }
def BOOT_SET_VER : Field := { base := 0x4200C, lo := 0, w := 16, ty := .ro }
def BOOT_SVN_FUSE : Field := { base := 0x42010, lo := 0, w := 7, ty := .ro, keep := .por }
def BOOT_KEY_REVOKED : Field := { base := 0x42010, lo := 8, w := 3, ty := .ro, keep := .por }
def BOOT_KEY_USED : Field := { base := 0x42010, lo := 12, w := 2, ty := .ro, keep := .pin }
def BOOT_DBG_KILL : Field := { base := 0x42010, lo := 16, w := 1, ty := .ro, keep := .por }
def BOOT_TEST_KILL : Field := { base := 0x42010, lo := 17, w := 1, ty := .ro, keep := .por, reset := fun _ _ => 1 }
def BOOT_FL_ADDR : Field := { base := 0x42020, lo := 0, w := 28, ty := .rw, norm := fun _ v => v / 4 * 4 }
def BOOT_FL_DATA : Field := { base := 0x42024, lo := 0, w := 32, ty := .rw }
def BOOT_FL_CMD : Field := { base := 0x42028, lo := 0, w := 4, ty := .wo }
def BOOT_FL_BUSY : Field := { base := 0x4202C, lo := 0, w := 1, ty := .ro }
def BOOT_FL_ERR : Field := { base := 0x4202C, lo := 1, w := 1, ty := .w1c }
def BOOT_FL_CAUSE : Field := { base := 0x4202C, lo := 4, w := 4, ty := .ro }
def BOOT_SET_IDX : Field := { base := 0x42030, lo := 0, w := 12, ty := .rw }
def BOOT_SET_OFS : Field := { base := 0x42034, lo := 0, w := 26, ty := .rw }
def BOOT_SET_VAL : Field := { base := 0x42038, lo := 0, w := 32, ty := .rw }
def BOOT_SET_LEN : Field := { base := 0x4203C, lo := 0, w := 13, ty := .rw, norm := fun _ v => capAt 4096 v }
def BOOT_SET_SKIPPED : Field := { base := 0x4203C, lo := 16, w := 16, ty := .ro }
def BOOT_FUSE_KEY : Field := { base := 0x42040, lo := 0, w := 32, ty := .wo }
def BOOT_BLOW_DBG : Field := { base := 0x42044, lo := 0, w := 1, ty := .wo }

/-- Every field of the BOOT tables. -/
def fieldsBOOT : List Field :=
  [BOOT_STAGE, BOOT_MODE, BOOT_TESTMODE_SEEN, BOOT_BANK, BOOT_FALLBACK, BOOT_PREF, BOOT_SERVICE, BOOT_SET_DEFAULTS, BOOT_MIGRATING, BOOT_REVOKE_HELD, BOOT_LAST_RESET, BOOT_CAUSE_A, BOOT_CAUSE_B, BOOT_IMG_VER, BOOT_SET_VER, BOOT_SVN_FUSE, BOOT_KEY_REVOKED, BOOT_KEY_USED, BOOT_DBG_KILL, BOOT_TEST_KILL, BOOT_FL_ADDR, BOOT_FL_DATA, BOOT_FL_CMD, BOOT_FL_BUSY, BOOT_FL_ERR, BOOT_FL_CAUSE, BOOT_SET_IDX, BOOT_SET_OFS, BOOT_SET_VAL, BOOT_SET_LEN] ++
  [BOOT_SET_SKIPPED, BOOT_FUSE_KEY, BOOT_BLOW_DBG]


/-! ### IC: 22_debug_and_interconnect.md R550 -/

def IC_TIMEOUT_US : Field := { base := 0x43000, lo := 0, w := 16, ty := .rw, reset := fun _ _ => 100, norm := fun _ v => raiseTo 10 v }
def IC_AGE_NS : Field := { base := 0x43004, lo := 0, w := 16, ty := .rw, reset := fun _ _ => 2000 }
def IC_QOS : Field := { base := 0x43010, s1 := 0x4, n1 := 12, lo := 0, w := 4, ty := .rw, reset := fun i _ => masterQos i }
def IC_DECODE_CNT : Field := { base := 0x43040, lo := 0, w := 32, ty := .ro }
def IC_TIMEOUT_CNT : Field := { base := 0x43044, lo := 0, w := 32, ty := .ro }
def IC_HELD_CNT : Field := { base := 0x43048, lo := 0, w := 32, ty := .ro }
def IC_DEC_ADDR_LO : Field := { base := 0x4304C, lo := 0, w := 32, ty := .ro }
def IC_DEC_ADDR_HI : Field := { base := 0x43050, lo := 0, w := 16, ty := .ro }
def IC_DEC_MASTER : Field := { base := 0x43050, lo := 16, w := 4, ty := .ro }
def IC_DEC_SEEN : Field := { base := 0x43054, lo := 0, w := 1, ty := .w1c }

/-- Every field of the IC tables. -/
def fieldsIC : List Field :=
  [IC_TIMEOUT_US, IC_AGE_NS, IC_QOS, IC_DECODE_CNT, IC_TIMEOUT_CNT, IC_HELD_CNT, IC_DEC_ADDR_LO, IC_DEC_ADDR_HI, IC_DEC_MASTER, IC_DEC_SEEN]


/-! ### ICT: 22_debug_and_interconnect.md R550 -/

def ICT_PARKED : Field := { base := 0x43100, s1 := 0x4, n1 := 14, lo := 0, w := 1, ty := .ro, reset := fun _ _ => 1 }
def ICT_LAST_MASTER : Field := { base := 0x43100, s1 := 0x4, n1 := 14, lo := 4, w := 4, ty := .ro, reset := fun _ _ => 4 }
def ICT_QUEUE : Field := { base := 0x43100, s1 := 0x4, n1 := 14, lo := 16, w := 8, ty := .ro }

/-- Every field of the ICT tables. -/
def fieldsICT : List Field :=
  [ICT_PARKED, ICT_LAST_MASTER, ICT_QUEUE]


/-! ### DBG: 22_debug_and_interconnect.md R551 -/

def DBG_ATTACH : Field := { base := 0x10000000, lo := 0, w := 1, ty := .rw, keep := .pin }
def DBG_BUS_ADDR_LO : Field := { base := 0x10000010, lo := 0, w := 32, ty := .rw, keep := .pin, norm := fun _ v => v / 4 * 4 }
def DBG_BUS_ADDR_HI : Field := { base := 0x10000014, lo := 0, w := 16, ty := .rw, keep := .pin }
def DBG_BUS_DATA : Field := { base := 0x10000018, lo := 0, w := 32, ty := .rw, keep := .pin }
def DBG_GO_RD : Field := { base := 0x1000001C, lo := 0, w := 1, ty := .wo }
def DBG_GO_WR : Field := { base := 0x1000001C, lo := 1, w := 1, ty := .wo }
def DBG_AUTOINC : Field := { base := 0x1000001C, lo := 2, w := 1, ty := .rw, keep := .pin }
def DBG_BUSY : Field := { base := 0x1000001C, lo := 8, w := 1, ty := .ro, keep := .pin }
def DBG_RESP : Field := { base := 0x1000001C, lo := 9, w := 2, ty := .ro, keep := .pin }

/-- Every field of the DBG tables. -/
def fieldsDBG : List Field :=
  [DBG_ATTACH, DBG_BUS_ADDR_LO, DBG_BUS_ADDR_HI, DBG_BUS_DATA, DBG_GO_RD, DBG_GO_WR, DBG_AUTOINC, DBG_BUSY, DBG_RESP]


/-! ### DBGC: 22_debug_and_interconnect.md R551 -/

def DBGC_HALT_REQ : Field := { base := 0x10000100, s2 := 0x40, n2 := 36, lo := 0, w := 1, ty := .wo }
def DBGC_RESUME : Field := { base := 0x10000100, s2 := 0x40, n2 := 36, lo := 1, w := 1, ty := .wo }
def DBGC_STEP : Field := { base := 0x10000100, s2 := 0x40, n2 := 36, lo := 2, w := 1, ty := .wo }
def DBGC_HALT_ON_ENTRY : Field := { base := 0x10000100, s2 := 0x40, n2 := 36, lo := 8, w := 1, ty := .rw, keep := .pin }
def DBGC_HALTED : Field := { base := 0x10000104, s2 := 0x40, n2 := 36, lo := 0, w := 1, ty := .ro, keep := .pin }
def DBGC_CAUSE : Field := { base := 0x10000104, s2 := 0x40, n2 := 36, lo := 4, w := 4, ty := .ro, keep := .pin }
def DBGC_BP_ADDR0 : Field := { base := 0x10000108, s2 := 0x40, n2 := 36, lo := 0, w := 21, ty := .rw, keep := .pin }
def DBGC_BP_ADDR1 : Field := { base := 0x1000010C, s2 := 0x40, n2 := 36, lo := 0, w := 21, ty := .rw, keep := .pin }
def DBGC_BP_ADDR2 : Field := { base := 0x10000110, s2 := 0x40, n2 := 36, lo := 0, w := 21, ty := .rw, keep := .pin }
def DBGC_BP_ADDR3 : Field := { base := 0x10000114, s2 := 0x40, n2 := 36, lo := 0, w := 21, ty := .rw, keep := .pin }
def DBGC_BP_EN0 : Field := { base := 0x10000108, s2 := 0x40, n2 := 36, lo := 31, w := 1, ty := .rw, keep := .pin }
def DBGC_BP_EN1 : Field := { base := 0x1000010C, s2 := 0x40, n2 := 36, lo := 31, w := 1, ty := .rw, keep := .pin }
def DBGC_BP_EN2 : Field := { base := 0x10000110, s2 := 0x40, n2 := 36, lo := 31, w := 1, ty := .rw, keep := .pin }
def DBGC_BP_EN3 : Field := { base := 0x10000114, s2 := 0x40, n2 := 36, lo := 31, w := 1, ty := .rw, keep := .pin }
def DBGC_WP_LO0 : Field := { base := 0x10000118, s2 := 0x40, n2 := 36, lo := 0, w := 32, ty := .rw, keep := .pin }
def DBGC_WP_LO1 : Field := { base := 0x10000120, s2 := 0x40, n2 := 36, lo := 0, w := 32, ty := .rw, keep := .pin }
def DBGC_WP_HI0 : Field := { base := 0x1000011C, s2 := 0x40, n2 := 36, lo := 0, w := 32, ty := .rw, keep := .pin }
def DBGC_WP_HI1 : Field := { base := 0x10000124, s2 := 0x40, n2 := 36, lo := 0, w := 32, ty := .rw, keep := .pin }
def DBGC_WP_MODE0 : Field := { base := 0x10000128, s2 := 0x40, n2 := 36, lo := 0, w := 2, ty := .rw, keep := .pin }
def DBGC_WP_MODE1 : Field := { base := 0x1000012C, s2 := 0x40, n2 := 36, lo := 0, w := 2, ty := .rw, keep := .pin }
def DBGC_REG_SEL : Field := { base := 0x10000130, s2 := 0x40, n2 := 36, lo := 0, w := 8, ty := .rw, keep := .pin }
def DBGC_REG_DATA_LO : Field := { base := 0x10000134, s2 := 0x40, n2 := 36, lo := 0, w := 32, ty := .rw, keep := .pin }
def DBGC_REG_DATA_HI : Field := { base := 0x10000138, s2 := 0x40, n2 := 36, lo := 0, w := 32, ty := .rw, keep := .pin }

/-- Every field of the DBGC tables. -/
def fieldsDBGC : List Field :=
  [DBGC_HALT_REQ, DBGC_RESUME, DBGC_STEP, DBGC_HALT_ON_ENTRY, DBGC_HALTED, DBGC_CAUSE, DBGC_BP_ADDR0, DBGC_BP_ADDR1, DBGC_BP_ADDR2, DBGC_BP_ADDR3, DBGC_BP_EN0, DBGC_BP_EN1, DBGC_BP_EN2, DBGC_BP_EN3, DBGC_WP_LO0, DBGC_WP_LO1, DBGC_WP_HI0, DBGC_WP_HI1, DBGC_WP_MODE0, DBGC_WP_MODE1, DBGC_REG_SEL, DBGC_REG_DATA_LO, DBGC_REG_DATA_HI]

end Sys2Proof.Machine.Reg
end

