-- ==== Sys2Proof/Machine/Ops.lean ====
section
/-! DEFINITION. The operations that every family shares: register fields, free values, outputs, device time,
partitions and ownership. -/

namespace Sys2Proof.Machine
open Reg

/-! ### Register fields (R8) -/

/-- The value of instance (i, j) of a field, within its width. -/
def State.fld (s : State) (f : Field) (i : Nat := 0) (j : Nat := 0) : Nat :=
  (Tab.find? s.regs (f.key i j)).getD (f.reset i j) % 2 ^ f.w

/-- A table of register fields with a field at a value; the reset value is not listed. -/
def regsSet (t : Tab Nat) (f : Field) (v i j : Nat) : Tab Nat :=
  if v % 2 ^ f.w = f.reset i j then Tab.erase t (f.key i j) else Tab.insert t (f.key i j) (v % 2 ^ f.w)

/-- Instance (i, j) of a field set to a value, kept to the field's width. -/
def State.setFld (s : State) (f : Field) (v : Nat) (i : Nat := 0) (j : Nat := 0) : State :=
  { s with regs := regsSet s.regs f v i j }

/-- A field is not 0. -/
def State.fldOn (s : State) (f : Field) (i : Nat := 0) (j : Nat := 0) : Bool := s.fld f i j != 0

/-- A wrapping counter that goes up by `n`. -/
def State.addFld (s : State) (f : Field) (n : Nat) (i : Nat := 0) (j : Nat := 0) : State :=
  s.setFld f (s.fld f i j + n) i j

/-- A counter that goes up by one and stays at its largest value. -/
def State.satFld (s : State) (f : Field) (i : Nat := 0) (j : Nat := 0) : State :=
  s.setFld f (satInc f.w (s.fld f i j)) i j

/-- A field back at its reset value. -/
def State.resetFld (s : State) (f : Field) (i : Nat := 0) (j : Nat := 0) : State :=
  { s with regs := Tab.erase s.regs (f.key i j) }

/-- A 64-bit value in a pair of registers, low word first. -/
def State.setPair (s : State) (lo hi : Field) (v : Nat) (i : Nat := 0) (j : Nat := 0) : State :=
  (s.setFld lo (v % 2 ^ 32) i j).setFld hi (v / 2 ^ 32) i j

/-- The value of a pair of registers. -/
def State.pair (s : State) (lo hi : Field) (i : Nat := 0) (j : Nat := 0) : Nat :=
  s.fld lo i j + 2 ^ 32 * s.fld hi i j

/-- A 64-bit wrapping counter in a pair of registers. -/
def State.addPair (s : State) (lo hi : Field) (n : Nat) (i : Nat := 0) (j : Nat := 0) : State :=
  s.setPair lo hi ((s.pair lo hi i j + n) % 2 ^ 64) i j

/-! ### Free values and outputs -/

/-- The next free value counter. -/
def State.advance (s : State) : State := { s with free := s.free + 1 }

/-- Something leaves the block; what goes to a host's memory crosses the interconnect (R544). -/
def State.emit (s : State) (o : Output) : State := { s with out := o :: s.out, ic := s.ic.sends o }

/-- Accesses of a master to several targets, made by a command, none of them a write that could be overtaken. -/
def State.crosses (s : State) (m : Nat) (ts : List Nat) : State :=
  { s with ic := ts.foldl (fun x t => x.access m t [] false) s.ic }

/-! ### Repetition -/

/-- A change made for each element of a list, in order. -/
def State.each {α : Type} (s : State) (l : List α) (f : State → α → State) : State := l.foldl f s

/-- A change made for 0 .. n - 1 in order. -/
def State.upTo (s : State) (n : Nat) (f : State → Nat → State) : State := (List.range n).foldl f s

/-- A change made only under a condition. -/
def State.when (s : State) (c : Bool) (f : State → State) : State := if c then f s else s

/-! ### Device time (R100, R103) -/

/-- Device time in ns. -/
def State.now (s : State) : Nat := (((s.time.grid : Int) + s.time.stepSum) % 2 ^ 64).toNat

/-- Device time as an integer that does not wrap, for comparison with instants. -/
def State.nowInt (s : State) : Int := (s.now : Int)

/-- The grid time at which a timer that started at grid time `from'` and runs `len` ns on a tick of `tick` ns expires:
the first tick at which that much has passed (R103). -/
def expiry (from' len tick : Nat) : Nat := ceilDiv (from' + len) tick * tick

/-- A timer that started at grid time `from'` has run out (R103). -/
def State.expired (s : State) (from' len tick : Nat) : Bool := decide (expiry from' len tick ≤ s.time.grid)

/-! ### Partitions (02) -/

def partOff : Nat := 0
def partLive : Nat := 1
def partLapsed : Nat := 2

/-- Partition p is present (R29). -/
def State.present (s : State) (p : Nat) : Bool := bitAt (s.fld GLB_PART_PRESENT) p

def State.pstate (s : State) (p : Nat) : Nat := s.fld PCB_STATE p

def State.live (s : State) (p : Nat) : Bool := s.pstate p == partLive

/-- Partition p holds a lease (R48). -/
def State.hasLease (s : State) (p : Nat) : Bool := s.fld PCB_LEASE_MS p != 0

/-- What partition p holds beside its registers. -/
def State.part (s : State) (p : Nat) : PartRun := Tab.get {} s.host.parts p

def State.setPart (s : State) (p : Nat) (r : PartRun) : State :=
  { s with host := { s.host with parts := Tab.set {} s.host.parts p r } }

def ringKey (p k : Nat) : Nat := 64 * p + k

/-- What command ring k of partition p holds beside its registers. -/
def State.ring (s : State) (p k : Nat) : RingRun := Tab.get {} s.host.rings (ringKey p k)

def State.setRing (s : State) (p k : Nat) (r : RingRun) : State :=
  { s with host := { s.host with rings := Tab.set {} s.host.rings (ringKey p k) r } }

def State.evtRing (s : State) (p e : Nat) : EvtRingRun := Tab.get {} s.host.evtRings (4 * p + e)

def State.setEvtRing (s : State) (p e : Nat) (r : EvtRingRun) : State :=
  { s with host := { s.host with evtRings := Tab.set {} s.host.evtRings (4 * p + e) r } }

def State.engine (s : State) (e : Nat) : Engine := Tab.get { lfsr := BitVec.ofNat 32 (e + 1) } s.host.engines e

def State.setEngine (s : State) (e : Nat) (x : Engine) : State :=
  { s with host := { s.host with engines := Tab.set { lfsr := BitVec.ofNat 32 (e + 1) } s.host.engines e x } }

/-! ### Ownership (R40, R41) -/

def oriSrc (n : Nat) : Nat := if n < 1024 then n else 1024 + n
def oriDst (d : Nat) : Nat := 1024 + d
def oriCmp (c : Nat) : Nat := 2048 + c
def oriGroup (g : Nat) : Nat := 2144 + g
def oriProbe (c : Nat) : Nat := 2656 + c
def oriQueue (q : Nat) : Nat := 2688 + q
def oriPort (m : Nat) : Nat := 2944 + m
def oriAes (i : Nat) : Nat := 3008 + i

/-- The partition that owns a resource. -/
def State.owner (s : State) (ori : Nat) : Option Nat :=
  let o := s.fld OWN_OWNER ori
  if 1 ≤ o ∧ o ≤ 8 then some (o - 1) else none

def State.setOwner (s : State) (ori : Nat) (p : Option Nat) : State :=
  s.setFld OWN_OWNER (match p with | some p => p + 1 | none => 0) ori

/-- Partition p may change the resource (R42). -/
def State.mayChange (s : State) (p ori : Nat) : Bool := p == 0 || s.owner ori == some p

/-- Partition p may read source n (R43). -/
def State.mayRead (s : State) (p n : Nat) : Bool :=
  p == 0 || s.owner (oriSrc n) == some p || s.fldOn OWN_SHARED (oriSrc n)

/-- Resources that partition p owns, in order. -/
def State.owned (s : State) (p : Nat) : List Nat :=
  (List.range 3072).filter (fun o => s.fld OWN_OWNER o == p + 1)

/-- The safe state has been reached (R463). -/
def State.safe (s : State) : Bool := s.fldOn FLT_SAFE

/-- A power domain is not ON (R530). -/
def State.gated (s : State) (d : Nat) : Bool := s.fld DOM_DSTATE d != 0

/-- The domain of probe core c, or that of its island's shared logic, is not ON (R529). -/
def State.coreGated (s : State) (c : Nat) : Bool := s.gated (139 + c) || s.gated (139 + 8 * (c / 8))

/-- A conductor core is halted by the debug port (R542). -/
def State.conductorHalted (s : State) : Bool := (List.range 4).any (fun k => s.fldOn DBGC_HALTED 0 (32 + k))

/-- The device has reached SERVICE (R509). -/
def State.inService (s : State) : Bool := s.fldOn BOOT_SERVICE

end Sys2Proof.Machine
end

