-- ==== Sys2Proof/Machine/CwCode.lean ====
section
/-! DEFINITION. The coding of the Causeway lanes: blocks, scrambler, columns, markers, fillers and the blocks of a message
(R347 .. R350, R443, R444). -/

namespace Sys2Proof.Machine
open Reg

/-! ### Scrambler and blocks (R347) -/

/-- `n` payload bits, the lowest first, through the scrambler x^58 + x^39 + 1: what is left of them is in `v`, the line bits so
far in `acc` from bit `k`, and the last 58 line bits in `st`. -/
def scrambleBits : (n k v acc st : Nat) → Nat × Nat
  | 0, _, _, acc, st => (acc, st)
  | n + 1, k, v, acc, st =>
    let b := (v + st / 2 ^ 38 + st / 2 ^ 57) % 2
    scrambleBits n (k + 1) (v / 2) (acc + b * 2 ^ k) ((2 * st + b) % 2 ^ 58)

/-- A payload as the line carries it, and the scrambler after it. -/
def scramble (st v : Nat) : Nat × Nat := scrambleBits 64 0 v 0 st

/-- The payload of line bits, by the 58 bits before them. -/
def descrambleBits : (n k v acc st : Nat) → Nat
  | 0, _, _, acc, _ => acc
  | n + 1, k, v, acc, st =>
    let b := v % 2
    descrambleBits n (k + 1) (v / 2) (acc + (b + st / 2 ^ 38 + st / 2 ^ 57) % 2 * 2 ^ k) ((2 * st + b) % 2 ^ 58)

def descramble (st v : Nat) : Nat := descrambleBits 64 0 v 0 st

/-- The sync headers of R347. -/
def dataHeader : Nat := 1
def controlHeader : Nat := 2

/-- The 64 newest sync headers are valid, as block lock needs (R350). -/
def headersLock (hs : List (BitVec 2)) : Bool :=
  decide (64 ≤ hs.length) && (hs.take 64).all (fun h => h.toNat == dataHeader || h.toNat == controlHeader)

/-- 16 of the 64 newest sync headers are invalid, which loses block lock (R350). -/
def headersLose (hs : List (BitVec 2)) : Bool :=
  decide (16 ≤ ((hs.take 64).filter (fun h => h.toNat != dataHeader && h.toNat != controlHeader)).length)

/-! ### Filler and marker blocks (R348) -/

/-- The payload of a filler block. -/
def fillerPayload : Nat := 0xC3

/-- BIP-8 of a payload: bit i is the exclusive-or of bits i, i + 8 .. i + 56. -/
def bip8 (v : Nat) : Nat := (List.range 8).foldl (fun a i => a ^^^ bitField v (8 * i) 8) 0

/-- The payload of the alignment marker of a lane. -/
def markerPayload (lane count bip : Nat) : Nat :=
  let low := lane + 2 ^ 8 * (count % 2 ^ 16)
  0x3C + 2 ^ 8 * low + 2 ^ 32 * (bip % 256) + 2 ^ 40 * (2 ^ 24 - 1 - low)

/-- A received block is a filler block. -/
def fillerBlock (b : RxBlock) : Bool :=
  b.header.toNat == controlHeader && descramble b.before.toNat b.payload.toNat == fillerPayload

/-! ### Messages (R443, R445) -/

/-- Message types of R445. -/
def knownType (ty : Nat) : Bool :=
  [0x01, 0x02, 0x03, 0x04, 0x10, 0x11, 0x12, 0x20, 0x21, 0x22, 0x28, 0x29, 0x30, 0x31, 0x32, 0x33, 0x34, 0x35, 0x36, 0x37,
   0x38, 0x39].contains ty

/-- The first block of a message. -/
def messageHead (ty len flags mseq : Nat) : Nat :=
  0x78 + 2 ^ 8 * (ty % 256) + 2 ^ 16 * (len % 2 ^ 16) + 2 ^ 32 * (flags % 256) + 2 ^ 40 * (mseq % 2 ^ 24)

/-- The CRC over bytes 1 .. 7 of the first block and the payload. -/
def messageCrc (head : Nat) (words : List Nat) : Nat :=
  let bytes := fun (v : Nat) => (List.range 8).map (fun i => bitField v (8 * i) 8)
  crc32 ((bytes head).drop 1 ++ words.flatMap bytes)

/-- Blocks in columns of eight, the last filled with zero data blocks. -/
def columnsOf : (n : Nat) → List CwBlock → List (List CwBlock)
  | 0, _ => []
  | n + 1, bs =>
    if bs.isEmpty then []
    else
      let c := bs.take 8
      (c ++ List.replicate (8 - c.length) { header := dataHeader, payload := 0 }) :: columnsOf n (bs.drop 8)

/-- The columns of a message. -/
def messageColumns (ty flags mseq : Nat) (words : List Nat) : List (List CwBlock) :=
  let head := messageHead ty words.length flags mseq
  let data := fun (v : Nat) => ({ header := dataHeader, payload := v % 2 ^ 64 } : CwBlock)
  let blocks := { header := controlHeader, payload := head } :: (words ++ [messageCrc head words]).map data
  columnsOf blocks.length blocks

/-- The message that some received payloads are, from its first block: type, FLAGS, MSEQ and payload. -/
def readMessage (blocks : List Nat) : Option (Nat × Nat × Nat × List Nat) :=
  match blocks with
  | [] => none
  | head :: rest =>
    let len := bitField head 16 16
    let words := rest.take len
    if bitField head 0 8 = 0x78 ∧ len ≤ 4095 ∧ words.length = len ∧ rest[len]? = some (messageCrc head words) ∧
        knownType (bitField head 8 8) = true then
      some (bitField head 8 8, bitField head 32 8, bitField head 40 24, words)
    else none

/-! ### Columns as they are sent (R347, R349, R444) -/

/-- A column on the line: each block but a marker is scrambled, and every block counts in its lane's BIP-8. -/
def CwTx.line (t : CwTx) (c : List CwBlock) (scrambled : Bool) : CwTx × List CwBlock :=
  let out := c.mapIdx (fun k b =>
    let st := t.scram.getD k 0
    if scrambled then (scramble st b.payload) else (b.payload, st))
  ({ t with
      scram := out.map (·.2)
      bip := out.mapIdx (fun k o => t.bip.getD k 0 ^^^ bip8 o.1) },
    out.mapIdx (fun k o => { header := (c.getD k { header := dataHeader, payload := 0 }).header, payload := o.1 }))

/-- The message column that is next: of the message that has started, or of the first one waiting in the highest class. -/
def CwTx.next (t : CwTx) : Option (CwTx × List CwBlock) :=
  match t.current with
  | c :: cs => some ({ t with current := cs }, c)
  | [] =>
    let best := t.waiting.foldl (fun b m => min b m.1) 4
    match t.waiting.find? (fun m => m.1 == best) with
    | some (q, c :: cs) => some ({ t with current := cs, waiting := t.waiting.erase (q, c :: cs) }, c)
    | _ => none

/-- One column is sent: a filler column when there is no message data, and at least once in 2,048 columns. -/
def CwTx.column (t : CwTx) : CwTx × List CwBlock :=
  match (if 2047 ≤ t.sinceFill then none else t.next) with
  | some (t, c) => ({ t with sinceFill := t.sinceFill + 1 }).line c true
  | none => ({ t with sinceFill := 0 }).line (List.replicate 8 { header := controlHeader, payload := fillerPayload }) true

/-- The next `n` columns. -/
def CwTx.columns : Nat → CwTx → CwTx × List (List CwBlock)
  | 0, t => (t, [])
  | n + 1, t =>
    let (t, c) := t.column
    let (t, cs) := CwTx.columns n t
    (t, c :: cs)

/-- The marker column of a count; BIP-8 starts anew after it. -/
def CwTx.markerColumn (t : CwTx) (count : Nat) : CwTx × List CwBlock :=
  ({ t with bip := [], sinceFill := t.sinceFill + 1 }, (List.range 8).map (fun k =>
    { header := controlHeader, payload := markerPayload k count (t.bip.getD k 0) }))

/-- The 16,383 columns up to a marker column, and that column (R349). -/
def CwTx.period (t : CwTx) (count : Nat) : CwTx × List (List CwBlock) :=
  let (t, cs) := CwTx.columns 16383 t
  let (t, m) := t.markerColumn count
  (t, cs ++ [m])

def State.setCwTx (s : State) (t : CwTx) : State := { s with lane := { s.lane with cwTx := t } }

/-- A message waits for its columns (R443, R444). -/
def State.queueMessage (s : State) (cls ty flags mseq : Nat) (words : List Nat) : State :=
  let t := s.lane.cwTx
  s.setCwTx { t with waiting := t.waiting ++ [(cls, messageColumns ty flags mseq words)] }

end Sys2Proof.Machine
end

