-- ==== Sys2Proof/Machine/Raise.lean ====
section
/-! DEFINITION. Raising an event: its count, its fault record and reaction, its delivery to partitions, and MSI-X
signalling (R89 .. R92, R458 .. R465). -/

namespace Sys2Proof.Machine
open Reg

/-! ### MSI-X (R92) -/

/-- Double word i of vector v of the MSI-X table of partition p. The mask bit of a vector reads 1 until it is written
0, as PCIe has it; it is held inverted. -/
def State.msixWord (s : State) (p v i : Nat) : Nat :=
  let w := Tab.get 0 s.host.msix (256 * p + 4 * v + i)
  if i = 3 then w ^^^ 1 else w

/-- A message of vector v to partition p, or its pending bit while the vector is masked. A message is a write to the
host's memory, so it pends while the partition is LAPSED too (R50): DESIGN CHOICE, log 72. -/
def State.sendVector (s : State) (p v : Nat) : State :=
  if bitAt (s.msixWord p v 3) 0 = true ∨ s.pstate p = partLapsed then
    let r := s.part p
    s.setPart p { r with pba := r.pba ||| 2 ^ v }
  else s.emit (.msix p v (s.msixWord p v 0 + 2 ^ 32 * s.msixWord p v 1) (s.msixWord p v 2))

/-- The pending messages of partition p that are not masked are sent. -/
def State.sendPending (s : State) (p : Nat) : State :=
  s.upTo 64 (fun s v =>
    let r := s.part p
    if bitAt r.pba v = true ∧ bitAt (s.msixWord p v 3) 0 = false then (s.setPart p { r with pba := r.pba - 2 ^ v }).sendVector p v
    else s)

/-- Whether a record signals now: INT_EN, COAL_US, COAL_CNT and the unsignalled records, this one included. -/
def signalsNow (irq intEn : Bool) (coalUs coalCnt waiting : Nat) : Bool :=
  irq || (intEn && (coalUs == 0 || (coalCnt != 0 && decide (coalCnt ≤ waiting))))

/-! ### Event rings (R57, R89, R91) -/

/-- The eight words of an event record. -/
def eventWords (ev cls index sub time data seq dropped : Nat) (phase : Bool) : List Nat :=
  [ev + 2 ^ 16 * cls, index % 2 ^ 16 + 2 ^ 16 * (sub % 2 ^ 16), time % 2 ^ 32, time / 2 ^ 32,
   data % 2 ^ 32, data / 2 ^ 32 % 2 ^ 32, seq, dropped + 2 ^ 31 * bit phase]

/-- The event ring that a delivery to partition p uses: RING if it is enabled, else the lowest-numbered enabled one. -/
def State.eventRingFor (s : State) (p ring : Nat) : Option Nat :=
  if s.fldOn ERING_ENABLE p ring then some ring
  else (List.range 4).find? (fun e => s.fldOn ERING_ENABLE p e)

/-- The base address of event ring e of partition p. -/
def State.eventBase (s : State) (p e : Nat) : Nat :=
  s.fld ERING_CR_BASE_LO p e * 2 ^ 12 + s.fld ERING_CR_BASE_HI p e * 2 ^ 32

/-- A pointer as it was at the start of the cycle in progress, given its value now, what it was when the cycle of its
last move began, and that cycle (R61). -/
def State.sampled (s : State) (now was moved : Nat) : Nat := if moved = s.host.cycle then was else now

/-- A record is written to event ring e of partition p, or dropped and counted when the ring is full. -/
def State.writeEvent (s : State) (p e ev cls index sub data seq : Nat) : State :=
  let size := 2 ^ s.fld ERING_SIZE_LOG2 p e
  let tail := s.fld ERING_CQ_TAIL p e
  let r := s.evtRing p e
  let next := (tail + 1) % size
  if next = r.head then s.satFld ERING_DROPS p e
  else
    let o := Output.event p e (s.eventBase p e + 32 * tail)
      (eventWords ev cls index sub s.now data seq (s.fld ERING_DROPS p e) r.phase)
    let waiting := r.unsignalled + 1
    let now := signalsNow false (s.fldOn ERING_INT_EN p e) (s.fld ERING_COAL_US p e) (s.fld ERING_COAL_CNT p e) waiting
    let r' := { r with
      phase := if next = 0 then !r.phase else r.phase
      tailWas := s.sampled tail r.tailWas r.tailMoved, tailMoved := s.host.cycle
      unsignalled := if now then 0 else waiting
      oldest := if r.unsignalled = 0 then s.time.grid else r.oldest }
    let s := ((s.emit o).setFld ERING_CQ_TAIL next p e).setFld ERING_DROPS 0 p e
    (s.setEvtRing p e r').when now (fun s => s.sendVector p (s.fld ERING_VECTOR p e))

/-- One event delivered to partition p. Every delivery takes the next SEQ of the partition. -/
def State.deliver (s : State) (ev cls index sub data p : Nat) : State :=
  let r := s.part p
  let seq := (r.evtSeq + 1) % 2 ^ 32
  let s := s.setPart p { r with evtSeq := seq }
  if s.pstate p = partOff ∨ s.pstate p = partLapsed then s.addFld PCB_EVT_LOST 1 p
  else
    match s.eventRingFor p (s.fld EVT_RING ev) with
    | none => s.addFld PCB_EVT_LOST 1 p
    | some e => s.writeEvent p e ev cls index sub data seq

/-- The partitions that an event goes to, in ascending order (R91): its owner or other addressees and those of MASK,
none under SUPPRESS, every present one for a non-maskable event. -/
def State.recipients (s : State) (ev : Nat) (dest : List Nat) (except : Option Nat) : List Nat :=
  (List.range 8).filter (fun p =>
    if s.fldOn EVT_NONMASK ev then s.present p
    else !s.fldOn EVT_SUPPRESS ev && (dest.contains p || bitAt (s.fld EVT_MASK ev) p) && except != some p)

/-! ### Fault records (R460, R461, R465) -/

/-- A record is being handled (R461). -/
def State.handledRecord (s : State) : Option (Fin 16) :=
  match s.faults.handled with
  | none => none
  | some i =>
    if 3 ≤ s.fld FREC_CLASS i then (if s.safe || s.faults.safeDue.isSome then some i else none)
    else if s.time.grid < s.faults.handledTo then some i else none

/-- The reaction of class CRITICAL or FATAL, detected now, with the record that causes it (R459, R463, R465). -/
def State.react (s : State) (cls ev index sub data : Nat) (rec : Fin 16) : State :=
  let s := s.when (cls = 4 ∧ !s.fldOn FLT_FATAL) (fun s =>
    let s := (s.setFld FLT_FATAL 1).setFld FLT_FATAL_EVENT ev
    { s with faults := { s.faults with fatalIndex := index, fatalSub := sub, fatalData := data } })
  s.when (3 ≤ cls) (fun s =>
    let f := { s.faults with handled := some rec }
    if s.safe || s.faults.safeDue.isSome then { s with faults := f }
    else { s with faults := { f with safeDue := some (rec, s.now) } })

/-- The raise is merged into record i. -/
def State.mergeFault (s : State) (i : Fin 16) (cls ev index sub data : Nat) : State :=
  let old := s.fld FREC_CLASS i
  let s := ((s.satFld FREC_MERGES i).setFld FREC_LAST_EVENT ev i).setFld FREC_LAST_TIME s.now i
  if old < cls then
    ((s.setFld FREC_CLASS cls i).setFld FREC_ESCALATED 1 i).react cls ev index sub data i
  else s.when (cls = 4) (fun s => s.react cls ev index sub data i)

/-- A new record is created in place i. -/
def State.createFault (s : State) (i : Fin 16) (cls ev index sub data : Nat) (holds : Bool) : State :=
  let s := s.each [(FREC_EVENT, ev), (FREC_CLASS, cls), (FREC_ACTIVE, 1), (FREC_HOLDS, bit holds), (FREC_CAUSED_SAFE, 0),
    (FREC_ESCALATED, 0), (FREC_VALID, 1), (FREC_INDEX, index), (FREC_SUB, sub), (FREC_TIME_LO, s.now % 2 ^ 32),
    (FREC_TIME_HI, s.now / 2 ^ 32), (FREC_DATA_LO, data % 2 ^ 32), (FREC_DATA_HI, data / 2 ^ 32), (FREC_MERGES, 0),
    (FREC_LAST_EVENT, 0), (FREC_LAST_TIME, 0)] (fun s x => s.setFld x.1 x.2 i)
  let f := { s.faults with
    order := i :: s.faults.order.filter (· != i), handled := some i, handledTo := s.time.grid + 2000 }
  ({ s with faults := f }).react cls ev index sub data i

/-- The records, in ascending order. -/
def faultRecords : List (Fin 16) := [0, 1, 2, 3, 4, 5, 6, 7, 8, 9, 10, 11, 12, 13, 14, 15]

/-- Where R460 places a raise of class SERVICE or above. -/
inductive FaultPlace where
  | merge (i : Fin 16)
  | create (i : Fin 16)
  | overflow (i : Fin 16)
  deriving DecidableEq, Repr

def State.faultPlace (s : State) (ev : Nat) : FaultPlace :=
  match s.handledRecord with
  | some i => .merge i
  | none =>
    match faultRecords.find? (fun (i : Fin 16) => s.fldOn FREC_ACTIVE i && s.fld FREC_EVENT i == ev) with
    | some i => .merge i
    | none =>
      match faultRecords.find? (fun (i : Fin 16) => !s.fldOn FREC_VALID i) with
      | some i => .create i
      | none =>
        match s.faults.order.reverse.find? (fun (i : Fin 16) => !s.fldOn FREC_ACTIVE i) with
        | some i => .create i
        | none => .overflow (s.faults.order.headD 0)

def State.placeFault (s : State) (cls ev index sub data : Nat) (holds : Bool) : State :=
  match s.faultPlace ev with
  | .merge i => s.mergeFault i cls ev index sub data
  | .create i => s.createFault i cls ev index sub data holds
  | .overflow i => (s.mergeFault i cls ev index sub data).setFld FLT_OVERFLOW 1

/-! ### Raise -/

/-- Sources whose raise reports a condition that goes on standing: their records begin with HOLDS = 1 (R462). DEDUCED, log 87. -/
def lastingSources : List Nat :=
  [Ev.PART_LAPSED, Ev.ENGINE_STUCK, Ev.REF_LOST, Ev.HOLDOVER_ENTER, Ev.HOLDOVER_OOS, Ev.TIME_STEP_REFUSED, Ev.WCLK_LOST] ++
  [Ev.CHASE_DEGRADED, Ev.FRESH_ACT, Ev.SDI_LOSS, Ev.SDI_WRONG_FMT, Ev.QUAD_MEMBER, Ev.PORT_DOWN, Ev.FLOW_LEG_DOWN] ++
  [Ev.LANE_PLL_UNLOCK, Ev.CW_LANE_DOWN, Ev.CW_DESKEW_FAIL, Ev.AUD_RATE, Ev.EMB_TRUNC, Ev.AES_LOSS, Ev.AES_RATE] ++
  [Ev.AES_NONAUDIO, Ev.ANCQ_HIGH, Ev.PROBE_FAULT, Ev.PEER_LOST, Ev.PAIR_SPLIT, Ev.ROLE_STRAP_CONFLICT, Ev.PAIR_DIVERGED] ++
  [Ev.SELF_TEST_FAIL, Ev.TOW_BUS_FAIL]

/-- What a raise carries beside its source: INDEX, SUB, DATA, who receives it beyond MASK, who never does, and
whether its condition still stands (R462). -/
structure Raise where
  index : Nat := 0
  sub : Nat := 0
  data : Nat := 0
  dest : List Nat := []
  except : Option Nat := none
  holds : Bool := false
  deriving DecidableEq, Repr

/-- An event source is raised (R89, R91, R458 .. R460). -/
def State.raise (s : State) (ev : Nat) (r : Raise := {}) : State :=
  let s := s.addFld EVT_COUNT 1 ev
  let cls := s.fld FSEV_CLASS ev
  let s := s.when (2 ≤ cls) (fun s => s.placeFault cls ev r.index r.sub r.data (r.holds || lastingSources.contains ev))
  let s := s.each (s.recipients ev r.dest r.except) (fun s p => s.deliver ev cls r.index r.sub r.data p)
  s.when (s.fldOn EVT_NONMASK ev) (fun s =>
    s.upTo 8 (fun s p => s.when (s.present p) (fun s => s.setFld PCB_NMI_CLOCK 1 p)))

/-- A raise whose DATA the spec does not give: a free value. Log 14. -/
def State.raiseOpen (s : State) (ev : Nat) (r : Raise := {}) : State :=
  s.advance.raise ev { r with data := Config.eventData ev s.free % 2 ^ 64 }

/-- The addressees of an event about a resource: its owner, if it has one (R91). -/
def State.ownerList (s : State) (ori : Nat) : List Nat := (s.owner ori).toList

/-- The condition behind the records of a source and index has ended (R462). -/
def State.conditionEnds (s : State) (ev index : Nat) : State :=
  s.upTo 16 (fun s i => s.when (s.fldOn FREC_HOLDS i && s.fld FREC_EVENT i == ev && s.fld FREC_INDEX i == index)
    (fun s => s.setFld FREC_HOLDS 0 i))

end Sys2Proof.Machine
end

