-- ==== Sys2Proof/Machine/RegDevice.lean ====
section
/-! DEFINITION. The register fields of the Device blocks, one constant per field, transcribed from the field tables
of the spec: byte offset, strides, bits, type (R8), Keep class (R9), reset value and the value a write is stored as. -/

namespace Sys2Proof.Machine.Reg
open Sys2Proof.Machine

/-! ### MC: 05_frame_store.md R168 -/

def MC_READY : Field := { base := 0x50000, s1 := 0x1000, n1 := 4, lo := 0, w := 1, ty := .ro, keep := .por }
def MC_TEMP_HI : Field := { base := 0x50000, s1 := 0x1000, n1 := 4, lo := 1, w := 1, ty := .ro, keep := .por }
def MC_SCRUB_LATE : Field := { base := 0x50000, s1 := 0x1000, n1 := 4, lo := 2, w := 1, ty := .w1c }
def MC_TEMP : Field := { base := 0x50004, s1 := 0x1000, n1 := 4, lo := 0, w := 8, ty := .ro, keep := .por }
def MC_QP_TOTAL : Field := { base := 0x50008, s1 := 0x1000, n1 := 4, lo := 0, w := 16, ty := .ro, keep := .por, reset := fun _ _ => 48896 }
def MC_QP_FREE : Field := { base := 0x5000C, s1 := 0x1000, n1 := 4, lo := 0, w := 16, ty := .ro, reset := fun _ _ => 48896 }
def MC_QP_RESV : Field := { base := 0x50010, s1 := 0x1000, n1 := 4, lo := 0, w := 16, ty := .ro }
def MC_RETIRED : Field := { base := 0x50014, s1 := 0x1000, n1 := 4, lo := 0, w := 16, ty := .ro, keep := .por }
def MC_LOAD_HDU : Field := { base := 0x50018, s1 := 0x1000, n1 := 4, lo := 0, w := 16, ty := .ro }
def MC_LOAD_LIMIT : Field := { base := 0x5001C, s1 := 0x1000, n1 := 4, lo := 0, w := 16, ty := .ro, keep := .por, reset := fun _ _ => 2400 }
def MC_CE_CNT : Field := { base := 0x50020, s1 := 0x1000, n1 := 4, lo := 0, w := 32, ty := .ro, keep := .por }
def MC_UE_CNT : Field := { base := 0x50024, s1 := 0x1000, n1 := 4, lo := 0, w := 32, ty := .ro, keep := .por }
def MC_ERR_ADDR_LO : Field := { base := 0x50028, s1 := 0x1000, n1 := 4, lo := 0, w := 32, ty := .ro, keep := .por }
def MC_ERR_ADDR_HI : Field := { base := 0x5002C, s1 := 0x1000, n1 := 4, lo := 0, w := 3, ty := .ro, keep := .por }
def MC_ERR_UE : Field := { base := 0x5002C, s1 := 0x1000, n1 := 4, lo := 8, w := 1, ty := .ro, keep := .por }
def MC_W_PROBE : Field := { base := 0x50030, s1 := 0x1000, n1 := 4, lo := 0, w := 4, ty := .rw, reset := fun _ _ => 4 }
def MC_W_DIGEST : Field := { base := 0x50030, s1 := 0x1000, n1 := 4, lo := 4, w := 4, ty := .rw, reset := fun _ _ => 8 }
def MC_W_THUMB : Field := { base := 0x50030, s1 := 0x1000, n1 := 4, lo := 8, w := 4, ty := .rw, reset := fun _ _ => 2 }
def MC_W_GRAPHIC : Field := { base := 0x50030, s1 := 0x1000, n1 := 4, lo := 12, w := 4, ty := .rw, reset := fun _ _ => 2 }
def MC_SCRUB_MIN : Field := { base := 0x50034, s1 := 0x1000, n1 := 4, lo := 0, w := 16, ty := .rw, reset := fun _ _ => 60 }
def MC_SCRUB_PASSES : Field := { base := 0x50038, s1 := 0x1000, n1 := 4, lo := 0, w := 32, ty := .ro }
def MC_SCRUB_POS : Field := { base := 0x5003C, s1 := 0x1000, n1 := 4, lo := 0, w := 16, ty := .ro }

/-- Every field of the MC tables. -/
def fieldsMC : List Field :=
  [MC_READY, MC_TEMP_HI, MC_SCRUB_LATE, MC_TEMP, MC_QP_TOTAL, MC_QP_FREE, MC_QP_RESV, MC_RETIRED, MC_LOAD_HDU, MC_LOAD_LIMIT, MC_CE_CNT, MC_UE_CNT, MC_ERR_ADDR_LO, MC_ERR_ADDR_HI, MC_ERR_UE, MC_W_PROBE, MC_W_DIGEST, MC_W_THUMB, MC_W_GRAPHIC, MC_SCRUB_MIN, MC_SCRUB_PASSES, MC_SCRUB_POS]


/-! ### FRESH: 07_freshness.md R213 -/

def FRESH_SLATE_A : Field := { base := 0x60000, lo := 0, w := 30, ty := .rw, reset := fun _ _ => 0x2D025A8F }
def FRESH_SLATE_B : Field := { base := 0x60004, lo := 0, w := 30, ty := .rw, reset := fun _ _ => 0x04080200 }
def FRESH_DIM : Field := { base := 0x60008, lo := 0, w := 2, ty := .rw, reset := fun _ _ => 1 }
def FRESH_RECOVER_FR : Field := { base := 0x60008, lo := 8, w := 4, ty := .rw }
def FRESH_AGE_TEXT : Field := { base := 0x60008, lo := 16, w := 1, ty := .rw, reset := fun _ _ => 1 }
def FRESH_ACT_DST : Field := { base := 0x6000C, lo := 0, w := 11, ty := .ro }
def FRESH_ACT_LYR : Field := { base := 0x6000C, lo := 16, w := 10, ty := .ro }
def FRESH_HOLD_PAGES : Field := { base := 0x60010, lo := 0, w := 16, ty := .ro }

/-- Every field of the FRESH tables. -/
def fieldsFRESH : List Field :=
  [FRESH_SLATE_A, FRESH_SLATE_B, FRESH_DIM, FRESH_RECOVER_FR, FRESH_AGE_TEXT, FRESH_ACT_DST, FRESH_ACT_LYR, FRESH_HOLD_PAGES]


/-! ### FRDST: 07_freshness.md R214 -/

def FRDST_PRESET : Field := { base := 0x61000, s1 := 0x10, n1 := 1024, lo := 0, w := 8, ty := .ro }
def FRDST_ACTION : Field := { base := 0x61000, s1 := 0x10, n1 := 1024, lo := 8, w := 2, ty := .ro }
def FRDST_HB_CHK : Field := { base := 0x61000, s1 := 0x10, n1 := 1024, lo := 12, w := 1, ty := .ro }
def FRDST_VERDICT : Field := { base := 0x61000, s1 := 0x10, n1 := 1024, lo := 13, w := 1, ty := .ro }
def FRDST_MAX_AGE_MS : Field := { base := 0x61000, s1 := 0x10, n1 := 1024, lo := 16, w := 16, ty := .ro }
def FRDST_STALL_MS : Field := { base := 0x61004, s1 := 0x10, n1 := 1024, lo := 0, w := 16, ty := .ro }
def FRDST_FSTATE : Field := { base := 0x61004, s1 := 0x10, n1 := 1024, lo := 16, w := 2, ty := .ro }
def FRDST_COND : Field := { base := 0x61004, s1 := 0x10, n1 := 1024, lo := 24, w := 7, ty := .ro }
def FRDST_AGE_MS : Field := { base := 0x61008, s1 := 0x10, n1 := 1024, lo := 0, w := 32, ty := .ro }
def FRDST_ACTED : Field := { base := 0x6100C, s1 := 0x10, n1 := 1024, lo := 0, w := 32, ty := .ro }

/-- Every field of the FRDST tables. -/
def fieldsFRDST : List Field :=
  [FRDST_PRESET, FRDST_ACTION, FRDST_HB_CHK, FRDST_VERDICT, FRDST_MAX_AGE_MS, FRDST_STALL_MS, FRDST_FSTATE, FRDST_COND, FRDST_AGE_MS, FRDST_ACTED]


/-! ### FRLYR: 07_freshness.md R214 -/

def FRLYR_PRESET : Field := { base := 0x65000, s1 := 0x10, n1 := 768, lo := 0, w := 8, ty := .ro }
def FRLYR_ACTION : Field := { base := 0x65000, s1 := 0x10, n1 := 768, lo := 8, w := 2, ty := .ro }
def FRLYR_HB_CHK : Field := { base := 0x65000, s1 := 0x10, n1 := 768, lo := 12, w := 1, ty := .ro }
def FRLYR_VERDICT : Field := { base := 0x65000, s1 := 0x10, n1 := 768, lo := 13, w := 1, ty := .ro }
def FRLYR_MAX_AGE_MS : Field := { base := 0x65000, s1 := 0x10, n1 := 768, lo := 16, w := 16, ty := .ro }
def FRLYR_STALL_MS : Field := { base := 0x65004, s1 := 0x10, n1 := 768, lo := 0, w := 16, ty := .ro }
def FRLYR_FSTATE : Field := { base := 0x65004, s1 := 0x10, n1 := 768, lo := 16, w := 2, ty := .ro }
def FRLYR_COND : Field := { base := 0x65004, s1 := 0x10, n1 := 768, lo := 24, w := 7, ty := .ro }
def FRLYR_AGE_MS : Field := { base := 0x65008, s1 := 0x10, n1 := 768, lo := 0, w := 32, ty := .ro }
def FRLYR_TILES_ACT : Field := { base := 0x6500C, s1 := 0x10, n1 := 768, lo := 0, w := 7, ty := .ro }
def FRLYR_FIRST_TILE : Field := { base := 0x6500C, s1 := 0x10, n1 := 768, lo := 8, w := 6, ty := .ro }
def FRLYR_ACTED : Field := { base := 0x6500C, s1 := 0x10, n1 := 768, lo := 16, w := 16, ty := .ro }

/-- Every field of the FRLYR tables. -/
def fieldsFRLYR : List Field :=
  [FRLYR_PRESET, FRLYR_ACTION, FRLYR_HB_CHK, FRLYR_VERDICT, FRLYR_MAX_AGE_MS, FRLYR_STALL_MS, FRLYR_FSTATE, FRLYR_COND, FRLYR_AGE_MS, FRLYR_TILES_ACT, FRLYR_FIRST_TILE, FRLYR_ACTED]


/-! ### CWAY: 17_redundancy.md R457 -/

def CWAY_PAIR_EN : Field := { base := 0x70000, lo := 0, w := 1, ty := .rw, keep := .pin }
def CWAY_AUTO_YIELD : Field := { base := 0x70000, lo := 1, w := 1, ty := .rw, reset := fun _ _ => 1 }
def CWAY_NEG_MS : Field := { base := 0x70000, lo := 16, w := 16, ty := .rw, keep := .pin, reset := fun _ _ => 500 }
def CWAY_MISMATCH_LIMIT : Field := { base := 0x70004, lo := 0, w := 8, ty := .rw, reset := fun _ _ => 3 }
def CWAY_KAT_PERIOD_S : Field := { base := 0x70004, lo := 8, w := 8, ty := .rw, reset := fun _ _ => 1 }
def CWAY_JOIN_S : Field := { base := 0x70004, lo := 16, w := 16, ty := .rw, reset := fun _ _ => 10, norm := fun _ v => raiseTo 1 v }
def CWAY_ROLE_STATE : Field := { base := 0x70008, lo := 0, w := 3, ty := .ro, keep := .pin }
def CWAY_ROLE_STRAP : Field := { base := 0x70008, lo := 3, w := 1, ty := .ro, keep := .pin }
def CWAY_TOKEN_OUT_A : Field := { base := 0x70008, lo := 4, w := 1, ty := .ro, keep := .pin }
def CWAY_TOKEN_IN_A : Field := { base := 0x70008, lo := 5, w := 1, ty := .ro, keep := .pin }
def CWAY_PF_LINE : Field := { base := 0x70008, lo := 6, w := 1, ty := .ro, keep := .pin }
def CWAY_PF_DRIVE : Field := { base := 0x70008, lo := 7, w := 1, ty := .ro, keep := .pin }
def CWAY_LINK_UP : Field := { base := 0x70008, lo := 8, w := 1, ty := .ro, keep := .pin }
def CWAY_PEER_SEEN : Field := { base := 0x70008, lo := 9, w := 1, ty := .ro, keep := .pin }
def CWAY_READY : Field := { base := 0x70008, lo := 10, w := 1, ty := .ro, keep := .pin }
def CWAY_HELD_CAUSE : Field := { base := 0x70008, lo := 16, w := 4, ty := .ro, keep := .pin }
def CWAY_PEER_STATE : Field := { base := 0x7000C, lo := 0, w := 3, ty := .ro, keep := .pin }
def CWAY_PEER_STRAP : Field := { base := 0x7000C, lo := 3, w := 1, ty := .ro, keep := .pin }
def CWAY_PEER_READY : Field := { base := 0x7000C, lo := 4, w := 1, ty := .ro, keep := .pin }
def CWAY_DEV_SERIAL_LO : Field := { base := 0x70010, lo := 0, w := 32, ty := .ro, keep := .por }
def CWAY_DEV_SERIAL_HI : Field := { base := 0x70014, lo := 0, w := 32, ty := .ro, keep := .por }
def CWAY_PEER_SERIAL_LO : Field := { base := 0x70018, lo := 0, w := 32, ty := .ro, keep := .pin }
def CWAY_PEER_SERIAL_HI : Field := { base := 0x7001C, lo := 0, w := 32, ty := .ro, keep := .pin }
def CWAY_TAKEOVERS : Field := { base := 0x70020, lo := 0, w := 32, ty := .ro, keep := .por }
def CWAY_HANDOVERS : Field := { base := 0x70024, lo := 0, w := 32, ty := .ro, keep := .por }
def CWAY_DIG_MISMATCH : Field := { base := 0x70028, lo := 0, w := 32, ty := .ro }
def CWAY_DIG_MISSING : Field := { base := 0x7002C, lo := 0, w := 32, ty := .ro }
def CWAY_INGEST_DIFF : Field := { base := 0x70030, lo := 0, w := 32, ty := .ro }
def CWAY_SEL_MISS : Field := { base := 0x70034, lo := 0, w := 32, ty := .ro }
def CWAY_RETX : Field := { base := 0x70038, lo := 0, w := 32, ty := .ro }
def CWAY_MSG_CRC_ERR : Field := { base := 0x7003C, lo := 0, w := 32, ty := .ro }
def CWAY_MIRROR_Q : Field := { base := 0x70040, lo := 0, w := 32, ty := .ro }
def CWAY_PEER_HEALTH : Field := { base := 0x70080, s1 := 0x4, n1 := 16, lo := 0, w := 32, ty := .ro, keep := .pin }
def CWAY_OWN_HEALTH : Field := { base := 0x700C0, s1 := 0x4, n1 := 16, lo := 0, w := 32, ty := .ro, keep := .pin }

/-- Every field of the CWAY tables. -/
def fieldsCWAY : List Field :=
  [CWAY_PAIR_EN, CWAY_AUTO_YIELD, CWAY_NEG_MS, CWAY_MISMATCH_LIMIT, CWAY_KAT_PERIOD_S, CWAY_JOIN_S, CWAY_ROLE_STATE, CWAY_ROLE_STRAP, CWAY_TOKEN_OUT_A, CWAY_TOKEN_IN_A, CWAY_PF_LINE, CWAY_PF_DRIVE, CWAY_LINK_UP, CWAY_PEER_SEEN, CWAY_READY, CWAY_HELD_CAUSE, CWAY_PEER_STATE, CWAY_PEER_STRAP, CWAY_PEER_READY, CWAY_DEV_SERIAL_LO, CWAY_DEV_SERIAL_HI, CWAY_PEER_SERIAL_LO, CWAY_PEER_SERIAL_HI, CWAY_TAKEOVERS, CWAY_HANDOVERS, CWAY_DIG_MISMATCH, CWAY_DIG_MISSING, CWAY_INGEST_DIFF, CWAY_SEL_MISS, CWAY_RETX] ++
  [CWAY_MSG_CRC_ERR, CWAY_MIRROR_Q, CWAY_PEER_HEALTH, CWAY_OWN_HEALTH]


/-! ### TOW: 20_towpath.md R504 -/

def TOW_EN : Field := { base := 0x71000, s1 := 0x1000, n1 := 2, lo := 0, w := 1, ty := .rw }
def TOW_PROMISC : Field := { base := 0x71000, s1 := 0x1000, n1 := 2, lo := 1, w := 1, ty := .rw }
def TOW_BCAST_EN : Field := { base := 0x71000, s1 := 0x1000, n1 := 2, lo := 2, w := 1, ty := .rw, reset := fun _ _ => 1 }
def TOW_RX_INT : Field := { base := 0x71000, s1 := 0x1000, n1 := 2, lo := 4, w := 1, ty := .rw }
def TOW_TX_INT : Field := { base := 0x71000, s1 := 0x1000, n1 := 2, lo := 5, w := 1, ty := .rw }
def TOW_VECTOR : Field := { base := 0x71000, s1 := 0x1000, n1 := 2, lo := 8, w := 6, ty := .rw }
def TOW_ADDR : Field := { base := 0x71000, s1 := 0x1000, n1 := 2, lo := 16, w := 8, ty := .rw, norm := fun _ v => zeroAbove 254 v }
def TOW_CARRIER : Field := { base := 0x71004, s1 := 0x1000, n1 := 2, lo := 0, w := 1, ty := .ro }
def TOW_TX_ACTIVE : Field := { base := 0x71004, s1 := 0x1000, n1 := 2, lo := 1, w := 1, ty := .ro }
def TOW_STUCK : Field := { base := 0x71004, s1 := 0x1000, n1 := 2, lo := 2, w := 1, ty := .ro }
def TOW_TX_DEPTH : Field := { base := 0x71004, s1 := 0x1000, n1 := 2, lo := 4, w := 3, ty := .ro }
def TOW_RX_DEPTH : Field := { base := 0x71004, s1 := 0x1000, n1 := 2, lo := 8, w := 5, ty := .ro }
def TOW_TX_ERR : Field := { base := 0x71004, s1 := 0x1000, n1 := 2, lo := 16, w := 1, ty := .w1c }
def TOW_TX_ERR_CAUSE : Field := { base := 0x71004, s1 := 0x1000, n1 := 2, lo := 20, w := 3, ty := .ro }
def TOW_TX_GO : Field := { base := 0x71008, s1 := 0x1000, n1 := 2, lo := 0, w := 1, ty := .wo }
def TOW_TX_FLUSH : Field := { base := 0x71008, s1 := 0x1000, n1 := 2, lo := 1, w := 1, ty := .wo }
def TOW_RX_POP : Field := { base := 0x71008, s1 := 0x1000, n1 := 2, lo := 2, w := 1, ty := .wo }
def TOW_TX_LAST : Field := { base := 0x7100C, s1 := 0x1000, n1 := 2, lo := 0, w := 3, ty := .ro }
def TOW_TX_ATTEMPTS : Field := { base := 0x7100C, s1 := 0x1000, n1 := 2, lo := 4, w := 5, ty := .ro }
def TOW_TYPE_MASK : Field := { base := 0x71020, s1 := 0x1000, n1 := 2, s2 := 0x4, n2 := 8, lo := 0, w := 32, ty := .rw, reset := fun _ _ => 0xFFFFFFFF }
def TOW_RX_HDR : Field := { base := 0x71040, s1 := 0x1000, n1 := 2, lo := 0, w := 32, ty := .ro }
def TOW_RX_KIND : Field := { base := 0x71044, s1 := 0x1000, n1 := 2, lo := 0, w := 2, ty := .ro }
def TOW_RX_TIME_LO : Field := { base := 0x71048, s1 := 0x1000, n1 := 2, lo := 0, w := 32, ty := .ro }
def TOW_RX_TIME_HI : Field := { base := 0x7104C, s1 := 0x1000, n1 := 2, lo := 0, w := 32, ty := .ro }
def TOW_RX_OK : Field := { base := 0x71100, s1 := 0x1000, n1 := 2, lo := 0, w := 32, ty := .ro }
def TOW_RX_UNICAST : Field := { base := 0x71104, s1 := 0x1000, n1 := 2, lo := 0, w := 32, ty := .ro }
def TOW_RX_BCAST : Field := { base := 0x71108, s1 := 0x1000, n1 := 2, lo := 0, w := 32, ty := .ro }
def TOW_RX_OTHER : Field := { base := 0x7110C, s1 := 0x1000, n1 := 2, lo := 0, w := 32, ty := .ro }
def TOW_RX_SIZE : Field := { base := 0x71110, s1 := 0x1000, n1 := 2, s2 := 0x4, n2 := 5, lo := 0, w := 32, ty := .ro }
def TOW_RX_TYPEG : Field := { base := 0x71124, s1 := 0x1000, n1 := 2, s2 := 0x4, n2 := 8, lo := 0, w := 32, ty := .ro }
def TOW_RX_CRC_ERR : Field := { base := 0x71144, s1 := 0x1000, n1 := 2, lo := 0, w := 32, ty := .ro }
def TOW_RX_MANCH_ERR : Field := { base := 0x71148, s1 := 0x1000, n1 := 2, lo := 0, w := 32, ty := .ro }
def TOW_RX_ALIGN_ERR : Field := { base := 0x7114C, s1 := 0x1000, n1 := 2, lo := 0, w := 32, ty := .ro }
def TOW_RX_RUNT : Field := { base := 0x71150, s1 := 0x1000, n1 := 2, lo := 0, w := 32, ty := .ro }
def TOW_RX_LEN_ERR : Field := { base := 0x71154, s1 := 0x1000, n1 := 2, lo := 0, w := 32, ty := .ro }
def TOW_RX_FILTERED : Field := { base := 0x71158, s1 := 0x1000, n1 := 2, lo := 0, w := 32, ty := .ro }
def TOW_RX_OVF : Field := { base := 0x7115C, s1 := 0x1000, n1 := 2, lo := 0, w := 32, ty := .ro }
def TOW_RX_ADDR_CONFLICT : Field := { base := 0x71160, s1 := 0x1000, n1 := 2, lo := 0, w := 32, ty := .ro }
def TOW_TX_OK : Field := { base := 0x71180, s1 := 0x1000, n1 := 2, lo := 0, w := 32, ty := .ro }
def TOW_TX_SIZE : Field := { base := 0x71184, s1 := 0x1000, n1 := 2, s2 := 0x4, n2 := 5, lo := 0, w := 32, ty := .ro }
def TOW_TX_TYPEG : Field := { base := 0x71198, s1 := 0x1000, n1 := 2, s2 := 0x4, n2 := 8, lo := 0, w := 32, ty := .ro }
def TOW_TX_DEFER : Field := { base := 0x711B8, s1 := 0x1000, n1 := 2, lo := 0, w := 32, ty := .ro }
def TOW_TX_COLL : Field := { base := 0x711BC, s1 := 0x1000, n1 := 2, lo := 0, w := 32, ty := .ro }
def TOW_TX_EXCESS : Field := { base := 0x711C0, s1 := 0x1000, n1 := 2, lo := 0, w := 32, ty := .ro }
def TOW_TX_LATE : Field := { base := 0x711C4, s1 := 0x1000, n1 := 2, lo := 0, w := 32, ty := .ro }
def TOW_TX_FLUSHED : Field := { base := 0x711C8, s1 := 0x1000, n1 := 2, lo := 0, w := 32, ty := .ro }
def TOW_TX_ABORT : Field := { base := 0x711CC, s1 := 0x1000, n1 := 2, lo := 0, w := 32, ty := .ro }
def TOW_TX_BUF : Field := { base := 0x71400, s1 := 0x1000, n1 := 2, s2 := 0x4, n2 := 64, lo := 0, w := 32, ty := .rw }
def TOW_RX_BUF : Field := { base := 0x71800, s1 := 0x1000, n1 := 2, s2 := 0x4, n2 := 64, lo := 0, w := 32, ty := .ro }

/-- Every field of the TOW tables. -/
def fieldsTOW : List Field :=
  [TOW_EN, TOW_PROMISC, TOW_BCAST_EN, TOW_RX_INT, TOW_TX_INT, TOW_VECTOR, TOW_ADDR, TOW_CARRIER, TOW_TX_ACTIVE, TOW_STUCK, TOW_TX_DEPTH, TOW_RX_DEPTH, TOW_TX_ERR, TOW_TX_ERR_CAUSE, TOW_TX_GO, TOW_TX_FLUSH, TOW_RX_POP, TOW_TX_LAST, TOW_TX_ATTEMPTS, TOW_TYPE_MASK, TOW_RX_HDR, TOW_RX_KIND, TOW_RX_TIME_LO, TOW_RX_TIME_HI, TOW_RX_OK, TOW_RX_UNICAST, TOW_RX_BCAST, TOW_RX_OTHER, TOW_RX_SIZE, TOW_RX_TYPEG] ++
  [TOW_RX_CRC_ERR, TOW_RX_MANCH_ERR, TOW_RX_ALIGN_ERR, TOW_RX_RUNT, TOW_RX_LEN_ERR, TOW_RX_FILTERED, TOW_RX_OVF, TOW_RX_ADDR_CONFLICT, TOW_TX_OK, TOW_TX_SIZE, TOW_TX_TYPEG, TOW_TX_DEFER, TOW_TX_COLL, TOW_TX_EXCESS, TOW_TX_LATE, TOW_TX_FLUSHED, TOW_TX_ABORT, TOW_TX_BUF, TOW_RX_BUF]


end Sys2Proof.Machine.Reg
end

