-- ==== Sys2Proof/Machine/PairOps.lean ====
section
/-! DEFINITION. The role of the device in a pair and the sending of Causeway messages (R434, R443 .. R445). -/

namespace Sys2Proof.Machine
open Reg

/-! ### Roles (R434) -/

namespace Role
def INIT : Nat := 0
def SOLO : Nat := 1
def ACTIVE : Nat := 2
def JOINING : Nat := 3
def STANDBY : Nat := 4
def HELD : Nat := 5
def SAFE : Nat := 6
end Role

def State.role (s : State) : Nat := s.fld CWAY_ROLE_STATE

/-- The device is active: in SOLO or ACTIVE. -/
def State.isActive (s : State) : Bool := s.role == Role.SOLO || s.role == Role.ACTIVE

/-- The device is paired: in ACTIVE. -/
def State.paired (s : State) : Bool := s.role == Role.ACTIVE

/-- The device follows an active peer: in JOINING or STANDBY. -/
def State.follows (s : State) : Bool := s.role == Role.JOINING || s.role == Role.STANDBY

/-- The device is active and its peer follows it (R440). -/
def State.mirrors (s : State) : Bool :=
  s.isActive && (s.fld CWAY_PEER_STATE == Role.JOINING || s.fld CWAY_PEER_STATE == Role.STANDBY)

/-- The device takes part in the comparison of digests: it is paired, or one follows the other (R435, R447). -/
def State.compares (s : State) : Bool := s.paired || s.mirrors || s.follows

/-- An immediate take is an internal group (R172): on a paired device, and on a device that follows one or receives its
scheduled takes in a snapshot. -/
def State.pairedTakes (s : State) : Bool :=
  s.paired || (s.follows && (s.fld CWAY_PEER_STATE == Role.ACTIVE || s.cway.snapIn))

/-! ### Messages (R443 .. R445) -/

namespace Msg
def HELLO : Nat := 0x01
def ROLE : Nat := 0x02
def LINK_ACK : Nat := 0x03
def TIME : Nat := 0x04
def SELECT : Nat := 0x10
def TEAR : Nat := 0x11
def AUDIO_DEC : Nat := 0x12
def DIG_IN : Nat := 0x20
def DIG_OUT : Nat := 0x21
def DIG_AUD : Nat := 0x22
def HEALTH : Nat := 0x28
def KAT_REQ : Nat := 0x29
def MIRROR_CMD : Nat := 0x30
def MIRROR_DATA : Nat := 0x31
def MIRROR_REG : Nat := 0x32
def MIRROR_OWN : Nat := 0x33
def GROUP_END : Nat := 0x34
def GROUP_ACK : Nat := 0x35
def DECISION : Nat := 0x36
def SNAP_BEGIN : Nat := 0x37
def SNAP_END : Nat := 0x38
def SEQ_ALIGN : Nat := 0x39
end Msg

/-- The class of a message type (R445). -/
def msgClass (ty : Nat) : Nat := if ty < 0x10 then 0 else if ty < 0x20 then 1 else if ty < 0x30 then 2 else 3

/-- Bytes that an unacknowledged message takes in the store: its blocks of 8 bytes (R443). -/
def CwMsg.bytes (m : CwMsg) : Nat := 8 * (m.words.length + 2)

/-- A 64-bit payload word from its low and high halves. -/
def word64 (lo hi : Nat) : Nat := lo % 2 ^ 32 + 2 ^ 32 * (hi % 2 ^ 32)

/-- A message is handed to the Causeway lanes under a sequence number; nothing leaves while the link is down. -/
def State.putMsg (s : State) (flags mseq : Nat) (m : CwMsg) : State :=
  s.when (s.fldOn CWAY_LINK_UP) (fun s =>
    (s.emit (.causeway m.ty flags mseq m.words)).queueMessage (msgClass m.ty) m.ty flags mseq m.words)

/-- The payload of ROLE (R446). -/
def State.roleWords (s : State) (resync handover : Bool) (t : Nat) : List Nat :=
  [s.role + 2 ^ 4 * s.fld CWAY_HELD_CAUSE + 2 ^ 8 * bit resync + 2 ^ 9 * bit handover, t]

/-- The next sequence number of a class is taken and the message leaves. -/
def State.sendNow (s : State) (m : CwMsg) : State :=
  let c := msgClass m.ty
  let q := Tab.get 0 s.cway.mseq c
  let p := s.cway
  let p := { p with
    mseq := Tab.set 0 p.mseq c ((q + 1) % 2 ^ 24)
    unacked := if c = 3 then p.unacked ++ [(q, m)] else p.unacked
    ackMoved := if c = 3 ∧ p.unacked.isEmpty then s.time.grid else p.ackMoved }
  ({ s with cway := p }).putMsg 0 q m

/-- A message is sent. When the store of unacknowledged class 3 messages is full, it is discarded and the peer must
rejoin (R444). -/
def State.send (s : State) (ty : Nat) (words : List Nat) : State :=
  let m : CwMsg := { ty := ty, words := words }
  let stored := (s.cway.unacked.map (fun x => x.2.bytes)).sum
  if msgClass ty = 3 ∧ 4194304 < stored + m.bytes then
    let p := s.cway
    ({ s with cway := { p with unacked := [] } }).sendNow { ty := Msg.ROLE, words := s.roleWords true false 0 }
  else s.sendNow m

/-- The device enters a role (R431, R435, R456): TOKEN_OUT is asserted in SOLO and ACTIVE, PAIR_FAULT_N is driven in SAFE.
PAIR_ROLE is raised and, out of the safe state, ROLE is sent. -/
def State.enterRole (s : State) (r cause : Nat) : State :=
  let cause := if r = Role.HELD then cause else 0
  let was := s.isActive
  let s := (s.setFld CWAY_ROLE_STATE r).setFld CWAY_HELD_CAUSE cause
  let s := s.setFld CWAY_TOKEN_OUT_A (bit (r == Role.SOLO || r == Role.ACTIVE))
  let s := s.when (r == Role.SAFE) (fun s => (s.setFld CWAY_PF_DRIVE 1).setFld CWAY_PF_LINE 1)
  let p := s.cway
  let fresh := r == Role.INIT || r == Role.JOINING
  let p := { p with
    roleFrom := s.time.grid
    initHello := p.initHello && r != Role.INIT
    agrees := if fresh then [] else p.agrees
    snapIn := p.snapIn && !fresh
    snapDone := p.snapDone && !fresh
    snapSent := p.snapSent && !fresh
    rxSync := p.rxSync || r == Role.JOINING
    sendFrom := if r = Role.SOLO ∧ was = false then s.now else p.sendFrom
    cmdsIn := if r == Role.STANDBY then p.cmdsIn else [] }
  let s := { s with cway := p }
  let s := s.raise Ev.PAIR_ROLE { data := r + 2 ^ 4 * cause }
  s.when (r != Role.SAFE) (fun s => s.send Msg.ROLE (s.roleWords false false 0))

end Sys2Proof.Machine
end

