-- ==== Sys2Proof/Machine/RegMedia.lean ====
section
/-! DEFINITION. The register fields of the Media blocks, one constant per field, transcribed from the field tables
of the spec: byte offset, strides, bits, type (R8), Keep class (R9), reset value and the value a write is stored as. -/

namespace Sys2Proof.Machine.Reg
open Sys2Proof.Machine

/-! ### AUD: 13_audio_engine.md R376 -/

def AUD_ASRC_USED : Field := { base := 0x80000, lo := 0, w := 11, ty := .ro }
def AUD_ASRC_LOCKED : Field := { base := 0x80000, lo := 16, w := 11, ty := .ro }
def AUD_DLY_USED : Field := { base := 0x80004, lo := 0, w := 24, ty := .ro }
def AUD_MAP_SEL : Field := { base := 0x80010, lo := 0, w := 15, ty := .rw }
def AUD_MAP_W0 : Field := { base := 0x80014, lo := 0, w := 32, ty := .ro }
def AUD_MAP_W1 : Field := { base := 0x80018, lo := 0, w := 32, ty := .ro }
def AUD_GAIN_A : Field := { base := 0x8001C, lo := 0, w := 32, ty := .ro, reset := fun _ _ => 0x01000000 }
def AUD_GAIN_B : Field := { base := 0x80020, lo := 0, w := 32, ty := .ro, reset := fun _ _ => 0x01000000 }
def AUD_RAMP : Field := { base := 0x80024, lo := 0, w := 1, ty := .ro }
def AUD_FADE : Field := { base := 0x80024, lo := 1, w := 1, ty := .ro }

/-- Every field of the AUD tables. -/
def fieldsAUD : List Field :=
  [AUD_ASRC_USED, AUD_ASRC_LOCKED, AUD_DLY_USED, AUD_MAP_SEL, AUD_MAP_W0, AUD_MAP_W1, AUD_GAIN_A, AUD_GAIN_B, AUD_RAMP, AUD_FADE]


/-! ### AIN: 13_audio_engine.md R376 -/

def AIN_BASE : Field := { base := 0x81000, s2 := 0x8, n2 := 1024, lo := 0, w := 15, ty := .rw }
def AIN_COUNT : Field := { base := 0x81000, s2 := 0x8, n2 := 1024, lo := 16, w := 11, ty := .rw, norm := fun _ v => zeroAbove 1024 v }
def AIN_CLK : Field := { base := 0x81000, s2 := 0x8, n2 := 1024, lo := 28, w := 2, ty := .rw }
def AIN_LINK_OFS : Field := { base := 0x81004, s2 := 0x8, n2 := 1024, lo := 0, w := 12, ty := .rw, reset := fun _ _ => 144, norm := fun _ v => capAt 3000 v }

/-- Every field of the AIN tables. -/
def fieldsAIN : List Field :=
  [AIN_BASE, AIN_COUNT, AIN_CLK, AIN_LINK_OFS]


/-! ### EMB: 13_audio_engine.md R376 -/

def EMB_OUT_BASE : Field := { base := 0x83000, s2 := 0x8, n2 := 1024, lo := 0, w := 15, ty := .rw }
def EMB_MODE : Field := { base := 0x83000, s2 := 0x8, n2 := 1024, lo := 16, w := 2, ty := .rw, reset := fun _ _ => 1 }
def EMB_CH : Field := { base := 0x83000, s2 := 0x8, n2 := 1024, lo := 24, w := 8, ty := .rw, reset := fun _ _ => 16, norm := fun _ v => capAt 128 v }
def EMB_DLY : Field := { base := 0x83004, s2 := 0x8, n2 := 1024, lo := 0, w := 13, ty := .rw, norm := fun _ v => capAt 4800 v }
def EMB_TRUNC : Field := { base := 0x83004, s2 := 0x8, n2 := 1024, lo := 16, w := 1, ty := .w1c }
def EMB_EMB_ERR : Field := { base := 0x83004, s2 := 0x8, n2 := 1024, lo := 17, w := 1, ty := .w1c }
def EMB_CH_USED : Field := { base := 0x83004, s2 := 0x8, n2 := 1024, lo := 24, w := 8, ty := .ro }

/-- Every field of the EMB tables. -/
def fieldsEMB : List Field :=
  [EMB_OUT_BASE, EMB_MODE, EMB_CH, EMB_DLY, EMB_TRUNC, EMB_EMB_ERR, EMB_CH_USED]


/-! ### AGRP: 13_audio_engine.md R376 -/

def AGRP_AG_BASE : Field := { base := 0x85000, s2 := 0x8, n2 := 512, lo := 0, w := 15, ty := .rw }
def AGRP_AG_COUNT : Field := { base := 0x85000, s2 := 0x8, n2 := 512, lo := 16, w := 7, ty := .rw, norm := fun _ v => zeroAbove 64 v }
def AGRP_AG_UNDER : Field := { base := 0x85004, s2 := 0x8, n2 := 512, lo := 0, w := 7, ty := .ro }
def AGRP_AG_ERR : Field := { base := 0x85004, s2 := 0x8, n2 := 512, lo := 8, w := 1, ty := .w1c }
def AGRP_AG_SLIPS : Field := { base := 0x85004, s2 := 0x8, n2 := 512, lo := 16, w := 16, ty := .ro }

/-- Every field of the AGRP tables. -/
def fieldsAGRP : List Field :=
  [AGRP_AG_BASE, AGRP_AG_COUNT, AGRP_AG_UNDER, AGRP_AG_ERR, AGRP_AG_SLIPS]


/-! ### AINST: 13_audio_engine.md R376 -/

def AINST_CSTATE : Field := { base := 0x86000, s2 := 0x8, n2 := 1024, lo := 0, w := 2, ty := .ro }
def AINST_AUTO_ASRC : Field := { base := 0x86000, s2 := 0x8, n2 := 1024, lo := 2, w := 1, ty := .ro }
def AINST_AIN_ERR : Field := { base := 0x86000, s2 := 0x8, n2 := 1024, lo := 3, w := 1, ty := .w1c }
def AINST_RATE_ERR : Field := { base := 0x86000, s2 := 0x8, n2 := 1024, lo := 4, w := 1, ty := .w1c }
def AINST_CH_LIVE : Field := { base := 0x86000, s2 := 0x8, n2 := 1024, lo := 16, w := 11, ty := .ro }
def AINST_SLIPS : Field := { base := 0x86004, s2 := 0x8, n2 := 1024, lo := 0, w := 16, ty := .ro }
def AINST_UNDERRUNS : Field := { base := 0x86004, s2 := 0x8, n2 := 1024, lo := 16, w := 16, ty := .ro }

/-- Every field of the AINST tables. -/
def fieldsAINST : List Field :=
  [AINST_CSTATE, AINST_AUTO_ASRC, AINST_AIN_ERR, AINST_RATE_ERR, AINST_CH_LIVE, AINST_SLIPS, AINST_UNDERRUNS]


/-! ### AESIN: 14_aes3_ports.md R390 -/

def AESIN_EN : Field := { base := 0x90000, s1 := 0x100, n1 := 64, lo := 0, w := 1, ty := .rw }
def AESIN_SRC : Field := { base := 0x90000, s1 := 0x100, n1 := 64, lo := 16, w := 11, ty := .rw, reset := fun _ _ => 2047 }
def AESIN_WOFS : Field := { base := 0x90004, s1 := 0x100, n1 := 64, lo := 0, w := 10, ty := .rw }
def AESIN_RATE_TOL : Field := { base := 0x90008, s1 := 0x100, n1 := 64, lo := 0, w := 8, ty := .rw, reset := fun _ _ => 5 }
def AESIN_STATE : Field := { base := 0x90040, s1 := 0x100, n1 := 64, lo := 0, w := 2, ty := .ro }
def AESIN_BLOCK_SYNC : Field := { base := 0x90040, s1 := 0x100, n1 := 64, lo := 2, w := 1, ty := .ro }
def AESIN_CONSUMER : Field := { base := 0x90040, s1 := 0x100, n1 := 64, lo := 3, w := 1, ty := .ro }
def AESIN_NONAUDIO : Field := { base := 0x90040, s1 := 0x100, n1 := 64, lo := 4, w := 1, ty := .ro }
def AESIN_BIND_ERR : Field := { base := 0x90040, s1 := 0x100, n1 := 64, lo := 8, w := 1, ty := .w1c }
def AESIN_RATE_HZ : Field := { base := 0x90044, s1 := 0x100, n1 := 64, lo := 0, w := 17, ty := .ro }
def AESIN_CS_LAST : Field := { base := 0x90048, s1 := 0x100, n1 := 64, s2 := 0x4, n2 := 6, lo := 0, w := 32, ty := .ro }
def AESIN_PARITY_ERR : Field := { base := 0x90060, s1 := 0x100, n1 := 64, lo := 0, w := 32, ty := .ro }
def AESIN_BIPHASE_ERR : Field := { base := 0x90064, s1 := 0x100, n1 := 64, lo := 0, w := 32, ty := .ro }
def AESIN_BLK_ERR : Field := { base := 0x90068, s1 := 0x100, n1 := 64, lo := 0, w := 32, ty := .ro }
def AESIN_CS_CRC_ERR : Field := { base := 0x9006C, s1 := 0x100, n1 := 64, lo := 0, w := 32, ty := .ro }
def AESIN_LOSS_CNT : Field := { base := 0x90070, s1 := 0x100, n1 := 64, lo := 0, w := 32, ty := .ro }

/-- Every field of the AESIN tables. -/
def fieldsAESIN : List Field :=
  [AESIN_EN, AESIN_SRC, AESIN_WOFS, AESIN_RATE_TOL, AESIN_STATE, AESIN_BLOCK_SYNC, AESIN_CONSUMER, AESIN_NONAUDIO, AESIN_BIND_ERR, AESIN_RATE_HZ, AESIN_CS_LAST, AESIN_PARITY_ERR, AESIN_BIPHASE_ERR, AESIN_BLK_ERR, AESIN_CS_CRC_ERR, AESIN_LOSS_CNT]


/-! ### AESOUT: 14_aes3_ports.md R391 -/

def AESOUT_EN : Field := { base := 0x94000, s1 := 0x100, n1 := 64, lo := 0, w := 1, ty := .rw }
def AESOUT_CS_MODE : Field := { base := 0x94000, s1 := 0x100, n1 := 64, lo := 4, w := 2, ty := .rw }
def AESOUT_OUT_CH : Field := { base := 0x94004, s1 := 0x100, n1 := 64, lo := 0, w := 15, ty := .rw }
def AESOUT_CS_T : Field := { base := 0x94020, s1 := 0x100, n1 := 64, s2 := 0x4, n2 := 6, lo := 0, w := 32, ty := .rw }
def AESOUT_ACTIVE : Field := { base := 0x94040, s1 := 0x100, n1 := 64, lo := 0, w := 1, ty := .ro }
def AESOUT_PHASE : Field := { base := 0x94040, s1 := 0x100, n1 := 64, lo := 1, w := 2, ty := .ro }
def AESOUT_CS_PASS_A : Field := { base := 0x94040, s1 := 0x100, n1 := 64, lo := 4, w := 1, ty := .ro }
def AESOUT_CS_PASS_B : Field := { base := 0x94040, s1 := 0x100, n1 := 64, lo := 5, w := 1, ty := .ro }
def AESOUT_OUT_ERR : Field := { base := 0x94040, s1 := 0x100, n1 := 64, lo := 8, w := 1, ty := .w1c }
def AESOUT_FRAMES : Field := { base := 0x94044, s1 := 0x100, n1 := 64, lo := 0, w := 32, ty := .ro }

/-- Every field of the AESOUT tables. -/
def fieldsAESOUT : List Field :=
  [AESOUT_EN, AESOUT_CS_MODE, AESOUT_OUT_CH, AESOUT_CS_T, AESOUT_ACTIVE, AESOUT_PHASE, AESOUT_CS_PASS_A, AESOUT_CS_PASS_B, AESOUT_OUT_ERR, AESOUT_FRAMES]


/-! ### ANCQ: 15_anc_queues.md R404 -/

def ANCQ_EN : Field := { base := 0xA0000, s1 := 0x40, n1 := 256, lo := 0, w := 1, ty := .rw }
def ANCQ_CONSUMER : Field := { base := 0xA0000, s1 := 0x40, n1 := 256, lo := 1, w := 2, ty := .rw, norm := fun _ v => zeroAbove 2 v }
def ANCQ_CONS_CORE : Field := { base := 0xA0000, s1 := 0x40, n1 := 256, lo := 4, w := 5, ty := .rw }
def ANCQ_PROD_EN : Field := { base := 0xA0000, s1 := 0x40, n1 := 256, lo := 12, w := 1, ty := .rw }
def ANCQ_PROD_CORE : Field := { base := 0xA0000, s1 := 0x40, n1 := 256, lo := 16, w := 5, ty := .rw }
def ANCQ_PAUSE_EN : Field := { base := 0xA0000, s1 := 0x40, n1 := 256, lo := 24, w := 1, ty := .rw }
def ANCQ_BASE : Field := { base := 0xA0004, s1 := 0x40, n1 := 256, lo := 0, w := 11, ty := .rw }
def ANCQ_SIZE : Field := { base := 0xA0004, s1 := 0x40, n1 := 256, lo := 16, w := 12, ty := .rw }
def ANCQ_FSRC : Field := { base := 0xA0008, s1 := 0x40, n1 := 256, lo := 0, w := 11, ty := .rw, reset := fun _ _ => 2047 }
def ANCQ_SRC_ALL : Field := { base := 0xA0008, s1 := 0x40, n1 := 256, lo := 12, w := 1, ty := .rw }
def ANCQ_LOC : Field := { base := 0xA0008, s1 := 0x40, n1 := 256, lo := 16, w := 2, ty := .rw, reset := fun _ _ => 3 }
def ANCQ_F_DID : Field := { base := 0xA000C, s1 := 0x40, n1 := 256, lo := 0, w := 8, ty := .rw }
def ANCQ_DID_MASK : Field := { base := 0xA000C, s1 := 0x40, n1 := 256, lo := 8, w := 8, ty := .rw }
def ANCQ_F_SDID : Field := { base := 0xA000C, s1 := 0x40, n1 := 256, lo := 16, w := 8, ty := .rw }
def ANCQ_SDID_MASK : Field := { base := 0xA000C, s1 := 0x40, n1 := 256, lo := 24, w := 8, ty := .rw }
def ANCQ_HI_WM : Field := { base := 0xA0010, s1 := 0x40, n1 := 256, lo := 0, w := 16, ty := .rw }
def ANCQ_LO_WM : Field := { base := 0xA0010, s1 := 0x40, n1 := 256, lo := 16, w := 16, ty := .rw }
def ANCQ_WR_PTR : Field := { base := 0xA0014, s1 := 0x40, n1 := 256, lo := 0, w := 22, ty := .ro }
def ANCQ_RD_PTR : Field := { base := 0xA0018, s1 := 0x40, n1 := 256, lo := 0, w := 22, ty := .ro }
def ANCQ_MARK_PTR : Field := { base := 0xA001C, s1 := 0x40, n1 := 256, lo := 0, w := 22, ty := .ro }
def ANCQ_MARK_LOST : Field := { base := 0xA001C, s1 := 0x40, n1 := 256, lo := 24, w := 1, ty := .ro }
def ANCQ_ABOVE : Field := { base := 0xA001C, s1 := 0x40, n1 := 256, lo := 25, w := 1, ty := .ro }
def ANCQ_PAUSED : Field := { base := 0xA001C, s1 := 0x40, n1 := 256, lo := 26, w := 1, ty := .ro }
def ANCQ_CFG_ERR : Field := { base := 0xA001C, s1 := 0x40, n1 := 256, lo := 27, w := 1, ty := .w1c }
def ANCQ_REL_PTR : Field := { base := 0xA0020, s1 := 0x40, n1 := 256, lo := 0, w := 22, ty := .ro }
def ANCQ_PKT_AVAIL : Field := { base := 0xA0024, s1 := 0x40, n1 := 256, lo := 0, w := 22, ty := .ro }
def ANCQ_PKT_IN : Field := { base := 0xA0028, s1 := 0x40, n1 := 256, lo := 0, w := 32, ty := .ro }
def ANCQ_DROP_PKT : Field := { base := 0xA002C, s1 := 0x40, n1 := 256, lo := 0, w := 32, ty := .ro }
def ANCQ_STALLS : Field := { base := 0xA0030, s1 := 0x40, n1 := 256, lo := 0, w := 32, ty := .ro }
def ANCQ_FILL : Field := { base := 0xA0034, s1 := 0x40, n1 := 256, lo := 0, w := 22, ty := .ro }

/-- Every field of the ANCQ tables. -/
def fieldsANCQ : List Field :=
  [ANCQ_EN, ANCQ_CONSUMER, ANCQ_CONS_CORE, ANCQ_PROD_EN, ANCQ_PROD_CORE, ANCQ_PAUSE_EN, ANCQ_BASE, ANCQ_SIZE, ANCQ_FSRC, ANCQ_SRC_ALL, ANCQ_LOC, ANCQ_F_DID, ANCQ_DID_MASK, ANCQ_F_SDID, ANCQ_SDID_MASK, ANCQ_HI_WM, ANCQ_LO_WM, ANCQ_WR_PTR, ANCQ_RD_PTR, ANCQ_MARK_PTR, ANCQ_MARK_LOST, ANCQ_ABOVE, ANCQ_PAUSED, ANCQ_CFG_ERR, ANCQ_REL_PTR, ANCQ_PKT_AVAIL, ANCQ_PKT_IN, ANCQ_DROP_PKT, ANCQ_STALLS, ANCQ_FILL]


/-! ### PROBE: 16_probe_cores.md R429 -/

def PROBE_STATE : Field := { base := 0xB0000, s1 := 0x400, n1 := 32, lo := 0, w := 3, ty := .ro, keep := .isl }
def PROBE_PC : Field := { base := 0xB0000, s1 := 0x400, n1 := 32, lo := 16, w := 14, ty := .ro, keep := .isl }
def PROBE_TRIG_PLANE : Field := { base := 0xB0004, s1 := 0x400, n1 := 32, lo := 0, w := 4, ty := .rw, norm := fun _ v => zeroAbove 8 v }
def PROBE_DIV : Field := { base := 0xB0004, s1 := 0x400, n1 := 32, lo := 8, w := 8, ty := .rw, reset := fun _ _ => 1 }
def PROBE_TRIG_DLY_NS : Field := { base := 0xB0008, s1 := 0x400, n1 := 32, lo := 0, w := 32, ty := .rw }
def PROBE_ENTRY : Field := { base := 0xB000C, s1 := 0x400, n1 := 32, lo := 0, w := 14, ty := .ro, keep := .isl }
def PROBE_PORT0_Q : Field := { base := 0xB0010, s1 := 0x400, n1 := 32, lo := 0, w := 8, ty := .rw }
def PROBE_PORT0_EN : Field := { base := 0xB0010, s1 := 0x400, n1 := 32, lo := 8, w := 1, ty := .rw }
def PROBE_PORT1_Q : Field := { base := 0xB0010, s1 := 0x400, n1 := 32, lo := 16, w := 8, ty := .rw }
def PROBE_PORT1_EN : Field := { base := 0xB0010, s1 := 0x400, n1 := 32, lo := 24, w := 1, ty := .rw }
def PROBE_CYCLES_LAST : Field := { base := 0xB0014, s1 := 0x400, n1 := 32, lo := 0, w := 32, ty := .ro, keep := .isl }
def PROBE_TRIGGERS : Field := { base := 0xB0018, s1 := 0x400, n1 := 32, lo := 0, w := 32, ty := .ro, keep := .isl }
def PROBE_OVERRUNS : Field := { base := 0xB001C, s1 := 0x400, n1 := 32, lo := 0, w := 32, ty := .ro, keep := .isl }
def PROBE_FAULT_CAUSE : Field := { base := 0xB0020, s1 := 0x400, n1 := 32, lo := 0, w := 4, ty := .ro, keep := .isl }
def PROBE_FAULT_PC : Field := { base := 0xB0020, s1 := 0x400, n1 := 32, lo := 16, w := 14, ty := .ro, keep := .isl }
def PROBE_VRD_PASS : Field := { base := 0xB0024, s1 := 0x400, n1 := 32, lo := 0, w := 16, ty := .ro, keep := .isl }
def PROBE_VRD_FAIL : Field := { base := 0xB0024, s1 := 0x400, n1 := 32, lo := 16, w := 16, ty := .ro, keep := .isl }
def PROBE_VRD_LOST : Field := { base := 0xB0028, s1 := 0x400, n1 := 32, lo := 0, w := 32, ty := .ro, keep := .isl }
def PROBE_CFG_ERR : Field := { base := 0xB002C, s1 := 0x400, n1 := 32, lo := 0, w := 1, ty := .w1c }
def PROBE_RES_EVEN : Field := { base := 0xB0040, s1 := 0x400, n1 := 32, s2 := 0x4, n2 := 8, lo := 0, w := 16, ty := .ro, keep := .isl }
def PROBE_RES_ODD : Field := { base := 0xB0040, s1 := 0x400, n1 := 32, s2 := 0x4, n2 := 8, lo := 16, w := 16, ty := .ro, keep := .isl }
def PROBE_RES_K : Field := { base := 0xB0060, s1 := 0x400, n1 := 32, lo := 0, w := 32, ty := .ro, keep := .isl }

/-- Every field of the PROBE tables. -/
def fieldsPROBE : List Field :=
  [PROBE_STATE, PROBE_PC, PROBE_TRIG_PLANE, PROBE_DIV, PROBE_TRIG_DLY_NS, PROBE_ENTRY, PROBE_PORT0_Q, PROBE_PORT0_EN, PROBE_PORT1_Q, PROBE_PORT1_EN, PROBE_CYCLES_LAST, PROBE_TRIGGERS, PROBE_OVERRUNS, PROBE_FAULT_CAUSE, PROBE_FAULT_PC, PROBE_VRD_PASS, PROBE_VRD_FAIL, PROBE_VRD_LOST, PROBE_CFG_ERR, PROBE_RES_EVEN, PROBE_RES_ODD, PROBE_RES_K]


/-! ### WIN: 16_probe_cores.md R429 -/

def WIN_KIND : Field := { base := 0xB0080, s1 := 0x400, n1 := 32, s2 := 0x20, n2 := 4, lo := 0, w := 2, ty := .rw, norm := fun _ v => zeroAbove 2 v }
def WIN_PP : Field := { base := 0xB0080, s1 := 0x400, n1 := 32, s2 := 0x20, n2 := 4, lo := 2, w := 1, ty := .rw }
def WIN_COMP : Field := { base := 0xB0080, s1 := 0x400, n1 := 32, s2 := 0x20, n2 := 4, lo := 4, w := 2, ty := .rw, norm := fun _ v => zeroAbove 2 v }
def WIN_LEVEL : Field := { base := 0xB0080, s1 := 0x400, n1 := 32, s2 := 0x20, n2 := 4, lo := 8, w := 3, ty := .rw, norm := fun _ v => zeroAbove 4 v }
def WIN_SRC : Field := { base := 0xB0080, s1 := 0x400, n1 := 32, s2 := 0x20, n2 := 4, lo := 16, w := 11, ty := .rw, reset := fun _ _ => 2047 }
def WIN_X : Field := { base := 0xB0084, s1 := 0x400, n1 := 32, s2 := 0x20, n2 := 4, lo := 0, w := 16, ty := .rw }
def WIN_Y : Field := { base := 0xB0084, s1 := 0x400, n1 := 32, s2 := 0x20, n2 := 4, lo := 16, w := 16, ty := .rw }
def WIN_W : Field := { base := 0xB0088, s1 := 0x400, n1 := 32, s2 := 0x20, n2 := 4, lo := 0, w := 16, ty := .rw }
def WIN_H : Field := { base := 0xB0088, s1 := 0x400, n1 := 32, s2 := 0x20, n2 := 4, lo := 16, w := 16, ty := .rw }
def WIN_DBASE_A : Field := { base := 0xB008C, s1 := 0x400, n1 := 32, s2 := 0x20, n2 := 4, lo := 0, w := 16, ty := .rw }
def WIN_DBASE_B : Field := { base := 0xB008C, s1 := 0x400, n1 := 32, s2 := 0x20, n2 := 4, lo := 16, w := 16, ty := .rw }
def WIN_CH : Field := { base := 0xB0090, s1 := 0x400, n1 := 32, s2 := 0x20, n2 := 4, lo := 0, w := 15, ty := .rw }
def WIN_POOL_OUT : Field := { base := 0xB0090, s1 := 0x400, n1 := 32, s2 := 0x20, n2 := 4, lo := 15, w := 1, ty := .rw }
def WIN_WIDE : Field := { base := 0xB0090, s1 := 0x400, n1 := 32, s2 := 0x20, n2 := 4, lo := 16, w := 1, ty := .rw }
def WIN_MAXN : Field := { base := 0xB0094, s1 := 0x400, n1 := 32, s2 := 0x20, n2 := 4, lo := 0, w := 13, ty := .rw, norm := fun _ v => capAt 4096 v }
def WIN_WSTAT : Field := { base := 0xB0098, s1 := 0x400, n1 := 32, s2 := 0x20, n2 := 4, lo := 0, w := 7, ty := .ro, keep := .isl }
def WIN_WSEQ : Field := { base := 0xB009C, s1 := 0x400, n1 := 32, s2 := 0x20, n2 := 4, lo := 0, w := 32, ty := .ro, keep := .isl }

/-- Every field of the WIN tables. -/
def fieldsWIN : List Field :=
  [WIN_KIND, WIN_PP, WIN_COMP, WIN_LEVEL, WIN_SRC, WIN_X, WIN_Y, WIN_W, WIN_H, WIN_DBASE_A, WIN_DBASE_B, WIN_CH, WIN_POOL_OUT, WIN_WIDE, WIN_MAXN, WIN_WSTAT, WIN_WSEQ]


/-! ### LANE: 12_lanes.md R353 -/

def LANE_PWR : Field := { base := 0x100000, s1 := 0x200, n1 := 584, lo := 0, w := 1, ty := .rw, reset := fun _ _ => 1 }
def LANE_LOOP : Field := { base := 0x100000, s1 := 0x200, n1 := 584, lo := 4, w := 3, ty := .rw, only := fun i => i < 256 ∨ 512 ≤ i }
def LANE_PRBS_GEN : Field := { base := 0x100000, s1 := 0x200, n1 := 584, lo := 8, w := 3, ty := .rw, norm := fun i v => storedPrbs i v, only := fun i => 256 ≤ i }
def LANE_PRBS_CHK : Field := { base := 0x100000, s1 := 0x200, n1 := 584, lo := 12, w := 3, ty := .rw, norm := fun i v => storedPrbs i v, only := fun i => i < 256 ∨ 512 ≤ i }
def LANE_TX_INV : Field := { base := 0x100000, s1 := 0x200, n1 := 584, lo := 16, w := 1, ty := .rw, only := fun i => 256 ≤ i }
def LANE_RX_INV : Field := { base := 0x100000, s1 := 0x200, n1 := 584, lo := 17, w := 1, ty := .rw, only := fun i => i < 256 ∨ 512 ≤ i }
def LANE_MANUAL_EQ : Field := { base := 0x100000, s1 := 0x200, n1 := 584, lo := 24, w := 1, ty := .rw }
def LANE_LT_EN : Field := { base := 0x100000, s1 := 0x200, n1 := 584, lo := 25, w := 1, ty := .rw, only := fun i => 512 ≤ i ∧ i < 576 }
def LANE_TEST_RATE : Field := { base := 0x100000, s1 := 0x200, n1 := 584, lo := 28, w := 3, ty := .rw, only := fun i => 256 ≤ i }
def LANE_PRESET : Field := { base := 0x100004, s1 := 0x200, n1 := 584, lo := 0, w := 4, ty := .rw, norm := fun _ v => zeroAbove 7 v, only := fun i => 256 ≤ i }
def LANE_C_PRE : Field := { base := 0x100004, s1 := 0x200, n1 := 584, lo := 8, w := 4, ty := .rw, only := fun i => 256 ≤ i }
def LANE_C_MAIN : Field := { base := 0x100004, s1 := 0x200, n1 := 584, lo := 16, w := 6, ty := .rw, only := fun i => 256 ≤ i }
def LANE_C_POST : Field := { base := 0x100004, s1 := 0x200, n1 := 584, lo := 24, w := 5, ty := .rw, only := fun i => 256 ≤ i }
def LANE_CTLE : Field := { base := 0x100008, s1 := 0x200, n1 := 584, lo := 0, w := 4, ty := .rw, only := fun i => i < 256 ∨ 512 ≤ i }
def LANE_DFE1 : Field := { base := 0x10000C, s1 := 0x200, n1 := 584, lo := 0, w := 8, ty := .rw, only := fun i => i < 256 ∨ 512 ≤ i }
def LANE_DFE2 : Field := { base := 0x10000C, s1 := 0x200, n1 := 584, lo := 8, w := 8, ty := .rw, only := fun i => i < 256 ∨ 512 ≤ i }
def LANE_DFE3 : Field := { base := 0x10000C, s1 := 0x200, n1 := 584, lo := 16, w := 8, ty := .rw, only := fun i => i < 256 ∨ 512 ≤ i }
def LANE_DFE4 : Field := { base := 0x10000C, s1 := 0x200, n1 := 584, lo := 24, w := 8, ty := .rw, only := fun i => i < 256 ∨ 512 ≤ i }
def LANE_DFE5 : Field := { base := 0x100010, s1 := 0x200, n1 := 584, lo := 0, w := 8, ty := .rw, only := fun i => i < 256 ∨ 512 ≤ i }
def LANE_PLL_LOCK : Field := { base := 0x100040, s1 := 0x200, n1 := 584, lo := 0, w := 1, ty := .ro }
def LANE_SIG_DET : Field := { base := 0x100040, s1 := 0x200, n1 := 584, lo := 1, w := 1, ty := .ro, only := fun i => i < 256 ∨ 512 ≤ i }
def LANE_READY : Field := { base := 0x100040, s1 := 0x200, n1 := 584, lo := 2, w := 1, ty := .ro }
def LANE_ADAPT_DONE : Field := { base := 0x100040, s1 := 0x200, n1 := 584, lo := 3, w := 1, ty := .ro, only := fun i => i < 256 ∨ 512 ≤ i }
def LANE_IN_USE : Field := { base := 0x100040, s1 := 0x200, n1 := 584, lo := 4, w := 1, ty := .ro }
def LANE_LOOP_ERR : Field := { base := 0x100040, s1 := 0x200, n1 := 584, lo := 5, w := 1, ty := .w1c }
def LANE_EQ_ERR : Field := { base := 0x100040, s1 := 0x200, n1 := 584, lo := 6, w := 1, ty := .w1c }
def LANE_LT_DONE : Field := { base := 0x100040, s1 := 0x200, n1 := 584, lo := 7, w := 1, ty := .ro, only := fun i => 512 ≤ i ∧ i < 576 }
def LANE_CTLE_NOW : Field := { base := 0x100044, s1 := 0x200, n1 := 584, lo := 0, w := 4, ty := .ro, only := fun i => i < 256 ∨ 512 ≤ i }
def LANE_DFE1_NOW : Field := { base := 0x100044, s1 := 0x200, n1 := 584, lo := 8, w := 8, ty := .ro, only := fun i => i < 256 ∨ 512 ≤ i }
def LANE_DFE2_NOW : Field := { base := 0x100044, s1 := 0x200, n1 := 584, lo := 16, w := 8, ty := .ro, only := fun i => i < 256 ∨ 512 ≤ i }
def LANE_DFE3_NOW : Field := { base := 0x100044, s1 := 0x200, n1 := 584, lo := 24, w := 8, ty := .ro, only := fun i => i < 256 ∨ 512 ≤ i }
def LANE_DFE4_NOW : Field := { base := 0x100048, s1 := 0x200, n1 := 584, lo := 0, w := 8, ty := .ro, only := fun i => i < 256 ∨ 512 ≤ i }
def LANE_DFE5_NOW : Field := { base := 0x100048, s1 := 0x200, n1 := 584, lo := 8, w := 8, ty := .ro, only := fun i => i < 256 ∨ 512 ≤ i }
def LANE_TXPRE_NOW : Field := { base := 0x10004C, s1 := 0x200, n1 := 584, lo := 0, w := 4, ty := .ro, only := fun i => 256 ≤ i }
def LANE_TXMAIN_NOW : Field := { base := 0x10004C, s1 := 0x200, n1 := 584, lo := 8, w := 6, ty := .ro, only := fun i => 256 ≤ i }
def LANE_TXPOST_NOW : Field := { base := 0x10004C, s1 := 0x200, n1 := 584, lo := 16, w := 5, ty := .ro, only := fun i => 256 ≤ i }
def LANE_LOCK_LOSS : Field := { base := 0x100050, s1 := 0x200, n1 := 584, lo := 0, w := 32, ty := .ro }
def LANE_ES_PHASE : Field := { base := 0x100080, s1 := 0x200, n1 := 584, lo := 0, w := 6, ty := .rw, only := fun i => i < 256 ∨ 512 ≤ i }
def LANE_ES_VOLT : Field := { base := 0x100080, s1 := 0x200, n1 := 584, lo := 8, w := 7, ty := .rw, only := fun i => i < 256 ∨ 512 ≤ i }
def LANE_ES_EYE : Field := { base := 0x100080, s1 := 0x200, n1 := 584, lo := 16, w := 2, ty := .rw, norm := fun _ v => zeroAbove 2 v, only := fun i => i < 256 ∨ 512 ≤ i }
def LANE_ES_DWELL_LOG2 : Field := { base := 0x100080, s1 := 0x200, n1 := 584, lo := 24, w := 5, ty := .rw, only := fun i => i < 256 ∨ 512 ≤ i }
def LANE_ES_GO : Field := { base := 0x100084, s1 := 0x200, n1 := 584, lo := 0, w := 1, ty := .wo, only := fun i => i < 256 ∨ 512 ≤ i }
def LANE_ES_BUSY : Field := { base := 0x100084, s1 := 0x200, n1 := 584, lo := 1, w := 1, ty := .ro, only := fun i => i < 256 ∨ 512 ≤ i }
def LANE_ES_DONE : Field := { base := 0x100084, s1 := 0x200, n1 := 584, lo := 2, w := 1, ty := .w1c, only := fun i => i < 256 ∨ 512 ≤ i }
def LANE_ES_ABORT : Field := { base := 0x100084, s1 := 0x200, n1 := 584, lo := 3, w := 1, ty := .w1c, only := fun i => i < 256 ∨ 512 ≤ i }
def LANE_ES_ERR : Field := { base := 0x100088, s1 := 0x200, n1 := 584, lo := 0, w := 32, ty := .ro, only := fun i => i < 256 ∨ 512 ≤ i }
def LANE_ES_BITS : Field := { base := 0x10008C, s1 := 0x200, n1 := 584, lo := 0, w := 32, ty := .ro, only := fun i => i < 256 ∨ 512 ≤ i }
def LANE_PRBS_LOCK : Field := { base := 0x100090, s1 := 0x200, n1 := 584, lo := 0, w := 1, ty := .ro, only := fun i => i < 256 ∨ 512 ≤ i }
def LANE_PRBS_ERR : Field := { base := 0x100094, s1 := 0x200, n1 := 584, lo := 0, w := 32, ty := .ro, only := fun i => i < 256 ∨ 512 ≤ i }
def LANE_BLOCK_LOCK : Field := { base := 0x100100, s1 := 0x200, n1 := 584, lo := 0, w := 1, ty := .ro, only := fun i => 576 ≤ i }
def LANE_MARKER_LOCK : Field := { base := 0x100100, s1 := 0x200, n1 := 584, lo := 1, w := 1, ty := .ro, only := fun i => 576 ≤ i }
def LANE_SKEW : Field := { base := 0x100100, s1 := 0x200, n1 := 584, lo := 8, w := 6, ty := .ro, only := fun i => 576 ≤ i }
def LANE_BIP_ERR : Field := { base := 0x100104, s1 := 0x200, n1 := 584, lo := 0, w := 32, ty := .ro, only := fun i => 576 ≤ i }
def LANE_FILL_DEL : Field := { base := 0x100108, s1 := 0x200, n1 := 584, lo := 0, w := 32, ty := .ro, only := fun i => i = 576 }
def LANE_FILL_INS : Field := { base := 0x10010C, s1 := 0x200, n1 := 584, lo := 0, w := 32, ty := .ro, only := fun i => i = 576 }
def LANE_EB_FILL : Field := { base := 0x100110, s1 := 0x200, n1 := 584, lo := 0, w := 5, ty := .ro, only := fun i => i = 576 }

/-- Every field of the LANE tables. -/
def fieldsLANE : List Field :=
  [LANE_PWR, LANE_LOOP, LANE_PRBS_GEN, LANE_PRBS_CHK, LANE_TX_INV, LANE_RX_INV, LANE_MANUAL_EQ, LANE_LT_EN, LANE_TEST_RATE, LANE_PRESET, LANE_C_PRE, LANE_C_MAIN, LANE_C_POST, LANE_CTLE, LANE_DFE1, LANE_DFE2, LANE_DFE3, LANE_DFE4, LANE_DFE5, LANE_PLL_LOCK, LANE_SIG_DET, LANE_READY, LANE_ADAPT_DONE, LANE_IN_USE, LANE_LOOP_ERR, LANE_EQ_ERR, LANE_LT_DONE, LANE_CTLE_NOW, LANE_DFE1_NOW, LANE_DFE2_NOW] ++
  [LANE_DFE3_NOW, LANE_DFE4_NOW, LANE_DFE5_NOW, LANE_TXPRE_NOW, LANE_TXMAIN_NOW, LANE_TXPOST_NOW, LANE_LOCK_LOSS, LANE_ES_PHASE, LANE_ES_VOLT, LANE_ES_EYE, LANE_ES_DWELL_LOG2, LANE_ES_GO, LANE_ES_BUSY, LANE_ES_DONE, LANE_ES_ABORT, LANE_ES_ERR, LANE_ES_BITS, LANE_PRBS_LOCK, LANE_PRBS_ERR, LANE_BLOCK_LOCK, LANE_MARKER_LOCK, LANE_SKEW, LANE_BIP_ERR, LANE_FILL_DEL, LANE_FILL_INS, LANE_EB_FILL]


end Sys2Proof.Machine.Reg
end

