-- ==== Sys2Proof/Machine/Formats.lean ====
section
/-! DEFINITION. Video formats: rasters, rates, costs, store formats, ladder sizes and slot layout
(00 R6, 01 R18, 04 R120, 05 R131 .. R135, 08 R218, 09 R244). A format is a number in the layout of SRC_FMT [15:0]. -/

namespace Sys2Proof.Machine

/-! ### Fields of a format -/

def fmtRaster (f : Nat) : Nat := bitField f 0 4
def fmtRate (f : Nat) : Nat := bitField f 4 4
def fmtInterlaced (f : Nat) : Bool := bitAt f 8
def fmt444 (f : Nat) : Bool := bitAt f 9
def fmtBits (f : Nat) : Nat := bitField f 10 2
def fmtRgb (f : Nat) : Bool := bitAt f 12
def fmtColor (f : Nat) : Nat := bitField f 13 3

/-- A format from its fields. -/
def fmtOf (raster rate scan sampling bits rgb color : Nat) : Nat :=
  raster + 2 ^ 4 * rate + 2 ^ 8 * scan + 2 ^ 9 * sampling + 2 ^ 10 * bits + 2 ^ 12 * rgb + 2 ^ 13 * color

/-- Active width and height of a raster code (R167); 0 for no raster. -/
def rasterSize : Nat → Nat × Nat
  | 1 => (720, 486)
  | 2 => (720, 576)
  | 3 => (1280, 720)
  | 4 => (1920, 1080)
  | 5 => (2048, 1080)
  | 6 => (3840, 2160)
  | 7 => (4096, 2160)
  | _ => (0, 0)

/-- Total lines of a raster (R218). -/
def rasterLines : Nat → Nat
  | 1 => 525
  | 2 => 625
  | 3 => 750
  | 4 => 1125
  | 5 => 1125
  | 6 => 2250
  | 7 => 2250
  | _ => 0

/-- Exact frame rate of a RATE code as numerator and denominator (R120); (0, 1) for off. -/
def rateFrac : Nat → Nat × Nat
  | 1 => (24000, 1001)
  | 2 => (24, 1)
  | 3 => (25, 1)
  | 4 => (30000, 1001)
  | 5 => (30, 1)
  | 6 => (50, 1)
  | 7 => (60000, 1001)
  | 8 => (60, 1)
  | _ => (0, 1)

/-- Nominal frame rate of a RATE code, as the cost formula counts it (R6). -/
def rateNominal : Nat → Nat
  | 1 => 24
  | 2 => 24
  | 3 => 25
  | 4 => 30
  | 5 => 30
  | 6 => 50
  | 7 => 60
  | 8 => 60
  | _ => 0

/-- Lines per frame of a LINES code (R120). -/
def linesOf : Nat → Nat
  | 1 => 525
  | 2 => 625
  | 3 => 750
  | 4 => 1125
  | 5 => 2250
  | _ => 0

/-- Frame period of a RATE code in ns, rounded down; 0 for off. -/
def periodNs (rate : Nat) : Nat :=
  let r := rateFrac rate
  r.2 * 10 ^ 9 / r.1

/-- Comparison of frame periods of two RATE codes, exactly: P_a > P_b. -/
def periodAbove (a b : Nat) : Bool :=
  decide ((rateFrac b).1 * (rateFrac a).2 > (rateFrac a).1 * (rateFrac b).2)

/-- `ceil (P_a / P_b)` of two RATE codes, exactly. -/
def periodRatioUp (a b : Nat) : Nat :=
  ceilDiv ((rateFrac b).1 * (rateFrac a).2) ((rateFrac a).1 * (rateFrac b).2)

/-! ### Cost (R6) -/

/-- Cost in sixteenths of an HDU of `pixels` at a nominal rate, rounded up once. -/
def costOf (pixels nominal : Nat) (s444 : Bool) (bits : Nat) : Nat :=
  let num := 16 * pixels * nominal * (if s444 then 3 else 2) * (if bits = 3 then 6 else 5)
  ceilDiv num (124416000 * 2 * 5)

/-- Cost of a whole format. -/
def fmtCost (f : Nat) : Nat :=
  let (w, h) := rasterSize (fmtRaster f)
  costOf (w * h) (rateNominal (fmtRate f)) (fmt444 f) (fmtBits f)

/-! ### Store formats and levels (R131 .. R135) -/

/-- The store format implied by a format (R131, R133); 0 where the format has no BITS. -/
def storeFmtOf (f : Nat) : Nat :=
  if fmtBits f = 0 then 0 else if fmtBits f = 3 then 3 else if fmt444 f then 2 else 1

/-- Bits per pixel of a store format. -/
def storeBpp : Nat → Nat
  | 1 => 20
  | 2 => 32
  | 3 => 36
  | 4 => 32
  | _ => 0

/-- Width of the next level down (R135). -/
def nextWidth (store w : Nat) : Nat := if store = 1 then 2 * ceilDiv w 4 else ceilDiv w 2

/-- Size of level k of a raster in a store format; level 1 of an interlaced frame has the lines of field 1. -/
def levelSize (store : Nat) (w h : Nat) : Nat → Nat × Nat
  | 0 => (w, h)
  | k + 1 =>
    let (a, b) := levelSize store w h k
    (nextWidth store a, ceilDiv b 2)

/-- Size of level k of a format in a store format. -/
def fmtLevelSize (f store k : Nat) : Nat × Nat :=
  let (w, h) := rasterSize (fmtRaster f)
  levelSize store w h k

/-- Cost of reading level k of a source format at a reader's nominal rate (R19). -/
def levelCost (f store k nominal : Nat) : Nat :=
  let (w, h) := fmtLevelSize f store k
  costOf (w * h) nominal (fmt444 f) (fmtBits f)

/-- Bytes of one plane (R132). -/
def planeBytes (store w h : Nat) : Nat := ceilDiv (w * storeBpp store) 512 * 64 * h

/-- Levels present in a LADDER mask (bit k: level Lk). -/
def presentLevels (ladder : Nat) : List Nat := (List.range 5).filter (fun k => bitAt ladder k)

/-- The next 4 KiB boundary. -/
def align4k (n : Nat) : Nat := ceilDiv n 4096 * 4096

/-- Bytes of a slot (R134). -/
def slotBytes (f store ladder : Nat) (coverage : Bool) : Nat :=
  let planes := (presentLevels ladder).map (fun k =>
    let (w, h) := fmtLevelSize f store k
    planeBytes store w h)
  let all := if coverage then planes ++ [8192] else planes
  all.foldl (fun pos b => align4k pos + b) 0

/-- Pages of a slot (R134). -/
def slotPagesOf (f store ladder : Nat) (coverage : Bool) : Nat :=
  ceilDiv (slotBytes f store ladder coverage) 2097152

/-- Bytes of a hold buffer for level k of a format, rounded up to 64 KiB (R207). -/
def holdBytesOf (f store k : Nat) : Nat :=
  let (w, h) := fmtLevelSize f store k
  ceilDiv (planeBytes store w h) 65536 * 65536

/-- Pages of a graphic (R130). -/
def graphicPages (w h : Nat) : Nat := ceilDiv (w * h * 4) 2097152

/-! ### Accepted combinations (R218, R244) -/

/-- Formats that a destination accepts (R218). -/
def dstFmtAccepted (f : Nat) : Bool :=
  let r := fmtRaster f
  let rate := fmtRate f
  let base := 1 ≤ r ∧ r ≤ 7 ∧ 1 ≤ rate ∧ rate ≤ 8 ∧ fmtBits f ≠ 0 ∧ (fmtRgb f = true → fmt444 f = true)
  let scan :=
    if r = 1 then fmtInterlaced f = true ∧ rate = 4
    else if r = 2 then fmtInterlaced f = true ∧ rate = 3
    else if fmtInterlaced f then r = 4 ∧ (rate = 3 ∨ rate = 4 ∨ rate = 5)
    else True
  decide base && decide scan

/-- OUT_FMT codes that a compositor accepts (R244). -/
def outFmtOk (c : Nat) : Bool :=
  decide (3 ≤ bitField c 0 4 ∧ bitField c 0 4 ≤ 7 ∧ bitField c 4 2 ≠ 0 ∧ c < 128)

/-- The format of a compositor output (R248), from OUT_FMT and the plane's RATE. -/
def outFmtAsFmt (c rate : Nat) : Nat :=
  let v := bitField c 4 2
  fmtOf (bitField c 0 4) rate 0 (if v = 1 then 0 else 1) (if v = 3 then 3 else 2) 0 (bitField c 6 1)

/-- Layer-read budget of a compositor in sixteenths (R265). -/
def layerBudget (c rate : Nat) : Nat :=
  let (w, h) := rasterSize (bitField c 0 4)
  48 * w * h * rateNominal rate / 124416000

/-- Largest k of 0 .. 4 whose level covers the target, and the present level with the next smaller k (R225, R254). -/
def autoLevel (size : Nat → Nat × Nat) (ladder wt ht : Nat) : Nat :=
  let covers := (List.range 5).filter (fun k => decide (wt ≤ (size k).1 ∧ ht ≤ (size k).2))
  let k := covers.foldl max 0
  ((presentLevels ladder).filter (fun j => decide (j ≤ k))).foldl max 0

/-- The level read when `k` would cost more than the charge (R226, R255): the next present level with a larger k
whose cost fits, else the present level with the largest k. The Bool says that a clamp took place. -/
def clampLevel (cost : Nat → Nat) (ladder charge k : Nat) : Nat × Bool :=
  if cost k ≤ charge then (k, false)
  else
    match (presentLevels ladder).find? (fun j => decide (k < j ∧ cost j ≤ charge)) with
    | some j => (j, true)
    | none => ((presentLevels ladder).foldl max 0, true)

end Sys2Proof.Machine
end

