-- ==== Sys2Proof/Machine/CfgOps.lean ====
section
/-! DEFINITION. Changes as they act on the configuration (R76 .. R82, R180, R187, R249), and object numbers. -/

namespace Sys2Proof.Machine

/-! ### Objects and readers by number -/

def objDst (d : Nat) : Nat := d
def objCmp (c : Nat) : Nat := 1024 + c
def objChan (n : Nat) : Nat := 2048 + n
/-- Objects whose changes apply at the instant T itself (R169): rings, flows, probe cores. -/
def objInstant : Nat := 1000000

/-- The object whose boundary a change waits for. -/
def Change.obj : Change → Nat
  | .route d .. => objDst d
  | .audioMap o .. => objChan o
  | .audioGain o .. => objChan o
  | .layer c .. => objCmp c
  | .compSet c .. => objCmp c
  | .freshDst d _ => objDst d
  | .freshLayer c .. => objCmp c
  | .alloc .. => objInstant
  | .holdBuf r _ => if r < 1024 then objDst r else if r < 1792 then objCmp ((r - 1024) / 8) else objCmp ((r - 1792) / 512)
  | .ancInsert d .. => objDst d
  | .flowAdd .. => objInstant
  | .flowDel .. => objInstant
  | .probeCtl .. => objInstant

/-- Reader numbers: destinations, layers, tiles. -/
def rdDst (d : Nat) : Nat := d
def rdLayer (c l : Nat) : Nat := 1024 + 8 * c + l
def rdTile (c l t : Nat) : Nat := 1792 + 512 * c + 64 * l + t

/-! ### Reading the configuration -/

def Cfg.dst (g : Cfg) (d : Nat) : DstCfg := Tab.get {} g.dsts d
def Cfg.cmp (g : Cfg) (c : Nat) : CmpCfg := Tab.get {} g.cmps c
def Cfg.chan (g : Cfg) (n : Nat) : ChanCfg := Tab.get {} g.chans n
def Cfg.ring (g : Cfg) (n : Nat) : RingShape := Tab.get {} g.rings n
def CmpCfg.layer (m : CmpCfg) (l : Nat) : LayerCfg := Tab.get {} m.layers l
def Cfg.setDst (g : Cfg) (d : Nat) (x : DstCfg) : Cfg := { g with dsts := Tab.set {} g.dsts d x }
def Cfg.setCmp (g : Cfg) (c : Nat) (x : CmpCfg) : Cfg := { g with cmps := Tab.set {} g.cmps c x }
def Cfg.setChan (g : Cfg) (n : Nat) (x : ChanCfg) : Cfg := { g with chans := Tab.set {} g.chans n x }
def Cfg.setRing (g : Cfg) (n : Nat) (x : RingShape) : Cfg := { g with rings := Tab.set {} g.rings n x }

/-- Mode after a LATMODE field: 0 keeps the mode, and takes FRAME where there was none (R76, R249). -/
def newLat (old v : Nat) : Nat := if v ≠ 0 then v else if old = 0 then 2 else old

/-- A route on a destination. With VIDEO, AUDIO and ANC all 0 nothing changes (R76). A destination without any route
has no mode. -/
def DstCfg.routed (x : DstCfg) (src lat charge : Nat) (video audio anc : Bool) : DstCfg :=
  if !video && !audio && !anc then x
  else
    let y := { x with
      vsrc := if video then src else x.vsrc
      asrc := if audio then src else x.asrc
      nsrc := if anc then src else x.nsrc
      charge := if video then charge else x.charge }
    { y with lat := if y.vsrc = 2047 ∧ y.asrc = 2047 ∧ y.nsrc = 2047 then 0 else newLat x.lat lat }

/-- A LAYER on a compositor: the layer is replaced whole, but for its policy and the modes it keeps (R249). -/
def LayerCfg.replacedBy (old new : LayerCfg) : LayerCfg :=
  { new with
    lat := newLat old.lat new.lat
    tiles := new.tiles.mapIdx (fun i t =>
      { t with lat := newLat ((old.tiles[i]?).map (·.lat) |>.getD 0) t.lat })
    policy := old.policy }

/-- A COMPOSITOR_SET: fields at 0 where 0 is unchanged keep their value (R79). -/
def CmpCfg.withSet (m : CmpCfg) (enAct outFmt plane zperm : Nat) (zpermEn : Bool) (bg : Nat) : CmpCfg :=
  { m with
    enabled := if enAct = 1 then true else if enAct = 2 then false else m.enabled
    outFmt := if outFmt = 0 then m.outFmt else outFmt
    plane := if plane = 0 then m.plane else plane
    zperm := zperm, zpermEn := zpermEn, bg := bg }

/-- An implicit step finds a ring as deep in place, which it never lowers (R137); the ring of a compositor's output must
have the step's slots too (R246). -/
def Cfg.ringSuffices (g : Cfg) (n : Nat) (sh : RingShape) : Bool :=
  let cur := g.ring n
  decide (cur.depth ≠ 0 ∧ sh.depth ≤ cur.depth) &&
    (decide (n < 1024) || (cur.store == sh.store && cur.slotPages == sh.slotPages))

/-- One change on the configuration. -/
def Cfg.apply (g : Cfg) : Change → Cfg
  | .route d src lat charge v a n => g.setDst d ((g.dst d).routed src lat charge v a n)
  | .audioMap o w0 w1 => g.setChan o { g.chan o with map0 := w0, map1 := w1 }
  | .audioGain o b ms v =>
    g.setChan o (if b then { g.chan o with gainB := v, rampMs := ms } else { g.chan o with gainA := v, rampMs := ms })
  | .layer c l x =>
    let m := g.cmp c
    g.setCmp c { m with layers := Tab.set {} m.layers l ((m.layer l).replacedBy x) }
  | .compSet c e o p z ze bg => g.setCmp c ((g.cmp c).withSet e o p z ze bg)
  | .freshDst d p => g.setDst d { g.dst d with policy := p }
  | .freshLayer c l p =>
    let m := g.cmp c
    g.setCmp c { m with layers := Tab.set {} m.layers l { m.layer l with policy := p } }
  | .alloc n sh _ explicit => if !explicit && g.ringSuffices n sh then g else g.setRing n sh
  | .holdBuf .. => g
  | .ancInsert .. => g
  | .flowAdd .. => g
  | .flowDel _ _ => g
  | .probeCtl .. => g

/-- Changes in order. -/
def Cfg.applyAll (g : Cfg) (cs : List Change) : Cfg := cs.foldl Cfg.apply g

/-- The presets of R204; 0 is no policy. -/
def presetPolicy : Nat → Option Policy
  | 0 => some {}
  | 1 => some { preset := 1, action := 1 }
  | 2 => some { preset := 2, action := 3 }
  | 3 => some { preset := 3, maxAgeMs := 500 }
  | 16 => some { preset := 16, maxAgeMs := 200, verdict := true, action := 2 }
  | 17 => some { preset := 17, maxAgeMs := 200, stallMs := 3000, hbChk := true, verdict := true, action := 2 }
  | 18 => some { preset := 18, maxAgeMs := 200, stallMs := 3000, verdict := true, action := 2 }
  | 19 => some { preset := 19, maxAgeMs := 200, verdict := true, action := 3 }
  | _ => none

/-- The action needs a hold buffer (R207). -/
def Policy.holds (p : Policy) : Bool := p.preset != 0 && (p.action == 1 || p.action == 2)

/-! ### References to sources -/

/-- Readers of a configuration: reader number, source, latency mode, and the object it belongs to. -/
structure ReaderCfg where
  rd : Nat
  src : Nat
  lat : Nat
  obj : Nat
  charge : Nat
  policy : Policy
  deriving DecidableEq, Repr

def layerReaders (c l : Nat) (x : LayerCfg) : List ReaderCfg :=
  if x.kind = 1 then
    if x.src = 2047 then []
    else [{ rd := rdLayer c l, src := x.src, lat := x.lat, obj := objCmp c, charge := x.charge, policy := x.policy }]
  else if x.kind = 2 then
    (x.tiles.mapIdx (fun i t =>
      { rd := rdTile c l i, src := t.src, lat := t.lat, obj := objCmp c, charge := t.charge, policy := x.policy :
        ReaderCfg })).filter (fun r => r.src != 2047)
  else []

/-- Every reader of a configuration. -/
def Cfg.readers (g : Cfg) : List ReaderCfg :=
  (g.dsts.filterMap (fun (d, x) =>
    if x.vsrc = 2047 then none
    else some { rd := rdDst d, src := x.vsrc, lat := x.lat, obj := objDst d, charge := x.charge, policy := x.policy })) ++
  g.cmps.flatMap (fun (c, m) => m.layers.flatMap (fun (l, x) => layerReaders c l x))

/-- Every reference to a source: the source and the object that makes it, parts of a route counted each. -/
def Cfg.refs (g : Cfg) : List (Nat × Nat) :=
  (g.dsts.flatMap (fun (d, x) => [(x.vsrc, objDst d), (x.asrc, objDst d), (x.nsrc, objDst d)])
    |>.filter (fun r => r.1 != 2047)) ++
  g.cmps.flatMap (fun (c, m) => m.layers.flatMap (fun (l, x) => (layerReaders c l x).map (fun r => (r.src, objCmp c))))

/-- References that a staged change makes. -/
def Change.refs : Change → List (Nat × Nat)
  | .route d src _ _ v a n => if src = 2047 then [] else List.replicate (v.toNat + a.toNat + n.toNat) (src, objDst d)
  | .layer c l x => (layerReaders c l x).map (fun r => (r.src, objCmp c))
  | _ => []

end Sys2Proof.Machine
end

