-- ==== Sys2Proof/Machine/RegVideo.lean ====
section
/-! DEFINITION. The register fields of the Video blocks, one constant per field, transcribed from the field tables
of the spec: byte offset, strides, bits, type (R8), Keep class (R9), reset value and the value a write is stored as. -/

namespace Sys2Proof.Machine.Reg
open Sys2Proof.Machine

/-! ### SDIRX: 10_serial_video.md R300 -/

def SDIRX_LINK : Field := { base := 0x180000, s1 := 0x200, n1 := 256, lo := 0, w := 3, ty := .rwl, norm := fun _ v => zeroAbove 4 v }
def SDIRX_CRC_MASK : Field := { base := 0x180000, s1 := 0x200, n1 := 256, lo := 8, w := 1, ty := .rw }
def SDIRX_RXSTATE : Field := { base := 0x180040, s1 := 0x200, n1 := 256, lo := 0, w := 2, ty := .ro }
def SDIRX_MEMBER : Field := { base := 0x180040, s1 := 0x200, n1 := 256, lo := 2, w := 1, ty := .ro }
def SDIRX_LINK_DET : Field := { base := 0x180040, s1 := 0x200, n1 := 256, lo := 4, w := 3, ty := .ro }
def SDIRX_RATE_DET : Field := { base := 0x180040, s1 := 0x200, n1 := 256, lo := 8, w := 4, ty := .ro }
def SDIRX_GOOD_CNT : Field := { base := 0x180040, s1 := 0x200, n1 := 256, lo := 12, w := 2, ty := .ro }
def SDIRX_MEMBERS : Field := { base := 0x180040, s1 := 0x200, n1 := 256, lo := 16, w := 4, ty := .ro }
def SDIRX_DET : Field := { base := 0x180044, s1 := 0x200, n1 := 256, lo := 0, w := 16, ty := .ro }
def SDIRX_PAYLOAD_ID : Field := { base := 0x180048, s1 := 0x200, n1 := 256, lo := 0, w := 32, ty := .ro }
def SDIRX_SKEW_NS : Field := { base := 0x18004C, s1 := 0x200, n1 := 256, lo := 0, w := 16, ty := .ro }
def SDIRX_CRC_ERR : Field := { base := 0x180050, s1 := 0x200, n1 := 256, lo := 0, w := 32, ty := .ro }
def SDIRX_EDH_ERR : Field := { base := 0x180054, s1 := 0x200, n1 := 256, lo := 0, w := 32, ty := .ro }
def SDIRX_LN_ERR : Field := { base := 0x180058, s1 := 0x200, n1 := 256, lo := 0, w := 32, ty := .ro }
def SDIRX_TRS_ERR : Field := { base := 0x18005C, s1 := 0x200, n1 := 256, lo := 0, w := 32, ty := .ro }
def SDIRX_LOSS_CNT : Field := { base := 0x180060, s1 := 0x200, n1 := 256, lo := 0, w := 32, ty := .ro }
def SDIRX_ANC_CS_ERR : Field := { base := 0x180064, s1 := 0x200, n1 := 256, lo := 0, w := 32, ty := .ro }
def SDIRX_ANC_OVF : Field := { base := 0x180068, s1 := 0x200, n1 := 256, lo := 0, w := 32, ty := .ro }
def SDIRX_ATC : Field := { base := 0x18006C, s1 := 0x200, n1 := 256, lo := 0, w := 32, ty := .ro }
def SDIRX_FRAMES : Field := { base := 0x180070, s1 := 0x200, n1 := 256, lo := 0, w := 32, ty := .ro }
def SDIRX_LOSS_SEEN : Field := { base := 0x180074, s1 := 0x200, n1 := 256, lo := 0, w := 1, ty := .w1c }
def SDIRX_ERR_SEEN : Field := { base := 0x180074, s1 := 0x200, n1 := 256, lo := 1, w := 1, ty := .w1c }
def SDIRX_FMT_SEEN : Field := { base := 0x180074, s1 := 0x200, n1 := 256, lo := 2, w := 1, ty := .w1c }

/-- Every field of the SDIRX tables. -/
def fieldsSDIRX : List Field :=
  [SDIRX_LINK, SDIRX_CRC_MASK, SDIRX_RXSTATE, SDIRX_MEMBER, SDIRX_LINK_DET, SDIRX_RATE_DET, SDIRX_GOOD_CNT, SDIRX_MEMBERS, SDIRX_DET, SDIRX_PAYLOAD_ID, SDIRX_SKEW_NS, SDIRX_CRC_ERR, SDIRX_EDH_ERR, SDIRX_LN_ERR, SDIRX_TRS_ERR, SDIRX_LOSS_CNT, SDIRX_ANC_CS_ERR, SDIRX_ANC_OVF, SDIRX_ATC, SDIRX_FRAMES, SDIRX_LOSS_SEEN, SDIRX_ERR_SEEN, SDIRX_FMT_SEEN]


/-! ### SDITX: 10_serial_video.md R301 -/

def SDITX_EDH_GEN : Field := { base := 0x1A0000, s1 := 0x200, n1 := 256, lo := 0, w := 1, ty := .rw, reset := fun _ _ => 1 }
def SDITX_DST : Field := { base := 0x1A0040, s1 := 0x200, n1 := 256, lo := 0, w := 10, ty := .ro }
def SDITX_BOUND : Field := { base := 0x1A0040, s1 := 0x200, n1 := 256, lo := 16, w := 1, ty := .ro }
def SDITX_LINKNUM : Field := { base := 0x1A0040, s1 := 0x200, n1 := 256, lo := 17, w := 2, ty := .ro }
def SDITX_ACTIVE : Field := { base := 0x1A0040, s1 := 0x200, n1 := 256, lo := 20, w := 1, ty := .ro }
def SDITX_RATE_OUT : Field := { base := 0x1A0040, s1 := 0x200, n1 := 256, lo := 24, w := 4, ty := .ro }
def SDITX_FRAMES : Field := { base := 0x1A0044, s1 := 0x200, n1 := 256, lo := 0, w := 32, ty := .ro }
def SDITX_ANC_TX_DROP : Field := { base := 0x1A0048, s1 := 0x200, n1 := 256, lo := 0, w := 32, ty := .ro }
def SDITX_IRREG_FRAMES : Field := { base := 0x1A004C, s1 := 0x200, n1 := 256, lo := 0, w := 32, ty := .ro }

/-- Every field of the SDITX tables. -/
def fieldsSDITX : List Field :=
  [SDITX_EDH_GEN, SDITX_DST, SDITX_BOUND, SDITX_LINKNUM, SDITX_ACTIVE, SDITX_RATE_OUT, SDITX_FRAMES, SDITX_ANC_TX_DROP, SDITX_IRREG_FRAMES]


/-! ### MPORT: 11_media_ports.md R332 -/

def MPORT_MODE : Field := { base := 0x1C0000, s1 := 0x1000, n1 := 64, lo := 0, w := 4, ty := .rwl, norm := fun _ v => zeroAbove 9 v }
def MPORT_ENABLE : Field := { base := 0x1C0000, s1 := 0x1000, n1 := 64, lo := 8, w := 1, ty := .rw }
def MPORT_HP_LONG : Field := { base := 0x1C0000, s1 := 0x1000, n1 := 64, lo := 9, w := 1, ty := .rw }
def MPORT_MAC_LO : Field := { base := 0x1C0004, s1 := 0x1000, n1 := 64, lo := 0, w := 32, ty := .rw }
def MPORT_MAC_HI : Field := { base := 0x1C0008, s1 := 0x1000, n1 := 64, lo := 0, w := 16, ty := .rw }
def MPORT_MAXFRAME : Field := { base := 0x1C000C, s1 := 0x1000, n1 := 64, lo := 0, w := 14, ty := .rw, reset := fun _ _ => 1522, norm := fun _ v => if v = 0 then 0 else if v < 64 then 64 else capAt 9216 v }
def MPORT_IP4 : Field := { base := 0x1C0010, s1 := 0x1000, n1 := 64, lo := 0, w := 32, ty := .rw }
def MPORT_IP6 : Field := { base := 0x1C0014, s1 := 0x1000, n1 := 64, s2 := 0x4, n2 := 4, lo := 0, w := 32, ty := .rw }
def MPORT_PTP_VLAN : Field := { base := 0x1C0024, s1 := 0x1000, n1 := 64, lo := 0, w := 12, ty := .rw, norm := fun _ v => zeroAbove 4094 v }
def MPORT_TX_OFS_NS : Field := { base := 0x1C0028, s1 := 0x1000, n1 := 64, lo := 0, w := 32, ty := .rw, norm := fun _ v => zeroIfMagOver 32 1000000 v }
def MPORT_HP_RX_BASE_LO : Field := { base := 0x1C0040, s1 := 0x1000, n1 := 64, lo := 12, w := 20, ty := .rw, keep := .part }
def MPORT_HP_RX_BASE_HI : Field := { base := 0x1C0044, s1 := 0x1000, n1 := 64, lo := 0, w := 32, ty := .rw, keep := .part }
def MPORT_HP_RX_LOG2 : Field := { base := 0x1C0048, s1 := 0x1000, n1 := 64, lo := 0, w := 5, ty := .rw, keep := .part, norm := fun _ v => if 4 ≤ v ∧ v ≤ 12 then v else 0 }
def MPORT_HP_RX_EN : Field := { base := 0x1C0048, s1 := 0x1000, n1 := 64, lo := 8, w := 1, ty := .rw, keep := .part }
def MPORT_HP_VECTOR : Field := { base := 0x1C0048, s1 := 0x1000, n1 := 64, lo := 16, w := 6, ty := .rw, keep := .part }
def MPORT_HP_INT_EN : Field := { base := 0x1C0048, s1 := 0x1000, n1 := 64, lo := 24, w := 1, ty := .rw, keep := .part }
def MPORT_HP_RX_HEAD : Field := { base := 0x1C004C, s1 := 0x1000, n1 := 64, lo := 0, w := 16, ty := .rw, keep := .part }
def MPORT_HP_RX_TAIL : Field := { base := 0x1C004C, s1 := 0x1000, n1 := 64, lo := 16, w := 16, ty := .ro, keep := .part }
def MPORT_HP_TX_BASE_LO : Field := { base := 0x1C0050, s1 := 0x1000, n1 := 64, lo := 12, w := 20, ty := .rw, keep := .part }
def MPORT_HP_TX_BASE_HI : Field := { base := 0x1C0054, s1 := 0x1000, n1 := 64, lo := 0, w := 32, ty := .rw, keep := .part }
def MPORT_HP_TX_LOG2 : Field := { base := 0x1C0058, s1 := 0x1000, n1 := 64, lo := 0, w := 5, ty := .rw, keep := .part, norm := fun _ v => if 4 ≤ v ∧ v ≤ 12 then v else 0 }
def MPORT_HP_TX_EN : Field := { base := 0x1C0058, s1 := 0x1000, n1 := 64, lo := 8, w := 1, ty := .rw, keep := .part }
def MPORT_HP_TX_TAIL : Field := { base := 0x1C005C, s1 := 0x1000, n1 := 64, lo := 0, w := 16, ty := .rw, keep := .part }
def MPORT_HP_TX_HEAD : Field := { base := 0x1C005C, s1 := 0x1000, n1 := 64, lo := 16, w := 16, ty := .ro, keep := .part }
def MPORT_LINK_UP : Field := { base := 0x1C0100, s1 := 0x1000, n1 := 64, lo := 0, w := 1, ty := .ro }
def MPORT_LIVE : Field := { base := 0x1C0100, s1 := 0x1000, n1 := 64, lo := 1, w := 1, ty := .ro }
def MPORT_EN_ERR : Field := { base := 0x1C0100, s1 := 0x1000, n1 := 64, lo := 4, w := 4, ty := .ro }
def MPORT_LANES : Field := { base := 0x1C0100, s1 := 0x1000, n1 := 64, lo := 8, w := 3, ty := .ro }
def MPORT_HP_BAD : Field := { base := 0x1C0100, s1 := 0x1000, n1 := 64, lo := 16, w := 1, ty := .w1c, keep := .part }
def MPORT_HP_FAULT : Field := { base := 0x1C0100, s1 := 0x1000, n1 := 64, lo := 17, w := 1, ty := .w1c, keep := .part }
def MPORT_RX_FLOWS : Field := { base := 0x1C0104, s1 := 0x1000, n1 := 64, lo := 0, w := 19, ty := .ro }
def MPORT_TX_FLOWS : Field := { base := 0x1C0108, s1 := 0x1000, n1 := 64, lo := 0, w := 19, ty := .ro }
def MPORT_EGRESS_MBPS : Field := { base := 0x1C010C, s1 := 0x1000, n1 := 64, lo := 0, w := 32, ty := .ro }
def MPORT_RX_FRAMES_LO : Field := { base := 0x1C0110, s1 := 0x1000, n1 := 64, lo := 0, w := 32, ty := .ro }
def MPORT_RX_FRAMES_HI : Field := { base := 0x1C0114, s1 := 0x1000, n1 := 64, lo := 0, w := 32, ty := .ro }
def MPORT_RX_BYTES_LO : Field := { base := 0x1C0118, s1 := 0x1000, n1 := 64, lo := 0, w := 32, ty := .ro }
def MPORT_RX_BYTES_HI : Field := { base := 0x1C011C, s1 := 0x1000, n1 := 64, lo := 0, w := 32, ty := .ro }
def MPORT_RX_FCS_ERR : Field := { base := 0x1C0120, s1 := 0x1000, n1 := 64, lo := 0, w := 32, ty := .ro }
def MPORT_RX_RUNT : Field := { base := 0x1C0124, s1 := 0x1000, n1 := 64, lo := 0, w := 32, ty := .ro }
def MPORT_RX_OVERSIZE : Field := { base := 0x1C0128, s1 := 0x1000, n1 := 64, lo := 0, w := 32, ty := .ro }
def MPORT_RX_FEC_CORR : Field := { base := 0x1C012C, s1 := 0x1000, n1 := 64, lo := 0, w := 32, ty := .ro }
def MPORT_RX_FEC_UNCORR : Field := { base := 0x1C0130, s1 := 0x1000, n1 := 64, lo := 0, w := 32, ty := .ro }
def MPORT_RX_PAUSE : Field := { base := 0x1C0134, s1 := 0x1000, n1 := 64, lo := 0, w := 32, ty := .ro }
def MPORT_RX_HDR_ERR : Field := { base := 0x1C0138, s1 := 0x1000, n1 := 64, lo := 0, w := 32, ty := .ro }
def MPORT_RX_FLOW : Field := { base := 0x1C013C, s1 := 0x1000, n1 := 64, lo := 0, w := 32, ty := .ro }
def MPORT_RX_NOFLOW : Field := { base := 0x1C0140, s1 := 0x1000, n1 := 64, lo := 0, w := 32, ty := .ro }
def MPORT_RX_SHORT_DROP : Field := { base := 0x1C0144, s1 := 0x1000, n1 := 64, lo := 0, w := 32, ty := .ro }
def MPORT_HP_RX_PKTS : Field := { base := 0x1C0148, s1 := 0x1000, n1 := 64, lo := 0, w := 32, ty := .ro }
def MPORT_HP_RX_DROP : Field := { base := 0x1C014C, s1 := 0x1000, n1 := 64, lo := 0, w := 32, ty := .ro }
def MPORT_TX_FRAMES_LO : Field := { base := 0x1C0150, s1 := 0x1000, n1 := 64, lo := 0, w := 32, ty := .ro }
def MPORT_TX_FRAMES_HI : Field := { base := 0x1C0154, s1 := 0x1000, n1 := 64, lo := 0, w := 32, ty := .ro }
def MPORT_TX_BYTES_LO : Field := { base := 0x1C0158, s1 := 0x1000, n1 := 64, lo := 0, w := 32, ty := .ro }
def MPORT_TX_BYTES_HI : Field := { base := 0x1C015C, s1 := 0x1000, n1 := 64, lo := 0, w := 32, ty := .ro }
def MPORT_TX_MEDIA : Field := { base := 0x1C0160, s1 := 0x1000, n1 := 64, lo := 0, w := 32, ty := .ro }
def MPORT_TX_LATE : Field := { base := 0x1C0164, s1 := 0x1000, n1 := 64, lo := 0, w := 32, ty := .ro }
def MPORT_TX_LINK_DROP : Field := { base := 0x1C0168, s1 := 0x1000, n1 := 64, lo := 0, w := 32, ty := .ro }
def MPORT_HP_TX_PKTS : Field := { base := 0x1C016C, s1 := 0x1000, n1 := 64, lo := 0, w := 32, ty := .ro }
def MPORT_PTP_TS : Field := { base := 0x1C0170, s1 := 0x1000, n1 := 64, lo := 0, w := 32, ty := .ro }
def MPORT_LINK_DOWNS : Field := { base := 0x1C0174, s1 := 0x1000, n1 := 64, lo := 0, w := 32, ty := .ro }

/-- Every field of the MPORT tables. -/
def fieldsMPORT : List Field :=
  [MPORT_MODE, MPORT_ENABLE, MPORT_HP_LONG, MPORT_MAC_LO, MPORT_MAC_HI, MPORT_MAXFRAME, MPORT_IP4, MPORT_IP6, MPORT_PTP_VLAN, MPORT_TX_OFS_NS, MPORT_HP_RX_BASE_LO, MPORT_HP_RX_BASE_HI, MPORT_HP_RX_LOG2, MPORT_HP_RX_EN, MPORT_HP_VECTOR, MPORT_HP_INT_EN, MPORT_HP_RX_HEAD, MPORT_HP_RX_TAIL, MPORT_HP_TX_BASE_LO, MPORT_HP_TX_BASE_HI, MPORT_HP_TX_LOG2, MPORT_HP_TX_EN, MPORT_HP_TX_TAIL, MPORT_HP_TX_HEAD, MPORT_LINK_UP, MPORT_LIVE, MPORT_EN_ERR, MPORT_LANES, MPORT_HP_BAD, MPORT_HP_FAULT] ++
  [MPORT_RX_FLOWS, MPORT_TX_FLOWS, MPORT_EGRESS_MBPS, MPORT_RX_FRAMES_LO, MPORT_RX_FRAMES_HI, MPORT_RX_BYTES_LO, MPORT_RX_BYTES_HI, MPORT_RX_FCS_ERR, MPORT_RX_RUNT, MPORT_RX_OVERSIZE, MPORT_RX_FEC_CORR, MPORT_RX_FEC_UNCORR, MPORT_RX_PAUSE, MPORT_RX_HDR_ERR, MPORT_RX_FLOW, MPORT_RX_NOFLOW, MPORT_RX_SHORT_DROP, MPORT_HP_RX_PKTS, MPORT_HP_RX_DROP, MPORT_TX_FRAMES_LO, MPORT_TX_FRAMES_HI, MPORT_TX_BYTES_LO, MPORT_TX_BYTES_HI, MPORT_TX_MEDIA, MPORT_TX_LATE, MPORT_TX_LINK_DROP, MPORT_HP_TX_PKTS, MPORT_PTP_TS, MPORT_LINK_DOWNS]


/-! ### SRC: 05_frame_store.md R167 -/

def SRC_KIND : Field := { base := 0x400000, s1 := 0x400, n1 := 1120, lo := 0, w := 3, ty := .rwl, norm := fun _ v => zeroAbove 4 v }
def SRC_ANY : Field := { base := 0x400000, s1 := 0x400, n1 := 1120, lo := 4, w := 1, ty := .rwl }
def SRC_PROT : Field := { base := 0x400000, s1 := 0x400, n1 := 1120, lo := 5, w := 1, ty := .rwl }
def SRC_LANE : Field := { base := 0x400000, s1 := 0x400, n1 := 1120, lo := 8, w := 8, ty := .rwl }
def SRC_AUTO_RING : Field := { base := 0x400000, s1 := 0x400, n1 := 1120, lo := 16, w := 1, ty := .rw, reset := fun _ _ => 1 }
def SRC_RASTER : Field := { base := 0x400004, s1 := 0x400, n1 := 1120, lo := 0, w := 4, ty := .rwl, norm := fun _ v => zeroAbove 7 v }
def SRC_RATE : Field := { base := 0x400004, s1 := 0x400, n1 := 1120, lo := 4, w := 4, ty := .rwl, norm := fun _ v => zeroAbove 8 v }
def SRC_SCAN : Field := { base := 0x400004, s1 := 0x400, n1 := 1120, lo := 8, w := 1, ty := .rwl }
def SRC_SAMPLING : Field := { base := 0x400004, s1 := 0x400, n1 := 1120, lo := 9, w := 1, ty := .rwl }
def SRC_BITS : Field := { base := 0x400004, s1 := 0x400, n1 := 1120, lo := 10, w := 2, ty := .rwl }
def SRC_RGB : Field := { base := 0x400004, s1 := 0x400, n1 := 1120, lo := 12, w := 1, ty := .rwl }
def SRC_COLOR : Field := { base := 0x400004, s1 := 0x400, n1 := 1120, lo := 13, w := 3, ty := .rwl, norm := fun _ v => zeroAbove 4 v }
def SRC_HB_X : Field := { base := 0x400008, s1 := 0x400, n1 := 1120, lo := 0, w := 16, ty := .rw }
def SRC_HB_Y : Field := { base := 0x400008, s1 := 0x400, n1 := 1120, lo := 16, w := 16, ty := .rw }
def SRC_HB_W : Field := { base := 0x40000C, s1 := 0x400, n1 := 1120, lo := 0, w := 16, ty := .rw }
def SRC_HB_H : Field := { base := 0x40000C, s1 := 0x400, n1 := 1120, lo := 16, w := 16, ty := .rw }
def SRC_STACK_MASK : Field := { base := 0x400010, s1 := 0x400, n1 := 1120, lo := 0, w := 4, ty := .rw, norm := fun _ v => if 3 ≤ bitCount 4 v then 0 else v }
def SRC_MERGE_FR : Field := { base := 0x400010, s1 := 0x400, n1 := 1120, lo := 8, w := 5, ty := .rw, reset := fun _ _ => 16 }
def SRC_STATE : Field := { base := 0x400040, s1 := 0x400, n1 := 1120, lo := 0, w := 3, ty := .ro }
def SRC_DET : Field := { base := 0x400044, s1 := 0x400, n1 := 1120, lo := 0, w := 16, ty := .ro }
def SRC_DEPTH : Field := { base := 0x400048, s1 := 0x400, n1 := 1120, lo := 0, w := 5, ty := .ro }
def SRC_LADDER : Field := { base := 0x400048, s1 := 0x400, n1 := 1120, lo := 8, w := 5, ty := .ro }
def SRC_STORE_FMT : Field := { base := 0x400048, s1 := 0x400, n1 := 1120, lo := 16, w := 8, ty := .ro }
def SRC_PAGES : Field := { base := 0x40004C, s1 := 0x400, n1 := 1120, lo := 0, w := 16, ty := .ro }
def SRC_SLOT_PAGES : Field := { base := 0x40004C, s1 := 0x400, n1 := 1120, lo := 16, w := 8, ty := .ro }
def SRC_LAST_SEQ : Field := { base := 0x400050, s1 := 0x400, n1 := 1120, lo := 0, w := 32, ty := .ro }
def SRC_DROPPED : Field := { base := 0x400054, s1 := 0x400, n1 := 1120, lo := 0, w := 32, ty := .ro }
def SRC_DAMAGED : Field := { base := 0x400058, s1 := 0x400, n1 := 1120, lo := 0, w := 32, ty := .ro }
def SRC_LATE_PKT : Field := { base := 0x40005C, s1 := 0x400, n1 := 1120, lo := 0, w := 32, ty := .ro }
def SRC_CHASE_TEAR : Field := { base := 0x400060, s1 := 0x400, n1 := 1120, lo := 0, w := 32, ty := .ro }
def SRC_WR_SLOT : Field := { base := 0x400064, s1 := 0x400, n1 := 1120, lo := 0, w := 4, ty := .ro }
def SRC_WR_VALID : Field := { base := 0x400064, s1 := 0x400, n1 := 1120, lo := 4, w := 1, ty := .ro }
def SRC_NEW_SLOT : Field := { base := 0x400064, s1 := 0x400, n1 := 1120, lo := 8, w := 4, ty := .ro }
def SRC_NEW_VALID : Field := { base := 0x400064, s1 := 0x400, n1 := 1120, lo := 12, w := 1, ty := .ro }
def SRC_READERS : Field := { base := 0x400068, s1 := 0x400, n1 := 1120, lo := 0, w := 16, ty := .ro }
def SRC_UE_SEEN : Field := { base := 0x40006C, s1 := 0x400, n1 := 1120, lo := 0, w := 1, ty := .w1c }
def SRC_DROP_SEEN : Field := { base := 0x40006C, s1 := 0x400, n1 := 1120, lo := 1, w := 1, ty := .w1c }
def SRC_SLOT_REC : Field := { base := 0x400200, s1 := 0x400, n1 := 1120, s2 := 0x20, n2 := 16, lo := 0, w := 32, ty := .ro }

/-- Every field of the SRC tables. -/
def fieldsSRC : List Field :=
  [SRC_KIND, SRC_ANY, SRC_PROT, SRC_LANE, SRC_AUTO_RING, SRC_RASTER, SRC_RATE, SRC_SCAN, SRC_SAMPLING, SRC_BITS, SRC_RGB, SRC_COLOR, SRC_HB_X, SRC_HB_Y, SRC_HB_W, SRC_HB_H, SRC_STACK_MASK, SRC_MERGE_FR, SRC_STATE, SRC_DET, SRC_DEPTH, SRC_LADDER, SRC_STORE_FMT, SRC_PAGES, SRC_SLOT_PAGES, SRC_LAST_SEQ, SRC_DROPPED, SRC_DAMAGED, SRC_LATE_PKT, SRC_CHASE_TEAR] ++
  [SRC_WR_SLOT, SRC_WR_VALID, SRC_NEW_SLOT, SRC_NEW_VALID, SRC_READERS, SRC_UE_SEEN, SRC_DROP_SEEN, SRC_SLOT_REC]


/-! ### DST: 08_destinations.md R243 -/

def DST_ENABLE : Field := { base := 0x600000, s1 := 0x400, n1 := 1024, lo := 0, w := 1, ty := .rw }
def DST_RASTER : Field := { base := 0x600004, s1 := 0x400, n1 := 1024, lo := 0, w := 4, ty := .rwl, norm := fun _ v => zeroAbove 7 v }
def DST_RATE : Field := { base := 0x600004, s1 := 0x400, n1 := 1024, lo := 4, w := 4, ty := .rwl, norm := fun _ v => zeroAbove 8 v }
def DST_SCAN : Field := { base := 0x600004, s1 := 0x400, n1 := 1024, lo := 8, w := 1, ty := .rwl }
def DST_SAMPLING : Field := { base := 0x600004, s1 := 0x400, n1 := 1024, lo := 9, w := 1, ty := .rwl }
def DST_BITS : Field := { base := 0x600004, s1 := 0x400, n1 := 1024, lo := 10, w := 2, ty := .rwl }
def DST_RGB : Field := { base := 0x600004, s1 := 0x400, n1 := 1024, lo := 12, w := 1, ty := .rwl }
def DST_COLOR : Field := { base := 0x600004, s1 := 0x400, n1 := 1024, lo := 13, w := 3, ty := .rwl, norm := fun _ v => zeroAbove 4 v }
def DST_FULL : Field := { base := 0x600004, s1 := 0x400, n1 := 1024, lo := 16, w := 1, ty := .rwl }
def DST_ASPECT : Field := { base := 0x600004, s1 := 0x400, n1 := 1024, lo := 17, w := 1, ty := .rwl }
def DST_PLANE : Field := { base := 0x600008, s1 := 0x400, n1 := 1024, lo := 0, w := 3, ty := .rwl }
def DST_PHASE_NS : Field := { base := 0x60000C, s1 := 0x400, n1 := 1024, lo := 0, w := 32, ty := .rw }
def DST_LEAD_EXTRA_US : Field := { base := 0x600010, s1 := 0x400, n1 := 1024, lo := 0, w := 9, ty := .rw, reset := fun _ _ => 150, norm := fun _ v => capAt 450 v }
def DST_CHASE_WIN : Field := { base := 0x600010, s1 := 0x400, n1 := 1024, lo := 16, w := 6, ty := .rw, reset := fun _ _ => 8, norm := fun _ v => capAt 32 v }
def DST_TX_LANE : Field := { base := 0x600014, s1 := 0x400, n1 := 1024, lo := 0, w := 8, ty := .rwl }
def DST_LINK : Field := { base := 0x600014, s1 := 0x400, n1 := 1024, lo := 8, w := 3, ty := .rwl, norm := fun _ v => zeroAbove 4 v }
def DST_LEVEL : Field := { base := 0x600018, s1 := 0x400, n1 := 1024, lo := 0, w := 3, ty := .rw, norm := fun _ v => zeroAbove 5 v }
def DST_DEINT : Field := { base := 0x600018, s1 := 0x400, n1 := 1024, lo := 4, w := 2, ty := .rw }
def DST_MOTION_TH : Field := { base := 0x600018, s1 := 0x400, n1 := 1024, lo := 8, w := 12, ty := .rw, reset := fun _ _ => 64 }
def DST_SRC_FULL : Field := { base := 0x600018, s1 := 0x400, n1 := 1024, lo := 20, w := 1, ty := .rw }
def DST_AUTO_MTX : Field := { base := 0x600018, s1 := 0x400, n1 := 1024, lo := 21, w := 1, ty := .rw, reset := fun _ _ => 1 }
def DST_CLIP : Field := { base := 0x600018, s1 := 0x400, n1 := 1024, lo := 22, w := 1, ty := .rw }
def DST_M00 : Field := { base := 0x600020, s1 := 0x400, n1 := 1024, lo := 0, w := 16, ty := .rw }
def DST_M01 : Field := { base := 0x600020, s1 := 0x400, n1 := 1024, lo := 16, w := 16, ty := .rw }
def DST_M02 : Field := { base := 0x600024, s1 := 0x400, n1 := 1024, lo := 0, w := 16, ty := .rw }
def DST_M10 : Field := { base := 0x600024, s1 := 0x400, n1 := 1024, lo := 16, w := 16, ty := .rw }
def DST_M11 : Field := { base := 0x600028, s1 := 0x400, n1 := 1024, lo := 0, w := 16, ty := .rw }
def DST_M12 : Field := { base := 0x600028, s1 := 0x400, n1 := 1024, lo := 16, w := 16, ty := .rw }
def DST_M20 : Field := { base := 0x60002C, s1 := 0x400, n1 := 1024, lo := 0, w := 16, ty := .rw }
def DST_M21 : Field := { base := 0x60002C, s1 := 0x400, n1 := 1024, lo := 16, w := 16, ty := .rw }
def DST_M22 : Field := { base := 0x600030, s1 := 0x400, n1 := 1024, lo := 0, w := 16, ty := .rw }
def DST_IN0 : Field := { base := 0x600034, s1 := 0x400, n1 := 1024, lo := 0, w := 14, ty := .rw }
def DST_IN1 : Field := { base := 0x600034, s1 := 0x400, n1 := 1024, lo := 16, w := 14, ty := .rw }
def DST_IN2 : Field := { base := 0x600038, s1 := 0x400, n1 := 1024, lo := 0, w := 14, ty := .rw }
def DST_OUT0 : Field := { base := 0x600038, s1 := 0x400, n1 := 1024, lo := 16, w := 14, ty := .rw }
def DST_OUT1 : Field := { base := 0x60003C, s1 := 0x400, n1 := 1024, lo := 0, w := 14, ty := .rw }
def DST_OUT2 : Field := { base := 0x60003C, s1 := 0x400, n1 := 1024, lo := 16, w := 14, ty := .rw }
def DST_LUT_IN : Field := { base := 0x600040, s1 := 0x400, n1 := 1024, lo := 0, w := 12, ty := .rw }
def DST_LUT_OUT : Field := { base := 0x600040, s1 := 0x400, n1 := 1024, lo := 16, w := 12, ty := .rw }
def DST_MTX_USED : Field := { base := 0x600060, s1 := 0x400, n1 := 1024, s2 := 0x4, n2 := 8, lo := 0, w := 32, ty := .ro }
def DST_LIVE : Field := { base := 0x600100, s1 := 0x400, n1 := 1024, lo := 0, w := 1, ty := .ro }
def DST_EN_ERR : Field := { base := 0x600100, s1 := 0x400, n1 := 1024, lo := 4, w := 4, ty := .ro }
def DST_LATMODE : Field := { base := 0x600100, s1 := 0x400, n1 := 1024, lo := 8, w := 3, ty := .ro }
def DST_CHASE_DEG : Field := { base := 0x600100, s1 := 0x400, n1 := 1024, lo := 11, w := 1, ty := .ro }
def DST_CONV_PARTIAL : Field := { base := 0x600100, s1 := 0x400, n1 := 1024, lo := 12, w := 1, ty := .ro }
def DST_LEVEL_CLAMP : Field := { base := 0x600100, s1 := 0x400, n1 := 1024, lo := 13, w := 1, ty := .w1c }
def DST_LEVEL_RD : Field := { base := 0x600100, s1 := 0x400, n1 := 1024, lo := 16, w := 3, ty := .ro }
def DST_DEINT_USED : Field := { base := 0x600100, s1 := 0x400, n1 := 1024, lo := 20, w := 2, ty := .ro }
def DST_VSRC : Field := { base := 0x600104, s1 := 0x400, n1 := 1024, lo := 0, w := 11, ty := .ro, reset := fun _ _ => 2047 }
def DST_ASRC : Field := { base := 0x600104, s1 := 0x400, n1 := 1024, lo := 16, w := 11, ty := .ro, reset := fun _ _ => 2047 }
def DST_NSRC : Field := { base := 0x600108, s1 := 0x400, n1 := 1024, lo := 0, w := 11, ty := .ro, reset := fun _ _ => 2047 }
def DST_EGRESS : Field := { base := 0x600108, s1 := 0x400, n1 := 1024, lo := 16, w := 4, ty := .ro }
def DST_CHARGE : Field := { base := 0x60010C, s1 := 0x400, n1 := 1024, lo := 0, w := 16, ty := .ro }
def DST_SHOWN_SEQ : Field := { base := 0x600110, s1 := 0x400, n1 := 1024, lo := 0, w := 32, ty := .ro }
def DST_REPEATS : Field := { base := 0x600114, s1 := 0x400, n1 := 1024, lo := 0, w := 32, ty := .ro }
def DST_SKIPS : Field := { base := 0x600118, s1 := 0x400, n1 := 1024, lo := 0, w := 32, ty := .ro }
def DST_FRAMES : Field := { base := 0x60011C, s1 := 0x400, n1 := 1024, lo := 0, w := 32, ty := .ro }

/-- Every field of the DST tables. -/
def fieldsDST : List Field :=
  [DST_ENABLE, DST_RASTER, DST_RATE, DST_SCAN, DST_SAMPLING, DST_BITS, DST_RGB, DST_COLOR, DST_FULL, DST_ASPECT, DST_PLANE, DST_PHASE_NS, DST_LEAD_EXTRA_US, DST_CHASE_WIN, DST_TX_LANE, DST_LINK, DST_LEVEL, DST_DEINT, DST_MOTION_TH, DST_SRC_FULL, DST_AUTO_MTX, DST_CLIP, DST_M00, DST_M01, DST_M02, DST_M10, DST_M11, DST_M12, DST_M20, DST_M21] ++
  [DST_M22, DST_IN0, DST_IN1, DST_IN2, DST_OUT0, DST_OUT1, DST_OUT2, DST_LUT_IN, DST_LUT_OUT, DST_MTX_USED, DST_LIVE, DST_EN_ERR, DST_LATMODE, DST_CHASE_DEG, DST_CONV_PARTIAL, DST_LEVEL_CLAMP, DST_LEVEL_RD, DST_DEINT_USED, DST_VSRC, DST_ASRC, DST_NSRC, DST_EGRESS, DST_CHARGE, DST_SHOWN_SEQ, DST_REPEATS, DST_SKIPS, DST_FRAMES]


/-! ### CMP: 09_compositors.md R271 -/

def CMP_LEAD_EXTRA_US : Field := { base := 0x800000, s1 := 0x1000, n1 := 96, lo := 0, w := 9, ty := .rw, reset := fun _ _ => 150, norm := fun _ v => capAt 450 v }
def CMP_CHASE_WIN : Field := { base := 0x800000, s1 := 0x1000, n1 := 96, lo := 16, w := 6, ty := .rw, reset := fun _ _ => 8, norm := fun _ v => capAt 32 v }
def CMP_PHASE_NS : Field := { base := 0x800004, s1 := 0x1000, n1 := 96, lo := 0, w := 32, ty := .rw }
def CMP_ENABLED : Field := { base := 0x800100, s1 := 0x1000, n1 := 96, lo := 0, w := 1, ty := .ro }
def CMP_PLANE : Field := { base := 0x800100, s1 := 0x1000, n1 := 96, lo := 8, w := 4, ty := .ro }
def CMP_OUT_FMT : Field := { base := 0x800100, s1 := 0x1000, n1 := 96, lo := 16, w := 8, ty := .ro }
def CMP_ZPERM : Field := { base := 0x800104, s1 := 0x1000, n1 := 96, lo := 0, w := 24, ty := .ro }
def CMP_ZPERM_EN : Field := { base := 0x800104, s1 := 0x1000, n1 := 96, lo := 31, w := 1, ty := .ro }
def CMP_BG : Field := { base := 0x800108, s1 := 0x1000, n1 := 96, lo := 0, w := 30, ty := .ro, reset := fun _ _ => 0x04080200 }
def CMP_OUT_CHARGE : Field := { base := 0x80010C, s1 := 0x1000, n1 := 96, lo := 0, w := 16, ty := .ro }
def CMP_LAYER_CHARGE : Field := { base := 0x800110, s1 := 0x1000, n1 := 96, lo := 0, w := 16, ty := .ro }
def CMP_LAYER_BUDGET : Field := { base := 0x800110, s1 := 0x1000, n1 := 96, lo := 16, w := 16, ty := .ro }
def CMP_GFX_AREA : Field := { base := 0x800114, s1 := 0x1000, n1 := 96, lo := 0, w := 32, ty := .ro }
def CMP_FRAMES : Field := { base := 0x800118, s1 := 0x1000, n1 := 96, lo := 0, w := 32, ty := .ro }
def CMP_LEVEL_CLAMP : Field := { base := 0x80011C, s1 := 0x1000, n1 := 96, lo := 0, w := 8, ty := .w1c }
def CMP_TW_TILE : Field := { base := 0x800600, s1 := 0x1000, n1 := 96, lo := 0, w := 6, ty := .rw }
def CMP_TW_LAYER : Field := { base := 0x800600, s1 := 0x1000, n1 := 96, lo := 8, w := 3, ty := .rw }
def CMP_TW_SRC : Field := { base := 0x800604, s1 := 0x1000, n1 := 96, lo := 0, w := 11, ty := .ro, reset := fun _ _ => 2047 }
def CMP_TW_LATMODE : Field := { base := 0x800604, s1 := 0x1000, n1 := 96, lo := 12, w := 2, ty := .ro }
def CMP_TW_X : Field := { base := 0x800608, s1 := 0x1000, n1 := 96, lo := 0, w := 16, ty := .ro }
def CMP_TW_Y : Field := { base := 0x800608, s1 := 0x1000, n1 := 96, lo := 16, w := 16, ty := .ro }
def CMP_TW_W : Field := { base := 0x80060C, s1 := 0x1000, n1 := 96, lo := 0, w := 16, ty := .ro }
def CMP_TW_H : Field := { base := 0x80060C, s1 := 0x1000, n1 := 96, lo := 16, w := 16, ty := .ro }
def CMP_TW_LEVEL : Field := { base := 0x800610, s1 := 0x1000, n1 := 96, lo := 0, w := 3, ty := .ro }
def CMP_TW_CHARGE : Field := { base := 0x800610, s1 := 0x1000, n1 := 96, lo := 8, w := 16, ty := .ro }
def CMP_TW_SEQ : Field := { base := 0x800614, s1 := 0x1000, n1 := 96, lo := 0, w := 32, ty := .ro }

/-- Every field of the CMP tables. -/
def fieldsCMP : List Field :=
  [CMP_LEAD_EXTRA_US, CMP_CHASE_WIN, CMP_PHASE_NS, CMP_ENABLED, CMP_PLANE, CMP_OUT_FMT, CMP_ZPERM, CMP_ZPERM_EN, CMP_BG, CMP_OUT_CHARGE, CMP_LAYER_CHARGE, CMP_LAYER_BUDGET, CMP_GFX_AREA, CMP_FRAMES, CMP_LEVEL_CLAMP, CMP_TW_TILE, CMP_TW_LAYER, CMP_TW_SRC, CMP_TW_LATMODE, CMP_TW_X, CMP_TW_Y, CMP_TW_W, CMP_TW_H, CMP_TW_LEVEL, CMP_TW_CHARGE, CMP_TW_SEQ]


/-! ### LAYR: 09_compositors.md R271 -/

def LAYR_KIND : Field := { base := 0x800200, s1 := 0x1000, n1 := 96, s2 := 0x40, n2 := 8, lo := 0, w := 3, ty := .ro }
def LAYR_LATMODE : Field := { base := 0x800200, s1 := 0x1000, n1 := 96, s2 := 0x40, n2 := 8, lo := 4, w := 2, ty := .ro }
def LAYR_SRC : Field := { base := 0x800200, s1 := 0x1000, n1 := 96, s2 := 0x40, n2 := 8, lo := 16, w := 11, ty := .ro, reset := fun _ _ => 2047 }
def LAYR_X : Field := { base := 0x800204, s1 := 0x1000, n1 := 96, s2 := 0x40, n2 := 8, lo := 0, w := 16, ty := .ro }
def LAYR_Y : Field := { base := 0x800204, s1 := 0x1000, n1 := 96, s2 := 0x40, n2 := 8, lo := 16, w := 16, ty := .ro }
def LAYR_W : Field := { base := 0x800208, s1 := 0x1000, n1 := 96, s2 := 0x40, n2 := 8, lo := 0, w := 16, ty := .ro }
def LAYR_H : Field := { base := 0x800208, s1 := 0x1000, n1 := 96, s2 := 0x40, n2 := 8, lo := 16, w := 16, ty := .ro }
def LAYR_ALPHA : Field := { base := 0x80020C, s1 := 0x1000, n1 := 96, s2 := 0x40, n2 := 8, lo := 0, w := 13, ty := .ro }
def LAYR_REF : Field := { base := 0x80020C, s1 := 0x1000, n1 := 96, s2 := 0x40, n2 := 8, lo := 16, w := 12, ty := .ro }
def LAYR_CROP_X : Field := { base := 0x800210, s1 := 0x1000, n1 := 96, s2 := 0x40, n2 := 8, lo := 0, w := 16, ty := .ro }
def LAYR_CROP_Y : Field := { base := 0x800210, s1 := 0x1000, n1 := 96, s2 := 0x40, n2 := 8, lo := 16, w := 16, ty := .ro }
def LAYR_CROP_W : Field := { base := 0x800214, s1 := 0x1000, n1 := 96, s2 := 0x40, n2 := 8, lo := 0, w := 16, ty := .ro }
def LAYR_CROP_H : Field := { base := 0x800214, s1 := 0x1000, n1 := 96, s2 := 0x40, n2 := 8, lo := 16, w := 16, ty := .ro }
def LAYR_LEVEL_FORCE : Field := { base := 0x800218, s1 := 0x1000, n1 := 96, s2 := 0x40, n2 := 8, lo := 0, w := 3, ty := .ro }
def LAYR_LEVEL_USED : Field := { base := 0x800218, s1 := 0x1000, n1 := 96, s2 := 0x40, n2 := 8, lo := 4, w := 3, ty := .ro }
def LAYR_CONV_PARTIAL : Field := { base := 0x800218, s1 := 0x1000, n1 := 96, s2 := 0x40, n2 := 8, lo := 7, w := 1, ty := .ro }
def LAYR_TILES : Field := { base := 0x800218, s1 := 0x1000, n1 := 96, s2 := 0x40, n2 := 8, lo := 8, w := 7, ty := .ro }
def LAYR_CHARGE : Field := { base := 0x80021C, s1 := 0x1000, n1 := 96, s2 := 0x40, n2 := 8, lo := 0, w := 16, ty := .ro }
def LAYR_SHOWN_SEQ : Field := { base := 0x800220, s1 := 0x1000, n1 := 96, s2 := 0x40, n2 := 8, lo := 0, w := 32, ty := .ro }

/-- Every field of the LAYR tables. -/
def fieldsLAYR : List Field :=
  [LAYR_KIND, LAYR_LATMODE, LAYR_SRC, LAYR_X, LAYR_Y, LAYR_W, LAYR_H, LAYR_ALPHA, LAYR_REF, LAYR_CROP_X, LAYR_CROP_Y, LAYR_CROP_W, LAYR_CROP_H, LAYR_LEVEL_FORCE, LAYR_LEVEL_USED, LAYR_CONV_PARTIAL, LAYR_TILES, LAYR_CHARGE, LAYR_SHOWN_SEQ]


/-! ### TAPS: 09_compositors.md R271 -/

def TAPS_C_M1 : Field := { base := 0x800800, s1 := 0x1000, n1 := 96, s2 := 0x8, n2 := 64, lo := 0, w := 16, ty := .rw, reset := fun _ t => tapReset t 0 }
def TAPS_C_0 : Field := { base := 0x800800, s1 := 0x1000, n1 := 96, s2 := 0x8, n2 := 64, lo := 16, w := 16, ty := .rw, reset := fun _ t => tapReset t 1 }
def TAPS_C_1 : Field := { base := 0x800804, s1 := 0x1000, n1 := 96, s2 := 0x8, n2 := 64, lo := 0, w := 16, ty := .rw, reset := fun _ t => tapReset t 2 }
def TAPS_C_2 : Field := { base := 0x800804, s1 := 0x1000, n1 := 96, s2 := 0x8, n2 := 64, lo := 16, w := 16, ty := .rw, reset := fun _ t => tapReset t 3 }

/-- Every field of the TAPS tables. -/
def fieldsTAPS : List Field :=
  [TAPS_C_M1, TAPS_C_0, TAPS_C_1, TAPS_C_2]


end Sys2Proof.Machine.Reg
end

