-- ==== Sys2Proof/Machine/Digest.lean ====
section
/-! DEFINITION. Digests of a pair: sending, comparing, and what a mismatch starts (R447 .. R449). -/

namespace Sys2Proof.Machine
open Reg

/-- The message that carries a digest (R446). -/
def Dig.msg (d : Dig) : CwMsg :=
  if d.kind = 0 then
    { ty := Msg.DIG_IN
      words := [word64 (d.obj + 2 ^ 11 * d.state + 2 ^ 14 * d.flags + 2 ^ 24 * d.fmtGen) d.key, d.hash] }
  else
    { ty := if d.kind = 1 then Msg.DIG_OUT else Msg.DIG_AUD
      words := [word64 (d.obj + 2 ^ 12 * bit d.nc) d.key, d.hash] }

def Dig.sameKey (a b : Dig) : Bool := a.kind == b.kind && a.obj == b.obj && a.key == b.key

def State.setCway (s : State) (p : PairRun) : State := { s with cway := p }

/-- A bit map of islands as payload words (R446). -/
def islandWords (isl : List Nat) : List Nat :=
  (List.range 3).map (fun w => ((List.range 64).map (fun b => bit (isl.contains (64 * w + b)) * 2 ^ b)).sum)

/-- Islands start a known-answer test on request; one that is under test already goes on. -/
def State.askKat (s : State) (isl : List Nat) : State :=
  let p := s.cway
  let new := fun (l : List Nat) => l ++ isl.filter (fun i => !l.contains i)
  s.setCway { p with katOn := new p.katOn, katAsked := new p.katAsked }

/-- Islands start a known-answer test on both devices (R449). -/
def State.requestKat (s : State) (isl : List Nat) : State := (s.askKat isl).send Msg.KAT_REQ (islandWords isl)

/-- The island that a digest speaks for (R449). -/
def State.digestIsland (s : State) (d : Dig) : Nat :=
  if d.kind = 0 then
    (if d.obj < 1024 then 91 + (Tab.get {} s.store.srcs d.obj : SrcRun).island else 124 + (d.obj - 1024) / 8)
  else if d.kind = 1 then 107 + (Tab.get {} s.store.dsts d.obj : DstRun).island
  else 137

/-- The slots that a destination shows had agreed (R449). -/
def State.shownAgreed (s : State) (d : Nat) : Bool :=
  match (Tab.get {} s.store.readers d : ReaderRun).cur.slot with
  | some r => !s.cway.badSlots.contains (r.src, r.seq)
  | none => true

/-- A pair of digests that differ (R448, R449). -/
def State.digestMismatch (s : State) (d : Dig) (bothComplete : Bool) : State :=
  let s := s.addFld CWAY_DIG_MISMATCH 1
  let p := s.cway
  let p := { p with
    badSlots := if d.kind = 0 then ((d.obj, d.key) :: p.badSlots).take 1024 else p.badSlots
    mismatches := if d.kind = 1 then Tab.set 0 p.mismatches d.obj (Tab.get 0 p.mismatches d.obj + 1) else p.mismatches
    agrees := if d.kind = 1 then Tab.erase p.agrees d.obj else p.agrees
    mismatchAt := s.time.grid :: p.mismatchAt.filter (fun t => decide (s.time.grid < t + 10 ^ 9)) }
  let s := (s.setCway p).raise Ev.DIGEST_MISMATCH { index := d.obj, data := d.kind + 2 ^ 32 * (d.key % 2 ^ 32) }
  if d.kind = 0 ∧ ¬bothComplete then s
  else if d.kind = 1 ∧ ¬s.shownAgreed d.obj then s
  else s.requestKat [s.digestIsland d]

/-- A snapshot has been applied and every enabled destination has agreed three times in a row: the device is synchronised
(R435). -/
def State.joinDone (s : State) : State :=
  let dsts := (s.store.dsts.map (·.1)).filter (fun d => s.fldOn DST_ENABLE d)
  s.when (s.role == Role.JOINING && s.cway.snapDone && dsts.all (fun d => decide (3 ≤ Tab.get 0 s.cway.agrees d)))
    (fun s => s.enterRole Role.STANDBY 0)

/-- A pair of output digests agrees. -/
def State.outputAgrees (s : State) (d : Nat) : State :=
  let p := s.cway
  (s.setCway { p with
    mismatches := Tab.erase p.mismatches d
    agrees := Tab.set 0 p.agrees d (Tab.get 0 p.agrees d + 1) }).joinDone

/-- A pair of digests with one key is compared (R448). -/
def State.compareDigests (s : State) (own peer : Dig) : State :=
  let damaged := fun (d : Dig) => d.kind == 0 && d.state == 3
  if own.nc || peer.nc || (damaged own && damaged peer) then s
  else if damaged own || damaged peer then s.addFld CWAY_INGEST_DIFF 1
  else if own.hash = peer.hash ∧ own.state = peer.state then
    s.when (own.kind == 1) (fun s => s.outputAgrees own.obj)
  else s.digestMismatch own (own.state == 2 && peer.state == 2)

/-- A digest of this device: it is sent, and compared once the peer's is here. -/
def State.ownDigest (s : State) (d : Dig) : State :=
  if s.compares then
    let d := { d with at' := s.time.grid }
    let s := s.send d.msg.ty d.msg.words
    let p := s.cway
    match p.digPeer.find? d.sameKey with
    | some q => (s.setCway { p with digPeer := p.digPeer.filter (fun x => !d.sameKey x) }).compareDigests d q
    | none => s.setCway { p with digOwn := p.digOwn ++ [d] }
  else s

/-- A digest of the peer arrives. -/
def State.peerDigest (s : State) (d : Dig) : State :=
  let d := { d with at' := s.time.grid }
  let p := s.cway
  match p.digOwn.find? d.sameKey with
  | some q => (s.setCway { p with digOwn := p.digOwn.filter (fun x => !d.sameKey x) }).compareDigests q d
  | none => s.setCway { p with digPeer := (p.digPeer ++ [d]).drop (p.digPeer.length - 4095) }

end Sys2Proof.Machine
end

