-- ==== Sys2Proof/Machine/Planes.lean ====
section
/-! DEFINITION. The timing planes and the frame timing of destinations and compositors (R119 .. R122, R223, R224). -/

namespace Sys2Proof.Machine
open Reg

/-! ### Frame grids (R120) -/

/-- F(k) of a rate with an offset. -/
def gridStart (rate : Nat) (ofs : Int) (k : Nat) : Int :=
  let r := rateFrac rate
  ((k * r.2 * 10 ^ 9 / r.1 : Nat) : Int) + ofs

/-- The largest k with F(k) not after t, plus 1; 0 when there is none. -/
def gridIndex (rate : Nat) (ofs t : Int) : Nat :=
  let r := rateFrac rate
  if r.1 = 0 then 0
  else if t < ofs then 0
  else (((t - ofs).toNat + 1) * r.1 - 1) / (r.2 * 10 ^ 9) + 1

/-- The smallest k with F(k) not before t. -/
def gridFrom (rate : Nat) (ofs t : Int) : Nat :=
  let r := rateFrac rate
  ceilDiv ((t - ofs).toNat * r.1) (r.2 * 10 ^ 9)

/-- An offset as it is used: 0 while its magnitude is one frame period or more (R121). -/
def offsetInUse (rate : Nat) (v : Int) : Int :=
  let r := rateFrac rate
  if v.natAbs * r.1 < r.2 * 10 ^ 9 then v else 0

def State.planeRun (s : State) (p : Nat) : PlaneRun := Tab.get {} s.time.planes p

def State.setPlaneRun (s : State) (p : Nat) (r : PlaneRun) : State :=
  { s with time := { s.time with planes := Tab.set {} s.time.planes p r } }

def State.planeRate (s : State) (p : Nat) : Nat := s.fld PLANE_RATE p

/-- The offset that plane p is told to use. -/
def State.planeOffset (s : State) (p : Nat) : Int :=
  offsetInUse (s.planeRate p) (signed 32 (s.fld PLANE_OFFSET_NS p))

/-- One line time of plane p in ns, rounded up; 0 without a line count. -/
def State.lineTime (s : State) (p : Nat) : Nat :=
  let n := linesOf (s.fld PLANE_LINES p)
  if n = 0 then 0 else ceilDiv (periodNs (s.planeRate p) + 1) n

/-! ### Clocks of planes and of the objects on them (R121, R223, R224) -/

/-- What the frame timing of an object depends on beside its own state: the plane's rate, its offset for the frames from
`turn` on and for those before, its line time, and PHASE_NS and LEAD_EXTRA_US as written. -/
structure ObjClock where
  rate : Nat
  ofs : Int := 0
  ofsWas : Int := 0
  turn : Nat := 0
  line : Nat := 0
  phase : Int := 0
  lead : Nat := 0
  deriving DecidableEq, Repr

/-- F(k) with a phase added. -/
def ObjClock.startOf (c : ObjClock) (ph : Int) (k : Nat) : Int :=
  gridStart c.rate ((if k < c.turn then c.ofsWas else c.ofs) + ph) k

/-- The smallest k from `lo` on whose frame start is not before t. -/
def ObjClock.firstFrom (c : ObjClock) (ph t : Int) (lo : Nat) : Nat :=
  let k := max lo (gridFrom c.rate (c.ofsWas + ph) t)
  if k < c.turn then k else max (max lo c.turn) (gridFrom c.rate (c.ofs + ph) t)

/-- The largest k whose frame start is not after t, plus 1; 0 when there is none. -/
def ObjClock.lastAt (c : ObjClock) (ph t : Int) : Nat :=
  let n := gridIndex c.rate (c.ofs + ph) t
  if c.turn < n then n else min (gridIndex c.rate (c.ofsWas + ph) t) c.turn

/-- The clock of plane p itself. -/
def State.planeClock (s : State) (p : Nat) : ObjClock :=
  let r := s.planeRun p
  { rate := s.planeRate p, ofs := r.offsetUsed, ofsWas := r.offsetWas, turn := r.frame, line := s.lineTime p }

/-- F(k) of plane p as it stands. -/
def State.planeStart (s : State) (p k : Nat) : Int := (s.planeClock p).startOf 0 k

/-- The plane's frame index as FRAME_IDX shows it: that of the frame in progress. -/
def State.frameIdx (s : State) (p : Nat) : Nat :=
  let r := s.planeRun p
  if s.planeRate p = 0 then 0
  else if r.frame = 0 then (s.planeClock p).lastAt 0 s.nowInt - 1
  else r.frame - 1

/-! ### Objects on a plane: destinations and compositors (R215, R223, R224) -/

/-- The next frame of an object: its k and its frame start, and the phase it runs on. A change of PHASE_NS waits for
one whole frame period after the frame in progress (R224); the first frame is one whose plane frame start has passed the
instant that R215 gives; a frame is never shorter than one line time (R119, R121). -/
def ObjRun.next (o : ObjRun) (c : ObjClock) : Nat × Int × Int :=
  let ph := offsetInUse c.rate c.phase
  let k :=
    if o.running = false then c.firstFrom ph o.notBefore (c.firstFrom 0 o.planeFrom 0)
    else if ph ≠ o.phaseUsed ∧ o.lastK ≠ 0 then c.firstFrom ph (max (c.startOf o.phaseUsed o.lastK) o.notBefore) 0
    else c.firstFrom ph (max o.notBefore (o.start + c.line)) o.lastK
  (k, c.startOf ph k, ph)

/-- The frame of an object that is due at an instant: the latest one not later than it, from the next one on. -/
def ObjRun.due (o : ObjRun) (c : ObjClock) (now : Int) : Option (Nat × Int × Int) :=
  if c.rate = 0 then none
  else
    let (k, f, ph) := o.next c
    if now < f then none
    else
      let k' := max k (c.lastAt ph now - 1)
      some (k', c.startOf ph k', ph)

/-- Selection lead in ns of LEAD_EXTRA_US. -/
def leadNs (v : Nat) : Nat := (50 + v) * 1000

/-- The lead of a frame that starts at f: a change counts from the first frame whose selection instant lies after the
write under the old lead and the new one (R224). -/
def ObjRun.leadAtFrame (o : ObjRun) (c : ObjClock) (f : Int) : Nat :=
  if o.leadAt < f - leadNs (max o.leadUsed c.lead) then c.lead else o.leadUsed

/-- The object starts the frame k. -/
def ObjRun.begin' (o : ObjRun) (c : ObjClock) (k : Nat) (f ph : Int) : ObjRun :=
  { o with
    running := true, lastK := k + 1, frame := k + 1, start := f, planeFrom := 0, phaseUsed := ph
    leadUsed := o.leadAtFrame c f }

/-- Frame timing after a step d of device time to `now`: the frame in progress ends at the first frame start at least one
line time after the step, and its lines go on where they were (R119). -/
def ObjRun.stepped (o : ObjRun) (d now : Int) (line : Nat) : ObjRun :=
  if o.running then
    { o with lastK := 0, start := o.start + d, leadAt := o.leadAt + d, notBefore := max 0 (now + line) }
  else { o with leadAt := o.leadAt + d, planeFrom := if o.planeFrom = 0 then 0 else o.planeFrom + d }

/-! ### Audio plane (R122, R123) -/

/-- What has been slewed away n samples after the clock's base: 1 ppm of the time that has passed. -/
def AudioClock.slewed (c : AudioClock) (n : Nat) : Int :=
  let m : Int := (n * c.per / 10 ^ 6 : Nat)
  if c.left.natAbs ≤ m then c.left else if c.left < 0 then -m else m

/-- Grid time of sample k, in units of 2^-32 ns. -/
def AudioClock.time (c : AudioClock) (k : Nat) : Int :=
  if k < c.idx then c.base - ((c.idx - k) * c.per : Nat) else c.base + ((k - c.idx) * c.per : Nat) + c.slewed (k - c.idx)

/-- The last sample not after a grid time in units of 2^-32 ns, plus 1. -/
def AudioClock.at' (c : AudioClock) (x : Int) : Nat :=
  if x < c.base then c.idx
  else
    let d := (x - c.base).toNat
    let n := d / max 1 (if c.left < 0 then c.per - c.per / 10 ^ 6 else c.per + c.per / 10 ^ 6)
    if n * c.per / 10 ^ 6 < c.left.natAbs then c.idx + n + 1 else c.idx + ((d : Int) - c.left).toNat / max 1 c.per + 1

/-- Index of the sample tick last reached on the audio plane, plus 1. -/
def State.sampleIndex (s : State) : Nat :=
  if s.fld APLANE_SRC = 1 then
    let t := s.nowInt - signed 32 (s.fld APLANE_A_OFFSET_NS)
    if t < 0 then 0 else ((t.toNat + 1) * 48000 - 1) / 10 ^ 9 + 1
  else s.time.aud.at' ((s.time.grid * 2 ^ 32 : Nat) : Int)

/-- Device time of sample tick k (R122). -/
def State.sampleStart (s : State) (k : Nat) : Int :=
  if s.fld APLANE_SRC = 1 then (k * 10 ^ 9 / 48000 : Nat) + signed 32 (s.fld APLANE_A_OFFSET_NS)
  else s.time.aud.time k / 2 ^ 32 + s.time.stepSum

/-- The first sample tick not before an instant. -/
def State.sampleFrom (s : State) (t : Int) : Nat :=
  if s.fld APLANE_SRC = 1 then ceilDiv ((t - signed 32 (s.fld APLANE_A_OFFSET_NS)).toNat * 48000) (10 ^ 9)
  else
    let x := (t - s.time.stepSum) * 2 ^ 32
    let n := s.time.aud.at' x
    if n ≠ 0 ∧ s.time.aud.time (n - 1) = x then n - 1 else n

def State.setAud (s : State) (c : AudioClock) : State := { s with time := { s.time with aud := c } }

/-- The nearest sample, among the multiples of m, to a grid time in units of 2^-32 ns. -/
def AudioClock.nearest (c : AudioClock) (m : Nat) (x : Int) : Nat :=
  let k := c.at' x - 1
  let k := if x - c.time k ≤ c.time (k + 1) - x then k else k + 1
  (k + m / 2) / m * m

/-- The sample period between two edges that lie whole samples apart. -/
def AudioClock.perOf (c : AudioClock) (e : Int) : Nat :=
  match c.edge with
  | some e0 =>
    let n := (((e - e0) * 48000 + 500000000) / 10 ^ 9).toNat
    if n = 0 then c.per else ((e - e0) * 2 ^ 32).toNat / n
  | none => c.per

/-- An edge of the audio plane's source, at a grid time, that marks a multiple of m samples: the plane takes its frequency
and phase, once what there was to slew away is gone (R122, R123). In holdover no edge is taken. -/
def State.audioEdge (s : State) (e : Int) (m : Nat) : State :=
  let c := s.time.aud
  let x := e * 2 ^ 32
  let k := c.nearest m x
  let per := c.perOf e
  let here := c.at' ((s.time.grid * 2 ^ 32 : Nat) : Int) - 1
  if s.fldOn APLANE_A_HOLDOVER ∨ c.edge = some e then s
  else if c.back ∨ ¬s.fldOn APLANE_A_LOCKED then
    (s.setFld APLANE_A_LOCKED 1).setAud
      { idx := here, base := c.time here, per := per, left := x - c.time k, edge := some e, back := false }
  else if c.slewed (here - c.idx) = c.left then s.setAud { idx := k, base := x, per := per, edge := some e }
  else s.setAud { c with edge := some e }

/-- After a step d the samples of an external source are numbered on the new timeline (R119). -/
def State.renumber (s : State) (d : Int) : State :=
  let m : Int := if s.fld APLANE_SRC = 3 then 192 else 1
  let n : Int := (d * 48000 + m * 500000000) / (m * 10 ^ 9) * m
  let c := s.time.aud
  s.setAud { c with idx := ((c.idx : Int) + n).toNat }

/-! ### Triggers of probe cores (R406) -/

/-- TRIG_DLY_NS in use on the plane that triggers core c: 0 where it is a frame period or more. -/
def State.trigDelay (s : State) (c : Nat) : Nat :=
  let dly := s.fld PROBE_TRIG_DLY_NS c
  let r := rateFrac (s.planeRate (s.fld PROBE_TRIG_PLANE c - 1))
  if dly * r.1 < r.2 * 10 ^ 9 then dly else 0

/-- The frame of its plane, plus 1, whose trigger instant for core c came last. -/
def State.trigFrame (s : State) (c : Nat) : Nat :=
  (s.planeClock (s.fld PROBE_TRIG_PLANE c - 1)).lastAt 0 (s.nowInt - s.trigDelay c)

/-- A frame of a plane as the core remembers its last trigger. -/
def State.trigMark (s : State) (c n : Nat) : Nat := 16 * n + s.fld PROBE_TRIG_PLANE c

end Sys2Proof.Machine
end

