-- ==== Sys2Proof/Machine/Pixels.lean ====
section
/-! DEFINITION. The video arithmetic on planes of samples: ladder (R149), hashes (R195, R196), scaler (R228, R229),
chroma decimation (R230), deinterlacing (R237), matrix (R233), clip (R234). Indices outside a plane are clamped. -/

namespace Sys2Proof

/-- A plane from its samples. -/
def Plane.tabulate (w h : Nat) (f : Nat → Nat → Nat) : Plane :=
  { w := w, h := h, data := (List.range (w * h)).map (fun i => f (i % w) (i / w)) }

/-- The nearest index of 0 .. n - 1. -/
def clampIdx (n : Nat) (i : Int) : Nat := (max 0 (min ((n : Int) - 1) i)).toNat

/-- The sample at column x, row y, clamped to the plane. -/
def Plane.px (p : Plane) (x y : Int) : Nat := p.data.getD (clampIdx p.h y * p.w + clampIdx p.w x) 0

/-- A plane of one value. -/
def Plane.flat (w h v : Nat) : Plane := { w := w, h := h, data := List.replicate (w * h) v }

/-- Component `i` of a picture. -/
def Pic.comp (p : Pic) (i : Nat) : Plane := p.comps.getD i { w := 0, h := 0, data := [] }

/-- Every component changed by its own function. -/
def Pic.mapComps (p : Pic) (f : Nat → Plane → Plane) : Pic := { comps := p.comps.mapIdx f }

end Sys2Proof

namespace Sys2Proof.Machine

/-- A result held within 0 .. 4,095. -/
def clamp12 (x : Int) : Nat := (max 0 (min 4095 x)).toNat

/-! ### Ladder (R149) -/

/-- Taps 1, 3, 3, 1 with rounding half up. -/
def ladderTap (a b c d : Nat) : Nat := (a + 3 * b + 3 * c + d + 4) / 8

/-- Horizontal pass onto `w` columns. -/
def ladderRow (w : Nat) (p : Plane) : Plane :=
  Plane.tabulate w p.h (fun i y =>
    ladderTap (p.px (2 * i - 1) y) (p.px (2 * i) y) (p.px (2 * i + 1) y) (p.px (2 * i + 2) y))

/-- Vertical pass. -/
def ladderCol (p : Plane) : Plane :=
  Plane.tabulate p.w (ceilDiv p.h 2) (fun x j =>
    ladderTap (p.px x (2 * j - 1)) (p.px x (2 * j)) (p.px x (2 * j + 1)) (p.px x (2 * j + 2)))

/-- The next level down. For L1 of an interlaced source only field 1, the first half of the stored rows, is used, with
the horizontal pass alone. -/
def ladderStep (store : Nat) (firstInterlaced : Bool) (p : Pic) : Pic :=
  p.mapComps (fun i c =>
    let lumaW := nextWidth store (p.comp 0).w
    let w := if store = 1 ∧ i ≠ 0 then lumaW / 2 else lumaW
    if firstInterlaced then ladderRow w { c with h := c.h / 2, data := c.data.take (c.w * (c.h / 2)) }
    else ladderCol (ladderRow w c))

/-- L0 .. L4 of a frame. -/
def ladderAll (store : Nat) (interlaced : Bool) (l0 : Pic) : List Pic :=
  let l1 := ladderStep store interlaced l0
  let l2 := ladderStep store false l1
  let l3 := ladderStep store false l2
  [l0, l1, l2, l3, ladderStep store false l3]

/-! ### Hashes (R195, R196) -/

def mod64 (x : Nat) : Nat := x % 2 ^ 64

def mix64 (z : Nat) : Nat :=
  let z := mod64 ((z ^^^ z >>> 30) * 0xBF58476D1CE4E5B9)
  let z := mod64 ((z ^^^ z >>> 27) * 0x94D049BB133111EB)
  z ^^^ z >>> 31

/-- Hash units per line (R195). -/
def unitsPerLine (store w : Nat) : Nat := if store = 1 then w / 2 else w

/-- The value v of unit u of stored row r (R195). -/
def unitValue (store : Nat) (p : Pic) (r u : Nat) : Nat :=
  let at' := fun (c x : Nat) => (p.comp c).px x r
  if store = 1 then at' 1 u + at' 0 (2 * u) * 2 ^ 10 + at' 2 u * 2 ^ 20 + at' 0 (2 * u + 1) * 2 ^ 30
  else if store = 2 then at' 2 u + at' 1 u * 2 ^ 10 + at' 0 u * 2 ^ 20
  else at' 2 u + at' 1 u * 2 ^ 12 + at' 0 u * 2 ^ 24

/-- S and N of R195 over the units that satisfy `sel row unit`. -/
def hashSums (store : Nat) (p : Pic) (sel : Nat → Nat → Bool) : Nat × Nat :=
  let y := p.comp 0
  let us := unitsPerLine store y.w
  (List.range y.h).foldl (fun acc r =>
    (List.range us).foldl (fun (acc : Nat × Nat) u =>
      if sel r u then (mod64 (acc.1 + mix64 (mod64 (unitValue store p r u + (r * us + u) * 2 ^ 40))), acc.2 + 1)
      else acc) acc) (0, 0)

/-- CONTENT_HASH from S and N. -/
def contentHash (s n : Nat) : Nat :=
  let h := mix64 (s ^^^ mod64 (n * 2 ^ 40))
  if h = 0 then 1 else h

/-- HB_HASH from S_hb and N_hb, over a region that is not empty. -/
def heartbeatHash (s n : Nat) : Nat :=
  let h := mix64 (s ^^^ mod64 (n * 2 ^ 40))
  let v := h / 2 ^ 32 ^^^ h % 2 ^ 32
  if v = 0 then 1 else v

/-- The field that carries the topmost active line (R274): field 2 for 720 x 486, else field 1. -/
def topIsField1 (raster : Nat) : Bool := raster != 1

/-- The frame line that a stored row of a frame holds; an interlaced frame is stored field 1 first (R134). -/
def frameLine (f : Nat) (h r : Nat) : Nat :=
  if fmtInterlaced f then
    let half := h / 2
    let (field, j) := if r < half then (0, r) else (1, r - half)
    if topIsField1 (fmtRaster f) then 2 * j + field else 2 * j + (1 - field)
  else r

/-- Whether unit u of stored row r touches the heartbeat region x, y, w, h (R196). -/
def inHeartbeat (store f h : Nat) (region : List Nat) (r u : Nat) : Bool :=
  let x := region.getD 0 0
  let y := region.getD 1 0
  let w := region.getD 2 0
  let rh := region.getD 3 0
  let line := frameLine f h r
  let (x0, x1) := if store = 1 then (2 * u, 2 * u + 1) else (u, u)
  decide (w ≠ 0 ∧ rh ≠ 0 ∧ y ≤ line ∧ line < y + rh ∧ x ≤ x1 ∧ x0 < x + w)

/-- Whether the region, clipped to the raster, holds a pixel. -/
def heartbeatSet (f : Nat) (region : List Nat) : Bool :=
  let (w, h) := rasterSize (fmtRaster f)
  decide (region.getD 2 0 ≠ 0 ∧ region.getD 3 0 ≠ 0 ∧ region.getD 0 0 < w ∧ region.getD 1 0 < h)

/-! ### Scaler (R228, R229) -/

/-- A tap function gives coefficient c (0: c_-1, 1: c_0, 2: c_1, 3: c_2) of a phase. -/
abbrev Taps := Nat → Nat → Int

/-- The basic coefficients of R229. -/
def basicTaps : Taps := fun t c => basicTap t c

/-- One output sample of a pass: `n` samples in, `m` samples out, sample `i`, from a source read by index. -/
def scaleSample (taps : Taps) (n m i : Nat) (x : Int → Nat) : Nat :=
  let p : Int := ((2 * i + 1) * n * 2 ^ 16 / (2 * m) : Nat) - 2 ^ 15
  let b := p / 2 ^ 16
  let t := ((p / 2 ^ 10) % 64).toNat
  let s : Int → Int := fun k => (x (clampIdx n (b + k)) : Nat)
  clamp12 ((taps t 0 * s (-1) + taps t 1 * s 0 + taps t 2 * s 1 + taps t 3 * s 2 + 128) / 256)

/-- A plane scaled to w x h, horizontal pass first. -/
def scalePlane (taps : Taps) (w h : Nat) (p : Plane) : Plane :=
  let row := Plane.tabulate w p.h (fun i y => scaleSample taps p.w w i (fun k => p.px k y))
  Plane.tabulate w h (fun x j => scaleSample taps row.h h j (fun k => row.px x k))

/-- The part of a plane from (x, y), w x h samples. -/
def cropPlane (x y w h : Nat) (p : Plane) : Plane :=
  Plane.tabulate w h (fun i j => p.px ((x + i : Nat) : Int) ((y + j : Nat) : Int))

/-! ### Chroma decimation (R230) -/

def decimatePlane (p : Plane) : Plane :=
  Plane.tabulate (ceilDiv p.w 2) p.h (fun i y =>
    clamp12 (((p.px (2 * i - 1) y + 2 * p.px (2 * i) y + p.px (2 * i + 1) y + 2) / 4 : Nat) : Int))

/-! ### Deinterlacing (R236, R237) -/

inductive Deint where
  | weave | field | motion
  deriving DecidableEq, Repr

/-- A stored interlaced frame (field 1 rows, then field 2 rows) with its rows in frame order. -/
def weaveRows (topF1 : Bool) (p : Plane) : Plane :=
  let half := p.h / 2
  Plane.tabulate p.w p.h (fun x y =>
    let second := if topF1 then y % 2 == 1 else y % 2 == 0
    p.px x ((if second then half + y / 2 else y / 2 : Nat) : Int))

/-- Odd rows filled under a mode; `moving x y` says that the luma position moves. Both planes are in frame order. -/
def fillOdd (mode : Deint) (moving : Nat → Nat → Bool) (p : Plane) : Plane :=
  Plane.tabulate p.w p.h (fun x y =>
    let avg := (p.px x ((y : Int) - 1) + p.px x ((y : Int) + 1) + 1) / 2
    if y % 2 = 0 then p.px x y
    else match mode with
      | .weave => p.px x y
      | .field => avg
      | .motion => if moving x y then avg else p.px x y)

/-- Motion at a luma position: the samples above and below against the frame before (R237). -/
def lumaMoving (th : Nat) (cur prev : Plane) (x y : Nat) : Bool :=
  let d := fun (r : Int) => ((cur.px x r : Int) - prev.px x r).natAbs
  decide (th < max (d ((y : Int) - 1)) (d ((y : Int) + 1)))

/-- A stored interlaced frame as a progressive one. `prev` is the frame with SEQ one lower, where MOTION has one. -/
def deinterlace (mode : Deint) (topF1 : Bool) (th : Nat) (cur : Pic) (prev : Option Pic) : Pic :=
  let y := weaveRows topF1 (cur.comp 0)
  let mode := match mode, prev with
    | .motion, none => Deint.field
    | m, _ => m
  let moving : Nat → Nat → Bool := match prev with
    | some q => lumaMoving th y (weaveRows topF1 (q.comp 0))
    | none => fun _ _ => false
  cur.mapComps (fun i c =>
    let half := decide (c.w < y.w)
    fillOdd mode (fun x r => moving (if i ≠ 0 ∧ half then 2 * x else x) r) (weaveRows topF1 c))

/-- A whole frame as stored rows: row 2j + f goes to field f + 1 (R238). -/
def splitFields (p : Plane) : Plane :=
  let half := p.h / 2
  Plane.tabulate p.w p.h (fun x r => p.px x ((if r < half then 2 * r else 2 * (r - half) + 1 : Nat) : Int))

/-! ### Matrix (R232, R233) -/

/-- Kr and Kb of a COLOR code. -/
def krKb : Nat → Rat × Rat
  | 4 => (299 / 1000, 114 / 1000)
  | 0 => (2126 / 10000, 722 / 10000)
  | _ => (2627 / 10000, 593 / 10000)

/-- A colour space of 12-bit signals: COLOR code, RGB or YCbCr, full or narrow range. -/
structure Space where
  color : Nat
  rgb : Bool
  full : Bool
  deriving DecidableEq, Repr

abbrev Mat := List (List Rat)

def matGet (m : Mat) (i j : Nat) : Rat := (m.getD i []).getD j 0

def matMul (a b : Mat) : Mat :=
  (List.range 3).map (fun i => (List.range 3).map (fun j =>
    matGet a i 0 * matGet b 0 j + matGet a i 1 * matGet b 1 j + matGet a i 2 * matGet b 2 j))

def matId : Mat := [[1, 0, 0], [0, 1, 0], [0, 0, 1]]

/-- Normalised YCbCr to RGB. -/
def toRgb (kr kb : Rat) : Mat :=
  let kg := 1 - kr - kb
  [[1, 0, 2 * (1 - kr)],
   [1, -(2 * kb * (1 - kb) / kg), -(2 * kr * (1 - kr) / kg)],
   [1, 2 * (1 - kb), 0]]

/-- Normalised RGB to YCbCr, the inverse. -/
def fromRgb (kr kb : Rat) : Mat :=
  let kg := 1 - kr - kb
  [[kr, kg, kb],
   [-(kr / (2 * (1 - kb))), -(kg / (2 * (1 - kb))), (1 - kb) / (2 * (1 - kb))],
   [(1 - kr) / (2 * (1 - kr)), -(kg / (2 * (1 - kr))), -(kb / (2 * (1 - kr)))]]

/-- Offset and scale of component i of a space in 12-bit codes. -/
def compRange (s : Space) (i : Nat) : Int × Nat :=
  if s.rgb then (if s.full then (0, 4095) else (256, 3504))
  else if i = 0 then (256, 3504) else (2048, 3584)

/-- Coefficients with 12 fractional bits and the offsets in_j and out_i. -/
structure Matrix where
  m : List (List Int)
  inp : List Int
  out : List Int
  deriving DecidableEq, Repr

/-- Both colours are converted wholly (R232): BT.601 and BT.709 with each other, or the same BT.2020 code. -/
def wholeConversion (a b : Nat) : Bool :=
  let std := fun c => c == 0 || c == 4
  (std a && std b) || a == b

/-- The automatic matrix and CONV_PARTIAL (R232, R233). -/
def autoMatrix (src dst : Space) : Matrix × Bool :=
  let whole := wholeConversion src.color dst.color
  let (kr, kb) := krKb src.color
  let (kr', kb') := if whole then krKb dst.color else (kr, kb)
  let a := if src.rgb then matId else toRgb kr kb
  let b := if dst.rgb then matId else fromRgb kr' kb'
  let c := matMul b a
  let coef := fun i j =>
    ((compRange dst i).2 : Rat) * matGet c i j / ((compRange src j).2 : Rat)
  ({ m := (List.range 3).map (fun i => (List.range 3).map (fun j => (coef i j * 4096 + 1 / 2).floor)),
     inp := (List.range 3).map (fun j => (compRange src j).1),
     out := (List.range 3).map (fun i => (compRange dst i).1) }, !whole)

/-- One pixel through the matrix (R233). -/
def Matrix.pixel (t : Matrix) (x : Nat → Nat) (i : Nat) : Nat :=
  let row := t.m.getD i []
  let term := fun j => row.getD j 0 * ((x j : Int) - t.inp.getD j 0)
  clamp12 ((term 0 + term 1 + term 2 + 2048) / 4096 + t.out.getD i 0)

/-- A picture with all components at full width through the matrix. -/
def Matrix.apply (t : Matrix) (p : Pic) : Pic :=
  { comps := (List.range 3).map (fun i =>
      Plane.tabulate (p.comp 0).w (p.comp 0).h (fun x y => t.pixel (fun j => (p.comp j).px x y) i)) }

/-! ### Depth and clip (R227 stages 1, 10, 11; R234) -/

/-- Stage 1: each component to 12 bits. Store format 3 holds 12 bits, the others 10. -/
def unpack12 (store : Nat) (p : Pic) : Pic :=
  if store = 3 then p else p.mapComps (fun _ c => { c with data := c.data.map (· * 4) })

/-- Stage 10. -/
def quantise (bits x : Nat) : Nat := if bits = 3 then x else if bits = 2 then (x + 2) / 4 else (x + 8) / 16

/-- Limits of R234 in 10-bit codes, for luma or RGB and for chroma. -/
def clipLimits (narrow sdi full chroma : Bool) : Nat × Nat :=
  if narrow then (if full then (0, 1023) else if chroma then (64, 960) else (64, 940))
  else if sdi then (4, 1019) else (0, 1023)

/-- Stage 11: a limit at the output's depth. For 12 bits it is multiplied by 4, for 8 bits divided by 4. -/
def limitAt (bits l : Nat) : Nat := if bits = 3 then 4 * l else if bits = 2 then l else l / 4

def clipSample (bits : Nat) (lim : Nat × Nat) (x : Nat) : Nat :=
  max (limitAt bits lim.1) (min (limitAt bits lim.2) x)

/-! ### Black, patterns and the slate (R160, R209 .. R211, R258) -/

/-- Black in 12-bit codes of component i. -/
def black12 (s : Space) (i : Nat) : Nat := (compRange s i).1.toNat

/-- Black of a store format in its own codes (R160). -/
def blackStored (store : Nat) (rgb : Bool) (i : Nat) : Nat :=
  (if rgb ∨ i = 0 then 64 else 512) * (if store = 3 then 4 else 1)

/-- 75 % bars (R258). -/
def barColour : Nat → Nat × Nat × Nat
  | 0 => (721, 512, 512)
  | 1 => (674, 176, 543)
  | 2 => (581, 589, 176)
  | 3 => (534, 253, 207)
  | 4 => (251, 771, 817)
  | 5 => (204, 435, 848)
  | 6 => (111, 848, 481)
  | _ => (64, 512, 512)

/-- Pixel (x, y) of a pattern of size w in plane frame k, in 10-bit codes (R258). -/
def patternPixel (n w k x y : Nat) : Nat × Nat × Nat :=
  let white := (940, 512, 512)
  let blk := (64, 512, 512)
  match n with
  | 2 => barColour (8 * x / w)
  | 3 => (64 + 876 * x / max (w - 1) 1, 512, 512)
  | 4 => if x % 64 = 0 ∨ y % 64 = 0 then white else blk
  | 5 => if (((x : Int) - 8 * k) % w) < 16 then white else blk
  | _ => blk

def triple (t : Nat × Nat × Nat) : Nat → Nat
  | 0 => t.1
  | 1 => t.2.1
  | _ => t.2.2

/-- Dimming of a 10-bit component by n steps (R211). -/
def dim10 (n : Nat) (chroma : Bool) (c : Nat) : Nat :=
  if n = 0 then c
  else if chroma then (512 + ((c : Int) - 512 + 2 ^ (n - 1)) / 2 ^ n).toNat
  else 64 + (max c 64 - 64 + 2 ^ (n - 1)) / 2 ^ n

/-- What the slate draws at a pixel (R209): nothing of its own (the picture shows), colour A, or colour B. -/
inductive SlatePixel where
  | clear | colA | colB
  deriving DecidableEq, Repr

/-- The age text (R210) as character codes. -/
def ageText (age : Option Nat) : List Nat :=
  match age with
  | none => [45, 45, 45, 115]
  | some a => ((toString (min a 999999)).toList.map (fun c => c.toNat)) ++ [115]

/-- The slate over w x h at (x, y), with its age text where AGE_TEXT = 1 (R209). -/
def slateAt (w h : Nat) (text : Option (List Nat)) (x y : Nat) : SlatePixel :=
  let m := min w h
  let b := max 2 (m / 40)
  let border := decide (x < b ∨ y < b ∨ w ≤ x + b ∨ h ≤ y + b)
  if border then (if (x + y) / b % 2 = 0 then .colA else .colB)
  else if m < 9 * b then .clear
  else if 2 * b ≤ x ∧ x < 5 * b ∧ 2 * b ≤ y ∧ y < 5 * b then .colA
  else
    match text with
    | none => .clear
    | some cs =>
      let sf := max 1 (b / 4)
      let bw := 8 * cs.length * sf + 2 * sf
      let bh := 14 * sf
      let x0 := 2 * b
      if h < 2 * b + bh then .clear
      else
        let y0 := h - 2 * b - bh
        if ¬(x0 + bw ≤ w - b ∧ b ≤ y0 ∧ y0 + bh ≤ h - b) then .clear
        else if x0 ≤ x ∧ x < x0 + bw ∧ y0 ≤ y ∧ y < y0 + bh then
          let tx := x - x0
          let ty := y - y0
          if tx < sf ∨ ty < sf ∨ bw ≤ tx + sf ∨ bh ≤ ty + sf then .colB
          else
            let cx := (tx - sf) / sf
            let cy := (ty - sf) / sf
            if Config.fontPixel (cs.getD (cx / 8) 0) (cx % 8) cy then .colA else .colB
        else .clear

/-- Component i of a slate colour word (Y [29:20], Cb [19:10], Cr [9:0]), in 10-bit codes. -/
def slateComp (word i : Nat) : Nat :=
  if i = 0 then bitField word 20 10 else if i = 1 then bitField word 10 10 else bitField word 0 10

/-! ### Blend (R263) -/

/-- One component of one layer's pixel blended onto the accumulator. -/
def blendStep (acc c off : Int) (ae : Nat) : Int :=
  ((c - off) * ae + 2048) / 4096 + (acc * (4096 - ae) + 2048) / 4096

/-- Alpha of a layer's pixel: 12 fractional bits (R263). -/
def effectiveAlpha (a layerAlpha : Nat) : Nat := (a * layerAlpha + 2048) / 4096

/-- Alpha of a graphic pixel (R259). -/
def graphicAlpha (a : Nat) : Nat := (a * 4096 + 127) / 255

/-- An 8-bit graphic component in 12 bits (R259). -/
def graphicComp (x : Nat) : Nat := x * 16 ||| x / 16

/-- Quantisation and clamp of a compositor's output sample (R264). -/
def compositorSample (variant x : Nat) : Nat :=
  if variant = 3 then max 16 (min 4079 x) else max 4 (min 1019 ((x + 2) / 4))

end Sys2Proof.Machine
end

