-- ==== Sys2Proof/Machine/Rings.lean ====
section
/-! DEFINITION. Descriptor rings, completion records and command engines: the operations that the commands of
03_command_rings.md share. -/

namespace Sys2Proof.Machine
open Reg

/-! ### Descriptor header (R68) -/

/-- Word i of a descriptor as a number. -/
def dword (d : Descriptor) (i : Nat) : Nat := (d.toList.getD i 0).toNat

def Request.word (r : Request) (i : Nat) : Nat := dword r.words i
def Request.opcode (r : Request) : Nat := bitField (r.word 0) 0 8
def Request.irq (r : Request) : Bool := bitAt (r.word 0) 8
def Request.bank (r : Request) : Bool := bitAt (r.word 0) 9
def Request.checkOnly (r : Request) : Bool := bitAt (r.word 0) 10
def Request.tag (r : Request) : Nat := bitField (r.word 0) 16 16
def Request.group (r : Request) : Nat := bitField (r.word 1) 0 16
def Request.hostAddr (r : Request) : Nat := r.word 2 + 2 ^ 32 * r.word 3
def Request.hostLen (r : Request) : Nat := r.word 4

/-- Opcodes whose host buffer is read before they request an engine (R66, R75). -/
def readsBuffer (op : Nat) : Bool :=
  [0x11, 0x12, 0x13, 0x14, 0x30, 0x33, 0x40, 0x50].contains op

/-- Opcodes that may be members of a commit group, COMMIT among them (R75). -/
def allowsGroup (op : Nat) : Bool := [0x10, 0x11, 0x12, 0x13, 0x14, 0x15, 0x16, 0x20, 0x22, 0x33, 0x40, 0x41, 0x51].contains op

/-- A descriptor needs its host buffer read (R66). -/
def Request.needsBuffer (r : Request) : Bool := readsBuffer r.opcode && r.hostLen != 0

/-! ### Ring pointers (R57, R64) -/

def State.ringSize (s : State) (p k : Nat) : Nat := 2 ^ s.fld RING_SIZE_LOG2 p k

/-- (a - b) mod size. -/
def ringDist (size a b : Nat) : Nat := (a + size - b % size) % size

/-- Descriptors posted and not yet completed. -/
def State.posted (s : State) (p k : Nat) : Nat := ringDist (s.ringSize p k) (s.ring p k).tail (s.fld RING_HEAD p k)

/-- Free completion entries that no fetched descriptor counts against (R64). -/
def State.cqFree (s : State) (p k : Nat) : Nat :=
  let size := s.ringSize p k
  let r := s.ring p k
  size - 1 - ringDist size (s.fld RING_CQ_TAIL p k) r.cqHead - r.fetched.length

/-- Descriptors the walker may fetch in one read (R64). -/
def State.fetchable (s : State) (p k : Nat) : Nat :=
  let r := s.ring p k
  if s.live p ∧ s.fldOn RING_ENABLE p k ∧ ¬s.safe ∧ s.inService ∧ r.stopped = false ∧ r.draining = false then
    min 8 (min (s.posted p k - r.fetched.length) (s.cqFree p k))
  else 0

/-- CQ_FULL of an event ring (R58): no further record fits. -/
def State.evtFull (s : State) (p e : Nat) : Bool :=
  s.fldOn ERING_ENABLE p e && (s.fld ERING_CQ_TAIL p e + 1) % 2 ^ s.fld ERING_SIZE_LOG2 p e == (s.evtRing p e).head

/-- CQ_FULL (R64): descriptors are pending and the completion ring has no free entry for them. -/
def State.cqFull (s : State) (p k : Nat) : Bool :=
  s.fldOn RING_ENABLE p k && decide ((s.ring p k).fetched.length < s.posted p k) && s.cqFree p k == 0

/-- A host access of a ring failed: its bit is set, and the access that sets it raises HOST_FAULT (R66). -/
def State.hostFault (s : State) (p : Nat) (ring : RingId) (sub addr : Nat) : State :=
  let (f, i) := match ring with
    | .cmd k => (RING_HOST_FAULT, k.val)
    | .evt e => (ERING_HOST_FAULT, e.val)
  if s.fldOn f p i then s
  else (s.setFld f 1 p i).raise Ev.HOST_FAULT { index := i, sub := sub, data := addr, dest := [p] }

/-! ### Completion records (R67, R87, R92) -/

def Completion.words (c : Completion) (phase : Bool) : List Nat :=
  [c.tag + 2 ^ 16 * c.opcode + 2 ^ 24 * c.status, c.index + 2 ^ 16 * c.group,
   c.value0 % 2 ^ 32, c.value0 / 2 ^ 32 % 2 ^ 32, c.value1 % 2 ^ 32, c.value1 / 2 ^ 32 % 2 ^ 32,
   c.detail % 2 ^ 32, 2 ^ 31 * bit phase]

/-- The oldest fetched descriptor has gone: the ring moves to the next one. -/
def RingRun.pop (r : RingRun) : RingRun :=
  { r with fetched := r.fetched.tail, place := .atRing, fence := none, thumb := none, heldRecord := none, heldData := [],
           draining := false, passed := r.passed + 1 }

/-- Data written to host memory for a descriptor of ring k; it waits with the record while the partition is LAPSED
(R50). DESIGN CHOICE, log 72: what is written once the partition is LIVE again is that data, then the record. -/
def State.dataToHost (s : State) (p k addr : Nat) (bytes : List Byte) : State :=
  if s.pstate p = partLapsed then
    let g := s.ring p k
    s.setRing p k { g with heldData := g.heldData ++ [(addr, bytes)] }
  else s.emit (.hostData p addr bytes)

/-- A completion record is written and HEAD advances by one (R65). DESIGN CHOICE, log 73: a descriptor that still drains
when its ring has been enabled again (R59) writes its record at the CQ_TAIL and with the phase of the new pass, and does
not advance HEAD. -/
def State.writeCompletion (s : State) (p k : Nat) (c : Completion) : State :=
  let size := s.ringSize p k
  let tail := s.fld RING_CQ_TAIL p k
  let r := s.ring p k
  let next := (tail + 1) % size
  let base := s.fld RING_CQ_BASE_LO p k * 2 ^ 12 + s.fld RING_CQ_BASE_HI p k * 2 ^ 32
  let waiting := r.unsignalled + 1
  let now := signalsNow c.irq (s.fldOn RING_INT_EN p k) (s.fld RING_COAL_US p k) (s.fld RING_COAL_CNT p k) waiting
  let r' := { r.pop with
    phase := if next = 0 then !r.phase else r.phase
    headWas := s.sampled (s.fld RING_HEAD p k) r.headWas r.headMoved, headMoved := s.host.cycle
    cqTailWas := s.sampled tail r.cqTailWas r.cqTailMoved, cqTailMoved := s.host.cycle
    unsignalled := if now then 0 else waiting
    oldest := if r.unsignalled = 0 then s.time.grid else r.oldest }
  let s := (s.emit (.completion p k (base + 32 * tail) (c.words r.phase))).setFld RING_CQ_TAIL next p k
  let s := if r.draining ∧ s.fldOn RING_ENABLE p k then s
    else s.setFld RING_HEAD ((s.fld RING_HEAD p k + 1) % size) p k
  (s.setRing p k r').when now (fun s => s.sendVector p (s.fld RING_VECTOR p k))

/-- The descriptor at the head of a ring completes, and its engine's accesses of the interconnect (master 8) are made; the
record is held while the partition is LAPSED (R50). -/
def State.complete (s : State) (r : Request) (status v0 v1 detail : Nat) : State :=
  let s := s.crosses 8 (engineTargets r.opcode)
  let c : Completion :=
    { tag := r.tag, opcode := r.opcode, status := status, index := r.index, group := r.group
      value0 := v0, value1 := v1, detail := detail, irq := r.irq }
  if s.pstate r.part = partLapsed then
    let g := s.ring r.part r.ring
    s.setRing r.part r.ring { g with place := .recordHeld, heldRecord := some c, fence := none, thumb := none }
  else s.writeCompletion r.part r.ring c

/-- The data and the records held for partition p are written: it is LIVE again (R50). -/
def State.writeHeld (s : State) (p : Nat) : State :=
  s.upTo 64 (fun s k =>
    let g := s.ring p k
    let s := s.each g.heldData (fun s x => s.emit (.hostData p x.1 x.2))
    match g.heldRecord with
    | some c => s.writeCompletion p k c
    | none => s.setRing p k { g with heldData := [] })

/-! ### Statuses (R88) -/

namespace St
def OK : Nat := 0x00
def BAD_OPCODE : Nat := 0x01
def BAD_FIELD : Nat := 0x02
def INVALID_INDEX : Nat := 0x03
def BAD_LENGTH : Nat := 0x04
def NOT_OWNER : Nat := 0x05
def NOT_READABLE : Nat := 0x06
def NOT_SUPERVISOR : Nat := 0x07
def OVER_BUDGET : Nat := 0x08
def NO_MEMORY : Nat := 0x09
def GROUP_FULL : Nat := 0x0A
def GROUP_CLOSED : Nat := 0x0B
def GROUP_UNKNOWN : Nat := 0x0C
def GROUPS_EXHAUSTED : Nat := 0x0D
def GROUP_FAILED : Nat := 0x0E
def LATE : Nat := 0x0F
def BANK_BUSY : Nat := 0x10
def ABORTED : Nat := 0x11
def ENGINE_RESET : Nat := 0x12
def HOST_FAULT : Nat := 0x13
def TIMEOUT : Nat := 0x14
def IN_USE : Nat := 0x15
def STATE : Nat := 0x16
def NOTHING_PENDING : Nat := 0x17
def STALE : Nat := 0x18
def NOT_PAIRED : Nat := 0x19
def PEER_NOT_READY : Nat := 0x1A
def MARK_LOST : Nat := 0x1B
end St

/-! ### Engines (R93, R94, R95) -/

def State.frozen (s : State) (e : Nat) : Bool := s.fldOn CMDENG_CMD_FREEZE e

/-- The place of the oldest descriptor of a ring changes. -/
def State.setPlace (s : State) (p k : Nat) (x : ReqPlace) : State :=
  s.setRing p k { s.ring p k with place := x }

/-- Engine e is granted a request (R96). -/
def State.grant (s : State) (e : Nat) (r : Request) : State :=
  (s.setEngine e { s.engine e with cur := some r, grantedAt := s.time.grid, stuck := false }).setPlace r.part r.ring .engine

/-- Where a request goes under the first two points of R93. -/
def State.engineFor (s : State) : Option (Nat × Bool) :=
  match (List.range 16).find? (fun e => !s.frozen e && (s.engine e).cur.isNone) with
  | some e => some (e, true)
  | none =>
    let open' := (List.range 16).filter (fun e => !s.frozen e && decide ((s.engine e).layby.length < 64))
    match open' with
    | [] => none
    | e :: es => some (es.foldl (fun b x =>
        if (s.engine x).layby.length < (s.engine b).layby.length then x else b) e, false)

def State.putAt (s : State) (at' : Nat × Bool) (r : Request) : State :=
  if at'.2 then s.grant at'.1 r
  else
    let g := s.engine at'.1
    (s.setEngine at'.1 { g with layby := g.layby ++ [r] }).setPlace r.part r.ring .layby

/-- Held requests are placed, the oldest first, while there is room (R93). -/
def State.placeHeld (s : State) : State :=
  s.host.held.foldl (fun s r =>
    match s.engineFor with
    | none => s
    | some a =>
      let h := s.host
      ({ s with host := { h with held := h.held.drop 1 } }).putAt a r) s

/-- A request is placed (R93): behind the held ones. -/
def State.place (s : State) (r : Request) : State :=
  let s := s.placeHeld
  match s.host.held, s.engineFor with
  | [], some a => s.putAt a r
  | _, _ =>
    let h := s.host
    ({ s with host := { h with held := h.held ++ [r] } }).setPlace r.part r.ring .held

/-- The request at the front of a Layby that a draw grants (R94), given the value of the LFSR. -/
def drawFrom (tickets : Nat → Nat) (l : Nat) (layby : List Request) : Option Request :=
  let parts := (List.range 8).filter (fun p => layby.any (fun r => r.part == p))
  let t := (parts.map tickets).sum
  if t = 0 then layby.head?
  else
    let r := l * t / 2 ^ 32
    let winner := (parts.foldl (fun (acc : Nat × Option Nat) p =>
      match acc.2 with
      | some _ => acc
      | none => if r < acc.1 + tickets p then (acc.1, some p) else (acc.1 + tickets p, none)) (0, none)).2
    match winner with
    | some p => layby.find? (fun r => r.part == p)
    | none => layby.head?

/-- The engine whose Layby is longest among those that satisfy a condition, the lowest number winning a tie. -/
def State.longestLayby (s : State) (ok : Nat → Bool) : Option Nat :=
  match (List.range 16).filter ok with
  | [] => none
  | e :: es => some (es.foldl (fun b x =>
      if (s.engine b).layby.length < (s.engine x).layby.length then x else b) e)

/-- The Layby from which engine e draws (R94). -/
def State.drawPlace (s : State) (e : Nat) : Option Nat :=
  let ticketed := fun x => (s.engine x).layby.any (fun r => s.fldOn PCB_TICKETS r.part)
  let filled := fun x => !(s.engine x).layby.isEmpty
  let ok := if (List.range 16).any ticketed then ticketed else filled
  if ok e then some e else s.longestLayby ok

def State.draw (s : State) (e : Nat) : State :=
  match s.drawPlace e with
  | none => s
  | some x =>
    let g := s.engine x
    match drawFrom (fun p => s.fld PCB_TICKETS p) (s.engine e).lfsr.toNat g.layby with
    | none => s
    | some r =>
      let s := s.setEngine x { g with layby := g.layby.filter (fun q => decide (¬(q.part = r.part ∧ q.ring = r.ring))) }
      s.grant e r

/-- One step of the Galois register of an engine (R95). -/
def lfsrStep (x : Word) : Word := if x.getLsbD 0 then (x >>> 1) ^^^ 0x80200003#32 else x >>> 1

/-- The register stepped n times. -/
def lfsrSteps : Nat → Word → Word
  | 0, x => x
  | n + 1, x => lfsrSteps n (lfsrStep x)

/-- Engine e is idle; held requests are placed (R93, R94). -/
def State.freeEngine (s : State) (e : Nat) : State :=
  (s.setEngine e { s.engine e with cur := none, stuck := false }).placeHeld

/-- The engine that processes a request lets it go and the request completes. -/
def State.finish (s : State) (e : Nat) (r : Request) (status v0 v1 detail : Nat) : State :=
  (s.complete r status v0 v1 detail).freeEngine e

/-- The descriptor that engine e holds, when its opcode is `op` (R96). -/
def State.holding (s : State) (e op : Nat) : Option Request :=
  match (s.engine e).cur with
  | some r => if r.opcode = op then some r else none
  | none => none

/-! ### Enabling and disabling (R59) -/

/-- The oldest descriptor of the ring is granted or parked. -/
def RingRun.inProcess (r : RingRun) : Bool :=
  match r.place with
  | .engine => true
  | .parked => true
  | .recordHeld => true
  | _ => false

/-- Requests of a ring leave the Laybys and the walker. -/
def State.unplace (s : State) (p k : Nat) : State :=
  let keep := fun (q : Request) => decide (¬(q.part = p ∧ q.ring = k))
  let h := s.host
  let s := { s with host := { h with held := h.held.filter keep } }
  s.upTo 16 (fun s e => s.setEngine e { s.engine e with layby := (s.engine e).layby.filter keep })

/-- A command ring stops being enabled (R59): descriptors that are not granted are discarded. -/
def State.disableRing (s : State) (p k : Nat) : State :=
  if s.fldOn RING_ENABLE p k then
    let r := s.ring p k
    let s' := (s.unplace p k).setFld RING_ENABLE 0 p k
    let s' :=
      if r.inProcess then
        s'.setRing p k { r with fetched := r.fetched.take 1, draining := true, stopped := false,
                                passed := r.passed + (s.posted p k - 1) }
      else s'.setRing p k { r with fetched := [], place := .atRing, stopped := false, passed := r.passed + s.posted p k }
    if s.safe then s' else s'.placeHeld
  else s

/-- A command ring becomes enabled (R59). -/
def State.enableRing (s : State) (p k : Nat) : State :=
  if s.fldOn RING_ENABLE p k ∨ s.fld RING_SIZE_LOG2 p k = 0 then s
  else
    let s := ((s.setFld RING_ENABLE 1 p k).setFld RING_HEAD 0 p k).setFld RING_CQ_TAIL 0 p k
    s.setRing p k { s.ring p k with
      tail := 0, cqHead := 0, phase := true, unsignalled := 0, headMoved := 0, cqTailMoved := 0 }

def State.disableEvtRing (s : State) (p e : Nat) : State := s.setFld ERING_ENABLE 0 p e

def State.enableEvtRing (s : State) (p e : Nat) : State :=
  if s.fldOn ERING_ENABLE p e ∨ s.fld ERING_SIZE_LOG2 p e = 0 then s
  else ((s.setFld ERING_ENABLE 1 p e).setFld ERING_CQ_TAIL 0 p e).setEvtRing p e { }

end Sys2Proof.Machine
end

