-- ==== Sys2Proof/Machine/Thumb.lean ====
section
/-! DEFINITION. Pictures as bytes in a store format, and the THUMB_CAPTURE descriptors that wait for slots
(R85, R131, R132). -/

namespace Sys2Proof.Machine

/-- Level k of a slot; levels above L0 that were not kept are built from it (R135). -/
def Slot.level (x : Slot) (k : Nat) : Pic :=
  match x.levels with
  | [l0] => (ladderAll x.store (fmtInterlaced x.fmt) l0).getD k { comps := [] }
  | ls => ls.getD k { comps := [] }

/-- Fields of `w` bits as a number, the first least significant. -/
def packFields (w : Nat) : List Nat → Nat
  | [] => 0
  | v :: vs => v % 2 ^ w + 2 ^ w * packFields w vs

/-- Line y of a picture in a store format, to its pitch of 64 bytes. -/
def packLine (store : Nat) (p : Pic) (y : Nat) : List Byte :=
  let c0 := p.comp 0
  let w := c0.w
  let at' (i x : Nat) : Nat := (p.comp i).px (x : Int) (y : Int)
  let n :=
    match store with
    | 1 => packFields 10 ((List.range (ceilDiv w 2)).flatMap (fun j => [at' 1 j, at' 0 (2 * j), at' 2 j, at' 0 (2 * j + 1)]))
    | 2 => packFields 32 ((List.range w).map (fun x => at' 2 x + 2 ^ 10 * at' 1 x + 2 ^ 20 * at' 0 x))
    | _ => packFields 36 ((List.range w).map (fun x => at' 2 x + 2 ^ 12 * at' 1 x + 2 ^ 24 * at' 0 x))
  leBytes (ceilDiv (w * storeBpp store) 512 * 64) n

/-- The bytes of a picture in a store format (R132). -/
def packPic (store : Nat) (p : Pic) : List Byte :=
  (List.range (p.comp 0).h).flatMap (packLine store p)

/-- Command rings with a THUMB_CAPTURE that waits for slots of source n. -/
def State.thumbsOf (s : State) (n : Nat) : List (Nat × ThumbWait) :=
  s.host.rings.filterMap (fun e =>
    match e.2.thumb with
    | some w => if w.src = n ∧ w.left ≠ 0 ∧ e.2.place = .parked then some (e.1, w) else none
    | none => none)

/-- A slot of source n has closed COMPLETE: every THUMB_CAPTURE that waits for it copies its level, if the slot's ring
has it (R85). -/
def State.copyThumbs (s : State) (n : Nat) (sl : Slot) (store ladder : Nat) : State :=
  s.each (s.thumbsOf n) (fun s e =>
    let w := e.2
    if bitAt ladder w.level then
      let bytes := packPic store (sl.level w.level)
      let p := e.1 / 64
      let k := e.1 % 64
      let w' := { w with
        left := w.left - 1, addr := w.addr + bytes.length, bytes := w.bytes + bytes.length
        firstSeq := if w.bytes = 0 then sl.seq else w.firstSeq, lastSeq := sl.seq }
      (s.setRing p k { s.ring p k with thumb := some w' }).dataToHost p k w.addr bytes
    else s)

end Sys2Proof.Machine
end

