-- ==== Sys2Proof/Machine/Store.lean ====
section
/-! DEFINITION. The frame store: the page pool, slot rings, opening, writing and closing slots
(R127 .. R150, R158, R161, R163). -/

namespace Sys2Proof.Machine
open Reg

/-! ### Sources -/

def State.src (s : State) (n : Nat) : SrcRun := Tab.get {} s.store.srcs n

def State.setSrc (s : State) (n : Nat) (x : SrcRun) : State :=
  { s with store := { s.store with srcs := Tab.set {} s.store.srcs n x } }

def State.cfg (s : State) : Cfg := s.take.cfg

def State.setCfg (s : State) (g : Cfg) : State := { s with take := { s.take with cfg := g } }

/-- The rate of a compositor's plane in a configuration; 0 without a plane. -/
def State.cmpRate (s : State) (m : CmpCfg) : Nat := if m.plane = 0 then 0 else s.planeRate (m.plane - 1)

/-- SRC_FMT [15:0] of a source under a configuration; a compositor output mirrors its compositor (R248). -/
def State.srcFmtIn (s : State) (g : Cfg) (n : Nat) : Nat :=
  if n < 1024 then
    fmtOf (s.fld SRC_RASTER n) (s.fld SRC_RATE n) (s.fld SRC_SCAN n) (s.fld SRC_SAMPLING n) (s.fld SRC_BITS n)
      (s.fld SRC_RGB n) (s.fld SRC_COLOR n)
  else
    let m := g.cmp (n - 1024)
    if m.outFmt = 0 then 0 else outFmtAsFmt m.outFmt (s.cmpRate m)

def State.srcFmt (s : State) (n : Nat) : Nat := s.srcFmtIn s.cfg n

/-- KIND of a source (R167, R248). -/
def State.srcKind (s : State) (n : Nat) : Nat := if n < 1024 then s.fld SRC_KIND n else 5

def State.srcAuto (s : State) (n : Nat) : Bool := if n < 1024 then s.fldOn SRC_AUTO_RING n else true

/-- The ingest charge of a source in sixteenths under a configuration (R19, R247). -/
def State.srcChargeIn (s : State) (g : Cfg) (n : Nat) : Nat :=
  if n < 1024 then
    if (g.ring n).depth = 0 then 0
    else fmtCost (s.srcFmtIn g n) * (if s.fldOn SRC_PROT n then 2 else 1)
  else if (g.cmp (n - 1024)).enabled then fmtCost (s.srcFmtIn g n) else 0

/-- The store format that frames of a format are held in in a ring: the ring's, unless the format needs another than
SRC_FMT does (R131, R140, R141). -/
def State.storeIn (s : State) (n fmt : Nat) (sh : RingShape) : Nat :=
  if storeFmtOf fmt = storeFmtOf (s.srcFmt n) then sh.store else storeFmtOf fmt

/-- The format in force: what frames are written in (R141). -/
def State.fmtInForce (s : State) (n : Nat) : Nat :=
  if n < 1024 ∧ (s.src n).accepted then (s.src n).fmt else s.srcFmt n

/-- STATE of a source: 0 NONE, 1 ABSENT, 2 PRESENT, 3 WRONG_FORMAT (R167). -/
def State.srcState (s : State) (n : Nat) : Nat :=
  if (s.cfg.ring n).depth = 0 ∨ s.srcKind n = 0 then 0 else s.fld SRC_STATE n

/-! ### The page pool (R128 .. R130, R161, R163) -/

/-- Quarter-pages that a number of pages takes from each stack under a STACK_MASK. -/
def qpOf (mask pages : Nat) : List Nat :=
  (List.range 4).map (fun i =>
    if mask = 0 then pages
    else if bitAt mask i then (if bitCount 4 mask = 1 then 4 * pages else 2 * pages) else 0)

/-- Whether the pool can supply a number of pages. -/
def State.poolHas (s : State) (mask pages : Nat) : Bool :=
  (List.range 4).all (fun i => decide ((qpOf mask pages).getD i 0 ≤ s.fld MC_QP_FREE i))

/-- Free pages for automatic placement (R129). -/
def State.freePages (s : State) : Nat :=
  min (min (s.fld MC_QP_FREE 0) (s.fld MC_QP_FREE 1)) (min (s.fld MC_QP_FREE 2) (s.fld MC_QP_FREE 3))

/-- The first quarter-page of the pool in a stack: those before it hold the device structures (R129). -/
def poolFrom : Nat := 256

/-- The n lowest quarter-pages from q on that are not busy, of `fuel` looked at. -/
def firstFree (busy : List Nat) : (fuel n q : Nat) → List Nat
  | 0, _, _ => []
  | fuel + 1, n, q =>
    if n = 0 then []
    else if busy.contains q then firstFree busy fuel n (q + 1)
    else q :: firstFree busy fuel (n - 1) (q + 1)

/-- Quarter-pages of a stack that a claim gets. DESIGN CHOICE, log 81: the lowest free ones. -/
def State.freeQps (s : State) (stack n : Nat) : List Nat :=
  let on (l : List (Nat × Nat)) : List Nat := (l.filter (fun x => x.1 == stack)).map (·.2)
  firstFree (on s.store.used ++ on s.store.retiredQp) 48896 n poolFrom

/-- The stacks of a STACK_MASK: all four for automatic placement. -/
def maskStacks (mask : Nat) : List Nat := (List.range 4).filter (fun i => mask == 0 || bitAt mask i)

/-- Pages cut from the quarter-pages that a claim gets of each stack. -/
def cutPages (ss : List Nat) (qps : List (List Nat)) (per : Nat) : Nat → List Page
  | 0 => []
  | n + 1 =>
    { parts := ss.zip (qps.map (fun l => l.take per)) } :: cutPages ss (qps.map (fun l => l.drop per)) per n

/-- Quarter-pages of a page. -/
def Page.qps (p : Page) : List (Nat × Nat) := p.parts.flatMap (fun e => e.2.map (fun q => (e.1, q)))

/-- Pages leave the pool. -/
def State.claimPages (s : State) (mask pages : Nat) : State × List Page :=
  let st := maskStacks mask
  let per := if mask = 0 then 1 else if bitCount 4 mask = 1 then 4 else 2
  let ps := cutPages st (st.map (fun i => s.freeQps i (per * pages))) per pages
  let s := s.upTo 4 (fun s i => s.setFld MC_QP_FREE (s.fld MC_QP_FREE i - (qpOf mask pages).getD i 0) i)
  ({ s with store := { s.store with used := s.store.used ++ ps.flatMap Page.qps } }, ps)

/-- Pages return to the pool, but for what has been retired of them (R161). -/
def State.returnPages (s : State) (ps : List Page) : State :=
  let qs := ps.flatMap Page.qps
  let s := s.upTo 4 (fun s i =>
    s.setFld MC_QP_FREE (s.fld MC_QP_FREE i + (qs.filter (fun q => q.1 == i && !s.store.retiredQp.contains q)).length) i)
  { s with store := { s.store with used := s.store.used.filter (fun q => !qs.contains q) } }

/-- Quarter-pages that are held in reserve go up, or down. -/
def State.addReserved (s : State) (mask pages : Nat) : State :=
  s.upTo 4 (fun s i => s.setFld MC_QP_RESV (s.fld MC_QP_RESV i + (qpOf mask pages).getD i 0) i)

def State.subReserved (s : State) (mask pages : Nat) : State :=
  s.upTo 4 (fun s i => s.setFld MC_QP_RESV (s.fld MC_QP_RESV i - (qpOf mask pages).getD i 0) i)

/-- Pages leave the pool and are held in reserve (R130). -/
def State.reservePages (s : State) (mask pages : Nat) : State :=
  let c := s.claimPages mask pages
  let s := c.1.addReserved mask pages
  { s with store := { s.store with reserved := s.store.reserved ++ c.2 } }

/-- Reserved pages placed under a mask come into use. -/
def State.usePages (s : State) (mask pages : Nat) : State × List Page :=
  let st := maskStacks mask
  let ps := (s.store.reserved.filter (fun p => p.parts.map (·.1) == st)).take pages
  let s := s.subReserved mask pages
  ({ s with store := { s.store with reserved := s.store.reserved.filter (fun p => !ps.contains p) } }, ps)

/-- Reserved pages return to the pool. -/
def State.unreservePages (s : State) (mask pages : Nat) : State :=
  let c := s.usePages mask pages
  c.1.returnPages c.2

/-- Granules of 4 KiB of a page lie on its stacks in turn (R128): the byte of the page at an offset in a quarter-page. -/
def Page.byteAt (p : Page) (stack qp ofs : Nat) : Option Nat :=
  match p.parts.zipIdx.find? (fun e => e.1.1 == stack && e.1.2.contains qp) with
  | some ((_, qs), i) =>
    let g := (qs.idxOf qp * 128 + ofs / 4096) * p.parts.length + i
    some (g * 4096 + ofs % 4096)
  | none => none

/-- Pages that hold a number of bytes of hold buffers (R207). -/
def holdPages (bytes : Nat) : Nat := ceilDiv bytes 2097152

/-- Bytes of hold buffers reserved become `n`: pages move to or from the pool. -/
def State.setHoldBytes (s : State) (n : Nat) : State :=
  let old := holdPages s.store.holdBytes
  let new := holdPages n
  let s := { s with store := { s.store with holdBytes := n } }
  if old ≤ new then
    let c := s.claimPages 0 (new - old)
    { c.1 with store := { c.1.store with holdPages := c.1.store.holdPages ++ c.2 } }
  else
    let keep := s.store.holdPages.take new
    let gone := s.store.holdPages.drop new
    ({ s with store := { s.store with holdPages := keep } }).returnPages gone

/-! ### Holds (R152) -/

def Shown.slots (x : Shown) : List SlotRef := x.slot.toList ++ x.tearSlot.toList ++ x.prev.toList

def ReaderRun.slots (r : ReaderRun) : List SlotRef :=
  r.cur.slots ++ (match r.nxt with | some x => x.slots | none => [])

/-- At least one reader holds the slot. -/
def State.slotHeld (s : State) (x : SlotRef) : Bool := s.store.readers.any (fun r => r.2.slots.contains x)

def State.reader (s : State) (r : Nat) : ReaderRun := Tab.get {} s.store.readers r

def State.setReader (s : State) (r : Nat) (x : ReaderRun) : State :=
  { s with store := { s.store with readers := Tab.set {} s.store.readers r x } }

/-! ### Rings (R136 .. R140) -/

/-- The ring that frames are written into. -/
def SrcRun.ring? (x : SrcRun) : Option Ring :=
  match x.rings with
  | r :: _ => if r.dead then none else some r
  | [] => none

def Ring.slot (r : Ring) (i : Nat) : Slot := Tab.get {} r.slots i

def Ring.setSlot (r : Ring) (i : Nat) (x : Slot) : Ring := { r with slots := Tab.set {} r.slots i x }

def Ring.hasClosed (r : Ring) : Bool := r.slots.any (fun e => decide (2 ≤ e.2.state))

/-- A slot of a source by its reference. -/
def State.slotAt (s : State) (x : SlotRef) : Option Slot :=
  match (s.src x.src).rings.find? (fun r => r.id == x.ring) with
  | some r => (List.find? (fun e : Nat × Slot => e.2.seq == x.seq && e.2.state != 0) r.slots).map (·.2)
  | none => none

/-- A slot of a source changed in place. -/
def State.updSlot (s : State) (x : SlotRef) (f : Slot → Slot) : State :=
  let run := s.src x.src
  s.setSrc x.src { run with
    rings := run.rings.map (fun r =>
      if r.id = x.ring then
        { r with slots := r.slots.map (fun e => if e.2.seq = x.seq ∧ e.2.state ≠ 0 then (e.1, f e.2) else e) }
      else r) }

/-- A reader holds slot i of a ring. -/
def State.ringSlotHeld (s : State) (n : Nat) (r : Ring) (i : Nat) : Bool :=
  (r.slot i).state != 0 && s.slotHeld { src := n, ring := r.id, seq := (r.slot i).seq }

/-- What a released ring keeps: the pages of each slot that a reader still holds (R139). -/
def State.deadPages (s : State) (n : Nat) (r : Ring) : List (List Page) :=
  r.pages.zipIdx.map (fun e => if s.ringSlotHeld n r e.2 then e.1 else [])

/-- Pages that nothing uses any more return to the pool: of a released ring those of each slot that no reader holds, of a
ring that has been replaced all, once the new ring holds a closed slot and no reader an old one (R139, R140). -/
def State.sweepRings (s : State) (n : Nat) : State :=
  let run := s.src n
  let held := fun (r : Ring) => (List.range r.shape.depth).any (s.ringSlotHeld n r)
  let newest := run.ring?
  let stale := fun (r : Ring) =>
    !held r && (r.dead || (match newest with | some q => q.id != r.id && q.hasClosed | none => false))
  let kept := (run.rings.filter (fun r => !stale r)).map (fun r => if r.dead then { r with pages := s.deadPages n r } else r)
  let left := kept.flatMap (fun r => r.pages.flatten)
  let gone := (run.rings.flatMap (fun r => r.pages.flatten)).filter (fun p => !left.contains p)
  (s.returnPages gone).setSrc n { run with rings := kept }

/-- Pages that the rings of a source hold (R167). -/
def SrcRun.pageCount (x : SrcRun) : Nat := (x.rings.map (fun r => r.pages.flatten.length)).sum

/-- Frame period of a source in ns. -/
def State.srcPeriod (s : State) (n : Nat) : Nat := periodNs (fmtRate (s.fmtInForce n))

/-! ### Frame starts (R143, R145, R158) -/

/-- SEQ after another: it wraps to 1 and is never 0. -/
def nextSeq (q : Nat) : Nat := if q + 1 < 2 ^ 32 then q + 1 else 1

/-- Frames between a SEQ and a later one. -/
def seqAge (later q : Nat) : Nat := (later + (2 ^ 32 - 1) - q) % (2 ^ 32 - 1)

/-- Slots that an error hit after their close read DAMAGED from the next selection instant on (R144). -/
def State.settleErrors (s : State) : State :=
  let refs := s.store.ueSlots
  let s := { s with store := { s.store with ueSlots := [] } }
  s.each refs (fun s x => s.updSlot x (fun y => { y with state := if y.state = 2 then 3 else y.state }))

/-- A reader's CHASE frame that waits for the next frame start of source n is bound to its slot (R155). -/
def Shown.bind (x : Shown) (n : Nat) (ref : SlotRef) : Shown :=
  if x.await = some n then { x with slot := some ref, await := none } else x

def State.bindChase (s : State) (n : Nat) (ref : SlotRef) : State :=
  { s with store := { s.store with
      readers := s.store.readers.map (fun e =>
        (e.1, { e.2 with
          cur := e.2.cur.bind n ref, nxt := e.2.nxt.map (fun x => x.bind n ref)
          g := if e.2.gAwait = some n then some ref else e.2.g
          gAwait := if e.2.gAwait = some n then none else e.2.gAwait })) } }

/-- STATE bits of a closing slot: DAMAGED when any of bits [8:4] is set (R144). -/
def closedState (flags : Nat) : Nat := if flags % 32 = 0 then 2 else 3

def flagCrc : Nat := 1
def flagLine : Nat := 2
def flagTiming : Nat := 4
def flagIncomplete : Nat := 8
def flagMemUe : Nat := 16
def flagLegA : Nat := 64
def flagLegB : Nat := 128

/-- A slot closed now (R144, R150, R195, R196). -/
def Slot.close (x : Slot) (now : Nat) : Slot :=
  { x with
    state := closedState x.flags
    tClose := now
    ended := true
    hash := contentHash x.hashSum x.hashN
    hb := if heartbeatSet x.fmt x.region then heartbeatHash x.hbSum x.hbN else 0 }

/-- The slot of a source closes; a damaged one is counted (R144). -/
def State.closeSlot (s : State) (x : SlotRef) : State :=
  match s.slotAt x with
  | none => s
  | some sl =>
    if sl.state = 1 then
      let y := sl.close s.now
      let s := s.updSlot x (fun sl => sl.close s.now)
      let s := s.when (closedState sl.flags = 3) (fun s => s.addFld SRC_DAMAGED 1 x.src)
      let s := s.when (decide (1024 ≤ x.src)) (fun s => s.addFld CMP_FRAMES 1 (x.src - 1024))
      let s := s.ownDigest
        { kind := 0, obj := x.src, key := x.seq, hash := y.hash, state := y.state, flags := y.flags % 32, fmtGen := y.fmtGen }
      let s := match (s.src x.src).rings.find? (fun r => r.id == x.ring) with
        | some r => s.when (closedState sl.flags = 2) (fun s =>
            s.copyThumbs x.src y y.store r.shape.ladder)
        | none => s
      s.sweepRings x.src
    else s

/-- References to the WRITING slots of a source, those whose writing has not ended when `live`. -/
def State.writing (s : State) (n : Nat) (live : Bool) : List SlotRef :=
  (s.src n).rings.flatMap (fun r => (r.slots.filter (fun e => e.2.state == 1 && (!live || !e.2.ended))).map
    (fun e => { src := n, ring := r.id, seq := e.2.seq }))

/-- A frame of source n is dropped (R158). -/
def State.dropFrame (s : State) (n seq : Nat) : State :=
  let run := s.src n
  let s := (s.addFld SRC_DROPPED 1 n).setFld SRC_DROP_SEEN 1 n
  let first := run.lastDrop = 0 ∨ run.lastDrop - 1 + 10 ^ 9 ≤ s.time.grid
  let s := s.setSrc n { run with seq := seq, lastDrop := s.time.grid + 1 }
  s.when first (fun s => s.raise Ev.SLOT_DROP
    { index := n, data := s.fld SRC_DROPPED n, dest := s.ownerList (oriSrc n) })

/-- A frame of source n starts at device time `t`: the next slot in ring order opens, or the frame is dropped (R145,
R158). A slot that is still open there is closed first (R148). -/
def State.openSlot (s : State) (n t : Nat) : State :=
  match (s.src n).ring? with
  | none => s
  | some r =>
    let i := r.last % r.shape.depth
    let old := r.slot i
    let s := s.when (old.state = 1) (fun s =>
      let x : SlotRef := { src := n, ring := r.id, seq := old.seq }
      (s.updSlot x (fun y => if y.ended then y else { y with flags := y.flags ||| flagIncomplete })).closeSlot x)
    let run := s.src n
    let seq := nextSeq run.seq
    let s := s.setFld SRC_LAST_SEQ seq n
    if s.slotHeld { src := n, ring := r.id, seq := old.seq } ∧ old.state ≠ 0 then s.dropFrame n seq
    else
      let region := [s.fld SRC_HB_X n, s.fld SRC_HB_Y n, s.fld SRC_HB_W n, s.fld SRC_HB_H n]
      let new : Slot :=
        { state := 1, seq := seq, tStart := t, fmt := s.fmtInForce n, store := s.storeIn n (s.fmtInForce n) r.shape
          fmtGen := run.fmtGen, levels := old.levels, region := region }
      let s := s.setSrc n { run with
        seq := seq
        rings := run.rings.map (fun q => if q.id = r.id then { q.setSlot i new with last := i + 1 } else q) }
      s.bindChase n { src := n, ring := r.id, seq := seq }

/-! ### Writing pixels (R132, R133, R149) -/

/-- Bits of a sample of a BITS code, and of a store format (R131). -/
def sampleBits (code : Nat) : Nat := if code = 1 then 8 else if code = 3 then 12 else 10
def storeBits (store : Nat) : Nat := if store = 3 then 12 else 10

/-- A sample as it is stored: an 8-bit value times 4 in 10 bits (R133). DESIGN CHOICE, log 82: in a store format that is not
the implied one a sample keeps its place on the scale, its low bits cut off where the format has fewer. -/
def storeSample (fmt store v : Nat) : Nat := v * 2 ^ storeBits store / 2 ^ sampleBits (fmtBits fmt)

/-- Samples as they are stored: 4:2:2 in a 4:4:4 format with each chroma pair written to both pixels it covers (R133).
DESIGN CHOICE, log 82: of 4:4:4 in format 1 the even pixels' chroma is kept. -/
def storePic (fmt store : Nat) (p : Pic) : Pic :=
  (p.mapComps (fun _ c => { c with data := c.data.map (storeSample fmt store) })).mapComps (fun i c =>
    if i = 0 ∨ fmt444 fmt = (store != 1) then c
    else if store = 1 then Plane.tabulate (c.w / 2) c.h (fun x y => c.px (2 * x : Nat) y)
    else Plane.tabulate (2 * c.w) c.h (fun x y => c.px (x / 2 : Nat) y))

/-- The slot with its L0 written, its ladder built and its hash sums taken over the units that `sel` selects by row and
unit: those written (R195). -/
def Slot.write (x : Slot) (store : Nat) (l0 : Pic) (ladder : Nat) (sel : Nat → Nat → Bool) : Slot :=
  let h := (l0.comp 0).h
  let a := hashSums store l0 sel
  let b := hashSums store l0 (fun r u => sel r u && inHeartbeat store x.fmt h x.region r u)
  { x with
    levels := ladderAll store (fmtInterlaced x.fmt) l0
    ladder := ladder
    hashSum := a.1, hashN := a.2, hbSum := b.1, hbN := b.2 }

/-! ### Applying ALLOC (R139, R140, R163) -/

/-- Two rings have the depth, the ladder and the store format that ALLOC gives, and slots of one size (R140). -/
def RingShape.same (a b : RingShape) : Bool :=
  a.depth == b.depth && a.ladder == b.ladder && a.store == b.store && a.slotPages == b.slotPages

/-- Pages of a ring of a shape for source n: its slots, and the merge buffer of a protected ST 2022-6 source (R318). -/
def State.shapePages (s : State) (n : Nat) (sh : RingShape) : Nat :=
  sh.slotPages * sh.depth + (if s.srcKind n = 3 ∧ s.fldOn SRC_PROT n then 6 else 0)

/-- The pages of a new ring and the mask it has: STACK_MASK as it stands now, where the pool can place the pages so; else
the placement that was reserved (R163; DESIGN CHOICE, log 81). -/
def State.placeRing (s : State) (n : Nat) (sh : RingShape) (pages : Nat) : State × List Page × Nat :=
  let mask := s.fld SRC_STACK_MASK n
  if mask = sh.mask then
    let c := s.usePages sh.mask pages
    (c.1, c.2, sh.mask)
  else
    let t := s.unreservePages sh.mask pages
    if t.poolHas mask pages then
      let c := t.claimPages mask pages
      (c.1, c.2, mask)
    else
      let c := s.usePages sh.mask pages
      (c.1, c.2, sh.mask)

/-- The page table of a ring of `depth` slots: what is left after the slots is the merge buffer. -/
def pageTable (per : Nat) : (depth : Nat) → List Page → List (List Page)
  | 0, ps => if ps.isEmpty then [] else [ps]
  | d + 1, ps => ps.take per :: pageTable per d (ps.drop per)

/-- An ALLOC step applies to source n: the ring is released, created or replaced; its pages come into use, or return when
it equals the current ring. -/
def State.applyAlloc (s : State) (n : Nat) (sh : RingShape) (pages : Nat) : State :=
  let run := s.src n
  let cur := s.cfg.ring n
  if sh.depth = 0 then
    let s := s.setCfg (s.cfg.setRing n sh)
    let s := s.setSrc n { run with rings := run.rings.map (fun r => { r with dead := true }) }
    ((s.setFld SRC_STATE 0 n).sweepRings n)
  else if sh.same cur ∨ pages = 0 then s.unreservePages sh.mask pages
  else
    let fresh := cur.depth = 0
    let c := s.placeRing n sh pages
    let s := c.1
    let sh := { sh with mask := c.2.2 }
    let ring : Ring := { id := run.ringCount, shape := sh, pages := pageTable sh.slotPages sh.depth c.2.1 }
    let run' := { run with
      rings := ring :: run.rings
      ringCount := run.ringCount + 1
      seq := if fresh then 0 else run.seq
      fmtGen := if fresh then 0 else run.fmtGen
      accepted := if fresh then false else run.accepted
      lastDrop := 0 }
    let s := (s.setCfg (s.cfg.setRing n sh)).setSrc n run'
    let s := s.when fresh (fun s => (s.setFld SRC_STATE 1 n).setFld SRC_LAST_SEQ 0 n)
    s.sweepRings n

/-! ### Islands (R22) -/

/-- Ingest charge carried by ingest island i, in sixteenths. -/
def State.ingestLoad (s : State) (i : Nat) : Nat :=
  (s.store.srcs.map (fun e => if e.2.island = i + 1 then s.srcChargeIn s.cfg e.1 else 0)).sum

/-- The island of 16 with the most free capacity, the lowest number winning a tie. -/
def leastLoaded (load : Nat → Nat) : Nat :=
  (List.range 16).foldl (fun b i => if load i < load b then i else b) 0

/-- A source is placed on the ingest island with the most free capacity; one that is placed stays (R22). -/
def State.placeSource (s : State) (n : Nat) : State :=
  if n < 1024 ∧ (s.src n).island = 0 then
    s.setSrc n { s.src n with island := leastLoaded s.ingestLoad + 1 }
  else s

end Sys2Proof.Machine
end

