-- ==== Sys2Proof/Machine/Admit.lean ====
section
/-! DEFINITION. Admission: ladder levels, charges, budgets, automatic depth, hold buffers and stack traffic
(R7, R19, R20, R136 .. R138, R164, R176, R207, R225, R226, R231, R254, R255, R260, R265). -/

namespace Sys2Proof.Machine
open Reg

/-! ### Destinations: format and target (R225, R231) -/

/-- DST_FMT [15:0]. -/
def State.dstFmt (s : State) (d : Nat) : Nat :=
  fmtOf (s.fld DST_RASTER d) (s.fld DST_RATE d) (s.fld DST_SCAN d) (s.fld DST_SAMPLING d) (s.fld DST_BITS d)
    (s.fld DST_RGB d) (s.fld DST_COLOR d)

/-- Display aspect of a raster (R231). -/
def displayAspect (raster : Nat) : Rat :=
  if raster = 1 ∨ raster = 2 then 4 / 3
  else let (w, h) := rasterSize raster; (w : Rat) / h

/-- A target rectangle in an output raster. -/
structure Target where
  x : Nat
  y : Nat
  w : Nat
  h : Nat
  deriving DecidableEq, Repr

/-- The fit rectangle of R231. -/
def fitTarget (srcRaster outRaster : Nat) : Target :=
  let (w, h) := rasterSize outRaster
  let a := displayAspect srcRaster
  let o := displayAspect outRaster
  let (tw, th) :=
    if o ≤ a then (w, 2 * ((h : Rat) * o / (2 * a)).floor.toNat)
    else (2 * ((w : Rat) * a / (2 * o)).floor.toNat, h)
  { x := 2 * ((w - tw) / 4), y := 2 * ((h - th) / 4), w := tw, h := th }

/-- The target rectangle of a destination for a slot of a raster (R225). -/
def State.dstTarget (s : State) (d srcRaster : Nat) : Target :=
  if s.fldOn DST_ASPECT d then fitTarget srcRaster (s.fld DST_RASTER d)
  else let (w, h) := rasterSize (s.fld DST_RASTER d); { x := 0, y := 0, w := w, h := h }

/-! ### Levels (R225, R254, R255) -/

/-- The automatic level of a destination for a format, a store format and the levels present. -/
def State.dstAutoLevel (s : State) (d fmt store ladder : Nat) : Nat :=
  let t := s.dstTarget d (fmtRaster fmt)
  autoLevel (fmtLevelSize fmt store) ladder t.w t.h

/-- The crop of a VIDEO layer at a level: origin and size (R253). -/
def cropAt (fmt store k cropX cropY cropW cropH : Nat) : Target :=
  let (w0, h0) := rasterSize (fmtRaster fmt)
  let (wk, hk) := fmtLevelSize fmt store k
  if cropW = 0 ∨ cropH = 0 then { x := 0, y := 0, w := wk, h := hk }
  else
    let cx := min cropX w0
    let cy := min cropY h0
    let cw := min cropW (w0 - cx)
    let ch := min cropH (h0 - cy)
    let x := cx * wk / w0
    let y := cy * hk / h0
    { x := x, y := y, w := ceilDiv ((cx + cw) * wk) w0 - x, h := ceilDiv ((cy + ch) * hk) h0 - y }

/-- The clipped crop is empty (R253). -/
def cropEmpty (fmt cropX cropY cropW cropH : Nat) : Bool :=
  let (w0, h0) := rasterSize (fmtRaster fmt)
  cropW != 0 && cropH != 0 && (decide (w0 ≤ cropX) || decide (h0 ≤ cropY))

/-- The automatic level of a VIDEO layer (R254). -/
def layerAutoLevel (x : LayerCfg) (fmt store ladder : Nat) : Nat :=
  autoLevel (fun k => let c := cropAt fmt store k x.cropX x.cropY x.cropW x.cropH; (c.w, c.h)) ladder x.w x.h

/-- The automatic level of a tile (R254). -/
def tileAutoLevel (t : Tile) (fmt store ladder : Nat) : Nat := autoLevel (fmtLevelSize fmt store) ladder t.w t.h

/-- A level as LEVEL forces it (0: automatic, 1 .. 5: L0 .. L4), where it is present. -/
def forcedLevel (force ladder auto : Nat) : Nat :=
  if force ≠ 0 ∧ bitAt ladder (force - 1) then force - 1 else auto

/-! ### Rings as a reader finds them -/

/-- The ladder and store format of a source: those of its ring, or those of the ring that an implicit ALLOC makes. -/
def State.ringFor (s : State) (g : Cfg) (n : Nat) : RingShape :=
  let r := g.ring n
  if r.depth = 0 then { ladder := 31, store := storeFmtOf (s.srcFmtIn g n) } else r

/-- The deinterlacer of destination d takes MOTION for frames of a format at a level (R236, R237). -/
def State.usesMotion (s : State) (d fmt level : Nat) : Bool :=
  fmtInterlaced fmt && level == 0 && (s.fld DST_DEINT d == 0 || s.fld DST_DEINT d == 3) &&
  !(s.fldOn DST_SCAN d && (rasterSize (s.fld DST_RASTER d)).2 == (rasterSize (fmtRaster fmt)).2)

/-- A reader counts as VERIFIED for ring depths: by its mode, or as a MOTION destination (R237). -/
def State.countsVerified (s : State) (g : Cfg) (r : ReaderCfg) : Bool :=
  r.lat == 3 ||
  (decide (r.rd < 1024) &&
    (let f := s.srcFmtIn g r.src
     let sh := s.ringFor g r.src
     s.usesMotion r.rd f (s.dstAutoLevel r.rd f sh.store sh.ladder)))

/-- Frame rate code of a reader. -/
def State.readerRate (s : State) (g : Cfg) (r : ReaderCfg) : Nat :=
  if r.rd < 1024 then s.fld DST_RATE r.rd else s.cmpRate (g.cmp (r.obj - 1024))

/-- The row of R137 for a reader. -/
def depthFor (verified : Bool) (rr rs : Nat) : Nat :=
  if rr ≠ 0 ∧ rs ≠ 0 ∧ periodAbove rr rs then (if verified then 3 else 2) + periodRatioUp rr rs
  else if verified then 4 else 3

/-- The automatic depth of a source (R137). -/
def State.autoDepth (s : State) (g : Cfg) (n : Nat) : Nat :=
  let rs := fmtRate (s.srcFmtIn g n)
  min 16 (((g.readers.filter (fun r => r.src == n)).map
    (fun r => depthFor (s.countsVerified g r) (s.readerRate g r) rs)).foldl max 3)

/-- The ring of a source keeps R136 for every reader. -/
def State.ringSuits (s : State) (g : Cfg) (n : Nat) : Bool :=
  let d := (g.ring n).depth
  let rs := g.readers.filter (fun r => r.src == n)
  rs.all (fun r => if d = 0 then false else if d = 2 then r.lat == 1 else !s.countsVerified g r || decide (4 ≤ d))

/-- The shape of a ring for a source: store format, ladder and depth chosen, pages worked out (R134, R163). -/
def State.shapeFor (s : State) (g : Cfg) (n depth ladder store : Nat) : RingShape :=
  let f := s.srcFmtIn g n
  let st := if store = 0 then storeFmtOf f else store
  { depth := depth, ladder := ladder, store := st, slotPages := slotPagesOf f st ladder (s.srcKind n == 2),
    mask := s.fld SRC_STACK_MASK n }

/-- SRC_FMT of a source gives a raster, a rate and a depth (R82). -/
def fmtComplete (f : Nat) : Bool := fmtRaster f != 0 && fmtRate f != 0 && fmtBits f != 0

/-- Pages that an ALLOC of a shape for source n holds in reserve: none when it releases the ring, or equals the current ring
and the one that the steps before it leave (R140). -/
def State.allocPages (s : State) (g : Cfg) (n : Nat) (new : RingShape) : Nat :=
  if new.depth = 0 ∨ (new.same (s.cfg.ring n) = true ∧ new.same (g.ring n) = true) then 0 else s.shapePages n new

/-! ### Charges (R19, R226, R255) -/

/-- Cost of the level that a destination would read of a source, forced by LEVEL or automatic (R19, R226, R240). -/
def State.routeCharge (s : State) (g : Cfg) (d n : Nat) : Nat :=
  if n = 2047 then 0
  else
    let f := s.srcFmtIn g n
    let r := s.ringFor g n
    if fmtComplete f then levelCost f r.store (forcedLevel (s.fld DST_LEVEL d) r.ladder (s.dstAutoLevel d f r.store r.ladder)) (rateNominal (s.fld DST_RATE d)) else 0

/-- Charge of a VIDEO layer (R255). -/
def State.layerCharge (s : State) (g : Cfg) (c : Nat) (x : LayerCfg) : Nat :=
  if x.kind ≠ 1 ∨ x.src = 2047 ∨ x.w = 0 ∨ x.h = 0 then 0
  else
    let f := s.srcFmtIn g x.src
    let r := s.ringFor g x.src
    levelCost f r.store (forcedLevel x.level r.ladder (layerAutoLevel x f r.store r.ladder)) (rateNominal (s.cmpRate (g.cmp c)))

/-- Charge of a tile (R255). -/
def State.tileCharge (s : State) (g : Cfg) (c force : Nat) (t : Tile) : Nat :=
  if t.src = 2047 ∨ t.w = 0 ∨ t.h = 0 then 0
  else
    let f := s.srcFmtIn g t.src
    let r := s.ringFor g t.src
    levelCost f r.store (forcedLevel force r.ladder (tileAutoLevel t f r.store r.ladder)) (rateNominal (s.cmpRate (g.cmp c)))

/-- A layer with its charges computed. -/
def State.charged (s : State) (g : Cfg) (c : Nat) (x : LayerCfg) : LayerCfg :=
  { x with
    charge := s.layerCharge g c x
    tiles := x.tiles.map (fun t => { t with
      charge := if x.w = 0 ∨ x.h = 0 then 0 else s.tileCharge g c x.level t }) }

/-- One change on a configuration; a change of a compositor's plane or format charges its layers anew (R20, R265). -/
def State.cfgStep (s : State) (g : Cfg) (ch : Change) : Cfg :=
  let g' := g.apply ch
  match ch with
  | .compSet c .. =>
    if s.cmpRate (g.cmp c) = s.cmpRate (g'.cmp c) then g'
    else
      let m := g'.cmp c
      g'.setCmp c { m with layers := m.layers.map (fun e => (e.1, s.charged g' c e.2)) }
  | _ => g'

def State.cfgSteps (s : State) (g : Cfg) (cs : List Change) : Cfg := cs.foldl s.cfgStep g

def layerTotal (x : LayerCfg) : Nat := x.charge + (x.tiles.map (·.charge)).sum

/-- The charge of a destination while it is enabled. -/
def State.dstChargeIn (s : State) (g : Cfg) (d : Nat) : Nat :=
  if s.fldOn DST_ENABLE d ∨ (Tab.get {} s.store.dsts d).stopping then
    max (fmtCost (s.dstFmt d)) (if (g.dst d).vsrc = 2047 then 0 else (g.dst d).charge)
  else 0

/-- Charged objects by number: sources, destinations, layers. -/
def chSrc (n : Nat) : Nat := n
def chDst (d : Nat) : Nat := 2048 + d
def chLayer (c l : Nat) : Nat := 4096 + 8 * c + l

/-- Every non-zero charge of a configuration, by charged object. -/
def State.charges (s : State) (g : Cfg) : Tab Nat :=
  let src := (g.rings.map (·.1)).filter (· < 1024) ++ g.cmps.map (fun e => 1024 + e.1)
  let t := src.foldl (fun t n => Tab.set 0 t (chSrc n) (s.srcChargeIn g n)) []
  let t := (List.range 1024).foldl (fun t d => Tab.set 0 t (chDst d) (s.dstChargeIn g d)) t
  g.cmps.foldl (fun t e => e.2.layers.foldl (fun t l => Tab.set 0 t (chLayer e.1 l.1) (layerTotal l.2)) t) t

/-- Increases from one set of charges to another, by charged object. -/
def increases (a b : Tab Nat) : Tab Nat :=
  b.filterMap (fun e => if Tab.get 0 a e.1 < e.2 then some (e.1, e.2 - Tab.get 0 a e.1) else none)

/-! ### Budgets (R7, R176, R265) -/

/-- The sum of a table over a range of charged objects. -/
def chargeSum (t : Tab Nat) (lo hi : Nat) : Nat :=
  (t.map (fun e => if lo ≤ e.1 ∧ e.1 < hi then e.2 else 0)).sum

/-- B_c of a compositor (R265). -/
def State.cmpBudget (s : State) (m : CmpCfg) : Nat := if m.outFmt = 0 then 0 else layerBudget m.outFmt (s.cmpRate m)

/-- The first budget that the charges `tot` exceed, with its excess (R88): only a budget that some increase touches, or a
compositor whose budget falls, can refuse (R20). -/
def State.overBudget (s : State) (g0 g1 : Cfg) (tot inc : Tab Nat) : Option (Nat × Nat) :=
  let overload := fun (lo hi limit : Nat) =>
    let t := chargeSum tot lo hi
    if chargeSum inc lo hi ≠ 0 ∧ limit < t then some (t - limit) else none
  match overload 0 2048 40960 with
  | some x => some (1, x)
  | none =>
    match overload 2048 4096 40960 with
    | some x => some (2, x)
    | none =>
      match overload 4096 8192 16384 with
      | some x => some (3, x)
      | none =>
        (g1.cmps.findSome? (fun e =>
          let lo := chLayer e.1 0
          let t := chargeSum tot lo (lo + 8)
          let b := s.cmpBudget e.2
          if b < t ∧ (chargeSum inc lo (lo + 8) ≠ 0 ∨ b < s.cmpBudget (g0.cmp e.1)) then some (t - b) else none)).map
          (fun x => (4, x))

/-- The sum of tables of charges. -/
def addCharges (a b : Tab Nat) : Tab Nat := b.foldl (fun t e => Tab.set 0 t e.1 (Tab.get 0 t e.1 + e.2)) a

/-- Increases held by takes that satisfy a condition (R173, R176). -/
def State.heldBy (s : State) (ok : Take → Bool) : Tab Nat :=
  (s.take.takes.filter ok).foldl (fun t k => addCharges t k.held) []

/-! ### Traffic per stack (R164) -/

/-- The share of a ring's traffic on stack i, in quarters. -/
def stackShare (mask i : Nat) : Nat :=
  if mask = 0 then 1 else if bitAt mask i then (if bitCount 4 mask = 1 then 4 else 2) else 0

/-- L0 and its present levels, in 1/256 of L0. -/
def ladderTraffic (ladder : Nat) : Nat := ((presentLevels ladder).map (fun k => 4 ^ (4 - k))).sum

/-- Units of the traffic below in one HDU: charges count sixteenths, levels 1/256 and shares quarters. -/
def hduUnits : Nat := 16 * 256 * 4

/-- Traffic on stack i under a configuration: sources by number, readers from 2,048 on (R164). -/
def State.stackTraffic (s : State) (g : Cfg) (i : Nat) : Tab Nat :=
  let w := g.rings.foldl (fun t e =>
    Tab.set 0 t e.1 (s.srcChargeIn g e.1 * ladderTraffic e.2.ladder * stackShare e.2.mask i)) []
  g.readers.foldl (fun t r => Tab.set 0 t (2048 + r.rd) (r.charge * 256 * stackShare (g.ring r.src).mask i)) w

def tabSum (t : Tab Nat) : Nat := (t.map (·.2)).sum

/-- Traffic on stack i under a configuration in HDU, rounded up (R168). -/
def State.stackLoad (s : State) (g : Cfg) (i : Nat) : Nat := ceilDiv (tabSum (s.stackTraffic g i)) hduUnits

/-- A configuration has a ring that STACK_MASK restricts. -/
def Cfg.masked (g : Cfg) : Bool := g.rings.any (fun e => e.2.depth != 0 && e.2.mask != 0)

/-- The first stack above its traffic limit under a configuration, while a masked ring exists. -/
def State.overStack (s : State) (g : Cfg) : Option Nat :=
  if g.masked then (List.range 4).find? (fun i => decide (2400 * hduUnits < tabSum (s.stackTraffic g i))) else none

/-- The first stack that a step from g0 to g1 takes above its limit, other increases being held on it. -/
def State.stackBar (s : State) (g0 g1 : Cfg) (held : Nat → Nat) : Option Nat :=
  if g1.masked then
    (List.range 4).find? (fun i =>
      let a := s.stackTraffic g0 i
      let inc := tabSum (increases a (s.stackTraffic g1 i))
      decide (0 < inc ∧ 2400 * hduUnits < tabSum a + held i + inc))
  else none

/-! ### Hold buffers (R207) -/

/-- The level that a reader reads of a format in a store format and a ladder: forced, or automatic. -/
def State.wantedLevel (s : State) (g : Cfg) (r : ReaderCfg) (f store ladder : Nat) : Nat :=
  if r.rd < 1024 then forcedLevel (s.fld DST_LEVEL r.rd) ladder (s.dstAutoLevel r.rd f store ladder)
  else if r.rd < 1792 then
    let x := (g.cmp (r.obj - 1024)).layer ((r.rd - 1024) % 8)
    forcedLevel x.level ladder (layerAutoLevel x f store ladder)
  else
    let x := (g.cmp (r.obj - 1024)).layer ((r.rd - 1792) / 64 % 8)
    match x.tiles[(r.rd - 1792) % 64]? with
    | some t => forcedLevel x.level ladder (tileAutoLevel t f store ladder)
    | none => 0

/-- Bytes of the hold buffer that a reader needs for frames of a format; 0 when its policy needs none. -/
def State.holdNeedOf (s : State) (g : Cfg) (r : ReaderCfg) (f store ladder : Nat) : Nat :=
  if r.policy.holds ∧ fmtComplete f then holdBytesOf f store (s.wantedLevel g r f store ladder) else 0

/-- Bytes of the hold buffer that a reader needs for SRC_FMT of its source. -/
def State.holdNeed (s : State) (g : Cfg) (r : ReaderCfg) : Nat :=
  let sh := s.ringFor g r.src
  s.holdNeedOf g r (s.srcFmtIn g r.src) sh.store sh.ladder

/-! ### Graphics (R260) -/

/-- Visible pixels of a GRAPHIC layer (R259, R260). -/
def State.visibleArea (s : State) (m : CmpCfg) (x : LayerCfg) : Nat :=
  if x.kind = 3 ∧ x.ref ≠ 0 then
    match Tab.get none s.store.graphics (4096 * x.gfxPart + x.ref) with
    | none => 0
    | some p =>
      let (w, h) := rasterSize (bitField m.outFmt 0 4)
      let span := fun (pos : Int) (size crop avail raster : Nat) =>
        let n : Int := min (size : Int) ((avail : Int) - crop)
        (max 0 (min (raster : Int) (pos + n) - max 0 pos)).toNat
      span x.x x.w x.cropX p.w w * span x.y x.h x.cropY p.h h
  else 0

/-- Sum of the visible areas of a compositor's GRAPHIC layers. -/
def State.gfxArea (s : State) (m : CmpCfg) : Nat := (m.layers.map (fun e => s.visibleArea m e.2)).sum

/-- The allowance of R260. -/
def gfxAllowance (m : CmpCfg) : Nat := let (w, h) := rasterSize (bitField m.outFmt 0 4); 2 * w * h

/-! ### Planes (R126, R218, R245) -/

/-- A plane suits a compositor of an output format (R245). -/
def State.planeSuitsCmp (s : State) (plane outFmt : Nat) : Bool :=
  let lines := linesOf (s.fld PLANE_LINES plane)
  s.planeRate plane != 0 && !s.fldOn PLANE_SCAN plane && (lines == 0 || lines == rasterLines (bitField outFmt 0 4))

/-- Users of a plane: enabled destinations, enabled compositors and probe triggers (R126). -/
def State.planeUsers (s : State) (p : Nat) : Nat :=
  ((List.range 1024).filter (fun d =>
    (s.fldOn DST_ENABLE d || (Tab.get {} s.store.dsts d).stopping) && s.fld DST_PLANE d == p)).length +
  (s.cfg.cmps.filter (fun e => e.2.enabled && e.2.plane == p + 1)).length +
  ((List.range 32).filter (fun c => s.fld PROBE_TRIG_PLANE c == p + 1)).length

end Sys2Proof.Machine
end

