-- ==== Sys2Proof/Machine/Takes.lean ====
section
/-! DEFINITION. Takes: order at a boundary, staged views, ownership of members, the seal, the decision, refusal and
discard (R169 .. R173, R176 .. R183, R187 .. R192). -/

namespace Sys2Proof.Machine
open Reg

/-! ### Boundaries of objects (R169, R223) -/

def State.dstRun (s : State) (d : Nat) : DstRun := Tab.get {} s.store.dsts d

def State.setDstRun (s : State) (d : Nat) (x : DstRun) : State :=
  { s with store := { s.store with dsts := Tab.set {} s.store.dsts d x } }

def State.cmpRun (s : State) (c : Nat) : CmpRun := Tab.get {} s.store.cmps c

def State.setCmpRun (s : State) (c : Nat) (x : CmpRun) : State :=
  { s with store := { s.store with cmps := Tab.set {} s.store.cmps c x } }

def State.dstClock (s : State) (d : Nat) : ObjClock :=
  { s.planeClock (s.fld DST_PLANE d) with phase := signed 32 (s.fld DST_PHASE_NS d), lead := s.fld DST_LEAD_EXTRA_US d }

/-- The clock of compositor c under settings m. -/
def State.cmpClock (s : State) (c : Nat) (m : CmpCfg) : ObjClock :=
  let k : ObjClock := if m.plane = 0 then { rate := s.cmpRate m } else s.planeClock (m.plane - 1)
  { k with rate := s.cmpRate m, phase := signed 32 (s.fld CMP_PHASE_NS c), lead := s.fld CMP_LEAD_EXTRA_US c }

/-- Compositor c with the plane that its frames go on on (R169); while an enable waits for its first frame start, the
compositor counts as enabled on the plane to come (R246). -/
def State.cmpNow (s : State) (c : Nat) : CmpCfg :=
  let m := s.cfg.cmp c
  let p := (s.cmpRun c).moveTo
  if p = 0 then m else { m with plane := p, enabled := true }

/-- The destination runs or is still to stop (R216). -/
def State.dstOn (s : State) (d : Nat) : Bool := s.fldOn DST_ENABLE d || (s.dstRun d).stopping

/-- The object has frame starts or blocks to come (R170); without them a change is stored at the milepost. -/
def State.hasBoundary (s : State) (obj : Nat) : Bool :=
  if obj < 1024 then s.dstOn obj && (s.dstClock obj).rate != 0
  else if obj < 2048 then
    let m := s.cmpNow (obj - 1024)
    m.enabled && s.cmpRate m != 0
  else decide (obj < objInstant)

/-- The first boundary of an object at which its selection instant is not before an instant (R171). -/
def State.firstBoundary (s : State) (obj : Nat) (from' : Nat) : Option Int :=
  let run (o : ObjRun) (c : ObjClock) : Option Int :=
    if c.rate = 0 then none
    else
      let lead : Int := leadNs o.leadUsed
      let (_, f, ph) := o.next c
      some (c.startOf ph (c.firstFrom ph (max f ((from' : Int) + lead)) 0))
  if obj < 1024 then run (s.dstRun obj).obj (s.dstClock obj)
  else if obj < 2048 then
    let c := obj - 1024
    run (s.cmpRun c).obj (s.cmpClock c (s.cmpNow c))
  else none

/-- Frame period of a destination or compositor in ns; 0 for other objects (R178). -/
def State.objPeriod (s : State) (obj : Nat) : Nat :=
  if obj < 1024 then periodNs (s.dstClock obj).rate
  else if obj < 2048 then periodNs (s.cmpRate (s.cfg.cmp (obj - 1024)))
  else 0

/-! ### Takes in order (R180) -/

def Take.same (a b : Take) : Bool := a.kind == b.kind && a.part == b.part && a.group == b.group && a.seq == b.seq

def Take.touches (k : Take) (obj : Nat) : Bool := k.marks.contains obj || k.todo.any (fun c => c.obj == obj)

/-- The kind's place in the order at one boundary. -/
def Take.order (k : Take) : Nat :=
  match k.kind with
  | .flip => 0
  | .group => 1
  | .internal => 1
  | .immediate => 2

def Take.before (a b : Take) : Bool := decide (a.order < b.order ∨ (a.order = b.order ∧ a.seq ≤ b.seq))

def insertTake (k : Take) : List Take → List Take
  | [] => [k]
  | x :: xs => if k.before x then k :: x :: xs else x :: insertTake k xs

def sortTakes (ks : List Take) : List Take := ks.foldr insertTake []

/-- The take applies at a boundary f with a lead: an immediate take when its selection instant is at least 100 µs after
t_c (R171), any other once decided and at or after its milepost (R179). -/
def Take.dueAt (k : Take) (f : Int) (lead : Nat) : Bool :=
  match k.kind with
  | .immediate => decide ((k.t : Int) + 100000 + lead ≤ f)
  | _ => k.state == .decided && decide ((k.t : Int) ≤ f)

def State.dueTakes (s : State) (obj : Nat) (f : Int) (lead : Nat) : List Take :=
  sortTakes (s.take.takes.filter (fun k => k.touches obj && k.dueAt f lead))

def State.setTakes (s : State) (ks : List Take) : State := { s with take := { s.take with takes := ks } }

def State.updTake (s : State) (k : Take) (f : Take → Take) : State :=
  s.setTakes (s.take.takes.map (fun x => if x.same k then f x else x))

def State.removeTake (s : State) (k : Take) : State := s.setTakes (s.take.takes.filter (fun x => !x.same k))

def State.findGroup (s : State) (p g : Nat) : Option Take :=
  s.take.takes.find? (fun k => k.kind == .group && k.part == p && k.group == g)

/-- The flip of partition p that is scheduled, sealed or settling (R81, R190). -/
def State.flipOf (s : State) (p : Nat) : Option Take := s.take.takes.find? (fun k => k.kind == .flip && k.part == p)

def State.bank (s : State) (p : Nat) : Bank := Tab.get {} s.take.banks p

def State.setBank (s : State) (p : Nat) (b : Bank) : State :=
  { s with take := { s.take with banks := Tab.set {} s.take.banks p b } }

/-- The next commit sequence number is taken (R180). -/
def State.takeSeq (s : State) : State := { s with take := { s.take with nextSeq := s.take.nextSeq + 1 } }

/-! ### Views (R73, R176, R187) -/

/-- One object of a configuration replaced by that of another (R189). -/
def Cfg.switch (g copies : Cfg) (obj : Nat) : Cfg :=
  if obj < 1024 then g.setDst obj (copies.dst obj)
  else if obj < 2048 then g.setCmp (obj - 1024) (copies.cmp (obj - 1024))
  else g.setChan (obj - 2048) (copies.chan (obj - 2048))

/-- What a take makes of one object of a configuration. -/
def State.takeOn (s : State) (g : Cfg) (obj : Nat) (k : Take) : Cfg :=
  let g := if k.marks.contains obj then g.switch (s.bank k.part).copies obj else g
  s.cfgSteps g (k.todo.filter (fun c => c.obj == obj))

/-- The configuration that governs the boundary f of an object: the committed one and every take due there (R169). -/
def State.cfgAt (s : State) (obj : Nat) (f : Int) (lead : Nat) : Cfg :=
  (s.dueTakes obj f lead).foldl (fun g k => s.takeOn g obj k) s.cfg

/-- A whole take on a configuration. -/
def State.takeAll (s : State) (g : Cfg) (k : Take) : Cfg :=
  s.cfgSteps (k.marks.foldl (fun g o => g.switch (s.bank k.part).copies o) g) k.todo

/-- The committed state with the staged state of partition p (R73). -/
def State.stagedCfg (s : State) (p : Nat) : Cfg :=
  (s.take.takes.filter (fun k => k.part == p && k.state != .failed)).foldl s.takeAll s.cfg

/-- The view of a bank write that touches some objects: the staged state with the partition's marked copies; an object
not yet marked starts from its active copy (R187). -/
def State.bankCfg (s : State) (p : Nat) (objs : List Nat) : Cfg :=
  let b := s.bank p
  let g := b.marks.foldl (fun g o => g.switch b.copies o) (s.cfgSteps (s.stagedCfg p) b.steps)
  (objs.filter (fun o => !b.marks.contains o)).foldl (fun g o => g.switch s.cfg o) g

/-- Bankable objects are destinations, compositors and channels. -/
def bankable (obj : Nat) : Bool := decide (obj < objInstant)

/-! ### References and ownership of members (R41, R45, R46, R182) -/

/-- The source whose input window holds a pool input channel (R355). -/
def State.chanSource (s : State) (ch : Nat) : Option Nat :=
  (List.range 1024).find? (fun n =>
    decide (s.fld AIN_BASE 0 n ≤ ch ∧ ch < s.fld AIN_BASE 0 n + s.fld AIN_COUNT 0 n))

/-- Partition p may read pool input channel ch; a channel in no window is read by nobody (R355). -/
def State.mayReadChan (s : State) (p ch : Nat) : Bool :=
  match s.chanSource ch with
  | some n => s.mayRead p n
  | none => false

def wordAt (ws : List Nat) (i : Nat) : Nat := ws.getD i 0

/-- Fields of a flow context (R312). -/
def flowDir (ws : FlowWords) : Nat := bitField (wordAt ws 0) 0 2
def flowType (ws : FlowWords) : Nat := bitField (wordAt ws 0) 4 3
def flowPort (ws : FlowWords) : Nat := bitField (wordAt ws 0) 8 6
def flowLeg (ws : FlowWords) : Nat := bitField (wordAt ws 0) 14 2
def flowObj (ws : FlowWords) : Nat := bitField (wordAt ws 1) 0 11
def flowPool (ws : FlowWords) : Nat := bitField (wordAt ws 2) 0 15
def flowChannels (ws : FlowWords) : Nat := bitField (wordAt ws 2) 16 7
def flowIsAudio (ws : FlowWords) : Bool := flowType ws == 2 || flowType ws == 3

/-- Resources that the issuer of a flow command must own: the port, the bound source or destination (R75), and for a
send audio context the output groups of its channels (R373). -/
def flowOris (ws : FlowWords) : List Nat :=
  if ws.isEmpty then []
  else
    [oriPort (flowPort ws), if flowDir ws = 1 then oriSrc (flowObj ws) else oriDst (flowObj ws)] ++
    (if flowDir ws = 2 ∧ flowIsAudio ws then
      (List.range 512).filterMap (fun g =>
        if flowPool ws < 64 * (g + 1) ∧ 64 * g < flowPool ws + flowChannels ws then some (oriGroup g) else none)
     else [])

/-- Resources that the issuer of a change must own. -/
def Change.oris : Change → List Nat
  | .route d .. => [oriDst d]
  | .audioMap o .. => [oriGroup (o / 64)]
  | .audioGain o .. => [oriGroup (o / 64)]
  | .layer c .. => [oriCmp c]
  | .compSet c .. => [oriCmp c]
  | .freshDst d _ => [oriDst d]
  | .freshLayer c .. => [oriCmp c]
  | .alloc n _ _ explicit => if explicit then [oriSrc n] else []
  | .holdBuf .. => []
  | .ancInsert d .. => [oriDst d]
  | .flowAdd _ ws => flowOris ws
  | .flowDel _ ws => flowOris ws
  | .probeCtl c .. => [oriProbe c]

/-- Sources that a change names (R43). -/
def Change.namedSrcs : Change → List Nat
  | .route _ src .. => if src = 2047 then [] else [src]
  | .layer _ _ x => (if x.src = 2047 then [] else [x.src]) ++ (x.tiles.map (·.src)).filter (· != 2047)
  | _ => []

/-- Pool input channels that a change names. -/
def Change.chans : Change → List Nat
  | .audioMap _ w0 w1 =>
    (if bitAt w0 31 then [bitField w0 16 15] else []) ++ (if bitAt w1 15 then [bitField w1 0 15] else [])
  | _ => []

/-- The resource of a bankable object. -/
def objOri (obj : Nat) : Nat :=
  if obj < 1024 then oriDst obj else if obj < 2048 then oriCmp (obj - 1024) else oriGroup ((obj - 2048) / 64)

/-- Why partition p may not make a change: the reason of GROUP_REFUSED and the ORI or source (R192). -/
def State.changeBarred (s : State) (p : Nat) (c : Change) : Option (Nat × Nat) :=
  match c.oris.find? (fun o => !s.mayChange p o) with
  | some o => some (1, o)
  | none =>
    match c.namedSrcs.find? (fun n => !s.mayRead p n) with
    | some n => some (2, n)
    | none =>
      match c.chans.find? (fun ch => !s.mayReadChan p ch) with
      | some ch => some (2, (s.chanSource ch).getD 2047)
      | none => none

/-- References that one object of a configuration makes. -/
def Cfg.refsOf (g : Cfg) (obj : Nat) : List (Nat × Nat) := g.refs.filter (fun r => r.2 == obj)

/-- The same for a marked object and the sources that its copy names (R189). -/
def State.markBarred (s : State) (p obj : Nat) : Option (Nat × Nat) :=
  if s.mayChange p (objOri obj) then
    let copies := (s.bank p).copies
    match (copies.refsOf obj).find? (fun r => !s.mayRead p r.1) with
    | some r => some (2, r.1)
    | none =>
      if 2048 ≤ obj then
        let x := copies.chan (obj - 2048)
        match (Change.audioMap 0 x.map0 x.map1).chans.find? (fun ch => !s.mayReadChan p ch) with
        | some ch => some (2, (s.chanSource ch).getD 2047)
        | none => none
      else none
  else some (1, objOri obj)

/-- The first member of a take that fails the second check of R46. -/
def State.takeBarred (s : State) (k : Take) : Option (Nat × Nat) :=
  match k.marks.findSome? (s.markBarred k.part) with
  | some x => some x
  | none => k.todo.findSome? (s.changeBarred k.part)

/-- Staged references of every partition: source and object (R41, R182). -/
def State.stagedRefs (s : State) : List (Nat × Nat) :=
  (s.take.takes.flatMap (fun k => k.todo.flatMap Change.refs)) ++
  (s.take.banks.flatMap (fun b => b.2.marks.flatMap (fun o => b.2.copies.refsOf o)))

/-- The object's resource as an ORI, for an object that makes references. -/
def refOri (obj : Nat) : Nat := objOri obj

/-- Sources that the filters of ANC queues and the windows of probe cores name (R394, R417), each with the resource that
names it. DESIGN CHOICE, log 74: the binding of an AES3 input, which the spec lists nowhere among references, is none. -/
def State.namedSources (s : State) : List (Nat × Nat) :=
  ((List.range 256).map (fun q => (s.fld ANCQ_FSRC q, oriQueue q)) ++
    (List.range 128).map (fun i => (s.fld WIN_SRC (i / 4) (i % 4), oriProbe (i / 4)))).filter (fun r => r.1 != 2047)

/-- Output groups that a map gives a pool input channel of a source, as references to that source (R355). -/
def State.mapRefs (s : State) (out w0 w1 : Nat) : List (Nat × Nat) :=
  ((Change.audioMap out w0 w1).chans.filterMap s.chanSource).map (fun n => (n, oriGroup (out / 64)))

/-- References of maps, committed and staged. -/
def State.chanRefs (s : State) : List (Nat × Nat) :=
  s.cfg.chans.flatMap (fun e => s.mapRefs e.1 e.2.map0 e.2.map1) ++
  s.take.takes.flatMap (fun k => k.todo.flatMap (fun c => match c with
    | .audioMap o w0 w1 => s.mapRefs o w0 w1
    | _ => [])) ++
  s.take.banks.flatMap (fun b => (b.2.marks.filter (fun o => decide (2048 ≤ o))).flatMap (fun o =>
    let x := b.2.copies.chan (o - 2048)
    s.mapRefs (o - 2048) x.map0 x.map1))

/-- The owner of resource `ori` owns resource `by'` too. Nobody owns an unowned one (R41). -/
def State.sameOwner (s : State) (ori by' : Nat) : Bool := (s.owner ori).isSome && s.owner by' == s.owner ori

/-- REFS of a resource (R41): references by resources that its owner does not own, unowned ones included. Input channels
count for the source whose window holds them. DESIGN CHOICE, log 74: each route part, layer source, tile, filter, window
and map input is one reference; of a count above 4,095 the field shows the low 12 bits. -/
def State.refsTo (s : State) (ori : Nat) : Nat :=
  ((s.cfg.refs ++ s.stagedRefs).filter (fun r => oriSrc r.1 == ori && !s.sameOwner ori (refOri r.2))).length +
  ((s.namedSources ++ s.chanRefs).filter (fun r => oriSrc r.1 == ori && !s.sameOwner ori r.2)).length

/-- Partition p holds a staged change that touches a resource: a member, a marked copy or a source that it names
(R45, R182). -/
def State.stagedTouches (s : State) (p ori : Nat) : Bool :=
  (s.take.takes.any (fun k => k.part == p && (k.marks.any (fun o => objOri o == ori) ||
    k.todo.any (fun c => c.oris.contains ori || c.namedSrcs.any (fun n => oriSrc n == ori))))) ||
  (let b := s.bank p
   b.marks.any (fun o => objOri o == ori || (b.copies.refsOf o).any (fun r => oriSrc r.1 == ori)) ||
   b.steps.any (fun c => c.oris.contains ori))

/-! ### Reservations (R130, R207) -/

/-- A step takes what it needs in reserve; none when the pool cannot supply it. -/
def State.reserve (s : State) : Change → Option State
  | .alloc _ sh pages _ => if s.poolHas sh.mask pages then some (s.reservePages sh.mask pages) else none
  | .holdBuf _ bytes =>
    let n := s.store.holdBytes + bytes
    if s.poolHas 0 (holdPages n - holdPages s.store.holdBytes) then some (s.setHoldBytes n) else none
  | _ => some s

def State.reserveAll (s : State) (cs : List Change) : Option State :=
  cs.foldl (fun acc c => acc.bind (fun s => s.reserve c)) (some s)

/-- The reservation of a step returns. -/
def State.unreserve (s : State) : Change → State
  | .alloc _ sh pages _ => s.unreservePages sh.mask pages
  | .holdBuf _ bytes => s.setHoldBytes (s.store.holdBytes - bytes)
  | _ => s

/-- A group, flip or internal take ends without applying; a group's reservations return, a flip's stay with the bank. -/
def State.discardTake (s : State) (k : Take) : State :=
  let s := s.when (k.kind != .flip) (fun s => s.each k.todo State.unreserve)
  s.removeTake k

/-- A member of a group is refused: its group, if it is open, has failed (R72). -/
def State.failGroup (s : State) (r : Request) : State :=
  if r.checkOnly ∨ r.group = 0 ∨ allowsGroup r.opcode = false then s
  else
    match s.findGroup r.part r.group with
    | some k => if k.state = .opened then s.updTake k (fun k => { k with state := .failed }) else s
    | none => s

/-- A take whose staging deadline has not passed. -/
def State.unsealed (s : State) (k : Take) : Bool :=
  match k.state with
  | .opened => k.kind != .immediate
  | .failed => true
  | .scheduled => decide (s.now + 2000000 < k.t)
  | _ => false

/-- Partition p's bank is discarded (R188). -/
def State.discardBank (s : State) (p : Nat) : State :=
  let s := s.each (s.bank p).steps State.unreserve
  (s.setBank p {}).setFld TK_BANK_CHANGES 0 p

/-- Every group of p whose staging deadline has not passed is aborted, an unsealed flip is cancelled and, unless a
sealed flip needs it, the bank is discarded (R51, R54, R188, R191). -/
def State.abortPart (s : State) (p : Nat) : State :=
  let ks := s.take.takes.filter (fun k => k.part == p && s.unsealed k)
  let s := s.each ks State.discardTake
  if (s.flipOf p).isSome then s else s.discardBank p

/-! ### Messages of a take (R440, R446) -/

/-- The first payload word of GROUP_END, GROUP_ACK and DECISION. -/
def Take.word (k : Take) : Nat :=
  let kind := match k.kind with
    | .group => 0
    | .flip => 1
    | _ => 2
  word64 (k.part + 2 ^ 8 * kind + 2 ^ 16 * k.group) k.seq

/-- GROUP_END is sent when a take is scheduled while the peer follows. -/
def State.sendGroupEnd (s : State) (k : Take) : State :=
  s.when s.mirrors (fun s => s.send Msg.GROUP_END [k.word, k.t, k.count])

/-! ### Seal and decision (R177, R178, R191) -/

/-- A group or flip is refused (R192); internal takes raise no event. -/
def State.refuseTake (s : State) (k : Take) (reason what : Nat) : State :=
  let s := s.discardTake k
  if k.kind = .internal then s
  else
    (s.addFld TK_REFUSED 1 k.part).raise Ev.GROUP_REFUSED
      { index := k.group, sub := k.deferrals, data := reason + 2 ^ 16 * what, dest := [k.part] }

/-- A sealed take joins the queue of the take sequencer, which copies at least 8 changes per µs in the order of the seals
(R177): the grid time at which its last change is copied at the latest. A flip needs no copying (R189). -/
def State.queueCopy (s : State) (k : Take) : State :=
  if k.kind = .flip then s.updTake k (fun k => { k with state := .sealed })
  else
    let done := max s.time.grid s.take.copyBusy + 125 * k.count
    let s := { s with take := { s.take with copyBusy := done } }
    s.updTake k (fun k => { k with state := .sealed, copiedBy := done })

/-- A take is sealed, or refused when a member fails the second check. A standby answers for the seal (R440). -/
def State.sealTake (s : State) (k : Take) : State :=
  match s.takeBarred k with
  | some (reason, what) =>
    let s := s.when s.follows (fun s => s.send Msg.GROUP_ACK [k.word, 2])
    s.refuseTake k reason what
  | none =>
    let s := s.queueCopy k
    s.updTake k (fun k => { k with ackDue := s.follows })

/-- The power domain, equal to the island, that carries an object (R22, R472). -/
def State.objDomain (s : State) (obj : Nat) : Nat :=
  if obj < 1024 then 108 + (s.dstRun obj).island - 1
  else if obj < 2048 then 124 + (obj - 1024) / 8
  else 137

/-- The islands of the members of a take. -/
def State.takeDomains (s : State) (k : Take) : List Nat :=
  k.marks.map s.objDomain ++ k.todo.flatMap (fun c =>
    match c with
    | .alloc n .. => if n < 1024 then (if (s.src n).island = 0 then [] else [92 + (s.src n).island - 1]) else [124 + (n - 1024) / 8]
    | .flowAdd _ ws => [76 + flowPort ws / 4]
    | .flowDel _ ws => if ws.isEmpty then [] else [76 + flowPort ws / 4]
    | .probeCtl c .. => [139 + c]
    | .holdBuf .. => []
    | c => [s.objDomain c.obj])

/-- A domain's islands are held in reset: it is not ON, or the safe state holds them (R463, R530). -/
def State.heldInReset (s : State) (dom : Nat) : Bool := s.fld DOM_DSTATE dom != 0 || s.safe

/-- The cause of a failed decision (R178, R192); none when the take applies. -/
def State.decisionFails (s : State) (k : Take) (copied : Bool) : Option Nat :=
  if k.kind ≠ .flip ∧ copied = false then some 1
  else if s.paired && k.mirrored && !k.acked then some 2
  else if (s.takeDomains k).any s.heldInReset then some 3
  else none

/-- A decision is sent to the standby (R440). -/
def State.sendDecision (s : State) (k : Take) (apply : Bool) : State :=
  s.when s.mirrors (fun s => s.send Msg.DECISION [k.word, bit apply, k.t])

/-- A take defers, or is refused when it has deferred DEFER_MAX times. -/
def State.deferTake (s : State) (k : Take) (cause : Nat) : State :=
  if s.fld TK_DEFER_MAX k.part ≤ k.deferrals then s.refuseTake k 3 0
  else
    let k' := { k with t := k.t + k.step, deferrals := k.deferrals + 1 }
    let s := (s.updTake k (fun _ => k')).sendDecision k' false
    if k.kind = .internal then s
    else
      (s.addFld TK_DEFERRED 1 k.part).raise Ev.GROUP_DEFERRED
        { index := k.group, sub := k'.deferrals, data := cause + 2 ^ 8 * (k'.t % 2 ^ 56), dest := [k.part] }

/-- The decision on a take, given whether every member has been copied. -/
def State.decideTake (s : State) (k : Take) (copied : Bool) : State :=
  match s.decisionFails k copied with
  | some cause => s.deferTake k cause
  | none =>
    let k' := { k with state := .decided }
    (s.updTake k (fun _ => k')).sendDecision k' true

/-- The deferral step of a take (R178). -/
def State.takeStep (s : State) (objs : List Nat) : Nat :=
  let p := (objs.map s.objPeriod).foldl max 0
  if p = 0 then 1000000 else ceilDiv p 1000000 * 1000000

end Sys2Proof.Machine
end

