-- ==== Sys2Proof/Machine/AudioPool.lean ====
section
/-! DEFINITION. The audio pool: input windows, feeds, fades, and what every pool input channel plays at a tick
(R354 .. R365). -/

namespace Sys2Proof.Machine
open Reg

/-! ### Channels and windows -/

def State.chanIn (s : State) (ch : Nat) : ChanIn := Tab.get {} s.audio.ins ch

def State.setChanIn (s : State) (ch : Nat) (x : ChanIn) : State :=
  { s with audio := { s.audio with ins := Tab.set {} s.audio.ins ch x } }

def State.chanOut (s : State) (o : Nat) : ChanOut := Tab.get {} s.audio.outs o

def State.setChanOut (s : State) (o : Nat) (x : ChanOut) : State :=
  { s with audio := { s.audio with outs := Tab.set {} s.audio.outs o x } }

def State.audSrc (s : State) (n : Nat) : AudSrc := Tab.get {} s.audio.srcs n

def State.setAudSrc (s : State) (n : Nat) (x : AudSrc) : State :=
  { s with audio := { s.audio with srcs := Tab.set {} s.audio.srcs n x } }

def State.audGroup (s : State) (g : Nat) : AudGroup := Tab.get {} s.audio.groups g

def State.setAudGroup (s : State) (g : Nat) (x : AudGroup) : State :=
  { s with audio := { s.audio with groups := Tab.set {} s.audio.groups g x } }

/-- The first channel and the count of the input window of source n (R355). -/
def State.winBase (s : State) (n : Nat) : Nat := s.fld AIN_BASE 0 n
def State.winCount (s : State) (n : Nat) : Nat := s.fld AIN_COUNT 0 n

/-- Windows [b, b + n) and [b', b' + n') share a channel. -/
def rangesMeet (b n b' n' : Nat) : Bool := decide (0 < n ∧ 0 < n' ∧ b < b' + n' ∧ b' < b + n)

/-- The channel is in the window of source n. -/
def State.inWindow (s : State) (n ch : Nat) : Bool :=
  decide (n < 1024 ∧ s.winBase n ≤ ch ∧ ch < s.winBase n + s.winCount n)

/-- Source n holds COUNT ASRC channels (R360, R363, R364). -/
def State.usesAsrc (s : State) (n : Nat) : Bool := s.fld AIN_CLK 0 n == 2 || s.fldOn AINST_AUTO_ASRC 0 n

/-- A channel of source n that some feed writes is resampled: every one under CLK = 2 and of an AES3 input, a de-embedded
one after a switch (R360, R364). -/
def State.resampled (s : State) (n feed : Nat) : Bool :=
  feed == 3 || s.fld AIN_CLK 0 n == 2 || (feed == 1 && s.fldOn AINST_AUTO_ASRC 0 n)

/-- ASRC channels reserved (R363): two for each enabled AES3 input, COUNT for each window that is resampled. -/
def State.asrcUsed (s : State) : Nat :=
  2 * ((List.range 64).filter (fun i => s.fldOn AESIN_EN i)).length +
    (((List.range 1024).filter s.usesAsrc).map s.winCount).sum

def asrcTotal : Nat := 1024

/-- The alignment group that holds a channel (R365). -/
def State.alignGroup (s : State) (ch : Nat) : Option Nat :=
  (List.range 512).find? (fun g =>
    decide (s.fld AGRP_AG_BASE 0 g ≤ ch ∧ ch < s.fld AGRP_AG_BASE 0 g + s.fld AGRP_AG_COUNT 0 g))

/-- Channels that a feed writes, in order. -/
def State.fedChannels (s : State) : List Nat := s.audio.ins.map (·.1)

/-! ### Fades (R367) -/

def fadeOut (v : Int) (i : Nat) : Int := (v * (48 - i : Int) + 24) / 48
def fadeIn (v : Int) (i : Nat) : Int := (v * (i : Int) + 24) / 48
def crossFade (old new : Int) (i : Nat) : Int := (old * (48 - i : Int) + new * (i : Int) + 24) / 48

/-! ### Feeds write (R356, R358, R361, R362) -/

/-- A sample of a width of bits as a pool value (R354). -/
def poolValue (bits v : Nat) : Int := signed bits v * 2 ^ (32 - bits)

/-- A de-embedded or received sample as the pool holds it. -/
def sideSample (x : SideSample) : Sample :=
  { v := poolValue 24 x.x.toNat, side := bit x.v + 2 * bit x.u + 4 * bit x.c + 8 * bit x.z }

/-- The channel as a feed of source n finds it: anew when another feed wrote it. -/
def State.feedChan (s : State) (n feed ch : Nat) : ChanIn :=
  let x := s.chanIn ch
  if x.src = n ∧ x.feed = feed then { x with asrc := x.asrc || feed == 3 }
  else { src := n, feed := feed, asrc := s.resampled n feed }

/-- A feed writes one sample into the FIFO of a channel; a full FIFO takes no more (R362). Before a resampled channel plays
it holds the 72 samples of its delay (R363). -/
def State.writeFifo (s : State) (n feed ch : Nat) (x : Sample) : State :=
  let c := s.feedChan n feed ch
  let fifo := if c.fifo.length < 128 then c.fifo ++ [x] else c.fifo
  s.setChanIn ch { c with
    since := if c.asrc ∧ c.since = 0 then s.time.grid + 1 else c.since
    fifo := if c.asrc ∧ ¬c.playing then fifo.drop (fifo.length - 72) else fifo }

/-- The sample index nearest to a tick whose low 32 bits equal a timestamp (R361). -/
def nearestIndex (k r : Nat) : Nat :=
  let m := 2 ^ 32
  let base := k / m * m + r % m
  if base + m / 2 < k then base + m
  else if k + m / 2 < base ∧ m ≤ base then base - m
  else base

/-- A flow writes a sample with timestamp r; `span` is the merge ring's span in samples. -/
def State.writeFlowSample (s : State) (n ch span r : Nat) (x : Sample) : State :=
  let c := s.feedChan n 2 ch
  let k := s.sampleIndex - 1
  if c.asrc then s.writeFifo n 2 ch x
  else s.setChanIn ch { c with span := span, ring := Tab.insert c.ring (nearestIndex k r) x }

/-- The input of a channel is present: a de-embedded channel while its source is PRESENT; a flow channel while a
context that feeds its source is not DOWN; an AES3 input by its own state (R362, R363). -/
def State.feedPresent (s : State) (c : ChanIn) : Bool :=
  if c.feed = 1 then s.srcState c.src == 2
  else if c.feed = 2 then
    s.media.flows.any (fun e =>
      match e.2 with
      | some f => flowIsAudio f.words && flowDir f.words == 1 && flowObj f.words == c.src && !f.down
      | none => false)
  else c.locked

/-! ### What a channel plays -/

/-- LINK_OFS in use for a channel (R361). -/
def State.linkOfs (s : State) (c : ChanIn) : Nat := min (s.fld AIN_LINK_OFS 0 c.src) c.span

/-- The sample whose deadline is tick k has arrived (R361); with no offset none does. -/
def State.deadlineMet (s : State) (c : ChanIn) (k : Nat) : Bool :=
  let o := s.linkOfs c
  decide (0 < o ∧ o ≤ k + 48) && (Tab.find? c.ring (k + 48 - o)).isSome

/-- What the ASRC filter gives in a phase for the samples in reach of its taps, newest first: rounded half-up (R363). -/
def asrcOut (phase : Nat) (xs : List Sample) : Int :=
  let one : Int := 2 ^ (Config.asrcShift + 1)
  let t := ((List.range 64).map (fun i => Config.asrcCoef phase i * (xs.getD i {}).v)).sum
  satSigned 32 ((t + one / 2) / one)

/-- The read position of a resampled channel moves on by its ratio, in 1,024 phases of a sample (R363). -/
def ChanIn.resample (c : ChanIn) : Int × ChanIn :=
  let p := c.pos + c.ratio
  let n := p / 2 ^ 28
  let c := { c with
    pos := p % 2 ^ 28, fifo := c.fifo.drop n, played := ((c.fifo.take n).reverse ++ c.played).take 64 }
  (asrcOut (c.pos / 2 ^ 18) c.played, c)

/-- The sample that a channel takes at tick k before fades, and the channel after it. -/
def State.takeSample (s : State) (c : ChanIn) (k : Nat) : Sample × ChanIn :=
  if c.asrc then
    let (v, c) := c.resample
    ({ v := v, side := if c.feed = 3 then c.side else 0 }, c)
  else if c.feed = 2 then
    let o := s.linkOfs c
    (if o ≤ k then (Tab.find? c.ring (k - o)).getD {} else {}, { c with ring := c.ring.filter (fun e => decide (k < e.1 + o)) })
  else
    match c.fifo with
    | [] => ({}, c)
    | x :: rest => (x, { c with fifo := rest, played := (x :: c.played).take 24 })

/-- The channel ends its fade-out: it is silent. -/
def ChanIn.silentChan (c : ChanIn) : ChanIn :=
  { c with
    fout := none, playing := false, fin := 48, cross := []
    fifo := if c.asrc ∨ (c.feed = 1 ∧ c.under) then [] else c.fifo }

/-- One tick of a channel: what it plays at tick k, and the channel after it. -/
def State.playChan (s : State) (c : ChanIn) (k : Nat) : Sample × ChanIn :=
  if !c.playing && c.fout.isNone then ({}, c)
  else
    let (x, c) := s.takeSample c k
    let (v, c) :=
      match c.cross with
      | [] => (x.v, c)
      | o :: rest => (crossFade o.v x.v (48 - c.cross.length), { c with cross := rest })
    let (v, c) := if c.fin < 48 then (fadeIn v c.fin, { c with fin := c.fin + 1 }) else (v, c)
    match c.fout with
    | none => ({ x with v := v }, c)
    | some i =>
      let y := { x with v := fadeOut v i }
      if 47 ≤ i then (y, c.silentChan) else (y, { c with fout := some (i + 1) })

/-! ### Decisions (R361 .. R365, R441) -/

/-- Channels of source n in underrun. -/
def State.underCount (s : State) (n : Nat) : Nat :=
  (s.audio.ins.filter (fun e => e.2.src == n && e.2.under)).length

/-- A channel underruns: it fades out over the samples that are left and is then silent (R361, R362). -/
def State.underrun (s : State) (ch : Nat) : State :=
  let c := s.chanIn ch
  let s := s.setChanIn ch { c with fout := some 0, under := true }
  let s := s.addFld AINST_UNDERRUNS 1 0 c.src
  let a := s.audSrc c.src
  if a.lastUnder = 0 ∨ a.lastUnder - 1 + 10 ^ 9 ≤ s.time.grid then
    (s.setAudSrc c.src { a with lastUnder := s.time.grid + 1 }).raise Ev.AUD_UNDERRUN
      { index := c.src, sub := ch - s.winBase c.src, data := s.underCount c.src, dest := s.ownerList (oriSrc c.src) }
  else s

/-- A silent channel plays again, with a fade-in. -/
def State.reenter (s : State) (ch : Nat) : State :=
  s.setChanIn ch { s.chanIn ch with playing := true, fin := 0, fout := none, under := false, cross := [] }

/-- The read point of a de-embedder FIFO moves 24 samples toward 72, with a crossfade from the old position (R362). -/
def ChanIn.slip (c : ChanIn) (forward : Bool) : ChanIn :=
  { c with
    cross := c.fifo.take 48
    fifo := if forward then c.fifo.drop 24 else c.played.reverse ++ c.fifo }

/-- A SYNC de-embedded channel that plays. -/
def ChanIn.slips (c : ChanIn) : Bool := c.feed == 1 && !c.asrc && c.playing

/-- Alignment groups that hold a playing SYNC de-embedded channel of source n. -/
def State.slipGroups (s : State) (n : Nat) : List Nat :=
  ((s.audio.ins.filter (fun e => e.2.src == n && e.2.slips)).filterMap (fun e => s.alignGroup e.1)).eraseDups

/-- The channels that a slip of source n moves: the SYNC de-embedded ones of its own de-embedder, which has one read point,
and of the alignment groups that it has members in (R362, R365). DEDUCED, log 60. -/
def State.slipSet (s : State) (n : Nat) : List Nat :=
  let gs := s.slipGroups n
  s.fedChannels.filter (fun x => (s.chanIn x).slips &&
    ((s.chanIn x).src == n || (match s.alignGroup x with | some g => gs.contains g | none => false)))

/-- Sources of windows that share an alignment group with a window of one of some sources. -/
def State.groupMates (s : State) (ns : List Nat) : List Nat :=
  let holds := fun (m g : Nat) => rangesMeet (s.winBase m) (s.winCount m) (s.fld AGRP_AG_BASE 0 g) (s.fld AGRP_AG_COUNT 0 g)
  let gs := (List.range 512).filter (fun g => ns.any (fun m => holds m g))
  (List.range 1024).filter (fun m => ns.contains m || gs.any (holds m))

/-- Mates of mates, until there are no more. -/
def State.allMates (s : State) (ns : List Nat) : Nat → List Nat
  | 0 => ns
  | i + 1 =>
    let ms := s.groupMates ns
    if ms.length = ns.length then ns else s.allMates ms i

/-- The windows that a switch of source n moves: those of the members of its alignment groups and of theirs in turn, which
have a de-embedder and are left to its own clocking (R360, R365). DEDUCED, log 60. -/
def State.switchSet (s : State) (n : Nat) : List Nat :=
  (s.allMates [n] 1024).filter (fun m => m == n || (s.fld AIN_CLK 0 m == 0 && (s.srcKind m == 1 || s.srcKind m == 3)))

/-- The channels of source n switch to ASRC, joined to the SYNC path by a crossfade (R364). -/
def State.switchAsrc (s : State) (n : Nat) : State :=
  let s := s.setFld AINST_AUTO_ASRC 1 0 n
  s.each s.fedChannels (fun s ch =>
    let c := s.chanIn ch
    s.when (c.src = n ∧ c.feed = 1) (fun s =>
      s.setChanIn ch { c with asrc := true, locked := true, cross := if c.playing then c.fifo.take 48 else [] }))

/-- A slip of the de-embedder of source n that would be its third within reach switches it to ASRC when there is room
(R364, R365); true when it switched. -/
def State.trySwitch (s : State) (n : Nat) : State × Bool :=
  if s.fld AIN_CLK 0 n = 0 ∧ (s.audSrc n).twice then
    let set := (s.switchSet n).filter (fun m => !s.usesAsrc m)
    let need := (set.map s.winCount).sum
    let free := asrcTotal - s.asrcUsed
    if need ≤ free then
      ((s.each set (fun s m => s.switchAsrc m)).raise Ev.ASRC_AUTO
        { index := n, data := need, dest := s.ownerList (oriSrc n) }, true)
    else (s.raise Ev.ASRC_SHORT { index := n, data := need + 2 ^ 32 * free, dest := s.ownerList (oriSrc n) }, false)
  else (s, false)

/-- A slip of the de-embedder of source n is counted, in the first of its alignment groups if it has one (R362, R364). -/
def State.countSlip (s : State) (n : Nat) (group : Option Nat) (forward : Bool) : State :=
  let s := s.addFld AINST_SLIPS 1 0 n
  let a := s.audSrc n
  let s := s.setAudSrc n { a with
    lastSlip := s.time.grid + 1
    twice := a.twice || decide (a.lastSlip ≠ 0 ∧ s.time.grid ≤ a.lastSlip - 1 + 10 ^ 10) }
  s.raise Ev.AUD_SLIP
    { index := n, sub := match group with | some g => g + 1 | none => 0
      data := (if forward then 24 else 256 - 24) + 2 ^ 32 * s.fld AINST_SLIPS 0 n
      dest := s.ownerList (oriSrc n) }

/-- The de-embedder of a channel slips, or switches in place of its slip (R362, R364, R365). -/
def State.doSlip (s : State) (ch : Nat) (forward : Bool) : State :=
  let n := (s.chanIn ch).src
  let set := s.slipSet n
  let groups := s.slipGroups n
  let (s, switched) := s.trySwitch n
  if switched then s
  else
    let s := s.each set (fun s x => s.setChanIn x ((s.chanIn x).slip forward))
    let s := s.each groups (fun s g => s.addFld AGRP_AG_SLIPS 1 0 g)
    s.each (set.map (fun x => (s.chanIn x).src)).eraseDups (fun s m => s.countSlip m groups.head? forward)

/-- Channels that a decision concerns: a slip or a switch its de-embedder's or its window's, any other the channel. -/
def State.decSpan (s : State) (kind n : Nat) : Nat :=
  if kind = 2 then (s.slipSet n).length else if kind = 5 then s.winCount n else 1

/-- A ratio estimate that has not locked within 20 ms of the first input sample locks (R363). -/
def State.lateLock (s : State) (ch : Nat) : State :=
  let c := s.chanIn ch
  s.when (c.asrc && !c.locked && (c.feed == 1 || c.feed == 2) &&
      decide (c.since ≠ 0 ∧ c.since - 1 + 20000000 ≤ s.time.grid)) (fun s =>
    s.setChanIn ch { c with locked := true })

/-- A decision as the AUDIO_DEC record carries it (R446). -/
def AudDec.words (d : AudDec) : List Nat :=
  [word64 (d.kind + 2 ^ 4 * d.ch) d.count, word64 d.tick (unsignedOf 32 d.value)]

/-- A decision has been made: it is kept for comparison, and the active device of a pair tells the other. -/
def State.decided (s : State) (d : AudDec) : State :=
  let s := { s with audio := { s.audio with decs := s.audio.decs ++ [d] } }
  s.when s.mirrors (fun s => s.send Msg.AUDIO_DEC d.words)

/-- What a channel decides at tick k: slip, underrun or, for a FIFO or ASRC channel, start. -/
def State.decideChan (s : State) (k ch : Nat) : State :=
  let s := s.lateLock ch
  let c := s.chanIn ch
  let dec (kind : Nat) (v : Int) : AudDec := { kind := kind, ch := ch, count := 1, tick := k, value := v }
  let slipped (s : State) (v : Int) : State :=
    let kind := if (s.chanIn ch).asrc then 5 else 2
    s.decided { dec kind v with count := s.decSpan kind c.src }
  if c.asrc then
    if c.playing ∧ c.fout.isNone ∧ ¬s.feedPresent c then (s.underrun ch).decided (dec 3 0)
    else if ¬c.playing ∧ c.fout.isNone ∧ c.locked ∧ 72 ≤ c.fifo.length ∧ s.feedPresent c then (s.reenter ch).decided (dec 4 0)
    else s
  else if c.feed = 2 then
    if c.playing ∧ c.fout.isNone ∧ ¬s.deadlineMet c k then (s.underrun ch).decided (dec 3 0) else s
  else if c.feed = 1 then
    let fill := c.fifo.length
    if c.playing ∧ c.fout.isNone then
      if fill = 0 ∨ ¬s.feedPresent c then
        ((s.setChanIn ch { c with fifo := c.fifo.take 48 }).underrun ch).decided (dec 3 0)
      else if fill < 52 then slipped (s.doSlip ch false) (-24)
      else if 92 < fill then slipped (s.doSlip ch true) 24
      else s
    else if ¬c.playing ∧ c.fout.isNone ∧ 72 ≤ fill ∧ s.feedPresent c then (s.reenter ch).decided (dec 4 0)
    else s
  else s

/-- Flow channels that re-enter at the 1 ms block that starts at tick k (R361). -/
def State.reenterFlows (s : State) (k : Nat) : State :=
  s.each s.fedChannels (fun s ch =>
    let c := s.chanIn ch
    s.when (c.feed = 2 ∧ c.asrc = false ∧ c.playing = false ∧ c.fout.isNone ∧ 48 ≤ c.met) (fun s =>
      (s.reenter ch).decided { kind := 4, ch := ch, count := 1, tick := k, value := 0 }))

/-- The count of deadlines met of a flow channel after tick k. -/
def State.countDeadline (s : State) (k ch : Nat) : State :=
  let c := s.chanIn ch
  if c.feed = 2 ∧ c.asrc = false then s.setChanIn ch { c with met := if s.deadlineMet c k then c.met + 1 else 0 } else s

/-- Every fed channel at tick k: its decision, then its sample. The list is the pool's input samples of the tick. -/
def State.inputTick (s : State) (k : Nat) : State :=
  let (s, now) := s.fedChannels.foldl (fun (acc : State × Tab Sample) ch =>
    let s := (acc.1.decideChan k ch).countDeadline k ch
    let c := s.chanIn ch
    let (x, c') := s.playChan c k
    (s.setChanIn ch c', if s.inWindow c.src ch then Tab.set {} acc.2 ch x else acc.2)) (s, [])
  { s with audio := { s.audio with hist := (now :: s.audio.hist).take 4904 } }

end Sys2Proof.Machine
end

