-- ==== Sys2Proof/Machine/SdiLines.lean ====
section
/-! DEFINITION. Raster line structure (R274, R275) and lane rates (R272, R300). -/

namespace Sys2Proof.Machine

/-- Total lines of a signal's structure: the scan tells the 1080 rasters apart only in their fields (R274). -/
def firstActive (raster : Nat) (interlaced : Bool) : Nat :=
  match raster with
  | 1 => 21
  | 2 => 23
  | 3 => 26
  | 4 => if interlaced then 21 else 42
  | 5 => 42
  | 6 => 42
  | 7 => 42
  | _ => 0

/-- j2: the plane line at which field 2 starts (R274). -/
def field2Line (raster : Nat) : Nat := match raster with | 1 => 262 | 2 => 313 | 4 => 563 | _ => 0

/-- The line number that corresponds to plane line j (R275). -/
def lineNumber (raster : Nat) (interlaced : Bool) (j : Nat) : Nat :=
  (j + firstActive raster interlaced - 1) % rasterLines raster + 1

/-- The raster whose line structure a link carries: each link of a quad-link signal has 1,125 lines (R274). -/
def linkRaster (link raster : Nat) : Nat :=
  if link ≤ 2 then raster
  else match raster with
    | 6 => 4
    | 7 => 5
    | r => r

/-- A format with the raster whose line structure its links carry. -/
def linkFmt (link f : Nat) : Nat := f / 16 * 16 + linkRaster link (fmtRaster f)

/-- The line of a link that starts with line j of its plane, which counts the lines of the whole raster: a line of a
quad-link signal lasts two of them (R274, R275). -/
def linkLine (link j : Nat) : Option Nat := if link ≤ 2 then some j else if j % 2 = 0 then some (j / 2) else none

/-- The lines that carry the payload identifier (R274). -/
def payloadLines (raster : Nat) (interlaced : Bool) : List Nat :=
  match raster with
  | 1 => [13, 276]
  | 2 => [9, 322]
  | 4 => if interlaced then [10, 572] else [10]
  | _ => [10]

/-- The row of the picture, in stored order, that line j of a raster of `h` active rows carries (R275). -/
def activeRow (raster : Nat) (interlaced : Bool) (h j : Nat) : Option Nat :=
  let top := (h + 1) / 2
  let j2 := field2Line raster
  if interlaced then
    if j < top then some j else if j2 ≤ j ∧ j < j2 + (h - top) then some (top + (j - j2)) else none
  else if j < h then some j
  else none

def switchingLines (raster : Nat) (interlaced : Bool) : List Nat :=
  match raster with
  | 1 => [10, 273]
  | 2 => [6, 319]
  | 4 => if interlaced then [7, 569] else [7]
  | _ => [7]

/-- The switching line or the line that follows it. -/
def nearSwitch (raster : Nat) (interlaced : Bool) (line : Nat) : Bool :=
  (switchingLines raster interlaced).any (fun l => line == l || line == l + 1)

/-- First and last insertion line of each field, or of the frame (R274). -/
def insertionRanges (raster : Nat) (interlaced : Bool) : List (Nat × Nat) :=
  match raster with
  | 1 => [(12, 20), (275, 282)]
  | 2 => [(8, 22), (321, 335)]
  | 3 => [(9, 25)]
  | 4 => if interlaced then [(9, 20), (571, 583)] else [(9, 41)]
  | 5 => [(9, 41)]
  | 6 => [(9, 41)]
  | 7 => [(9, 41)]
  | _ => []

/-- Insertion lines of a range, without the switching line and the line after it. -/
def insertionLines (raster : Nat) (interlaced : Bool) (r : Nat × Nat) : List Nat :=
  ((List.range (r.2 + 1 - r.1)).map (fun i => r.1 + i)).filter (fun l => !nearSwitch raster interlaced l)

def isInsertionLine (raster : Nat) (interlaced : Bool) (line : Nat) : Bool :=
  (insertionRanges raster interlaced).any (fun r => (insertionLines raster interlaced r).contains line)

/-- The plane line that follows the last active line of a field or of the frame (R274, R325). -/
def lineAfterActive (raster : Nat) (interlaced field2 : Bool) : Nat :=
  if interlaced then
    match raster with
    | 1 => if field2 then 505 else 243
    | 2 => if field2 then 601 else 288
    | _ => if field2 then 1103 else 540
  else (rasterSize raster).2

/-! ### Link types (R272) -/

/-- The standard rasters of SD. -/
def isSd (raster : Nat) : Bool := raster == 1 || raster == 2

/-- A rate above 30 frames per second. -/
def highRate (rate : Nat) : Bool := decide (6 ≤ rate)

/-- Link type of a format: 0 SD, 1 HD, 2 3G level A, 3 6G, 4 12G, for a single link. -/
def singleLinkType (f : Nat) : Nat :=
  let r := fmtRaster f
  let plain := !fmt444 f && fmtBits f != 3
  if isSd r then 0
  else if r = 6 ∨ r = 7 then (if plain ∧ ¬highRate (fmtRate f) then 3 else 4)
  else if plain ∧ ¬(r ≠ 3 ∧ highRate (fmtRate f)) then 1
  else 2

/-- RATE_DET of a link type at a frame rate (R300): 1/1.001 rates take the second code of the pair. -/
def rateDetOf (linkType rate : Nat) : Nat :=
  let frac := bit (rate == 1 || rate == 4 || rate == 7)
  if linkType = 0 then 1 else 2 * linkType + frac

/-- Link type of an output: those of a single link, 5 level B, 6 and 7 quad-link in square division and in 2SI (R272). -/
def outputLinkType (f link : Nat) : Nat :=
  match link with
  | 2 => 5
  | 3 => 6
  | 4 => 7
  | _ => singleLinkType f

/-- Lane rate of an output: LINK 1 is a single link, 2 level B, 3 and 4 quad-link 3G. -/
def outputRateDet (f link : Nat) : Nat := rateDetOf (if link ≤ 1 then singleLinkType f else 2) (fmtRate f)

end Sys2Proof.Machine
end

