-- ==== Sys2Proof/Machine/AudioOut.lean ====
section
/-! DEFINITION. The channel matrix, its changes, and the embedders (R366 .. R372, R447). -/

namespace Sys2Proof.Machine
open Reg

/-! ### Gains and ramps (R368) -/

/-- The gain in use. -/
def Ramp.value (r : Ramp) : Nat :=
  if r.n ≤ r.i then r.g1 else ((r.g0 : Int) + ((r.g1 : Int) - r.g0) * r.i / (r.n : Int)).toNat

def Ramp.step (r : Ramp) : Ramp := if r.i < r.n then { r with i := r.i + 1 } else r

/-- A new gain, reached in `ms` from the value in use. -/
def Ramp.dest (r : Ramp) (ms gain : Nat) : Ramp := { g0 := r.value, g1 := gain, i := 0, n := 48 * ms }

def Ramp.running (r : Ramp) : Bool := decide (r.i < r.n)

/-! ### Map entries (R77) -/

def mapInA (w0 : Nat) : Nat := bitField w0 16 15
def mapAEn (w0 : Nat) : Bool := bitAt w0 31
def mapInB (w1 : Nat) : Nat := bitField w1 0 15
def mapBEn (w1 : Nat) : Bool := bitAt w1 15
def mapPolA (w1 : Nat) : Bool := bitAt w1 16
def mapPolB (w1 : Nat) : Bool := bitAt w1 17

/-- p_X of R366. -/
def mixTerm (x : Int) (gain : Nat) (pol : Bool) : Int :=
  let p := (x * (gain : Int) + 2 ^ 23) / 2 ^ 24
  if pol then -p else p

/-- The mix of one side: its saturated sum and whether it saturated. -/
def mixSide (input : Nat → Sample) (w0 w1 ga gb : Nat) : Int × Bool :=
  let a := if mapAEn w0 then mixTerm (input (mapInA w0)).v ga (mapPolA w1) else 0
  let b := if mapBEn w1 then mixTerm (input (mapInB w1)).v gb (mapPolB w1) else 0
  let t := a + b
  let s := satSigned 32 t
  (s, s != t)

/-- The fade across a step of device time (R119), with `left` ticks of 96 to go. -/
def stepFaded (left : Nat) (v : Int) : Int :=
  if left = 0 then v else if 48 < left then fadeOut v (96 - left) else fadeIn v (48 - left)

/-- The channel passes its input exactly, side bits included: no ramp and no fade runs, not that of a step with `stepLeft`
ticks to go either (R366). -/
def ChanOut.exact (o : ChanOut) (stepLeft : Nat) : Bool :=
  mapAEn o.map0 && !mapBEn o.map1 && !mapPolA o.map1 && o.rampA.value == 0x01000000 && !o.rampA.running &&
    !o.rampB.running && o.old.isNone && stepLeft == 0

/-- The side bits of an output sample: bit 4 beside those of the pool says that the channel passed its input exactly. -/
def exactSide : Nat := 16

/-- One tick of an output channel: its sample, whether it saturated, and the channel after it. -/
def ChanOut.tick (o : ChanOut) (input : Nat → Sample) (stepLeft : Nat) : Sample × Bool × ChanOut :=
  let o := { o with
    rampA := o.rampA.step, rampB := o.rampB.step
    old := o.old.map (fun (x : Nat × Nat × Ramp × Ramp × Nat) => (x.1, x.2.1, x.2.2.1.step, x.2.2.2.1.step, x.2.2.2.2)) }
  let (v, clip) := mixSide input o.map0 o.map1 o.rampA.value o.rampB.value
  let v' := match o.old with
    | none => v
    | some (w0, w1, ra, rb, i) => crossFade (mixSide input w0 w1 ra.value rb.value).1 v i
  let side := if o.exact stepLeft then (input (mapInA o.map0)).side % exactSide + exactSide else 0
  let old := match o.old with
    | some (w0, w1, ra, rb, i) => if i < 47 then some (w0, w1, ra, rb, i + 1) else none
    | none => none
  ({ v := stepFaded stepLeft v', side := side }, clip, { o with old := old })

/-- The input samples of the tick six before (R359). -/
def State.delayedInput (s : State) (ch : Nat) : Sample := Tab.get {} (s.audio.hist.getD 6 []) ch

/-- The unit of an output sample in the digest of its group's block (R447). -/
def digestUnit (v : Int) (o k : Nat) : Nat :=
  mix64 (mod64 (unsignedOf 32 v + (48 * (o % 64) + k % 48) * 2 ^ 40))

/-- Every mapped output channel at tick k. -/
def State.outputTick (s : State) (k : Nat) : State :=
  let left := s.time.audioStepFade
  let (s, now) := s.audio.outs.foldl (fun (acc : State × Tab Sample) e =>
    let s := acc.1
    let (x, clip, o) := e.2.tick s.delayedInput left
    let g := s.audGroup (e.1 / 64)
    let s := s.setAudGroup (e.1 / 64) { g with
      clips := (g.clips + bit clip) % 2 ^ 32, sum := mod64 (g.sum + digestUnit x.v e.1 k) }
    (s.setChanOut e.1 o, Tab.set {} acc.2 e.1 x)) (s, [])
  { s with
    audio := { s.audio with outHist := (now :: s.audio.outHist).take 4904 }
    time := { s.time with audioStepFade := left - 1 } }

/-! ### Changes (R368) -/

/-- A map or gain change on a channel in use. -/
def ChanOut.change (o : ChanOut) : Change → ChanOut
  | .audioMap _ w0 w1 => { o with map0 := w0, map1 := w1 }
  | .audioGain _ b ms g => if b then { o with rampB := o.rampB.dest ms g } else { o with rampA := o.rampA.dest ms g }
  | _ => o

/-- The channel under another configuration, as a flip switches it: a crossfade to the new map, and gains that step. -/
def ChanOut.switchTo (o : ChanOut) (c : ChanCfg) : ChanOut :=
  let p := { o with map0 := c.map0, map1 := c.map1 }
  let p := if c.gainA = o.rampA.g1 then p else { p with rampA := o.rampA.dest c.rampMs c.gainA }
  if c.gainB = o.rampB.g1 then p else { p with rampB := o.rampB.dest c.rampMs c.gainB }

/-- The channel after the changes of one block: a changed map crossfades from the old one with its gains. -/
def ChanOut.withOld (o p : ChanOut) : ChanOut :=
  if o.map0 = p.map0 ∧ o.map1 = p.map1 then p else { p with old := some (o.map0, o.map1, o.rampA, o.rampB, 0) }

/-- The changes of a block apply to output channel n: `n` changes in all, with the channel as they leave it. -/
def State.changeChan (s : State) (o changes : Nat) (f : ChanOut → ChanOut) : State :=
  let x := s.chanOut o
  let g := s.audGroup (o / 64)
  (s.setChanOut o (x.withOld (f x))).setAudGroup (o / 64)
    { g with changes := (g.changes + changes) % 2 ^ 32, last := s.now }

/-! ### Digests (R447) -/

/-- Channels of output group g with an input enabled (R375). -/
def State.groupMapped (s : State) (g : Nat) : Nat :=
  (s.audio.outs.filter (fun e => e.1 / 64 == g && (mapAEn e.2.map0 || mapBEn e.2.map1))).length

/-- The silent channels of a block count in the digest as zero samples. -/
def State.groupDigest (s : State) (g : Nat) : Nat :=
  let mapped := (s.audio.outs.filter (fun e => e.1 / 64 == g)).map (fun e => e.1 % 64)
  let silent := (List.range 64).filter (fun c => !mapped.contains c)
  let zeros := (silent.map (fun c => ((List.range 48).map (fun i => mix64 (mod64 ((48 * c + i) * 2 ^ 40)))).sum)).sum
  contentHash (mod64 ((s.audGroup g).sum + zeros)) 3072

/-- The digests of the block that has ended are sent, and those of the next one begin. -/
def State.sendAudioDigests (s : State) (block : Nat) : State :=
  let s := s.each (s.audio.groups.map (·.1)) (fun s g =>
    s.when (decide (0 < s.groupMapped g) && (s.paired || s.follows)) (fun s =>
      s.ownDigest { kind := 2, obj := g, key := block % 2 ^ 32, hash := s.groupDigest g, nc := (s.audGroup g).nc }))
  s.each (s.audio.groups.map (·.1)) (fun s g => s.setAudGroup g { s.audGroup g with sum := 0, nc := false })

/-! ### Embedding (R370 .. R372) -/

def State.emb (s : State) (d : Nat) : EmbRun := Tab.get {} s.audio.embs d

def State.setEmb (s : State) (d : Nat) (x : EmbRun) : State :=
  { s with audio := { s.audio with embs := Tab.set {} s.audio.embs d x } }

/-- Channels that the links of destination d carry: none in SD or without a link, 32 on a link (R358, R371). -/
def State.embCapacity (s : State) (d : Nat) : Nat :=
  let link := s.fld DST_LINK d
  if isSd (s.fld DST_RASTER d) ∨ link = 0 then 0 else if 3 ≤ link then 128 else 32

/-- The embedder's settings take effect at the start of frame `k` (R370), and what the frame carries is counted (R371). -/
def State.embFrame (s : State) (d k : Nat) : State :=
  let x := s.emb d
  let ch := s.fld EMB_CH 0 d
  let mode := s.fld EMB_MODE 0 d
  let inUse := if mode = 0 then 0 else min ch (s.embCapacity d)
  let s := s.setEmb d { x with
    outBase := s.fld EMB_OUT_BASE 0 d, mode := mode, ch := inUse, dly := s.fld EMB_DLY 0 d, frame := k }
  let s := s.setFld EMB_CH_USED inUse 0 d
  if mode ≠ 0 ∧ s.embCapacity d ≠ 0 ∧ inUse < ch ∧ ¬s.fldOn EMB_TRUNC 0 d then
    (s.setFld EMB_TRUNC 1 0 d).raise Ev.EMB_TRUNC
      { index := d, data := ch + 2 ^ 8 * inUse, dest := s.ownerList (oriDst d) }
  else s.when (mode ≠ 0 ∧ s.embCapacity d ≠ 0 ∧ inUse < ch) (fun s => s.setFld EMB_TRUNC 1 0 d)

/-- Channel k of the window of a source as DIRECT mode embeds it. -/
def State.directSample (s : State) (src k : Nat) : Int :=
  if src < 1024 ∧ k < s.winCount src then (s.delayedInput (s.winBase src + k)).v else 0

/-- A sample as 24 bits leave the pool (R369). -/
def out24 (v : Int) : Int := satSigned 24 ((v + 128) / 256)
def out16 (v : Int) : Int := satSigned 16 ((v + 32768) / 65536)

/-- One tick of the embedder of destination d: the samples of tick k, and those that the delay brings due. -/
def State.embTick (s : State) (d k : Nat) : State :=
  let x := s.emb d
  let src := (s.cfg.dst d).asrc
  let x := if src = x.src then x else { x with src := src, old := some (x.src, 0) }
  let samples := (List.range x.ch).map (fun i =>
    if x.mode = 2 then (Tab.get {} (s.audio.outHist.headD []) (x.outBase + i)).v
    else
      match x.old with
      | some (o, n) => crossFade (s.directSample o i) (s.directSample src i) n
      | none => s.directSample src i)
  let hist := (samples.map out24 :: x.hist).take 4801
  let due := match hist[x.dly]? with
    | some l => x.due ++ [(k - x.dly, 0, l)]
    | none => x.due
  s.setEmb d { x with
    hist := hist, due := due
    old := match x.old with | some (o, n) => if n < 47 then some (o, n + 1) else none | none => none }

/-- Link and group 1 .. 8 on it that carry four channels from 4 `i` on (R356, R371). -/
def embPlace (i : Nat) : Nat × Nat := (i / 8, i % 8 + 1)

/-- Audio frame number of frame k at a rate: its place, from 1, in the shortest run of frames that holds whole samples.
PRESUMED, log 61. -/
def audioFrameNumber (rate k : Nat) : Nat :=
  let r := rateFrac rate
  k % (r.1 / Nat.gcd (48000 * r.2) r.1) + 1

/-- The control packets of a line: in each field the one after the switching line and its successor. PRESUMED, log 61. -/
def isControlLine (raster : Nat) (interlaced : Bool) (line : Nat) : Bool :=
  (switchingLines raster interlaced).any (fun l => line == l + 2)

/-- The packets of the groups that `ch` channels take: control packets in their line, and the samples of each tick, with
zero in the channels of a group beyond them. -/
def embPackets (rate frame ch : Nat) (control : Bool) (ticks : List (Nat × List Int)) : List (Nat × EmbPacket) :=
  (List.range ((ch + 3) / 4)).flatMap (fun i =>
    let at' := embPlace i
    (if control then [(at'.1, EmbPacket.control at'.2 (audioFrameNumber rate frame))] else []) ++
      ticks.map (fun e => (at'.1, EmbPacket.data at'.2 e.1 ((List.range 4).map (fun j => e.2.getD (4 * i + j) 0)))))

/-- At a line start of destination d the samples whose second line this is are embedded; a line that carries no audio
passes them to the next one (R371). -/
def State.embLine (s : State) (d line : Nat) : State :=
  let x := s.emb d
  let due := x.due.map (fun e => (e.1, e.2.1 + 1, e.2.2))
  let raster := s.fld DST_RASTER d
  let il := s.fldOn DST_SCAN d
  if nearSwitch raster il line then s.setEmb d { x with due := due }
  else
    let go := due.filter (fun e => decide (2 ≤ e.2.1))
    let packets := embPackets (s.planeRate (s.fld DST_PLANE d)) x.frame x.ch (isControlLine raster il line)
      (go.map (fun e => (e.1, e.2.2)))
    (s.setEmb d { x with due := due.filter (fun e => decide (e.2.1 < 2)) }).each packets (fun s p =>
      s.when (s.role != Role.INIT) (fun s => s.emit (.embedded d p.1 line p.2)))

/-- The embedders of every destination that runs. -/
def State.embedTick (s : State) (k : Nat) : State :=
  s.each (s.store.dsts.map (·.1)) (fun s d => s.when (s.fldOn DST_LIVE d) (fun s => s.embTick d k))

end Sys2Proof.Machine
end

