-- ==== Sys2Proof/Machine/Aes.lean ====
section
/-! DEFINITION. AES3 ports (14_aes3_ports.md): inputs, channel status, and outputs. -/

namespace Sys2Proof.Machine
open Reg

def State.aesIn (s : State) (i : Nat) : AesIn := Tab.get {} s.aes.ins i

def State.setAesIn (s : State) (i : Nat) (x : AesIn) : State :=
  { s with aes := { s.aes with ins := Tab.set {} s.aes.ins i x } }

def State.aesOut (s : State) (o : Nat) : AesOut := Tab.get {} s.aes.outs o

def State.setAesOut (s : State) (o : Nat) (x : AesOut) : State :=
  { s with aes := { s.aes with outs := Tab.set {} s.aes.outs o x } }

/-! ### Input states (R378) -/

def aesNoSignal : Nat := 0
def aesLocking : Nat := 1
def aesLocked : Nat := 2
def aesMuted : Nat := 3

/-- The pool channels that input i writes; none while it is bound to no source (R380). -/
def State.aesChannels (s : State) (i : Nat) : List Nat :=
  let n := s.fld AESIN_SRC i
  if n < 1024 then
    let b := s.winBase n + s.fld AESIN_WOFS i
    [b, b + 1]
  else []

/-- The ASRC of input i has taken no sample since its reset. -/
def State.unlockAes (s : State) (i : Nat) : State := s.setAesIn i { s.aesIn i with firstAt := 0 }

/-- The channels of input i with their ASRC locked or reset. -/
def State.setAesLock (s : State) (i : Nat) (locked : Bool) : State :=
  (s.when (!locked) (fun s => s.unlockAes i)).each (s.aesChannels i) (fun s ch =>
    let c := s.feedChan (s.fld AESIN_SRC i) 3 ch
    s.setChanIn ch { c with locked := locked })

/-- The channels of input i fade out (R381, R382). -/
def State.muteAes (s : State) (i : Nat) : State :=
  (s.unlockAes i).each (s.aesChannels i) (fun s ch =>
    let c := s.feedChan (s.fld AESIN_SRC i) 3 ch
    s.setChanIn ch { c with locked := false, fout := if c.playing ∧ c.fout.isNone then some 0 else c.fout })

/-- The frame rate lies in the range of R378. -/
def aesRateOk (rate : Nat) : Bool := decide (30720 ≤ rate ∧ rate ≤ 99840)

/-- AES3 input i takes what arrives: it is enabled, and island AESIO is not held in reset (R463, R530). -/
def State.aesHears (s : State) (i : Nat) : Bool := s.fldOn AESIN_EN i && !s.heldInReset 138

/-- A rate change or block error: the channels underrun and the ASRC resets (R382). -/
def State.aesRateChange (s : State) (i new : Nat) : State :=
  let old := s.fld AESIN_RATE_HZ i
  let x := s.aesIn i
  let s := s.setAesIn i { x with off := 0 }
  let s := (s.setAesLock i false).setFld AESIN_RATE_HZ new i
  (s.setFld AESIN_STATE aesLocking i).raise Ev.AES_RATE
    { index := i, data := old + 2 ^ 32 * new, dest := s.ownerList (oriAes i) }

/-- A Z preamble that stands where it should, 192 frames after the one before (R379, R382). -/
def State.aesInterval (s : State) (i rate : Nat) : State :=
  let x := s.aesIn i
  let st := s.fld AESIN_STATE i
  let old := s.fld AESIN_RATE_HZ i
  let s := s.setFld AESIN_BLOCK_SYNC 1 i
  if !aesRateOk rate then
    let s := (s.setFld AESIN_RATE_HZ rate i).setFld AESIN_STATE aesMuted i
    if st = aesLocking ∨ st = aesLocked then
      (s.muteAes i).raise Ev.AES_RATE { index := i, data := old + 2 ^ 32 * rate, dest := s.ownerList (oriAes i) }
    else s
  else if st = aesLocked then
    let tol := s.fld AESIN_RATE_TOL i
    let off := tol ≠ 0 ∧ tol * x.rateAtLock < 1000 * ((rate : Int) - x.rateAtLock).natAbs
    if off ∧ 1 ≤ x.off then s.aesRateChange i rate
    else (s.setAesIn i { x with off := if off then x.off + 1 else 0 }).setFld AESIN_RATE_HZ rate i
  else
    let s := s.setFld AESIN_RATE_HZ rate i
    if s.fldOn AESIN_NONAUDIO i then s.setFld AESIN_STATE aesMuted i else s.setFld AESIN_STATE aesLocking i

/-- A block error: a Z preamble too early, or a missing one (R382). -/
def State.aesBlockError (s : State) (i : Nat) : State :=
  let s := (s.addFld AESIN_BLK_ERR 1 i).setFld AESIN_BLOCK_SYNC 0 i
  let st := s.fld AESIN_STATE i
  if st = aesLocking ∨ st = aesLocked then s.aesRateChange i 0 else s

/-- A block start of the input that feeds the audio plane (R122). -/
def State.darsEdge (s : State) (i : Nat) : State :=
  s.when (s.fld APLANE_SRC == 3 && s.fld APLANE_DARS_IN == i) (fun s => s.audioEdge s.time.grid 192)

/-- Z_PREAMBLE (R122, R379, R382). -/
def execZPreamble (i : Fin 64) (s : State) : Host.Outcome State Fault Refusal :=
  if s.aesHears i then
    let x := s.aesIn i
    let y := { x with frames := some 0, lastZ := s.time.grid, seen := s.time.grid, cs := [] }
    match x.frames with
    | none => .next (s.setAesIn i y)
    | some n =>
      if n = 192 then
        let t := s.time.grid - x.lastZ
        .next (((s.setAesIn i y).darsEdge i).aesInterval i (if t = 0 then 0 else 192 * 10 ^ 9 / t))
      else .next ((s.setAesIn i y).aesBlockError i)
  else .next s

/-- Errors of a received frame are counted (R382). -/
def State.countAesErrors (s : State) (i : Nat) (f : AesFrame) : State :=
  if f.codingOk then s.addFld AESIN_PARITY_ERR (bit (!f.a.parityOk) + bit (!f.b.parityOk)) i
  else s.addFld AESIN_BIPHASE_ERR 1 i

/-- What input i has received of a frame: its samples and V bits, or those before where an error spoils them (R382). -/
def AesIn.heard (x : AesIn) (f : AesFrame) (grid : Nat) : AesIn :=
  if f.codingOk then
    { x with
      va := f.a.v, vb := f.b.v, frameAt := grid + 1, seen := grid
      xa := if f.a.parityOk then poolValue 24 f.a.x.toNat else x.xa
      xb := if f.b.parityOk then poolValue 24 f.b.x.toNat else x.xb }
  else { x with frameAt := grid + 1 }

/-- The samples of the last frame go to the ASRC while it locks or is locked (R378). -/
def State.aesSamples (s : State) (i : Nat) : State :=
  let st := s.fld AESIN_STATE i
  if st = aesLocking ∨ st = aesLocked then
    let x := s.aesIn i
    let s := s.setAesIn i { x with firstAt := if x.firstAt = 0 then s.time.grid + 1 else x.firstAt }
    match s.aesChannels i with
    | [a, b] =>
      let n := s.fld AESIN_SRC i
      (s.writeFifo n 3 a { v := x.xa }).writeFifo n 3 b { v := x.xb }
    | _ => s
  else s

/-- A sample with its V bit as given. -/
def Sample.withV (x : Sample) (v : Bool) : Sample := { x with side := x.side / 2 * 2 + bit v }

/-- A frame that lies nearer to the last tick than the frame before it, at `before` less 1, gives that tick its V bits
(R381). -/
def State.amendV (s : State) (i before : Nat) : State :=
  let since := (s.nowInt - s.sampleStart (s.time.lastSample - 1)).toNat
  if s.time.lastSample = 0 ∨ before = 0 ∨ s.fld AESIN_STATE i ≠ aesLocked ∨ s.time.grid + 1 - before ≤ 2 * since then s
  else
    let x := s.aesIn i
    match s.aesChannels i, s.audio.hist with
    | [a, b], h :: rest =>
      let put := fun (h : Tab Sample) (ch : Nat) (v : Bool) => Tab.set {} h ch ((Tab.get {} h ch).withV v)
      { s with audio := { s.audio with hist := put (put h a x.va) b x.vb :: rest } }
    | _, _ => s

/-- AES_FRAME (R378, R381, R382). -/
def execAesFrame (i : Fin 64) (f : AesFrame) (s : State) : Host.Outcome State Fault Refusal :=
  if s.aesHears i then
    let s := s.countAesErrors i f
    let before := (s.aesIn i).frameAt
    let s := s.setAesIn i ((s.aesIn i).heard f s.time.grid)
    let s := (s.amendV i before).aesSamples i
    let x := s.aesIn i
    match x.frames with
    | none => .next (s.setAesIn i x)
    | some n =>
      if n = 192 then .next ((s.setAesIn i { x with frames := none, cs := [] }).aesBlockError i)
      else
        let cs := x.cs ++ [f.a.c]
        let x := { x with frames := some (n + 1) }
        .next (s.setAesIn i (if cs.length = 192 then { x with cs := [], csDone := cs } else { x with cs := cs }))
  else .next s

/-- AES_LOSS (R382): no valid preamble for 64 µs. -/
def execAesLoss (i : Fin 64) (s : State) : Host.Outcome State Fault Refusal :=
  let st := s.fld AESIN_STATE i
  if s.aesHears i ∧ (s.aesIn i).seen + 64000 ≤ s.time.grid ∧ (st ≠ aesNoSignal ∨ (s.aesIn i).frames.isSome) then
    let s := s.setAesIn i { s.aesIn i with frames := none, cs := [], csDone := [], off := 0 }
    let s := (s.setFld AESIN_BLOCK_SYNC 0 i).setFld AESIN_RATE_HZ 0 i
    if st = aesNoSignal then .next s
    else
      let s := ((s.setAesLock i false).setFld AESIN_STATE aesNoSignal i).addFld AESIN_LOSS_CNT 1 i
      .next (s.when (st = aesLocking ∨ st = aesLocked) (fun s =>
        s.raise Ev.AES_LOSS { index := i, data := s.fld AESIN_LOSS_CNT i, dest := s.ownerList (oriAes i) }))
  else .next s

/-! ### Channel status (R381, R385) -/

/-- One bit into the CRC-8 of R385, in transmission order. -/
def csCrcBit (c : Nat) (b : Bool) : Nat := if (c % 2 == 1) != b then (c / 2) ^^^ 0xB8 else c / 2

/-- The CRC-8 of channel status bytes. -/
def csCrc (bytes : List Nat) : Nat :=
  bytes.foldl (fun c b => (List.range 8).foldl (fun c i => csCrcBit c (bitAt b i)) c) 0xFF

/-- Bits, first one least significant, as bytes. -/
def bitsToBytes (bs : List Bool) : List Nat :=
  (List.range (bs.length / 8)).map (fun j => ((List.range 8).map (fun i => bit (bs.getD (8 * j + i) false) * 2 ^ i)).sum)

/-- A block is latched (R381): CS_LAST, CONSUMER and NONAUDIO follow it. -/
def State.latchStatus (s : State) (i : Nat) (bytes : List Nat) : State :=
  let b0 := bytes.headD 0
  let prof := bitAt b0 0
  let nonAudio := prof && bitAt b0 1
  let s := s.setAesIn i { s.aesIn i with latched := bytes.map (BitVec.ofNat 8) }
  let s := s.upTo 6 (fun s j => s.setFld AESIN_CS_LAST (leNat (slice (4 * j) 4 (bytes.map (BitVec.ofNat 8)))) i j)
  let s := s.setFld AESIN_CONSUMER (bit (!prof)) i
  let st := s.fld AESIN_STATE i
  if nonAudio then
    let s := s.setFld AESIN_NONAUDIO 1 i
    if st = aesLocking ∨ st = aesLocked then
      ((s.muteAes i).setFld AESIN_STATE aesMuted i).raise Ev.AES_NONAUDIO
        { index := i, data := b0, dest := s.ownerList (oriAes i) }
    else s
  else
    let was := s.fldOn AESIN_NONAUDIO i
    let s := s.setFld AESIN_NONAUDIO 0 i
    s.when (was && st == aesMuted && aesRateOk (s.fld AESIN_RATE_HZ i)) (fun s => s.setFld AESIN_STATE aesLocking i)

/-- CHANNEL_STATUS_BLOCK (R381, R382): the block that has just become complete is checked. -/
def execChannelStatusBlock (i : Fin 64) (s : State) : Host.Outcome State Fault Refusal :=
  let x := s.aesIn i
  if s.aesHears i ∧ x.csDone.length = 192 then
    let bytes := bitsToBytes x.csDone
    let s := s.setAesIn i { x with csDone := [] }
    if bitAt (bytes.headD 0) 0 ∧ csCrc (bytes.take 23) ≠ bytes.getD 23 0 then
      let s := s.addFld AESIN_CS_CRC_ERR 1 i
      let x := s.aesIn i
      if x.lastCrc = 0 ∨ x.lastCrc - 1 + 10 ^ 9 ≤ s.time.grid then
        .next ((s.setAesIn i { x with lastCrc := s.time.grid + 1 }).raise Ev.AES_CS_CRC
          { index := i, data := s.fld AESIN_CS_CRC_ERR i, dest := s.ownerList (oriAes i) })
      else .next s
    else .next (s.latchStatus i bytes)
  else .next s

/-- The ASRC of input i has locked (R363, R378). -/
def State.aesLock (s : State) (i : Nat) : State :=
  if s.fldOn AESIN_EN i ∧ s.fld AESIN_STATE i = aesLocking then
    let s := s.setAesIn i { s.aesIn i with rateAtLock := s.fld AESIN_RATE_HZ i, off := 0 }
    ((s.setAesLock i true).setFld AESIN_STATE aesLocked i).raise Ev.AES_LOCK
      { index := i, data := s.fld AESIN_RATE_HZ i, dest := s.ownerList (oriAes i) }
  else s

/-- The ASRC of a locking input locks within 20 ms of its first sample (R363, R382). -/
def State.aesLateLock (s : State) (i : Nat) : State :=
  let x := s.aesIn i
  s.when (decide (x.firstAt ≠ 0 ∧ x.firstAt - 1 + 20000000 ≤ s.time.grid)) (fun s => s.aesLock i)

/-- The side bits that every locked input attaches at tick k (R381): a latched block goes out whole. -/
def State.aesSides (s : State) (k : Nat) : State :=
  s.each (s.aes.ins.map (·.1)) (fun s i =>
    let s := s.aesLateLock i
    let s := s.when (k % 192 == 0) (fun s => s.setAesIn i { s.aesIn i with csOut := (s.aesIn i).latched })
    s.when (s.fldOn AESIN_EN i && s.fld AESIN_STATE i == aesLocked) (fun s =>
      let x := s.aesIn i
      let c := bitAt (x.csOut.getD (k % 192 / 8) 0).toNat (k % 8)
      let side := fun v => bit v + 4 * bit c + 8 * bit (k % 192 == 0)
      match s.aesChannels i with
      | [a, b] =>
        let s := s.setChanIn a { s.feedChan (s.fld AESIN_SRC i) 3 a with side := side x.va }
        s.setChanIn b { s.feedChan (s.fld AESIN_SRC i) 3 b with side := side x.vb }
      | _ => s))

/-! ### Outputs (R383 .. R387) -/

/-- The generated channel status block of R385. -/
def generatedStatus : List Nat :=
  let bytes := [0x85, 0, 0x2C] ++ List.replicate 20 0
  bytes ++ [csCrc bytes]

/-- The template block of output o (R384). -/
def State.templateStatus (s : State) (o : Nat) : List Nat :=
  let bytes := ((List.range 6).flatMap (fun j => (leBytes 4 (s.fld AESOUT_CS_T o j)).map (·.toNat))).take 23
  bytes ++ [csCrc bytes]

/-- Block-start tracking of one pool channel: ticks since its last block start, and whether two lay 192 apart. -/
def blockTrack (since : Nat) (ok start : Bool) : Nat × Bool :=
  if start then (0, since == 191) else (since + 1, ok && decide (since < 191))

/-- V, U and C of a subframe: passed from the pool, or V = U = 0 and the given status bit. -/
def subSide (pass : Bool) (side : Nat) (c : Nat) : List Nat :=
  if pass then [bit (bitAt side 0), bit (bitAt side 1), bit (bitAt side 2)] else [0, 0, c]

/-- The status of a pair of subframes for the samples of tick k, and the position of its frame in the block (R386):
`auto` where the side bits may be passed. -/
def SideRun.next (r : SideRun) (auto : Bool) (k : Nat) (a b : Sample) : SideRun × Nat :=
  let startA := bitAt a.side 3
  let startB := bitAt b.side 3
  let ta := blockTrack r.sinceA r.okA startA
  let tb := blockTrack r.sinceB r.okB startB
  let wantA := auto && bitAt a.side 4 && ta.2
  let passA := if r.passA then wantA || k % 192 != 0 else wantA && startA
  let pos := if passA then (if startA then 0 else r.pos) else if k % 192 = 0 then 0 else r.pos
  let wantB := auto && bitAt b.side 4 && tb.2 && passA && startB
  let passB := if pos = 0 then wantB else r.passB && passA
  ({ pos := (pos + 1) % 192, sinceA := ta.1, okA := ta.2, sinceB := tb.1, okB := tb.2, passA := passA, passB := passB }, pos)

/-- One frame of output o for tick k, while framing runs (R383 .. R387). -/
def State.aesSend (s : State) (o k : Nat) : State :=
  let x := s.aesOut o
  let ch := s.fld AESOUT_OUT_CH o
  let phase := s.fld AESOUT_PHASE o
  let a := Tab.get {} (s.audio.outHist.headD []) ch
  let b := Tab.get {} (s.audio.outHist.headD []) (ch + 1)
  let mode := s.fld AESOUT_CS_MODE o
  let (r, pos) := x.side.next (mode == 0) k a b
  let status := if mode = 2 then s.templateStatus o else generatedStatus
  let c := bit (bitAt (status.getD (pos / 8) 0) (pos % 8))
  let value := fun (v : Int) =>
    let v := out24 v
    if phase = 2 then (if x.fade < 48 then fadeIn v x.fade else v)
    else if phase = 3 ∧ x.fade < 48 then fadeOut v x.fade
    else 0
  let sub := fun (v : Int) (pass : Bool) (side : Nat) => unsignedOf 24 (value v) :: subSide (pass && phase != 1) side c
  let s := s.setAesOut o { x with side := r, fade := min 48 (x.fade + 1) }
  let s := ((s.setFld AESOUT_CS_PASS_A (bit r.passA) o).setFld AESOUT_CS_PASS_B (bit r.passB) o).addFld AESOUT_FRAMES 1 o
  s.when (s.role != Role.INIT && !s.safe) (fun s =>
    s.emit (.aes o (k + 2) (pos == 0) (sub a.v r.passA a.side) (sub b.v r.passB b.side)))

/-- The stage of output o at tick k (R387). -/
def State.aesStage (s : State) (o k : Nat) : State :=
  let x := s.aesOut o
  let phase := s.fld AESOUT_PHASE o
  let block := k % 48 == 0
  if phase = 0 then
    if s.fldOn AESOUT_EN o ∧ block then
      ((s.setAesOut o { side := { pos := k % 192 } }).setFld AESOUT_PHASE 1 o).setFld AESOUT_ACTIVE 1 o
    else s
  else if phase = 1 then
    if k % 192 = 0 then
      if x.starts = 1 then (s.setAesOut o { x with starts := 0, fade := 0 }).setFld AESOUT_PHASE 2 o
      else s.setAesOut o { x with starts := x.starts + 1 }
    else s
  else if phase = 2 then
    if ¬s.fldOn AESOUT_EN o ∧ block then (s.setAesOut o { x with starts := 0, fade := 0 }).setFld AESOUT_PHASE 3 o else s
  else if 48 ≤ x.fade ∧ x.side.pos = 0 then
    if x.starts = 0 then s.setAesOut o { x with starts := 1 }
    else
      let s := (s.setAesOut o {}).setFld AESOUT_PHASE 0 o
      ((s.setFld AESOUT_ACTIVE 0 o).setFld AESOUT_CS_PASS_A 0 o).setFld AESOUT_CS_PASS_B 0 o
  else s

/-- Every AES3 output at tick k. -/
def State.aesTick (s : State) (k : Nat) : State :=
  s.upTo 64 (fun s o =>
    s.when (s.fldOn AESOUT_EN o || s.fldOn AESOUT_ACTIVE o) (fun s =>
      let s := s.aesStage o k
      s.when (s.fldOn AESOUT_ACTIVE o) (fun s => s.aesSend o k)))

end Sys2Proof.Machine
end

