-- ==== Sys2Proof/Machine/AudioWrite.lean ====
section
/-! DEFINITION. Writes of the registers of the audio engine and of the AES3 ports
(R357, R365, R370, R372, R380, R383, R387). -/

namespace Sys2Proof.Machine
open Reg

/-- What a register word gives a field: its bits, stored as the field's table row says. -/
def Field.inWord (f : Field) (i v : Nat) : Nat := f.norm i (bitField v f.lo f.w)

/-- A field stored from a register word. -/
def State.putFld (s : State) (f : Field) (v : Nat) (i : Nat := 0) (j : Nat := 0) : State :=
  s.setFld f (f.inWord (if f.n2 = 1 then i else j) v) i j

/-! ### Input windows (R357) -/

/-- Pool input channels that map entries name, committed, staged or in a bank. -/
def State.mappedInputs (s : State) : List Nat :=
  let ofMap := fun w0 w1 =>
    (if mapAEn w0 then [mapInA w0] else []) ++ (if mapBEn w1 then [mapInB w1] else [])
  let ofChange := fun (c : Change) => match c with | .audioMap _ w0 w1 => ofMap w0 w1 | _ => []
  (s.cfg.chans.flatMap (fun e => ofMap e.2.map0 e.2.map1)) ++
    (s.take.takes.flatMap (fun k => k.todo.flatMap ofChange)) ++
    (s.take.banks.flatMap (fun e => (e.2.copies.chans.flatMap (fun c => ofMap c.2.map0 c.2.map1)) ++ e.2.steps.flatMap ofChange))

/-- Pool input channels of a receive audio context. -/
def flowInputs (ws : FlowWords) : List Nat :=
  if flowIsAudio ws ∧ flowDir ws = 1 then (List.range (flowChannels ws)).map (fun i => flowPool ws + i) else []

/-- Pool input channels that flow contexts name, committed or staged. -/
def State.flowInputsAll (s : State) : List Nat :=
  (s.media.flows.flatMap (fun e => match e.2 with | some f => flowInputs f.words | none => [])) ++
    (s.take.takes.flatMap (fun k => k.todo.flatMap (fun c => match c with | .flowAdd _ ws => flowInputs ws | _ => [])))

/-- Pool input channels that AES3 inputs are bound to. -/
def State.aesInputsAll (s : State) : List Nat := (List.range 64).flatMap s.aesChannels

/-- Channels of source n follow its clocking: those whose path changed start anew, those outside its window go. -/
def State.reclock (s : State) (n : Nat) : State :=
  s.each s.fedChannels (fun s ch =>
    let c := s.chanIn ch
    if c.src = n ∧ ¬s.inWindow n ch then s.setChanIn ch {}
    else if c.src = n ∧ c.feed ≠ 3 ∧ c.asrc ≠ s.resampled n c.feed then
      s.setChanIn ch { src := n, feed := c.feed, span := c.span, asrc := s.resampled n c.feed }
    else s)

/-- A write of AIN[n] + 0 (R357, R360). -/
def State.writeAin (s : State) (n v : Nat) : State :=
  let base := AIN_BASE.inWord n v
  let count := AIN_COUNT.inWord n v
  let clk := let c := AIN_CLK.inWord n v; if c = 3 then 0 else c
  let b0 := s.winBase n
  let c0 := s.winCount n
  let others := (List.range 1024).any (fun m => m != n && rangesMeet base count (s.winBase m) (s.winCount m))
  let namedSrcs := s.mappedInputs ++ s.flowInputsAll ++ s.aesInputsAll
  let removes := namedSrcs.any (fun ch => decide (b0 ≤ ch ∧ ch < b0 + c0 ∧ ¬(base ≤ ch ∧ ch < base + count)))
  let auto := s.fldOn AINST_AUTO_ASRC 0 n && clk == 0
  let inUse := s.asrcUsed - (if s.usesAsrc n then c0 else 0) + (if clk = 2 ∨ auto then count else 0)
  let asks := (clk = 2 ∨ auto) ∧ asrcTotal < inUse
  if others || decide (32768 < base + count) || removes || decide asks then s.setFld AINST_AIN_ERR 1 0 n
  else
    let s := ((s.setFld AIN_BASE base 0 n).setFld AIN_COUNT count 0 n).setFld AIN_CLK clk 0 n
    (s.setFld AINST_AUTO_ASRC (bit auto) 0 n).reclock n

/-! ### Alignment groups (R365) -/

/-- A write of AGRP[g] + 0. -/
def State.writeAgrp (s : State) (g v : Nat) : State :=
  let base := AGRP_AG_BASE.inWord g v
  let count := AGRP_AG_COUNT.inWord g v
  if (List.range 512).any (fun h => h != g &&
      rangesMeet base count (s.fld AGRP_AG_BASE 0 h) (s.fld AGRP_AG_COUNT 0 h)) then
    s.setFld AGRP_AG_ERR 1 0 g
  else (s.setFld AGRP_AG_BASE base 0 g).setFld AGRP_AG_COUNT count 0 g

/-! ### Embedders (R370, R372) -/

def delayMemory : Nat := 8388608

/-- Delay memory in use, in samples, destination d left out. -/
def State.delayUsed (s : State) (except : Option Nat) : Nat :=
  ((List.range 1024).map (fun d => if except = some d then 0 else s.fld EMB_DLY 0 d * s.fld EMB_CH_USED 0 d)).sum

/-- A write of EMB[d] + 0. -/
def State.writeEmb0 (s : State) (d v : Nat) : State :=
  let base := EMB_OUT_BASE.inWord d v
  let mode := let m := EMB_MODE.inWord d v; if m = 3 then 0 else m
  let ch := EMB_CH.inWord d v
  if 32768 < base + ch ∨ delayMemory < s.delayUsed (some d) + s.fld EMB_DLY 0 d * ch then s.setFld EMB_EMB_ERR 1 0 d
  else ((s.setFld EMB_OUT_BASE base 0 d).setFld EMB_MODE mode 0 d).setFld EMB_CH ch 0 d

/-- A write of EMB[d] + 4: DLY, and the two bits that a 1 clears. -/
def State.writeEmb4 (s : State) (d v : Nat) : State :=
  let dly := EMB_DLY.inWord d v
  let s := s.when (bitAt v 16) (fun s => s.setFld EMB_TRUNC 0 0 d)
  let s := s.when (bitAt v 17) (fun s => s.setFld EMB_EMB_ERR 0 0 d)
  if (0 < dly ∧ s.gated 181 = true) ∨ delayMemory < s.delayUsed (some d) + dly * s.fld EMB_CH 0 d then s.setFld EMB_EMB_ERR 1 0 d
  else s.setFld EMB_DLY dly 0 d

/-! ### AES3 inputs (R380) -/

/-- Input i cannot be bound to channels WOFS, WOFS + 1 of source n by partition w. -/
def State.bindBarred (s : State) (w i n wofs : Nat) : Bool :=
  if n = 2047 then false
  else
    let b := s.winBase n + wofs
    let others := ((List.range 64).filter (· != i)).flatMap s.aesChannels ++ s.flowInputsAll
    n ≥ 1024 || s.srcKind n != 4 || decide (s.winCount n < wofs + 2) ||
      others.any (fun ch => ch == b || ch == b + 1) ||
      !(w == 0 || s.owner (oriSrc n) == some w)

/-- Input i stops writing the channels it wrote. -/
def State.unbindAes (s : State) (i : Nat) : State :=
  s.each (s.aesChannels i) (fun s ch => s.when ((s.chanIn ch).feed == 3) (fun s => s.setChanIn ch {}))

/-- SRC and WOFS of input i written by partition w. -/
def State.bindAes (s : State) (w i n wofs : Nat) : State :=
  if s.fld AESIN_SRC i = n ∧ s.fld AESIN_WOFS i = wofs then s
  else if s.bindBarred w i n wofs then s.setFld AESIN_BIND_ERR 1 i
  else
    let s := s.unbindAes i
    let s := (s.setFld AESIN_SRC n i).setFld AESIN_WOFS wofs i
    s.when (s.fld AESIN_STATE i == aesLocked) (fun s => s.setAesLock i true)

/-- EN of input i written (R380): two ASRC channels are taken, or the write is refused. -/
def State.enableAesIn (s : State) (i : Nat) (en : Bool) : State :=
  if en = s.fldOn AESIN_EN i then s
  else if en then
    if s.gated 138 = true ∨ asrcTotal < s.asrcUsed + 2 then s.setFld AESIN_BIND_ERR 1 i
    else (s.setFld AESIN_EN 1 i).setAesIn i {}
  else
    let s := (s.setAesLock i false).setFld AESIN_EN 0 i
    let s := (s.setFld AESIN_STATE aesNoSignal i).setFld AESIN_BLOCK_SYNC 0 i
    (s.setFld AESIN_RATE_HZ 0 i).setAesIn i { s.aesIn i with frames := none, cs := [], csDone := [], off := 0 }

/-- A write of AESIN[i] + 0 by partition w: SRC, then EN. One that carries an index in the invalid range changes nothing
but BIND_ERR (R14). -/
def State.writeAesIn0 (s : State) (w i v : Nat) : State :=
  let n := AESIN_SRC.inWord i v
  if 1120 ≤ n ∧ n < 2047 then s.setFld AESIN_BIND_ERR 1 i
  else (s.bindAes w i (AESIN_SRC.inWord i v) (s.fld AESIN_WOFS i)).enableAesIn i (bitAt v 0)

/-- A write of AESIN[i] + 4. -/
def State.writeAesIn4 (s : State) (w i v : Nat) : State :=
  s.bindAes w i (s.fld AESIN_SRC i) (AESIN_WOFS.inWord i v)

/-! ### AES3 outputs (R383, R384, R387) -/

/-- A write of AESOUT[o] + 0. -/
def State.writeAesOut0 (s : State) (o v : Nat) : State :=
  let mode := let m := AESOUT_CS_MODE.inWord o v; if m = 3 then 0 else m
  let s := if v % 2 = 1 ∧ s.fldOn AESOUT_EN o = false ∧ s.gated 138 = true then s.setFld AESOUT_OUT_ERR 1 o
    else s.setFld AESOUT_EN (v % 2) o
  s.setFld AESOUT_CS_MODE mode o

/-- A write of AESOUT[o] + 4 (R383). -/
def State.writeOutCh (s : State) (o v : Nat) : State :=
  let ch := AESOUT_OUT_CH.inWord o v
  if ch = 32767 then s.setFld AESOUT_OUT_ERR 1 o else s.setFld AESOUT_OUT_CH ch o

end Sys2Proof.Machine
end

