-- ==== Sys2Proof/Machine/Anc.lean ====
section
/-! DEFINITION. Ancillary packets and ancillary data queues (R283, 15_anc_queues.md). -/

namespace Sys2Proof.Machine
open Reg

/-! ### Packets (R283, R392) -/

/-- A ten-bit word with correct parity: bit 8 is even parity of bits 7 .. 0 and bit 9 its inverse. -/
def parityOk (w : Nat) : Bool :=
  let p := bitCount 8 w % 2
  bitField w 8 1 == p && bitField w 9 1 == 1 - p

/-- The ten-bit form of eight bits. -/
def withParity (v : Nat) : Nat :=
  let p := bitCount 8 v % 2
  v % 256 + 256 * p + 512 * (1 - p)

/-- The checksum word over ten-bit words. -/
def ancChecksum (ws : List Nat) : Nat :=
  let c := (ws.map (· % 512)).sum % 512
  c + 512 * (1 - c / 256)

/-- Three ten-bit words in one. -/
def packUdw : List Nat → List Nat
  | [] => []
  | [a] => [a]
  | [a, b] => [a + 2 ^ 10 * b]
  | a :: b :: c :: rest => (a + 2 ^ 10 * b + 2 ^ 20 * c) :: packUdw rest

end Sys2Proof.Machine

namespace Sys2Proof
open Machine

/-- The words that the checksum covers. -/
def AncPacket.body (p : AncPacket) : List Nat :=
  [p.did.toNat, p.sdid.toNat, p.dc.toNat] ++ p.udw.map (·.toNat)

/-- The checks of R283. -/
def AncPacket.good (p : AncPacket) : Bool :=
  parityOk p.did.toNat && parityOk p.sdid.toNat && parityOk p.dc.toNat && p.checksum.toNat == ancChecksum p.body &&
    p.udw.length == p.dc.toNat % 256

def AncPacket.did8 (p : AncPacket) : Nat := p.did.toNat % 256
def AncPacket.sdid8 (p : AncPacket) : Nat := p.sdid.toNat % 256

/-- ST 352, EDH and audio packets are not passed through (R283). -/
def AncPacket.passes (p : AncPacket) : Bool :=
  !(p.did8 == 0x41 && p.sdid8 == 0x01) && p.did8 != 0xF4 && p.audio == .none

/-- The words of a packet in a queue (R392). -/
def AncPacket.words (p : AncPacket) (src seq : Nat) : List Nat :=
  let udw := packUdw (p.udw.map (·.toNat))
  [p.did8 + 2 ^ 8 * p.sdid8 + 2 ^ 16 * (p.dc.toNat % 256) + 2 ^ 24 * ((3 + udw.length) % 256),
   src + 2 ^ 11 * bit p.hanc + 2 ^ 12 * bit p.stream + 2 ^ 13 * (p.link % 4) + 2 ^ 15 * bit p.field2 + 2 ^ 16 * (p.line % 2 ^ 16),
   seq] ++ udw

end Sys2Proof

namespace Sys2Proof.Machine
open Reg

/-! ### Pointers (R396, R397) -/

def ptrMod : Nat := 2 ^ 22

/-- (a - b) modulo 2^22. -/
def ptrDist (a b : Nat) : Nat := (a + ptrMod - b % ptrMod) % ptrMod

def State.ancSize (s : State) (q : Nat) : Nat := 1024 * s.fld ANCQ_SIZE q
def State.ancFill (s : State) (q : Nat) : Nat := ptrDist (s.fld ANCQ_WR_PTR q) (s.fld ANCQ_REL_PTR q)
def State.ancDepth (s : State) (q : Nat) : Nat := ptrDist (s.fld ANCQ_WR_PTR q) (s.fld ANCQ_RD_PTR q)

/-- Queue q in the cycle in progress: its pointers as they stood at the start (R398). -/
def State.ancCycle (s : State) (q : Nat) : AncCycle :=
  (Tab.find? s.anc.cycle q).getD
    { wr := s.fld ANCQ_WR_PTR q, rd := s.fld ANCQ_RD_PTR q, rel := s.fld ANCQ_REL_PTR q }

def State.setAncCycle (s : State) (q : Nat) (x : AncCycle) : State :=
  { s with anc := { s.anc with cycle := Tab.insert s.anc.cycle q x } }

/-- The cycle touches queue q. -/
def State.ancTouch (s : State) (q : Nat) : State := s.setAncCycle q (s.ancCycle q)

/-- The space in use as a push finds it, and the unread words as a pop finds them: space freed and words pushed count from
the next cycle (R396, R398). -/
def State.fillSeen (s : State) (q : Nat) : Nat := ptrDist (s.fld ANCQ_WR_PTR q) (s.ancCycle q).rel
def State.depthSeen (s : State) (q : Nat) : Nat := ptrDist (s.ancCycle q).wr (s.fld ANCQ_RD_PTR q)

/-- Where the word at a pointer lies in the 8 MiB (R402). -/
def State.ancAddr (s : State) (q ptr : Nat) : Nat := 1024 * s.fld ANCQ_BASE q + ptr % max 1 (s.ancSize q)

/-- The word at a pointer, and its END bit. -/
def State.ancWord (s : State) (q ptr : Nat) : Nat × Bool :=
  let w := Tab.get 0 s.anc.mem (s.ancAddr q ptr)
  (w % 2 ^ 32, bitAt w 32)

/-- Packets that end between two pointers. -/
def State.endsBetween (s : State) (q ptr n : Nat) : Nat :=
  ((List.range n).filter (fun i => (s.ancWord q (ptr + i)).2)).length

/-- PAUSED while above the watermark on a queue that pauses its producer (R400). -/
def State.ancPaused (s : State) (q : Nat) : State :=
  s.setFld ANCQ_PAUSED (bit (s.fldOn ANCQ_ABOVE q && s.fldOn ANCQ_PAUSE_EN q)) q

/-- FILL and PKT_AVAIL follow the pointers. -/
def State.ancRefresh (s : State) (q : Nat) : State :=
  let s := s.setFld ANCQ_FILL (s.ancFill q) q
  s.setFld ANCQ_PKT_AVAIL (s.endsBetween q (s.fld ANCQ_RD_PTR q) (s.ancDepth q)) q

/-- The watermarks are compared with the fill at the start of a cycle (R400). -/
def State.ancWatermarks (s : State) (q : Nat) : State :=
  let fill := s.ancFill q
  let hi := s.fld ANCQ_HI_WM q
  let above := s.fldOn ANCQ_ABOVE q
  let s :=
    if !above && hi != 0 && decide (64 * hi ≤ fill) then
      (s.setFld ANCQ_ABOVE 1 q).raise Ev.ANCQ_HIGH { index := q, data := fill, dest := s.ownerList (oriQueue q) }
    else if above && decide (fill ≤ 64 * s.fld ANCQ_LO_WM q) then
      (s.setFld ANCQ_ABOVE 0 q).raise Ev.ANCQ_LOW { index := q, data := fill, dest := s.ownerList (oriQueue q) }
    else s
  s.ancPaused q

/-- A cycle starts: the watermarks of the queues that the last one has touched are compared (R398, R400). -/
def State.ancNextCycle (s : State) : State :=
  let qs := s.anc.cycle.map (·.1)
  ({ s with anc := { s.anc with cycle := [] } }).each qs State.ancWatermarks

/-- One word is written at W. -/
def State.ancStore (s : State) (q word : Nat) (last : Bool) : State :=
  let s := s.ancTouch q
  let w := s.fld ANCQ_WR_PTR q
  let s := { s with anc := { s.anc with mem := Tab.set 0 s.anc.mem (s.ancAddr q w) (word % 2 ^ 32 + 2 ^ 32 * bit last) } }
  (s.setFld ANCQ_WR_PTR (w + 1) q).when last (fun s => s.addFld ANCQ_PKT_IN 1 q)

/-- A packet of ingest is written whole or dropped (R399). -/
def State.ancPacket (s : State) (q : Nat) (ws : List Nat) : State :=
  if s.ancSize q < s.fillSeen q + ws.length then
    let s := s.addFld ANCQ_DROP_PKT 1 q
    let last := Tab.get 0 s.anc.lastDrop q
    if last = 0 ∨ last - 1 + 10 ^ 9 ≤ s.time.grid then
      ({ s with anc := { s.anc with lastDrop := Tab.set 0 s.anc.lastDrop q (s.time.grid + 1) } }).raise Ev.ANCQ_DROP
        { index := q, data := s.fld ANCQ_DROP_PKT q, dest := s.ownerList (oriQueue q) }
    else s
  else
    let n := ws.length
    (((List.range n).zip ws).foldl (fun s e => s.ancStore q e.2 (e.1 + 1 == n)) s).ancRefresh q

/-- A packet of source n arrives: of packets that arrive in one cycle that of the lower source is written first (R395), so
those of higher sources move behind it. -/
def State.ancArrive (s : State) (q n : Nat) (ws : List Nat) : State :=
  let s := s.ancTouch q
  let c := s.ancCycle q
  let moved := c.packets.filter (fun x => decide (n < x.1))
  let stay := c.packets.filter (fun x => decide (x.1 ≤ n))
  let s := if moved.isEmpty then s
    else
      let back := (moved.map (fun x => x.2.length)).sum
      (s.setFld ANCQ_WR_PTR (s.fld ANCQ_WR_PTR q + ptrMod - back) q).setFld ANCQ_PKT_IN
        (s.fld ANCQ_PKT_IN q + 2 ^ 32 - moved.length) q
  let all := (n, ws) :: moved
  let (s, ok) := all.foldl (fun (acc : State × List (Nat × List Nat)) x =>
    let fits := !decide (acc.1.ancSize q < acc.1.fillSeen q + x.2.length)
    (acc.1.ancPacket q x.2, if fits then acc.2 ++ [x] else acc.2)) (s, stay)
  s.setAncCycle q { s.ancCycle q with packets := ok }

/-- The release pointer moves up to R; a mark that it passes is invalidated (R397). -/
def State.ancRelease (s : State) (q : Nat) : State :=
  let l := s.fld ANCQ_REL_PTR q
  let r := s.fld ANCQ_RD_PTR q
  let m := s.fld ANCQ_MARK_PTR q
  let s := (s.ancTouch q).setFld ANCQ_REL_PTR r q
  let s :=
    if ptrDist m l < ptrDist r l then
      let lost := s.fldOn ANCQ_MARK_LOST q
      let s := (s.setFld ANCQ_MARK_PTR r q).setFld ANCQ_MARK_LOST 1 q
      if lost then s
      else s.raise Ev.ANCQ_MARK_LOST { index := q, data := r + 2 ^ 32 * m, dest := s.ownerList (oriQueue q) }
    else s
  s.ancRefresh q

/-- A mark is set at R. -/
def State.ancMark (s : State) (q : Nat) : State :=
  (s.setFld ANCQ_MARK_PTR (s.fld ANCQ_RD_PTR q) q).setFld ANCQ_MARK_LOST 0 q

/-- R goes back to the mark; none while the mark is lost. -/
def State.ancRewind (s : State) (q : Nat) : Option State :=
  if s.fldOn ANCQ_MARK_LOST q then none
  else some (((s.ancTouch q).setFld ANCQ_RD_PTR (s.fld ANCQ_MARK_PTR q) q).ancRefresh q)

/-- R moves on by some words. -/
def State.ancRead (s : State) (q n : Nat) : State :=
  ((s.ancTouch q).setFld ANCQ_RD_PTR (s.fld ANCQ_RD_PTR q + n) q).ancRefresh q

/-- The packet at a pointer, at most `n` words on; none where it has no END. -/
def State.ancPacketAt (s : State) (q ptr : Nat) : Nat → Option (List Nat)
  | 0 => none
  | n + 1 =>
    let (w, last) := s.ancWord q ptr
    if last then some [w] else (s.ancPacketAt q (ptr + 1) n).map (w :: ·)

/-- A packet as ANC_DRAIN copies it: WORDS in its first word gives its length (R393). -/
def drainWords (ws : List Nat) : List Nat :=
  match ws with
  | [] => []
  | w :: rest => (w % 2 ^ 24 + 2 ^ 24 * (ws.length % 256)) :: rest

/-- The complete packets from R that fit in a number of bytes, at most `n` of them (R85, R401). -/
def State.ancDrainable (s : State) (q ptr bytes : Nat) : Nat → List (List Nat)
  | 0 => []
  | n + 1 =>
    match s.ancPacketAt q ptr (ptrDist (s.ancCycle q).wr ptr) with
    | none => []
    | some ws => if 4 * ws.length ≤ bytes then drainWords ws :: s.ancDrainable q (ptr + ws.length) (bytes - 4 * ws.length) n else []

/-! ### Filters (R394, R395) -/

/-- The filter of queue q keeps the packet. -/
def State.ancMatches (s : State) (q n : Nat) (p : AncPacket) : Bool :=
  let src := s.fld ANCQ_FSRC q == n || (s.fldOn ANCQ_SRC_ALL q && s.mayRead ((s.owner (oriQueue q)).getD 0) n)
  s.fldOn ANCQ_EN q && src && bitAt (s.fld ANCQ_LOC q) (bit p.hanc) &&
    (p.did8 ^^^ s.fld ANCQ_F_DID q) &&& s.fld ANCQ_DID_MASK q == 0 &&
    (p.sdid8 ^^^ s.fld ANCQ_F_SDID q) &&& s.fld ANCQ_SDID_MASK q == 0

/-- A packet of source n is offered to every queue. -/
def State.ancOffer (s : State) (n seq : Nat) (p : AncPacket) : State :=
  s.upTo 256 (fun s q => s.when (s.ancMatches q n p) (fun s => s.ancArrive q n (p.words n seq)))

/-! ### Passthrough areas (R283, R320) -/

def State.ancAreas (s : State) (n : Nat) : List AncArea := Tab.get [] s.sdi.areas n

def State.setAncAreas (s : State) (n : Nat) (l : List AncArea) : State :=
  { s with sdi := { s.sdi with areas := Tab.set [] s.sdi.areas n l } }

/-- SEQ of the slot that a packet of source n belongs to: the frame being written, or the next one; 0 while the source is
not PRESENT. -/
def State.ancSeq (s : State) (n : Nat) : Nat :=
  if s.srcState n = 2 then
    match s.writing n true with
    | x :: _ => x.seq
    | [] => nextSeq (s.src n).seq
  else 0

/-- A packet is stored in the ancillary area of a slot of source n; false where the area is full. -/
def State.ancKeep (s : State) (n seq : Nat) (p : AncPacket) : State × Bool :=
  let size := 4 * (p.words n seq).length
  let l := s.ancAreas n
  match l.find? (fun a => a.seq == seq) with
  | some a =>
    if 16384 < a.bytes + size then (s, false)
    else (s.setAncAreas n (l.map (fun b => if b.seq = seq then
      { b with bytes := b.bytes + size, packets := b.packets ++ [p] } else b)), true)
  | none => (s.setAncAreas n (({ seq := seq, bytes := size, packets := [p] } : AncArea) :: l.take 17), true)

/-! ### Audio packets (R358) -/

/-- Samples of an audio group go to the window channels of the group; a muted group and channels beyond COUNT write
nothing. -/
def State.deembed (s : State) (n group link : Nat) (samples : List (List SideSample)) : State :=
  let a := s.audSrc n
  if a.muted.contains group ∨ isSd (fmtRaster (s.fmtInForce n)) ∨ s.srcState n ≠ 2 then s
  else
    s.each samples (fun s inst =>
      ((List.range inst.length).zip inst).foldl (fun s e =>
        let k := 32 * link + 4 * (group - 1) + e.1
        s.when (decide (1 ≤ group ∧ group ≤ 8 ∧ e.1 < 4 ∧ k < s.winCount n)) (fun s =>
          s.writeFifo n 1 (s.winBase n + k) (sideSample e.2))) s)

/-- A control packet: a group at another rate than 48 kHz is muted. -/
def State.audioControl (s : State) (n group rate : Nat) : State :=
  let a := s.audSrc n
  if rate = 0 then s.setAudSrc n { a with muted := a.muted.filter (· != group) }
  else if a.muted.contains group then s.setFld AINST_RATE_ERR 1 0 n
  else
    ((s.setAudSrc n { a with muted := a.muted ++ [group] }).setFld AINST_RATE_ERR 1 0 n).raise Ev.AUD_RATE
      { index := n, sub := group, data := rate, dest := s.ownerList (oriSrc n) }

def State.ancAudio (s : State) (n : Nat) (p : AncPacket) : State :=
  match p.audio with
  | .none => s
  | .data g samples => s.deembed n g p.link samples
  | .control g rate => s.audioControl n g rate

/-- The audio of a packet is taken out while island AUDIO is not held in reset (R463, R530). -/
def State.ancHeard (s : State) (n : Nat) (p : AncPacket) : State := if s.heldInReset 137 then s else s.ancAudio n p

/-- A good packet of source n: audio, queues, and the passthrough area; false where that is full (R283, R320). -/
def State.ancTake (s : State) (n seq : Nat) (p : AncPacket) : State × Bool :=
  let s := (s.ancHeard n p).ancOffer n seq p
  if p.passes ∧ seq ≠ 0 then s.ancKeep n seq p else (s, true)

/-! ### Writes (R394, R400 .. R402) -/

/-- The queue's owner may name a core. -/
def State.mayNameCore (s : State) (q core : Nat) : Bool := s.mayChange ((s.owner (oriQueue q)).getD 0) (oriProbe core)

/-- Consumer and producer fields written: only while EN = 0, and for cores of the queue's owner (R401). -/
def State.writeConsumer (s : State) (q v : Nat) : State :=
  let cons := ANCQ_CONSUMER.inWord q v
  let core := ANCQ_CONS_CORE.inWord q v
  let en := bitField v 12 1
  let prod := ANCQ_PROD_CORE.inWord q v
  if s.fld ANCQ_CONSUMER q = cons ∧ s.fld ANCQ_CONS_CORE q = core ∧ s.fld ANCQ_PROD_EN q = en ∧ s.fld ANCQ_PROD_CORE q = prod then s
  else if s.fldOn ANCQ_EN q || (cons == 2 && !s.mayNameCore q core) || (en == 1 && !s.mayNameCore q prod) then
    s.setFld ANCQ_CFG_ERR 1 q
  else
    let s := (s.setFld ANCQ_CONSUMER cons q).setFld ANCQ_CONS_CORE core q
    (s.setFld ANCQ_PROD_EN en q).setFld ANCQ_PROD_CORE prod q

/-- The region of queue q is not usable (R402). -/
def State.regionBad (s : State) (q : Nat) : Bool :=
  let b := s.fld ANCQ_BASE q
  let n := s.fld ANCQ_SIZE q
  n == 0 || decide (2048 < b + n) || (List.range 8).any (fun k => s.gated (173 + k) && rangesMeet b n (256 * k) 256) ||
    (List.range 256).any (fun r => r != q && s.fldOn ANCQ_EN r && rangesMeet b n (s.fld ANCQ_BASE r) (s.fld ANCQ_SIZE r))

/-- The pointers of queue q at a value, the mark valid and ABOVE and PAUSED clear (R397). -/
def State.ancClear (s : State) (q ptr : Nat) : State :=
  let s := (s.setFld ANCQ_WR_PTR ptr q).setFld ANCQ_RD_PTR ptr q
  let s := (s.setFld ANCQ_MARK_PTR ptr q).setFld ANCQ_REL_PTR ptr q
  let s := (s.setFld ANCQ_MARK_LOST 0 q).setFld ANCQ_ABOVE 0 q
  let s := ((s.setFld ANCQ_PAUSED 0 q).setFld ANCQ_FILL 0 q).setFld ANCQ_PKT_AVAIL 0 q
  ({ s with anc := { s.anc with pushed := Tab.erase s.anc.pushed q } }).setAncCycle q
    { wr := ptr, rd := ptr, rel := ptr }

/-- EN of queue q written (R397, R402). -/
def State.enableAncq (s : State) (q : Nat) (en : Bool) : State :=
  if en = s.fldOn ANCQ_EN q then s
  else if en then
    if s.regionBad q then s.setFld ANCQ_CFG_ERR 1 q else (s.setFld ANCQ_EN 1 q).ancClear q 0
  else (s.setFld ANCQ_EN 0 q).ancClear q (s.fld ANCQ_WR_PTR q)

/-- A write of ANCQ[q] + 0. -/
def State.writeAncq0 (s : State) (q v : Nat) : State :=
  ((((s.writeConsumer q v).setFld ANCQ_PAUSE_EN (bitField v 24 1) q).enableAncq q (bitAt v 0)).ancTouch q).ancPaused q

/-- A write of ANCQ[q] + 4: only while EN = 0. -/
def State.writeAncq4 (s : State) (q v : Nat) : State :=
  let b := ANCQ_BASE.inWord q v
  let n := ANCQ_SIZE.inWord q v
  if s.fld ANCQ_BASE q = b ∧ s.fld ANCQ_SIZE q = n then s
  else if s.fldOn ANCQ_EN q then s.setFld ANCQ_CFG_ERR 1 q
  else (s.setFld ANCQ_BASE b q).setFld ANCQ_SIZE (min n 2048) q

/-- A write of ANCQ[q] + 8 (R394): FSRC stays where it would name a source that the owner cannot read, and a
word with an index in the invalid range changes nothing but CFG_ERR (R14). -/
def State.writeFsrc (s : State) (q v : Nat) : State :=
  let n := ANCQ_FSRC.inWord q v
  if 1120 ≤ n ∧ n < 2047 then s.setFld ANCQ_CFG_ERR 1 q
  else
    let s := (s.setFld ANCQ_SRC_ALL (bitField v 12 1) q).setFld ANCQ_LOC (bitField v 16 2) q
    if n = 2047 ∨ s.mayRead ((s.owner (oriQueue q)).getD 0) n = true then s.setFld ANCQ_FSRC n q
    else s.setFld ANCQ_CFG_ERR 1 q

/-- A write of ANCQ[q] + 0x10 (R400). -/
def State.writeWatermark (s : State) (q v : Nat) : State :=
  let hi := v % 2 ^ 16
  let lo := v / 2 ^ 16 % 2 ^ 16
  if hi ≠ 0 ∧ hi ≤ lo then s.setFld ANCQ_CFG_ERR 1 q
  else ((s.setFld ANCQ_HI_WM hi q).setFld ANCQ_LO_WM lo q).ancTouch q

end Sys2Proof.Machine
end

