-- ==== Sys2Proof/Machine/Ingest.lean ====
section
/-! DEFINITION. Acceptance of a detected format and the states of a source (R141, R167, R285 .. R287, R317). -/

namespace Sys2Proof.Machine
open Reg

def State.updSrc (s : State) (n : Nat) (f : SrcRun → SrcRun) : State := s.setSrc n (f (s.src n))

/-- The store format of frames of a format in the current ring of source n. -/
def State.slotStore (s : State) (n fmt : Nat) : Nat := s.storeIn n fmt (s.cfg.ring n)

/-- Pages of a slot of a format in the ring of source n. -/
def State.slotPagesFor (s : State) (n fmt : Nat) : Nat :=
  slotPagesOf fmt (s.slotStore n fmt) (s.cfg.ring n).ladder (s.srcKind n == 2)

/-- Bytes of hold buffer that a reader of source n needs for a format (R141, R207). -/
def State.holdNeedFor (s : State) (r : ReaderCfg) (fmt : Nat) : Nat :=
  s.holdNeedOf s.cfg r fmt (s.slotStore r.src fmt) (s.cfg.ring r.src).ladder

/-- Larger hold buffers for a format: each reader with what it needs, and the bytes in all. -/
def State.holdGrowth (s : State) (n fmt : Nat) : List (Nat × Nat) :=
  ((s.cfg.readers.filter (fun r => r.src == n)).map (fun r => (r.rd, s.holdNeedFor r fmt))).filter
    (fun e => decide ((s.reader e.1).holdBytes < e.2))

/-- Pages that each slot of the current ring lacks for a format (R141). -/
def State.slotLacks (s : State) (n fmt : Nat) : Nat :=
  s.slotPagesFor n fmt - ((s.cfg.ring n).slotPages + (s.cfg.ring n).extra)

/-- Each of the first slots of a page table gets `per` more pages. -/
def growTable (per : Nat) : (depth : Nat) → List Page → List (List Page) → List (List Page)
  | d + 1, ps, slot :: rest => (slot ++ ps.take per) :: growTable per d (ps.drop per) rest
  | _, _, t => t

/-- The present slots get the pages that a format needs, from the pool (R141). -/
def State.growSlots (s : State) (n fmt : Nat) : State :=
  let sh := s.cfg.ring n
  let per := s.slotLacks n fmt
  if per = 0 then s
  else
    let c := s.claimPages sh.mask (per * sh.depth)
    let s := c.1.setCfg (c.1.cfg.setRing n { sh with extra := sh.extra + per })
    s.updSrc n (fun x => { x with rings := match x.rings with
      | r :: rest =>
        { r with shape := { r.shape with extra := r.shape.extra + per }, pages := growTable per sh.depth c.2 r.pages } :: rest
      | [] => [] })

/-- The pool can supply pages under a mask and pages of automatic placement together. -/
def State.poolHasBoth (s : State) (mask pages auto : Nat) : Bool :=
  (List.range 4).all (fun i =>
    let need := (qpOf mask pages).getD i 0 + (qpOf 0 auto).getD i 0
    need == 0 || decide (need ≤ s.fld MC_QP_FREE i))

/-- The format can be taken: its cost, its slots and its hold buffers (R141). -/
def State.formatFits (s : State) (n fmt : Nat) : Bool :=
  let sh := s.cfg.ring n
  let extra := s.slotLacks n fmt * sh.depth
  let hold := ((s.holdGrowth n fmt).map (fun e => e.2 - (s.reader e.1).holdBytes)).sum
  let holdNew := holdPages (s.store.holdBytes + hold) - holdPages s.store.holdBytes
  decide (fmtCost fmt ≤ fmtCost (s.srcFmt n)) && s.poolHasBoth sh.mask extra holdNew

/-- A format comes into force: FMT_GEN goes up when it differs from the one in force (R141). -/
def State.takeFormat (s : State) (n fmt : Nat) : State :=
  let s := s.growSlots n fmt
  let grow := s.holdGrowth n fmt
  let hold := (grow.map (fun e => e.2 - (s.reader e.1).holdBytes)).sum
  let s := s.when (hold != 0) (fun s => s.setHoldBytes (s.store.holdBytes + hold))
  let s := s.each grow (fun s e => s.setReader e.1 { s.reader e.1 with holdBytes := e.2 })
  s.updSrc n (fun x => { x with
    accepted := true, fmt := fmt
    fmtGen := if x.accepted ∧ x.fmt ≠ fmt then (x.fmtGen + 1) % 256 else x.fmtGen })

/-- A source becomes PRESENT; the ASRC switch of R364 ends with it. -/
def State.becomePresent (s : State) (n : Nat) : State :=
  let s := s.setFld SRC_STATE 2 n
  let s := s.when (s.fldOn AINST_AUTO_ASRC 0 n) (fun s => (s.setFld AINST_AUTO_ASRC 0 0 n).reclock n)
  s.setAudSrc n { s.audSrc n with lastSlip := 0, twice := false }

/-- A source becomes ABSENT (R288, R290, R317): a slot being written closes DAMAGED with INCOMPLETE when `cut`. -/
def State.becomeAbsent (s : State) (n : Nat) (cut : Bool) : State :=
  let s := s.when (s.srcState n != 0) (fun s => s.setFld SRC_STATE 1 n)
  if cut then
    s.each (s.writing n true) (fun s x =>
      (s.updSlot x (fun y => { y with flags := y.flags ||| flagIncomplete })).closeSlot x)
  else s

end Sys2Proof.Machine
end

