-- ==== Sys2Proof/Machine/Flows.lean ====
section
/-! DEFINITION. Flow contexts: their fields, their table, and whether they are down (R311 .. R315, R322, R329). -/

namespace Sys2Proof.Machine
open Reg

/-! ### Fields of a context (R312) -/

def flowIpv6 (ws : FlowWords) : Bool := bitAt (wordAt ws 0) 16
def flowSrcMatch (ws : FlowWords) : Bool := bitAt (wordAt ws 0) 17
def flowVlanEn (ws : FlowWords) : Bool := bitAt (wordAt ws 0) 18
def flowVlan (ws : FlowWords) : Nat := bitField (wordAt ws 0) 20 12
def flowPcp (ws : FlowWords) : Nat := bitField (wordAt ws 1) 13 3
def flowDscp (ws : FlowWords) : Nat := bitField (wordAt ws 1) 16 6
def flowHops (ws : FlowWords) : Nat := bitField (wordAt ws 1) 24 8
def flowPt125 (ws : FlowWords) : Bool := bitAt (wordAt ws 2) 24
def flowL16 (ws : FlowWords) : Bool := bitAt (wordAt ws 2) 25
def flowShape (ws : FlowWords) : Nat := bitField (wordAt ws 2) 26 2
def flowBpm (ws : FlowWords) : Bool := bitAt (wordAt ws 2) 28
def flowPtChk (ws : FlowWords) : Bool := bitAt (wordAt ws 2) 29
def flowSsrcChk (ws : FlowWords) : Bool := bitAt (wordAt ws 2) 30
def flowPt (ws : FlowWords) : Nat := bitField (wordAt ws 3) 0 7
def flowPayload (ws : FlowWords) : Nat := bitField (wordAt ws 3) 16 14
def flowSsrc (ws : FlowWords) : Nat := wordAt ws 4
def flowFmt (ws : FlowWords) : Nat := bitField (wordAt ws 5) 0 16
def flowDmac (ws : FlowWords) : Nat := bitField (wordAt ws 5) 16 16 * 2 ^ 32 + wordAt ws 6
def flowDstUdp (ws : FlowWords) : Nat := bitField (wordAt ws 7) 0 16
def flowSrcUdp (ws : FlowWords) : Nat := bitField (wordAt ws 7) 16 16

/-- An address of a context as a number, from its first word: IPv4 in the low 32 bits. -/
def flowAddr (ws : FlowWords) (first : Nat) : Nat :=
  if flowIpv6 ws then
    wordAt ws first * 2 ^ 96 + wordAt ws (first + 1) * 2 ^ 64 + wordAt ws (first + 2) * 2 ^ 32 + wordAt ws (first + 3)
  else wordAt ws first

def flowDstIp (ws : FlowWords) : Nat := flowAddr ws 8
def flowSrcIp (ws : FlowWords) : Nat := flowAddr ws 12

/-- Samples in an audio packet of a context. -/
def flowSamples (ws : FlowWords) : Nat := if flowPt125 ws then 6 else 48

/-- Bytes of an audio sample of a context (R307). -/
def flowSampleBytes (ws : FlowWords) : Nat := if flowType ws = 3 then 4 else if flowL16 ws then 2 else 3

/-- The types of R312. -/
def tyVideo : Nat := 1
def tyAudio : Nat := 2
def tyAes : Nat := 3
def tyAnc : Nat := 4
def tySdi : Nat := 5

/-! ### The table -/

def State.flow (s : State) (f : Nat) : Option FlowRun := Tab.get none s.media.flows f

def State.setFlow (s : State) (f : Nat) (x : Option FlowRun) : State :=
  { s with media := { s.media with flows := Tab.set none s.media.flows f x } }

def State.updFlow (s : State) (f : Nat) (g : FlowRun → FlowRun) : State :=
  match s.flow f with
  | some x => s.setFlow f (some (g x))
  | none => s

/-- Occupied contexts with their numbers. -/
def State.flowList (s : State) : List (Nat × FlowRun) := s.media.flows.filterMap (fun e => e.2.map (fun x => (e.1, x)))

/-- Receive contexts that carry the video of source n. -/
def State.videoFlows (s : State) (n : Nat) : List (Nat × FlowRun) :=
  s.flowList.filter (fun e => flowDir e.2.words == 1 && flowObj e.2.words == n &&
    (flowType e.2.words == tyVideo || flowType e.2.words == tySdi))

/-- DET of a source (R167, R287, R317): what its lane has detected, FMT of its video contexts, or what its framer has
detected. -/
def State.detected (s : State) (n : Nat) : Nat :=
  match s.srcKind n with
  | 1 => s.fld SDIRX_DET (s.fld SRC_LANE n)
  | 2 => ((s.videoFlows n).head?.map (fun e => flowFmt e.2.words)).getD 0
  | 3 => s.fld SRC_DET n
  | _ => 0

/-- Key of the stream of context f: receive by source, send by destination, with type and first channel; an unprotected
send context is a stream of its own (R314). -/
def streamKey (f : Nat) (ws : FlowWords) : Nat :=
  if flowDir ws = 2 ∧ flowLeg ws = 0 then 2 ^ 40 + f
  else ((flowDir ws * 2048 + flowObj ws) * 8 + flowType ws) * 32768 + (if flowIsAudio ws then flowPool ws else 0)

def State.stream (s : State) (k : Nat) : StreamRun := Tab.get {} s.media.streams k

def State.setStream (s : State) (k : Nat) (x : StreamRun) : State :=
  { s with media := { s.media with streams := Tab.set {} s.media.streams k x } }

/-! ### Down and up (R322, R330) -/

/-- Addressees of the events of a context: the owner of its object. -/
def flowOwnerOri (ws : FlowWords) : Nat := if flowDir ws = 1 then oriSrc (flowObj ws) else oriDst (flowObj ws)

def State.flowEvent (s : State) (ev f : Nat) (ws : FlowWords) : State :=
  s.raise ev
    { index := flowObj ws, sub := flowPort ws, data := f + 2 ^ 32 * flowLeg ws, dest := s.ownerList (flowOwnerOri ws) }

/-- A receive context becomes DOWN. -/
def State.flowDown (s : State) (f : Nat) : State :=
  match s.flow f with
  | some x =>
    if x.down then s else (s.setFlow f (some { x with down := true })).flowEvent Ev.FLOW_LEG_DOWN f x.words
  | none => s

/-- The time after which a silent receive context is DOWN, in ns. -/
def State.flowLimit (s : State) (ws : FlowWords) : Nat :=
  if flowIsAudio ws then (if flowPt125 ws then 1250000 else 10000000)
  else if flowType ws = tyAnc then 2 * s.srcPeriod (flowObj ws)
  else 2000000

/-- A receive context has delivered nothing for its set time (R322). -/
def execFlowLegDown (f : Fin 262144) (s : State) : Host.Outcome State Fault Refusal :=
  match s.flow f with
  | some x =>
    if flowDir x.words = 1 ∧ x.lastGrid + s.flowLimit x.words ≤ s.time.grid then .next (s.flowDown f) else .next s
  | none => .next s

/-! ### Applying FLOW_ADD and FLOW_DEL (R311, R317, R323, R327) -/

/-- A format of a KIND 2 source can be taken (R141, R317). -/
def State.flowFormatOk (s : State) (n f : Nat) : Bool := f == s.srcFmt n || (s.fldOn SRC_ANY n && s.formatFits n f)

/-- A context is installed at the apply instant `t`. One with an acceptable format ends WRONG_FORMAT (R317). -/
def State.applyFlowAdd (s : State) (f t : Nat) (ws : FlowWords) : State :=
  let s := s.setFlow f (some { words := ws, lastGrid := s.time.grid, from' := t })
  if flowDir ws = 1 ∧ flowType ws = tyVideo then
    let n := flowObj ws
    s.when (s.srcState n == 3 && s.flowFormatOk n (flowFmt ws)) (fun s => s.setFld SRC_STATE 1 n)
  else s

/-- A context is removed; the counter of a send stream goes with its last context. -/
def State.applyFlowDel (s : State) (f : Nat) : State :=
  match s.flow f with
  | none => s
  | some x =>
    let s := s.setFlow f none
    let k := streamKey f x.words
    if s.flowList.any (fun e => streamKey e.1 e.2.words == k) then s else s.setStream k {}

end Sys2Proof.Machine
end

