-- ==== Sys2Proof/Machine/Select.lean ====
section
/-! DEFINITION. Selection of the slot that a reader shows, and the freshness guard (R151 .. R157, R174, R194 .. R214,
R225, R226, R240, R254, R255). -/

namespace Sys2Proof.Machine
open Reg

/-! ### Readers of a configuration -/

/-- The object and the place of a reader number. -/
def rdObj (rd : Nat) : Nat := if rd < 1024 then objDst rd else if rd < 1792 then objCmp ((rd - 1024) / 8) else objCmp ((rd - 1792) / 512)
def rdLayerOf (rd : Nat) : Nat := if rd < 1792 then (rd - 1024) % 8 else (rd - 1792) / 64 % 8
def rdTileOf (rd : Nat) : Nat := (rd - 1792) % 64

/-- What a configuration makes a reader read; none for a reader that reads no source, covers no area (R251) or belongs
to a compositor that is disabled (R247). -/
def Cfg.readerAt (g : Cfg) (rd : Nat) : Option ReaderCfg :=
  let obj := rdObj rd
  if rd < 1024 then
    let x := g.dst rd
    if x.vsrc = 2047 then none
    else some { rd := rd, src := x.vsrc, lat := x.lat, obj := obj, charge := x.charge, policy := x.policy }
  else
    let m := g.cmp (obj - 1024)
    let x := m.layer (rdLayerOf rd)
    if m.enabled = false ∨ x.w = 0 ∨ x.h = 0 then none
    else if rd < 1792 then
      if x.kind = 1 ∧ x.src ≠ 2047 then
        some { rd := rd, src := x.src, lat := x.lat, obj := obj, charge := x.charge, policy := x.policy }
      else none
    else
      match (if x.kind = 2 then x.tiles[rdTileOf rd]? else none) with
      | some t =>
        if t.src = 2047 ∨ t.w = 0 ∨ t.h = 0 then none
        else some { rd := rd, src := t.src, lat := t.lat, obj := obj, charge := t.charge, policy := x.policy }
      | none => none

/-- INDEX, SUB and addressees of a reader's events (R212). -/
def rdIndex (rd : Nat) : Nat := if rd < 1024 then rd else rdObj rd - 1024
def rdSub (rd : Nat) : Nat :=
  if rd < 1024 then 0 else 2 ^ 15 + 2 ^ 8 * rdLayerOf rd + (if rd < 1792 then 0 else rdTileOf rd)

/-! ### Closed slots (R140, R151, R153) -/

structure Found where
  ref : SlotRef
  slot : Slot
  deriving DecidableEq, Repr

/-- Rings of a source whose slots can be selected: those not released, and the newest alone once it holds a closed slot
(R139, R140). -/
def SrcRun.live (x : SrcRun) : List Ring :=
  let rs := x.rings.filter (fun r => !r.dead)
  match rs with
  | r :: _ => if r.hasClosed then [r] else rs
  | [] => []

/-- Slots of a source that can be selected. -/
def State.slotsOf (s : State) (n : Nat) : List Found :=
  (s.src n).live.flatMap (fun r =>
    (r.slots.filter (fun e => e.2.state != 0)).map (fun e =>
      { ref := { src := n, ring := r.id, seq := e.2.seq }, slot := e.2 }))

/-- The one with the highest SEQ, counted back from the newest frame start. -/
def newestOf (last : Nat) : List Found → Option Found
  | [] => none
  | x :: xs => some (xs.foldl (fun b y => if seqAge last y.slot.seq < seqAge last b.slot.seq then y else b) x)

/-- Slots closed at an instant. -/
def State.closedAt (s : State) (n : Nat) (at' : Int) : List Found :=
  (s.slotsOf n).filter (fun x => decide (2 ≤ x.slot.state ∧ (x.slot.tClose : Int) ≤ at'))

/-! ### The candidate (R153 .. R155, R197) -/

/-- A candidate: the slot to show, the T_START that AGE uses, the record that carries hashes and verdict, and whether
the reader runs in CHASE. -/
structure Candidate where
  ref : Option SlotRef
  await : Option Nat
  chase : Bool
  tStart : Int
  facts : Option Slot
  state : Nat
  flags : Nat
  seq : Nat
  fmt : Nat
  fmtGen : Nat
  deriving DecidableEq, Repr

def Found.candidate (x : Found) : Candidate :=
  { ref := some x.ref, await := none, chase := false, tStart := x.slot.tStart, facts := some x.slot,
    state := x.slot.state, flags := x.slot.flags, seq := x.slot.seq, fmt := x.slot.fmt, fmtGen := x.slot.fmtGen }

/-- The stall hash of a record under a policy (R198). -/
def stallHash (p : Policy) (x : Slot) : Nat := if p.hbChk then x.hb else x.hash

/-- H and C after the update of R200. -/
def ReaderRun.updated (r : ReaderRun) (p : Policy) (x : Slot) : Option Nat × Nat :=
  match r.h with
  | none => (some (stallHash p x), x.tStart)
  | some h => if x.seq ≠ r.lastSeq ∧ stallHash p x ≠ h then (some (stallHash p x), x.tStart) else (some h, r.c)

/-- STALL or HB_STALL for a record, given C after the update (R199). -/
def stalled (p : Policy) (f : Int) (x : Slot) (c : Nat) : Bool :=
  p.stallMs != 0 && ((p.hbChk && x.hb == 0) || decide ((p.stallMs : Int) * 10 ^ 6 < f - c))

def tooOld (p : Policy) (f t : Int) : Bool := p.maxAgeMs != 0 && decide ((p.maxAgeMs : Int) * 10 ^ 6 < f - t)

/-- A slot qualifies for a VERIFIED reader (R154, R201); without a policy only the first two conditions count. -/
def ReaderRun.qualifies (r : ReaderRun) (p : Policy) (f : Int) (x : Slot) : Bool :=
  x.state == 2 &&
  (p.preset == 0 ||
    (!tooOld p f x.tStart && !stalled p f x (r.updated p x).2 && (!p.verdict || x.verdict == 1)))

/-- The chase window for a frame start f (R155): its bounds. -/
def chaseWindow (fmt chaseWin : Nat) (f : Int) : Int × Int :=
  let p := periodNs (fmtRate fmt)
  let lines := rasterLines (fmtRaster fmt)
  let dmin : Int := (ceilDiv (4 * p) (max lines 1) + 2000 : Nat)
  let w : Int := ((if chaseWin = 0 then 32 else chaseWin) * p / 64 : Nat)
  (f - dmin - 2 * w, f - dmin)

/-- The CHASE choice of R155; none when the reader must run at FRAME latency. -/
def State.chaseChoice (s : State) (n rate chaseWin : Nat) (f at' : Int) : Option Candidate :=
  let fmt := s.fmtInForce n
  if rate = 0 ∨ fmtRate fmt ≠ rate then none
  else
    let (lo, hi) := chaseWindow fmt chaseWin f
    let within := fun (t : Int) => chaseWin == 0 || decide (lo ≤ t ∧ t ≤ hi)
    let last := (s.src n).seq
    let slots := s.slotsOf n
    let open' := newestOf last (slots.filter (fun x => x.slot.state == 1))
    let carried := (newestOf last (s.closedAt n at')).map (·.slot)
    let mk (ref : Option SlotRef) (await : Option Nat) (t : Int) (x : Slot) : Candidate :=
      { ref := ref, await := await, chase := true, tStart := t, facts := carried, state := 1, flags := 0
        seq := x.seq, fmt := fmt, fmtGen := x.fmtGen }
    match open'.filter (fun x => decide (lo ≤ (x.slot.tStart : Int) ∧ (x.slot.tStart : Int) ≤ hi)) with
    | some x => some (mk (some x.ref) none x.slot.tStart x.slot)
    | none =>
      match newestOf last slots with
      | some x =>
        let e : Int := x.slot.tStart + periodNs rate
        if within e then some (mk none (some n) e { x.slot with seq := nextSeq x.slot.seq }) else none
      | none => none

/-- The FRAME choice of R153. A reader without a closed slot keeps the slot that it shows, while that slot can still be
selected. -/
def State.frameChoice (s : State) (r : ReaderRun) (n : Nat) (at' : Int) : Option Candidate :=
  match newestOf (s.src n).seq (s.closedAt n at') with
  | some x => some x.candidate
  | none =>
    match r.cur.slot with
    | some ref => ((s.slotsOf n).find? (fun x => x.ref == ref && decide (2 ≤ x.slot.state))).map Found.candidate
    | none => none

/-- The VERIFIED choice: the newest qualifying slot, or the newest COMPLETE one with the flag that none qualifies. -/
def State.verifiedChoice (s : State) (r : ReaderRun) (p : Policy) (n : Nat) (f at' : Int) : Option Candidate × Bool :=
  let ready := (s.closedAt n (at' - s.srcPeriod n)).filter (fun x => x.slot.state == 2)
  match newestOf (s.src n).seq (ready.filter (fun x => r.qualifies p f x.slot)) with
  | some x => (some x.candidate, false)
  | none => ((newestOf (s.src n).seq ready).map Found.candidate, true)

/-- What a reader finds at its selection instant. -/
structure Choice where
  cand : Option Candidate
  noSlot : Bool
  /-- CHASE mode fell back to FRAME latency. -/
  degraded : Bool
  deriving DecidableEq, Repr

def State.chooseSlot (s : State) (r : ReaderRun) (x : ReaderCfg) (rate chaseWin : Nat) (f at' : Int) : Choice :=
  if x.lat = 1 then
    match s.chaseChoice x.src rate chaseWin f at' with
    | some c => { cand := some c, noSlot := false, degraded := false }
    | none =>
      let c := s.frameChoice r x.src at'
      { cand := c, noSlot := c.isNone, degraded := true }
  else if x.lat = 3 then
    let (c, none') := s.verifiedChoice r x.policy x.src f at'
    { cand := c, noSlot := none', degraded := false }
  else
    let c := s.frameChoice r x.src at'
    { cand := c, noSlot := c.isNone, degraded := false }

/-! ### Level (R225, R226, R240, R254, R255) -/

/-- The level that a reader reads of a slot of a format in a ring, and whether LEVEL_CLAMP is to be set. -/
def State.levelOf (s : State) (g : Cfg) (x : ReaderCfg) (fmt store ladder : Nat) : Nat × Bool :=
  let layer := (g.cmp (x.obj - 1024)).layer (rdLayerOf x.rd)
  let rate := rateNominal (s.readerRate g x)
  let (force, auto) :=
    if x.rd < 1024 then (s.fld DST_LEVEL x.rd, s.dstAutoLevel x.rd fmt store ladder)
    else if x.rd < 1792 then (layer.level, layerAutoLevel layer fmt store ladder)
    else
      match layer.tiles[rdTileOf x.rd]? with
      | some t => (layer.level, tileAutoLevel t fmt store ladder)
      | none => (layer.level, 0)
  let cost := fun k => levelCost fmt store k rate
  let charge := if x.rd < 1024 then max x.charge (fmtCost (s.dstFmt x.rd)) else x.charge
  if force ≠ 0 ∧ bitAt ladder (force - 1) = true ∧ cost (force - 1) ≤ charge then (force - 1, false)
  else
    let (k, clamped) := clampLevel cost ladder charge auto
    (k, clamped || force != 0)

/-- Store format and ladder of the ring that a slot lies in. -/
def State.ringOf (s : State) (ref : SlotRef) : RingShape :=
  match (s.src ref.src).rings.find? (fun r => r.id == ref.ring) with
  | some r => { r.shape with store := ((s.slotAt ref).map (·.store)).getD r.shape.store }
  | none => {}

/-! ### Conditions and states (R199 .. R207) -/

/-- Age in ms of a start instant at a frame start, saturating. -/
def ageMs (f t : Int) : Nat := saturate 32 ((f - t).toNat / 10 ^ 6)

/-- Condition bits 0 .. 6 (R199), given C after the update. -/
def State.conditions (s : State) (p : Policy) (src : Nat) (f : Int) (ch : Choice) (h : Option Nat) (c : Nat) : Nat :=
  let loss := bit (s.srcState src != 2)
  let rest := match ch.cand with
    | none =>
      let stall := p.stallMs != 0 && h.isSome && decide ((p.stallMs : Int) * 10 ^ 6 < f - c)
      (if p.hbChk then 16 else 8) * bit stall
    | some k =>
      let v := match k.facts with
        | some x => p.verdict && x.verdict == 2
        | none => false
      let stall := match k.facts with
        | some x => stalled p f x c
        | none => false
      4 * bit (tooOld p f k.tStart) + (if p.hbChk then 16 else 8) * bit stall + 32 * bit v + 64 * bit (k.state == 3)
  loss + 2 * bit ch.noSlot + rest

/-- FSTATE after a selection (R206), and whether the frame carries the action. -/
def nextFState (recover st good : Nat) (bad : Bool) : Nat × Nat × Bool :=
  if bad then (2, 0, true)
  else if st = 2 then (if recover = 0 then (1, 0, false) else (3, 0, true))
  else if st = 3 then (if recover ≤ good + 1 then (1, 0, false) else (3, good + 1, true))
  else (1, 0, false)

/-- A reader whose source changed: its facts are empty and its hold picture is gone (R174, R198). -/
def ReaderRun.restarted (r : ReaderRun) (src : Nat) : ReaderRun :=
  if r.src = src then r
  else { r with src := src, h := none, c := 0, lastSeq := 0, g := none, gAwait := none, tRef := 0, hold := none, gLevel := 0 }

/-- The frame with SEQ one lower that MOTION needs (R237). -/
def State.previousSlot (s : State) (x : Found) (at' : Int) : Option SlotRef :=
  ((s.closedAt x.ref.src at').find? (fun y => nextSeq y.slot.seq == x.slot.seq && y.slot.fmtGen == x.slot.fmtGen)).map (·.ref)

/-- What a selection decides: the reader's new state, what it shows, and the event numbers raised. -/
structure Selected where
  run : ReaderRun
  shown : Shown
  acted : Bool
  cleared : Bool
  damaged : Bool
  degraded : Bool
  ageMs : Nat
  deriving DecidableEq, Repr

/-- The age on the slate: none while G is empty (R210). -/
def ReaderRun.slateAge (r : ReaderRun) (f : Int) : Option Nat :=
  if r.g.isNone ∧ r.gAwait.isNone ∧ r.hold.isNone then none else some (min 999999 ((f - r.tRef).toNat / 10 ^ 9))

/-- What an action shows (R205). -/
def ReaderRun.actionShown (r : ReaderRun) (p : Policy) (f : Int) (entry : Bool) (cand : Shown) : Shown :=
  if p.action = 0 then { cand with acting := true }
  else if p.action = 3 then { act := 3, acting := true }
  else
    let first := entry && r.g.isSome
    { slot := if first then r.g else none, act := p.action, entry := first, acting := true
      level := r.gLevel, age := r.slateAge f }

/-- What a reader shows of a candidate, without an action. -/
def State.candShown (s : State) (g : Cfg) (x : ReaderCfg) (at' : Int) : Option Candidate → Shown
  | none => { act := 4 }
  | some k =>
    let shape := match k.ref with
      | some ref => s.ringOf ref
      | none => match (s.src x.src).ring? with
        | some q => q.shape
        | none => {}
    let (lv, cl) := s.levelOf g x k.fmt shape.store shape.ladder
    let prev := match k.ref with
      | some ref =>
        if decide (x.rd < 1024) && s.usesMotion x.rd k.fmt lv then
          match (s.slotsOf x.src).find? (fun y => y.ref == ref) with
          | some y => s.previousSlot y at'
          | none => none
        else none
      | none => none
    { slot := k.ref, act := 0, chase := k.chase, await := k.await, level := lv, clamp := cl, prev := prev }

/-- One selection of a reader for the frame that starts at f. -/
def State.choose (s : State) (g : Cfg) (x : ReaderCfg) (chaseWin : Nat) (f at' : Int) : Selected :=
  let r := (s.reader x.rd).restarted x.src
  let rate := s.readerRate g x
  let ch := s.chooseSlot r x rate chaseWin f at'
  let (h, c) := match ch.cand.bind (·.facts) with
    | some sl => r.updated x.policy sl
    | none => (r.h, r.c)
  let lastSeq := match ch.cand.bind (·.facts) with
    | some sl => sl.seq
    | none => r.lastSeq
  let evaluated := x.policy.preset != 0
  let cond := if evaluated then s.conditions x.policy x.src f ch h c else 0
  let bad := cond % 64 != 0
  let (st, good, acting) :=
    if evaluated then nextFState (s.fld FRESH_RECOVER_FR) r.fstate r.good bad else (0, 0, false)
  let cand := s.candShown g x at' ch.cand
  let entry := acting && r.fstate != 2 && r.fstate != 3
  let shown := if acting then r.actionShown x.policy f entry cand else cand
  let age := match ch.cand with
    | some k => ageMs f k.tStart
    | none => 0
  let live := !acting && cand.act == 0
  let damagedShown := evaluated && shown.act == 0 && cond / 64 % 2 == 1 &&
    (r.lastDamaged == 0 || decide (r.lastDamaged - 1 + 10 ^ 9 ≤ s.time.grid))
  { run := { r with
      h := h, c := c, lastSeq := lastSeq
      g := if live then cand.slot else r.g
      gAwait := if live then cand.await else r.gAwait
      gLevel := if live then cand.level else r.gLevel
      tRef := if live then (if x.policy.stallMs ≠ 0 then c else
        match ch.cand with
        | some k => k.tStart.toNat
        | none => r.tRef) else r.tRef
      fstate := st, good := good
      actFrames := if acting then (if entry then 1 else r.actFrames + 1) else 0
      cond := cond, ageMs := age
      chaseDeg := ch.degraded
      lastDamaged := if damagedShown then s.time.grid + 1 else r.lastDamaged
      nxt := some shown, nxtAt := f }
    shown := shown
    acted := entry
    cleared := !acting && (r.fstate == 2 || r.fstate == 3) && evaluated
    damaged := damagedShown
    degraded := ch.degraded && !r.chaseDeg
    ageMs := age }

/-- CHASE_WIN of a reader. -/
def State.chaseWin (s : State) (rd : Nat) : Nat :=
  if rd < 1024 then s.fld DST_CHASE_WIN rd else s.fld CMP_CHASE_WIN (rdObj rd - 1024)

/-- The events of a selection (R17, R212). -/
def State.selectionEvents (s : State) (x : ReaderCfg) (r : ReaderRun) (d : Selected) : State :=
  let dest := s.ownerList (objOri x.obj)
  let ev := fun (s : State) (e data : Nat) => s.raise e { index := rdIndex x.rd, sub := rdSub x.rd, data := data, dest := dest }
  let s := s.when d.degraded (fun s => ev s Ev.CHASE_DEGRADED x.src)
  let s := s.when d.acted (fun s => ev s Ev.FRESH_ACT (d.run.cond + 2 ^ 8 * x.policy.action + 2 ^ 32 * d.ageMs))
  let s := s.when d.cleared (fun s => ev s Ev.FRESH_CLEAR (r.actFrames + 2 ^ 32 * d.ageMs))
  s.when d.damaged (fun s =>
    let bits := match d.shown.slot.bind s.slotAt with
      | some sl => sl.flags % 32
      | none => 0
    ev s Ev.FRESH_DAMAGED (d.run.lastSeq + 2 ^ 32 * bits))

/-- A reader as SELECT and TEAR name it (R446). -/
def readerWord (rd : Nat) : Nat :=
  let kind := if rd < 1024 then 1 else if rd < 1792 then 2 else 3
  let layer := if rd < 1024 then 0 else rdLayerOf rd
  let tile := if rd < 1792 then 0 else rdTileOf rd
  kind + 2 ^ 2 * rdIndex rd + 2 ^ 12 * layer + 2 ^ 16 * tile

/-- The SELECT record of a selection (R441, R446). -/
def selectWords (x : ReaderCfg) (d : Selected) (k : Nat) : List Nat :=
  let mode := if x.lat = 1 ∧ d.run.chaseDeg = false then 1 else 2
  let w := readerWord x.rd + 2 ^ 22 * d.run.fstate + 2 ^ 24 * mode +
    2 ^ 26 * bit d.shown.acting + 2 ^ 27 * bit d.shown.entry + 2 ^ 28 * bit (d.shown.act == 4)
  let seq := match d.shown.slot with
    | some r => r.seq
    | none => 0
  let age := match d.shown.age with
    | some a => a
    | none => 0xFFFFF
  [word64 w seq, word64 k (age + 2 ^ 20 * d.run.cond)]

/-- A reader makes its own choice for the frame k that starts at f, with an instant at which slots count as closed. -/
def State.selectFor (s : State) (g : Cfg) (rd k : Nat) (f at' : Int) : State :=
  let s := s.settleErrors
  match g.readerAt rd with
  | none =>
    let r := (s.reader rd).restarted 2047
    s.setReader rd { r with fstate := 0, good := 0, actFrames := 0, cond := 0, ageMs := 0, chaseDeg := false,
                            nxt := some {}, nxtAt := f }
  | some x =>
    let r := s.reader rd
    let d := s.choose g x (s.chaseWin rd) f at'
    let s := s.setReader rd d.run
    let s := s.selectionEvents x r d
    s.when s.mirrors (fun s => s.send Msg.SELECT (selectWords x d k))

/-- The next frame of an object, with its lead in ns: index, start and phase. -/
def State.nextFrame (s : State) (obj : Nat) : Option (Nat × Int × Nat) :=
  let of (o : ObjRun) (c : ObjClock) : Option (Nat × Int × Nat) :=
    if c.rate = 0 then none
    else
      let (k, f, _) := o.next c
      some (k, f, leadNs (o.leadAtFrame c f))
  if obj < 1024 then of (s.dstRun obj).obj (s.dstClock obj)
  else
    let c := obj - 1024
    of (s.cmpRun c).obj (s.cmpClock c (s.cmpNow c))

/-- The selection instant of a reader (R151): due when it has come and no choice stands for that frame. A device that
follows its peer takes the peer's choice instead (R441). -/
def State.selectAt (s : State) (rd : Nat) : State :=
  let obj := rdObj rd
  if s.hasBoundary obj = false then s
  else
    match s.nextFrame obj with
    | none => s
    | some (k, f, lead) =>
      let r := s.reader rd
      if s.nowInt < f - lead then s
      else if s.follows then s.settleErrors
      else if r.nxt.isSome ∧ r.nxtAt = f then s
      else s.selectFor (s.cfgAt obj f lead) rd k f (f - lead)

end Sys2Proof.Machine
end

