-- ==== Sys2Proof/Machine/Render.lean ====
section
/-! DEFINITION. Rendering: the pipeline of a destination (R227 .. R242) and the picture of a compositor
(R250 .. R264), with the freshness pictures of R205 .. R211. -/

namespace Sys2Proof.Machine
open Reg

/-! ### What a reader takes (R156, R205, R207) -/

/-- A picture as it is read: its format, store format, level, and the frame before for MOTION. -/
structure Read where
  pic : Pic
  fmt : Nat
  store : Nat
  level : Nat
  prev : Option Pic
  deriving DecidableEq, Repr

/-- Rows from `row` on are those of another picture, at the same positions (R156). -/
def tornAt (row : Nat) (a b : Pic) : Pic :=
  a.mapComps (fun i c => Plane.tabulate c.w c.h (fun x y => if y < row then c.px x y else (b.comp i).px x y))

/-- The picture of a slot that a reader shows. -/
def State.readSlot (s : State) (x : Shown) (ref : SlotRef) : Option Read :=
  match s.slotAt ref with
  | none => none
  | some sl =>
    let pic := sl.level x.level
    let pic := match x.tearLine, x.tearSlot.bind s.slotAt with
      | some row, some other => tornAt row pic (other.level x.level)
      | _, _ => pic
    some { pic := pic, fmt := sl.fmt, store := (s.ringOf ref).store, level := x.level
           prev := (x.prev.bind s.slotAt).map (fun p => p.level 0) }

/-- The picture that the reader's frame is made from: the slot, or the hold picture under HOLD and SLATE. -/
def State.readFor (s : State) (r : ReaderRun) (x : Shown) : Option Read :=
  match x.slot with
  | some ref => s.readSlot x ref
  | none =>
    if x.act = 1 ∨ x.act = 2 then
      r.hold.map (fun h => { pic := h.pic, fmt := h.fmt, store := h.store, level := h.level, prev := none })
    else none

/-- SEQ of the picture that the reader's frame shows, the hold picture included; 0: none. -/
def ReaderRun.seqShown (r : ReaderRun) : Nat :=
  match r.cur.slot with
  | some ref => ref.seq
  | none => if r.cur.act = 1 ∨ r.cur.act = 2 then r.hold.elim 0 (·.seq) else 0

/-! ### Shared stages -/

/-- The colour space of a source format; `full` for an RGB source treated as full range (R232). -/
def srcSpace (fmt : Nat) (full : Bool) : Space := { color := fmtColor fmt, rgb := fmtRgb fmt, full := fmtRgb fmt && full }

def sameSpace (a b : Space) : Bool := a.color == b.color && a.rgb == b.rgb && (!a.rgb || a.full == b.full)

/-- The BT.709 narrow YCbCr space of the slate (R227). -/
def slateSpace : Space := { color := 0, rgb := false, full := false }

/-- Component i of a slate colour word converted to a space, in 12-bit codes. -/
def slateColour (word : Nat) (out : Space) (i : Nat) : Nat :=
  (autoMatrix slateSpace out).1.pixel (fun j => 4 * slateComp word j) i

/-- Dimming of R211 on 12-bit samples: each component is scaled to 10 bits for the step. -/
def dimPic (n : Nat) (rgb : Bool) (p : Pic) : Pic :=
  if n = 0 then p
  else p.mapComps (fun i c => { c with data := c.data.map (fun v =>
    4 * dim10 n (!rgb && decide (i ≠ 0)) (min 1023 ((v + 2) / 4))) })

/-- The slate of a frame over w x h: what it draws at a pixel (R209, R210). -/
def State.slateFor (s : State) (x : Shown) (w h px py : Nat) : SlatePixel :=
  if x.act = 2 then slateAt w h (if s.fldOn FRESH_AGE_TEXT then some (ageText x.age) else none) px py else .clear

/-- Component i of a pixel with the slate over it. -/
def State.slateOver (s : State) (out : Space) (i : Nat) (sl : SlatePixel) (v : Nat) : Nat :=
  match sl with
  | .clear => v
  | .colA => slateColour (s.fld FRESH_SLATE_A) out i
  | .colB => slateColour (s.fld FRESH_SLATE_B) out i

/-- An interlaced L0 frame as a progressive one under a mode; other pictures unchanged. -/
def Read.progressive (r : Read) (mode : Deint) (th : Nat) : Pic :=
  if fmtInterlaced r.fmt ∧ r.level = 0 then
    deinterlace mode (topIsField1 (fmtRaster r.fmt)) th (unpack12 r.store r.pic) (r.prev.map (unpack12 r.store))
  else unpack12 r.store r.pic

/-! ### The destination pipeline (R227) -/

/-- The output space of destination d. -/
def State.dstSpace (s : State) (d : Nat) : Space :=
  { color := s.fld DST_COLOR d, rgb := s.fldOn DST_RGB d, full := s.fldOn DST_RGB d && s.fldOn DST_FULL d }

/-- DST_MTX (R241). -/
def State.dstManual (s : State) (d : Nat) : Matrix :=
  let m := fun f => signed 16 (s.fld f d)
  let o := fun f => signed 14 (s.fld f d)
  { m := [[m DST_M00, m DST_M01, m DST_M02], [m DST_M10, m DST_M11, m DST_M12], [m DST_M20, m DST_M21, m DST_M22]]
    inp := [o DST_IN0, o DST_IN1, o DST_IN2], out := [o DST_OUT0, o DST_OUT1, o DST_OUT2] }

/-- Stage 7 for a source space: the matrix in use, if any, and CONV_PARTIAL (R232, R241). -/
def State.dstMatrix (s : State) (d : Nat) (src : Space) : Option Matrix × Bool :=
  if s.fldOn DST_AUTO_MTX d then
    if sameSpace src (s.dstSpace d) then (none, false)
    else let (m, part) := autoMatrix src (s.dstSpace d); (some m, part)
  else (some (s.dstManual d), false)

/-- A graphic by partition and handle (R84). -/
def State.graphic (s : State) (p h : Nat) : Option Plane := Tab.get none s.store.graphics (4096 * p + h)

/-- The table that a handle of destination d's owner names; handle 0 is none (R242). -/
def State.lutTable (s : State) (d handle : Nat) : Option Plane :=
  if handle = 0 then none else (s.owner (oriDst d)).bind (fun p => s.graphic p handle)

/-- A look-up table on component i of a pixel (R242). -/
def lutAt (lut : Option Plane) (i v : Nat) : Nat :=
  match lut with
  | none => v
  | some g => g.px (v : Int) (i : Int) % 4096

/-- A look-up table on a picture. -/
def lutStage (lut : Option Plane) (p : Pic) : Pic :=
  p.mapComps (fun i c => { c with data := c.data.map (lutAt lut i) })

/-- The deinterlace mode of destination d (R236): MOTION where it is automatic. -/
def State.dstDeint (s : State) (d : Nat) : Deint :=
  match s.fld DST_DEINT d with
  | 1 => .weave
  | 2 => .field
  | _ => .motion

/-- The fields of an interlaced slot pass row for row (R236). -/
def State.passesFields (s : State) (d : Nat) (r : Read) : Bool :=
  fmtInterlaced r.fmt && r.level == 0 && s.fldOn DST_SCAN d &&
  (rasterSize (s.fld DST_RASTER d)).2 == (rasterSize (fmtRaster r.fmt)).2

/-- DEINT_USED of a frame. -/
def State.deintUsed (s : State) (d : Nat) (r : Read) : Nat :=
  if fmtInterlaced r.fmt = true ∧ r.level = 0 ∧ s.passesFields d r = false then
    match s.dstDeint d, r.prev with
    | .weave, _ => 1
    | .field, _ => 2
    | .motion, none => 2
    | .motion, some _ => 3
  else 0

/-- Black in the output space as 12-bit planes at full width. -/
def blackPic (out : Space) (w h : Nat) : Pic := { comps := (List.range 3).map (fun i => Plane.flat w h (black12 out i)) }

/-- A plane placed at (x, y) in a raster of w x h, on a value. -/
def placePlane (x y w h v : Nat) (p : Plane) : Plane :=
  Plane.tabulate w h (fun i j =>
    if x ≤ i ∧ i < x + p.w ∧ y ≤ j ∧ j < y + p.h then p.px ((i - x : Nat) : Int) ((j - y : Nat) : Int) else v)

/-- The frame line of stored row r of an output that is held in stored order, or of a whole frame. -/
def State.outLine (s : State) (d : Nat) (stored : Bool) (r : Nat) : Nat :=
  if stored then frameLine (s.dstFmt d) (rasterSize (s.fld DST_RASTER d)).2 r else r

/-- Stages 6 .. 8 of a picture in a space: input table, matrix, output table. -/
def State.dstColour (s : State) (d : Nat) (src : Space) (p : Pic) : Pic :=
  let run := s.dstRun d
  let p := lutStage run.lutIn p
  let p := match (s.dstMatrix d src).1 with
    | some m => m.apply p
    | none => p
  lutStage run.lutOut p

/-- Component i of a slate colour on the output of destination d: it bypasses stage 6, stage 7 converts it from BT.709
narrow, or as the manual matrix has it, and stage 8 follows (R227, R241). -/
def State.slateOut (s : State) (d word i : Nat) : Nat :=
  let m := if s.fldOn DST_AUTO_MTX d then (autoMatrix slateSpace (s.dstSpace d)).1 else s.dstManual d
  lutAt (s.dstRun d).lutOut i (m.pixel (fun j => 4 * slateComp word j) i)

/-- Outside the fit rectangle a picture is black in the output format (R231). -/
def State.fitBorder (s : State) (d : Nat) (t : Target) (p : Pic) : Pic :=
  let (w, _) := rasterSize (s.fld DST_RASTER d)
  p.mapComps (fun i c =>
    let half := fun (n : Nat) => if c.w < w then n / 2 else n
    Plane.tabulate c.w c.h (fun px py =>
      if half t.x ≤ px ∧ px < half t.x + half t.w ∧ t.y ≤ py ∧ py < t.y + t.h then c.px px py
      else black12 (s.dstSpace d) i))

/-- Stages 1 .. 8 of a frame with a picture, but for the slate: the picture in the output space and whether its rows are
in stored order. -/
def State.dstPicture (s : State) (d : Nat) (x : Shown) (r : Read) : Pic × Bool :=
  let (w, h) := rasterSize (s.fld DST_RASTER d)
  let src := srcSpace r.fmt (s.fldOn DST_SRC_FULL d)
  let (mtx, _) := s.dstMatrix d src
  let pass := s.passesFields d r
  let p := if pass then unpack12 r.store r.pic else r.progressive (s.dstDeint d) (s.fld DST_MOTION_TH d)
  let t := s.dstTarget d (fmtRaster r.fmt)
  let full := s.fldOn DST_SAMPLING d || mtx.isSome
  let width := fun (i n : Nat) => if i ≠ 0 ∧ full = false then n / 2 else n
  let p := p.mapComps (fun i c => scalePlane basicTaps (width i t.w) t.h c)
  let p := if s.fldOn DST_ASPECT d then
      p.mapComps (fun i c => placePlane (width i t.x) t.y (width i w) h (black12 src i) c)
    else p
  let p := if x.act = 2 then dimPic (s.fld FRESH_DIM) src.rgb p else p
  let p := s.dstColour d src p
  (if s.fldOn DST_ASPECT d then s.fitBorder d t p else p, pass)

/-- Stages 6 .. 8 of a frame that an action or the want of a slot makes black: it enters at stage 5 in the reader's format
(R205, R227; DEDUCED, log 52). Without a source the output is black as it is (R15). -/
def State.dstBlack (s : State) (d : Nat) : Pic :=
  let (w, h) := rasterSize (s.fld DST_RASTER d)
  let black := blackPic (s.dstSpace d) w h
  if (s.cfg.dst d).vsrc = 2047 then black else s.dstColour d (s.dstSpace d) black

/-- The slate over a picture whose rows may be in stored order; a half-width chroma sample follows its even pixel. -/
def State.withSlate (s : State) (d : Nat) (x : Shown) (stored : Bool) (p : Pic) : Pic :=
  let (w, h) := rasterSize (s.fld DST_RASTER d)
  if x.act = 2 then
    p.mapComps (fun i c => Plane.tabulate c.w c.h (fun px row =>
      let col := if c.w < w then 2 * px else px
      match s.slateFor x w h col (s.outLine d stored row) with
      | .clear => c.px px row
      | .colA => s.slateOut d (s.fld FRESH_SLATE_A) i
      | .colB => s.slateOut d (s.fld FRESH_SLATE_B) i))
  else p

/-- Stages 9 .. 11. -/
def State.dstFinish (s : State) (d : Nat) (p : Pic) : Pic :=
  let (w, _) := rasterSize (s.fld DST_RASTER d)
  let bits := s.fld DST_BITS d
  let rgb := s.fldOn DST_RGB d
  p.mapComps (fun i c =>
    let c := if s.fldOn DST_SAMPLING d = false ∧ i ≠ 0 ∧ c.w = w then decimatePlane c else c
    let lim := clipLimits (s.fldOn DST_CLIP d) (s.fld DST_LINK d != 0) (rgb && s.fldOn DST_FULL d) (!rgb && decide (i ≠ 0))
    { c with data := c.data.map (fun v => clipSample bits lim (quantise bits v)) })

/-- The picture of a frame of destination d (R15, R205, R227, R238). -/
def State.renderDst (s : State) (d : Nat) (r : ReaderRun) (x : Shown) : Pic :=
  let (p, stored) := match (if x.act ≤ 2 then s.readFor r x else none) with
    | some rd => s.dstPicture d x rd
    | none => (s.dstBlack d, false)
  let p := s.dstFinish d (s.withSlate d x stored p)
  if s.fldOn DST_SCAN d ∧ stored = false then p.mapComps (fun _ c => splitFields c) else p

/-- Two 16-bit halves of a MTX_USED word. -/
def half16 (a b : Int) : Nat := unsignedOf 16 a + 2 ^ 16 * unsignedOf 16 b
def half14 (a b : Int) : Nat := unsignedOf 14 a + 2 ^ 16 * unsignedOf 14 b

/-- MTX_USED in the layout of DST_MTX (R243). -/
def Matrix.words (m : Matrix) : List Nat :=
  let c := fun i j => (m.m.getD i []).getD j 0
  let i := fun j => m.inp.getD j 0
  let o := fun j => m.out.getD j 0
  [half16 (c 0 0) (c 0 1), half16 (c 0 2) (c 1 0), half16 (c 1 1) (c 1 2), half16 (c 2 0) (c 2 1), unsignedOf 16 (c 2 2),
   half14 (i 0) (i 1), half14 (i 2) (o 0), half14 (o 1) (o 2)]

/-- The status fields of destination d after a frame (R226, R232, R236, R243). -/
def State.dstStatus (s : State) (d : Nat) (r : ReaderRun) (x : Shown) : State :=
  let rd := if x.act ≤ 2 then s.readFor r x else none
  let (mtx, part, inUse) := match rd with
    | some rd =>
      let (m, part) := s.dstMatrix d (srcSpace rd.fmt (s.fldOn DST_SRC_FULL d))
      (m, part, s.deintUsed d rd)
    | none => (none, false, 0)
  let s := (s.setFld DST_CONV_PARTIAL (bit part) d).setFld DST_DEINT_USED inUse d
  let s := s.setFld DST_LEVEL_RD (match rd with | some rd => rd.level | none => 0) d
  let s := s.when x.clamp (fun s => s.setFld DST_LEVEL_CLAMP 1 d)
  let words := match mtx with
    | some m => m.words
    | none => []
  s.upTo 8 (fun s j => s.setFld DST_MTX_USED (words.getD j 0) d j)

/-! ### Registers as they stood at a frame start (R213, R240 .. R242, R270) -/

/-- Keys of the registers that a frame of an object is rendered with: those of its block, and the slate controls. -/
def renderKey (obj key : Nat) : Bool :=
  let off := key / 8
  let base := if obj < 1024 then 0x600000 + 0x400 * obj else 0x800000 + 0x1000 * (obj - 1024)
  let size := if obj < 1024 then 0x400 else 0x1000
  decide (base ≤ off ∧ off < base + size) || decide (FRESH_SLATE_A.base ≤ off ∧ off < FRESH_SLATE_A.base + 12)

/-- The registers that a frame of an object is rendered with, as they stand. -/
def State.renderRegs (s : State) (obj : Nat) : Tab Nat := s.regs.filter (fun e => renderKey obj e.1)

/-- The state with those registers as they stood. -/
def State.under (s : State) (obj : Nat) (t : Tab Nat) : State :=
  { s with regs := t.foldl (fun r e => Tab.insert r e.1 e.2) (s.regs.filter (fun e => !renderKey obj e.1)) }

/-- The picture of the CHASE frame in progress of destination d as it stands (R156, R222). -/
def State.latePicture (s : State) (d : Nat) : Pic :=
  let r := s.reader (rdDst d)
  (s.under (objDst d) (s.dstRun d).latch).renderDst d r r.cur

/-! ### Compositors (R250 .. R264) -/

/-- CMP_TAPS of a compositor. -/
def State.cmpTaps (s : State) (c : Nat) : Taps := fun t k =>
  signed 16 (match k with
    | 0 => s.fld TAPS_C_M1 c t
    | 1 => s.fld TAPS_C_0 c t
    | 2 => s.fld TAPS_C_1 c t
    | _ => s.fld TAPS_C_2 c t)

/-- The space of a compositor's output (R244). -/
def cmpSpace (m : CmpCfg) : Space := { color := bitField m.outFmt 6 1, rgb := false, full := false }

/-- What a reader, a pattern or a graphic draws in its own rectangle: a colour with alpha, and whether the pixel is the
slate's. -/
structure Ink where
  y : Nat
  cb : Nat
  cr : Nat
  alpha : Nat
  slate : Bool
  deriving DecidableEq, Repr

def Ink.comp (k : Ink) : Nat → Nat
  | 0 => k.y
  | 1 => k.cb
  | _ => k.cr

def opaqueInk (f : Nat → Nat) : Ink := { y := f 0, cb := f 1, cr := f 2, alpha := 4096, slate := false }

/-- A part of a picture: the crop in luma samples; half-width chroma takes the samples that the crop touches. -/
def cropPic (t : Target) (p : Pic) : Pic :=
  let w := (p.comp 0).w
  p.mapComps (fun _ c => if c.w < w then cropPlane (t.x / 2) t.y (ceilDiv (t.x + t.w) 2 - t.x / 2) t.h c
    else cropPlane t.x t.y t.w t.h c)

/-- The picture of a VIDEO or MOSAIC reader in its rectangle of w x h (R253, R256, R257), and CONV_PARTIAL; none where
the clipped crop is empty. -/
def State.readerPic (s : State) (c : Nat) (m : CmpCfg) (x : Shown) (r : Read) (crop : Option LayerCfg) (w h : Nat) :
    Option (Pic × Bool) :=
  let t : Option Target := match crop with
    | none => let (a, b) := fmtLevelSize r.fmt r.store r.level; some { x := 0, y := 0, w := a, h := b }
    | some l =>
      if cropEmpty r.fmt l.cropX l.cropY l.cropW l.cropH then none
      else some (cropAt r.fmt r.store r.level l.cropX l.cropY l.cropW l.cropH)
  t.map (fun t =>
    let src := srcSpace r.fmt false
    let p := (cropPic t (r.progressive .field 0)).mapComps (fun _ q => scalePlane (s.cmpTaps c) w h q)
    let p := if x.act = 2 then dimPic (s.fld FRESH_DIM) src.rgb p else p
    if sameSpace src (cmpSpace m) then (p, false)
    else let (mx, part) := autoMatrix src (cmpSpace m); (mx.apply p, part))

/-- What a VIDEO or MOSAIC reader draws at (px, py) of its rectangle: nothing for an empty crop, black for want of a
picture, the slate over both (R205, R209, R251). -/
def State.readerInk (s : State) (c : Nat) (m : CmpCfg) (rd : Nat) (crop : Option LayerCfg) (w h : Nat) :
    (Nat → Nat → Option Ink) × Bool :=
  let r := s.reader rd
  let x := r.cur
  let out := cmpSpace m
  let slated := fun (px py : Nat) (k : Option Ink) =>
    match s.slateFor x w h px py with
    | .clear => k
    | sl => some { y := s.slateOver out 0 sl 0, cb := s.slateOver out 1 sl 0, cr := s.slateOver out 2 sl 0
                   alpha := 4096, slate := true }
  match (if x.act ≤ 2 then s.readFor r x else none) with
  | none => (fun px py => slated px py (some (opaqueInk (black12 out))), false)
  | some q =>
    match s.readerPic c m x q crop w h with
    | none => (fun px py => slated px py none, false)
    | some (p, part) =>
      (fun px py => slated px py (some (opaqueInk (fun i => (p.comp i).px px py))), part)

/-- A graphic pixel (R259): ARGB as one word. -/
def graphicInk (m : CmpCfg) (v : Nat) : Ink :=
  let rgb : Space := { color := (cmpSpace m).color, rgb := true, full := true }
  let mx := (autoMatrix rgb (cmpSpace m)).1
  let f := mx.pixel (fun j => graphicComp (bitField v (if j = 0 then 16 else if j = 1 then 8 else 0) 8))
  { y := f 0, cb := f 1, cr := f 2, alpha := graphicAlpha (bitField v 24 8), slate := false }

/-- The tile that stands at (px, py) of a MOSAIC layer: the highest index that covers it (R252), with its position. -/
def tileAt (x : LayerCfg) (px py : Nat) : Option (Nat × Tile) :=
  ((x.tiles.mapIdx (fun i t => (i, t))).reverse).find? (fun e =>
    decide (e.2.x ≤ px ∧ (px : Int) < e.2.x + e.2.w ∧ e.2.y ≤ py ∧ (py : Int) < e.2.y + e.2.h))

/-- What layer l of compositor c draws at (px, py) of its rectangle in plane frame k. -/
def State.layerInk (s : State) (c l k : Nat) (m : CmpCfg) : Nat → Nat → Option Ink :=
  let x := m.layer l
  match x.kind with
  | 1 => (s.readerInk c m (rdLayer c l) (some x) x.w x.h).1
  | 2 =>
    let inks := x.tiles.mapIdx (fun i t => (s.readerInk c m (rdTile c l i) none t.w t.h).1)
    fun px py =>
      match tileAt x px py with
      | none => none
      | some (i, t) =>
        match inks[i]? with
        | some f => f ((px : Int) - t.x).toNat ((py : Int) - t.y).toNat
        | none => none
  | 3 =>
    match (if x.ref = 0 then none else s.graphic x.gfxPart x.ref) with
    | none => fun _ _ => none
    | some g => fun px py =>
      if x.cropX + px < g.w ∧ x.cropY + py < g.h then
        some (graphicInk m (g.px ((x.cropX + px : Nat) : Int) ((x.cropY + py : Nat) : Int)))
      else none
  | 4 =>
    if x.ref = 0 then fun _ _ => none
    else fun px py => let t := triple (patternPixel x.ref x.w k px py); some (opaqueInk (fun i => 4 * t i))
  | _ => fun _ _ => none

/-- The layer at a depth (R262). -/
def CmpCfg.layerAt (m : CmpCfg) (i : Nat) : Nat := if m.zpermEn then bitField m.zperm (3 * i) 3 else i

/-- One layer blended onto an accumulator of one component (R263). -/
def blendLayer (x : LayerCfg) (off : Int) (i : Nat) (ink : Option Ink) (acc : Int) : Int :=
  match ink with
  | none => acc
  | some k => blendStep acc (k.comp i) off (if k.slate then 4096 else effectiveAlpha k.alpha x.alpha)

/-- The 12-bit picture of compositor c in plane frame k (R263). -/
def State.composeRaw (s : State) (c k : Nat) (m : CmpCfg) : Pic :=
  let (w, h) := rasterSize (bitField m.outFmt 0 4)
  let layers := (List.range 8).map (fun i =>
    let l := m.layerAt i
    (m.layer l, if (m.layer l).alpha = 0 then fun _ _ => none else s.layerInk c l k m))
  { comps := (List.range 3).map (fun i =>
      let off : Int := if i = 0 then 256 else 2048
      Plane.tabulate w h (fun px py =>
        let acc := layers.foldl (fun acc e =>
          let x := e.1
          let u : Int := (px : Int) - x.x
          let v : Int := (py : Int) - x.y
          if 0 ≤ u ∧ u < x.w ∧ 0 ≤ v ∧ v < x.h then blendLayer x off i (e.2 u.toNat v.toNat) acc else acc)
          ((4 * slateComp m.bg i : Nat) - off : Int)
        clamp12 (acc + off))) }

/-- The picture written to the slot (R264). -/
def State.compose (s : State) (c k : Nat) (m : CmpCfg) : Pic :=
  let v := bitField m.outFmt 4 2
  (s.composeRaw c k m).mapComps (fun i p =>
    let p := if v = 1 ∧ i ≠ 0 then decimatePlane p else p
    { p with data := p.data.map (compositorSample v) })

/-- LEVEL_USED and SHOWN_SEQ of a reader after a frame. -/
def State.readerStatus (s : State) (rd : Nat) : State :=
  let r := s.reader rd
  let level := match (if r.cur.act ≤ 2 then s.readFor r r.cur else none) with
    | some q => q.level
    | none => 0
  s.setReader rd { r with shownSeq := r.seqShown, shownLevel := level }

/-- Status of the layers of compositor c after a frame (R254, R255, R257). -/
def State.layerStatus (s : State) (c l : Nat) (m : CmpCfg) : State :=
  let x := m.layer l
  let rds := if x.kind = 1 then [rdLayer c l] else if x.kind = 2 then (List.range x.tiles.length).map (rdTile c l) else []
  let clamped := rds.any (fun rd => (s.reader rd).cur.clamp)
  let partial' := rds.any (fun rd =>
    let r := s.reader rd
    match (if r.cur.act ≤ 2 then s.readFor r r.cur else none) with
    | some q =>
      let src := srcSpace q.fmt false
      !sameSpace src (cmpSpace m) && (autoMatrix src (cmpSpace m)).2
    | none => false)
  let s := s.when clamped (fun s => s.setFld CMP_LEVEL_CLAMP (s.fld CMP_LEVEL_CLAMP c ||| 2 ^ l) c)
  (s.setFld LAYR_CONV_PARTIAL (bit partial') c l).each rds State.readerStatus

end Sys2Proof.Machine
end

