-- ==== Sys2Proof/Machine/ProbeOps.lean ====
section
/-! DEFINITION. Probe cores: registers, addressing, loops, flags, faults, halts and one instruction step
(R405, R408 .. R416, R540, R541). -/

namespace Sys2Proof.Machine
open Reg

/-! ### STATE (R405) -/

def coreStopped : Nat := 0
def coreWaiting : Nat := 1
def coreFilling : Nat := 2
def coreRunning : Nat := 3
def coreStalled : Nat := 4
def coreFault : Nat := 5
def coreDebug : Nat := 6

def State.core (s : State) (c : Nat) : CoreRun := Tab.get {} s.probe.cores c

def State.setCore (s : State) (c : Nat) (x : CoreRun) : State :=
  { s with probe := { s.probe with cores := Tab.set {} s.probe.cores c x } }

def CoreRun.dreg (x : CoreRun) (i : Nat) : Nat := Tab.get 0 x.d i

/-- A data register is written, kept to 16 bits. -/
def CoreRun.setD (x : CoreRun) (i v : Nat) : CoreRun := { x with d := Tab.set 0 x.d i (v % 2 ^ 16) }

/-- A field of an address register: 0 CUR, 1 BASE, 2 LEN, 3 STEP. -/
def CoreRun.xf (x : CoreRun) (i f : Nat) : Nat := Tab.get 0 x.x (4 * i + f)

def CoreRun.setXf (x : CoreRun) (i f v : Nat) : CoreRun := { x with x := Tab.set 0 x.x (4 * i + f) (v % 2 ^ 16) }

def CoreRun.acc (x : CoreRun) (k : Nat) : Int := if k = 0 then x.a0 else x.a1

def CoreRun.setAcc (x : CoreRun) (k : Nat) (v : Int) : CoreRun := if k = 0 then { x with a0 := v } else { x with a1 := v }

/-- Instruction memory is kept as 32-bit words, data memory as 16-bit words (R409). -/
def CoreRun.data (x : CoreRun) (a : Nat) : Nat := Tab.get 0 x.dmem (a % 2 ^ 16)

def CoreRun.setData (x : CoreRun) (a v : Nat) : CoreRun := { x with dmem := Tab.set 0 x.dmem (a % 2 ^ 16) (v % 2 ^ 16) }

/-! ### Fields of an instruction word (R412) -/

/-- Only the bits of a mask are used below the opcode. -/
def onlyBits (w mask : Nat) : Bool := (w % 2 ^ 26) &&& (2 ^ 26 - 1 - mask) == 0

def probeOp (w : Nat) : Nat := bitField w 26 6
def fd (w : Nat) : Nat := bitField w 22 4
def fa (w : Nat) : Nat := bitField w 18 4
def fb (w : Nat) : Nat := bitField w 14 4
def fimm (w : Nat) : Nat := bitField w 0 16

def mD : Nat := 0x03C00000
def mA : Nat := 0x003C0000
def mB : Nat := 0x0003C000
def mImm : Nat := 0xFFFF

/-! ### Flags and arithmetic (R413 .. R415) -/

/-- Z and N of a 16-bit result. -/
def CoreRun.zn (x : CoreRun) (r : Nat) : CoreRun := { x with z := r % 2 ^ 16 == 0, n := bitAt r 15 }

/-- The sum of two 16-bit words with Z, N, C and V. -/
def CoreRun.flagsAdd (x : CoreRun) (a b : Nat) : Nat × CoreRun :=
  let r := (a + b) % 2 ^ 16
  let v := signed 16 a + signed 16 b
  (r, { x.zn r with c := decide (2 ^ 16 ≤ a + b), v := decide (v ≠ signed 16 r) })

/-- The difference of two 16-bit words with Z, N, C and V; C says that no borrow occurs. -/
def CoreRun.flagsSub (x : CoreRun) (a b : Nat) : Nat × CoreRun :=
  let r := (a + 2 ^ 16 - b) % 2 ^ 16
  let v := signed 16 a - signed 16 b
  (r, { x.zn r with c := decide (b ≤ a), v := decide (v ≠ signed 16 r) })

/-- An accumulator value: wrapped to 40 bits, or clamped. -/
def acc40 (sat : Bool) (v : Int) : Int := if sat then satSigned 40 v else signed 40 (unsignedOf 40 v)

/-- A 16-bit operand of a product. -/
def operand (isSigned : Bool) (v : Nat) : Int := if isSigned then signed 16 v else (v : Int)

/-- What STA stores (R414). -/
def staValue (a sh : Int) (sat u : Bool) : Nat :=
  let v : Int := if 0 ≤ sh then a * 2 ^ sh.toNat else a / 2 ^ (-sh).toNat
  let r := v / 2 ^ 16
  if !sat then unsignedOf 16 r else if u then (max 0 (min r 65535)).toNat else unsignedOf 16 (satSigned 16 r)

/-- The condition of BR (R415). -/
def CoreRun.holds (x : CoreRun) : Nat → Bool
  | 0 => true
  | 1 => x.z
  | 2 => !x.z
  | 3 => x.n != x.v
  | 4 => x.n == x.v
  | 5 => !x.c
  | 6 => x.c
  | 7 => x.n
  | 8 => !x.n
  | 9 => x.e
  | 10 => !x.e
  | 11 => x.k
  | 12 => !x.k
  | 13 => x.f
  | 14 => !x.f
  | _ => false

/-! ### Addressing (R410) -/

/-- CUR after a modification by s. -/
def nextCur (cur base len : Nat) (s : Int) : Nat :=
  let n : Int := cur + s
  if len = 0 then unsignedOf 16 n else unsignedOf 16 ((base : Int) + (n - base) % (len : Int))

/-- An address register modified: 0 not at all, 1 post-increment, 2 post-decrement. -/
def CoreRun.modify (x : CoreRun) (i mode : Nat) : CoreRun :=
  let st := signed 16 (x.xf i 3)
  if mode = 0 then x
  else x.setXf i 0 (nextCur (x.xf i 0) (x.xf i 1) (x.xf i 2) (if mode = 1 then st else -st))

/-! ### Loops (R411) -/

def CoreRun.loop (x : CoreRun) (l : Nat) : ProbeLoop := if l = 0 then x.loop0 else x.loop1

def CoreRun.setLoop (x : CoreRun) (l : Nat) (v : ProbeLoop) : CoreRun := if l = 0 then { x with loop0 := v } else { x with loop1 := v }

/-- Loop l starts: it is the later one. -/
def CoreRun.startLoop (x : CoreRun) (l count start last : Nat) : CoreRun :=
  let o := x.loop (1 - l)
  (x.setLoop l { active := true, count := count, start := start, last := last, later := true }).setLoop (1 - l)
    { o with later := false }

/-- The instruction at `pc` has completed by sequential flow: one loop decides, giving the start when it jumps. -/
def CoreRun.loopEnd (x : CoreRun) (l pc : Nat) : CoreRun × Option Nat :=
  let v := x.loop l
  if v.active ∧ v.last = pc then
    if 1 < v.count then (x.setLoop l { v with count := v.count - 1 }, some v.start) else (x.setLoop l {}, none)
  else (x, none)

/-- Where sequential flow goes on after `pc`. The loop started later decides first. -/
def CoreRun.sequential (x : CoreRun) (pc : Nat) : CoreRun × Nat :=
  let first := if x.loop0.later then 0 else 1
  let (x, j) := x.loopEnd first pc
  match j with
  | some t => (x, t)
  | none =>
    let (x, j) := x.loopEnd (1 - first) pc
    (x, j.getD (pc + 1))

/-! ### One instruction -/

/-- What an instruction does: the block with the core after it, the cycles it takes, and the data addresses it accessed
with whether each was written. -/
inductive ProbeStep where
  /-- The instruction completes; flow goes on sequentially. -/
  | next (s : State) (x : CoreRun) (touched : List (Nat × Bool))
  /-- A transfer to an address. -/
  | jump (s : State) (x : CoreRun) (pc cycles : Nat)
  /-- The cycle ends (R407). -/
  | done (x : CoreRun)
  /-- The core is held (R422). -/
  | stall (s : State)
  | fault (cause : Nat)

/-- The meaning of an instruction: the block, the core's number, the word, the address and the core. -/
abbrev ProbeSem := State → Nat → Nat → Nat → CoreRun → ProbeStep

/-- A fault stops the core; the instruction has no effect (R416). -/
def State.probeFault (s : State) (c pc cause : Nat) : State :=
  let s := ((s.setFld PROBE_STATE coreFault c).setFld PROBE_FAULT_CAUSE cause c).setFld PROBE_FAULT_PC pc c
  s.raise Ev.PROBE_FAULT { index := c, data := cause + 2 ^ 16 * pc, dest := s.ownerList (oriProbe c) }

/-- The core halts for the debug port (R540). -/
def State.enterDebug (s : State) (c cause : Nat) : State :=
  let s := s.setCore c { s.core c with haltPend := false, haltCause := 0, stepping := false, skipBreak := false }
  ((s.setFld PROBE_STATE coreDebug c).setFld DBGC_HALTED 1 0 c).setFld DBGC_CAUSE cause 0 c

/-- An enabled breakpoint stands at an address. -/
def State.breakAt (s : State) (c pc : Nat) : Bool :=
  [(DBGC_BP_EN0, DBGC_BP_ADDR0), (DBGC_BP_EN1, DBGC_BP_ADDR1), (DBGC_BP_EN2, DBGC_BP_ADDR2), (DBGC_BP_EN3, DBGC_BP_ADDR3)].any
    (fun b => s.fldOn b.1 0 c && s.fld b.2 0 c % 2 ^ 14 == pc)

/-- An enabled watchpoint matches an access. -/
def State.watched (s : State) (c : Nat) (touched : List (Nat × Bool)) : Bool :=
  [(DBGC_WP_MODE0, DBGC_WP_LO0, DBGC_WP_HI0), (DBGC_WP_MODE1, DBGC_WP_LO1, DBGC_WP_HI1)].any (fun w =>
    touched.any (fun t =>
      bitAt (s.fld w.1 0 c) (if t.2 then 1 else 0) &&
        decide (s.fld w.2.1 0 c % 2 ^ 16 ≤ t.1 ∧ t.1 ≤ s.fld w.2.2 0 c % 2 ^ 16)))

/-- An instruction has ended: the core halts here for every reason that applies, as bits request, breakpoint, watchpoint,
step. -/
def State.boundary (s : State) (c : Nat) (touched : List (Nat × Bool)) : State :=
  let x := s.core c
  let cause := (if x.haltPend then x.haltCause else 0) ||| 2 * bit (s.breakAt c (s.fld PROBE_PC c)) |||
    4 * bit (s.watched c touched) ||| 8 * bit x.stepping
  if x.haltPend ∨ cause ≠ 0 then s.enterDebug c cause
  else s.setCore c { x with skipBreak := false }

/-- The result of an instruction at `pc` is carried out. -/
def State.finishProbe (s : State) (c pc : Nat) : ProbeStep → State
  | .fault cause => s.probeFault c pc cause
  | .stall t =>
    let t := (t.setFld PROBE_STATE coreStalled c)
    t.setCore c { t.core c with stallFrom := t.time.grid }
  | .done x =>
    let s := s.setFld PROBE_CYCLES_LAST (x.cycles + 1) c
    let s := s.setCore c { x with
      loop0 := {}, loop1 := {}, stack := [], cycles := 0, skipBreak := false
      haltPend := x.haltPend || x.stepping, haltCause := if x.stepping then x.haltCause ||| 8 else x.haltCause, stepping := false }
    s.setFld PROBE_STATE coreWaiting c
  | .jump t x dest cycles =>
    let t := t.setCore c { x with cycles := x.cycles + cycles }
    if 16384 ≤ dest then t.probeFault c 16383 2 else (t.setFld PROBE_PC dest c).boundary c []
  | .next t x touched =>
    let (x, dest) := { x with cycles := x.cycles + 1 }.sequential pc
    let t := t.setCore c x
    if 16384 ≤ dest then t.probeFault c 16383 2 else (t.setFld PROBE_PC dest c).boundary c touched

/-- The word at the PC of core c. -/
def State.probeWord (s : State) (c : Nat) : Nat := Tab.get 0 (s.core c).imem (s.fld PROBE_PC c)

/-- A running core executes the instruction at its PC when it is of a kind; a breakpoint there halts it first. -/
def State.probeRow (s : State) (c : Nat) (op : Nat → Bool) (mask : Nat) (f : ProbeSem) : State :=
  let pc := s.fld PROBE_PC c
  let w := s.probeWord c
  if s.fld PROBE_STATE c ≠ coreRunning ∨ op (probeOp w) = false then s
  else if s.breakAt c pc ∧ ¬(s.core c).skipBreak then s.enterDebug c 2
  else if onlyBits w mask = false then s.probeFault c pc 1
  else s.finishProbe c pc (f s c w pc (s.core c))

end Sys2Proof.Machine
end

