-- ==== Sys2Proof/Machine/ProbeIsa.lean ====
section
/-! DEFINITION. The instruction set of the probe cores (R412 .. R415, R420 .. R422, R425, R426, R428). -/

namespace Sys2Proof.Machine
open Reg

abbrev Out := Host.Outcome State Fault Refusal

/-! ### Flow (R407, R411, R412) -/

def execProbeNop (c : Fin 32) (s : State) : Out := .next (s.probeRow c (· == 0x00) 0 (fun s _ _ _ x => .next s x []))

def execHalt (c : Fin 32) (s : State) : Out := .next (s.probeRow c (· == 0x01) 0 (fun _ _ _ _ x => .done x))

/-- Opcodes that R412 lists. -/
def probeListed (op : Nat) : Bool :=
  decide (op ≤ 0x26) || decide (0x30 ≤ op ∧ op ≤ 0x32) || decide (0x38 ≤ op ∧ op ≤ 0x3A)

/-- BR. -/
def semBr : ProbeSem := fun s _ w pc x =>
  if fd w = 15 ∨ 16384 ≤ fimm w then .fault 1
  else if x.holds (fd w) then .jump s x (fimm w) 2 else let _ := pc; .next s x []

/-- BR, and words whose opcode is not listed: they have no row of their own. -/
def execBr (c : Fin 32) (s : State) : Out :=
  if s.fld PROBE_STATE c = coreRunning ∧ probeListed (probeOp (s.probeWord c)) = false then
    .next (s.probeRow c (fun _ => true) (2 ^ 26 - 1) (fun _ _ _ _ _ => .fault 1))
  else .next (s.probeRow c (· == 0x02) (mD ||| mImm) semBr)

def semCall : ProbeSem := fun s _ w pc x =>
  if 16384 ≤ fimm w then .fault 1
  else if 8 ≤ x.stack.length then .fault 3
  else .jump s { x with stack := x.stack ++ [pc + 1] } (fimm w) 2

def execCall (c : Fin 32) (s : State) : Out := .next (s.probeRow c (· == 0x03) mImm semCall)

def semRet : ProbeSem := fun s _ _ _ x =>
  match x.stack.getLast? with
  | none => .fault 4
  | some t => .jump s { x with stack := x.stack.dropLast } t 2

def execRet (c : Fin 32) (s : State) : Out := .next (s.probeRow c (· == 0x04) 0 semRet)

/-- A loop starts with a count, or its body is skipped. -/
def startProbeLoop (s : State) (w pc count : Nat) (x : CoreRun) : ProbeStep :=
  let last := bitField w 10 14
  if last < pc + 1 then .fault 5
  else if count = 0 then .jump s x (last + 1) 1
  else .next s (x.startLoop (bitField w 25 1) count (pc + 1) last) []

def execLp (c : Fin 32) (s : State) : Out :=
  .next (s.probeRow c (· == 0x05) 0x02FFFFFF (fun s _ w pc x => startProbeLoop s w pc (bitField w 0 10) x))

def execLpr (c : Fin 32) (s : State) : Out :=
  .next (s.probeRow c (· == 0x06) 0x02FFFC0F (fun s _ w pc x => startProbeLoop s w pc (x.dreg (bitField w 0 4)) x))

def execLpx (c : Fin 32) (s : State) : Out :=
  .next (s.probeRow c (· == 0x07) 0x02000000 (fun s _ w _ x => .next s (x.setLoop (bitField w 25 1) {}) []))

/-! ### Data registers -/

/-- Dd = a value, with Z and N. -/
def putZn (s : State) (w v : Nat) (x : CoreRun) : ProbeStep := .next s ((x.setD (fd w) v).zn v) []

def execLdi (c : Fin 32) (s : State) : Out :=
  .next (s.probeRow c (· == 0x08) (mD ||| mImm) (fun s _ w _ x => putZn s w (fimm w) x))

def execMov (c : Fin 32) (s : State) : Out :=
  .next (s.probeRow c (· == 0x09) (mD ||| mA) (fun s _ w _ x => putZn s w (x.dreg (fa w)) x))

/-- The result and flags of an addition or subtraction go to Dd. -/
def putSum (s : State) (w : Nat) (r : Nat × CoreRun) : ProbeStep := .next s (r.2.setD (fd w) r.1) []

def execAdd (c : Fin 32) (s : State) : Out :=
  .next (s.probeRow c (· == 0x0A) (mD ||| mA ||| mB) (fun s _ w _ x => putSum s w (x.flagsAdd (x.dreg (fa w)) (x.dreg (fb w)))))

def execSub (c : Fin 32) (s : State) : Out :=
  .next (s.probeRow c (· == 0x0B) (mD ||| mA ||| mB) (fun s _ w _ x => putSum s w (x.flagsSub (x.dreg (fa w)) (x.dreg (fb w)))))

def execAndReg (c : Fin 32) (s : State) : Out :=
  .next (s.probeRow c (· == 0x0C) (mD ||| mA ||| mB) (fun s _ w _ x => putZn s w (x.dreg (fa w) &&& x.dreg (fb w)) x))

def execOrReg (c : Fin 32) (s : State) : Out :=
  .next (s.probeRow c (· == 0x0D) (mD ||| mA ||| mB) (fun s _ w _ x => putZn s w (x.dreg (fa w) ||| x.dreg (fb w)) x))

def execXorReg (c : Fin 32) (s : State) : Out :=
  .next (s.probeRow c (· == 0x0E) (mD ||| mA ||| mB) (fun s _ w _ x => putZn s w (x.dreg (fa w) ^^^ x.dreg (fb w)) x))

def execCmp (c : Fin 32) (s : State) : Out :=
  .next (s.probeRow c (· == 0x0F) (mA ||| mB) (fun s _ w _ x => .next s (x.flagsSub (x.dreg (fa w)) (x.dreg (fb w))).2 []))

def execAddi (c : Fin 32) (s : State) : Out :=
  .next (s.probeRow c (· == 0x10) (mD ||| mImm) (fun s _ w _ x => putSum s w (x.flagsAdd (x.dreg (fd w)) (fimm w))))

def execCmpi (c : Fin 32) (s : State) : Out :=
  .next (s.probeRow c (· == 0x11) (mD ||| mImm) (fun s _ w _ x => .next s (x.flagsSub (x.dreg (fd w)) (fimm w)).2 []))

def execAndi (c : Fin 32) (s : State) : Out :=
  .next (s.probeRow c (· == 0x12) (mD ||| mImm) (fun s _ w _ x => putZn s w (x.dreg (fd w) &&& fimm w) x))

def execShl (c : Fin 32) (s : State) : Out :=
  .next (s.probeRow c (· == 0x13) (mD ||| mA ||| mB) (fun s _ w _ x => putZn s w (x.dreg (fa w) * 2 ^ fb w % 2 ^ 16) x))

def execShr (c : Fin 32) (s : State) : Out :=
  .next (s.probeRow c (· == 0x14) (mD ||| mA ||| mB) (fun s _ w _ x => putZn s w (x.dreg (fa w) / 2 ^ fb w) x))

def execSra (c : Fin 32) (s : State) : Out :=
  .next (s.probeRow c (· == 0x15) (mD ||| mA ||| mB)
    (fun s _ w _ x => putZn s w (unsignedOf 16 (signed 16 (x.dreg (fa w)) / 2 ^ fb w)) x))

/-- ABS: the most negative value gives 32,767 and sets V. -/
def semAbs : ProbeSem := fun s _ w _ x =>
  let a := signed 16 (x.dreg (fa w))
  let r := unsignedOf 16 (satSigned 16 (a.natAbs : Int))
  .next s { (x.setD (fd w) r).zn r with v := decide (a = -32768) } []

def execAbsReg (c : Fin 32) (s : State) : Out := .next (s.probeRow c (· == 0x16) (mD ||| mA) semAbs)

def execMinReg (c : Fin 32) (s : State) : Out :=
  .next (s.probeRow c (· == 0x17) (mD ||| mA ||| mB)
    (fun s _ w _ x => putZn s w (unsignedOf 16 (min (signed 16 (x.dreg (fa w))) (signed 16 (x.dreg (fb w))))) x))

def execMaxReg (c : Fin 32) (s : State) : Out :=
  .next (s.probeRow c (· == 0x18) (mD ||| mA ||| mB)
    (fun s _ w _ x => putZn s w (unsignedOf 16 (max (signed 16 (x.dreg (fa w))) (signed 16 (x.dreg (fb w))))) x))

/-! ### Data memory and address registers (R410, R412) -/

def semLd : ProbeSem := fun s _ w _ x =>
  let i := bitField w 19 3
  let mode := bitField w 17 2
  if mode = 3 then .fault 1
  else
    let a := x.xf i 0
    .next s ((x.setD (fd w) (x.data a)).modify i mode) [(a, false)]

def execLd (c : Fin 32) (s : State) : Out := .next (s.probeRow c (· == 0x19) (mD ||| 0x003E0000) semLd)

def semSt : ProbeSem := fun s _ w _ x =>
  let i := bitField w 19 3
  let mode := bitField w 17 2
  if mode = 3 then .fault 1
  else
    let a := x.xf i 0
    .next s ((x.setData a (x.dreg (fd w))).modify i mode) [(a, true)]

def execSt (c : Fin 32) (s : State) : Out := .next (s.probeRow c (· == 0x1A) (mD ||| 0x003E0000) semSt)

def semLdd : ProbeSem := fun s _ w _ x =>
  let i := bitField w 19 3
  let e := bitField w 15 4
  let j := bitField w 12 3
  if i = j ∨ fd w = e then .fault 1
  else
    let a := x.xf i 0
    let b := x.xf j 0
    .next s ((((x.setD (fd w) (x.data a)).setD e (x.data b)).modify i 1).modify j 1) [(a, false), (b, false)]

def execLdd (c : Fin 32) (s : State) : Out := .next (s.probeRow c (· == 0x1B) (mD ||| 0x003FF000) semLdd)

def execSetx (c : Fin 32) (s : State) : Out :=
  .next (s.probeRow c (· == 0x1C) (0x03E00000 ||| mImm)
    (fun s _ w _ x => .next s (x.setXf (bitField w 23 3) (bitField w 21 2) (fimm w)) []))

def execMovx (c : Fin 32) (s : State) : Out :=
  .next (s.probeRow c (· == 0x1D) 0x03FE0000
    (fun s _ w _ x => .next s (x.setXf (bitField w 23 3) (bitField w 21 2) (x.dreg (bitField w 17 4))) []))

def execGetx (c : Fin 32) (s : State) : Out :=
  .next (s.probeRow c (· == 0x1E) (mD ||| 0x003E0000)
    (fun s _ w _ x => .next s (x.setD (fd w) (x.xf (bitField w 19 3) (bitField w 17 2))) []))

/-- A system value (R420). -/
def State.probeSystem (s : State) (c sel : Nat) (x : CoreRun) : Option Nat :=
  let win (w : Nat) : TapWin := Tab.get {} x.wins w
  let audio (w : Nat) : Bool := (win w).words.getD 0 0 == 2
  let seq (w : Nat) : Nat := match (win w).slot with | some r => r.seq | none => 0
  if sel = 0 then some c
  else if sel = 1 then some (x.trigK % 2 ^ 16)
  else if sel = 2 then some (x.trigK / 2 ^ 16 % 2 ^ 16)
  else if sel = 3 then some (s.fld PROBE_OVERRUNS c % 2 ^ 16)
  else if sel = 4 then some x.loop0.count
  else if sel = 5 then some x.loop1.count
  else if 0x10 ≤ sel ∧ sel ≤ 0x13 then some (s.fld WIN_WSTAT c (sel - 0x10))
  else if 0x14 ≤ sel ∧ sel ≤ 0x17 then some ((if audio (sel - 0x14) then (win (sel - 0x14)).copied else seq (sel - 0x14)) % 2 ^ 16)
  else if 0x18 ≤ sel ∧ sel ≤ 0x1B then
    some (if audio (sel - 0x18) then (win (sel - 0x18)).dropped % 2 ^ 16 else seq (sel - 0x18) / 2 ^ 16 % 2 ^ 16)
  else none

def semGets : ProbeSem := fun s c w _ x =>
  match s.probeSystem c (bitField w 0 8) x with
  | some v => .next s (x.setD (fd w) v) []
  | none => .fault 1

def execGets (c : Fin 32) (s : State) : Out := .next (s.probeRow c (· == 0x1F) (mD ||| 0xFF) semGets)

/-! ### Accumulators (R413, R414) -/

def mMul : Nat := 0x02000000 ||| mA ||| mB ||| 0x3800

/-- Ak from its value and the exact product of Da and Db. -/
def product (f : Int → Int → Int) : ProbeSem := fun s _ w _ x =>
  let mode := bitField w 12 2
  let k := bitField w 25 1
  if mode = 3 then .fault 1
  else
    let p := operand (mode != 1) (x.dreg (fa w)) * operand (mode == 0) (x.dreg (fb w))
    .next s (x.setAcc k (acc40 (bitAt w 11) (f (x.acc k) p))) []

def execMpy (c : Fin 32) (s : State) : Out := .next (s.probeRow c (· == 0x20) mMul (product (fun _ p => p)))

def execMac (c : Fin 32) (s : State) : Out := .next (s.probeRow c (· == 0x21) mMul (product (fun a p => a + p)))

def execMsu (c : Fin 32) (s : State) : Out := .next (s.probeRow c (· == 0x22) mMul (product (fun a p => a - p)))

def semAda : ProbeSem := fun s _ w _ x =>
  let mode := bitField w 12 2
  let k := bitField w 25 1
  if 2 ≤ mode then .fault 1
  else
    let d := operand (mode == 0) (x.dreg (fa w)) - operand (mode == 0) (x.dreg (fb w))
    .next s (x.setAcc k (acc40 (bitAt w 11) (x.acc k + d.natAbs))) []

def execAda (c : Fin 32) (s : State) : Out := .next (s.probeRow c (· == 0x23) mMul semAda)

def execClra (c : Fin 32) (s : State) : Out :=
  .next (s.probeRow c (· == 0x24) 0x02000000 (fun s _ w _ x => .next s (x.setAcc (bitField w 25 1) 0) []))

def execMova (c : Fin 32) (s : State) : Out :=
  .next (s.probeRow c (· == 0x25) (0x02000000 ||| mA)
    (fun s _ w _ x => .next s (x.setAcc (bitField w 25 1) (signed 16 (x.dreg (fa w)) * 2 ^ 16)) []))

def execSta (c : Fin 32) (s : State) : Out :=
  .next (s.probeRow c (· == 0x26) (mD ||| 0x003FC000)
    (fun s _ w _ x => putZn s w (staValue (x.acc (bitField w 21 1)) (signed 5 (bitField w 16 5)) (bitAt w 15) (bitAt w 14)) x))

/-! ### ANC queue ports (R421, R422) -/

/-- The queue that a port names. -/
def State.portQueue (s : State) (c port : Nat) : Option Nat :=
  if port = 0 then (if s.fldOn PROBE_PORT0_EN c then some (s.fld PROBE_PORT0_Q c) else none)
  else if s.fldOn PROBE_PORT1_EN c then some (s.fld PROBE_PORT1_Q c) else none

/-- The queue of a port whose consumer is the core. -/
def State.consumed (s : State) (c port : Nat) : Option Nat :=
  match s.portQueue c port with
  | some q => if s.fld ANCQ_CONSUMER q = 2 ∧ s.fld ANCQ_CONS_CORE q = c then some q else none
  | none => none

/-- The enabled queue of a port whose producer is the core. -/
def State.produced (s : State) (c port : Nat) : Option Nat :=
  match s.portQueue c port with
  | some q => if s.fldOn ANCQ_EN q ∧ s.fldOn ANCQ_PROD_EN q ∧ s.fld ANCQ_PROD_CORE q = c then some q else none
  | none => none

def semPop : ProbeSem := fun s c w _ x =>
  if fd w % 2 = 1 then .fault 1
  else
    match s.consumed c (bitField w 0 1) with
    | some q =>
      if s.depthSeen q = 0 then .next s { x with e := true } []
      else
        let (v, last) := s.ancWord q (s.fld ANCQ_RD_PTR q)
        .next (s.ancRead q 1) { (x.setD (fd w) v).setD (fd w + 1) (v / 2 ^ 16) with k := last, e := false } []
    | none => .next s { x with e := true } []

def execPop (c : Fin 32) (s : State) : Out := .next (s.probeRow c (· == 0x30) (mD ||| 1) semPop)

/-- A word of a producer enters queue q: END is set on the 255th word of a packet (R399). -/
def State.ancPush (s : State) (q word : Nat) (last : Bool) : State :=
  let n := Tab.get 0 s.anc.pushed q + 1
  let last := last || n == 255
  let s := { s with anc := { s.anc with pushed := Tab.set 0 s.anc.pushed q (if last then 0 else n) } }
  let s := (s.ancStore q word last).ancRefresh q
  s.setAncCycle q { s.ancCycle q with packets := [] }

/-- A push to queue q must wait: it is full or paused (R399, R400). -/
def State.pushWaits (s : State) (q : Nat) : Bool := decide (s.ancSize q ≤ s.fillSeen q) || s.fldOn ANCQ_PAUSED q

/-- A PUSH that need not wait. -/
def pushNow (s : State) (c w : Nat) (x : CoreRun) : ProbeStep :=
  match s.produced c (bitField w 0 1) with
  | none => .next s { x with f := true } []
  | some q => .next (s.ancPush q (x.dreg (fd w) + 2 ^ 16 * x.dreg (fd w + 1)) (bitAt w 1)) { x with f := false } []

def semPush : ProbeSem := fun s c w _ x =>
  if fd w % 2 = 1 then .fault 1
  else
    match s.produced c (bitField w 0 1) with
    | some q => if s.pushWaits q then .stall (s.addFld ANCQ_STALLS 1 q) else pushNow s c w x
    | none => pushNow s c w x

def execPush (c : Fin 32) (s : State) : Out := .next (s.probeRow c (· == 0x31) (mD ||| 3) semPush)

/-- A stalled PUSH completes once its queue has space and is not paused, or is no longer the core's to push. The time
stalled counts in the cycles, at 1 ns each. -/
def execPushResume (c : Fin 32) (s : State) : Out :=
  let x := s.core c
  let w := s.probeWord c
  let waits := match s.produced c (bitField w 0 1) with | some q => s.pushWaits q | none => false
  if s.fld PROBE_STATE c ≠ coreStalled ∨ waits = true then .next s
  else
    let s := s.setFld PROBE_STATE coreRunning c
    .next (s.finishProbe c (s.fld PROBE_PC c) (pushNow s c w { x with cycles := x.cycles + (s.time.grid - x.stallFrom) }))

def semQctl : ProbeSem := fun s c w _ x =>
  let act := bitField w 1 2
  if act = 3 then .fault 1
  else
    match s.consumed c (bitField w 0 1) with
    | none => .next s { x with f := false } []
    | some q =>
      if act = 0 then .next (s.ancMark q) { x with f := false } []
      else if act = 1 then
        (match s.ancRewind q with
        | some t => .next t { x with f := false } []
        | none => .next s { x with f := true } [])
      else .next (s.ancRelease q) { x with f := false } []

def execQctl (c : Fin 32) (s : State) : Out := .next (s.probeRow c (· == 0x32) 7 semQctl)

/-! ### Results, verdicts and signals (R425, R426, R428) -/

def semPost : ProbeSem := fun s c w _ x =>
  let r := bitField w 0 4
  let s := s.setFld (if r % 2 = 0 then PROBE_RES_EVEN else PROBE_RES_ODD) (x.dreg (fd w)) c (r / 2)
  .next (s.setFld PROBE_RES_K x.trigK c) x []

def execPost (c : Fin 32) (s : State) : Out := .next (s.probeRow c (· == 0x38) (mD ||| 0xF) semPost)

/-- A verdict reaches a slot record: a fail replaces none or pass, a pass none only (R426). -/
def mergeVerdict (old new : Nat) : Nat := if old = 2 then 2 else if new = 2 then 2 else if old = 0 then new else old

/-- The core's owner may judge source n. -/
def State.mayJudge (s : State) (c n : Nat) : Bool :=
  match s.owner (oriProbe c) with
  | some p => p == 0 || s.owner (oriSrc n) == some p
  | none => false

def semVrd : ProbeSem := fun s c w _ x =>
  let v := bitField w 2 2
  let i := bitField w 0 2
  if v = 0 ∨ v = 3 then .fault 1
  else
    let win : TapWin := Tab.get {} x.wins i
    let lost := ProbeStep.next (s.addFld PROBE_VRD_LOST 1 c) { x with f := true } []
    match win.slot with
    | some ref =>
      if win.words.getD 0 0 = 1 ∧ s.fld WIN_WSTAT c i % 8 = 1 ∧ s.mayJudge c ref.src ∧ (s.slotAt ref).isSome then
        let s := s.updSlot ref (fun y => { y with verdict := mergeVerdict y.verdict v })
        .next (s.addFld (if v = 1 then PROBE_VRD_PASS else PROBE_VRD_FAIL) 1 c) { x with f := false } []
      else lost
    | none => lost

def execVrd (c : Fin 32) (s : State) : Out := .next (s.probeRow c (· == 0x39) 0xF semVrd)

def semSig : ProbeSem := fun s c w _ x =>
  if fd w % 2 = 1 then .fault 1
  else
    .next (s.raise Ev.PROBE_SIGNAL
      { index := c, data := bitField w 0 8 + 2 ^ 16 * x.dreg (fd w) + 2 ^ 32 * x.dreg (fd w + 1), dest := s.ownerList (oriProbe c) }) x []

def execSig (c : Fin 32) (s : State) : Out := .next (s.probeRow c (· == 0x3A) (mD ||| 0xFF) semSig)

/-- Whatever instruction stands at the PC of core c, by number (R541). -/
def probeAny (c : Fin 32) : Nat → State → Out
  | 0x00 => execProbeNop c
  | 0x01 => execHalt c
  | 0x03 => execCall c
  | 0x04 => execRet c
  | 0x05 => execLp c
  | 0x06 => execLpr c
  | 0x07 => execLpx c
  | 0x08 => execLdi c
  | 0x09 => execMov c
  | 0x0A => execAdd c
  | 0x0B => execSub c
  | 0x0C => execAndReg c
  | 0x0D => execOrReg c
  | 0x0E => execXorReg c
  | 0x0F => execCmp c
  | 0x10 => execAddi c
  | 0x11 => execCmpi c
  | 0x12 => execAndi c
  | 0x13 => execShl c
  | 0x14 => execShr c
  | 0x15 => execSra c
  | 0x16 => execAbsReg c
  | 0x17 => execMinReg c
  | 0x18 => execMaxReg c
  | 0x19 => execLd c
  | 0x1A => execSt c
  | 0x1B => execLdd c
  | 0x1C => execSetx c
  | 0x1D => execMovx c
  | 0x1E => execGetx c
  | 0x1F => execGets c
  | 0x20 => execMpy c
  | 0x21 => execMac c
  | 0x22 => execMsu c
  | 0x23 => execAda c
  | 0x24 => execClra c
  | 0x25 => execMova c
  | 0x26 => execSta c
  | 0x30 => execPop c
  | 0x31 => execPush c
  | 0x32 => execQctl c
  | 0x38 => execPost c
  | 0x39 => execVrd c
  | 0x3A => execSig c
  | _ => execBr c

end Sys2Proof.Machine
end

