-- ==== Sys2Proof/Machine/Probe.lean ====
section
/-! DEFINITION. Probe cores: triggers, tap windows, and what PROBE_CTL does (R406, R407, R417 .. R419, R424). -/

namespace Sys2Proof.Machine
open Reg

/-! ### Triggers (R406, R407) -/

/-- The trigger that core c has due: its frame index and instant. -/
def State.triggerDue (s : State) (c : Nat) : Option (Nat × Int) :=
  let p := s.fld PROBE_TRIG_PLANE c
  let div := s.fld PROBE_DIV c
  if p = 0 ∨ div = 0 ∨ s.planeRate (p - 1) = 0 then none
  else
    let dly := s.trigDelay c
    let n := s.trigFrame c
    let f := s.planeStart (p - 1) (n - 1)
    if n = 0 ∨ (n - 1) % div ≠ 0 ∨ (s.core c).lastTrig = s.trigMark c n ∨
        (f < (s.planeRun (p - 1)).notBefore ∧ n ≠ (s.planeRun (p - 1)).frame) then none
    else some (n - 1, f + dly)

/-! ### Tap windows (R417 .. R419) -/

/-- The settings of a window as they stand, in the order of R429. -/
def State.winSettings (s : State) (c w : Nat) : List Nat :=
  [WIN_KIND, WIN_PP, WIN_COMP, WIN_LEVEL, WIN_SRC, WIN_X, WIN_Y, WIN_W, WIN_H, WIN_DBASE_A, WIN_DBASE_B, WIN_CH, WIN_POOL_OUT,
    WIN_WIDE, WIN_MAXN].map (fun f => s.fld f c w)

/-- Settings of a window by name. -/
structure WinSet where
  kind : Nat
  pp : Bool
  comp : Nat
  level : Nat
  src : Nat
  x : Nat
  y : Nat
  w : Nat
  h : Nat
  baseA : Nat
  baseB : Nat
  ch : Nat
  poolOut : Bool
  wide : Bool
  maxn : Nat
  deriving DecidableEq, Repr

def winSet (l : List Nat) : WinSet :=
  let g (i : Nat) : Nat := l.getD i 0
  { kind := g 0, pp := g 1 == 1, comp := g 2, level := g 3, src := g 4, x := g 5, y := g 6, w := g 7, h := g 8
    baseA := g 9, baseB := g 10, ch := g 11, poolOut := g 12 == 1, wide := g 13 == 1, maxn := g 14 }

/-- The owner of core c may read pool output channel ch. -/
def State.mayTapOut (s : State) (p ch : Nat) : Bool := p == 0 || s.owner (oriGroup (ch / 64)) == some p

/-- The partition under whose rights the windows of core c read: its owner; P0 while it has none, when its configuration
keeps running (R44). DEDUCED, log 64. -/
def State.tapOwner (s : State) (c : Nat) : Nat := (s.owner (oriProbe c)).getD 0

/-- What the window names is readable by the core's owner; a pool channel in no window by nobody (R355). -/
def State.winReadable (s : State) (c : Nat) (w : WinSet) : Bool :=
  let p := s.tapOwner c
  if w.kind = 1 then w.src == 2047 || s.mayRead p w.src
  else if w.poolOut then s.mayTapOut p w.ch else s.mayReadChan p w.ch

/-- The fill of a window: its STATE, NEWSEQ, BUF, DAMAGED and CLIPPED as WSTAT shows them. -/
def wstat (st : Nat) (newseq buf damaged clipped : Bool) : Nat :=
  st + 8 * bit newseq + 16 * bit buf + 32 * bit damaged + 64 * bit clipped

/-- A rectangle of a plane, row by row; positions outside it read 0. -/
def rectWords (p : Plane) (x y w h : Nat) : List Nat :=
  (List.range (w * h)).map (fun i =>
    let px := x + i % w
    let py := y + i / w
    if px < p.w ∧ py < p.h then p.px (px : Int) (py : Int) else 0)

def CoreRun.setWin (x : CoreRun) (w : Nat) (v : TapWin) : CoreRun := { x with wins := Tab.set {} x.wins w v }

/-- A video window is filled, by reads of the probe fill engines (master 9) from the stacks that hold the source. -/
def State.fillVideo (s : State) (c i : Nat) (w : WinSet) : State :=
  let x := s.core c
  let win : TapWin := Tab.get {} x.wins i
  let keep (st : Nat) : State := (s.setFld WIN_WSTAT (wstat st false win.okB false false) c i).setCore c
    (x.setWin i { win with slot := none })
  if ¬s.winReadable c w ∨ 2 ^ 16 < w.baseA + w.w * w.h ∨ (w.pp = true ∧ 2 ^ 16 < w.baseB + w.w * w.h) then keep 5
  else if w.src = 2047 ∨ w.w = 0 ∨ w.h = 0 then keep 2
  else
    match newestOf (s.src w.src).seq (s.closedAt w.src x.trigAt) with
    | none => keep 2
    | some f =>
      let damaged := f.slot.state == 3
      if win.okSeq = some (w.src, f.slot.seq) then
        (s.setFld WIN_WSTAT (wstat 1 false win.okB damaged false) c i).setCore c (x.setWin i { win with slot := some f.ref })
      else if bitAt f.slot.ladder w.level = false then
        (s.setFld WIN_WSTAT (wstat 4 false win.okB damaged false) c i).setCore c (x.setWin i { win with slot := some f.ref })
      else
        let inB := w.pp && win.okSeq.isSome && !win.okB
        let p := (f.slot.level w.level).comp w.comp
        let clipped := decide (p.w < w.x + w.w ∨ p.h < w.y + w.h)
        let x := { x with dmem := Tab.setRange 0 x.dmem (if inB then w.baseB else w.baseA) (rectWords p w.x w.y w.w w.h) }
        ((s.setFld WIN_WSTAT (wstat 1 true inB damaged clipped) c i).setCore c (x.setWin i { win with slot := some f.ref })).crosses
          9 ((maskStacks (s.fld SRC_STACK_MASK w.src)).map (· + 1))

/-- A pool sample as words of data memory. -/
def sampleWords (wide : Bool) (v : Int) : List Nat :=
  let u := unsignedOf 32 v
  if wide then [u / 2 ^ 16, u % 2 ^ 16] else [u / 2 ^ 16]

/-- An audio window is filled. -/
def State.fillAudio (s : State) (c i : Nat) (w : WinSet) : State :=
  let x := s.core c
  let win : TapWin := Tab.get {} x.wins i
  let size := w.maxn * (if w.wide then 2 else 1)
  if ¬s.winReadable c w ∨ 2 ^ 16 < w.baseA + size then
    (s.setFld WIN_WSTAT 5 c i).setCore c (x.setWin i { win with slot := none, copied := 0, dropped := 0 })
  else
    let last := min s.time.lastSample (s.sampleFrom ((x.trigAt : Int) + 1))
    let hist := (if w.poolOut then s.audio.outHist else s.audio.hist).drop (s.time.lastSample - last)
    let new := if win.lastTick = 0 then min hist.length w.maxn else last - win.lastTick
    let n := min new (min w.maxn (min 4096 hist.length))
    let words := ((hist.take n).reverse).flatMap (fun t => sampleWords w.wide (Tab.get {} t w.ch).v)
    let x := { x with dmem := Tab.setRange 0 x.dmem w.baseA words }
    let s := (s.setFld WIN_WSTAT (if new = 0 then 2 else 1) c i).setFld WIN_WSEQ n c i
    s.setCore c (x.setWin i { win with slot := none, copied := n, dropped := new - n, lastTick := last })

/-- Window i is filled under the settings that its writes have left. -/
def State.fillWindow (s : State) (c i : Nat) : State :=
  let x := s.core c
  let win : TapWin := Tab.get {} x.wins i
  let l := s.winSettings c i
  let s := s.setCore c (x.setWin i { win with words := l })
  let w := winSet l
  if w.kind = 1 then s.fillVideo c i w
  else if w.kind = 2 then s.fillAudio c i w
  else (s.setFld WIN_WSTAT 0 c i).setCore c (x.setWin i { win with words := l, slot := none })

/-- The core's domain is held in reset (R463, R530). -/
def State.coreHeld (s : State) (c : Nat) : Bool := s.heldInReset (139 + c)

/-- A trigger: it fills the windows of a waiting core, or is skipped (R407). -/
def State.triggerToken (s : State) (c : Nat) : State :=
  match s.triggerDue c with
  | none => s
  | some (k, at') =>
    let st := s.fld PROBE_STATE c
    let s := s.setCore c { s.core c with lastTrig := s.trigMark c (k + 1) }
    if s.coreHeld c ∨ st = coreStopped ∨ st = coreFault then s
    else if st = coreWaiting then
      let s := s.setCore c { s.core c with trigK := k, trigAt := at'.toNat }
      let s := (s.setFld PROBE_STATE coreFilling c).addFld PROBE_TRIGGERS 1 c
      s.upTo 4 (fun s i => s.fillWindow c i)
    else
      let s := s.addFld PROBE_OVERRUNS 1 c
      let x := s.core c
      if x.lastOverrun = 0 ∨ x.lastOverrun - 1 + 10 ^ 9 ≤ s.time.grid then
        (s.setCore c { x with lastOverrun := s.time.grid + 1 }).raise Ev.PROBE_OVERRUN
          { index := c, data := s.fld PROBE_OVERRUNS c, dest := s.ownerList (oriProbe c) }
      else s

/-- The record of a copied slot is read again: the fill is OK, or TORN when the slot has been reused (R418). -/
def State.endFill (s : State) (c i : Nat) : State :=
  let x := s.core c
  let win : TapWin := Tab.get {} x.wins i
  let st := s.fld WIN_WSTAT c i
  if win.words.getD 0 0 = 1 ∧ st % 8 = 1 then
    match win.slot with
    | some ref =>
      if bitAt st 3 = false then s
      else
        match s.slotAt ref with
        | some y =>
          if 2 ≤ y.state then
            (s.setFld WIN_WSEQ ref.seq c i).setCore c (x.setWin i { win with okSeq := some (ref.src, ref.seq), okB := bitAt st 4 })
          else s.setFld WIN_WSTAT (st - 1 + 3) c i
        | none => s.setFld WIN_WSTAT (st - 1 + 3) c i
    | none => s
  else s

/-- The fills are complete: the program starts at ENTRY, unless the debug port halts the core first (R407, R540). -/
def execProbeFillDone (c : Fin 32) (s : State) : Out :=
  if s.fld PROBE_STATE c ≠ coreFilling then .next s
  else
    let s := s.upTo 4 (fun s i => s.endFill c i)
    let s := (s.setFld PROBE_STATE coreRunning c).setFld PROBE_PC (s.fld PROBE_ENTRY c) c
    let x := { s.core c with cycles := 0 }
    let s := s.setCore c x
    let cause := (if x.haltPend then x.haltCause else 0) ||| 2 * bit (s.breakAt c (s.fld PROBE_PC c))
    .next (if x.haltPend ∨ cause ≠ 0 ∨ s.fldOn DBGC_HALT_ON_ENTRY 0 c then s.enterDebug c cause else s)

/-! ### Window writes (R417) -/

/-- A field of a window takes its part of a written word. -/
def State.setWinField (s : State) (c i v : Nat) (f : Field) : State := s.setFld f (f.norm c (bitField v f.lo f.w)) c i

/-- Fields of the six words of a window. -/
def winFields : List (List Field) :=
  [[WIN_KIND, WIN_PP, WIN_COMP, WIN_LEVEL, WIN_SRC], [WIN_X, WIN_Y], [WIN_W, WIN_H], [WIN_DBASE_A, WIN_DBASE_B],
   [WIN_CH, WIN_POOL_OUT, WIN_WIDE], [WIN_MAXN]]

/-- A word of a window is written: ignored where it would name what the core's owner cannot read. The first fill after it
copies the newest samples. -/
def State.writeWindow (s : State) (c i word v : Nat) : State :=
  let p := s.tapOwner c
  let src := bitField v 16 11
  let ch := bitField v 0 15
  let bad :=
    if word = 0 then src != 2047 && (decide (1120 ≤ src) || !s.mayRead p src)
    else if word = 4 then (if bitAt v 15 then !s.mayTapOut p ch else !s.mayReadChan p ch)
    else false
  if bad then s.setFld PROBE_CFG_ERR 1 c
  else
    let s := s.each (winFields.getD word []) (fun s f => s.setWinField c i v f)
    let x := s.core c
    let win : TapWin := Tab.get {} x.wins i
    s.setCore c (x.setWin i { win with lastTick := 0 })

/-! ### PROBE_CTL (R424) -/

/-- STOP: a stalled PUSH is abandoned. -/
def State.probeStop (s : State) (c : Nat) : State :=
  let x := s.core c
  let s := (s.setFld PROBE_STATE coreStopped c).setFld DBGC_HALTED 0 0 c
  s.setCore c { x with haltPend := false, haltCause := 0, stepping := false, skipBreak := false }

/-- The state of R408 cleared; memories and windows kept. -/
def CoreRun.cleared (x : CoreRun) : CoreRun :=
  { x with d := [], a0 := 0, a1 := 0, x := [], z := false, n := false, c := false, v := false, e := false, k := false, f := false
           loop0 := {}, loop1 := {}, stack := [], spare := [], cycles := 0 }

/-- RESET: as STOP, then the state of R408, the results and the fault cause are cleared. -/
def State.probeReset (s : State) (c : Nat) : State :=
  let s := s.probeStop c
  let s := (s.setCore c (s.core c).cleared).setFld PROBE_PC 0 c
  let s := s.upTo 8 (fun s i => (s.setFld PROBE_RES_EVEN 0 c i).setFld PROBE_RES_ODD 0 c i)
  s.setFld PROBE_FAULT_CAUSE 0 c

/-- START of a stopped core. -/
def State.probeStart (s : State) (c pc : Nat) : State :=
  if s.fld PROBE_STATE c ≠ coreStopped then s
  else
    let x := s.core c
    let wins := (List.range 4).foldl (fun t i =>
      let w : TapWin := Tab.get {} t i
      Tab.set {} t i { w with lastTick := 0 }) x.wins
    let s := s.setCore c { x with
      wins := wins
      lastTrig := if s.fld PROBE_TRIG_PLANE c = 0 then x.lastTrig else s.trigMark c (s.trigFrame c) }
    ((s.setFld PROBE_ENTRY pc c).setFld PROBE_PC pc c).setFld PROBE_STATE coreWaiting c

/-- PROBE_CTL applies: 0 START, 1 STOP, 2 RESET, 3 RESET then START, 4 none. -/
def State.probeCtl (s : State) (c act pc : Nat) : State :=
  if act = 0 then s.probeStart c pc
  else if act = 1 then (if s.fld PROBE_STATE c = coreFault then s else s.probeStop c)
  else if act = 2 then s.probeReset c
  else if act = 3 then (s.probeReset c).probeStart c pc
  else s

end Sys2Proof.Machine
end

