-- ==== Sys2Proof/Machine/Sdi.lean ====
section
/-! DEFINITION. Serial video receivers: lock, acquisition, frames, loss and quad-link members (R272 .. R291, R298, R299),
and slot closes (R146, R150). -/

namespace Sys2Proof

/-- The number of a receiver: lane l at l, the framer of source n at 256 + n. -/
def VideoIn.idx : VideoIn → Nat
  | .lane l => l.val
  | .flow n => 256 + n.val

end Sys2Proof

namespace Sys2Proof.Machine
open Reg

/-! ### Receivers -/

def State.rx (s : State) (i : Nat) : RxRun := Tab.get {} s.sdi.rx i

/-- The receivers' part of a state with receiver i as given. -/
def State.setRx (s : State) (i : Nat) (x : RxRun) : State := { s with sdi := { s.sdi with rx := Tab.set {} s.sdi.rx i x } }

/-- A field of an SDIRX block; the framer of a flow has none. -/
def State.setRxFld (s : State) (i : Nat) (f : Field) (v : Nat) : State := if i < 256 then s.setFld f v i else s

def State.addRxFld (s : State) (i : Nat) (f : Field) (n : Nat) : State := if i < 256 then s.addFld f n i else s

/-- The receiver reads a quad-link signal (R277). -/
def State.rxQuad (s : State) (i : Nat) : Bool := decide (i < 256 ∧ i % 4 = 0) && (s.fld SDIRX_LINK i == 3 || s.fld SDIRX_LINK i == 4)

/-- The receiver that a lane belongs to: itself, or the first lane of its quad. -/
def State.rxHead (s : State) (l : Nat) : Nat := if s.rxQuad (l / 4 * 4) then l / 4 * 4 else l

/-- The admitted source that a receiver feeds. -/
def State.rxSource (s : State) (i : Nat) : Option Nat :=
  if i < 256 then
    (List.range 1024).find? (fun n => s.srcKind n == 1 && s.fld SRC_LANE n == i && (s.cfg.ring n).depth != 0)
  else
    let n := i - 256
    if s.srcKind n = 3 ∧ (s.cfg.ring n).depth ≠ 0 then some n else none

/-- The receive lanes of a source of KIND 1 under the LINK of its lane (R276, R278). -/
def State.sourceLanes (s : State) (n : Nat) : List Nat :=
  let l := s.fld SRC_LANE n
  if s.fld SDIRX_LINK l = 3 ∨ s.fld SDIRX_LINK l = 4 then (List.range 4).map (fun i => l / 4 * 4 + i) else [l]

/-- The admitted source that uses a receive lane (R278). -/
def State.laneUser (s : State) (l : Nat) : Option Nat :=
  (List.range 1024).find? (fun n => s.srcKind n == 1 && (s.cfg.ring n).depth != 0 && (s.sourceLanes n).contains l)

/-- The SDIQ island of a receiver is held in reset (R530). -/
def State.rxHeld (s : State) (i : Nat) : Bool := decide (i < 256) && s.fldOn DOM_DSTATE (12 + i / 4)

/-- The ingest island of a source is held in reset (R463, R530). -/
def State.ingestHeld (s : State) (n : Nat) : Bool :=
  s.safe || (decide ((s.src n).island ≠ 0) && s.fldOn DOM_DSTATE (91 + (s.src n).island))

/-- INDEX of a receiver's events: its lane, or for a flow its source. Log 10. -/
def rxIndex (i : Nat) : Nat := if i < 256 then i else i - 256

def State.rxOwners (s : State) (i : Nat) : List Nat := match s.rxSource i with | some n => s.ownerList (oriSrc n) | none => []

/-! ### Formats (R272, R273, R286, R287) -/

/-- A row of R272 names the sampling and bit depth of a format at its raster and rate: 1 single link, 2 level B, 3 and 4
quad-link. 8-bit samples stand for 10-bit ones here. -/
def linkRow (link f : Nat) : Bool :=
  let r := fmtRaster f
  let rate := fmtRate f
  let deep := fmt444 f || fmtBits f == 3
  let high := highRate rate
  let il := fmtInterlaced f
  if fmtBits f = 0 ∨ rate = 0 ∨ 8 < rate ∨ (fmtRgb f = true ∧ fmt444 f = false) then false
  else if r = 1 then link == 1 && il && rate == 4 && !deep
  else if r = 2 then link == 1 && il && rate == 3 && !deep
  else if r = 3 then !il && (link == 1 || (link == 2 && deep))
  else if r = 4 ∧ il = true then decide (3 ≤ rate ∧ rate ≤ 5) && (link == 1 || (link == 2 && deep))
  else if r = 4 ∨ r = 5 then
    !il && (if high then !deep && (link == 1 || link == 2) else link == 1 || (link == 2 && deep))
  else if r = 6 ∨ r = 7 then !il && (!deep || (!high && fmt444 f)) && (link == 1 || link == 3 || link == 4)
  else false

/-- A link mode carries a format: no row of R272 lists an 8-bit one. -/
def linkCarries (link f : Nat) : Bool := fmtBits f != 1 && linkRow link f

/-- A link mode carries a detected format: one whose identifier declares 8-bit samples is taken in the rows of the same
format at 10 bits (R272). -/
def linkAccepts (link f : Nat) (declared : Bool) : Bool := linkCarries link f || (declared && linkRow link f)

/-- The link mode in which a receiver reads a signal (R277). -/
def State.rxLink (s : State) (i : Nat) (d : Detected) : Nat :=
  let link := if i < 256 then s.fld SDIRX_LINK i else 0
  if s.rxQuad i then link
  else if link = 1 ∨ link = 2 then link
  else match d.payload with
    | some p => if p.levelB then 2 else 1
    | none => 1

/-- The detected format as DET shows it: without an identifier, raster, rate and scan only (R286). -/
def Detected.code (d : Detected) : Nat := d.fmt

/-- The detected format of a frame. A link of a quad-link signal has the structure of a quarter of the picture. -/
def detectedOf (quad : Bool) (m : SdiMember) : Detected :=
  let raster := if quad then (if m.raster = 4 then 6 else if m.raster = 5 then 7 else 0) else m.raster
  { fmt := match m.payload with
      | some p => fmtOf (raster % 16) (m.rate % 16) (bit m.interlaced) (bit p.s444) (p.bits % 4) (bit p.rgb) (p.color.getD 0 % 8)
      | none => fmtOf (raster % 16) (m.rate % 16) (bit m.interlaced) 0 0 0 0
    payload := m.payload }

/-- Two frames have the same structure, rate and identifier (R284, R290). -/
def Detected.same (a b : Detected) : Bool :=
  fmtRaster a.fmt == fmtRaster b.fmt && fmtRate a.fmt == fmtRate b.fmt && fmtInterlaced a.fmt == fmtInterlaced b.fmt &&
    a.payload.map (·.id) == b.payload.map (·.id)

/-- The format that source n would be received in (R286, R287). -/
def State.formatFor (s : State) (n : Nat) (d : Detected) : Nat :=
  let e := s.srcFmt n
  match d.payload with
  | none =>
    fmtOf (fmtRaster d.fmt) (fmtRate d.fmt) (bit (fmtInterlaced d.fmt)) (bit (fmt444 e)) (fmtBits e) (bit (fmtRgb e)) (fmtColor e)
  | some p =>
    let color := match (if s.fldOn SRC_ANY n then p.color else none) with
      | some c => c
      | none => fmtColor e
    d.fmt % 2 ^ 13 + 2 ^ 13 * (color % 8)

/-- The detected format is accepted for source n (R141, R272, R285, R286). -/
def State.formatAccepted (s : State) (i n : Nat) (d : Detected) : Bool :=
  let f := s.formatFor n d
  let link := s.rxLink i d
  linkAccepts link f d.payload.isSome && (decide (i < 256) || decide (singleLinkType f ≤ 2)) &&
    (f % 2 ^ 13 == s.srcFmt n % 2 ^ 13 || (s.fldOn SRC_ANY n && d.payload.isSome && s.formatFits n f))

/-- The detected format is judged (R285). -/
def State.judge (s : State) (i n : Nat) (d : Detected) : State :=
  if s.formatAccepted i n d then
    let s := (s.takeFormat n (s.formatFor n d)).becomePresent n
    s.raise Ev.SDI_ACCEPT
      { index := rxIndex i, data := d.code + 2 ^ 16 * (s.src n).fmtGen, dest := s.ownerList (oriSrc n) }
  else
    (s.setFld SRC_STATE 3 n).raise Ev.SDI_WRONG_FMT { index := rxIndex i, data := d.code, dest := s.ownerList (oriSrc n) }

/-- The first ring of source n has applied while its receiver already holds three good frames (R285). -/
def State.judgeNow (s : State) (n : Nat) : State :=
  let i := if s.srcKind n = 1 then s.fld SRC_LANE n else 256 + n
  let r := s.rx i
  if s.rxSource i = some n ∧ r.good = 3 then
    match r.accepted with
    | some d => s.judge i n d
    | none => s
  else s

/-! ### The picture of a frame (R279, R291) -/

/-- Which link carries a sample, and where: mode 0 single link, 3 square division, 4 2SI. A chroma sample of a pixel pair
counts as its pair. -/
def linkPlace (mode w h : Nat) (pair : Bool) (x y : Nat) : Nat × Nat × Nat :=
  if mode = 3 then
    (2 * bit (h / 2 ≤ y) + bit (w / 2 ≤ x), (if w / 2 ≤ x then x - w / 2 else x), (if h / 2 ≤ y then y - h / 2 else y))
  else if mode = 4 then
    if pair then (2 * (y % 2) + x % 2, x / 2, y / 2) else (2 * (y % 2) + x / 2 % 2, x / 4 * 2 + x % 2, y / 2)
  else (0, x, y)

/-- What has arrived of a frame: how its links divide the picture, and each link's part; none for a lost link. -/
structure Arrived where
  mode : Nat
  links : List (Option SdiMember)
  deriving DecidableEq, Repr

def Arrived.link (a : Arrived) (k : Nat) : Option SdiMember := (a.links[k]?).join

/-- The unit u of stored row r has been received (R195). -/
def Arrived.has (a : Arrived) (store w h r u : Nat) : Bool :=
  let x := if store = 1 then 2 * u else u
  let (k, _, y) := linkPlace a.mode w h false x r
  match a.link k with
  | some m => !m.missing.contains y
  | none => false

/-- The picture as it is stored: received rows, black for lost links, and what the slot held for missing rows. -/
def Arrived.picture (a : Arrived) (fmt store : Nat) (old : Pic) : Pic :=
  let (w, h) := rasterSize (fmtRaster fmt)
  { comps := (List.range 3).map (fun i =>
      let half := store == 1 && i != 0
      let cw := if half then w / 2 else w
      let parts := a.links.map (fun m => (m.map (fun m => (storePic fmt store m.pic).comp i)))
      Plane.tabulate cw h (fun x y =>
        let (k, x', y') := linkPlace a.mode cw h half x y
        match a.link k, (parts[k]?).join with
        | some m, some p => if m.missing.contains y' then (old.comp i).px x y else p.px x' y'
        | _, _ => blackStored store (fmtRgb fmt) i)) }

/-- LADDER of the ring that a slot lies in. -/
def State.ringLadder (s : State) (ref : SlotRef) : Nat :=
  match (s.src ref.src).rings.find? (fun r => r.id == ref.ring) with
  | some r => r.shape.ladder
  | none => 0

/-- Nothing is said of what has arrived. -/
def Arrived.untold (a : Arrived) : Bool := a.links.all Option.isNone

/-- What has arrived of a frame is written to a slot (R149, R195). Of a frame that ends with nothing said of what has
arrived, the slot keeps what it held. DESIGN CHOICE, log 84. -/
def State.writeArrived (s : State) (ref : SlotRef) (a : Arrived) (flags : Nat) : State :=
  if a.untold then s.updSlot ref (fun x => { x with flags := x.flags ||| flags, ended := true })
  else match s.slotAt ref with
  | none => s
  | some x =>
    let (w, h) := rasterSize (fmtRaster x.fmt)
    let l0 := a.picture x.fmt x.store (x.levels.getD 0 { comps := [] })
    let ring := s.ringLadder ref
    s.updSlot ref (fun x =>
      { x.write x.store l0 ring (a.has x.store w h) with flags := x.flags ||| flags, ended := true })

/-- The members of a frame in their places (R279, R280): links without a valid or a free link number, and those more than
4 µs late, count as lost. -/
def arrivedOf (mode : Nat) (lost : List Nat) (ms : List SdiMember) : Arrived :=
  if mode = 3 ∨ mode = 4 then
    let taken := (List.range 4).filterMap (fun k =>
      match ms[k]? with
      | some m =>
        match m.payload with
        | some p =>
          if m.present ∧ ¬lost.contains k ∧ 1 ≤ p.link ∧ p.link ≤ 4 ∧ m.skewNs ≤ 4000 ∧
            ¬((List.range k).any (fun j => ((ms[j]?).bind (·.payload)).map (·.link) == some p.link &&
              ((ms[j]?).map (·.present)).getD false && !lost.contains j))
          then some (p.link - 1, m) else none
        | none => none
      | none => none)
    { mode := mode, links := (List.range 4).map (fun k => List.find? (fun e : Nat × SdiMember => e.1 == k) taken |>.map (·.2)) }
  else { mode := 0, links := [(ms.head?).bind (fun m => if m.present then some m else none)] }

/-! ### Acquiring (R284, R285, R335) -/

/-- Status of a receiver that follows its count (R300). -/
def State.showRx (s : State) (i : Nat) : State :=
  let r := s.rx i
  let s := s.setRxFld i SDIRX_RXSTATE (if !r.locked then 0 else if r.good = 3 then 2 else 1)
  s.setRxFld i SDIRX_GOOD_CNT r.good

/-- A receiver that knows nothing of its signal. -/
def RxRun.blank (r : RxRun) : RxRun := { lastErrors := r.lastErrors }

/-- The receiver starts to acquire. -/
def State.rxAcquire (s : State) (i : Nat) (lost : List Nat) : State :=
  (s.setRx i { (s.rx i).blank with locked := true, lost := lost }).showRx i

/-- Bit k of MEMBERS says that link k + 1 is locked and aligned: it follows the member that carries the link (R300). -/
def State.showMember (s : State) (i k : Nat) (on : Bool) : State :=
  match ((s.rx i).places[k]?).join with
  | some p =>
    let v := s.fld SDIRX_MEMBERS i
    s.setFld SDIRX_MEMBERS (if on then v ||| 2 ^ p else v - v &&& 2 ^ p) i
  | none => s

/-- A lane locks (R335). A further lane of a quad-link signal joins at its next frame; a member lost while the signal ran
joins once it is aligned as well (R291). -/
def execSdiLaneLock (l : Fin 256) (rate : BitVec 4) (s : State) : Host.Outcome State Fault Refusal :=
  let i := s.rxHead l
  let code := rate.toNat
  if s.fldOn LANE_PWR l ∧ ¬s.rxHeld i ∧ 1 ≤ code ∧ code ≤ 9 ∧ ¬s.fldOn LANE_PLL_LOCK l then
    let s := ((s.setFld LANE_PLL_LOCK 1 l).setFld LANE_SIG_DET 1 l).setFld SDIRX_RATE_DET code l
    let r := s.rx i
    let k := l.val % 4
    if r.locked ∧ r.good = 3 then .next s
    else if r.locked then
      .next (s.setRx i { r with rejoin := if r.lost.contains k ∧ ¬r.rejoin.contains k then r.rejoin ++ [k] else r.rejoin })
    else .next (s.rxAcquire i (if s.rxQuad i then (List.range 4).filter (· != k) else []))
  else .next s

/-! ### Frames -/

/-- Error counters of one member (R282). -/
def State.countErrors (s : State) (l : Nat) (m : SdiMember) : State :=
  let s := s.addRxFld l SDIRX_CRC_ERR m.crc
  let s := s.addRxFld l SDIRX_EDH_ERR m.edh
  let s := s.addRxFld l SDIRX_LN_ERR m.line
  s.addRxFld l SDIRX_TRS_ERR m.trs

/-- Slot record bits of the errors of a frame (R282, R299). -/
def errorFlags (mask : Bool) (ms : List SdiMember) : Nat :=
  let any (f : SdiMember → Nat) : Bool := ms.any (fun m => f m != 0)
  flagCrc * bit (!mask && any (fun m => m.crc + m.edh)) + flagLine * bit (any (·.line)) + flagTiming * bit (any (·.trs))

/-- The members of a frame that count at a receiver (R276). -/
def State.frameMembers (s : State) (i : Nat) (frame : SdiFrame) : List SdiMember :=
  if s.rxQuad i then frame.members.take 4 else frame.members.take 1

/-- How a frame's members have arrived. -/
def State.frameArrival (s : State) (i : Nat) (ms : List SdiMember) : Arrived :=
  arrivedOf (if s.rxQuad i then s.fld SDIRX_LINK i else 0) (s.rx i).lost ms

/-- Errors of each member of a frame count at its own lane (R282). -/
def State.frameErrors (s : State) (i : Nat) (ms : List SdiMember) : State :=
  let quad := s.rxQuad i
  ((List.range ms.length).zip ms).foldl (fun s e => s.countErrors (if quad then i + e.1 else i) e.2) s

/-- A glitch is reported (R289, R298), at most once a second for a lane. On a lane that no source uses its SEQ is 0: DESIGN
CHOICE, log 84. -/
def State.glitch (s : State) (i flags : Nat) : State :=
  let s := s.setRxFld i SDIRX_ERR_SEEN 1
  let r := s.rx i
  if r.lastErrors = 0 ∨ r.lastErrors - 1 + 10 ^ 9 ≤ s.time.grid then
    let seq := match s.rxSource i with
      | some n => match s.writing n true with
        | x :: _ => x.seq
        | [] => 0
      | none => 0
    (s.setRx i { r with lastErrors := s.time.grid + 1 }).raise Ev.SDI_ERRORS
      { index := rxIndex i, data := seq + 2 ^ 32 * (flags % 32), dest := s.rxOwners i }
  else s

/-- The frame is written to its slot, when it has one. -/
def State.endSlot (s : State) (i : Nat) (a : Arrived) (flags : Nat) : State :=
  match s.rxSource i with
  | some n => s.each (s.writing n true) (fun s ref => s.writeArrived ref a flags)
  | none => s

/-- A frame in progress is cut off: its errors count, what has arrived of it is written, and its slot ends INCOMPLETE
(R146, R282). `stays`: the lane keeps its lock, and its errors are a glitch (R289). -/
def State.cutFrame (s : State) (i : Nat) (cut : SdiFrame) (stays : Bool) : State :=
  let ms := s.frameMembers i cut
  let a := s.frameArrival i ms
  let got := a.links.filterMap id
  let flags := errorFlags (s.rx i).crcMask got
  let s := (s.frameErrors i ms).when (stays && (s.rx i).good == 3 && errorFlags false got != 0) (fun s => s.glitch i flags)
  s.endSlot i a (flags ||| flagIncomplete)

/-- A frame begins to arrive (R145, R281, R285, R291). -/
def execSourceFrameStart (rx : VideoIn) (cut : SdiFrame) (s : State) : Host.Outcome State Fault Refusal :=
  let i := rx.idx
  let r := s.rx i
  if r.locked = false ∨ s.rxHeld i = true then .next s
  else
    let s := s.when r.inFrame (fun s => (s.cutFrame i cut true).setRx i
      { (s.cutFrame i cut true).rx i with good := if r.good = 3 then 3 else 0 })
    let r := s.rx i
    let mask := decide (i < 256) && s.fldOn SDIRX_CRC_MASK i
    let s := (s.setRx i { r with
      inFrame := true, crcMask := mask, frameAt := some s.time.grid, lost := r.lost.filter (fun k => !r.rejoin.contains k), rejoin := [] }).showRx i
    match s.rxSource i with
    | some n => .next (if s.srcState n = 2 ∧ ¬s.ingestHeld n then s.openSlot n s.now else s)
    | none => .next s

/-- The events of members that are treated as lost for this frame (R280, R291). -/
def State.memberEvents (s : State) (i : Nat) (ms : List SdiMember) (a : Arrived) : State :=
  s.upTo 4 (fun s k =>
    match ms[k]? with
    | some m =>
      if (s.rx i).lost.contains k ∨ ¬m.present ∨ a.links.contains (some m) then s
      else s.raise Ev.QUAD_MEMBER
        { index := rxIndex i, data := k + 2 ^ 8 * (if 4000 < m.skewNs then 2 else 1), dest := s.rxOwners i }
    | none => s)

/-- What a frame showed (R300): detected format, identifier, skew and members. -/
def State.showFrame (s : State) (i : Nat) (d : Detected) (ms : List SdiMember) (a : Arrived) : State :=
  let quad := s.rxQuad i
  let s := if i < 256 then s.setFld SDIRX_DET d.code i else s.setFld SRC_DET d.code (i - 256)
  let s := ((List.range ms.length).zip ms).foldl (fun s e =>
    if e.2.present then
      let l := if quad then i + e.1 else i
      let s := match e.2.payload with
        | some p => s.setRxFld l SDIRX_PAYLOAD_ID p.id.toNat
        | none => s
      s.setRxFld l SDIRX_LINK_DET (if quad then 3 else s.rxLink i d)
    else s) s
  if quad then
    let r := s.rx i
    let s := s.setRx i { r with places := (List.range 4).map (fun k =>
      match ms[k]? with
      | some m => (List.range 4).find? (fun p => a.link p == some m)
      | none => none) }
    let s := s.setFld SDIRX_SKEW_NS (min 65535 ((ms.map (·.skewNs)).foldl max 0)) i
    s.setFld SDIRX_MEMBERS (((List.range 4).map (fun k => bit (a.link k).isSome * 2 ^ k)).sum) i
  else s

/-- A format change is declared (R290): the second frame is not written. -/
def State.declareChange (s : State) (i : Nat) (d : Detected) : State :=
  let r := s.rx i
  let s := (s.setRx i { r with good := 0, accepted := none, differ := 0, prev := some d, inFrame := false }).showRx i
  let s := s.setRxFld i SDIRX_FMT_SEEN 1
  match s.rxSource i with
  | some n =>
    let s := s.each (s.writing n true) (fun s ref => s.updSlot ref (fun _ => {}))
    s.becomeAbsent n false
  | none => s

/-- A frame of a receiver that runs: it matches what was accepted, or differs (R289, R290). The first frame that differs
leaves the source's format, and its slot is INCOMPLETE (R146). -/
def State.runFrame (s : State) (i : Nat) (d : Detected) (a : Arrived) (flags errs : Nat) : State :=
  let r := s.rx i
  if (r.accepted.map (fun e => e.same d)).getD false then
    let s := s.when (errs != 0) (fun s => s.glitch i flags)
    (s.endSlot i a flags).setRx i { s.rx i with differ := 0, prev := some d, inFrame := false }
  else if r.differ = 0 then
    (s.endSlot i a (flags ||| flagTiming ||| flagIncomplete)).setRx i { r with differ := 1, prev := some d, inFrame := false }
  else s.declareChange i d

/-- A frame of a receiver that acquires (R284, R285). -/
def State.acquireFrame (s : State) (i : Nat) (d : Detected) (good : Bool) : State :=
  let r := s.rx i
  let ok := good && (match r.prev with | some p => p.same d | none => true)
  let g := if ok then r.good + 1 else 0
  let s := (s.setRx i { r with
    good := g, prev := some d, inFrame := false, differ := 0, accepted := if g = 3 then some d else none }).showRx i
  if g = 3 then
    match s.rxSource i with
    | some n => s.judge i n d
    | none => s
  else s

/-- A frame of which `m` is the first member that arrived has been received. -/
def State.frameReceived (s : State) (i : Nat) (ms : List SdiMember) (a : Arrived) (m : SdiMember) : State :=
  let r := s.rx i
  let quad := s.rxQuad i
  let s := s.frameErrors i ms
  let s := s.when quad (fun s => s.memberEvents i ms a)
  let got := a.links.filterMap id
  let whole := a.links.all (fun m => match m with | some m => m.missing.isEmpty | none => false) && r.lost.isEmpty
  let d := detectedOf quad m
  let errs := errorFlags false got
  let flags := errorFlags r.crcMask got + flagIncomplete * bit (!whole)
  let s := s.showFrame i d ms a
  let s := s.when whole (fun s => s.addRxFld i SDIRX_FRAMES 1)
  if r.good = 3 then s.runFrame i d a flags errs else s.acquireFrame i d (whole && errorFlags r.crcMask got == 0)

/-! ### Loss (R288, R291) -/

def State.laneRun (s : State) (l : Nat) : LaneRun := Tab.get {} s.lane.lanes l

def State.setLaneRun (s : State) (l : Nat) (x : LaneRun) : State :=
  { s with lane := { s.lane with lanes := Tab.set {} s.lane.lanes l x } }

/-- A running eye scan of a lane stops: its counts are read out next (R343). -/
def State.stopScan (s : State) (l : Nat) : State :=
  s.when (s.fldOn LANE_ES_BUSY l) (fun s => s.setLaneRun l { s.laneRun l with scanStop := true })

/-- An RX lane loses its lock: its status, its loss count and its eye scan. -/
def State.laneUnlock (s : State) (l : Nat) (signal : Bool) : State :=
  let s := s.when (s.fldOn LANE_PLL_LOCK l) (fun s => s.addFld LANE_LOCK_LOSS 1 l)
  let s := ((s.setFld LANE_PLL_LOCK 0 l).setFld LANE_ADAPT_DONE 0 l).stopScan l
  s.when (!signal) (fun s => s.setFld LANE_SIG_DET 0 l)

/-- A receiver that has locked is lost. `unlock`: its lanes lose their lock too. -/
def State.rxLoss (s : State) (i : Nat) (cut : SdiFrame) (unlock : Bool) : State :=
  let r := s.rx i
  if r.locked = false then s
  else
    let src := s.rxSource i
    let s := s.when r.inFrame (fun s => s.cutFrame i cut false)
    let s := match src with
      | some n =>
        let s := s.each (s.writing n false) (fun s x =>
          s.when (match s.slotAt x with | some y => y.flags &&& flagIncomplete != 0 | none => false) (fun s => s.closeSlot x))
        s.becomeAbsent n true
      | none => s
    let s := if unlock then (s.setRx i r.blank).showRx i else s.rxAcquire i r.lost
    let lanes := if s.rxQuad i then [i, i + 1, i + 2, i + 3] else if i < 256 then [i] else []
    let s := s.each lanes (fun s l =>
      let s := s.setFld SDIRX_LINK_DET 0 l
      s.when unlock (fun s => (s.laneUnlock l false).setFld SDIRX_RATE_DET 0 l))
    let s := (s.setRxFld i SDIRX_MEMBERS 0).setRxFld i SDIRX_LOSS_SEEN 1
    let s := s.addRxFld i SDIRX_LOSS_CNT 1
    s.raise Ev.SDI_LOSS
      { index := rxIndex i, data := src.getD 2047, dest := match src with | some n => s.ownerList (oriSrc n) | none => [] }

/-- A member of a quad-link signal is lost; when it was the last one, the signal is (R291). -/
def State.memberLost (s : State) (l : Nat) (skew : Bool) (cut : SdiFrame) : State :=
  let i := s.rxHead l
  let r := s.rx i
  let k := l % 4
  if ¬s.rxQuad i ∨ r.locked = false ∨ r.lost.contains k then s
  else
    let lost := r.lost ++ [k]
    if lost.length = 4 then s.rxLoss i cut true
    else
      let s := (s.showMember i k false).setRx i { r with lost := lost, rejoin := r.rejoin.filter (· != k) }
      let s := s.when (!skew) (fun s => ((s.laneUnlock l false).setFld SDIRX_LINK_DET 0 l).setFld SDIRX_RATE_DET 0 l)
      s.raise Ev.QUAD_MEMBER { index := i, data := k + 2 ^ 8 * (if skew then 2 else 1), dest := s.rxOwners i }

/-- In far-end loopback an RX lane sends what it receives out of the TX ball of its pair (R345). -/
def State.farEnd (s : State) (i : Nat) (ms : List SdiMember) : State :=
  ((List.range ms.length).zip ms).foldl (fun s e =>
    s.when (decide (i < 256) && s.fld LANE_LOOP (i + e.1) == 3) (fun s => s.emit (.farEnd (i + e.1) e.2))) s

/-- The last active line of a frame has been received (R146, R279 .. R291). When no member of a quad-link signal that runs
counts, all four are lost, and the signal is; its lanes keep their lock (R279, R288, R291). -/
def execSdiFrameEnd (rx : VideoIn) (frame : SdiFrame) (s : State) : Host.Outcome State Fault Refusal :=
  let i := rx.idx
  let r := s.rx i
  if r.locked = false ∨ r.inFrame = false ∨ s.rxHeld i = true then .next s
  else
    let ms := s.frameMembers i frame
    let s := s.farEnd i ms
    let a := s.frameArrival i ms
    match a.links.filterMap id with
    | [] =>
      if r.good = 3 then .next (s.rxLoss i frame false)
      else .next (((s.frameErrors i ms).setRx i { r with inFrame := false, good := 0, prev := none }).showRx i)
    | m :: _ => .next (s.frameReceived i ms a m)

/-- A locked receiver is lost (R288). A member lane of a quad-link signal is lost as R291 has it. -/
def execSdiLoss (rx : VideoIn) (cut : SdiFrame) (s : State) : Host.Outcome State Fault Refusal :=
  let i := rx.idx
  .next (if i < 256 ∧ s.rxHead i ≠ i then s.memberLost i false cut else s.rxLoss i cut true)

/-- A member of a quad-link signal is lost (R280, R291). -/
def execQuadMemberLost (l : Fin 256) (skew : Bool) (s : State) : Host.Outcome State Fault Refusal :=
  .next (s.memberLost l skew { members := [] })

/-- A lost member has locked and aligned again: it is written from the next frame on (R291). -/
def execQuadMemberRejoin (l : Fin 256) (s : State) : Host.Outcome State Fault Refusal :=
  let i := s.rxHead l
  let r := s.rx i
  let k := l.val % 4
  if ¬s.rxQuad i ∨ r.locked = false ∨ ¬r.lost.contains k ∨ r.rejoin.contains k then .next s
  else
    let s := (s.showMember i k true).setRx i { r with rejoin := r.rejoin ++ [k] }
    let s := (s.setFld LANE_PLL_LOCK 1 l).setFld LANE_SIG_DET 1 l
    .next (s.raise Ev.QUAD_MEMBER { index := i, data := k + 2 ^ 8 * 3, dest := s.rxOwners i })

/-- LINK of a lane has changed: the lanes of its quad are read anew (R277). A source on a lane that becomes a member is
ABSENT. DESIGN CHOICE, log 84. -/
def State.relink (s : State) (l : Nat) : State :=
  let q := l / 4 * 4
  let quad := s.rxQuad q
  let s := s.when quad (fun s => s.upTo 3 (fun s k =>
    match s.rxSource (q + 1 + k) with
    | some n => s.becomeAbsent n true
    | none => s))
  let s := s.upTo 3 (fun s k => s.setFld SDIRX_MEMBER (bit quad) (q + 1 + k))
  let locked := fun (s : State) (k : Nat) => s.fldOn LANE_PLL_LOCK (q + k)
  let s := s.upTo 4 (fun s k =>
    if !quad && locked s k then s.rxAcquire (q + k) [] else (s.setRx (q + k) (s.rx (q + k)).blank).showRx (q + k))
  if quad ∧ (List.range 4).any (locked s) then s.rxAcquire q ((List.range 4).filter (fun k => !locked s k)) else s

/-! ### Ancillary packets (R273, R283) -/

/-- Timecode of an ST 12-2 packet in BCD, as SDIRX ATC shows it (R283). The nibbles stand in bits 7 .. 4 of the odd
user data words. PRESUMED, log 11. -/
def atcWord (udw : List (BitVec 10)) : Nat :=
  let nib (k : Nat) : Nat := bitField ((udw.getD (2 * k) 0).toNat) 4 4
  let two (k m : Nat) : Nat := nib k + 16 * (nib (k + 1) % m)
  two 0 4 + 2 ^ 8 * two 2 8 + 2 ^ 16 * two 4 8 + 2 ^ 24 * two 6 4

/-- A packet is taken out of a line (R283). -/
def execAncPacketReceived (rx : VideoIn) (p : AncPacket) (s : State) : Host.Outcome State Fault Refusal :=
  let i := rx.idx
  if (s.rx i).locked = false ∨ s.rxHeld i = true then .next s
  else if p.good = false then .next (s.addRxFld i SDIRX_ANC_CS_ERR 1)
  else
    let s := if p.did8 = 0x60 ∧ p.sdid8 = 0x60 then s.setRxFld i SDIRX_ATC (atcWord p.udw) else s
    match s.rxSource i with
    | none => .next s
    | some n =>
      let (s, kept) := s.ancTake n (s.ancSeq n) p
      .next (if kept then s else s.addRxFld i SDIRX_ANC_OVF 1)

end Sys2Proof.Machine
end

