-- ==== Sys2Proof/Machine/Apply.lean ====
section
/-! DEFINITION. Takes as they apply: at a boundary of their object or at their milepost, their end, and the rows of the
take timeline (R169, R170, R177 .. R180, R184, R187 .. R192, R207). -/

namespace Sys2Proof.Machine
open Reg

/-! ### One change -/

/-- A source's ring is allocated, replaced or released; the first ring admits the source (R22, R139, R285). -/
def State.applyRing (s : State) (n : Nat) (sh : RingShape) (pages : Nat) : State :=
  let fresh := (s.cfg.ring n).depth = 0 ∧ sh.depth ≠ 0
  let s := s.applyAlloc n sh pages
  if sh.depth = 0 then s.updSrc n (fun x => { x with island := 0 })
  else if fresh then (s.placeSource n).judgeNow n
  else s

/-- One change applies, at the instant `t` for those that apply at a milepost. -/
def State.applyChange (s : State) (t : Nat) (ch : Change) : State :=
  match ch with
  | .alloc n sh pages explicit =>
    if !explicit && s.cfg.ringSuffices n sh then s.unreservePages sh.mask pages else s.applyRing n sh pages
  | .holdBuf rd bytes => let r := s.reader rd; s.setReader rd { r with holdBytes := r.holdBytes + bytes }
  | .ancInsert d line rep ws =>
    let r := s.dstRun d
    s.setDstRun d { r with inserts := r.inserts ++ [{ line := line, left := rep, words := ws }] }
  | .flowAdd f ws => s.applyFlowAdd f t ws
  | .flowDel f _ => s.applyFlowDel f
  | .probeCtl c act pc => s.probeCtl c act pc
  | ch => s.setCfg (s.cfgStep s.cfg ch)

/-! ### A take on one object -/

/-- The object at whose boundary a charged object's increase comes into force: a ring at the instant, the output of a
compositor with the compositor (R176, R247). -/
def chObj (ch : Nat) : Nat :=
  if ch < 1024 then objInstant else if ch < 2048 then objCmp (ch - 1024)
  else if ch < 4096 then objDst (ch - 2048) else objCmp ((ch - 4096) / 8)

/-- Nothing of the take is left to apply. -/
def Take.ended (k : Take) : Bool := k.todo.isEmpty && k.marks.isEmpty && (k.kind == .immediate || k.reached)

/-- A take has applied (R169, R192): groups say so at once, a flip once its banks are settled. -/
def State.finishTake (s : State) (k : Take) : State :=
  match k.kind with
  | .flip => s
  | .immediate => s.removeTake k
  | .internal => s.removeTake k
  | .group =>
    ((s.removeTake k).addFld TK_APPLIED 1 k.part).raise Ev.GROUP_APPLIED
      { index := k.group, sub := k.deferrals, data := k.count + 2 ^ 32 * (k.seq % 2 ^ 32), dest := [k.part] }

/-- The take as it stands, if it still stands. -/
def State.takeNow (s : State) (k : Take) : Option Take := s.take.takes.find? (fun x => x.same k)

def State.finishIfEnded (s : State) (k : Take) : State :=
  match s.takeNow k with
  | some x => if x.ended then s.finishTake x else s
  | none => s

/-- A compositor that a change enables starts at its first frame start from now on (R246). -/
def State.noteEnabled (s : State) (obj : Nat) (before : Bool) : State :=
  let c := obj - 1024
  if 1024 ≤ obj ∧ obj < 2048 ∧ before = false ∧ (s.cfg.cmp c).enabled = true then
    s.setCmpRun c { obj := { notBefore := s.nowInt, leadUsed := s.fld CMP_LEAD_EXTRA_US c } }
  else s

/-- What a take holds for one object applies; its increases there are no longer held (R176). -/
def State.applyOn (s : State) (obj : Nat) (k : Take) : State :=
  let before := (s.cfg.cmp (obj - 1024)).enabled
  let s := s.when (k.marks.contains obj) (fun s => s.setCfg (s.cfg.switch (s.bank k.part).copies obj))
  let s := (s.each (k.todo.filter (fun c => c.obj == obj)) (fun s c => s.applyChange k.t c)).noteEnabled obj before
  s.updTake k (fun x => { x with
    marks := x.marks.filter (· != obj)
    todo := x.todo.filter (fun c => c.obj != obj)
    held := x.held.filter (fun e => chObj e.1 != obj) })

/-- Bytes of hold buffer that a reader needs now: for SRC_FMT, for the format in force and for the picture that it holds
(R141, R207). -/
def State.holdKept (s : State) (rd : Nat) : Nat :=
  match s.cfg.readerAt rd with
  | some x =>
    if x.policy.holds then
      max (max (s.holdNeed s.cfg x) (s.holdNeedFor x (s.fmtInForce x.src)))
        (((s.reader rd).hold.map (fun h => holdBytesOf h.fmt h.store h.level)).getD 0)
    else 0
  | none => 0

/-- Hold buffers of an object's readers, or what they have too much, are released at its boundary where nothing staged
counts on them (R207). -/
def State.releaseHolds (s : State) (obj : Nat) : State :=
  if s.take.takes.any (fun k => k.touches obj) ∨ s.take.banks.any (fun b => b.2.marks.contains obj) then s
  else s.each (s.store.readers.filter (fun e => rdObj e.1 == obj && e.2.holdBytes != 0)) (fun s e =>
    let r := s.reader e.1
    let n := min r.holdBytes (s.holdKept e.1)
    s.when (n != r.holdBytes) (fun s =>
      (s.setHoldBytes (s.store.holdBytes - (r.holdBytes - n))).setReader e.1
        { r with holdBytes := n, hold := if n = 0 then none else r.hold }))

/-- Takes apply to an object, in order. -/
def State.applyTakes (s : State) (obj : Nat) (ks : List Take) : State :=
  let s := s.each ks (fun s k => s.applyOn obj k)
  (s.releaseHolds obj).each ks State.finishIfEnded

/-- Every take due at the boundary f of an object applies there (R169, R180). -/
def State.applyBoundary (s : State) (obj : Nat) (f : Int) (lead : Nat) : State := s.applyTakes obj (s.dueTakes obj f lead)

/-! ### The milepost (R169, R170) -/

def dedupNat (l : List Nat) : List Nat := l.foldl (fun acc x => if acc.contains x then acc else acc ++ [x]) []

/-- Objects of a take. -/
def Take.objs (k : Take) : List Nat := dedupNat (k.marks ++ k.todo.map Change.obj)

/-- A take that enables a disabled compositor applies at the first frame start of its plane (R171, R246). -/
def State.awaitEnable (s : State) (obj : Nat) (k : Take) : Option State :=
  let c := obj - 1024
  let m := (s.takeOn s.cfg obj k).cmp c
  if 1024 ≤ obj ∧ obj < 2048 ∧ (s.cfg.cmp c).enabled = false ∧ m.enabled = true ∧ s.cmpRate m ≠ 0 then
    let lead := s.fld CMP_LEAD_EXTRA_US c
    let from' := if k.kind = .immediate then k.t + 100000 + leadNs lead else s.now
    some (s.setCmpRun c { obj := { notBefore := from', leadUsed := lead }, moveTo := m.plane })
  else none

/-- A take reaches an object without boundaries: it applies there, or waits for the compositor that it enables. -/
def State.reachObj (s : State) (obj : Nat) (k : Take) : State :=
  match s.awaitEnable obj k with
  | some s' => s'
  | none => (s.applyOn obj k).releaseHolds obj

/-- At its milepost a take applies to what has no boundaries, and a flip toggles the live bank. -/
def State.reachTake (s : State) (k : Take) : State :=
  let objs := k.objs.filter (fun o => !s.hasBoundary o)
  let s := s.each objs (fun s o => match s.takeNow k with | some x => s.reachObj o x | none => s)
  match s.takeNow k with
  | none => s
  | some x =>
    let s := s.when (x.kind == .flip && !x.reached) (fun s => s.setFld TK_ACTIVE (1 - s.fld TK_ACTIVE x.part) x.part)
    (s.updTake x (fun x => { x with reached := true })).finishIfEnded x

/-- Every decided take whose milepost has come, in order. -/
def State.reachAll (s : State) : State :=
  s.each (sortTakes (s.take.takes.filter (fun k => k.state == .decided && decide (k.t ≤ s.now)))) State.reachTake

def execMilepost (s : State) : Host.Outcome State Fault Refusal := .next s.reachAll

/-- Every scheduled take whose staging deadline has come is sealed, in sequence order (R177). -/
def State.sealDue (s : State) : State :=
  let due := s.take.takes.filter (fun k => k.state == .scheduled && decide (k.t ≤ s.now + 2000000))
  s.each (due.mergeSort (fun a b => decide (a.seq ≤ b.seq))) State.sealTake

def execStagingDeadline (s : State) : Host.Outcome State Fault Refusal := .next s.sealDue

/-- The tokens of mileposts that are due act (R124). -/
def State.postTokens (s : State) : State := s.sealDue.reachAll

/-- The first payload word of GROUP_END, GROUP_ACK and DECISION of a handover (R446). -/
def Handover.word (h : Handover) : Nat := word64 (h.part + 2 ^ 8 * 3) h.seq

def State.setHandovers (s : State) (f : List Handover → List Handover) : State :=
  let p := s.cway
  s.setCway { p with handovers := f p.handovers }

/-- Why a handover cannot apply at its decision instant (R454, R456); 0: it applies. -/
def State.handoverFails (s : State) (h : Handover) : Nat :=
  if s.fld CWAY_LINK_UP = 0 then 3
  else if s.fldOn CWAY_PEER_READY = false ∨ s.fld CWAY_PEER_STATE ≠ Role.STANDBY then 1
  else if h.acked then 0 else 2

/-- The decision on a handover: it applies, or HANDOVER_FAILED is raised and nothing changes (R454). -/
def State.decideHandover (s : State) (h : Handover) : State :=
  let why := s.handoverFails h
  let s := s.send Msg.DECISION [h.word, bit (why == 0), h.t]
  if why = 0 then s.setHandovers (fun l => l.map (fun x => if x = h then { x with decided := true } else x))
  else (s.setHandovers (fun l => l.filter (fun x => x ≠ h))).raise Ev.HANDOVER_FAILED { data := why }

/-- The members of a sealed take have been copied into their islands at its decision (R177, R179): surely once the sequencer
has had the time that it needs at 8 changes per µs, and otherwise unless it, or one sealed before it, is among the late. -/
def State.copiedAll (s : State) (late : List Nat) (k : Take) : Bool :=
  let sure := fun (x : Take) => decide (x.copiedBy ≤ s.time.grid)
  sure k || !s.take.takes.any (fun x =>
    x.state == .sealed && x.kind != .flip && decide (x.copiedBy ≤ k.copiedBy) && !sure x && late.contains x.seq)

/-- Every sealed take, and every handover, whose decision instant has come is decided by the active device (R178, R454);
a device that follows waits for the decision of its peer (R440). `late` names by sequence number the commits whose members
are not all copied yet, where the sequencer's least rate leaves that open. -/
def execDecisionInstant (late : List Nat) (s : State) : Host.Outcome State Fault Refusal :=
  if s.isActive then
    let due := s.take.takes.filter (fun k => k.state == .sealed && decide (k.t ≤ s.now + 1000000))
    .next ((s.each (due.mergeSort (fun a b => decide (a.seq ≤ b.seq))) (fun s k => s.decideTake k (s.copiedAll late k))).each
      (s.cway.handovers.filter (fun h => !h.decided && decide (h.t ≤ s.now + 1000000))) State.decideHandover)
  else .next s

/-- The banks of a partition are settled after the last boundary of its flip (R190). -/
def execFlipSettle (p : Fin 8) (s : State) : Host.Outcome State Fault Refusal :=
  match s.flipOf p with
  | none => .next s
  | some k =>
    if k.state = .decided ∧ k.ended = true then
      let s := ((s.removeTake k).setBank p {}).setFld TK_BANK_CHANGES 0 p
      .next ((s.addFld TK_APPLIED 1 p).raise Ev.GROUP_APPLIED
        { index := 0, sub := k.deferrals, data := k.count + 2 ^ 32 * (k.seq % 2 ^ 32), dest := [p.val] })
    else .next s

/-! ### Views of R193 -/

/-- FLIP_STATE of partition p. -/
def State.flipState (s : State) (p : Nat) : Nat :=
  match s.flipOf p with
  | none => 0
  | some k =>
    match k.state with
    | .scheduled => 1
    | .decided => if k.ended then 3 else 2
    | _ => 2

/-- FLIP_T of partition p. -/
def State.flipT (s : State) (p : Nat) : Nat := match s.flipOf p with | some k => k.t | none => 0

def State.groupsOf (s : State) (p : Nat) : List Take := s.take.takes.filter (fun k => k.kind == .group && k.part == p)

def Take.isOpen (k : Take) : Bool := k.state == .opened || k.state == .failed

/-- The earliest milepost in force among scheduled groups and the flip of partition p; 0 for none. -/
def State.nextT (s : State) (p : Nat) : Nat :=
  let ts := (((s.groupsOf p).filter (fun k => !k.isOpen)) ++ (s.flipOf p).toList).map (·.t)
  match ts with
  | [] => 0
  | t :: ts => ts.foldl min t

/-! ### Audio blocks (R368) -/

/-- The map and gain changes that are due at the block at t apply to output channel o. -/
def State.applyChan (s : State) (o : Nat) (t : Int) : State :=
  let ks := s.dueTakes (objChan o) t 0
  if ks.isEmpty then s
  else
    let copies := fun (k : Take) => (s.bank k.part).copies.chan o
    let changes := ks.map (fun k => (if k.marks.contains (objChan o) then 1 else 0) + (k.todo.filter (fun c => c.obj == objChan o)).length)
    let f := fun (x : ChanOut) => ks.foldl (fun x k =>
      let x := if k.marks.contains (objChan o) then x.switchTo (copies k) else x
      (k.todo.filter (fun c => c.obj == objChan o)).foldl ChanOut.change x) x
    (s.changeChan o changes.sum f).applyTakes (objChan o) ks

/-- Output channels that some take touches. -/
def State.touchedChans (s : State) : List Nat :=
  dedupNat (s.take.takes.flatMap (fun k => (k.objs.filter (fun o => decide (2048 ≤ o ∧ o < objInstant))).map (· - 2048)))

end Sys2Proof.Machine
end

