-- ==== Sys2Proof/Machine/Audio.lean ====
section
/-! DEFINITION. The audio plane's rows: sample ticks, 1 ms blocks and the lock of an ASRC (R122, R124, R359 .. R363, R366,
R368, R383 .. R387, R441, R447). -/

namespace Sys2Proof.Machine
open Reg

/-- The index, plus 1, of the 1 ms block last reached on the audio plane. -/
def State.blockIndex (s : State) : Nat := ceilDiv s.sampleIndex 48

/-- Device time of the start of block b (R122). -/
def State.blockStart (s : State) (b : Nat) : Int := s.sampleStart (48 * b)

/-- The lowest channels of the ASRC feeds that are locked: each source's resampled window, each locked AES3 input. -/
def State.asrcFeeds (s : State) : List (Nat × Nat) :=
  let wins := (s.audio.srcs.map (·.1)).filterMap (fun n =>
    match List.find? (fun e : Nat × ChanIn => e.2.src == n && e.2.feed != 3 && e.2.asrc && e.2.locked) s.audio.ins with
    | some e => some (e.1, s.winCount n)
    | none => none)
  let ports := (s.aes.ins.map (·.1)).filterMap (fun i =>
    match s.aesChannels i with
    | ch :: _ => if s.fld AESIN_STATE i = aesLocked then some (ch, 2) else none
    | [] => none)
  wins ++ ports

/-- The lowest channel of the ASRC feed that writes a channel. -/
def State.feedHead (s : State) (ch : Nat) : Nat :=
  let c := s.chanIn ch
  if c.feed = 3 then
    match (List.range 64).find? (fun i => (s.aesChannels i).contains ch) with
    | some i => (s.aesChannels i).headD ch
    | none => ch
  else match List.find? (fun e : Nat × ChanIn => e.2.src == c.src && e.2.feed != 3 && e.2.asrc) s.audio.ins with
    | some e => e.1
    | none => ch

/-- The channel whose ratio estimate a channel uses: the lowest ASRC member of its alignment group, or itself (R365). -/
def State.ratioLead (s : State) (ch : Nat) : Nat :=
  match s.alignGroup ch with
  | none => ch
  | some g =>
    match List.find? (fun e : Nat × ChanIn => e.2.asrc && s.alignGroup e.1 == some g) s.audio.ins with
    | some e => e.1
    | none => ch

/-- Every channel that follows the estimate of the feed with lowest channel `head` takes a ratio. -/
def State.setRatio (s : State) (head : Nat) (value : Int) : State :=
  s.each (s.fedChannels.filter (fun ch => (s.chanIn ch).asrc && s.feedHead (s.ratioLead ch) == head)) (fun s ch =>
    s.setChanIn ch { s.chanIn ch with ratio := value.toNat })

/-- A ratio update per ASRC feed (R363, R441); the ratio is a free value. -/
def State.ratioUpdates (s : State) (k : Nat) : State :=
  s.each s.asrcFeeds (fun s f =>
    let d : AudDec := { kind := 1, ch := f.1, count := f.2, tick := k, value := signed 32 (Config.asrcRatio s.free) }
    (s.advance.setRatio d.ch d.value).decided d)

/-- Output groups that map a pool input channel play something that the peer may not: their blocks are not compared
(R441). -/
def State.audioDiffers (s : State) (ch : Nat) : State :=
  let uses := fun (e : Nat × ChanOut) =>
    (mapAEn e.2.map0 && mapInA e.2.map0 == ch) || (mapBEn e.2.map1 && mapInB e.2.map1 == ch)
  s.each (dedupNat ((s.audio.outs.filter uses).map (fun e => e.1 / 64))) (fun s g => s.setAudGroup g { s.audGroup g with nc := true })

/-- Two records of one decision (R441, R446): tick indices go by their low 32 bits. -/
def AudDec.same (a b : AudDec) : Bool :=
  a.kind == b.kind && a.ch == b.ch && a.tick % 2 ^ 32 == b.tick % 2 ^ 32 && a.value == b.value

/-- A decision of the device's own, which its peer has not made, is undone (R363, R441). -/
def State.takeBack (s : State) (d : AudDec) : State :=
  let c := s.chanIn d.ch
  match d.kind with
  | 2 => s.each (s.slipSet c.src) (fun s x => s.setChanIn x ((s.chanIn x).slip (decide (d.value < 0))))
  | 3 => s.setChanIn d.ch { c with fout := none, under := false, fin := if c.playing then c.fin else 0, playing := true }
  | 4 => s.setChanIn d.ch c.silentChan
  | 5 => (s.setFld AINST_AUTO_ASRC 0 0 c.src).reclock c.src
  | _ => s

/-- The block b ends. On a device that follows, a decision of it that the peer has not made marks the block, one of the
block before it is undone; decisions of older blocks are dropped (R441). -/
def State.settleDecs (s : State) (b : Nat) : State :=
  let a := s.audio
  let lone := a.decs.filter (fun d => !a.peerDecs.any d.same)
  let s := s.when s.follows (fun s => s.each lone (fun s d =>
    if d.tick / 48 = b then s.audioDiffers d.ch else s.takeBack d))
  let keep := fun (d : AudDec) => decide (48 * b ≤ d.tick)
  { s with audio := { s.audio with decs := a.decs.filter keep, peerDecs := a.peerDecs.filter keep } }

/-- The 1 ms block with index b - 1 starts (R361, R368, R447): the ended block's digests go out, due map and gain changes
apply, and flow channels re-enter. -/
def State.startBlock (s : State) (b : Nat) : State :=
  let s := s.when (s.time.lastBlock != 0) (fun s => (s.settleDecs (s.time.lastBlock - 1)).sendAudioDigests (s.time.lastBlock - 1))
  let s := { s with time := { s.time with lastBlock := b } }
  let s := s.each s.touchedChans (fun s o => s.applyChan o (s.blockStart (b - 1)))
  (s.reenterFlows (48 * (b - 1))).ratioUpdates (48 * (b - 1))

/-- The block that is due, if one is. -/
def State.dueBlock (s : State) : State :=
  if s.time.lastBlock < s.blockIndex then s.startBlock s.blockIndex else s

/-- The sample tick k of every part of the audio engine and of the AES3 outputs. -/
def State.sampleAt (s : State) (k : Nat) : State :=
  ((((s.aesSides k).inputTick k).outputTick k).embedTick k).aesTick k

/-- The block and the sample tick that are due act: the latest tick that has come, after the block that starts with it. The
audio islands do nothing in the safe state (R463). -/
def State.blockToken (s : State) : State := if s.safe then s else s.dueBlock

def State.sampleToken (s : State) : State :=
  let i := s.sampleIndex
  if s.safe ∨ i ≤ s.time.lastSample then s
  else
    let s := s.dueBlock
    ({ s with time := { s.time with lastSample := i } }).sampleAt (i - 1)

/-- The ratio estimate of a feed has locked (R363). -/
def execAsrcLock (feed : AsrcFeed) (s : State) : Host.Outcome State Fault Refusal :=
  if s.heldInReset 137 then .next s
  else match feed with
  | .aes i => .next (s.aesLock i)
  | .window n =>
    .next (s.each s.fedChannels (fun s ch =>
      let c := s.chanIn ch
      s.when (c.src = n.val ∧ c.feed ≠ 3 ∧ c.asrc = true) (fun s => s.setChanIn ch { c with locked := true })))

end Sys2Proof.Machine
end

