-- ==== Sys2Proof/Machine/Owner.lean ====
section
/-! DEFINITION. A change of a resource's owner, and what it clears in a media port (R45, R51, R310). -/

namespace Sys2Proof.Machine
open Reg

def State.portRun (s : State) (m : Nat) : PortRun := Tab.get {} s.media.ports m

def State.setPortRun (s : State) (m : Nat) (x : PortRun) : State :=
  { s with media := { s.media with ports := Tab.set {} s.media.ports m x } }

/-- The ring fields of a port's host path. -/
def hostPathFields : List Field :=
  [MPORT_HP_RX_BASE_LO, MPORT_HP_RX_BASE_HI, MPORT_HP_RX_LOG2, MPORT_HP_RX_EN, MPORT_HP_VECTOR, MPORT_HP_INT_EN,
    MPORT_HP_RX_HEAD, MPORT_HP_RX_TAIL, MPORT_HP_TX_BASE_LO, MPORT_HP_TX_BASE_HI, MPORT_HP_TX_LOG2, MPORT_HP_TX_EN,
    MPORT_HP_TX_TAIL, MPORT_HP_TX_HEAD, MPORT_HP_BAD, MPORT_HP_FAULT]

/-- The ring fields of port m are cleared: a PART reset of the owner, a change of owner, a revocation (R310). -/
def State.clearHostPath (s : State) (m : Nat) : State :=
  let s := s.each hostPathFields (fun s f => s.resetFld f m)
  s.setPortRun m { s.portRun m with rxPhase := true }

/-- The host-path rings of the media ports that partition p owns are cleared (R310, R332). -/
def State.clearPorts (s : State) (p : Nat) : State :=
  s.each ((List.range 64).filter (fun m => s.owner (oriPort m) == some p)) State.clearHostPath

/-- A resource passes to another owner, or to none. -/
def State.passTo (s : State) (ori : Nat) (p : Option Nat) : State :=
  (s.setOwner ori p).when (decide (2944 ≤ ori ∧ ori < 3008) && s.owner ori != p) (fun s => s.clearHostPath (ori - 2944))

end Sys2Proof.Machine
end

