-- ==== Sys2Proof/Machine/MediaPort.lean ====
section
/-! DEFINITION. Media ports: enabling, link, and the host path (R302 .. R305, R308 .. R310, R328, R330). -/

namespace Sys2Proof.Machine
open Reg

/-! ### Modes (R302) -/

/-- Lanes of a port mode. -/
def portWidth : Nat → Nat
  | 1 => 1
  | 2 => 1
  | 3 => 1
  | 4 => 1
  | 5 => 2
  | 6 => 4
  | 7 => 2
  | 8 => 4
  | 9 => 4
  | _ => 0

/-- Rate of a port mode in Gb/s. -/
def portGbps : Nat → Nat
  | 1 => 10
  | 2 => 25
  | 3 => 50
  | 4 => 100
  | 5 => 100
  | 6 => 100
  | 7 => 200
  | 8 => 200
  | 9 => 400
  | _ => 0

/-- A port mode has RS(544,514): every PAM4 one (R302). -/
def modeFec (mode : Nat) : Bool := mode == 3 || mode == 4 || mode == 5 || mode == 7 || mode == 8 || mode == 9

def State.portFec (s : State) (m : Nat) : Bool := modeFec (s.fld MPORT_MODE m)

/-- Media lanes of port m, as lane numbers. -/
def State.portLanes (s : State) (m : Nat) : List Nat := (List.range (portWidth (s.fld MPORT_MODE m))).map (fun k => 512 + m + k)

/-- Port m is enabled. -/
def State.portOn (s : State) (m : Nat) : Bool := s.fldOn MPORT_ENABLE m

/-- A lane belongs to an enabled port other than m. -/
def State.laneTaken (s : State) (m l : Nat) : Bool :=
  (List.range 64).any (fun p => p != m && s.portOn p && (s.portLanes p).contains l)

/-- A lane cannot be put into use: it is off, or a loopback or a pattern runs on it (R338, R346). -/
def State.laneBarred (s : State) (l : Nat) : Bool :=
  !s.fldOn LANE_PWR l || (LANE_LOOP.only l && s.fldOn LANE_LOOP l) || (LANE_PRBS_GEN.only l && s.fldOn LANE_PRBS_GEN l) ||
    (decide (l < 256) && s.fldOn LANE_PRBS_GEN (256 + l)) || (decide (256 ≤ l ∧ l < 512) && s.fldOn LANE_LOOP (l - 256))

/-- The first failing check of R303; 0 for none. -/
def State.portError (s : State) (m : Nat) : Nat :=
  let w := portWidth (s.fld MPORT_MODE m)
  if w = 0 then 1
  else if m % w ≠ 0 then 2
  else if s.gated (76 + m / 4) || (s.portLanes m).any (fun l => s.laneTaken m l || s.laneBarred l) then 3
  else 0

/-- The media lanes of port m that train when its link comes up (R340). -/
def State.trainsOn (s : State) (m : Nat) : List Nat :=
  (s.portLanes m).filter (fun l => s.fldOn LANE_LT_EN l && !s.fldOn LANE_MANUAL_EQ l)

/-- ENABLE = 1 is written (R303). -/
def State.enablePort (s : State) (m : Nat) : State :=
  if s.portOn m then s
  else
    let e := s.portError m
    let s := s.setFld MPORT_EN_ERR e m
    if e ≠ 0 then s
    else
      let lanes := s.portLanes m
      let s := ((s.setFld MPORT_ENABLE 1 m).setFld MPORT_LIVE 1 m).setFld MPORT_LANES lanes.length m
      let s := s.each lanes (fun s l => (s.setFld LANE_IN_USE 1 l).setFld LANE_LT_DONE 0 l)
      s.setPortRun m { s.portRun m with
        modeLocked := true
        training := s.trainsOn m }

/-- A flow context names port m. -/
def State.portNamed (s : State) (m : Nat) : Bool :=
  s.media.flows.any (fun e => match e.2 with | some f => flowPort f.words == m | none => false)

/-- A PTP instance is bound to port m (R104, R126). -/
def State.portPtp (s : State) (m : Nat) : Bool := s.fld REF_INPUT 1 == m + 1 || s.fld REF_INPUT 2 == m + 1

/-- The link of port m goes down: every context of the port becomes DOWN (R322, R330), and its lanes train again before it
comes up (R340). -/
def State.portDown (s : State) (m : Nat) : State :=
  if s.fldOn MPORT_LINK_UP m then
    let s := (s.setFld MPORT_LINK_UP 0 m).addFld MPORT_LINK_DOWNS 1 m
    let again := s.trainsOn m
    let s := (s.each again (fun s l => s.setFld LANE_LT_DONE 0 l)).setPortRun m { s.portRun m with training := again }
    let s := s.raise Ev.PORT_DOWN { index := m, data := s.fld MPORT_LINK_DOWNS m, dest := s.ownerList (oriPort m) }
    s.each (s.media.flows.map (·.1)) (fun s f =>
      match s.flow f with
      | some x => s.when (flowDir x.words == 1 && flowPort x.words == m) (fun s => s.flowDown f)
      | none => s)
  else s

/-- ENABLE = 0 is written (R303): a link that is up goes down. -/
def State.disablePort (s : State) (m : Nat) : State :=
  if ¬s.portOn m ∨ s.portNamed m ∨ s.portPtp m then s
  else
    let lanes := s.portLanes m
    let s := (((s.portDown m).setFld MPORT_ENABLE 0 m).setFld MPORT_LIVE 0 m).setFld MPORT_LANES 0 m
    let s := s.each lanes (fun s l => s.setFld LANE_IN_USE 0 l)
    s.setPortRun m { s.portRun m with training := [] }

/-! ### Link (R330, R340) -/

/-- TX taps in use of a lane become some values. -/
def State.setTaps (s : State) (l pre main post : Nat) : State :=
  ((s.setFld LANE_TXPRE_NOW pre l).setFld LANE_TXMAIN_NOW main l).setFld LANE_TXPOST_NOW post l

/-- The port of a lane in training. -/
def State.trainingPort (s : State) (l : Nat) : Option Nat := (List.range 64).find? (fun m => (s.portRun m).training.contains l)

/-- Training of a media lane ends: with the taps that the partner asked for, or after 500 ms on PRESET (R340). -/
def execLinkTrainingEnd (l : Fin 64) (taps : Option EqNow) (s : State) : Host.Outcome State Fault Refusal :=
  match s.trainingPort (512 + l) with
  | none => .next s
  | some m =>
    let x := s.portRun m
    let s := s.setPortRun m { x with training := x.training.filter (· != 512 + l.val) }
    .next (match taps with
      | some t => (s.setTaps (512 + l) t.pre.toNat t.main.toNat t.post.toNat).setFld LANE_LT_DONE 1 (512 + l)
      | none => s.setFld LANE_LT_DONE 0 (512 + l))

/-- The PCS of an enabled port aligns, once its lanes are trained. -/
def execPortUp (m : Fin 64) (s : State) : Host.Outcome State Fault Refusal :=
  if s.portOn m ∧ ¬s.fldOn MPORT_LINK_UP m ∧ (s.portRun m).training = [] ∧ ¬s.fldOn DOM_DSTATE (76 + m / 4) then
    .next ((s.setFld MPORT_LINK_UP 1 m).raise Ev.PORT_UP { index := m, data := s.now, dest := s.ownerList (oriPort m) })
  else .next s

def execPortDown (m : Fin 64) (s : State) : Host.Outcome State Fault Refusal := .next (s.portDown m)

/-! ### The host path (R308 .. R310) -/

/-- The base address of a host-path ring. -/
def State.hpBase (s : State) (lo hi : Field) (m : Nat) : Nat := s.fld lo m * 2 ^ 12 + s.fld hi m * 2 ^ 32

/-- The 32 B record of a received frame. -/
def hpRecord (len : Nat) (reason rxTime : Nat) (phase : Bool) : List Byte :=
  leBytes 4 (len % 2 ^ 14 + 2 ^ 14 * bit (2016 < len) + 2 ^ 16 * reason) ++ leBytes 4 0 ++ leBytes 8 rxTime ++
    leBytes 12 0 ++ leBytes 4 (2 ^ 31 * bit phase)

/-- A frame is dropped for want of a record; the event comes at most once per second. -/
def State.hpDrop (s : State) (m : Nat) : State :=
  let s := s.addFld MPORT_HP_RX_DROP 1 m
  let x := s.portRun m
  if x.lastOvf = 0 ∨ x.lastOvf - 1 + 10 ^ 9 ≤ s.time.grid then
    (s.setPortRun m { x with lastOvf := s.time.grid + 1 }).raise Ev.HP_RX_OVF
      { index := m, data := s.fld MPORT_HP_RX_DROP m, dest := s.ownerList (oriPort m) }
  else s

/-- A frame goes to the receive ring of the owner of port m (R308). -/
def State.hostPath (s : State) (m reason rxTime : Nat) (bytes : List Byte) : State :=
  let size := 2 ^ s.fld MPORT_HP_RX_LOG2 m
  let tail := s.fld MPORT_HP_RX_TAIL m
  let next := (tail + 1) % size
  match s.owner (oriPort m) with
  | none => s.hpDrop m
  | some p =>
    if ¬s.fldOn MPORT_HP_RX_EN m ∨ next = s.fld MPORT_HP_RX_HEAD m ∨ ¬s.live p then s.hpDrop m
    else
      let x := s.portRun m
      let addr := s.hpBase MPORT_HP_RX_BASE_LO MPORT_HP_RX_BASE_HI m + 2048 * tail
      let s := s.emit (.hostData p addr (hpRecord bytes.length reason rxTime x.rxPhase ++ bytes.take 2016))
      let s := (s.setFld MPORT_HP_RX_TAIL next m).addFld MPORT_HP_RX_PKTS 1 m
      let s := s.setPortRun m { x with rxPhase := if next = 0 then !x.rxPhase else x.rxPhase }
      s.when (s.fldOn MPORT_HP_INT_EN m) (fun s => s.sendVector p (s.fld MPORT_HP_VECTOR m))

/-- HP_RX_HEAD is written: the check of a completion ring head (R60, R310). -/
def State.writeHpRxHead (s : State) (m v : Nat) : State :=
  let size := 2 ^ s.fld MPORT_HP_RX_LOG2 m
  let v := v % 2 ^ 16
  let old := s.fld MPORT_HP_RX_HEAD m
  if s.fldOn MPORT_HP_RX_EN m ∧ v < size ∧ ringDist size v old ≤ ringDist size (s.fld MPORT_HP_RX_TAIL m) old then
    s.setFld MPORT_HP_RX_HEAD v m
  else s.setFld MPORT_HP_BAD 1 m

/-- HP_TX_TAIL is written: the check of a command ring tail. -/
def State.writeHpTxTail (s : State) (m v : Nat) : State :=
  let size := 2 ^ s.fld MPORT_HP_TX_LOG2 m
  let v := v % 2 ^ 16
  let head := s.fld MPORT_HP_TX_HEAD m
  if s.fldOn MPORT_HP_TX_EN m ∧ v < size ∧ ringDist size (s.fld MPORT_HP_TX_TAIL m) head ≤ ringDist size v head then
    s.setFld MPORT_HP_TX_TAIL v m
  else s.setFld MPORT_HP_BAD 1 m

/-- HP_RX_LOG2, HP_RX_EN, HP_VECTOR and HP_INT_EN are written (R59, R310). -/
def State.writeHpRxRing (s : State) (m v : Nat) : State :=
  let on := s.fldOn MPORT_HP_RX_EN m
  let s := s.when (!on) (fun s => s.setFld MPORT_HP_RX_LOG2 (MPORT_HP_RX_LOG2.norm m (bitField v 0 5)) m)
  let s := (s.setFld MPORT_HP_VECTOR (bitField v 16 6) m).setFld MPORT_HP_INT_EN (bitField v 24 1) m
  if bitAt v 8 then
    if on ∨ s.fld MPORT_HP_RX_LOG2 m = 0 then s
    else
      let s := ((s.setFld MPORT_HP_RX_EN 1 m).setFld MPORT_HP_RX_HEAD 0 m).setFld MPORT_HP_RX_TAIL 0 m
      s.setPortRun m { s.portRun m with rxPhase := true }
  else s.setFld MPORT_HP_RX_EN 0 m

/-- HP_TX_LOG2 and HP_TX_EN are written. -/
def State.writeHpTxRing (s : State) (m v : Nat) : State :=
  let on := s.fldOn MPORT_HP_TX_EN m
  let s := s.when (!on) (fun s => s.setFld MPORT_HP_TX_LOG2 (MPORT_HP_TX_LOG2.norm m (bitField v 0 5)) m)
  if bitAt v 8 then
    if on ∨ s.fld MPORT_HP_TX_LOG2 m = 0 then s
    else ((s.setFld MPORT_HP_TX_EN 1 m).setFld MPORT_HP_TX_TAIL 0 m).setFld MPORT_HP_TX_HEAD 0 m
  else s.setFld MPORT_HP_TX_EN 0 m

/-! ### Sending frames (R305, R309, R325) -/

/-- The port may send: it is enabled, and the device is not in the safe state (R463). -/
def State.maySend (s : State) (m : Nat) : Bool := s.portOn m && !s.safe

/-- A frame on the wire: preamble, start delimiter, the frame and its FCS (R305). The bytes of the preamble and the CRC are
those of IEEE 802.3: PRESUMED, log 85. -/
def wireBytes (b : List Byte) : List Byte :=
  List.replicate 7 0x55 ++ [0xD5] ++ b ++ leBytes 4 (crc32 (b.map (·.toNat)))

/-- Nanoseconds that some bytes take on a port, rounded up. -/
def State.portNs (s : State) (m n : Nat) : Nat := ceilDiv (n * 8) (max 1 (portGbps (s.fld MPORT_MODE m)))

/-- Nanoseconds that a frame takes on a port, with preamble, FCS and the gap of 12 B. -/
def State.frameNs (s : State) (m len : Nat) : Nat := s.portNs m (max 60 len + 24)

/-- How long a frame waits until the port is free. -/
def State.portWait (s : State) (m : Nat) : Nat := (s.portRun m).busyUntil - s.time.grid

/-- The instant at which the first bit after the start delimiter of a frame sent now leaves (R328). -/
def State.txStamp (s : State) (m : Nat) : Nat := s.now + s.portWait m + s.portNs m 8

/-- A frame leaves port m as soon as the port is free; false while the link is down, when it is discarded and counted. -/
def State.sendFrame (s : State) (m : Nat) (bytes : List Byte) : State × Bool :=
  let bytes := bytes ++ List.replicate (60 - bytes.length) 0
  if s.fldOn MPORT_LINK_UP m then
    let s := s.setPortRun m { s.portRun m with busyUntil := s.time.grid + s.portWait m + s.frameNs m bytes.length }
    let s := (s.addPair MPORT_TX_FRAMES_LO MPORT_TX_FRAMES_HI 1 m).addPair MPORT_TX_BYTES_LO MPORT_TX_BYTES_HI (bytes.length + 4) m
    (s.emit (.frame m (wireBytes bytes)), true)
  else (s.addFld MPORT_TX_LINK_DROP 1 m, false)

end Sys2Proof.Machine
end

