-- ==== Sys2Proof/Machine/NetParse.lean ====
section
/-! DEFINITION. The parse chain of a received frame and the payloads of flows (R306, R313, R315, R316, R319, R320). -/

namespace Sys2Proof.Machine

/-- The byte at a place; 0 beyond the end. -/
def byteAt (bs : List Byte) (i : Nat) : Nat := (bs.getD i 0).toNat

/-- `n` bytes at a place, most significant first. -/
def beAt (bs : List Byte) (i n : Nat) : Nat := (List.range n).foldl (fun a k => a * 256 + byteAt bs (i + k)) 0

/-- The ones' complement sum of 16-bit words, the last one padded with a zero byte. -/
def onesSum (bs : List Byte) : Nat :=
  let n := ceilDiv bs.length 2
  let t := (List.range n).foldl (fun a k => a + beAt bs (2 * k) 2) 0
  let t := t % 2 ^ 16 + t / 2 ^ 16
  let t := t % 2 ^ 16 + t / 2 ^ 16
  t % 2 ^ 16 + t / 2 ^ 16

/-- A UDP datagram with the parts of the key of R313. -/
structure UdpFrame where
  vlanEn : Bool
  vlan : Nat
  ipv6 : Bool
  src : Nat
  dst : Nat
  dport : Nat
  payload : List Byte
  deriving DecidableEq, Repr

/-- Fate of a frame after stages 1 .. 4 of R306. -/
inductive Parsed where
  | host (reason : Nat)
  | headerError
  | udp (u : UdpFrame)
  deriving DecidableEq, Repr

/-- UDP inside an IP payload; a datagram without a whole UDP header takes the host path. -/
def parseUdp (vlanEn : Bool) (vlan : Nat) (ipv6 : Bool) (src dst : Nat) (ip : List Byte) : Parsed :=
  if ip.length < 8 then .host 3
  else
    .udp { vlanEn := vlanEn, vlan := vlan, ipv6 := ipv6, src := src, dst := dst, dport := beAt ip 2 2
           payload := (ip.take (max 8 (min ip.length (beAt ip 4 2)))).drop 8 }

/-- Stages 3 and 4 on an IPv4 packet. -/
def parseIp4 (vlanEn : Bool) (vlan : Nat) (b : List Byte) : Parsed :=
  let ihl := 4 * (byteAt b 0 % 16)
  let total := beAt b 2 2
  if byteAt b 0 / 16 ≠ 4 ∨ ihl < 20 ∨ b.length < ihl ∨ onesSum (b.take ihl) ≠ 0xFFFF ∨ b.length < total ∨ total < ihl then .headerError
  else if ihl ≠ 20 ∨ beAt b 6 2 % 2 ^ 14 ≠ 0 ∨ byteAt b 9 ≠ 17 then .host 3
  else parseUdp vlanEn vlan false (beAt b 12 4) (beAt b 16 4) ((b.take total).drop 20)

/-- Stages 3 and 4 on an IPv6 packet. -/
def parseIp6 (vlanEn : Bool) (vlan : Nat) (b : List Byte) : Parsed :=
  let len := beAt b 4 2
  if byteAt b 0 / 16 ≠ 6 ∨ b.length < 40 + len then .headerError
  else if byteAt b 6 ≠ 17 then .host 3
  else parseUdp vlanEn vlan true (beAt b 8 16) (beAt b 24 16) ((b.take (40 + len)).drop 40)

/-- Stages 1 .. 4 of R306 on a frame from its destination address. -/
def parseFrame (b : List Byte) : Parsed :=
  let ty := beAt b 12 2
  let tagged := ty == 0x8100
  let ty2 := beAt b 16 2
  if ty = 0x88A8 ∨ (tagged = true ∧ (ty2 = 0x8100 ∨ ty2 = 0x88A8)) then .host 6
  else
    let vlan := if tagged then beAt b 14 2 % 2 ^ 12 else 0
    let ty := if tagged then ty2 else ty
    let body := b.drop (if tagged then 18 else 14)
    if ty = 0x0800 then parseIp4 tagged vlan body
    else if ty = 0x86DD then parseIp6 tagged vlan body
    else .host 3

/-! ### RTP (R315) -/

structure Rtp where
  seq : Nat
  time : Nat
  pt : Nat
  ssrc : Nat
  body : List Byte
  deriving DecidableEq, Repr

/-- An RTP packet of version 2 without contributing sources; a header extension is skipped. -/
def parseRtp (b : List Byte) : Option Rtp :=
  let b0 := byteAt b 0
  let ext := bitAt b0 4
  let skip := if ext then 16 + 4 * beAt b 14 2 else 12
  if b0 / 64 ≠ 2 ∨ b0 % 16 ≠ 0 ∨ b.length < skip then none
  else some { seq := beAt b 2 2, time := beAt b 4 4, pt := byteAt b 1 % 128, ssrc := beAt b 8 4, body := b.drop skip }

/-- Timestamp t is newer than u (R315). -/
def rtpNewer (t u : Nat) : Bool :=
  let d := (t + 2 ^ 32 - u % 2 ^ 32) % 2 ^ 32
  decide (1 ≤ d ∧ d < 2 ^ 31)

/-! ### ST 2110-20 (R316) -/

/-- Bytes and pixels of a pixel group. -/
def pixelGroup (fmt : Nat) : Nat × Nat :=
  let b := fmtBits fmt
  if fmt444 fmt then (if b = 1 then (3, 1) else if b = 2 then (15, 4) else (9, 2))
  else (if b = 1 then (4, 2) else if b = 2 then (5, 2) else (6, 2))

/-- A sample row of a packet. -/
structure SampleRow where
  field2 : Bool
  row : Nat
  offset : Nat
  data : List Byte
  deriving DecidableEq, Repr

/-- The sample row headers, at most `n`: length, field and row, offset; the last one without the continuation bit. -/
def rowHeaders (b : List Byte) : Nat → Option (List (Nat × Bool × Nat × Nat))
  | 0 => none
  | n + 1 =>
    if b.length < 6 then none
    else
      let h := (beAt b 0 2, bitAt (beAt b 2 2) 15, beAt b 2 2 % 2 ^ 15, beAt b 4 2 % 2 ^ 15)
      if bitAt (beAt b 4 2) 15 then (rowHeaders (b.drop 6) n).map (h :: ·) else some [h]

/-- The bytes of the rows, in order. -/
def rowData (b : List Byte) : List (Nat × Bool × Nat × Nat) → List SampleRow
  | [] => []
  | (len, f2, row, ofs) :: hs => { field2 := f2, row := row, offset := ofs, data := b.take len } :: rowData (b.drop len) hs

/-- The rows of an ST 2110-20 payload, when every header meets R316. -/
def parseRows (fmt : Nat) (b : List Byte) : Option (List SampleRow) :=
  match rowHeaders (b.drop 2) 3 with
  | none => none
  | some hs =>
    let (size, pixels) := pixelGroup fmt
    let (w, h) := rasterSize (fmtRaster fmt)
    let lines := if fmtInterlaced fmt then h / 2 else h
    let body := b.drop (2 + 6 * hs.length)
    let good := hs.all (fun x =>
      decide (x.1 % size = 0 ∧ x.2.2.2 % pixels = 0 ∧ x.2.2.1 < lines ∧ x.2.2.2 + x.1 / size * pixels ≤ w))
    if good ∧ (hs.map (·.1)).sum ≤ body.length then some (rowData body hs) else none

/-- Groups of `n` bytes. -/
def chunks (n : Nat) (b : List Byte) : Nat → List (List Byte)
  | 0 => []
  | k + 1 => b.take n :: chunks n (b.drop n) k

/-- The samples of one pixel group, most significant first. -/
def groupSamples (fmt : Nat) (g : List Byte) : List Nat :=
  let d := if fmtBits fmt = 1 then 8 else if fmtBits fmt = 2 then 10 else 12
  let n := 8 * g.length / d
  let v := beNat g
  (List.range n).map (fun k => v / 2 ^ (8 * g.length - (k + 1) * d) % 2 ^ d)

/-- Samples of the components (Y, Cb, Cr or R, G, B) of a row's bytes. The order inside a group is that of RFC 4175:
Cb Y Cr Y; Cb Y Cr; R G B. PRESUMED, log 12. -/
def rowSamples (fmt : Nat) (b : List Byte) : List (List Nat) :=
  let (size, _) := pixelGroup fmt
  let all := (chunks size b (b.length / size)).flatMap (groupSamples fmt)
  let pick := fun (step : Nat) (ofs : List Nat) =>
    (List.range (all.length / step)).flatMap (fun k => ofs.map (fun o => all.getD (step * k + o) 0))
  if fmt444 fmt then (if fmtRgb fmt then [pick 3 [0], pick 3 [1], pick 3 [2]] else [pick 3 [1], pick 3 [0], pick 3 [2]])
  else [pick 4 [1, 3], pick 4 [0], pick 4 [2]]

/-! ### ST 2110-30, ST 2110-31 (R319) -/

/-- The value and side bits of one audio sample: L24, L16, or an AM824 word with B, U, V and C in its first byte.
The place of those bits is PRESUMED, log 12. -/
def audioSample (aes : Bool) (b : List Byte) : Nat × Nat × Nat :=
  if aes then
    let l := byteAt b 0
    (24, beAt b 1 3, bit (bitAt l 0) + 2 * bit (bitAt l 1) + 4 * bit (bitAt l 2) + 8 * bit (bitAt l 5))
  else (8 * b.length, beNat b, 0)

/-! ### ST 2110-40 (R320) -/

/-- Ten-bit words of a bit stream from a bit place. -/
def tenBits (b : List Byte) (start n : Nat) : List (BitVec 10) :=
  (List.range n).map (fun k => BitVec.ofNat 10 (beAt b ((start + 10 * k) / 8) 3 /
    2 ^ (14 - (start + 10 * k) % 8)))

/-- The ancillary packets of an RFC 8331 payload, at most `n`. The layout is PRESUMED, log 12. -/
def parseAnc (field2 : Bool) (b : List Byte) : Nat → List AncPacket
  | 0 => []
  | n + 1 =>
    if b.length < 8 then []
    else
      let h := beAt b 0 4
      let head := tenBits b 32 3
      let dc := (head.getD 2 0).toNat % 256
      let udw := tenBits b 62 dc
      let size := 4 + ceilDiv (10 * (dc + 4)) 32 * 4
      { did := head.getD 0 0, sdid := head.getD 1 0, dc := head.getD 2 0, udw := udw
        checksum := (tenBits b (62 + 10 * dc) 1).getD 0 0
        hanc := false, stream := bitAt h 31, link := 0, field2 := field2, line := bitField h 20 11
        audio := .none } :: parseAnc field2 (b.drop size) n

end Sys2Proof.Machine
end

