-- ==== Sys2Proof/Machine/Timing.lean ====
section
/-! DEFINITION. The timing core: references, their selection, lock and holdover, and steps of device time
(R102 .. R119, R121 .. R123). -/

namespace Sys2Proof.Machine
open Reg

namespace Tm
def FREERUN : Nat := 0
def ACQUIRING : Nat := 1
def LOCKED : Nat := 2
def HOLDOVER : Nat := 3
end Tm

def State.refRun (s : State) (r : Nat) : RefRun := Tab.get {} s.time.refs r

def State.setRefRun (s : State) (r : Nat) (x : RefRun) : State :=
  { s with time := { s.time with refs := Tab.set {} s.time.refs r x } }

/-- References that carry the time of day (R104). -/
def timeBearing (r : Nat) : Bool := r == 1 || r == 2 || r == 10

/-- Reference r carries frequency only (R104). -/
def State.freqOnly (s : State) (r : Nat) : Bool := decide (3 ≤ r ∧ r ≤ 6) && s.fld REF_MODE r == 3

/-- The input of reference r is in use (R104, R106). -/
def State.refOn (s : State) (r : Nat) : Bool :=
  s.fldOn REF_PRIO r &&
  (if r = 1 ∨ r = 2 ∨ r = 7 ∨ r = 8 then s.fldOn REF_INPUT r
   else if 3 ≤ r ∧ r ≤ 6 then s.fldOn REF_MODE r && (s.fld REF_MODE r != 1 || s.fldOn REF_PULSE_RATE r)
   else true)

/-! ### States of the core (R111, R113, R114) -/

def State.setTm (s : State) (st : Nat) : State :=
  ((s.setFld TM_STATE st).setFld TM_LOCKED (bit (st == Tm.LOCKED))).setFld TM_HOLDOVER (bit (st == Tm.HOLDOVER))

/-- Seconds in HOLDOVER, counted in the 1 ms ticks of R103. -/
def State.holdoverSeconds (s : State) : Nat :=
  if s.fldOn TM_HOLDOVER then (s.time.grid / 1000000 * 1000000 - s.time.holdoverFrom) / 10 ^ 9 else 0

def State.outOfSpec (s : State) : State :=
  (s.setFld TM_OOS 1).raise Ev.HOLDOVER_OOS { data := s.holdoverSeconds }

/-- The core enters HOLDOVER, or stays in it. -/
def State.enterHoldover (s : State) (last : Nat) : State :=
  if s.fldOn TM_HOLDOVER then s
  else
    let s := s.setTm Tm.HOLDOVER
    let s := { s with time := { s.time with holdoverFrom := s.time.grid, goodFrom := none, badFrom := none, slewLeft := 0 } }
    let s := s.raise Ev.HOLDOVER_ENTER { data := last }
    s.when (s.fld TM_OOS_S == 0) State.outOfSpec

/-- The core enters ACQUIRING; leaving HOLDOVER clears OOS. -/
def State.acquire (s : State) : State :=
  let s := (s.setTm Tm.ACQUIRING).setFld TM_OOS 0
  { s with time := { s.time with goodFrom := none, badFrom := none } }

/-! ### Steps (R115 .. R119) -/

/-- Frame timing of everything on the planes after a step d. -/
def State.rephase (s : State) (d : Int) : State :=
  let now := s.nowInt
  let st := s.store
  let s := { s with store := { st with
    dsts := st.dsts.map (fun (e : Nat × DstRun) => (e.1, { e.2 with
      obj := e.2.obj.stepped d now (s.lineTime (s.fld DST_PLANE e.1)) }))
    cmps := st.cmps.map (fun (e : Nat × CmpRun) => (e.1, { e.2 with
      obj := e.2.obj.stepped d now (s.lineTime ((s.cfg.cmp e.1).plane - 1)) })) } }
  let s := s.upTo 8 (fun s p =>
    let r := s.planeRun p
    s.setPlaneRun p { r with lastK := 0, start := r.start + d, offsetWas := r.offsetUsed, notBefore := now + s.lineTime p })
  let s := { s with probe := { s.probe with
    cores := s.probe.cores.map (fun (e : Nat × CoreRun) => (e.1, { e.2 with
      lastTrig := if s.fld PROBE_TRIG_PLANE e.1 = 0 then e.2.lastTrig else s.trigMark e.1 (s.trigFrame e.1) })) } }
  let s := s.renumber d
  { s with time := { s.time with audioStepFade := 96, lastSample := s.sampleIndex, lastBlock := ceilDiv s.sampleIndex 48 } }

/-- Device time steps; the ticks do not (R103, R119). -/
def State.stepTime (s : State) (d : Int) : State :=
  let s := { s with time := { s.time with stepSum := s.time.stepSum + d } }
  let s := { s with cway := { s.cway with step := s.cway.step + d, stepAt := s.now } }
  s.rephase d

/-- Device time is set for the first time (R115). -/
def State.setTime (s : State) (d : Int) : State :=
  let s := (s.stepTime d).setFld TM_SET 1
  s.raise Ev.TIME_SET { data := s.now }

def State.pendingStep (s : State) : Int := signed 64 (s.pair TM_STEP_PEND_LO TM_STEP_PEND_HI)

def State.setPending (s : State) (d : Int) : State := s.setPair TM_STEP_PEND_LO TM_STEP_PEND_HI (unsignedOf 64 d)

/-- No step is pending any more (R117). -/
def State.clearPending (s : State) : State :=
  let s := (s.setFld TM_STEP_PENDING 0).setPending 0
  { s with time := { s.time with hostPending := false, lastReported := 0 } }

def State.reportPending (s : State) : State :=
  let d := s.pendingStep
  let s := { s with time := { s.time with lastReported := d } }
  s.raise Ev.TIME_STEP_REFUSED { data := unsignedOf 64 d }

/-- An offset above the threshold is refused and waits (R116). The pending offset of a time that a host has written stays
as it is: the written value goes on at the rate of device time. -/
def State.refuseStep (s : State) (d : Int) (host : Bool) (last : Nat) : State :=
  let s := (s.enterHoldover last).setFld TM_STEP_PENDING 1
  let s := s.setPending d
  { s with time := { s.time with hostPending := host, slewLeft := 0 } }.reportPending

/-- An offset is removed by slewing (R109, R110). -/
def State.slewable (s : State) (d : Int) : Bool :=
  d == 0 || (decide (d.natAbs ≤ s.fld TM_JUMP_NS) && s.fldOn TM_SLEW_PPB)

/-- An offset of d ns is to be slewed away. -/
def State.slewBy (s : State) (d : Int) : State := { s with time := { s.time with slewLeft := d * 2 ^ 48 } }

/-- The pending step is applied, and the core steers toward the pending reference (R118); after a time that a host has
written it does so where a reference is selected. -/
def State.applyPending (s : State) : State :=
  let d := s.pendingStep
  let s := s.clearPending.stepTime d
  let s := s.when (s.fldOn TM_SEL_REF) State.acquire
  s.raise Ev.TIME_STEPPED { data := unsignedOf 63 d + 2 ^ 63 }

/-! ### Selection (R107 .. R109) -/

/-- The key by which references rank, lowest first. -/
def State.refKey (s : State) (r : Nat) : Nat :=
  let q := s.fld REF_QUAL_EFF r
  ((if q = 0 then 256 else q) * 16 + s.fld REF_PRIO r) * 16 + r

/-- Reference r takes part in the ranking. -/
def State.ranks (s : State) (r : Nat) : Bool :=
  s.fld REF_RSTATE r == 2 && s.fldOn REF_PRIO r && !(r == 10 && s.time.peerOnCauseway)

def allRefs : List Nat := (List.range 10).map (· + 1)

/-- The best ranked reference, left out those that `ok` excludes. -/
def State.bestRef (s : State) (ok : Nat → Bool) : Option Nat :=
  match allRefs.filter (fun r => s.ranks r && ok r) with
  | [] => none
  | r :: rs => some (rs.foldl (fun b x => if s.refKey x < s.refKey b then x else b) r)

def State.selRef (s : State) : Nat := s.fld TM_SEL_REF

/-! ### What is measured of a reference (R104, R109)

An offset is what is to be added to device time, as R118 has it. -/

/-- The format that SDI lane l has accepted, and the grid time of its latest frame start (R281). -/
def State.laneFormat (s : State) (l : Nat) : Option Nat :=
  (Tab.get ({} : RxRun) s.sdi.rx l).accepted.map (·.fmt)

def State.laneEdge (s : State) (l : Nat) : Option Int :=
  (Tab.get ({} : RxRun) s.sdi.rx l).frameAt.map (fun (t : Nat) => (t : Int))

/-- Grid time of the latest block start of AES3 input i. -/
def State.aesEdge (s : State) (i : Nat) : Option Int :=
  let x : AesIn := Tab.get {} s.aes.ins i
  if x.frames.isSome then some x.lastZ else none

/-- The grid of a phase-bearing reference: instants per `den` seconds. -/
def State.refGrid (s : State) (r : Nat) : Nat × Nat :=
  if r = 7 then
    match s.laneFormat (s.fld REF_INPUT 7 - 1) with
    | some f => rateFrac (fmtRate f)
    | none => (0, 1)
  else if r = 8 then (250, 1)
  else if r = 9 then (48000, 1)
  else if s.fld REF_MODE r = 1 then rateFrac (s.fld REF_PULSE_RATE r)
  else (1, 1)

/-- The distance from t to the nearest of the instants floor(k × den × 10^9 ÷ num). -/
def gridOffset (g : Nat × Nat) (t : Int) : Int :=
  if g.1 = 0 then 0
  else
    let f (k : Nat) : Int := (k * g.2 * 10 ^ 9 / g.1 : Nat)
    let k := ((t.toNat + 1) * g.1 - 1) / (g.2 * 10 ^ 9)
    if t - f k ≤ f (k + 1) - t then f k - t else f (k + 1) - t

/-- The offset of device time from reference r (R109). -/
def State.refOffset (s : State) (r : Nat) : Int :=
  let x := s.refRun r
  if timeBearing r then x.lead - s.time.stepSum
  else if s.freqOnly r then 0
  else
    match x.edge with
    | some e => gridOffset (s.refGrid r) (e + s.time.stepSum)
    | none => 0

/-- The native bandwidth of reference r in mHz (R104). -/
def State.nativeBw (s : State) (r : Nat) : Nat :=
  if r = 1 ∨ r = 2 then 100
  else if 3 ≤ r ∧ r ≤ 6 then (if s.fld REF_MODE r = 2 then 10 else if s.fld REF_MODE r = 3 then 10000 else 1000)
  else if r = 7 ∨ r = 8 then 1000
  else 10000

/-- The loop bandwidth of reference r in mHz (R112). -/
def State.bandwidth (s : State) (r : Nat) : Nat :=
  let b := (s.refRun r).bw
  if b = 0 then s.nativeBw r else 10 ^ (b - 1)

/-- SEL_REF and SELECTED name a reference, or none. -/
def State.nameRef (s : State) (r : Nat) : State :=
  let s := (s.setFld TM_SEL_REF r).each allRefs (fun s x => s.setFld REF_SELECTED (bit (x == r)) x)
  s.each allRefs (fun s x => s.setRefRun x { s.refRun x with aboveFrom := none })

/-- A reference is selected: its offset is slewed, set, or refused (R109, R115, R116). -/
def State.selectRef (s : State) (r : Nat) : State :=
  let old := s.selRef
  let s := s.clearPending.nameRef r
  let s := s.setRefRun r { s.refRun r with lostAt := none, noHold := false }
  let d := s.refOffset r
  let switched := fun (s : State) => s.raise Ev.REF_SWITCH { data := old + 16 * r }
  if ¬s.fldOn TM_SET ∧ timeBearing r = true then ((switched s).acquire.slewBy 0).setTime d
  else if s.freqOnly r || s.slewable d then (switched s).acquire.slewBy d
  else s.refuseStep d false old

/-- The selected reference is given up for the best other one, or for HOLDOVER (R108); a step that a host has asked for
waits on (R117). -/
def State.reselect (s : State) : State :=
  let old := s.selRef
  let s := s.raise Ev.REF_LOST { data := old }
  match s.bestRef (· != old) with
  | some r => s.selectRef r
  | none => ((s.when (!s.time.hostPending) State.clearPending).nameRef 0).enterHoldover old

/-- A loss is detected on reference r (R106, R108, R117). -/
def State.loseRef (s : State) (r : Nat) : State :=
  let s := (s.setFld REF_RSTATE 0 r).setFld REF_LOST_SEEN 1 r
  let s := s.setRefRun r { s.refRun r with aboveFrom := none }
  if s.selRef = r then
    let s := s.when (s.fldOn TM_STEP_PENDING && !s.time.hostPending) State.clearPending
    let s := { s with time := { s.time with goodFrom := none, badFrom := none } }
    s.setRefRun r { s.refRun r with lostAt := some s.time.grid }
  else s

/-- A field of reference r has been written: a reference whose PRIO is 0 or whose input is off is ABSENT (R106). PRIO = 0
on the selected reference is a loss with no hold-off: the switch follows at the next tick (R108). -/
def State.refWritten (s : State) (r : Nat) : State :=
  let sel := s.selRef == r && (s.refRun r).lostAt.isNone
  if s.refOn r ∨ (s.fld REF_RSTATE r = 0 ∧ sel = false) then
    if s.selRef = r ∧ s.fld REF_PRIO r = 0 then s.setRefRun r { s.refRun r with noHold := true } else s
  else
    let s := s.loseRef r
    s.setRefRun r { s.refRun r with noHold := !s.fldOn REF_PRIO r }

/-! ### Rows -/

/-- A 32-bit read of TM_NOW_LO (R102). -/
def State.readNowLo (s : State) : State × Nat := (s.setFld TM_NOW_HI (s.now / 2 ^ 32), s.now % 2 ^ 32)

/-- A reference whose return ends a loss of the selected reference within its hold-off steers again, and nothing else
results but REF_GLITCH (R108). DESIGN CHOICE, log 78: the same where it was the pending reference; its step has been
cleared, and the core stays in HOLDOVER with SEL_REF naming it. -/
def State.refPresent (s : State) (r : Nat) : State :=
  let s := s.when (r == 9) (fun s => s.setFld APLANE_WCLK_PRESENT 1)
  let served := decide (r = 1 ∨ r = 2) && s.conductorHalted
  if r = 0 ∨ s.refOn r = false ∨ s.fld REF_RSTATE r ≠ 0 ∨ served then s
  else
    let x := s.refRun r
    let s := (s.setFld REF_RSTATE 1 r).setRefRun r { x with validFrom := s.time.grid, lostAt := none, noHold := false }
    match x.lostAt with
    | some t =>
      if s.selRef = r then s.raise Ev.REF_GLITCH { data := Config.glitchData r ((s.time.grid - t) / 1000) % 2 ^ 64 } else s
    | none => s

def execRefSignalPresent (r : Fin 11) (s : State) : Host.Outcome State Fault Refusal := .next (s.refPresent r)

def execRefQualified (r : Fin 11) (s : State) : Host.Outcome State Fault Refusal :=
  if r.val ≠ 0 ∧ s.fld REF_RSTATE r = 1 ∧ (s.refRun r).validFrom + 2000000000 ≤ s.time.grid then
    .next ((s.setFld REF_RSTATE 2 r).setRefRun r { s.refRun r with validFrom := s.time.grid })
  else .next s

/-- An expected edge is missing when none came, or one more than 1 µs from its instant (R106). -/
def edgeMissing (d : Option Int) : Bool :=
  match d with
  | none => true
  | some x => decide (1000 < x.natAbs)

/-- The last n expected edges are missing. -/
def edgesMissing (n : Nat) (late : List (Option Int)) : Bool := decide (n ≤ late.length) && (late.take n).all edgeMissing

/-- 2^k seconds in ns, for an interval of 2^lo .. 2^1 s; none for one that the clock does not accept (R105). -/
def interval? (lo k : Int) : Option Nat :=
  if lo ≤ k ∧ k ≤ 1 then some (if 0 ≤ k then 10 ^ 9 * 2 ^ k.toNat else 10 ^ 9 / 2 ^ (-k).toNat) else none

/-- What is seen of reference r is a loss (R105, R106). -/
def State.lossSeen (s : State) (r : Nat) (c : RefFault) : Bool :=
  let ptp := decide (r = 1 ∨ r = 2)
  let pin := decide (3 ≤ r ∧ r ≤ 6)
  let mode := s.fld REF_MODE r
  match c with
  | .noAnnounce ns k => ptp && (match interval? (-3) k with | some t => decide (3 * t ≤ ns) | none => false)
  | .noSync ns k => ptp && (match interval? (-7) k with | some t => decide (3 * t ≤ ns) | none => false)
  | .edges late => (((pin && mode == 1) || r == 7) && edgesMissing 3 late) || (r == 8 && edgesMissing 2 late)
  | .leftFormat => r == 7
  | .noEdge ns =>
    (pin && mode == 2 && decide (1010000000 ≤ ns)) || (((pin && mode == 3) || r == 9) && decide (1000 ≤ ns))
  | .noBiphase => r == 8
  | .linkDown => r == 10
  | .noTime ns => r == 10 && decide (10000000 ≤ ns)

/-- REF_LOSS: a loss is detected on a reference. Without edges WCLK_PRESENT reads 0. -/
def execRefLoss (loss : LostRef) (s : State) : Host.Outcome State Fault Refusal :=
  let r := loss.ref.val
  if s.lossSeen r loss.seen then
    let s := s.when (r == 9) (fun s => s.setFld APLANE_WCLK_PRESENT 0)
    .next (if r = 0 ∨ s.fld REF_RSTATE r = 0 then s else s.loseRef r)
  else .next s

/-- The hold-off of the selected reference has passed (R108). -/
def State.holdoffPassed (s : State) : State :=
  let x := s.refRun s.selRef
  match (if s.selRef = 0 then none else x.lostAt) with
  | none => s
  | some t =>
    s.when (s.expired t (if x.noHold then 1 else max 1 (s.fld TM_HOLDOFF_MS * 1000000)) 1000000) State.reselect

/-! ### The 1 ms tick (R104, R107, R109, R112, R113, R126) -/

/-- The measure of one reference is taken over. -/
def State.takeMeasure (s : State) (r : Nat) (m : Option RefMeasure) : State :=
  let x := { s.refRun r with bw := s.fld REF_BW r }
  let fromStep := fun (t : Int) => t - s.time.stepSum
  let x :=
    if r = 7 then { x with edge := (s.laneEdge (s.fld REF_INPUT 7 - 1)) }
    else if r = 8 then { x with edge := s.aesEdge (s.fld REF_INPUT 8 - 1) }
    else
      match m with
      | none => x
      | some y =>
        if r = 1 ∨ r = 2 then { x with lead := y.time - s.time.grid, quality := y.quality }
        else if r = 10 then x
        else { x with edge := some (fromStep y.time), freqPpb := y.freqPpb }
  let s := s.setRefRun r x
  let q := if r = 1 ∨ r = 2 then x.quality else if r = 10 then x.quality + 1 else s.fld REF_QUAL r
  (s.setFld REF_QUAL_EFF (saturate 8 q) r).setFld REF_PHASE_ERR (unsignedOf 32 (satSigned 32 (s.refOffset r))) r

/-- The measurements of a tick are taken over. -/
def State.takeMeasures (s : State) (m : TimeMeasure) : State :=
  let s := s.each allRefs (fun s r => s.takeMeasure r (m.refs.find? (fun x => x.ref == r)))
  let s := match (if s.fld APLANE_SRC = 2 then (s.refRun 9).edge else none) with
    | some e => s.audioEdge e 1
    | none => s
  match (if s.selRef = 1 ∨ s.selRef = 2 then m.utcOffset else none) with
  | some u => s.setFld TM_UTC_OFS u.toNat
  | none => s

/-- Device time is steered by the selected reference: it is neither lost nor pending (R108, R116). -/
def State.steered (s : State) : Bool :=
  s.selRef != 0 && (s.refRun s.selRef).lostAt.isNone && !s.fldOn TM_STEP_PENDING && !s.fldOn TM_HOLDOVER

/-- The loop takes a correction from the selected reference: its filter is a free value (log 4). -/
def State.loopStep (s : State) : State :=
  if s.steered then
    let e := if s.freqOnly s.selRef then (s.refRun s.selRef).freqPpb else s.refOffset s.selRef
    { s.advance with time := { s.time with loopFreq := Config.loopFreq (s.bandwidth s.selRef) e s.free } }
  else s

/-- The mean of the corrections not older than `span`. -/
def meanFreq (now span : Nat) (h : List (Nat × Int)) : Int :=
  let l := h.filter (fun e => decide (now ≤ e.1 + span))
  (l.map (·.2)).sum / (max 1 l.length : Nat)

/-- One day in ns. -/
def dayNs : Nat := 86400 * 10 ^ 9

/-- The mean change of the correction per day over a history, the newest entry first. -/
def meanAge (h : List (Nat × Int)) : Int :=
  match h.head?, h.getLast? with
  | some a, some b => (a.2 - b.2) * dayNs / (max 1 (a.1 - b.1) : Nat)
  | _, _ => 0

/-- F and A are learned while the core is LOCKED, as averages over the last 1,000 s and the last 7 days (R113). -/
def State.learn (s : State) : State :=
  if s.fld TM_STATE = Tm.LOCKED ∧ s.steered = true then
    let t := s.time
    let h := (t.grid, t.loopFreq) :: t.hist.filter (fun e => decide (t.grid ≤ e.1 + 7 * dayNs))
    let s := { s with time := { t with hist := h } }
    if s.fldOn TM_HO_MANUAL then s
    else
      (s.setFld TM_HO_FREQ (unsignedOf 32 (satSigned 32 (meanFreq t.grid (1000 * 10 ^ 9) h)))).setFld TM_HO_AGE
        (unsignedOf 32 (satSigned 32 (meanAge h)))
  else s

/-- The error of the selected reference lies within the bounds of R111. -/
def State.withinBounds (s : State) : Bool :=
  if s.freqOnly s.selRef then decide ((s.refRun s.selRef).freqPpb.natAbs ≤ 10)
  else decide ((s.refOffset s.selRef).natAbs ≤ 250)

/-- Since when the error has stayed within, or outside, the bounds. -/
def State.trackLock (s : State) : State :=
  let t := s.time
  if s.selRef = 0 ∨ (s.refRun s.selRef).lostAt.isSome ∨ s.fldOn TM_STEP_PENDING then s
  else if s.withinBounds then
    { s with time := { t with goodFrom := some (t.goodFrom.getD t.grid), badFrom := none } }
  else { s with time := { t with goodFrom := none, badFrom := some (t.badFrom.getD t.grid) } }

/-- The pending step follows its measurement (R116). DESIGN CHOICE, log 78: that of a time which a host has written is not
measured at the ticks, and stays. -/
def State.trackPending (s : State) : State :=
  if s.fldOn TM_STEP_PENDING ∧ s.time.hostPending = false then
    let d := s.refOffset s.selRef
    let s := s.setPending d
    s.when (decide (s.fld TM_JUMP_NS < (d - s.time.lastReported).natAbs)) State.reportPending
  else s

/-- References that rank above the selected one, and since when (R108). -/
def State.trackAbove (s : State) : State :=
  s.each allRefs (fun s r =>
    let above := r != s.selRef && s.ranks r && decide (s.refKey r < s.refKey s.selRef)
    let x := s.refRun r
    s.setRefRun r { x with aboveFrom := if above then some (x.aboveFrom.getD s.time.grid) else none })

/-- Once per 1 ms tick the core measures and ranks (R107). -/
def State.selectionTick (s : State) (m : TimeMeasure) : State :=
  let n := s.time.grid / 1000000
  if n ≤ s.time.lastTick then s
  else
    let s := ({ s with time := { s.time with lastTick := n } }).takeMeasures m
    if s.selRef = 0 then
      match s.bestRef (fun _ => true) with
      | some r => s.selectRef r
      | none => s
    else s.trackPending.trackLock.trackAbove.loopStep.learn

/-- Reference r has ranked above the selected one for TM_WTR_S (R108). -/
def State.wtrPassed (s : State) (r : Nat) : Bool :=
  match (s.refRun r).aboveFrom with
  | some t => s.expired t (s.fld TM_WTR_S * 1000000000) 1000000
  | none => false

/-- A better reference has ranked above the selected one for TM_WTR_S (R108). -/
def State.revert (s : State) : State :=
  if s.fldOn TM_REVERTIVE ∧ s.selRef ≠ 0 then
    match s.bestRef s.wtrPassed with
    | some r => s.selectRef r
    | none => s
  else s

def execLockAcquired (s : State) : Host.Outcome State Fault Refusal :=
  match s.time.goodFrom with
  | some t =>
    if s.fld TM_STATE = Tm.ACQUIRING ∧ t + 5000000000 ≤ s.time.grid then
      .next ((s.setTm Tm.LOCKED).raise Ev.LOCK_ACQUIRED { data := s.selRef })
    else .next s
  | none => .next s

def execLockLost (s : State) : Host.Outcome State Fault Refusal :=
  match s.time.badFrom with
  | some t => if s.fld TM_STATE = Tm.LOCKED ∧ t + 1000000000 ≤ s.time.grid then .next s.acquire else .next s
  | none => .next s

/-- HOLDOVER has lasted TM_OOS_S (R114). -/
def State.holdoverOos (s : State) : State :=
  if s.fldOn TM_HOLDOVER ∧ ¬s.fldOn TM_OOS ∧ s.expired s.time.holdoverFrom (s.fld TM_OOS_S * 1000000000) 1000000 = true then
    s.outOfSpec
  else s

/-- TM_SET_GO is written (R115, R116). -/
def State.setGo (s : State) : State :=
  if s.selRef ≠ 0 ∧ timeBearing s.selRef = true then s
  else
    let v := s.pair TM_SET_LO TM_SET_HI
    let d : Int := (v : Int) - s.now
    if ¬s.fldOn TM_SET then s.setTime d
    else if s.slewable d then s.slewBy d
    else s.refuseStep d true s.selRef

/-- ACCEPT_STEP (R86, R118): its status and values. -/
def State.acceptStep (s : State) (want : Int) : State × Nat × Nat × Nat :=
  if ¬s.fldOn TM_STEP_PENDING then (s, St.NOTHING_PENDING, 0, 0)
  else
    let d := s.pendingStep
    if s.fld TM_JUMP_NS < (want - d).natAbs then (s, St.STALE, 0, 0)
    else let s := s.applyPending; (s, St.OK, unsignedOf 64 d, s.now)

/-! ### Audio plane (R122, R123) -/

/-- SRC or DARS_IN of the audio plane has been written: its clock goes on from the sample it has reached. -/
def State.audioSource (s old : State) : State :=
  let k := old.sampleIndex - 1
  let same := s.fld APLANE_SRC == old.fld APLANE_SRC && (s.fld APLANE_SRC != 3 || s.fld APLANE_DARS_IN == old.fld APLANE_DARS_IN)
  if same then s
  else
    let s := (s.setFld APLANE_A_LOCKED 0).setFld APLANE_A_HOLDOVER 0
    let s := s.setAud { idx := k, base := (old.sampleStart k - s.time.stepSum) * 2 ^ 32 }
    { s with time := { s.time with lastSample := s.sampleIndex, lastBlock := ceilDiv s.sampleIndex 48 } }

/-- WCLK_LOST: the plane's loop goes on at its last frequency. -/
def execWclkLost (s : State) : Host.Outcome State Fault Refusal :=
  let src := s.fld APLANE_SRC
  if src = 1 ∨ s.fldOn APLANE_A_HOLDOVER then .next s
  else
    let s := (s.setFld APLANE_A_LOCKED 0).setFld APLANE_A_HOLDOVER 1
    let s := s.when (src == 2) (fun s => s.setFld APLANE_WCLK_PRESENT 0)
    .next (s.raise Ev.WCLK_LOST { data := if src = 2 then 0 else 1 + s.fld APLANE_DARS_IN })

/-- AUDIO_PLANE_SOURCE_RETURN: the plane takes edges again, and slews back to their phase from the next one on. DESIGN
CHOICE, log 79: A_LOCKED shows the lock to an external source, and stays 0 while SRC is device time. -/
def execAudioPlaneSourceReturn (s : State) : Host.Outcome State Fault Refusal :=
  let src := s.fld APLANE_SRC
  if src = 1 then .next s
  else
    let s := ((s.setFld APLANE_A_LOCKED 1).setFld APLANE_A_HOLDOVER 0).when (src == 2) (fun s => s.setFld APLANE_WCLK_PRESENT 1)
    .next (s.setAud { s.time.aud with edge := none, back := true })

end Sys2Proof.Machine
end

