-- ==== Sys2Proof/Machine/MediaRx.lean ====
section
/-! DEFINITION. Receiving frames and flows (R304, R306, R307, R313 .. R322, R145 .. R148, R165). -/

namespace Sys2Proof.Machine
open Reg

/-! ### Lookup (R313) -/

def keyMatches (m : Nat) (u : UdpFrame) (ws : FlowWords) : Bool :=
  flowDir ws == 1 && flowPort ws == m && flowVlanEn ws == u.vlanEn && (!u.vlanEn || flowVlan ws == u.vlan) &&
    flowIpv6 ws == u.ipv6 && flowDstIp ws == u.dst && flowDstUdp ws == u.dport && (!flowSrcMatch ws || flowSrcIp ws == u.src)

/-- The receive context that a datagram on port m matches, one with SRC_MATCH = 1 first. -/
def State.lookup (s : State) (m : Nat) (u : UdpFrame) : Option (Nat × FlowRun) :=
  let hits := if s.gated 182 then [] else s.flowList.filter (fun e => keyMatches m u e.2.words)
  match hits.find? (fun e => flowSrcMatch e.2.words) with
  | some e => some e
  | none => hits.head?

/-! ### Accepted packets (R317, R322, R329) -/

/-- A packet of context f passes its checks: counters, gaps, and FLOW_LEG_UP. -/
def State.flowAccept (s : State) (f seq : Nat) : State :=
  match s.flow f with
  | none => s
  | some x =>
    let gap := (seq + 2 ^ 16 - x.lastSeq % 2 ^ 16) % 2 ^ 16
    let ahead := x.lastSeq == 0 || decide (gap < 2 ^ 15)
    let s := s.setFlow f (some { x with
      pkts := x.pkts + 1
      lost := if x.lastSeq ≠ 0 ∧ ahead = true then x.lost + gap else x.lost
      lastSeq := if ahead then seq + 1 else x.lastSeq
      down := false, last := s.now, lastGrid := s.time.grid })
    let n := flowObj x.words
    let s := s.when (flowType x.words == tyVideo || flowType x.words == tySdi) (fun s =>
      s.updSrc n (fun y => { y with lastPacket := s.time.grid + 1 }))
    s.when x.down (fun s => s.flowEvent Ev.FLOW_LEG_UP f x.words)

def State.flowBad (s : State) (f : Nat) : State := s.updFlow f (fun x => { x with bad := x.bad + 1 })
def State.flowDup (s : State) (f : Nat) : State := s.updFlow f (fun x => { x with dup := x.dup + 1 })
def State.flowLate (s : State) (f : Nat) : State := s.updFlow f (fun x => { x with late := x.late + 1 })

/-! ### The merge ring (R321) -/

/-- The extended number of a sequence number, nearest to the newest one. -/
def extendedSeq (newest : Option Nat) (seq : Nat) : Nat :=
  match newest with
  | none => 2 ^ 16 + seq
  | some e =>
    let d := (seq + 2 ^ 16 - e % 2 ^ 16) % 2 ^ 16
    if d < 2 ^ 15 then e + d else e + d - 2 ^ 16

/-- What the ring makes of a packet: 0 taken, 1 a copy, 2 too old. -/
def StreamRun.merge (x : StreamRun) (seq : Nat) : Nat × StreamRun :=
  let e := extendedSeq x.newest seq
  let top := match x.newest with | some n => max n e | none => e
  if e + 63 < top then (2, x)
  else if Tab.get 0 x.ring (e % 64) = e + 1 then (1, x)
  else (0, { x with ring := Tab.set 0 x.ring (e % 64) (e + 1), newest := some top })

/-- A packet of context f goes through the merge ring of its stream; false where it is dropped. -/
def State.mergePacket (s : State) (f seq : Nat) (ws : FlowWords) : State × Bool :=
  let k := streamKey f ws
  match (s.stream k).merge seq with
  | (0, x) => (s.setStream k x, true)
  | (1, _) => (s.flowDup f, false)
  | (_, _) => (s.flowLate f, false)

/-! ### ST 2110-20 (R145, R147, R148) -/

/-- Samples written into a row of a plane. -/
def putRow (p : Plane) (r x : Nat) (vs : List Nat) : Plane :=
  let i := r * p.w + x
  { p with data := p.data.take i ++ vs ++ p.data.drop (i + vs.length) }

/-- Components of a slot's L0 with the sizes of its format; a component of another size starts at 0. -/
def sizedPic (fmt store : Nat) (old : Pic) : Pic :=
  let (w, h) := rasterSize (fmtRaster fmt)
  { comps := (List.range 3).map (fun i =>
      let cw := if store = 1 ∧ i ≠ 0 then w / 2 else w
      let c := old.comp i
      if c.w = cw ∧ c.h = h ∧ c.data.length = cw * h then c else Plane.flat cw h 0) }

/-- One sample row written into L0 as R133 stores it: its stored row, its first unit and its units. -/
def writeRow (fmt store : Nat) (l0 : Pic) (x : SampleRow) : Pic × Nat × Nat × Nat :=
  let (_, h) := rasterSize (fmtRaster fmt)
  let r := x.row + (if x.field2 ∧ fmtInterlaced fmt then h / 2 else 0)
  let comps := (rowSamples fmt x.data).map (fun vs => vs.map (storeSample fmt store))
  let evens := fun (vs : List Nat) => (vs.zipIdx.filter (fun e => (x.offset + e.2) % 2 == 0)).map (·.1)
  let pic := l0.mapComps (fun i c =>
    let vs := comps.getD i []
    if i = 0 then putRow c r x.offset vs
    else if store = 1 then (if fmt444 fmt then putRow c r (ceilDiv x.offset 2) (evens vs) else putRow c r (x.offset / 2) vs)
    else if fmt444 fmt then putRow c r x.offset vs
    else putRow c r x.offset (vs.flatMap (fun v => [v, v])))
  let n := (comps.getD 0 []).length
  if store = 1 then (pic, r, x.offset / 2, n / 2) else (pic, r, x.offset, n)

/-- Hash sums over some units of a row. -/
def unitSums (store : Nat) (p : Pic) (r u n : Nat) (sel : Nat → Bool) (acc : Nat × Nat) : Nat × Nat :=
  let us := unitsPerLine store (p.comp 0).w
  (List.range n).foldl (fun (acc : Nat × Nat) k =>
    if sel (u + k) then (mod64 (acc.1 + mix64 (mod64 (unitValue store p r (u + k) + (r * us + u + k) * 2 ^ 40))), acc.2 + 1)
    else acc) acc

/-- A packet's rows written to a slot, with its pixel groups counted (R147, R148, R195). -/
def Slot.writeRows (x : Slot) (ladder : Nat) (rows : List SampleRow) : Slot :=
  let (size, _) := pixelGroup x.fmt
  let (_, h) := rasterSize (fmtRaster x.fmt)
  rows.foldl (fun x row =>
    let l0 := sizedPic x.fmt x.store (x.levels.getD 0 { comps := [] })
    let (l0, r, u, n) := writeRow x.fmt x.store l0 row
    let a := unitSums x.store l0 r u n (fun _ => true) (x.hashSum, x.hashN)
    let b := unitSums x.store l0 r u n (fun v => inHeartbeat x.store x.fmt h x.region r v) (x.hbSum, x.hbN)
    { x with
      levels := [l0], ladder := ladder, groups := x.groups + row.data.length / size
      hashSum := a.1, hashN := a.2, hbSum := b.1, hbN := b.2 }) x

/-- The rows of a packet whose coverage bit is set already: its samples are written, nothing is counted (R147). -/
def Slot.rewriteRows (x : Slot) (rows : List SampleRow) : Slot :=
  rows.foldl (fun x row =>
    { x with levels := [(writeRow x.fmt x.store (sizedPic x.fmt x.store (x.levels.getD 0 { comps := [] })) row).1] }) x

/-- Pixel groups of a frame. -/
def frameGroups (fmt : Nat) : Nat :=
  let (w, h) := rasterSize (fmtRaster fmt)
  w * h / (pixelGroup fmt).2

/-- A packet is written to a slot of source n: the first copy sets its coverage bit (R148); a second is written
again and adds nothing to the count. -/
def State.coverPacket (s : State) (f : Nat) (ref : SlotRef) (leg seq : Nat) (rows : List SampleRow) : State :=
  match s.slotAt ref with
  | none => s
  | some x =>
    let legBit := if leg = 1 then flagLegA else if leg = 2 then flagLegB else 0
    if x.covered.contains seq then
      (s.flowDup f).updSlot ref (fun x => { x.rewriteRows rows with flags := x.flags ||| legBit })
    else
      let y := x.writeRows (s.ringLadder ref) rows
      s.updSlot ref (fun _ => { y with
        covered := seq :: x.covered, flags := x.flags ||| legBit, ended := x.ended || y.groups == frameGroups x.fmt })

/-- The slot of the newest frame of source n, while it is written, carries the RTP timestamp t (R145). -/
def State.stampSlot (s : State) (n t : Nat) : State :=
  let q := (s.src n).seq
  match (s.slotsOf n).find? (fun x => x.slot.seq == q) with
  | some x => s.updSlot x.ref (fun y => if y.state = 1 then { y with rtp := t } else y)
  | none => s

/-- A slot opens for the frame with RTP timestamp t of a source that is PRESENT from here on (R145, R317). -/
def State.openFlowSlot (s : State) (n t : Nat) : State :=
  let s := s.when (s.srcState n != 2) (fun s => s.becomePresent n)
  let s := (s.openSlot n s.now).updSrc n (fun x => { x with rtp := some t, rtp2 := none })
  s.stampSlot n t

/-- A frame of a KIND 2 source starts (R145, R317); a format that is refused makes the source WRONG_FORMAT. -/
def State.startFrame (s : State) (n f t : Nat) : State :=
  let x := s.src n
  if x.accepted ∧ x.fmt = f then s.openFlowSlot n t
  else if s.flowFormatOk n f then (s.takeFormat n f).openFlowSlot n t
  else s.setFld SRC_STATE 3 n

/-- A packet of a source that is PRESENT finds its slot by its RTP timestamp (R147). -/
def State.placePacket (s : State) (f n leg seq t : Nat) (rows : List SampleRow) : State :=
  match (s.slotsOf n).find? (fun x => x.slot.rtp == t || x.slot.rtp2 == some t) with
  | some x =>
    if x.slot.state = 1 then s.coverPacket f x.ref leg seq rows
    else (s.addFld SRC_LATE_PKT 1 n).flowLate f
  | none =>
    let run := s.src n
    if run.rtp = some t ∨ run.rtp2 = some t then s
    else (s.addFld SRC_LATE_PKT 1 n).flowLate f

/-- The timestamp is newer than that of every frame started. -/
def SrcRun.newer (x : SrcRun) (t : Nat) : Bool :=
  match x.rtp2, x.rtp with
  | some u, _ => rtpNewer t u
  | none, some u => rtpNewer t u
  | none, none => true

/-- An accepted ST 2110-20 packet (R145, R147, R148, R317). -/
def State.videoPacket (s : State) (f : Nat) (ws : FlowWords) (r : Rtp) (rows : List SampleRow) : State :=
  let n := flowObj ws
  let st := s.srcState n
  let t := r.time
  let leg := flowLeg ws
  if st = 0 ∨ st = 3 ∨ s.ingestHeld n = true then s
  else if st = 1 then
    let s := s.startFrame n (flowFmt ws) t
    if s.srcState n = 2 then s.placePacket f n leg r.seq t rows else s
  else
    let x := s.src n
    if x.newer t then
      let second := fmtInterlaced x.fmt && rows.any (·.field2) && x.rtp2.isNone && x.rtp.isSome
      if second then
        let s := s.updSrc n (fun x => { x with rtp2 := some t })
        let s := match (s.slotsOf n).find? (fun y => y.slot.seq == x.seq && some y.slot.rtp == x.rtp) with
          | some y => s.updSlot y.ref (fun z => { z with rtp2 := some t })
          | none => s
        s.placePacket f n leg r.seq t rows
      else
        let s := s.startFrame n (flowFmt ws) t
        if s.srcState n = 2 then s.placePacket f n leg r.seq t rows else s
    else s.placePacket f n leg r.seq t rows

/-! ### Audio and ancillary data (R319, R320, R361) -/

/-- The samples of an audio packet are placed on the pool (R361). -/
def State.audioPacket (s : State) (ws : FlowWords) (r : Rtp) : State :=
  let n := flowObj ws
  let chs := flowChannels ws
  let size := flowSampleBytes ws
  let span := 63 * flowSamples ws
  s.upTo (flowSamples ws) (fun s i => s.upTo chs (fun s c =>
    let (bits, v, side) := audioSample (flowType ws == tyAes) (slice ((i * chs + c) * size) size r.body)
    s.writeFlowSample n (flowPool ws + c) span (r.time + i) { v := poolValue bits v, side := side }))

/-- SEQ of the slot that ancillary packets with a timestamp belong to (R320): the open slot of it, or the next slot. -/
def State.flowAncSeq (s : State) (n t : Nat) : Nat :=
  if s.srcState n ≠ 2 then 0
  else match (s.slotsOf n).find? (fun x => x.slot.state == 1 && (x.slot.rtp == t || x.slot.rtp2 == some t)) with
    | some x => x.slot.seq
    | none => nextSeq (s.src n).seq

/-- The packets of an ST 2110-40 payload (R320). -/
def State.ancPacketsOf (s : State) (ws : FlowWords) (r : Rtp) : State :=
  let n := flowObj ws
  let seq := s.flowAncSeq n r.time
  let field2 := bitField (byteAt r.body 5) 6 2 == 3
  s.each ((parseAnc field2 (r.body.drop 8) (byteAt r.body 4)).filter (·.good)) (fun s p => (s.ancTake n seq p).1)

/-! ### Delivery (R306 stage 8, R315) -/

/-- The checks of R315 that depend on the context. -/
def rtpFits (ws : FlowWords) (r : Rtp) : Bool :=
  (!flowPtChk ws || r.pt == flowPt ws) && (!flowSsrcChk ws || r.ssrc == flowSsrc ws)

/-- A datagram reaches context f. -/
def State.deliverFlow (s : State) (f : Nat) (ws : FlowWords) (u : UdpFrame) : State :=
  match parseRtp u.payload with
  | none => s.flowBad f
  | some r =>
    if ¬rtpFits ws r then s.flowBad f
    else if flowType ws = tyVideo then
      match parseRows (flowFmt ws) r.body with
      | none => s.flowBad f
      | some rows => (s.flowAccept f r.seq).videoPacket f ws r rows
    else if flowIsAudio ws then
      if r.body.length ≠ flowChannels ws * flowSamples ws * flowSampleBytes ws then s.flowBad f
      else
        let (s, taken) := (s.flowAccept f r.seq).mergePacket f r.seq ws
        if taken then s.audioPacket ws r else s
    else if flowType ws = tyAnc then
      let (s, taken) := (s.flowAccept f r.seq).mergePacket f r.seq ws
      if taken then s.ancPacketsOf ws r else s
    else
      let s := s.flowAccept f r.seq
      let i := 256 + flowObj ws
      let s := s.when (!(s.rx i).locked) (fun s => s.rxAcquire i [])
      (s.mergePacket f r.seq ws).1

/-- Stage 7: the lookup, with the reason that a miss carries to the host path (R306, R307). -/
def State.lookupFrame (s : State) (m rxTime : Nat) (bytes : List Byte) (u : UdpFrame) (short : Bool) : State :=
  match s.lookup m u with
  | some (f, x) => (s.addFld MPORT_RX_FLOW 1 m).deliverFlow f x.words u
  | none =>
    if short then s.hostPath m 1 rxTime bytes
    else if s.fldOn MPORT_HP_LONG m then s.hostPath m 2 rxTime bytes
    else s.addFld MPORT_RX_NOFLOW 1 m

/-- The MAC address of port m; none where it has no unicast address (R304, R332). -/
def State.portMac (s : State) (m : Nat) : Nat := s.fld MPORT_MAC_LO m + 2 ^ 32 * s.fld MPORT_MAC_HI m

/-- A frame is addressed to the port. -/
def State.addressed (s : State) (m : Nat) (b : List Byte) : Bool :=
  bitAt (byteAt b 0) 0 || (s.portMac m != 0 && beAt b 0 6 == s.portMac m)

/-- FEC counts of a frame on a port that has FEC (R302); FEC_UNCORR comes at most once per second (R330). -/
def State.countFec (s : State) (m : Nat) (f : NetFrame) : State :=
  if s.portFec m = false then s else
  let s := (s.addFld MPORT_RX_FEC_CORR f.fecCorr m).addFld MPORT_RX_FEC_UNCORR f.fecBad m
  let x := s.portRun m
  if f.fecBad ≠ 0 ∧ (x.lastFec = 0 ∨ x.lastFec - 1 + 10 ^ 9 ≤ s.time.grid) then
    (s.setPortRun m { x with lastFec := s.time.grid + 1 }).raise Ev.FEC_UNCORR
      { index := m, data := s.fld MPORT_RX_FEC_UNCORR m, dest := s.ownerList (oriPort m) }
  else s

def State.shortQueue (s : State) (i : Nat) : List ShortFrame := Tab.get [] s.media.short i

def State.setShortQueue (s : State) (i : Nat) (q : List ShortFrame) : State :=
  { s with media := { s.media with short := Tab.set [] s.media.short i q } }

/-- The PTP instances bound to port m answer an event message with a Delay_Req, by multicast or unicast, which the MAC
timestamps in its turn (R105, R328). When one is sent is a free value (log 80). -/
def State.delayReqs (s : State) (m : Nat) : State :=
  s.each [1, 2] (fun s r =>
    if s.fld REF_INPUT r = m + 1 ∧ s.refOn r = true ∧ s.conductorHalted = false ∧ Config.sendsDelayReq s.free = true then
      (s.advance.emit (.delayReq m r (s.fld REF_DOMAIN r) (s.fldOn REF_DREQ_UC r))).addFld MPORT_PTP_TS 1 m
    else s.advance)

/-- An accepted frame goes down the parse chain (R306). -/
def State.parseChain (s : State) (m : Nat) (bytes : List Byte) : State :=
  match parseFrame bytes with
  | .host reason => s.hostPath m reason s.now bytes
  | .headerError => s.addFld MPORT_RX_HDR_ERR 1 m
  | .udp u =>
    if (u.dport = 319 ∨ u.dport = 320) ∧ s.portPtp m = true then
      s.when (u.dport == 319) (fun s => (s.addFld MPORT_PTP_TS 1 m).delayReqs m)
    else if bytes.length + 4 < 256 then
      let q := s.shortQueue (m / 4)
      if 1024 ≤ q.length then s.addFld MPORT_RX_SHORT_DROP 1 m
      else s.setShortQueue (m / 4) (q ++ [{ port := m, bytes := bytes, rxTime := s.now }])
    else s.lookupFrame m s.now bytes u false

/-- A frame arrives at port m (R304, R306). In the safe state it is dropped (R463). -/
def execMediaFrameReceive (m : Fin 64) (frame : NetFrame) (s : State) : Host.Outcome State Fault Refusal :=
  let m := m.val
  if ¬s.portOn m ∨ ¬s.fldOn MPORT_LINK_UP m then .next s
  else
    let b := frame.bytes
    let len := b.length + 4
    let s := (s.addPair MPORT_RX_FRAMES_LO MPORT_RX_FRAMES_HI 1 m).addPair MPORT_RX_BYTES_LO MPORT_RX_BYTES_HI len m
    let s := s.countFec m frame
    .next (
      if s.safe then s
      else if frame.fcsOk = false ∨ (s.portFec m = true ∧ frame.fecBad ≠ 0) then s.addFld MPORT_RX_FCS_ERR 1 m
      else if len < 64 then s.addFld MPORT_RX_RUNT 1 m
      else if s.fld MPORT_MAXFRAME m < len then s.addFld MPORT_RX_OVERSIZE 1 m
      else if beAt b 12 2 = 0x8808 then s.addFld MPORT_RX_PAUSE 1 m
      else if ¬s.addressed m b then s.addFld MPORT_RX_NOFLOW 1 m
      else s.parseChain m b)

/-- The short path of island i looks up its oldest frame: 2,000,000 frames per second, so no two within 500 ns (R307). -/
def execShortPathLookup (i : Fin 16) (s : State) : Host.Outcome State Fault Refusal :=
  match s.shortQueue i with
  | [] => .next s
  | x :: rest =>
    let last := Tab.get 0 s.media.shortAt i
    if last ≠ 0 ∧ s.time.grid + 1 < last + 500 then .next s
    else
      let s := s.setShortQueue i rest
      let s := { s with media := { s.media with shortAt := Tab.set 0 s.media.shortAt i (s.time.grid + 1) } }
      match parseFrame x.bytes with
      | .udp u => .next (s.lookupFrame x.port x.rxTime x.bytes u true)
      | _ => .next s

/-! ### Loss and deadlines (R148, R165, R317) -/

/-- No video context of a KIND 2 or KIND 3 source has delivered an accepted packet for 2 ms (R317). -/
def execNetLoss (n : Fin 1024) (s : State) : Host.Outcome State Fault Refusal :=
  let k := s.srcKind n
  let x := s.src n
  let up := (k = 2 ∧ s.srcState n = 2) ∨ (k = 3 ∧ (s.rx (256 + n)).locked = true)
  if up ∧ x.lastPacket + 2000000 ≤ s.time.grid + 1 then
    let seq := match s.writing n true with | r :: _ => r.seq | [] => 0
    let s := (s.becomeAbsent n true).setRx (256 + n) (s.rx (256 + n)).blank
    .next (s.raise Ev.NET_LOSS { index := n, data := seq, dest := s.ownerList (oriSrc n) })
  else .next s

/-- MERGE_FR in use: at most 16 x (depth - 2) (R165). -/
def State.mergeFr (s : State) (n : Nat) : Nat := min (s.fld SRC_MERGE_FR n) (16 * ((s.cfg.ring n).depth - 2))

/-- The close deadline of a slot (R148). -/
def State.closeDeadline (s : State) (n : Nat) (x : Slot) : Nat :=
  let p := periodNs (fmtRate x.fmt)
  x.tStart + p + s.mergeFr n * p / 16

/-- Slots of a KIND 2 source that are short of coverage at their deadline close DAMAGED (R148). -/
def execCloseDeadline (n : Fin 1024) (s : State) : Host.Outcome State Fault Refusal :=
  if s.srcKind n = 2 then
    .next (s.each (s.writing n true) (fun s ref =>
      match s.slotAt ref with
      | some x =>
        if s.closeDeadline n x ≤ s.now then
          (s.updSlot ref (fun y => { y with flags := y.flags ||| flagIncomplete })).closeSlot ref
        else s
      | none => s))
  else .next s

end Sys2Proof.Machine
end

