-- ==== Sys2Proof/Machine/SdiTx.lean ====
section
/-! DEFINITION. Serial video transmitters: lanes of a destination, and the ancillary packets of a frame
(R276, R292 .. R297, R301). -/

namespace Sys2Proof.Machine
open Reg

/-! ### Lanes of a destination (R220, R276, R294, R301) -/

/-- TX lanes that DST_SDI names. -/
def State.txLanes (s : State) (d : Nat) : List Nat :=
  let l := s.fld DST_TX_LANE d
  let link := s.fld DST_LINK d
  if link = 0 then [] else if link ≤ 2 then [l] else [l, l + 1, l + 2, l + 3]

/-- The lanes of destination d are bound to it. -/
def State.bindTx (s : State) (d : Nat) : State :=
  let lanes := s.txLanes d
  (List.range lanes.length).foldl (fun s k =>
    let l := lanes.getD k 0
    let s := ((s.setFld SDITX_DST d l).setFld SDITX_BOUND 1 l).setFld SDITX_LINKNUM k l
    s.setFld LANE_IN_USE 1 (256 + l)) s

/-- The lanes fall to the idle level (R294). -/
def State.idleTx (s : State) (d : Nat) : State :=
  s.each (s.txLanes d) (fun s l => (s.setFld SDITX_ACTIVE 0 l).setFld SDITX_RATE_OUT 0 l)

/-- The lanes are no longer bound. -/
def State.unbindTx (s : State) (d : Nat) : State :=
  (s.idleTx d).each (s.txLanes d) (fun s l =>
    let s := ((s.setFld SDITX_DST 0 l).setFld SDITX_BOUND 0 l).setFld SDITX_LINKNUM 0 l
    s.setFld LANE_IN_USE 0 (256 + l))

/-! ### Ancillary packets of a frame (R296, R297) -/

/-- The next words as `n` user data words, three to a word. -/
def unpackUdw : List Nat → Nat → List (BitVec 10)
  | [], _ => []
  | w :: rest, n =>
    ((List.range 3).map (fun k => BitVec.ofNat 10 (bitField w (10 * k) 10))).take n ++ unpackUdw rest (n - 3)

/-- The ten-bit form of a packet of queue words (R392), at a place. -/
def packetOf (ws : List Nat) (line : Nat) (hanc : Bool) : AncPacket :=
  let w := wordAt ws 0
  let did := withParity (bitField w 0 8)
  let sdid := withParity (bitField w 8 8)
  let dc := withParity (bitField w 16 8)
  let udw := unpackUdw (ws.drop 3) (bitField w 16 8)
  { did := BitVec.ofNat 10 did, sdid := BitVec.ofNat 10 sdid, dc := BitVec.ofNat 10 dc, udw := udw
    checksum := BitVec.ofNat 10 (ancChecksum ([did, sdid, dc] ++ udw.map (·.toNat)))
    hanc := hanc, stream := false, link := 0, field2 := false, line := line, audio := .none }

/-- Packets in queue words: WORDS of the first word of each gives its length. -/
def splitPackets (ws : List Nat) : Nat → List (List Nat)
  | 0 => []
  | n + 1 =>
    match ws with
    | [] => []
    | w :: _ =>
      let k := bitField w 24 8
      if k = 0 then [] else ws.take k :: splitPackets (ws.drop k) n

/-- Packets placed in the lines of a frame. -/
structure AncPlan where
  inUse : Tab Nat := []
  placed : List AncPacket := []
  drops : Nat := 0
  deriving DecidableEq, Repr

/-- Ten-bit words that a packet takes in a line. -/
def ancLength (p : AncPacket) : Nat := 7 + p.udw.length

/-- A packet goes to the first of some lines that has room, or is dropped. -/
def AncPlan.put (a : AncPlan) (fmt : Nat) (p : AncPacket) (hanc : Bool) (lines : List Nat) : AncPlan :=
  let key := fun (l : Nat) => 2 * l + bit hanc
  match lines.find? (fun l => decide (Tab.get 0 a.inUse (key l) + ancLength p ≤ Config.lineRoom fmt l hanc)) with
  | some l =>
    { a with
      inUse := Tab.set 0 a.inUse (key l) (Tab.get 0 a.inUse (key l) + ancLength p)
      placed := a.placed ++ [{ p with line := l, hanc := hanc, link := 0 }] }
  | none => { a with drops := a.drops + 1 }

/-- Insertion lines of a field, or of the frame for progressive output. -/
def fieldLines (fmt : Nat) (field2 : Bool) : List Nat :=
  let rs := insertionRanges (fmtRaster fmt) (fmtInterlaced fmt)
  match rs[if field2 then 1 else 0]? with
  | some r => insertionLines (fmtRaster fmt) (fmtInterlaced fmt) r
  | none => match rs with
    | r :: _ => insertionLines (fmtRaster fmt) (fmtInterlaced fmt) r
    | [] => []

/-- Every insertion line of the frame. -/
def frameLines (fmt : Nat) : List Nat :=
  (insertionRanges (fmtRaster fmt) (fmtInterlaced fmt)).flatMap (insertionLines (fmtRaster fmt) (fmtInterlaced fmt))

/-- A passthrough packet (R296); `fmt` has the raster whose lines the link carries. -/
def AncPlan.pass (a : AncPlan) (fmt : Nat) (p : AncPacket) : AncPlan :=
  let field := fieldLines fmt p.field2
  if p.hanc then
    if 1 ≤ p.line ∧ p.line ≤ rasterLines (fmtRaster fmt) then
      a.put fmt p true (p.line :: field.filter (fun l => decide (p.line < l)))
    else { a with drops := a.drops + 1 }
  else if isInsertionLine (fmtRaster fmt) (fmtInterlaced fmt) p.line then
    a.put fmt p false (p.line :: (frameLines fmt).filter (fun l => decide (p.line < l) && (fieldLines fmt p.field2).contains l))
  else a.put fmt p false field

/-- Packets of an ANC_INSERT: at its line, or in the first free one (R86, R297). -/
def AncPlan.insert (a : AncPlan) (fmt : Nat) (x : AncInsert) : AncPlan :=
  let lines :=
    if x.line = 0 then frameLines fmt
    else
      let rs := insertionRanges (fmtRaster fmt) (fmtInterlaced fmt)
      x.line :: (match rs.find? (fun r => decide (r.1 ≤ x.line ∧ x.line ≤ r.2)) with
        | some r => (insertionLines (fmtRaster fmt) (fmtInterlaced fmt) r).filter (fun l => decide (x.line < l))
        | none => [])
  (splitPackets x.words x.words.length).foldl (fun a ws => a.put fmt (packetOf ws x.line false) false lines) a

/-- The slot of NSRC that the FRAME choice gives at an instant (R296). -/
def State.ancSlot (s : State) (n : Nat) (at' : Int) : Option SlotRef :=
  if n = 2047 then none else (newestOf (s.src n).seq (s.closedAt n at')).map (·.ref)

/-- The packets of a frame of destination d, chosen at its selection instant; inserts count down. -/
def State.ancFrame (s : State) (d : Nat) (at' : Int) : State × AncPlan :=
  let fmt := linkFmt (s.fld DST_LINK d) (s.dstFmt d)
  let slot := s.ancSlot (s.cfg.dst d).nsrc at'
  let pass := match slot with
    | some r =>
      if Tab.get none s.sdi.ancSent d = some r then []
      else match (s.ancAreas r.src).find? (fun (a : AncArea) => a.seq == r.seq) with
        | some a => a.packets
        | none => []
    | none => []
  let x := s.dstRun d
  let plan := pass.foldl (fun a p => a.pass fmt p) {}
  let plan := (x.inserts.filter (fun i => decide (0 < i.left))).foldl (fun a i => a.insert fmt i) plan
  let s := { s with sdi := { s.sdi with ancSent := Tab.set none s.sdi.ancSent d slot } }
  (s.setDstRun d { x with
    inserts := (x.inserts.map (fun i => { i with left := i.left - 1 })).filter (fun i => decide (0 < i.left)) }, plan)

/-- The PLL that feeds a TX lane at a rate, coded as RATE_DET: whole rates and rates divided by 1.001 (R334). -/
def txPll (l : Fin 256) (rate : Nat) : LanePll := .sdiTx ⟨l.val / 4, by omega⟩ (decide (3 ≤ rate ∧ rate % 2 = 1))

/-- All three taps of TX lane l are written as 0: no swing, which is the idle level (R341). -/
def State.noSwing (s : State) (l : Nat) : Bool :=
  s.fldOn LANE_MANUAL_EQ (256 + l) && s.fld LANE_C_PRE (256 + l) == 0 && s.fld LANE_C_MAIN (256 + l) == 0 &&
    s.fld LANE_C_POST (256 + l) == 0

/-- TX lane l can send at a rate: its PLL holds lock, it has calibrated, and it has swing (R336, R338, R341). -/
def State.laneSends (s : State) (l rate : Nat) : Bool :=
  if s.noSwing l then false else
  if h : l < 256 then !s.lane.unlocked.contains (txPll ⟨l, h⟩ rate) && (s.laneRun (256 + l)).calFrom == 0 else false

/-- A frame of destination d leaves on its lanes (R292 .. R296); `k` is its index, `irregular` that its predecessor's
length was changed. -/
def State.sdiTxFrame (s : State) (d k : Nat) (at' : Int) (irregular : Bool) : State :=
  let (s, plan) := s.ancFrame d at'
  let s := { s with media := { s.media with anc := Tab.set [] s.media.anc d plan.placed } }
  match s.txLanes d with
  | [] => s
  | l :: rest =>
    let s := s.each (l :: rest) (fun s l =>
      let rate := outputRateDet (s.dstFmt d) (s.fld DST_LINK d)
      s.when (s.laneSends l rate) (fun s =>
        let s := (s.setFld SDITX_ACTIVE 1 l).setFld SDITX_RATE_OUT rate l
        let s := s.addFld SDITX_FRAMES 1 l
        s.when irregular (fun s => s.addFld SDITX_IRREG_FRAMES 1 l)))
    let s := s.addFld SDITX_ANC_TX_DROP plan.drops l
    let s := s.each plan.placed (fun s p => s.emit (.ancTx d k p.line p.hanc (p.body ++ [p.checksum.toNat])))
    s.when irregular (fun s => s.raise Ev.SDITX_IRREG { index := l, data := d, dest := s.ownerList (oriDst d) })

end Sys2Proof.Machine
end

