-- ==== Sys2Proof/Machine/MediaTx.lean ====
section
/-! DEFINITION. Sending flows: headers, payloads, schedules and sequence numbers (R323 .. R327, R369, R373). -/

namespace Sys2Proof.Machine
open Reg

/-! ### Headers (R312, R323) -/

/-- Destination MAC of a send context; a multicast address gives it when both DMAC fields are 0. -/
def flowDestMac (ws : FlowWords) : Nat :=
  if flowDmac ws ≠ 0 then flowDmac ws
  else if flowIpv6 ws then 0x3333 * 2 ^ 32 + flowDstIp ws % 2 ^ 32
  else 0x01005E000000 + flowDstIp ws % 2 ^ 23

/-- UDP header over a payload; the checksum is computed on IPv6 only. -/
def udpBytes (ws : FlowWords) (body : List Byte) : List Byte :=
  let len := body.length + 8
  let head (sum : Nat) : List Byte := beBytes 2 (flowSrcUdp ws) ++ beBytes 2 (flowDstUdp ws) ++ beBytes 2 len ++ beBytes 2 sum
  if flowIpv6 ws then
    let pseudo := beBytes 16 (flowSrcIp ws) ++ beBytes 16 (flowDstIp ws) ++ beBytes 4 len ++ beBytes 4 17
    let c := 0xFFFF - onesSum (pseudo ++ head 0 ++ body)
    head (if c = 0 then 0xFFFF else c) ++ body
  else head 0 ++ body

/-- IP header over a UDP datagram. The IPv6 flow label is 0: log 13. -/
def ipBytes (ws : FlowWords) (udp : List Byte) : List Byte :=
  if flowIpv6 ws then
    beBytes 4 (6 * 2 ^ 28 + flowDscp ws * 2 ^ 22) ++ beBytes 2 udp.length ++ beBytes 1 17 ++ beBytes 1 (flowHops ws) ++
      beBytes 16 (flowSrcIp ws) ++ beBytes 16 (flowDstIp ws) ++ udp
  else
    let head (sum : Nat) : List Byte :=
      beBytes 1 0x45 ++ beBytes 1 (flowDscp ws * 4) ++ beBytes 2 (udp.length + 20) ++ beBytes 2 0 ++ beBytes 2 0x4000 ++
        beBytes 1 (flowHops ws) ++ beBytes 1 17 ++ beBytes 2 sum ++ beBytes 4 (flowSrcIp ws) ++ beBytes 4 (flowDstIp ws)
    head (0xFFFF - onesSum (head 0)) ++ udp

/-- A whole frame, without FCS. -/
def State.flowBytes (s : State) (ws : FlowWords) (rtp : List Byte) : List Byte :=
  let ip := ipBytes ws (udpBytes ws rtp)
  let tag := if flowVlanEn ws then beBytes 2 0x8100 ++ beBytes 2 (flowPcp ws * 2 ^ 13 + flowVlan ws) else []
  beBytes 6 (flowDestMac ws) ++ beBytes 6 (s.portMac (flowPort ws)) ++ tag ++
    beBytes 2 (if flowIpv6 ws then 0x86DD else 0x0800) ++ ip

/-- RTP header and body. The marker bit is a free value. -/
def State.rtpBytes (s : State) (ws : FlowWords) (seq time : Nat) (body : List Byte) : List Byte :=
  beBytes 1 0x80 ++ beBytes 1 (128 * bit (Config.rtpMarker s.free) + flowPt ws) ++ beBytes 2 seq ++ beBytes 4 time ++
    beBytes 4 (flowSsrc ws) ++ body

/-! ### ST 2110-20 payloads (R324) -/

/-- Bytes per active line of a format, in pixel groups. -/
def lineBytes (fmt : Nat) : Nat :=
  let (size, pixels) := pixelGroup fmt
  (rasterSize (fmtRaster fmt)).1 / pixels * size

/-- Lines of a field or frame. -/
def fieldHeight (fmt : Nat) : Nat := let (_, h) := rasterSize (fmtRaster fmt); if fmtInterlaced fmt then h / 2 else h

/-- Bytes of a GPM packet that starts at byte `pos` of a field: it reaches over at most two lines. -/
def gpmLength (payload bl total pos : Nat) : Nat :=
  min (min payload (total - pos)) ((pos / max 1 bl + 2) * bl - pos)

/-- Start of GPM packet j. -/
def gpmPos (payload bl total : Nat) : Nat → Nat
  | 0 => 0
  | j + 1 => let p := gpmPos payload bl total j; p + gpmLength payload bl total p

/-- GPM packets from a byte on, counted with a bound. -/
def gpmCount (payload bl total pos : Nat) : Nat → Nat
  | 0 => 0
  | n + 1 =>
    let k := gpmLength payload bl total pos
    if total ≤ pos ∨ k = 0 then 0 else 1 + gpmCount payload bl total (pos + k) n

/-- Packets per field or frame. -/
def videoPackets (ws : FlowWords) (fmt : Nat) : Nat :=
  let bl := lineBytes fmt
  let h := fieldHeight fmt
  let p := flowPayload ws
  if p = 0 then 0
  else if flowBpm ws then ceilDiv bl p * h
  else if p ≤ bl then ceilDiv (bl * h) p
  else gpmCount p bl (bl * h) 0 (bl * h)

/-- Where packet j starts in its field, and its bytes. -/
def videoCut (ws : FlowWords) (fmt j : Nat) : Nat × Nat :=
  let bl := lineBytes fmt
  let total := bl * fieldHeight fmt
  let p := flowPayload ws
  if flowBpm ws then
    let per := max 1 (ceilDiv bl p)
    let ofs := j % per * p
    (j / per * bl + ofs, min p (bl - ofs))
  else
    let pos := if p ≤ bl then j * p else gpmPos p bl total j
    (pos, gpmLength p bl total pos)

/-- The bytes of one pixel group. -/
def groupBytes (fmt : Nat) (vs : List Nat) : List Byte :=
  let d := if fmtBits fmt = 1 then 8 else if fmtBits fmt = 2 then 10 else 12
  beBytes (vs.length * d / 8) (vs.foldl (fun a v => a * 2 ^ d + v) 0)

/-- The bytes of a stored row of a picture, from pixel x, n pixels. -/
def rowBytes (fmt : Nat) (p : Pic) (r x n : Nat) : List Byte :=
  let (_, pixels) := pixelGroup fmt
  let y (c i : Nat) : Nat := (p.comp c).px (i : Nat) r
  (List.range (n / pixels)).flatMap (fun g =>
    let i := x + g * pixels
    groupBytes fmt (
      if fmt444 fmt then
        (List.range pixels).flatMap (fun k =>
          if fmtRgb fmt then [y 0 (i + k), y 1 (i + k), y 2 (i + k)] else [y 1 (i + k), y 0 (i + k), y 2 (i + k)])
      else [y 1 (i / 2), y 0 i, y 2 (i / 2), y 0 (i + 1)]))

/-- The payload of packet j of a field: extended sequence number, row headers and samples. -/
def videoBody (ws : FlowWords) (fmt : Nat) (p : Pic) (field2 : Bool) (seq j : Nat) : List Byte :=
  let bl := max 1 (lineBytes fmt)
  let (size, pixels) := pixelGroup fmt
  let (pos, len) := videoCut ws fmt j
  let first := min len (bl - pos % bl)
  let segs := (if first = 0 then [] else [(pos, first)]) ++ (if first < len then [(pos + first, len - first)] else [])
  let top := if field2 then fieldHeight fmt else 0
  let heads := segs.mapIdx (fun i (x : Nat × Nat) =>
    beBytes 2 x.2 ++ beBytes 2 (2 ^ 15 * bit field2 + x.1 / bl) ++
      beBytes 2 (2 ^ 15 * bit (decide (i + 1 < segs.length)) + x.1 % bl / size * pixels))
  let data := segs.map (fun (x : Nat × Nat) => rowBytes fmt p (top + x.1 / bl) (x.1 % bl / size * pixels) (x.2 / size * pixels))
  beBytes 2 (seq / 2 ^ 16) ++ heads.flatten ++ data.flatten

/-! ### ST 2110-40 payloads (R324) -/

/-- Ten-bit words as bytes, filled with zeros to a whole word. -/
def packTen (ws : List Nat) : List Byte :=
  let bits := 10 * ws.length
  let bytes := ceilDiv bits 32 * 4
  beBytes bytes (ws.foldl (fun a w => a * 2 ^ 10 + w) 0 * 2 ^ (8 * bytes - bits))

/-- An ancillary packet in an RFC 8331 payload. -/
def ancBytes (p : AncPacket) : List Byte :=
  beBytes 4 (2 ^ 31 * bit p.stream + p.line % 2 ^ 11 * 2 ^ 20 + 0xFFF * 2 ^ 8) ++
    packTen (p.body ++ [p.checksum.toNat])

/-- Packets of a frame in groups of at most `size` bytes, 255 packets and one field. -/
def ancGroups (size : Nat) (cur : List AncPacket) : List AncPacket → List (List AncPacket)
  | [] => if cur.isEmpty then [] else [cur]
  | p :: ps =>
    let inUse := 8 + (cur.map (fun q => (ancBytes q).length)).sum
    if cur.isEmpty ∨ (inUse + (ancBytes p).length ≤ size ∧ cur.length < 255 ∧ cur.all (fun q => q.field2 == p.field2)) then
      ancGroups size (cur ++ [p]) ps
    else cur :: ancGroups size [p] ps

/-- The payload of a group. -/
def ancBody (interlaced : Bool) (seq : Nat) (g : List AncPacket) : List Byte :=
  let data := (g.map ancBytes).flatten
  let f := if interlaced then (if g.any (·.field2) then 3 else 2) else 0
  beBytes 2 (seq / 2 ^ 16) ++ beBytes 2 data.length ++ beBytes 1 g.length ++ beBytes 3 (f * 2 ^ 22) ++ data

/-! ### Frames in hand (R323, R325, R327) -/

/-- ST 2022-6 packets of a frame: the lane rate over the frame rate, in 1,376 B. -/
def sdiPackets (fmt : Nat) : Nat :=
  let rate := match singleLinkType fmt with
    | 0 => 270000000
    | 1 => 1485000000
    | 2 => 2970000000
    | 3 => 5940000000
    | _ => 11880000000
  let bits :=
    if fmtRaster fmt = 1 then rate * 1001 / 30000 else rate / max 1 (rateNominal (fmtRate fmt))
  ceilDiv bits 11008

/-- The time of plane line j of a frame of period p, from its start. -/
def lineOffset (fmt p j : Nat) : Nat := j * p / max 1 (rasterLines (fmtRaster fmt))

/-- Start and span of the packets of a field of ST 2110-20 (R325), from the frame start. -/
def videoSpan (ws : FlowWords) (fmt p : Nat) (field2 : Bool) : Nat × Nat :=
  let r := fmtRaster fmt
  let il := fmtInterlaced fmt
  let start := if field2 then lineOffset fmt p (field2Line r) else 0
  let stop :=
    if flowShape ws = 1 then lineOffset fmt p (lineAfterActive r il field2)
    else if il ∧ ¬field2 then lineOffset fmt p (field2Line r)
    else p
  (start, stop - start)

/-- The number of a stream's first packet in a frame, given its packets: both legs get the same (R323). -/
def State.streamBase (s : State) (c : Nat) (ws : FlowWords) (k count : Nat) : State × Nat :=
  let key := streamKey c ws
  let x := s.stream key
  if x.started ∧ x.frameK = k + 1 then (s, x.base)
  else
    let base := if x.started then (x.base + x.count) % 2 ^ 32 else flowSsrc ws % 2 ^ 16
    (s.setStream key { x with started := true, frameK := k + 1, base := base, count := count }, base)

/-- The frame k of destination d, which starts at f and lasts p ns, is put in the hands of a send context. -/
def State.queueFlow (s : State) (c : Nat) (k : Nat) (f : Int) (p : Nat) : State :=
  match s.flow c with
  | none => s
  | some x =>
    let ws := x.words
    let fmt := s.dstFmt (flowObj ws)
    let ofs := signed 32 (s.fld MPORT_TX_OFS_NS (flowPort ws))
    let ty := flowType ws
    if flowIsAudio ws ∨ f < (x.from' : Int) then s
    else
      let anc := if ty = tyAnc then Tab.get [] s.media.anc (flowObj ws) else []
      let n := if ty = tyVideo then videoPackets ws fmt
        else if ty = tyAnc then (ancGroups (flowPayload ws) [] anc).length
        else sdiPackets fmt
      let fields := if ty = tyVideo ∧ fmtInterlaced fmt then [false, true] else [false]
      let (s, base) := s.streamBase c ws k (n * fields.length)
      let new := fields.map (fun f2 =>
        let (start, span) := if ty = tyVideo then videoSpan ws fmt p f2 else (0, if ty = tyAnc then 0 else p)
        { k := k, start := f + start, period := span, base := base + (if f2 then n else 0), count := n, ofs := ofs,
          field2 := f2, anc := anc : SendFrame })
      s.updFlow c (fun x => { x with queue := (x.queue.filter (fun q => decide (q.next < q.count))) ++ new })

/-- A frame of destination d starts: its send contexts take it in hand. -/
def State.queueSends (s : State) (d k : Nat) (f : Int) (p : Nat) : State :=
  s.each ((s.flowList.filter (fun e => flowDir e.2.words == 2 && flowObj e.2.words == d)).map (·.1))
    (fun s c => s.queueFlow c k f p)

/-- The picture of a recent frame of destination d; that of a CHASE frame in progress as it stands. -/
def State.sentPicture (s : State) (d k : Nat) : Pic :=
  let x := s.dstRun d
  if x.frameK = k ∧ s.fldOn DST_LIVE d then
    (if x.late then s.latePicture d else x.pic)
  else match (Tab.get [] s.media.sent d).find? (fun e => e.1 == k) with
    | some e => e.2
    | none => x.pic

/-- The picture of a frame that ends is kept for packets still to send. -/
def State.keepSent (s : State) (d : Nat) : State :=
  let x := s.dstRun d
  { s with media := { s.media with sent := Tab.set [] s.media.sent d (((x.frameK, x.pic) :: Tab.get [] s.media.sent d).take 2) } }

/-! ### Audio packets (R323, R325, R373) -/

/-- First audio packet of a context: the first packet time that starts at or after its apply instant (R327). -/
def State.firstAudioPacket (s : State) (x : FlowRun) : Nat := ceilDiv (s.sampleFrom x.from') (flowSamples x.words)

/-- The audio packet that a context sends next. -/
def State.nextAudioPacket (s : State) (x : FlowRun) : Nat := if x.next = 0 then s.firstAudioPacket x else x.next - 1

/-- The pool output samples of tick t; silence where they are no longer or not yet at hand. -/
def State.outputAt (s : State) (t ch : Nat) : Sample :=
  Tab.get {} (s.audio.outHist.getD (s.time.lastSample - 1 - t) []) ch

/-- The AM824 word of a subframe (R373): the first of its pair or not, its side bits passed or generated, at a position of
its block. -/
def am824 (x : Sample) (first pass : Bool) (pos : Nat) : List Byte :=
  let v := unsignedOf 24 (out24 x.v)
  let side := subSide pass x.side (bit (bitAt (generatedStatus.getD (pos / 8) 0) (pos % 8)))
  let vuc := wordAt side 0 + 2 * wordAt side 1 + 4 * wordAt side 2
  let par := (bitCount 24 v + side.sum) % 2
  beBytes 1 (vuc + 8 * par + 16 * bit first + 32 * bit (pos == 0)) ++ beBytes 3 v

/-- The words of the pairs at tick t from channel ch on, each with its side bits as an AES3 output has them (R373, R386). -/
def State.am824Pairs (s : State) (t : Nat) : (ch : Nat) → List SideRun → List Byte × List SideRun
  | _, [] => ([], [])
  | ch, r :: rs =>
    let a := s.outputAt t ch
    let b := s.outputAt t (ch + 1)
    let (r, pos) := r.next true t a b
    let (bytes, rs) := s.am824Pairs t (ch + 2) rs
    (am824 a true r.passA pos ++ am824 b false r.passB pos ++ bytes, r :: rs)

/-- The body of audio packet p of an ST 2110-30 context. -/
def State.audioBody (s : State) (ws : FlowWords) (p : Nat) : List Byte :=
  let n := flowSamples ws
  (List.range n).flatMap (fun i => (List.range (flowChannels ws)).flatMap (fun c =>
    let x := s.outputAt (p * n + i) (flowPool ws + c)
    if flowL16 ws then beBytes 2 (unsignedOf 16 (out16 x.v)) else beBytes 3 (unsignedOf 24 (out24 x.v))))

/-- The body of audio packet p of an ST 2110-31 context whose pairs stand at some status; at the first packet blocks lie
on the ticks that divide by 192. -/
def State.aesBody (s : State) (ws : FlowWords) (p : Nat) (sides : List SideRun) : List Byte × List SideRun :=
  let n := flowSamples ws
  let start := if sides.isEmpty then List.replicate (flowChannels ws / 2) { pos := p * n % 192 } else sides
  (List.range n).foldl (fun acc i =>
    let (bytes, sides) := s.am824Pairs (p * n + i) (flowPool ws) acc.2
    (acc.1 ++ bytes, sides)) ([], start)

/-! ### Host frames (R309) -/

/-- Due time of the packet after those that have left, where the context has one to come: of the frame in hand, of the next
frame of its destination, or the end of the next audio block. -/
def State.nextDue (s : State) (x : FlowRun) : Option Int :=
  let d := flowObj x.words
  if ¬s.fldOn DST_LIVE d then none
  else if flowIsAudio x.words then
    let n := flowSamples x.words
    some (s.sampleStart (s.nextAudioPacket x * n + n))
  else match x.queue.find? (fun f => decide (f.next < f.count)) with
    | some f => some (f.start + f.ofs + ((f.next * f.period / max 1 f.count : Nat) : Int))
    | none => (s.nextFrame (objDst d)).map (fun n => n.2.1 + signed 32 (s.fld MPORT_TX_OFS_NS (flowPort x.words)))

/-- A posted host frame ends before the next media packet of the port is due (R309). -/
def State.gapFor (s : State) (m len : Nat) : Bool :=
  s.flowList.all (fun e => flowDir e.2.words != 2 || flowPort e.2.words != m ||
    (match s.nextDue e.2 with
      | some t => decide (s.nowInt + s.portWait m + s.frameNs m len ≤ t)
      | none => true))

/-- The posted host frame at the head of the transmit ring is sent (R309). `answer` is what the host gave for its slot. A
LENGTH of 1 .. 13 is refused as the others outside the range are: DESIGN CHOICE, log 85. -/
def execHpTxSend (m : Fin 64) (answer : HostAnswer) (s : State) : Host.Outcome State Fault Refusal :=
  let head := s.fld MPORT_HP_TX_HEAD m
  let next := (head + 1) % 2 ^ s.fld MPORT_HP_TX_LOG2 m
  match s.owner (oriPort m) with
  | none => .next s
  | some p =>
    if ¬s.fldOn MPORT_HP_TX_EN m ∨ head = s.fld MPORT_HP_TX_TAIL m ∨ ¬s.maySend m ∨ ¬s.live p then .next s
    else
      match answer with
      | .error _ => .next ((s.setFld MPORT_HP_FAULT 1 m).setFld MPORT_HP_TX_HEAD next m)
      | .bytes slot =>
        let len := leNat (slot.take 4) % 2 ^ 14
        if len < 14 ∨ 2032 < len then .next ((s.setFld MPORT_HP_BAD 1 m).setFld MPORT_HP_TX_HEAD next m)
        else if ¬s.gapFor m len then .next s
        else
          let stamp := s.txStamp m
          let (s, sent) := s.sendFrame m (slice 16 len slot)
          let addr := s.hpBase MPORT_HP_TX_BASE_LO MPORT_HP_TX_BASE_HI m + 2048 * head + 8
          let s := s.when sent (fun s => (s.addFld MPORT_HP_TX_PKTS 1 m).when (bitAt (leNat (slot.take 4)) 16)
            (fun s => s.emit (.hostData p addr (leBytes 8 stamp))))
          .next (s.setFld MPORT_HP_TX_HEAD next m)

/-! ### SEND_PACKET_DUE -/

/-- The device sends the media packet that is due at an instant: it is active, the packet is not one of the device that was
active before, and not one of the peer that a decided handover makes active (R442, R452, R454). -/
def State.sendsDue (s : State) (due : Int) : Bool :=
  s.isActive && decide ((s.cway.sendFrom : Int) ≤ due) &&
    !(s.paired && s.cway.handovers.any (fun h => h.decided && decide ((h.t : Int) ≤ due)))

/-- A media packet of context f leaves, or is discarded while the link is down or the device is not active; a packet
more than `slack` ns after its due time is late (R305, R325, R452): 100 ns, 20 µs for audio, and for a burst of ST 2110-40
packets 1 ms, which is DESIGN CHOICE, log 85. -/
def State.sendMedia (s : State) (f : Nat) (ws : FlowWords) (due slack : Int) (rtp : List Byte) : State :=
  let m := flowPort ws
  let s := s.advance
  if ¬s.maySend m ∨ ¬s.sendsDue due then s
  else
    let late := decide (due + slack < s.nowInt + s.portWait m)
    let (s, sent) := s.sendFrame m (s.flowBytes ws rtp)
    if sent then
      let s := (s.addFld MPORT_TX_MEDIA 1 m).when late (fun s => s.addFld MPORT_TX_LATE 1 m)
      s.updFlow f (fun x => { x with pkts := x.pkts + 1, last := s.now, late := x.late + bit late })
    else s

/-- The next audio packet of a context. -/
def State.sendAudio (s : State) (f : Nat) (x : FlowRun) : State :=
  let ws := x.words
  let n := flowSamples ws
  let p := s.nextAudioPacket x
  if s.time.lastSample < p * n + n + 1 then s
  else
    let p := if p * n + n + 4800 < s.time.lastSample then (s.time.lastSample - n - 1) / n else p
    let key := streamKey f ws
    let st := s.stream key
    let s := if st.started then s
      else s.setStream key { st with started := true, frameK := p + 1, base := flowSsrc ws % 2 ^ 16 }
    let st := s.stream key
    let seq := (st.base + p + 1 - st.frameK) % 2 ^ 16
    let aes := flowType ws == tyAes
    let (body, sides) := if aes then s.aesBody ws p (if p = s.nextAudioPacket x then x.sides else []) else (s.audioBody ws p, [])
    let rtp := s.rtpBytes ws seq (p * n) body
    (s.updFlow f (fun x => { x with next := p + 2, sides := sides })).sendMedia f ws (s.sampleStart (p * n + n)) 20000 rtp

/-- The next packet of the frame in hand. -/
def State.sendVideo (s : State) (f : Nat) (x : FlowRun) : State :=
  let ws := x.words
  let d := flowObj ws
  let fmt := s.dstFmt d
  match x.queue with
  | [] => s
  | q :: rest =>
    if q.count ≤ q.next then s.updFlow f (fun x => { x with queue := rest })
    else
      let due : Int := q.start + q.ofs + ((q.next * q.period / max 1 q.count : Nat) : Int)
      if s.nowInt < due then s
      else
        let seq := (q.base + q.next) % 2 ^ 32
        let ty := flowType ws
        let time := if ty = tySdi then (due.toNat * 27 / 1000) % 2 ^ 32 else (q.start.toNat * 9 / 100000) % 2 ^ 32
        let body :=
          if ty = tyVideo then videoBody ws fmt (s.sentPicture d q.k) q.field2 seq q.next
          else if ty = tyAnc then ancBody (fmtInterlaced fmt) seq ((ancGroups (flowPayload ws) [] q.anc).getD q.next [])
          else (List.range 1384).map (fun i => Config.hbrmtByte s.free i)
        let rtp := s.rtpBytes ws (seq % 2 ^ 16) time body
        let s := s.updFlow f (fun x => { x with
          queue := if q.next + 1 < q.count then { q with next := q.next + 1 } :: rest else rest })
        s.sendMedia f ws due (if ty = tyAnc then 1000000 else 100) rtp

/-- The next packet of a send context is due (R325). A destination that is not LIVE sends nothing. -/
def execSendPacketDue (f : Fin 262144) (s : State) : Host.Outcome State Fault Refusal :=
  match s.flow f with
  | none => .next s
  | some x =>
    if flowDir x.words ≠ 2 then .next s
    else if ¬s.fldOn DST_LIVE (flowObj x.words) then .next (s.updFlow f (fun x => { x with queue := [], next := 0, sides := [] }))
    else if flowIsAudio x.words then .next (s.sendAudio f x)
    else .next (s.sendVideo f x)

end Sys2Proof.Machine
end

