-- ==== Sys2Proof/Machine/FlowAdmit.lean ====
section
/-! DEFINITION. What FLOW_ADD checks: the fields of a context, its key, its binding, and the admission of a port
(R307, R311 .. R314, R324, R326, R356, R373). -/

namespace Sys2Proof.Machine
open Reg

/-! ### Fields (R312) -/

/-- The bits that some field of a context word has. -/
def flowMask (i : Nat) : Nat := [0xFFF7FF73, 0xFF3FE7FF, 0x7F7F7FFF, 0x3FFF007F].getD i 0xFFFFFFFF

/-- A destination address is a multicast one. -/
def flowMulticast (ws : FlowWords) : Bool :=
  if flowIpv6 ws then bitField (wordAt ws 8) 24 8 == 0xFF else bitField (wordAt ws 8) 28 4 == 14

/-- Each word of a context with whether it breaks R312, given the format of a send context's destination. -/
def flowWordBad (ws : FlowWords) (fmt : Nat) (i : Nat) : Bool :=
  let w := wordAt ws i
  let send := flowDir ws == 2
  let ty := flowType ws
  let video := send && ty == tyVideo
  let audio := flowIsAudio ws
  let onlyIf := fun (c : Bool) (lo n : Nat) => !c && bitField w lo n != 0
  w &&& (0xFFFFFFFF - flowMask i) != 0 ||
  match i with
  | 0 => flowDir ws == 0 || flowDir ws == 3 || ty == 0 || decide (5 < ty) || flowLeg ws == 3 || (send && flowSrcMatch ws) ||
      (if flowVlanEn ws then flowVlan ws == 0 || flowVlan ws == 4095 else flowVlan ws != 0)
  | 1 => onlyIf send 13 3 || onlyIf send 16 6 || onlyIf send 24 8 || (send && flowHops ws == 0)
  | 2 => onlyIf audio 0 15 || onlyIf audio 16 7 || onlyIf audio 24 1 || onlyIf (ty == tyAudio) 25 1 || onlyIf video 26 2 ||
      onlyIf video 28 1 || onlyIf (!send) 29 1 || onlyIf (!send) 30 1 ||
      (audio && (flowChannels ws == 0 || decide (64 < flowChannels ws))) || (video && flowShape ws == 0) ||
      (send && ty == tyAes && flowChannels ws % 2 == 1)
  | 3 =>
      let sized := send && (ty == tyVideo || ty == tyAnc)
      onlyIf sized 16 14 || (sized && flowPayload ws == 0) ||
      (video && flowPayload ws % (if flowBpm ws then 180 else (pixelGroup fmt).1) != 0)
  | 5 =>
      let rx := !send && ty == tyVideo
      onlyIf rx 0 16 || (rx && flowFmt ws == 0) || onlyIf send 16 16
  | 6 => onlyIf send 0 32 || (send && flowDmac ws == 0 && !flowMulticast ws)
  | 7 => flowDstUdp ws == 0 || onlyIf send 16 16
  | 9 => !flowIpv6 ws && w != 0
  | 10 => !flowIpv6 ws && w != 0
  | 11 => !flowIpv6 ws && w != 0
  | 12 => !(send || flowSrcMatch ws) && w != 0
  | 13 => !(flowIpv6 ws && (send || flowSrcMatch ws)) && w != 0
  | 14 => !(flowIpv6 ws && (send || flowSrcMatch ws)) && w != 0
  | 15 => !(flowIpv6 ws && (send || flowSrcMatch ws)) && w != 0
  | _ => false

/-- The byte offset of the first word of a context that breaks R312. -/
def State.flowFieldBad (s : State) (ws : FlowWords) : Option Nat :=
  let fmt := if flowObj ws < 1024 then s.dstFmt (flowObj ws) else 0
  ((List.range 16).find? (flowWordBad ws fmt)).map (4 * ·)

/-- The object index of a context outside its range (R14). -/
def flowIndexBad (ws : FlowWords) : Option Nat :=
  let o := flowObj ws
  if flowDir ws = 1 then (if 1120 ≤ o ∧ o < 2047 then some o else none) else if 1024 ≤ o then some o else none

/-! ### Contexts, committed and staged (R311) -/

/-- One change on a table of contexts. -/
def flowStep (t : List (Nat × FlowWords)) : Change → List (Nat × FlowWords)
  | .flowAdd f ws => (f, ws) :: t.filter (fun e => e.1 != f)
  | .flowDel f _ => t.filter (fun e => e.1 != f)
  | _ => t

/-- Contexts that some take adds. -/
def Take.flowAdds (k : Take) : List (Nat × FlowWords) :=
  k.todo.filterMap (fun c => match c with | .flowAdd f ws => some (f, ws) | _ => none)

/-- The contexts that a command finds: those installed, those staged by takes that are not its own group, and the steps of
its own group in order. -/
def State.flowsSeen (s : State) (own : Take → Bool) : List (Nat × FlowWords) :=
  let t := s.flowList.map (fun e => (e.1, e.2.words)) ++ (s.take.takes.filter (fun k => !own k)).flatMap Take.flowAdds
  (s.take.takes.filter own).foldl (fun t k => k.todo.foldl flowStep t) t

/-- Two receive contexts have one key (R313). -/
def sameFlowKey (a b : FlowWords) : Bool :=
  flowDir a == 1 && flowDir b == 1 && flowPort a == flowPort b && flowVlanEn a == flowVlanEn b && flowVlan a == flowVlan b &&
  flowIpv6 a == flowIpv6 b && flowDstIp a == flowDstIp b && flowDstUdp a == flowDstUdp b && flowSrcMatch a == flowSrcMatch b &&
  (!flowSrcMatch a || flowSrcIp a == flowSrcIp b)

/-! ### Binding (R314, R356) -/

def videoType (ws : FlowWords) : Bool := flowType ws == tyVideo || flowType ws == tySdi

/-- A receive context may bind to its source. -/
def State.receiveBinds (s : State) (seen : List (Nat × FlowWords)) (ws : FlowWords) : Bool :=
  let n := flowObj ws
  let kind := s.srcKind n
  let legs := if s.fldOn SRC_PROT n then flowLeg ws != 0 else flowLeg ws == 0
  let alike := (seen.filter (fun e => flowDir e.2 == 1 && flowObj e.2 == n && flowLeg e.2 == flowLeg ws &&
    (if flowIsAudio ws then flowIsAudio e.2 else flowType e.2 == flowType ws))).length
  decide (n < 1024) && legs &&
  (if flowIsAudio ws then (kind == 2 || kind == 3 || kind == 4) && decide (alike < 16)
   else if flowType ws = tySdi then kind == 3 && alike == 0
   else kind == 2 && alike == 0)

/-- A send context may bind to its destination (R221, R314). -/
def State.sendBinds (s : State) (seen : List (Nat × FlowWords)) (ws : FlowWords) : Bool :=
  let d := flowObj ws
  let bound := seen.filter (fun e => flowDir e.2 == 2 && flowObj e.2 == d)
  let partners := bound.filter (fun e => flowLeg e.2 != 0 && flowLeg ws != 0 && streamKey 0 e.2 == streamKey 0 ws &&
    flowLeg e.2 != flowLeg ws)
  s.fldOn DST_ENABLE d && decide (bound.length < 8) &&
  partners.all (fun e => flowPort e.2 != flowPort ws && flowSsrc e.2 == flowSsrc ws && flowChannels e.2 == flowChannels ws)

/-- Window channels that the de-embedder of a source writes (R356): 32, of a quad-link source 128. -/
def State.deembedSpan (s : State) (n : Nat) : Nat :=
  match s.srcKind n with
  | 1 => 128
  | 3 => 32
  | _ => 0

/-- The channels of an audio receive context break R356. -/
def State.poolBarred (s : State) (seen : List (Nat × FlowWords)) (ws : FlowWords) : Bool :=
  let n := flowObj ws
  let p := flowPool ws
  let c := flowChannels ws
  let others := seen.any (fun e => flowDir e.2 == 1 && flowIsAudio e.2 && flowLeg e.2 == flowLeg ws &&
    rangesMeet p c (flowPool e.2) (flowChannels e.2))
  flowDir ws == 1 && flowIsAudio ws &&
  (!(decide (s.winBase n ≤ p ∧ p + c ≤ s.winBase n + s.winCount n)) || others ||
    rangesMeet p c (s.winBase n) (min (s.deembedSpan n) (s.winCount n)) ||
    s.aesInputsAll.any (fun ch => decide (p ≤ ch ∧ ch < p + c)))

/-- FMT of a video context breaks R317: it is not SRC_FMT where ANY = 0, or not that of the other leg. DETAIL is the
source: DEDUCED, log 85. -/
def State.fmtBarred (s : State) (seen : List (Nat × FlowWords)) (ws : FlowWords) : Bool :=
  let n := flowObj ws
  flowDir ws == 1 && flowType ws == tyVideo &&
    ((!s.fldOn SRC_ANY n && flowFmt ws != s.srcFmt n) ||
      seen.any (fun e => flowDir e.2 == 1 && flowType e.2 == tyVideo && flowObj e.2 == n && flowFmt e.2 != flowFmt ws))

/-! ### Admission of a port (R307, R324, R326) -/

/-- The largest frame of a context in bytes, its FCS included (R307, R324). -/
def largestFrame (ws : FlowWords) : Nat :=
  58 + (if flowVlanEn ws then 4 else 0) + (if flowIpv6 ws then 20 else 0) +
    (if flowIsAudio ws then flowChannels ws * flowSamples ws * flowSampleBytes ws
     else if flowType ws = tyVideo then 2 + 6 * (if flowBpm ws then 1 else 2) + flowPayload ws
     else if flowType ws = tyAnc then flowPayload ws
     else 1384)

/-- Packets per second of a context whose object has a format. -/
def flowRate (ws : FlowWords) (fmt : Nat) : Rat :=
  let r := rateFrac (fmtRate fmt)
  let frames : Rat := (r.1 : Rat) / (r.2 : Rat)
  if flowIsAudio ws then (if flowPt125 ws then 8000 else 1000)
  else if flowType ws = tyVideo then (videoPackets ws fmt * (if fmtInterlaced fmt then 2 else 1) : Nat) * frames
  else if flowType ws = tyAnc then 4 * frames
  else (sdiPackets fmt : Rat) * frames

/-- Egress load of port m in bits per second (R326). -/
def State.egressLoad (s : State) (seen : List (Nat × FlowWords)) (m : Nat) : Rat :=
  ((seen.filter (fun e => flowDir e.2 == 2 && flowPort e.2 == m)).map (fun e =>
    flowRate e.2 (s.dstFmt (flowObj e.2)) * ((largestFrame e.2 + 20) * 8 : Nat))).foldl (· + ·) 0

/-- Short packets per second of a receive context (R307). -/
def State.shortRate (s : State) (ws : FlowWords) : Rat :=
  if flowDir ws ≠ 1 then 0
  else if flowIsAudio ws then (if largestFrame ws < 256 then flowRate ws 0 else 0)
  else if flowType ws = tyAnc then flowRate ws (s.srcFmt (flowObj ws))
  else 0

/-- Short packets per second of a MEDIA island (R307). -/
def State.shortLoad (s : State) (seen : List (Nat × FlowWords)) (i : Nat) : Rat :=
  ((seen.filter (fun e => flowPort e.2 / 4 == i)).map (fun e => s.shortRate e.2)).foldl (· + ·) 0

/-! ### The checks in order (R311) -/

/-- Why FLOW_ADD of a context is refused for the state of its objects: DETAIL of STATE. -/
def State.flowBarred (s : State) (seen : List (Nat × FlowWords)) (ws : FlowWords) : Option Nat :=
  let m := flowPort ws
  let all := seen ++ [(262144, ws)]
  match seen.find? (fun e => sameFlowKey e.2 ws) with
  | some e => if s.portOn m then some e.1 else some m
  | none =>
    if ¬s.portOn m then some m
    else if (if flowDir ws = 1 then s.receiveBinds seen ws else s.sendBinds seen ws) = false then some (flowObj ws)
    else if s.fmtBarred seen ws then some (flowObj ws)
    else if flowDir ws = 2 ∧ s.portMac m = 0 then some m
    else if flowDir ws = 2 ∧ (s.fld MPORT_MAXFRAME m < largestFrame ws ∨
        ((portGbps (s.fld MPORT_MODE m) * 950000000 : Nat) : Rat) < s.egressLoad all m) then some m
    else if s.shortRate ws ≠ 0 ∧ 1600000 < s.shortLoad all (m / 4) then some m
    else if s.poolBarred seen ws then some (flowObj ws)
    else none

/-- EGRESS_MBPS of port m: the admitted load, staged contexts included, rounded up. -/
def State.egressMbps (s : State) (m : Nat) : Nat :=
  ((s.egressLoad (s.flowsSeen (fun _ => false)) m) / 1000000).ceil.toNat

end Sys2Proof.Machine
end

