-- ==== Sys2Proof/Machine/SdiSignal.lean ====
section
/-! DEFINITION. The signal of a transmit lane: timing references, line numbers, line CRCs, generated packets, and the lines
of a frame whose length a step or a phase change has altered (R274, R275, R279, R292, R293, R295). -/

namespace Sys2Proof.Machine
open Reg

/-! ### A lane's part of the picture (R279) -/

/-- Where sample (x, y) of link k lies in a component of `w` by `h` samples: the inverse of R279's places. -/
def partPlace (mode w h : Nat) (pair : Bool) (k x y : Nat) : Nat × Nat :=
  if mode = 3 then (x + k % 2 * (w / 2), y + k / 2 * (h / 2))
  else if mode = 4 then (if pair then 2 * x + k % 2 else x / 2 * 4 + 2 * (k % 2) + x % 2, 2 * y + k / 2)
  else (x, y)

/-- The part of a picture that link k of a quad-link signal carries; any other link carries all of it. -/
def linkPart (link k : Nat) (p : Pic) : Pic :=
  if link ≤ 2 then p
  else
    let w := (p.comp 0).w
    p.mapComps (fun _ c => Plane.tabulate (c.w / 2) (c.h / 2) (fun x y =>
      let (x', y') := partPlace link c.w c.h (2 * c.w == w) k x y
      c.px x' y'))

/-! ### Timing references and generated packets (R293) -/

/-- A line belongs to field 2 as F of its timing references counts it. PRESUMED, log 83. -/
def lineField2 (raster : Nat) (interlaced : Bool) (line : Nat) : Bool :=
  interlaced && (match raster with
    | 1 => decide (line < 4 ∨ 266 ≤ line)
    | 2 => decide (313 ≤ line)
    | _ => decide (564 ≤ line))

/-- The last word of EAV (`eav`) or SAV: F, V and H with their protection bits. PRESUMED, log 83. -/
def trsWord (f v eav : Bool) : Nat :=
  2 ^ 9 + 2 ^ 8 * bit f + 2 ^ 7 * bit v + 2 ^ 6 * bit eav +
    2 ^ 5 * bit (v != eav) + 2 ^ 4 * bit (f != eav) + 2 ^ 3 * bit (f != v) + 2 ^ 2 * bit ((f != v) != eav)

/-- A packet that the transmitter generates, from its eight-bit words. -/
def generatedPacket (did sdid : Nat) (bytes : List Nat) (hanc field2 : Bool) (line link : Nat) : AncPacket :=
  let udw := bytes.map withParity
  let head := [withParity did, withParity sdid, withParity bytes.length]
  { did := BitVec.ofNat 10 (withParity did), sdid := BitVec.ofNat 10 (withParity sdid)
    dc := BitVec.ofNat 10 (withParity bytes.length), udw := udw.map (BitVec.ofNat 10)
    checksum := BitVec.ofNat 10 (ancChecksum (head ++ udw))
    hanc := hanc, stream := false, link := link, field2 := field2, line := line, audio := .none }

/-- What the identifier of a lane declares: DST_FMT, the link type and the lane's link number. -/
def payloadOf (fmt link k : Nat) : PayloadId :=
  { id := BitVec.ofNat 32 (Config.payloadWord fmt (outputLinkType fmt link) (if link ≤ 2 then 0 else k + 1))
    link := if link ≤ 2 then 0 else k + 1
    levelB := link == 2, s444 := fmt444 fmt, bits := fmtBits fmt, rgb := fmtRgb fmt, color := some (fmtColor fmt) }

/-- The identifier packet, on each ST 352 line of the raster; in horizontal blanking, as ST 352 has it: PRESUMED, log 83. -/
def payloadPacket (p : PayloadId) (field2 : Bool) (line k : Nat) : AncPacket :=
  generatedPacket 0x41 0x01 ((List.range 4).map (fun i => bitField p.id.toNat (8 * i) 8)) true field2 line k

/-- The packets that lane l generates in a line. -/
def State.generated (s : State) (l fmt k : Nat) (p : PayloadId) (line : Nat) : List AncPacket :=
  let raster := fmtRaster fmt
  let il := fmtInterlaced fmt
  let f2 := lineField2 raster il line
  (if (payloadLines raster il).contains line then [payloadPacket p f2 line k] else []) ++
    (if isSd raster ∧ s.fldOn SDITX_EDH_GEN l ∧ line = Config.edhLine raster f2 then
      [generatedPacket 0xF4 0 ((List.range 16).map (fun i => Config.edhByte s.free i % 256)) true f2 line k] else [])

/-! ### The lines of a frame (R275, R295) -/

/-- Lines begun in a frame of `len` ns whose nominal length is `per`, with `n` lines: a longer frame has more whole lines, a
shorter one fewer, and its last line ends late or early by the rest. -/
def linesBegun (n per len : Nat) : Nat :=
  if len = per then n else if per < len then len * n / max per 1 else ceilDiv (len * n) per

/-- Start of line j of a frame after its frame start. -/
def lineOfs (n per j : Nat) : Nat := ceilDiv (j * per) n

/-- How many active lines a frame sends: after a step the line in progress is the last one, and a line is sent only when it
ends before the next frame start (R119, R295). -/
def activeUntil (n per len : Nat) (stepAt : Option Nat) : Nat :=
  let fits := if len < per then len * n / max per 1 else n
  match stepAt with
  | some t => if len < per then min fits (t * n / max per 1 + 1) else fits
  | none => fits

/-- Line j of a lane's frame. -/
def State.txLine (s : State) (l fmt k : Nat) (p : PayloadId) (pic : Pic) (placed : List AncPacket) (active j : Nat) : TxLine :=
  let raster := fmtRaster fmt
  let il := fmtInterlaced fmt
  let line := lineNumber raster il j
  let row := if j < active ∧ j < rasterLines raster then activeRow raster il (pic.comp 0).h j else none
  let f2 := lineField2 raster il line
  let hd := !isSd raster
  { number := if hd then some line else none
    eav := trsWord f2 row.isNone true, sav := trsWord f2 row.isNone false
    crc := if hd then some (Config.lineCrc line (match row with
        | some r => pic.comps.flatMap (fun c => (List.range c.w).map (fun x => c.px (x : Nat) r))
        | none => []))
      else none
    row := row
    anc := s.generated l fmt k p line ++ (if k = 0 ∧ j < rasterLines raster then placed.filter (fun a => a.line == line) else []) }

/-- The frame in progress of destination d, as its lane l sends it, when the next one starts at `f`; `irregular`: its
length is not that of the plane's grid. -/
def State.laneSignal (s : State) (d l k : Nat) (f : Int) (irregular : Bool) : TxSignal :=
  let x := s.dstRun d
  let link := s.fld DST_LINK d
  let full := s.dstFmt d
  let fmt := linkFmt link full
  let n := rasterLines (fmtRaster fmt)
  let rate := s.planeRate (s.fld DST_PLANE d)
  let i := x.obj.frame - 1
  let per := (gridStart rate 0 (i + 1) - gridStart rate 0 i).toNat
  let len := if irregular then (f - x.obj.start).toNat else per
  let stepAt := if x.obj.lastK = 0 then
      some (x.obj.notBefore - s.lineTime (s.fld DST_PLANE d) - x.obj.start).toNat else none
  let count := linesBegun n per len
  let p := payloadOf full link k
  let pic := linkPart link k x.pic
  { linkType := outputLinkType full link, rate := outputRateDet full link, payload := p, pic := pic
    lines := (List.range count).map (s.txLine l fmt k p pic (Tab.get [] s.media.anc d) (activeUntil n per len stepAt))
    tail := (len : Int) - lineOfs n per count }

/-- The frame in progress of destination d has left on its lanes that send. -/
def State.sendSignal (s : State) (d : Nat) (f : Int) (irregular : Bool) : State :=
  let x := s.dstRun d
  let lanes := s.txLanes d
  s.upTo lanes.length (fun s k =>
    let l := lanes.getD k 0
    s.when (s.fldOn SDITX_ACTIVE l && s.role != Role.INIT) (fun s => s.emit (.sdi l d (x.obj.frame - 1) (s.laneSignal d l k f irregular))))

end Sys2Proof.Machine
end

