-- ==== Sys2Proof/Machine/Frames.lean ====
section
/-! DEFINITION. Frames of planes, destinations and compositors: frame starts, line starts, selection instants and the
close of a slot (R15, R25, R120, R121, R150 .. R156, R169, R207, R214, R216, R223, R235, R246, R247, R266, R441,
R447). -/

namespace Sys2Proof.Machine
open Reg

/-! ### Planes (R120, R121) -/

/-- The offset in use moves toward the one that the plane is told to use: whole, or by at most PH_SLEW_NS. -/
def slewOffset (inUse target : Int) (slew : Nat) : Int :=
  if slew = 0 then target else if inUse < target then min target (inUse + slew) else max target (inUse - slew)

/-- The frame that is due on plane p starts. -/
def State.planeFrame (s : State) (p : Nat) : State :=
  let r := s.planeRun p
  let c := s.planeClock p
  let k := c.firstFrom 0 r.notBefore r.lastK
  if s.planeRate p = 0 ∨ s.nowInt < c.startOf 0 k then s
  else
    let k := max k (c.lastAt 0 s.nowInt - 1)
    let f := c.startOf 0 k
    let ofs := slewOffset r.offsetUsed (s.planeOffset p) (s.fld PLANE_PH_SLEW_NS p)
    s.setPlaneRun p
      { lastK := k + 1, frame := k + 1, start := f, offsetUsed := ofs, offsetWas := r.offsetUsed, notBefore := f + c.line }

/-! ### Readers at a frame start (R152, R207, R214, R441) -/

/-- A reader takes the choice made for the frame that starts at f, or makes it now. -/
def State.readerChoice (s : State) (rd k : Nat) (f : Int) (lead : Nat) : State :=
  let r := s.reader rd
  if r.nxt.isSome ∧ r.nxtAt = f then s
  else
    let s := s.when (s.follows && (s.cfg.readerAt rd).isSome) (fun s => s.addFld CWAY_SEL_MISS 1)
    s.selectFor s.cfg rd k f (f - lead)

/-- The standby had no record for the frame and makes its own choice: the frame's digest is not compared (R441). -/
def State.ownChoice (s : State) (rd : Nat) (f : Int) : Bool :=
  let r := s.reader rd
  s.follows && (s.cfg.readerAt rd).isSome && !(r.nxt.isSome && decide (r.nxtAt = f))

/-- What the entry frame of an action reads goes to the hold buffer (R207). -/
def State.fillHold (s : State) (rd : Nat) : State :=
  let r := s.reader rd
  match r.cur.slot with
  | some ref =>
    if r.cur.entry ∧ (r.cur.act = 1 ∨ r.cur.act = 2) then
      match s.readSlot r.cur ref with
      | some q => s.setReader rd { r with hold := some { pic := q.pic, seq := ref.seq, level := q.level, fmt := q.fmt, store := q.store } }
      | none => s
    else s
  | none => s

/-- A reader goes on to the frame that starts at f: the slots of the frame before are released. -/
def State.advanceReader (s : State) (rd k : Nat) (f : Int) (lead : Nat) : State :=
  let s := s.readerChoice rd k f lead
  let r := s.reader rd
  let old := dedupNat (r.cur.slots.map (·.src))
  let s := s.setReader rd { r with cur := r.nxt.getD {}, nxt := none }
  (s.fillHold rd).each old State.sweepRings

/-- A reader of an object that stops: it holds nothing and knows nothing, but keeps its hold buffer. -/
def State.clearReader (s : State) (rd : Nat) : State :=
  let r := s.reader rd
  let old := dedupNat (r.slots.map (·.src))
  (s.setReader rd { holdBytes := r.holdBytes }).each old State.sweepRings

/-! ### Destinations -/

/-- The frame before, as R235 compares it: a slot shown without an action. -/
def Shown.counted (x : Shown) : Option SlotRef := if x.act = 0 ∧ x.acting = false then x.slot else none

/-- The slot shown by a frame of destination d is known: SHOWN_SEQ, REPEATS and SKIPS (R235). -/
def State.countShown (s : State) (d : Nat) : State :=
  let x := s.dstRun d
  let cur := (s.reader (rdDst d)).cur
  let now := cur.counted
  let s := s.setFld DST_SHOWN_SEQ (s.reader (rdDst d)).seqShown d
  let s := match x.prevShown, now with
    | some a, some b =>
      if a.src ≠ b.src then s
      else if a.seq = b.seq then s.addFld DST_REPEATS 1 d
      else
        let last := (s.src b.src).seq
        if seqAge last b.seq < seqAge last a.seq then s.addFld DST_SKIPS (seqAge b.seq a.seq - 1) d else s
    | _, _ => s
  s.setDstRun d { x with prevShown := now }

/-- The output digest of a picture of destination d (R447). -/
def State.outputHash (s : State) (d : Nat) (p : Pic) : Nat :=
  let fmt := s.dstFmt d
  let p := if fmtBits fmt = 3 ∧ ¬fmt444 fmt then
      p.mapComps (fun i c => if i = 0 then c else Plane.tabulate (2 * c.w) c.h (fun x y => c.px (x / 2 : Nat) y))
    else p
  let h := hashSums (storeFmtOf fmt) p (fun _ _ => true)
  contentHash h.1 h.2

/-- The picture of the frame k of destination d is complete: it leaves, with its digest. -/
def State.sendPicture (s : State) (d k : Nat) (p : Pic) : State :=
  let s := s.when (s.role != Role.INIT) (fun s => s.emit (.picture d k p))
  s.ownDigest { kind := 1, obj := d, key := k % 2 ^ 32, hash := s.outputHash d p, nc := (s.dstRun d).nc }

/-- The frame in progress of destination d ends: a CHASE frame is complete now, and its picture stays at hand for the
packets still to send; its SDI signal is whole when the next frame starts at `f`. -/
def State.endDstFrame (s : State) (d : Nat) (f : Int) (irregular : Bool) : State :=
  let x := s.dstRun d
  if x.obj.running then
    let s := if x.late then
        let r := s.reader (rdDst d)
        let p := s.latePicture d
        let s := (s.setDstRun d { x with pic := p, late := false, latch := [] }).sendPicture d x.frameK p
        (s.dstStatus d r r.cur).countShown d
      else s
    (s.sendSignal d f irregular).keepSent d
  else s

/-- Destination d stops (R216): its lanes fall idle, its charge is released. -/
def State.stopDst (s : State) (d : Nat) : State :=
  let s := (s.setFld DST_LIVE 0 d).unbindTx d
  let s := (s.setDstRun d {}).clearReader (rdDst d)
  (s.setEmb d {}).reachAll

/-- A frame of destination d is longer or shorter than the plane's period (R119, R121, R224). -/
def ObjRun.irregular (o : ObjRun) (c : ObjClock) (k : Nat) (f ph : Int) : Bool :=
  o.running && (o.lastK == 0 || ph != o.phaseUsed ||
    (decide (k = o.lastK) && f - o.start != gridStart c.rate 0 k - gridStart c.rate 0 (k - 1)))

/-- The picture of a frame of destination d is rendered, or waits for the frame's end in CHASE (R156, R227). -/
def State.renderFrame (s : State) (d k : Nat) : State :=
  let x := s.dstRun d
  let s := s.setDstRun d { x with lutIn := s.lutTable d (s.fld DST_LUT_IN d), lutOut := s.lutTable d (s.fld DST_LUT_OUT d) }
  let r := s.reader (rdDst d)
  if r.cur.chase then
    let x := s.dstRun d
    s.setDstRun d { x with late := true, latch := s.renderRegs (objDst d), frameK := k }
  else
    let p := s.renderDst d r r.cur
    let x := s.dstRun d
    let s := s.setDstRun d { x with late := false, frameK := k, pic := p }
    ((s.sendPicture d k p).dstStatus d r r.cur).countShown d

/-- The frame with SEQ one lower is taken for MOTION as the registers stand at the frame start (R237, R240). -/
def State.motionAtStart (s : State) (d : Nat) (f : Int) (lead : Nat) : State :=
  let r := s.reader (rdDst d)
  match r.cur.slot.bind (fun ref => (s.slotsOf ref.src).find? (fun y => y.ref == ref)) with
  | some y =>
    if r.cur.act = 0 then
      let prev :=
        if s.usesMotion d y.slot.fmt r.cur.level then r.cur.prev <|> s.previousSlot y (f - lead) else none
      s.setReader (rdDst d) { r with cur := { r.cur with prev := prev } }
    else s
  | none => s

/-- Destination d starts the frame k at f. -/
def State.startDstFrame (s : State) (d k : Nat) (f ph : Int) (lead : Nat) : State :=
  let x := s.dstRun d
  let c := s.dstClock d
  let irregular := x.obj.irregular c k f ph
  let s := s.when (!x.obj.running) (fun s => s.setFld DST_LIVE 1 d)
  let s := s.setDstRun d { x with obj := x.obj.begin' c k f ph, nc := s.ownChoice (rdDst d) f }
  let s := (s.advanceReader (rdDst d) k f lead).motionAtStart d f lead
  let s := s.when (s.reader (rdDst d)).cur.acting (fun s => s.addFld FRDST_ACTED 1 d)
  let s := (s.renderFrame d k).embFrame d k
  let s := s.sdiTxFrame d k (f - lead) irregular
  let s := s.queueSends d k f (gridStart c.rate 0 (k + 1) - gridStart c.rate 0 k).toNat
  s.addFld DST_FRAMES 1 d

/-- The frame start of destination d that is due: the frame before ends, due changes apply, and the next one starts or
the destination stops. -/
def State.dstFrame (s : State) (d : Nat) : State :=
  let x := s.dstRun d
  let c := s.dstClock d
  match x.obj.due c s.nowInt with
  | none => s
  | some (k, f, ph) =>
    let lead := leadNs (x.obj.leadAtFrame c f)
    let s := (s.endDstFrame d f (x.obj.irregular c k f ph)).applyBoundary d f lead
    if x.stopping then s.stopDst d else s.startDstFrame d k f ph lead

/-- Destinations of plane p that are enabled or still to stop. -/
def State.dstsOf (s : State) (p : Nat) : List Nat :=
  (s.store.dsts.map (·.1)).filter (fun d => s.dstOn d && s.fld DST_PLANE d == p)

/-! ### Compositors -/

/-- Readers of compositor c: those that its layers make and those that still hold something. -/
def State.cmpReaders (s : State) (c : Nat) : List Nat :=
  dedupNat ((s.cfg.readers.filter (fun r => r.obj == objCmp c)).map (·.rd) ++
    (s.store.readers.filter (fun e => rdObj e.1 == objCmp c)).map (·.1))

/-- The output frame of compositor c is written to its slot; the slot closes once its writes are acknowledged (R264,
R266). -/
def State.writeOutput (s : State) (c k : Nat) (ref : SlotRef) : State :=
  let m := s.cmpNow c
  let x := s.cmpRun c
  let pic := (if x.late.isSome then s.under (objCmp c) x.latch else s).compose c k m
  let ladder := s.ringLadder ref
  let s := s.updSlot ref (fun x => { x.write x.store pic ladder (fun _ _ => true) with ended := true })
  s.upTo 8 (fun s l => s.layerStatus c l m)

/-- The output frame that CHASE layers delayed is written. -/
def State.endCmpFrame (s : State) (c : Nat) : State :=
  let x := s.cmpRun c
  match x.late with
  | some ref => (s.writeOutput c x.lateK ref).setCmpRun c { x with late := none, latch := [] }
  | none => s

/-- Compositor c is disabled (R247): its source is ABSENT and its readers hold nothing. -/
def State.stopCmp (s : State) (c : Nat) : State :=
  let s := s.when (s.srcState (1024 + c) != 0) (fun s => s.setFld SRC_STATE 1 (1024 + c))
  (s.setCmpRun c {}).each (s.cmpReaders c) State.clearReader

/-- The format of the output is that of OUT_FMT and the plane; a change takes the next FMT_GEN (R246). -/
def State.cmpFormat (s : State) (c : Nat) : State :=
  let n := 1024 + c
  let f := s.srcFmt n
  s.updSrc n (fun x => { x with
    accepted := true, fmt := f, fmtGen := if x.accepted ∧ x.fmt ≠ f then (x.fmtGen + 1) % 256 else x.fmtGen })

/-- Frames of a layer shown with an action by any reader of the layer (R214). -/
def State.countActed (s : State) (c : Nat) : State :=
  s.upTo 8 (fun s l =>
    let rds := (s.store.readers.filter (fun e => rdObj e.1 == objCmp c && rdLayerOf e.1 == l)).map (·.1)
    s.when (rds.any (fun rd => (s.reader rd).cur.acting)) (fun s => s.addFld FRLYR_ACTED 1 (8 * c + l)))

/-- Compositor c starts the frame k at f. -/
def State.startCmpFrame (s : State) (c k : Nat) (f ph : Int) (lead : Nat) : State :=
  let x := s.cmpRun c
  let n := 1024 + c
  let s := s.when (!x.obj.running) (fun s => s.setFld SRC_STATE 2 n)
  let s := s.setCmpRun c { x with obj := x.obj.begin' (s.cmpClock c (s.cmpNow c)) k f ph, moveTo := 0 }
  let s := (s.cmpFormat c).each (s.cmpReaders c) (fun s rd => s.advanceReader rd k f lead)
  let s := (s.countActed c).openSlot n f.toNat
  match (s.src n).ring? with
  | none => s
  | some r =>
    let ref : SlotRef := { src := n, ring := r.id, seq := (s.src n).seq }
    if (s.slotAt ref).isSome then
      if (s.cmpReaders c).any (fun rd => (s.reader rd).cur.chase) then
        s.setCmpRun c { s.cmpRun c with late := some ref, lateK := k, latch := s.renderRegs (objCmp c) }
      else s.writeOutput c k ref
    else s

/-- The frame start of compositor c that is due (R169, R246, R247): a change of plane ends the frames on the old plane,
and applies at the first frame start on the new one. -/
def State.cmpFrame (s : State) (c : Nat) : State :=
  let x := s.cmpRun c
  let m := s.cmpNow c
  let ck := s.cmpClock c m
  match (if s.heldInReset (124 + c / 8) then none else x.obj.due ck s.nowInt) with
  | none => s
  | some (k, f, ph) =>
    let lead := leadNs (x.obj.leadAtFrame ck f)
    let s := s.endCmpFrame c
    let m' := (s.cfgAt (objCmp c) f lead).cmp c
    if m'.enabled ∧ m'.plane ≠ m.plane ∧ (x.moveTo = 0 ∨ (s.cfg.cmp c).enabled = false) then
      s.setCmpRun c { obj := { notBefore := f, leadUsed := x.obj.leadUsed }, moveTo := m'.plane }
    else
      let s := s.applyBoundary (objCmp c) f lead
      if (s.cfg.cmp c).enabled then s.startCmpFrame c k f ph lead else s.stopCmp c

/-- Compositors that are enabled on plane p. -/
def State.cmpsOf (s : State) (p : Nat) : List Nat :=
  (dedupNat (s.cfg.cmps.map (·.1) ++ s.store.cmps.map (·.1))).filter (fun c => (s.cmpNow c).enabled && (s.cmpNow c).plane == p + 1)

/-- A frame start of plane p: the plane's frame, and the frame starts that are due of the destinations and compositors on
it. In the safe state the islands that render are held in reset (R463). -/
def State.frameToken (s : State) (p : Nat) : State :=
  let s := s.planeFrame p
  if s.safe then s else (s.each (s.dstsOf p) State.dstFrame).each (s.cmpsOf p) State.cmpFrame

/-- FRAME_START: the mileposts that are due act first (R124). -/
def execFrameStart (p : Fin 8) (s : State) : Host.Outcome State Fault Refusal := .next (s.postTokens.frameToken p)

/-- Every token due of a milepost or a frame start acts (R124). -/
def State.frameTokens (s : State) : State := s.postTokens.upTo 8 State.frameToken

/-! ### Line starts (R120, R156, R275, R371) -/

/-- The line, counted from 0, of a frame that starts at f on plane p, at an instant: the lines of a frame that a step
or a change of offset lengthens keep their length, and its blanking grows after the last (R119, R120). -/
def State.lineAt (s : State) (p k : Nat) (f now : Int) : Nat :=
  let rate := s.planeRate p
  let n := linesOf (s.fld PLANE_LINES p)
  let len := (gridStart rate 0 (k + 1) - gridStart rate 0 k).toNat
  min (n - 1) ((((now - f).toNat + 1) * n - 1) / max len 1)

/-- The row of a picture of `h` rows, in its stored order, that line j of a raster belongs to. -/
def rowOfLine (raster : Nat) (interlaced : Bool) (h j : Nat) : Nat :=
  let top := (h + 1) / 2
  if interlaced then (if j < field2Line raster then min j top else min h (top + (j - field2Line raster))) else min j h

/-- The first row of a reader's level from which it takes another slot, when line j of its object tears. -/
def State.tearRow (s : State) (rd j levelH : Nat) : Nat :=
  if rd < 1024 then
    let h := (rasterSize (s.fld DST_RASTER rd)).2
    rowOfLine (s.fld DST_RASTER rd) (s.fldOn DST_SCAN rd) h j * levelH / max h 1
  else
    let x := (s.cfg.cmp (rdObj rd - 1024)).layer (rdLayerOf rd)
    let (y, h) : Int × Nat := if rd < 1792 then (x.y, x.h)
      else match x.tiles[rdTileOf rd]? with
        | some t => (x.y + t.y, t.h)
        | none => (x.y, x.h)
    min levelH (((j : Int) - y).toNat * levelH / max h 1)

/-- The source of the frame that a reader shows (R169): the reader may have selected from another for the next. -/
def Shown.source (x : Shown) : Nat := ((x.slot.map (·.src)) <|> x.await).getD 2047

/-- A CHASE reader tears at line j: the rest of its frame comes from another slot (R156). -/
def State.tearTo (s : State) (rd j : Nat) (other : Option SlotRef) : State :=
  let r := s.reader rd
  if r.cur.chase = false ∨ r.cur.tearLine.isSome = true then s
  else
    let s := s.addFld SRC_CHASE_TEAR 1 r.cur.source
    let levelH := match r.cur.slot.bind s.slotAt with
      | some sl => ((sl.level r.cur.level).comp 0).h
      | none => 0
    let cur := if r.cur.slot.isNone then { r.cur with slot := other, await := none, tearLine := some 0 }
      else { r.cur with tearLine := some (s.tearRow rd j levelH), tearSlot := other }
    s.setReader rd { r with
      cur := cur, g := if r.gAwait.isSome then other else r.g, gAwait := none }

/-- A line that a CHASE reader needs at line j of frame k was not acknowledged: the rest of the frame comes from the
newest closed slot, and the peer that follows is told (R156, R441). -/
def State.tear (s : State) (rd j k : Nat) : State :=
  let r := s.reader rd
  if r.cur.chase = false ∨ r.cur.tearLine.isSome = true then s
  else
    let n := r.cur.source
    let other := (newestOf (s.src n).seq (s.closedAt n s.nowInt)).map (·.ref)
    let seq := match r.cur.slot with | some x => x.seq | none => 0
    let s := s.tearTo rd j other
    s.when s.mirrors (fun s => s.send Msg.TEAR
      [word64 (readerWord rd) seq, word64 (j + 2 ^ 16 * (k % 2 ^ 16)) (match other with | some x => x.seq | none => 0)])

/-- The reader's number. -/
def readerNum : Reader → Nat
  | .dst d => rdDst d
  | .layer c l => rdLayer c l
  | .tile c l t => rdTile c l t

/-- The frame timing of an object. -/
def State.objRun (s : State) (obj : Nat) : ObjRun := if obj < 1024 then (s.dstRun obj).obj else (s.cmpRun (obj - 1024)).obj

/-- The plane of an object, plus 1. -/
def State.objPlane (s : State) (obj : Nat) : Nat :=
  if obj < 1024 then s.fld DST_PLANE obj + 1 else (s.cmpNow (obj - 1024)).plane

/-- A reader of an object on plane p tears at the object's line. -/
def State.tearOn (s : State) (p rd : Nat) : State :=
  let obj := rdObj rd
  let o := s.objRun obj
  if o.running ∧ s.objPlane obj = p + 1 then s.tear rd (s.lineAt p (o.frame - 1) o.start s.nowInt) (o.frame - 1) else s

/-- The line start of destination d: embedded audio leaves in its line (R371). -/
def State.dstLine (s : State) (p d : Nat) : State :=
  let o := (s.dstRun d).obj
  let link := s.fld DST_LINK d
  if o.running then
    match linkLine link (s.lineAt p (o.frame - 1) o.start s.nowInt) with
    | some j => s.embLine d (lineNumber (linkRaster link (s.fld DST_RASTER d)) (s.fldOn DST_SCAN d) j)
    | none => s
  else s

/-- The line of plane p that is due starts, unless it has. -/
def State.lineToken (s : State) (p : Nat) : State :=
  let r := s.planeRun p
  let j := s.lineAt p (r.frame - 1) r.start s.nowInt
  if s.safe ∨ r.frame = 0 ∨ linesOf (s.fld PLANE_LINES p) = 0 ∨ s.nowInt < r.start ∨ j < r.lastLine then s
  else
    let s := s.setPlaneRun p { r with lastLine := j + 1 }
    s.each (s.dstsOf p) (fun s d => s.dstLine p d)

/-- LINE_START: the line of plane p that is due, after the tokens of mileposts and frames (R124). `late` names the CHASE
readers that needed a line not yet acknowledged; a device that follows takes the tears of its peer (R441). -/
def execLineStart (p : Fin 8) (late : List Reader) (s : State) : Host.Outcome State Fault Refusal :=
  let s := s.frameTokens.lineToken p
  .next (if s.safe ∨ s.follows ∨ linesOf (s.fld PLANE_LINES p) = 0 then s else s.each late (fun s x => s.tearOn p (readerNum x)))

/-- Every token due up to the line starts acts. -/
def State.lineTokens (s : State) : State := s.frameTokens.upTo 8 State.lineToken

/-! ### Selection instants and the close of a slot -/

/-- SELECTION_INSTANT of a reader (R151), after the tokens that R124 puts first. -/
def execSelectionInstant (reader : Reader) (s : State) : Host.Outcome State Fault Refusal :=
  let s := s.lineTokens
  .next (if s.safe then s else s.selectAt (readerNum reader))

/-- Every token due up to the selection instants acts. -/
def State.selectTokens (s : State) : State :=
  let s := s.lineTokens
  if s.safe then s else s.each (s.cfg.readers.map (·.rd)) State.selectAt

/-- SLOT_CLOSE: every write of a slot is acknowledged, and the oldest slot whose writing has ended closes (R150). A
compositor output that CHASE layers delayed is complete now (R266). -/
def execSlotClose (n : Fin 1120) (s : State) : Host.Outcome State Fault Refusal :=
  let s := if 1024 ≤ n.val then s.endCmpFrame (n.val - 1024) else s
  let ended := (s.writing n false).filter (fun x => match s.slotAt x with | some y => y.ended | none => false)
  match ended with
  | [] => .next s
  | x :: xs =>
    let last := (s.src n).seq
    .next (s.closeSlot (xs.foldl (fun b y => if seqAge last b.seq < seqAge last y.seq then y else b) x))

end Sys2Proof.Machine
end

