-- ==== Sys2Proof/Machine/Lanes.lean ====
section
/-! DEFINITION. High-speed lanes: PLLs, power, equalisation, loopbacks and patterns, eye scan, and the Causeway lanes
(R334 .. R352). -/

namespace Sys2Proof.Machine
open Reg

/-! ### Kinds and use (R334, R337, R346) -/

/-- The kind of a lane of the one index space: 0 SDI RX, 1 SDI TX, 2 media, 3 Causeway. -/
def laneKind (l : Nat) : Nat := if l < 256 then 0 else if l < 512 then 1 else if l < 576 then 2 else 3

/-- The number of a lane within its kind. -/
def laneNo (l : Nat) : Nat := if l < 512 then l % 256 else if l < 576 then l - 512 else l - 576

def isRxLane (l : Nat) : Bool := laneKind l != 1
def isTxLane (l : Nat) : Bool := laneKind l != 0

/-- The Causeway is enabled: PAIR_EN is set and its domain is on (R436, R530). -/
def State.cwayOn (s : State) : Bool := s.fldOn CWAY_PAIR_EN && !s.fldOn DOM_DSTATE 171

/-- Lane l is in use (R337). -/
def State.laneInUse (s : State) (l : Nat) : Bool :=
  match laneKind l with
  | 0 => (s.laneUser l).isSome
  | 3 => s.cwayOn
  | _ => s.fldOn LANE_IN_USE l

/-- IN_USE as it reads: also while a loopback or a pattern runs on the lane or its pair (R346). -/
def State.inUseView (s : State) (l : Nat) : Bool :=
  s.laneInUse l || (LANE_LOOP.only l && s.fldOn LANE_LOOP l) || (LANE_PRBS_GEN.only l && s.fldOn LANE_PRBS_GEN l) ||
    (decide (l < 256) && s.fldOn LANE_PRBS_GEN (256 + l)) || (decide (256 ≤ l ∧ l < 512) && s.fldOn LANE_LOOP (l - 256))

/-- The lane, or for an SDI lane its pair, is in use (R346). -/
def State.pairInUse (s : State) (l : Nat) : Bool :=
  s.laneInUse l || (decide (l < 256) && s.laneInUse (256 + l)) || (decide (256 ≤ l ∧ l < 512) && s.laneInUse (l - 256))

/-! ### Transmit equalisation (R339, R341) -/

/-- Taps of a preset. -/
def presetTaps : Nat → Nat × Nat × Nat
  | 1 => (0, 63, 0)
  | 2 => (0, 55, 8)
  | 3 => (0, 49, 14)
  | 4 => (4, 51, 8)
  | 5 => (6, 45, 12)
  | 6 => (0, 43, 20)
  | 7 => (8, 41, 14)
  | _ => (0, 0, 0)

/-- Port modes whose lanes carry NRZ. -/
def nrzMode (mode : Nat) : Bool := mode == 1 || mode == 2 || mode == 6

/-- The port that a media lane belongs to. -/
def State.lanePort (s : State) (l : Nat) : Option Nat :=
  (List.range 64).find? (fun m => s.portOn m && (s.portLanes m).contains l)

/-- The preset that PRESET 0 selects: by kind and rate; 0 for a lane without a rate, which sends the idle level. -/
def State.autoPreset (s : State) (l : Nat) : Nat :=
  match laneKind l with
  | 1 =>
    let r := if s.laneInUse l then s.fld SDITX_RATE_OUT (l - 256) else s.fld LANE_TEST_RATE l
    if r = 0 then 0 else if r ≤ 5 then 2 else 3
  | 2 =>
    match s.lanePort l with
    | some m => if nrzMode (s.fld MPORT_MODE m) then 4 else 5
    | none => let r := s.fld LANE_TEST_RATE l; if r = 0 then 0 else if r ≤ 2 then 4 else 5
  | 3 => if s.cwayOn || s.fldOn LANE_TEST_RATE l then 4 else 0
  | _ => 0

/-- TX taps in use of a lane: the written ones, those of a completed training, or those of the preset. -/
def State.txTaps (s : State) (l : Nat) : Nat × Nat × Nat :=
  if s.fldOn LANE_MANUAL_EQ l then (s.fld LANE_C_PRE l, s.fld LANE_C_MAIN l, s.fld LANE_C_POST l)
  else if laneKind l = 2 ∧ s.fldOn LANE_LT_EN l ∧ s.fldOn LANE_LT_DONE l then
    (s.fld LANE_TXPRE_NOW l, s.fld LANE_TXMAIN_NOW l, s.fld LANE_TXPOST_NOW l)
  else
    let p := s.fld LANE_PRESET l
    presetTaps (if p = 0 then s.autoPreset l else p)

/-- A write of TXEQ (R341). -/
def State.writeTxEq (s : State) (l v : Nat) : State :=
  if 63 < bitField v 8 4 + bitField v 16 6 + bitField v 24 5 then s.setFld LANE_EQ_ERR 1 l
  else
    let s := (s.setFld LANE_PRESET (LANE_PRESET.norm l (bitField v 0 4)) l).setFld LANE_C_PRE (bitField v 8 4) l
    (s.setFld LANE_C_MAIN (bitField v 16 6) l).setFld LANE_C_POST (bitField v 24 5) l

/-! ### Receive equalisation -/

def dfeFields : List (Field × Field) :=
  [(LANE_DFE1, LANE_DFE1_NOW), (LANE_DFE2, LANE_DFE2_NOW), (LANE_DFE3, LANE_DFE3_NOW), (LANE_DFE4, LANE_DFE4_NOW),
   (LANE_DFE5, LANE_DFE5_NOW)]

/-- Under MANUAL_EQ the written values are in use (R341). -/
def State.manualRx (s : State) (l : Nat) : State :=
  s.when (isRxLane l && s.fldOn LANE_MANUAL_EQ l) (fun s =>
    (s.setFld LANE_CTLE_NOW (s.fld LANE_CTLE l) l).each dfeFields (fun s f => s.setFld f.2 (s.fld f.1 l) l))

/-- A write of RXEQ. -/
def State.writeRxEq (s : State) (l v : Nat) : State := ((s.setFld LANE_CTLE (bitField v 0 4) l).manualRx l).stopScan l

/-- A write of DFE1 .. DFE4, or of DFE5. -/
def State.writeDfe (s : State) (l word v : Nat) : State :=
  let s := if word = 0 then
      (((s.setFld LANE_DFE1 (bitField v 0 8) l).setFld LANE_DFE2 (bitField v 8 8) l).setFld LANE_DFE3 (bitField v 16 8) l).setFld
        LANE_DFE4 (bitField v 24 8) l
    else s.setFld LANE_DFE5 (bitField v 0 8) l
  (s.manualRx l).stopScan l

/-- The first adaptation after lock is complete (R339). -/
def execAdaptDone (l : Fin 584) (eq : EqNow) (s : State) : Host.Outcome State Fault Refusal :=
  if isRxLane l ∧ s.fldOn LANE_PLL_LOCK l ∧ ¬s.fldOn LANE_MANUAL_EQ l then
    let s := (s.setFld LANE_ADAPT_DONE 1 l).setFld LANE_CTLE_NOW eq.ctle.toNat l
    let d := eq.dfe.toList
    .next ((List.range 5).foldl (fun s k => match dfeFields[k]? with
      | some f => s.setFld f.2 (d.getD k 0).toNat l
      | none => s) s)
  else .next s

/-! ### Causeway link (R350) -/

/-- The Causeway link is down: messages that have not left are not sent. -/
def State.linkDown (s : State) : State :=
  let s := (s.setFld CWAY_LINK_UP 0).setFld LANE_EB_FILL 0 576
  s.setCwTx { s.lane.cwTx with current := [], waiting := [] }

/-- A Causeway lane loses block or marker lock, which takes the link down. -/
def State.cwLose (s : State) (k : Nat) (block : Bool) : State :=
  let l := 576 + k
  let hadBlock := s.fldOn LANE_BLOCK_LOCK l
  let hadMarker := s.fldOn LANE_MARKER_LOCK l
  if (block && hadBlock) || hadMarker then
    let s := s.when block (fun s => s.setFld LANE_BLOCK_LOCK 0 l)
    let s := (s.setFld LANE_MARKER_LOCK 0 l).setFld LANE_SKEW 0 l
    let s := s.setLaneRun l { s.laneRun l with good := 0, missed := 0, skew := 0 }
    s.linkDown.raise Ev.CW_LANE_DOWN { index := k, sub := 3, data := bit (block && hadBlock) + 2 * bit hadMarker }
  else s

/-! ### PLLs (R336) -/

/-- The lanes that a PLL feeds now. -/
def State.pllLanes (s : State) : LanePll → List Nat
  | .sdiTx q frac =>
    ((List.range 4).map (fun k => 4 * q.val + k)).filter (fun l =>
      let r := if s.laneInUse (256 + l) then s.fld SDITX_RATE_OUT l else s.fld LANE_TEST_RATE (256 + l)
      decide (3 ≤ r ∧ r % 2 = 1) == frac) |>.map (256 + ·)
  | .media l => [512 + l.val]
  | .causeway => (List.range 8).map (576 + ·)

/-- The first lane of a PLL, and its kind. -/
def pllFirst : LanePll → Nat × Nat
  | .sdiTx q _ => (4 * q.val, 1)
  | .media l => (l.val, 2)
  | .causeway => (0, 3)

/-- Every lane of the PLL loses its clock. -/
def State.pllLost (s : State) (pll : LanePll) : State :=
  let lanes := s.pllLanes pll
  let s := s.each lanes (fun s l =>
    let s := (s.laneUnlock l true).setFld LANE_READY 0 l
    s.when (laneKind l == 1) (fun s => (s.setFld SDITX_ACTIVE 0 (l - 256)).setFld SDITX_RATE_OUT 0 (l - 256)))
  match pll with
  | .media l => match s.lanePort (512 + l.val) with | some m => s.portDown m | none => s
  | .causeway => s.upTo 8 (fun s k => s.cwLose k true)
  | .sdiTx _ _ => s

def State.unlockPll (s : State) (pll : LanePll) : State :=
  if s.lane.unlocked.contains pll then s
  else
    let n := (s.pllLanes pll).length
    let s := s.pllLost pll
    let s := { s with lane := { s.lane with unlocked := pll :: s.lane.unlocked } }
    s.raise Ev.LANE_PLL_UNLOCK { index := (pllFirst pll).1, sub := (pllFirst pll).2, data := n }

def execLanePllUnlock (pll : LanePll) (s : State) : Host.Outcome State Fault Refusal := .next (s.unlockPll pll)

/-- A lane starts to calibrate (R336, R338). -/
def State.calibrate (s : State) (l : Nat) : State := s.setLaneRun l { s.laneRun l with calFrom := s.time.grid + 1 }

def execLanePllRelock (pll : LanePll) (s : State) : Host.Outcome State Fault Refusal :=
  if s.lane.unlocked.contains pll then
    let s := { s with lane := { s.lane with unlocked := s.lane.unlocked.filter (· != pll) } }
    let lanes : List Nat := match pll with
      | .sdiTx q _ => (List.range 4).map (fun k => 256 + 4 * q.val + k)
      | .media l => [512 + l.val]
      | .causeway => (List.range 8).map (576 + ·)
    .next (s.each lanes (fun s l => s.when (s.fldOn LANE_PWR l && !s.fldOn LANE_READY l) (fun s => s.calibrate l)))
  else .next s

/-- Calibration is complete. The CDR of an SDI RX lane locks by its signal. -/
def State.laneReady (s : State) (l : Nat) : State :=
  let s := s.setLaneRun l { s.laneRun l with calFrom := 0 }
  (s.setFld LANE_READY 1 l).when (laneKind l != 0) (fun s => s.setFld LANE_PLL_LOCK 1 l)

def execLaneReady (l : Fin 584) (s : State) : Host.Outcome State Fault Refusal :=
  .next (s.when ((s.laneRun l).calFrom != 0 && s.fldOn LANE_PWR l) (fun s => s.laneReady l))

/-! ### The control word of a lane (R338, R341, R343 .. R346) -/

/-- A lane that is powered down. -/
def State.lanePowerOff (s : State) (l : Nat) : State :=
  let s := if laneKind l = 0 then
      (if s.rxHead l = l then s.rxLoss l { members := [] } true else s.memberLost l false { members := [] })
    else s
  let s := ((s.laneUnlock l false).setFld LANE_READY 0 l).setLaneRun l { s.laneRun l with calFrom := 0 }
  s.setFld LANE_PWR 0 l

/-- PWR is written. -/
def State.writePwr (s : State) (l : Nat) (on : Bool) : State :=
  if on then
    if s.fldOn LANE_PWR l = true ∨ (l < 512 ∧ s.gated (12 + l % 256 / 4) = true) then s else (s.setFld LANE_PWR 1 l).calibrate l
  else if s.fldOn LANE_PWR l ∧ ¬s.laneInUse l then s.lanePowerOff l else s

/-- What a write of TEST_RATE is stored as (R353). -/
def storedTestRate (l v : Nat) : Nat :=
  match laneKind l with
  | 1 => v
  | 2 => if v ≤ 4 then v else 0
  | 3 => if v = 1 then 1 else 0
  | _ => 0

/-- LOOP, PRBS_GEN and PRBS_CHK are written (R344, R346): any that would be set while the lane is in use is ignored. -/
def State.writeLoops (s : State) (l v : Nat) : State :=
  let inUse := s.pairInUse l
  let loop := bitField v 4 3
  let loop := if 3 < loop then 0 else loop
  let gen := LANE_PRBS_GEN.norm l (bitField v 8 3)
  let chk := LANE_PRBS_CHK.norm l (bitField v 12 3)
  let put (s : State) (f : Field) (x : Nat) : State :=
    if ¬f.only l then s else if inUse ∧ x ≠ 0 then s.setFld LANE_LOOP_ERR 1 l else s.setFld f x l
  let s := put (put s LANE_LOOP loop) LANE_PRBS_GEN gen
  if ¬LANE_PRBS_CHK.only l then s
  else if inUse ∧ chk ≠ 0 then s.setFld LANE_LOOP_ERR 1 l
  else
    let s := ((s.setFld LANE_PRBS_CHK chk l).setFld LANE_PRBS_ERR 0 l).setFld LANE_PRBS_LOCK 0 l
    s.setLaneRun l { s.laneRun l with prbs := if chk = 0 then none else some 0 }

/-! ### Test patterns (R344, R345) -/

/-- Kilobits per second of a rate coded as RATE_DET. -/
def sdiKbps (code : Nat) : Nat :=
  [0, 270000, 1485000, 1483516, 2970000, 2967033, 5940000, 5934066, 11880000, 11868132].getD code 0

/-- The rate in kb/s at which the checker of a lane runs: in a near-end loopback that of the pair's transmitter, else that of
the signal that the lane has locked to, or TEST_RATE. -/
def State.checkRate (s : State) (l : Nat) : Nat :=
  let loop := s.fld LANE_LOOP l
  match laneKind l with
  | 0 => sdiKbps (if loop = 1 ∨ loop = 2 then s.fld LANE_TEST_RATE (256 + l) else s.fld SDIRX_RATE_DET l)
  | 2 => [0, 10312500, 25781250, 53125000, 106250000].getD (s.fld LANE_TEST_RATE l) 0
  | 3 => if s.fldOn LANE_TEST_RATE l then 28125000 else 0
  | _ => 0

/-- The lane's own transmitter sends it the pattern that it checks. -/
def State.ownPattern (s : State) (l : Nat) : Bool :=
  (s.fld LANE_LOOP l == 1 || s.fld LANE_LOOP l == 2) &&
    s.fld LANE_PRBS_GEN (if laneKind l = 0 then 256 + l else l) == s.fld LANE_PRBS_CHK l

/-- The checker of lane l goes on by one nanosecond: it locks after 64 error-free bits and counts errors, which on a signal
from outside are a free value (log 86). -/
def State.checkPattern (s : State) (l bits : Nat) : State :=
  let rate := s.checkRate l
  if rate = 0 ∨ ¬s.fldOn LANE_PWR l then s
  else
    let errors := if s.ownPattern l then 0 else Config.prbsErrors s.free l % (rate / 1000000 + 1)
    let bits := if errors = 0 then min (64 * 10 ^ 6) (bits + rate) else 0
    let s := (s.satFld LANE_PRBS_ERR errors l).setLaneRun l { s.laneRun l with prbs := some bits }
    s.when (bits == 64 * 10 ^ 6) (fun s => s.setFld LANE_PRBS_LOCK 1 l)

/-- Every checker that is on goes on by one nanosecond. -/
def State.checkPatterns (s : State) : State :=
  s.each s.lane.lanes (fun s e => match e.2.prbs with
    | some n => s.checkPattern e.1 n
    | none => s)

/-- MANUAL_EQ is written: a running scan stops, and under 1 so do adaptation and training (R341, R343). -/
def State.writeManualEq (s : State) (l : Nat) (on : Bool) : State :=
  let s := ((s.setFld LANE_MANUAL_EQ (bit on) l).stopScan l).manualRx l
  match s.trainingPort l with
  | some m => s.when on (fun s =>
      let x := s.portRun m
      s.setPortRun m { x with training := x.training.filter (· != l) })
  | none => s

/-- The word at offset 0 of a lane block is written. -/
def State.writeLaneCtl (s : State) (l v : Nat) : State :=
  let s := s.writePwr l (bitAt v 0)
  let s := s.writeLoops l v
  let s := s.when (isTxLane l) (fun s => s.setFld LANE_TX_INV (bitField v 16 1) l)
  let s := s.when (isRxLane l) (fun s => s.setFld LANE_RX_INV (bitField v 17 1) l)
  let s := s.writeManualEq l (bitAt v 24)
  let s := s.when (laneKind l == 2) (fun s => s.setFld LANE_LT_EN (bitField v 25 1) l)
  s.when (isTxLane l) (fun s => s.setFld LANE_TEST_RATE (storedTestRate l (bitField v 28 3)) l)

/-! ### Eye scan (R342, R343) -/

/-- The point and dwell of a scan are written; ignored while one runs. -/
def State.writeScan (s : State) (l v : Nat) : State :=
  if s.fldOn LANE_ES_BUSY l then s
  else
    let d := bitField v 24 5
    let s := (s.setFld LANE_ES_PHASE (bitField v 0 6) l).setFld LANE_ES_VOLT (bitField v 8 7) l
    (s.setFld LANE_ES_EYE (LANE_ES_EYE.norm l (bitField v 16 2)) l).setFld LANE_ES_DWELL_LOG2 (if 1 ≤ d ∧ d ≤ 9 then 10 else d) l

/-- ES_GO is written; ignored while a scan runs, and on a lane that is off. -/
def State.scanGo (s : State) (l : Nat) : State :=
  if s.fldOn LANE_ES_BUSY l ∨ ¬isRxLane l ∨ ¬s.fldOn LANE_PWR l then s
  else
    let s := (s.setFld LANE_ES_ERR 0 l).setFld LANE_ES_BITS 0 l
    if s.fld LANE_ES_DWELL_LOG2 l = 0 then s.setFld LANE_ES_DONE 1 l
    else (s.setFld LANE_ES_BUSY 1 l).setLaneRun l { s.laneRun l with scanStop := false }

/-- A scan has compared its bits. -/
def execEsDone (l : Fin 584) (errors : Word) (s : State) : Host.Outcome State Fault Refusal :=
  if s.fldOn LANE_ES_BUSY l ∧ ¬(s.laneRun l).scanStop then
    let bits := 2 ^ s.fld LANE_ES_DWELL_LOG2 l
    let s := ((s.setFld LANE_ES_BUSY 0 l).setFld LANE_ES_DONE 1 l).setFld LANE_ES_BITS bits l
    .next (s.setFld LANE_ES_ERR (min errors.toNat bits) l)
  else .next s

/-- A stopped scan ends: the counts hold what was measured. -/
def execEsAbort (l : Fin 584) (errors bits : Word) (s : State) : Host.Outcome State Fault Refusal :=
  if s.fldOn LANE_ES_BUSY l ∧ (s.laneRun l).scanStop then
    let s := ((s.setFld LANE_ES_BUSY 0 l).setFld LANE_ES_ABORT 1 l).setFld LANE_ES_BITS bits.toNat l
    let s := s.setFld LANE_ES_ERR (min errors.toNat bits.toNat) l
    .next (s.setLaneRun l { s.laneRun l with scanStop := false })
  else .next s

/-! ### Causeway lanes (R347 .. R351) -/

/-- Block lock is gained after 64 consecutive valid sync headers. -/
def execCwBlockLockGained (seen : LaneHeaders) (s : State) : Host.Outcome State Fault Refusal :=
  let l := seen.lane.val
  if headersLock seen.headers ∧ s.cwayOn ∧ s.fldOn LANE_PWR (576 + l) ∧ ¬s.fldOn LANE_BLOCK_LOCK (576 + l) then
    let s := ((s.setFld LANE_BLOCK_LOCK 1 (576 + l)).setFld LANE_SIG_DET 1 (576 + l)).setFld LANE_PLL_LOCK 1 (576 + l)
    .next (s.setLaneRun (576 + l) { s.laneRun (576 + l) with good := 0, missed := 0 })
  else .next s

/-- Block lock is lost after 16 invalid sync headers within 64. Marker lock is lost by ALIGNMENT_MARKER. -/
def execCwLaneDown (l : Fin 8) (headers : List (BitVec 2)) (s : State) : Host.Outcome State Fault Refusal :=
  .next (s.when (headersLose headers) (fun s => s.cwLose l true))

/-- All lanes hold marker lock with the same count and are deskewed. -/
def State.aligned (s : State) : Bool :=
  (List.range 8).all (fun k =>
    s.fldOn LANE_MARKER_LOCK (576 + k) && (s.laneRun (576 + k)).count == (s.laneRun 576).count &&
      decide ((s.laneRun (576 + k)).skew ≤ 32))

/-- A BIP-8 mismatch is counted; the event comes at most once per second and lane. -/
def State.bipError (s : State) (k : Nat) : State :=
  let l := 576 + k
  let s := s.addFld LANE_BIP_ERR 1 l
  let x := s.laneRun l
  if x.lastBip = 0 ∨ x.lastBip - 1 + 10 ^ 9 ≤ s.time.grid then
    (s.setLaneRun l { x with lastBip := s.time.grid + 1 }).raise Ev.CW_BIP { index := k, sub := 3, data := s.fld LANE_BIP_ERR l }
  else s

/-- A block stands where a marker is due: whether it has the header of a control block, its payload, how many blocks it comes
after the last marker, BIP-8 over the blocks since then, and the lane's skew from the earliest lane in blocks. The first
marker starts the count of two, 16,384 blocks apart, that gain marker lock. -/
def State.marker (s : State) (k : Nat) (control : Bool) (payload apart bip skew : Nat) : State :=
  let l := 576 + k
  let b (i : Nat) : Nat := bitField payload (8 * i) 8
  let x := s.laneRun l
  let good := if apart = 16384 then x.good else 0
  if ¬s.fldOn LANE_BLOCK_LOCK l ∨ (s.fldOn LANE_MARKER_LOCK l = true ∧ apart ≠ 16384) then s
  else if control = true ∧ b 0 = 0x3C ∧ (List.range 3).all (fun i => b (1 + i) + b (5 + i) == 255) then
    let s := s.when (good != 0 && b 4 != bip) (fun s => s.bipError k)
    let s := s.setLaneRun l { s.laneRun l with
      good := min 2 (good + 1), missed := 0, count := b 2 + 256 * b 3, skew := skew }
    let s := s.when (decide (2 ≤ good + 1)) (fun s => s.setFld LANE_MARKER_LOCK 1 l)
    let s := s.setFld LANE_SKEW (if skew ≤ 32 then skew else 0) l
    let s := s.when (decide (32 < skew ∧ x.skew ≤ 32)) (fun s =>
      s.linkDown.raise Ev.CW_DESKEW_FAIL { index := k, sub := 3, data := skew })
    s.when (s.cwayOn && s.aligned && !s.fldOn CWAY_LINK_UP) (fun s => (s.setFld CWAY_LINK_UP 1).setFld LANE_EB_FILL 8 576)
  else if s.fldOn LANE_MARKER_LOCK l then
    if x.missed + 1 = 4 then s.cwLose k false else s.setLaneRun l { x with missed := x.missed + 1 }
  else s.setLaneRun l { x with good := 0 }

def execAlignmentMarker (l : Fin 8) (marker : MarkerBlock) (bip : Byte) (skew : Nat) (s : State) :
    Host.Outcome State Fault Refusal :=
  .next (s.marker l (marker.block.header.toNat == controlHeader) marker.block.payload.toNat marker.apart bip.toNat skew)

/-- The columns up to the next marker column, and that column, have been sent on all 8 lanes. -/
def execCwMarkerSend (s : State) : Host.Outcome State Fault Refusal :=
  if s.cwayOn then
    let n := s.lane.txMarker
    let out := s.lane.cwTx.period n
    let s := { s with lane := { s.lane with txMarker := (n + 1) % 2 ^ 16, cwTx := out.1 } }
    .next (s.emit (.columns n out.2))
  else .next s

/-- A column arrives at the elastic buffer; only a filler column is deleted or repeated. -/
def execFiller (arrived : ElasticColumn) (s : State) : Host.Outcome State Fault Refusal :=
  let fill := arrived.fill.val
  if ¬s.fldOn CWAY_LINK_UP ∨ ¬arrived.column.toList.all fillerBlock then .next s
  else if 10 < fill then .next ((s.addFld LANE_FILL_DEL 1 576).setFld LANE_EB_FILL (fill - 1) 576)
  else if fill < 6 then .next ((s.addFld LANE_FILL_INS 1 576).setFld LANE_EB_FILL (fill + 1) 576)
  else .next (s.setFld LANE_EB_FILL fill 576)

end Sys2Proof.Machine
end

