-- ==== Sys2Proof/Machine/Power.lean ====
section
/-! DEFINITION. Islands and power domains: what an ISL reset does, divider ramps, gating and waking
(R22 .. R25, R474, R476, R526 .. R531). -/

namespace Sys2Proof.Machine
open Reg

/-! ### What an ISL reset does (R25, R528) -/

/-- A key of the register table belongs to a field of the list, in an instance that is selected. -/
def keyIn (fs : List Field) (sel : Nat → Nat → Bool) (key : Nat) : Bool :=
  fs.any (fun f => f.lo == key % 32 &&
    (match f.at? (key / 32 * 4) with
      | some (i, j) => sel i j
      | none => false))

/-- Instances of fields go back to their reset values. -/
def State.resetFields (s : State) (fs : List Field) (sel : Nat → Nat → Bool) : State :=
  { s with regs := s.regs.filter (fun e => !keyIn fs sel e.1) }

/-- Status and counters among the fields of a block. -/
def statusOf (fs : List Field) : List Field := fs.filter (fun f => f.ty == .ro)

def laneStatus : List Field := statusOf fieldsLANE |>.filter (fun f => f.base != LANE_IN_USE.base || f.lo != LANE_IN_USE.lo)

def srcStatus : List Field := [SRC_DROPPED, SRC_DAMAGED, SRC_LATE_PKT, SRC_CHASE_TEAR]

def dstStatusFields : List Field := [DST_FRAMES, DST_SHOWN_SEQ, DST_REPEATS, DST_SKIPS, DST_CHASE_DEG, DST_CONV_PARTIAL]

def txStatus : List Field := [SDITX_ACTIVE, SDITX_RATE_OUT, SDITX_FRAMES, SDITX_ANC_TX_DROP, SDITX_IRREG_FRAMES]

def portStatus : List Field :=
  [MPORT_RX_FRAMES_LO, MPORT_RX_FRAMES_HI, MPORT_RX_BYTES_LO, MPORT_RX_BYTES_HI, MPORT_RX_FCS_ERR, MPORT_RX_RUNT,
    MPORT_RX_OVERSIZE, MPORT_RX_FEC_CORR, MPORT_RX_FEC_UNCORR, MPORT_RX_PAUSE, MPORT_RX_HDR_ERR, MPORT_RX_FLOW, MPORT_RX_NOFLOW,
    MPORT_RX_SHORT_DROP, MPORT_HP_RX_PKTS, MPORT_HP_RX_DROP, MPORT_TX_FRAMES_LO, MPORT_TX_FRAMES_HI, MPORT_TX_BYTES_LO,
    MPORT_TX_BYTES_HI, MPORT_TX_MEDIA, MPORT_TX_LATE, MPORT_TX_LINK_DROP, MPORT_HP_TX_PKTS, MPORT_PTP_TS, MPORT_LINK_DOWNS]

/-- Sources whose frames ingest island i writes. -/
def State.ingestSources (s : State) (i : Nat) : List Nat :=
  ((s.store.srcs.filter (fun e => e.2.island == i + 1)).map (·.1)).filter (fun n => decide (n < 1024))

/-- INGEST island i: the slots being written close as DAMAGED, with INCOMPLETE set. -/
def State.resetIngest (s : State) (i : Nat) : State :=
  s.each (s.ingestSources i) (fun s n =>
    let s := s.each (s.writing n false) (fun s x =>
      (s.updSlot x (fun y => { y with flags := y.flags ||| flagIncomplete })).closeSlot x)
    s.resetFields srcStatus (fun m _ => m == n))

/-- DEST island j: its destinations emit black until their first frame start out of reset. -/
def State.resetDest (s : State) (j : Nat) : State :=
  s.each ((s.store.dsts.filter (fun e => e.2.island == j + 1)).map (·.1)) (fun s d =>
    let x := s.dstRun d
    let s := s.setDstRun d { x with
      late := false
      pic := x.pic.mapComps (fun i c => Plane.flat c.w c.h (black12 (s.dstSpace d) i)) }
    s.resetFields dstStatusFields (fun m _ => m == d))

/-- COMP island k: no slot is written for a frame in progress. -/
def State.resetComp (s : State) (k : Nat) : State :=
  s.upTo 8 (fun s i =>
    let c := 8 * k + i
    let s := s.each (s.writing (1024 + c) false) (fun s x => s.updSlot x (fun y => { y with state := 0 }))
    let s := s.setCmpRun c { s.cmpRun c with late := none }
    s.resetFields [CMP_FRAMES] (fun m _ => m == c))

/-- A lane in a reset island: its lock, status and counters. -/
def State.resetLane (s : State) (l : Nat) : State :=
  let s := if laneKind l = 0 then (if s.rxHead l = l then s.rxLoss l { members := [] } true else s.memberLost l false { members := [] }) else s
  let s := (s.setLaneRun l {}).resetFields laneStatus (fun m _ => m == l)
  s.when (s.fldOn LANE_PWR l) (fun s => s.calibrate l)

/-- SDIQ island q. -/
def State.resetQuad (s : State) (q : Nat) : State :=
  let s := s.upTo 4 (fun s k => (s.resetLane (4 * q + k)).resetLane (256 + 4 * q + k))
  (s.resetFields (statusOf fieldsSDIRX) (fun l _ => l / 4 == q)).resetFields txStatus (fun l _ => l / 4 == q)

/-- MEDIA island i. -/
def State.resetMedia (s : State) (i : Nat) : State :=
  let s := s.upTo 4 (fun s k => s.portDown (4 * i + k))
  let s := s.upTo 4 (fun s k => s.resetLane (512 + 4 * i + k))
  let s := { s with media := { s.media with short := Tab.set [] s.media.short i [] } }
  s.resetFields portStatus (fun m _ => m / 4 == i)

/-- AUDIO: what plays and waits in the pool is lost. -/
def State.resetAudio (s : State) : State :=
  let a := s.audio
  let s := { s with audio := { a with
    ins := [], hist := [], outHist := [], decs := [], peerDecs := [], groups := []
    outs := a.outs.map (fun e : Nat × ChanOut => (e.1, { e.2 with old := none })) } }
  s.resetFields (statusOf fieldsAINST ++ statusOf fieldsAGRP) (fun _ _ => true)

/-- AESIO: every input unlocks, and every output starts its framing again. -/
def State.resetAesio (s : State) : State :=
  let s := s.upTo 64 (fun s i => s.setAesLock i false)
  ({ s with aes := {} }).resetFields (statusOf fieldsAESIN ++ statusOf fieldsAESOUT) (fun _ _ => true)

/-- Probe core c stops; its memories stay (R405, R528). -/
def State.resetCore (s : State) (c : Nat) : State :=
  let x := s.core c
  let s := s.setCore c { imem := x.imem, dmem := x.dmem, loaded := x.loaded }
  let s := s.resetFields (fieldsPROBE.filter (fun f => f.keep == .isl)) (fun m _ => m == c)
  let s := s.resetFields (fieldsWIN.filter (fun f => f.keep == .isl)) (fun m _ => m == c)
  (s.setFld DBGC_HALTED 0 0 c).setFld DBGC_CAUSE 0 0 c

/-- CWAY: its lanes lose lock, which takes the link down. -/
def State.resetCway (s : State) : State :=
  let s := s.upTo 8 (fun s k => s.cwLose k true)
  s.upTo 8 (fun s k => s.resetLane (576 + k))

/-- The LFSR that bus b starts with (R495). -/
def State.towSeed (s : State) (b : Nat) : Word :=
  let x := BitVec.ofNat 32 (s.fld CWAY_DEV_SERIAL_LO) ^^^ BitVec.ofNat 32 (b + 1)
  if x = 0 then 1 else x

def State.towRun (s : State) (b : Nat) : TowRun := Tab.get { lfsr := BitVec.ofNat 32 (b + 1) } s.tow.buses b

def State.setTow (s : State) (b : Nat) (x : TowRun) : State :=
  { s with tow := { s.tow with buses := Tab.set { lfsr := BitVec.ofNat 32 (b + 1) } s.tow.buses b x } }

/-- TOW: both controllers lose their queues, and their LFSRs start again. -/
def State.resetTow (s : State) : State :=
  let s := s.upTo 2 (fun s b => s.setTow b { lfsr := s.towSeed b })
  s.resetFields (statusOf fieldsTOW) (fun _ _ => true)

/-- The ISL reset of domain d. -/
def State.islReset (s : State) (d : Nat) : State :=
  if 12 ≤ d ∧ d ≤ 75 then s.resetQuad (d - 12)
  else if 76 ≤ d ∧ d ≤ 91 then s.resetMedia (d - 76)
  else if 92 ≤ d ∧ d ≤ 107 then s.resetIngest (d - 92)
  else if 108 ≤ d ∧ d ≤ 123 then s.resetDest (d - 108)
  else if 124 ≤ d ∧ d ≤ 135 then s.resetComp (d - 124)
  else if d = 137 then s.resetAudio
  else if d = 138 then s.resetAesio
  else if 139 ≤ d ∧ d ≤ 170 then s.resetCore (d - 139)
  else if d = 171 then s.resetCway
  else if d = 172 then s.resetTow
  else s

/-- A write of ISL_RST = 1: ignored for a domain that is never gateable. -/
def State.writeIslRst (s : State) (d : Nat) : State := if domainGateable d then s.islReset d else s

/-! ### Divider ramps (R476) -/

/-- The islands of a domain. -/
def domainIslands (d : Nat) : List Nat :=
  if d ≤ 138 then [d]
  else if d ≤ 170 then (if (d - 139) % 8 = 0 then [139 + (d - 139) / 8] else [])
  else if d = 171 then [143]
  else if d = 172 then [144]
  else []

def State.ramp (s : State) (i : Nat) : Option ClkRamp := Tab.get none s.clk.ramps i

def State.setRamp (s : State) (i : Nat) (r : Option ClkRamp) : State :=
  { s with clk := { s.clk with ramps := Tab.set none s.clk.ramps i r } }

/-- Ramps that run. -/
def State.rampsRunning (s : State) : Nat :=
  (s.clk.ramps.filter (fun e => match e.2 with | some r => r.runs | none => false)).length

/-- Waiting ramps start, in island order, while fewer than sixteen run. -/
def State.admitRamps (s : State) : State :=
  let s := s.each (s.clk.ramps.map (·.1)) (fun s i =>
    match s.ramp i with
    | some r => if r.runs = false ∧ s.rampsRunning < 16 then s.setRamp i (some { r with runs := true, at' := s.time.grid }) else s
    | none => s)
  s.setFld CLK_RAMPS s.rampsRunning

/-- The spread of island i, and the length of a modulation period at its rate, in ns (R475). -/
def State.ssc (s : State) (i : Nat) : SscRun := Tab.get {} s.clk.ssc i

def SscRun.period (x : SscRun) : Nat := 10 ^ 6 / max 1 x.rate

/-- When the next modulation period of island i begins: periods are delayed by i ÷ 145 of one, from an instant that the spec
does not give (log 5). -/
def State.sscNext (s : State) (i : Nat) : Nat :=
  let x := s.ssc i
  if x.next = 0 then Config.sscStart + i * x.period / 145 else x.next - 1

/-- SSC_DEPTH and SSC_RATE_KHZ take effect at the start of the next modulation period of each island (R475). -/
def State.sscTick (s : State) : State :=
  let due := (List.range 145).filter (fun i => icgNominal i != 0 && decide (s.sscNext i ≤ s.time.grid))
  let new := fun (i : Nat) =>
    let x : SscRun := { depth := s.fld CLK_SSC_DEPTH, rate := s.fld CLK_SSC_RATE_KHZ }
    { x with next := s.sscNext i + x.period + 1 }
  { s with clk := { s.clk with ssc := due.foldl (fun t i => Tab.set {} t i (new i)) s.clk.ssc } }

/-- Spread spectrum is active on island i: its clock runs outside a ramp, with a depth in force (R475, R476). -/
def State.sscOn (s : State) (i : Nat) : Bool :=
  icgNominal i != 0 && (s.ssc i).depth != 0 && !s.fldOn CLKISL_RAMPING i && !s.fldOn CLKISL_STOPPED i

/-- The clock of island i starts or stops; an island with a clock generator ramps. -/
def State.startRamp (s : State) (i : Nat) (up : Bool) : State :=
  if icgNominal i = 0 then s.setFld CLKISL_STOPPED (bit (!up)) i
  else
    let s := s.setFld CLKISL_RAMPING 1 i
    let s := s.when up (fun s => (s.setFld CLKISL_DIV_NOW 320 i).setFld CLKISL_STOPPED 0 i)
    (s.setRamp i (some { up := up, runs := false, at' := s.time.grid })).admitRamps

/-- The ramp of island i ends. -/
def State.endRamp (s : State) (i : Nat) (up : Bool) : State :=
  let s := (s.setRamp i none).setFld CLKISL_RAMPING 0 i
  (if up then s else s.setFld CLKISL_STOPPED 1 i).admitRamps

/-- The multiplexer of an island waits for a switch (R484). -/
def State.switching (s : State) (i : Nat) : Bool := (Tab.get {} s.clk.muxes i : ClkMux).dest.isSome

/-- ICG_RAMP_STEP: one step of the divider, no sooner than RAMP_STEP_NS after the last. -/
def execIcgRampStep (isl : Fin 145) (s : State) : Host.Outcome State Fault Refusal :=
  match s.ramp isl with
  | none => .next s
  | some r =>
    if r.runs = false ∨ s.switching isl = true ∨ s.expired r.at' (s.fld CLK_RAMP_STEP_NS) 1 = false then .next s
    else
      let div := s.fld CLKISL_DIV_NOW isl
      let div' := if r.up then div - 1 else div + 1
      let s := (s.setFld CLKISL_DIV_NOW div' isl).setRamp isl (some { r with at' := s.time.grid })
      .next (if div' = (if r.up then icgNominal isl else 320) then s.endRamp isl r.up else s)

/-! ### Gating and waking (R24, R529 .. R531) -/

/-- A compositor of COMP island k, committed or admitted and still to apply, satisfies a condition. -/
def State.anyComp (s : State) (k : Nat) (ok : CmpCfg → Bool) : Bool :=
  let on (g : Cfg) : Bool := g.cmps.any (fun e => e.1 / 8 == k && ok e.2)
  on s.cfg || s.take.takes.any (fun t => on (s.takeAll s.cfg t)) || s.take.banks.any (fun b => on b.2.copies)

/-- A compositor of COMP island k has a committed or staged layer that is not OFF. -/
def State.layersOn (s : State) (k : Nat) : Bool := s.anyComp k (fun m => m.layers.any (fun l => l.2.kind != 0))

/-- Core c is loaded: not STOPPED, or written by PROBE_LOAD since its memories were last cleared. -/
def State.coreLoaded (s : State) (c : Nat) : Bool := s.fld PROBE_STATE c != coreStopped || (s.core c).loaded

/-- The domain holds admitted work (R24). -/
def State.holdsWork (s : State) (d : Nat) : Bool :=
  if 12 ≤ d ∧ d ≤ 75 then (List.range 4).any (fun k => s.laneInUse (4 * (d - 12) + k) || s.laneInUse (256 + 4 * (d - 12) + k))
  else if 76 ≤ d ∧ d ≤ 91 then (List.range 4).any (fun k => s.laneInUse (512 + 4 * (d - 76) + k))
  else if 124 ≤ d ∧ d ≤ 135 then s.anyComp (d - 124) (·.enabled)
  else if 139 ≤ d ∧ d ≤ 170 then s.coreLoaded (d - 139)
  else false

/-- The condition of R529 under which gating of the domain is refused. -/
def State.gateBarred (s : State) (d : Nat) : Bool :=
  if 3 ≤ d ∧ d ≤ 5 then (let c := s.fld GLB_LINK_CFG; let n := d - 2; decide ((c = 2 ∧ n < 2) ∨ (c = 3 ∧ n < 4)))
  else if 12 ≤ d ∧ d ≤ 75 then s.holdsWork d
  else if 76 ≤ d ∧ d ≤ 91 then (List.range 4).any (fun k => s.portOn (4 * (d - 76) + k))
  else if 124 ≤ d ∧ d ≤ 135 then s.layersOn (d - 124)
  else if d = 138 then
    (List.range 64).any (fun i => s.fldOn AESIN_EN i || s.fldOn AESOUT_EN i) || s.fld APLANE_SRC == 3
  else if 139 ≤ d ∧ d ≤ 170 then
    if (d - 139) % 8 = 0 then (List.range 8).any (fun k => s.coreLoaded (d - 139 + k)) else s.coreLoaded (d - 139)
  else if d = 171 then s.fldOn CWAY_PAIR_EN
  else if d = 172 then s.fldOn TOW_EN 0 || s.fldOn TOW_EN 1
  else if 173 ≤ d ∧ d ≤ 180 then
    (List.range 256).any (fun q => s.fldOn ANCQ_EN q && rangesMeet (s.fld ANCQ_BASE q) (s.fld ANCQ_SIZE q) (256 * (d - 173)) 256)
  else if d = 181 then s.delayUsed none != 0
  else if d = 182 then s.media.flows.any (fun e => e.2.isSome)
  else if d = 183 then s.fldOn DBG_ATTACH
  else true

/-- Why gating of domain d is refused; 0: it is not (R530). DESIGN CHOICE, log 90: the order of the reasons where several
hold. -/
def State.gateReason (s : State) (d : Nat) : Nat :=
  if domainGateable d = false then 1
  else if s.fld DOM_DSTATE d = 1 ∨ s.fld DOM_DSTATE d = 3 then 4
  else if s.holdsWork d then 2
  else if s.gateBarred d then 3
  else 0

/-- Gating of domain d is refused. -/
def State.refuseGate (s : State) (d reason : Nat) : State :=
  let s := (s.setFld DOM_REFUSE reason d).setFld PWR_LAST_REFUSED d
  (s.addFld PWR_REFUSED_CNT 1).raise Ev.PWR_GATE_REFUSED { data := d + 2 ^ 8 * reason }

/-- The memories of a domain are cleared (R528 .. R530). -/
def State.clearMemories (s : State) (d : Nat) : State :=
  if 139 ≤ d ∧ d ≤ 170 then s.setCore (d - 139) { s.core (d - 139) with imem := [], dmem := [], loaded := false }
  else if 173 ≤ d ∧ d ≤ 180 then
    { s with anc := { s.anc with mem := s.anc.mem.filter (fun e => e.1 / 262144 != d - 173) } }
  else if d = 181 then
    { s with audio := { s.audio with embs := s.audio.embs.map (fun e : Nat × EmbRun => (e.1, { e.2 with hist := [] })) } }
  else if d = 182 then { s with media := { s.media with flows := [] } }
  else s

/-- An OFF domain is powered: its memories are cleared and its clocks ramp. -/
def State.wakeDomain (s : State) (d : Nat) : State :=
  ((s.setFld DOM_DSTATE 3 d).clearMemories d).each (domainIslands d) (fun s i => s.startRamp i true)

/-- A write of REQ in domain d. -/
def State.writeReq (s : State) (d v : Nat) : State :=
  if v = 0 then
    if s.fld DOM_DSTATE d = 2 then s.setFld DOM_REQ 0 d
    else
      let e := s.gateReason d
      if e ≠ 0 then s.refuseGate d e
      else
        let s := (s.setFld DOM_REQ 0 d).setFld DOM_DSTATE 1 d
        s.each (domainIslands d) (fun s i => s.startRamp i false)
  else if s.fldOn DOM_LOCKED_OFF d then s
  else
    let s := s.setFld DOM_REQ 1 d
    if s.fld DOM_DSTATE d = 2 then s.wakeDomain d else s

/-- The clocks of a domain's islands do not ramp. -/
def State.rampsDone (s : State) (d : Nat) : Bool := (domainIslands d).all (fun i => (s.ramp i).isNone)

/-- A domain that is off: its islands' status reads its reset values, and gated lanes read PWR = 0 (R528, R529). -/
def State.domainOff (s : State) (d : Nat) : State :=
  let s := if 12 ≤ d ∧ d ≤ 75 then
      s.upTo 4 (fun s k => (s.setFld LANE_PWR 0 (4 * (d - 12) + k)).setFld LANE_PWR 0 (256 + 4 * (d - 12) + k))
    else s
  (s.islReset d).setFld DOM_DSTATE 2 d

/-- DOMAIN_OFF_REACHED: a wake asked for meanwhile takes effect now. -/
def execDomainOffReached (d : Fin 184) (s : State) : Host.Outcome State Fault Refusal :=
  if s.fld DOM_DSTATE d = 1 ∧ s.rampsDone d = true then
    let s := s.domainOff d
    .next (if s.fldOn DOM_REQ d then s.wakeDomain d else s)
  else .next s

/-- DOMAIN_ON_REACHED. -/
def execDomainOnReached (d : Fin 184) (s : State) : Host.Outcome State Fault Refusal :=
  if s.fld DOM_DSTATE d = 3 ∧ s.rampsDone d = true then .next ((s.setFld DOM_DSTATE 0 d).islReset d) else .next s

/-- REQ of every domain takes its value from GATE_INIT; a domain gated by it is OFF, and domain 183 stays OFF once
DBG_KILL is blown (R530). -/
def State.applyGateInit (s : State) : State :=
  s.upTo 184 (fun s d =>
    if d = 183 ∧ s.dbg.killed = true then
      ((s.setFld DOM_REQ 0 d).setFld DOM_DSTATE 2 d).setFld DOM_LOCKED_OFF 1 d
    else if domainGateable d ∧ bitAt s.boot.gateInit d then
      ((s.setFld DOM_REQ 0 d).setFld DOM_DSTATE 2 d).each (domainIslands d) (fun s i =>
        ((s.setRamp i none).setFld CLKISL_STOPPED 1 i).setFld CLKISL_DIV_NOW 0 i)
    else s)

end Sys2Proof.Machine
end

