-- ==== Sys2Proof/Machine/Tow.lean ====
section
/-! DEFINITION. The Towpath controllers: transmit queue, collisions and back-off, reception, filtering and counters
(R489 .. R504). -/

namespace Sys2Proof.Machine
open Reg

/-! ### Counters (R502, R503) -/

/-- A counter of bus b goes up by one. -/
def State.towCount (s : State) (f : Field) (b : Nat) (j : Nat := 0) : State :=
  let old := s.fld f b j
  let s := s.addFld f 1 b j
  let ev := { index := b, sub := f.off b j - (0x71100 + 0x1000 * b) : Raise }
  if old = 2 ^ 31 - 1 then s.raise Ev.TOW_CNT_HALF ev
  else if old = 2 ^ 32 - 1 then s.raise Ev.TOW_CNT_WRAP ev
  else s

/-- Size bin of a payload length. -/
def towBin (len : Nat) : Nat := if len = 0 then 0 else if len ≤ 15 then 1 else if len ≤ 63 then 2 else if len ≤ 127 then 3 else 4

def towByte (f : List Nat) (i : Nat) : Nat := f.getD i 0

/-! ### Transmitting (R493 .. R496, R499 .. R501) -/

/-- VECTOR of bus b is signalled to P0. -/
def State.towSignal (s : State) (b : Nat) : State := s.sendVector 0 (s.fld TOW_VECTOR b)

/-- The bits of a byte string in the order of the wire, each byte least significant bit first (R489). -/
def wireBits (bs : List Nat) : List Bool := bs.flatMap (fun x => (List.range 8).map (fun i => bitAt x i))

/-- Manchester coding: a 0 is high and then low, a 1 low and then high (R489). -/
def manchester (bits : List Bool) : List Bool := bits.flatMap (fun x => [!x, x])

/-- A frame as it goes over the wire: preamble, start delimiter, header and payload, FCS (R491). -/
def towWire (f : List Nat) : List Bool :=
  wireBits (List.replicate 7 0x55 ++ [0xD5] ++ f ++ (leBytes 4 (crc32 f)).map (·.toNat))

/-- The jam: 32 bit times of alternating 1 and 0 (R494). -/
def towJam : List Bool := (List.range 32).map (fun i => i % 2 == 0)

/-- The driver of bus b is released after these bits: the bus is idle from here on (R489, R490). -/
def State.towRelease (s : State) (b : Nat) (bits : List Bool) : State :=
  (s.emit (.towpath b (manchester bits))).setTow b { s.towRun b with idleFrom := s.time.grid }

/-- The head frame leaves the queue: 1 SENT, 2 EXCESS, 3 LATE, 4 FLUSHED, 5 ABORTED. Frames discarded under TX_EXCESS are
consecutive while no other outcome comes between (R496). -/
def State.towLeave (s : State) (b outcome : Nat) : State :=
  let x := s.towRun b
  let x := { x with excess := if outcome = 2 then x.excess else 0 }
  let s := (s.setFld TOW_TX_LAST outcome b).setFld TOW_TX_ATTEMPTS x.attempts b
  let s := s.setTow b { x with tx := x.tx.tail, phase := .idle, colls := 0, attempts := 0, started := false, late := false }
  s.when (s.fldOn TOW_TX_INT b) (fun s => s.towSignal b)

/-- Every queued frame that has not started is discarded (R500). -/
def State.towFlush (s : State) (b : Nat) : State :=
  let x := s.towRun b
  let keep := if x.started then x.tx.take 1 else []
  s.each (x.tx.drop keep.length) (fun s _ =>
    let y := s.towRun b
    let s := ((s.towCount TOW_TX_FLUSHED b).setFld TOW_TX_LAST 4 b).setFld TOW_TX_ATTEMPTS 0 b
    let s := s.setTow b { y with tx := y.tx.dropLast }
    s.when (s.fldOn TOW_TX_INT b) (fun s => s.towSignal b))

/-- A frame in transmission is abandoned, and one being received is broken off (R501). -/
def State.towAbandon (s : State) (b : Nat) : State :=
  let x := s.towRun b
  let s := s.setTow b { x with brokenAt := s.now }
  if x.phase = .sending ∨ x.phase = .jam then
    let bits := (towWire (x.tx.headD []) ++ towJam).take ((s.time.grid - x.startAt) / 40)
    (((s.towRelease b bits).towCount TOW_TX_ABORT b).towLeave b 5)
  else s

/-- The control word of bus b is written: EN, the filter bits, the interrupts and the address. EN is ignored while the
domain is gated (R529). -/
def State.writeTow (s : State) (b v : Nat) : State :=
  let on := s.fldOn TOW_EN b
  let s := ((s.setFld TOW_PROMISC (bitField v 1 1) b).setFld TOW_BCAST_EN (bitField v 2 1) b).setFld TOW_RX_INT (bitField v 4 1) b
  let s := (s.setFld TOW_TX_INT (bitField v 5 1) b).setFld TOW_VECTOR (bitField v 8 6) b
  let s := s.setFld TOW_ADDR (TOW_ADDR.norm b (bitField v 16 8)) b
  if s.gated 172 then s
  else if bitAt v 0 then
    if on then s else (s.setFld TOW_EN 1 b).setTow b { s.towRun b with rx := [] }
  else if on then (s.setFld TOW_EN 0 b).towFlush b
  else s

/-- The bytes of TX_BUF that a frame takes. -/
def State.towBuf (s : State) (b n : Nat) : List Nat := (List.range n).map (fun i => bitField (s.fld TOW_TX_BUF b (i / 4)) (8 * (i % 4)) 8)

/-- A write of TX_GO (R499). -/
def State.towGo (s : State) (b : Nat) : State :=
  let x := s.towRun b
  let len := bitField (s.fld TOW_TX_BUF b 0) 24 8
  let addr := s.fld TOW_ADDR b
  let cause := if 4 ≤ x.tx.length then 1 else if 240 < len then 2 else if addr = 0 then 3 else if s.fldOn TOW_EN b then 0 else 4
  if cause ≠ 0 then (s.setFld TOW_TX_ERR 1 b).setFld TOW_TX_ERR_CAUSE cause b
  else s.setTow b { x with tx := x.tx ++ [setAt (s.towBuf b (4 + len)) 1 addr] }

/-- The inter-frame gap of 96 bit times has passed since the bus became idle: the head frame starts, after the waits that
carrier made it begin afresh. -/
def execTowTxStart (b : Fin 2) (defers : Nat) (s : State) : Host.Outcome State Fault Refusal :=
  let x := s.towRun b
  if x.phase = .idle ∧ x.tx ≠ [] ∧ s.safe = false ∧ x.idleFrom + 3840 ≤ s.time.grid then
    let s := (List.range defers).foldl (fun s _ => s.towCount TOW_TX_DEFER b) s
    .next ((s.setFld TOW_STUCK 0 b).setTow b 
      { s.towRun b with phase := .sending, started := true, attempts := x.attempts + 1, startAt := s.time.grid })
  else .next s

/-- A sample differs from the level driven after so many bit times: the jam begins (R494). -/
def execTowCollision (b : Fin 2) (bitTime : Nat) (s : State) : Host.Outcome State Fault Refusal :=
  let x := s.towRun b
  if x.phase = .sending then .next (s.setTow b { x with
    phase := .jam, late := decide (512 ≤ bitTime), startAt := s.time.grid - 40 * bitTime }) else .next s

/-- TOW_BUS_FAIL with its cause: raised once until the bus has carried a frame (R496). -/
def State.towFail (s : State) (b cause : Nat) : State :=
  let x := s.towRun b
  if x.failed then s else (s.setTow b { x with failed := true }).raise Ev.TOW_BUS_FAIL { index := b, data := cause }

/-- What a transmission that collided carried: the bits before the collision, then the jam. -/
def State.towJammed (s : State) (b : Nat) : List Bool :=
  let x := s.towRun b
  (towWire (x.tx.headD [])).take ((s.time.grid - x.startAt) / 40 - 32) ++ towJam

/-- The jam ends: the back-off is drawn, or the frame is discarded. -/
def execTowJamEnd (b : Fin 2) (s : State) : Host.Outcome State Fault Refusal :=
  let x := s.towRun b
  if x.phase ≠ .jam then .next s
  else if x.late then .next (((s.towRelease b (s.towJammed b)).towCount TOW_TX_LATE b).towLeave b 3)
  else
    let s := (s.towRelease b (s.towJammed b)).towCount TOW_TX_COLL b
    let x := s.towRun b
    let n := x.colls + 1
    if n = 16 then
      let s := (s.towCount TOW_TX_EXCESS b).towLeave b 2
      let y := s.towRun b
      let s := s.setTow b { y with excess := y.excess + 1 }
      .next (if y.excess + 1 = 8 then (s.setTow b { s.towRun b with excess := 0 }).towFail b 2 else s)
    else
      let r := x.lfsr.toNat * 2 ^ min n 10 / 2 ^ 32
      .next (s.setTow b { x with colls := n, phase := .backoff (s.time.grid + 20480 * r) })

/-- The back-off wait ends: the frame is sent again under R493. -/
def execTowBackoffEnd (b : Fin 2) (s : State) : Host.Outcome State Fault Refusal :=
  let x := s.towRun b
  match x.phase with
  | .backoff dest => .next (if dest ≤ s.time.grid then s.setTow b { x with phase := .idle } else s)
  | _ => .next s

/-- The head frame has been sent without a collision. -/
def execTowTxDone (b : Fin 2) (s : State) : Host.Outcome State Fault Refusal :=
  let x := s.towRun b
  if x.phase = .sending then
    let f := x.tx.headD []
    let s := s.towRelease b (towWire f)
    let s := (s.towCount TOW_TX_OK b).towCount TOW_TX_SIZE b (towBin (towByte f 3))
    let s := s.towCount TOW_TX_TYPEG b (towByte f 2 / 32)
    .next ((s.setTow b { s.towRun b with failed := false }).towLeave b 1)
  else .next s

/-- Carrier has stayed present for 1 ms: the bus is stuck. -/
def execTowBusFail (b : Fin 2) (s : State) : Host.Outcome State Fault Refusal :=
  .next (if s.fldOn TOW_EN b then (s.setFld TOW_STUCK 1 b).towFail b 1 else s)

/-! ### Receiving (R492, R497, R498) -/

/-- The counter of the first check that a frame fails. -/
def towCheck (f : TowWire) : Option Field :=
  let bs := f.bytes.map (·.toNat)
  let len := towByte bs 3
  if f.manchOk = false then some TOW_RX_MANCH_ERR
  else if f.spare % 8 ≠ 0 then some TOW_RX_ALIGN_ERR
  else if bs.length < 8 then some TOW_RX_RUNT
  else if 240 < len ∨ bs.length ≠ 8 + len then some TOW_RX_LEN_ERR
  else if leNat (f.bytes.drop (4 + len)) ≠ crc32 (bs.take (4 + len)) then some TOW_RX_CRC_ERR
  else none

/-- How a destination address is accepted: 0 unicast, 1 broadcast, 2 promiscuous only. -/
def State.towKind (s : State) (b dst : Nat) : Option Nat :=
  let addr := s.fld TOW_ADDR b
  if addr ≠ 0 ∧ dst = addr then some 0
  else if dst = 255 ∧ s.fldOn TOW_BCAST_EN b then some 1
  else if s.fldOn TOW_PROMISC b then some 2
  else none

/-- Depth of the receive queue at the start of the TOW cycle. -/
def State.towDepth (s : State) (b : Nat) : Nat :=
  let x := s.towRun b
  if x.cycle = s.tow.cycles + 1 then x.startDepth else x.rx.length

/-- A change of the receive queue. -/
def State.setTowRx (s : State) (b : Nat) (rx : List TowRxFrame) (popped : Option TowRxFrame) : State :=
  s.setTow b { s.towRun b with rx := rx, startDepth := s.towDepth b, cycle := s.tow.cycles + 1, popped := popped }

/-- The frame that a pop of this cycle has discarded: RX_INFO and RX_BUF show it until the next cycle (R498). -/
def State.towPopped (s : State) (b : Nat) : Option TowRxFrame :=
  let x := s.towRun b
  if x.cycle = s.tow.cycles + 1 then x.popped else none

/-- The frame that RX_INFO and RX_BUF show. -/
def State.towShown (s : State) (b : Nat) : Option TowRxFrame := s.towPopped b <|> (s.towRun b).rx.head?

/-- A write of RX_POP. -/
def State.towPop (s : State) (b : Nat) : State := 
  if s.towDepth b = 0 then s else s.setTowRx b (s.towRun b).rx.tail (s.towShown b)

/-- A frame that passed the filter. -/
def State.towAccept (s : State) (b kind : Nat) (f : List Nat) (time : Nat) : State :=
  let len := towByte f 3
  let addr := s.fld TOW_ADDR b
  let s := (s.towCount TOW_RX_OK b).towCount (if kind = 0 then TOW_RX_UNICAST else if kind = 1 then TOW_RX_BCAST else TOW_RX_OTHER) b
  let s := (s.towCount TOW_RX_SIZE b (towBin len)).towCount TOW_RX_TYPEG b (towByte f 2 / 32)
  let s := s.when (addr != 0 && towByte f 1 == addr) (fun s => s.towCount TOW_RX_ADDR_CONFLICT b)
  if 16 ≤ s.towDepth b then s.towCount TOW_RX_OVF b
  else
    let s := s.setTowRx b ((s.towRun b).rx ++ [{ bytes := f.take (4 + len), kind := kind, time := time }]) (s.towPopped b)
    s.when (s.fldOn TOW_RX_INT b) (fun s => s.towSignal b)

/-- The frame was on the wire, from its preamble to now, when the clock changed or the safe state was entered: it is
discarded as one with a code violation (R501). -/
def State.towBroken (s : State) (b : Nat) (f : TowWire) : TowWire :=
  let at' := (s.towRun b).brokenAt
  { f with manchOk := f.manchOk && !(at' != 0 && decide (f.time.toNat ≤ at' + 2560 ∧ at' < s.now)) }

/-- TOW_FRAME_RECEIVE: a transmission of another station has ended. -/
def execTowFrameReceive (b : Fin 2) (f : TowWire) (s : State) : Host.Outcome State Fault Refusal :=
  let x := s.towRun b
  if s.fldOn TOW_EN b = false ∨ x.phase = .sending ∨ x.phase = .jam then .next s
  else
    let s := (s.setFld TOW_STUCK 0 b).setTow b { x with idleFrom := s.time.grid }
    match towCheck (s.towBroken b f) with
    | some c => .next (s.towCount c b)
    | none =>
      let bs := f.bytes.map (·.toNat)
      let s := s.setTow b { s.towRun b with failed := false }
      let ty := towByte bs 2
      match s.towKind b (towByte bs 0) with
      | some k =>
        if bitAt (s.fld TOW_TYPE_MASK b (ty / 32)) (ty % 32) then .next (s.towAccept b k bs f.time.toNat)
        else .next (s.towCount TOW_RX_FILTERED b)
      | none => .next (s.towCount TOW_RX_FILTERED b)

/-! ### What reads show (R498, R504) -/

/-- STAT of bus b: CARRIER, TX_ACTIVE, TX_DEPTH and RX_DEPTH. -/
def State.towStat (s : State) (b : Nat) : Nat :=
  let x := s.towRun b
  let wire := x.phase == .sending || x.phase == .jam
  bit (wire || s.fldOn TOW_STUCK b) + 2 * bit (x.phase != .idle) + 16 * x.tx.length + 256 * x.rx.length

/-- Word j of RX_BUF. -/
def State.towRxWord (s : State) (b j : Nat) : Nat :=
  match s.towShown b with
  | some f => ((List.range 4).map (fun i => towByte f.bytes (4 * j + i) * 2 ^ (8 * i))).sum
  | none => 0

end Sys2Proof.Machine
end

