-- ==== Sys2Proof/Machine/Faults.lean ====
section
/-! DEFINITION. Programmed classes, the safe state, SAFE_REQ_N and FAULT_N, on-chip memory errors and rails
(R458, R462 .. R469, R554). -/

namespace Sys2Proof.Machine
open Reg

/-! ### Classes (R458, R459) -/

/-- A write of FLT_SEV[e]: the programmed class as R458 bounds it. -/
def State.writeSev (s : State) (e v : Nat) : State := s.setFld FSEV_CLASS (FSEV_CLASS.norm e (v % 8)) e

/-- The highest class among active records, and their number. -/
def State.activeFaults (s : State) : List Nat := (List.range 16).filter (fun i => s.fldOn FREC_ACTIVE i)

def State.highestFault (s : State) : Nat := (s.activeFaults.map (fun i => s.fld FREC_CLASS i)).foldl max 0

/-- FAULT_N is driven low (R466, R477, R515). -/
def State.faultLow (s : State) : Bool :=
  s.safe || s.clk.noStart || s.boot.recovery ||
    (s.fldOn FLT_FN_MIN && s.activeFaults.any (fun i => decide (s.fld FLT_FN_MIN ≤ s.fld FREC_CLASS i)))

/-! ### The safe state (R463) -/

/-- The descriptor that engine e processes is abandoned without a record. -/
def State.abandonCur (s : State) (e : Nat) : State :=
  let g := s.engine e
  match g.cur with
  | none => s
  | some r => (s.setEngine e { g with cur := none, stuck := false }).setRing r.part r.ring (s.ring r.part r.ring).pop

/-- A scheduled group, flip or take is discarded without an event. -/
def Take.isScheduled (k : Take) : Bool := k.state == .scheduled || k.state == .sealed || k.state == .decided

def State.discardScheduled (s : State) : State :=
  let s := s.each (s.take.takes.filter Take.isScheduled) State.discardTake
  s.setCway { s.cway with handovers := [] }

/-- Transmit lanes fall idle and AES3 outputs are driven low. -/
def State.idleOutputs (s : State) : State :=
  let s := s.resetFields [SDITX_ACTIVE, SDITX_RATE_OUT] (fun _ _ => true)
  s.resetFields [AESOUT_ACTIVE] (fun _ _ => true)

/-- Domains whose islands the safe state holds in ISL reset. -/
def safeDomains : List Nat :=
  (List.range 44).map (92 + ·) ++ [137, 138] ++ (List.range 32).map (139 + ·)

/-- The safe state is reached, for record i whose detection instant is t. -/
def State.reachSafe (s : State) (i t : Nat) : State :=
  let s := (s.setFld FLT_SAFE 1).setFld FLT_SAFE_REC i
  let s := s.setPair FLT_SAFE_T_LO FLT_SAFE_T_HI s.now
  let s := (s.setFld FLT_SAFE_LAT_NS (s.now - t)).addFld FLT_SAFE_COUNT 1
  let s := s.setFld FREC_CAUSED_SAFE 1 i
  let s := { s with faults := { s.faults with safeDue := none } }
  let s := s.enterRole Role.SAFE 0
  let s := (s.upTo 16 State.abandonCur).discardScheduled
  let s := (s.idleOutputs.each safeDomains State.islReset).upTo 2 State.towAbandon
  s.raise Ev.SAFE_ENTER

/-- SAFE_STATE_REACHED: within 8 us of the detection of a fault of class CRITICAL or FATAL. -/
def execSafeStateReached (s : State) : Host.Outcome State Fault Refusal :=
  match s.faults.safeDue with
  | some (i, t) => .next (s.reachSafe i t)
  | none => .next s

/-! ### SAFE_REQ_N (R467) -/

/-- SAFE_REQ_N has been low for 1 us. -/
def execSafeReq (s : State) : Host.Outcome State Fault Refusal :=
  if s.faults.safeReqLow then .next s
  else .next (({ s with faults := { s.faults with safeReqLow := true } }).raise Ev.SAFE_REQ { holds := true })

/-- SAFE_REQ_N rises: the record becomes acknowledgeable, unless an internal request still stands (R481). -/
def execSafeReqNRelease (s : State) : Host.Outcome State Fault Refusal :=
  let s := { s with faults := { s.faults with safeReqLow := false } }
  .next (if s.clk.bothLost then s else s.conditionEnds Ev.SAFE_REQ 0)

/-- A reset has ended: the device re-enters the safe state at once while FATAL is latched or SAFE_REQ_N is low (R464). -/
def State.reenterSafe (s : State) : State :=
  let f := s.faults
  let s := s.when (s.fldOn FLT_FATAL) (fun s =>
    s.raise (s.fld FLT_FATAL_EVENT) { index := f.fatalIndex, sub := f.fatalSub, data := f.fatalData })
  let s := s.when f.safeReqLow (fun s => s.raise Ev.SAFE_REQ { holds := true })
  match s.faults.safeDue with
  | some (i, t) => s.reachSafe i t
  | none => s

/-! ### On-chip memories (R469) -/

/-- The power domain that holds a memory of the table of R469: bank or probe core `unit` where there are several. -/
def sramDomain (mem unit : Nat) : Nat :=
  match mem with
  | 4 => 182
  | 5 => 173 + unit % 8
  | 6 => 139 + unit % 32
  | 7 => 181
  | 8 => 137
  | _ => 6

/-- A corrected error in memory `mem`: SRAM_CE comes at most once per second and memory, with the errors since the last. Those
that come too soon are reported with the next one that does not: DESIGN CHOICE, log 87. -/
def State.sramCorrected (s : State) (mem unit : Nat) : State :=
  let key := 256 * mem + sramDomain mem unit
  let x : Nat × Nat := Tab.get (0, 0) s.faults.corrected key
  let n := x.1 + 1
  let due := x.2 = 0 ∨ x.2 - 1 + 10 ^ 9 ≤ s.time.grid
  let y : Nat × Nat := if due then (0, s.time.grid + 1) else (n, x.2)
  let s := { s with faults := { s.faults with corrected := Tab.set (0, 0) s.faults.corrected key y } }
  s.when due (fun s => s.raise Ev.SRAM_CE { index := sramDomain mem unit, sub := mem, data := n % 2 ^ 32 })

def execSramCe (mem : Fin 9) (unit : Fin 32) (s : State) : Host.Outcome State Fault Refusal :=
  .next (if mem.val = 0 then s else s.sramCorrected mem unit)

/-- An uncorrectable error: its word address, and the probe core for code 6. -/
def execCtrlUe (mem : Fin 9) (unit : Fin 32) (addr : Word) (s : State) : Host.Outcome State Fault Refusal :=
  .next (if mem.val = 0 then s
    else s.raise Ev.CTRL_UE
      { index := sramDomain mem unit, sub := mem, data := addr.toNat + (if mem.val = 6 then 2 ^ 48 * unit.val else 0) })

/-! ### Rails (R554) -/

/-- A rail leaves its operating range above brown-out. In reset extension (stage 0) the event waits for the release of POR,
and the device stays there until then. DEDUCED, log 92: "during boot" means reset extension. -/
def execRailFault (rail : Fin 13) (s : State) : Host.Outcome State Fault Refusal :=
  if s.faults.railsOut.contains rail.val then .next s
  else
    let s := { s with faults := { s.faults with railsOut := rail.val :: s.faults.railsOut } }
    if s.fld BOOT_STAGE = 0 then
      .next { s with faults := { s.faults with railsAtBoot := s.faults.railsAtBoot ++ [rail.val] } }
    else .next (s.raise Ev.RAIL_FAULT { data := rail, holds := true })

/-- A rail comes back into range; HOLDS of the record becomes 0 once no rail is out of range. -/
def execRailReturn (rail : Fin 13) (s : State) : Host.Outcome State Fault Refusal :=
  let s := { s with faults := { s.faults with railsOut := s.faults.railsOut.filter (· != rail.val) } }
  .next (if s.faults.railsOut.isEmpty then s.conditionEnds Ev.RAIL_FAULT 0 else s)

end Sys2Proof.Machine
end

