-- ==== Sys2Proof/Machine/Clk.lean ====
section
/-! DEFINITION. Clock monitors, their fallbacks, clock switches and the end of reset extension (R473 .. R486). -/

namespace Sys2Proof.Machine
open Reg

/-! ### Monitors (R478, R479) -/

def State.mon (s : State) (m : Nat) : MonRun := Tab.get {} s.clk.mons m

def State.setMon (s : State) (m : Nat) (x : MonRun) : State :=
  { s with clk := { s.clk with mons := Tab.set {} s.clk.mons m x } }

/-- The comparison clock of a monitor: 0 CORE_REFCLK, 1 REFOSC. -/
def comparisonClock (m : Nat) : Nat := if m = 0 ∨ (3 ≤ m ∧ m ≤ 7) then 1 else 0

/-- Frequency checks are suspended: both comparison clocks have tripped their stop checks. -/
def State.freqSuspended (s : State) : Bool := (s.mon 0).stop && (s.mon 1).stop

/-- MSTATE and CMP_ALT of every monitor. A monitor whose checks pass again keeps what it showed until it is GOOD. -/
def State.refreshMons (s : State) : State :=
  s.upTo 10 (fun s m =>
    let x := s.mon m
    let alt := (s.mon (comparisonClock m)).stop && !s.freqSuspended
    let was := s.fld CLKMON_MSTATE m
    let st := if x.stop then 1 else if s.freqSuspended then 3 else if x.freq then 2
      else if x.goodFrom ≠ 0 then (if was = 3 then 2 else was) else 0
    (s.setFld CLKMON_MSTATE st m).setFld CLKMON_CMP_ALT (bit alt) m)

/-- The largest deviation that a frequency check passes, in ppm; none: no check. -/
def State.freqBound (s : State) (m : Nat) : Option Nat :=
  if m = 9 then some 200000 else if s.fld CLK_FREQ_TOL_PPM = 0 then none else some (s.fld CLK_FREQ_TOL_PPM)

/-! ### Switching a clock (R484, R485) -/

def State.mux (s : State) (i : Nat) : ClkMux := Tab.get {} s.clk.muxes i

def State.setMux (s : State) (i : Nat) (x : ClkMux) : State :=
  { s with clk := { s.clk with muxes := Tab.set {} s.clk.muxes i x } }

/-- The monitor of the clock that source code `code` of an island's multiplexer selects: AON and TOW by the codes of
CLK_STAT; CTRL and FABRIC 0 the core PLL, 1 ROSC. -/
def muxClock (i code : Nat) : Nat :=
  if i = 0 then (if code = 0 then 9 else 0)
  else if i = 144 then (if code = 0 then 0 else 6)
  else if code = 0 then 6 else 9

/-- A switch begins, unless the target clock's own stop check has tripped or the target feeds the island already. -/
def State.beginSwitch (s : State) (i code : Nat) : State :=
  let x := s.mux i
  if x.src = code then s.setMux i { x with dest := none }
  else if (s.mon (muxClock i code)).stop then s
  else s.setMux i { x with dest := some code, back := false }

/-- A switch back begins. -/
def State.beginReturn (s : State) (i code : Nat) : State :=
  let s := s.beginSwitch i code
  s.setMux i { s.mux i with back := (s.mux i).dest.isSome }

/-- The new source feeds the island. A Towpath frame in transmission is abandoned by a switch of TOW (R501). -/
def State.endSwitch (s : State) (i code : Nat) : State :=
  let s := s.setMux i { src := code, dest := none }
  if i = 0 then s.setFld CLK_AON_SRC code
  else if i = 144 then (s.setFld CLK_TOW_SRC code).upTo 2 State.towAbandon
  else s

/-- Pending switches to a clock that has stopped are abandoned. -/
def State.cancelSwitches (s : State) (m : Nat) : State :=
  s.each [0, 6, 7, 144] (fun s i =>
    match (s.mux i).dest with
    | some code => if muxClock i code = m then s.setMux i { s.mux i with dest := none } else s
    | none => s)

/-! ### Fallback (R480, R481) -/

/-- A PLL (0 core, 1 memory, 2 timing) is to lock to a reference: 0 CORE_REFCLK, 1 REFOSC. -/
def State.startRelock (s : State) (pll ref : Nat) : State :=
  { s with clk := { s.clk with relock := Tab.set 0 s.clk.relock pll (ref + 1) } }

def State.cancelRelock (s : State) (pll : Nat) : State :=
  { s with clk := { s.clk with relock := Tab.set 0 s.clk.relock pll 0 } }

/-- CLK_FAULT of R482. -/
def State.clkFault (s : State) (m check : Nat) (pre : Bool) (source : Nat) : State :=
  s.raise Ev.CLK_FAULT { data := m + 16 * check + 256 * bit pre + 2 ^ 16 * source, holds := true }

/-- CORE_REFCLK has stopped. -/
def State.coreRefLost (s : State) : State :=
  let s := ((s.setFld CLK_CORE_SRC 2).setFld CLK_MEM_SRC 2).startRelock 0 1
  let s := ((s.startRelock 1 1).beginSwitch 0 0).beginSwitch 144 1
  s.unlockPll .causeway

/-- CORE_REFCLK and REFOSC have both stopped (R481). -/
def State.bothRefsLost (s : State) (m : Nat) (pre : Bool) : State :=
  let s := ((s.setFld CLK_CORE_SRC 2).setFld CLK_MEM_SRC 2).cancelRelock 0
  let s := (s.cancelRelock 1).cancelRelock 2
  let s := ((s.beginSwitch 0 0).beginSwitch 6 1).beginSwitch 7 1
  let s := s.when (m = 0) (fun s => s.unlockPll .causeway)
  let s := { s with clk := { s.clk with bothLost := true } }
  (s.clkFault m 3 pre 2).raise Ev.SAFE_REQ { data := 1, holds := true }

/-- The source code of the clock that a PLL locks to now: CORE_SRC, MEM_SRC, or the timing PLL's reference so coded. -/
def State.pllSource (s : State) (pll : Nat) : Nat :=
  if pll = 0 then s.fld CLK_CORE_SRC else if pll = 1 then s.fld CLK_MEM_SRC else 1 - s.fld CLK_TIME_SRC

/-- The fallback of a trip, and its event. `check`: 1 stop, 2 frequency. -/
def State.fallback (s : State) (m check : Nat) (pre : Bool) : State :=
  let s := s.when (check = 1) (fun s => s.cancelSwitches m)
  if m ≤ 1 ∧ check = 1 ∧ s.freqSuspended then
    if s.clk.bothLost then s else s.bothRefsLost m pre
  else if m = 0 then
    if check = 1 then s.coreRefLost.clkFault 0 1 pre 1 else s.clkFault 0 2 pre (s.pllSource 0)
  else if m = 1 then
    if check = 1 then (s.startRelock 2 0).clkFault 1 1 pre 0 else s.clkFault 1 2 pre (s.pllSource 2)
  else if m ≤ 5 then s.raiseOpen Ev.REFCLK_LOST { index := m, holds := true }
  else if m ≤ 8 then
    let src := s.pllSource (m - 6)
    (if src = 2 then s else s.startRelock (m - 6) src).clkFault m check pre src
  else
    let s := if (s.mux 0).src = 1 then s.setMux 0 { s.mux 0 with dest := none } else s.beginSwitch 0 1
    s.clkFault 9 check pre (1 - s.fld CLK_AON_SRC)

/-- A check of monitor m trips. Before ROSC_OK the trip is latched and no fallback is taken (R483). -/
def State.trip (s : State) (m check : Nat) : State :=
  let x := s.mon m
  let x := if check = 1 then { x with stop := true, goodFrom := 0 } else { x with freq := true, goodFrom := 0 }
  let s := s.addFld CLKMON_TRIPS 1 m
  if s.fldOn CLK_ROSC_OK then ((s.setMon m x).refreshMons).fallback m check false
  else
    let x := if x.latched = 0 then { x with latched := check } else x
    ((s.setMon m x).setFld CLK_PRE_TRIP 1).refreshMons

/-- A clock of R481 runs again. -/
def State.refReturns (s : State) : State :=
  if s.clk.bothLost && !s.freqSuspended then
    let s := { s with clk := { s.clk with bothLost := false } }
    if s.faults.safeReqLow then s else s.conditionEnds Ev.SAFE_REQ 0
  else s

/-- A check of monitor m passes. Once neither fails the wait of RETURN_MS begins. -/
def State.checkPasses (s : State) (m check : Nat) : State :=
  let x := s.mon m
  let y := if check = 1 then { x with stop := false } else { x with freq := false }
  let y := if (x.stop || x.freq) && !y.stop && !y.freq then { y with goodFrom := s.time.grid + 1 } else y
  (s.setMon m y).refReturns.refreshMons

/-- CLOCK_STOP_CHECK: 256 ROSC cycles without an edge, or an edge in them. -/
def execClockStopCheck (m : Fin 10) (stopped : Bool) (s : State) : Host.Outcome State Fault Refusal :=
  .next (if s.fldOn CLKMON_EN m = false then s
    else if stopped then (if (s.mon m).stop then s else s.trip m 1)
    else if (s.mon m).stop then s.checkPasses m 1 else s)

/-- CLOCK_FREQUENCY_CHECK: the deviation counted in one window, in ppm. -/
def execClockFrequencyCheck (m : Fin 10) (ppm : BitVec 32) (s : State) : Host.Outcome State Fault Refusal :=
  .next (if s.fldOn CLKMON_EN m = false ∨ s.freqSuspended = true then s
    else
      let s := s.setFld CLKMON_LAST_PPM ppm.toNat m
      match s.freqBound m with
      | none => if (s.mon m).freq then s.checkPasses m 2 else s
      | some b =>
        if b < ppm.toInt.natAbs then (if (s.mon m).freq then s else s.trip m 2)
        else if (s.mon m).freq then s.checkPasses m 2 else s)

/-! ### Return (R486) -/

/-- The fallback of a clock that is GOOD again reverses. -/
def State.reverse (s : State) (m : Nat) : State :=
  if m = 0 then
    let s := (s.startRelock 0 0).startRelock 1 0
    (((s.beginReturn 0 1).beginReturn 144 0).beginReturn 6 0).beginReturn 7 0
  else if m = 1 then
    let s := s.startRelock 2 1
    if s.fld CLK_CORE_SRC = 2 ∧ (s.mon 0).stop = true then
      (((s.startRelock 0 1).startRelock 1 1).beginReturn 6 0).beginReturn 7 0
    else s
  else if m = 9 then (if (s.mon 0).stop then s.beginSwitch 0 0 else s)
  else s

/-- Monitors whose trip raises CLK_FAULT. -/
def clkFaultMons : List Nat := [0, 1, 6, 7, 8, 9]

/-- A monitor has tripped and is not GOOD again. -/
def State.tripStands (s : State) (m : Nat) : Bool :=
  let x := s.mon m
  x.stop || x.freq || x.goodFrom != 0

/-- CLOCK_RETURN: both checks of a tripped clock have passed for RETURN_MS. -/
def execClockReturn (m : Fin 10) (s : State) : Host.Outcome State Fault Refusal :=
  let x := s.mon m
  if x.goodFrom ≠ 0 ∧ s.fldOn CLK_ROSC_OK = true ∧ s.expired (x.goodFrom - 1) (s.fld CLK_RETURN_MS * 1000000) 1 = true then
    let s := ((s.setMon m { x with goodFrom := 0 }).refreshMons).reverse m
    .next (if clkFaultMons.contains m.val then
        (if clkFaultMons.any s.tripStands then s else s.conditionEnds Ev.CLK_FAULT 0)
      else s.conditionEnds Ev.REFCLK_LOST m)
  else .next s

/-- PLL_RELOCK: a PLL has locked to the reference it was given. -/
def execPllRelock (pll : Fin 3) (s : State) : Host.Outcome State Fault Refusal :=
  match Tab.get 0 s.clk.relock pll with
  | 0 => .next s
  | ref + 1 =>
    let s := s.cancelRelock pll
    .next (if pll.val = 0 then s.setFld CLK_CORE_SRC ref
      else if pll.val = 1 then s.setFld CLK_MEM_SRC ref
      else s.setFld CLK_TIME_SRC (1 - ref))

/-- The clock that feeds an island has stopped. -/
def State.oldStopped (s : State) (i : Nat) : Bool := (s.mon (muxClock i (s.mux i).src)).stop

/-- CLOCK_SWITCH_DONE: both clocks run, and the target has had two cycles. -/
def execClockSwitchDone (isl : Fin 145) (s : State) : Host.Outcome State Fault Refusal :=
  match (s.mux isl).dest with
  | some code => .next (if s.oldStopped isl then s else s.endSwitch isl code)
  | none => .next s

/-- CLKSW_FORCED: the old clock has stopped, and 64 cycles of the target have passed; a return is never forced (R486). The
source codes of CTRL and FABRIC have no place in CLK_STAT, and are free values in DATA (log 14). -/
def execClkswForced (isl : Fin 145) (s : State) : Host.Outcome State Fault Refusal :=
  match (s.mux isl).dest with
  | none => .next s
  | some code =>
    if s.oldStopped isl && !(s.mux isl).back then
      let old := (s.mux isl).src
      let s := (s.endSwitch isl code).addFld CLK_FORCED_CNT 1
      .next (if isl.val = 0 ∨ isl.val = 144 then
          s.raise Ev.CLKSW_FORCED { data := isl.val + 2 ^ 8 * old + 2 ^ 12 * code }
        else s.advance.raise Ev.CLKSW_FORCED
          { data := isl.val + 2 ^ 8 * (Config.eventData Ev.CLKSW_FORCED s.free % 256) })
    else .next s

/-- A write of EN: a clock that is not monitored has no trip. -/
def State.writeMonEn (s : State) (m v : Nat) : State :=
  let s := s.setFld CLKMON_EN (CLKMON_EN.norm m (v % 2)) m
  if s.fldOn CLKMON_EN m then s else ((s.setMon m {}).refreshMons).conditionEnds Ev.REFCLK_LOST m

/-! ### The end of reset extension (R477, R483) -/

/-- ROSC_OK: latched trips take their fallback and are raised with PRE = 1, and AON goes to CORE_REFCLK if it is good. -/
def execRoscOk (s : State) : Host.Outcome State Fault Refusal :=
  if s.fldOn CLK_ROSC_OK then .next s
  else
    let s := { s.setFld CLK_ROSC_OK 1 with clk := { s.clk with noStart := false } }
    let latched := (List.range 10).filterMap (fun m => if (s.mon m).latched = 0 then none else some (m, (s.mon m).latched))
    let s := s.each latched (fun s (m, _) => s.setMon m { s.mon m with latched := 0 })
    let s := s.each latched (fun s (m, check) => s.fallback m check true)
    .next (s.beginSwitch 0 1)

/-- ROSC_START_TIMEOUT: reset extension stays, with FAULT_N low. -/
def execRoscStartTimeout (s : State) : Host.Outcome State Fault Refusal :=
  .next (if s.fldOn CLK_ROSC_OK then s else { s with clk := { s.clk with noStart := true } })

end Sys2Proof.Machine
end

