-- ==== Sys2Proof/Machine/Sha.lean ====
section
/-! DEFINITION. SHA-384, which the image check and the delta packages name (R513, R514, R517, R519). The spec names the
function and not its steps: they are PRESUMED as FIPS 180-4 has them (log 89). -/

namespace Sys2Proof.Machine

/-- The eight working words of a hash. -/
structure ShaWords where
  a : Nat
  b : Nat
  c : Nat
  d : Nat
  e : Nat
  f : Nat
  g : Nat
  h : Nat
  deriving DecidableEq, Repr

/-- A 64-bit word turned right. -/
def turn64 (x n : Nat) : Nat := x / 2 ^ n + x % 2 ^ n * 2 ^ (64 - n)

/-- The words that a hash starts with. -/
def shaStart : ShaWords :=
  { a := 0xcbbb9d5dc1059ed8, b := 0x629a292a367cd507, c := 0x9159015a3070dd17, d := 0x152fecd8f70e5939
    e := 0x67332667ffc00b31, f := 0x8eb44a8768581511, g := 0xdb0c2e0d64f98fa7, h := 0x47b5481dbefa4fa4 }

/-- The constants of the eighty rounds. -/
def shaRounds : List Nat :=
  [0x428a2f98d728ae22, 0x7137449123ef65cd, 0xb5c0fbcfec4d3b2f, 0xe9b5dba58189dbbc,
   0x3956c25bf348b538, 0x59f111f1b605d019, 0x923f82a4af194f9b, 0xab1c5ed5da6d8118,
   0xd807aa98a3030242, 0x12835b0145706fbe, 0x243185be4ee4b28c, 0x550c7dc3d5ffb4e2,
   0x72be5d74f27b896f, 0x80deb1fe3b1696b1, 0x9bdc06a725c71235, 0xc19bf174cf692694] ++
  [0xe49b69c19ef14ad2, 0xefbe4786384f25e3, 0x0fc19dc68b8cd5b5, 0x240ca1cc77ac9c65,
   0x2de92c6f592b0275, 0x4a7484aa6ea6e483, 0x5cb0a9dcbd41fbd4, 0x76f988da831153b5,
   0x983e5152ee66dfab, 0xa831c66d2db43210, 0xb00327c898fb213f, 0xbf597fc7beef0ee4,
   0xc6e00bf33da88fc2, 0xd5a79147930aa725, 0x06ca6351e003826f, 0x142929670a0e6e70] ++
  [0x27b70a8546d22ffc, 0x2e1b21385c26c926, 0x4d2c6dfc5ac42aed, 0x53380d139d95b3df,
   0x650a73548baf63de, 0x766a0abb3c77b2a8, 0x81c2c92e47edaee6, 0x92722c851482353b,
   0xa2bfe8a14cf10364, 0xa81a664bbc423001, 0xc24b8b70d0f89791, 0xc76c51a30654be30,
   0xd192e819d6ef5218, 0xd69906245565a910, 0xf40e35855771202a, 0x106aa07032bbd1b8] ++
  [0x19a4c116b8d2d0c8, 0x1e376c085141ab53, 0x2748774cdf8eeb99, 0x34b0bcb5e19b48a8,
   0x391c0cb3c5c95a63, 0x4ed8aa4ae3418acb, 0x5b9cca4f7763e373, 0x682e6ff3d6b2b8a3,
   0x748f82ee5defb2fc, 0x78a5636f43172f60, 0x84c87814a1f0ab72, 0x8cc702081a6439ec,
   0x90befffa23631e28, 0xa4506cebde82bde9, 0xbef9a3f7b2c67915, 0xc67178f2e372532b] ++
  [0xca273eceea26619c, 0xd186b8c721c0c207, 0xeada7dd6cde0eb1e, 0xf57d4f7fee6ed178,
   0x06f067aa72176fba, 0x0a637dc5a2c898a6, 0x113f9804bef90dae, 0x1b710b35131c471b,
   0x28db77f523047d84, 0x32caab7b40c72493, 0x3c9ebe0a15c9bebc, 0x431d67c49c100d4c,
   0x4cc5d4becb3e42b6, 0x597f299cfc657e2a, 0x5fcb6fab3ad6faec, 0x6c44198c4a475817]

/-- One round, with its constant and its word of the schedule. -/
def shaRound (x : ShaWords) (k w : Nat) : ShaWords :=
  let pick := (x.e &&& x.f) + ((2 ^ 64 - 1 - x.e) &&& x.g)
  let most := (x.a &&& x.b) ^^^ (x.a &&& x.c) ^^^ (x.b &&& x.c)
  let t := x.h + (turn64 x.e 14 ^^^ turn64 x.e 18 ^^^ turn64 x.e 41) + pick + k + w
  let u := (turn64 x.a 28 ^^^ turn64 x.a 34 ^^^ turn64 x.a 39) + most
  { a := (t + u) % 2 ^ 64, b := x.a, c := x.b, d := x.c, e := (x.d + t) % 2 ^ 64, f := x.e, g := x.f, h := x.g }

/-- The word of the schedule sixteen rounds after the first of `w`. -/
def shaNext (w : List Nat) : Nat :=
  let x := w.getD 1 0
  let y := w.getD 14 0
  (w.getD 0 0 + (turn64 x 1 ^^^ turn64 x 8 ^^^ x / 2 ^ 7) + w.getD 9 0 + (turn64 y 19 ^^^ turn64 y 61 ^^^ y / 2 ^ 6)) % 2 ^ 64

/-- The rounds of one block; `w`: the next sixteen words of the schedule. -/
def shaMix : List Nat → List Nat → ShaWords → ShaWords
  | [], _, x => x
  | k :: ks, w, x => shaMix ks (w.tail ++ [shaNext w]) (shaRound x k (w.headD 0))

/-- One block of sixteen words is taken into the hash. -/
def shaBlock (x : ShaWords) (w : List Nat) : ShaWords :=
  let y := shaMix shaRounds w x
  { a := (x.a + y.a) % 2 ^ 64, b := (x.b + y.b) % 2 ^ 64, c := (x.c + y.c) % 2 ^ 64, d := (x.d + y.d) % 2 ^ 64
    e := (x.e + y.e) % 2 ^ 64, f := (x.f + y.f) % 2 ^ 64, g := (x.g + y.g) % 2 ^ 64, h := (x.h + y.h) % 2 ^ 64 }

/-- Bytes as one number, the most significant first. -/
def bigEndian (bytes : List Nat) : Nat := bytes.foldl (fun n b => 256 * n + b) 0

/-- The sixteen words of block n of a message, padded and ended by its length in bits. -/
def shaWords (bytes : List Nat) (n : Nat) : List Nat :=
  let len := bytes.length
  let blocks := (len + 17 + 127) / 128
  (List.range 16).map (fun i =>
    if n + 1 = blocks ∧ 14 ≤ i then (8 * len) / 2 ^ (64 * (15 - i)) % 2 ^ 64
    else bigEndian ((List.range 8).map (fun j =>
      let p := 128 * n + 8 * i + j
      if p = len then 0x80 else bytes.getD p 0)))

/-- SHA-384 of bytes, as a number of 384 bits. -/
def sha384 (bytes : List Nat) : Nat :=
  let x := (List.range ((bytes.length + 17 + 127) / 128)).foldl (fun x n => shaBlock x (shaWords bytes n)) shaStart
  [x.a, x.b, x.c, x.d, x.e, x.f].foldl (fun n w => 2 ^ 64 * n + w) 0

end Sys2Proof.Machine
end

