-- ==== Sys2Proof/Machine/Ecdsa.lean ====
section
/-! DEFINITION. Checking an ECDSA signature over the curve P-384, which the image check names (R513, R514). The spec names the
scheme and not its steps: they and the curve are PRESUMED as FIPS 186 and SP 800-186 have them (log 89). -/

namespace Sys2Proof.Machine

/-- The prime of the field. -/
def ecPrime : Nat := 2 ^ 384 - 2 ^ 128 - 2 ^ 96 + 2 ^ 32 - 1

/-- The number of points. -/
def ecOrder : Nat :=
  0xffffffffffffffffffffffffffffffffffffffffffffffffc7634d81f4372ddf581a0db248b0a77aecec196accc52973

/-- The constant term of the curve y² = x³ - 3 x + b. -/
def ecConst : Nat :=
  0xb3312fa7e23ee7e4988e056be3f82d19181d9c6efe8141120314088f5013875ac656398d8a2ed19d2a85c8edd3ec2aef

/-- A point in projective form: x = X / Z², y = Y / Z³; Z = 0 is the point at infinity. -/
structure EcPoint where
  x : Nat
  y : Nat
  z : Nat
  deriving DecidableEq, Repr

/-- The generator. -/
def ecBase : EcPoint :=
  { x := 0xaa87ca22be8b05378eb1c71ef320ad746e1d3b628ba79b9859f741e082542a385502f25dbf55296c3a545e3872760ab7
    y := 0x3617de4a96262c6f5d9e98bf9292dc29f8f41dbd289a147ce9da3113b5f0b8c00a60b1ce1d7e819d7a431d7c90ea0e5f
    z := 1 }

def ecMul (a b : Nat) : Nat := a * b % ecPrime

def ecSub (a b : Nat) : Nat := (a + ecPrime - b) % ecPrime

/-- A point added to itself. -/
def ecDouble (p : EcPoint) : EcPoint :=
  let zz := ecMul p.z p.z
  let yy := ecMul p.y p.y
  let m := ecMul 3 (ecMul (ecSub p.x zz) (p.x + zz))
  let t := ecMul 4 (ecMul p.x yy)
  let x := ecSub (ecMul m m) (2 * t % ecPrime)
  { x := x, y := ecSub (ecMul m (ecSub t x)) (ecMul 8 (ecMul yy yy)), z := ecMul 2 (ecMul p.y p.z) }

/-- Two points added. -/
def ecAdd (p q : EcPoint) : EcPoint :=
  if p.z = 0 then q
  else if q.z = 0 then p
  else
    let pz := ecMul p.z p.z
    let qz := ecMul q.z q.z
    let u := ecMul p.x qz
    let v := ecMul p.y (ecMul qz q.z)
    let h := ecSub (ecMul q.x pz) u
    let r := ecSub (ecMul q.y (ecMul pz p.z)) v
    if h = 0 then (if r = 0 then ecDouble p else { x := 1, y := 1, z := 0 })
    else
      let hh := ecMul h h
      let cube := ecMul h hh
      let w := ecMul u hh
      let x := ecSub (ecSub (ecMul r r) cube) (2 * w % ecPrime)
      { x := x, y := ecSub (ecMul r (ecSub w x)) (ecMul v cube), z := ecMul h (ecMul p.z q.z) }

/-- u P + v Q, over the `n` highest of 384 bits of both factors. -/
def ecComb (u v : Nat) (p q both : EcPoint) : Nat → EcPoint
  | 0 => { x := 1, y := 1, z := 0 }
  | n + 1 =>
    let t := ecDouble (ecComb u v p q both n)
    match bitAt u (383 - n), bitAt v (383 - n) with
    | true, true => ecAdd t both
    | true, false => ecAdd t p
    | false, true => ecAdd t q
    | false, false => t

/-- b to the power e modulo m, over the `n` highest of 384 bits of e. -/
def powMod (b e m : Nat) : Nat → Nat
  | 0 => 1
  | n + 1 =>
    let t := powMod b e m n
    if bitAt e (383 - n) then t * t % m * b % m else t * t % m

/-- The signature r, s over a hash verifies under the key with coordinates x, y. -/
def ecVerify (x y r s hash : Nat) : Bool :=
  let onCurve := ecMul y y == ecSub (ecMul (ecMul x x) x + ecConst) (3 * x % ecPrime)
  if onCurve = false ∨ ecPrime ≤ x ∨ ecPrime ≤ y ∨ r = 0 ∨ ecOrder ≤ r ∨ s = 0 ∨ ecOrder ≤ s then false
  else
    let key : EcPoint := { x := x, y := y, z := 1 }
    let w := powMod s (ecOrder - 2) ecOrder 384
    let t := ecComb (hash * w % ecOrder) (r * w % ecOrder) ecBase key (ecAdd ecBase key) 384
    let zz := ecMul t.z t.z
    t.z != 0 && (t.x == ecMul r zz || (decide (r + ecOrder < ecPrime) && t.x == ecMul (r + ecOrder) zz))

end Sys2Proof.Machine
end

