-- ==== Sys2Proof/Machine/Mirror.lean ====
section
/-! DEFINITION. The mirror of a descriptor to the standby, and what becomes of the group of a descriptor that ends early
(R98, R440, R446). -/

namespace Sys2Proof.Machine
open Reg

/-- Opcodes that the active device sends to its standby (R440). -/
def mirroredOp (op : Nat) : Bool :=
  [0x10, 0x11, 0x12, 0x13, 0x14, 0x15, 0x16, 0x20, 0x21, 0x22, 0x30, 0x33, 0x40, 0x41, 0x50, 0x51, 0x70].contains op

/-- Words in pairs, as 64-bit payload words. -/
def pairWords : List Nat → List Nat
  | a :: b :: rest => word64 a b :: pairWords rest
  | [a] => [a]
  | [] => []

/-- Bytes as 64-bit payload words, the last filled with zeros. -/
def byteWords (bs : List Byte) : List Nat := pairWords (leWords bs)

/-- MIRROR_DATA messages for a buffer from an offset on; a message carries 4,094 words of it. -/
def dataMsgs (id at' : Nat) (bs : List Byte) : Nat → List CwMsg
  | 0 => []
  | n + 1 =>
    if bs.isEmpty then []
    else
      { ty := Msg.MIRROR_DATA, words := word64 id at' :: byteWords (bs.take 32752) } ::
        dataMsgs id (at' + 32752) (bs.drop 32752) n

/-- The messages of a mirrored descriptor with its buffer (R446). -/
def cmdMsgs (id part status cseq : Nat) (desc : List Nat) (data : List Byte) : List CwMsg :=
  { ty := Msg.MIRROR_CMD, words := [word64 id (part + 2 ^ 8 * status), cseq % 2 ^ 32] ++ pairWords desc } ::
    dataMsgs id 0 data data.length

def State.sendAll (s : State) (ms : List CwMsg) : State := s.each ms (fun s m => s.send m.ty m.words)

/-- A descriptor that has ended with a status is sent to the standby, whatever the status; `t` is the milepost in force, 0 for
none (R440, R446). -/
def State.mirrorDesc (s : State) (r : Request) (status cseq t : Nat) : State :=
  if s.mirrors && mirroredOp r.opcode && !r.checkOnly then
    let id := s.cway.cmdId
    let dated := (r.opcode == 0x20 || r.opcode == 0x21 || r.opcode == 0x70) && t != 0
    let desc := (List.range 16).map (fun i =>
      if i = 2 ∨ i = 3 then 0 else if dated && i == 6 then t % 2 ^ 32 else if dated && i == 7 then t / 2 ^ 32 else r.word i)
    let s := { s with cway := { s.cway with cmdId := (id + 1) % 2 ^ 32 } }
    s.sendAll (cmdMsgs id r.part status cseq desc r.buf)
  else s

/-! ### Descriptors that end without having been processed (R98, R99, R440) -/

/-- Statuses that a descriptor gets without being processed: its buffer could not be read, its engine was reset, its
partition was reset. -/
def endedEarly (status : Nat) : Bool := status == St.HOST_FAULT || status == St.ENGINE_RESET || status == St.ABORTED

/-- A descriptor that ended early is sent to the standby without its buffer. -/
def State.mirrorEarly (s : State) (r : Request) (status : Nat) : State := s.mirrorDesc { r with buf := [] } status 0 0

/-- The group of an abandoned member or COMMIT is aborted whole: an open or failed one, and with a COMMIT also a scheduled
one whose staging deadline has not passed (R98, R191). -/
def State.abandonGroup (s : State) (r : Request) : State :=
  if r.checkOnly ∨ r.group = 0 ∨ allowsGroup r.opcode = false then s
  else match s.findGroup r.part r.group with
    | some k =>
      if k.state = .opened ∨ k.state = .failed ∨ (r.opcode = 0x20 ∧ s.unsealed k = true) then s.discardTake k else s
    | none => s

end Sys2Proof.Machine
end

