-- ==== Sys2Proof/Machine/Hosts.lean ====
section
/-! DEFINITION. Partitions: access errors, ownership requests, leases, revocation, PART resets, rings, doorbells and
command engines as hosts reach them (R31, R37, R44 .. R51, R53 .. R67, R92 .. R99, R187). -/

namespace Sys2Proof.Machine
open Reg

/-! ### Access errors (R37, R53, R62) -/

/-- An access error of partition p: its bit, and its offset while none is held. -/
def State.logError (s : State) (p : Nat) (bit' : Field) (bar off : Nat) : State :=
  let s := s.setFld bit' 1 p
  let r := s.part p
  if r.errHeld then s
  else ((s.setFld PCB_ERR_OFFSET off p).setFld PCB_ERR_BAR bar p).setPart p { r with errHeld := true }

/-- ERR_OFFSET re-arms once bits [3:0] of PCB_ACCERR are all clear. -/
def State.rearmError (s : State) (p : Nat) : State :=
  if s.fldOn PCB_UNMAPPED p ∨ s.fldOn PCB_DENIED p ∨ s.fldOn PCB_WIDTH p ∨ s.fldOn PCB_CLAIM_BUSY p then s
  else (((s.setPart p { s.part p with errHeld := false }).setFld PCB_ERR_OFFSET 0 p).setFld PCB_ERR_BAR 0 p)

/-! ### Ownership requests (R45, R53) -/

namespace Claim
def DONE : Nat := 1
def OWNED_ELSEWHERE : Nat := 2
def NOT_OWNER : Nat := 3
def IN_USE : Nat := 4
def NO_LEASE : Nat := 5
def BAD_INDEX : Nat := 6
def NOT_SOURCE : Nat := 7
def NOT_SUPERVISOR : Nat := 8
def BAD_TARGET : Nat := 9
end Claim

/-- A write of PCB_CLAIM in PCB[p]: a request, or CLAIM_BUSY while one is being processed. -/
def State.writeClaim (s : State) (p val : Nat) (target : Nat) : State :=
  let ori := bitField val 0 12
  let act := bitField val 12 3
  if act = 0 ∨ 6 ≤ act then s
  else if s.fldOn PCB_BUSY p then s.setFld PCB_CLAIM_BUSY 1 p
  else
    let s := ((s.setFld PCB_BUSY 1 p).setFld PCB_LAST_ORI ori p).setFld PCB_LAST_ACT act p
    { s with host := { s.host with claims := s.host.claims ++ [{ part := p, ori := ori, act := act, target := target }] } }

/-- A source, or a compositor with its output source. -/
def shareable (ori : Nat) : Bool := decide (ori < 1024 ∨ (2048 ≤ ori ∧ ori < 2144))

/-- An ownership change is sent to the peer that follows (R47, R439). -/
def State.sendOwner (s : State) (ori : Nat) : State :=
  s.when s.mirrors (fun s => s.send Msg.MIRROR_OWN
    [ori + 2 ^ 12 * s.fld OWN_OWNER ori + 2 ^ 16 * s.fld OWN_SHARED ori])

/-- Why a request is refused; none when it succeeds. -/
def State.claimBar (s : State) (q : ClaimReq) : Option Nat :=
  let owner := s.owner q.ori
  if 3072 ≤ q.ori then some Claim.BAD_INDEX
  else if q.act = 1 then
    if !s.hasLease q.part then some Claim.NO_LEASE
    else if owner.isSome && owner != some q.part then some Claim.OWNED_ELSEWHERE
    else none
  else if q.act = 5 then
    if q.part ≠ 0 then some Claim.NOT_SUPERVISOR
    else if !s.present q.target || s.pstate q.target == partOff then some Claim.BAD_TARGET
    else if !s.hasLease q.target then some Claim.NO_LEASE
    else none
  else if (q.act = 3 ∨ q.act = 4) ∧ shareable q.ori = false then some Claim.NOT_SOURCE
  else if owner != some q.part then some Claim.NOT_OWNER
  else if (q.act = 2 ∨ q.act = 4) ∧ (s.refsTo q.ori ≠ 0 ∨ s.stagedTouches q.part q.ori = true) then some Claim.IN_USE
  else none

/-- The request takes effect. -/
def State.claimEffect (s : State) (q : ClaimReq) : State :=
  let s := match q.act with
    | 1 => s.passTo q.ori (some q.part)
    | 2 => (s.passTo q.ori none).setFld OWN_SHARED 0 q.ori
    | 3 => s.setFld OWN_SHARED 1 q.ori
    | 4 => s.setFld OWN_SHARED 0 q.ori
    | _ => s.passTo q.ori (some q.target)
  s.sendOwner q.ori

/-- CLAIM_COMPLETE: the oldest request is decided and BUSY of its partition clears. -/
def execClaimComplete (s : State) : Host.Outcome State Fault Refusal :=
  match s.host.claims with
  | [] => .next s
  | q :: rest =>
    let s := { s with host := { s.host with claims := rest } }
    let (s, res) := match s.claimBar q with
      | some r => (s, r)
      | none => (s.claimEffect q, Claim.DONE)
    .next ((s.setFld PCB_RESULT res q.part).setFld PCB_BUSY 0 q.part)

/-! ### Leases (R48 .. R50) -/

/-- The partition named in GLB_DEPUTY. -/
def State.deputy (s : State) : Option Nat := let d := s.fld GLB_DEPUTY; if d = 0 then none else some (d - 1)

/-- Grid time of the expiring tick of partition p: the first 1 ms tick that lies LEASE_MS after the last renewal, and
after the write that gave LEASE_MS its value (R49, R103). -/
def State.leaseTick (s : State) (p : Nat) : Nat :=
  let r := s.part p
  max (expiry r.leaseFrom (s.fld PCB_LEASE_MS p * 1000000) 1000000) ((r.leaseSet / 1000000 + 1) * 1000000)

/-- The lease of partition p has run out. -/
def State.leaseOut (s : State) (p : Nat) : Bool :=
  s.live p && s.hasLease p && decide (s.leaseTick p ≤ s.time.grid)

/-- Partition p becomes LAPSED at the tick at which its lease runs out. -/
def State.lapse (s : State) (p : Nat) : State :=
  if s.leaseOut p then
    ((s.setFld PCB_STATE partLapsed p).setPart p { s.part p with lapsedAt := s.leaseTick p }).raise Ev.PART_LAPSED { index := p, dest := 0 :: s.deputy.toList }
  else s

def State.renewLease (s : State) (p : Nat) : State := s.setPart p { s.part p with leaseFrom := s.time.grid }

/-- A write to PCB_HEARTBEAT: it renews the lease and returns a LAPSED partition to LIVE. One that arrives in the cycle
of the expiring tick has no effect but the lapse. -/
def State.beat (s : State) (p : Nat) : State :=
  let s := s.lapse p
  if s.pstate p = partLapsed ∧ (s.part p).lapsedAt = s.time.grid then s
  else
    let s := s.renewLease p
    s.when (s.pstate p == partLapsed) (fun s => ((s.setFld PCB_STATE partLive p).writeHeld p).sendPending p)

/-- A write to PCB_LEASE_MS: 0 is ignored while the partition owns resources. -/
def State.writeLease (s : State) (p val : Nat) : State :=
  let v := PCB_LEASE_MS.norm p (val % 2 ^ 16)
  if (v = 0 ∧ s.owned p ≠ []) ∨ v = s.fld PCB_LEASE_MS p then s
  else (s.setFld PCB_LEASE_MS v p).setPart p { s.part p with leaseSet := s.time.grid }

/-! ### Abandoned descriptors (R98, R99) -/

/-- Descriptors of partition p leave the engines. -/
def State.abandonPart (s : State) (p : Nat) : State :=
  s.upTo 16 (fun s e =>
    match (s.engine e).cur with
    | some r => if r.part = p then (s.abandonGroup r).setEngine e { s.engine e with cur := none, stuck := false } else s
    | none => s)

/-- The descriptors of partition p that are in process, in an engine or parked, end with ABORTED (R88, R99). DESIGN
CHOICE, log 75: a parked one counts as in process. -/
def State.abortRecords (s : State) (p : Nat) : State :=
  s.upTo 64 (fun s k =>
    let g := s.ring p k
    match g.place, g.fetched with
    | .engine, r :: _ => (s.mirrorEarly r St.ABORTED).complete r St.ABORTED 0 0 0
    | .parked, r :: _ => (s.mirrorEarly r St.ABORTED).complete r St.ABORTED 0 0 0
    | _, _ => s)

/-- Every ring of partition p loses what it had fetched; nothing is written to its host. -/
def State.dropRings (s : State) (p : Nat) : State :=
  let s := (s.abandonPart p).upTo 64 (fun s k =>
    (s.unplace p k).setRing p k { s.ring p k with
      fetched := [], place := .atRing, draining := false, stopped := false, fence := none, thumb := none
      heldRecord := none, heldData := [], unsignalled := 0 })
  s.placeHeld

/-! ### PART reset (R31, R54) -/

/-- The register fields of partition p that a PART reset clears: those with Keep T. -/
def partKey (p key : Nat) : Bool :=
  (fieldsPCB ++ fieldsRING ++ fieldsERING).any (fun f =>
    f.keep == .part && f.lo == key % 32 &&
    (match f.at? (key / 32 * 4) with
      | some (i, _) => i == p
      | none => false))

/-- The registers, rings, MSI-X table and ownership requests of partition p go (R54). -/
def State.dropPart (s : State) (p : Nat) : State :=
  let h := s.host
  { s with
    regs := s.regs.filter (fun e => !partKey p e.1)
    host := { h with
      rings := h.rings.filter (fun e => e.1 / 64 != p)
      evtRings := h.evtRings.filter (fun e => e.1 / 4 != p)
      msix := h.msix.filter (fun e => e.1 / 256 != p)
      claims := h.claims.filter (fun q => q.part != p) } }

/-- A PART reset of partition p. DESIGN CHOICE, log 75: an ownership request of p that is being processed is dropped and
has no result, as BUSY and RESULT are cleared. -/
def State.partReset (s : State) (p : Nat) : State :=
  let st := s.pstate p
  let lapsed := s.leaseOut p || st == partLapsed
  let s := s.when (st == partLive) (fun s => s.abortRecords p)
  let s := (((s.dropRings p).abortPart p).clearPorts p).dropPart p
  let s := s.setPart p { s.part p with evtSeq := 0, pba := 0, errHeld := false }
  if st = partOff then s.setFld PCB_STATE partOff p
  else (s.setFld PCB_STATE partLive p).when lapsed (fun s => s.renewLease p)

/-- Partitions of endpoint n that are present. -/
def State.endpointParts (s : State) (n : Nat) : List Nat := [2 * n, 2 * n + 1].filter s.present

/-- Endpoint n exists in the link configuration of the boot record (R28). -/
def State.hasEndpoint (s : State) (n : Nat) : Bool :=
  let c := s.fld GLB_LINK_CFG
  decide ((c = 1 ∧ n = 0) ∨ (c = 2 ∧ n < 2) ∨ (c = 3 ∧ n < 4))

def State.endpointReset (s : State) (n : Nat) : State := s.each (s.endpointParts n) State.partReset

/-- PERST_RELEASE: the endpoint's partitions are reset, and from here on its configuration can be ready (R507). -/
def execPerstRelease (ep : Fin 4) (s : State) : Host.Outcome State Fault Refusal :=
  let s := s.endpointReset ep
  .next { s with boot := { s.boot with perst := s.boot.perst ||| 2 ^ ep.val } }

def execHotReset (ep : Fin 4) (s : State) : Host.Outcome State Fault Refusal := .next (s.endpointReset ep)

/-- Loss of an endpoint's link resets its partitions and is an event (R31, R470). -/
def execPcieLinkDown (ep : Fin 4) (s : State) : Host.Outcome State Fault Refusal :=
  if s.hasEndpoint ep then .next ((s.endpointReset ep).raise Ev.PCIE_LINK_DOWN { index := ep })
  else .next (s.endpointReset ep)

def execFunctionLevelReset (p : Fin 8) (s : State) : Host.Outcome State Fault Refusal :=
  .next (if s.present p then s.partReset p else s)

/-! ### Revocation and ENABLE (R51, R55) -/

/-- Partition `by'` begins to revoke partition p: its unsealed groups are aborted and its rings disabled. -/
def State.beginRevoke (s : State) (p by' : Nat) : State :=
  if (s.part p).revoker.isSome then s
  else
    let s := ((s.dropRings p).abortPart p).clearPorts p
    let s := s.upTo 64 (fun s k => s.setFld RING_ENABLE 0 p k)
    let s := s.upTo 4 (fun s e => s.setFld ERING_ENABLE 0 p e)
    (s.setPart p { s.part p with revoker := some by' }).setFld PCB_REVOKING 1 p

/-- A write of REVOKE in PCB[p] by partition w. -/
def State.writeRevoke (s : State) (w p : Nat) : State :=
  if p = 0 then
    (if s.deputy = some w ∧ s.pstate 0 = partLapsed then s.beginRevoke 0 w else s)
  else if w = 0 then s.beginRevoke p 0
  else s

/-- Sealed groups and flips of p that have still to apply. -/
def State.sealedOf (s : State) (p : Nat) : List Take :=
  s.take.takes.filter (fun k => k.part == p && (k.state == .sealed || k.state == .decided) && k.kind != .immediate)

/-- The partition goes OFF at the end of a revocation that ENABLE = 0 began (R55). -/
def State.turnOff (s : State) (p : Nat) : State :=
  let s := s.partReset p
  (s.setFld PCB_STATE partOff p).setPart p { s.part p with thenOff := false }

/-- REVOCATION_TRANSFER: every resource of the revoked partition passes. -/
def execRevocationTransfer (p : Fin 8) (s : State) : Host.Outcome State Fault Refusal :=
  match (s.part p).revoker with
  | none => .next s
  | some q =>
    if (s.sealedOf p).isEmpty then
      let own := s.owned p
      let s := s.each own (fun s o => (s.passTo o (some q)).sendOwner o)
      let s := (s.setPart p { s.part p with revoker := none }).setFld PCB_REVOKING 0 p
      let s := s.raise Ev.OWNERSHIP_REVOKED { index := p, data := own.length, dest := [q], except := some p }
      .next (s.when (s.part p).thenOff (fun s => s.turnOff p))
    else .next s

/-- A present partition that is enabled goes from OFF to LIVE. It finds its Keep T fields at their reset values, so what
reached it while it was OFF is cleared as by a PART reset (R55). -/
def State.turnOn (s : State) (p : Nat) : State :=
  if s.present p = true ∧ s.fldOn PCB_ENABLE p = true ∧ s.pstate p = partOff then
    ((s.partReset p).setFld PCB_STATE partLive p).when (s.hasLease p) (fun s => s.renewLease p)
  else s

/-- ENABLE of partition p is written (R55). -/
def State.writeEnable (s : State) (p val : Nat) : State :=
  if p = 0 then s
  else if val = 1 then
    if s.fldOn PCB_ENABLE p then s else (s.setFld PCB_ENABLE 1 p).turnOn p
  else
    let s := s.setFld PCB_ENABLE 0 p
    if s.pstate p = partOff then s
    else
      let s := s.beginRevoke p 0
      s.setPart p { s.part p with thenOff := true }

/-! ### Doorbells (R60 .. R62) -/

/-- DOORBELL_BAD to the partition (R60). -/
def State.badDoorbell (s : State) (p ring sub val off : Nat) : State :=
  s.raise Ev.DOORBELL_BAD { index := ring, sub := sub, data := val + 2 ^ 32 * off, dest := [p] }

/-- COMMAND_TAIL_DOORBELL. -/
def execCommandTailDoorbell (p : Fin 8) (k : Fin 64) (width : Nat) (val : Word) (s : State) : Host.Outcome State Fault Refusal :=
  if width ≠ 4 then .next s
  else
    let new := val.toNat % 2 ^ 16
    let size := s.ringSize p k
    let r := s.ring p k
    let head := s.sampled (s.fld RING_HEAD p k) r.headWas r.headMoved
    if s.fldOn RING_ENABLE p k ∧ new < size ∧ ringDist size r.tail head ≤ ringDist size new head then
      .next (s.setRing p k { r with tail := new })
    else .next (s.badDoorbell p k 0 val.toNat (k.val * 0x1000))

/-- COMPLETION_HEAD_DOORBELL. -/
def execCompletionHeadDoorbell (p : Fin 8) (k : Fin 64) (width : Nat) (val : Word) (s : State) : Host.Outcome State Fault Refusal :=
  if width ≠ 4 then .next s
  else
    let new := val.toNat % 2 ^ 16
    let size := s.ringSize p k
    let r := s.ring p k
    let tail := s.sampled (s.fld RING_CQ_TAIL p k) r.cqTailWas r.cqTailMoved
    if s.fldOn RING_ENABLE p k ∧ new < size ∧ ringDist size new r.cqHead ≤ ringDist size tail r.cqHead then
      .next (s.setRing p k { r with cqHead := new })
    else .next (s.badDoorbell p k 1 val.toNat (k.val * 0x1000 + 0x800))

/-- EVENT_HEAD_DOORBELL. -/
def execEventHeadDoorbell (p : Fin 8) (e : Fin 4) (width : Nat) (val : Word) (s : State) : Host.Outcome State Fault Refusal :=
  if width ≠ 4 then .next s
  else
    let new := val.toNat % 2 ^ 16
    let size := 2 ^ s.fld ERING_SIZE_LOG2 p e
    let r := s.evtRing p e
    let tail := s.sampled (s.fld ERING_CQ_TAIL p e) r.tailWas r.tailMoved
    if s.fldOn ERING_ENABLE p e ∧ new < size ∧ ringDist size new r.head ≤ ringDist size tail r.head then
      .next (s.setEvtRing p e { r with head := new })
    else .next (s.badDoorbell p e 2 val.toNat (0x40000 + e.val * 0x1000))

/-! ### Fetch (R64 .. R66) -/

/-- RING_FETCH: the descriptors that the host answers with, as many as the walker may fetch. -/
def execRingFetch (p : Fin 8) (k : Fin 64) (answer : List Descriptor) (s : State) : Host.Outcome State Fault Refusal :=
  let s := s.lapse p
  let ds := answer.take (s.fetchable p k)
  let r := s.ring p k
  let first := s.fld RING_HEAD p k + r.fetched.length
  let new := ds.mapIdx (fun i d =>
    ({ part := p, ring := k, index := (first + i) % s.ringSize p k, words := d, buf := [] } : Request))
  .next (if new.isEmpty then s else s.setRing p k { r with fetched := r.fetched ++ new })

/-- DESCRIPTOR_READ_ERROR: a read of descriptors, or a write of a record, that the host answers with an error. -/
def execDescriptorReadError (p : Fin 8) (access : HostAccess) (addr : BitVec 64) (s : State) :
    Host.Outcome State Fault Refusal :=
  match access with
  | .descRead k =>
    if s.fetchable p k = 0 then .next s
    else .next ((s.setRing p k { s.ring p k with stopped := true }).hostFault p (.cmd k) 0 addr.toNat)
  | .complWrite k => .next (s.hostFault p (.cmd k) 1 addr.toNat)
  | .eventWrite e => .next (s.hostFault p (.evt e) 2 addr.toNat)

/-- The host clears HOST_FAULT of a ring: the walker fetches again. -/
def State.clearHostFault (s : State) (p : Nat) (ring : RingId) : State :=
  match ring with
  | .cmd k => (s.setFld RING_HOST_FAULT 0 p k).setRing p k { s.ring p k with stopped := false }
  | .evt e => s.setFld ERING_HOST_FAULT 0 p e

/-- BUFFER_READ: the buffer of the oldest descriptor of a ring has been read, or its read failed. -/
def execBufferRead (p : Fin 8) (k : Fin 64) (answer : HostAnswer) (s : State) : Host.Outcome State Fault Refusal :=
  let g := s.ring p k
  match g.fetched with
  | [] => .next s
  | r :: rest =>
    if g.place = .atRing ∧ r.needsBuffer = true ∧ s.safe = false then
      match answer with
      | .bytes data =>
        if data.length = r.hostLen then
          .next (s.setRing p k { g with fetched := { r with buf := data } :: rest, place := .ready })
        else .next s
      | .error addr => 
        .next ((((s.hostFault p (.cmd k) 0 addr.toNat).failGroup r).mirrorEarly r St.HOST_FAULT).complete r St.HOST_FAULT 0 0 0)
    else .next s

/-! ### Engines (R93 .. R98) -/

/-- ENGINE_PLACEMENT: the oldest descriptor of a ring requests an engine. -/
def execEnginePlacement (p : Fin 8) (k : Fin 64) (s : State) : Host.Outcome State Fault Refusal :=
  let g := s.ring p k
  match g.fetched with
  | [] => .next s
  | r :: _ =>
    if (g.place = .ready ∨ (g.place = .atRing ∧ r.needsBuffer = false)) ∧ s.safe = false then .next (s.place r)
    else .next s

/-- ENGINE_DRAW: an idle engine that is not frozen draws, once R93 has placed no held request on it. -/
def execEngineDraw (e : Fin 16) (s : State) : Host.Outcome State Fault Refusal :=
  let s := if s.safe then s else s.placeHeld
  .next (if s.safe = false ∧ s.frozen e = false ∧ (s.engine e).cur.isNone = true then s.draw e else s)

/-- A write of CMD_FREEZE. -/
def State.writeFreeze (s : State) (e val : Nat) : State :=
  let s := s.setFld CMDENG_CMD_FREEZE val e
  if val = 0 ∧ s.safe = false then s.placeHeld else s

/-- A write of ENG_RST: the descriptor in process completes with ENGINE_RESET. -/
def State.engineReset (s : State) (e : Nat) : State :=
  match (s.engine e).cur with
  | none => s
  | some r => ((s.abandonGroup r).mirrorEarly r St.ENGINE_RESET).finish e r St.ENGINE_RESET 0 0 0

/-- The data of ENGINE_STUCK (R98). -/
def stuckData (r : Request) : Nat := 2 ^ 4 * r.part + 2 ^ 8 * r.ring + 2 ^ 32 * r.opcode

/-- ENGINE_STUCK: the watchdog of engine e has run out for the descriptor that it holds. -/
def State.checkStuck (s : State) (e : Nat) : State :=
  let g := s.engine e
  match g.cur with
  | none => s
  | some r =>
    if g.stuck = false ∧ s.fldOn CMDENG_WDOG_US e ∧ s.expired g.grantedAt (s.fld CMDENG_WDOG_US e * 1000) 1000 = true then
      (s.setEngine e { g with stuck := true }).raise Ev.ENGINE_STUCK { index := e, data := stuckData r, dest := [0] }
    else s

def execEngineStuck (e : Fin 16) (s : State) : Host.Outcome State Fault Refusal := .next (s.checkStuck e)

/-- A write of LFSR_SEED: 0 loads 1. -/
def State.seedLfsr (s : State) (e val : Nat) : State :=
  s.setEngine e { s.engine e with lfsr := BitVec.ofNat 32 (if val = 0 then 1 else val) }

/-- COALESCING_TIMEOUT (R92): the oldest unsignalled record of a ring has waited COAL_US. The message pends while the
partition is LAPSED (R50). -/
def State.coalesced (s : State) (p : Nat) (ring : RingId) : State :=
  match ring with
  | .cmd k =>
    let r := s.ring p k
    let us := s.fld RING_COAL_US p k
    if r.unsignalled ≠ 0 ∧ s.fldOn RING_INT_EN p k ∧ us ≠ 0 ∧ s.expired r.oldest (us * 1000) 1000 = true then
      (s.setRing p k { r with unsignalled := 0 }).sendVector p (s.fld RING_VECTOR p k)
    else s
  | .evt e =>
    let r := s.evtRing p e
    let us := s.fld ERING_COAL_US p e
    if r.unsignalled ≠ 0 ∧ s.fldOn ERING_INT_EN p e ∧ us ≠ 0 ∧ s.expired r.oldest (us * 1000) 1000 = true then
      (s.setEvtRing p e { r with unsignalled := 0 }).sendVector p (s.fld ERING_VECTOR p e)
    else s

/-! ### MSI-X (R92) -/

/-- MSIX_TABLE_WRITE: double word i of vector v; unmasking sends a pending message. -/
def State.writeMsix (s : State) (p v i val : Nat) : State :=
  let w := if i = 3 then val % 2 ^^^ 1 else if i = 0 then val / 4 * 4 else val
  let s := { s with host := { s.host with msix := Tab.set 0 s.host.msix (256 * p + 4 * v + i) w } }
  let r := s.part p
  if bitAt r.pba v = true ∧ bitAt (s.msixWord p v 3) 0 = false then
    (s.setPart p { r with pba := r.pba - 2 ^ v }).sendVector p v
  else s

def execMsixTableWrite (p : Fin 8) (dword : Fin 256) (val : Word) (s : State) : Host.Outcome State Fault Refusal :=
  .next (s.writeMsix p (dword.val / 4) (dword.val % 4) val.toNat)

end Sys2Proof.Machine
end

