-- ==== Sys2Proof/Machine/Memory.lean ====
section
/-! DEFINITION. Memory controllers: ECC errors, retirement, scrubbing, and the temperatures (R144, R160 .. R162, R556). -/

namespace Sys2Proof.Machine
open Reg

/-! ### Retirement (R161) -/

/-- A quarter-page of a stack is retired, once: a free one leaves the pool now, one in use when its owner frees it. Those
before the pool's first are not counted in the pool (R129). -/
def State.retire (s : State) (stack qp : Nat) : State :=
  if s.store.retiredQp.contains (stack, qp) then s
  else
    let free := !s.store.used.contains (stack, qp)
    let s := { s with store := { s.store with retiredQp := (stack, qp) :: s.store.retiredQp } }
    let s := s.addFld MC_RETIRED 1 stack
    let s := s.when (decide (poolFrom ≤ qp)) (fun s =>
      let s := s.setFld MC_QP_TOTAL (s.fld MC_QP_TOTAL stack - 1) stack
      s.when free (fun s => s.setFld MC_QP_FREE (s.fld MC_QP_FREE stack - 1) stack))
    s.raiseOpen Ev.PAGE_RETIRED { index := stack }

/-- The quarter-page that holds an address within a stack. -/
def qpAt (addr : Nat) : Nat := addr / 524288

/-- The last error of a stack. -/
def State.showError (s : State) (stack addr : Nat) (ue : Bool) : State :=
  ((s.setFld MC_ERR_ADDR_LO (addr % 2 ^ 32) stack).setFld MC_ERR_ADDR_HI (addr / 2 ^ 32) stack).setFld MC_ERR_UE (bit ue) stack

/-- A corrected error: the word is right again. Corrected in two successive scrub passes, its quarter-page is retired. -/
def execEccCorrected (stack : Fin 4) (qp : BitVec 16) (byte : BitVec 19) (scrub : Bool) (s : State) :
    Host.Outcome State Fault Refusal :=
  let a := 524288 * qp.toNat + byte.toNat
  let s := (s.addFld MC_CE_CNT 1 stack).showError stack a false
  let word := (stack.val, a / 8)
  if scrub then
    let again := s.store.lastPass.contains word
    let this := if s.store.thisPass.contains word then s.store.thisPass else word :: s.store.thisPass
    let s := { s with store := { s.store with thisPass := this } }
    .next (if again then s.retire stack (qpAt a) else s)
  else .next s

/-! ### What lies at an address (R128, R132, R134) -/

/-- The byte of a run of pages that an address of a stack is. -/
def byteIn (ps : List Page) (stack addr : Nat) : Option Nat :=
  ps.zipIdx.findSome? (fun e => (e.1.byteAt stack (qpAt addr) (addr % 524288)).map (fun b => e.2 * 2097152 + b))

/-- The slot of a ring, by its index, and the byte of it that an address of a stack is. -/
def Ring.slotByte (r : Ring) (stack addr : Nat) : Option (Nat × Nat) :=
  (r.pages.take r.shape.depth).zipIdx.findSome? (fun e => (byteIn e.1 stack addr).map (fun b => (e.2, b)))

/-- Source, ring and slot index of slot data at an address, and the byte of the slot. -/
def State.slotByte (s : State) (stack addr : Nat) : Option (Nat × Nat × Nat × Nat) :=
  s.store.srcs.findSome? (fun e => e.2.rings.findSome? (fun r =>
    (r.slotByte stack addr).map (fun x => (e.1, r.id, x.1, x.2))))

/-- Levels of a slot with the byte that each starts at (R134). -/
def slotPlanes (fmt store ladder : Nat) : List (Nat × Nat) :=
  ((presentLevels ladder).foldl (fun (acc : Nat × List (Nat × Nat)) k =>
    let at' := align4k acc.1
    let size := fmtLevelSize fmt store k
    (at' + planeBytes store size.1 size.2, acc.2 ++ [(k, at')])) (0, [])).2

/-- Bytes from one line of a plane to the next (R132). -/
def linePitch (store w : Nat) : Nat := ceilDiv (w * storeBpp store) 512 * 64

/-- The first bit in its line of sample x of a component (R132). -/
def sampleBit (store i x : Nat) : Nat :=
  if store = 1 then (if i = 0 then 40 * (x / 2) + 20 * (x % 2) + 10 else 40 * x + (if i = 1 then 0 else 20))
  else if store = 3 then 36 * x + (2 - i) * 12
  else 32 * x + (2 - i) * 10

/-- A value with its bits from `lo` to before `hi` taken from another. -/
def spliceBits (old new lo hi : Nat) : Nat :=
  if hi ≤ lo then old else old % 2 ^ lo + new / 2 ^ lo % 2 ^ (hi - lo) * 2 ^ lo + old / 2 ^ hi * 2 ^ hi

/-- Line `row` of a component of a plane with the bits from `lo` on, 512 of them, black. -/
def blackenLine (p : Plane) (store i row lo black : Nat) : Plane :=
  { p with data := p.data.mapIdx (fun j v =>
      if j / p.w = row then
        let b := sampleBit store i (j % p.w)
        spliceBits v black (min (storeBits store) (lo - b)) (min (storeBits store) (lo + 512 - b))
      else v) }

/-- The 64 B of a slot that hold a byte are black, where they are samples of a level (R160). -/
def Slot.blacken (x : Slot) (ladder byte : Nat) : Slot :=
  let base := byte / 64 * 64
  match ((slotPlanes x.fmt x.store ladder).filter (fun e => decide (e.2 ≤ base))).getLast? with
  | none => x
  | some (k, at') =>
    let pitch := linePitch x.store (fmtLevelSize x.fmt x.store k).1
    let row := (base - at') / max 1 pitch
    let lo := 8 * ((base - at') % max 1 pitch)
    let levels := if x.levels.length = 1 then (List.range 5).map x.level else x.levels
    { x with levels := levels.modify k (fun p => p.mapComps (fun i c =>
        blackenLine c x.store i row lo (blackStored x.store (fmtRgb x.fmt) i))) }

/-! ### Words of the frame store for the debug master (R132, R134, R539) -/

/-- Where a byte of a slot lies: level, line, and bit in the line; none: in no level. -/
def Slot.bitAt (x : Slot) (ladder byte : Nat) : Option (Nat × Nat × Nat) :=
  (((slotPlanes x.fmt x.store ladder).filter (fun e => decide (e.2 ≤ byte))).getLast?).map (fun e =>
    let pitch := max 1 (linePitch x.store (fmtLevelSize x.fmt x.store e.1).1)
    (e.1, (byte - e.2) / pitch, 8 * ((byte - e.2) % pitch)))

/-- A value moved from bit `b` of a line to bit `lo`. -/
def moveBits (v b lo : Nat) : Nat := if lo ≤ b then v * 2 ^ (b - lo) else v / 2 ^ (lo - b)

/-- The 32 bits of a line from bit `lo` on. -/
def lineWord (p : Pic) (store row lo : Nat) : Nat :=
  (List.range 3).foldl (fun w i =>
    let c := p.comp i
    (List.range c.w).foldl (fun w x =>
      w ||| moveBits (c.data.getD (row * c.w + x) 0) (sampleBit store i x) lo % 2 ^ 32) w) 0

/-- The same line with a word in place of those 32 bits. -/
def putLineWord (p : Pic) (store row lo word : Nat) : Pic :=
  p.mapComps (fun i c => { c with data := c.data.mapIdx (fun j v =>
    if j / c.w = row then
      let b := sampleBit store i (j % c.w)
      spliceBits v (moveBits word lo b) (min (storeBits store) (lo - b)) (min (storeBits store) (lo + 32 - b))
    else v) })

/-- A word of slot data at an address of a stack; none where no level of a slot lies. -/
def State.storeWord (s : State) (stack addr : Nat) : Option Nat :=
  match s.slotByte stack addr with
  | none => none
  | some (n, id, i, byte) =>
    ((s.src n).rings.find? (fun r => r.id == id)).bind (fun r =>
      let x := r.slot i
      (x.bitAt r.shape.ladder byte).map (fun e => lineWord (x.level e.1) x.store e.2.1 e.2.2))

/-- A word of slot data is written. -/
def State.putStoreWord (s : State) (stack addr word : Nat) : State :=
  match s.slotByte stack addr with
  | none => s
  | some (n, id, i, byte) =>
    let run := s.src n
    s.setSrc n { run with rings := run.rings.map (fun r =>
      if r.id = id then
        let x := r.slot i
        match x.bitAt r.shape.ladder byte with
        | some (k, row, lo) =>
          let levels := if x.levels.length = 1 then (List.range 5).map x.level else x.levels
          r.setSlot i { x with levels := levels.modify k (fun p => putLineWord p x.store row lo word) }
        | none => r
      else r) }

/-! ### Uncorrectable errors (R160) -/

/-- An uncorrectable error in slot data (R144, R160). A slot that is FREE holds no frame to damage. -/
def State.slotError (s : State) (n id i byte : Nat) : State :=
  match (s.src n).rings.find? (fun r => r.id == id) with
  | none => s
  | some r =>
    let x := r.slot i
    if x.state = 0 then s
    else
      let y := x.blacken r.shape.ladder byte
      let run := s.src n
      let s := s.setSrc n { run with rings := run.rings.map (fun q =>
        if q.id = id then q.setSlot i { y with flags := y.flags ||| flagMemUe } else q) }
      let s := s.when (x.state == 2) (fun s =>
        { s with store := { s.store with ueSlots := { src := n, ring := id, seq := x.seq } :: s.store.ueSlots } })
      (s.setFld SRC_UE_SEEN 1 n).raiseOpen Ev.MEM_UE_SLOT { index := n, dest := s.ownerList (oriSrc n) }

/-- A picture of which the store has lost a word: its samples are free values. DESIGN CHOICE, log 81: the spec does not place
a graphic's or a hold picture's lines in its pages. -/
def lostPic (p : Pic) (store free : Nat) : Pic :=
  p.mapComps (fun i c => { c with data := c.data.mapIdx (fun j v =>
    Config.lostSample free (4 * j + i) v % 2 ^ storeBits store) })

/-- A word of a graphic or a hold buffer is lost or overwritten: what it holds there is a free value (DESIGN CHOICE, log
81). -/
def State.otherError (s : State) (stack addr : Nat) : State :=
  match List.find? (fun e : Nat × List Page => (byteIn e.2 stack addr).isSome) s.store.gfxPages with
  | some (key, _) =>
    let f := s.free
    let s := s.advance
    { s with store := { s.store with graphics := s.store.graphics.map (fun e =>
        if e.1 = key then
          (key, e.2.map (fun g => { g with data := g.data.mapIdx (fun j v => Config.lostSample f j v % 2 ^ 32) }))
        else e) } }
  | none =>
    if (byteIn s.store.holdPages stack addr).isSome then
      let f := s.free
      let s := s.advance
      { s with store := { s.store with readers := s.store.readers.map (fun e =>
          (e.1, { e.2 with hold := e.2.hold.map (fun h => { h with pic := lostPic h.pic h.store (f + e.1) }) })) } }
    else s

/-- An uncorrectable error: in slot data the 64 B become black and the slot is damaged; in a device structure the fault is
critical (R160). DESIGN CHOICE, log 81: the device structures are the quarter-pages before the pool's. -/
def execMemUe (stack : Fin 4) (qp : BitVec 16) (line : BitVec 13) (byte : BitVec 6) (s : State) :
    Host.Outcome State Fault Refusal :=
  let a := 524288 * qp.toNat + 64 * line.toNat + byte.toNat
  let s := (s.addFld MC_UE_CNT 1 stack).showError stack a true
  let s :=
    if qpAt a < poolFrom then s.raiseOpen Ev.MEM_UE_STRUCT { index := stack }
    else match s.slotByte stack a with
      | some (n, id, i, byte) => s.slotError n id i byte
      | none => s.otherError stack a
  .next (s.retire stack (qpAt a))

/-- The period of a scrub pass ends: the next pass starts, and a pass that did not finish is late (R162). -/
def execScrubPassEnd (stack : Fin 4) (finished : Bool) (s : State) : Host.Outcome State Fault Refusal :=
  if s.fld MC_SCRUB_MIN stack = 0 then .next s
  else
    let mine (l : List (Nat × Nat)) : List (Nat × Nat) := l.filter (fun w => w.1 == stack.val)
    let others (l : List (Nat × Nat)) : List (Nat × Nat) := l.filter (fun w => w.1 != stack.val)
    let s := { s with store := { s.store with
      lastPass := others s.store.lastPass ++ mine s.store.thisPass, thisPass := others s.store.thisPass } }
    .next (if finished then s.addFld MC_SCRUB_PASSES 1 stack else s.setFld MC_SCRUB_LATE 1 stack)

/-! ### Temperatures (R162, R556) -/

/-- A stack's temperature is read. -/
def State.stackTemp (s : State) (i t : Nat) : State :=
  let s := s.setFld MC_TEMP t i
  if s.fldOn MC_TEMP_HI i then (if t < 90 then (s.setFld MC_TEMP_HI 0 i).conditionEnds Ev.HBM_HOT i else s)
  else if 95 ≤ t then (s.setFld MC_TEMP_HI 1 i).raiseOpen Ev.HBM_HOT { index := i, holds := true }
  else s

/-- The die sensors are read: `t` is the highest. -/
def State.dieTemp (s : State) (t : Nat) : State :=
  let f := s.faults
  let s := { s with faults := { f with dieTemp := t } }
  let s :=
    if f.dieHot then
      (if t < 100 then ({ s with faults := { s.faults with dieHot := false } }).conditionEnds Ev.DIE_HOT 0 else s)
    else if 105 ≤ t then
      ({ s with faults := { s.faults with dieHot := true } }).raiseOpen Ev.DIE_HOT { holds := true }
    else s
  if f.dieCrit then
    (if t < 110 then ({ s with faults := { s.faults with dieCrit := false } }).conditionEnds Ev.DIE_CRIT 0 else s)
  else if 115 ≤ t then
    ({ s with faults := { s.faults with dieCrit := true } }).raiseOpen Ev.DIE_CRIT { holds := true }
  else s

def execTempSensorRead (die : Vector (BitVec 8) 16) (hbm : Vector (BitVec 8) 4) (s : State) :
    Host.Outcome State Fault Refusal :=
  let s := s.dieTemp ((die.toList.map (·.toNat)).foldl max 0)
  let l := hbm.toList.map (·.toNat)
  .next (s.upTo 4 (fun s i => s.stackTemp i (l.getD i 0)))

end Sys2Proof.Machine
end

