-- ==== Sys2Proof/Machine/RegMap.lean ====
section
/-! DEFINITION. The register map of BAR0 (R34, R35, R566): the blocks, their spans, and the fields that a byte
offset holds. -/

namespace Sys2Proof.Machine
open Reg

/-- The blocks of BAR0. The lane blocks are one, with the lanes numbered 0 .. 583. -/
inductive Blk where
  | glb | pcb | own | cmdeng | evt | flt | time | clk | pwr | boot | ic | mc | fresh | cway | tow | aud | aesin | aesout
  | ancq | probe | lane | sdirx | sditx | mport | src | dst | cmp | flowwin
  deriving DecidableEq, Repr

/-- Blocks that hosts write and read before SERVICE as after it (R510). -/
def Blk.always (b : Blk) : Bool := b == .glb || b == .pcb || b == .evt || b == .boot

/-- A block's base, stride and count; a block of one instance has its span as its stride. -/
structure Span where
  blk : Blk
  base : Nat
  stride : Nat
  count : Nat
  deriving DecidableEq, Repr

def Span.size (b : Span) : Nat := b.stride * b.count

/-- The table of R34 with the spans of R566. -/
def blockTable : List Span :=
  [⟨.glb, 0x0, 0x1000, 1⟩, ⟨.pcb, 0x1000, 0x1000, 8⟩, ⟨.own, 0x10000, 0x4, 3072⟩, ⟨.cmdeng, 0x18000, 0x100, 16⟩,
   ⟨.evt, 0x20000, 0x8, 1024⟩, ⟨.flt, 0x24000, 0x2000, 1⟩, ⟨.time, 0x30000, 0x10000, 1⟩, ⟨.clk, 0x40000, 0x1000, 1⟩] ++
  [⟨.pwr, 0x41000, 0x1000, 1⟩, ⟨.boot, 0x42000, 0x1000, 1⟩, ⟨.ic, 0x43000, 0x1000, 1⟩, ⟨.mc, 0x50000, 0x1000, 4⟩,
   ⟨.fresh, 0x60000, 0x8000, 1⟩, ⟨.cway, 0x70000, 0x1000, 1⟩, ⟨.tow, 0x71000, 0x1000, 2⟩, ⟨.aud, 0x80000, 0x10000, 1⟩] ++
  [⟨.aesin, 0x90000, 0x100, 64⟩, ⟨.aesout, 0x94000, 0x100, 64⟩, ⟨.ancq, 0xA0000, 0x40, 256⟩, ⟨.probe, 0xB0000, 0x400, 32⟩,
   ⟨.lane, 0x100000, 0x200, 584⟩, ⟨.sdirx, 0x180000, 0x200, 256⟩, ⟨.sditx, 0x1A0000, 0x200, 256⟩, ⟨.mport, 0x1C0000, 0x1000, 64⟩] ++
  [⟨.src, 0x400000, 0x400, 1120⟩, ⟨.dst, 0x600000, 0x400, 1024⟩, ⟨.cmp, 0x800000, 0x1000, 96⟩, ⟨.flowwin, 0x1000000, 0x40, 262144⟩]

/-- The block whose span holds an offset and that offset's instance; none: unmapped (R35, R468). -/
def blockAt (off : Nat) : Option (Blk × Nat) :=
  if 0x24800 ≤ off ∧ off < 0x25000 then none
  else (blockTable.find? (fun b => decide (b.base ≤ off ∧ off < b.base + b.size))).map
    (fun b => (b.blk, (off - b.base) / b.stride))

/-- The field tables of a block. -/
def Blk.fields : Blk → List Field
  | .glb => fieldsGLB
  | .pcb => fieldsPCB ++ fieldsRING ++ fieldsERING ++ fieldsTK
  | .own => fieldsOWN
  | .cmdeng => fieldsCMDENG
  | .evt => fieldsEVT
  | .flt => fieldsFLT ++ fieldsFREC ++ fieldsFSEV
  | .time => fieldsTM ++ fieldsREF ++ fieldsPLANE ++ fieldsAPLANE
  | .clk => fieldsCLK ++ fieldsCLKMON ++ fieldsCLKISL
  | .pwr => fieldsPWR ++ fieldsDOM
  | .boot => fieldsBOOT
  | .ic => fieldsIC ++ fieldsICT
  | .mc => fieldsMC
  | .fresh => fieldsFRESH ++ fieldsFRDST ++ fieldsFRLYR
  | .cway => fieldsCWAY
  | .tow => fieldsTOW
  | .aud => fieldsAUD ++ fieldsAIN ++ fieldsEMB ++ fieldsAGRP ++ fieldsAINST
  | .aesin => fieldsAESIN
  | .aesout => fieldsAESOUT
  | .ancq => fieldsANCQ
  | .probe => fieldsPROBE ++ fieldsWIN
  | .lane => fieldsLANE
  | .sdirx => fieldsSDIRX
  | .sditx => fieldsSDITX
  | .mport => fieldsMPORT
  | .src => fieldsSRC
  | .dst => fieldsDST
  | .cmp => fieldsCMP ++ fieldsLAYR ++ fieldsTAPS
  | .flowwin => []

/-- The fields of the 32-bit register at a byte offset of a block, with their instances. -/
def Blk.at? (b : Blk) (off : Nat) : List (Field × Nat × Nat) :=
  b.fields.filterMap (fun f => (f.at? off).map (fun ij => (f, ij.1, ij.2)))

/-- The field that a key of the register table belongs to. -/
def fieldOfKey (key : Nat) : Option Field :=
  let off := key / 32 * 4
  let fs := match blockAt off with
    | some (b, _) => b.fields
    | none => fieldsDBG ++ fieldsDBGC
  fs.find? (fun f => f.lo == key % 32 && (f.at? off).isSome)

/-- Register fields that a reset of a class clears go back to their reset values (R9). -/
def State.clearClass (s : State) (c : ResetClass) : State :=
  { s with regs := s.regs.filter (fun e =>
      match fieldOfKey e.1 with
      | some f => decide (c.rank < f.keep.rank)
      | none => false) }

end Sys2Proof.Machine
end

