-- ==== Sys2Proof/Machine/Boot.lean ====
section
/-! DEFINITION. POR, PIN and WARM resets, the stages of a boot, Cuhorn images, and the flash commands
(R505 .. R521, R526 .. R528). -/

namespace Sys2Proof.Machine
open Reg

/-! ### Resets (R526 .. R528) -/

/-- The straps are sampled (R430, R506). -/
def State.sampleStraps (s : State) (x : Straps) : State :=
  let s := (s.setFld CWAY_ROLE_STRAP (bit x.role)).setFld BOOT_MODE x.mode.toNat
  s.setFld BOOT_TESTMODE_SEEN (bit (x.testMode != 0))

/-- What the flash and the fuses hold outlives every reset. -/
def BootRun.afterReset (b : BootRun) : BootRun :=
  { flash := b.flash, copy0 := b.copy0, copy1 := b.copy1
    fuses := b.fuses, blownDbg := b.blownDbg, blownKeys := b.blownKeys, blownSvn := b.blownSvn }

/-- From a PIN or POR reset on, blown DBG_KILL ends every debug function, and domain 183 is off (R3, R4, R530, R543). -/
def State.applyDbgKill (s : State) : State :=
  let s := { s with dbg := { s.dbg with killed := s.boot.blownDbg } }
  s.when s.boot.blownDbg (fun s => ((s.setFld DOM_REQ 0 183).setFld DOM_DSTATE 2 183).setFld DOM_LOCKED_OFF 1 183)

/-- POR: everything restarts, and RAIL_FAULT that waited for its release is raised (R554). -/
def State.powerOn (s : State) (x : Straps) : State :=
  let rails := s.faults.railsAtBoot
  let f : FaultRun := { safeReqLow := s.faults.safeReqLow }
  let s : State := { pending := s.pending, free := s.free, out := s.out, boot := s.boot.afterReset, faults := f }
  ((s.applyDbgKill.sampleStraps x).reenterSafe).each rails (fun s n => s.raise Ev.RAIL_FAULT { data := n })

/-- A monitor's times start again with the tick grid. -/
def MonRun.restart (x : MonRun) : MonRun := { x with goodFrom := min x.goodFrom 1 }

/-- The fault collection after PIN or WARM: the records stay, and nothing is being handled (R462). -/
def FaultRun.afterReset (f : FaultRun) : FaultRun :=
  { f with handled := none, handledTo := 0, safeDue := none, corrected := [] }

/-- What PIN and WARM have in common: device time, partitions, takes, the frame store's rings, the media paths and the
graphics restart; clocks, records and the reset's own causes stay. -/
def State.restart (s : State) : State :=
  { s with
    host := { msix := s.host.msix }
    time := {}, take := {}
    store := { retiredQp := s.store.retiredQp, lastPass := s.store.lastPass, thisPass := s.store.thisPass }
    faults := s.faults.afterReset
    sdi := {}, media := {}, audio := {}, aes := {}, anc := {}, probe := {}, tow := {}, ic := {}
    lane := { unlocked := s.lane.unlocked }
    clk := { s.clk with
      mons := s.clk.mons.map (fun e : Nat × MonRun => (e.1, e.2.restart))
      ramps := s.clk.ramps.map (fun e : Nat × Option ClkRamp => (e.1, e.2.map (fun r => { r with at' := 0 }))) } }

/-- The pool holds what is not retired (R161), and powered lanes calibrate. -/
def State.refill (s : State) : State :=
  let s := s.upTo 4 (fun s i => s.setFld MC_QP_FREE (s.fld MC_QP_TOTAL i) i)
  s.upTo 584 (fun s l => s.when (s.fldOn LANE_PWR l) (fun s => s.calibrate l))

/-- The LFSRs of the Towpath start from the serial number (R495). -/
def State.seedTow (s : State) : State := s.upTo 2 (fun s b => s.setTow b { s.towRun b with lfsr := s.towSeed b })

/-- The domain that holds an island (R529). -/
def islandDomain (i : Nat) : Nat :=
  if i ≤ 138 then i else if i ≤ 142 then 139 + 8 * (i - 139) else if i = 143 then 171 else 172

/-- Stopped clocks of islands whose domain is not off start. -/
def State.startClocks (s : State) : State :=
  s.upTo 145 (fun s i =>
    if s.fldOn CLKISL_STOPPED i = true ∧ s.fld DOM_DSTATE (islandDomain i) ≠ 2 ∧ (s.ramp i).isNone = true then s.startRamp i true
    else s)

/-- A reset of the class LAST_RESET records is in progress while the boot it began has not reached SERVICE. -/
def State.resetting (s : State) (last : Nat) : Bool := !s.inService && s.fld BOOT_LAST_RESET == last

/-- PIN: everything but what Keep P and the flash hold restarts from stage 0. During a POR boot the boot starts again
(R505) and stays the POR's (R527). -/
def State.pinReset (s : State) (x : Straps) : State :=
  let last := if s.resetting 1 then 1 else 2
  let s := (s.clearClass .pin).restart
  let s := { s with
    host := {}, cway := {}, dbg := { ir := s.dbg.ir, cells := s.dbg.cells }, boot := s.boot.afterReset, lane := {}
    store := { retiredQp := s.store.retiredQp } }
  let s := (s.applyDbgKill.sampleStraps x).setFld BOOT_LAST_RESET last
  s.reenterSafe

/-- Cores that were halted run again, and a running operation is lost; the debug space stays (R528, R538). -/
def DbgState.afterWarm (d : DbgState) : DbgState := { d with op := none, access := none, cmem := [] }

/-- WARM: stage 5 onward. -/
def State.restartWarm (s : State) : State :=
  let stage := s.fld BOOT_STAGE
  let seen := s.fldOn CWAY_PEER_SEEN
  let s := (s.clearClass .warm).restart
  let b := s.boot
  let s := { s with
    cway := { helloAt := bit seen }
    dbg := s.dbg.afterWarm
    boot := { b with page := [], op := none, armed := false, copyUsed := 0, list := [], lastSave := 0 } }
  let s := (s.setFld BOOT_STAGE (min stage 4)).setFld BOOT_LAST_RESET 3
  let s := s.upTo 36 (fun s k => s.setFld DBGC_HALTED 0 0 k)
  let s := ((s.setFld CWAY_PF_DRIVE 0).setFld CWAY_PF_LINE 0).setFld CWAY_READY 0
  let s := s.when (s.role ≠ Role.INIT) (fun s => s.enterRole Role.INIT 0)
  ((s.refill.seedTow).applyGateInit.startClocks).reenterSafe

/-- A WARM reset; a POR or PIN reset in progress absorbs it (R527). -/
def State.warmReset (s : State) : State := if s.resetting 1 || s.resetting 2 then s else s.restartWarm

/-- POWER_ON_RESET: POR is released, and the boot starts. -/
def execPowerOnReset (straps : Straps) (s : State) : Host.Outcome State Fault Refusal := .next (s.powerOn straps)

/-- PIN_RESET: RESET_N has been low, and rises. -/
def execPinReset (straps : Straps) (s : State) : Host.Outcome State Fault Refusal := .next (s.pinReset straps)

/-- BROWN_OUT: a rail below 85 % of nominal applies POR at once (R554). -/
def execBrownOut (_rail : Fin 13) (straps : Straps) (s : State) : Host.Outcome State Fault Refusal :=
  .next (s.powerOn straps)

/-! ### Flash contents (R512) -/

/-- A byte of the flash outside the settings copies. -/
def State.flashByte (s : State) (a : Nat) : Nat := 255 - Tab.get 0 s.boot.flash a

def State.flashBytes (s : State) (a n : Nat) : List Nat := (List.range n).map (fun i => s.flashByte (a + i))

/-- Bytes of the flash, little-endian. -/
def State.flashNat (s : State) (a n : Nat) : Nat :=
  ((List.range n).map (fun i => s.flashByte (a + i) * 256 ^ i)).sum

/-- Bytes of the flash, the most significant first: a digest, a key or a signature (R513). -/
def State.flashBig (s : State) (a n : Nat) : Nat := bigEndian (s.flashBytes a n)

/-- Bytes are written from an address. -/
def State.flashWrite (s : State) (a : Nat) (bytes : List Nat) : State :=
  { s with boot := { s.boot with flash := Tab.setRange 0 s.boot.flash a (bytes.map (fun b => 255 - b % 256)) } }

/-- The bytes of a span are erased. -/
def State.flashErase (s : State) (a n : Nat) : State :=
  { s with boot := { s.boot with flash := s.boot.flash.filter (fun e => decide (e.1 < a ∨ a + n ≤ e.1)) } }

def bankBase (b : Nat) : Nat := if b = 0 then 0x00100000 else 0x00300000
def bankSize : Nat := 0x200000
def stagingBase : Nat := 0x00700000

/-- SEQ and PREF of boot control copy c, when its CRC is good. -/
def State.bootCopy (s : State) (c : Nat) : Option (Nat × Nat) :=
  let a := 0x10000 * c
  let bs := s.flashBytes a 12
  if s.flashNat a 4 = 0x4C544342 ∧ s.flashNat (a + 12) 4 = crc32 bs then some (s.flashNat (a + 4) 4, s.flashByte (a + 8))
  else none

/-- The boot control copy that counts. -/
def State.bootCopyUsed (s : State) : Option Nat :=
  match s.bootCopy 0, s.bootCopy 1 with
  | some x, some y => some (if y.1 > x.1 then 1 else 0)
  | some _, none => some 0
  | none, some _ => some 1
  | none, none => none

/-- The bank that boot control prefers. -/
def State.bootPref (s : State) : Nat :=
  match s.bootCopyUsed.bind s.bootCopy with
  | some (_, p) => if p = 1 then 1 else 0
  | none => 0

/-- Boot control is written with PREF in the copy that does not count. -/
def State.writeBootControl (s : State) (pref : Nat) : State :=
  let inUse := s.bootCopyUsed
  let seq := match inUse.bind s.bootCopy with
    | some (q, _) => (q + 1) % 2 ^ 32
    | none => 1
  let c := match inUse with
    | some 0 => 1
    | _ => 0
  let bs := [0x42, 0x43, 0x54, 0x4C] ++ (List.range 4).map (fun i => bitField seq (8 * i) 8) ++ [pref, 0, 0, 0]
  let crc := crc32 bs
  let s := (s.flashErase (0x10000 * c) 0x10000).flashWrite (0x10000 * c)
    (bs ++ (List.range 4).map (fun i => bitField crc (8 * i) 8))
  s.setFld BOOT_PREF s.bootPref

/-! ### Cuhorn images (R513, R514) -/

/-- Offsets of a header that R513 does not list. -/
def headerReserved (i : Nat) : Bool :=
  i == 5 || i == 0xF || (0xE1 ≤ i && i < 0x100) || (0x160 ≤ i && i < 0x200)

/-- MAGIC, KIND, HDR_VER, KEY_SLOT and the reserved bytes are those of an image. -/
def State.headerOk (s : State) (a : Nat) : Bool :=
  s.flashNat a 4 == 0x4E485543 && s.flashByte (a + 4) == 1 && s.flashNat (a + 6) 2 == 1 &&
    bitField (s.flashNat (a + 0xC) 4) 20 2 != 3 &&
    (List.range 0x200).all (fun i => !headerReserved i || s.flashByte (a + i) == 0)

/-- The header of the image in a bank. -/
def State.imageHdr (s : State) (bank : Nat) : ImageHdr :=
  let a := bankBase bank
  let w := s.flashNat (a + 0xC) 4
  { imgVer := s.flashNat (a + 8) 4, svn := bitField w 0 7, svnCommit := bitAt w 8, revoke := bitField w 16 3
    slot := bitField w 20 2, setVer := s.flashNat (a + 0x18) 2, setMin := s.flashNat (a + 0x1A) 2 }

/-- SHA-384 of PUBKEY equals KEY_HASH of the slot, and the slot is not revoked (R514). -/
def State.keyGood (s : State) (a slot : Nat) : Bool :=
  match s.boot.fuses with
  | some f => sha384 (s.flashBytes (a + 0x80) 97) == (f.keyHash.toList.getD slot 0).toNat && !bitAt (s.fld BOOT_KEY_REVOKED) slot
  | none => false

/-- SHA-384 of the payload equals DIGEST. -/
def State.payloadGood (s : State) (a : Nat) : Bool :=
  sha384 (s.flashBytes (a + 0x200) (s.flashNat (a + 0x10) 4)) == s.flashBig (a + 0x20) 48

/-- SIG verifies under PUBKEY, an uncompressed point, over SHA-384 of the header up to it. -/
def State.signatureGood (s : State) (a : Nat) : Bool :=
  s.flashByte (a + 0x80) == 4 &&
    ecVerify (s.flashBig (a + 0x81) 48) (s.flashBig (a + 0xB1) 48) (s.flashBig (a + 0x100) 48) (s.flashBig (a + 0x130) 48)
      (sha384 (s.flashBytes a 0x100))

/-- The cause with which a bank fails its check, the tests in their order; 0: it passes. `readOk`: no flash read error
occurred. -/
def State.bankCause (s : State) (bank : Nat) (readOk : Bool) : Nat :=
  let a := bankBase bank
  let h := s.imageHdr bank
  let len := s.flashNat (a + 0x10) 4
  if s.headerOk a = false then 1
  else if len < 1 ∨ 1572864 < len then 2
  else if s.keyGood a h.slot = false then 4
  else if h.svn < s.fld BOOT_SVN_FUSE then 6
  else if s.payloadGood a = false then 3
  else if s.signatureGood a = false then 5
  else if readOk = false then 7
  else 0

/-! ### Stages (R509 .. R515) -/

/-- Recovery: P0 only, with the flash window. -/
def State.enterRecovery (s : State) : State :=
  ({ s with boot := { s.boot with recovery := true } }).setFld BOOT_STAGE 2

/-- FUSE_LOAD_DONE: stage 1, or FUSE_ERR for an uncorrectable row. The first load settles what the fuses hold; TEST_KILL is
blown on every part (R5). -/
def execFuseLoadDone (fuses : Option Fuses) (s : State) : Host.Outcome State Fault Refusal :=
  if s.fldOn CLK_ROSC_OK = true ∧ s.fld BOOT_STAGE = 0 ∧ s.faults.railsAtBoot = [] then
    match fuses with
    | none => .next (s.raiseOpen Ev.FUSE_ERR)
    | some f =>
      let f := s.boot.fuses.getD f
      let s := { s with boot := { s.boot with fuses := some f } }
      let s := s.setPair CWAY_DEV_SERIAL_LO CWAY_DEV_SERIAL_HI f.serial.toNat
      let s := s.setFld BOOT_KEY_REVOKED (f.revoked.toNat ||| s.boot.blownKeys)
      let s := s.setFld BOOT_SVN_FUSE (min 64 (max f.svn.toNat s.boot.blownSvn))
      let s := (s.setFld BOOT_DBG_KILL (bit s.boot.blownDbg)).setFld BOOT_TEST_KILL 1
      let s := s.seedTow
      let s := (s.startClocks.setFld BOOT_PREF s.bootPref).setFld BOOT_STAGE 1
      .next (if s.fld BOOT_MODE = 2 then s.enterRecovery else s)
  else .next s

/-- BANK_CHECK_DONE: the bank under check boots, or the other is tried, or the device enters recovery. -/
def execBankCheckDone (readOk : Bool) (s : State) : Host.Outcome State Fault Refusal :=
  if s.fld BOOT_STAGE = 1 then
    let bank := if s.boot.triedOther then 1 - s.fld BOOT_PREF else s.fld BOOT_PREF
    let cause := s.bankCause bank readOk
    let s := s.setFld (if bank = 0 then BOOT_CAUSE_A else BOOT_CAUSE_B) cause
    if cause = 0 then
      let h := s.imageHdr bank
      let s := (s.setFld BOOT_BANK bank).setFld BOOT_FALLBACK (bit s.boot.triedOther)
      let s := (s.setFld BOOT_IMG_VER h.imgVer).setFld BOOT_KEY_USED h.slot
      .next (({ s with boot := { s.boot with booted := true, image := h } }).setFld BOOT_STAGE 2)
    else if s.boot.triedOther then .next s.enterRecovery
    else .next { s with boot := { s.boot with triedOther := true } }
  else .next s

/-- The partitions that a link configuration lets be present (R28), as a mask. DESIGN CHOICE, log 77: the reserved code 0
has none but P0. -/
def linkParts (cfg : Nat) : Nat := if cfg = 1 then 0x3 else if cfg = 2 then 0xF else if cfg = 3 then 0xFF else 1

/-- BOOT_RECORD_APPLIED: links, functions, subsystem IDs, pairing, REFOSC and the gated domains are as the record has them,
and functions that have appeared and are enabled turn on (R28 .. R30, R55, R111, R457, R530). -/
def execBootRecordApplied (record : BootRecord) (s : State) : Host.Outcome State Fault Refusal :=
  if s.fld BOOT_STAGE = 2 ∧ s.boot.recovery = false then
    let s := s.setFld GLB_LINK_CFG record.linkCfg.toNat
    let s := s.setFld GLB_PART_PRESENT (record.present.toNat &&& linkParts record.linkCfg.toNat ||| 1)
    let s := s.setFld CWAY_PAIR_EN (bit record.pairEn)
    let b := s.boot
    let s := { s with boot := { b with
      gateInit := record.gate.toNat, subsystem := record.subsystem.toNat, refosc := record.refosc } }
    let s := s.each [1, 2, 3, 4, 5, 6, 7] State.turnOn
    .next (s.applyGateInit.setFld BOOT_STAGE 3)
  else .next s

/-- MEMORY_TRAINING_DONE: a stack that failed raises MEM_UE, and the boot stays where stage 4 is not reached (R509, R511;
DEDUCED, log 17). With every stack trained, stage 4, and the lanes calibrate. -/
def execMemoryTrainingDone (ok : BitVec 4) (s : State) : Host.Outcome State Fault Refusal :=
  if s.fld BOOT_STAGE = 3 then
    let s := s.upTo 4 (fun s i =>
      if bitAt ok.toNat i then s.setFld MC_READY 1 i
      else if s.fldOn MC_READY i then s
      else s.raiseOpen Ev.MEM_UE_STRUCT { index := i })
    .next (if (List.range 4).all (fun i => s.fldOn MC_READY i) then (s.refill).setFld BOOT_STAGE 4 else s)
  else .next s

/-! ### Flash commands (R516 .. R518) -/

/-- An address that ERASE and PROGRAM may not touch: boot control, the settings copies, the booted bank. -/
def State.flashProtected (s : State) (a : Nat) : Bool :=
  decide (a < 0x20000 ∨ (0x500000 ≤ a ∧ a < 0x700000)) ||
    (s.boot.booted && decide (bankBase (s.fld BOOT_BANK) ≤ a ∧ a < bankBase (s.fld BOOT_BANK) + bankSize))

/-- A flash command is refused or fails. -/
def State.flashErr (s : State) (cause : Nat) : State := (s.setFld BOOT_FL_ERR 1).setFld BOOT_FL_CAUSE cause

/-- A flash command starts. -/
def State.flashStart (s : State) (op : FlashOp) : State :=
  ({ s with boot := { s.boot with op := some op } }).setFld BOOT_FL_BUSY 1

def State.settingsCopy (s : State) (c : Nat) : Option SettingsCopy := if c = 0 then s.boot.copy0 else s.boot.copy1

/-- What a copy of the settings store holds, as one list. -/
def SettingsCopy.contents (x : SettingsCopy) : List Nat :=
  [x.fmtVer, x.seq, x.hoFreq, x.hoAge] ++ x.list.flatMap (fun e => [e.1, e.2]) ++ x.retired.flatMap (fun e => [e.1, e.2])

/-- A byte of the flash as FL_DATA reads it. A settings copy begins with its MAGIC; where its other fields lie the spec does
not say, and those bytes are free (log 17). -/
def State.flashShown (s : State) (a : Nat) : Nat :=
  if 0x500000 ≤ a ∧ a < 0x700000 then
    let c := (a - 0x500000) / 0x100000
    let off := a % 0x100000
    match s.settingsCopy c with
    | some x => if off < 4 then [0x53, 0x45, 0x54, 0x53].getD off 0 else (Config.settingsByte x.contents off).toNat
    | none => (Config.settingsByte [] a).toNat
  else s.flashByte a

/-- FL_DATA read: four bytes, and FL_ADDR goes on. -/
def State.readFlData (s : State) : State × Nat :=
  let a := s.fld BOOT_FL_ADDR
  (s.setFld BOOT_FL_ADDR (a + 4), ((List.range 4).map (fun i => s.flashShown (a + i) * 256 ^ i)).sum)

/-- FL_DATA write: four bytes of the page buffer, and FL_ADDR goes on. -/
def State.writeFlData (s : State) (v : Nat) : State :=
  let a := s.fld BOOT_FL_ADDR
  let page := Tab.setRange 0 s.boot.page (a % 256) ((List.range 4).map (fun i => 255 - bitField v (8 * i) 8))
  ({ s with boot := { s.boot with page := page } }).setFld BOOT_FL_ADDR (a + 4)

/-- The 256 bytes of the page buffer. -/
def State.pageBytes (s : State) : List Nat := (List.range 256).map (fun i => 255 - Tab.get 0 s.boot.page i)

def State.eraseCmd (s : State) : State :=
  let a := s.fld BOOT_FL_ADDR
  if s.flashProtected a then s.flashErr 1
  else if s.fldOn BOOT_FL_BUSY then s.flashErr 2
  else s.flashStart (.erase (a / 65536 * 65536))

def State.programCmd (s : State) : State :=
  let a := s.fld BOOT_FL_ADDR
  if s.flashProtected a then s.flashErr 1
  else if s.fldOn BOOT_FL_BUSY then s.flashErr 2
  else s.flashStart (.program (a / 256 * 256) s.pageBytes)

def State.deltaCmd (s : State) : State := if s.fldOn BOOT_FL_BUSY then s.flashErr 2 else s.flashStart .delta

def State.prefCmd (s : State) (bank : Nat) : State :=
  if s.fldOn BOOT_FL_BUSY then s.flashErr 2 else s.flashStart (.pref bank)

/-- The settings copy that counts: the higher SEQ of those with a good CRC and a format the image reads (R523). -/
def State.settingsUsed (s : State) : Option Nat :=
  let ok (c : Option SettingsCopy) : Option Nat :=
    match c with
    | some c => if s.boot.image.setMin ≤ c.fmtVer ∧ c.fmtVer ≤ s.boot.image.setVer then some c.seq else none
    | none => none
  match ok s.boot.copy0, ok s.boot.copy1 with
  | some x, some y => some (if y > x then 1 else 0)
  | some _, none => some 0
  | none, some _ => some 1
  | none, none => none

/-- The copy that is written next, and its SEQ. -/
def State.settingsNext (s : State) : Nat × Nat :=
  match s.settingsUsed with
  | some c => (1 - c, (((s.settingsCopy c).map (·.seq)).getD 0 + 1) % 2 ^ 32)
  | none => (0, 1)

/-- What a save writes (R522, R525). -/
def State.settingsNow (s : State) : SettingsCopy :=
  { fmtVer := s.boot.image.setVer, seq := s.settingsNext.2
    list := (List.range (s.fld BOOT_SET_LEN)).map (fun i => Tab.get (0, 0) s.boot.list i)
    hoFreq := s.fld TM_HO_FREQ, hoAge := s.fld TM_HO_AGE, retired := s.store.retiredQp }

def State.putSettings (s : State) (c : Nat) (x : SettingsCopy) : State :=
  if c = 0 then { s with boot := { s.boot with copy0 := some x } } else { s with boot := { s.boot with copy1 := some x } }

def State.saveCmd (s : State) : State :=
  if s.fld BOOT_MODE = 1 then s.flashErr 1
  else if s.fldOn BOOT_FL_BUSY then s.flashErr 2
  else s.flashStart (.save s.settingsNext.1 s.settingsNow)

/-- FL_CMD. -/
def State.flashCmd (s : State) (c : Nat) : State :=
  match c with
  | 1 => s.eraseCmd
  | 2 => s.programCmd
  | 3 => s.deltaCmd
  | 4 => s.prefCmd 0
  | 5 => s.prefCmd 1
  | 6 => s.saveCmd
  | _ => s

/-- No flash command runs. -/
def State.flashIdle (s : State) : State := ({ s with boot := { s.boot with op := none } }).setFld BOOT_FL_BUSY 0

/-- FLASH_OP_DONE: the running command completes; DELTA_GO ends by FW_DELTA_DONE. PROGRAM stores the page buffer whatever the
page held, and a command that fails or that a reset ends leaves the flash as it was: DESIGN CHOICE, log 17. -/
def execFlashOpDone (ok : Bool) (s : State) : Host.Outcome State Fault Refusal :=
  match s.boot.op with
  | none => .next s
  | some .delta => .next s
  | some (.erase a) => .next (if ok then s.flashIdle.flashErase a 65536 else s.flashIdle.flashErr 3)
  | some (.program a page) => .next (if ok then s.flashIdle.flashWrite a page else s.flashIdle.flashErr 3)
  | some (.pref b) => .next (if ok then s.flashIdle.writeBootControl b else s.flashIdle.flashErr 3)
  | some (.save c x) => .next (if ok then s.flashIdle.putSettings c x else s.flashIdle.flashErr 3)

/-! ### Delta packages (R517) -/

/-- What the records of a package produce: the target so far, newest byte first, and whether END was met. -/
structure DeltaRun where
  target : List Nat := []
  ended : Bool := false
  bad : Bool := false
  deriving DecidableEq, Repr

def le4 (l : List Nat) : Nat := l.getD 0 0 + 256 * l.getD 1 0 + 65536 * l.getD 2 0 + 16777216 * l.getD 3 0

/-- The records are executed in order. `base`: the booted bank; `tgt`: TGT_LEN. -/
def deltaRun (base : List Nat) (tgt : Nat) : Nat → List Nat → DeltaRun → DeltaRun
  | 0, _, r => { r with bad := true }
  | _ + 1, [], r => { r with bad := true }
  | n + 1, op :: rest, r =>
    if op = 0 then { r with ended := true, bad := decide (r.target.length ≠ tgt) }
    else if op = 1 then
      let o := le4 rest
      let len := le4 (rest.drop 4)
      if rest.length < 8 ∨ base.length < o + len ∨ tgt < r.target.length + len then { r with bad := true }
      else deltaRun base tgt n (rest.drop 8) { r with target := ((base.drop o).take len).reverse ++ r.target }
    else if op = 2 then
      let len := le4 rest
      if rest.length < 4 + len ∨ tgt < r.target.length + len then { r with bad := true }
      else deltaRun base tgt n (rest.drop (4 + len)) { r with target := ((rest.drop 4).take len).reverse ++ r.target }
    else { r with bad := true }

/-- The whole image in a bank, header included. -/
def State.imageBytes (s : State) (bank : Nat) : List Nat := s.flashBytes (bankBase bank) (512 + s.flashNat (bankBase bank + 0x10) 4)

/-- The package's BASE_DIGEST is that of the booted image. -/
def State.deltaBaseGood (s : State) : Bool :=
  s.boot.booted && sha384 (s.imageBytes (s.fld BOOT_BANK)) == s.flashBig (stagingBase + 0x50) 48

/-- DELTA_GO: the state it leaves and the cause, 0 when the target is written. `ok`: no flash error. A bank whose records
fail, or whose flash does, is left without a header (R518); what else of it is written then is DESIGN CHOICE, log 17. -/
def State.applyDelta (s : State) (ok : Bool) : State × Nat :=
  let p := stagingBase
  let tgt := s.flashNat (p + 0x1C) 4
  if s.flashByte (p + 4) ≠ 2 ∨ tgt < 512 ∨ bankSize < tgt then (s, 6)
  else if s.deltaBaseGood = false then (s, 4)
  else
    let bank := s.fld BOOT_BANK
    let len := s.flashNat (p + 0x10) 4
    let r := deltaRun (s.imageBytes bank) tgt (len + 1) (s.flashBytes (p + 512) (min len 0x3FFE00)) {}
    let t := r.target.reverse
    let o := bankBase (1 - bank)
    let s := (s.flashErase o bankSize).flashWrite (o + 512) (t.drop 512)
    if r.bad then (s, 6)
    else if ok = false then (s, 3)
    else if sha384 t ≠ s.flashBig (p + 0x20) 48 then (s.flashErase o 65536, 5)
    else ((s.flashWrite o (t.take 512)).writeBootControl (1 - bank), 0)

/-- FW_DELTA_DONE: DELTA_GO ends. The operands say whether the flash was read, erased and programmed without an error. -/
def execFwDeltaDone (readOk eraseOk programOk : Bool) (s : State) : Host.Outcome State Fault Refusal :=
  if s.boot.op = some .delta then
    let ver := s.flashNat (stagingBase + 8) 4
    let (s, cause) := s.flashIdle.applyDelta (readOk && eraseOk && programOk)
    let s := if cause = 0 then s else s.flashErr cause
    .next (s.raise Ev.FW_DELTA_DONE { data := cause + 2 ^ 32 * ver })
  else .next s

/-! ### Fuses (R520) -/

/-- FUSE_KEY. -/
def State.writeFuseKey (s : State) (v : Nat) : State :=
  { s with boot := { s.boot with armed := decide (v = 0xD8C10A55) } }

/-- BLOW_DBG = 1 after the key, in the next register write of P0. -/
def State.blowDbg (s : State) : State :=
  { s with boot := { s.boot with armed := false, blownDbg := s.boot.blownDbg || s.boot.armed } }

end Sys2Proof.Machine
end

