-- ==== Sys2Proof/Machine/Descriptors.lean ====
section
/-! DEFINITION. Change descriptors as they are read: reserved bits, field values, indices and the changes that they ask
for (R14, R68, R69, R76 .. R80, R82, R86, R204, R250, R258). -/

namespace Sys2Proof.Machine
open Reg

/-! ### Results -/

/-- How the processing of a descriptor ends: status, values and DETAIL of its record, the commit sequence number and the
milepost that it took. -/
structure Done where
  status : Nat
  v0 : Nat := 0
  v1 : Nat := 0
  detail : Nat := 0
  cseq : Nat := 0
  t : Nat := 0
  deriving DecidableEq, Repr

def done (v0 v1 : Nat) : Done := { status := St.OK, v0 := v0, v1 := v1 }

def fail (status detail : Nat) : Done := { status := status, detail := detail }

/-! ### Header and body (R68 .. R70, R75) -/

/-- An opcode of R75. -/
def opcodeListed (op : Nat) : Bool :=
  [0x00, 0x01, 0x10, 0x11, 0x12, 0x13, 0x14, 0x15, 0x16, 0x20, 0x21, 0x22, 0x30, 0x31, 0x32, 0x33, 0x34, 0x40, 0x41, 0x50,
    0x51, 0x60, 0x61, 0x70].contains op

def allowsBank (op : Nat) : Bool := [0x10, 0x11, 0x12, 0x13, 0x14, 0x15, 0x16, 0x22].contains op

/-- Change opcodes, COMMIT, BANK_FLIP and ALLOC (R73). -/
def allowsCheck (op : Nat) : Bool := allowsGroup op || op == 0x21

/-- The opcode has a host buffer (R75). -/
def hasBuffer (op : Nat) : Bool := readsBuffer op || op == 0x31 || op == 0x32 || op == 0x34

/-- Body bits that an opcode defines, in words 5 .. 15; NOP and TIME_QUERY have no body. -/
def bodyBits (op i : Nat) : Nat :=
  let all := 0xFFFFFFFF
  let of (l : List Nat) : Nat := l.getD (i - 5) 0
  match op with
  | 0x00 => all
  | 0x60 => all
  | 0x01 => of [1, all, all, all]
  | 0x10 => of [0x37FF03FF, 7]
  | 0x14 => of [0x37FF777F, all, all, 0x0FFF1FFF, all, all, 7]
  | 0x15 => of [0x37F, 0xFFF, 0x80FFFFFF, 0x3FFFFFFF]
  | 0x16 => of [3, 0x703FF, 0xFF, all, 0x33]
  | 0x20 => of [1, all, all]
  | 0x21 => of [1, all, all]
  | 0x22 => of [0x7FF, 0x1F1F, 0xFF]
  | 0x30 => of [0xFFF, all]
  | 0x31 => of [0x707FF, 0xFF]
  | 0x32 => of [0xFF, 7]
  | 0x33 => of [0x3FF, all]
  | 0x34 => of [0x10F, 0x3FFFF, 0x7FFFF]
  | 0x40 => of [0x3FFFF]
  | 0x41 => of [0x3FFFF]
  | 0x50 => of [0x31F, all]
  | 0x51 => of [0x1F, 7, 0xFFFF]
  | 0x61 => of [0, all, all]
  | 0x70 => of [0, all, all]
  | _ => of []

/-- The byte offset of the first header or body field that no descriptor of its opcode may carry: reserved bits, the form,
an address without a buffer or not on a word (R68 .. R70, R73). -/
def Request.headerBad (r : Request) : Option Nat :=
  let op := r.opcode
  if bitField (r.word 0) 11 5 ≠ 0 then some 0x00
  else if bitField (r.word 1) 16 16 ≠ 0 then some 0x04
  else if r.bank && r.group != 0 then some 0x04
  else if r.bank && !allowsBank op then some 0x00
  else if r.group ≠ 0 ∧ allowsGroup op = false then some 0x04
  else if r.checkOnly && !allowsCheck op then some 0x00
  else if (if hasBuffer op then r.hostAddr % 4 else r.hostAddr) ≠ 0 then some 0x08
  else ((List.range 11).find? (fun i => r.word (i + 5) &&& (0xFFFFFFFF - bodyBits op (i + 5)) != 0)).map (fun i => 4 * (i + 5))

/-- HOST_LEN is no multiple of 4, or an opcode without a buffer carries one (R68, R88). -/
def Request.lengthBad (r : Request) : Bool := r.hostLen % 4 != 0 || (!hasBuffer r.opcode && r.hostLen != 0)

/-- A 64-bit field of the body. -/
def Request.word64At (r : Request) (i : Nat) : Nat := word64 (r.word i) (r.word (i + 1))

/-! ### Entries -/

/-- One entry of a change descriptor: the offset of a field out of range, an index outside its range, its change. -/
structure Entry where
  field : Option Nat := none
  index : Option Nat := none
  change : Option Change := none
  deriving DecidableEq, Repr

/-- A source index outside the ranges of R14. -/
def srcBad (n : Nat) : Option Nat := if 1120 ≤ n ∧ n < 2047 then some n else none

/-- A signed 16-bit half of a word. -/
def half (w hi : Nat) : Int := signed 16 (bitField w (16 * hi) 16)

def routeEntry (w0 w1 : Nat) : Entry :=
  let reserved : Option Nat :=
    if w0 &&& (0xFFFFFFFF - 0x37FF03FF) ≠ 0 then some 0 else if w1 &&& (0xFFFFFFFF - 7) ≠ 0 then some 4 else none
  let src := bitField w0 16 11
  { field := reserved, index := srcBad src
    change := some (.route (bitField w0 0 10) src (bitField w0 28 2) 0 (bitAt w1 0) (bitAt w1 1) (bitAt w1 2)) }

def mapEntry (w0 w1 : Nat) : Entry :=
  { field := if w0 &&& 0x8000 ≠ 0 then some 0 else if w1 &&& (0xFFFFFFFF - 0x3FFFF) ≠ 0 then some 4 else none
    change := some (.audioMap (bitField w0 0 15) w0 w1) }

def gainEntry (w0 w1 : Nat) : Entry :=
  { field := if bitField w0 24 8 ≠ 0 then some 0 else none
    change := some (.audioGain (bitField w0 0 15) (bitAt w0 15) (bitField w0 16 8) w1) }

/-- The 8-byte entries of a buffer. -/
def entriesOf (f : Nat → Nat → Entry) : List Nat → List Entry
  | a :: b :: rest => f a b :: entriesOf f rest
  | _ => []

/-- The tiles of a buffer, each of four words. -/
def tilesOf : List Nat → List Tile
  | a :: b :: c :: _ :: rest =>
    { src := bitField a 0 11, lat := bitField a 12 2, x := half b 0, y := half b 1, w := bitField c 0 16, h := bitField c 16 16
      charge := 0 } :: tilesOf rest
  | _ => []

/-- The offset in the buffer of the first reserved bits of a tile. -/
def tileBad (at' : Nat) : List Nat → Option Nat
  | a :: _ :: _ :: d :: rest =>
    if a &&& (0xFFFFFFFF - 0x37FF) ≠ 0 then some at' else if d ≠ 0 then some (at' + 12) else tileBad (at' + 16) rest
  | _ => none

/-- LAYER (R78, R250, R258). -/
def Request.layerEntry (r : Request) (gfxPart : Nat) : Entry :=
  let w5 := r.word 5
  let w8 := r.word 8
  let c := bitField w5 0 7
  let kind := bitField w5 12 3
  let src := bitField w5 16 11
  let ref := bitField w8 16 12
  let tiles := if kind = 2 then tilesOf (leWords r.buf) else []
  let cropOrigin := r.word 9
  let cropSize := r.word 10
  let field : Option Nat :=
    if 5 ≤ kind then some 0x14
    else if kind ≠ 2 ∧ r.hostLen ≠ 0 then some 0x10
    else if kind ≠ 1 ∧ src ≠ 2047 then some 0x14
    else if 4096 < bitField w8 0 13 then some 0x20
    else if ref ≠ 0 ∧ kind ≠ 3 ∧ ¬(kind = 4 ∧ ref ≤ 5) then some 0x20
    else if cropOrigin ≠ 0 ∧ kind ≠ 1 ∧ kind ≠ 3 then some 0x24
    else if cropSize ≠ 0 ∧ kind ≠ 1 then some 0x28
    else if 6 ≤ r.word 11 then some 0x2C
    else if kind = 2 then tileBad 0 (leWords r.buf)
    else none
  { field := field
    index := if 96 ≤ c then some c else ([src] ++ tiles.map (·.src)).findSome? srcBad
    change := some (.layer c (bitField w5 8 3)
      { kind := kind, src := src, lat := bitField w5 28 2
        x := half (r.word 6) 0, y := half (r.word 6) 1, w := bitField (r.word 7) 0 16, h := bitField (r.word 7) 16 16
        alpha := bitField w8 0 13, ref := ref
        cropX := bitField cropOrigin 0 16, cropY := bitField cropOrigin 16 16
        cropW := bitField cropSize 0 16, cropH := bitField cropSize 16 16
        level := r.word 11, tiles := tiles, gfxPart := gfxPart }) }

/-- ZPERM names every layer once (R79). -/
def permutation (z : Nat) : Bool := (List.range 8).all (fun l => (List.range 8).any (fun i => bitField z (3 * i) 3 == l))

/-- COMPOSITOR_SET (R79, R244). -/
def Request.compEntry (r : Request) : Entry :=
  let c := bitField (r.word 5) 0 7
  let act := bitField (r.word 5) 8 2
  let out := bitField (r.word 6) 0 8
  let plane := bitField (r.word 6) 8 4
  let z := bitField (r.word 7) 0 24
  let zen := bitAt (r.word 7) 31
  { field :=
      if act = 3 then some 0x14
      else if (out ≠ 0 ∧ outFmtOk out = false) ∨ 9 ≤ plane then some 0x18
      else if (if zen then permutation z else z == 0) = false then some 0x1C
      else none
    index := if 96 ≤ c then some c else none
    change := some (.compSet c act out plane z zen (r.word 8)) }

/-- FRESH_POLICY (R80, R204). -/
def Request.freshEntry (r : Request) : Entry :=
  let target := bitField (r.word 5) 0 2
  let i := bitField (r.word 6) 0 10
  let preset := r.word 7
  let policy : Option Policy :=
    if preset = 255 then
      some { preset := 255, maxAgeMs := bitField (r.word 8) 0 16, stallMs := bitField (r.word 8) 16 16
             hbChk := bitAt (r.word 9) 0, verdict := bitAt (r.word 9) 1, action := bitField (r.word 9) 4 2 }
    else presetPolicy preset
  { field :=
      if target = 0 ∨ target = 3 then some 0x14
      else if policy.isNone then some 0x1C
      else if preset ≠ 255 ∧ r.word 8 ≠ 0 then some 0x20
      else if preset ≠ 255 ∧ r.word 9 ≠ 0 then some 0x24
      else none
    index := if target = 2 ∧ 96 ≤ i then some i else none
    change := policy.map (fun p =>
      if target = 1 then .freshDst i p else .freshLayer i (bitField (r.word 6) 16 3) p) }

/-- ALLOC (R82, R131, R136). The shape is worked out when the ring is known. -/
def Request.allocEntry (r : Request) : Entry :=
  let n := bitField (r.word 5) 0 11
  let depth := bitField (r.word 6) 0 5
  let ladder := bitField (r.word 6) 8 5
  let store := r.word 7
  { field :=
      if r.group = 0 ∧ r.bank = false then some 0x04
      else if depth = 1 ∨ 17 ≤ depth ∨ (depth ≠ 0 ∧ bitAt ladder 0 = false) then some 0x18
      else if 4 ≤ store then some 0x1C
      else none
    index := if 1120 ≤ n then some n else none
    change := some (.alloc n { depth := depth, ladder := ladder, store := store } 0 true) }

/-- The user data words of a packet have nothing in their unused places (R392). -/
def udwOk (dc : Nat) : List Nat → Bool
  | [] => true
  | w :: rest => w / 2 ^ (10 * min 3 dc) == 0 && udwOk (dc - 3) rest

/-- The offset in an ANC_INSERT buffer of the first packet that is not in the layout of R392 and R393. -/
def packetsBad (at' : Nat) (ws : List Nat) : Nat → Option Nat
  | 0 => none
  | n + 1 =>
    match ws with
    | [] => none
    | w :: rest =>
      let dc := bitField w 16 8
      let k := bitField w 24 8
      if k ≠ 3 + ceilDiv dc 3 ∨ ws.length < k ∨ wordAt rest 0 ≠ 0 ∨ wordAt rest 1 ≠ 0 ∨
          udwOk dc ((rest.drop 2).take (k - 3)) = false then some at'
      else packetsBad (at' + 4 * k) (ws.drop k) n

/-- ANC_INSERT (R86, R297, R393). -/
def State.insertEntry (s : State) (r : Request) : Entry :=
  let d := bitField (r.word 5) 0 10
  let line := bitField (r.word 6) 0 16
  let ws := leWords r.buf
  { field :=
      if line ≠ 0 ∧ isInsertionLine (s.fld DST_RASTER d) (s.fldOn DST_SCAN d) line = false then some 0x18
      else packetsBad 0 ws ws.length
    change := some (.ancInsert d line (bitField (r.word 6) 16 16) ws) }

/-- PROBE_CTL (R86): as a change 0 START, 1 STOP, 2 RESET, 3 RESET then START, 4 none. -/
def Request.probeEntry (r : Request) : Entry :=
  let act := r.word 6
  let pc := bitField (r.word 7) 0 16
  { field := if 5 ≤ act then some 0x18 else if 16384 ≤ pc then some 0x1C else none
    change := some (.probeCtl (bitField (r.word 5) 0 5) (if act = 0 then 4 else act - 1) pc) }

end Sys2Proof.Machine
end

