-- ==== Sys2Proof/Machine/Submit.lean ====
section
/-! DEFINITION. Processing a change descriptor: the checks in their order, the implicit steps, admission, and how the
change is held (R70 .. R74, R77, R88, R136 .. R138, R171 .. R173, R176, R187, R207, R245, R246, R260). -/

namespace Sys2Proof.Machine
open Reg

/-! ### Fields, indices, lengths, rights (R74, steps 2 .. 7) -/

def bulkOp (op : Nat) : Bool := op == 0x11 || op == 0x12 || op == 0x13

/-- The first entry for which a check gives a DETAIL; a bulk descriptor answers with the entry's number (R77). -/
def entryFail (bulk : Bool) (status : Nat) (f : Entry → Option Nat) (es : List Entry) : Option Done :=
  es.zipIdx.findSome? (fun e => (f e.1).map (fun d => fail status (if bulk then e.2 else d)))

/-- The first resource that an entry touches and partition p may not change. -/
def State.entryOwner (s : State) (p : Nat) (e : Entry) : Option Nat :=
  e.change.bind (fun c => c.oris.find? (fun o => !s.mayChange p o))

/-- The first source that an entry names and partition p may not read. -/
def State.entryReads (s : State) (p : Nat) (e : Entry) : Option Nat :=
  e.change.bind (fun c =>
    match c.namedSrcs.find? (fun n => !s.mayRead p n) with
    | some n => some n
    | none => (c.chans.find? (fun ch => !s.mayReadChan p ch)).map (fun ch => (s.chanSource ch).getD 2047))

/-- Checks 2 .. 7 of R74. -/
def State.entryChecks (s : State) (r : Request) (es : List Entry) (lenBad : Bool) : Option Done :=
  let b := bulkOp r.opcode
  r.headerBad.map (fail St.BAD_FIELD) <|> entryFail b St.BAD_FIELD (·.field) es <|>
  entryFail b St.INVALID_INDEX (·.index) es <|>
  (if r.lengthBad || lenBad then some (fail St.BAD_LENGTH 0) else none) <|>
  entryFail b St.NOT_OWNER (s.entryOwner r.part) es <|> entryFail b St.NOT_READABLE (s.entryReads r.part) es

/-! ### State of the objects (R74, step 8) -/

/-- A source that has no video (R136). -/
def State.videoBar (s : State) (n : Nat) : Option Done :=
  if s.srcKind n = 0 ∨ s.srcKind n = 4 then some (fail St.STATE n) else none

/-- A destination that is not enabled (R217). -/
def State.dstBar (s : State) (d : Nat) : Option Done := if s.fldOn DST_ENABLE d then none else some (fail St.STATE d)

/-- A source of KIND 1 cannot be admitted on its lanes (R278, R338). A source is admitted once an ALLOC has applied for it
(R139), so rings that are only staged use no lane. -/
def State.laneBar (s : State) (n : Nat) : Option Done :=
  let g := s.cfg
  if s.srcKind n ≠ 1 ∨ (g.ring n).depth ≠ 0 then none
  else
    let l := s.fld SRC_LANE n
    let mine := s.sourceLanes n
    if (s.fld SDIRX_LINK l = 3 ∨ s.fld SDIRX_LINK l = 4) ∧ l % 4 ≠ 0 then some (fail St.STATE l)
    else
      match (g.rings.map (·.1)).find? (fun m => m != n && decide (m < 1024) && (g.ring m).depth != 0 && s.srcKind m == 1 &&
          (s.sourceLanes m).any mine.contains) with
      | some m => some (fail St.STATE m)
      | none => if mine.any s.laneBarred then some (fail St.STATE l) else none

/-- A ring cannot be made for a source (R82, R136, R278). -/
def State.ringBar (s : State) (g : Cfg) (n : Nat) : Option Done :=
  s.videoBar n <|> (if fmtComplete (s.srcFmtIn g n) then none else some (fail St.STATE n)) <|> s.laneBar n

/-- COMPOSITOR_SET on a compositor (R245). -/
def State.compBar (s : State) (m m' : CmpCfg) (c act out plane : Nat) : Option Done :=
  if act = 1 ∧ m.enabled = false ∧ (m'.outFmt = 0 ∨ m'.plane = 0) then some (fail St.STATE c)
  else if m'.enabled ∧ (act = 1 ∨ out ≠ 0 ∨ plane ≠ 0) ∧ s.planeSuitsCmp (m'.plane - 1) m'.outFmt = false then
    some (fail St.STATE c)
  else none

/-- Why the state of its objects refuses a change, on the configuration that the changes before it leave. -/
def State.stateBar (s : State) (g : Cfg) (own : Take → Bool) : Change → Option Done
  | .route d src _ _ v _ _ => s.dstBar d <|> (if v && src != 2047 then s.videoBar src else none)
  | .freshDst d _ => s.dstBar d
  | .ancInsert d .. => s.dstBar d
  | .layer c _ x =>
    let m := g.cmp c
    if s.gated (124 + c / 8) then some (fail St.STATE c)
    else if (x.kind = 1 ∨ x.kind = 2) ∧ (m.outFmt = 0 ∨ m.plane = 0) then some (fail St.STATE c)
    else if x.kind = 3 ∧ x.ref ≠ 0 ∧ (s.graphic x.gfxPart x.ref).isNone then some (fail St.STATE x.ref)
    else (layerReaders c 0 x).findSome? (fun rd => s.videoBar rd.src)
  | .compSet c act out plane z zen bg =>
    if s.gated (124 + c / 8) then some (fail St.STATE c)
    else s.compBar (g.cmp c) ((g.cmp c).withSet act out plane z zen bg) c act out plane
  | .alloc n sh _ _ => if sh.depth = 0 then s.videoBar n else s.ringBar g n
  | .flowAdd f ws =>
    let seen := s.flowsSeen own
    if s.gated 182 then some (fail St.STATE 0)
    else if seen.any (fun e => e.1 == f) then some (fail St.IN_USE 0) else (s.flowBarred seen ws).map (fail St.STATE)
  | _ => none

/-! ### Implicit steps (R137, R207, R246) -/

/-- A change with its charges, its slot shape and its pages worked out. -/
def State.priced (s : State) (g : Cfg) : Change → Change
  | .route d src lat _ v a n => .route d src lat (if v then s.routeCharge g d src else 0) v a n
  | .layer c l x => .layer c l (s.charged g c x)
  | .alloc n sh _ e =>
    let sh := if sh.depth = 0 then {} else s.shapeFor g n sh.depth sh.ladder sh.store
    .alloc n sh (s.allocPages g n sh) e
  | c => c

/-- Sources whose ring a change relies on, between the configuration before and the one that it leaves: those that its
readers name, and that of a destination whose mode a route changes without VIDEO (R76, R136). -/
def Change.videoSources (before after : Cfg) : Change → List Nat
  | .route d src _ _ v _ _ =>
    if v then (if src = 2047 then [] else [src])
    else
      let x := after.dst d
      if x.lat ≠ (before.dst d).lat ∧ x.vsrc ≠ 2047 then [x.vsrc] else []
  | .layer c l x => (layerReaders c l x).map (·.src)
  | _ => []

/-- The step that a source's readers ask for, once every change of the descriptor stands (R137, R138). -/
def State.readerStep (s : State) (g : Cfg) (n : Nat) : Except Done (List Change) :=
  if s.srcAuto n then
    let need := s.autoDepth g n
    let cur := g.ring n
    if cur.depth < need then
      match s.ringBar g n with
      | some d => .error d
      | none => let sh := s.shapeFor g n need 31 0; .ok [.alloc n sh (s.allocPages g n sh) false]
    else .ok []
  else if s.ringSuits g n then .ok []
  else .error (fail St.STATE n)

/-- The step that an enable or a format change of a compositor carries (R246). -/
def State.compStep (s : State) (before g : Cfg) (c act out : Nat) : List Change :=
  let m := g.cmp c
  let n := 1024 + c
  let cur := g.ring n
  let sh := s.shapeFor g n (max cur.depth (s.autoDepth g n)) 31 0
  let asks := (act == 1 && !(before.cmp c).enabled) || (m.enabled && out != 0)
  if asks && m.enabled && (cur.depth == 0 || cur.store != sh.store || cur.slotPages != sh.slotPages) then
    [.alloc n sh (s.allocPages g n sh) false]
  else []

/-- An explicit ALLOC that breaks R136 or R186 once every change of the descriptor stands. -/
def State.allocBar (s : State) (g : Cfg) : Change → Option Done
  | .alloc n sh _ true =>
    if sh.depth = 0 then (if g.readers.any (fun r => r.src == n) then some (fail St.STATE n) else none)
    else if s.ringSuits g n then none
    else some (fail St.STATE n)
  | _ => none

/-- Bytes of hold buffer that partition p has staged for a reader. -/
def State.stagedHold (s : State) (p rd : Nat) : Nat :=
  let of := fun (cs : List Change) => (cs.map (fun c => match c with | .holdBuf r n => if r = rd then n else 0 | _ => 0)).sum
  ((s.take.takes.filter (fun k => k.part == p && k.kind != .flip)).map (fun k => of k.todo)).sum + of (s.bank p).steps

/-- Steps for the hold buffers that the readers of some objects need and have not (R207). -/
def State.holdSteps (s : State) (p : Nat) (g : Cfg) (objs : List Nat) : List Change :=
  g.readers.filterMap (fun r =>
    if objs.contains r.obj then
      let need := s.holdNeed g r
      let have' := (s.reader r.rd).holdBytes + s.stagedHold p r.rd
      if have' < need then some (.holdBuf r.rd (need - have')) else none
    else none)

/-- The changes of a descriptor with their implicit steps, and the configuration that they leave. -/
structure Plan where
  changes : List Change
  view : Cfg
  deriving DecidableEq, Repr

/-- The changes in order: each is checked and priced on what the ones before it leave. -/
def State.planChanges (s : State) (own : Take → Bool) : Cfg → List Change → Except Done Plan
  | g, [] => .ok { changes := [], view := g }
  | g, c :: cs =>
    match s.stateBar g own c with
    | some d => .error d
    | none =>
      let c := s.priced g c
      match s.planChanges own (s.cfgStep g c) cs with
      | .error d => .error d
      | .ok p => .ok { p with changes := c :: p.changes }

/-- Steps for the sources that readers name, in order. -/
def State.planSources (s : State) : Cfg → List Nat → Except Done Plan
  | g, [] => .ok { changes := [], view := g }
  | g, n :: ns =>
    match s.readerStep g n with
    | .error d => .error d
    | .ok st =>
      match s.planSources (s.cfgSteps g st) ns with
      | .error d => .error d
      | .ok p => .ok { p with changes := st ++ p.changes }

/-- Changes and implicit steps on a configuration. -/
def State.plan (s : State) (p : Nat) (own : Take → Bool) (g : Cfg) (cs : List Change) : Except Done Plan :=
  match s.planChanges own g cs with
  | .error d => .error d
  | .ok a =>
    match s.planSources a.view (dedupNat (cs.flatMap (Change.videoSources g a.view))) with
    | .error d => .error d
    | .ok b =>
      match cs.findSome? (s.allocBar b.view) with
      | some d => .error d
      | none =>
        let comp := cs.flatMap (fun c => match c with | .compSet c act out .. => s.compStep g b.view c act out | _ => [])
        let v := s.cfgSteps b.view comp
        let objs := dedupNat ((cs.map Change.obj).filter (fun o => decide (o < 2048)))
        let steps := b.changes ++ comp ++ s.holdSteps p v objs
        .ok { changes := a.changes ++ steps, view := v }

/-! ### Group, bank and admission (R74, steps 9 .. 11) -/

def Take.scheduled' (k : Take) : Bool := k.state == .scheduled || k.state == .sealed || k.state == .decided

/-- Check 9 for `n` further changes (R71, R72, R81). -/
def State.formBar (s : State) (r : Request) (n : Nat) : Option Nat :=
  if r.bank then (if (s.flipOf r.part).isSome then some St.BANK_BUSY else none)
  else if r.group = 0 then none
  else
    match s.findGroup r.part r.group with
    | some k =>
      if k.state = .failed then some St.GROUP_FAILED
      else if k.state = .opened then (if 4096 < k.count + n then some St.GROUP_FULL else none)
      else some St.GROUP_CLOSED
    | none =>
      if 256 ≤ (s.groupsOf r.part).length then some St.GROUPS_EXHAUSTED
      else if 4096 < n then some St.GROUP_FULL
      else none

/-- The refusal of a budget (R7, R88). -/
def overFail (x : Nat × Nat) : Done := { status := St.OVER_BUDGET, v1 := x.2, detail := x.1 }

/-- The configuration with every take that is to apply no later than t: its B_c bounds a take that applies at t (R176,
R265). -/
def State.limitCfg (s : State) (t : Nat) : Cfg :=
  ((s.take.takes.filter (fun k => k.scheduled' && decide (k.t ≤ t))).mergeSort (fun a b => decide (a.t ≤ b.t))).foldl
    s.takeAll s.cfg

/-- Admission of an immediate take, a commit or a flip that makes g of the configuration: the committed charges, every
increase held, and its own increases (R173, R176), against the limits of `lim`. -/
def State.admission (s : State) (g lim : Cfg) : Option Done :=
  let now := s.charges s.cfg
  let inc := increases now (s.charges g)
  (s.overBudget s.cfg lim (addCharges (addCharges now (s.heldBy Take.scheduled')) inc) inc).map overFail

/-- Admission of a member or a bank write: the charges of the staged view that it leaves, against those of the view
before (R20, R73, R187). -/
def State.admitStaged (s : State) (g0 g1 : Cfg) : Option Done :=
  (s.overBudget g0 g1 (s.charges g1) (increases (s.charges g0) (s.charges g1))).map overFail

/-- Increases of the traffic on stack i that takes still to apply hold (R164, R176). -/
def State.stackHeld (s : State) (i : Nat) : Nat :=
  ((s.take.takes.filter Take.scheduled').map (fun k =>
    tabSum (increases (s.stackTraffic s.cfg i) (s.stackTraffic (s.takeAll s.cfg k) i)))).sum

/-- The refusal of the traffic limit of a stack (R130, R164). -/
def stackFail (i : Nat) : Done := fail St.NO_MEMORY (1 + i)

/-- The traffic check for an immediate take, a commit or a flip that makes g of the configuration. -/
def State.stackAdmission (s : State) (g : Cfg) : Option Done := (s.stackBar s.cfg g s.stackHeld).map stackFail

/-- Admission of a group or a flip that is to apply at t: budgets, then stacks (R164, R176). -/
def State.takeAdmission (s : State) (k : Take) (t : Nat) : Option Done :=
  s.admission (s.takeAll s.cfg k) (s.takeAll (s.limitCfg t) k) <|> s.stackAdmission (s.takeAll s.cfg k)

/-- The traffic check for a member or a bank write. -/
def State.stackStaged (s : State) (g0 g1 : Cfg) : Option Done := (s.stackBar g0 g1 (fun _ => 0)).map stackFail

/-- A LAYER that shows more graphics than R260 allows. -/
def gfxBar (s : State) (g : Cfg) : Change → Option Done
  | .layer c _ x => if x.kind = 3 ∧ gfxAllowance (g.cmp c) < s.gfxArea (g.cmp c) then some (fail St.STATE c) else none
  | _ => none

/-- A view with the partition's bank on it (R187, R260). -/
def State.withBank (s : State) (p : Nat) (g : Cfg) : Cfg :=
  let b := s.bank p
  b.marks.foldl (fun g o => g.switch b.copies o) g

/-! ### Holding the change (R70, R171 .. R173, R187) -/

/-- A member joins its group, or opens it. -/
def State.joinGroup (s : State) (r : Request) (cs : List Change) (n : Nat) : State :=
  match s.findGroup r.part r.group with
  | some k => s.updTake k (fun k => { k with todo := k.todo ++ cs, count := k.count + n })
  | none => s.setTakes (s.take.takes ++ [{ kind := .group, part := r.part, group := r.group, todo := cs, count := n }])

/-- A bank write: touched objects are marked and their copies take what the view makes of them; the other steps wait. -/
def State.writeBank (s : State) (p : Nat) (cs : List Change) (view : Cfg) (n : Nat) : State :=
  let b := s.bank p
  let objs := dedupNat ((cs.map Change.obj).filter bankable)
  let b := { b with
    copies := objs.foldl (fun g o => g.switch view o) b.copies
    marks := b.marks ++ objs.filter (fun o => !b.marks.contains o)
    steps := b.steps ++ cs.filter (fun c => match c with | .holdBuf .. => true | c => !bankable c.obj) }
  (s.setBank p b).setFld TK_BANK_CHANGES (saturate 32 (s.fld TK_BANK_CHANGES p + n)) p

/-- The milepost of a paired immediate take on one object (R171). -/
def State.pairedMilepost (s : State) (obj : Nat) : Nat :=
  let lead := if obj < 1024 then (s.dstRun obj).obj.leadUsed else (s.cmpRun (obj - 1024)).obj.leadUsed
  let ms := ceilDiv (s.now + 3000000) 1000000 * 1000000
  if obj < 2048 ∧ s.hasBoundary obj = true then
    match s.firstBoundary obj (s.now + 100000) with
    | some b => ((s.firstBoundary obj (b + 1 - leadNs lead).toNat).getD b).toNat
    | none => ms
  else ms

/-- An immediate take is held, and applies at once where there is no boundary to wait for. -/
def State.takeImmediate (s : State) (p : Nat) (cs : List Change) (n : Nat) : State × Done :=
  let seq := s.take.nextSeq
  let now := s.charges s.cfg
  let objs := dedupNat (cs.map Change.obj)
  let k : Take :=
    { kind := .immediate, part := p, todo := cs, count := n, seq := seq, held := increases now (s.charges (s.cfgSteps s.cfg cs))
      step := s.takeStep objs }
  let s := s.takeSeq
  if s.pairedTakes then
    let t := (objs.map s.pairedMilepost).foldl max 0
    let k := { k with kind := .internal, state := .scheduled, t := t, mirrored := s.paired }
    (s.setTakes (s.take.takes ++ [k]), { status := St.OK, cseq := seq, t := t })
  else
    let k := { k with state := .decided, t := s.now }
    ((s.setTakes (s.take.takes ++ [k])).reachTake k, { status := St.OK, cseq := seq })

/-- A member is refused: its group, if it is open, has failed (R72). -/
def State.refuse (s : State) (r : Request) (d : Done) : State × Done := (s.failGroup r, d)

/-- Pages that steps hold in reserve. -/
def allocated (cs : List Change) : Nat := (cs.map (fun c => match c with | .alloc _ _ n _ => n | _ => 0)).sum

/-- The last checks, and the change as its form holds it. -/
def State.hold (s : State) (r : Request) (n : Nat) (g : Cfg) (p : Plan) (value : State → Plan → Nat × Nat) : State × Done :=
  let immediate := r.group = 0 ∧ r.bank = false
  let count := n + (p.changes.length - n)
  match s.formBar r count with
  | some st => s.refuse r (fail st 0)
  | none =>
    match (if immediate then s.admission (s.cfgSteps s.cfg p.changes) (s.cfgSteps (s.limitCfg s.now) p.changes) else s.admitStaged g p.view) <|>
        p.changes.findSome? (fun c => gfxBar s p.view c <|> gfxBar s (s.withBank r.part p.view) c) with
    | some d => s.refuse r d
    | none =>
      match s.reserveAll p.changes with
      | none => s.refuse r (fail St.NO_MEMORY 0)
      | some s' =>
        match (if immediate then s.stackAdmission (s.cfgSteps s.cfg p.changes) else s.stackStaged g p.view) with
        | some d => s.refuse r d
        | none =>
          let v := value s' p
          if r.checkOnly then (s, done v.1 v.2)
          else if r.group ≠ 0 then (s'.joinGroup r p.changes count, done v.1 v.2)
          else if r.bank then (s'.writeBank r.part p.changes p.view count, done v.1 v.2)
          else
            let (s, d) := s'.takeImmediate r.part p.changes count
            (s, { d with v0 := v.1, v1 := v.2 })

/-- Changes of a descriptor are planned and held, or refused. -/
def State.planAndHold (s : State) (r : Request) (cs : List Change) (value : State → Plan → Nat × Nat) : State × Done :=
  let own := fun (k : Take) => r.group != 0 && k.kind == .group && k.part == r.part && k.group == r.group
  let g := if r.bank then s.bankCfg r.part (dedupNat ((cs.map Change.obj).filter bankable)) else s.stagedCfg r.part
  match s.plan r.part own g cs with
  | .error d => s.refuse r d
  | .ok p => s.hold r cs.length g p value

/-- The number of the first entry of a bulk descriptor with which it is refused as the whole is (R77). -/
def State.firstFailing (s : State) (r : Request) (cs : List Change) (status : Nat) : Nat :=
  ((List.range cs.length).find? (fun i =>
    (s.planAndHold r (cs.take (i + 1)) (fun _ _ => (0, 0))).2.status == status)).getD 0

/-- A change descriptor is processed. DETAIL of a refused bulk descriptor is the number of its first failing entry (R77);
the excess of a budget stays in VALUE1. -/
def State.submit (s : State) (r : Request) (es : List Entry) (lenBad : Bool) (value : State → Plan → Nat × Nat) : State × Done :=
  match s.entryChecks r es lenBad with
  | some d => s.refuse r d
  | none =>
    let cs := es.filterMap (·.change)
    let x := s.planAndHold r cs value
    if bulkOp r.opcode ∧ x.2.status ≠ St.OK then (x.1, { x.2 with detail := s.firstFailing r cs x.2.status }) else x

/-! ### The change opcodes (R76 .. R80, R82, R86) -/

def noValue : State → Plan → Nat × Nat := fun _ _ => (0, 0)

/-- ROUTE. -/
def State.opRoute (s : State) (r : Request) : State × Done := s.submit r [routeEntry (r.word 5) (r.word 6)] false noValue

/-- ROUTE_BULK, AUDIO_MAP, AUDIO_GAIN. -/
def State.opBulk (s : State) (r : Request) (f : Nat → Nat → Entry) : State × Done :=
  let es := entriesOf f (leWords r.buf)
  s.submit r es (r.hostLen % 8 != 0 || decide (32768 < r.hostLen)) (fun _ _ => (es.length, 0))

/-- LAYER: a MOSAIC has at most 64 tiles. -/
def State.opLayer (s : State) (r : Request) : State × Done :=
  let gfx := (s.owner (oriCmp (bitField (r.word 5) 0 7))).getD 0
  s.submit r [r.layerEntry gfx] (r.hostLen % 16 != 0 || decide (1024 < r.hostLen)) noValue

/-- COMPOSITOR_SET. -/
def State.opComp (s : State) (r : Request) : State × Done := s.submit r [r.compEntry] false noValue

/-- FRESH_POLICY. -/
def State.opFresh (s : State) (r : Request) : State × Done := s.submit r [r.freshEntry] false noValue

/-- ALLOC: its values are the pages reserved and the free pages. -/
def State.opAlloc (s : State) (r : Request) : State × Done :=
  s.submit r [r.allocEntry] false (fun s p => (allocated p.changes, s.freePages))

/-- ANC_INSERT: at most 8 KiB of words. -/
def State.opInsert (s : State) (r : Request) : State × Done :=
  s.submit r [s.insertEntry r] (decide (8192 < r.hostLen)) (fun _ _ => (r.hostLen / 4, 0))

/-- FLOW_ADD: the buffer holds one context of 64 bytes. -/
def State.opFlowAdd (s : State) (r : Request) : State × Done :=
  let ws := leWords r.buf
  let e : Entry :=
    { field := if r.hostLen = 64 then s.flowFieldBad ws else none
      index := flowIndexBad ws
      change := some (.flowAdd (bitField (r.word 5) 0 18) ws) }
  s.submit r [e] (r.hostLen != 64) noValue

/-- FLOW_DEL of a context that is there; a free one is no error. -/
def State.opFlowDel (s : State) (r : Request) : State × Done :=
  let f := bitField (r.word 5) 0 18
  let ws := match s.flow f with
    | some x => x.words
    | none => []
  s.submit r [{ change := some (.flowDel f ws) }] false (fun _ _ => (bit (!ws.isEmpty), 0))

/-- PROBE_CTL. -/
def State.opProbeCtl (s : State) (r : Request) : State × Done :=
  let c := bitField (r.word 5) 0 5
  let e := r.probeEntry
  let starts := match e.change with
    | some (.probeCtl _ 0 _) => true
    | _ => false
  if (s.entryChecks r [e] false).isNone && (s.coreGated c || (starts && s.fld PROBE_STATE c != coreStopped)) then s.refuse r (fail St.STATE 0)
  else s.submit r [e] false noValue

end Sys2Proof.Machine
end

