-- ==== Sys2Proof/Machine/Commands.lean ====
section
/-! DEFINITION. The opcodes that are not plain changes, what an engine does with the descriptor it holds, and the mirror of
a descriptor to the standby (R72, R81 .. R86, R96, R176, R177, R189, R438, R440). -/

namespace Sys2Proof.Machine
open Reg

/-! ### COMMIT and BANK_FLIP (R81, R176, R177, R189) -/

def msNs : Nat := 1000000

/-- The milepost of a descriptor with MILEPOST T, where 0 asks for the first whole millisecond 3 ms on. -/
def State.milepostOf (s : State) (t : Nat) : Nat := if t = 0 then ceilDiv (s.now + 3 * msNs) msNs * msNs else t

def Request.aborts (r : Request) : Bool := bitAt (r.word 5) 0

/-- A MILEPOST more than 86,400 s ahead (R177). -/
def State.milepostFar (s : State) (r : Request) : Bool :=
  !r.aborts && decide (s.now + 86400 * 10 ^ 9 < r.word64At 6)

/-- The staging deadline of a MILEPOST that is not 0 has passed (R81). -/
def State.milepostLate (s : State) (t : Nat) : Bool := t != 0 && decide (t ≤ s.now + 2 * msNs)

/-- A take becomes scheduled with the next commit sequence number (R176, R180). -/
def State.schedule (s : State) (k : Take) (t : Nat) : Take :=
  { k with
    state := .scheduled, t := t, seq := s.take.nextSeq, mirrored := s.paired, step := s.takeStep k.objs
    held := increases (s.charges s.cfg) (s.charges (s.takeAll s.cfg k)) }

/-- ABORT of a group or flip. DESIGN CHOICE, log 76: VALUE0 is 0 and VALUE1 the number of changes discarded. -/
def State.abortTake (s : State) (r : Request) (k : Take) : State × Done :=
  if s.unsealed k then (if r.checkOnly then s else s.discardTake k, done 0 k.count) else (s, fail St.LATE 0)

/-- COMMIT of a group that is open. -/
def State.commitOpen (s : State) (r : Request) (k : Take) : State × Done :=
  let t := s.milepostOf (r.word64At 6)
  if s.milepostLate (r.word64At 6) then (s, fail St.LATE 0)
  else if k.count = 0 then (if r.checkOnly then s else s.removeTake k, done t 0)
  else
    match s.takeAdmission k t with
    | some d => (s, d)
    | none =>
      if r.checkOnly then (s, done t k.count)
      else
        let k' := s.schedule k t
        ((s.updTake k (fun _ => k')).takeSeq, { done t k.count with cseq := k'.seq, t := t })

/-- COMMIT. -/
def State.opCommit (s : State) (r : Request) : State × Done :=
  let field : Option Nat := if r.group = 0 then some 0x04 else if s.milepostFar r then some 0x18 else none
  match s.entryChecks r [{ field := field }] false with
  | some d => (s, d)
  | none =>
    match s.findGroup r.part r.group with
    | none => (s, fail St.GROUP_UNKNOWN 0)
    | some k =>
      if r.aborts then s.abortTake r k
      else if k.state = .failed then (if r.checkOnly then s else s.discardTake k, fail St.GROUP_FAILED 0)
      else if k.state = .opened then s.commitOpen r k
      else (s, fail St.GROUP_UNKNOWN 0)

/-- BANK_FLIP of a bank with changes. -/
def State.flipBank (s : State) (r : Request) : State × Done :=
  let b := s.bank r.part
  let n := s.fld TK_BANK_CHANGES r.part
  let t := s.milepostOf (r.word64At 6)
  let k : Take := { kind := .flip, part := r.part, todo := b.steps, marks := b.marks, count := n }
  if s.milepostLate (r.word64At 6) then (s, fail St.LATE 0)
  else if n = 0 then (s, done t 0)
  else
    match s.takeAdmission k t with
    | some d => (s, d)
    | none =>
      if r.checkOnly then (s, done t n)
      else
        let k' := s.schedule k t
        ((s.setTakes (s.take.takes ++ [k'])).takeSeq, { done t n with cseq := k'.seq, t := t })

/-- BANK_FLIP. -/
def State.opFlip (s : State) (r : Request) : State × Done :=
  match s.entryChecks r [{ field := if s.milepostFar r then some 0x18 else none }] false with
  | some d => (s, d)
  | none =>
    if s.hasLease r.part then
      match s.flipOf r.part with
      | some k => if r.aborts then s.abortTake r k else (s, fail St.BANK_BUSY 0)
      | none => if r.aborts then (s, done 0 0) else s.flipBank r
    else (s, fail St.STATE 0)

/-! ### NOP, TIME_QUERY, ACCEPT_STEP (R75, R86) -/

def State.opNop (s : State) (r : Request) : State × Done := (s, (s.entryChecks r [] false).getD (done 0 0))

/-- VALUE1 of TIME_QUERY. -/
def State.timeStatus (s : State) : Nat :=
  s.fld TM_LOCKED + 2 * s.fld TM_HOLDOVER + 4 * s.fld TM_STEP_PENDING + 2 ^ 8 * s.selRef

def State.opTimeQuery (s : State) (r : Request) : State × Done :=
  (s, (s.entryChecks r [] false).getD (done s.now s.timeStatus))

def State.opAcceptStep (s : State) (r : Request) : State × Done :=
  match s.entryChecks r [] false with
  | some d => (s, d)
  | none =>
    if r.part ≠ 0 then (s, fail St.NOT_SUPERVISOR 0)
    else
      let (s, st, v0, v1) := s.acceptStep (signed 64 (r.word64At 6))
      (s, { status := st, v0 := v0, v1 := v1 })

/-! ### GRAPHIC_LOAD, PROBE_LOAD (R84, R86, R130) -/

/-- Some layer of a configuration shows graphic h of partition p. -/
def Cfg.showsGraphic (g : Cfg) (p h : Nat) : Bool :=
  g.cmps.any (fun e => e.2.layers.any (fun l => l.2.kind == 3 && l.2.ref == h && l.2.gfxPart == p))

/-- Some change makes a layer show graphic h of partition p. -/
def Change.showsGraphic (c : Change) (p h : Nat) : Bool :=
  match c with
  | .layer _ _ x => x.kind == 3 && x.ref == h && x.gfxPart == p
  | _ => false

/-- A committed or staged layer, or a look-up table of a destination, uses a graphic. -/
def State.graphicUsed (s : State) (p h : Nat) : Bool :=
  s.cfg.showsGraphic p h || s.take.takes.any (fun k => k.todo.any (fun c => c.showsGraphic p h)) ||
  s.take.banks.any (fun b => b.2.copies.showsGraphic p h) ||
  (List.range 1024).any (fun d => s.owner (oriDst d) == some p && (s.fld DST_LUT_IN d == h || s.fld DST_LUT_OUT d == h))

/-- Pages that a graphic needs (R130). -/
def graphicPagesOf : Option Plane → Nat
  | some g => graphicPages g.w g.h
  | none => 0

def State.setGraphic (s : State) (p h : Nat) (g : Option Plane) : State :=
  { s with store := { s.store with graphics := Tab.set none s.store.graphics (4096 * p + h) g } }

/-- A graphic is stored under a handle in the place of the one before, in pages of its own; none when the pool is short. -/
def State.placeGraphic (s : State) (p h : Nat) (g : Option Plane) : Option State :=
  let key := 4096 * p + h
  let t := s.returnPages (Tab.get [] s.store.gfxPages key)
  if t.poolHas 0 (graphicPagesOf g) then
    let c := t.claimPages 0 (graphicPagesOf g)
    some ({ c.1 with store := { c.1.store with gfxPages := Tab.set [] c.1.store.gfxPages key c.2 } }.setGraphic p h g)
  else none

/-- GRAPHIC_LOAD. DESIGN CHOICE, log 76: one of W and H zero and the other not, of which the spec says nothing, is
BAD_FIELD with DETAIL 0x18. -/
def State.opGraphic (s : State) (r : Request) : State × Done :=
  let h := bitField (r.word 5) 0 12
  let w := bitField (r.word 6) 0 16
  let ht := bitField (r.word 6) 16 16
  let field : Option Nat :=
    if h = 0 then some 0x14
    else if 4096 < w ∨ 2160 < ht ∨ (w = 0 ∧ ht ≠ 0) ∨ (w ≠ 0 ∧ ht = 0) then some 0x18
    else none
  match s.entryChecks r [{ field := field }] (r.hostLen != w * ht * 4) with
  | some d => (s, d)
  | none =>
    if s.hasLease r.part = false then (s, fail St.STATE 0)
    else if s.graphicUsed r.part h then (s, fail St.IN_USE 0)
    else
      let g : Option Plane := if w = 0 then none else some { w := w, h := ht, data := leWords r.buf }
      match s.placeGraphic r.part h g with
      | some s' => (s', done r.hostLen 0)
      | none => (s, fail St.NO_MEMORY 0)

/-- Pairs of bytes as 16-bit words, first byte least significant. -/
def leHalves : List Byte → List Nat
  | a :: b :: rest => leNat [a, b] :: leHalves rest
  | _ => []

/-- PROBE_LOAD. -/
def State.opProbeLoad (s : State) (r : Request) : State × Done :=
  let c := bitField (r.word 5) 0 5
  let mem := bitField (r.word 5) 8 2
  let off := r.word 6
  let field : Option Nat := if mem = 0 ∨ mem = 3 then some 0x14 else if off % 4 ≠ 0 then some 0x18 else none
  match s.entryChecks r [{ field := field }] (decide ((if mem = 1 then 65536 else 131072) < off + r.hostLen)) with
  | some d => (s, d)
  | none =>
    if s.mayChange r.part (oriProbe c) = false then (s, fail St.NOT_OWNER (oriProbe c))
    else if s.fld PROBE_STATE c ≠ coreStopped ∨ s.coreGated c = true then (s, fail St.STATE c)
    else
      let x := s.core c
      let x := if mem = 1 then { x with loaded := true, imem := Tab.setRange 0 x.imem (off / 4) (leWords r.buf) }
        else { x with loaded := true, dmem := Tab.setRange 0 x.dmem (off / 2) (leHalves r.buf) }
      (s.setCore c x, done r.hostLen 0)

/-! ### What a device that follows does with a mirrored descriptor (R440) -/

/-- The effect of a mirrored opcode. -/
def State.opOf (s : State) (r : Request) : State × Done :=
  match r.opcode with
  | 0x10 => s.opRoute r
  | 0x11 => s.opBulk r routeEntry
  | 0x12 => s.opBulk r mapEntry
  | 0x13 => s.opBulk r gainEntry
  | 0x14 => s.opLayer r
  | 0x15 => s.opComp r
  | 0x16 => s.opFresh r
  | 0x20 => s.opCommit r
  | 0x21 => s.opFlip r
  | 0x22 => s.opAlloc r
  | 0x30 => s.opGraphic r
  | 0x33 => s.opInsert r
  | 0x40 => s.opFlowAdd r
  | 0x41 => s.opFlowDel r
  | 0x50 => s.opProbeLoad r
  | 0x51 => s.opProbeCtl r
  | _ => (s, fail St.BAD_OPCODE 0)

/-- A processed descriptor is sent to the standby, with the milepost in force. -/
def State.mirrorCmd (s : State) (r : Request) (d : Done) : State := s.mirrorDesc r d.status d.cseq d.t

/-- GROUP_END for the take that a descriptor has scheduled (R440). -/
def State.announce (s : State) (d : Done) : State :=
  match s.take.takes.find? (fun k => d.cseq != 0 && k.seq == d.cseq && k.state == .scheduled) with
  | some k => s.sendGroupEnd k
  | none => s

/-! ### The descriptor that an engine holds (R75, R96, R438) -/

/-- Opcodes that a non-active device processes for its hosts (R438). -/
def followerOps : List Nat := [0x00, 0x01, 0x31, 0x32, 0x34, 0x60, 0x61]

/-- Engine e processes the descriptor that it holds, when its opcode is `op` and it satisfies a condition. -/
def State.processWhen (s : State) (e op : Nat) (ok : Request → Bool) (f : State → Request → State × Done) : State :=
  match s.holding e op with
  | none => s
  | some r =>
    if !ok r then s
    else if !s.isActive && !followerOps.contains op then s.finish e r St.STATE 0 0 0
    else
      let (s, d) := f s r
      ((s.mirrorCmd r d).announce d).finish e r d.status d.v0 d.v1 d.detail

def State.process (s : State) (e op : Nat) (f : State → Request → State × Done) : State :=
  s.processWhen e op (fun _ => true) f

def execNop (e : Fin 16) (s : State) : Host.Outcome State Fault Refusal := .next (s.process e 0x00 State.opNop)

/-- A descriptor whose opcode is not listed. -/
def execBadOpcode (e : Fin 16) (s : State) : Host.Outcome State Fault Refusal :=
  match (s.engine e).cur with
  | some r => .next (if opcodeListed r.opcode then s else s.finish e r St.BAD_OPCODE 0 0 0)
  | none => .next s

def execRoute (e : Fin 16) (s : State) : Host.Outcome State Fault Refusal := .next (s.process e 0x10 State.opRoute)
def execRouteBulk (e : Fin 16) (s : State) : Host.Outcome State Fault Refusal :=
  .next (s.process e 0x11 (fun s r => s.opBulk r routeEntry))
def execAudioMap (e : Fin 16) (s : State) : Host.Outcome State Fault Refusal :=
  .next (s.process e 0x12 (fun s r => s.opBulk r mapEntry))
def execAudioGain (e : Fin 16) (s : State) : Host.Outcome State Fault Refusal :=
  .next (s.process e 0x13 (fun s r => s.opBulk r gainEntry))
def execLayer (e : Fin 16) (s : State) : Host.Outcome State Fault Refusal := .next (s.process e 0x14 State.opLayer)
def execCompositorSet (e : Fin 16) (s : State) : Host.Outcome State Fault Refusal := .next (s.process e 0x15 State.opComp)
def execFreshPolicy (e : Fin 16) (s : State) : Host.Outcome State Fault Refusal := .next (s.process e 0x16 State.opFresh)
def execCommit (e : Fin 16) (s : State) : Host.Outcome State Fault Refusal :=
  .next (s.processWhen e 0x20 (fun r => !r.aborts) State.opCommit)
def execCommitAbort (e : Fin 16) (s : State) : Host.Outcome State Fault Refusal :=
  .next (s.processWhen e 0x20 Request.aborts State.opCommit)
def execBankFlip (e : Fin 16) (s : State) : Host.Outcome State Fault Refusal :=
  .next (s.processWhen e 0x21 (fun r => !r.aborts) State.opFlip)
def execBankFlipAbort (e : Fin 16) (s : State) : Host.Outcome State Fault Refusal :=
  .next (s.processWhen e 0x21 Request.aborts State.opFlip)
def execAlloc (e : Fin 16) (s : State) : Host.Outcome State Fault Refusal := .next (s.process e 0x22 State.opAlloc)
def execGraphicLoad (e : Fin 16) (s : State) : Host.Outcome State Fault Refusal := .next (s.process e 0x30 State.opGraphic)
def execAncInsert (e : Fin 16) (s : State) : Host.Outcome State Fault Refusal := .next (s.process e 0x33 State.opInsert)
def execFlowAdd (e : Fin 16) (s : State) : Host.Outcome State Fault Refusal := .next (s.process e 0x40 State.opFlowAdd)
def execFlowDel (e : Fin 16) (s : State) : Host.Outcome State Fault Refusal := .next (s.process e 0x41 State.opFlowDel)
def execProbeLoad (e : Fin 16) (s : State) : Host.Outcome State Fault Refusal := .next (s.process e 0x50 State.opProbeLoad)

/-- ACTION of a PROBE_CTL. -/
def Request.probeAction (r : Request) : Nat := r.word 6

/-- PROBE_CTL with ACTION START, or with none or one out of range. -/
def execProbeStart (e : Fin 16) (s : State) : Host.Outcome State Fault Refusal :=
  .next (s.processWhen e 0x51 (fun r => r.probeAction ≤ 1 || 5 ≤ r.probeAction) State.opProbeCtl)
def execProbeStop (e : Fin 16) (s : State) : Host.Outcome State Fault Refusal :=
  .next (s.processWhen e 0x51 (fun r => r.probeAction == 2) State.opProbeCtl)
def execProbeReset (e : Fin 16) (s : State) : Host.Outcome State Fault Refusal :=
  .next (s.processWhen e 0x51 (fun r => r.probeAction == 3) State.opProbeCtl)
def execProbeResetStart (e : Fin 16) (s : State) : Host.Outcome State Fault Refusal :=
  .next (s.processWhen e 0x51 (fun r => r.probeAction == 4) State.opProbeCtl)
def execTimeQuery (e : Fin 16) (s : State) : Host.Outcome State Fault Refusal := .next (s.process e 0x60 State.opTimeQuery)
def execAcceptStep (e : Fin 16) (s : State) : Host.Outcome State Fault Refusal := .next (s.process e 0x61 State.opAcceptStep)

/-! ### FENCE (R83) -/

/-- Descriptors of ring k that the FENCE still waits for have all passed, FENCEs counting as passed on other rings. -/
def State.ringMet (s : State) (p own k target : Nat) : Bool :=
  let r := s.ring p k
  let left := target - r.passed
  left == 0 || (k != own && decide (left ≤ r.fetched.length) && (r.fetched.take left).all (fun q => q.opcode == 0x01))

/-- The conditions of a FENCE on ring `own` hold. -/
def State.fenceMet (s : State) (p own : Nat) (w : FenceWait) : Bool :=
  w.rings.all (fun e => s.ringMet p own e.1 e.2) && w.takes.all (fun q => !s.take.takes.any (fun k => k.seq == q && k.part == p))

/-- Descriptors of a ring that a FENCE waits for: those posted, or, on a ring that is not enabled, the one that still
drains (R59, R83). -/
def State.awaited (s : State) (p k : Nat) : Nat :=
  if s.fldOn RING_ENABLE p k then s.posted p k else (s.ring p k).fetched.length

/-- What a FENCE that begins now waits for. -/
def State.fenceOf (s : State) (r : Request) : FenceWait :=
  let mask := r.word64At 6
  { rings := ((List.range 64).filter (bitAt mask)).map (fun k => (k, (s.ring r.part k).passed + s.awaited r.part k))
    takes := if bitAt (r.word 5) 0 then
      (s.take.takes.filter (fun k => k.part == r.part && k.kind != .flip && !k.isOpen)).map (·.seq) else []
    since := s.time.grid, limitUs := r.word 8 }

/-- The engine lets a descriptor go that waits at its ring. -/
def State.park (s : State) (e : Nat) (r : Request) (f : RingRun → RingRun) : State :=
  (s.setRing r.part r.ring { f (s.ring r.part r.ring) with place := .parked }).freeEngine e

def execFence (e : Fin 16) (s : State) : Host.Outcome State Fault Refusal :=
  match s.holding e 0x01 with
  | none => .next s
  | some r =>
    match s.entryChecks r [] false with
    | some d => .next (s.finish e r d.status d.v0 d.v1 d.detail)
    | none =>
      let w := s.fenceOf r
      if s.fenceMet r.part r.ring w then .next (s.finish e r St.OK s.now 0 0)
      else if w.limitUs = 0 then .next (s.finish e r St.TIMEOUT 0 0 0)
      else .next (s.park e r (fun g => { g with fence := some w }))

/-- The FENCE that waits on a ring, with its descriptor. -/
def State.parkedFence (s : State) (p k : Nat) : Option (Request × FenceWait) :=
  match (s.ring p k).place, (s.ring p k).fence, (s.ring p k).fetched with
  | .parked, some w, r :: _ => some (r, w)
  | _, _, _ => none

/-- The limit of a FENCE has passed, on the 1 µs tick (R103). -/
def State.fenceOver (s : State) (w : FenceWait) : Bool := s.expired w.since (w.limitUs * 1000) 1000

def execFenceMet (p : Fin 8) (k : Fin 64) (s : State) : Host.Outcome State Fault Refusal :=
  match s.parkedFence p k with
  | some (r, w) => .next (if s.fenceMet p k w && !s.fenceOver w then s.complete r St.OK s.now 0 0 else s)
  | none => .next s

def State.fenceTimeout (s : State) (p k : Nat) : State :=
  match s.parkedFence p k with
  | some (r, w) => if s.fenceOver w then s.complete r St.TIMEOUT 0 0 0 else s
  | none => s

/-! ### THUMB_CAPTURE (R85) -/

/-- Bytes of level k of the slots of source n as its ring holds them. -/
def State.thumbBytes (s : State) (n k : Nat) : Nat :=
  let st := (s.cfg.ring n).store
  let (w, h) := fmtLevelSize (s.fmtInForce n) st k
  planeBytes st w h

def execThumbCapture (e : Fin 16) (s : State) : Host.Outcome State Fault Refusal :=
  match s.holding e 0x31 with
  | none => .next s
  | some r =>
    let n := bitField (r.word 5) 0 11
    let level := bitField (r.word 5) 16 3
    let count := bitField (r.word 6) 0 8
    let field : Option Nat :=
      if 5 ≤ level ∨ (n < 1120 ∧ bitAt (s.cfg.ring n).ladder level = false) then some 0x14 else none
    let bad : Option Done :=
      s.entryChecks r [{ field := field, index := if 1120 ≤ n then some n else none }]
        (decide (r.hostLen < count * s.thumbBytes n level)) <|>
      (if s.mayRead r.part n then none else some (fail St.NOT_READABLE n))
    match bad with
    | some d => .next (s.finish e r d.status d.v0 d.v1 d.detail)
    | none =>
      if count = 0 then .next (s.finish e r St.OK 0 0 0)
      else
        let w : ThumbWait :=
          { src := n, level := level, left := count, addr := r.hostAddr, firstSeq := 0, bytes := 0, lastSeq := (s.src n).seq }
        .next (s.park e r (fun g => { g with thumb := some w }))

/-- The last slot has been copied, or a data write failed (R66, R85). -/
def execThumbCaptureDone (p : Fin 8) (k : Fin 64) (fail : Option (BitVec 64)) (s : State) : Host.Outcome State Fault Refusal :=
  match (s.ring p k).place, (s.ring p k).thumb, (s.ring p k).fetched with
  | .parked, some w, r :: _ =>
    match fail with
    | some a =>
      if w.bytes = 0 then .next s
      else .next ((s.hostFault p (.cmd k) 0 a.toNat).complete r St.HOST_FAULT 0 0 0)
    | none => if w.left = 0 then .next (s.complete r St.OK w.bytes w.firstSeq 0) else .next s
  | _, _, _ => .next s

/-! ### ANC_DRAIN (R85, R401) -/

/-- The queue after REWIND, SET_MARK, the read and RELEASE, and the packets read; none when the first one does not fit. -/
def State.drainQueue (s : State) (r : Request) (q : Nat) : Option (State × List (List Nat)) :=
  let s := if bitAt (r.word 6) 1 then (s.ancRewind q).getD s else s
  let s := if bitAt (r.word 6) 0 then s.ancMark q else s
  if r.hostLen = 0 then some (s, [])
  else
    let rd := s.fld ANCQ_RD_PTR q
    let depth := s.depthSeen q
    let ps := s.ancDrainable q rd r.hostLen depth
    if ps.isEmpty && (s.ancPacketAt q rd depth).isSome then none
    else
      let s := s.ancRead q (ps.map List.length).sum
      some (if bitAt (r.word 6) 2 then s.ancRelease q else s, ps)

/-- Words as bytes, least significant first. -/
def wordBytes (ws : List Nat) : List Byte := ws.flatMap (leBytes 4)

/-- ANC_DRAIN (R85). DESIGN CHOICE, log 76: when the first packet does not fit, the descriptor is refused whole, so REWIND
and SET_MARK do not stand. -/
def State.opDrain (s : State) (r : Request) : State × Done × List Byte :=
  let q := bitField (r.word 5) 0 8
  match s.entryChecks r [] false with
  | some d => (s, d, [])
  | none =>
    if s.mayChange r.part (oriQueue q) = false then (s, fail St.NOT_OWNER (oriQueue q), [])
    else if s.fld ANCQ_CONSUMER q ≠ 1 then (s, fail St.STATE q, [])
    else if bitAt (r.word 6) 1 && s.fldOn ANCQ_MARK_LOST q then (s, fail St.MARK_LOST 0, [])
    else
      match s.drainQueue r q with
      | none => (s, fail St.BAD_LENGTH 0, [])
      | some (s, ps) =>
        let bs := wordBytes ps.flatten
        (s, done bs.length ps.length, bs)

/-- Data written to host memory before the record; a failed write makes the status HOST_FAULT (R66). -/
def State.deliverData (s : State) (e : Nat) (r : Request) (d : Done) (bs : List Byte) (bad : Option (BitVec 64)) : State :=
  if d.status ≠ St.OK ∨ bs = [] then s.finish e r d.status d.v0 d.v1 d.detail
  else
    match bad with
    | some a => (s.hostFault r.part (.cmd (Fin.ofNat 64 r.ring)) 0 a.toNat).finish e r St.HOST_FAULT 0 0 0
    | none => (s.dataToHost r.part r.ring r.hostAddr bs).finish e r d.status d.v0 d.v1 d.detail

def execAncDrain (e : Fin 16) (fail : Option (BitVec 64)) (s : State) : Host.Outcome State Fault Refusal :=
  match s.holding e 0x32 with
  | none => .next s
  | some r =>
    let (s, d, bs) := s.opDrain r
    .next (s.deliverData e r d bs fail)

end Sys2Proof.Machine
end

