-- ==== Sys2Proof/Machine/Arbiter.lean ====
section
/-! DEFINITION. Arbitration at the targets of the interconnect: effective QoS, ageing, the least recently served master, held
requests and the parked grant (R545, R547, R549). -/

namespace Sys2Proof.Machine
open Reg

/-- The effective QoS of a request: the QOS of its master, one more for each AGE_NS that it has waited, up to 15. -/
def State.effQos (s : State) (r : IcReq) : Nat :=
  let age := s.fld IC_AGE_NS
  min 15 (s.fld IC_QOS r.master + (if age = 0 then 0 else (s.time.grid - r.since) / age))

/-- How long ago target t granted a master: greater is longer, and longest is never. -/
def IcState.sinceServed (x : IcState) (t m : Nat) : Nat := (Tab.get [4] x.recent t).idxOf m

/-- Request a is served before request b, which arrived no later (R545). DESIGN CHOICE, log 69: of two masters that the
target has never granted, the one whose request arrived first. -/
def State.goesBefore (s : State) (a b : IcReq) : Bool :=
  let qa := s.effQos a
  let qb := s.effQos b
  decide (qb < qa) || (qa == qb && decide (s.ic.sinceServed b.target b.master < s.ic.sinceServed a.target a.master))

/-- The request that a target serves first. -/
def State.firstServed (s : State) : List IcReq → Option IcReq
  | [] => none
  | r :: rest =>
    match s.firstServed rest with
    | none => some r
    | some q => some (if s.goesBefore q r then q else r)

/-- A request is held back: it would overtake a write of its master, or it would close a cycle (R547). -/
def State.heldBack (s : State) (r : IcReq) : Bool :=
  s.ic.behind r.master r.target [r.line] || Config.closesCycle r.master r.target r.line s.free

/-- A request that waits is granted. -/
def State.icGrant (s : State) (r : IcReq) : State :=
  let x := s.ic.grant r.target r.master
  { s with ic := { x with
      waiting := x.waiting.filter (fun q => !(q.master == r.master && q.target == r.target && q.line == r.line))
      writes := if r.write then (r.master, r.target, r.line) :: x.writes else x.writes } }

/-- No request waits at target t, and none has been granted in this cycle: its grant is parked on conductor core 0. -/
def State.icParked (s : State) (t : Nat) : Bool :=
  s.ic.waiting.all (fun r => r.target != t) && s.ic.used.all (fun e => e.1 != t)

/-- A request arrives at its target: one of conductor core 0 is granted at once where the grant is parked, and every other
waits for the next cycle (R549). -/
def State.icArrive (s : State) (m t line : Nat) (write : Bool) : State :=
  let r : IcReq := { master := m, target := t, line := line, write := write, since := s.time.grid }
  let x := s.ic
  let q : State := { s with ic := { x with waiting := x.waiting ++ [r] } }
  if m = 4 ∧ s.icParked t = true then q.icGrant r else q

/-- Requests that are held back now are counted, each once. -/
def State.icCountHeld (s : State) (t : Nat) : State :=
  let late (r : IcReq) : Bool := r.target == t && !r.held && s.heldBack r
  let x := s.ic
  { s with ic := { x with
      heldCnt := x.heldCnt + (x.waiting.filter late).length
      waiting := x.waiting.map (fun r => if late r then { r with held := true } else r) } }

/-- Target t serves the first of the requests that wait there and are not held back, unless a master that it has served in
this cycle goes before it. -/
def State.icServe (s : State) (t : Nat) : State :=
  let s := s.icCountHeld t
  let mine := s.ic.waiting.filter (fun r => r.target == t && !s.heldBack r)
  let others := (s.ic.used.filter (fun e => e.1 == t)).map (fun e : Nat × Nat =>
    ({ master := e.2, target := t, line := 0, write := false, since := s.time.grid } : IcReq))
  match s.firstServed mine with
  | none => s
  | some r => if others.any (fun q => s.goesBefore q r) then s else s.icGrant r

/-- One cycle of the interconnect ends: every target serves a request, and the writes of commands are complete. The write of
the debug master (11) is complete with its access. -/
def State.icTick (s : State) : State :=
  let s := if s.ic.waiting.isEmpty then s else s.upTo 14 State.icServe
  let x := s.ic
  { s with ic := { x with used := [], writes := x.writes.filter (fun e => e.1 == 11) } }

/-- Nothing of a master is on the interconnect any more. -/
def State.icEnd (s : State) (m : Nat) : State :=
  let x := s.ic
  { s with ic := { x with
      waiting := x.waiting.filter (fun r => r.master != m), writes := x.writes.filter (fun e => e.1 != m) } }

/-- A request of the master waits. -/
def State.icWaits (s : State) (m : Nat) : Bool := s.ic.waiting.any (fun r => r.master == m)

end Sys2Proof.Machine
end

