-- ==== Sys2Proof/Machine/Package.lean ====
section
/-! DEFINITION. The balls of the package: names of rows, and where each signal and supply lies (R562 .. R565). No command
acts on them; the boundary register has its cells at their sites (R535). -/

namespace Sys2Proof.Machine

/-- The letters of rows, in order. -/
def rowLetters : List String := ["A", "B", "C", "D", "E", "F", "G", "H", "J", "K", "L", "M", "N", "P", "T", "U", "V", "W", "Y"]

/-- The name of row 1 .. 71. -/
def rowName (i : Nat) : String := ["", "A", "B", "C"].getD ((i - 1) / 19) "" ++ rowLetters.getD ((i - 1) % 19) ""

/-- A place in the array: row and column, 1 .. 71. -/
structure Ball where
  row : Nat
  col : Nat
  deriving DecidableEq, Repr

def Ball.name (b : Ball) : String := rowName b.row ++ toString b.col

/-- The two balls of SDI RX lane l; `neg`: the N ball. -/
def sdiRxBall (l : Nat) (neg : Bool) : Ball := { row := 2 + 2 * (l / 32), col := 4 + 2 * (l % 32) + bit neg }

def sdiTxBall (l : Nat) (neg : Bool) : Ball := { row := 70 - 2 * (l / 32), col := 4 + 2 * (l % 32) + bit neg }

/-- Pair q of the left band. -/
def leftBall (q : Nat) (neg : Bool) : Ball := { row := 19 + 2 * (q % 18) + bit neg, col := 2 + 2 * (q / 18) }

def medTxBall (m : Nat) (neg : Bool) : Ball := leftBall (2 * m) neg
def medRxBall (m : Nat) (neg : Bool) : Ball := leftBall (2 * m + 1) neg
def cwTxBall (c : Nat) (neg : Bool) : Ball := leftBall (128 + 2 * c) neg
def cwRxBall (c : Nat) (neg : Bool) : Ball := leftBall (129 + 2 * c) neg

/-- Site s of the right band. -/
def siteBall (s : Nat) : Ball := { row := 19 + s % 36, col := 56 + 2 * (s / 36) }

/-- The signals of the right band, by group. -/
inductive SiteSignal where
  | pcie (n : Nat) (rx neg : Bool)
  | sdiRefclk (n : Nat) (neg : Bool)
  | mediaRefclk (neg : Bool)
  | coreRefclk (neg : Bool)
  | pcieRefclk (neg : Bool)
  | tow (bus : Nat) (neg : Bool)
  | aesIn (i : Nat)
  | aesOut (o : Nat)
  | refosc
  | wclkIn
  | refIn (i : Nat)
  | resetN
  | perst (ep : Nat)
  | tokenOut
  | tokenIn
  | role
  | pairFaultN
  | faultN
  | safeReqN
  | bootMode (i : Nat)
  | testMode (i : Nat)
  | flSck
  | flCsN
  | flIo (i : Nat)
  | tck
  | tms
  | tdi
  | tdo
  | trstN
  | gpio (i : Nat)
  | vss
  deriving DecidableEq, Repr

/-- The signal at site s (R564). -/
def siteSignal (s : Nat) : SiteSignal :=
  if s < 64 then .pcie (s / 4) (bitAt s 1) (bitAt s 0)
  else if s < 68 then .sdiRefclk ((s - 64) / 2) (bitAt s 0)
  else if s < 70 then .mediaRefclk (bitAt s 0)
  else if s < 72 then .coreRefclk (bitAt s 0)
  else if s < 74 then .pcieRefclk (bitAt s 0)
  else if s < 78 then .tow ((s - 74) / 2) (bitAt s 0)
  else if s < 142 then .aesIn (s - 78)
  else if s < 206 then .aesOut (s - 142)
  else if s < 213 then [.refosc, .wclkIn, .refIn 0, .refIn 1, .refIn 2, .refIn 3, .resetN].getD (s - 206) .vss
  else if s < 217 then .perst (s - 213)
  else if s < 223 then [.tokenOut, .tokenIn, .role, .pairFaultN, .faultN, .safeReqN].getD (s - 217) .vss
  else if s < 225 then .bootMode (s - 223)
  else if s < 228 then .testMode (s - 225)
  else if s < 230 then (if s = 228 then .flSck else .flCsN)
  else if s < 234 then .flIo (s - 230)
  else if s < 239 then [.tck, .tms, .tdi, .tdo, .trstN].getD (s - 234) .vss
  else if s < 255 then .gpio (s - 239)
  else .vss

/-- What a ball of the core area carries, rows and columns 18 .. 54 (R565). -/
inductive Supply where
  | vddCore | vddAon | vppHbm | vddHbm | vddqHbm | vddaSdi | vddhSdi | vddaMed | vddhMed | vddaPcie | vddhPcie | vddio | vdd33
  | vss
  deriving DecidableEq, Repr

/-- The row within its stack block of a ball of the core area. -/
def stackRow (b : Ball) : Option Nat :=
  if (20 ≤ b.col ∧ b.col ≤ 25) ∨ (47 ≤ b.col ∧ b.col ≤ 52) then
    if 20 ≤ b.row ∧ b.row ≤ 25 then some (b.row - 20)
    else if 47 ≤ b.row ∧ b.row ≤ 52 then some (b.row - 47)
    else none
  else none

/-- The supply of a ball of the core area. -/
def coreSupply (b : Ball) : Supply :=
  if b.row = 18 ∨ b.row = 54 then .vddaSdi
  else if b.row = 19 ∨ b.row = 53 then .vddhSdi
  else if b.col = 18 then .vddaMed
  else if b.col = 19 then .vddhMed
  else if b.col = 53 then (if b.row ≤ 36 then .vddaPcie else .vddhPcie)
  else if b.col = 54 then (if b.row ≤ 44 then .vddio else if b.row ≤ 48 then .vdd33 else .vddAon)
  else if (b.row + b.col) % 2 = 0 then .vss
  else
    match stackRow b with
    | some 0 => .vppHbm
    | some 1 => .vddqHbm
    | some 2 => .vddqHbm
    | some _ => .vddHbm
    | none => .vddCore

end Sys2Proof.Machine
end

