-- ==== Sys2Proof/Machine/PairMsg.lean ====
section
/-! DEFINITION. The pair as both devices keep it: what is received, READY and the health report, entering HELD, starting a
handover, digests that arrive or stay away, known-answer tests, acknowledgement and retransmission (R435, R443 .. R451,
R454). -/

namespace Sys2Proof.Machine
open Reg

/-! ### Receiving (R443, R444) -/

/-- A pair is enabled and the device is not in the safe state (R457, R463). -/
def State.pairOn (s : State) : Bool := s.fldOn CWAY_PAIR_EN && !s.safe

/-- Payload words as numbers. -/
def payload (ws : List (BitVec 64)) : List Nat := ws.map (·.toNat)

/-- The records of a message: two words each (R445). -/
def recordsOf : List Nat → List (Nat × Nat)
  | a :: b :: rest => (a, b) :: recordsOf rest
  | _ => []

/-- A message of class 0, 1 or 2 arrives. -/
def State.receive (s : State) (f : State → State) : State := if s.pairOn then f s else s

/-- A HELLO or HEALTH arrives: these the Causeway carries in the safe state too (R463). -/
def State.hear (s : State) (f : State → State) : State := if s.fldOn CWAY_PAIR_EN then f s else s

/-- `a` comes before `b` among wrapping message numbers. -/
def mseqBefore (a b : Nat) : Bool := decide ((b + 2 ^ 24 - a) % 2 ^ 24 ≠ 0 ∧ (b + 2 ^ 24 - a) % 2 ^ 24 < 2 ^ 23)

/-- The message of class 3 that was expected has come. -/
def State.took (s : State) (mseq : Nat) : State :=
  let p := s.cway
  s.setCway { p with rxNext := (mseq + 1) % 2 ^ 24, rxSync := false, ackDue := true }

/-- A message of class 3 arrives: only the one expected takes effect; one ahead of it is answered with a NAK, one behind
it is acknowledged again. The first one of a join sets the number expected: on the device that joins, SNAP_BEGIN. -/
def State.receive3 (s : State) (ty mseq : Nat) (f : State → State) : State :=
  if s.pairOn = false then s
  else if s.cway.rxSync then
    (if s.role = Role.JOINING ∧ ty ≠ Msg.SNAP_BEGIN then s else f (s.took mseq))
  else if mseq = s.cway.rxNext then f (s.took mseq)
  else if mseqBefore mseq s.cway.rxNext then
    let p := s.cway
    s.setCway { p with ackDue := true }
  else s.send Msg.LINK_ACK [s.cway.rxNext + 2 ^ 24]

/-- Class 3 messages that the peer does not hold are sent again, oldest first. -/
def State.resend (s : State) : State :=
  s.each s.cway.unacked (fun s x => (s.putMsg 1 x.1 x.2).addFld CWAY_RETX 1)

/-- NEXT of a LINK_ACK: what lies before it is acknowledged. -/
def State.acknowledge (s : State) (next : Nat) : State :=
  let p := s.cway
  let left := p.unacked.filter (fun x => !mseqBefore x.1 next)
  s.setCway { p with unacked := left, ackMoved := if left.length < p.unacked.length then s.time.grid else p.ackMoved }

/-! ### HELD (R435) -/

/-- A device that follows its peer cannot go on. -/
def State.toHeld (s : State) (cause : Nat) : State := if s.follows then s.enterRole Role.HELD cause else s

/-! ### READY and the health report (R451) -/

/-- The conditions of READY. -/
def State.readyNow (s : State) : Bool :=
  decide (s.highestFault < 2) && s.cway.lastFail.isEmpty && s.cway.askFail.isEmpty &&
    (s.fld TM_STATE == Tm.LOCKED || (s.fld TM_STATE == Tm.HOLDOVER && !s.fldOn TM_OOS)) &&
    (List.range 4).all (fun i => s.fldOn MC_READY i) && !s.conductorHalted

/-- The value of a set of bit numbers. -/
def bitsOf (l : List Nat) (width : Nat) : Nat := ((List.range width).map (fun b => bit (l.contains b) * 2 ^ b)).sum

def sumOver (n : Nat) (f : Nat → Nat) : Nat := ((List.range n).map f).sum

/-- Corrected memory errors in all. -/
def State.ceTotal (s : State) : Nat := sumOver 4 (fun i => s.fld MC_CE_CNT i)

/-- The sixteen words of a HEALTH report. -/
def State.healthWords (s : State) : List Nat :=
  let isl := bitsOf s.cway.katFail 145
  let ports := bitsOf ((List.range 64).filter (fun m => s.fldOn MPORT_LINK_UP m)) 64
  let hbm := ((List.range 4).map (fun i => s.fld MC_TEMP i)).foldl max 0
  let rx := ((List.range 256).filter (fun l => s.fldOn SDIRX_RXSTATE l)).length
  let tx := ((List.range 256).filter (fun l => s.fldOn SDITX_ACTIVE l)).length
  [s.role + 2 ^ 3 * s.fld CWAY_READY + 2 ^ 4 * s.highestFault + 2 ^ 7 * bit (!s.activeFaults.isEmpty) + 2 ^ 8 * s.selRef +
      2 ^ 12 * s.fld TM_STATE + 2 ^ 14 * s.fld TM_OOS + 2 ^ 16 * (s.faults.dieTemp % 256) + 2 ^ 24 * hbm,
    s.cway.katPasses % 2 ^ 32] ++ (List.range 5).map (fun w => isl / 2 ^ (32 * w) % 2 ^ 32) ++
  [saturate 16 (sumOver 4 (fun i => s.fld MC_RETIRED i)) + 2 ^ 16 * saturate 16 (sumOver 4 (fun i => s.fld MC_UE_CNT i)),
    (s.ceTotal + 2 ^ 32 - s.cway.ceLast % 2 ^ 32) % 2 ^ 32, ports % 2 ^ 32, ports / 2 ^ 32, rx + 2 ^ 16 * tx,
    s.fld BOOT_IMG_VER, s.fld BOOT_BANK + 2 * bit s.faults.railsOut.isEmpty, s.now % 2 ^ 32, s.now / 2 ^ 32]

/-- HEALTH is sent and kept as the device's latest one. -/
def State.sendHealth (s : State) : State :=
  let ws := s.healthWords
  let s := s.each ws.zipIdx (fun s x => s.setFld CWAY_OWN_HEALTH x.1 x.2)
  let p := s.cway
  (s.setCway { p with healthSent := s.time.grid, ceLast := s.ceTotal }).send Msg.HEALTH (pairWords ws)

/-- The handover of the active device is announced for T (R454): the commit sequence number that it took comes back. -/
def State.startHandover (s : State) (part t : Nat) : State × Nat :=
  let seq := s.take.nextSeq
  let h : Handover := { seq := seq, part := part, t := t }
  let s := s.takeSeq.setHandovers (· ++ [h])
  ((s.send Msg.ROLE (s.roleWords false true t)).send Msg.GROUP_END [h.word, t, 0], seq)

/-- An ACTIVE device hands over by itself when it is no longer READY and its peer is (R451). -/
def State.autoYield (s : State) : State :=
  if s.role = Role.ACTIVE ∧ s.fldOn CWAY_AUTO_YIELD ∧ s.fldOn CWAY_PEER_READY ∧ s.fld CWAY_PEER_STATE = Role.STANDBY ∧
      s.cway.handovers = [] then
    (s.startHandover 0 (s.milepostOf 0)).1
  else s

/-- READY follows its conditions: each change is reported, and a device that has lost it gives way (R435, R451). -/
def State.refreshReady (s : State) : State :=
  let now := s.readyNow
  if s.fldOn CWAY_READY = now then s
  else
    let s := (s.setFld CWAY_READY (bit now)).sendHealth
    if now then s
    else if s.role = Role.STANDBY then s.enterRole Role.HELD 2
    else s.autoYield

/-! ### Roles by what the peer reports (R435, R436) -/

/-- JOINING, out of INIT: a device whose TOKEN_IN is asserted follows its peer. -/
def State.join (s : State) : State := s.enterRole Role.JOINING 0

/-- The device asserts TOKEN_OUT, unless its peer has done so first. -/
def State.winToken (s : State) : State := if s.fldOn CWAY_TOKEN_IN_A then s.join else s.enterRole Role.SOLO 0

/-- A device in INIT that senses TOKEN_IN asserted joins. -/
def State.initSettle (s : State) : State :=
  if s.role = Role.INIT ∧ s.pairOn = true ∧ s.fldOn CWAY_TOKEN_IN_A = true then s.join else s

/-- A handover has been decided and its milepost has come: what the peer does now is part of the exchange (R437, R454). -/
def State.exchanging (s : State) : Bool := s.cway.handovers.any (fun h => h.decided && decide (h.t ≤ s.now))

/-- The peer is not seen any more. -/
def State.unseePeer (s : State) (why : Nat) : State :=
  let p := s.cway
  let s := s.setCway { p with lostRaised := true }
  let s := ((s.setFld CWAY_PEER_SEEN 0).setFld CWAY_PEER_STATE 0).setFld CWAY_PEER_READY 0
  let s := s.raise Ev.PEER_LOST { data := why }
  s.when (s.role == Role.ACTIVE) (fun s => s.enterRole Role.SOLO 0)

/-- The peer is lost when no HELLO has come for 10 ms or the Causeway is down, and a standby is held while it is down
(R435). -/
def State.peerSettle (s : State) : State :=
  if ¬s.fldOn CWAY_PAIR_EN then s
  else
    let down := !s.fldOn CWAY_LINK_UP
    let silent := s.cway.helloAt ≠ 0 ∧ s.cway.helloAt - 1 + 10000000 ≤ s.time.grid
    let s := if s.fldOn CWAY_PEER_SEEN ∧ (down = true ∨ silent) then s.unseePeer (bit down + 2 * bit (decide silent)) else s
    if down ∧ s.role = Role.STANDBY then s.enterRole Role.HELD 1 else s

/-- A standby acknowledges its sealed takes once every member has been copied, at the least rate of the sequencer (R440). -/
def State.ackCopied (s : State) : State :=
  let due := s.take.takes.filter (fun k => k.ackDue && k.state == .sealed && decide (k.copiedBy ≤ s.time.grid))
  s.each due (fun s k => (s.updTake k (fun k => { k with ackDue := false })).when s.follows (fun s => s.send Msg.GROUP_ACK [k.word, 1]))

/-- What the pair does as time goes on. -/
def State.pairSettle (s : State) : State := (s.peerSettle.ackCopied).joinDone

/-! ### Digests (R446 .. R448) -/

/-- The digest of a DIG_IN record. -/
def digIn (a b : Nat) : Dig :=
  { kind := 0, obj := bitField a 0 11, state := bitField a 11 3, flags := bitField a 14 5, fmtGen := bitField a 24 8
    key := a / 2 ^ 32, hash := b }

/-- The digest of a DIG_OUT or DIG_AUD record. -/
def digOut (kind a b : Nat) : Dig :=
  { kind := kind, obj := bitField a 0 10, nc := bitAt a 12, key := a / 2 ^ 32, hash := b }

/-- How long a digest waits for its counterpart, in ns: two frame periods of its source or destination, or 10 ms. -/
def State.digestLimit (s : State) (d : Dig) : Nat :=
  let p := if d.kind = 0 then s.srcPeriod d.obj else if d.kind = 1 then s.objPeriod d.obj else 0
  if p = 0 then 10 ^ 7 else 2 * p

/-- Digests whose counterparts have not come are counted, and those of the peer are dropped (R448). -/
def State.dropDigests (s : State) : State :=
  let late := fun (d : Dig) => decide (d.at' + s.digestLimit d ≤ s.time.grid)
  let p := s.cway
  let n := (p.digOwn.filter late).length
  (s.setCway { p with
    digOwn := p.digOwn.filter (fun d => !late d), digPeer := p.digPeer.filter (fun d => !late d) }).addFld CWAY_DIG_MISSING n

/-! ### Known-answer tests (R449, R450) -/

/-- Islands with a known-answer test whose power domains are on. -/
def State.katIslands (s : State) : List Nat :=
  (((List.range 44).map (92 + ·)) ++ [137]).filter (fun i => !s.gated i)

/-- A pass starts; with every island gated it is complete at once. -/
def State.startKatPass (s : State) : State :=
  let l := s.katIslands
  let p := s.cway
  s.setCway { p with
    katFrom := s.time.grid, katLeft := l, katOn := p.katOn ++ l.filter (fun i => !p.katOn.contains i)
    katPasses := (p.katPasses + bit l.isEmpty) % 2 ^ 32, passFail := []
    lastFail := if l.isEmpty then [] else p.lastFail }

/-- Both devices fail the test of an island (R449). -/
def State.bothFail (s : State) (i : Nat) : State :=
  s.when (s.cway.katFail.contains i && s.cway.peerFail.contains i) (fun s => s.raise Ev.SELF_TEST_FAIL { data := i })

/-- Both devices have passed: too many mismatches end the standby's following (R449). -/
def State.checkDiverged (s : State) : State :=
  let p := s.cway
  let limit := max 1 (s.fld CWAY_MISMATCH_LIMIT)
  let recent := (p.mismatchAt.filter (fun t => decide (s.time.grid < t + 10 ^ 9))).length
  if s.role = Role.STANDBY ∧ (p.mismatches.any (fun e => decide (limit ≤ e.2)) ∨ 8 ≤ recent) then
    (s.raise Ev.PAIR_DIVERGED { data := recent }).toHeld 3
  else s

/-- A test of island i is complete: one of a pass counts for READY when the pass ends, one on request at once (R449, R451). -/
def State.katDone (s : State) (i : Nat) (pass : Bool) : State :=
  let p := s.cway
  if p.katOn.contains i then
    let others := fun (l : List Nat) => l.filter (· != i)
    let left := others p.katLeft
    let ends := p.katLeft.contains i && left.isEmpty
    let fail' := others p.katFail
    let inPass := if p.katLeft.contains i && !pass then i :: p.passFail else p.passFail
    let s := s.setCway { p with
      katOn := others p.katOn, katLeft := left, katPasses := (p.katPasses + bit ends) % 2 ^ 32
      katFail := if pass then fail' else i :: fail'
      passFail := if ends then [] else inPass, lastFail := if ends then inPass else p.lastFail
      katAsked := others p.katAsked
      askFail := if pass then others p.askFail else if p.katAsked.contains i then i :: others p.askFail else p.askFail }
    let s := if pass then (if p.peerFail.contains i then s else s.checkDiverged) else s.bothFail i
    s.refreshReady
  else s

end Sys2Proof.Machine
end

