-- ==== Sys2Proof/Machine/Dest.lean ====
section
/-! DEFINITION. Register writes that set up sources, destinations, planes and the pair: what RWL fields accept, ENABLE of a
destination, look-up tables, selection leads, PAIR_EN (R8, R121, R167, R215 .. R224, R242, R435). -/

namespace Sys2Proof.Machine
open Reg

/-! ### Committed fields (R8, R167, R277) -/

/-- The RWL fields of source n are committed: from its first ring until that is gone and no reader refers to it. -/
def State.srcLocked (s : State) (n : Nat) : Bool :=
  n ≥ 1024 || !(s.src n).rings.isEmpty || (s.cfg.ring n).depth != 0 || s.cfg.readers.any (fun r => r.src == n)

/-- LINK of an SDI receive lane is locked while an admitted source uses the lane (R278). -/
def State.linkLocked (s : State) (l : Nat) : Bool := (s.laneUser l).isSome

/-! ### Destinations (R215, R216, R220) -/

/-- The plane of destination d is compatible with its format (R218). -/
def State.planeSuitsDst (s : State) (d : Nat) : Bool :=
  let p := s.fld DST_PLANE d
  let lines := linesOf (s.fld PLANE_LINES p)
  s.fld PLANE_RATE p == s.fld DST_RATE d && s.fld PLANE_SCAN p == s.fld DST_SCAN d &&
    (lines == rasterLines (s.fld DST_RASTER d) || (lines == 0 && s.fld DST_LINK d == 0))

/-- A lane that destination d names is invalid, off or under test (R338, R346), or bound to another enabled destination. -/
def State.lanesTaken (s : State) (d : Nat) : Bool :=
  let link := s.fld DST_LINK d
  (s.txLanes d).any (fun l => s.laneBarred (256 + l)) ||
  ((link == 3 || link == 4) && s.fld DST_TX_LANE d % 4 != 0) ||
    (s.txLanes d).any (fun l => (List.range 1024).any (fun e => e != d && s.dstOn e && (s.txLanes e).contains l))

/-- The destination budget does not hold the output format's cost as well (R7). -/
def State.dstOverBudget (s : State) (d : Nat) : Bool :=
  let inUse := ((List.range 1024).map (fun e => s.dstChargeIn s.cfg e)).sum
  let held := chargeSum (s.heldBy Take.scheduled') 2048 4096
  decide (40960 < inUse + held + fmtCost (s.dstFmt d))

/-- EN_ERR: the first check that fails. -/
def State.dstError (s : State) (d : Nat) : Nat :=
  let f := s.dstFmt d
  if dstFmtAccepted f = false then 1
  else if s.planeSuitsDst d = false then 2
  else if s.lanesTaken d then 3
  else if s.fld DST_LINK d ≠ 0 ∧ linkCarries (s.fld DST_LINK d) f = false then 4
  else if s.dstOverBudget d then 5
  else 0

/-- Destination charge carried by island j of the sixteen. -/
def State.destLoad (s : State) (j : Nat) : Nat :=
  (s.store.dsts.map (fun e => if e.2.island = j + 1 then s.dstChargeIn s.cfg e.1 else 0)).sum

/-- 1 is written to ENABLE. -/
def State.enableDst (s : State) (d : Nat) : State :=
  let x := s.dstRun d
  if x.stopping then (s.setFld DST_ENABLE 1 d).setDstRun d { x with stopping := false }
  else if s.fldOn DST_ENABLE d then s
  else
    let e := s.dstError d
    let s := s.setFld DST_EN_ERR e d
    if e ≠ 0 then s
    else
      let isl := leastLoaded s.destLoad + 1
      let s := (s.setFld DST_ENABLE 1 d).setFld DST_FRAMES 0 d
      let obj : ObjRun := { planeFrom := s.nowInt + 3000000, leadUsed := s.fld DST_LEAD_EXTRA_US d }
      (s.setDstRun d { obj := obj, island := isl }).bindTx d

/-- A staged group or a marked bank copy names destination d. -/
def State.dstStaged (s : State) (d : Nat) : Bool :=
  s.take.takes.any (fun k => k.todo.any (fun c => c.oris.contains (oriDst d))) ||
    s.take.banks.any (fun b => b.2.steps.any (fun c => c.oris.contains (oriDst d)) || b.2.marks.contains (objDst d))

/-- 0 is written to ENABLE. -/
def State.disableDst (s : State) (d : Nat) : State :=
  let g := s.cfg.dst d
  if s.fldOn DST_ENABLE d ∧ g.vsrc = 2047 ∧ g.asrc = 2047 ∧ g.nsrc = 2047 ∧ s.dstStaged d = false then
    (s.setFld DST_ENABLE 0 d).setDstRun d { s.dstRun d with stopping := true }
  else s

/-- LEAD_EXTRA_US is written: the old lead counts until R224 lets the new one. -/
def State.dstLead (s : State) (d : Nat) : State :=
  let x := s.dstRun d
  s.setDstRun d { x with obj := { x.obj with leadAt := s.nowInt, leadUsed := if x.obj.running then x.obj.leadUsed else s.fld DST_LEAD_EXTRA_US d } }

def State.cmpLead (s : State) (c : Nat) : State :=
  let x := s.cmpRun c
  s.setCmpRun c { x with obj := { x.obj with leadAt := s.nowInt, leadUsed := if x.obj.running then x.obj.leadUsed else s.fld CMP_LEAD_EXTRA_US c } }

/-- A handle that serves as a look-up table of destination d, else 0 (R242). -/
def State.lutHandle (s : State) (d h : Nat) : Nat :=
  match s.owner (oriDst d) with
  | none => 0
  | some p =>
    match Tab.get none s.store.graphics (4096 * p + h) with
    | some g => if g.w = 4096 ∧ g.h = 3 ∧ g.data.all (fun x => x < 4096) then h else 0
    | none => 0

/-! ### Planes (R121) -/

/-- RATE, LINES and SCAN of plane p are written: ignored while the plane has users. -/
def State.writePlane (s : State) (p v : Nat) : State :=
  if s.planeUsers p ≠ 0 then s
  else
    let s := ((s.putFld PLANE_RATE v p).putFld PLANE_LINES v p).putFld PLANE_SCAN v p
    s.setPlaneRun p { offsetUsed := s.planeOffset p, offsetWas := s.planeOffset p }

/-- OFFSET_NS of plane p is written: on a plane without users it counts at once. -/
def State.writeOffset (s : State) (p v : Nat) : State :=
  let s := s.setFld PLANE_OFFSET_NS v p
  if s.planeUsers p ≠ 0 then s else s.setPlaneRun p { s.planeRun p with offsetUsed := s.planeOffset p, offsetWas := s.planeOffset p }

/-! ### The pair (R435, R529) -/

/-- PAIR_EN is written: ignored outside INIT and SOLO, and while domain 171 is gated. Without a pair a device that has
booted is in SOLO. -/
def State.writePairEn (s : State) (v : Nat) : State :=
  if (s.role ≠ Role.INIT ∧ s.role ≠ Role.SOLO) ∨ s.gated 171 = true then s
  else
    let s := s.setFld CWAY_PAIR_EN v
    if v = 0 ∧ s.role = Role.INIT ∧ s.inService = true then s.enterRole Role.SOLO 0 else s

end Sys2Proof.Machine
end

