-- ==== Sys2Proof/Machine/Standing.lean ====
section
/-! DEFINITION. Whether the condition behind a fault record still stands, and the acknowledgement of records (R462). Which
sources report a standing condition, and what the condition is, is DEDUCED: log 87. The sources that this file does not name
report single happenings, or have their records released where the condition ends. -/

namespace Sys2Proof.Machine
open Reg

/-- The condition that a source reported with an INDEX, SUB and DATA stands: of references and partitions, of video, of ports
and lanes, of audio and data. -/
def State.timeStands (s : State) (ev index data : Nat) : Bool :=
  if ev = Ev.PART_LAPSED then s.pstate index == partLapsed
  else if ev = Ev.ENGINE_STUCK then (s.engine index).stuck
  else if ev = Ev.REF_LOST then s.fld REF_RSTATE (data % 16) == 0
  else if ev = Ev.HOLDOVER_ENTER then s.fld TM_STATE == Tm.HOLDOVER
  else if ev = Ev.HOLDOVER_OOS then s.fldOn TM_OOS
  else if ev = Ev.TIME_STEP_REFUSED then s.fldOn TM_STEP_PENDING
  else ev == Ev.WCLK_LOST && s.fldOn APLANE_A_HOLDOVER

/-- The readers that INDEX and SUB of an event of the freshness guard name (R212). -/
def readersNamed (index sub : Nat) : List Nat :=
  if sub < 2 ^ 15 then [rdDst index]
  else [rdLayer index (sub / 2 ^ 8 % 8), rdTile index (sub / 2 ^ 8 % 8) (sub % 2 ^ 8)]

def State.videoStands (s : State) (ev index sub data : Nat) : Bool :=
  let readers := (readersNamed index sub).map s.reader
  if ev = Ev.CHASE_DEGRADED then readers.any (·.chaseDeg)
  else if ev = Ev.FRESH_ACT then readers.any (fun r => r.actFrames != 0)
  else if ev = Ev.SDI_LOSS then (if data < 1120 then s.fld SRC_STATE data == 1 else !(s.rx index).locked)
  else if ev = Ev.SDI_WRONG_FMT then
    s.fld SRC_STATE index == 3 || (match s.rxSource index with | some n => s.fld SRC_STATE n == 3 | none => false)
  else ev == Ev.QUAD_MEMBER && data / 2 ^ 8 != 3 && (s.rx index).lost.contains (data % 2 ^ 8)

def State.linkStands (s : State) (ev index sub data : Nat) : Bool :=
  if ev = Ev.PORT_DOWN then !s.fldOn MPORT_LINK_UP index
  else if ev = Ev.FLOW_LEG_DOWN then (match s.flow (data % 2 ^ 32) with | some x => x.down | none => false)
  else if ev = Ev.LANE_PLL_UNLOCK then s.lane.unlocked.any (fun p => pllFirst p == (index, sub))
  else if ev = Ev.CW_LANE_DOWN then !s.fldOn LANE_MARKER_LOCK (576 + index)
  else if ev = Ev.CW_DESKEW_FAIL then !s.fldOn CWAY_LINK_UP
  else ev == Ev.TOW_BUS_FAIL && (s.towRun index).failed

def State.dataStands (s : State) (ev index : Nat) : Bool :=
  if ev = Ev.AUD_RATE then s.fldOn AINST_RATE_ERR 0 index
  else if ev = Ev.EMB_TRUNC then s.fldOn EMB_TRUNC 0 index
  else if ev = Ev.AES_LOSS then s.fld AESIN_STATE index ≤ 1
  else if ev = Ev.AES_RATE then s.fld AESIN_STATE index != 2
  else if ev = Ev.AES_NONAUDIO then s.fld AESIN_STATE index == 3
  else if ev = Ev.ANCQ_HIGH then s.fldOn ANCQ_ABOVE index
  else ev == Ev.PROBE_FAULT && s.fld PROBE_STATE index == 5

def State.pairStands (s : State) (ev data : Nat) : Bool :=
  if ev = Ev.PEER_LOST then (if data = 4 then s.fldOn CWAY_PF_LINE else !s.fldOn CWAY_PEER_SEEN)
  else if ev = Ev.PAIR_SPLIT then s.fldOn CWAY_TOKEN_OUT_A && s.fldOn CWAY_TOKEN_IN_A
  else if ev = Ev.ROLE_STRAP_CONFLICT then s.fldOn CWAY_PEER_SEEN && s.fld CWAY_PEER_STRAP == s.fld CWAY_ROLE_STRAP
  else if ev = Ev.PAIR_DIVERGED then s.fld CWAY_HELD_CAUSE == 3
  else ev == Ev.SELF_TEST_FAIL && s.cway.katFail.contains data && s.cway.peerFail.contains data

def State.stands (s : State) (ev index sub data : Nat) : Bool :=
  s.timeStands ev index data || s.videoStands ev index sub data || s.linkStands ev index sub data || s.dataStands ev index ||
    s.pairStands ev data

/-- HOLDS of record i as the condition has it. -/
def State.recordHolds (s : State) (i : Nat) : Bool :=
  let ev := s.fld FREC_EVENT i
  s.fldOn FREC_HOLDS i && (!lastingSources.contains ev ||
    s.stands ev (s.fld FREC_INDEX i) (s.fld FREC_SUB i) (s.pair FREC_DATA_LO FREC_DATA_HI i))

/-- HOLDS falls where the condition has ended (R462). -/
def State.faultSettle (s : State) : State :=
  s.upTo 16 (fun s i => s.when (s.fldOn FREC_HOLDS i && !s.recordHolds i) (fun s => s.setFld FREC_HOLDS 0 i))

/-- A write of ACK_GO: a record whose condition stands is not acknowledged. -/
def State.ackFault (s : State) (i : Nat) : State := if s.recordHolds i then s else s.setFld FREC_ACTIVE 0 i

/-- The safe state is reached 8 µs after the detection at the latest (R463). -/
def State.safeSettle (s : State) : State :=
  match s.faults.safeDue with
  | some (i, t) => if t + 8000 ≤ s.now then s.reachSafe i t else s
  | none => s

end Sys2Proof.Machine
end

