-- ==== Sys2Proof/Machine/RegWrite.lean ====
section
/-! DEFINITION. Writes of BAR0: the checks of R36 .. R38, R438, R463 and R510, and what each register does with the word
it is given. -/

namespace Sys2Proof.Machine
open Reg

/-! ### Fields of a word (R8) -/

/-- RW and W1C fields of a register take their parts of a word; fields of other types do not change. `keep` holds fields
that something else keeps from changing. -/
def State.putWord (s : State) (fs : List (Field × Nat × Nat)) (v : Nat) (keep : Field → Bool := fun _ => false) : State :=
  s.each fs (fun s (f, i, j) =>
    match f.ty with
    | .rw => if keep f then s else s.putFld f v i j
    | .w1c => if bitField v f.lo f.w = 0 then s else s.setFld f (s.fld f i j - (s.fld f i j &&& bitField v f.lo f.w)) i j
    | _ => s)

/-- RWL fields of a register take their parts of a word unless they are committed. -/
def State.putRwl (s : State) (fs : List (Field × Nat × Nat)) (v : Nat) (locked : Bool) : State :=
  if locked then s
  else s.each fs (fun s (f, i, j) => if f.ty = .rwl then s.putFld f v i j else s)

/-! ### Blocks -/

abbrev RegFields := List (Field × Nat × Nat)

/-- GLB. -/
def State.writeGlb (s : State) (fs : RegFields) (off v : Nat) : State :=
  if off = 0xC then (if bitAt v 0 then s.warmReset else s) else s.putWord fs v

/-- The ring fields of PCB[p] at their control word (R59). -/
def State.writeRingCtl (s : State) (p k v : Nat) : State :=
  let on := s.fldOn RING_ENABLE p k
  let s := s.when (!on) (fun s => s.setFld RING_SIZE_LOG2 (RING_SIZE_LOG2.norm p (bitField v 0 5)) p k)
  let s := (s.setFld RING_VECTOR (bitField v 16 6) p k).setFld RING_INT_EN (bitField v 24 1) p k
  if bitAt v 8 then s.enableRing p k else s.disableRing p k

def State.writeEvtRingCtl (s : State) (p e v : Nat) : State :=
  let on := s.fldOn ERING_ENABLE p e
  let s := s.when (!on) (fun s => s.setFld ERING_SIZE_LOG2 (ERING_SIZE_LOG2.norm p (bitField v 0 5)) p e)
  let s := (s.setFld ERING_VECTOR (bitField v 16 6) p e).setFld ERING_INT_EN (bitField v 24 1) p e
  if bitAt v 8 then s.enableEvtRing p e else s.disableEvtRing p e

/-- Registers of a command ring. -/
def State.writeRing (s : State) (fs : RegFields) (p k rel v : Nat) : State :=
  if rel < 0x10 then (if s.fldOn RING_ENABLE p k then s else s.putWord fs v)
  else if rel = 0x10 then s.writeRingCtl p k v
  else if rel = 0x1C then (if bitAt v 3 then s.clearHostFault p (.cmd (Fin.ofNat 64 k)) else s)
  else s.putWord fs v

/-- Registers of an event ring. -/
def State.writeEvtRing (s : State) (fs : RegFields) (p e rel v : Nat) : State :=
  if rel < 0x10 then (if s.fldOn ERING_ENABLE p e then s else s.putWord fs v)
  else if rel = 0x10 then s.writeEvtRingCtl p e v
  else if rel = 0x1C then (if bitAt v 3 then s.clearHostFault p (.evt (Fin.ofNat 4 e)) else s)
  else s.putWord fs v

/-- PCB + 8: PART_RST, REVOKE and ENABLE, each as the Who column lets partition w. -/
def State.writePcbCtl (s : State) (w p v : Nat) : State :=
  let s := s.when (w == 0) (fun s => s.writeEnable p (bitField v 8 1))
  let s := s.when (bitAt v 1) (fun s => s.writeRevoke w p)
  s.when (bitAt v 0 && (w == 0 || w == p)) (fun s => s.partReset p)

/-- PCB[p] (R53). The deputy reaches REVOKE in PCB[0] alone. -/
def State.writePcb (s : State) (fs : RegFields) (w p rel v : Nat) : State :=
  if rel = 8 then s.writePcbCtl w p v
  else if w ≠ 0 ∧ w ≠ p then s
  else if rel = 0xC then (if w = 0 then s.putWord fs v else s)
  else if rel = 0x10 then s.writeLease p v
  else if rel = 0x14 then s.beat p
  else if rel = 0x20 then s.writeClaim p v (if w = 0 then bitField v 16 3 else 0)
  else if rel = 0x30 then (s.putWord fs v).rearmError p
  else if 0x100 ≤ rel ∧ rel < 0x900 then s.writeRing fs p ((rel - 0x100) / 0x20) ((rel - 0x100) % 0x20) v
  else if 0x900 ≤ rel ∧ rel < 0x980 then s.writeEvtRing fs p ((rel - 0x900) / 0x20) ((rel - 0x900) % 0x20) v
  else if rel = 0xA04 then (if bitAt v 8 ∧ (s.flipOf p).isNone = true then s.discardBank p else s)
  else s.putWord fs v

/-- CMDENG[e]. -/
def State.writeCmdeng (s : State) (fs : RegFields) (e rel v : Nat) : State :=
  if rel = 0 then (s.writeFreeze e (bitField v 0 1)).when (bitAt v 1) (fun s => s.engineReset e)
  else if rel = 8 then (s.putWord fs v).checkStuck e
  else if rel = 0xC then s.seedLfsr e v
  else s.putWord fs v

/-- FLT. -/
def State.writeFlt (s : State) (fs : RegFields) (rel v : Nat) : State :=
  if rel = 8 then (if bitAt v 8 then s.ackFault (bitField v 0 4) else s)
  else if 0x1000 ≤ rel then s.writeSev ((rel - 0x1000) / 4) v
  else s.putWord fs v

/-- The registers of a reference; any but QUAL_S bear on the selection at the next tick (R107). -/
def State.writeRefReg (s : State) (fs : RegFields) (v : Nat) : State :=
  (s.putWord fs v).each fs (fun s (f, i, _) => if f.base = REF_PRIO.base + 8 then s else s.refWritten i)

/-- The registers of a video plane (R121). -/
def State.writePlaneReg (s : State) (fs : RegFields) (v : Nat) : State :=
  match fs with
  | (f, i, _) :: _ =>
    if f.base = PLANE_RATE.base then s.writePlane i v
    else if f.base = PLANE_OFFSET_NS.base then s.writeOffset i v
    else s.putWord fs v
  | [] => s

/-- TIME. -/
def State.writeTime (s : State) (fs : RegFields) (rel v : Nat) : State :=
  if rel = 0x38 then (if bitAt v 0 then s.setGo else s)
  else if 0x100 ≤ rel ∧ rel < 0x400 then s.writeRefReg fs v
  else if 0x400 ≤ rel ∧ rel < 0x600 then s.writePlaneReg fs v
  else if rel = 0x600 then (s.putWord fs v).audioSource s
  else s.putWord fs v

/-- CLK. -/
def State.writeClk (s : State) (fs : RegFields) (rel v : Nat) : State :=
  if rel = 4 then s.putWord fs v
  else if 0x100 ≤ rel ∧ rel < 0x400 ∧ rel % 16 = 0 then s.writeMonEn ((rel - 0x100) / 16) v
  else s.putWord fs v

/-- PWR. -/
def State.writePwr' (s : State) (rel v : Nat) : State :=
  if 0x100 ≤ rel ∧ rel < 0x100 + 4 * 184 then
    let d := (rel - 0x100) / 4
    (s.writeReq d (bitField v 0 1)).when (bitAt v 8) (fun s => s.writeIslRst d)
  else s

/-- The start-up list window (R525, R532). -/
def State.writeListEntry (s : State) (ofs val : Option Nat) : State :=
  let i := s.fld BOOT_SET_IDX
  let x : Nat × Nat := Tab.get (0, 0) s.boot.list i
  { s with boot := { s.boot with list := Tab.set (0, 0) s.boot.list i (ofs.getD x.1, val.getD x.2) } }

/-- BOOT. -/
def State.writeBoot (s : State) (fs : RegFields) (rel v : Nat) : State :=
  if rel = 0x24 then s.writeFlData v
  else if rel = 0x28 then s.flashCmd (bitField v 0 4)
  else if rel = 0x34 then s.writeListEntry (some (bitField v 0 26)) none
  else if rel = 0x38 then s.writeListEntry none (some v)
  else if rel = 0x40 then s.writeFuseKey v
  else if rel = 0x44 then (if bitAt v 0 then s.blowDbg else s)
  else s.putWord fs v

/-- CWAY. -/
def State.writeCway (s : State) (fs : RegFields) (rel v : Nat) : State :=
  if rel = 0 then (s.putWord fs v (fun f => f.lo == 0)).writePairEn (bitField v 0 1) else s.putWord fs v

/-- TOW[b]. -/
def State.writeTowpath (s : State) (fs : RegFields) (b rel v : Nat) : State :=
  if rel = 0 then s.writeTow b v
  else if rel = 8 then
    let s := s.when (bitAt v 0) (fun s => s.towGo b)
    let s := s.when (bitAt v 1) (fun s => s.towFlush b)
    s.when (bitAt v 2) (fun s => s.towPop b)
  else s.putWord fs v

/-- AUD. -/
def State.writeAud (s : State) (fs : RegFields) (rel v : Nat) : State :=
  if 0x1000 ≤ rel ∧ rel < 0x3000 ∧ rel % 8 = 0 then s.writeAin ((rel - 0x1000) / 8) v
  else if 0x3000 ≤ rel ∧ rel < 0x5000 then
    (if rel % 8 = 0 then s.writeEmb0 ((rel - 0x3000) / 8) v else s.writeEmb4 ((rel - 0x3000) / 8) v)
  else if 0x5000 ≤ rel ∧ rel < 0x6000 ∧ rel % 8 = 0 then s.writeAgrp ((rel - 0x5000) / 8) v
  else s.putWord fs v

/-- ANCQ[q]. -/
def State.writeAncq (s : State) (fs : RegFields) (q rel v : Nat) : State :=
  if rel = 0 then s.writeAncq0 q v
  else if rel = 4 then s.writeAncq4 q v
  else if rel = 8 then s.writeFsrc q v
  else if rel = 0x10 then s.writeWatermark q v
  else s.putWord fs v

/-- PROBE[c]. -/
def State.writeProbe (s : State) (fs : RegFields) (c rel v : Nat) : State :=
  if 0x80 ≤ rel ∧ rel < 0x100 then
    (if rel % 0x20 < 0x18 then s.writeWindow c ((rel - 0x80) / 0x20) (rel % 0x20 / 4) v else s)
  else s.putWord fs v

/-- A lane. -/
def State.writeLane (s : State) (fs : RegFields) (l rel v : Nat) : State :=
  if rel = 0 then s.writeLaneCtl l v
  else if rel = 4 then (if isTxLane l then s.writeTxEq l v else s)
  else if rel = 8 then (if isRxLane l then s.writeRxEq l v else s)
  else if rel = 0xC then (if isRxLane l then s.writeDfe l 0 v else s)
  else if rel = 0x10 then (if isRxLane l then s.writeDfe l 1 v else s)
  else if rel = 0x80 then (if isRxLane l then s.writeScan l v else s)
  else if rel = 0x84 then (s.putWord fs v).when (bitAt v 0) (fun s => s.scanGo l)
  else s.putWord fs v

/-- SDIRX[l]. -/
def State.writeSdirx (s : State) (fs : RegFields) (l rel v : Nat) : State :=
  if rel = 0 then
    let old := s.fld SDIRX_LINK l
    let s := (s.putWord fs v).putRwl fs v (s.linkLocked l)
    if s.fld SDIRX_LINK l = old then s else s.relink l
  else s.putWord fs v

/-- MPORT[m]. -/
def State.writeMport (s : State) (fs : RegFields) (m rel v : Nat) : State :=
  if rel = 0 then
    let s := s.putRwl fs v (s.portRun m).modeLocked
    let s := s.putFld MPORT_HP_LONG v m
    if bitAt v 8 then s.enablePort m else s.disablePort m
  else if rel = 0x40 ∨ rel = 0x44 then (if s.fldOn MPORT_HP_RX_EN m then s else s.putWord fs v)
  else if rel = 0x48 then s.writeHpRxRing m v
  else if rel = 0x4C then s.writeHpRxHead m v
  else if rel = 0x50 ∨ rel = 0x54 then (if s.fldOn MPORT_HP_TX_EN m then s else s.putWord fs v)
  else if rel = 0x58 then s.writeHpTxRing m v
  else if rel = 0x5C then s.writeHpTxTail m v
  else s.putWord fs v

/-- SRC[n]: SRC_CFG and SRC_FMT of a compositor's output source do not change by writes (R167). -/
def State.writeSrc (s : State) (fs : RegFields) (n rel v : Nat) : State :=
  if rel < 8 then (if n ≥ 1024 then s else (s.putWord fs v).putRwl fs v (s.srcLocked n)) else s.putWord fs v

/-- DST[d]. -/
def State.writeDst (s : State) (fs : RegFields) (d rel v : Nat) : State :=
  if rel = 0 then (if bitAt v 0 then s.enableDst d else s.disableDst d)
  else if rel = 4 then
    let s := s.putRwl fs v (s.dstOn d)
    if s.fldOn DST_RGB d ∨ s.dstOn d then s else s.setFld DST_FULL 0 d
  else if rel = 0x10 then (s.putWord fs v).dstLead d
  else if rel = 0x40 then (s.setFld DST_LUT_IN (s.lutHandle d (bitField v 0 12)) d).setFld DST_LUT_OUT (s.lutHandle d (bitField v 16 12)) d
  else (s.putWord fs v).putRwl fs v (s.dstOn d)

/-- CMP[c]. -/
def State.writeCmp (s : State) (fs : RegFields) (c rel v : Nat) : State :=
  if rel = 0 then (s.putWord fs v).cmpLead c else s.putWord fs v

/-- Instance i of a block takes a word at an offset. `w`: the partition that writes. -/
def State.regWrite (s : State) (w off v : Nat) : State :=
  match blockAt off with
  | none => s
  | some (b, i) =>
    let fs := b.at? off
    let rel := fun (base stride : Nat) => off - base - stride * i
    match b with
    | .glb => s.writeGlb fs off v
    | .pcb => s.writePcb fs w i (rel 0x1000 0x1000) v
    | .own => s
    | .cmdeng => s.writeCmdeng fs i (rel 0x18000 0x100) v
    | .evt => s.putWord fs v
    | .flt => s.writeFlt fs (rel 0x24000 0) v
    | .time => s.writeTime fs (rel 0x30000 0) v
    | .clk => s.writeClk fs (rel 0x40000 0) v
    | .pwr => s.writePwr' (rel 0x41000 0) v
    | .boot => s.writeBoot fs (rel 0x42000 0) v
    | .ic => s.putWord fs v
    | .mc => s.putWord fs v
    | .fresh => s.putWord fs v
    | .cway => s.writeCway fs (rel 0x70000 0) v
    | .tow => s.writeTowpath fs i (rel 0x71000 0x1000) v
    | .aud => s.writeAud fs (rel 0x80000 0) v
    | .aesin =>
      if rel 0x90000 0x100 = 0 then s.writeAesIn0 w i v
      else if rel 0x90000 0x100 = 4 then s.writeAesIn4 w i v
      else s.putWord fs v
    | .aesout =>
      if rel 0x94000 0x100 = 0 then s.writeAesOut0 i v
      else if rel 0x94000 0x100 = 4 then s.writeOutCh i v
      else s.putWord fs v
    | .ancq => s.writeAncq fs i (rel 0xA0000 0x40) v
    | .probe => s.writeProbe fs i (rel 0xB0000 0x400) v
    | .lane => s.writeLane fs i (rel 0x100000 0x200) v
    | .sdirx => s.writeSdirx fs i (rel 0x180000 0x200) v
    | .sditx => s.putWord fs v
    | .mport => s.writeMport fs i (rel 0x1C0000 0x1000) v
    | .src => s.writeSrc fs i (rel 0x400000 0x400) v
    | .dst => s.writeDst fs i (rel 0x600000 0x400) v
    | .cmp => s.writeCmp fs i (rel 0x800000 0x1000) v
    | .flowwin => s

/-! ### Access checks (R35 .. R38) -/

/-- The outcome of the checks of an access: the first that fails, with the offset it concerns. -/
inductive AccessBar where
  | width (off : Nat)
  | unmapped (off : Nat)
  | denied (off : Nat)
  deriving DecidableEq, Repr

/-- The registers that an access covers. -/
def covered (off width : Nat) : List Nat := if width = 8 then [off, off + 4] else [off / 4 * 4]

/-- An offset is mapped; in recovery only BOOT and GLB are (R515). -/
def State.mapped (s : State) (off : Nat) : Bool :=
  match blockAt off with
  | none => false
  | some (b, _) => !s.boot.recovery || b == .boot || b == .glb

/-- The ownership resource of a block instance whose owner may write it (R36). -/
def blockOri (b : Blk) (i : Nat) : Option Nat :=
  match b with
  | .src => some (if i < 1024 then oriSrc i else oriCmp (i - 1024))
  | .dst => some (oriDst i)
  | .cmp => some (oriCmp i)
  | .probe => some (oriProbe i)
  | .ancq => some (oriQueue i)
  | .mport => some (oriPort i)
  | .aesin => some (oriAes i)
  | _ => none

/-- A mirrored block (R439). -/
def Blk.isMirrored (b : Blk) : Bool :=
  [Blk.src, .dst, .cmp, .fresh, .aud, .aesin, .aesout, .ancq, .probe, .sdirx, .sditx].contains b

/-- The register at an offset holds an RW or RWL field. -/
def hasRw (b : Blk) (off : Nat) : Bool := (b.at? off).any (fun x => x.1.ty == .rw || x.1.ty == .rwl)

/-- Partition w may write the register at an offset (R36, R37, R438, R510). -/
def State.mayWrite (s : State) (w off : Nat) : Bool :=
  match blockAt off with
  | none => false
  | some (b, i) =>
    let right :=
      match b with
      | .pcb => w == 0 || w == i || (i == 0 && s.deputy == some w)
      | .own => false
      | .flowwin => false
      | _ =>
        match blockOri b i with
        | some o => s.mayChange w o
        | none => w == 0
    right && (w == 0 || s.fldOn PCB_ENABLE w || (b == .pcb && i == w)) &&
      (s.inService || b.always) &&
      (s.isActive || !(b.isMirrored && hasRw b off))

/-- Partition r may read the register at an offset. -/
def State.mayReadReg (s : State) (r off : Nat) : Bool :=
  match blockAt off with
  | none => false
  | some (b, i) =>
    (match b with
      | .pcb => r == 0 || r == i
      | .flowwin => r == 0
      | _ => true) && (r == 0 || s.fldOn PCB_ENABLE r || (b == .pcb && i == r))

/-- The first failing check of a write. -/
def State.writeBar (s : State) (w off width : Nat) : Option AccessBar :=
  if ¬((width = 4 ∧ off % 4 = 0) ∨ (width = 8 ∧ off % 8 = 0)) then some (.width off)
  else (covered off width).findSome? (fun o =>
    if s.mapped o = false then some (.unmapped o)
    else if s.mayWrite w o = false then some (.denied o)
    else none)

/-- The first failing check of a read. -/
def State.readBar (s : State) (r off width : Nat) : Option AccessBar :=
  if ¬((width = 1) ∨ (width = 2 ∧ off % 2 = 0) ∨ (width = 4 ∧ off % 4 = 0) ∨ (width = 8 ∧ off % 8 = 0)) then some (.width off)
  else (covered off width).findSome? (fun o =>
    if s.mapped o = false then some (.unmapped o)
    else if s.mayReadReg r o = false then some (.denied o)
    else none)

/-- The error is logged for the accessing partition. BAR 0. -/
def State.logBar (s : State) (p : Nat) : AccessBar → State
  | .width off => s.logError p PCB_WIDTH 0 off
  | .unmapped off => s.logError p PCB_UNMAPPED 0 off
  | .denied off => s.logError p PCB_DENIED 0 off

/-! ### A host write (R37 .. R39, R439, R463) -/

/-- The first whole millisecond at or after the arrival plus 2 ms (R439). -/
def State.mirrorInstant (s : State) : Nat := ceilDiv (s.now + 2000000) 1000000 * 1000000

/-- Writes of the audio engine and of the AES3 ports take effect at the first 1 ms block of the audio plane from then on
(R357, R388). -/
def State.mirrorFor (s : State) (b : Blk) : Nat :=
  let t := s.mirrorInstant
  if b = .aud ∨ b = .aesin ∨ b = .aesout then
    max t (s.sampleStart (48 * ceilDiv (s.sampleFrom t) 48)).toNat
  else t

/-- A write of a mirrored field on a paired device is sent and held; W1C bits act at once. -/
def State.holdWrite (s : State) (w off v : Nat) (b : Blk) : State :=
  let fs := b.at? off
  let ones := fs.filter (fun x => x.1.ty == .w1c)
  let mask := (ones.map (fun x => (2 ^ x.1.w - 1) * 2 ^ x.1.lo)).sum
  let s := s.putWord ones v
  let v' := v - (v &&& mask)
  let t := s.mirrorFor b
  let s := s.send Msg.MIRROR_REG [word64 off v', t]
  s.setCway { s.cway with held := s.cway.held ++ [{ at' := t, part := w, off := off, value := v' }] }

/-- A write that an unpaired device applies at once goes, as part of the live mirror, to a peer that is joining. DEDUCED, log
66. -/
def State.mirrorWrite (s : State) (b : Blk) (off v : Nat) : State :=
  let ones := (b.at? off).filter (fun x => x.1.ty == .w1c)
  let mask := (ones.map (fun x => (2 ^ x.1.w - 1) * 2 ^ x.1.lo)).sum
  s.when s.mirrors (fun s => s.send Msg.MIRROR_REG [word64 off (v - (v &&& mask)), s.now])

/-- A word that passed its checks takes effect. The key of BLOW_DBG lasts for one register write of P0 (R520). -/
def State.acceptWrite (s : State) (w off v : Nat) : State :=
  let s' :=
    match blockAt off with
    | none => s
    | some (b, _) =>
      if s.safe && b != .flt && b != .glb then s
      else if b.isMirrored && hasRw b off then (if s.paired then s.holdWrite w off v b else (s.mirrorWrite b off v).regWrite w off v)
      else s.regWrite w off v
  if w = 0 ∧ off ≠ 0x42040 then { s' with boot := { s'.boot with armed := false } } else s'

/-- An access of BAR0 by partition w has crossed the interconnect: its endpoint's master to the register space (R544). -/
def State.hostCrossed (s : State) (w : Nat) : State := s.crosses (w / 2) [0]

/-- A write of `width` bytes at an offset by partition w. -/
def State.hostWrite (s : State) (w off width v : Nat) : State :=
  (match s.writeBar w off width with
    | some bar => let s := s.logBar w bar; if w = 0 then { s with boot := { s.boot with armed := false } } else s
    | none =>
      let s := s.acceptWrite w off (v % 2 ^ 32)
      if width = 8 then s.acceptWrite w (off + 4) (v / 2 ^ 32 % 2 ^ 32) else s).hostCrossed w

/-- An aligned 32-bit write. -/
def State.write32 (s : State) (w off v : Nat) : State := s.hostWrite w off 4 v

/-- MIRROR_REG_APPLY: held writes whose instant has come, in their order (R439); on a standby the Causeway message engine
(master 10) makes them. -/
def State.applyHeld (s : State) : State :=
  let due := s.cway.held.filter (fun h => decide (h.at' ≤ s.now))
  let s := s.setCway { s.cway with held := s.cway.held.filter (fun h => decide (s.now < h.at')) }
  (s.each due (fun s h => s.regWrite h.part h.off h.value)).when (!due.isEmpty && !s.isActive) (fun s => s.crosses 10 [0])

def execMirrorRegApply (s : State) : Host.Outcome State Fault Refusal := .next s.applyHeld

end Sys2Proof.Machine
end

