-- ==== Sys2Proof/Machine/PairSnap.lean ====
section
/-! DEFINITION. The snapshot that the active device sends to a device that joins: the committed and scheduled state as
messages, and what the active device does when its peer reports a role (R435, R440, R446). Log 32. -/

namespace Sys2Proof.Machine
open Reg

/-! ### Changes as descriptors (R76 .. R82, R86) -/

/-- A synthetic descriptor: its opcode, the words of its body from word 5, and its buffer. -/
structure SnapCmd where
  part : Nat := 0
  op : Nat
  group : Nat := 0
  bank : Bool := false
  body : List Nat
  data : List Byte := []
  cseq : Nat := 0
  deriving DecidableEq, Repr

/-- Two signed 16-bit halves of a word. -/
def halves (a b : Int) : Nat := unsignedOf 16 a + 2 ^ 16 * unsignedOf 16 b

def Tile.words (t : Tile) : List Nat := [t.src + 2 ^ 12 * t.lat, halves t.x t.y, t.w + 2 ^ 16 * t.h, 0]

def policyWords (target i l : Nat) (p : Policy) : List Nat :=
  let own := p.preset = 255
  [target, i + 2 ^ 16 * l, p.preset, if own then p.maxAgeMs + 2 ^ 16 * p.stallMs else 0,
    if own then bit p.hbChk + 2 * bit p.verdict + 2 ^ 4 * p.action else 0]

/-- The descriptor that asks for a change; implicit steps have none. -/
def Change.cmd : Change → Option SnapCmd
  | .route d src lat _ v a n =>
    some { op := 0x10, body := [d + 2 ^ 16 * src + 2 ^ 28 * lat, bit v + 2 * bit a + 4 * bit n] }
  | .audioMap _ w0 w1 => some { op := 0x12, body := [], data := wordBytes [w0, w1] }
  | .audioGain o b ms g => some { op := 0x13, body := [], data := wordBytes [o + 2 ^ 15 * bit b + 2 ^ 16 * ms, g] }
  | .layer c l x =>
    some { op := 0x14, data := wordBytes (x.tiles.flatMap Tile.words)
           body := [c + 2 ^ 8 * l + 2 ^ 12 * x.kind + 2 ^ 16 * x.src + 2 ^ 28 * x.lat, halves x.x x.y, x.w + 2 ^ 16 * x.h,
             x.alpha + 2 ^ 16 * x.ref, x.cropX + 2 ^ 16 * x.cropY, x.cropW + 2 ^ 16 * x.cropH, x.level] }
  | .compSet c act out plane z zen bg =>
    some { op := 0x15, body := [c + 2 ^ 8 * act, out + 2 ^ 8 * plane, z + 2 ^ 31 * bit zen, bg] }
  | .freshDst d p => some { op := 0x16, body := policyWords 1 d 0 p }
  | .freshLayer c l p => some { op := 0x16, body := policyWords 2 c l p }
  | .alloc n sh _ explicit =>
    if explicit then some { op := 0x22, body := [n, sh.depth + 2 ^ 8 * sh.ladder, sh.store] } else none
  | .holdBuf .. => none
  | .ancInsert d line rep ws => some { op := 0x33, body := [d, line + 2 ^ 16 * rep], data := wordBytes ws }
  | .flowAdd f ws => some { op := 0x40, body := [f], data := wordBytes ws }
  | .flowDel f _ => some { op := 0x41, body := [f] }
  | .probeCtl c act pc => some { op := 0x51, body := [c, if act = 4 then 0 else act + 1, pc] }

def SnapCmd.desc (c : SnapCmd) : List Nat :=
  let ws := [c.op + 2 ^ 9 * bit c.bank, c.group, 0, 0, c.data.length] ++ c.body
  ws ++ List.replicate (16 - ws.length) 0

/-! ### Committed state (R439, R446) -/

/-- What makes an object what it is in a configuration. -/
def Cfg.objChanges (g : Cfg) (obj : Nat) : List Change :=
  if obj < 1024 then
    let x := g.dst obj
    [.route obj x.vsrc x.lat 0 true false false, .route obj x.asrc x.lat 0 false true false,
      .route obj x.nsrc x.lat 0 false false true, .freshDst obj x.policy]
  else if obj < 2048 then
    let c := obj - 1024
    let m := g.cmp c
    .compSet c (if m.enabled then 1 else 2) m.outFmt m.plane m.zperm m.zpermEn m.bg ::
      (List.range 8).flatMap (fun l => [.layer c l (m.layer l), .freshLayer c l (m.layer l).policy])
  else
    let x := g.chan (obj - 2048)
    [.audioMap (obj - 2048) ((obj - 2048) + 2 ^ 15 * (x.map0 / 2 ^ 15)) x.map1, .audioGain (obj - 2048) false 0 x.gainA,
      .audioGain (obj - 2048) true 0 x.gainB]

/-- The committed configuration as changes: compositors' settings before the rings, and the rings before their readers. -/
def Cfg.changes (g : Cfg) : List Change :=
  let objs := g.cmps.map (fun e => objCmp e.1)
  let sets := objs.flatMap (fun o => (g.objChanges o).take 1)
  let rings := g.rings.map (fun e => Change.alloc e.1 e.2 0 true)
  let rest := objs.flatMap (fun o => (g.objChanges o).drop 1)
  sets ++ rings ++ rest ++ (g.dsts.map (·.1)).flatMap g.objChanges ++ (g.chans.map (fun e => objChan e.1)).flatMap g.objChanges

/-- The committed configuration with what is about to apply without a further decision. -/
def State.snapCfg (s : State) : Cfg :=
  (s.take.takes.filter (fun k => k.kind == .immediate || k.state == .decided)).foldl s.takeAll s.cfg

/-- Flow contexts, insertions that last and probe cores. -/
def State.snapOthers (s : State) : List Change :=
  s.media.flows.filterMap (fun e => e.2.map (fun f => Change.flowAdd e.1 f.words)) ++
  s.store.dsts.flatMap (fun e => e.2.inserts.map (fun i => Change.ancInsert e.1 i.line i.left i.words))

/-- The values of a table up to its last key. -/
def denseValues (t : Tab Nat) : List Nat := (List.range ((t.getLast?.map (fun e => e.1 + 1)).getD 0)).map (Tab.get 0 t)

/-- The programs of probe cores, and the cores that run. -/
def State.snapProbes (s : State) : List SnapCmd :=
  s.probe.cores.flatMap (fun e =>
    let load (mem : Nat) (data : List Byte) : List SnapCmd :=
      if data.isEmpty then [] else [{ op := 0x50, body := [e.1 + 2 ^ 8 * mem, 0], data := data }]
    load 1 (wordBytes (denseValues e.2.imem)) ++ load 2 ((denseValues e.2.dmem).flatMap (leBytes 2)) ++
      (if s.fld PROBE_STATE e.1 = coreStopped then []
       else (Change.probeCtl e.1 0 (s.fld PROBE_ENTRY e.1)).cmd.toList))

/-- Stored graphics. -/
def State.snapGraphics (s : State) : List SnapCmd :=
  s.store.graphics.filterMap (fun e => e.2.map (fun g =>
    { part := e.1 / 4096, op := 0x30, body := [e.1 % 4096, g.w + 2 ^ 16 * g.h], data := wordBytes g.data }))

/-- Ownership that is not at its reset value. -/
def State.snapOwners (s : State) : List CwMsg :=
  ((List.range 3072).filter (fun o => s.fld OWN_OWNER o != 0 || s.fldOn OWN_SHARED o)).map (fun o =>
    { ty := Msg.MIRROR_OWN, words := [o + 2 ^ 12 * s.fld OWN_OWNER o + 2 ^ 16 * s.fld OWN_SHARED o] })

/-- The RW and RWL fields of a register as a word. -/
def State.rwWord (s : State) (b : Blk) (off : Nat) : Nat :=
  ((b.at? off).map (fun x => if x.1.ty = .rw ∨ x.1.ty = .rwl then s.fld x.1 x.2.1 x.2.2 * 2 ^ x.1.lo else 0)).sum

/-- Mirrored blocks in the order in which a snapshot carries them: what others rest on comes first. -/
def snapBlocks : List Blk := [.fresh, .sdirx, .sditx, .src, .aud, .cmp, .probe, .ancq, .aesin, .aesout, .dst]

/-- Mirrored registers that are not at their reset values, the control words of a block last. -/
def State.snapRegs (s : State) : List CwMsg :=
  let offs := (s.regs.map (fun e => e.1 / 32 * 4)).eraseReps
  snapBlocks.flatMap (fun b =>
    ((offs.filter (fun o => match blockAt o with | some (x, _) => x == b && hasRw b o | none => false)).reverse).map (fun o =>
      { ty := Msg.MIRROR_REG, words := [word64 o (s.rwWord b o), s.now] }))

/-- Writes that wait for their instant. -/
def State.snapHeld (s : State) : List CwMsg :=
  s.cway.held.map (fun h => { ty := Msg.MIRROR_REG, words := [word64 h.off h.value, h.at'] })

/-- SEQ_ALIGN for the newest slot of each source, at most 2,047 records a message (R445, R447). -/
def State.snapAlign (s : State) : List CwMsg :=
  let recs := s.store.srcs.filterMap (fun e =>
    ((s.slotsOf e.1).find? (fun x => x.slot.seq == e.2.seq)).map (fun x => [word64 e.1 x.slot.seq, x.slot.tStart]))
  (List.range ((recs.length + 2046) / 2047)).map (fun i =>
    { ty := Msg.SEQ_ALIGN, words := ((recs.drop (2047 * i)).take 2047).flatten })

/-! ### Scheduled takes (R440) -/

inductive SnapItem where
  | cmd (c : SnapCmd)
  | msg (m : CwMsg)
  deriving DecidableEq, Repr

def milepostWords (t : Nat) : List Nat := [0, t % 2 ^ 32, t / 2 ^ 32]

/-- A scheduled take: its members, the descriptor that scheduled it, and GROUP_END. -/
def State.snapTake (s : State) (k : Take) : List SnapItem :=
  let members := k.todo.filterMap Change.cmd
  let cmds : List SnapCmd :=
    match k.kind with
    | .group =>
      members.map (fun c => { c with part := k.part, group := k.group }) ++
        [{ part := k.part, op := 0x20, group := k.group, body := milepostWords k.t, cseq := k.seq }]
    | .flip =>
      ((k.marks.flatMap (s.bank k.part).copies.objChanges).filterMap Change.cmd ++ members).map (fun c =>
          { c with part := k.part, bank := true }) ++
        [{ part := k.part, op := 0x21, body := milepostWords k.t, cseq := k.seq }]
    | _ => members.map (fun c => { c with part := k.part, cseq := k.seq })
  cmds.map .cmd ++ [.msg { ty := Msg.GROUP_END, words := [k.word, k.t, k.count] }]

/-- Takes that are scheduled or sealed, in sequence order. -/
def State.snapTakes (s : State) : List Take :=
  (s.take.takes.filter (fun k => k.kind != .immediate && (k.state == .scheduled || k.state == .sealed))).mergeSort
    (fun a b => decide (a.seq ≤ b.seq))

/-- The messages between SNAP_BEGIN and SNAP_END, before descriptors have their numbers. -/
def State.snapItems (s : State) : List SnapItem :=
  (s.snapOwners ++ s.snapRegs ++ s.snapHeld).map .msg ++ s.snapGraphics.map .cmd ++
  ((s.snapCfg.changes ++ s.snapOthers).filterMap Change.cmd).map .cmd ++ s.snapProbes.map .cmd ++
  s.snapAlign.map .msg ++ s.snapTakes.flatMap s.snapTake

/-- Descriptors are numbered from the device's count (R446). -/
def snapMsgs (id : Nat) : List SnapItem → List CwMsg
  | [] => []
  | .msg m :: l => m :: snapMsgs id l
  | .cmd c :: l => cmdMsgs id c.part 0 c.cseq c.desc c.data ++ snapMsgs ((id + 1) % 2 ^ 32) l

def SnapItem.isCmd : SnapItem → Bool
  | .cmd _ => true
  | .msg _ => false

/-- A snapshot is sent to the peer that joins (R435, R446). RECORDS counts every message of it. -/
def State.sendSnapshot (s : State) : State :=
  let items := s.snapItems
  let ms := snapMsgs s.cway.cmdId items
  let w := word64 (s.take.nextSeq % 2 ^ 32) (ms.length + 2)
  let p := s.cway
  let s := s.setCway { p with
    cmdId := (p.cmdId + (items.filter SnapItem.isCmd).length) % 2 ^ 32, snapSent := true, rxSync := true }
  ((s.send Msg.SNAP_BEGIN [w]).sendAll ms).send Msg.SNAP_END [w]

/-! ### What the peer reports (R435) -/

/-- The peer has reported its role. -/
def State.peerIs (s : State) (st : Nat) : State :=
  let s := s.setFld CWAY_PEER_STATE st
  let p := s.cway
  let s := s.when (st != Role.JOINING && st != Role.STANDBY) (fun s => s.setCway { p with snapSent := false })
  if s.role = Role.ACTIVE ∧ st ≠ Role.STANDBY then (if s.exchanging then s else s.enterRole Role.SOLO 0)
  else if s.role = Role.SOLO ∧ st = Role.STANDBY then s.enterRole Role.ACTIVE 0
  else if s.isActive ∧ st = Role.JOINING ∧ s.cway.snapSent = false then s.sendSnapshot
  else s

end Sys2Proof.Machine
end

