-- ==== Sys2Proof/Machine/PairFollow.lean ====
section
/-! DEFINITION. What a device that follows its peer does with the peer's messages: selections, tears, audio decisions,
mirrored descriptors and writes, takes, snapshots and sequence numbers (R118, R438 .. R441, R446, R447, R454). -/

namespace Sys2Proof.Machine
open Reg

/-! ### SELECT and TEAR (R212, R441) -/

/-- The reader that a record names. -/
def readerOf (w : Nat) : Option Nat :=
  let obj := bitField w 2 10
  match bitField w 0 2 with
  | 1 => some (rdDst obj)
  | 2 => if obj < 96 then some (rdLayer obj (bitField w 12 3)) else none
  | 3 => if obj < 96 then some (rdTile obj (bitField w 12 3) (bitField w 16 6)) else none
  | _ => none

/-- A closed slot of a source by its SEQ. -/
def State.closedSeq (s : State) (n seq : Nat) : Option Found :=
  (s.slotsOf n).find? (fun x => decide (2 ≤ x.slot.state) && x.slot.seq == seq)

/-- What a SELECT record makes its reader show; none when the slot is not there. `own` is the reader's own choice. -/
def State.followShown (s : State) (g : Cfg) (x : ReaderCfg) (at' : Int) (w seq age : Nat) (own : Selected) : Option Shown :=
  let acting := bitAt w 26
  let action := x.policy.action
  let age : Option Nat := if age = 0xFFFFF then none else some age
  let level := (s.reader x.rd).gLevel
  if acting && action == 3 then some { act := 3, acting := true }
  else if acting && (action == 1 || action == 2) then
    if bitAt w 27 then
      (s.closedSeq x.src seq).map (fun y =>
        { slot := some y.ref, act := action, entry := true, acting := true, level := level, age := age })
    else some { act := action, acting := true, level := level, age := age }
  else if bitAt w 28 then some { act := 4, acting := acting }
  else if bitField w 24 2 = 1 then
    if seq = 0 then (if own.shown.chase then some { own.shown with acting := acting } else none)
    else
      ((s.slotsOf x.src).find? (fun y => y.slot.seq == seq)).map (fun y =>
        { s.candShown g x at' (some { y.candidate with chase := true, fmt := s.fmtInForce x.src }) with acting := acting })
  else (s.closedSeq x.src seq).map (fun y => { s.candShown g x at' (some y.candidate) with acting := acting })

/-- The reader's facts and events as the record gives them. -/
def followRun (r : ReaderRun) (own : Selected) (x : ReaderCfg) (w cond : Nat) (f : Int) (shown : Shown) (s : State) : Selected :=
  let st := bitField w 22 2
  let acting := bitAt w 26
  let entry := acting && r.fstate != 2 && r.fstate != 3
  let live := !acting && shown.act == 0
  let deg := x.lat == 1 && bitField w 24 2 == 2
  let damaged := st != 0 && shown.act == 0 && cond / 64 % 2 == 1 &&
    (r.lastDamaged == 0 || decide (r.lastDamaged - 1 + 10 ^ 9 ≤ s.time.grid))
  { run := { own.run with
      g := if live then shown.slot else r.g
      gLevel := if live then shown.level else r.gLevel
      tRef := if live then own.run.tRef else r.tRef
      fstate := st, good := if st = 3 ∧ r.fstate = 3 then r.good + 1 else 0
      actFrames := if acting then (if entry then 1 else r.actFrames + 1) else 0
      cond := cond, chaseDeg := deg
      lastDamaged := if damaged then s.time.grid + 1 else r.lastDamaged
      nxt := some shown, nxtAt := f }
    shown := shown, acted := entry
    cleared := !acting && (r.fstate == 2 || r.fstate == 3) && st != 0
    damaged := damaged, degraded := deg && !r.chaseDeg, ageMs := own.ageMs }

/-- One SELECT record. Without the slot that it names the reader makes its own choice at the frame start. -/
def State.followSelect (s : State) (a b : Nat) : State :=
  match readerOf a with
  | none => s
  | some rd =>
    let obj := rdObj rd
    match s.nextFrame obj with
    | none => s
    | some (k, f, lead) =>
      let g := s.cfgAt obj f lead
      match (if k % 2 ^ 32 = b % 2 ^ 32 ∧ s.hasBoundary obj = true then g.readerAt rd else none) with
      | none => s
      | some x =>
        let r := (s.reader rd).restarted x.src
        let own := s.choose g x (s.chaseWin rd) f (f - lead)
        match s.followShown g x (f - lead) a (a / 2 ^ 32) (bitField b 32 20) own with
        | none => s
        | some shown =>
          let d := followRun r own x a (bitField b 52 7) f shown s
          (s.setReader rd d.run).selectionEvents x r d

/-- The frame in progress of a destination is not compared (R441). -/
def State.notComparable (s : State) (obj : Nat) : State :=
  s.when (decide (obj < 1024)) (fun s => s.setDstRun obj { s.dstRun obj with nc := true })

/-- The follower keeps its own choice for the frame in progress of an object. -/
def State.missed (s : State) (obj : Nat) : State := (s.addFld CWAY_SEL_MISS 1).notComparable obj

/-- One TEAR record: in time while its line has not ended. -/
def State.followTear (s : State) (a b : Nat) : State :=
  match readerOf a with
  | none => s
  | some rd =>
    let obj := rdObj rd
    let o := s.objRun obj
    let r := s.reader rd
    let line := bitField b 0 16
    let seq := b / 2 ^ 32
    if o.running = false ∨ (o.frame - 1) % 2 ^ 16 ≠ bitField b 16 16 ∨ r.cur.chase = false then s
    else if line < s.lineAt (s.objPlane obj - 1) (o.frame - 1) o.start s.nowInt then s.missed obj
    else if seq = 0 then s.tearTo rd line none
    else
      match s.closedSeq r.src seq with
      | some y => s.tearTo rd line (some y.ref)
      | none => (s.tear rd line (o.frame - 1)).missed obj

/-! ### AUDIO_DEC (R441) -/

def audDecOf (s : State) (a b : Nat) : AudDec :=
  { kind := bitField a 0 3, ch := bitField a 4 15, count := bitField a 32 11
    tick := nearestIndex s.sampleIndex (b % 2 ^ 32), value := signed 32 (b / 2 ^ 32) }

/-- A decision of the peer that the device has not made itself. -/
def State.takeOver (s : State) (d : AudDec) : State :=
  match d.kind with
  | 1 => s.setRatio d.ch d.value
  | 2 => s.doSlip d.ch (decide (0 < d.value))
  | 3 => s.underrun d.ch
  | 4 => s.reenter d.ch
  | 5 => s.switchAsrc (s.chanIn d.ch).src
  | _ => s

/-- One AUDIO_DEC record. -/
def State.followAudio (s : State) (a b : Nat) : State :=
  let d := audDecOf s a b
  let s := { s with audio := { s.audio with peerDecs := s.audio.peerDecs ++ [d] } }
  if s.audio.decs.any d.same then s else (s.takeOver d).audioDiffers d.ch

/-! ### Mirrored descriptors (R440) -/

/-- The entries of a change descriptor. -/
def State.entriesFor (s : State) (r : Request) : List Entry :=
  match r.opcode with
  | 0x10 => [routeEntry (r.word 5) (r.word 6)]
  | 0x11 => entriesOf routeEntry (leWords r.buf)
  | 0x12 => entriesOf mapEntry (leWords r.buf)
  | 0x13 => entriesOf gainEntry (leWords r.buf)
  | 0x14 => [r.layerEntry ((s.owner (oriCmp (bitField (r.word 5) 0 7))).getD 0)]
  | 0x15 => [r.compEntry]
  | 0x16 => [r.freshEntry]
  | 0x22 => [r.allocEntry]
  | 0x33 => [s.insertEntry r]
  | 0x40 => [{ change := some (.flowAdd (bitField (r.word 5) 0 18) (leWords r.buf)) }]
  | 0x41 => [{ change := some (.flowDel (bitField (r.word 5) 0 18) []) }]
  | 0x51 => [r.probeEntry]
  | _ => []

/-- A committed change of a snapshot is applied at once, with what it needs from the pool. -/
def State.applyNow (s : State) (c : Change) : State :=
  let c := s.priced s.cfg c
  match s.reserve c with
  | none => s.toHeld 4
  | some s =>
    let before := (s.cfg.cmp (c.obj - 1024)).enabled
    let s := match c with
      | .audioMap o .. => s.changeChan o 1 (fun x => x.change c)
      | .audioGain o .. => s.changeChan o 1 (fun x => x.change c)
      | _ => s
    (s.applyChange s.now c).noteEnabled c.obj before

/-- A change of a snapshot with the hold buffers that its object then needs (R207). -/
def State.applySnap (s : State) (c : Change) : State :=
  let s := s.applyNow c
  if c.obj < 2048 then s.each (s.holdSteps 0 s.cfg [c.obj]) State.applyNow else s

/-- A graphic of a snapshot. -/
def State.snapGraphic (s : State) (r : Request) : State :=
  let h := bitField (r.word 5) 0 12
  let w := bitField (r.word 6) 0 16
  let ht := bitField (r.word 6) 16 16
  (s.placeGraphic r.part h (some { w := w, h := ht, data := leWords r.buf })).getD (s.toHeld 4)

/-- A COMMIT or BANK_FLIP of a snapshot schedules its take at the milepost in force. -/
def State.snapSchedule (s : State) (r : Request) : State :=
  let t := r.word64At 6
  if r.opcode = 0x20 then
    match s.findGroup r.part r.group with
    | some k => (s.updTake k (fun _ => s.schedule k t)).takeSeq
    | none => s
  else
    let b := s.bank r.part
    let k : Take := { kind := .flip, part := r.part, todo := b.steps, marks := b.marks, count := s.fld TK_BANK_CHANGES r.part }
    (s.setTakes (s.take.takes ++ [s.schedule k t])).takeSeq

/-- The next commit sequence number is the one that a message carries (R180). -/
def State.useSeq (s : State) (cseq : Nat) : State :=
  if cseq = 0 then s
  else { s with take := { s.take with nextSeq := s.take.nextSeq / 2 ^ 32 * 2 ^ 32 + cseq } }

/-- A descriptor of a snapshot. -/
def State.snapCmd (s : State) (r : Request) (cseq : Nat) : State :=
  if r.opcode = 0x20 ∨ r.opcode = 0x21 then s.snapSchedule r
  else if r.opcode = 0x30 then s.snapGraphic r
  else if r.opcode = 0x50 then (s.opProbeLoad r).1
  else if r.group = 0 ∧ r.bank = false ∧ cseq = 0 then s.each ((s.entriesFor r).filterMap (·.change)) State.applySnap
  else (s.opOf r).1

/-- A descriptor that ended early at the active device does to its group what it did there (R72, R98). -/
def State.followEarly (s : State) (r : Request) (status : Nat) : State :=
  if status = St.HOST_FAULT then s.failGroup r else s.abandonGroup r

/-- A mirrored descriptor whose buffer is complete is processed. -/
def State.runMirror (s : State) (m : MirrorIn) : State :=
  let c := m.cmd
  let r : Request :=
    { part := c.part, ring := 0, index := 0, words := Vector.ofFn (fun i => BitVec.ofNat 32 (c.desc.getD i 0)), buf := c.data }
  if s.follows = false ∨ r.opcode = 0x70 then s
  else
    let s := s.useSeq c.cseq
    if m.snap then s.snapCmd r c.cseq
    else if endedEarly c.status then s.followEarly r c.status
    else
      let (s, d) := s.opOf r
      if d.status = c.status then s else s.toHeld 4

def MirrorIn.complete (m : MirrorIn) : Bool := decide (m.len ≤ m.cmd.data.length)

/-- Descriptors that are complete are processed, in order. -/
def State.pumpMirror (s : State) : State :=
  let p := s.cway
  let ready := p.cmdsIn.takeWhile MirrorIn.complete
  (s.setCway { p with cmdsIn := p.cmdsIn.drop ready.length }).each ready State.runMirror

/-- Payload words as the 32-bit words of a descriptor. -/
def splitWords (ws : List Nat) : List Nat := ws.flatMap (fun w => [w % 2 ^ 32, w / 2 ^ 32 % 2 ^ 32])

/-- MIRROR_CMD. -/
def State.recvCmd (s : State) (ws : List Nat) : State :=
  let w0 := ws.getD 0 0
  let desc := splitWords ((ws.drop 2).take 8)
  let op := bitField (desc.getD 0 0) 0 8
  let c : MirrorCmd :=
    { id := w0 % 2 ^ 32, part := bitField w0 32 3, status := bitField w0 40 8, cseq := ws.getD 1 0 % 2 ^ 32
      desc := desc, data := [] }
  let p := s.cway
  (s.setCway { p with
    cmdsIn := p.cmdsIn ++ [{ cmd := c, len := if readsBuffer op && (p.snapIn || !endedEarly c.status) then desc.getD 4 0 else 0, snap := p.snapIn }] }).pumpMirror

/-- The bytes of a MIRROR_DATA message go on where the descriptor's buffer ends. -/
def MirrorIn.fill (m : MirrorIn) (id at' : Nat) (bs : List Byte) : MirrorIn :=
  if m.cmd.id = id ∧ m.cmd.data.length = at' then
    { m with cmd := { m.cmd with data := (m.cmd.data ++ bs).take m.len } }
  else m

/-- MIRROR_DATA. -/
def State.recvData (s : State) (ws : List Nat) : State :=
  let w0 := ws.getD 0 0
  let bs := (ws.drop 1).flatMap (leBytes 8)
  let p := s.cway
  (s.setCway { p with cmdsIn := p.cmdsIn.map (fun m => m.fill (w0 % 2 ^ 32) (w0 / 2 ^ 32) bs) }).pumpMirror

/-- MIRROR_REG: the write is held for its instant; one whose instant has come applies at once (R439). The partition is
that of the register's owner. -/
def State.recvReg (s : State) (ws : List Nat) : State :=
  let w0 := ws.getD 0 0
  let off := bitField w0 0 26
  let part := match blockAt off with
    | some (b, i) => ((blockOri b i).bind s.owner).getD 0
    | none => 0
  let h : HeldWrite := { at' := ws.getD 1 0, part := part, off := off, value := w0 / 2 ^ 32 }
  let p := s.cway
  let s := s.setCway { p with held := p.held ++ [h] }
  if h.at' ≤ s.now then s.applyHeld else s

/-- MIRROR_OWN (R439). -/
def State.recvOwn (s : State) (ws : List Nat) : State :=
  let w := ws.getD 0 0
  let ori := bitField w 0 12
  let owner := bitField w 12 4
  if ori < 3072 then (s.passTo ori (if owner = 0 then none else some (owner - 1))).setFld OWN_SHARED (bitField w 16 1) ori else s

/-! ### Takes of the active device (R440, R454) -/

/-- Two takes or handovers under one first payload word. -/
def sameWord (a b : Nat) : Bool := a % 2 ^ 64 == b % 2 ^ 64

def State.takeByWord (s : State) (w : Nat) : Option Take :=
  s.take.takes.find? (fun k => k.kind != .immediate && sameWord k.word w)

/-- The word names a handover. -/
def isHandover (w : Nat) : Bool := bitField w 8 2 == 3

/-- GROUP_END: a take that the device does not hold with every member cannot be followed; a handover is acknowledged.
DEDUCED, log 66. -/
def State.recvGroupEnd (s : State) (ws : List Nat) : State :=
  let w := ws.getD 0 0
  let t := ws.getD 1 0
  if isHandover w then
    let h : Handover := { seq := w / 2 ^ 32, part := bitField w 0 3, t := t }
    (s.setHandovers (· ++ [h])).send Msg.GROUP_ACK [w, 1]
  else
    match s.takeByWord w with
    | some k =>
      let n := ws.getD 2 0 % 2 ^ 32
      let s := s.updTake k (fun k => { k with endGot := true, endCount := n, t := t })
      if k.count = n then s else s.toHeld 4
    | none => s.toHeld 4

/-- GROUP_ACK with COPIED: the take, or the handover, is acknowledged. -/
def State.recvGroupAck (s : State) (ws : List Nat) : State :=
  let w := ws.getD 0 0
  if bitAt (ws.getD 1 0) 0 = false then s
  else if isHandover w then
    s.setHandovers (fun l => l.map (fun h => if sameWord h.word w then { h with acked := true } else h))
  else
    match s.takeByWord w with
    | some k => s.updTake k (fun k => { k with acked := true })
    | none => s

/-- The device defers a take as it is told; the message gives no cause, so that byte of DATA is a free value. -/
def State.followDefer (s : State) (k : Take) (t : Nat) : State :=
  let s := s.updTake k (fun k => { k with t := t, deferrals := k.deferrals + 1 })
  if k.kind = .internal then s
  else
    (s.advance.addFld TK_DEFERRED 1 k.part).raise Ev.GROUP_DEFERRED
      { index := k.group, sub := k.deferrals + 1
        data := Config.eventData Ev.GROUP_DEFERRED s.free % 2 ^ 8 + 2 ^ 8 * (t % 2 ^ 56), dest := [k.part] }

/-- DECISION. A take that is to apply and that the device does not hold cannot be followed: DEDUCED, log 66. -/
def State.recvDecision (s : State) (ws : List Nat) : State :=
  let w := ws.getD 0 0
  let apply := bitAt (ws.getD 1 0) 0
  let t := ws.getD 2 0
  if isHandover w then
    s.setHandovers (fun l =>
      if apply then l.map (fun h => if sameWord h.word w then { h with decided := true, t := t } else h)
      else l.filter (fun h => !sameWord h.word w))
  else
    match s.takeByWord w with
    | some k =>
      if apply then s.updTake k (fun k => { k with state := .decided, t := t }) else s.followDefer k t
    | none => if apply then s.toHeld 4 else s

/-- Takes whose milepost comes without a decision are not applied (R440). -/
def State.dropUndecided (s : State) : State :=
  let late := s.take.takes.filter (fun k => (k.state == .scheduled || k.state == .sealed) && decide (k.t ≤ s.now))
  if s.follows = false ∨ late.isEmpty = true then s else (s.each late State.discardTake).toHeld 4

/-! ### Snapshots (R435, R446) -/

/-- SNAP_BEGIN: what the device had staged and scheduled is gone, and the live mirror's numbers begin. -/
def State.snapStart (s : State) (ws : List Nat) : State :=
  let s := s.each s.take.takes State.discardTake
  let s := s.upTo 8 State.discardBank
  let p := s.cway
  let s := s.setCway { p with snapIn := true, snapDone := false, cmdsIn := [], held := [], handovers := [], agrees := [] }
  s.useSeq (ws.getD 0 0 % 2 ^ 32)

/-- SNAP_END: the snapshot has been applied. -/
def State.snapEnd (s : State) (ws : List Nat) : State :=
  if s.cway.snapIn then
    let p := s.cway
    ((s.useSeq (ws.getD 0 0 % 2 ^ 32)).setCway { p with snapIn := false, snapDone := true }).joinDone
  else s

/-! ### SEQ_ALIGN (R447) -/

/-- A sequence number moved by `d`, within 32 bits. -/
def shiftSeq (d seq : Nat) : Nat := (seq + d) % 2 ^ 32

def SlotRef.shift (n d : Nat) (x : SlotRef) : SlotRef := if x.src = n then { x with seq := shiftSeq d x.seq } else x

def Shown.shift (n d : Nat) (x : Shown) : Shown :=
  { x with slot := x.slot.map (SlotRef.shift n d), tearSlot := x.tearSlot.map (SlotRef.shift n d), prev := x.prev.map (SlotRef.shift n d) }

def ReaderRun.shift (n d : Nat) (r : ReaderRun) : ReaderRun :=
  { r with
    cur := r.cur.shift n d, nxt := r.nxt.map (Shown.shift n d), g := r.g.map (SlotRef.shift n d)
    lastSeq := if r.src = n then shiftSeq d r.lastSeq else r.lastSeq }

/-- Every slot of source n, and every reference to one, moves by `d`. -/
def State.shiftSource (s : State) (n d : Nat) : State :=
  let x := s.src n
  let ring := fun (r : Ring) => { r with slots := r.slots.map (fun e => (e.1, { e.2 with seq := shiftSeq d e.2.seq })) }
  let s := s.setSrc n { x with rings := x.rings.map ring, seq := shiftSeq d x.seq }
  let st := s.store
  { s with store := { st with
    readers := st.readers.map (fun e => (e.1, e.2.shift n d))
    dsts := st.dsts.map (fun (e : Nat × DstRun) => (e.1, { e.2 with prevShown := e.2.prevShown.map (SlotRef.shift n d) }))
    cmps := st.cmps.map (fun (e : Nat × CmpRun) => (e.1, { e.2 with late := e.2.late.map (SlotRef.shift n d) })) } }

/-- The frame whose T_START lies within a quarter period of the one given carries the SEQ given; without such a frame the
count goes on by whole periods from the newest one. -/
def State.alignSeq (s : State) (a b : Nat) : State :=
  let n := bitField a 0 11
  let seq := a / 2 ^ 32
  let p := s.srcPeriod n
  let near := fun (x : Found) => decide (4 * ((x.slot.tStart : Int) - b).natAbs ≤ p)
  match (s.slotsOf n).find? near with
  | some x => s.shiftSource n ((seq + 2 ^ 32 - x.slot.seq) % 2 ^ 32)
  | none =>
    match newestOf (s.src n).seq (s.slotsOf n) with
    | some x =>
      let frames := if p = 0 then 0 else (2 * ((x.slot.tStart : Int) - b) + p) / (2 * p)
      s.shiftSource n (((seq : Int) + frames - x.slot.seq) % 2 ^ 32).toNat
    | none => s.setSrc n { s.src n with seq := seq }

/-! ### TIME (R118, R446) -/

/-- The step of the active device is taken over when the device's own pending step lies within TM_JUMP_NS of it. -/
def State.followStep (s : State) (d : Int) : State :=
  if s.follows ∧ d ≠ 0 ∧ s.fldOn TM_STEP_PENDING ∧ (s.pendingStep - d).natAbs ≤ s.fld TM_JUMP_NS then
    (s.setPending d).applyPending
  else s

/-- TIME: PEER_OFS from the four instants, the peer's selection, and its step. -/
def State.recvTime (s : State) (ws : List Nat) : State :=
  let w := fun (i : Nat) => ws.getD i 0
  let rx := s.now
  let p := s.cway
  let s := s.setCway { p with timeRx := rx, timePeer := w 0 }
  let ofs : Int := (((w 1 : Int) - w 2) - ((rx : Int) - w 0)) / 2
  let s := s.when (w 1 != 0) (fun s =>
    (s.setFld TM_PEER_OFS (unsignedOf 32 (satSigned 32 ofs))).setRefRun 10
      { s.refRun 10 with lead := ofs + s.time.stepSum, quality := bitField (w 3) 0 8 })
  let s := { s with time := { s.time with peerOnCauseway := bitAt (w 3) 15 } }
  s.followStep (signed 64 (w 4))

/-! ### The first HELLO and HEALTH of the peer (R433, R436, R451) -/

/-- HEALTH. -/
def State.recvHealth (s : State) (ws : List Nat) : State :=
  let l := splitWords (ws.take 8)
  let w := fun (i : Nat) => l.getD i 0
  let s := s.upTo 16 (fun s i => s.setFld CWAY_PEER_HEALTH (w i) i)
  let fail' := (List.range 145).filter (fun i => bitAt (w (2 + i / 32)) (i % 32))
  let new := fail'.filter (fun i => !s.cway.peerFail.contains i)
  let p := s.cway
  let s := (s.setCway { p with peerFail := fail' }).setFld CWAY_PEER_READY (bitField (w 0) 3 1)
  (s.each new State.bothFail).peerIs (bitField (w 0) 0 3)

/-- The own strap wins over that of a HELLO, or the lower serial number where they are equal (R436, R437). -/
def State.beats (s : State) (strap serial : Nat) : Bool :=
  if s.fld CWAY_ROLE_STRAP = strap then decide (s.pair CWAY_DEV_SERIAL_LO CWAY_DEV_SERIAL_HI < serial) else s.fldOn CWAY_ROLE_STRAP

/-- A HELLO in INIT (R435, R436). -/
def State.negotiate (s : State) (strap state serial : Nat) : State :=
  let s := s.when (s.fld CWAY_ROLE_STRAP == strap) (fun s => s.raise Ev.ROLE_STRAP_CONFLICT { data := serial })
  if state = Role.SOLO ∨ state = Role.ACTIVE then s.join
  else if state = Role.INIT then
    if s.beats strap serial then s.winToken
    else
      let p := s.cway
      s.setCway { p with initHello := true }
  else s

/-- HELLO. -/
def State.recvHello (s : State) (ws : List Nat) : State :=
  let serial := ws.getD 0 0
  let w := ws.getD 1 0
  let strap := bitField w 0 1
  let state := bitField w 1 3
  let p := s.cway
  let s := s.setCway { p with helloAt := s.time.grid + 1, lostRaised := false }
  let s := ((s.setFld CWAY_PEER_SEEN 1).setFld CWAY_PEER_STRAP strap).setPair CWAY_PEER_SERIAL_LO CWAY_PEER_SERIAL_HI serial
  let s := s.when (state != Role.SAFE && !s.fldOn CWAY_PF_DRIVE) (fun s => s.setFld CWAY_PF_LINE 0)
  let s := s.peerIs state
  if s.role = Role.INIT then s.negotiate strap state serial else s

/-- ROLE: the peer's role, and its request to rejoin (R444). -/
def State.recvRole (s : State) (ws : List Nat) : State :=
  let w := ws.getD 0 0
  let s := s.peerIs (bitField w 0 3)
  if bitAt w 8 then s.toHeld 6 else s

end Sys2Proof.Machine
end

