-- ==== Sys2Proof/Machine/Pair.lean ====
section
/-! DEFINITION. The commands of a pair: pins, intervals, messages, known-answer tests and the handover
(R430 .. R456). -/

namespace Sys2Proof.Machine
open Reg

/-! ### Takeover (R452, R453) -/

/-- Every member of a take and its GROUP_END are here (R453). -/
def Take.whole (k : Take) : Bool := k.endGot && decide (k.count = k.endCount)

/-- A take that the new active device keeps: one whose decision instant has passed without a decision applies from now. -/
def State.keepTake (s : State) (k : Take) : Take :=
  if k.kind != .immediate && k.state != .decided && decide (k.t ≤ s.now + 1000000) then { k with state := .decided, t := s.now }
  else k

/-- A take that is lost at a takeover. -/
def State.loseTake (s : State) (k : Take) : State :=
  let s := s.discardTake k
  if k.kind = .internal then s
  else s.raise Ev.GROUP_REFUSED { index := k.group, sub := k.deferrals, data := 4, dest := [k.part] }

/-- The device takes over from a peer whose TOKEN_OUT is deasserted. -/
def State.takeover (s : State) (stale unverified : Bool) : State :=
  let s := (s.enterRole Role.SOLO 0).addFld CWAY_TAKEOVERS 1
  let lost := s.take.takes.filter (fun k => !(k.kind == .immediate || k.whole))
  let s := s.each lost State.loseTake
  let s := s.setTakes (s.take.takes.map s.keepTake)
  let s := (s.upTo 8 State.renewLease).setHandovers (fun _ => [])
  s.raise Ev.TAKEOVER { data := bit stale + 2 * bit unverified + 2 ^ 16 * (lost.length % 2 ^ 16) }

/-! ### Pins (R431 .. R437) -/

/-- Two devices hold the token (R437): the one that loses it negotiates anew, and joins the other. -/
def State.splitBrain (s : State) : State :=
  let serial := s.pair CWAY_PEER_SERIAL_LO CWAY_PEER_SERIAL_HI
  let keeps := if serial = 0 then s.fldOn CWAY_ROLE_STRAP else s.beats (s.fld CWAY_PEER_STRAP) serial
  let s := s.raise Ev.PAIR_SPLIT { data := bit keeps }
  if keeps then s else (s.enterRole Role.INIT 0).join

/-- TOKEN_IN_ASSERTED. -/
def execTokenInAsserted (s : State) : Host.Outcome State Fault Refusal :=
  if s.fldOn CWAY_TOKEN_IN_A then .next s
  else
    let s := s.setFld CWAY_TOKEN_IN_A 1
    if s.pairOn = false then .next s
    else if s.role = Role.INIT then .next s.join
    else if s.isActive ∧ s.exchanging = false then .next s.splitBrain
    else .next s

/-- TOKEN_IN_DEASSERTED. -/
def execTokenInDeasserted (s : State) : Host.Outcome State Fault Refusal :=
  if ¬s.fldOn CWAY_TOKEN_IN_A then .next s
  else
    let s := s.setFld CWAY_TOKEN_IN_A 0
    if s.pairOn = false then .next s
    else if s.role = Role.JOINING then
      .next (if s.cway.snapDone then s.takeover false true else s.enterRole Role.INIT 0)
    else if s.role = Role.STANDBY then .next (s.takeover false false)
    else if s.role = Role.HELD then .next (s.takeover true false)
    else .next s

/-- PAIR_FAULT_N_LOW: the line goes low. -/
def execPairFaultNLow (s : State) : Host.Outcome State Fault Refusal :=
  let was := s.fldOn CWAY_PF_LINE
  let s := s.setFld CWAY_PF_LINE 1
  .next (if was ∨ s.fldOn CWAY_PF_DRIVE ∨ ¬s.fldOn CWAY_PAIR_EN then s else s.raise Ev.PEER_LOST { data := 4 })

/-- The wait of R436, in ns. -/
def State.negWait (s : State) : Nat :=
  s.fld CWAY_NEG_MS * (if s.fldOn CWAY_ROLE_STRAP then 1 else 4) * 1000000 +
    s.fld CWAY_DEV_SERIAL_LO % 256 * 100000

/-- NEGOTIATION_WAIT. -/
def execNegotiationWait (s : State) : Host.Outcome State Fault Refusal :=
  if s.pairOn = true ∧ s.role = Role.INIT ∧ s.cway.initHello = false ∧ s.cway.roleFrom + s.negWait ≤ s.time.grid then
    .next s.winToken
  else .next s

/-! ### Intervals (R435, R436, R445) -/

/-- HELLO_INTERVAL: HELLO every 1 ms, in the safe state too. -/
def execHelloInterval (s : State) : Host.Outcome State Fault Refusal :=
  let p := s.cway
  if s.fldOn CWAY_PAIR_EN ∧ p.helloSent + 1000000 ≤ s.time.grid then
    let w := s.fld CWAY_ROLE_STRAP + 2 * s.role + 2 ^ 8 * s.fld GLB_SI_REV + 2 ^ 16 + 2 ^ 32 * s.fld BOOT_IMG_VER
    .next ((s.setCway { p with helloSent := s.time.grid }).send Msg.HELLO [s.pair CWAY_DEV_SERIAL_LO CWAY_DEV_SERIAL_HI, w]).initSettle
  else .next s

/-- The words of a TIME message (R446). -/
def State.timeWords (s : State) : List Nat :=
  let p := s.cway
  [s.now, p.timeRx, p.timePeer,
    (if s.selRef = 0 then 0 else s.fld REF_QUAL_EFF s.selRef) + 2 ^ 8 * s.selRef + 2 ^ 12 * s.fld TM_STATE +
      2 ^ 14 * s.fld TM_STEP_PENDING + 2 ^ 15 * bit (s.selRef == 10), unsignedOf 64 p.step, if p.step = 0 then 0 else p.stepAt]

/-- TIME_INTERVAL: TIME every 1 ms, with the steps applied since the last. -/
def execTimeInterval (s : State) : Host.Outcome State Fault Refusal :=
  if s.pairOn = true ∧ s.cway.timeSent + 1000000 ≤ s.time.grid then
    let s := s.send Msg.TIME s.timeWords
    let p := s.cway
    .next (s.setCway { p with timeSent := s.time.grid, step := 0, stepAt := 0 })
  else .next s

/-- HEALTH_INTERVAL: HEALTH every 100 ms, in the safe state too. -/
def execHealthInterval (s : State) : Host.Outcome State Fault Refusal :=
  if s.fldOn CWAY_PAIR_EN ∧ s.cway.healthSent + 100000000 ≤ s.time.grid then .next s.refreshReady.sendHealth else .next s

/-- PEER_LOST: no HELLO for 10 ms, or the Causeway is down. -/
def execPeerLost (s : State) : Host.Outcome State Fault Refusal := .next s.peerSettle

/-- JOIN_TIMEOUT: JOIN_S has passed. -/
def execJoinTimeout (s : State) : Host.Outcome State Fault Refusal :=
  if s.pairOn = true ∧ s.role = Role.JOINING ∧ s.expired s.cway.roleFrom (s.fld CWAY_JOIN_S * 10 ^ 9) 1000000 = true then
    .next (s.enterRole Role.HELD 5)
  else .next s

/-- HELD_RETRY. -/
def execHeldRetry (s : State) : Host.Outcome State Fault Refusal :=
  let s := s.refreshReady
  if s.pairOn = true ∧ s.role = Role.HELD ∧ s.fldOn CWAY_LINK_UP ∧ s.fldOn CWAY_READY ∧
      (s.fld CWAY_HELD_CAUSE ≤ 2 ∨ s.cway.roleFrom + 10 ^ 10 ≤ s.time.grid) then .next s.join
  else .next s

/-! ### Messages (R443 .. R446) -/

def execHello (_flags : BitVec 8) (_mseq : BitVec 24) (words : List (BitVec 64)) (s : State) : Host.Outcome State Fault Refusal :=
  .next (s.hear (fun s => s.recvHello (payload words)))

def execRole (_flags : BitVec 8) (_mseq : BitVec 24) (words : List (BitVec 64)) (s : State) : Host.Outcome State Fault Refusal :=
  .next (s.receive (fun s => s.recvRole (payload words)))

/-- LINK_ACK: messages before NEXT are held no longer, and a NAK has the rest sent again. -/
def execLinkAck (_flags : BitVec 8) (_mseq : BitVec 24) (words : List (BitVec 64)) (s : State) : Host.Outcome State Fault Refusal :=
  let w := (payload words).getD 0 0
  .next (s.receive (fun s =>
    let s := s.acknowledge (w % 2 ^ 24)
    if bitAt w 24 then s.resend else s))

def execTime (_flags : BitVec 8) (_mseq : BitVec 24) (words : List (BitVec 64)) (s : State) : Host.Outcome State Fault Refusal :=
  .next (s.receive (fun s => s.recvTime (payload words)))

/-- The records of a message are taken by a device that follows. -/
def State.followRecords (s : State) (words : List (BitVec 64)) (f : State → Nat → Nat → State) : State :=
  s.receive (fun s => if s.follows then s.each (recordsOf (payload words)) (fun s x => f s x.1 x.2) else s)

def execSelect (_flags : BitVec 8) (_mseq : BitVec 24) (words : List (BitVec 64)) (s : State) : Host.Outcome State Fault Refusal :=
  .next (s.followRecords words State.followSelect)

def execTear (_flags : BitVec 8) (_mseq : BitVec 24) (words : List (BitVec 64)) (s : State) : Host.Outcome State Fault Refusal :=
  .next (s.followRecords words State.followTear)

def execAudioDec (_flags : BitVec 8) (_mseq : BitVec 24) (words : List (BitVec 64)) (s : State) : Host.Outcome State Fault Refusal :=
  .next (s.followRecords words State.followAudio)

/-- The digests of a message, on a device of a pair. -/
def State.recvDigests (s : State) (words : List (BitVec 64)) (f : Nat → Nat → Dig) : State :=
  s.receive (fun s =>
    if s.compares then s.each (recordsOf (payload words)) (fun s x => s.peerDigest (f x.1 x.2)) else s)

def execDigIn (_flags : BitVec 8) (_mseq : BitVec 24) (words : List (BitVec 64)) (s : State) : Host.Outcome State Fault Refusal :=
  .next (s.recvDigests words digIn)

def execDigOut (_flags : BitVec 8) (_mseq : BitVec 24) (words : List (BitVec 64)) (s : State) : Host.Outcome State Fault Refusal :=
  .next (s.recvDigests words (digOut 1))

def execDigAud (_flags : BitVec 8) (_mseq : BitVec 24) (words : List (BitVec 64)) (s : State) : Host.Outcome State Fault Refusal :=
  .next (s.recvDigests words (digOut 2))

def execDigestMissing (s : State) : Host.Outcome State Fault Refusal := .next (s.receive State.dropDigests)

def execHealth (_flags : BitVec 8) (_mseq : BitVec 24) (words : List (BitVec 64)) (s : State) : Host.Outcome State Fault Refusal :=
  .next (s.hear (fun s => s.recvHealth (payload words)))

/-- KAT_REQ: the islands named are tested. -/
def execKatReq (_flags : BitVec 8) (_mseq : BitVec 24) (words : List (BitVec 64)) (s : State) : Host.Outcome State Fault Refusal :=
  let ws := payload words
  .next (s.receive (fun s => s.askKat (s.katIslands.filter (fun i => bitAt (ws.getD (i / 64) 0) (i % 64)))))

/-- A message of class 3 on a device that follows. -/
def State.followMsg (s : State) (ty : Nat) (mseq : BitVec 24) (words : List (BitVec 64)) (f : State → List Nat → State) : State :=
  s.receive3 ty mseq.toNat (fun s => if s.follows then f s (payload words) else s)

def execMirrorCmd (_flags : BitVec 8) (mseq : BitVec 24) (words : List (BitVec 64)) (s : State) : Host.Outcome State Fault Refusal :=
  .next (s.followMsg Msg.MIRROR_CMD mseq words State.recvCmd)

def execMirrorData (_flags : BitVec 8) (mseq : BitVec 24) (words : List (BitVec 64)) (s : State) : Host.Outcome State Fault Refusal :=
  .next (s.followMsg Msg.MIRROR_DATA mseq words State.recvData)

def execMirrorReg (_flags : BitVec 8) (mseq : BitVec 24) (words : List (BitVec 64)) (s : State) : Host.Outcome State Fault Refusal :=
  .next (s.followMsg Msg.MIRROR_REG mseq words State.recvReg)

def execMirrorOwn (_flags : BitVec 8) (mseq : BitVec 24) (words : List (BitVec 64)) (s : State) : Host.Outcome State Fault Refusal :=
  .next (s.followMsg Msg.MIRROR_OWN mseq words State.recvOwn)

def execGroupEnd (_flags : BitVec 8) (mseq : BitVec 24) (words : List (BitVec 64)) (s : State) : Host.Outcome State Fault Refusal :=
  .next (s.followMsg Msg.GROUP_END mseq words State.recvGroupEnd)

/-- GROUP_ACK, on the active device. -/
def execGroupAck (_flags : BitVec 8) (mseq : BitVec 24) (words : List (BitVec 64)) (s : State) : Host.Outcome State Fault Refusal :=
  .next (s.receive3 Msg.GROUP_ACK mseq.toNat (fun s => if s.isActive then s.recvGroupAck (payload words) else s))

def execDecision (_flags : BitVec 8) (mseq : BitVec 24) (words : List (BitVec 64)) (s : State) : Host.Outcome State Fault Refusal :=
  .next (s.followMsg Msg.DECISION mseq words State.recvDecision)

def execDecisionMissing (s : State) : Host.Outcome State Fault Refusal := .next (s.receive State.dropUndecided)

/-- SNAP_BEGIN, on a device that joins. -/
def execSnapBegin (_flags : BitVec 8) (mseq : BitVec 24) (words : List (BitVec 64)) (s : State) : Host.Outcome State Fault Refusal :=
  .next (s.receive3 Msg.SNAP_BEGIN mseq.toNat (fun s => if s.role = Role.JOINING then s.snapStart (payload words) else s))

def execSnapEnd (_flags : BitVec 8) (mseq : BitVec 24) (words : List (BitVec 64)) (s : State) : Host.Outcome State Fault Refusal :=
  .next (s.followMsg Msg.SNAP_END mseq words State.snapEnd)

def execSeqAlign (_flags : BitVec 8) (mseq : BitVec 24) (words : List (BitVec 64)) (s : State) : Host.Outcome State Fault Refusal :=
  .next (s.followMsg Msg.SEQ_ALIGN mseq words (fun s ws => s.each (recordsOf ws) (fun s x => s.alignSeq x.1 x.2)))

/-- RETRANSMIT_TIMEOUT: 200 us without an acknowledgement that moves forward. -/
def execRetransmitTimeout (s : State) : Host.Outcome State Fault Refusal :=
  let p := s.cway
  if s.pairOn = true ∧ s.fldOn CWAY_LINK_UP ∧ p.unacked ≠ [] ∧ p.ackMoved + 200000 ≤ s.time.grid then
    .next (s.setCway { p with ackMoved := s.time.grid }).resend
  else .next s

/-- LINK_ACK_INTERVAL: while class 3 traffic arrives, every 20 us. -/
def execLinkAckInterval (s : State) : Host.Outcome State Fault Refusal :=
  let p := s.cway
  if s.pairOn = true ∧ p.ackDue = true ∧ p.ackSent + 20000 ≤ s.time.grid then
    .next ((s.setCway { p with ackDue := false, ackSent := s.time.grid }).send Msg.LINK_ACK [p.rxNext])
  else .next s

/-- MESSAGE_TIMEOUT: a message whose blocks stop is discarded before it is a message: nothing of it is held. -/
def execMessageTimeout (s : State) : Host.Outcome State Fault Refusal := .next s

/-- MSG_CRC_ERR: blocks that `readMessage` does not read as a message are discarded and counted (R443). -/
def execMsgCrcErr (s : State) : Host.Outcome State Fault Refusal :=
  .next (s.receive (fun s => s.addFld CWAY_MSG_CRC_ERR 1))

/-! ### Known-answer tests (R449, R450) -/

/-- KAT_PERIOD: a pass starts once in each KAT_PERIOD_S. -/
def execKatPeriod (s : State) : Host.Outcome State Fault Refusal :=
  let p := s.cway
  if s.inService ∧ s.safe = false ∧ s.fldOn CWAY_KAT_PERIOD_S ∧ p.katLeft = [] ∧
      p.katFrom + s.fld CWAY_KAT_PERIOD_S * 10 ^ 9 ≤ s.time.grid then .next s.startKatPass
  else .next s

def execKatComplete (island : Fin 145) (pass : Bool) (s : State) : Host.Outcome State Fault Refusal :=
  .next (s.katDone island pass)

/-! ### Handover (R454) -/

/-- HANDOVER. -/
def State.opHandover (s : State) (r : Request) : State × Done :=
  match s.entryChecks r [] false with
  | some d => (s, d)
  | none =>
    if r.part ≠ 0 then (s, fail St.NOT_SUPERVISOR 0)
    else if s.role = Role.SOLO then (s, fail St.NOT_PAIRED 0)
    else if s.fldOn CWAY_PEER_READY = false ∨ s.fld CWAY_PEER_STATE ≠ Role.STANDBY then (s, fail St.PEER_NOT_READY 0)
    else if s.milepostLate (r.word64At 6) then (s, fail St.LATE 0)
    else
      let t := s.milepostOf (r.word64At 6)
      let (s, seq) := s.startHandover r.part t
      (s, { done t 0 with cseq := seq, t := t })

def execHandover (e : Fin 16) (s : State) : Host.Outcome State Fault Refusal := .next (s.process e 0x70 State.opHandover)

/-- A handover has been carried out. -/
def State.handedOver (s : State) (h : Handover) (r : Nat) : State :=
  let s := (s.setHandovers (fun l => l.filter (fun x => x ≠ h))).enterRole r 0
  (s.addFld CWAY_HANDOVERS 1).raise Ev.HANDOVER_DONE { data := h.t }

/-- The device that a handover makes active sends the packets that are due at or after T (R454). -/
def State.sendsFrom (s : State) (t : Nat) : State := s.setCway { s.cway with sendFrom := t }

/-- HANDOVER_APPLY: the standby has the token from T on. -/
def execHandoverApply (s : State) : Host.Outcome State Fault Refusal :=
  match s.cway.handovers.find? (fun h => h.decided && decide (h.t ≤ s.now)) with
  | some h => .next (if s.pairOn = true ∧ s.role = Role.STANDBY then (s.handedOver h Role.SOLO).sendsFrom h.t else s)
  | none => .next s

/-- The takes that a device held while it was active are whole (R453). -/
def State.ownTakesWhole (s : State) : State :=
  s.setTakes (s.take.takes.map (fun k => { k with endGot := k.endGot || k.state != .opened, endCount := k.count }))

/-- HANDOVER_RELEASE: the old active device gives up the token at T + 2 us. -/
def execHandoverRelease (s : State) : Host.Outcome State Fault Refusal :=
  match s.cway.handovers.find? (fun h => h.decided && decide (h.t + 2000 ≤ s.now)) with
  | some h => .next (if s.pairOn = true ∧ s.isActive = true then (s.handedOver h Role.STANDBY).ownTakesWhole else s)
  | none => .next s

end Sys2Proof.Machine
end

