-- ==== Sys2Proof/Machine/Service.lean ====
section
/-! DEFINITION. The last stages of a boot and the settings store: the start-up list, SERVICE, what the booted image asks of
the fuses, migration and saves (R509, R514, R521 .. R525). -/

namespace Sys2Proof.Machine
open Reg

/-! ### Stage 5 (R523) -/

/-- A quarter-page that the settings name is retired, without an event. -/
def State.markRetired (s : State) (x : Nat × Nat) : State :=
  let (i, qp) := x
  if 4 ≤ i ∨ s.store.retiredQp.contains (i, qp) = true then s
  else
    let s := { s with store := { s.store with retiredQp := (i, qp) :: s.store.retiredQp } }
    let s := (s.addFld MC_RETIRED 1 i).setFld MC_QP_TOTAL (s.fld MC_QP_TOTAL i - 1) i
    s.setFld MC_QP_FREE (s.fld MC_QP_FREE i - 1) i

/-- A word was not ignored: each RW and RWL field holds what its part is stored as. -/
def State.tookWord (s : State) (fs : RegFields) (v : Nat) : Bool :=
  fs.all (fun (f, i, j) => !(f.ty == .rw || f.ty == .rwl) || s.fld f i j == f.norm i (bitField v f.lo f.w) % 2 ^ f.w)

/-- The fields of the register at an offset that a write can concern. -/
def writable (off : Nat) : RegFields :=
  match blockAt off with
  | some (b, _) => if off % 4 = 0 then (b.at? off).filter (fun x => x.1.ty != .ro) else []
  | none => []

/-- One entry of the start-up list, as a write by P0: skipped when it names no writable field or is ignored. -/
def State.applyEntry (s : State) (x : Nat × Nat) : State :=
  let fs := writable x.1
  if fs.isEmpty then s.addFld BOOT_SET_SKIPPED 1
  else
    let s := s.regWrite 0 x.1 (x.2 % 2 ^ 32)
    if s.tookWord fs x.2 then s else s.addFld BOOT_SET_SKIPPED 1

/-- A settings copy is applied. -/
def State.useSettings (s : State) (c : Nat) (x : SettingsCopy) : State :=
  let s := s.each x.retired State.markRetired
  let s := ((s.setFld TM_HO_FREQ x.hoFreq).setFld TM_HO_AGE x.hoAge).setFld BOOT_SET_VER x.fmtVer
  let list := Tab.setRange (0, 0) [] 0 x.list
  let s := ({ s with boot := { s.boot with copyUsed := c + 1, list := list } }).setFld BOOT_SET_LEN x.list.length
  let s := s.setFld BOOT_MIGRATING (bit (decide (x.fmtVer < s.boot.image.setVer)))
  s.each x.list State.applyEntry

/-- SETTINGS_APPLIED: stage 5, and the first KAT pass starts. -/
def execSettingsApplied (s : State) : Host.Outcome State Fault Refusal :=
  if s.fld BOOT_STAGE = 4 then
    let plain := s.fld BOOT_MODE = 1
    let s := match (if plain then none else s.settingsUsed.bind (fun c => (s.settingsCopy c).map (fun x => (c, x)))) with
      | some (c, x) => s.useSettings c x
      | none => s.setFld BOOT_SET_DEFAULTS 1
    let b := s.boot
    let s := { s with boot := { b with savedRetired := s.store.retiredQp.length, lastSave := s.time.grid } }
    .next (s.setFld BOOT_STAGE 5).startKatPass
  else .next s

/-! ### SERVICE (R509, R514, R521) -/

/-- The bank that failed is reported, and boot control prefers the one that was booted. A WARM reset checks no bank. -/
def State.reportFallback (s : State) : State :=
  if s.fldOn BOOT_FALLBACK ∧ s.fld BOOT_LAST_RESET ≠ 3 then
    let bad := 1 - s.fld BOOT_BANK
    let cause := s.fld (if bad = 0 then BOOT_CAUSE_A else BOOT_CAUSE_B)
    (s.writeBootControl (s.fld BOOT_BANK)).raise Ev.BOOT_FALLBACK { data := bad + 2 ^ 4 * cause }
  else s

/-- SVN_COMMIT: SVN fuses are blown up to the image's SVN. -/
def State.commitSvn (s : State) : State :=
  let h := s.boot.image
  if h.svnCommit then
    let s := { s with boot := { s.boot with blownSvn := max s.boot.blownSvn (min 64 h.svn) } }
    s.setFld BOOT_SVN_FUSE (max (s.fld BOOT_SVN_FUSE) (min 64 h.svn))
  else s

/-- REVOKE: the named keys are revoked, unless that could leave the device without an image to boot. -/
def State.revokeKeys (s : State) (readOk : Bool) : State :=
  let h := s.boot.image
  let ob := 1 - s.fld BOOT_BANK
  let old := s.fld BOOT_KEY_REVOKED
  if h.revoke = 0 then s
  else if bitAt h.revoke h.slot = false ∧ old ||| h.revoke ≠ 7 ∧ s.bankCause ob readOk = 0 ∧
      bitAt h.revoke (s.imageHdr ob).slot = false then
    ({ s with boot := { s.boot with blownKeys := s.boot.blownKeys ||| h.revoke } }).setFld BOOT_KEY_REVOKED (old ||| h.revoke)
  else s.setFld BOOT_REVOKE_HELD 1

/-- SERVICE_REACHED: stage 6, after the first KAT pass. `readOk`: no flash read error occurred in the check of the bank that
was not booted. -/
def execServiceReached (readOk : Bool) (s : State) : Host.Outcome State Fault Refusal :=
  if s.fld BOOT_STAGE = 5 ∧ s.cway.katPasses ≠ 0 then
    let s := (s.setFld BOOT_STAGE 6).setFld BOOT_SERVICE 1
    let s := s.reportFallback
    let s := s.when s.boot.booted (fun s => s.commitSvn.revokeKeys readOk)
    .next (if s.role = Role.INIT ∧ ¬s.fldOn CWAY_PAIR_EN then s.enterRole Role.SOLO 0 else s)
  else .next s

/-! ### Migration and saves (R524, R525) -/

/-- SETTINGS_MIGRATED: the other copy, in the format of the image, has been written; `ok`: it reads back with a good CRC.
From the commit on SET_VER shows the new format (DEDUCED, log 17). -/
def execSettingsMigrated (ok : Bool) (s : State) : Host.Outcome State Fault Refusal :=
  if s.fldOn BOOT_MIGRATING ∧ s.inService ∧ ok then
    let c := s.boot.copyUsed - 1
    match s.settingsCopy c with
    | some x =>
      let y := { x with fmtVer := s.boot.image.setVer, seq := (x.seq + 1) % 2 ^ 32 }
      let s := ((s.putSettings (1 - c) y).setFld BOOT_MIGRATING 0).setFld BOOT_SET_VER y.fmtVer
      .next (s.raise Ev.SETTINGS_MIGRATED { data := x.fmtVer + 2 ^ 16 * y.fmtVer })
    | none => .next s
  else .next s

/-- A save by the device itself is due: a page has been retired, or 24 h have passed with HO_MANUAL = 0. -/
def State.autosaveDue (s : State) : Bool :=
  s.fld BOOT_MODE != 1 && s.inService && !s.fldOn BOOT_FL_BUSY &&
    (decide (s.boot.savedRetired < s.store.retiredQp.length) ||
      (!s.fldOn TM_HO_MANUAL && decide (s.boot.lastSave + 86400 * 10 ^ 9 ≤ s.time.grid)))

/-- SETTINGS_AUTOSAVE. -/
def execSettingsAutosave (s : State) : Host.Outcome State Fault Refusal :=
  if s.autosaveDue then
    let s := s.putSettings s.settingsNext.1 s.settingsNow
    let b := s.boot
    .next { s with boot := { b with savedRetired := s.store.retiredQp.length, lastSave := s.time.grid } }
  else .next s

end Sys2Proof.Machine
end

