-- ==== Sys2Proof/Machine/Views.lean ====
section
/-! DEFINITION. Reads of BAR0 (R35 .. R38): the fields whose value the block works out from what it holds, and the word
that a register reads as. -/

namespace Sys2Proof.Machine
open Reg

/-- A field that is worked out when it is read, with its value in instance (i, j). -/
abbrev View := Field × (State → Nat → Nat → Nat)

/-! ### Hosts, rings and takes (R41, R53, R58, R97, R193) -/

/-- LEASE_LEFT: what is left of the lease in ms, rounded up; 0 without a lease or while LAPSED. -/
def State.leaseLeft (s : State) (p : Nat) : Nat :=
  if s.live p && s.hasLease p then
    saturate 16 (ceilDiv ((s.part p).leaseFrom + s.fld PCB_LEASE_MS p * 1000000 - s.time.grid) 1000000)
  else 0

/-- Descriptor in process at an engine, part or ring of it. DESIGN CHOICE, log 76: CUR_PART and CUR_RING read 0 while no
descriptor is in process. -/
def State.engineCur (s : State) (e : Nat) (f : Request → Nat) : Nat :=
  match (s.engine e).cur with
  | some r => f r
  | none => 0

def hostViews : List View :=
  [(PCB_LEASE_LEFT, fun s p _ => s.leaseLeft p),
   (PCB_OWNED_CNT, fun s p _ => (s.owned p).length),
   (RING_ACTIVE, fun s p k => bit ((s.ring p k).draining || !(s.ring p k).fetched.isEmpty)),
   (RING_PARKED, fun s p k => bit ((s.ring p k).place == .parked)),
   (RING_CQ_FULL, fun s p k => bit (s.cqFull p k)),
   (ERING_CQ_FULL, fun s p e => bit (s.evtFull p e)),
   (OWN_REFS, fun s o _ => s.refsTo o),
   (CMDENG_BUSY, fun s e _ => bit (s.engine e).cur.isSome),
   (CMDENG_DRAINED, fun s e _ => bit (s.frozen e && (s.engine e).cur.isNone)),
   (CMDENG_CUR_PART, fun s e _ => s.engineCur e (·.part)),
   (CMDENG_CUR_RING, fun s e _ => s.engineCur e (·.ring)),
   (CMDENG_LAYBY, fun s e _ => (s.engine e).layby.length),
   (CMDENG_LFSR_SEED, fun s e _ => (s.engine e).lfsr.toNat),
   (TK_FLIP_STATE, fun s p _ => s.flipState p),
   (TK_FLIP_T_LO, fun s p _ => s.flipT p),
   (TK_FLIP_T_HI, fun s p _ => s.flipT p / 2 ^ 32),
   (TK_GROUPS_OPEN, fun s p _ => ((s.groupsOf p).filter Take.isOpen).length),
   (TK_GROUPS_SCHED, fun s p _ => ((s.groupsOf p).filter (fun k => !k.isOpen)).length),
   (TK_NEXT_T_LO, fun s p _ => s.nextT p),
   (TK_NEXT_T_HI, fun s p _ => s.nextT p / 2 ^ 32)]

/-! ### Faults, time and power (R126, R471, R533) -/

def timeViews : List View :=
  [(FLT_HIGHEST, fun s _ _ => s.highestFault),
   (FLT_ACTIVE_CNT, fun s _ _ => s.activeFaults.length),
   (TM_NOW_LO, fun s _ _ => s.now),
   (TM_HO_ELAPSED_S, fun s _ _ => s.holdoverSeconds),
   (TM_PEER_OFS, fun s _ _ => if s.fldOn CWAY_PEER_SEEN then s.fld TM_PEER_OFS else 0),
   (REF_QUAL_TIME_S, fun s r _ =>
      if s.fld REF_RSTATE r = 2 then saturate 32 ((s.time.grid - (s.refRun r).validFrom) / 1000000000) else 0),
   (PLANE_USERS, fun s p _ => s.planeUsers p),
   (PLANE_FRAME_IDX, fun s p _ => s.frameIdx p),
   (CLKISL_SSC, fun s i _ => bit (s.sscOn i)),
   (PWR_DOM_OFF, fun s _ _ => ((List.range 184).filter (fun d => s.fld DOM_DSTATE d == 2)).length),
   (CWAY_PEER_STRAP, fun s _ _ => if s.fldOn CWAY_PEER_SEEN then s.fld CWAY_PEER_STRAP else 0),
   (CWAY_MIRROR_Q, fun s _ _ => (s.cway.unacked.map (fun m => m.2.bytes)).sum),
   (BOOT_SET_OFS, fun s _ _ => (Tab.get (0, 0) s.boot.list (s.fld BOOT_SET_IDX)).1),
   (BOOT_SET_VAL, fun s _ _ => (Tab.get (0, 0) s.boot.list (s.fld BOOT_SET_IDX)).2)]

/-! ### Frame store and freshness guard (R142, R167, R168, R213, R214) -/

/-- The record of slot i of a source's ring, as a word of 32 bits; a FREE slot and one beyond DEPTH read zero. -/
def State.slotRecord (s : State) (n i w : Nat) : Nat :=
  match (s.src n).ring? with
  | none => 0
  | some r =>
    let x := r.slot i
    if r.shape.depth ≤ i ∨ x.state = 0 then 0
    else
      match w with
      | 0 => x.tStart % 2 ^ 32
      | 1 => x.tStart / 2 ^ 32
      | 2 => x.hash % 2 ^ 32
      | 3 => x.hash / 2 ^ 32
      | 4 => x.seq
      | 5 => x.hb
      | 6 => if x.state < 2 then 0 else saturate 32 (x.tClose - x.tStart)
      | _ => x.state + 8 * bit (s.slotHeld { src := n, ring := r.id, seq := x.seq }) + 16 * x.flags +
          (if x.state < 2 then 0 else 4096 * x.ladder + 2 ^ 20 * x.verdict + 2 ^ 24 * (x.fmtGen % 256))

/-- A slot of the current ring that satisfies a condition, the one with the latest SEQ: its index. -/
def State.slotWhere (s : State) (n : Nat) (ok : Slot → Bool) : Option Nat :=
  match (s.src n).ring? with
  | none => none
  | some r =>
    (r.slots.filter (fun e => ok e.2)).foldl (fun best e =>
      match best with
      | none => some e.1
      | some b => if seqAge (s.src n).seq e.2.seq < seqAge (s.src n).seq (r.slot b).seq then some e.1 else best) none

def State.newestClosed (s : State) (n : Nat) : Option Nat := s.slotWhere n (fun x => decide (2 ≤ x.state))

def State.slotWriting (s : State) (n : Nat) : Option Nat := s.slotWhere n (fun x => x.state == 1)

/-- A field of the ring of a source; 0 without a ring. -/
def State.ringFld (s : State) (n : Nat) (f : RingShape → Nat) : Nat :=
  let r := s.cfg.ring n
  if r.depth = 0 then 0 else f r

/-- SRC_CFG and SRC_FMT of a compositor's output source follow the compositor (R167). -/
def srcFmtView (f : Field) (lo w : Nat) : View :=
  (f, fun s n _ => if n < 1024 then s.fld f n else bitField (s.srcFmt n) lo w)

def storeViews : List View :=
  [(MC_LOAD_HDU, fun s i _ => saturate 16 (s.stackLoad s.cfg i)),
   (MC_SCRUB_POS, fun s i _ => Config.scrubPos i s.time.grid % 49152),
   (SRC_KIND, fun s n _ => s.srcKind n),
   srcFmtView SRC_RASTER 0 4, srcFmtView SRC_RATE 4 4, srcFmtView SRC_SCAN 8 1, srcFmtView SRC_SAMPLING 9 1,
   srcFmtView SRC_BITS 10 2, srcFmtView SRC_RGB 12 1, srcFmtView SRC_COLOR 13 3,
   (SRC_STATE, fun s n _ => s.srcState n),
   (SRC_DET, fun s n _ => s.detected n),
   (SRC_DEPTH, fun s n _ => (s.cfg.ring n).depth),
   (SRC_LADDER, fun s n _ => s.ringFld n (·.ladder)),
   (SRC_STORE_FMT, fun s n _ => s.ringFld n (·.store)),
   (SRC_PAGES, fun s n _ => (s.src n).pageCount),
   (SRC_SLOT_PAGES, fun s n _ => s.ringFld n (fun r => r.slotPages + r.extra)),
   (SRC_WR_SLOT, fun s n _ => (s.slotWriting n).getD 0),
   (SRC_WR_VALID, fun s n _ => bit (s.slotWriting n).isSome),
   (SRC_NEW_SLOT, fun s n _ => (s.newestClosed n).getD 0),
   (SRC_NEW_VALID, fun s n _ => bit (s.newestClosed n).isSome),
   (SRC_READERS, fun s n _ => (s.cfg.readers.filter (fun r => r.src == n)).length)]

/-- The state of a reader (R206): OFF without a source or a policy. -/
def State.readerState (s : State) (rd : Nat) : Nat := if (s.cfg.readerAt rd).isSome then (s.reader rd).fstate else 0

/-- A reader is in ACTING or RECOVERING. -/
def State.readerActs (s : State) (rd : Nat) : Bool := decide (2 ≤ s.readerState rd)

/-- Readers of a layer: the layer itself, or its tiles. -/
def State.layerRds (s : State) (c l : Nat) : List Nat :=
  let x := (s.cfg.cmp c).layer l
  if x.kind = 2 then (List.range x.tiles.length).map (rdTile c l) else [rdLayer c l]

/-- The reader that FSTATE, COND and AGE_MS of a layer describe: of a MOSAIC layer the tile with the highest age. -/
def State.oldestRd (s : State) (c l : Nat) : Nat :=
  (s.layerRds c l).foldl (fun best rd => if (s.reader best).ageMs < (s.reader rd).ageMs then rd else best)
    ((s.layerRds c l).headD (rdLayer c l))

/-- Tiles of a layer that act. -/
def State.tilesActing (s : State) (c l : Nat) : List Nat :=
  let x := (s.cfg.cmp c).layer l
  if x.kind = 2 then (List.range x.tiles.length).filter (fun t => s.readerActs (rdTile c l t)) else []

def policyViews (preset action hb verdict age stall : Field) (f : State → Nat → Policy) : List View :=
  [(preset, fun s i _ => (f s i).preset), (action, fun s i _ => (f s i).action), (hb, fun s i _ => bit (f s i).hbChk),
   (verdict, fun s i _ => bit (f s i).verdict), (age, fun s i _ => (f s i).maxAgeMs), (stall, fun s i _ => (f s i).stallMs)]

def freshViews : List View :=
  policyViews FRDST_PRESET FRDST_ACTION FRDST_HB_CHK FRDST_VERDICT FRDST_MAX_AGE_MS FRDST_STALL_MS
    (fun s d => (s.cfg.dst d).policy) ++
  policyViews FRLYR_PRESET FRLYR_ACTION FRLYR_HB_CHK FRLYR_VERDICT FRLYR_MAX_AGE_MS FRLYR_STALL_MS
    (fun s i => ((s.cfg.cmp (i / 8)).layer (i % 8)).policy) ++
  [(FRESH_ACT_DST, fun s _ _ => ((List.range 1024).filter (fun d => s.readerActs (rdDst d))).length),
   (FRESH_ACT_LYR, fun s _ _ =>
      ((List.range 768).filter (fun i => (s.layerRds (i / 8) (i % 8)).any s.readerActs)).length),
   (FRESH_HOLD_PAGES, fun s _ _ => holdPages s.store.holdBytes),
   (FRDST_FSTATE, fun s d _ => s.readerState (rdDst d)),
   (FRDST_COND, fun s d _ => (s.reader (rdDst d)).cond),
   (FRDST_AGE_MS, fun s d _ => (s.reader (rdDst d)).ageMs),
   (FRLYR_FSTATE, fun s i _ => s.readerState (s.oldestRd (i / 8) (i % 8))),
   (FRLYR_COND, fun s i _ => (s.reader (s.oldestRd (i / 8) (i % 8))).cond),
   (FRLYR_AGE_MS, fun s i _ => (s.reader (s.oldestRd (i / 8) (i % 8))).ageMs),
   (FRLYR_TILES_ACT, fun s i _ => (s.tilesActing (i / 8) (i % 8)).length),
   (FRLYR_FIRST_TILE, fun s i _ => (s.tilesActing (i / 8) (i % 8)).headD 0)]

/-! ### Destinations and compositors (R243, R271) -/

def State.layerOf (s : State) (c l : Nat) : LayerCfg := (s.cfg.cmp c).layer l

/-- The tile that the tile window shows. -/
def State.tileShown (s : State) (c : Nat) : Option Tile :=
  let x := s.layerOf c (s.fld CMP_TW_LAYER c)
  if x.kind = 2 then x.tiles[s.fld CMP_TW_TILE c]? else none

/-- A field of that tile. -/
def State.tileFld (s : State) (c dflt : Nat) (f : Tile → Nat) : Nat := ((s.tileShown c).map f).getD dflt

/-- Its reader. -/
def State.tileRd (s : State) (c : Nat) : ReaderRun :=
  if (s.tileShown c).isSome then s.reader (rdTile c (s.fld CMP_TW_LAYER c) (s.fld CMP_TW_TILE c)) else {}

/-- A field that only a VIDEO layer shows. -/
def State.videoLayer (s : State) (c l dflt : Nat) (f : LayerCfg → Nat) : Nat :=
  let x := s.layerOf c l
  if x.kind = 1 then f x else dflt

def videoViews : List View :=
  [(DST_LATMODE, fun s d _ => (s.cfg.dst d).lat),
   (DST_CHASE_DEG, fun s d _ => bit (s.reader (rdDst d)).chaseDeg),
   (DST_VSRC, fun s d _ => (s.cfg.dst d).vsrc),
   (DST_ASRC, fun s d _ => (s.cfg.dst d).asrc),
   (DST_NSRC, fun s d _ => (s.cfg.dst d).nsrc),
   (DST_EGRESS, fun s d _ => (s.flowList.filter (fun e => flowDir e.2.words == 2 && flowObj e.2.words == d)).length),
   (DST_CHARGE, fun s d _ => s.dstChargeIn s.cfg d),
   (CMP_ENABLED, fun s c _ => bit (s.cfg.cmp c).enabled),
   (CMP_PLANE, fun s c _ => (s.cfg.cmp c).plane),
   (CMP_OUT_FMT, fun s c _ => (s.cfg.cmp c).outFmt),
   (CMP_ZPERM, fun s c _ => (s.cfg.cmp c).zperm),
   (CMP_ZPERM_EN, fun s c _ => bit (s.cfg.cmp c).zpermEn),
   (CMP_BG, fun s c _ => (s.cfg.cmp c).bg),
   (CMP_OUT_CHARGE, fun s c _ => s.srcChargeIn s.cfg (1024 + c)),
   (CMP_LAYER_CHARGE, fun s c _ => (((s.cfg.cmp c).layers.map (fun e => layerTotal e.2)).sum)),
   (CMP_LAYER_BUDGET, fun s c _ => s.cmpBudget (s.cfg.cmp c)),
   (CMP_GFX_AREA, fun s c _ => s.gfxArea (s.cfg.cmp c)),
   (LAYR_KIND, fun s c l => (s.layerOf c l).kind),
   (LAYR_LATMODE, fun s c l => s.videoLayer c l 0 (fun x => if x.src = 2047 then 0 else x.lat)),
   (LAYR_SRC, fun s c l => s.videoLayer c l 2047 (·.src)),
   (LAYR_X, fun s c l => unsignedOf 16 (s.layerOf c l).x),
   (LAYR_Y, fun s c l => unsignedOf 16 (s.layerOf c l).y),
   (LAYR_W, fun s c l => (s.layerOf c l).w),
   (LAYR_H, fun s c l => (s.layerOf c l).h),
   (LAYR_ALPHA, fun s c l => (s.layerOf c l).alpha),
   (LAYR_REF, fun s c l => (s.layerOf c l).ref),
   (LAYR_CROP_X, fun s c l => (s.layerOf c l).cropX),
   (LAYR_CROP_Y, fun s c l => (s.layerOf c l).cropY),
   (LAYR_CROP_W, fun s c l => (s.layerOf c l).cropW),
   (LAYR_CROP_H, fun s c l => (s.layerOf c l).cropH),
   (LAYR_LEVEL_FORCE, fun s c l => (s.layerOf c l).level),
   (LAYR_LEVEL_USED, fun s c l => s.videoLayer c l 0 (fun _ => (s.reader (rdLayer c l)).shownLevel)),
   (LAYR_TILES, fun s c l => if (s.layerOf c l).kind = 2 then (s.layerOf c l).tiles.length else 0),
   (LAYR_CHARGE, fun s c l => layerTotal (s.layerOf c l)),
   (LAYR_SHOWN_SEQ, fun s c l => s.videoLayer c l 0 (fun _ => (s.reader (rdLayer c l)).shownSeq)),
   (CMP_TW_SRC, fun s c _ => s.tileFld c 2047 (·.src)),
   (CMP_TW_LATMODE, fun s c _ => s.tileFld c 0 (fun t => if t.src = 2047 then 0 else t.lat)),
   (CMP_TW_X, fun s c _ => s.tileFld c 0 (fun t => unsignedOf 16 t.x)),
   (CMP_TW_Y, fun s c _ => s.tileFld c 0 (fun t => unsignedOf 16 t.y)),
   (CMP_TW_W, fun s c _ => s.tileFld c 0 (·.w)),
   (CMP_TW_H, fun s c _ => s.tileFld c 0 (·.h)),
   (CMP_TW_LEVEL, fun s c _ => (s.tileRd c).shownLevel),
   (CMP_TW_CHARGE, fun s c _ => s.tileFld c 0 (·.charge)),
   (CMP_TW_SEQ, fun s c _ => (s.tileRd c).shownSeq)]

/-! ### Towpath, ports, lanes and audio (R332, R346, R376, R504) -/

/-- The frame at the head of a receive queue. -/
def State.towHead (s : State) (b : Nat) (f : TowRxFrame → Nat) : Nat :=
  match s.towShown b with
  | some x => f x
  | none => 0

/-- Input channels that a source's feeds write. -/
def State.feedsOf (s : State) (n : Nat) : List ChanIn :=
  (s.audio.ins.map (·.2)).filter (fun c => c.src == n && c.feed != 0)

/-- CSTATE of a source. -/
def State.clockState (s : State) (n : Nat) : Nat :=
  let l := s.feedsOf n
  if l.isEmpty then 0
  else if l.any (·.asrc) then (if l.all (fun c => !c.asrc || c.locked) then 2 else 3)
  else 1

def State.chanShown (s : State) : Nat := s.fld AUD_MAP_SEL

def mediaViews : List View :=
  [(TOW_CARRIER, fun s b _ => s.towStat b),
   (TOW_TX_ACTIVE, fun s b _ => s.towStat b / 2),
   (TOW_TX_DEPTH, fun s b _ => s.towStat b / 16),
   (TOW_RX_DEPTH, fun s b _ => s.towStat b / 256),
   (TOW_RX_HDR, fun s b _ => s.towRxWord b 0),
   (TOW_RX_KIND, fun s b _ => s.towHead b (·.kind)),
   (TOW_RX_TIME_LO, fun s b _ => s.towHead b (·.time)),
   (TOW_RX_TIME_HI, fun s b _ => s.towHead b (fun x => x.time / 2 ^ 32)),
   (TOW_RX_BUF, fun s b j => s.towRxWord b j),
   (LANE_IN_USE, fun s l _ => bit (s.inUseView l)),
   (MPORT_RX_FLOWS, fun s m _ => (s.flowList.filter (fun e => flowDir e.2.words == 1 && flowPort e.2.words == m)).length),
   (MPORT_TX_FLOWS, fun s m _ => (s.flowList.filter (fun e => flowDir e.2.words == 2 && flowPort e.2.words == m)).length),
   (MPORT_EGRESS_MBPS, fun s m _ => s.egressMbps m),
   (IC_HELD_CNT, fun s _ _ => s.ic.heldCnt),
   (ICT_PARKED, fun s t _ => bit (s.ic.waiting.all (fun r => r.target != t))),
   (ICT_LAST_MASTER, fun s t _ => (Tab.get [4] s.ic.recent t).headD 4),
   (ICT_QUEUE, fun s t _ => (s.ic.waiting.filter (fun r => r.target == t)).length),
   (AUD_ASRC_USED, fun s _ _ => s.asrcUsed),
   (AUD_ASRC_LOCKED, fun s _ _ => (s.audio.ins.filter (fun e => e.2.asrc && e.2.locked)).length),
   (AUD_DLY_USED, fun s _ _ => s.delayUsed none),
   (AUD_MAP_W0, fun s _ _ => (s.cfg.chan s.chanShown).map0),
   (AUD_MAP_W1, fun s _ _ => (s.cfg.chan s.chanShown).map1),
   (AUD_GAIN_A, fun s _ _ => (s.chanOut s.chanShown).rampA.value),
   (AUD_GAIN_B, fun s _ _ => (s.chanOut s.chanShown).rampB.value),
   (AUD_RAMP, fun s _ _ => bit ((s.chanOut s.chanShown).rampA.running || (s.chanOut s.chanShown).rampB.running)),
   (AUD_FADE, fun s _ _ => bit ((s.chanOut s.chanShown).old.isSome || s.time.audioStepFade != 0)),
   (AGRP_AG_UNDER, fun s _ g => (s.audio.ins.filter (fun e =>
      decide (s.fld AGRP_AG_BASE 0 g ≤ e.1 ∧ e.1 < s.fld AGRP_AG_BASE 0 g + s.fld AGRP_AG_COUNT 0 g) && e.2.under)).length),
   (AINST_CSTATE, fun s _ n => s.clockState n),
   (AINST_CH_LIVE, fun s _ n => ((s.feedsOf n).filter (fun c => !c.under)).length)]

/-! ### Reading a register -/

def allViews : List View := hostViews ++ timeViews ++ storeViews ++ freshViews ++ videoViews ++ mediaViews

/-- What instance (i, j) of a field reads as. A write-only field reads 0. -/
def State.readFld (s : State) (f : Field) (i j : Nat) : Nat :=
  if f.ty = .wo then 0
  else
    match allViews.find? (fun v => v.1.base == f.base && v.1.lo == f.lo) with
    | some v => v.2 s i j % 2 ^ f.w
    | none => s.fld f i j

/-- What the register at an offset reads as, without what the read itself does. -/
def State.readReg (s : State) (off : Nat) : Nat :=
  match blockAt off with
  | none => 0
  | some (.flowwin, f) => ((s.flow f).map (fun x => wordAt x.words (off % 64 / 4))).getD 0
  | some (b, i) =>
    if b = .src ∧ 0x200 ≤ off % 0x400 then s.slotRecord i (off % 0x200 / 32) (off % 32 / 4)
    else ((b.at? off).map (fun (f, i, j) => s.readFld f i j * 2 ^ f.lo)).sum

/-- The device at the reset values of its registers, those that the record and the straps give among them (R430, R530). -/
def State.atReset (s : State) : State :=
  let t : State := { dbg := { killed := s.dbg.killed }, boot := { gateInit := s.boot.gateInit } }
  let t := t.setFld CWAY_ROLE_STRAP (s.fld CWAY_ROLE_STRAP)
  (t.setPair CWAY_DEV_SERIAL_LO CWAY_DEV_SERIAL_HI (s.pair CWAY_DEV_SERIAL_LO CWAY_DEV_SERIAL_HI)).applyGateInit

/-- Reads of the register return its reset value: SERVICE is not reached, and the block is none of those that hosts may
write by then (R510; DEDUCED, log 17). -/
def State.readsReset (s : State) (off : Nat) : Bool :=
  !s.inService && (match blockAt off with
    | some (b, _) => !b.always
    | none => false)

/-- A read of the register at an offset: what it does and the word it answers. -/
def State.readAt (s : State) (off : Nat) : State × Nat :=
  if s.readsReset off then (s, s.atReset.readReg off)
  else if off = 0x30008 then s.readNowLo
  else if off = 0x42024 then s.readFlData
  else (s, s.readReg off)

/-- The completion status of a failed read by P1 .. P7 (R37): 1 Unsupported Request, 2 Completer Abort. -/
def AccessBar.status : AccessBar → Nat
  | .unmapped _ => 1
  | .width _ => 2
  | .denied _ => 2

/-- A read of BAR0 by partition r. Partition 0 reads zero where a check fails; another partition is answered with
Completer Abort or Unsupported Request (R35 .. R37). -/
def State.hostRead (s : State) (r off width : Nat) : State :=
  match s.readBar r off width with
  | some bar => ((s.logBar r bar).emit (.readAnswer r (if r = 0 then 0 else bar.status) 0)).hostCrossed r
  | none =>
    let (s, lo) := s.readAt (off / 4 * 4)
    if width = 8 then
      let (s, hi) := s.readAt (off + 4)
      (s.emit (.readAnswer r 0 (lo + 2 ^ 32 * hi))).hostCrossed r
    else (s.emit (.readAnswer r 0 (bitField lo (8 * (off % 4)) (8 * width)))).hostCrossed r

end Sys2Proof.Machine
end

