-- ==== Sys2Proof/Machine/Dbg.lean ====
section
/-! DEFINITION. The debug port and the interconnect's error responses: the TAP, debug-space operations, the debug master,
core halts and steps, decode errors and timeouts (R534 .. R548, R551). -/

namespace Sys2Proof.Machine
open Reg

/-! ### The TAP (R534 .. R536, R543) -/

/-- An instruction is loaded into the TAP. -/
def State.loadIr (s : State) (code : Nat) : State := { s with dbg := { s.dbg with ir := code } }

/-- An instruction scan: Capture-IR loads 1, and Update-IR loads the instruction (R534). An instruction that stays loaded
takes none. -/
def State.scanIr (s : State) (code : Nat) : State := if s.dbg.ir = code then s else (s.emit (.irScan 1)).loadIr code

/-- TAP_RESET: IDCODE is selected; the debug space stays. -/
def execTapReset (s : State) : Out := .next (s.loadIr 1)

/-- The identification word. -/
def State.idWord (s : State) : Nat := s.fld GLB_SI_REV % 2 ^ 4 * 2 ^ 28 + 0x1024 * 2 ^ 12 + 0x4B3 * 2 + 1

def execIdcode (s : State) : Out := .next ((s.scanIr 1).emit (.scan 32 s.idWord))

/-- The site of the right band (R564) whose ball cell i of the boundary register serves: every signal ball but those of the
lanes, of their reference clocks, of PCIE_REFCLK and of the TAP (R535). DESIGN CHOICE, log 91: one cell for each ball, in
the order of the sites, where the spec leaves order and kinds of the cells to the BSDL description. -/
def boundarySite (i : Nat) : Nat := if i < 160 then 74 + i else 79 + i

/-- The signal of boundary cell i. -/
def boundarySignal (i : Nat) : SiteSignal := siteSignal (boundarySite i)

/-- A scan of the boundary register: the balls' levels come out, and the cells hold what is shifted in. Both are the board's
and the tester's: free values. -/
def State.boundaryScan (s : State) : State :=
  let t := (s.emit (.scan 176 (Config.ballLevels s.free % 2 ^ 176))).advance
  { t with dbg := { t.dbg with cells := Config.shiftedIn s.free % 2 ^ 176 } }

/-- SAMPLE_PRELOAD: the pins are not taken. -/
def execSamplePreload (s : State) : Out := .next (s.scanIr 2).boundaryScan

/-- A boundary-scan request: the safe state comes before the instruction takes a pin. -/
def State.scanRequest (s : State) (code : Nat) : State := (s.scanIr code).raise Ev.SAFE_REQ { data := 2 }

/-- EXTEST is loaded, and a scan follows, which may shift in what the cells hold. -/
def execExtest (s : State) : Out := .next (s.scanRequest 3).boundaryScan
def execClamp (s : State) : Out := .next (s.scanRequest 4)
def execHighz (s : State) : Out := .next (s.scanRequest 5)

def execBypass (s : State) : Out := .next ((s.scanIr 0xFF).emit (.scan 1 0))

/-- What drives the ball of a boundary cell. -/
inductive PinDrive where
  | core
  | safeLevel
  | cell (level : Bool)
  | floating
  deriving DecidableEq, Repr

/-- A boundary-scan instruction is loaded that takes the pins once it may. -/
def State.pinsAsked (s : State) : Bool := [3, 4, 5].contains s.dbg.ir

/-- The loaded instruction has taken the pins: the safe state holds, or reset extension lasts (R536). -/
def State.pinsTaken (s : State) : Bool := s.pinsAsked && (s.safe || !s.fldOn CLK_ROSC_OK)

/-- What drives the ball of boundary cell i (R463, R536): EXTEST and CLAMP give it the cell's level, HIGHZ none. -/
def State.pinDrive (s : State) (i : Nat) : PinDrive :=
  if s.pinsTaken then (if s.dbg.ir = 5 then .floating else .cell (bitAt s.dbg.cells i))
  else if s.safe ∨ s.pinsAsked = true then .safeLevel
  else .core

/-- DBG_KILL, TEST_KILL, STAGE, SAFE and FATAL. -/
def State.statusWord (s : State) : Nat :=
  s.fld BOOT_DBG_KILL * 2 ^ 16 + s.fld BOOT_TEST_KILL * 2 ^ 17 + s.fld BOOT_STAGE % 8 * 2 ^ 18 + s.fld FLT_SAFE * 2 ^ 21 +
    s.fld FLT_FATAL * 2 ^ 22

def execDbgStatus (s : State) : Out := .next ((s.scanIr 0x11).emit (.scan 32 s.statusWord))

/-! ### Conductor cores (R541, R542, R551) -/

def State.conductor (s : State) (k : Nat) : Conductor := Tab.get {} s.dbg.cores k

def State.setConductor (s : State) (k : Nat) (x : Conductor) : State :=
  { s with dbg := { s.dbg with cores := Tab.set {} s.dbg.cores k x } }

/-- Register `i` of a conductor core as its program has left it: 0 .. 31 general, 32 PC, 33 status word. -/
def State.conductorFree (s : State) (i : Nat) : Nat := Config.conductorReg (34 * s.free + i) % 2 ^ 32

/-- The registers of conductor core k, which its program has changed. -/
def State.drawConductor (s : State) (k : Nat) : State :=
  s.advance.setConductor k
    { regs := Tab.setRange 0 [] 0 ((List.range 32).map s.conductorFree), pc := s.conductorFree 32, status := s.conductorFree 33 }

/-- PTP references are lost while the firmware that serves them is halted. -/
def State.losePtp (s : State) : State :=
  s.each [1, 2] (fun s r => if s.fld REF_RSTATE r = 0 then s else s.loseRef r)

/-- Conductor core k halts. -/
def State.haltConductor (s : State) (k cause : Nat) : State :=
  let s := (s.drawConductor k).setFld DBGC_HALTED 1 0 (32 + k)
  ((s.setFld DBGC_CAUSE cause 0 (32 + k)).losePtp).refreshReady

/-! ### Halt, resume, step (R540, R541) -/

/-- HALT_REQ of core k. -/
def State.haltReq (s : State) (k : Nat) : State :=
  if 32 ≤ k then (if s.fldOn DBGC_HALTED 0 k then s else s.haltConductor (k - 32) 1)
  else
    let st := s.fld PROBE_STATE k
    if st = coreDebug ∨ st = coreFault then s
    else if st = coreRunning then
      s.enterDebug k (1 ||| 2 * bit (s.breakAt k (s.fld PROBE_PC k) && !(s.core k).skipBreak))
    else if st = coreStalled then s.enterDebug k 1
    else
      let x := s.core k
      s.setCore k { x with haltPend := true, haltCause := x.haltCause ||| 1 }

/-- A halted core runs again. -/
def State.resumeCore (s : State) (k : Nat) : State :=
  if ¬s.fldOn DBGC_HALTED 0 k then s
  else
    let s := s.setFld DBGC_HALTED 0 0 k
    if 32 ≤ k then ({ s with dbg := { s.dbg with cmem := [] } }).refreshReady
    else (s.setFld PROBE_STATE coreRunning k).setCore k { s.core k with skipBreak := true }

/-- The state after a step's outcome. -/
def after (s : State) : Out → State
  | .next t => t
  | _ => s

/-- STEP of core k: one instruction runs, and the core halts again. -/
def State.stepCore (s : State) (k : Nat) : State :=
  if ¬s.fldOn DBGC_HALTED 0 k then s
  else if 32 ≤ k then
    let s := (s.drawConductor (k - 32)).setFld DBGC_CAUSE 8 0 k
    { s with dbg := { s.dbg with cmem := [] } }
  else
    let s := s.resumeCore k
    let s := s.setCore k { s.core k with stepping := true }
    after s (probeAny (Fin.ofNat 32 k) (probeOp (s.probeWord k)) s)

/-! ### REG_DATA (R551) -/

/-- Entries 0 .. 7 of the call stack. -/
def CoreRun.stackEntry (x : CoreRun) (i : Nat) : Nat := if i < x.stack.length then x.stack.getD i 0 else Tab.get 0 x.spare i

/-- Flags Z, N, C, V, E, K, F in bits 6 .. 0. -/
def CoreRun.flagWord (x : CoreRun) : Nat :=
  64 * bit x.z + 32 * bit x.n + 16 * bit x.c + 8 * bit x.v + 4 * bit x.e + 2 * bit x.k + bit x.f

/-- LO and HI of a register of probe core k; none: reserved. -/
def State.probeReg (s : State) (k sel : Nat) : Option (Nat × Nat) :=
  let x := s.core k
  if sel < 16 then some (x.dreg sel, 0)
  else if sel < 18 then
    let u := unsignedOf 40 (x.acc (sel - 16))
    some (u % 2 ^ 32, u / 2 ^ 32)
  else if 24 ≤ sel ∧ sel < 32 then
    let i := sel - 24
    some (x.xf i 0 + 2 ^ 16 * x.xf i 1, x.xf i 2 + 2 ^ 16 * x.xf i 3)
  else if sel = 32 then some (s.fld PROBE_PC k, 0)
  else if sel = 33 then some (x.flagWord, 0)
  else if sel = 34 ∨ sel = 35 then
    let l := x.loop (sel - 34)
    some (l.count + 2 ^ 16 * l.start, l.last + 2 ^ 16 * bit l.active)
  else if 40 ≤ sel ∧ sel < 48 then some (x.stackEntry (sel - 40), x.stack.length)
  else none

/-- The call stack with an entry and a depth written. -/
def CoreRun.writeStack (x : CoreRun) (i v depth : Nat) : CoreRun :=
  let es := (List.range 8).map (fun j => if j = i then v % 2 ^ 14 else x.stackEntry j)
  let n := min 8 (depth % 16)
  { x with stack := es.take n, spare := Tab.setRange 0 [] n (es.drop n) }

/-- A register of probe core k takes LO and HI. -/
def State.setProbeReg (s : State) (k sel lo hi : Nat) : State :=
  let x := s.core k
  if sel < 16 then s.setCore k (x.setD sel lo)
  else if sel < 18 then s.setCore k (x.setAcc (sel - 16) (signed 40 (lo + 2 ^ 32 * (hi % 2 ^ 8))))
  else if 24 ≤ sel ∧ sel < 32 then
    let i := sel - 24
    s.setCore k ((((x.setXf i 0 lo).setXf i 1 (lo / 2 ^ 16)).setXf i 2 hi).setXf i 3 (hi / 2 ^ 16))
  else if sel = 32 then s.setFld PROBE_PC (lo % 2 ^ 14) k
  else if sel = 33 then
    s.setCore k { x with
      z := bitAt lo 6, n := bitAt lo 5, c := bitAt lo 4, v := bitAt lo 3, e := bitAt lo 2, k := bitAt lo 1, f := bitAt lo 0 }
  else if sel = 34 ∨ sel = 35 then
    let l := x.loop (sel - 34)
    s.setCore k (x.setLoop (sel - 34)
      { l with count := lo % 2 ^ 16, start := bitField lo 16 14, last := hi % 2 ^ 14, active := bitAt hi 16 })
  else if 40 ≤ sel ∧ sel < 48 then s.setCore k (x.writeStack (sel - 40) lo hi)
  else s

/-- LO and HI of a register of conductor core k; none: reserved. -/
def State.conductorRegAt (s : State) (k sel : Nat) : Option (Nat × Nat) :=
  let x := s.conductor k
  if sel < 32 then some (Tab.get 0 x.regs sel, 0)
  else if sel = 32 then some (x.pc, 0)
  else if sel = 33 then some (x.status, 0)
  else none

def State.setConductorReg (s : State) (k sel lo : Nat) : State :=
  let x := s.conductor k
  if sel < 32 then s.setConductor k { x with regs := Tab.set 0 x.regs sel lo }
  else if sel = 32 then s.setConductor k { x with pc := lo }
  else if sel = 33 then s.setConductor k { x with status := lo }
  else s

/-- The register that REG_SEL of core k names. -/
def State.selected (s : State) (k : Nat) : Option (Nat × Nat) :=
  if 32 ≤ k then s.conductorRegAt (k - 32) (s.fld DBGC_REG_SEL 0 k) else s.probeReg k (s.fld DBGC_REG_SEL 0 k)

/-- A write of REG_DATA_LO or REG_DATA_HI. -/
def State.writeRegData (s : State) (k : Nat) (hi : Bool) (v : Nat) : State :=
  if s.fldOn DBGC_HALTED 0 k then
    match s.selected k with
    | some x =>
      let lo' := if hi then x.1 else v
      let hi' := if hi then v else x.2
      if 32 ≤ k then s.setConductorReg (k - 32) (s.fld DBGC_REG_SEL 0 k) lo' else s.setProbeReg k (s.fld DBGC_REG_SEL 0 k) lo' hi'
    | none => s
  else s

/-! ### Debug-space operations (R537, R538) -/

/-- An operation starts and will publish its result. -/
def State.beginOp (s : State) (status data : Nat) (bus : Bool := false) : State :=
  { s with dbg := { s.dbg with op := some { status := status, data := data, bus := bus } } }

/-- An operation that reads nothing. -/
def State.beginOpen (s : State) (status : Nat) (bus : Bool := false) : State :=
  s.advance.beginOp status (Config.scanData s.free % 2 ^ 32) bus

/-- A read of REG_DATA_LO or REG_DATA_HI: a reserved register reads zero with ERROR, and a core that is not halted gives
ERROR. -/
def State.readRegData (s : State) (k : Nat) (hi : Bool) : State :=
  if s.fldOn DBGC_HALTED 0 k then
    match s.selected k with
    | some x => s.beginOp 0 (if hi then x.2 else x.1)
    | none => s.beginOp 2 0
  else s.beginOpen 2

/-- What Capture-DR loads: STATUS and read data. -/
def State.captured (s : State) : Nat := (if s.dbg.op.isSome then 1 else s.dbg.status) * 2 ^ 32 + s.dbg.data

/-- Fields of the debug-space register at an offset. -/
def dbgFields (off : Nat) : RegFields :=
  (fieldsDBG ++ fieldsDBGC).filterMap (fun f => (f.at? (0x10000000 + off)).map (fun p => (f, p.1, p.2)))

/-- ATTACH = 0: every halted core resumes, and breakpoints and watchpoints are cleared. -/
def State.detach (s : State) : State :=
  let s := s.upTo 36 (fun s k => s.resumeCore k)
  let points := [DBGC_BP_ADDR0, DBGC_BP_ADDR1, DBGC_BP_ADDR2, DBGC_BP_ADDR3, DBGC_BP_EN0, DBGC_BP_EN1, DBGC_BP_EN2, DBGC_BP_EN3,
    DBGC_WP_LO0, DBGC_WP_LO1, DBGC_WP_HI0, DBGC_WP_HI1, DBGC_WP_MODE0, DBGC_WP_MODE1]
  let s := s.upTo 36 (fun s k => s.each points (fun s f => s.resetFld f 0 k))
  (s.setFld DBG_ATTACH 0).raise Ev.DBG_ATTACH { data := 0 }

/-- A write of ATTACH. -/
def State.writeAttach (s : State) (v : Nat) : State :=
  if v = 0 then s.detach else ((s.setFld DBG_ATTACH 1).writeReq 183 1).raise Ev.DBG_ATTACH { data := 1 }

/-- What an address of R546 reaches. -/
inductive BusTarget where
  | bar (off : Nat)
  | imem (c word : Nat)
  | dmem (c word : Nat)
  | anc (word : Nat)
  | flow (f word : Nat)
  | conductor (word : Nat)
  | flash (byte : Nat)
  | fuses
  | store (stack byte : Nat)
  deriving DecidableEq, Repr

/-- The target of R544 that it is. -/
def BusTarget.number : BusTarget → Nat
  | .bar _ => 0
  | .imem _ _ => 10
  | .dmem _ _ => 10
  | .anc _ => 11
  | .flow _ _ => 12
  | .conductor _ => 9
  | .flash _ => 13
  | .fuses => 13
  | .store i _ => 1 + i

/-- The target and place of an aligned address; none: unmapped. -/
def busTarget (a : Nat) : Option BusTarget :=
  if a < 0x4000000 then some (.bar a)
  else if 0x100000000 ≤ a ∧ a < 0x100000000 + 32 * 0x100000 then
    let r := a - 0x100000000
    let o := r % 0x100000
    if o < 0x10000 then some (.imem (r / 0x100000) (o / 4))
    else if 0x80000 ≤ o ∧ o < 0xA0000 then some (.dmem (r / 0x100000) ((o - 0x80000) / 2))
    else none
  else if 0x200000000 ≤ a ∧ a < 0x200800000 then some (.anc ((a - 0x200000000) / 4))
  else if 0x201000000 ≤ a ∧ a < 0x202000000 then some (.flow ((a - 0x201000000) / 64) ((a - 0x201000000) % 64 / 4))
  else if 0x300000000 ≤ a ∧ a < 0x300200000 then some (.conductor ((a - 0x300000000) / 4))
  else if 0x310000000 ≤ a ∧ a < 0x311000000 then some (.flash (a - 0x310000000))
  else if 0x311000000 ≤ a ∧ a < 0x311001000 then some .fuses
  else if 0x1000000000 ≤ a ∧ a < 0x1000000000 + 4 * 0x600000000 then
    some (.store ((a - 0x1000000000) / 0x600000000) ((a - 0x1000000000) % 0x600000000))
  else none

/-- An access of the debug master (11) starts: its request goes to its target, if there is one. -/
def State.startAccess (s : State) (write : Option Nat) : State :=
  let addr := s.pair DBG_BUS_ADDR_LO DBG_BUS_ADDR_HI
  let s := { s with dbg := { s.dbg with access := some { addr := addr, write := write, since := s.time.grid } } }
  let s := match busTarget addr with
    | some t => s.icArrive 11 t.number (addr / 64) write.isSome
    | none => s
  (s.setFld DBG_BUSY 1).beginOpen 0 true

/-- The bus registers at 0x001C: an access starts unless one runs. DESIGN CHOICE, log 34: GO_RD and GO_WR together are a
read. -/
def State.writeBusCtl (s : State) (v : Nat) : State :=
  let s := s.setFld DBG_AUTOINC (bitField v 2 1)
  if bitAt v 0 then s.startAccess none
  else if bitAt v 1 then s.startAccess (some (s.fld DBG_BUS_DATA))
  else s.beginOpen 0

/-- The control word of a core: RESUME wins over HALT_REQ. -/
def State.writeCoreCtl (s : State) (k v : Nat) : State :=
  let s := s.when (k < 32) (fun s => s.setFld DBGC_HALT_ON_ENTRY (bitField v 8 1) 0 k)
  if bitAt v 1 then s.resumeCore k
  else if bitAt v 2 then s.stepCore k
  else if bitAt v 0 then s.haltReq k
  else s

/-- Where a core's debug block starts, and the core, for an offset in one. -/
def dbgCore (off : Nat) : Option (Nat × Nat) :=
  if 0x100 ≤ off ∧ off < 0x100 + 36 * 0x40 then some ((off - 0x100) / 0x40, (off - 0x100) % 0x40) else none

/-- A read of the debug space. -/
def State.dbgReadAt (s : State) (off : Nat) : State :=
  if (dbgFields off).isEmpty then s.beginOpen 2
  else
    match dbgCore off with
    | some (k, 0x34) => s.readRegData k false
    | some (k, 0x38) => s.readRegData k true
    | _ => s.beginOp 0 (((dbgFields off).map (fun x => if x.1.ty = .wo then 0 else s.fld x.1 x.2.1 x.2.2 * 2 ^ x.1.lo)).sum)

/-- A write of the debug space. -/
def State.dbgWriteAt (s : State) (off v : Nat) : State :=
  if (dbgFields off).isEmpty then s.beginOpen 2
  else if off = 0x1C then s.writeBusCtl v
  else
    match dbgCore off with
    | some (k, 0) => (s.writeCoreCtl k v).beginOpen 0
    | some (k, 0x34) => (s.writeRegData k false v).beginOpen 0
    | some (k, 0x38) => (s.writeRegData k true v).beginOpen 0
    | _ => (s.putWord (dbgFields off) v).beginOpen 0

/-- Update-DR of DBG_ACCESS with a read (none) or a write: ignored while an operation runs. ATTACH answers always. -/
def State.dbgUpdate (s : State) (off : Nat) (v : Option Nat) : State :=
  if s.dbg.op.isSome then s
  else if off = 0 then
    match v with
    | some v => (s.writeAttach (v % 2)).beginOpen 0
    | none => s.beginOp 0 (s.fld DBG_ATTACH)
  else if ¬s.fldOn DBG_ATTACH then s.beginOpen 3
  else if s.gated 183 then s.beginOpen 1
  else
    match v with
    | some v => s.dbgWriteAt off v
    | none => s.dbgReadAt off

/-- One scan of DBG_ACCESS: the last result is captured, and Update-DR starts the operation. After DBG_KILL it behaves as
BYPASS. -/
def State.dbgScan (s : State) (off : Nat) (v : Option Nat) : State :=
  let s := s.scanIr 0x10
  if s.dbg.killed then s.emit (.scan 1 0) else (s.emit (.scan 56 s.captured)).dbgUpdate off v

/-- DBG_READ. `addr`: the word address. -/
def execDbgRead (addr : BitVec 16) (s : State) : Out := .next (s.dbgScan (4 * addr.toNat) none)

/-- DBG_WRITE. -/
def execDbgWrite (addr : BitVec 16) (val : Word) (s : State) : Out := .next (s.dbgScan (4 * addr.toNat) (some val.toNat))

def execAttach (s : State) : Out := .next (s.dbgScan 0 (some 1))
def execDetach (s : State) : Out := .next (s.dbgScan 0 (some 0))

/-- GO_RD, with AUTOINC as it is. -/
def execGoRd (s : State) : Out := .next (s.dbgScan 0x1C (some (1 + 4 * s.fld DBG_AUTOINC)))

/-- GO_WR, with AUTOINC as it is. -/
def execGoWr (s : State) : Out := .next (s.dbgScan 0x1C (some (2 + 4 * s.fld DBG_AUTOINC)))

/-- Bits of the control word of core k, with HALT_ON_ENTRY as it is. -/
def State.coreCtl (s : State) (k bits : Nat) : State :=
  s.dbgScan (0x100 + 0x40 * k) (some (bits + 256 * s.fld DBGC_HALT_ON_ENTRY 0 k))

def execHaltReq (k : Fin 36) (s : State) : Out := .next (s.coreCtl k 1)
def execResume (k : Fin 36) (s : State) : Out := .next (s.coreCtl k 2)
def execStep (k : Fin 36) (s : State) : Out := .next (s.coreCtl k 4)

/-- REG_DATA_LO or REG_DATA_HI of core k is read, or written. -/
def execRegData (k : Fin 36) (hi : Bool) (write : Option Word) (s : State) : Out :=
  .next (s.dbgScan ((if hi then 0x138 else 0x134) + 0x40 * k.val) (write.map (·.toNat)))

/-- The running operation publishes its result. -/
def State.publishOp (s : State) : State :=
  match s.dbg.op with
  | some o => { s with dbg := { s.dbg with op := none, status := o.status, data := o.data } }
  | none => s

/-- DBG_OPERATION_DONE: a bus access has its own end. -/
def execDbgOperationDone (s : State) : Out :=
  .next (match s.dbg.op with
    | some o => if o.bus then s else s.publishOp
    | none => s)

/-! ### Bus accesses (R539, R546, R548) -/

/-- The memory of a target is powered. -/
def State.powered (s : State) : BusTarget → Bool
  | .imem c _ => !s.coreGated c
  | .dmem c _ => !s.coreGated c
  | .anc w => !s.gated (173 + w / 262144)
  | .flow _ _ => !s.gated 182
  | _ => true

/-- A read by the debug master. `v`: what a memory answers whose contents the block does not hold. -/
def State.busRead (s : State) (t : BusTarget) (v : Nat) : State × Nat :=
  if s.powered t = false then (s, v)
  else
    match t with
    | .bar off => if s.mapped off then s.readAt off else (s, 0)
    | .imem c w => (s, Tab.get 0 (s.core c).imem w)
    | .dmem c w => (s, (s.core c).data w + 2 ^ 16 * (s.core c).data (w + 1))
    | .anc w => (s, Tab.get 0 s.anc.mem w % 2 ^ 32)
    | .flow f w => (s, ((s.flow f).map (fun x => wordAt x.words w)).getD 0)
    | .conductor w => (s, (Tab.get none s.dbg.cmem w).getD v)
    | .flash b => (s, ((List.range 4).map (fun i => s.flashShown (b + i) * 256 ^ i)).sum)
    | .fuses => (s, v)
    | .store i b => (s, (s.storeWord i b).getD v)

/-- A word of BAR0 written by the debug master, with the rights of P0, on this device only. -/
def State.busWriteBar (s : State) (off v : Nat) : State :=
  match (if s.mapped off then blockAt off else none) with
  | none => s
  | some (b, _) =>
    let open' := s.inService || b.always
    let s' := if open' = false ∨ (s.safe ∧ b ≠ .flt ∧ b ≠ .glb) then s else s.regWrite 0 off v
    if off ≠ 0x42040 then { s' with boot := { s'.boot with armed := false } } else s'

/-- A word of a flow context is written. -/
def State.busWriteFlow (s : State) (f w v : Nat) : State :=
  let ws := match s.flow f with
    | some x => x.words
    | none => List.replicate 16 0
  let ws := ws.set w v
  if ws.all (· == 0) then s.setFlow f none
  else s.setFlow f (some (match s.flow f with
    | some x => { x with words := ws }
    | none => { words := ws }))

/-- A write by the debug master. -/
def State.busWrite (s : State) (t : BusTarget) (v : Nat) : State :=
  if s.powered t = false then s
  else
    match t with
    | .bar off => s.busWriteBar off v
    | .imem c w => s.setCore c { s.core c with imem := Tab.set 0 (s.core c).imem w v }
    | .dmem c w => s.setCore c (((s.core c).setData w v).setData (w + 1) (v / 2 ^ 16))
    | .anc w =>
      let last := bitAt (Tab.get 0 s.anc.mem w) 32
      { s with anc := { s.anc with mem := Tab.set 0 s.anc.mem w (v + 2 ^ 32 * bit last) } }
    | .flow f w => s.busWriteFlow f w v
    | .conductor w =>
      if (List.range 4).all (fun k => s.fldOn DBGC_HALTED 0 (32 + k)) then
        { s with dbg := { s.dbg with cmem := Tab.set none s.dbg.cmem w (some v) } }
      else s
    | .flash _ => s
    | .fuses => s
    | .store i b => if (s.slotByte i b).isSome then s.putStoreWord i b v else s.otherError i b

/-- IC_TIMEOUT is raised. -/
def State.icTimedOut (s : State) : State := (s.addFld IC_TIMEOUT_CNT 1).raiseOpen Ev.IC_TIMEOUT

/-- The bus access ends with RESP; a read leaves its data in BUS_DATA. -/
def State.endAccess (s : State) (read : Option Nat) (resp : Nat) : State :=
  let s := ({ s with dbg := { s.dbg with access := none } }).icEnd 11
  let s := match read with
    | some v => s.setFld DBG_BUS_DATA v
    | none => s
  let s := (s.setFld DBG_RESP resp).setFld DBG_BUSY 0
  let s := s.when (s.fldOn DBG_AUTOINC) (fun s =>
    s.setPair DBG_BUS_ADDR_LO DBG_BUS_ADDR_HI ((s.pair DBG_BUS_ADDR_LO DBG_BUS_ADDR_HI + 4) % 2 ^ 48))
  s.publishOp

/-- An access of the debug master ends with an error response: a read reads zero. -/
def State.failAccess (s : State) (x : BusAccess) (resp : Nat) : State :=
  s.endAccess (if x.write.isSome then none else some 0) resp

/-- The bus access that runs gets no answer within TIMEOUT_US, counted from its start. -/
def State.accessTimeout (s : State) : State :=
  match s.dbg.access with
  | none => s
  | some x => if s.expired x.since (s.fld IC_TIMEOUT_US) 1000 then s.icTimedOut.failAccess x 2 else s

/-- The bus access that runs completes, once its target has granted it (R545); without a target it is a decode error. -/
def State.accessDone (s : State) (answer : BusAnswer) : State :=
  match s.dbg.access with
  | none => s
  | some x =>
    match busTarget x.addr, answer with
    | none, _ => s.failAccess x 1
    | some _, .timeout => s.accessTimeout
    | some t, .data d =>
      if s.icWaits 11 then s
      else
        match x.write with
        | some v => (s.busWrite t v).endAccess none 0
        | none => let r := s.busRead t d.toNat; r.1.endAccess (some r.2) 0

/-- BUS_ACCESS_DONE. -/
def execBusAccessDone (answer : BusAnswer) (s : State) : Out := .next (s.accessDone answer)

/-! ### Error responses of the interconnect (R544, R548) -/

/-- Targets that a master reaches. -/
def masterReaches (m t : Nat) : Bool :=
  if m ≤ 3 then t == 0
  else if m ≤ 7 then true
  else if m = 8 then decide (t ≤ 12)
  else if m = 9 then decide (1 ≤ t ∧ t ≤ 4)
  else if m = 10 then decide (t ≤ 4)
  else decide (t ≤ 4 ∨ 9 ≤ t)

/-- A decode error of master m at an address. -/
def State.decodeError (s : State) (m addr : Nat) : State :=
  if m ≤ 3 then s
  else if m = 11 then
    match s.dbg.access with
    | some x => s.failAccess x 1
    | none => s
  else
    let s := s.addFld IC_DECODE_CNT 1
    let s := s.when (!s.fldOn IC_DEC_SEEN) (fun s =>
      ((s.setPair IC_DEC_ADDR_LO IC_DEC_ADDR_HI addr).setFld IC_DEC_MASTER m).setFld IC_DEC_SEEN 1)
    s.raise Ev.IC_DECODE { data := addr + m * 2 ^ 48 }

/-- IC_TIMEOUT: the request of a master gets an error response: no target at its address, or one that it does not reach,
is a decode error; a target that it reaches has not responded for TIMEOUT_US. -/
def execIcTimeout (target : Option (Fin 14)) (master : Fin 12) (request : Unanswered) (s : State) : Out :=
  match target with
  | none => .next (s.decodeError master request.addr.toNat)
  | some t =>
    if masterReaches master t = false then .next (s.decodeError master request.addr.toNat)
    else if master.val = 11 then .next s.accessTimeout
    else if 1000 * s.fld IC_TIMEOUT_US ≤ request.waited then .next s.icTimedOut
    else .next s

end Sys2Proof.Machine
end

