-- ==== Sys2Proof/Machine/Stats.lean ====
section
/-! DEFINITION. STATS_SNAPSHOT (R86, R329, R375, R503). -/

namespace Sys2Proof.Machine
open Reg

/-- Objects of a set. Sets 1 .. 8. -/
def statsCount (set : Nat) : Nat := [0, 1120, 1024, 64, 262144, 256, 512, 16, 2].getD set 0

/-- Bytes of a record of a set. -/
def statsBytes (set : Nat) : Nat :=
  match set with
  | 3 => 128
  | 4 => 32
  | 6 => 32
  | 8 => 256
  | _ => Config.statsSize set

/-- Consecutive registers as bytes. -/
def State.regBytes (s : State) (off n : Nat) : List Byte := wordBytes ((List.range n).map (fun i => s.readReg (off + 4 * i)))

/-- The record of a flow context (R329). -/
def State.flowRecord (s : State) (f : Nat) : List Byte :=
  match s.flow f with
  | none => List.replicate 32 0
  | some x => wordBytes [x.pkts, x.lost, x.dup, x.late, x.bad, bit x.down] ++ leBytes 8 x.last

/-- Channel o has a map entry with A_EN or B_EN. -/
def State.chanMapped (s : State) (o : Nat) : Bool := mapAEn (s.cfg.chan o).map0 || mapBEn (s.cfg.chan o).map1

/-- Every enabled input of a mapped channel is in underrun. -/
def State.chanSilent (s : State) (o : Nat) : Bool :=
  let x := s.cfg.chan o
  s.chanMapped o && (!mapAEn x.map0 || (s.chanIn (mapInA x.map0)).under) &&
    (!mapBEn x.map1 || (s.chanIn (mapInB x.map1)).under)

/-- The record of an output group (R375). -/
def State.groupRecord (s : State) (g : Nat) : List Byte :=
  let os := (List.range 64).map (fun i => 64 * g + i)
  let count := fun (p : Nat → Bool) => (os.filter p).length
  let ramping := fun (o : Nat) =>
    let x := s.chanOut o
    x.rampA.running || x.rampB.running || x.old.isSome || s.time.audioStepFade != 0
  let x := s.audGroup g
  wordBytes [count s.chanMapped + 2 ^ 16 * count ramping, x.clips, x.changes, count s.chanSilent] ++ leBytes 8 x.last ++
    List.replicate 8 0

/-- The record of object i of a set. -/
def State.statsRecord (s : State) (set i : Nat) : List Byte :=
  match set with
  | 3 => s.regBytes (0x1C0110 + 0x1000 * i) 32
  | 4 => s.flowRecord i
  | 6 => s.groupRecord i
  | 8 => s.regBytes (0x71100 + 0x1000 * i) 64
  | _ => (List.range (statsBytes set)).map (fun b => Config.statsByte set (s.free + i) b)

/-- The read-only registers of a block instance, from offset `lo` to below `hi` of the instance, go to 0. -/
def State.clearCounters (s : State) (b : Blk) (i base lo hi : Nat) (ok : Nat → Bool) : State :=
  let mine := b.fields.filter (fun f => f.ty == .ro && decide (lo ≤ f.base - base ∧ f.base - base < hi) && ok (f.base - base))
  s.each mine (fun s f => s.upTo f.n2 (fun s j => s.setFld f 0 i j))

/-- CLEAR of object i of a set. -/
def State.statsClear (s : State) (set i : Nat) : State :=
  match set with
  | 1 => s.clearCounters .src i 0x400000 0x54 0x64 (Config.statsClears 1)
  | 2 => s.clearCounters .dst i 0x600000 0x114 0x120 (Config.statsClears 2)
  | 3 => s.clearCounters .mport i 0x1C0000 0x110 0x178 (fun _ => true)
  | 4 => s.updFlow i (fun x => { x with pkts := 0, lost := 0, dup := 0, late := 0, bad := 0 })
  | 5 =>
    let s := s.clearCounters .sdirx i 0x180000 0x50 0x80 (fun off => off != 0x6C && Config.statsClears 5 off)
    s.clearCounters .sditx i 0x1A0000 0x44 0x80 (fun off => Config.statsClears 5 (0x200 + off))
  | 6 => s.setAudGroup i { s.audGroup i with clips := 0, changes := 0 }
  | 8 => s.clearCounters .tow i 0x71000 0x100 0x200 (fun _ => true)
  | _ => s

/-- STATS_SNAPSHOT: what it answers and the bytes it writes. -/
def State.opStats (s : State) (r : Request) : State × Done × List Byte :=
  let set := bitField (r.word 5) 0 4
  let first := bitField (r.word 6) 0 18
  let count := bitField (r.word 7) 0 19
  let field : Option Nat := if set = 0 ∨ 8 < set then some 0x14 else if 262144 < count then some 0x1C else none
  let index : Option Nat := if statsCount set < first + count then some (max first (statsCount set)) else none
  match s.entryChecks r [{ field := field, index := index }] (decide (r.hostLen < count * statsBytes set)) with
  | some d => (s, d, [])
  | none =>
    let ids := (List.range count).map (fun i => first + i)
    let bs := ids.flatMap (s.statsRecord set)
    let s' := s.when (bitAt (r.word 5) 8) (fun s => s.each ids (fun s i => s.statsClear set i))
    ({ s' with free := s'.free + first + count }, done s.now count, bs)

/-- STATS_SNAPSHOT: the counters of a set at one device time. `bad`: the address of a data write that failed. -/
def execStatsSnapshot (e : Fin 16) (bad : Option (BitVec 64)) (s : State) : Host.Outcome State Fault Refusal :=
  match s.holding e 0x34 with
  | none => .next s
  | some r =>
    let (s, d, bs) := s.opStats r
    .next (s.deliverData e r d bs bad)

end Sys2Proof.Machine
end

