-- ==== Sys2Proof/Machine/Tokens.lean ====
section
/-! DEFINITION. The tokens of device time in the order of R124: a token acts after those of the table's earlier rows that
are due at its instant. The rows of triggers, samples and ticks. -/

namespace Sys2Proof.Machine
open Reg

/-- PROBE_TRIGGER (R407): after the selection instants. -/
def execProbeTrigger (c : Fin 32) (s : State) : Host.Outcome State Fault Refusal := .next (s.selectTokens.triggerToken c)

/-- Every token due up to the probe triggers acts. -/
def State.probeTokens (s : State) : State := s.selectTokens.upTo 32 State.triggerToken

/-- AUDIO_BLOCK (R368). -/
def execAudioBlock (s : State) : Host.Outcome State Fault Refusal := .next s.probeTokens.blockToken

/-- SAMPLE_TICK (R366). -/
def execSampleTick (s : State) : Host.Outcome State Fault Refusal := .next s.probeTokens.sampleToken

/-- Every token due before a tick of R103 acts. -/
def State.tokens (s : State) : State := s.probeTokens.sampleToken

/-- REF_SELECTION_TICK (R107). -/
def execRefSelectionTick (m : TimeMeasure) (s : State) : Host.Outcome State Fault Refusal := .next (s.tokens.selectionTick m)

/-- HOLDOFF_EXPIRY (R108). -/
def execHoldoffExpiry (s : State) : Host.Outcome State Fault Refusal := .next s.tokens.holdoffPassed

/-- WTR_EXPIRY (R108). -/
def execWtrExpiry (s : State) : Host.Outcome State Fault Refusal := .next s.tokens.revert

/-- HOLDOVER_OOS (R114). -/
def execHoldoverOos (s : State) : Host.Outcome State Fault Refusal := .next s.tokens.holdoverOos

/-- LEASE_EXPIRY (R49). -/
def execLeaseExpiry (p : Fin 8) (s : State) : Host.Outcome State Fault Refusal := .next (s.tokens.lapse p)

/-- COALESCING_TIMEOUT (R92). -/
def execCoalescingTimeout (p : Fin 8) (ring : RingId) (s : State) : Host.Outcome State Fault Refusal :=
  .next (s.tokens.coalesced p ring)

/-- FENCE_TIMEOUT (R83). -/
def execFenceTimeout (p : Fin 8) (k : Fin 64) (s : State) : Host.Outcome State Fault Refusal :=
  .next (s.tokens.fenceTimeout p k)

end Sys2Proof.Machine
end

