-- ==== Sys2Proof/Machine/Writes.lean ====
section
/-! DEFINITION. Accesses of BAR0 and of the unmapped part of BAR2 by hosts: the rows that are one write or read of a
register. Each goes the way of every host access (R35 .. R39); `w` is the partition that writes, `r` the one that reads. -/

namespace Sys2Proof.Machine
open Reg

/-- A word with a field at a value. -/
def putBits (v lo w x : Nat) : Nat := v - bitField v lo w * 2 ^ lo + x % 2 ^ w * 2 ^ lo

/-- What a register reads as, with a field at a value: a write that changes this field alone. -/
def State.withField (s : State) (off lo w x : Nat) : Nat := putBits (s.readReg off) lo w x

/-- PCB[p]. -/
def pcbOff (p : Nat) : Nat := 0x1000 + 0x1000 * p

/-- The registers of a ring of partition p (R58). -/
def ringOff (p : Nat) : RingId → Nat
  | .cmd k => pcbOff p + 0x100 + 0x20 * k.val
  | .evt e => pcbOff p + 0x900 + 0x20 * e.val

/-! ### Accesses in general -/

/-- REGISTER_WRITE (R39). -/
def execRegisterWrite (w : Fin 8) (off : BitVec 26) (width : Nat) (val : BitVec 64) (s : State) :
    Host.Outcome State Fault Refusal :=
  .next (s.hostWrite w off.toNat width val.toNat)

/-- BAR0_READ_ERROR (R37), and a read that passes its checks. -/
def execBar0ReadError (r : Fin 8) (off : BitVec 26) (width : Nat) (s : State) : Host.Outcome State Fault Refusal :=
  .next (s.hostRead r off.toNat width)

/-- What a doorbell reads as; none where BAR2 has none (R33, R62). -/
def State.doorbell (s : State) (p off : Nat) : Option Nat :=
  if off < 0x40000 ∧ off % 0x1000 = 0 then some (s.ring p (off / 0x1000)).tail
  else if off < 0x40000 ∧ off % 0x1000 = 0x800 then some (s.ring p (off / 0x1000)).cqHead
  else if 0x40000 ≤ off ∧ off < 0x44000 ∧ off % 0x1000 = 0 then some (s.evtRing p ((off - 0x40000) / 0x1000)).head
  else none

/-- BAR2_ACCESS_ERROR (R62), and a read of a doorbell. -/
def execBar2AccessError (r : Fin 8) (off : BitVec 19) (isRead : Bool) (s : State) : Host.Outcome State Fault Refusal :=
  match s.doorbell r off.toNat with
  | some v => .next (s.when isRead (fun s => s.emit (.readAnswer r 0 v)))
  | none =>
    let s := s.logError r PCB_UNMAPPED 1 off.toNat
    .next (s.when isRead (fun s => s.emit (.readAnswer r (if r.val = 0 then 0 else 1) 0)))

/-- TM_NOW_LO (R102). -/
def execTmNowLo (r : Fin 8) (s : State) : Host.Outcome State Fault Refusal := .next (s.hostRead r 0x30008 4)

/-- FL_DATA_READ (R516). -/
def execFlDataRead (r : Fin 8) (s : State) : Host.Outcome State Fault Refusal := .next (s.hostRead r 0x42024 4)

/-! ### Writes of one register -/

/-- ACCERR_CLEAR (R37): a write of PCB_ACCERR. -/
def execAccerrClear (w p : Fin 8) (val : Word) (s : State) : Host.Outcome State Fault Refusal :=
  .next (s.write32 w (pcbOff p + 0x30) (val.toNat))

/-- PART_RST (R54). -/
def execPartRst (w p : Fin 8) (s : State) : Host.Outcome State Fault Refusal :=
  .next (s.write32 w (pcbOff p + 8) (s.withField (pcbOff p + 8) 0 1 1))

/-- CLAIM (R45). -/
def execClaim (w p : Fin 8) (ori : BitVec 12) (s : State) : Host.Outcome State Fault Refusal :=
  .next (s.write32 w (pcbOff p + 0x20) (ori.toNat + 1 * 2 ^ 12))

/-- RELEASE (R45). -/
def execRelease (w p : Fin 8) (ori : BitVec 12) (s : State) : Host.Outcome State Fault Refusal :=
  .next (s.write32 w (pcbOff p + 0x20) (ori.toNat + 2 * 2 ^ 12))

/-- SHARE (R45). -/
def execShare (w p : Fin 8) (ori : BitVec 12) (s : State) : Host.Outcome State Fault Refusal :=
  .next (s.write32 w (pcbOff p + 0x20) (ori.toNat + 3 * 2 ^ 12))

/-- UNSHARE (R45). -/
def execUnshare (w p : Fin 8) (ori : BitVec 12) (s : State) : Host.Outcome State Fault Refusal :=
  .next (s.write32 w (pcbOff p + 0x20) (ori.toNat + 4 * 2 ^ 12))

/-- ASSIGN (R45). -/
def execAssign (w p : Fin 8) (ori : BitVec 12) (target : Fin 8) (s : State) : Host.Outcome State Fault Refusal :=
  .next (s.write32 w (pcbOff p + 0x20) (ori.toNat + 5 * 2 ^ 12 + target * 2 ^ 16))

/-- HEARTBEAT (R49). -/
def execHeartbeat (w p : Fin 8) (s : State) : Host.Outcome State Fault Refusal := .next (s.write32 w (pcbOff p + 0x14) (1))

/-- LEASE_MS (R48). -/
def execLeaseMs (w p : Fin 8) (val : Word) (s : State) : Host.Outcome State Fault Refusal :=
  .next (s.write32 w (pcbOff p + 0x10) (val.toNat))

/-- REVOKE (R51). -/
def execRevoke (w p : Fin 8) (s : State) : Host.Outcome State Fault Refusal :=
  .next (s.write32 w (pcbOff p + 8) (s.withField (pcbOff p + 8) 1 1 1))

/-- PCB_ENABLE_SET (R55). -/
def execPcbEnableSet (w p : Fin 8) (s : State) : Host.Outcome State Fault Refusal :=
  .next (s.write32 w (pcbOff p + 8) (0x100))

/-- PCB_ENABLE_CLEAR (R55). -/
def execPcbEnableClear (w p : Fin 8) (s : State) : Host.Outcome State Fault Refusal := .next (s.write32 w (pcbOff p + 8) (0))

/-- RING_ENABLE (R59). -/
def execRingEnable (w p : Fin 8) (ring : RingId) (val : Word) (s : State) : Host.Outcome State Fault Refusal :=
  .next (s.write32 w (ringOff p ring + 0x10) (putBits val.toNat 8 1 1))

/-- RING_DISABLE (R59). -/
def execRingDisable (w p : Fin 8) (ring : RingId) (val : Word) (s : State) : Host.Outcome State Fault Refusal :=
  .next (s.write32 w (ringOff p ring + 0x10) (putBits val.toNat 8 1 0))

/-- HOST_FAULT_CLEAR (R66). -/
def execHostFaultClear (w p : Fin 8) (ring : RingId) (s : State) : Host.Outcome State Fault Refusal :=
  .next (s.write32 w (ringOff p ring + 0x1C) (8))

/-- CMD_FREEZE (R97). -/
def execCmdFreeze (w : Fin 8) (e : Fin 16) (freeze : Bool) (s : State) : Host.Outcome State Fault Refusal :=
  .next (s.write32 w (0x18000 + 0x100 * e) (bit freeze))

/-- ENG_RST (R98). -/
def execEngRst (w : Fin 8) (e : Fin 16) (s : State) : Host.Outcome State Fault Refusal :=
  .next (s.write32 w (0x18000 + 0x100 * e) (s.withField (0x18000 + 0x100 * e) 1 1 1))

/-- WDOG_US (R98). -/
def execWdogUs (w : Fin 8) (e : Fin 16) (val : Word) (s : State) : Host.Outcome State Fault Refusal :=
  .next (s.write32 w (0x18008 + 0x100 * e) (val.toNat))

/-- LFSR_SEED (R97). -/
def execLfsrSeed (w : Fin 8) (e : Fin 16) (val : Word) (s : State) : Host.Outcome State Fault Refusal :=
  .next (s.write32 w (0x1800C + 0x100 * e) (val.toNat))

/-- PRIO_WRITE (R108). -/
def execPrioWrite (w : Fin 8) (r : Fin 11) (val : Word) (s : State) : Host.Outcome State Fault Refusal :=
  .next (s.write32 w (0x30100 + 0x20 * r) (val.toNat))

/-- SET_GO (R115, R116). -/
def execSetGo (w : Fin 8) (s : State) : Host.Outcome State Fault Refusal := .next (s.write32 w (0x30038) (1))

/-- OFFSET_NS (R121). -/
def execOffsetNs (w : Fin 8) (plane : Fin 8) (val : Word) (s : State) : Host.Outcome State Fault Refusal :=
  .next (s.write32 w (0x30404 + 0x40 * plane) (val.toNat))

/-- DISCARD (R188). -/
def execDiscard (w p : Fin 8) (s : State) : Host.Outcome State Fault Refusal :=
  .next (s.write32 w (pcbOff p + 0xA04) (0x100))

/-- DST_ENABLE (R215). -/
def execDstEnable (w : Fin 8) (d : Fin 1024) (s : State) : Host.Outcome State Fault Refusal :=
  .next (s.write32 w (0x600000 + 0x400 * d) (1))

/-- DST_DISABLE (R216). -/
def execDstDisable (w : Fin 8) (d : Fin 1024) (s : State) : Host.Outcome State Fault Refusal :=
  .next (s.write32 w (0x600000 + 0x400 * d) (0))

/-- MPORT_ENABLE (R303). -/
def execMportEnable (w : Fin 8) (m : Fin 64) (s : State) : Host.Outcome State Fault Refusal :=
  .next (s.write32 w (0x1C0000 + 0x1000 * m) (s.withField (0x1C0000 + 0x1000 * m) 8 1 1))

/-- MPORT_DISABLE (R303). -/
def execMportDisable (w : Fin 8) (m : Fin 64) (s : State) : Host.Outcome State Fault Refusal :=
  .next (s.write32 w (0x1C0000 + 0x1000 * m) (s.withField (0x1C0000 + 0x1000 * m) 8 1 0))

/-- HP_RX_HEAD (R310). -/
def execHpRxHead (w : Fin 8) (m : Fin 64) (val : Word) (s : State) : Host.Outcome State Fault Refusal :=
  .next (s.write32 w (0x1C0000 + 0x1000 * m + 0x4C) (val.toNat))

/-- HP_TX_TAIL (R310). -/
def execHpTxTail (w : Fin 8) (m : Fin 64) (val : Word) (s : State) : Host.Outcome State Fault Refusal :=
  .next (s.write32 w (0x1C0000 + 0x1000 * m + 0x5C) (val.toNat))

/-- HP_RING_ENABLE (R310). -/
def execHpRingEnable (w : Fin 8) (m : Fin 64) (tx : Bool) (val : Word) (s : State) : Host.Outcome State Fault Refusal :=
  .next (s.write32 w (0x1C0000 + 0x1000 * m + (if tx then 0x58 else 0x48)) (val.toNat))

/-- LANE_POWER_UP (R338). -/
def execLanePowerUp (w : Fin 8) (l : Fin 584) (s : State) : Host.Outcome State Fault Refusal :=
  .next (s.write32 w (0x100000 + 0x200 * l) (s.withField (0x100000 + 0x200 * l) 0 1 1))

/-- LANE_POWER_DOWN (R338). -/
def execLanePowerDown (w : Fin 8) (l : Fin 584) (s : State) : Host.Outcome State Fault Refusal :=
  .next (s.write32 w (0x100000 + 0x200 * l) (s.withField (0x100000 + 0x200 * l) 0 1 0))

/-- TXEQ_WRITE (R341). -/
def execTxeqWrite (w : Fin 8) (l : Fin 584) (val : Word) (s : State) : Host.Outcome State Fault Refusal :=
  .next (s.write32 w (0x100000 + 0x200 * l + 4) (val.toNat))

/-- LOOP_WRITE (R346): a write of the word that holds LOOP and the PRBS fields. -/
def execLoopWrite (w : Fin 8) (l : Fin 584) (val : Word) (s : State) : Host.Outcome State Fault Refusal :=
  .next (s.write32 w (0x100000 + 0x200 * l) (val.toNat))

/-- PRBS_CHK_WRITE (R344): a write of the word that holds PRBS_CHK. -/
def execPrbsChkWrite (w : Fin 8) (l : Fin 584) (val : Word) (s : State) : Host.Outcome State Fault Refusal :=
  .next (s.write32 w (0x100000 + 0x200 * l) (val.toNat))

/-- ES_GO (R342). -/
def execEsGo (w : Fin 8) (l : Fin 584) (s : State) : Host.Outcome State Fault Refusal :=
  .next (s.write32 w (0x100000 + 0x200 * l + 0x84) (1))

/-- AIN_WRITE (R357, R361). -/
def execAinWrite (w : Fin 8) (n : Fin 1024) (word : Fin 2) (val : Word) (s : State) : Host.Outcome State Fault Refusal :=
  .next (s.write32 w (0x81000 + 8 * n + 4 * word) (val.toNat))

/-- AGRP_WRITE (R365). -/
def execAgrpWrite (w : Fin 8) (g : Fin 512) (val : Word) (s : State) : Host.Outcome State Fault Refusal :=
  .next (s.write32 w (0x85000 + 8 * g) (val.toNat))

/-- EMB_WRITE (R370, R372). -/
def execEmbWrite (w : Fin 8) (d : Fin 1024) (word : Fin 2) (val : Word) (s : State) : Host.Outcome State Fault Refusal :=
  .next (s.write32 w (0x83000 + 8 * d + 4 * word) (val.toNat))

/-- AESIN_ENABLE (R380). -/
def execAesinEnable (w : Fin 8) (i : Fin 64) (en : Bool) (s : State) : Host.Outcome State Fault Refusal :=
  .next (s.write32 w (0x90000 + 0x100 * i) (s.withField (0x90000 + 0x100 * i) 0 1 (bit en)))

/-- AESIN_BIND (R380). -/
def execAesinBind (w : Fin 8) (i : Fin 64) (word : Fin 2) (val : Word) (s : State) : Host.Outcome State Fault Refusal :=
  .next (s.write32 w (0x90000 + 0x100 * i + 4 * word) (val.toNat))

/-- AESOUT_ENABLE (R387). -/
def execAesoutEnable (w : Fin 8) (o : Fin 64) (s : State) : Host.Outcome State Fault Refusal :=
  .next (s.write32 w (0x94000 + 0x100 * o) (s.withField (0x94000 + 0x100 * o) 0 1 1))

/-- AESOUT_DISABLE (R387). -/
def execAesoutDisable (w : Fin 8) (o : Fin 64) (s : State) : Host.Outcome State Fault Refusal :=
  .next (s.write32 w (0x94000 + 0x100 * o) (s.withField (0x94000 + 0x100 * o) 0 1 0))

/-- OUT_CH (R383). -/
def execOutCh (w : Fin 8) (o : Fin 64) (val : Word) (s : State) : Host.Outcome State Fault Refusal :=
  .next (s.write32 w (0x94004 + 0x100 * o) (val.toNat))

/-- ANCQ_ENABLE (R402). -/
def execAncqEnable (w : Fin 8) (q : Fin 256) (s : State) : Host.Outcome State Fault Refusal :=
  .next (s.write32 w (0xA0000 + 0x40 * q) (s.withField (0xA0000 + 0x40 * q) 0 1 1))

/-- ANCQ_DISABLE (R402). -/
def execAncqDisable (w : Fin 8) (q : Fin 256) (s : State) : Host.Outcome State Fault Refusal :=
  .next (s.write32 w (0xA0000 + 0x40 * q) (s.withField (0xA0000 + 0x40 * q) 0 1 0))

/-- FSRC_WRITE (R394). -/
def execFsrcWrite (w : Fin 8) (q : Fin 256) (val : Word) (s : State) : Host.Outcome State Fault Refusal :=
  .next (s.write32 w (0xA0008 + 0x40 * q) (val.toNat))

/-- WATERMARK_WRITE (R400). -/
def execWatermarkWrite (w : Fin 8) (q : Fin 256) (val : Word) (s : State) : Host.Outcome State Fault Refusal :=
  .next (s.write32 w (0xA0010 + 0x40 * q) (val.toNat))

/-- CONSUMER_WRITE (R401). -/
def execConsumerWrite (w : Fin 8) (q : Fin 256) (val : Word) (s : State) : Host.Outcome State Fault Refusal :=
  .next (s.write32 w (0xA0000 + 0x40 * q) (val.toNat))

/-- PROBE_WINDOW_WRITE (R417). -/
def execProbeWindowWrite (w : Fin 8) (c : Fin 32) (win : Fin 4) (word : Fin 6) (val : Word) (s : State) : Host.Outcome State Fault Refusal :=
  .next (s.write32 w (0xB0080 + 0x400 * c + 0x20 * win + 4 * word) (val.toNat))

/-- FLT_SEV_WRITE (R458). -/
def execFltSevWrite (w : Fin 8) (source : Fin 1024) (val : Word) (s : State) : Host.Outcome State Fault Refusal :=
  .next (s.write32 w (0x25000 + 4 * source) (val.toNat))

/-- ACK_GO (R462). -/
def execAckGo (w : Fin 8) (record : Fin 16) (s : State) : Host.Outcome State Fault Refusal :=
  .next (s.write32 w (0x24008) (record + 0x100))

/-- TOW_ENABLE (R500). -/
def execTowEnable (w : Fin 8) (b : Fin 2) (val : Word) (s : State) : Host.Outcome State Fault Refusal :=
  .next (s.write32 w (0x71000 + 0x1000 * b) (putBits val.toNat 0 1 1))

/-- TOW_DISABLE (R500). -/
def execTowDisable (w : Fin 8) (b : Fin 2) (val : Word) (s : State) : Host.Outcome State Fault Refusal :=
  .next (s.write32 w (0x71000 + 0x1000 * b) (putBits val.toNat 0 1 0))

/-- TX_GO (R499). -/
def execTxGo (w : Fin 8) (b : Fin 2) (s : State) : Host.Outcome State Fault Refusal :=
  .next (s.write32 w (0x71000 + 0x1000 * b + 8) (1))

/-- TX_FLUSH (R500). -/
def execTxFlush (w : Fin 8) (b : Fin 2) (s : State) : Host.Outcome State Fault Refusal :=
  .next (s.write32 w (0x71000 + 0x1000 * b + 8) (2))

/-- RX_POP (R498). -/
def execRxPop (w : Fin 8) (b : Fin 2) (s : State) : Host.Outcome State Fault Refusal :=
  .next (s.write32 w (0x71000 + 0x1000 * b + 8) (4))

/-- WARM_RST (R526). -/
def execWarmRst (w : Fin 8) (s : State) : Host.Outcome State Fault Refusal := .next (s.write32 w (0xC) (1))

/-- FL_DATA_WRITE (R516). -/
def execFlDataWrite (w : Fin 8) (val : Word) (s : State) : Host.Outcome State Fault Refusal :=
  .next (s.write32 w (0x42024) (val.toNat))

/-- ERASE (R516). -/
def execErase (w : Fin 8) (s : State) : Host.Outcome State Fault Refusal := .next (s.write32 w (0x42028) (1))

/-- PROGRAM (R516). -/
def execProgram (w : Fin 8) (s : State) : Host.Outcome State Fault Refusal := .next (s.write32 w (0x42028) (2))

/-- DELTA_GO (R517). -/
def execDeltaGo (w : Fin 8) (s : State) : Host.Outcome State Fault Refusal := .next (s.write32 w (0x42028) (3))

/-- PREF_A (R512). -/
def execPrefA (w : Fin 8) (s : State) : Host.Outcome State Fault Refusal := .next (s.write32 w (0x42028) (4))

/-- PREF_B (R512). -/
def execPrefB (w : Fin 8) (s : State) : Host.Outcome State Fault Refusal := .next (s.write32 w (0x42028) (5))

/-- SAVE (R525). -/
def execSave (w : Fin 8) (s : State) : Host.Outcome State Fault Refusal := .next (s.write32 w (0x42028) (6))

/-- BLOW_DBG (R520). -/
def execBlowDbg (w : Fin 8) (s : State) : Host.Outcome State Fault Refusal := .next (s.write32 w (0x42044) (1))

/-- FUSE_KEY (R520). -/
def execFuseKey (w : Fin 8) (val : Word) (s : State) : Host.Outcome State Fault Refusal :=
  .next (s.write32 w (0x42040) (val.toNat))

/-- DOMAIN_GATE_REQUEST (R530). -/
def execDomainGateRequest (w : Fin 8) (d : Fin 184) (s : State) : Host.Outcome State Fault Refusal :=
  .next (s.write32 w (0x41100 + 4 * d) (0))

/-- DOMAIN_WAKE_REQUEST (R530). -/
def execDomainWakeRequest (w : Fin 8) (d : Fin 184) (s : State) : Host.Outcome State Fault Refusal :=
  .next (s.write32 w (0x41100 + 4 * d) (1))

/-- ISL_RST (R25). -/
def execIslRst (w : Fin 8) (d : Fin 184) (s : State) : Host.Outcome State Fault Refusal :=
  .next (s.write32 w (0x41100 + 4 * d) (s.withField (0x41100 + 4 * d) 8 1 1))

/-- DEC_SEEN (R550). -/
def execDecSeen (w : Fin 8) (s : State) : Host.Outcome State Fault Refusal := .next (s.write32 w (0x43054) (1))

end Sys2Proof.Machine
end

