-- ==== Sys2Proof/Machine/Dispatch.lean ====
section
/-! DEFINITION. Dispatch: one arm per command of the table. -/

namespace Sys2Proof.Machine

/-- The effect of a command on everything but the queue. -/
def exec (i : Instr) (s : State) : Host.Outcome State Fault Refusal :=
  match i with
  | .registerWrite w off width val => Sys2Proof.Machine.execRegisterWrite w off width val s
  | .bar0ReadError r off width => Sys2Proof.Machine.execBar0ReadError r off width s
  | .bar2AccessError r off isRead => Sys2Proof.Machine.execBar2AccessError r off isRead s
  | .accerrClear w p val => Sys2Proof.Machine.execAccerrClear w p val s
  | .perstRelease ep => Sys2Proof.Machine.execPerstRelease ep s
  | .pcieLinkDown ep => Sys2Proof.Machine.execPcieLinkDown ep s
  | .hotReset ep => Sys2Proof.Machine.execHotReset ep s
  | .functionLevelReset p => Sys2Proof.Machine.execFunctionLevelReset p s
  | .partRst w p => Sys2Proof.Machine.execPartRst w p s
  | .claim w p ori => Sys2Proof.Machine.execClaim w p ori s
  | .release w p ori => Sys2Proof.Machine.execRelease w p ori s
  | .share w p ori => Sys2Proof.Machine.execShare w p ori s
  | .unshare w p ori => Sys2Proof.Machine.execUnshare w p ori s
  | .assign w p ori target => Sys2Proof.Machine.execAssign w p ori target s
  | .heartbeat w p => Sys2Proof.Machine.execHeartbeat w p s
  | .leaseMs w p val => Sys2Proof.Machine.execLeaseMs w p val s
  | .leaseExpiry p => Sys2Proof.Machine.execLeaseExpiry p s
  | .revoke w p => Sys2Proof.Machine.execRevoke w p s
  | .revocationTransfer p => Sys2Proof.Machine.execRevocationTransfer p s
  | .pcbEnableSet w p => Sys2Proof.Machine.execPcbEnableSet w p s
  | .pcbEnableClear w p => Sys2Proof.Machine.execPcbEnableClear w p s
  | .ringEnable w p ring val => Sys2Proof.Machine.execRingEnable w p ring val s
  | .ringDisable w p ring val => Sys2Proof.Machine.execRingDisable w p ring val s
  | .commandTailDoorbell p k width val => Sys2Proof.Machine.execCommandTailDoorbell p k width val s
  | .completionHeadDoorbell p k width val => Sys2Proof.Machine.execCompletionHeadDoorbell p k width val s
  | .eventHeadDoorbell p e width val => Sys2Proof.Machine.execEventHeadDoorbell p e width val s
  | .ringFetch p k answer => Sys2Proof.Machine.execRingFetch p k answer s
  | .descriptorReadError p access addr => Sys2Proof.Machine.execDescriptorReadError p access addr s
  | .bufferRead p k answer => Sys2Proof.Machine.execBufferRead p k answer s
  | .hostFaultClear w p ring => Sys2Proof.Machine.execHostFaultClear w p ring s
  | .enginePlacement p k => Sys2Proof.Machine.execEnginePlacement p k s
  | .engineDraw e => Sys2Proof.Machine.execEngineDraw e s
  | .cmdFreeze w e freeze => Sys2Proof.Machine.execCmdFreeze w e freeze s
  | .engRst w e => Sys2Proof.Machine.execEngRst w e s
  | .wdogUs w e val => Sys2Proof.Machine.execWdogUs w e val s
  | .lfsrSeed w e val => Sys2Proof.Machine.execLfsrSeed w e val s
  | .engineStuck e => Sys2Proof.Machine.execEngineStuck e s
  | .coalescingTimeout p ring => Sys2Proof.Machine.execCoalescingTimeout p ring s
  | .nop e => Sys2Proof.Machine.execNop e s
  | .badOpcode e => Sys2Proof.Machine.execBadOpcode e s
  | .fence e => Sys2Proof.Machine.execFence e s
  | .fenceMet p k => Sys2Proof.Machine.execFenceMet p k s
  | .fenceTimeout p k => Sys2Proof.Machine.execFenceTimeout p k s
  | .route e => Sys2Proof.Machine.execRoute e s
  | .routeBulk e => Sys2Proof.Machine.execRouteBulk e s
  | .audioMap e => Sys2Proof.Machine.execAudioMap e s
  | .audioGain e => Sys2Proof.Machine.execAudioGain e s
  | .layer e => Sys2Proof.Machine.execLayer e s
  | .compositorSet e => Sys2Proof.Machine.execCompositorSet e s
  | .freshPolicy e => Sys2Proof.Machine.execFreshPolicy e s
  | .commit e => Sys2Proof.Machine.execCommit e s
  | .commitAbort e => Sys2Proof.Machine.execCommitAbort e s
  | .bankFlip e => Sys2Proof.Machine.execBankFlip e s
  | .bankFlipAbort e => Sys2Proof.Machine.execBankFlipAbort e s
  | .alloc e => Sys2Proof.Machine.execAlloc e s
  | .graphicLoad e => Sys2Proof.Machine.execGraphicLoad e s
  | .thumbCapture e => Sys2Proof.Machine.execThumbCapture e s
  | .thumbCaptureDone p k fail => Sys2Proof.Machine.execThumbCaptureDone p k fail s
  | .ancDrain e fail => Sys2Proof.Machine.execAncDrain e fail s
  | .ancInsert e => Sys2Proof.Machine.execAncInsert e s
  | .statsSnapshot e fail => Sys2Proof.Machine.execStatsSnapshot e fail s
  | .flowAdd e => Sys2Proof.Machine.execFlowAdd e s
  | .flowDel e => Sys2Proof.Machine.execFlowDel e s
  | .probeLoad e => Sys2Proof.Machine.execProbeLoad e s
  | .probeStart e => Sys2Proof.Machine.execProbeStart e s
  | .probeStop e => Sys2Proof.Machine.execProbeStop e s
  | .probeReset e => Sys2Proof.Machine.execProbeReset e s
  | .probeResetStart e => Sys2Proof.Machine.execProbeResetStart e s
  | .timeQuery e => Sys2Proof.Machine.execTimeQuery e s
  | .acceptStep e => Sys2Proof.Machine.execAcceptStep e s
  | .handover e => Sys2Proof.Machine.execHandover e s
  | .tmNowLo r => Sys2Proof.Machine.execTmNowLo r s
  | .refSignalPresent r => Sys2Proof.Machine.execRefSignalPresent r s
  | .refQualified r => Sys2Proof.Machine.execRefQualified r s
  | .refLoss loss => Sys2Proof.Machine.execRefLoss loss s
  | .holdoffExpiry => Sys2Proof.Machine.execHoldoffExpiry s
  | .refSelectionTick m => Sys2Proof.Machine.execRefSelectionTick m s
  | .wtrExpiry => Sys2Proof.Machine.execWtrExpiry s
  | .prioWrite w r val => Sys2Proof.Machine.execPrioWrite w r val s
  | .lockAcquired => Sys2Proof.Machine.execLockAcquired s
  | .lockLost => Sys2Proof.Machine.execLockLost s
  | .holdoverOos => Sys2Proof.Machine.execHoldoverOos s
  | .setGo w => Sys2Proof.Machine.execSetGo w s
  | .offsetNs w plane val => Sys2Proof.Machine.execOffsetNs w plane val s
  | .wclkLost => Sys2Proof.Machine.execWclkLost s
  | .frameStart plane => Sys2Proof.Machine.execFrameStart plane s
  | .lineStart plane late => Sys2Proof.Machine.execLineStart plane late s
  | .selectionInstant reader => Sys2Proof.Machine.execSelectionInstant reader s
  | .sampleTick => Sys2Proof.Machine.execSampleTick s
  | .audioBlock => Sys2Proof.Machine.execAudioBlock s
  | .milepost => Sys2Proof.Machine.execMilepost s
  | .stagingDeadline => Sys2Proof.Machine.execStagingDeadline s
  | .decisionInstant late => Sys2Proof.Machine.execDecisionInstant late s
  | .flipSettle p => Sys2Proof.Machine.execFlipSettle p s
  | .discard w p => Sys2Proof.Machine.execDiscard w p s
  | .sourceFrameStart rx cut => Sys2Proof.Machine.execSourceFrameStart rx cut s
  | .sdiFrameEnd rx frame => Sys2Proof.Machine.execSdiFrameEnd rx frame s
  | .slotClose n => Sys2Proof.Machine.execSlotClose n s
  | .closeDeadline n => Sys2Proof.Machine.execCloseDeadline n s
  | .eccCorrected stack qp byte scrub => Sys2Proof.Machine.execEccCorrected stack qp byte scrub s
  | .memUe stack qp line byte => Sys2Proof.Machine.execMemUe stack qp line byte s
  | .scrubPassEnd stack finished => Sys2Proof.Machine.execScrubPassEnd stack finished s
  | .tempSensorRead die hbm => Sys2Proof.Machine.execTempSensorRead die hbm s
  | .dstEnable w d => Sys2Proof.Machine.execDstEnable w d s
  | .dstDisable w d => Sys2Proof.Machine.execDstDisable w d s
  | .sdiLaneLock l rate => Sys2Proof.Machine.execSdiLaneLock l rate s
  | .sdiLoss rx cut => Sys2Proof.Machine.execSdiLoss rx cut s
  | .quadMemberLost l skew => Sys2Proof.Machine.execQuadMemberLost l skew s
  | .quadMemberRejoin l => Sys2Proof.Machine.execQuadMemberRejoin l s
  | .ancPacketReceived rx packet => Sys2Proof.Machine.execAncPacketReceived rx packet s
  | .mportEnable w m => Sys2Proof.Machine.execMportEnable w m s
  | .mportDisable w m => Sys2Proof.Machine.execMportDisable w m s
  | .portUp m => Sys2Proof.Machine.execPortUp m s
  | .portDown m => Sys2Proof.Machine.execPortDown m s
  | .linkTrainingEnd l taps => Sys2Proof.Machine.execLinkTrainingEnd l taps s
  | .mediaFrameReceive m frame => Sys2Proof.Machine.execMediaFrameReceive m frame s
  | .shortPathLookup isl => Sys2Proof.Machine.execShortPathLookup isl s
  | .hpRxHead w m val => Sys2Proof.Machine.execHpRxHead w m val s
  | .hpTxTail w m val => Sys2Proof.Machine.execHpTxTail w m val s
  | .hpRingEnable w m tx val => Sys2Proof.Machine.execHpRingEnable w m tx val s
  | .hpTxSend m answer => Sys2Proof.Machine.execHpTxSend m answer s
  | .flowLegDown f => Sys2Proof.Machine.execFlowLegDown f s
  | .netLoss n => Sys2Proof.Machine.execNetLoss n s
  | .sendPacketDue f => Sys2Proof.Machine.execSendPacketDue f s
  | .lanePllUnlock pll => Sys2Proof.Machine.execLanePllUnlock pll s
  | .lanePllRelock pll => Sys2Proof.Machine.execLanePllRelock pll s
  | .lanePowerUp w l => Sys2Proof.Machine.execLanePowerUp w l s
  | .lanePowerDown w l => Sys2Proof.Machine.execLanePowerDown w l s
  | .laneReady l => Sys2Proof.Machine.execLaneReady l s
  | .adaptDone l eq => Sys2Proof.Machine.execAdaptDone l eq s
  | .txeqWrite w l val => Sys2Proof.Machine.execTxeqWrite w l val s
  | .loopWrite w l val => Sys2Proof.Machine.execLoopWrite w l val s
  | .prbsChkWrite w l val => Sys2Proof.Machine.execPrbsChkWrite w l val s
  | .esGo w l => Sys2Proof.Machine.execEsGo w l s
  | .esDone l errors => Sys2Proof.Machine.execEsDone l errors s
  | .esAbort l errors bits => Sys2Proof.Machine.execEsAbort l errors bits s
  | .cwBlockLockGained seen => Sys2Proof.Machine.execCwBlockLockGained seen s
  | .cwLaneDown l headers => Sys2Proof.Machine.execCwLaneDown l headers s
  | .alignmentMarker l marker bip skew => Sys2Proof.Machine.execAlignmentMarker l marker bip skew s
  | .cwMarkerSend => Sys2Proof.Machine.execCwMarkerSend s
  | .filler arrived => Sys2Proof.Machine.execFiller arrived s
  | .ainWrite w n word val => Sys2Proof.Machine.execAinWrite w n word val s
  | .agrpWrite w g val => Sys2Proof.Machine.execAgrpWrite w g val s
  | .embWrite w d word val => Sys2Proof.Machine.execEmbWrite w d word val s
  | .asrcLock feed => Sys2Proof.Machine.execAsrcLock feed s
  | .aesinEnable w ix en => Sys2Proof.Machine.execAesinEnable w ix en s
  | .aesinBind w ix word val => Sys2Proof.Machine.execAesinBind w ix word val s
  | .aesFrame ix frame => Sys2Proof.Machine.execAesFrame ix frame s
  | .zPreamble ix => Sys2Proof.Machine.execZPreamble ix s
  | .channelStatusBlock ix => Sys2Proof.Machine.execChannelStatusBlock ix s
  | .aesLoss ix => Sys2Proof.Machine.execAesLoss ix s
  | .aesoutEnable w o => Sys2Proof.Machine.execAesoutEnable w o s
  | .aesoutDisable w o => Sys2Proof.Machine.execAesoutDisable w o s
  | .outCh w o val => Sys2Proof.Machine.execOutCh w o val s
  | .ancqEnable w q => Sys2Proof.Machine.execAncqEnable w q s
  | .ancqDisable w q => Sys2Proof.Machine.execAncqDisable w q s
  | .fsrcWrite w q val => Sys2Proof.Machine.execFsrcWrite w q val s
  | .watermarkWrite w q val => Sys2Proof.Machine.execWatermarkWrite w q val s
  | .consumerWrite w q val => Sys2Proof.Machine.execConsumerWrite w q val s
  | .probeTrigger c => Sys2Proof.Machine.execProbeTrigger c s
  | .probeFillDone c => Sys2Proof.Machine.execProbeFillDone c s
  | .probeWindowWrite w c win word val => Sys2Proof.Machine.execProbeWindowWrite w c win word val s
  | .probeNop c => Sys2Proof.Machine.execProbeNop c s
  | .halt c => Sys2Proof.Machine.execHalt c s
  | .br c => Sys2Proof.Machine.execBr c s
  | .call c => Sys2Proof.Machine.execCall c s
  | .ret c => Sys2Proof.Machine.execRet c s
  | .lp c => Sys2Proof.Machine.execLp c s
  | .lpr c => Sys2Proof.Machine.execLpr c s
  | .lpx c => Sys2Proof.Machine.execLpx c s
  | .ldi c => Sys2Proof.Machine.execLdi c s
  | .mov c => Sys2Proof.Machine.execMov c s
  | .add c => Sys2Proof.Machine.execAdd c s
  | .sub c => Sys2Proof.Machine.execSub c s
  | .andReg c => Sys2Proof.Machine.execAndReg c s
  | .orReg c => Sys2Proof.Machine.execOrReg c s
  | .xorReg c => Sys2Proof.Machine.execXorReg c s
  | .cmp c => Sys2Proof.Machine.execCmp c s
  | .addi c => Sys2Proof.Machine.execAddi c s
  | .cmpi c => Sys2Proof.Machine.execCmpi c s
  | .andi c => Sys2Proof.Machine.execAndi c s
  | .shl c => Sys2Proof.Machine.execShl c s
  | .shr c => Sys2Proof.Machine.execShr c s
  | .sra c => Sys2Proof.Machine.execSra c s
  | .absReg c => Sys2Proof.Machine.execAbsReg c s
  | .minReg c => Sys2Proof.Machine.execMinReg c s
  | .maxReg c => Sys2Proof.Machine.execMaxReg c s
  | .ld c => Sys2Proof.Machine.execLd c s
  | .st c => Sys2Proof.Machine.execSt c s
  | .ldd c => Sys2Proof.Machine.execLdd c s
  | .setx c => Sys2Proof.Machine.execSetx c s
  | .movx c => Sys2Proof.Machine.execMovx c s
  | .getx c => Sys2Proof.Machine.execGetx c s
  | .gets c => Sys2Proof.Machine.execGets c s
  | .mpy c => Sys2Proof.Machine.execMpy c s
  | .mac c => Sys2Proof.Machine.execMac c s
  | .msu c => Sys2Proof.Machine.execMsu c s
  | .ada c => Sys2Proof.Machine.execAda c s
  | .clra c => Sys2Proof.Machine.execClra c s
  | .mova c => Sys2Proof.Machine.execMova c s
  | .sta c => Sys2Proof.Machine.execSta c s
  | .pop c => Sys2Proof.Machine.execPop c s
  | .push c => Sys2Proof.Machine.execPush c s
  | .pushResume c => Sys2Proof.Machine.execPushResume c s
  | .qctl c => Sys2Proof.Machine.execQctl c s
  | .post c => Sys2Proof.Machine.execPost c s
  | .vrd c => Sys2Proof.Machine.execVrd c s
  | .sig c => Sys2Proof.Machine.execSig c s
  | .tokenInAsserted => Sys2Proof.Machine.execTokenInAsserted s
  | .tokenInDeasserted => Sys2Proof.Machine.execTokenInDeasserted s
  | .pairFaultNLow => Sys2Proof.Machine.execPairFaultNLow s
  | .negotiationWait => Sys2Proof.Machine.execNegotiationWait s
  | .helloInterval => Sys2Proof.Machine.execHelloInterval s
  | .timeInterval => Sys2Proof.Machine.execTimeInterval s
  | .healthInterval => Sys2Proof.Machine.execHealthInterval s
  | .peerLost => Sys2Proof.Machine.execPeerLost s
  | .joinTimeout => Sys2Proof.Machine.execJoinTimeout s
  | .heldRetry => Sys2Proof.Machine.execHeldRetry s
  | .hello flags mseq words => Sys2Proof.Machine.execHello flags mseq words s
  | .role flags mseq words => Sys2Proof.Machine.execRole flags mseq words s
  | .linkAck flags mseq words => Sys2Proof.Machine.execLinkAck flags mseq words s
  | .time flags mseq words => Sys2Proof.Machine.execTime flags mseq words s
  | .select flags mseq words => Sys2Proof.Machine.execSelect flags mseq words s
  | .tear flags mseq words => Sys2Proof.Machine.execTear flags mseq words s
  | .audioDec flags mseq words => Sys2Proof.Machine.execAudioDec flags mseq words s
  | .digIn flags mseq words => Sys2Proof.Machine.execDigIn flags mseq words s
  | .digOut flags mseq words => Sys2Proof.Machine.execDigOut flags mseq words s
  | .digAud flags mseq words => Sys2Proof.Machine.execDigAud flags mseq words s
  | .digestMissing => Sys2Proof.Machine.execDigestMissing s
  | .health flags mseq words => Sys2Proof.Machine.execHealth flags mseq words s
  | .katReq flags mseq words => Sys2Proof.Machine.execKatReq flags mseq words s
  | .mirrorCmd flags mseq words => Sys2Proof.Machine.execMirrorCmd flags mseq words s
  | .mirrorData flags mseq words => Sys2Proof.Machine.execMirrorData flags mseq words s
  | .mirrorReg flags mseq words => Sys2Proof.Machine.execMirrorReg flags mseq words s
  | .mirrorRegApply => Sys2Proof.Machine.execMirrorRegApply s
  | .mirrorOwn flags mseq words => Sys2Proof.Machine.execMirrorOwn flags mseq words s
  | .groupEnd flags mseq words => Sys2Proof.Machine.execGroupEnd flags mseq words s
  | .groupAck flags mseq words => Sys2Proof.Machine.execGroupAck flags mseq words s
  | .decision flags mseq words => Sys2Proof.Machine.execDecision flags mseq words s
  | .decisionMissing => Sys2Proof.Machine.execDecisionMissing s
  | .snapBegin flags mseq words => Sys2Proof.Machine.execSnapBegin flags mseq words s
  | .snapEnd flags mseq words => Sys2Proof.Machine.execSnapEnd flags mseq words s
  | .seqAlign flags mseq words => Sys2Proof.Machine.execSeqAlign flags mseq words s
  | .retransmitTimeout => Sys2Proof.Machine.execRetransmitTimeout s
  | .linkAckInterval => Sys2Proof.Machine.execLinkAckInterval s
  | .messageTimeout => Sys2Proof.Machine.execMessageTimeout s
  | .katPeriod => Sys2Proof.Machine.execKatPeriod s
  | .katComplete island pass => Sys2Proof.Machine.execKatComplete island pass s
  | .handoverApply => Sys2Proof.Machine.execHandoverApply s
  | .handoverRelease => Sys2Proof.Machine.execHandoverRelease s
  | .fltSevWrite w source val => Sys2Proof.Machine.execFltSevWrite w source val s
  | .ackGo w record => Sys2Proof.Machine.execAckGo w record s
  | .safeStateReached => Sys2Proof.Machine.execSafeStateReached s
  | .safeReq => Sys2Proof.Machine.execSafeReq s
  | .sramCe mem unit => Sys2Proof.Machine.execSramCe mem unit s
  | .ctrlUe mem unit addr => Sys2Proof.Machine.execCtrlUe mem unit addr s
  | .railFault rail => Sys2Proof.Machine.execRailFault rail s
  | .brownOut rail straps => Sys2Proof.Machine.execBrownOut rail straps s
  | .roscOk => Sys2Proof.Machine.execRoscOk s
  | .roscStartTimeout => Sys2Proof.Machine.execRoscStartTimeout s
  | .clockStopCheck mon stopped => Sys2Proof.Machine.execClockStopCheck mon stopped s
  | .clockFrequencyCheck mon ppm => Sys2Proof.Machine.execClockFrequencyCheck mon ppm s
  | .clockReturn mon => Sys2Proof.Machine.execClockReturn mon s
  | .pllRelock pll => Sys2Proof.Machine.execPllRelock pll s
  | .clockSwitchDone isl => Sys2Proof.Machine.execClockSwitchDone isl s
  | .clkswForced isl => Sys2Proof.Machine.execClkswForced isl s
  | .icgRampStep isl => Sys2Proof.Machine.execIcgRampStep isl s
  | .towEnable w b val => Sys2Proof.Machine.execTowEnable w b val s
  | .towDisable w b val => Sys2Proof.Machine.execTowDisable w b val s
  | .txGo w b => Sys2Proof.Machine.execTxGo w b s
  | .txFlush w b => Sys2Proof.Machine.execTxFlush w b s
  | .rxPop w b => Sys2Proof.Machine.execRxPop w b s
  | .towFrameReceive b f => Sys2Proof.Machine.execTowFrameReceive b f s
  | .towTxStart b defers => Sys2Proof.Machine.execTowTxStart b defers s
  | .towCollision b bitTime => Sys2Proof.Machine.execTowCollision b bitTime s
  | .towJamEnd b => Sys2Proof.Machine.execTowJamEnd b s
  | .towBackoffEnd b => Sys2Proof.Machine.execTowBackoffEnd b s
  | .towTxDone b => Sys2Proof.Machine.execTowTxDone b s
  | .towBusFail b => Sys2Proof.Machine.execTowBusFail b s
  | .powerOnReset straps => Sys2Proof.Machine.execPowerOnReset straps s
  | .pinReset straps => Sys2Proof.Machine.execPinReset straps s
  | .warmRst w => Sys2Proof.Machine.execWarmRst w s
  | .fuseLoadDone fuses => Sys2Proof.Machine.execFuseLoadDone fuses s
  | .bankCheckDone readOk => Sys2Proof.Machine.execBankCheckDone readOk s
  | .bootRecordApplied record => Sys2Proof.Machine.execBootRecordApplied record s
  | .memoryTrainingDone ok => Sys2Proof.Machine.execMemoryTrainingDone ok s
  | .settingsApplied => Sys2Proof.Machine.execSettingsApplied s
  | .serviceReached readOk => Sys2Proof.Machine.execServiceReached readOk s
  | .flDataRead r => Sys2Proof.Machine.execFlDataRead r s
  | .flDataWrite w val => Sys2Proof.Machine.execFlDataWrite w val s
  | .erase w => Sys2Proof.Machine.execErase w s
  | .program w => Sys2Proof.Machine.execProgram w s
  | .deltaGo w => Sys2Proof.Machine.execDeltaGo w s
  | .prefA w => Sys2Proof.Machine.execPrefA w s
  | .prefB w => Sys2Proof.Machine.execPrefB w s
  | .save w => Sys2Proof.Machine.execSave w s
  | .flashOpDone ok => Sys2Proof.Machine.execFlashOpDone ok s
  | .fwDeltaDone readOk eraseOk programOk => Sys2Proof.Machine.execFwDeltaDone readOk eraseOk programOk s
  | .settingsMigrated ok => Sys2Proof.Machine.execSettingsMigrated ok s
  | .settingsAutosave => Sys2Proof.Machine.execSettingsAutosave s
  | .blowDbg w => Sys2Proof.Machine.execBlowDbg w s
  | .fuseKey w val => Sys2Proof.Machine.execFuseKey w val s
  | .domainGateRequest w d => Sys2Proof.Machine.execDomainGateRequest w d s
  | .domainWakeRequest w d => Sys2Proof.Machine.execDomainWakeRequest w d s
  | .domainOffReached d => Sys2Proof.Machine.execDomainOffReached d s
  | .domainOnReached d => Sys2Proof.Machine.execDomainOnReached d s
  | .islRst w d => Sys2Proof.Machine.execIslRst w d s
  | .tapReset => Sys2Proof.Machine.execTapReset s
  | .idcode => Sys2Proof.Machine.execIdcode s
  | .samplePreload => Sys2Proof.Machine.execSamplePreload s
  | .extest => Sys2Proof.Machine.execExtest s
  | .clamp => Sys2Proof.Machine.execClamp s
  | .highz => Sys2Proof.Machine.execHighz s
  | .bypass => Sys2Proof.Machine.execBypass s
  | .dbgStatus => Sys2Proof.Machine.execDbgStatus s
  | .dbgRead addr => Sys2Proof.Machine.execDbgRead addr s
  | .dbgWrite addr val => Sys2Proof.Machine.execDbgWrite addr val s
  | .attach => Sys2Proof.Machine.execAttach s
  | .detach => Sys2Proof.Machine.execDetach s
  | .goRd => Sys2Proof.Machine.execGoRd s
  | .goWr => Sys2Proof.Machine.execGoWr s
  | .busAccessDone answer => Sys2Proof.Machine.execBusAccessDone answer s
  | .haltReq k => Sys2Proof.Machine.execHaltReq k s
  | .resume k => Sys2Proof.Machine.execResume k s
  | .step k => Sys2Proof.Machine.execStep k s
  | .regData k hi write => Sys2Proof.Machine.execRegData k hi write s
  | .icTimeout target master request => Sys2Proof.Machine.execIcTimeout target master request s
  | .decSeen w => Sys2Proof.Machine.execDecSeen w s
  | .audioPlaneSourceReturn => Sys2Proof.Machine.execAudioPlaneSourceReturn s
  | .railReturn rail => Sys2Proof.Machine.execRailReturn rail s
  | .safeReqNRelease => Sys2Proof.Machine.execSafeReqNRelease s
  | .msgCrcErr => Sys2Proof.Machine.execMsgCrcErr s
  | .claimComplete => Sys2Proof.Machine.execClaimComplete s
  | .dbgOperationDone => Sys2Proof.Machine.execDbgOperationDone s
  | .msixTableWrite p dword val => Sys2Proof.Machine.execMsixTableWrite p dword val s

end Sys2Proof.Machine
end

