-- ==== Sys2Proof/Machine/Tick.lean ====
section
/-! DEFINITION. What one nanosecond without a command does: device time goes on, the LFSRs of the engines step, the queues begin
their next cycle, and READY and the role follow their conditions (R95, R101, R103, R435, R440, R451). -/

namespace Sys2Proof.Machine
open Reg

/-- The correction of the loop in ppt (R101, R108, R111, R113): none in FREERUN, the holdover model in HOLDOVER, unless CORE_REFCLK feeds the timing PLL (R480), else that of
the loop, which is its last one while the selected reference is lost. -/
def State.loopRate (s : State) : Int :=
  let st := s.fld TM_STATE
  if st = Tm.FREERUN then 0
  else if st = Tm.HOLDOVER then
    if s.fldOn CLK_TIME_SRC then 0 else signed 32 (s.fld TM_HO_FREQ) + signed 32 (s.fld TM_HO_AGE) * (s.time.grid - s.time.holdoverFrom : Nat) / (dayNs : Nat)
  else s.time.loopFreq

/-- What slewing adds to the accumulator in one cycle: at most TM_SLEW_PPB, toward the offset that is left, and nothing
while the selected reference is lost (R108, R110). -/
def State.slewPart (s : State) : Int :=
  let most : Int := (s.fld TM_SLEW_PPB * 2 ^ 48 / 10 ^ 9 : Nat)
  let lost := s.selRef != 0 && (s.refRun s.selRef).lostAt.isSome
  if lost then 0 else max (-most) (min most s.time.slewLeft)

/-- The fractional accumulator after one more cycle, before a whole nanosecond leaves it. Its rate stays within one
nanosecond per microsecond (R101). -/
def State.accNext (s : State) : Int :=
  let most : Int := 2 ^ 48 / 1000
  s.time.acc + max (-most) (min most (s.loopRate * 2 ^ 48 / 10 ^ 12 + s.slewPart))

/-- Nanoseconds that device time advances in one cycle: one, and one more or none where the accumulator holds a whole
nanosecond, but never twice within 1 µs (R101). -/
def State.tickAdvance (s : State) : Nat :=
  if s.time.grid < s.time.lastAdjust + 1000 then 1
  else if 2 ^ 48 ≤ s.accNext then 2
  else if s.accNext ≤ -2 ^ 48 then 0
  else 1

/-- Device time and the tick grid go on by one cycle of the TIME clock. -/
def State.advanceTime (s : State) : State :=
  let d := s.tickAdvance
  let g := s.time.grid + d
  { s with free := s.free + 1, time := { s.time with
      grid := g, lastAdjust := if d = 1 then s.time.lastAdjust else g
      acc := s.accNext - ((d : Int) - 1) * 2 ^ 48, slewLeft := s.time.slewLeft - s.slewPart } }

/-- The rate of CTRL in kHz (R474, R475, R484): 4.8 GHz times 20 over its divider, less the spread, which sweeps down and
back over a modulation period; nothing while the clock is stopped. The rate of ROSC within its limits, while it feeds the
island, is a free value (log 5). -/
def State.ctrlKhz (s : State) : Nat :=
  if s.fldOn CLKISL_STOPPED 6 then 0
  else if (s.mux 6).src = 1 then 320000 + Config.ctrlRate s.free % 160001
  else
    let f := 96000000 / max 60 (s.fld CLKISL_DIV_NOW 6)
    let x := s.ssc 6
    let left := s.sscNext 6 - s.time.grid
    let depth := if s.sscOn 6 then x.depth else 0
    f - f * depth * 5 * min (2 * left) (2 * (x.period - left)) / (10000 * x.period)

/-- The CTRL cycles that end in this nanosecond, and the part of one that is left, in millionths (R95). -/
def State.ctrlCycles (s : State) : Nat × Nat :=
  let x := s.host.ctrlPhase + s.ctrlKhz
  (x / 1000000, x % 1000000)

/-- The LFSR of every command engine steps by the CTRL cycles of this nanosecond, and the next cycle of R61 begins. -/
def State.stepLfsrs (s : State) : State :=
  let n := s.ctrlCycles
  let s := s.upTo 16 (fun s e =>
    let x := s.engine e
    s.setEngine e { x with lfsr := lfsrSteps n.1 x.lfsr })
  { s with host := { s.host with ctrlPhase := n.2, cycle := s.host.cycle + 1 } }

/-- The TOW clock runs at 100 MHz from either of its sources, but for a source that has stopped (R480, R485). -/
def State.towRuns (s : State) : Bool := !s.fldOn CLKISL_STOPPED 144 && !s.oldStopped 144

/-- The back-off LFSR of each bus steps once per TOW clock cycle of 10 ns (R495). -/
def State.stepTow (s : State) : State :=
  let t := s.tow
  if s.towRuns = false then s
  else if t.phase < 9 then { s with tow := { t with phase := t.phase + 1 } }
  else
    let s := { s with tow := { t with phase := 0, cycles := t.cycles + 1 } }
    s.upTo 2 (fun s b => s.setTow b { s.towRun b with lfsr := lfsrSteps 1 (s.towRun b).lfsr })

/-- One nanosecond of the tick grid passes. -/
def State.idle (s : State) : State :=
  let s := (((((s.advanceTime.icTick).sscTick).stepLfsrs).stepTow).ancNextCycle).checkPatterns
  (((s.refreshReady.initSettle).pairSettle).faultSettle).safeSettle

end Sys2Proof.Machine
end

