-- ==== Sys2Proof/Safety.lean ====
section
/-! DEFINITION. What counts as a safe run, in the terms that statements use. -/

namespace Sys2Proof.Machine
open Reg

/-- A step goes on: it answers a next state. -/
def Completes (o : Host.Outcome State Fault Refusal) : Prop := ∃ t, o = .next t

/-- The memories of the block are in their canonical form: the ANC memory, the flash and its page buffer, the MSI-X
tables, and the instruction and data memories of the probe cores. -/
def Memory.wf (s : State) : Bool :=
  Tab.wf 0 s.anc.mem && Tab.wf 0 s.boot.flash && Tab.wf 0 s.boot.page && Tab.wf 0 s.host.msix &&
    s.probe.cores.all (fun e => Tab.wf 0 e.2.imem && Tab.wf 0 e.2.dmem)

/-- The state is written in its canonical form: one entry at most for a register field, in rising order, and memories as
`Memory.wf` says. -/
def State.canonical (s : State) : Bool := Tab.rising s.regs && Memory.wf s

/-- The register at an offset holds mirrored fields (R439). -/
def mirroredAt (off : Nat) : Bool :=
  match blockAt off with
  | some (b, _) => b.isMirrored && hasRw b off
  | none => false

/-- A 32-bit write by partition w at an offset takes effect at once: it passes the checks of R36 .. R38, R438 and R510; in
the safe state it is a write of FLT or GLB (R463); and on a paired device, or on one that sends its changes to a joining
peer, it is no write of a mirrored register, which is held or sent (R439, R440). -/
def State.writable (s : State) (w off : Nat) : Prop :=
  s.writeBar w off 4 = none ∧ (s.safe = true → off < 0x1000 ∨ (0x24000 ≤ off ∧ off < 0x26000)) ∧
    (s.paired = true ∨ s.mirrors = true → mirroredAt off = false)

/-- The word that a host sees in the register at an offset (R510: of some blocks, the reset value before SERVICE). -/
def State.word (s : State) (off : Nat) : Nat := if s.readsReset off then s.atReset.readReg off else s.readReg off

/-- The word that a write of one field alone gives the register at an offset. -/
def State.wordWith (s : State) (off lo w x : Nat) : Nat := s.withField off lo w x % 2 ^ 32

/-- What a register write of partition w does beside its effect: the key of BLOW_DBG lasts for one register write of P0
(R520), and the access has crossed the interconnect (R544). -/
def State.disarmed (s : State) (w : Nat) : State :=
  (if w = 0 then { s with boot := { s.boot with armed := false } } else s).hostCrossed w

/-! ### Descriptors -/

/-- Engine e holds a descriptor r with opcode `op`, and the role of the device lets it process it (R438). -/
def State.ready (s : State) (e op : Nat) (r : Request) : Prop :=
  s.holding e op = some r ∧ (s.isActive = true ∨ followerOps.contains op = true)

/-- What follows the effect of a descriptor: it is sent to a standby, its take is announced, and its record is written
(R65, R440). -/
def State.conclude (s : State) (e : Nat) (r : Request) (d : Done) : State :=
  ((s.mirrorCmd r d).announce d).finish e r d.status d.v0 d.v1 d.detail

/-- The changes that the entries of a descriptor ask for. -/
def changesOf (es : List Entry) : List Change := es.filterMap (·.change)

/-- The configuration on which a change descriptor is checked (R73, R187). -/
def State.checkedOn (s : State) (r : Request) (cs : List Change) : Cfg :=
  if r.bank then s.bankCfg r.part (dedupNat ((cs.map Change.obj).filter bankable)) else s.stagedCfg r.part

/-- The changes that a plan counts: each of the descriptor's, and its implicit steps (R71). -/
def Plan.count (p : Plan) (es : List Entry) : Nat := (changesOf es).length + (p.changes.length - (changesOf es).length)

/-- A change descriptor passes every check of R74; its plan is p, and with its pages reserved the state is s'. -/
structure Accepted (s : State) (r : Request) (es : List Entry) (lenBad : Bool) (p : Plan) (s' : State) : Prop where
  checks : s.entryChecks r es lenBad = none
  planned : s.plan r.part (fun k => r.group != 0 && k.kind == .group && k.part == r.part && k.group == r.group)
    (s.checkedOn r (changesOf es)) (changesOf es) = .ok p
  form : s.formBar r (p.count es) = none
  budget : (if r.group = 0 ∧ r.bank = false
    then s.admission (s.cfgSteps s.cfg p.changes) (s.cfgSteps (s.limitCfg s.now) p.changes)
    else s.admitStaged (s.checkedOn r (changesOf es)) p.view) = none
  graphics : p.changes.findSome? (fun c => gfxBar s p.view c <|> gfxBar s (s.withBank r.part p.view) c) = none
  pages : s.reserveAll p.changes = some s'
  stack : (if r.group = 0 ∧ r.bank = false then s.stackAdmission (s.cfgSteps s.cfg p.changes)
    else s.stackStaged (s.checkedOn r (changesOf es)) p.view) = none

/-- How an accepted change is held (R70): as a member of a group, in the inactive bank, or as an immediate take. -/
def State.holdAs (s : State) (r : Request) (es : List Entry) (p : Plan) (v : Nat × Nat) : State × Done :=
  if r.group ≠ 0 then (s.joinGroup r p.changes (p.count es), done v.1 v.2)
  else if r.bank then (s.writeBank r.part p.changes p.view (p.count es), done v.1 v.2)
  else
    let x := s.takeImmediate r.part p.changes (p.count es)
    (x.1, { x.2 with v0 := v.1, v1 := v.2 })

/-! ### Probe cores -/

/-- Core c runs, the instruction at its PC has an opcode and no other bit than a mask names, and no breakpoint holds it
there (R412, R540). -/
def State.atOp (s : State) (c op mask : Nat) : Prop :=
  s.fld PROBE_STATE c = coreRunning ∧ probeOp (s.probeWord c) = op ∧ onlyBits (s.probeWord c) mask = true ∧
    (s.breakAt c (s.fld PROBE_PC c) = false ∨ (s.core c).skipBreak = true)

/-- The instruction at the PC of core c completes, with the core's registers x, having accessed data addresses; s is the
block with the instruction's other effects. -/
def State.coreNext (s : State) (c : Nat) (x : CoreRun) (touched : List (Nat × Bool) := []) : State :=
  s.finishProbe c (s.fld PROBE_PC c) (.next s x touched)

/-- The instruction at the PC of core c is a transfer to an address. -/
def State.coreJump (s : State) (c : Nat) (x : CoreRun) (dest cycles : Nat) : State :=
  s.finishProbe c (s.fld PROBE_PC c) (.jump s x dest cycles)

/-! ### Frames -/

/-- What no event of one Towpath bus, AES3 input or probe core touches is as it was: the queue, device time, takes and
banks, the frame store, the pair, video and media, lanes, ANC queues, clocks, boot, and of the hosts all but what
signals an event to a partition. -/
structure SameElsewhere (s t : State) : Prop where
  pending : t.pending = s.pending
  time : t.time = s.time
  take : t.take = s.take
  store : t.store = s.store
  cway : t.cway = s.cway
  sdi : t.sdi = s.sdi
  media : t.media = s.media
  lane : t.lane = s.lane
  anc : t.anc = s.anc
  clk : t.clk = s.clk
  boot : t.boot = s.boot
  rings : t.host.rings = s.host.rings
  claims : t.host.claims = s.host.claims
  held : t.host.held = s.host.held
  engines : t.host.engines = s.host.engines
  msix : t.host.msix = s.host.msix

/-- Register fields outside the given byte offsets are as they were, but for those that raising an event writes: counts
of events (R89), fault records (R460), and the event rings and lost events of partitions (R91). -/
def OnlyRegisters (own : Nat → Bool) (s t : State) : Prop :=
  ∀ (f : Field) (i j : Nat), own (f.key i j / 8) = false →
    ¬(0x1000 ≤ f.key i j / 8 ∧ f.key i j / 8 < 0x9000) → ¬(0x20000 ≤ f.key i j / 8 ∧ f.key i j / 8 < 0x24300) →
    t.fld f i j = s.fld f i j

/-- The instructions of core c that work on its own registers, data memory and flow (R412). -/
def ownInstructions (c : Fin 32) : List Instr :=
  [.probeNop c, .halt c, .br c, .call c, .ret c, .lp c, .lpr c, .lpx c, .ldi c, .mov c, .add c, .sub c, .andReg c,
   .orReg c, .xorReg c, .cmp c, .addi c] ++
  [.cmpi c, .andi c, .shl c, .shr c, .sra c, .absReg c, .minReg c, .maxReg c, .ld c, .st c, .ldd c, .setx c, .movx c,
   .getx c, .gets c, .mpy c, .mac c, .msu c, .ada c, .clra c, .mova c, .sta c]

/-! ### Pairs -/

/-- A message of class 3 is the one that the device takes next (R444). -/
def State.accepts3 (s : State) (ty mseq : Nat) : Prop :=
  s.pairOn = true ∧ (if s.cway.rxSync then s.role ≠ Role.JOINING ∨ ty = Msg.SNAP_BEGIN else mseq = s.cway.rxNext)

end Sys2Proof.Machine
end

