-- ==== Sys2Proof/Certificates/Slice0/Obligations.lean ====
section
/-! DEFINITION. The statements for the provers. Each cites the rules of the spec that it rests on. -/

open Sys2Proof Sys2Proof.Machine Sys2Proof.Machine.Reg

/-! ### The queue, reset and invariants -/

/-- The command at the front of the queue takes effect on the state with the rest of the queue; with an empty queue
one nanosecond of device time passes (log entries 1, 2). -/
def Obligations.StepRunsFront : Prop :=
  (∀ (s : State) (c : Instr) (rest : List Instr), s.pending = c :: rest → step s = exec c { s with pending := rest }) ∧
  ∀ s : State, s.pending = [] → step s = .next s.idle

/-- Every step keeps the canonical form: register fields in rising order, one entry for each, and every memory of the
block (ANC words, flash, page buffer, MSI-X tables, probe memories) without an entry at the value an unlisted address
reads. -/
def Obligations.StepKeepsCanonical : Prop :=
  ∀ s t : State, s.canonical = true → step s = .next t → t.canonical = true

/-- Every command completes: the spec gives every row of the table an effect, and none stops the block. No command
touches the commands that wait, takes back what has left the block, or reuses a free value (the queue, the output and
the counter of free values are the model's own, log entries 1, 7). -/
def Obligations.CommandsComplete : Prop :=
  (∀ (c : Instr) (s : State), Completes (exec c s)) ∧
  (∀ (c : Instr) (s t : State), s.canonical = true → exec c s = .next t →
     t.pending = s.pending ∧ s.out <:+ t.out ∧ s.free ≤ t.free)

/-- Frame of the instructions of a probe core on its own registers, data memory and flow (R405, R408 .. R416), of what
an AES3 input receives (R378 .. R382) and of the buses of the Towpath (R493 .. R498): each leaves every other core,
input and bus, every register outside its block and every other part of the device as it was, but that a block start of
the input that feeds the audio plane sets that plane's phase (R122); a core writes its data memory by ST alone, at the
address in CUR, and its instruction memory never. -/
def Obligations.EventsStayInTheirBlock : Prop :=
  (∀ (s t : State) (c : Fin 32) (i : Instr), i ∈ ownInstructions c → exec i s = .next t →
    SameElsewhere s t ∧ t.free = s.free ∧ t.audio = s.audio ∧ t.aes = s.aes ∧ t.tow = s.tow ∧ t.dbg = s.dbg ∧
    OnlyRegisters (fun o => (decide (0xB0000 + 0x400 * c.val ≤ o) && decide (o < 0xB0400 + 0x400 * c.val)) ||
      (decide (0x10000100 + 0x40 * c.val ≤ o) && decide (o < 0x10000140 + 0x40 * c.val))) s t ∧
    (∀ d : Fin 32, d ≠ c → t.core d = s.core d) ∧ (t.core c).imem = (s.core c).imem ∧
    (i ≠ .st c → (t.core c).dmem = (s.core c).dmem) ∧
    (i = .st c → ∀ a, a ≠ (s.core c).xf (bitField (s.probeWord c) 19 3) 0 % 2 ^ 16 →
      Tab.get 0 (t.core c).dmem a = Tab.get 0 (s.core c).dmem a)) ∧
  (∀ (s t : State) (n : Fin 64) (i : Instr),
    (i ∈ [.asrcLock (.aes n), .zPreamble n, .channelStatusBlock n, .aesLoss n] ∨ ∃ f, i = .aesFrame n f) →
    (i = .zPreamble n → s.fld APLANE_SRC ≠ 3 ∨ s.fld APLANE_DARS_IN ≠ n) → exec i s = .next t →
    SameElsewhere s t ∧ t.free = s.free ∧ t.probe = s.probe ∧ t.tow = s.tow ∧ t.dbg = s.dbg ∧
    OnlyRegisters (fun o => decide (0x90000 + 0x100 * n.val ≤ o) && decide (o < 0x90100 + 0x100 * n.val)) s t ∧
    t.audio.outs = s.audio.outs ∧ t.aes.outs = s.aes.outs ∧ ∀ m : Fin 64, m ≠ n → t.aesIn m = s.aesIn m) ∧
  (∀ (s t : State) (n : Fin 64), exec (.zPreamble n) s = .next t →
    { t.time with aud := s.time.aud } = s.time ∧ t.pending = s.pending ∧ t.take = s.take ∧ t.store = s.store ∧
    OnlyRegisters (fun o => (decide (0x90000 + 0x100 * n.val ≤ o) && decide (o < 0x90100 + 0x100 * n.val)) ||
      (decide (0x30600 ≤ o) && decide (o < 0x30640))) s t ∧ ∀ m : Fin 64, m ≠ n → t.aesIn m = s.aesIn m) ∧
  (∀ (s t : State) (b : Fin 2) (i : Instr),
    ((∃ n, i = .towTxStart b n ∨ i = .towCollision b n) ∨ i ∈ [.towJamEnd b, .towBackoffEnd b, .towBusFail b] ∨
      ∃ f, i = .towFrameReceive b f) → exec i s = .next t →
    SameElsewhere s t ∧ t.audio = s.audio ∧ t.aes = s.aes ∧ t.probe = s.probe ∧ t.dbg = s.dbg ∧
    OnlyRegisters (fun o => decide (0x71000 + 0x1000 * b.val ≤ o) && decide (o < 0x72000 + 0x1000 * b.val)) s t ∧
    ∀ d : Fin 2, d ≠ b → t.towRun d = s.towRun d)

/-! ### 02: accesses of hosts -/

/-- REGISTER_WRITE, BAR0_READ_ERROR, BAR2_ACCESS_ERROR, TM_NOW_LO and FL_DATA_READ (R35 .. R39, R62, R102, R510, R516):
an access whose check fails does nothing but log that check; one that passes has the effect of its register, and crosses
the interconnect (R544). -/
def Obligations.HostAccesses : Prop :=
  (∀ (s : State) (w : Fin 8) (off : BitVec 26) (width : Nat) (val : BitVec 64) (bar : AccessBar),
    s.writeBar w off.toNat width = some bar →
    exec (.registerWrite w off width val) s = .next ((s.logBar w bar).disarmed w)) ∧
  (∀ (s : State) (w : Fin 8) (off : BitVec 26) (val : BitVec 64), s.writable w off.toNat → off.toNat ≠ 0x42040 →
    exec (.registerWrite w off 4 val) s = .next ((s.regWrite w off.toNat (val.toNat % 2 ^ 32)).disarmed w)) ∧
  (∀ (s : State) (w : Fin 8) (off : BitVec 26) (val : BitVec 64), s.writeBar w off.toNat 8 = none →
    exec (.registerWrite w off 8 val) s = .next (((s.acceptWrite w off.toNat (val.toNat % 2 ^ 32)).acceptWrite w
      (off.toNat + 4) (val.toNat / 2 ^ 32)).hostCrossed w)) ∧
  (∀ (s : State) (r : Fin 8) (off : BitVec 26) (width : Nat) (bar : AccessBar), s.readBar r off.toNat width = some bar →
    exec (.bar0ReadError r off width) s =
      .next (((s.logBar r bar).emit (.readAnswer r (if r.val = 0 then 0 else bar.status) 0)).hostCrossed r)) ∧
  (∀ (s : State) (r : Fin 8) (off : BitVec 26) (width : Nat), s.readBar r off.toNat width = none → width ≠ 8 →
    off.toNat / 4 ≠ 0x30008 / 4 → off.toNat / 4 ≠ 0x42024 / 4 → exec (.bar0ReadError r off width) s =
      .next ((s.emit (.readAnswer r 0 (s.word (off.toNat / 4 * 4) / 2 ^ (8 * (off.toNat % 4)) % 2 ^ (8 * width)))).hostCrossed r)) ∧
  (∀ (s : State) (r : Fin 8) (off : BitVec 26), s.readBar r off.toNat 8 = none → off.toNat ≠ 0x30008 →
    off.toNat ≠ 0x42020 → exec (.bar0ReadError r off 8) s =
      .next ((s.emit (.readAnswer r 0 (s.word off.toNat + 2 ^ 32 * s.word (off.toNat + 4)))).hostCrossed r)) ∧
  (∀ (s : State) (r : Fin 8), s.readBar r 0x30008 4 = none → s.readsReset 0x30008 = false →
    exec (.tmNowLo r) s =
      .next (((s.setFld TM_NOW_HI (s.now / 2 ^ 32)).emit (.readAnswer r 0 (s.now % 2 ^ 32))).hostCrossed r)) ∧
  (∀ (s : State) (r : Fin 8), s.readBar r 0x42024 4 = none →
    exec (.flDataRead r) s = .next (((s.setFld BOOT_FL_ADDR (s.fld BOOT_FL_ADDR + 4)).emit (.readAnswer r 0
      (((List.range 4).map (fun i => s.flashShown (s.fld BOOT_FL_ADDR + i) * 256 ^ i)).sum % 2 ^ 32))).hostCrossed r)) ∧
  (∀ (s : State) (r : Fin 8) (off : BitVec 19), s.doorbell r off.toNat = none →
    exec (.bar2AccessError r off true) s = .next ((s.logError r PCB_UNMAPPED 1 off.toNat).emit
      (.readAnswer r (if r.val = 0 then 0 else 1) 0)) ∧
    exec (.bar2AccessError r off false) s = .next (s.logError r PCB_UNMAPPED 1 off.toNat)) ∧
  (∀ (s : State) (r : Fin 8) (off : BitVec 19) (v : Nat), s.doorbell r off.toNat = some v →
    exec (.bar2AccessError r off true) s = .next (s.emit (.readAnswer r 0 v)))

/-- R37: a write that fails a check sets the bit of that check and no other, and ERR_OFFSET and ERR_BAR hold the first
error logged since the bits were last all clear. R36, R38 (order of R37): which 32-bit writes pass. -/
def Obligations.AccessChecks : Prop :=
  (∀ (s : State) (w : Fin 8) (off : BitVec 26) (width : Nat) (val : BitVec 64) (bar : AccessBar),
     s.writeBar w off.toNat width = some bar →
     ∃ t, exec (.registerWrite w off width val) s = .next t ∧
       (t.fld PCB_WIDTH w = match bar with | .width _ => 1 | _ => s.fld PCB_WIDTH w) ∧
       (t.fld PCB_UNMAPPED w = match bar with | .unmapped _ => 1 | _ => s.fld PCB_UNMAPPED w) ∧
       (t.fld PCB_DENIED w = match bar with | .denied _ => 1 | _ => s.fld PCB_DENIED w) ∧
       t.fld PCB_CLAIM_BUSY w = s.fld PCB_CLAIM_BUSY w ∧ (t.part w).errHeld = true ∧
       ((s.part w).errHeld = true → t.fld PCB_ERR_OFFSET w = s.fld PCB_ERR_OFFSET w ∧ t.fld PCB_ERR_BAR w = s.fld PCB_ERR_BAR w) ∧
       ((s.part w).errHeld = false → t.fld PCB_ERR_BAR w = 0 ∧
         t.fld PCB_ERR_OFFSET w = (match bar with | .width o => o | .unmapped o => o | .denied o => o) % 2 ^ 26)) ∧
  (∀ (s : State) (w : Fin 8) (off : Nat) (b : Blk) (i : Nat), off % 4 = 0 → blockAt off = some (b, i) →
     s.inService = true → s.isActive = true → s.boot.recovery = false → (w.val = 0 ∨ s.fldOn PCB_ENABLE w = true) →
     (s.writeBar w off 4 = none ↔
       match b with
       | .pcb => w.val = 0 ∨ w.val = i ∨ (i = 0 ∧ s.deputy = some w.val)
       | .own => False
       | .flowwin => False
       | .src => s.mayChange w (oriSrc i) = true
       | .dst => s.mayChange w (oriDst i) = true
       | .cmp => s.mayChange w (oriCmp i) = true
       | .probe => s.mayChange w (oriProbe i) = true
       | .ancq => s.mayChange w (oriQueue i) = true
       | .mport => s.mayChange w (oriPort i) = true
       | .aesin => s.mayChange w (oriAes i) = true
       | _ => w.val = 0))

/-- R102: a 64-bit read of TM_NOW answers one value of device time; a 32-bit read of TM_NOW_LO answers the lower half
and latches the upper one, and a read of TM_NOW_HI answers the latch. -/
def Obligations.DeviceTimeReadsAreConsistent : Prop :=
  ∀ (s : State) (r : Fin 8),
    (s.readsReset 0x30008 = false → s.readBar r 0x30008 8 = none → ∃ t, exec (.bar0ReadError r 0x30008 8) s = .next t ∧
      t.out = .readAnswer r 0 s.now :: s.out) ∧
    (s.readsReset 0x30008 = false → s.readBar r 0x30008 4 = none → ∃ t, exec (.bar0ReadError r 0x30008 4) s = .next t ∧
      t.out = .readAnswer r 0 (s.now % 2 ^ 32) :: s.out ∧ t.fld TM_NOW_HI = s.now / 2 ^ 32) ∧
    (s.readsReset 0x30008 = false → s.readBar r 0x3000C 4 = none →
      exec (.bar0ReadError r 0x3000C 4) s = .next ((s.emit (.readAnswer r 0 (s.fld TM_NOW_HI))).hostCrossed r)) ∧
    s.now < 2 ^ 64

/-- R333: FLOWWIN shows each flow context as committed, reads zero where none is, and no partition but P0 reads it. From
SERVICE on; before it the window reads zero (R510). -/
def Obligations.FlowWindow : Prop :=
  ∀ (s : State) (r : Fin 8) (f : Fin 262144) (i : Fin 16),
    let off : BitVec 26 := BitVec.ofNat 26 (0x1000000 + 0x40 * f + 4 * i)
    (s.readBar r off.toNat 4 = none →
      (∀ x, s.flow f = some x → exec (.bar0ReadError r off 4) s =
        .next ((s.emit (.readAnswer r 0 (if s.inService then wordAt x.words i % 2 ^ 32 else 0))).hostCrossed r)) ∧
      (s.flow f = none → exec (.bar0ReadError r off 4) s = .next ((s.emit (.readAnswer r 0 0)).hostCrossed r))) ∧
    (r.val ≠ 0 → ∃ bar, s.readBar r off.toNat 4 = some bar)

/-! ### 02: partitions -/

/-- Writes of a partition's control block by itself or by P0 (R37, R45, R48, R49, R51, R54, R55, R59, R66): an
ownership request waits its turn, and every other command acts at once. PART_RST, REVOKE and ENABLE (R51, R54, R55),
each in the partition that may write it. -/
def Obligations.PartitionRegisters : Prop :=
  (∀ (s : State) (w p : Fin 8), w.val = 0 ∨ w = p →
     let own := fun rel => s.writable w (pcbOff p + rel)
     let ask : Nat → Nat → Nat → State := fun ori act target =>
       { ((s.setFld PCB_BUSY 1 p).setFld PCB_LAST_ORI ori p).setFld PCB_LAST_ACT act p with
         host := { s.host with claims := s.host.claims ++ [{ part := p, ori := ori, act := act, target := target }] } }
     (own 0x20 → s.fldOn PCB_BUSY p = false →
       (∀ ori : BitVec 12,
         exec (.claim w p ori) s = .next ((ask ori.toNat 1 0).disarmed w) ∧
         exec (.release w p ori) s = .next ((ask ori.toNat 2 0).disarmed w) ∧
         exec (.share w p ori) s = .next ((ask ori.toNat 3 0).disarmed w) ∧
         exec (.unshare w p ori) s = .next ((ask ori.toNat 4 0).disarmed w)) ∧
       ∀ (ori : BitVec 12) (target : Fin 8),
         exec (.assign w p ori target) s = .next ((ask ori.toNat 5 (if w.val = 0 then target.val else 0)).disarmed w)) ∧
     (own 0x20 → s.fldOn PCB_BUSY p = true →
       ∀ ori : BitVec 12, exec (.claim w p ori) s = .next ((s.setFld PCB_CLAIM_BUSY 1 p).disarmed w)) ∧
     (own 0x14 → exec (.heartbeat w p) s = .next ((s.beat p).disarmed w)) ∧
     (own 0x10 → ∀ val : Word, exec (.leaseMs w p val) s = .next ((s.writeLease p val.toNat).disarmed w)) ∧
     (own 0x30 → ∀ val : Word,
       exec (.accerrClear w p val) s = .next (((s.putWord (Blk.pcb.at? (pcbOff p + 0x30)) val.toNat).rearmError p).disarmed w)) ∧
     (∀ ring : RingId, s.writable w (ringOff p ring + 0x1C) →
       exec (.hostFaultClear w p ring) s = .next ((s.clearHostFault p ring).disarmed w))) ∧
  (∀ (s : State) (w p : Fin 8), s.writable w (pcbOff p + 8) →
     (w.val = 0 ∨ w = p → s.fld PCB_ENABLE p = 1 → exec (.partRst w p) s = .next ((s.partReset p).disarmed w)) ∧
     (w = p → p.val ≠ 0 → exec (.partRst w p) s = .next ((s.partReset p).disarmed w)) ∧
     (w.val = 0 → p.val ≠ 0 → s.fld PCB_ENABLE p = 1 → exec (.revoke w p) s = .next ((s.beginRevoke p 0).disarmed 0)) ∧
     (w.val = 0 → p.val ≠ 0 → s.fld PCB_ENABLE p = 0 → s.pstate p = partOff →
       exec (.partRst w p) s = .next (((s.setFld PCB_ENABLE 0 p).partReset p).disarmed 0) ∧
       exec (.revoke w p) s = .next (((s.setFld PCB_ENABLE 0 p).beginRevoke p 0).disarmed 0)) ∧
     (p.val = 0 → w.val ≠ 0 → s.deputy = some w.val → s.pstate 0 = partLapsed →
       exec (.revoke w p) s = .next ((s.beginRevoke 0 w).disarmed w)) ∧
     (w.val = 0 → p.val ≠ 0 → exec (.pcbEnableSet w p) s = .next ((s.writeEnable p 1).disarmed 0) ∧
       exec (.pcbEnableClear w p) s = .next ((s.writeEnable p 0).disarmed 0)))

/-- RING_ENABLE and RING_DISABLE (R58, R59): the word's other fields are taken too, the size only while the ring is
disabled. R59: enabling a ring sets every pointer of the ring and its completion ring to 0 and the phase to 1;
disabling it clears ENABLE at once, and what was fetched and not granted is gone without a record. -/
def Obligations.RingControl : Prop :=
  (∀ (s : State) (w p : Fin 8) (val : Word), w.val = 0 ∨ w = p →
     (∀ k : Fin 64, s.writable w (ringOff p (.cmd k) + 0x10) →
       let t := ((s.when (!s.fldOn RING_ENABLE p k) (fun s =>
           s.setFld RING_SIZE_LOG2 (RING_SIZE_LOG2.norm p (bitField val.toNat 0 5)) p k)).setFld RING_VECTOR
           (bitField val.toNat 16 6) p k).setFld RING_INT_EN (bitField val.toNat 24 1) p k
       exec (.ringEnable w p (.cmd k) val) s = .next ((t.enableRing p k).disarmed w) ∧
       exec (.ringDisable w p (.cmd k) val) s = .next ((t.disableRing p k).disarmed w)) ∧
     (∀ e : Fin 4, s.writable w (ringOff p (.evt e) + 0x10) →
       let t := ((s.when (!s.fldOn ERING_ENABLE p e) (fun s =>
           s.setFld ERING_SIZE_LOG2 (ERING_SIZE_LOG2.norm p (bitField val.toNat 0 5)) p e)).setFld ERING_VECTOR
           (bitField val.toNat 16 6) p e).setFld ERING_INT_EN (bitField val.toNat 24 1) p e
       exec (.ringEnable w p (.evt e) val) s = .next ((t.enableEvtRing p e).disarmed w) ∧
       exec (.ringDisable w p (.evt e) val) s = .next ((t.disableEvtRing p e).disarmed w))) ∧
  (∀ (s : State) (p k : Nat), p < 8 → k < 64 →
     (s.fld RING_ENABLE p k = 0 → s.fld RING_SIZE_LOG2 p k ≠ 0 →
       let t := s.enableRing p k
       t.fld RING_ENABLE p k = 1 ∧ t.fld RING_HEAD p k = 0 ∧ t.fld RING_CQ_TAIL p k = 0 ∧
         (t.ring p k).tail = 0 ∧ (t.ring p k).cqHead = 0 ∧ (t.ring p k).phase = true) ∧
     (s.fld RING_SIZE_LOG2 p k = 0 → s.enableRing p k = s) ∧
     ((s.disableRing p k).fld RING_ENABLE p k = 0) ∧
     (s.fldOn RING_ENABLE p k = true → (s.ring p k).inProcess = false →
       ((s.disableRing p k).ring p k).fetched = [] ∧ (s.disableRing p k).out = s.out))

/-- R45: how the oldest request is decided. R45, R48: which requests are refused, and why. -/
def Obligations.OwnershipRequests : Prop :=
  (∀ (s : State) (q : ClaimReq) (rest : List ClaimReq), s.host.claims = q :: rest →
     q.part < 8 → q.act ≠ 0 → q.act < 6 →
     ∃ t, exec .claimComplete s = .next t ∧ t.host.claims = rest ∧ t.fld PCB_BUSY q.part = 0 ∧
       t.fld PCB_RESULT q.part = (s.claimBar q).getD Claim.DONE ∧
       ((s.claimBar q).isSome = true → ∀ o, o < 3072 → t.owner o = s.owner o ∧ t.fld OWN_SHARED o = s.fld OWN_SHARED o) ∧
       ((s.claimBar q).isNone = true →
         (∀ o, o < 3072 → o ≠ q.ori → t.owner o = s.owner o ∧ t.fld OWN_SHARED o = s.fld OWN_SHARED o) ∧
         (q.act = 1 → t.owner q.ori = some q.part ∧ t.fld OWN_SHARED q.ori = s.fld OWN_SHARED q.ori) ∧
         (q.act = 2 → t.owner q.ori = none ∧ t.fld OWN_SHARED q.ori = 0) ∧
         (q.act = 3 → t.owner q.ori = s.owner q.ori ∧ t.fld OWN_SHARED q.ori = 1) ∧
         (q.act = 4 → t.owner q.ori = s.owner q.ori ∧ t.fld OWN_SHARED q.ori = 0) ∧
         (q.act = 5 → q.target < 8 → t.owner q.ori = some q.target ∧ t.fld OWN_SHARED q.ori = s.fld OWN_SHARED q.ori))) ∧
  (∀ (s : State) (q : ClaimReq), q.ori < 3072 →
     (q.act = 1 → s.hasLease q.part = false → s.claimBar q = some Claim.NO_LEASE) ∧
     (q.act = 1 → s.hasLease q.part = true → s.owner q.ori = none ∨ s.owner q.ori = some q.part → s.claimBar q = none) ∧
     (q.act = 1 → s.hasLease q.part = true → ∀ x, s.owner q.ori = some x → x ≠ q.part →
       s.claimBar q = some Claim.OWNED_ELSEWHERE) ∧
     (q.act = 2 → s.owner q.ori ≠ some q.part → s.claimBar q = some Claim.NOT_OWNER) ∧
     (q.act = 3 ∨ q.act = 4 → ¬(q.ori < 1024 ∨ (2048 ≤ q.ori ∧ q.ori < 2144)) → s.claimBar q = some Claim.NOT_SOURCE) ∧
     (q.act = 2 → s.owner q.ori = some q.part →
       (s.claimBar q = some Claim.IN_USE ↔ s.refsTo q.ori ≠ 0 ∨ s.stagedTouches q.part q.ori = true)) ∧
     (q.act = 4 → shareable q.ori = true → s.owner q.ori = some q.part →
       (s.claimBar q = some Claim.IN_USE ↔ s.refsTo q.ori ≠ 0 ∨ s.stagedTouches q.part q.ori = true)) ∧
     (q.act = 3 → shareable q.ori = true → s.owner q.ori = some q.part → s.claimBar q = none) ∧
     (q.act = 3 ∨ q.act = 4 → shareable q.ori = true → s.owner q.ori ≠ some q.part →
       s.claimBar q = some Claim.NOT_OWNER) ∧
     (q.act = 5 → q.part ≠ 0 → s.claimBar q = some Claim.NOT_SUPERVISOR) ∧
     (q.act = 5 → q.part = 0 → s.present q.target = true → s.pstate q.target ≠ partOff → s.hasLease q.target = false →
       s.claimBar q = some Claim.NO_LEASE) ∧
     (q.act = 5 → q.part = 0 → s.present q.target = true → s.pstate q.target ≠ partOff → s.hasLease q.target = true →
       s.claimBar q = none))

/-- R49, R50: a lease that has run out makes its partition LAPSED at the tick, after the tokens that come before a tick
(R124), and a heartbeat in a later cycle returns it to LIVE; one in the cycle of the expiring tick does not. -/
def Obligations.LeasesRunOut : Prop :=
  ∀ (s : State) (p : Fin 8),
    exec (.leaseExpiry p) s = .next (s.tokens.lapse p) ∧
    (s.leaseOut p = true → (s.lapse p).pstate p = partLapsed ∧ ((s.lapse p).part p).lapsedAt = s.leaseTick p ∧
      ∀ o, o < 3072 → (s.lapse p).owner o = s.owner o) ∧
    (s.leaseOut p = false → s.lapse p = s) ∧
    (s.leaseOut p = false → s.pstate p = partLapsed → (s.part p).lapsedAt ≠ s.time.grid →
      (s.beat p).pstate p = partLive) ∧
    (s.leaseOut p = true → s.leaseTick p = s.time.grid → s.beat p = s.lapse p ∧ (s.beat p).pstate p = partLapsed) ∧
    (s.pstate p = partLive → s.leaseOut p = false → s.beat p = s.renewLease p)

/-- Resets of partitions and endpoints, and the end of a revocation (R31, R51, R54). R31: what a PART reset leaves:
the state of the partition by what it was, no ring of it enabled, nothing fetched, and no event counted. -/
def Obligations.PartitionResets : Prop :=
  (∀ s : State,
     (∀ ep : Fin 4,
       let t := s.each ([2 * ep.val, 2 * ep.val + 1].filter s.present) State.partReset
       exec (.perstRelease ep) s = .next { t with boot := { t.boot with perst := t.boot.perst ||| 2 ^ ep.val } } ∧
       exec (.hotReset ep) s = .next t ∧
       exec (.pcieLinkDown ep) s =
         .next (if s.hasEndpoint ep then t.raise Ev.PCIE_LINK_DOWN { index := ep } else t)) ∧
     (∀ p : Fin 8, exec (.functionLevelReset p) s = .next (if s.present p then s.partReset p else s)) ∧
     (∀ (p : Fin 8) (q : Nat), (s.part p).revoker = some q → s.sealedOf p = [] →
       let t := s.each (s.owned p) (fun s o => (s.passTo o (some q)).sendOwner o)
       let u := ((t.setPart p { t.part p with revoker := none }).setFld PCB_REVOKING 0 p).raise Ev.OWNERSHIP_REVOKED
         { index := p, data := (s.owned p).length, dest := [q], except := some p.val }
       exec (.revocationTransfer p) s = .next (if (u.part p).thenOff then u.turnOff p else u))) ∧
  (∀ (s : State) (p : Fin 8),
     let t := s.partReset p
     (s.pstate p = partOff → t.pstate p = partOff) ∧ (s.pstate p ≠ partOff → t.pstate p = partLive) ∧
     (∀ k : Fin 64, t.fld RING_ENABLE p k = 0 ∧ (t.ring p k).fetched = []) ∧ (∀ e : Fin 4, t.fld ERING_ENABLE p e = 0) ∧
     (t.part p).evtSeq = 0 ∧ t.fld PCB_EVT_LOST p = 0 ∧ (∀ o, o < 3072 → t.owner o = s.owner o) ∧
     ∀ m : Fin 64, s.owner (oriPort m) = some p.val → t.fld MPORT_HP_RX_EN m = 0 ∧ t.fld MPORT_HP_TX_EN m = 0)

/-! ### 03: command rings and engines -/

/-- R60, R61: when a doorbell is accepted, and what else happens; the pointers that it is checked against are those at
the start of the cycle (log entry 71). R57, R60: an accepted tail never passes that head or goes back over what was
posted: distances of a ring stay below its size, and the new tail is at least as far on as the old. -/
def Obligations.Doorbells : Prop :=
  (∀ (s : State) (p : Fin 8) (v : Word),
     (∀ k : Fin 64,
       let size := 2 ^ s.fld RING_SIZE_LOG2 p k
       let x := v.toNat % 2 ^ 16
       let g := s.ring p k
       let head := s.sampled (s.fld RING_HEAD p k) g.headWas g.headMoved
       let tail := s.sampled (s.fld RING_CQ_TAIL p k) g.cqTailWas g.cqTailMoved
       (s.fldOn RING_ENABLE p k = true → x < size → ringDist size g.tail head ≤ ringDist size x head →
         exec (.commandTailDoorbell p k 4 v) s = .next (s.setRing p k { g with tail := x })) ∧
       (s.fldOn RING_ENABLE p k = true → x < size → ringDist size x g.cqHead ≤ ringDist size tail g.cqHead →
         exec (.completionHeadDoorbell p k 4 v) s = .next (s.setRing p k { g with cqHead := x })) ∧
       (s.fldOn RING_ENABLE p k = false ∨ size ≤ x ∨ ringDist size x head < ringDist size g.tail head →
         exec (.commandTailDoorbell p k 4 v) s = .next (s.raise Ev.DOORBELL_BAD
           { index := k, sub := 0, data := v.toNat + 2 ^ 32 * (0x1000 * k), dest := [p.val] })) ∧
       (s.fldOn RING_ENABLE p k = false ∨ size ≤ x ∨ ringDist size tail g.cqHead < ringDist size x g.cqHead →
         exec (.completionHeadDoorbell p k 4 v) s = .next (s.raise Ev.DOORBELL_BAD
           { index := k, sub := 1, data := v.toNat + 2 ^ 32 * (0x1000 * k + 0x800), dest := [p.val] })) ∧
       ∀ width, width ≠ 4 → exec (.commandTailDoorbell p k width v) s = .next s ∧
         exec (.completionHeadDoorbell p k width v) s = .next s) ∧
     (∀ e : Fin 4,
       let size := 2 ^ s.fld ERING_SIZE_LOG2 p e
       let x := v.toNat % 2 ^ 16
       let g := s.evtRing p e
       let tail := s.sampled (s.fld ERING_CQ_TAIL p e) g.tailWas g.tailMoved
       (s.fldOn ERING_ENABLE p e = true → x < size → ringDist size x g.head ≤ ringDist size tail g.head →
         exec (.eventHeadDoorbell p e 4 v) s = .next (s.setEvtRing p e { g with head := x })) ∧
       (s.fldOn ERING_ENABLE p e = false ∨ size ≤ x ∨ ringDist size tail g.head < ringDist size x g.head →
         exec (.eventHeadDoorbell p e 4 v) s = .next (s.raise Ev.DOORBELL_BAD
           { index := e, sub := 2, data := v.toNat + 2 ^ 32 * (0x40000 + 0x1000 * e), dest := [p.val] })) ∧
       ∀ width, width ≠ 4 → exec (.eventHeadDoorbell p e width v) s = .next s)) ∧
  (∀ (s t : State) (p : Fin 8) (k : Fin 64) (v : Word), exec (.commandTailDoorbell p k 4 v) s = .next t →
     let size := s.ringSize p k
     let head := s.sampled (s.fld RING_HEAD p k) (s.ring p k).headWas (s.ring p k).headMoved
     (s.ring p k).tail < size → head < size →
     (t.ring p k).tail < size ∧ ringDist size (s.ring p k).tail head ≤ ringDist size (t.ring p k).tail head ∧
       ringDist size (t.ring p k).tail head < size ∧
       (head = s.fld RING_HEAD p k → s.posted p k ≤ t.posted p k ∧ t.posted p k < size))

/-- RING_FETCH, DESCRIPTOR_READ_ERROR, BUFFER_READ and MSI-X table writes (R64, R65, R66, R92). R64: the walker
fetches nothing while its partition is not LIVE, the ring is not enabled, or no completion entry is free, and at most
8 descriptors in one read, all of them posted. R66: the access that sets HOST_FAULT raises the event; failures while
it is set raise nothing more. -/
def Obligations.RingsFetch : Prop :=
  (∀ (s : State) (p : Fin 8) (k : Fin 64),
     (s.leaseOut p = false → ∀ answer : List Descriptor, answer ≠ [] → 0 < s.fetchable p k →
       exec (.ringFetch p k answer) s = .next (s.setRing p k { s.ring p k with
         fetched := (s.ring p k).fetched ++ (answer.take (s.fetchable p k)).mapIdx (fun i d =>
           { part := p, ring := k,
             index := (s.fld RING_HEAD p k + (s.ring p k).fetched.length + i) % s.ringSize p k, words := d, buf := [] }) })) ∧
     (s.fetchable p k = 0 → s.leaseOut p = false → ∀ answer, exec (.ringFetch p k answer) s = .next s) ∧
     (s.leaseOut p = true → ∀ answer, exec (.ringFetch p k answer) s = .next (s.lapse p)) ∧
     (∀ addr : BitVec 64, 0 < s.fetchable p k → exec (.descriptorReadError p (.descRead k) addr) s =
       .next ((s.setRing p k { s.ring p k with stopped := true }).hostFault p (.cmd k) 0 addr.toNat)) ∧
     (∀ addr : BitVec 64, exec (.descriptorReadError p (.complWrite k) addr) s =
       .next (s.hostFault p (.cmd k) 1 addr.toNat)) ∧
     (∀ (e : Fin 4) (addr : BitVec 64), exec (.descriptorReadError p (.eventWrite e) addr) s =
       .next (s.hostFault p (.evt e) 2 addr.toNat)) ∧
     (∀ (r : Request) (rest : List Request), (s.ring p k).fetched = r :: rest → (s.ring p k).place = .atRing →
       r.needsBuffer = true → s.safe = false →
       (∀ data : List Byte, data.length = r.hostLen → exec (.bufferRead p k (.bytes data)) s =
         .next (s.setRing p k { s.ring p k with fetched := { r with buf := data } :: rest, place := .ready })) ∧
       ∀ addr : BitVec 64, exec (.bufferRead p k (.error addr)) s =
         .next ((((s.hostFault p (.cmd k) 0 addr.toNat).failGroup r).mirrorEarly r St.HOST_FAULT).complete r
           St.HOST_FAULT 0 0 0)) ∧
     (∀ (dword : Fin 256) (val : Word), exec (.msixTableWrite p dword val) s =
       .next (s.writeMsix p (dword.val / 4) (dword.val % 4) val.toNat))) ∧
  (∀ (s : State) (p k : Nat),
     s.fetchable p k ≤ 8 ∧ s.fetchable p k + (s.ring p k).fetched.length ≤ max (s.posted p k) (s.ring p k).fetched.length ∧
     s.fetchable p k ≤ s.cqFree p k ∧
     (s.live p = false ∨ s.fldOn RING_ENABLE p k = false ∨ s.posted p k ≤ (s.ring p k).fetched.length ∨ s.cqFull p k = true →
       s.fetchable p k = 0)) ∧
  (∀ (s : State) (p : Fin 8) (k : Fin 64) (addr : BitVec 64),
     (s.fldOn RING_HOST_FAULT p k = true → exec (.descriptorReadError p (.complWrite k) addr) s = .next s) ∧
     (s.fldOn RING_HOST_FAULT p k = false → ∃ t, exec (.descriptorReadError p (.complWrite k) addr) s = .next t ∧
       t.fld RING_HOST_FAULT p k = 1 ∧
       t = (s.setFld RING_HOST_FAULT 1 p k).raise Ev.HOST_FAULT { index := k, sub := 1, data := addr.toNat, dest := [p.val] }))

/-- R65, R67, R87, R92: a completion record: where it is written, what it holds, what moves, and whether it signals. HEAD
stays where the record is of a ring's earlier pass (log entry 73). -/
def Obligations.CompletionRecords : Prop :=
  ∀ (s : State) (p k : Nat) (c : Completion), p < 8 → k < 64 →
    let size := s.ringSize p k
    let tail := s.fld RING_CQ_TAIL p k
    let v := s.fld RING_VECTOR p k
    let signals := c.irq = true ∨ (s.fldOn RING_INT_EN p k = true ∧ (s.fld RING_COAL_US p k = 0 ∨
      (s.fld RING_COAL_CNT p k ≠ 0 ∧ s.fld RING_COAL_CNT p k ≤ (s.ring p k).unsignalled + 1)))
    let sent := signals ∧ bitAt (s.msixWord p v 3) 0 = false ∧ s.pstate p ≠ partLapsed
    let t := s.writeCompletion p k c
    t.out = (if sent then [.msix p v (s.msixWord p v 0 + 2 ^ 32 * s.msixWord p v 1) (s.msixWord p v 2)] else []) ++
      .completion p k (s.fld RING_CQ_BASE_LO p k * 2 ^ 12 + s.fld RING_CQ_BASE_HI p k * 2 ^ 32 + 32 * tail)
      [c.tag + 2 ^ 16 * c.opcode + 2 ^ 24 * c.status, c.index + 2 ^ 16 * c.group, c.value0 % 2 ^ 32,
       c.value0 / 2 ^ 32 % 2 ^ 32, c.value1 % 2 ^ 32, c.value1 / 2 ^ 32 % 2 ^ 32, c.detail % 2 ^ 32,
       if (s.ring p k).phase then 2 ^ 31 else 0] :: s.out ∧
    (signals → ¬sent → (t.part p).pba = (s.part p).pba ||| 2 ^ v) ∧
    (t.ring p k).unsignalled = (if signals then 0 else (s.ring p k).unsignalled + 1) ∧
    t.fld RING_HEAD p k = (if (s.ring p k).draining = true ∧ s.fldOn RING_ENABLE p k = true then s.fld RING_HEAD p k
      else (s.fld RING_HEAD p k + 1) % size % 2 ^ 16) ∧
    t.fld RING_CQ_TAIL p k = (tail + 1) % size % 2 ^ 16 ∧
    (t.ring p k).phase = (if (tail + 1) % size = 0 then !(s.ring p k).phase else (s.ring p k).phase) ∧
    (t.ring p k).fetched = (s.ring p k).fetched.tail

/-- ENGINE_PLACEMENT, ENGINE_DRAW, ENGINE_STUCK and COALESCING_TIMEOUT (R92, R93, R94, R98). R93: a request goes to
the lowest idle engine that is not frozen; else to the shortest Layby with room, the lowest engine winning a tie; else
it is held. R94: where an engine draws from, and which entry it grants. -/
def Obligations.EnginesTakeRequests : Prop :=
  (∀ s : State,
     (∀ (p : Fin 8) (k : Fin 64) (r : Request) (rest : List Request), (s.ring p k).fetched = r :: rest →
       (s.ring p k).place = .ready ∨ ((s.ring p k).place = .atRing ∧ r.needsBuffer = false) → s.safe = false →
       exec (.enginePlacement p k) s = .next (s.place r)) ∧
     (∀ e : Fin 16, s.safe = false →
       let t := s.placeHeld
       exec (.engineDraw e) s = .next (if t.frozen e = false ∧ (t.engine e).cur = none then t.draw e else t)) ∧
     (∀ (e : Fin 16) (r : Request), (s.engine e).cur = some r → (s.engine e).stuck = false →
       s.fldOn CMDENG_WDOG_US e = true → s.expired (s.engine e).grantedAt (s.fld CMDENG_WDOG_US e * 1000) 1000 = true →
       exec (.engineStuck e) s = .next ((s.setEngine e { s.engine e with stuck := true }).raise Ev.ENGINE_STUCK
         { index := e, data := 2 ^ 4 * r.part + 2 ^ 8 * r.ring + 2 ^ 32 * r.opcode, dest := [0] })) ∧
     (∀ (p : Fin 8) (ring : RingId), exec (.coalescingTimeout p ring) s = .next (s.tokens.coalesced p ring)) ∧
     (∀ (p : Fin 8) (k : Fin 64), (s.ring p k).unsignalled ≠ 0 → s.fldOn RING_INT_EN p k = true →
       s.fld RING_COAL_US p k ≠ 0 → s.expired (s.ring p k).oldest (s.fld RING_COAL_US p k * 1000) 1000 = true →
       s.coalesced p (.cmd k) =
         (s.setRing p k { s.ring p k with unsignalled := 0 }).sendVector p (s.fld RING_VECTOR p k)) ∧
     (∀ (p : Fin 8) (e : Fin 4), (s.evtRing p e).unsignalled ≠ 0 → s.fldOn ERING_INT_EN p e = true →
       s.fld ERING_COAL_US p e ≠ 0 → s.expired (s.evtRing p e).oldest (s.fld ERING_COAL_US p e * 1000) 1000 = true →
       s.coalesced p (.evt e) =
         (s.setEvtRing p e { s.evtRing p e with unsignalled := 0 }).sendVector p (s.fld ERING_VECTOR p e)) ∧
     (∀ (p : Fin 8) (k : Fin 64), (s.ring p k).unsignalled = 0 ∨ s.fldOn RING_INT_EN p k = false ∨
       s.fld RING_COAL_US p k = 0 → s.coalesced p (.cmd k) = s)) ∧
  (∀ (s : State) (e x : Nat),
     let ticketed := fun n : Nat => (s.engine n).layby.any (fun r => s.fldOn PCB_TICKETS r.part)
     let filled := fun n : Nat => !(s.engine n).layby.isEmpty
     let ok := fun n : Nat => if (List.range 16).any ticketed then ticketed n else filled n
     (ok e = true → s.drawPlace e = some e) ∧
     (ok e = false → s.drawPlace e = some x → x < 16 ∧ ok x = true ∧ ∀ n, n < 16 → ok n = true →
       (s.engine n).layby.length < (s.engine x).layby.length ∨
         ((s.engine n).layby.length = (s.engine x).layby.length ∧ x ≤ n)) ∧
     (ok e = false → (∀ n, n < 16 → ok n = false) → s.drawPlace e = none) ∧
     ∀ r, s.drawPlace e = some x →
       drawFrom (fun p => s.fld PCB_TICKETS p) (s.engine e).lfsr.toNat (s.engine x).layby = some r →
       s.draw e = (s.setEngine x { s.engine x with layby := (s.engine x).layby.filter (fun q =>
         decide (¬(q.part = r.part ∧ q.ring = r.ring))) }).grant e r) ∧
  (∀ (tickets : Nat → Nat) (l : Nat) (layby : List Request),
     let parts := (List.range 8).filter (fun p => layby.any (fun r => r.part == p))
     let total := (parts.map tickets).sum
     (total = 0 → drawFrom tickets l layby = layby.head?) ∧
     (∀ p ∈ parts, total ≠ 0 →
       ((parts.filter (fun q => decide (q < p))).map tickets).sum ≤ l * total / 2 ^ 32 →
       l * total / 2 ^ 32 < ((parts.filter (fun q => decide (q < p))).map tickets).sum + tickets p →
       drawFrom tickets l layby = layby.find? (fun r => r.part == p))) ∧
  (∀ s : State,
     (∀ e b, s.engineFor = some (e, b) → e < 16 ∧ s.frozen e = false) ∧
     (∀ e, s.engineFor = some (e, true) → (s.engine e).cur = none ∧
       ∀ x, x < e → s.frozen x = true ∨ (s.engine x).cur ≠ none) ∧
     (∀ e, s.engineFor = some (e, false) → (s.engine e).layby.length < 64 ∧
       (∀ x, x < 16 → s.frozen x = true ∨ (s.engine x).cur ≠ none) ∧
       ∀ x, x < 16 → s.frozen x = false → (s.engine x).layby.length < 64 →
         (s.engine e).layby.length < (s.engine x).layby.length ∨
         ((s.engine e).layby.length = (s.engine x).layby.length ∧ e ≤ x)) ∧
     (s.engineFor = none ↔ ∀ x, x < 16 → s.frozen x = true ∨ ((s.engine x).cur ≠ none ∧ 64 ≤ (s.engine x).layby.length)))

/-- CMD_FREEZE, ENG_RST, WDOG_US and LFSR_SEED (R95, R97, R98), by P0. R95: the register of the lottery never stands
still: a step of a value that is not 0 is not 0, and no two values have one successor. -/
def Obligations.EngineRegisters : Prop :=
  (∀ (s : State) (w : Fin 8) (e : Fin 16),
     (s.writable w (0x18000 + 0x100 * e) →
       (∀ b : Bool, exec (.cmdFreeze w e b) s = .next ((s.writeFreeze e (bit b)).disarmed w)) ∧
       exec (.engRst w e) s = .next (((s.writeFreeze e (bitField (s.wordWith (0x18000 + 0x100 * e) 1 1 1) 0 1)).engineReset e).disarmed w)) ∧
     (s.writable w (0x18008 + 0x100 * e) → ∀ val : Word, exec (.wdogUs w e val) s =
       .next (((s.setFld CMDENG_WDOG_US (bitField val.toNat 0 16) e).checkStuck e).disarmed w)) ∧
     (s.writable w (0x1800C + 0x100 * e) → ∀ val : Word, exec (.lfsrSeed w e val) s =
       .next ((s.setEngine e { s.engine e with lfsr := if val = 0 then 1 else val }).disarmed w))) ∧
  ((∀ x : Word, x ≠ 0 → lfsrStep x ≠ 0) ∧ (∀ x y : Word, lfsrStep x = lfsrStep y → x = y) ∧
   ∀ x : Word, lfsrStep x = (x >>> 1) ^^^ (if x.getLsbD 0 then 0x80200003#32 else 0))

/-! ### 03: descriptors -/

/-- Every change descriptor (R70, R72, R73, R74, R76 .. R80, R82, R86) that passes its checks is held as a member, a
bank write or an immediate take, and its record is written; with CHECK_ONLY only the record is written. R70 .. R73,
R171, R187: what each way of holding a change does to the takes and banks. -/
def Obligations.ChangeDescriptors : Prop :=
  (∀ (s s' : State) (e : Fin 16) (r : Request) (p : Plan),
     let ok : Instr → Nat → List Entry → Bool → Nat × Nat → Prop := fun c op es lenBad v =>
       s.ready e op r → Accepted s r es lenBad p s' →
       (r.checkOnly = false → exec c s = .next ((s'.holdAs r es p v).1.conclude e r (s'.holdAs r es p v).2)) ∧
       (r.checkOnly = true → exec c s = .next (s.finish e r St.OK v.1 v.2 0))
     let bulk : (Nat → Nat → Entry) → List Entry := fun f => entriesOf f (leWords r.buf)
     let bad8 := r.hostLen % 8 != 0 || decide (32768 < r.hostLen)
     let gfx := (s.owner (oriCmp (bitField (r.word 5) 0 7))).getD 0
     let ctx := bitField (r.word 5) 0 18
     let old := match s.flow ctx with | some x => x.words | none => []
     let core := bitField (r.word 5) 0 5
     ok (.route e) 0x10 [routeEntry (r.word 5) (r.word 6)] false (0, 0) ∧
     ok (.routeBulk e) 0x11 (bulk routeEntry) bad8 ((bulk routeEntry).length, 0) ∧
     ok (.audioMap e) 0x12 (bulk mapEntry) bad8 ((bulk mapEntry).length, 0) ∧
     ok (.audioGain e) 0x13 (bulk gainEntry) bad8 ((bulk gainEntry).length, 0) ∧
     ok (.layer e) 0x14 [r.layerEntry gfx] (r.hostLen % 16 != 0 || decide (1024 < r.hostLen)) (0, 0) ∧
     ok (.compositorSet e) 0x15 [r.compEntry] false (0, 0) ∧
     ok (.freshPolicy e) 0x16 [r.freshEntry] false (0, 0) ∧
     ok (.alloc e) 0x22 [r.allocEntry] false (allocated p.changes, s'.freePages) ∧
     ok (.ancInsert e) 0x33 [s.insertEntry r] (decide (8192 < r.hostLen)) (r.hostLen / 4, 0) ∧
     ok (.flowAdd e) 0x40 [{ field := if r.hostLen = 64 then s.flowFieldBad (leWords r.buf) else none
                             index := flowIndexBad (leWords r.buf), change := some (.flowAdd ctx (leWords r.buf)) }]
       (r.hostLen != 64) (0, 0) ∧
     ok (.flowDel e) 0x41 [{ change := some (.flowDel ctx old) }] false (if old = [] then 0 else 1, 0) ∧
     (s.coreGated core = false →
       (r.probeAction = 1 → s.fld PROBE_STATE core = coreStopped → ok (.probeStart e) 0x51 [r.probeEntry] false (0, 0)) ∧
       (r.probeAction = 2 → ok (.probeStop e) 0x51 [r.probeEntry] false (0, 0)) ∧
       (r.probeAction = 3 → ok (.probeReset e) 0x51 [r.probeEntry] false (0, 0)) ∧
       (r.probeAction = 4 → ok (.probeResetStart e) 0x51 [r.probeEntry] false (0, 0)))) ∧
  (∀ (s : State) (r : Request) (es : List Entry) (p : Plan) (v : Nat × Nat),
     (r.group ≠ 0 → s.findGroup r.part r.group = none →
       ((s.holdAs r es p v).1).take.takes = s.take.takes ++
         [{ kind := .group, part := r.part, group := r.group, todo := p.changes, count := p.count es }] ∧
       ((s.holdAs r es p v).1).cfg = s.cfg) ∧
     (r.group ≠ 0 → ∀ k, s.findGroup r.part r.group = some k → ((s.holdAs r es p v).1).cfg = s.cfg) ∧
     (r.group = 0 → r.bank = true → ((s.holdAs r es p v).1).take.takes = s.take.takes ∧ ((s.holdAs r es p v).1).cfg = s.cfg) ∧
     (s.holdAs r es p v).2.status = St.OK)

/-- R74, R88: the first check that fails decides the status, and nothing changes but the group that a refused member
belongs to, which has failed (R72). R75, R83, R86, R438: the descriptors that stage nothing. -/
def Obligations.OtherDescriptors : Prop :=
  (∀ (s : State) (e : Fin 16) (r : Request) (d : Done), s.isActive = true →
     (s.holding e 0x10 = some r → s.entryChecks r [routeEntry (r.word 5) (r.word 6)] false = some d →
       (r.group = 0 ∨ r.checkOnly = true →
         exec (.route e) s = .next (((s.mirrorCmd r d).announce d).finish e r d.status d.v0 d.v1 d.detail)) ∧
       ∀ k, r.group ≠ 0 → r.checkOnly = false → s.findGroup r.part r.group = some k → k.state = .opened →
         exec (.route e) s = .next ((s.updTake k (fun k => { k with state := .failed })).conclude e r d)) ∧
     (∀ es lenBad x, r.headerBad = some x → s.entryChecks r es lenBad = some (fail St.BAD_FIELD x)) ∧
     (∀ es lenBad, r.headerBad = none → (∀ x ∈ es, x.field = none ∧ x.index = none) → r.lengthBad = true →
       s.entryChecks r es lenBad = some (fail St.BAD_LENGTH 0))) ∧
  (∀ (s : State) (e : Fin 16) (r : Request),
     (s.ready e 0x00 r → s.entryChecks r [] false = none → exec (.nop e) s = .next (s.conclude e r (done 0 0))) ∧
     ((s.engine e).cur = some r → opcodeListed r.opcode = false →
       exec (.badOpcode e) s = .next (s.finish e r St.BAD_OPCODE 0 0 0)) ∧
     (s.ready e 0x60 r → s.entryChecks r [] false = none →
       exec (.timeQuery e) s = .next (s.conclude e r (done s.now s.timeStatus))) ∧
     (s.ready e 0x61 r → s.entryChecks r [] false = none → r.part = 0 → s.fldOn TM_STEP_PENDING = true →
       (signed 64 (r.word64At 6) - s.pendingStep).natAbs ≤ s.fld TM_JUMP_NS →
       exec (.acceptStep e) s = .next (s.applyPending.conclude e r
         { status := St.OK, v0 := unsignedOf 64 s.pendingStep, v1 := s.applyPending.now })) ∧
     (s.holding e 0x01 = some r → s.entryChecks r [] false = none →
       (s.fenceMet r.part r.ring (s.fenceOf r) = true → exec (.fence e) s = .next (s.finish e r St.OK s.now 0 0)) ∧
       (s.fenceMet r.part r.ring (s.fenceOf r) = false → (s.fenceOf r).limitUs = 0 →
         exec (.fence e) s = .next (s.finish e r St.TIMEOUT 0 0 0)) ∧
       (s.fenceMet r.part r.ring (s.fenceOf r) = false → (s.fenceOf r).limitUs ≠ 0 →
         exec (.fence e) s = .next ((s.setRing r.part r.ring
           { s.ring r.part r.ring with fence := some (s.fenceOf r), place := .parked }).freeEngine e))) ∧
     (∀ (p : Fin 8) (k : Fin 64) (w : FenceWait), exec (.fenceTimeout p k) s = .next (s.tokens.fenceTimeout p k) ∧
       (s.parkedFence p k = some (r, w) →
         (s.fenceMet p k w = true → s.fenceOver w = false → exec (.fenceMet p k) s = .next (s.complete r St.OK s.now 0 0)) ∧
         (s.fenceOver w = true → s.fenceTimeout p k = s.complete r St.TIMEOUT 0 0 0) ∧
         (s.fenceOver w = false → s.fenceTimeout p k = s))) ∧
     (s.isActive = false → s.holding e 0x10 = some r → exec (.route e) s = .next (s.finish e r St.STATE 0 0 0)))

/-- COMMIT and BANK_FLIP, and their aborts (R81, R164, R176, R177, R189). R81, R177: a milepost is 3 ms on, at the first
whole millisecond, where none is given; one whose staging deadline has passed is late. The values of an abort are the
model's choice (log entry 76). -/
def Obligations.CommitsAndFlips : Prop :=
  (∀ (s : State) (e : Fin 16) (r : Request) (k : Take), s.entryChecks r [{}] false = none → r.checkOnly = false →
     s.milepostFar r = false →
     let t := s.milepostOf (r.word64At 6)
     let n := s.fld TK_BANK_CHANGES r.part
     let flip : Take := { kind := .flip, part := r.part, todo := (s.bank r.part).steps, marks := (s.bank r.part).marks, count := n }
     (s.ready e 0x20 r → r.group ≠ 0 → s.findGroup r.part r.group = some k →
       (r.aborts = false → k.state = .opened → s.milepostLate (r.word64At 6) = false → k.count ≠ 0 →
         s.takeAdmission k t = none →
         exec (.commit e) s = .next (((s.updTake k (fun _ => s.schedule k t)).takeSeq).conclude e r
           { done t k.count with cseq := s.take.nextSeq, t := t })) ∧
       (r.aborts = false → k.state = .opened → s.milepostLate (r.word64At 6) = false → k.count ≠ 0 →
         ∀ d, s.takeAdmission k t = some d → exec (.commit e) s = .next (s.conclude e r d)) ∧
       (r.aborts = false → k.state = .failed →
         exec (.commit e) s = .next ((s.discardTake k).conclude e r (fail St.GROUP_FAILED 0))) ∧
       (r.aborts = true → s.unsealed k = true →
         exec (.commitAbort e) s = .next ((s.discardTake k).conclude e r (done 0 k.count)))) ∧
     (s.ready e 0x21 r → s.hasLease r.part = true →
       (r.aborts = false → s.flipOf r.part = none → s.milepostLate (r.word64At 6) = false → n ≠ 0 →
         s.takeAdmission flip t = none →
         exec (.bankFlip e) s = .next (((s.setTakes (s.take.takes ++ [s.schedule flip t])).takeSeq).conclude e r
           { done t n with cseq := s.take.nextSeq, t := t })) ∧
       (r.aborts = true → s.flipOf r.part = some k → s.unsealed k = true →
         exec (.bankFlipAbort e) s = .next ((s.discardTake k).conclude e r (done 0 k.count))))) ∧
  (∀ s : State, (∀ t, t ≠ 0 → s.milepostOf t = t) ∧ s.milepostOf 0 % 1000000 = 0 ∧
     s.now + 3000000 ≤ s.milepostOf 0 ∧ s.milepostOf 0 < s.now + 4000000 ∧
     ∀ t, s.milepostLate t = true ↔ t ≠ 0 ∧ t ≤ s.now + 2000000)

/-- GRAPHIC_LOAD, PROBE_LOAD and HANDOVER (R84, R86, R454). -/
def Obligations.LoadsAndHandover : Prop :=
  ∀ (s : State) (e : Fin 16) (r : Request),
    (s.ready e 0x30 r →
      let h := bitField (r.word 5) 0 12
      let w := bitField (r.word 6) 0 16
      let ht := bitField (r.word 6) 16 16
      let key := 4096 * r.part + h
      let s' := s.returnPages (Tab.get [] s.store.gfxPages key)
      let n := if w = 0 then 0 else graphicPages w ht
      let c := s'.claimPages 0 n
      let t : State := { c.1 with store := { c.1.store with
        gfxPages := Tab.set [] c.1.store.gfxPages key c.2
        graphics := Tab.set none c.1.store.graphics key (if w = 0 then none else
          some { w := w, h := ht, data := leWords r.buf }) } }
      h ≠ 0 → w ≤ 4096 → ht ≤ 2160 → (w = 0 ↔ ht = 0) → s.entryChecks r [{}] (r.hostLen != w * ht * 4) = none →
      s.hasLease r.part = true →
      (s.graphicUsed r.part h = false → s'.poolHas 0 n = true →
        exec (.graphicLoad e) s = .next (t.conclude e r (done r.hostLen 0))) ∧
      (s.graphicUsed r.part h = false → s'.poolHas 0 n = false →
        exec (.graphicLoad e) s = .next (s.conclude e r (fail St.NO_MEMORY 0))) ∧
      (s.graphicUsed r.part h = true → exec (.graphicLoad e) s = .next (s.conclude e r (fail St.IN_USE 0)))) ∧
    (s.ready e 0x50 r →
      let c := bitField (r.word 5) 0 5
      let off := r.word 6
      off % 4 = 0 → s.mayChange r.part (oriProbe c) = true → s.fld PROBE_STATE c = coreStopped → s.coreGated c = false →
      (bitField (r.word 5) 8 2 = 1 → s.entryChecks r [{}] (decide (65536 < off + r.hostLen)) = none →
        exec (.probeLoad e) s = .next ((s.setCore c { s.core c with
          loaded := true
          imem := Tab.setRange 0 (s.core c).imem (off / 4) (leWords r.buf) }).conclude e r (done r.hostLen 0))) ∧
      (bitField (r.word 5) 8 2 = 2 → s.entryChecks r [{}] (decide (131072 < off + r.hostLen)) = none →
        exec (.probeLoad e) s = .next ((s.setCore c { s.core c with
          loaded := true
          dmem := Tab.setRange 0 (s.core c).dmem (off / 2) (leHalves r.buf) }).conclude e r (done r.hostLen 0)))) ∧
    (s.ready e 0x70 r → s.entryChecks r [] false = none → r.part = 0 → s.role ≠ Role.SOLO →
      s.fldOn CWAY_PEER_READY = true → s.fld CWAY_PEER_STATE = Role.STANDBY → s.milepostLate (r.word64At 6) = false →
      let t := s.milepostOf (r.word64At 6)
      exec (.handover e) s = .next ((s.startHandover 0 t).1.conclude e r
        { done t 0 with cseq := (s.startHandover 0 t).2, t := t }))

/-- THUMB_CAPTURE, ANC_DRAIN and STATS_SNAPSHOT (R50, R66, R85, R86): what they write to host memory goes before the
record, and waits with it while the partition is LAPSED; a write that fails ends the descriptor with HOST_FAULT. -/
def Obligations.ReadsToHostMemory : Prop :=
  ∀ (s : State) (e : Fin 16) (r : Request),
    (s.holding e 0x31 = some r →
      let n := bitField (r.word 5) 0 11
      let level := bitField (r.word 5) 16 3
      let count := bitField (r.word 6) 0 8
      n < 1120 → level < 5 → bitAt (s.cfg.ring n).ladder level = true →
      s.entryChecks r [{}] (decide (r.hostLen < count * s.thumbBytes n level)) = none → s.mayRead r.part n = true →
      (count ≠ 0 → exec (.thumbCapture e) s = .next ((s.setRing r.part r.ring { s.ring r.part r.ring with
        thumb := some { src := n, level := level, left := count, addr := r.hostAddr, firstSeq := 0, bytes := 0,
                        lastSeq := (s.src n).seq }, place := .parked }).freeEngine e)) ∧
      (count = 0 → exec (.thumbCapture e) s = .next (s.finish e r St.OK 0 0 0))) ∧
    (∀ (p : Fin 8) (k : Fin 64) (w : ThumbWait) (rest : List Request), (s.ring p k).place = .parked →
      (s.ring p k).thumb = some w → (s.ring p k).fetched = r :: rest →
      (w.left = 0 → exec (.thumbCaptureDone p k none) s = .next (s.complete r St.OK w.bytes w.firstSeq 0)) ∧
      (w.bytes ≠ 0 → ∀ a : BitVec 64, exec (.thumbCaptureDone p k (some a)) s =
        .next ((s.hostFault p (.cmd k) 0 a.toNat).complete r St.HOST_FAULT 0 0 0))) ∧
    (s.holding e 0x32 = some r →
      let q := bitField (r.word 5) 0 8
      s.entryChecks r [] false = none → s.mayChange r.part (oriQueue q) = true → s.fld ANCQ_CONSUMER q = 1 →
      (bitAt (r.word 6) 1 = true → s.fldOn ANCQ_MARK_LOST q = false) →
      (s.drainQueue r q = none → exec (.ancDrain e none) s = .next (s.finish e r St.BAD_LENGTH 0 0 0)) ∧
      ∀ t ps, s.drainQueue r q = some (t, ps) →
        (wordBytes ps.flatten = [] → ∀ bad, exec (.ancDrain e bad) s = .next (t.finish e r St.OK 0 ps.length 0)) ∧
        (wordBytes ps.flatten ≠ [] →
          exec (.ancDrain e none) s = .next ((t.dataToHost r.part r.ring r.hostAddr (wordBytes ps.flatten)).finish e r
            St.OK (wordBytes ps.flatten).length ps.length 0) ∧
          ∀ a : BitVec 64, exec (.ancDrain e (some a)) s =
            .next ((t.hostFault r.part (.cmd (Fin.ofNat 64 r.ring)) 0 a.toNat).finish e r St.HOST_FAULT 0 0 0))) ∧
    (s.holding e 0x34 = some r →
      let set := bitField (r.word 5) 0 4
      let first := bitField (r.word 6) 0 18
      let count := bitField (r.word 7) 0 19
      let ids := (List.range count).map (fun i => first + i)
      let bs := ids.flatMap (s.statsRecord set)
      let t := s.when (bitAt (r.word 5) 8) (fun s => s.each ids (fun s i => s.statsClear set i))
      let u : State := { t with free := t.free + first + count }
      1 ≤ set → set ≤ 8 → first + count ≤ statsCount set → count ≤ 262144 →
      s.entryChecks r [{}] (decide (r.hostLen < count * statsBytes set)) = none →
      (bs = [] → ∀ bad, exec (.statsSnapshot e bad) s = .next (u.finish e r St.OK s.now count 0)) ∧
      (bs ≠ [] →
        exec (.statsSnapshot e none) s = .next ((u.dataToHost r.part r.ring r.hostAddr bs).finish e r St.OK s.now count 0) ∧
        ∀ a : BitVec 64, exec (.statsSnapshot e (some a)) s =
          .next ((u.hostFault r.part (.cmd (Fin.ofNat 64 r.ring)) 0 a.toNat).finish e r St.HOST_FAULT 0 0 0))) ∧
    (∀ (p : Nat) (k : Nat) (a : Nat) (bs : List Byte),
      (s.pstate p ≠ partLapsed → s.dataToHost p k a bs = s.emit (.hostData p a bs)) ∧
      (s.pstate p = partLapsed → s.dataToHost p k a bs =
        s.setRing p k { s.ring p k with heldData := (s.ring p k).heldData ++ [(a, bs)] }))

/-! ### 04: references, device time and planes -/

/-- The events of the references and of the loop (R104 .. R109, R111, R114, R123, R124): when each acts, and what it does;
those of a tick act after the tokens that R124 puts before it. PRIO_WRITE, SET_GO and OFFSET_NS (R108, R115, R116,
R121), by P0. -/
def Obligations.TimingEvents : Prop :=
  (∀ (s : State) (r : Fin 11), r.val ≠ 0 →
     let w := if r.val = 9 then s.setFld APLANE_WCLK_PRESENT 1 else s
     let on := w.refOn r = true ∧ w.fld REF_RSTATE r = 0 ∧ (r.val = 1 ∨ r.val = 2 → w.conductorHalted = false)
     let v := (w.setFld REF_RSTATE 1 r).setRefRun r
       { w.refRun r with validFrom := w.time.grid, lostAt := none, noHold := false }
     (on → w.selRef ≠ r.val ∨ (w.refRun r).lostAt = none → exec (.refSignalPresent r) s = .next v) ∧
     (∀ t, on → w.selRef = r.val → (w.refRun r).lostAt = some t → exec (.refSignalPresent r) s =
       .next (v.raise Ev.REF_GLITCH { data := Config.glitchData r ((w.time.grid - t) / 1000) % 2 ^ 64 })) ∧
     (¬on → exec (.refSignalPresent r) s = .next w) ∧
     (s.fld REF_RSTATE r = 1 → (s.refRun r).validFrom + 2000000000 ≤ s.time.grid →
       exec (.refQualified r) s = .next ((s.setFld REF_RSTATE 2 r).setRefRun r
         { s.refRun r with validFrom := s.time.grid })) ∧
     (s.fld REF_RSTATE r = 1 → s.time.grid < (s.refRun r).validFrom + 2000000000 →
       exec (.refQualified r) s = .next s) ∧
     ∀ seen : RefFault,
       let u := if r.val = 9 then s.setFld APLANE_WCLK_PRESENT 0 else s
       (s.lossSeen r seen = true → u.fld REF_RSTATE r ≠ 0 → exec (.refLoss ⟨r, seen⟩) s = .next (u.loseRef r)) ∧
       (s.lossSeen r seen = true → u.fld REF_RSTATE r = 0 → exec (.refLoss ⟨r, seen⟩) s = .next u) ∧
       (s.lossSeen r seen = false → exec (.refLoss ⟨r, seen⟩) s = .next s)) ∧
  (∀ (s : State) (r : Nat),
     (∀ (ns : Nat) (k : Nat), k ≤ 1 → (s.lossSeen r (.noAnnounce ns k) = true ↔ (r = 1 ∨ r = 2) ∧ 3 * (10 ^ 9 * 2 ^ k) ≤ ns)) ∧
     (s.lossSeen r .leftFormat = true ↔ r = 7) ∧ (s.lossSeen r .noBiphase = true ↔ r = 8) ∧
     (s.lossSeen r .linkDown = true ↔ r = 10) ∧ (∀ ns, s.lossSeen r (.noTime ns) = true ↔ r = 10 ∧ 10000000 ≤ ns) ∧
     (∀ ns, s.lossSeen r (.noEdge ns) = true ↔ (3 ≤ r ∧ r ≤ 6 ∧ s.fld REF_MODE r = 2 ∧ 1010000000 ≤ ns) ∨
       (((3 ≤ r ∧ r ≤ 6 ∧ s.fld REF_MODE r = 3) ∨ r = 9) ∧ 1000 ≤ ns)) ∧
     (s.selRef = r → (s.loseRef r).time.goodFrom = none ∧ ((s.loseRef r).refRun r).lostAt = some s.time.grid ∧
       (s.loseRef r).fld TM_SEL_REF = r) ∧
     (s.selRef ≠ r → (s.loseRef r).time.goodFrom = s.time.goodFrom)) ∧
  (∀ s : State,
     exec .holdoffExpiry s = .next s.tokens.holdoffPassed ∧ exec .wtrExpiry s = .next s.tokens.revert ∧
     exec .holdoverOos s = .next s.tokens.holdoverOos ∧
     (∀ m : TimeMeasure, exec (.refSelectionTick m) s = .next (s.tokens.selectionTick m)) ∧
     (∀ t, s.selRef ≠ 0 → (s.refRun s.selRef).lostAt = some t →
       let limit := if (s.refRun s.selRef).noHold then 1 else max 1 (s.fld TM_HOLDOFF_MS * 1000000)
       (s.expired t limit 1000000 = true → s.holdoffPassed = s.reselect) ∧
       (s.expired t limit 1000000 = false → s.holdoffPassed = s)) ∧
     (s.selRef = 0 ∨ (s.refRun s.selRef).lostAt = none → s.holdoffPassed = s) ∧
     (∀ m : TimeMeasure,
       let u := ({ s with time := { s.time with lastTick := s.time.grid / 1000000 } }).takeMeasures m
       (s.time.grid / 1000000 ≤ s.time.lastTick → s.selectionTick m = s) ∧
       (s.time.lastTick < s.time.grid / 1000000 →
         (u.selRef ≠ 0 → s.selectionTick m = u.trackPending.trackLock.trackAbove.loopStep.learn) ∧
         (u.selRef = 0 → u.bestRef (fun _ => true) = none → s.selectionTick m = u) ∧
         ∀ r, u.selRef = 0 → u.bestRef (fun _ => true) = some r → s.selectionTick m = u.selectRef r)) ∧
     (∀ r, s.fldOn TM_REVERTIVE = true → s.selRef ≠ 0 → s.bestRef s.wtrPassed = some r → s.revert = s.selectRef r) ∧
     (s.fldOn TM_REVERTIVE = false ∨ s.bestRef s.wtrPassed = none → s.revert = s) ∧
     (∀ t, s.time.goodFrom = some t → s.fld TM_STATE = Tm.ACQUIRING → t + 5000000000 ≤ s.time.grid →
       exec .lockAcquired s = .next ((((s.setFld TM_STATE Tm.LOCKED).setFld TM_LOCKED 1).setFld TM_HOLDOVER 0).raise
         Ev.LOCK_ACQUIRED { data := s.selRef })) ∧
     (∀ t, s.time.badFrom = some t → s.fld TM_STATE = Tm.LOCKED → t + 1000000000 ≤ s.time.grid →
       exec .lockLost s = .next s.acquire) ∧
     (s.fldOn TM_HOLDOVER = true → s.fldOn TM_OOS = false →
       s.expired s.time.holdoverFrom (s.fld TM_OOS_S * 1000000000) 1000000 = true →
       s.holdoverOos = (s.setFld TM_OOS 1).raise Ev.HOLDOVER_OOS { data := (s.setFld TM_OOS 1).holdoverSeconds }) ∧
     (s.fldOn TM_HOLDOVER = false ∨ s.fldOn TM_OOS = true → s.holdoverOos = s) ∧
     (s.fldOn APLANE_A_HOLDOVER = false →
       let t := (s.setFld APLANE_A_LOCKED 0).setFld APLANE_A_HOLDOVER 1
       (s.fld APLANE_SRC = 2 → exec .wclkLost s =
         .next ((t.setFld APLANE_WCLK_PRESENT 0).raise Ev.WCLK_LOST { data := 0 })) ∧
       (s.fld APLANE_SRC ≠ 1 → s.fld APLANE_SRC ≠ 2 → exec .wclkLost s =
         .next (t.raise Ev.WCLK_LOST { data := 1 + t.fld APLANE_DARS_IN }))) ∧
     (s.fld APLANE_SRC = 1 → exec .wclkLost s = .next s ∧ exec .audioPlaneSourceReturn s = .next s) ∧
     (s.fld APLANE_SRC ≠ 1 →
       let t := (s.setFld APLANE_A_LOCKED 1).setFld APLANE_A_HOLDOVER 0
       let u := if s.fld APLANE_SRC = 2 then t.setFld APLANE_WCLK_PRESENT 1 else t
       exec .audioPlaneSourceReturn s = .next (u.setAud { u.time.aud with edge := none, back := true }))) ∧
  (∀ (s : State) (w : Fin 8),
     (∀ (r : Fin 11) (val : Word), 1 ≤ r.val → s.writable w (0x30100 + 0x20 * r) →
       exec (.prioWrite w r val) s =
         .next ((s.writeRefReg (Blk.time.at? (0x30100 + 0x20 * r)) val.toNat).disarmed w)) ∧
     (s.writable w 0x30038 → exec (.setGo w) s = .next (s.setGo.disarmed w)) ∧
     (∀ (p : Fin 8) (val : Word), s.writable w (0x30404 + 0x40 * p) →
       exec (.offsetNs w p val) s = .next ((s.writeOffset p val.toNat).disarmed w)) ∧
     ∀ r : Nat,
       (s.refOn r = true → s.selRef ≠ r ∨ s.fld REF_PRIO r ≠ 0 → s.refWritten r = s) ∧
       (s.refOn r = true → s.selRef = r → s.fld REF_PRIO r = 0 →
         s.refWritten r = s.setRefRun r { s.refRun r with noHold := true }) ∧
       (s.refOn r = false → s.fld REF_RSTATE r ≠ 0 → s.refWritten r = (s.loseRef r).setRefRun r
         { (s.loseRef r).refRun r with noHold := !(s.loseRef r).fldOn REF_PRIO r }))

/-- R115, R119: while SET = 0 a write of TM_SET_GO sets device time to TM_SET at once, and the ticks keep their grid.
R116: while SET = 1 an offset above TM_JUMP_NS is refused: the core goes to HOLDOVER, the step waits, and device time
does not move. R118: a step that is accepted is the pending one, and nothing is pending after it. R101: device time
never goes back of its own, goes on by at most 2 ns in a cycle, and takes at most one correction in 1 µs (the model's
cycle: an empty queue, log entries 2, 4). -/
def Obligations.StepsOfDeviceTime : Prop :=
  (∀ (s : State) (w : Fin 8), s.writable w 0x30038 → s.selRef = 0 ∨ timeBearing s.selRef = false → s.fld TM_SET = 0 →
     s.pair TM_SET_LO TM_SET_HI < 2 ^ 64 →
     ∃ t, exec (.setGo w) s = .next t ∧ t.now = s.pair TM_SET_LO TM_SET_HI ∧ t.fld TM_SET = 1 ∧ t.time.grid = s.time.grid) ∧
  (∀ s : State,
     let d : Int := (s.pair TM_SET_LO TM_SET_HI : Int) - s.now
     (s.selRef ≠ 0 → timeBearing s.selRef = true → s.setGo = s) ∧
     (s.selRef = 0 ∨ timeBearing s.selRef = false → s.fldOn TM_SET = true →
       (d.natAbs ≤ s.fld TM_JUMP_NS → s.fld TM_SLEW_PPB ≠ 0 →
         s.setGo = { s with time := { s.time with slewLeft := d * 2 ^ 48 } }) ∧
       (s.fld TM_JUMP_NS < d.natAbs → s.setGo = s.refuseStep d true s.selRef))) ∧
  (∀ (s : State) (d : Int) (host : Bool) (last : Nat), -(2 ^ 63) ≤ d → d < 2 ^ 63 →
     let t := s.refuseStep d host last
     t.fldOn TM_HOLDOVER = true ∧ t.fld TM_STEP_PENDING = 1 ∧ t.pendingStep = d ∧ t.now = s.now ∧ t.time.grid = s.time.grid) ∧
  (∀ s : State,
     (s.applyPending.now : Int) = ((s.now : Int) + s.pendingStep) % 2 ^ 64 ∧ s.applyPending.fld TM_STEP_PENDING = 0 ∧
     s.applyPending.time.grid = s.time.grid) ∧
  (∀ s t : State, s.pending = [] → step s = .next t →
     s.time.grid ≤ t.time.grid ∧ t.time.grid ≤ s.time.grid + 2 ∧ t.time.stepSum = s.time.stepSum ∧
     (t.time.grid ≠ s.time.grid + 1 → s.time.lastAdjust + 1000 ≤ s.time.grid ∧ t.time.lastAdjust = t.time.grid))

/-- R103: a limit counted in ticks expires at the first tick that lies at least the limit after its start, so never
early and less than one tick late. R120: frame k of a plane starts at floor(k × DEN × 10^9 ÷ NUM) + OFFSET_NS, and the
frame in progress is the last one that has started. R121: an offset is kept as written, and used only while its
magnitude is below one frame period of the plane. -/
def Obligations.LimitsAndPlanes : Prop :=
  (∀ (s : State) (start len tick : Nat), 0 < tick →
     expiry start len tick % tick = 0 ∧ start + len ≤ expiry start len tick ∧ expiry start len tick < start + len + tick ∧
     (s.expired start len tick = true ↔ expiry start len tick ≤ s.time.grid)) ∧
  (∀ (rate : Nat) (ofs t : Int) (k : Nat), 1 ≤ rate → rate ≤ 8 →
     gridStart rate ofs k = ((k * (rateFrac rate).2 * 10 ^ 9 / (rateFrac rate).1 : Nat) : Int) + ofs ∧
     gridStart rate ofs k < gridStart rate ofs (k + 1) ∧
     (gridStart rate ofs k ≤ t ↔ k < gridIndex rate ofs t)) ∧
  (∀ (s : State) (p : Fin 8) (v : Nat), v < 2 ^ 32 →
     (s.writeOffset p v).fld PLANE_OFFSET_NS p = v ∧
     (s.planeUsers p = 0 → ((s.writeOffset p v).planeRun p).offsetUsed =
       if (signed 32 v).natAbs * (rateFrac (s.planeRate p)).1 < (rateFrac (s.planeRate p)).2 * 10 ^ 9 then signed 32 v else 0) ∧
     (s.planeUsers p ≠ 0 → ((s.writeOffset p v).planeRun p).offsetUsed = (s.planeRun p).offsetUsed) ∧
     (s.planeUsers p ≠ 0 → ∀ x, s.writePlane p x = s))

/-! ### 05, 06, 07, 09: the frame store, takes and frames -/

/-- MILEPOST, STAGING_DEADLINE, DECISION_INSTANT, FLIP_SETTLE and DISCARD (R169, R177, R178, R188, R190). R177, R178:
a scheduled take with an alone queue is sealed at its staging deadline, 2 ms before its milepost, and a sealed one is
decided 1 ms before it; before that neither happens; its members are copied behind those of the takes sealed before it,
8 changes or more per µs. R188: DISCARD empties the inactive bank and leaves the live
configuration. -/
def Obligations.TakeTimeline : Prop :=
  (∀ s : State,
     exec .milepost s = .next (s.each (sortTakes (s.take.takes.filter (fun k => k.state == .decided && decide (k.t ≤ s.now))))
       State.reachTake) ∧
     exec .stagingDeadline s = .next (s.each ((s.take.takes.filter (fun k => k.state == .scheduled &&
       decide (k.t ≤ s.now + 2000000))).mergeSort (fun a b => decide (a.seq ≤ b.seq))) State.sealTake) ∧
     (∀ late : List Nat, s.isActive = true →
       exec (.decisionInstant late) s = .next ((s.each ((s.take.takes.filter (fun k => k.state == .sealed &&
         decide (k.t ≤ s.now + 1000000))).mergeSort (fun a b => decide (a.seq ≤ b.seq)))
         (fun s k => s.decideTake k (s.copiedAll late k))).each
         (s.cway.handovers.filter (fun h => !h.decided && decide (h.t ≤ s.now + 1000000))) State.decideHandover)) ∧
     (∀ late : List Nat, s.isActive = false → exec (.decisionInstant late) s = .next s) ∧
     (∀ (late : List Nat) (k : Take), k.copiedBy ≤ s.time.grid ∨ late = [] → s.copiedAll late k = true) ∧
     (∀ (p : Fin 8) (k : Take), s.flipOf p = some k → k.state = .decided → k.ended = true →
       exec (.flipSettle p) s = .next (((((s.removeTake k).setBank p {}).setFld TK_BANK_CHANGES 0 p).addFld TK_APPLIED 1 p).raise
         Ev.GROUP_APPLIED { index := 0, sub := k.deferrals, data := k.count + 2 ^ 32 * (k.seq % 2 ^ 32), dest := [p.val] })) ∧
     (∀ w p : Fin 8, w.val = 0 ∨ w = p → s.writable w (pcbOff p + 0xA04) → s.flipOf p = none →
       exec (.discard w p) s = .next ((s.discardBank p).disarmed w))) ∧
  (∀ (s : State) (k : Take), s.take.takes = [k] → s.follows = false → s.isActive = true → s.cway.handovers = [] →
     (k.state = .scheduled → s.now + 2000000 < k.t → exec .stagingDeadline s = .next s) ∧
     (k.state = .scheduled → k.t ≤ s.now + 2000000 → s.takeBarred k = none →
       let busy := max s.time.grid s.take.copyBusy + 125 * k.count
       (k.kind = .flip → exec .stagingDeadline s = .next (s.setTakes [{ k with state := .sealed, ackDue := false }])) ∧
       (k.kind ≠ .flip → exec .stagingDeadline s = .next (({ s with take := { s.take with copyBusy := busy } }).setTakes
         [{ k with state := .sealed, copiedBy := busy, ackDue := false }]))) ∧
     (k.state = .sealed → s.now + 1000000 < k.t → ∀ late, exec (.decisionInstant late) s = .next s) ∧
     (k.state = .decided → s.now < k.t → exec .milepost s = .next s)) ∧
  (∀ (s : State) (p : Fin 8),
     (s.discardBank p).bank p = {} ∧ (s.discardBank p).fld TK_BANK_CHANGES p = 0 ∧ (s.discardBank p).cfg = s.cfg ∧
     (s.discardBank p).take.takes = s.take.takes)

/-- FRAME_START, LINE_START, SELECTION_INSTANT, SLOT_CLOSE and CLOSE_DEADLINE (R120, R124, R150, R151, R317, R463): a token
acts after the tokens that R124 puts first. -/
def Obligations.FrameEvents : Prop :=
  ∀ s : State,
    (∀ p : Fin 8, exec (.frameStart p) s = .next ((s.sealDue.reachAll).frameToken p)) ∧
    (∀ p : Nat,
      ((s.planeFrame p).safe = false → s.frameToken p =
        ((s.planeFrame p).each ((s.planeFrame p).dstsOf p) State.dstFrame).each
          (((s.planeFrame p).each ((s.planeFrame p).dstsOf p) State.dstFrame).cmpsOf p) State.cmpFrame) ∧
      ((s.planeFrame p).safe = true → s.frameToken p = s.planeFrame p)) ∧
    (∀ (p : Fin 8) (late : List Reader),
      let t := (s.frameTokens).lineToken p
      exec (.lineStart p late) s = .next (if t.safe = true ∨ t.follows = true ∨ linesOf (t.fld PLANE_LINES p) = 0 then t
        else t.each late (fun s x => s.tearOn p (readerNum x)))) ∧
    (∀ p : Nat,
      let r := s.planeRun p
      let j := s.lineAt p (r.frame - 1) r.start s.nowInt
      let t := s.setPlaneRun p { r with lastLine := j + 1 }
      (s.safe = false → r.frame ≠ 0 → linesOf (s.fld PLANE_LINES p) ≠ 0 → r.start ≤ s.nowInt → r.lastLine ≤ j →
        s.lineToken p = t.each (t.dstsOf p) (fun s d => s.dstLine p d) ∧ j < linesOf (s.fld PLANE_LINES p)) ∧
      (s.safe = true ∨ r.frame = 0 ∨ s.nowInt < r.start ∨ j < r.lastLine → s.lineToken p = s)) ∧
    (∀ rd : Reader, exec (.selectionInstant rd) s =
      .next (if s.lineTokens.safe then s.lineTokens else s.lineTokens.selectAt (readerNum rd))) ∧
    (∀ n : Fin 1120,
      let t := if 1024 ≤ n.val then s.endCmpFrame (n.val - 1024) else s
      (t.writing n false).filter (fun x => match t.slotAt x with | some y => y.ended | none => false) = [] →
      exec (.slotClose n) s = .next t) ∧
    (∀ (n : Fin 1120) (x : SlotRef),
      let t := if 1024 ≤ n.val then s.endCmpFrame (n.val - 1024) else s
      (t.writing n false).filter (fun x => match t.slotAt x with | some y => y.ended | none => false) = [x] →
      exec (.slotClose n) s = .next (t.closeSlot x)) ∧
    (∀ n : Fin 1024, s.srcKind n = 2 → exec (.closeDeadline n) s = .next (s.each (s.writing n true) (fun s ref =>
      match s.slotAt ref with
      | some x => if s.closeDeadline n x ≤ s.now then
          (s.updSlot ref (fun y => { y with flags := y.flags ||| flagIncomplete })).closeSlot ref else s
      | none => s))) ∧
    (∀ n : Fin 1024, s.srcKind n ≠ 2 → exec (.closeDeadline n) s = .next s)

/-- ECC_CORRECTED, MEM_UE, SCRUB_PASS_END and TEMP_SENSOR_READ (R128, R129, R158 .. R163, R556). R161: a quarter-page is
retired once: MC_RETIRED counts it, it leaves the total of the pool that it lies in, and PAGE_RETIRED is raised. R162: the
hysteresis of HBM_HOT. That the device structures lie before the pool is the model's choice (log entry 81). -/
def Obligations.MemoryErrors : Prop :=
  (∀ (s : State) (stack : Fin 4),
     let shown : State → Nat → Nat → State := fun s a ue =>
       ((s.setFld MC_ERR_ADDR_LO (a % 2 ^ 32) stack).setFld MC_ERR_ADDR_HI (a / 2 ^ 32) stack).setFld MC_ERR_UE ue stack
     (∀ (qp : BitVec 16) (byte : BitVec 19),
       let addr := 524288 * qp.toNat + byte.toNat
       let t := shown (s.addFld MC_CE_CNT 1 stack) addr 0
       let u := { t with store := { t.store with thisPass := if t.store.thisPass.contains (stack.val, addr / 8)
         then t.store.thisPass else (stack.val, addr / 8) :: t.store.thisPass } }
       exec (.eccCorrected stack qp byte false) s = .next t ∧
       exec (.eccCorrected stack qp byte true) s =
         .next (if t.store.lastPass.contains (stack.val, addr / 8) then u.retire stack qp.toNat else u)) ∧
     (∀ (qp : BitVec 16) (line : BitVec 13) (b : BitVec 6),
       let addr := 524288 * qp.toNat + 64 * line.toNat + b.toNat
       let t := shown (s.addFld MC_UE_CNT 1 stack) addr 1
       (qp.toNat < poolFrom → exec (.memUe stack qp line b) s =
         .next ((t.raiseOpen Ev.MEM_UE_STRUCT { index := stack }).retire stack qp.toNat)) ∧
       (∀ n id i byte, poolFrom ≤ qp.toNat → t.slotByte stack addr = some (n, id, i, byte) →
         exec (.memUe stack qp line b) s = .next ((t.slotError n id i byte).retire stack qp.toNat)) ∧
       (poolFrom ≤ qp.toNat → t.slotByte stack addr = none →
         exec (.memUe stack qp line b) s = .next ((t.otherError stack addr).retire stack qp.toNat))) ∧
     (s.fld MC_SCRUB_MIN stack ≠ 0 →
       let mine : List (Nat × Nat) → List (Nat × Nat) := fun l => l.filter (fun w => w.1 == stack.val)
       let others : List (Nat × Nat) → List (Nat × Nat) := fun l => l.filter (fun w => w.1 != stack.val)
       let t := { s with store := { s.store with
         lastPass := others s.store.lastPass ++ mine s.store.thisPass, thisPass := others s.store.thisPass } }
       exec (.scrubPassEnd stack true) s = .next (t.addFld MC_SCRUB_PASSES 1 stack) ∧
       exec (.scrubPassEnd stack false) s = .next (t.setFld MC_SCRUB_LATE 1 stack)) ∧
     (s.fld MC_SCRUB_MIN stack = 0 → ∀ b, exec (.scrubPassEnd stack b) s = .next s) ∧
     (∀ (die : Vector (BitVec 8) 16) (hbm : Vector (BitVec 8) 4), exec (.tempSensorRead die hbm) s =
       .next ((s.dieTemp ((die.toList.map (·.toNat)).foldl max 0)).upTo 4
         (fun s i => s.stackTemp i ((hbm.toList.map (·.toNat)).getD i 0))))) ∧
  (∀ (s : State) (stack : Fin 4) (t : Nat), t < 256 →
     (s.stackTemp stack t).fld MC_TEMP stack = t ∧
     (s.fldOn MC_TEMP_HI stack = false → ((s.stackTemp stack t).fld MC_TEMP_HI stack = 1 ↔ 95 ≤ t)) ∧
     (s.fldOn MC_TEMP_HI stack = true → ((s.stackTemp stack t).fld MC_TEMP_HI stack = 0 ↔ t < 90))) ∧
  (∀ (s : State) (stack : Fin 4) (qp : Nat),
     (s.store.retiredQp.contains (stack.val, qp) = true → s.retire stack qp = s) ∧
     (s.store.retiredQp.contains (stack.val, qp) = false →
       (s.retire stack qp).store.retiredQp = (stack.val, qp) :: s.store.retiredQp ∧
       (s.retire stack qp).fld MC_RETIRED stack = (s.fld MC_RETIRED stack + 1) % 2 ^ MC_RETIRED.w ∧
       (qp < poolFrom → (s.retire stack qp).fld MC_QP_TOTAL stack = s.fld MC_QP_TOTAL stack) ∧
       (poolFrom ≤ qp → (s.retire stack qp).fld MC_QP_TOTAL stack = (s.fld MC_QP_TOTAL stack - 1) % 2 ^ MC_QP_TOTAL.w)))

/-- R229, R230: the basic coefficients of the scaler, which add up to 256, and the co-sited chroma samples that
decimation keeps. -/
def Obligations.ScalerArithmetic : Prop :=
  (∀ t : Nat, t < 64 →
    basicTaps t 0 = (-(t : Int) ^ 3 + 128 * (t : Int) ^ 2 - 4096 * t + 1024) / 2048 ∧
    basicTaps t 2 = (-3 * (t : Int) ^ 3 + 256 * (t : Int) ^ 2 + 4096 * t + 1024) / 2048 ∧
    basicTaps t 3 = ((t : Int) ^ 3 - 64 * (t : Int) ^ 2 + 1024) / 2048 ∧
    basicTaps t 1 = 256 - basicTaps t 0 - basicTaps t 2 - basicTaps t 3) ∧
  ∀ (p : Plane) (i y : Nat), i < (p.w + 1) / 2 → y < p.h →
    let c : Nat → Nat := fun k => p.data.getD (y * p.w + min (p.w - 1) k) 0
    (decimatePlane p).px i y = min 4095 ((c (2 * i - 1) + 2 * c (2 * i) + c (2 * i + 1) + 2) / 4)

/-! ### 08 and 10 to 12: destinations, receivers, media ports, flows and lanes -/

/-- Rows that write one register of a destination, a media port or a lane (R215, R216, R303, R310, R338, R341, R342,
R344, R346): a write that passes its checks. R338: PWR powers a lane up, which then calibrates, and down; a lane that
is on stays as it is. R341: taps whose magnitudes add up to more than 63 are refused with EQ_ERR, and the taps stay.
R215, R216: a destination is enabled only when nothing is wrong with its registers, EN_ERR says what is, and it is
disabled only when no route and no staged change names it; one that is still stopping runs on. R60, R310: a host-path
pointer is taken only while its ring is enabled and within what has been written; else HP_BAD. -/
def Obligations.MediaRegisters : Prop :=
  (∀ (s : State) (w : Fin 8),
     (∀ d : Fin 1024, s.writable w (0x600000 + 0x400 * d) →
       exec (.dstEnable w d) s = .next ((s.enableDst d).disarmed w) ∧
       exec (.dstDisable w d) s = .next ((s.disableDst d).disarmed w)) ∧
     (∀ m : Fin 64, let base := 0x1C0000 + 0x1000 * m.val
       (s.writable w base →
         exec (.mportEnable w m) s = .next ((((s.putRwl (Blk.mport.at? base) (s.wordWith base 8 1 1)
           (s.portRun m).modeLocked).putFld MPORT_HP_LONG (s.wordWith base 8 1 1) m).enablePort m).disarmed w) ∧
         exec (.mportDisable w m) s = .next ((((s.putRwl (Blk.mport.at? base) (s.wordWith base 8 1 0)
           (s.portRun m).modeLocked).putFld MPORT_HP_LONG (s.wordWith base 8 1 0) m).disablePort m).disarmed w)) ∧
       ∀ val : Word,
         (s.writable w (base + 0x4C) → exec (.hpRxHead w m val) s = .next ((s.writeHpRxHead m val.toNat).disarmed w)) ∧
         (s.writable w (base + 0x5C) → exec (.hpTxTail w m val) s = .next ((s.writeHpTxTail m val.toNat).disarmed w)) ∧
         (s.writable w (base + 0x48) →
           exec (.hpRingEnable w m false val) s = .next ((s.writeHpRxRing m val.toNat).disarmed w)) ∧
         (s.writable w (base + 0x58) →
           exec (.hpRingEnable w m true val) s = .next ((s.writeHpTxRing m val.toNat).disarmed w))) ∧
     (∀ l : Fin 584, let base := 0x100000 + 0x200 * l.val
       (s.writable w base →
         exec (.lanePowerUp w l) s = .next ((s.writeLaneCtl l (s.wordWith base 0 1 1)).disarmed w) ∧
         exec (.lanePowerDown w l) s = .next ((s.writeLaneCtl l (s.wordWith base 0 1 0)).disarmed w) ∧
         ∀ val : Word, exec (.loopWrite w l val) s = .next ((s.writeLaneCtl l val.toNat).disarmed w) ∧
           exec (.prbsChkWrite w l val) s = .next ((s.writeLaneCtl l val.toNat).disarmed w)) ∧
       (s.writable w (base + 4) → isTxLane l = true → ∀ val : Word,
         exec (.txeqWrite w l val) s = .next ((s.writeTxEq l val.toNat).disarmed w)) ∧
       (s.writable w (base + 0x84) →
         exec (.esGo w l) s = .next (((s.putWord (Blk.lane.at? (base + 0x84)) 1).scanGo l).disarmed w)))) ∧
  (∀ (s : State) (l : Fin 584),
     (s.fldOn LANE_PWR l = false → (512 ≤ l.val ∨ s.gated (12 + l % 256 / 4) = false) →
       (s.writePwr l true).fld LANE_PWR l = 1 ∧ ((s.writePwr l true).laneRun l).calFrom = s.time.grid + 1) ∧
     (s.fldOn LANE_PWR l = true → s.writePwr l true = s)) ∧
  (∀ (s : State) (l : Fin 584) (v : Nat),
     (63 < bitField v 8 4 + bitField v 16 6 + bitField v 24 5 → (s.writeTxEq l v).fld LANE_EQ_ERR l = 1 ∧
       (s.writeTxEq l v).fld LANE_C_PRE l = s.fld LANE_C_PRE l ∧ (s.writeTxEq l v).fld LANE_C_MAIN l = s.fld LANE_C_MAIN l ∧
       (s.writeTxEq l v).fld LANE_C_POST l = s.fld LANE_C_POST l) ∧
     (bitField v 8 4 + bitField v 16 6 + bitField v 24 5 ≤ 63 → (s.writeTxEq l v).fld LANE_C_PRE l = bitField v 8 4 ∧
       (s.writeTxEq l v).fld LANE_C_MAIN l = bitField v 16 6 ∧ (s.writeTxEq l v).fld LANE_C_POST l = bitField v 24 5)) ∧
  (∀ (s : State) (d : Fin 1024), (s.dstRun d).stopping = false →
     let named := (s.cfg.dst d).vsrc ≠ 2047 ∨ (s.cfg.dst d).asrc ≠ 2047 ∨ (s.cfg.dst d).nsrc ≠ 2047 ∨ s.dstStaged d = true
     (s.fldOn DST_ENABLE d = false → s.dstError d = 0 → (s.enableDst d).fld DST_ENABLE d = 1) ∧
     (s.fldOn DST_ENABLE d = false → s.dstError d ≠ 0 → (s.enableDst d).fld DST_EN_ERR d = s.dstError d ∧
       (s.enableDst d).fldOn DST_ENABLE d = false) ∧
     (s.fldOn DST_ENABLE d = true → s.enableDst d = s) ∧
     (s.fldOn DST_ENABLE d = true → ¬named → (s.disableDst d).fld DST_ENABLE d = 0) ∧
     (named → s.disableDst d = s)) ∧
  (∀ (s : State) (d : Fin 1024), (s.dstRun d).stopping = true →
     (s.enableDst d).fld DST_ENABLE d = 1 ∧ ((s.enableDst d).dstRun d).stopping = false) ∧
  (∀ (s : State) (m : Fin 64) (v : Nat), v < 2 ^ 16 →
     let size := 2 ^ s.fld MPORT_HP_RX_LOG2 m
     let within := ringDist size v (s.fld MPORT_HP_RX_HEAD m) ≤
       ringDist size (s.fld MPORT_HP_RX_TAIL m) (s.fld MPORT_HP_RX_HEAD m)
     (s.fldOn MPORT_HP_RX_EN m = true → v < size → within → (s.writeHpRxHead m v).fld MPORT_HP_RX_HEAD m = v) ∧
     (s.fldOn MPORT_HP_RX_EN m = false ∨ size ≤ v ∨ ¬within → (s.writeHpRxHead m v).fld MPORT_HP_BAD m = 1 ∧
       (s.writeHpRxHead m v).fld MPORT_HP_RX_HEAD m = s.fld MPORT_HP_RX_HEAD m)) ∧
  (∀ (s : State) (m : Fin 64) (v : Nat), v < 2 ^ 16 →
     let size := 2 ^ s.fld MPORT_HP_TX_LOG2 m
     let within := ringDist size (s.fld MPORT_HP_TX_TAIL m) (s.fld MPORT_HP_TX_HEAD m) ≤
       ringDist size v (s.fld MPORT_HP_TX_HEAD m)
     (s.fldOn MPORT_HP_TX_EN m = true → v < size → within → (s.writeHpTxTail m v).fld MPORT_HP_TX_TAIL m = v) ∧
     (s.fldOn MPORT_HP_TX_EN m = false ∨ size ≤ v ∨ ¬within → (s.writeHpTxTail m v).fld MPORT_HP_BAD m = 1 ∧
       (s.writeHpTxTail m v).fld MPORT_HP_TX_TAIL m = s.fld MPORT_HP_TX_TAIL m))

/-- Events of the serial video receivers (R145, R146, R279 .. R283, R285, R288, R291, R335): a receiver that locks acquires
its signal, a frame that starts opens a slot, a frame that ends is written, a frame cut off is closed INCOMPLETE, and a
quad-link signal is lost with its last member only. -/
def Obligations.SerialVideoEvents : Prop :=
  ∀ s : State,
    (∀ (l : Fin 256) (rate : BitVec 4), s.fldOn LANE_PWR l = true → s.rxHeld (s.rxHead l) = false → 1 ≤ rate.toNat →
      rate.toNat ≤ 9 → s.fldOn LANE_PLL_LOCK l = false →
      let i := s.rxHead l
      let k := l.val % 4
      let t := ((s.setFld LANE_PLL_LOCK 1 l).setFld LANE_SIG_DET 1 l).setFld SDIRX_RATE_DET rate.toNat l
      ((t.rx i).locked = false → exec (.sdiLaneLock l rate) s =
        .next (t.rxAcquire i (if t.rxQuad i then (List.range 4).filter (· != k) else []))) ∧
      ((t.rx i).locked = true → (t.rx i).good = 3 → exec (.sdiLaneLock l rate) s = .next t) ∧
      ((t.rx i).locked = true → (t.rx i).good ≠ 3 → (t.rx i).lost.contains k = true → (t.rx i).rejoin.contains k = false →
        exec (.sdiLaneLock l rate) s = .next (t.setRx i { t.rx i with rejoin := (t.rx i).rejoin ++ [k] }))) ∧
    (∀ (rx : VideoIn) (cut : SdiFrame), (s.rx rx.idx).locked = true → s.rxHeld rx.idx = false →
      let i := rx.idx
      let u := if (s.rx i).inFrame then (s.cutFrame i cut true).setRx i { (s.cutFrame i cut true).rx i with
        good := if (s.rx i).good = 3 then 3 else 0 } else s
      let x : RxRun := { u.rx i with
        inFrame := true, crcMask := decide (i < 256) && u.fldOn SDIRX_CRC_MASK i, frameAt := some u.time.grid,
        lost := (u.rx i).lost.filter (fun k => !(u.rx i).rejoin.contains k), rejoin := [] }
      let t := (u.setRx i x).showRx i
      (t.rxSource i = none → exec (.sourceFrameStart rx cut) s = .next t) ∧
      ∀ n, t.rxSource i = some n →
        (t.srcState n = 2 → t.ingestHeld n = false →
          exec (.sourceFrameStart rx cut) s = .next (t.openSlot n t.now)) ∧
        (t.srcState n ≠ 2 ∨ t.ingestHeld n = true → exec (.sourceFrameStart rx cut) s = .next t)) ∧
    (∀ (rx : VideoIn) (frame : SdiFrame), (s.rx rx.idx).locked = true → (s.rx rx.idx).inFrame = true →
      s.rxHeld rx.idx = false →
      let i := rx.idx
      let ms := s.frameMembers i frame
      let v := s.farEnd i ms
      let a := v.frameArrival i ms
      (∀ (m : SdiMember) (more : List SdiMember), a.links.filterMap id = m :: more →
        exec (.sdiFrameEnd rx frame) s = .next (v.frameReceived i ms a m)) ∧
      (a.links.filterMap id = [] → (s.rx i).good = 3 → exec (.sdiFrameEnd rx frame) s = .next (v.rxLoss i frame false)) ∧
      (a.links.filterMap id = [] → (s.rx i).good ≠ 3 → exec (.sdiFrameEnd rx frame) s =
        .next (((v.frameErrors i ms).setRx i { s.rx i with inFrame := false, good := 0, prev := none }).showRx i))) ∧
    (∀ (rx : VideoIn) (cut : SdiFrame), (rx.idx < 256 → s.rxHead rx.idx = rx.idx) →
      exec (.sdiLoss rx cut) s = .next (s.rxLoss rx.idx cut true)) ∧
    (∀ (rx : VideoIn) (cut : SdiFrame), rx.idx < 256 → s.rxHead rx.idx ≠ rx.idx →
      exec (.sdiLoss rx cut) s = .next (s.memberLost rx.idx false cut)) ∧
    (∀ (l : Fin 256) (skew : Bool), exec (.quadMemberLost l skew) s =
      .next (s.memberLost l skew { members := [] })) ∧
    (∀ l : Fin 256, s.rxQuad (s.rxHead l) = true → (s.rx (s.rxHead l)).locked = true →
      (s.rx (s.rxHead l)).lost.contains (l.val % 4) = true → (s.rx (s.rxHead l)).rejoin.contains (l.val % 4) = false →
      let i := s.rxHead l
      let t := (((s.showMember i (l.val % 4) true).setRx i { s.rx i with rejoin := (s.rx i).rejoin ++ [l.val % 4] }).setFld
        LANE_PLL_LOCK 1 l).setFld LANE_SIG_DET 1 l
      exec (.quadMemberRejoin l) s = .next (t.raise Ev.QUAD_MEMBER
        { index := i, data := l.val % 4 + 2 ^ 8 * 3, dest := t.rxOwners i })) ∧
    (∀ (rx : VideoIn) (p : AncPacket), (s.rx rx.idx).locked = true → s.rxHeld rx.idx = false →
      (p.good = false → exec (.ancPacketReceived rx p) s = .next (s.addRxFld rx.idx SDIRX_ANC_CS_ERR 1)) ∧
      (p.good = true →
        let u := if p.did8 = 0x60 ∧ p.sdid8 = 0x60 then s.setRxFld rx.idx SDIRX_ATC (atcWord p.udw) else s
        (u.rxSource rx.idx = none → exec (.ancPacketReceived rx p) s = .next u) ∧
        ∀ n, u.rxSource rx.idx = some n →
        let x := u.ancTake n (u.ancSeq n) p
        exec (.ancPacketReceived rx p) s = .next (if x.2 then x.1 else x.1.addRxFld rx.idx SDIRX_ANC_OVF 1)))

/-- Events of the media ports and their flows (R304 .. R310, R317, R322, R325, R330, R340): a link trains, comes up and goes
down; a posted host frame is sent once, with the device time of its own leaving where it asks for one; a frame that arrives
counts under the first reason of R304 that drops it, or goes down the parse chain; the short path takes one frame in 500 ns;
a context that is silent for its time is DOWN. -/
def Obligations.MediaPortEvents : Prop :=
  ∀ s : State,
    (∀ (l m : Fin 64) (taps : Option EqNow), s.trainingPort (512 + l) = some m.val →
      let t := s.setPortRun m { s.portRun m with training := (s.portRun m).training.filter (· != 512 + l.val) }
      exec (.linkTrainingEnd l taps) s = .next (match taps with
        | some e => (((t.setFld LANE_TXPRE_NOW e.pre.toNat (512 + l)).setFld LANE_TXMAIN_NOW e.main.toNat (512 + l)).setFld
            LANE_TXPOST_NOW e.post.toNat (512 + l)).setFld LANE_LT_DONE 1 (512 + l)
        | none => t.setFld LANE_LT_DONE 0 (512 + l))) ∧
    (∀ m : Fin 64, s.portOn m = true → s.fldOn MPORT_LINK_UP m = false → (s.portRun m).training = [] →
      s.fldOn DOM_DSTATE (76 + m / 4) = false →
      exec (.portUp m) s = .next ((s.setFld MPORT_LINK_UP 1 m).raise Ev.PORT_UP
        { index := m, data := (s.setFld MPORT_LINK_UP 1 m).now, dest := (s.setFld MPORT_LINK_UP 1 m).ownerList (oriPort m) })) ∧
    (∀ m : Fin 64, exec (.portDown m) s = .next (s.portDown m)) ∧
    (∀ (m : Fin 64) (p : Nat) (answer : BitVec 64), s.owner (oriPort m) = some p → s.fldOn MPORT_HP_TX_EN m = true →
      s.fld MPORT_HP_TX_HEAD m ≠ s.fld MPORT_HP_TX_TAIL m → s.maySend m = true → s.live p = true →
      let next := (s.fld MPORT_HP_TX_HEAD m + 1) % 2 ^ s.fld MPORT_HP_TX_LOG2 m
      exec (.hpTxSend m (.error answer)) s = .next ((s.setFld MPORT_HP_FAULT 1 m).setFld MPORT_HP_TX_HEAD next m) ∧
      ∀ slot : List Byte, let len := leNat (slot.take 4) % 2 ^ 14
        (14 ≤ len → len ≤ 2032 → s.gapFor m len = false → exec (.hpTxSend m (.bytes slot)) s = .next s) ∧
        (len < 14 ∨ 2032 < len →
          exec (.hpTxSend m (.bytes slot)) s = .next ((s.setFld MPORT_HP_BAD 1 m).setFld MPORT_HP_TX_HEAD next m)) ∧
        (14 ≤ len → len ≤ 2032 → s.gapFor m len = true →
          let x := s.sendFrame m (slice 16 len slot)
          let y := x.1.addFld MPORT_HP_TX_PKTS 1 m
          let addr := x.1.hpBase MPORT_HP_TX_BASE_LO MPORT_HP_TX_BASE_HI m + 2048 * s.fld MPORT_HP_TX_HEAD m + 8
          (x.2 = false → exec (.hpTxSend m (.bytes slot)) s = .next (x.1.setFld MPORT_HP_TX_HEAD next m)) ∧
          (x.2 = true → exec (.hpTxSend m (.bytes slot)) s = .next ((if bitAt (leNat (slot.take 4)) 16
            then y.emit (.hostData p addr (leBytes 8 (s.txStamp m))) else y).setFld MPORT_HP_TX_HEAD next m)))) ∧
    (∀ (m : Fin 64) (frame : NetFrame), s.portOn m = true → s.fldOn MPORT_LINK_UP m = true →
      let len := frame.bytes.length + 4
      let t := ((s.addPair MPORT_RX_FRAMES_LO MPORT_RX_FRAMES_HI 1 m).addPair MPORT_RX_BYTES_LO MPORT_RX_BYTES_HI len m).countFec
        m frame
      (t.safe = true → exec (.mediaFrameReceive m frame) s = .next t) ∧
      (t.safe = false →
      let whole := frame.fcsOk = true ∧ (t.portFec m = true → frame.fecBad = 0)
      (¬whole → exec (.mediaFrameReceive m frame) s = .next (t.addFld MPORT_RX_FCS_ERR 1 m)) ∧
      (whole → len < 64 → exec (.mediaFrameReceive m frame) s = .next (t.addFld MPORT_RX_RUNT 1 m)) ∧
      (whole → 64 ≤ len → t.fld MPORT_MAXFRAME m < len →
        exec (.mediaFrameReceive m frame) s = .next (t.addFld MPORT_RX_OVERSIZE 1 m)) ∧
      (whole → 64 ≤ len → len ≤ t.fld MPORT_MAXFRAME m →
        (beAt frame.bytes 12 2 = 0x8808 → exec (.mediaFrameReceive m frame) s = .next (t.addFld MPORT_RX_PAUSE 1 m)) ∧
        (beAt frame.bytes 12 2 ≠ 0x8808 → t.addressed m frame.bytes = false →
          exec (.mediaFrameReceive m frame) s = .next (t.addFld MPORT_RX_NOFLOW 1 m)) ∧
        (beAt frame.bytes 12 2 ≠ 0x8808 → t.addressed m frame.bytes = true →
          exec (.mediaFrameReceive m frame) s = .next (t.parseChain m frame.bytes))))) ∧
    (∀ (i : Fin 16) (x : ShortFrame) (rest : List ShortFrame) (u : UdpFrame), s.shortQueue i = x :: rest →
      parseFrame x.bytes = .udp u →
      let last := Tab.get 0 s.media.shortAt i
      (last ≠ 0 → s.time.grid + 1 < last + 500 → exec (.shortPathLookup i) s = .next s) ∧
      (last = 0 ∨ last + 500 ≤ s.time.grid + 1 →
        let t := s.setShortQueue i rest
        exec (.shortPathLookup i) s = .next (({ t with media := { t.media with
          shortAt := Tab.set 0 t.media.shortAt i (t.time.grid + 1) } }).lookupFrame x.port x.rxTime x.bytes u true))) ∧
    (∀ (f : Fin 262144) (x : FlowRun), s.flow f = some x →
      (flowDir x.words = 1 → x.lastGrid + s.flowLimit x.words ≤ s.time.grid →
        exec (.flowLegDown f) s = .next (s.flowDown f)) ∧
      (flowDir x.words = 2 → s.fldOn DST_LIVE (flowObj x.words) = false →
        exec (.sendPacketDue f) s = .next (s.updFlow f (fun x => { x with queue := [], next := 0, sides := [] }))) ∧
      (flowDir x.words = 2 → s.fldOn DST_LIVE (flowObj x.words) = true →
        (flowIsAudio x.words = true → exec (.sendPacketDue f) s = .next (s.sendAudio f x)) ∧
        (flowIsAudio x.words = false → exec (.sendPacketDue f) s = .next (s.sendVideo f x)))) ∧
    (∀ n : Fin 1024, (s.srcKind n = 2 ∧ s.srcState n = 2) ∨ (s.srcKind n = 3 ∧ (s.rx (256 + n)).locked = true) →
      (s.src n).lastPacket + 2000000 ≤ s.time.grid + 1 →
      let seq := match s.writing n true with | r :: _ => r.seq | [] => 0
      let t := (s.becomeAbsent n true).setRx (256 + n) ((s.becomeAbsent n true).rx (256 + n)).blank
      exec (.netLoss n) s = .next (t.raise Ev.NET_LOSS { index := n, data := seq, dest := t.ownerList (oriSrc n) }))

/-- Events of the lanes and of the Causeway's physical layer (R331, R332, R334, R336, R338, R339, R342, R343). R347, R443:
what a lane scrambles the other end descrambles, and the columns of a message read back as that message. R349: a marker
column goes out after 16,383 columns. R350: block lock comes after 64 valid sync headers and is lost after 16 invalid ones in
64; a lane that loses it takes the link down. R352: the elastic buffer deletes and repeats filler columns only. -/
def Obligations.LaneEvents : Prop :=
  (∀ s : State,
     (∀ (l : Fin 584) (eq : EqNow), isRxLane l = true → s.fldOn LANE_PLL_LOCK l = true → s.fldOn LANE_MANUAL_EQ l = false →
       ∃ t, exec (.adaptDone l eq) s = .next t ∧ t.fld LANE_ADAPT_DONE l = 1 ∧
         t.fld LANE_CTLE_NOW l = eq.ctle.toNat % 2 ^ LANE_CTLE_NOW.w ∧ t.out = s.out) ∧
     (∀ pll : LanePll, s.lane.unlocked.contains pll = false → exec (.lanePllUnlock pll) s =
       .next (({ s.pllLost pll with lane := { (s.pllLost pll).lane with unlocked := pll :: (s.pllLost pll).lane.unlocked } }).raise
         Ev.LANE_PLL_UNLOCK { index := (pllFirst pll).1, sub := (pllFirst pll).2, data := (s.pllLanes pll).length })) ∧
     (∀ pll : LanePll, s.lane.unlocked.contains pll = true →
       let lanes : List Nat := match pll with
         | .sdiTx q _ => [256 + 4 * q.val, 257 + 4 * q.val, 258 + 4 * q.val, 259 + 4 * q.val]
         | .media l => [512 + l.val]
         | .causeway => [576, 577, 578, 579, 580, 581, 582, 583]
       exec (.lanePllRelock pll) s = .next (({ s with lane := { s.lane with
         unlocked := s.lane.unlocked.filter (· != pll) } }).each lanes (fun s l =>
           s.when (s.fldOn LANE_PWR l && !s.fldOn LANE_READY l) (fun s => s.calibrate l)))) ∧
     (∀ l : Fin 584, (s.laneRun l).calFrom ≠ 0 → s.fldOn LANE_PWR l = true →
       exec (.laneReady l) s = .next (s.laneReady l)) ∧
     (∀ (l : Fin 584) (errors bits : Word), s.fldOn LANE_ES_BUSY l = true →
       ((s.laneRun l).scanStop = false → exec (.esDone l errors) s =
         .next ((((s.setFld LANE_ES_BUSY 0 l).setFld LANE_ES_DONE 1 l).setFld LANE_ES_BITS (2 ^ s.fld LANE_ES_DWELL_LOG2 l) l).setFld
           LANE_ES_ERR (min errors.toNat (2 ^ s.fld LANE_ES_DWELL_LOG2 l)) l)) ∧
       ((s.laneRun l).scanStop = true →
         let t := (((s.setFld LANE_ES_BUSY 0 l).setFld LANE_ES_ABORT 1 l).setFld LANE_ES_BITS bits.toNat l).setFld LANE_ES_ERR
           (min errors.toNat bits.toNat) l
         exec (.esAbort l errors bits) s = .next (t.setLaneRun l { t.laneRun l with scanStop := false }))) ∧
     (∀ l : Fin 8, s.cwayOn = true → s.fldOn LANE_PWR (576 + l) = true → s.fldOn LANE_BLOCK_LOCK (576 + l) = false →
       let t := ((s.setFld LANE_BLOCK_LOCK 1 (576 + l)).setFld LANE_SIG_DET 1 (576 + l)).setFld LANE_PLL_LOCK 1 (576 + l)
       ∀ headers : List (BitVec 2), headersLock headers = true → exec (.cwBlockLockGained ⟨l, headers⟩) s =
         .next (t.setLaneRun (576 + l) { t.laneRun (576 + l) with good := 0, missed := 0 })) ∧
     (∀ (l : Fin 8) (headers : List (BitVec 2)),
       (headersLock headers = false → exec (.cwBlockLockGained ⟨l, headers⟩) s = .next s) ∧
       (headersLose headers = true → exec (.cwLaneDown l headers) s = .next (s.cwLose l true)) ∧
       (headersLose headers = false → exec (.cwLaneDown l headers) s = .next s)) ∧
     (∀ (l : Fin 8) (b : RxBlock) (apart : Nat) (bip : Byte) (skew : Nat),
       exec (.alignmentMarker l ⟨b, apart⟩ bip skew) s =
         .next (s.marker l (b.header == 0b10#2) b.payload.toNat apart bip.toNat skew)) ∧
     (s.cwayOn = true → let out := s.lane.cwTx.period s.lane.txMarker
       exec .cwMarkerSend s = .next (({ s with lane := { s.lane with
         txMarker := (s.lane.txMarker + 1) % 2 ^ 16, cwTx := out.1 } }).emit (.columns s.lane.txMarker out.2))) ∧
     (∀ (column : Vector RxBlock 8) (fill : Fin 17), s.fldOn CWAY_LINK_UP = true →
       let spare := column.toList.all fillerBlock
       (spare = false → exec (.filler ⟨column, fill⟩) s = .next s) ∧
       (spare = true → 10 < fill.val → exec (.filler ⟨column, fill⟩) s =
         .next ((s.addFld LANE_FILL_DEL 1 576).setFld LANE_EB_FILL (fill.val - 1) 576)) ∧
       (spare = true → fill.val < 6 → exec (.filler ⟨column, fill⟩) s =
         .next ((s.addFld LANE_FILL_INS 1 576).setFld LANE_EB_FILL (fill.val + 1) 576)) ∧
       (spare = true → 6 ≤ fill.val → fill.val ≤ 10 → exec (.filler ⟨column, fill⟩) s =
         .next (s.setFld LANE_EB_FILL fill.val 576)))) ∧
  (∀ (s : State) (l : Fin 8) (headers : List (BitVec 2)), headersLose headers = true →
     s.fldOn LANE_BLOCK_LOCK (576 + l) = true →
     ∃ t, exec (.cwLaneDown l headers) s = .next t ∧ t.fld LANE_BLOCK_LOCK (576 + l) = 0 ∧
       t.fld LANE_MARKER_LOCK (576 + l) = 0 ∧ t.fld CWAY_LINK_UP = 0) ∧
  (∀ t : CwTx, (t.period 0).2.length = 16384) ∧
  (∀ st v : Nat, st < 2 ^ 58 → v < 2 ^ 64 → descramble st (scramble st v).1 = v) ∧
  (∀ (ty flags mseq : Nat) (words : List Nat), knownType ty = true → flags < 2 ^ 8 → mseq < 2 ^ 24 → words.length ≤ 4095 →
     (∀ x ∈ words, x < 2 ^ 64) →
     readMessage ((messageColumns ty flags mseq words).flatten.map (·.payload)) = some (ty, flags, mseq, words))

/-! ### 13 to 15: audio, AES3 ports and ANC queues -/

/-- AIN_WRITE .. CONSUMER_WRITE (R357, R365, R370, R372, R380, R383, R387, R394, R400 .. R402): a write of P0, or of
the queue's or port's owner, that passes its checks. R394, R400, R402: a filter never names a source that the queue's
owner cannot read, and a number that is no source changes nothing else (R14); a high watermark lies above the low one. An
unowned queue is judged as P0's: log 63. -/
def Obligations.AudioRegisters : Prop :=
  (∀ (s : State) (w : Fin 8) (val : Word),
     (∀ n : Fin 1024,
       (s.writable w (0x81000 + 8 * n) → exec (.ainWrite w n 0 val) s = .next ((s.writeAin n val.toNat).disarmed w)) ∧
       (s.writable w (0x81004 + 8 * n) → exec (.ainWrite w n 1 val) s =
         .next ((s.putWord (Blk.aud.at? (0x81004 + 8 * n)) val.toNat).disarmed w)) ∧
       (s.writable w (0x83000 + 8 * n) → exec (.embWrite w n 0 val) s = .next ((s.writeEmb0 n val.toNat).disarmed w)) ∧
       (s.writable w (0x83004 + 8 * n) → exec (.embWrite w n 1 val) s = .next ((s.writeEmb4 n val.toNat).disarmed w))) ∧
     (∀ g : Fin 512, s.writable w (0x85000 + 8 * g) →
       exec (.agrpWrite w g val) s = .next ((s.writeAgrp g val.toNat).disarmed w)) ∧
     (∀ i : Fin 64,
       (s.writable w (0x90000 + 0x100 * i) →
         (∀ en : Bool, exec (.aesinEnable w i en) s =
           .next ((s.writeAesIn0 w i (s.wordWith (0x90000 + 0x100 * i) 0 1 (bit en))).disarmed w)) ∧
         exec (.aesinBind w i 0 val) s = .next ((s.writeAesIn0 w i val.toNat).disarmed w)) ∧
       (s.writable w (0x90004 + 0x100 * i) → exec (.aesinBind w i 1 val) s = .next ((s.writeAesIn4 w i val.toNat).disarmed w)) ∧
       (s.writable w (0x94000 + 0x100 * i) →
         exec (.aesoutEnable w i) s = .next ((s.writeAesOut0 i (s.wordWith (0x94000 + 0x100 * i) 0 1 1)).disarmed w) ∧
         exec (.aesoutDisable w i) s = .next ((s.writeAesOut0 i (s.wordWith (0x94000 + 0x100 * i) 0 1 0)).disarmed w)) ∧
       (s.writable w (0x94004 + 0x100 * i) → exec (.outCh w i val) s = .next ((s.writeOutCh i val.toNat).disarmed w))) ∧
     ∀ q : Fin 256,
       (s.writable w (0xA0000 + 0x40 * q) →
         exec (.ancqEnable w q) s = .next ((s.writeAncq0 q (s.wordWith (0xA0000 + 0x40 * q) 0 1 1)).disarmed w) ∧
         exec (.ancqDisable w q) s = .next ((s.writeAncq0 q (s.wordWith (0xA0000 + 0x40 * q) 0 1 0)).disarmed w) ∧
         exec (.consumerWrite w q val) s = .next ((s.writeAncq0 q val.toNat).disarmed w)) ∧
       (s.writable w (0xA0008 + 0x40 * q) → exec (.fsrcWrite w q val) s = .next ((s.writeFsrc q val.toNat).disarmed w)) ∧
       (s.writable w (0xA0010 + 0x40 * q) → exec (.watermarkWrite w q val) s = .next ((s.writeWatermark q val.toNat).disarmed w))) ∧
  (∀ (s : State) (q : Fin 256) (v : Nat),
     let n := bitField v 0 11
     (1120 ≤ n → n < 2047 → s.writeFsrc q v = s.setFld ANCQ_CFG_ERR 1 q) ∧
     (n ≠ 2047 → (1120 ≤ n ∨ s.mayRead ((s.owner (oriQueue q)).getD 0) n = false) →
       (s.writeFsrc q v).fld ANCQ_FSRC q = s.fld ANCQ_FSRC q ∧ (s.writeFsrc q v).fld ANCQ_CFG_ERR q = 1) ∧
     (n = 2047 ∨ (n < 1120 ∧ s.mayRead ((s.owner (oriQueue q)).getD 0) n = true) → (s.writeFsrc q v).fld ANCQ_FSRC q = n) ∧
     (v % 65536 ≠ 0 → v % 65536 ≤ v / 65536 % 65536 →
       (s.writeWatermark q v).fld ANCQ_HI_WM q = s.fld ANCQ_HI_WM q ∧ (s.writeWatermark q v).fld ANCQ_LO_WM q = s.fld ANCQ_LO_WM q ∧
       (s.writeWatermark q v).fld ANCQ_CFG_ERR q = 1) ∧
     (v % 65536 = 0 ∨ v / 65536 % 65536 < v % 65536 →
       (s.writeWatermark q v).fld ANCQ_HI_WM q = v % 65536 ∧ (s.writeWatermark q v).fld ANCQ_LO_WM q = v / 65536 % 65536))

/-- R357, R365: no write of a source's window or of a channel group makes two of them share a pool channel, and no
window reaches past the pool. -/
def Obligations.PoolWindowsStayApart : Prop :=
  ∀ (s : State) (n : Fin 1024) (g : Fin 512) (v : Nat),
    ((∀ i j : Fin 1024, i ≠ j → rangesMeet (s.fld AIN_BASE 0 i) (s.fld AIN_COUNT 0 i) (s.fld AIN_BASE 0 j) (s.fld AIN_COUNT 0 j)
        = false) → (∀ i : Fin 1024, s.fld AIN_BASE 0 i + s.fld AIN_COUNT 0 i ≤ 32768) →
      let t := s.writeAin n v
      (∀ i j : Fin 1024, i ≠ j → rangesMeet (t.fld AIN_BASE 0 i) (t.fld AIN_COUNT 0 i) (t.fld AIN_BASE 0 j)
        (t.fld AIN_COUNT 0 j) = false) ∧ ∀ i : Fin 1024, t.fld AIN_BASE 0 i + t.fld AIN_COUNT 0 i ≤ 32768) ∧
    ((∀ i j : Fin 512, i ≠ j → rangesMeet (s.fld AGRP_AG_BASE 0 i) (s.fld AGRP_AG_COUNT 0 i) (s.fld AGRP_AG_BASE 0 j)
        (s.fld AGRP_AG_COUNT 0 j) = false) →
      let t := s.writeAgrp g v
      ∀ i j : Fin 512, i ≠ j → rangesMeet (t.fld AGRP_AG_BASE 0 i) (t.fld AGRP_AG_COUNT 0 i) (t.fld AGRP_AG_BASE 0 j)
        (t.fld AGRP_AG_COUNT 0 j) = false)

/-- Blocks, sample ticks, locks of rate converters, and what AES3 inputs receive (R353, R363, R378 .. R382, R463). R124: a
tick acts after the tokens of its instant that come before it, a block before the samples it starts with. R382: a frame with
a biphase violation or a parity error counts. -/
def Obligations.AudioEvents : Prop :=
  ∀ s : State,
    (let p := s.probeTokens
     (p.safe = true → exec .audioBlock s = .next p ∧ exec .sampleTick s = .next p) ∧
     (p.safe = false →
       (p.time.lastBlock < p.blockIndex → exec .audioBlock s = .next (p.startBlock p.blockIndex)) ∧
       (p.blockIndex ≤ p.time.lastBlock → exec .audioBlock s = .next p) ∧
       (p.sampleIndex ≤ p.time.lastSample → exec .sampleTick s = .next p) ∧
       (p.time.lastSample < p.sampleIndex →
         let q := if p.time.lastBlock < p.blockIndex then p.startBlock p.blockIndex else p
         exec .sampleTick s =
           .next (({ q with time := { q.time with lastSample := p.sampleIndex } }).sampleAt (p.sampleIndex - 1))))) ∧
    (∀ i : Fin 64,
      (s.heldInReset 137 = false → s.fldOn AESIN_EN i = true → s.fld AESIN_STATE i = aesLocking →
        let t := s.setAesIn i { s.aesIn i with rateAtLock := s.fld AESIN_RATE_HZ i, off := 0 }
        exec (.asrcLock (.aes i)) s = .next (((t.setAesLock i true).setFld AESIN_STATE aesLocked i).raise Ev.AES_LOCK
          { index := i, data := ((t.setAesLock i true).setFld AESIN_STATE aesLocked i).fld AESIN_RATE_HZ i
            dest := ((t.setAesLock i true).setFld AESIN_STATE aesLocked i).ownerList (oriAes i) })) ∧
      (s.aesHears i = true →
        let x := s.aesIn i
        let y := { x with frames := some 0, lastZ := s.time.grid, seen := s.time.grid, cs := [] }
        (x.frames = none → exec (.zPreamble i) s = .next (s.setAesIn i y)) ∧
        (x.frames = some 192 → x.lastZ < s.time.grid → exec (.zPreamble i) s =
          .next (((s.setAesIn i y).darsEdge i).aesInterval i (192 * 10 ^ 9 / (s.time.grid - x.lastZ)))) ∧
        ∀ n, x.frames = some n → n ≠ 192 → exec (.zPreamble i) s = .next ((s.setAesIn i y).aesBlockError i)) ∧
      (∀ f : AesFrame, s.aesHears i = true →
        let u := if f.codingOk then s.addFld AESIN_PARITY_ERR (bit (!f.a.parityOk) + bit (!f.b.parityOk)) i
          else s.addFld AESIN_BIPHASE_ERR 1 i
        let t := ((u.setAesIn i ((u.aesIn i).heard f u.time.grid)).amendV i (u.aesIn i).frameAt).aesSamples i
        let x := t.aesIn i
        (x.frames = none → exec (.aesFrame i f) s = .next (t.setAesIn i x)) ∧
        (x.frames = some 192 →
          exec (.aesFrame i f) s = .next ((t.setAesIn i { x with frames := none, cs := [] }).aesBlockError i)) ∧
        ∀ n, x.frames = some n → n ≠ 192 →
          (x.cs.length ≠ 191 →
            exec (.aesFrame i f) s = .next (t.setAesIn i { x with frames := some (n + 1), cs := x.cs ++ [f.a.c] })) ∧
          (x.cs.length = 191 → exec (.aesFrame i f) s =
            .next (t.setAesIn i { x with frames := some (n + 1), cs := [], csDone := x.cs ++ [f.a.c] }))) ∧
      (s.aesHears i = true → (s.aesIn i).csDone.length = 192 →
        let bytes := bitsToBytes (s.aesIn i).csDone
        let t := s.setAesIn i { s.aesIn i with csDone := [] }
        (bitAt (bytes.headD 0) 0 = false ∨ csCrc (bytes.take 23) = bytes.getD 23 0 →
          exec (.channelStatusBlock i) s = .next (t.latchStatus i bytes)) ∧
        (bitAt (bytes.headD 0) 0 = true → csCrc (bytes.take 23) ≠ bytes.getD 23 0 → (t.aesIn i).lastCrc ≠ 0 →
          s.time.grid + 1 < (t.aesIn i).lastCrc + 10 ^ 9 →
          exec (.channelStatusBlock i) s = .next (t.addFld AESIN_CS_CRC_ERR 1 i))) ∧
      (s.aesHears i = true → s.time.grid < (s.aesIn i).seen + 64000 → exec (.aesLoss i) s = .next s) ∧
      (s.aesHears i = true → (s.aesIn i).seen + 64000 ≤ s.time.grid → s.fld AESIN_STATE i = aesLocked →
        let t := s.setAesIn i { s.aesIn i with frames := none, cs := [], csDone := [], off := 0 }
        let u := (t.setFld AESIN_BLOCK_SYNC 0 i).setFld AESIN_RATE_HZ 0 i
        let v := ((u.setAesLock i false).setFld AESIN_STATE aesNoSignal i).addFld AESIN_LOSS_CNT 1 i
        exec (.aesLoss i) s = .next (v.raise Ev.AES_LOSS
          { index := i, data := v.fld AESIN_LOSS_CNT i, dest := v.ownerList (oriAes i) })))

/-! ### 16: probe cores -/

/-- LDI .. MAX (R412, R415): the destination register and the flags of each register instruction; a word whose fields
are legal runs on every operand. -/
def Obligations.ProbeArithmetic : Prop :=
  ∀ (s : State) (c : Fin 32),
    let w := s.probeWord c
    let x := s.core c
    let d := bitField w 22 4
    let im := bitField w 0 16
    let dd := x.dreg d
    let a := x.dreg (bitField w 18 4)
    let b := x.dreg (bitField w 14 4)
    let n := bitField w 14 4
    let flags : CoreRun → Nat → CoreRun := fun y r => { y with z := r % 65536 == 0, n := bitAt r 15 }
    let put : Nat → CoreRun := fun r => flags (x.setD d r) r
    let add : CoreRun → Nat → Nat → CoreRun := fun y p q =>
      { flags y ((p + q) % 65536) with
        c := decide (65536 ≤ p + q), v := decide (signed 16 p + signed 16 q ≠ signed 16 ((p + q) % 65536)) }
    let sub : CoreRun → Nat → Nat → CoreRun := fun y p q =>
      { flags y ((p + 65536 - q) % 65536) with
        c := decide (q ≤ p), v := decide (signed 16 p - signed 16 q ≠ signed 16 ((p + 65536 - q) % 65536)) }
    let abs := if signed 16 a = -32768 then 32767 else (signed 16 a).natAbs
    let ok : Instr → Nat → Nat → CoreRun → Prop := fun i op mask y => s.atOp c op mask → exec i s = .next (s.coreNext c y)
    ok (.ldi c) 0x08 0x03C0FFFF (put im) ∧ ok (.mov c) 0x09 0x03FC0000 (put a) ∧
    ok (.add c) 0x0A 0x03FFC000 (add (x.setD d ((a + b) % 65536)) a b) ∧
    ok (.sub c) 0x0B 0x03FFC000 (sub (x.setD d ((a + 65536 - b) % 65536)) a b) ∧
    ok (.andReg c) 0x0C 0x03FFC000 (put (a &&& b)) ∧ ok (.orReg c) 0x0D 0x03FFC000 (put (a ||| b)) ∧
    ok (.xorReg c) 0x0E 0x03FFC000 (put (a ^^^ b)) ∧ ok (.cmp c) 0x0F 0x003FC000 (sub x a b) ∧
    ok (.addi c) 0x10 0x03C0FFFF (add (x.setD d ((dd + im) % 65536)) dd im) ∧
    ok (.cmpi c) 0x11 0x03C0FFFF (sub x dd im) ∧ ok (.andi c) 0x12 0x03C0FFFF (put (dd &&& im)) ∧
    ok (.shl c) 0x13 0x03FFC000 (put (a * 2 ^ n % 65536)) ∧ ok (.shr c) 0x14 0x03FFC000 (put (a / 2 ^ n)) ∧
    ok (.sra c) 0x15 0x03FFC000 (put (unsignedOf 16 (signed 16 a / 2 ^ n))) ∧
    ok (.absReg c) 0x16 0x03FC0000 { put abs with v := decide (signed 16 a = -32768) } ∧
    ok (.minReg c) 0x17 0x03FFC000 (put (unsignedOf 16 (if signed 16 a ≤ signed 16 b then signed 16 a else signed 16 b))) ∧
    ok (.maxReg c) 0x18 0x03FFC000 (put (unsignedOf 16 (if signed 16 a ≤ signed 16 b then signed 16 b else signed 16 a)))

/-- LD .. STA (R410, R412, R413, R414, R420): memory, address registers and accumulators. R410: a circular register is
brought inside its buffer by a modification, and a linear one wraps at 65,536. -/
def Obligations.ProbeMemoryAndAccumulators : Prop :=
  (∀ (s : State) (c : Fin 32),
     let w := s.probeWord c
     let x := s.core c
     let d := bitField w 22 4
     let i := bitField w 19 3
     let mode := bitField w 17 2
     let e := bitField w 15 4
     let j := bitField w 12 3
     let k := bitField w 25 1
     let sat := bitAt w 11
     let a := x.dreg (bitField w 18 4)
     let b := x.dreg (bitField w 14 4)
     let word : Nat → Nat := fun p => Tab.get 0 x.dmem (p % 65536)
     let m := bitField w 12 2
     let p : Int := (if m = 1 then (a : Int) else signed 16 a) * (if m = 0 then signed 16 b else (b : Int))
     let fit : Int → Int := fun v =>
       if sat then max (-(2 ^ 39)) (min v (2 ^ 39 - 1)) else (v + 2 ^ 39) % 2 ^ 40 - 2 ^ 39
     (s.atOp c 0x19 0x03FE0000 → mode ≠ 3 →
       exec (.ld c) s = .next (s.coreNext c ((x.setD d (word (x.xf i 0))).modify i mode) [(x.xf i 0, false)])) ∧
     (s.atOp c 0x1A 0x03FE0000 → mode ≠ 3 →
       exec (.st c) s = .next (s.coreNext c ((x.setData (x.xf i 0) (x.dreg d)).modify i mode) [(x.xf i 0, true)])) ∧
     (s.atOp c 0x1B 0x03FFF000 → i ≠ j → d ≠ e → exec (.ldd c) s = .next (s.coreNext c
       ((((x.setD d (word (x.xf i 0))).setD e (word (x.xf j 0))).modify i 1).modify j 1) [(x.xf i 0, false), (x.xf j 0, false)])) ∧
     (s.atOp c 0x1C 0x03E0FFFF →
       exec (.setx c) s = .next (s.coreNext c (x.setXf (bitField w 23 3) (bitField w 21 2) (bitField w 0 16)))) ∧
     (s.atOp c 0x1D 0x03FE0000 →
       exec (.movx c) s = .next (s.coreNext c (x.setXf (bitField w 23 3) (bitField w 21 2) (x.dreg (bitField w 17 4))))) ∧
     (s.atOp c 0x1E 0x03FE0000 → exec (.getx c) s = .next (s.coreNext c (x.setD d (x.xf i mode)))) ∧
     (s.atOp c 0x1F 0x03C000FF → ∀ v, s.probeSystem c (bitField w 0 8) x = some v →
       exec (.gets c) s = .next (s.coreNext c (x.setD d v))) ∧
     (s.atOp c 0x20 0x023FF800 → m ≠ 3 →
       exec (.mpy c) s = .next (s.coreNext c (x.setAcc k (fit p)))) ∧
     (s.atOp c 0x21 0x023FF800 → m ≠ 3 → exec (.mac c) s = .next (s.coreNext c (x.setAcc k (fit (x.acc k + p))))) ∧
     (s.atOp c 0x22 0x023FF800 → m ≠ 3 → exec (.msu c) s = .next (s.coreNext c (x.setAcc k (fit (x.acc k - p))))) ∧
     (s.atOp c 0x23 0x023FF800 →
       (m = 0 → exec (.ada c) s = .next (s.coreNext c (x.setAcc k (fit (x.acc k + (signed 16 a - signed 16 b).natAbs))))) ∧
       (m = 1 → exec (.ada c) s = .next (s.coreNext c (x.setAcc k (fit (x.acc k + ((a : Int) - (b : Int)).natAbs)))))) ∧
     (s.atOp c 0x24 0x02000000 → exec (.clra c) s = .next (s.coreNext c (x.setAcc k 0))) ∧
     (s.atOp c 0x25 0x023C0000 → exec (.mova c) s = .next (s.coreNext c (x.setAcc k (signed 16 a * 65536)))) ∧
     (s.atOp c 0x26 0x03FFC000 →
       let sh := signed 5 (bitField w 16 5)
       let v : Int := if 0 ≤ sh then x.acc (bitField w 21 1) * 2 ^ sh.toNat else x.acc (bitField w 21 1) / 2 ^ (-sh).toNat
       let r := v / 65536
       let y := if bitAt w 15 = false then unsignedOf 16 r else if bitAt w 14 then (max 0 (min r 65535)).toNat
         else unsignedOf 16 (max (-32768) (min r 32767))
       exec (.sta c) s = .next (s.coreNext c { x.setD d y with z := y % 65536 == 0, n := bitAt y 15 }))) ∧
  (∀ (x : CoreRun) (i mode : Nat), i < 8 → mode = 1 ∨ mode = 2 →
     let y := x.modify i mode
     let step : Int := if mode = 1 then signed 16 (x.xf i 3) else -(signed 16 (x.xf i 3))
     (x.xf i 2 = 0 → (y.xf i 0 : Int) = ((x.xf i 0 : Int) + step) % 65536) ∧
     (x.xf i 2 ≠ 0 → ∃ o, o < x.xf i 2 ∧ y.xf i 0 = (x.xf i 1 + o) % 65536 ∧
       (o : Int) = ((x.xf i 0 : Int) + step - x.xf i 1) % x.xf i 2) ∧
     (∀ f, f ≠ 0 → f < 4 → y.xf i f = x.xf i f) ∧ (∀ l f, l ≠ i → f < 4 → y.xf l f = x.xf l f))

/-- NOP .. LPX (R407, R411, R412, R415): flow, calls and loops. -/
def Obligations.ProbeFlow : Prop :=
  ∀ (s : State) (c : Fin 32),
    let w := s.probeWord c
    let x := s.core c
    let pc := s.fld PROBE_PC c
    let target := bitField w 0 16
    let cond := bitField w 22 4
    let last := bitField w 10 14
    let l := bitField w 25 1
    let start : Nat → CoreRun := fun count => (x.setLoop l
      { active := true, count := count, start := pc + 1, last := last, later := true }).setLoop (1 - l)
        { x.loop (1 - l) with later := false }
    (s.atOp c 0x00 0 → exec (.probeNop c) s = .next (s.coreNext c x)) ∧
    (s.atOp c 0x01 0 → ∃ t, exec (.halt c) s = .next t ∧ t.fld PROBE_STATE c = coreWaiting ∧
      t.fld PROBE_CYCLES_LAST c = (x.cycles + 1) % 2 ^ 32 ∧ (t.core c).loop0 = {} ∧ (t.core c).loop1 = {} ∧
      (t.core c).stack = [] ∧ (t.core c).d = x.d ∧ (t.core c).a0 = x.a0 ∧ (t.core c).a1 = x.a1 ∧ (t.core c).x = x.x ∧
      (t.core c).z = x.z ∧ (t.core c).n = x.n ∧ (t.core c).c = x.c ∧ (t.core c).v = x.v ∧ (t.core c).e = x.e ∧
      (t.core c).k = x.k ∧ (t.core c).f = x.f ∧ (t.core c).dmem = x.dmem ∧ (t.core c).imem = x.imem) ∧
    (s.atOp c 0x02 0x03C0FFFF → cond ≠ 15 → target < 16384 →
      (x.holds cond = true → exec (.br c) s = .next (s.coreJump c x target 2)) ∧
      (x.holds cond = false → exec (.br c) s = .next (s.coreNext c x))) ∧
    (s.atOp c 0x03 0xFFFF → target < 16384 → x.stack.length < 8 →
      exec (.call c) s = .next (s.coreJump c { x with stack := x.stack ++ [pc + 1] } target 2)) ∧
    (s.atOp c 0x04 0 → ∀ rest t, x.stack = rest ++ [t] →
      exec (.ret c) s = .next (s.coreJump c { x with stack := rest } t 2)) ∧
    (s.atOp c 0x05 0x02FFFFFF → pc < last →
      (bitField w 0 10 = 0 → exec (.lp c) s = .next (s.coreJump c x (last + 1) 1)) ∧
      (bitField w 0 10 ≠ 0 → exec (.lp c) s = .next (s.coreNext c (start (bitField w 0 10))))) ∧
    (s.atOp c 0x06 0x02FFFC0F → pc < last →
      (x.dreg (bitField w 0 4) = 0 → exec (.lpr c) s = .next (s.coreJump c x (last + 1) 1)) ∧
      (x.dreg (bitField w 0 4) ≠ 0 → exec (.lpr c) s = .next (s.coreNext c (start (x.dreg (bitField w 0 4)))))) ∧
    (s.atOp c 0x07 0x02000000 → exec (.lpx c) s = .next (s.coreNext c (x.setLoop l {}))) ∧
    ∀ y : CoreRun, (s.core c).haltPend = false → y.haltPend = false → y.stepping = false →
      (y.loop0.active = false → y.loop1.active = false → pc < 16383 → s.breakAt c (pc + 1) = false →
        (s.coreNext c y).fld PROBE_PC c = pc + 1 ∧ (s.coreNext c y).fld PROBE_STATE c = s.fld PROBE_STATE c ∧
        (s.coreNext c y).core c = { y with cycles := y.cycles + 1, skipBreak := false }) ∧
      (y.loop0.active = true → y.loop0.last = pc → y.loop1.active = false → y.loop0.later = true → y.loop0.start < 16384 →
        s.breakAt c y.loop0.start = false → 1 < y.loop0.count →
        (s.coreNext c y).fld PROBE_PC c = y.loop0.start ∧ ((s.coreNext c y).core c).loop0.count = y.loop0.count - 1) ∧
      (∀ dest cycles, dest < 16384 → s.breakAt c dest = false →
        (s.coreJump c y dest cycles).fld PROBE_PC c = dest ∧
        (s.coreJump c y dest cycles).core c = { y with cycles := y.cycles + cycles, skipBreak := false })

/-- R416: each fault stops the core with its cause and the address of the instruction, which has no effect. -/
def Obligations.ProbeFaults : Prop :=
  ∀ (s : State) (c : Fin 32),
    let w := s.probeWord c
    let pc := s.fld PROBE_PC c
    let stops : Instr → Nat → Prop := fun i cause =>
      ∃ t, exec i s = .next t ∧ t.fld PROBE_STATE c = coreFault ∧ t.fld PROBE_FAULT_CAUSE c = cause ∧
        t.fld PROBE_FAULT_PC c = pc ∧ t.core c = s.core c ∧ t.fld PROBE_PC c = pc
    pc < 16384 →
    (s.fld PROBE_STATE c = coreRunning → (s.breakAt c pc = false ∨ (s.core c).skipBreak = true) →
      probeListed (probeOp w) = false → stops (.br c) 1) ∧
    (s.atOp c 0x02 0x03C0FFFF → bitField w 22 4 = 15 ∨ 16384 ≤ bitField w 0 16 → stops (.br c) 1) ∧
    (s.atOp c 0x03 0xFFFF → bitField w 0 16 < 16384 → 8 ≤ (s.core c).stack.length → stops (.call c) 3) ∧
    (s.atOp c 0x04 0 → (s.core c).stack = [] → stops (.ret c) 4) ∧
    (s.atOp c 0x05 0x02FFFFFF → bitField w 10 14 ≤ pc → stops (.lp c) 5) ∧
    (s.atOp c 0x06 0x02FFFC0F → bitField w 10 14 ≤ pc → stops (.lpr c) 5) ∧
    (s.atOp c 0x19 0x03FE0000 → bitField w 17 2 = 3 → stops (.ld c) 1) ∧
    (s.atOp c 0x1A 0x03FE0000 → bitField w 17 2 = 3 → stops (.st c) 1) ∧
    (s.atOp c 0x1B 0x03FFF000 → bitField w 19 3 = bitField w 12 3 ∨ bitField w 22 4 = bitField w 15 4 → stops (.ldd c) 1) ∧
    (s.atOp c 0x1F 0x03C000FF → 6 ≤ bitField w 0 8 → bitField w 0 8 < 16 ∨ 28 ≤ bitField w 0 8 → stops (.gets c) 1) ∧
    (s.atOp c 0x20 0x023FF800 → bitField w 12 2 = 3 → stops (.mpy c) 1) ∧
    (s.atOp c 0x21 0x023FF800 → bitField w 12 2 = 3 → stops (.mac c) 1) ∧
    (s.atOp c 0x22 0x023FF800 → bitField w 12 2 = 3 → stops (.msu c) 1) ∧
    (s.atOp c 0x23 0x023FF800 → 2 ≤ bitField w 12 2 → stops (.ada c) 1) ∧
    (s.atOp c 0x30 0x03C00001 → bitField w 22 4 % 2 = 1 → stops (.pop c) 1) ∧
    (s.atOp c 0x31 0x03C00003 → bitField w 22 4 % 2 = 1 → stops (.push c) 1) ∧
    (s.atOp c 0x32 7 → bitField w 1 2 = 3 → stops (.qctl c) 1) ∧
    (s.atOp c 0x39 0xF → bitField w 2 2 = 0 ∨ bitField w 2 2 = 3 → stops (.vrd c) 1) ∧
    (s.atOp c 0x3A 0x03C000FF → bitField w 22 4 % 2 = 1 → stops (.sig c) 1)

/-- POP .. SIG, PUSH_RESUME, and the triggers, fills and windows of a cycle (R406, R407, R417 .. R422, R425, R426,
R428). R398: POP sees the depth at the start of its cycle. R124: a trigger acts after the selections of its instant. -/
def Obligations.ProbePortsAndCycles : Prop :=
  ∀ (s : State) (c : Fin 32),
    let w := s.probeWord c
    let x := s.core c
    let d := bitField w 22 4
    let port := bitField w 0 1
    let word := x.dreg d + 65536 * x.dreg (d + 1)
    (s.atOp c 0x30 0x03C00001 → d % 2 = 0 →
      (s.consumed c port = none → exec (.pop c) s = .next (s.coreNext c { x with e := true })) ∧
      ∀ q, s.consumed c port = some q →
        (s.depthSeen q = 0 → exec (.pop c) s = .next (s.coreNext c { x with e := true })) ∧
        (s.depthSeen q ≠ 0 →
          let v := (s.ancWord q (s.fld ANCQ_RD_PTR q)).1
          let y : CoreRun := { (x.setD d v).setD (d + 1) (v / 65536) with
            k := (s.ancWord q (s.fld ANCQ_RD_PTR q)).2, e := false }
          exec (.pop c) s = .next (s.finishProbe c (s.fld PROBE_PC c) (.next (s.ancRead q 1) y [])))) ∧
    (s.atOp c 0x31 0x03C00003 → d % 2 = 0 →
      (s.produced c port = none → exec (.push c) s = .next (s.coreNext c { x with f := true })) ∧
      ∀ q, s.produced c port = some q →
        (s.pushWaits q = true → exec (.push c) s =
          .next (let t := (s.addFld ANCQ_STALLS 1 q).setFld PROBE_STATE coreStalled c
            t.setCore c { t.core c with stallFrom := t.time.grid })) ∧
        (s.pushWaits q = false → exec (.push c) s = .next (s.finishProbe c (s.fld PROBE_PC c)
          (.next (s.ancPush q word (bitAt w 1)) { x with f := false } [])))) ∧
    (s.fld PROBE_STATE c = coreStalled → ∀ q, s.produced c port = some q → s.pushWaits q = false →
      let t := s.setFld PROBE_STATE coreRunning c
      exec (.pushResume c) s = .next (t.finishProbe c (t.fld PROBE_PC c)
        (.next (t.ancPush q word (bitAt w 1)) { x with cycles := x.cycles + (s.time.grid - x.stallFrom), f := false } []))) ∧
    (s.atOp c 0x32 7 →
      (s.consumed c port = none → bitField w 1 2 ≠ 3 → exec (.qctl c) s = .next (s.coreNext c { x with f := false })) ∧
      ∀ q, s.consumed c port = some q →
        let ok : State → Prop := fun t =>
          exec (.qctl c) s = .next (s.finishProbe c (s.fld PROBE_PC c) (.next t { x with f := false } []))
        (bitField w 1 2 = 0 → ok (s.ancMark q)) ∧ (bitField w 1 2 = 2 → ok (s.ancRelease q)) ∧
        (bitField w 1 2 = 1 → ∀ t, s.ancRewind q = some t → ok t) ∧
        (bitField w 1 2 = 1 → s.ancRewind q = none → exec (.qctl c) s = .next (s.coreNext c { x with f := true }))) ∧
    (s.atOp c 0x38 0x03C0000F →
      let r := bitField w 0 4
      let t := s.setFld (if r % 2 = 0 then PROBE_RES_EVEN else PROBE_RES_ODD) (x.dreg d) c (r / 2)
      exec (.post c) s = .next (s.finishProbe c (s.fld PROBE_PC c) (.next (t.setFld PROBE_RES_K x.trigK c) x []))) ∧
    (s.atOp c 0x39 0xF → ∀ v, bitField w 2 2 = v → v = 1 ∨ v = 2 →
      let win : TapWin := Tab.get {} x.wins (bitField w 0 2)
      (win.slot = none → exec (.vrd c) s =
        .next (s.finishProbe c (s.fld PROBE_PC c) (.next (s.addFld PROBE_VRD_LOST 1 c) { x with f := true } []))) ∧
      ∀ ref, win.slot = some ref → win.words.getD 0 0 = 1 → s.fld WIN_WSTAT c (bitField w 0 2) % 8 = 1 →
        s.mayJudge c ref.src = true → (s.slotAt ref).isSome = true →
        let t := s.updSlot ref (fun y => { y with
          verdict := if y.verdict = 2 then 2 else if v = 2 then 2 else if y.verdict = 0 then v else y.verdict })
        exec (.vrd c) s = .next (s.finishProbe c (s.fld PROBE_PC c)
          (.next (t.addFld (if v = 1 then PROBE_VRD_PASS else PROBE_VRD_FAIL) 1 c) { x with f := false } []))) ∧
    (s.atOp c 0x3A 0x03C000FF → d % 2 = 0 → exec (.sig c) s = .next (s.finishProbe c (s.fld PROBE_PC c)
      (.next (s.raise Ev.PROBE_SIGNAL { index := c, data := bitField w 0 8 + 65536 * x.dreg d + 2 ^ 32 * x.dreg (d + 1)
                                        dest := s.ownerList (oriProbe c) }) x []))) ∧
    (let p := s.selectTokens
     (p.triggerDue c = none → exec (.probeTrigger c) s = .next p) ∧
     ∀ k at', p.triggerDue c = some (k, at') → p.coreHeld c = false →
      let t := p.setCore c { p.core c with lastTrig := p.trigMark c (k + 1) }
      (p.fld PROBE_STATE c = coreStopped ∨ p.fld PROBE_STATE c = coreFault → exec (.probeTrigger c) s = .next t) ∧
      (p.fld PROBE_STATE c = coreWaiting →
        let u := t.setCore c { t.core c with trigK := k, trigAt := at'.toNat }
        exec (.probeTrigger c) s =
          .next (((u.setFld PROBE_STATE coreFilling c).addFld PROBE_TRIGGERS 1 c).upTo 4 (fun s i => s.fillWindow c i))) ∧
      (p.fld PROBE_STATE c = coreFilling ∨ p.fld PROBE_STATE c = coreRunning ∨ p.fld PROBE_STATE c = coreStalled ∨
        p.fld PROBE_STATE c = coreDebug → (p.core c).lastOverrun ≠ 0 → p.time.grid + 1 < (p.core c).lastOverrun + 10 ^ 9 →
        exec (.probeTrigger c) s = .next (t.addFld PROBE_OVERRUNS 1 c))) ∧
    (s.fld PROBE_STATE c = coreFilling →
      let t := s.upTo 4 (fun s i => s.endFill c i)
      let u := ((t.setFld PROBE_STATE coreRunning c).setFld PROBE_PC (t.fld PROBE_ENTRY c) c)
      let v := u.setCore c { u.core c with cycles := 0 }
      (t.core c).haltPend = false → v.breakAt c (v.fld PROBE_PC c) = false → v.fldOn DBGC_HALT_ON_ENTRY 0 c = false →
      exec (.probeFillDone c) s = .next v) ∧
    ∀ (wr : Fin 8) (win : Fin 4) (n : Fin 6) (val : Word), s.writable wr (0xB0000 + 0x400 * c + 0x80 + 0x20 * win + 4 * n) →
      exec (.probeWindowWrite wr c win n val) s = .next ((s.writeWindow c win n val.toNat).disarmed wr)

/-- R425: POST writes Dd into RESr and sets RES_K to the trigger frame index, and the PROBE block shows both. -/
def Obligations.PostWritesResults : Prop :=
  ∀ (s : State) (c : Fin 32), s.atOp c 0x38 0x03C0000F →
    let x := s.core c
    let r := bitField (s.probeWord c) 0 4
    let v := x.dreg (bitField (s.probeWord c) 22 4) % 2 ^ 16
    ∃ t, exec (.post c) s = .next t ∧
      (r % 2 = 0 → t.fld PROBE_RES_EVEN c (r / 2) = v ∧ t.fld PROBE_RES_ODD c (r / 2) = s.fld PROBE_RES_ODD c (r / 2)) ∧
      (r % 2 = 1 → t.fld PROBE_RES_ODD c (r / 2) = v ∧ t.fld PROBE_RES_EVEN c (r / 2) = s.fld PROBE_RES_EVEN c (r / 2)) ∧
      (∀ j, j < 8 → j ≠ r / 2 → t.fld PROBE_RES_EVEN c j = s.fld PROBE_RES_EVEN c j ∧
        t.fld PROBE_RES_ODD c j = s.fld PROBE_RES_ODD c j) ∧
      t.fld PROBE_RES_K c = x.trigK % 2 ^ 32 ∧
      t.readReg (0xB0040 + 0x400 * c + 4 * (r / 2)) =
        t.fld PROBE_RES_EVEN c (r / 2) + 2 ^ 16 * t.fld PROBE_RES_ODD c (r / 2) ∧
      t.readReg (0xB0060 + 0x400 * c) = t.fld PROBE_RES_K c

/-! ### 17: pairs -/

/-- Messages of classes 0 to 2 and what is sent of its own (R439, R441, R444 .. R451): on a device whose pair is
enabled each takes effect as it arrives, and without one none does. R463: HELLO and HEALTH are heard in the safe state
too. R443: blocks that are no whole message are counted and discarded. R449: the islands that a KAT_REQ names are tested. -/
def Obligations.PairMessages : Prop :=
  ∀ (s : State) (fl : BitVec 8) (q : BitVec 24) (ws : List (BitVec 64)),
    let w := payload ws
    let rs := recordsOf w
    let asked : List Nat → List Nat := fun l =>
      l ++ (s.katIslands.filter (fun i => bitAt (w.getD (i / 64) 0) (i % 64))).filter (fun i => !l.contains i)
    (s.fldOn CWAY_PAIR_EN = true →
      exec (.hello fl q ws) s = .next (s.recvHello w) ∧ exec (.health fl q ws) s = .next (s.recvHealth w)) ∧
    (s.fldOn CWAY_PAIR_EN = false → exec (.hello fl q ws) s = .next s ∧ exec (.health fl q ws) s = .next s) ∧
    (s.pairOn = true →
      exec (.role fl q ws) s = .next (s.recvRole w) ∧ exec (.time fl q ws) s = .next (s.recvTime w) ∧
      (bitAt (w.getD 0 0) 24 = false → exec (.linkAck fl q ws) s = .next (s.acknowledge (w.getD 0 0 % 2 ^ 24))) ∧
      (bitAt (w.getD 0 0) 24 = true → exec (.linkAck fl q ws) s = .next (s.acknowledge (w.getD 0 0 % 2 ^ 24)).resend) ∧
      (s.follows = true →
        exec (.select fl q ws) s = .next (s.each rs (fun s x => s.followSelect x.1 x.2)) ∧
        exec (.tear fl q ws) s = .next (s.each rs (fun s x => s.followTear x.1 x.2)) ∧
        exec (.audioDec fl q ws) s = .next (s.each rs (fun s x => s.followAudio x.1 x.2))) ∧
      (s.compares = true →
        exec (.digIn fl q ws) s = .next (s.each rs (fun s x => s.peerDigest (digIn x.1 x.2))) ∧
        exec (.digOut fl q ws) s = .next (s.each rs (fun s x => s.peerDigest (digOut 1 x.1 x.2))) ∧
        exec (.digAud fl q ws) s = .next (s.each rs (fun s x => s.peerDigest (digOut 2 x.1 x.2)))) ∧
      exec .digestMissing s = .next s.dropDigests ∧
      exec (.katReq fl q ws) s = .next (s.setCway { s.cway with
        katOn := asked s.cway.katOn, katAsked := asked s.cway.katAsked }) ∧
      exec .msgCrcErr s = .next (s.addFld CWAY_MSG_CRC_ERR 1) ∧
      (s.fldOn CWAY_LINK_UP = true → s.cway.unacked ≠ [] → s.cway.ackMoved + 200000 ≤ s.time.grid →
        exec .retransmitTimeout s = .next (s.setCway { s.cway with ackMoved := s.time.grid }).resend) ∧
      (s.cway.ackDue = true → s.cway.ackSent + 20000 ≤ s.time.grid → exec .linkAckInterval s =
        .next ((s.setCway { s.cway with ackDue := false, ackSent := s.time.grid }).send Msg.LINK_ACK [s.cway.rxNext]))) ∧
    (s.pairOn = false → exec (.role fl q ws) s = .next s ∧ exec (.time fl q ws) s = .next s ∧
      exec (.select fl q ws) s = .next s ∧ exec (.digIn fl q ws) s = .next s ∧ exec (.katReq fl q ws) s = .next s) ∧
    exec .messageTimeout s = .next s

/-- Messages of class 3 (R440, R444, R446, R447, R454): the message that is expected takes effect and moves the
expected number on; any other has none. -/
def Obligations.PairMessagesInOrder : Prop :=
  ∀ (s : State) (fl : BitVec 8) (q : BitVec 24) (ws : List (BitVec 64)),
    let w := payload ws
    let t := s.setCway { s.cway with rxNext := (q.toNat + 1) % 2 ^ 24, rxSync := false, ackDue := true }
    (s.follows = true →
      (s.accepts3 0x30 q.toNat → exec (.mirrorCmd fl q ws) s = .next (t.recvCmd w)) ∧
      (s.accepts3 0x31 q.toNat → exec (.mirrorData fl q ws) s = .next (t.recvData w)) ∧
      (s.accepts3 0x32 q.toNat → exec (.mirrorReg fl q ws) s = .next (t.recvReg w)) ∧
      (s.accepts3 0x33 q.toNat → bitField (w.getD 0 0) 0 12 < 3072 → exec (.mirrorOwn fl q ws) s =
        let owner := bitField (w.getD 0 0) 12 4
        .next ((t.passTo (bitField (w.getD 0 0) 0 12) (if owner = 0 then none else some (owner - 1))).setFld OWN_SHARED
          (bitField (w.getD 0 0) 16 1) (bitField (w.getD 0 0) 0 12))) ∧
      (s.accepts3 0x34 q.toNat → exec (.groupEnd fl q ws) s = .next (t.recvGroupEnd w)) ∧
      (s.accepts3 0x36 q.toNat → exec (.decision fl q ws) s = .next (t.recvDecision w)) ∧
      (s.accepts3 0x38 q.toNat → exec (.snapEnd fl q ws) s = .next (t.snapEnd w)) ∧
      (s.accepts3 0x39 q.toNat → exec (.seqAlign fl q ws) s =
        .next (t.each (recordsOf w) (fun s x => s.alignSeq x.1 x.2)))) ∧
    (s.accepts3 0x35 q.toNat → s.isActive = true → exec (.groupAck fl q ws) s = .next (t.recvGroupAck w)) ∧
    (s.accepts3 0x37 q.toNat → s.role = Role.JOINING → exec (.snapBegin fl q ws) s = .next (t.snapStart w)) ∧
    (s.pairOn = true → exec .decisionMissing s = .next s.dropUndecided) ∧
    (let due := s.cway.held.filter (fun h => decide (h.at' ≤ s.now))
     let t := (s.setCway { s.cway with held := s.cway.held.filter (fun h => decide (s.now < h.at')) }).each due
       (fun s h => s.regWrite h.part h.off h.value)
     exec .mirrorRegApply s = .next (if due ≠ [] ∧ s.isActive = false then t.crosses 10 [0] else t)) ∧
    (s.pairOn = true → s.cway.rxSync = false →
      (mseqBefore q.toNat s.cway.rxNext = true →
        exec (.mirrorOwn fl q ws) s = .next (s.setCway { s.cway with ackDue := true })) ∧
      (q.toNat ≠ s.cway.rxNext → mseqBefore q.toNat s.cway.rxNext = false →
        exec (.mirrorOwn fl q ws) s = .next (s.send Msg.LINK_ACK [s.cway.rxNext + 2 ^ 24])))

/-- Pins, waits, intervals, tests and the handover of a pair (R431 .. R437, R445, R449, R451 .. R454). -/
def Obligations.PairEvents : Prop :=
  ∀ s : State,
    let asserted := s.setFld CWAY_TOKEN_IN_A 1
    let dropped := s.setFld CWAY_TOKEN_IN_A 0
    (s.fldOn CWAY_TOKEN_IN_A = false →
      (asserted.pairOn = true → asserted.role = Role.INIT → exec .tokenInAsserted s = .next asserted.join) ∧
      (asserted.pairOn = true → asserted.isActive = true → asserted.exchanging = false →
        exec .tokenInAsserted s = .next asserted.splitBrain) ∧
      (asserted.pairOn = false → exec .tokenInAsserted s = .next asserted)) ∧
    (s.fldOn CWAY_TOKEN_IN_A = true → dropped.pairOn = true →
      (dropped.role = Role.JOINING → dropped.cway.snapDone = true →
        exec .tokenInDeasserted s = .next (dropped.takeover false true)) ∧
      (dropped.role = Role.JOINING → dropped.cway.snapDone = false →
        exec .tokenInDeasserted s = .next (dropped.enterRole Role.INIT 0)) ∧
      (dropped.role = Role.STANDBY → exec .tokenInDeasserted s = .next (dropped.takeover false false)) ∧
      (dropped.role = Role.HELD → exec .tokenInDeasserted s = .next (dropped.takeover true false))) ∧
    (s.fldOn CWAY_PF_LINE = false → s.fldOn CWAY_PF_DRIVE = false → s.fldOn CWAY_PAIR_EN = true →
      exec .pairFaultNLow s = .next ((s.setFld CWAY_PF_LINE 1).raise Ev.PEER_LOST { data := 4 })) ∧
    (s.pairOn = true → s.role = Role.INIT → s.cway.initHello = false → s.cway.roleFrom + s.negWait ≤ s.time.grid →
      exec .negotiationWait s = .next (if s.fldOn CWAY_TOKEN_IN_A then s.enterRole Role.JOINING 0 else s.enterRole Role.SOLO 0)) ∧
    (s.fldOn CWAY_PAIR_EN = true → s.cway.helloSent + 1000000 ≤ s.time.grid →
      exec .helloInterval s = .next (((s.setCway { s.cway with helloSent := s.time.grid }).send Msg.HELLO
        [s.pair CWAY_DEV_SERIAL_LO CWAY_DEV_SERIAL_HI, s.fld CWAY_ROLE_STRAP + 2 * s.role + 2 ^ 8 * s.fld GLB_SI_REV + 2 ^ 16 +
          2 ^ 32 * s.fld BOOT_IMG_VER]).initSettle)) ∧
    (s.pairOn = true → s.cway.timeSent + 1000000 ≤ s.time.grid →
      let t := s.send Msg.TIME s.timeWords
      exec .timeInterval s = .next (t.setCway { t.cway with timeSent := t.time.grid, step := 0, stepAt := 0 })) ∧
    (s.fldOn CWAY_PAIR_EN = true → s.cway.healthSent + 100000000 ≤ s.time.grid →
      exec .healthInterval s = .next s.refreshReady.sendHealth) ∧
    (s.fldOn CWAY_PAIR_EN = true →
      (s.fldOn CWAY_PEER_SEEN = true → s.fldOn CWAY_LINK_UP = true → s.cway.helloAt ≠ 0 →
        s.cway.helloAt + 10000000 ≤ s.time.grid + 1 → exec .peerLost s = .next (s.unseePeer 2)) ∧
      (s.fldOn CWAY_PEER_SEEN = false → s.fldOn CWAY_LINK_UP = false → s.role = Role.STANDBY →
        exec .peerLost s = .next (s.enterRole Role.HELD 1)) ∧
      (s.fldOn CWAY_LINK_UP = true → s.cway.helloAt = 0 ∨ s.time.grid + 1 < s.cway.helloAt + 10000000 →
        exec .peerLost s = .next s)) ∧
    (s.pairOn = true → s.role = Role.JOINING →
      s.expired s.cway.roleFrom (s.fld CWAY_JOIN_S * 1000000000) 1000000 = true →
      exec .joinTimeout s = .next (s.enterRole Role.HELD 5)) ∧
    (s.refreshReady.pairOn = true → s.refreshReady.role = Role.HELD → s.refreshReady.fldOn CWAY_LINK_UP = true →
      s.refreshReady.fldOn CWAY_READY = true → (s.refreshReady.fld CWAY_HELD_CAUSE ≤ 2 ∨
        s.refreshReady.cway.roleFrom + 10000000000 ≤ s.refreshReady.time.grid) →
      exec .heldRetry s = .next (s.refreshReady.enterRole Role.JOINING 0)) ∧
    (s.inService = true → s.safe = false → s.fldOn CWAY_KAT_PERIOD_S = true → s.cway.katLeft = [] →
      s.cway.katFrom + s.fld CWAY_KAT_PERIOD_S * 1000000000 ≤ s.time.grid → exec .katPeriod s = .next s.startKatPass) ∧
    (∀ (i : Fin 145) (pass : Bool), exec (.katComplete i pass) s = .next (s.katDone i pass)) ∧
    (∀ h, s.cway.handovers.find? (fun h => h.decided && decide (h.t ≤ s.now)) = some h → s.pairOn = true →
      s.role = Role.STANDBY → exec .handoverApply s = .next (((((s.setHandovers (fun l => l.filter (fun x => x ≠ h))).enterRole
        Role.SOLO 0).addFld CWAY_HANDOVERS 1).raise Ev.HANDOVER_DONE { data := h.t }).sendsFrom h.t)) ∧
    (∀ h, s.cway.handovers.find? (fun h => h.decided && decide (h.t + 2000 ≤ s.now)) = some h → s.pairOn = true →
      s.isActive = true → exec .handoverRelease s = .next ((((s.setHandovers (fun l => l.filter (fun x => x ≠ h))).enterRole
        Role.STANDBY 0).addFld CWAY_HANDOVERS 1).raise Ev.HANDOVER_DONE { data := h.t }).ownTakesWhole)

/-- R431, R434, R435: entering a role sets ROLE_STATE, gives HELD_CAUSE a value only in HELD, and asserts TOKEN_OUT in
SOLO and ACTIVE alone. -/
def Obligations.TokenFollowsTheRole : Prop :=
  ∀ (s : State) (r cause : Nat), r < 7 → cause < 16 →
    let t := s.enterRole r cause
    t.role = r ∧ t.fld CWAY_HELD_CAUSE = (if r = Role.HELD then cause else 0) ∧
    (t.fldOn CWAY_TOKEN_OUT_A = true ↔ r = Role.SOLO ∨ r = Role.ACTIVE) ∧ t.isActive = t.fldOn CWAY_TOKEN_OUT_A ∧
    (r = Role.SAFE → t.fldOn CWAY_PF_DRIVE = true) ∧ (r ≠ Role.SAFE → t.fld CWAY_PF_DRIVE = s.fld CWAY_PF_DRIVE)

/-- R438: a device that is not active processes none of the opcodes that change what is shown, and drops writes of
mirrored fields as denied. -/
def Obligations.NonActiveDevicesRefuse : Prop :=
  ∀ s : State, s.isActive = false →
    (∀ (e : Fin 16) (r : Request),
      let stopped := fun (c : Instr) (op : Nat) =>
        s.holding e op = some r → exec c s = .next (s.finish e r St.STATE 0 0 0)
      stopped (.route e) 0x10 ∧ stopped (.routeBulk e) 0x11 ∧ stopped (.audioMap e) 0x12 ∧ stopped (.audioGain e) 0x13 ∧
      stopped (.layer e) 0x14 ∧ stopped (.compositorSet e) 0x15 ∧ stopped (.freshPolicy e) 0x16 ∧
      (r.aborts = false → stopped (.commit e) 0x20 ∧ stopped (.bankFlip e) 0x21) ∧ stopped (.alloc e) 0x22 ∧
      stopped (.graphicLoad e) 0x30 ∧ stopped (.ancInsert e) 0x33 ∧
      stopped (.flowAdd e) 0x40 ∧ stopped (.flowDel e) 0x41 ∧ stopped (.probeLoad e) 0x50 ∧
      (r.probeAction = 1 → stopped (.probeStart e) 0x51) ∧
      (r.probeAction = 2 → stopped (.probeStop e) 0x51) ∧ (r.probeAction = 3 → stopped (.probeReset e) 0x51) ∧
      (r.probeAction = 4 → stopped (.probeResetStart e) 0x51) ∧
      (r.aborts = true → stopped (.commitAbort e) 0x20 ∧ stopped (.bankFlipAbort e) 0x21) ∧
      stopped (.handover e) 0x70) ∧
    ∀ (w : Fin 8) (off : Nat), mirroredAt off = true → off % 4 = 0 → s.mapped off = true →
      s.writeBar w off 4 = some (.denied off)

/-- R439: on a paired device a write of a mirrored register is sent, waits for the first whole millisecond at or after
2 ms on, and the register keeps its value until then; at that instant it takes effect. R357, R388: a write of the audio
engine or of an AES3 port waits for the first 1 ms block of the audio plane from then on. R440: a device that sends its
changes to a joining peer sends such a write and applies it at once (log 66). -/
def Obligations.MirroredWritesWait : Prop :=
  (∀ (s : State) (w : Fin 8) (off : BitVec 26) (val : Word), s.paired = true → s.safe = false →
    s.writeBar w off.toNat 4 = none → mirroredAt off.toNat = true →
    (∀ x ∈ ((blockAt off.toNat).map (fun b => b.1.at? off.toNat)).getD [], x.1.ty ≠ .w1c) →
    ∃ t T, exec (.registerWrite w off 4 (val.setWidth 64)) s = .next t ∧ s.now + 2000000 ≤ T ∧
      (off.toNat < 0x80000 ∨ 0xA0000 ≤ off.toNat → T % 1000000 = 0 ∧ T < s.now + 3000000) ∧
      (0x80000 ≤ off.toNat → off.toNat < 0xA0000 →
        T = max s.mirrorInstant (s.sampleStart (48 * ceilDiv (s.sampleFrom s.mirrorInstant) 48)).toNat) ∧ t.cway.held = s.cway.held ++ [{ at' := T, part := w, off := off.toNat, value := val.toNat }] ∧
      t.regs = s.regs ∧
      ∀ u : State, u.cway.held = [{ at' := T, part := w, off := off.toNat, value := val.toNat }] →
        (u.now < T → exec .mirrorRegApply u = .next u) ∧
        (T ≤ u.now → let v := (u.setCway { u.cway with held := [] }).regWrite w off.toNat val.toNat
          exec .mirrorRegApply u = .next (if u.isActive = false then v.crosses 10 [0] else v))) ∧
  (∀ (s : State) (w : Fin 8) (off : BitVec 26) (val : Word) (b : Blk) (i : Nat), s.paired = false → s.mirrors = true →
     s.safe = false → s.writeBar w off.toNat 4 = none → mirroredAt off.toNat = true → blockAt off.toNat = some (b, i) →
     exec (.registerWrite w off 4 (val.setWidth 64)) s =
       .next (((s.mirrorWrite b off.toNat val.toNat).regWrite w off.toNat val.toNat).disarmed w))

/-! ### 18 to 20: faults, clocks, power domains and the Towpath -/

/-- FLT_SEV_WRITE .. RAIL_RETURN (R458, R462, R463, R467, R469, R554). R458: the class that a write stores is bounded
by the floor of its source, FATAL is stored only where the floor is FATAL, and SAFE_ENTER stays NOTE. R462: a record whose condition stands is not
acknowledged. R554: a rail that fails in reset extension is reported when that ends (log 92). -/
def Obligations.FaultEvents : Prop :=
  (∀ s : State,
     (∀ (w : Fin 8) (e : Fin 1024) (val : Word), s.writable w (0x25000 + 4 * e) →
       exec (.fltSevWrite w e val) s = .next ((s.setFld FSEV_CLASS (storedClass e (val.toNat % 8)) e).disarmed w)) ∧
     (∀ (w : Fin 8) (i : Fin 16), s.writable w 0x24008 →
       (s.recordHolds i = false → exec (.ackGo w i) s = .next ((s.setFld FREC_ACTIVE 0 i).disarmed w)) ∧
       (s.recordHolds i = true → exec (.ackGo w i) s = .next (s.disarmed w)) ∧
       (s.fldOn FREC_HOLDS i = false → s.recordHolds i = false)) ∧
     (∀ i t, s.faults.safeDue = some (i, t) →
       let u := ((s.setFld FLT_SAFE 1).setFld FLT_SAFE_REC i).setPair FLT_SAFE_T_LO FLT_SAFE_T_HI s.now
       let v := ((u.setFld FLT_SAFE_LAT_NS (s.now - t)).addFld FLT_SAFE_COUNT 1).setFld FREC_CAUSED_SAFE 1 i
       let x := (({ v with faults := { v.faults with safeDue := none } }).enterRole Role.SAFE 0).upTo 16 State.abandonCur
       exec .safeStateReached s =
         .next (((x.discardScheduled.idleOutputs.each safeDomains State.islReset).upTo 2 State.towAbandon).raise Ev.SAFE_ENTER)) ∧
     (s.faults.safeReqLow = false → exec .safeReq s =
       .next (({ s with faults := { s.faults with safeReqLow := true } }).raise Ev.SAFE_REQ { holds := true })) ∧
     (s.clk.bothLost = false → exec .safeReqNRelease s =
       .next (({ s with faults := { s.faults with safeReqLow := false } }).conditionEnds Ev.SAFE_REQ 0)) ∧
     (s.clk.bothLost = true → exec .safeReqNRelease s = .next { s with faults := { s.faults with safeReqLow := false } }) ∧
     (∀ (m : Fin 9) (u : Fin 32), m.val ≠ 0 →
       let key := 256 * m.val + sramDomain m u
       let x : Nat × Nat := Tab.get (0, 0) s.faults.corrected key
       (x.2 ≠ 0 → s.time.grid + 1 < x.2 + 1000000000 → exec (.sramCe m u) s = .next { s with
          faults := { s.faults with corrected := Tab.set (0, 0) s.faults.corrected key (x.1 + 1, x.2) } }) ∧
       (x.2 = 0 ∨ x.2 + 1000000000 ≤ s.time.grid + 1 → exec (.sramCe m u) s = .next (({ s with
          faults := { s.faults with corrected := Tab.set (0, 0) s.faults.corrected key (0, s.time.grid + 1) } }).raise
            Ev.SRAM_CE { index := sramDomain m u, sub := m, data := (x.1 + 1) % 2 ^ 32 })) ∧
       ∀ addr : Word, exec (.ctrlUe m u addr) s = .next (s.raise Ev.CTRL_UE
         { index := sramDomain m u, sub := m, data := addr.toNat + (if m.val = 6 then 2 ^ 48 * u.val else 0) })) ∧
     (∀ r : Fin 13, s.faults.railsOut.contains r.val = false →
       let t := { s with faults := { s.faults with railsOut := r.val :: s.faults.railsOut } }
       (s.fld BOOT_STAGE ≠ 0 → exec (.railFault r) s = .next (t.raise Ev.RAIL_FAULT { data := r, holds := true })) ∧
       (s.fld BOOT_STAGE = 0 → exec (.railFault r) s =
         .next { t with faults := { t.faults with railsAtBoot := t.faults.railsAtBoot ++ [r.val] } })) ∧
     (∀ r : Fin 13,
       let t := { s with faults := { s.faults with railsOut := s.faults.railsOut.filter (· != r.val) } }
       (t.faults.railsOut = [] → exec (.railReturn r) s = .next (t.conditionEnds Ev.RAIL_FAULT 0)) ∧
       (t.faults.railsOut ≠ [] → exec (.railReturn r) s = .next t))) ∧
  (∀ (s : State) (w : Fin 8) (e : Fin 1024) (val : Word), s.writable w (0x25000 + 4 * e) → eventListed e = true →
     let v := val.toNat % 8
     ∃ t, exec (.fltSevWrite w e val) s = .next t ∧
       (e.val = 0 → t.fld FSEV_CLASS e = 0) ∧
       (e.val ≠ 0 →
         (v < eventFloor e → t.fld FSEV_CLASS e = eventFloor e) ∧
         (eventFloor e ≤ v → v < 4 → t.fld FSEV_CLASS e = v) ∧
         (v = 4 → t.fld FSEV_CLASS e = (if eventFloor e = 4 then 4 else 3)) ∧
         (5 ≤ v → t.fld FSEV_CLASS e = eventFloor e)) ∧
       (∀ i : Fin 16, t.fld FREC_CLASS i = s.fld FREC_CLASS i ∧ t.fld FREC_ACTIVE i = s.fld FREC_ACTIVE i))

/-- R460, R461: where a raise of class SERVICE or above goes, and what a merge keeps. -/
def Obligations.FaultRecordsArePlaced : Prop :=
  ∀ (s : State) (ev cls index sub data : Nat) (holds : Bool),
    let idle := s.handledRecord = none
    let same : Fin 16 → Prop := fun i => s.fldOn FREC_ACTIVE i = true ∧ s.fld FREC_EVENT i = ev
    (∀ i, s.handledRecord = some i → s.faultPlace ev = .merge i) ∧
    (idle → ∀ i, same i → (∀ j, j < i → ¬same j) → s.faultPlace ev = .merge i) ∧
    (idle → (∀ i, ¬same i) → ∀ i : Fin 16, s.fldOn FREC_VALID i = false → (∀ j, j < i → s.fldOn FREC_VALID j = true) →
      s.faultPlace ev = .create i) ∧
    (idle → (∀ i, ¬same i) → (∀ i : Fin 16, s.fldOn FREC_VALID i = true ∧ s.fldOn FREC_ACTIVE i = true) →
      s.faultPlace ev = .overflow (s.faults.order.headD 0)) ∧
    (∀ i : Fin 16,
      let t := s.mergeFault i cls ev index sub data
      t.fld FREC_MERGES i = (if s.fld FREC_MERGES i = 65535 then 65535 else s.fld FREC_MERGES i + 1) ∧
      (ev < 1024 → t.fld FREC_LAST_EVENT i = ev) ∧
      (cls < 5 → t.fld FREC_CLASS i = max (s.fld FREC_CLASS i) cls) ∧
      (s.fld FREC_CLASS i < cls → t.fld FREC_ESCALATED i = 1) ∧
      t.fld FREC_TIME_LO i = s.fld FREC_TIME_LO i ∧ t.fld FREC_TIME_HI i = s.fld FREC_TIME_HI i ∧
      t.fld FREC_DATA_LO i = s.fld FREC_DATA_LO i ∧ t.fld FREC_DATA_HI i = s.fld FREC_DATA_HI i ∧
      t.fld FREC_INDEX i = s.fld FREC_INDEX i ∧ t.fld FREC_SUB i = s.fld FREC_SUB i ∧
      t.fld FREC_EVENT i = s.fld FREC_EVENT i) ∧
    ∀ i : Fin 16,
      let t := s.createFault i cls ev index sub data holds
      (ev < 1024 → t.fld FREC_EVENT i = ev) ∧ (cls < 5 → t.fld FREC_CLASS i = cls) ∧ t.fld FREC_ACTIVE i = 1 ∧
      t.fld FREC_VALID i = 1 ∧ t.fld FREC_MERGES i = 0 ∧ t.faults.handled = some i ∧
      (cls = 4 → t.fld FLT_FATAL = 1) ∧
      (3 ≤ cls → s.safe = false → s.faults.safeDue = none → t.faults.safeDue = some (i, s.now))

/-- R461: a new SERVICE record is being handled for 2 µs and a CRITICAL or FATAL one while the device stays in the
safe state, and an error raised meanwhile is merged into it. -/
def Obligations.FaultsAreHandledInWindows : Prop :=
  ∀ (s u : State) (i : Fin 16) (cls ev index sub data : Nat) (holds : Bool),
    let t := s.createFault i cls ev index sub data holds
    (∀ j : Fin 16, u.fld FREC_CLASS j = t.fld FREC_CLASS j) →
    (cls = 2 → u.faults = t.faults →
      (u.handledRecord = some i ↔ u.time.grid < s.time.grid + 2000) ∧
      (s.time.grid + 2000 ≤ u.time.grid → u.handledRecord = none)) ∧
    (cls = 3 ∨ cls = 4 →
      t.handledRecord = some i ∧
      (u.faults = { t.faults with safeDue := none } → (u.handledRecord = some i ↔ u.safe = true) ∧
        (u.safe = false → u.handledRecord = none))) ∧
    (u.handledRecord = some i → ∀ ev', u.faultPlace ev' = .merge i)

/-- R463, R464: in the safe state nothing is fetched, placed, granted, selected, sent or measured, no line, block or sample
and no frame of the Towpath starts, and a register write outside FLT and GLB has no effect. Device time goes on: the tokens
of R124 that still act are the mileposts of takes, of which the safe state leaves none, and the frames of the planes. -/
def Obligations.SafeStateStandsStill : Prop :=
  ∀ s : State, s.safe = true →
    (∀ (p : Fin 8) (k : Fin 64) (answer : List Descriptor), s.leaseOut p = false →
      exec (.ringFetch p k answer) s = .next s ∧ exec (.enginePlacement p k) s = .next s) ∧
    (∀ e : Fin 16, exec (.engineDraw e) s = .next s) ∧ exec .katPeriod s = .next s ∧
    (s.take.takes = [] → s.postTokens = s) ∧ (∀ p, s.frameToken p = s.planeFrame p) ∧
    (s.frameTokens.safe = true →
      (∀ r : Reader, exec (.selectionInstant r) s = .next s.frameTokens) ∧
      ∀ (p : Fin 8) (late : List Reader), exec (.lineStart p late) s = .next s.frameTokens) ∧
    (s.probeTokens.safe = true → exec .audioBlock s = .next s.probeTokens ∧ exec .sampleTick s = .next s.probeTokens) ∧
    (∀ (b : Fin 2) (n : Nat), exec (.towTxStart b n) s = .next s) ∧
    (∀ (m : Fin 64) (answer : HostAnswer), exec (.hpTxSend m answer) s = .next s) ∧
    (∀ (fl : BitVec 8) (q : BitVec 24) (ws : List (BitVec 64)), exec (.select fl q ws) s = .next s ∧
      exec (.mirrorCmd fl q ws) s = .next s ∧ exec (.decision fl q ws) s = .next s ∧ exec .tokenInDeasserted s =
        .next (if s.fldOn CWAY_TOKEN_IN_A then s.setFld CWAY_TOKEN_IN_A 0 else s)) ∧
    ∀ (w : Fin 8) (off : BitVec 26) (val : BitVec 64), s.writeBar w off.toNat 4 = none → off.toNat ≠ 0x42040 →
      0x1000 ≤ off.toNat → (off.toNat < 0x24000 ∨ 0x26000 ≤ off.toNat) →
      exec (.registerWrite w off 4 val) s = .next (s.disarmed w)

/-- Clock checks, fallbacks, switches and ramps, and the gating of power domains (R473 .. R486, R529, R530). R529,
R530: a request to gate a domain is refused with its reason, or the domain begins to turn off; a domain locked off
takes no wake request. -/
def Obligations.ClockAndPowerEvents : Prop :=
  (∀ s : State,
     (s.fldOn CLK_ROSC_OK = false → (∀ m, m < 10 → (s.mon m).latched = 0) →
       exec .roscOk s = .next (({ s.setFld CLK_ROSC_OK 1 with clk := { s.clk with noStart := false } }).beginSwitch 0 1)) ∧
     (s.fldOn CLK_ROSC_OK = false → exec .roscStartTimeout s = .next { s with clk := { s.clk with noStart := true } }) ∧
     (∀ m : Fin 10, s.fldOn CLKMON_EN m = true →
       ((s.mon m).stop = false → exec (.clockStopCheck m true) s = .next (s.trip m 1)) ∧
       ((s.mon m).stop = true → exec (.clockStopCheck m true) s = .next s ∧
         exec (.clockStopCheck m false) s = .next (s.checkPasses m 1)) ∧
       (s.freqSuspended = false → ∀ (ppm : BitVec 32) (b : Nat),
         let t := s.setFld CLKMON_LAST_PPM ppm.toNat m
         t.freqBound m = some b →
         (b < ppm.toInt.natAbs → (t.mon m).freq = false → exec (.clockFrequencyCheck m ppm) s = .next (t.trip m 2)) ∧
         (ppm.toInt.natAbs ≤ b → (t.mon m).freq = true → exec (.clockFrequencyCheck m ppm) s = .next (t.checkPasses m 2)) ∧
         (ppm.toInt.natAbs ≤ b → (t.mon m).freq = false → exec (.clockFrequencyCheck m ppm) s = .next t))) ∧
     (∀ m : Fin 10, (s.mon m).goodFrom ≠ 0 → s.fldOn CLK_ROSC_OK = true → clkFaultMons.contains m.val = false →
       s.expired ((s.mon m).goodFrom - 1) (s.fld CLK_RETURN_MS * 1000000) 1 = true →
       exec (.clockReturn m) s =
         .next ((((s.setMon m { s.mon m with goodFrom := 0 }).refreshMons).reverse m).conditionEnds Ev.REFCLK_LOST m)) ∧
     (∀ pll : Fin 3, ∀ ref, Tab.get 0 s.clk.relock pll = ref + 1 →
       (pll.val = 0 → exec (.pllRelock pll) s = .next ((s.cancelRelock pll).setFld CLK_CORE_SRC ref)) ∧
       (pll.val = 1 → exec (.pllRelock pll) s = .next ((s.cancelRelock pll).setFld CLK_MEM_SRC ref)) ∧
       (pll.val = 2 → exec (.pllRelock pll) s = .next ((s.cancelRelock pll).setFld CLK_TIME_SRC (1 - ref)))) ∧
     (∀ (i : Fin 145) (code : Nat), (s.mux i).dest = some code →
       (s.oldStopped i = false → exec (.clockSwitchDone i) s = .next (s.endSwitch i code)) ∧
       (s.oldStopped i = true → (s.mux i).back = true → exec (.clkswForced i) s = .next s) ∧
       (s.oldStopped i = true → (s.mux i).back = false → i.val = 0 ∨ i.val = 144 → exec (.clkswForced i) s =
         .next (((s.endSwitch i code).addFld CLK_FORCED_CNT 1).raise Ev.CLKSW_FORCED
           { data := i.val + 2 ^ 8 * (s.mux i).src + 2 ^ 12 * code }))) ∧
     (∀ (i : Fin 145) (r : ClkRamp), s.ramp i = some r → r.runs = true → s.switching i = false →
       s.expired r.at' (s.fld CLK_RAMP_STEP_NS) 1 = true →
       let div := if r.up then s.fld CLKISL_DIV_NOW i - 1 else s.fld CLKISL_DIV_NOW i + 1
       let t := (s.setFld CLKISL_DIV_NOW div i).setRamp i (some { r with at' := s.time.grid })
       (div ≠ (if r.up then icgNominal i else 320) → exec (.icgRampStep i) s = .next t) ∧
       (div = (if r.up then icgNominal i else 320) → exec (.icgRampStep i) s = .next (t.endRamp i r.up))) ∧
     (∀ (w : Fin 8) (d : Fin 184), s.writable w (0x41100 + 4 * d) →
       exec (.domainGateRequest w d) s = .next ((s.writeReq d 0).disarmed w) ∧
       exec (.domainWakeRequest w d) s = .next ((s.writeReq d 1).disarmed w) ∧
       exec (.islRst w d) s = .next (((s.writeReq d (s.fld DOM_REQ d)).writeIslRst d).disarmed w)) ∧
     (∀ d : Fin 184, s.rampsDone d = true →
       (s.fld DOM_DSTATE d = 1 → (s.domainOff d).fldOn DOM_REQ d = false →
         exec (.domainOffReached d) s = .next (s.domainOff d)) ∧
       (s.fld DOM_DSTATE d = 3 → exec (.domainOnReached d) s = .next ((s.setFld DOM_DSTATE 0 d).islReset d)))) ∧
  (∀ (s : State) (d : Fin 184),
     (s.fld DOM_DSTATE d ≠ 2 → s.gateReason d ≠ 0 → (s.writeReq d 0).fld DOM_DSTATE d = s.fld DOM_DSTATE d ∧
       (s.writeReq d 0).fld DOM_REQ d = s.fld DOM_REQ d) ∧
     (s.fld DOM_DSTATE d ≠ 2 → s.gateReason d = 0 → domainIslands d = [] →
       (s.writeReq d 0).fld DOM_DSTATE d = 1 ∧ (s.writeReq d 0).fld DOM_REQ d = 0) ∧
     (s.fld DOM_DSTATE d = 2 → s.writeReq d 0 = s.setFld DOM_REQ 0 d) ∧
     (s.fldOn DOM_LOCKED_OFF d = true → s.writeReq d 1 = s))

/-- TOW_ENABLE .. TOW_BUS_FAIL (R489 .. R501). R494, R495: the wait after the n-th collision of a frame is a whole
number of slot times below 2^min(n, 10), drawn from the LFSR, and the sixteenth collision discards the frame; R499: TX_GO
queues a frame under the station's own address, or says why not; R493: a frame starts 96 bit times after the bus fell idle;
R489, R491: what goes over the wire is the frame with its preamble and FCS in Manchester code, and the jam after what a
collision cut off. R501: a frame that was on the wire when the clock changed has a code violation. -/
def Obligations.TowpathCommands : Prop :=
  (∀ (s : State) (b : Fin 2),
     let x := s.towRun b
     let base := 0x71000 + 0x1000 * b.val
     (∀ (w : Fin 8) (val : Word),
       (s.writable w base →
         exec (.towEnable w b val) s = .next ((s.writeTow b (putBits val.toNat 0 1 1 % 2 ^ 32)).disarmed w) ∧
         exec (.towDisable w b val) s = .next ((s.writeTow b (putBits val.toNat 0 1 0 % 2 ^ 32)).disarmed w)) ∧
       (s.writable w (base + 8) → exec (.txGo w b) s = .next ((s.towGo b).disarmed w) ∧
         exec (.txFlush w b) s = .next ((s.towFlush b).disarmed w) ∧ exec (.rxPop w b) s = .next ((s.towPop b).disarmed w))) ∧
     (x.phase = .idle → x.tx ≠ [] → s.safe = false →
       (x.idleFrom + 3840 ≤ s.time.grid → exec (.towTxStart b 0) s = .next ((s.setFld TOW_STUCK 0 b).setTow b
         { x with phase := .sending, started := true, attempts := x.attempts + 1, startAt := s.time.grid })) ∧
       (s.time.grid < x.idleFrom + 3840 → ∀ n, exec (.towTxStart b n) s = .next s)) ∧
     (x.phase = .sending →
       (∀ n, exec (.towCollision b n) s = .next (s.setTow b
         { x with phase := .jam, late := decide (512 ≤ n), startAt := s.time.grid - 40 * n })) ∧
       (let f := x.tx.headD []
        let t := (((s.towRelease b (towWire f)).towCount TOW_TX_OK b).towCount TOW_TX_SIZE b (towBin (towByte f 3))).towCount
          TOW_TX_TYPEG b (towByte f 2 / 32)
        exec (.towTxDone b) s = .next ((t.setTow b { t.towRun b with failed := false }).towLeave b 1))) ∧
     (x.phase = .jam →
       let sent := s.towRelease b (s.towJammed b)
       let t := sent.towCount TOW_TX_COLL b
       let y := t.towRun b
       (x.late = true → exec (.towJamEnd b) s = .next ((sent.towCount TOW_TX_LATE b).towLeave b 3)) ∧
       (x.late = false → y.colls + 1 ≠ 16 → exec (.towJamEnd b) s = .next (t.setTow b { y with
         colls := y.colls + 1
         phase := .backoff (t.time.grid + 20480 * (y.lfsr.toNat * 2 ^ min (y.colls + 1) 10 / 2 ^ 32)) })) ∧
       (x.late = false → y.colls + 1 = 16 →
         let u := (t.towCount TOW_TX_EXCESS b).towLeave b 2
         let v := u.setTow b { u.towRun b with excess := (u.towRun b).excess + 1 }
         exec (.towJamEnd b) s = .next (if (u.towRun b).excess + 1 = 8
           then (v.setTow b { v.towRun b with excess := 0 }).towFail b 2 else v)) ∧
       y.colls = x.colls ∧ y.lfsr = x.lfsr ∧ y.tx = x.tx) ∧
     (∀ dest, x.phase = .backoff dest →
       (dest ≤ s.time.grid → exec (.towBackoffEnd b) s = .next (s.setTow b { x with phase := .idle })) ∧
       (s.time.grid < dest → exec (.towBackoffEnd b) s = .next s)) ∧
     (s.fldOn TOW_EN b = true → exec (.towBusFail b) s = .next ((s.setFld TOW_STUCK 1 b).towFail b 1)) ∧
     (s.fldOn TOW_EN b = true → x.phase ≠ .sending → x.phase ≠ .jam → ∀ f : TowWire,
       let t := (s.setFld TOW_STUCK 0 b).setTow b { x with idleFrom := s.time.grid }
       (∀ c, towCheck (t.towBroken b f) = some c → exec (.towFrameReceive b f) s = .next (t.towCount c b)) ∧
       (towCheck (t.towBroken b f) = none →
         let bs := f.bytes.map (·.toNat)
         let u := t.setTow b { t.towRun b with failed := false }
         let ty := towByte bs 2
         (∀ k, u.towKind b (towByte bs 0) = some k → bitAt (u.fld TOW_TYPE_MASK b (ty / 32)) (ty % 32) = true →
           exec (.towFrameReceive b f) s = .next (u.towAccept b k bs f.time.toNat)) ∧
         (u.towKind b (towByte bs 0) = none ∨ bitAt (u.fld TOW_TYPE_MASK b (ty / 32)) (ty % 32) = false → exec (.towFrameReceive b f) s = .next (u.towCount TOW_RX_FILTERED b))))) ∧
  ((∀ (s t : State) (b : Fin 2) (dest : Nat), (s.towRun b).phase = .jam → (s.towRun b).late = false → (s.towRun b).colls < 15 →
     exec (.towJamEnd b) s = .next t → (t.towRun b).phase = .backoff dest →
     ∃ r, r < 2 ^ min ((s.towRun b).colls + 1) 10 ∧ dest = s.time.grid + 20480 * r ∧
       (t.towRun b).colls = (s.towRun b).colls + 1 ∧ (t.towRun b).tx = (s.towRun b).tx) ∧
   ∀ (s : State) (b : Fin 2),
     let len := bitField (s.fld TOW_TX_BUF b 0) 24 8
     (4 ≤ (s.towRun b).tx.length → (s.towGo b).fld TOW_TX_ERR_CAUSE b = 1) ∧
     ((s.towRun b).tx.length < 4 → 240 < len → (s.towGo b).fld TOW_TX_ERR_CAUSE b = 2) ∧
     ((s.towRun b).tx.length < 4 → len ≤ 240 → s.fld TOW_ADDR b ≠ 0 → s.fldOn TOW_EN b = true →
       ((s.towGo b).towRun b).tx.length = (s.towRun b).tx.length + 1 ∧
       (((s.towGo b).towRun b).tx.getLast?.map (fun f => towByte f 1)) = some (s.fld TOW_ADDR b) ∧
       (((s.towGo b).towRun b).tx.getLast?.map List.length) = some (4 + len)))

/-! ### 21 and 22: resets, boot, firmware and the debug port -/

/-- What State.reset is (R8, R405, R435, R441, R462, R505): the machine before power-on is released, with nothing
queued, sent or held, every register field at its table's reset value, boot at stage 0, the role INIT and every core
STOPPED. The fields the spec gives no reset value are log entry 3's. -/
def Obligations.ResetState : Prop :=
  State.reset.canonical = true ∧ State.reset.pending = [] ∧ State.reset.out = [] ∧ State.reset.host.claims = [] ∧
  State.reset.take.takes = [] ∧ State.reset.role = Role.INIT ∧ State.reset.fld BOOT_STAGE = 0 ∧
  State.reset.inService = false ∧ State.reset.safe = false ∧ State.reset.fldOn CWAY_TOKEN_OUT_A = false ∧
  (∀ c : Fin 32, State.reset.fld PROBE_STATE c = coreStopped) ∧
  (∀ (p : Fin 8) (k : Fin 64), State.reset.fld RING_ENABLE p k = 0 ∧ (State.reset.ring p k).fetched = []) ∧
  (∀ e : Fin 16, (State.reset.engine e).lfsr = BitVec.ofNat 32 (e + 1) ∧ (State.reset.engine e).cur = none) ∧
  ∀ (f : Field) (i j : Nat), State.reset.fld f i j = f.reset i j % 2 ^ f.w

/-- POWER_ON_RESET, BROWN_OUT, PIN_RESET and WARM_RST (R505, R526 .. R528, R554): what each restarts, and what it
leaves. R3, R4: a blown DBG_KILL ends the debug functions from the reset on. R554: a rail that failed in reset extension is
reported when POR is released (log 92). -/
def Obligations.Resets : Prop :=
  ∀ (s : State) (x : Straps),
    (∀ rail : Fin 13, exec (.brownOut rail x) s = exec (.powerOnReset x) s) ∧
    (s.powerOn x = (({ s with faults := { s.faults with railsAtBoot := [] } }).powerOn x).each s.faults.railsAtBoot
      (fun s r => s.raise Ev.RAIL_FAULT { data := r })) ∧
    (s.faults.safeReqLow = false → s.faults.railsAtBoot = [] →
      ∃ t, exec (.powerOnReset x) s = .next t ∧ t.fld BOOT_STAGE = 0 ∧ t.safe = false ∧ t.role = Role.INIT ∧
        t.fldOn CWAY_ROLE_STRAP = x.role ∧ t.boot.flash = s.boot.flash ∧ t.boot.copy0 = s.boot.copy0 ∧
        t.boot.copy1 = s.boot.copy1 ∧ t.boot.blownDbg = s.boot.blownDbg ∧ t.boot.fuses = s.boot.fuses ∧
        t.dbg.killed = s.boot.blownDbg ∧ t.probe = {} ∧ t.take = {} ∧ t.host = {} ∧ t.ic = {} ∧ t.out = s.out ∧ t.pending = s.pending) ∧
    (s.faults.safeReqLow = false → s.fldOn FLT_FATAL = false → s.resetting 1 = false →
      ∃ t, exec (.pinReset x) s = .next t ∧ t.fld BOOT_STAGE = 0 ∧ t.fld BOOT_LAST_RESET = 2 ∧ t.probe = {} ∧ t.take = {} ∧
        t.host = {} ∧ t.dbg.killed = s.boot.blownDbg ∧ t.boot.flash = s.boot.flash ∧ t.boot.fuses = s.boot.fuses ∧
        t.store.retiredQp = s.store.retiredQp ∧ t.pending = s.pending) ∧
    (∀ w : Fin 8, s.writable w 0xC →
      exec (.warmRst w) s = .next ((if s.resetting 1 || s.resetting 2 then s else s.restartWarm).disarmed w)) ∧
    ((s.restart).probe = {} ∧ (s.restart).take = {} ∧ (s.restart).ic = {} ∧ (s.restart).host.msix = s.host.msix ∧ (s.restart).host.claims = [] ∧
      (s.restart).store.retiredQp = s.store.retiredQp ∧ (s.restart).boot = s.boot ∧
      (s.restart).faults.order = s.faults.order ∧ (s.restart).faults.handled = none)

/-- The stages of a boot (R506 .. R515, R520 .. R525): each runs at its stage alone, and leads to the next. R514: a bank
passes its check only with a key that the fuses hold, with the digest of its payload, and with a signature that verifies
under that key. R28: a partition is present only where the links of the record have its function. -/
def Obligations.BootStages : Prop :=
  ∀ s : State,
    (s.fldOn CLK_ROSC_OK = true → s.fld BOOT_STAGE = 0 → s.faults.railsAtBoot = [] → exec (.fuseLoadDone none) s = .next (s.raiseOpen Ev.FUSE_ERR)) ∧
    (∀ new : Fuses, s.fldOn CLK_ROSC_OK = true → s.fld BOOT_STAGE = 0 → s.faults.railsAtBoot = [] → s.fld BOOT_MODE ≠ 2 →
      let f := s.boot.fuses.getD new
      let t := ((({ s with boot := { s.boot with fuses := some f } }).setPair CWAY_DEV_SERIAL_LO CWAY_DEV_SERIAL_HI f.serial.toNat).setFld BOOT_KEY_REVOKED
        (f.revoked.toNat ||| s.boot.blownKeys)).setFld BOOT_SVN_FUSE (min 64 (max f.svn.toNat s.boot.blownSvn))
      let u := ((t.setFld BOOT_DBG_KILL (bit s.boot.blownDbg)).setFld BOOT_TEST_KILL 1).seedTow
      exec (.fuseLoadDone (some new)) s = .next ((u.startClocks.setFld BOOT_PREF u.bootPref).setFld BOOT_STAGE 1)) ∧
    (∀ (bank : Nat) (ok : Bool), s.bankCause bank ok = 0 → s.keyGood (bankBase bank) (s.imageHdr bank).slot = true ∧
      s.payloadGood (bankBase bank) = true ∧ s.signatureGood (bankBase bank) = true ∧ ok = true) ∧
    (s.fld BOOT_STAGE = 1 → ∀ check : Bool,
      let bank := if s.boot.triedOther then 1 - s.fld BOOT_PREF else s.fld BOOT_PREF
      let t := s.setFld (if bank = 0 then BOOT_CAUSE_A else BOOT_CAUSE_B) (s.bankCause bank check)
      (s.bankCause bank check = 0 →
        let h := t.imageHdr bank
        let u := (((t.setFld BOOT_BANK bank).setFld BOOT_FALLBACK (bit t.boot.triedOther)).setFld BOOT_IMG_VER h.imgVer).setFld
          BOOT_KEY_USED h.slot
        exec (.bankCheckDone check) s =
          .next (({ u with boot := { u.boot with booted := true, image := h } }).setFld BOOT_STAGE 2)) ∧
      (s.bankCause bank check ≠ 0 → s.boot.triedOther = false →
        exec (.bankCheckDone check) s = .next { t with boot := { t.boot with triedOther := true } }) ∧
      (s.bankCause bank check ≠ 0 → s.boot.triedOther = true → exec (.bankCheckDone check) s = .next t.enterRecovery)) ∧
    (s.fld BOOT_STAGE = 2 → s.boot.recovery = false → ∀ r : BootRecord,
      let t := ((s.setFld GLB_LINK_CFG r.linkCfg.toNat).setFld GLB_PART_PRESENT
        (r.present.toNat &&& linkParts r.linkCfg.toNat ||| 1)).setFld CWAY_PAIR_EN (bit r.pairEn)
      let u := { t with boot := { t.boot with
        gateInit := r.gate.toNat, subsystem := r.subsystem.toNat, refosc := r.refosc } }
      exec (.bootRecordApplied r) s =
        .next ((u.each [1, 2, 3, 4, 5, 6, 7] State.turnOn).applyGateInit.setFld BOOT_STAGE 3)) ∧
    (s.fld BOOT_STAGE = 3 → exec (.memoryTrainingDone 15) s =
      .next ((s.upTo 4 (fun s i => s.setFld MC_READY 1 i)).refill.setFld BOOT_STAGE 4)) ∧
    (s.fld BOOT_STAGE = 4 → s.fld BOOT_MODE = 1 ∨ s.settingsUsed = none →
      let t := s.setFld BOOT_SET_DEFAULTS 1
      exec .settingsApplied s = .next ((({ t with boot := { t.boot with
        savedRetired := t.store.retiredQp.length, lastSave := t.time.grid } }).setFld BOOT_STAGE 5).startKatPass)) ∧
    (s.fld BOOT_STAGE = 5 → s.cway.katPasses ≠ 0 → s.boot.booted = false → ∀ other : Bool,
      let t := ((s.setFld BOOT_STAGE 6).setFld BOOT_SERVICE 1).reportFallback
      (t.role = Role.INIT → t.fldOn CWAY_PAIR_EN = false →
        exec (.serviceReached other) s = .next (t.enterRole Role.SOLO 0)) ∧
      (t.role ≠ Role.INIT ∨ t.fldOn CWAY_PAIR_EN = true → exec (.serviceReached other) s = .next t)) ∧
    (∀ (r : BootRecord) (ok : BitVec 4) (other check : Bool) (f : Option Fuses), s.fld BOOT_STAGE = 6 →
      exec (.fuseLoadDone f) s = .next s ∧ exec (.bankCheckDone check) s = .next s ∧ exec (.bootRecordApplied r) s = .next s ∧
      exec (.memoryTrainingDone ok) s = .next s ∧ exec .settingsApplied s = .next s ∧ exec (.serviceReached other) s = .next s)

/-- Flash commands, settings and fuses (R512, R516, R517, R520, R522 .. R525). R516: the flash takes one command at a
time, protected regions none, and one that is refused says why and changes no byte of the flash. -/
def Obligations.FirmwareCommands : Prop :=
  (∀ s : State,
     (∀ w : Fin 8,
       (s.writable w 0x42024 → ∀ val : Word, exec (.flDataWrite w val) s = .next ((s.writeFlData val.toNat).disarmed w)) ∧
       (s.writable w 0x42028 →
         exec (.erase w) s = .next (s.eraseCmd.disarmed w) ∧ exec (.program w) s = .next (s.programCmd.disarmed w) ∧
         exec (.deltaGo w) s = .next (s.deltaCmd.disarmed w) ∧ exec (.prefA w) s = .next ((s.prefCmd 0).disarmed w) ∧
         exec (.prefB w) s = .next ((s.prefCmd 1).disarmed w) ∧ exec (.save w) s = .next (s.saveCmd.disarmed w)) ∧
       (w.val = 0 → s.writable w 0x42040 → ∀ val : Word,
         exec (.fuseKey w val) s =
         .next (({ s with boot := { s.boot with armed := decide (val = 0xD8C10A55) } }).hostCrossed 0)) ∧
       (w.val = 0 → s.writable w 0x42044 → exec (.blowDbg w) s =
         .next (({ s with boot := { s.boot with armed := false, blownDbg := s.boot.blownDbg || s.boot.armed } }).hostCrossed 0))) ∧
     (∀ a, s.boot.op = some (.erase a) →
       exec (.flashOpDone true) s = .next (s.flashIdle.flashErase a 65536) ∧
       exec (.flashOpDone false) s = .next (s.flashIdle.flashErr 3)) ∧
     (∀ a page, s.boot.op = some (.program a page) → exec (.flashOpDone true) s = .next (s.flashIdle.flashWrite a page)) ∧
     (∀ b, s.boot.op = some (.pref b) → exec (.flashOpDone true) s = .next (s.flashIdle.writeBootControl b)) ∧
     (∀ c x, s.boot.op = some (.save c x) → exec (.flashOpDone true) s = .next (s.flashIdle.putSettings c x)) ∧
     (s.boot.op = some .delta → ∀ readOk eraseOk programOk : Bool,
       let ok := readOk && eraseOk && programOk
       let x := s.flashIdle.applyDelta ok
       (x.2 = 0 → s.flashIdle.deltaBaseGood = true ∧ ok = true) ∧
       exec (.fwDeltaDone readOk eraseOk programOk) s = .next ((if x.2 = 0 then x.1 else x.1.flashErr x.2).raise Ev.FW_DELTA_DONE
         { data := x.2 + 2 ^ 32 * s.flashNat (stagingBase + 8) 4 })) ∧
     (s.fldOn BOOT_MIGRATING = true → s.inService = true → ∀ x, s.settingsCopy (s.boot.copyUsed - 1) = some x →
       let y := { x with fmtVer := s.boot.image.setVer, seq := (x.seq + 1) % 2 ^ 32 }
       exec (.settingsMigrated true) s = .next ((((s.putSettings (1 - (s.boot.copyUsed - 1)) y).setFld BOOT_MIGRATING 0).setFld
         BOOT_SET_VER y.fmtVer).raise Ev.SETTINGS_MIGRATED { data := x.fmtVer + 2 ^ 16 * y.fmtVer })) ∧
     (s.autosaveDue = true →
       let t := s.putSettings s.settingsNext.1 s.settingsNow
       exec .settingsAutosave s = .next { t with boot := { t.boot with
         savedRetired := t.store.retiredQp.length, lastSave := t.time.grid } })) ∧
  (∀ s : State,
     (s.flashProtected (s.fld BOOT_FL_ADDR) = true →
       s.eraseCmd.fld BOOT_FL_CAUSE = 1 ∧ s.programCmd.fld BOOT_FL_CAUSE = 1 ∧ s.eraseCmd.boot = s.boot) ∧
     (s.flashProtected (s.fld BOOT_FL_ADDR) = false → s.fldOn BOOT_FL_BUSY = true →
       s.eraseCmd.fld BOOT_FL_CAUSE = 2 ∧ s.programCmd.fld BOOT_FL_CAUSE = 2 ∧ s.eraseCmd.boot = s.boot) ∧
     (s.fldOn BOOT_FL_BUSY = true → s.deltaCmd.fld BOOT_FL_CAUSE = 2 ∧ (∀ b, (s.prefCmd b).fld BOOT_FL_CAUSE = 2)) ∧
     (∀ a n b, b < a ∨ a + n ≤ b → (s.flashErase a n).flashByte b = s.flashByte b) ∧
     (∀ a n b, a ≤ b → b < a + n → (s.flashErase a n).flashByte b = 255))

/-- The debug port and the interconnect (R534 .. R542, R544 .. R548, R550, R551). R537, R538: a debug operation does nothing
without ATTACH, and after DBG_KILL the port is a bypass register. R535: the boundary register shifts the balls' levels out
and its cells in. R545: of the requests that wait, a target serves one of the highest effective QoS, and the master it has
granted is the last served; an access completes once it has been granted. R548: an access that is not answered for
TIMEOUT_US ends. -/
def Obligations.DebugCommands : Prop :=
  (∀ s : State,
     let ir : Nat → State := fun c =>
       if s.dbg.ir = c then s else { s.emit (.irScan 1) with dbg := { s.dbg with ir := c } }
     let shifted : State → State := fun t =>
       let u := t.emit (.scan 176 (Config.ballLevels t.free % 2 ^ 176))
       { u with free := t.free + 1, dbg := { u.dbg with cells := Config.shiftedIn t.free % 2 ^ 176 } }
     let scan := (ir 0x10).emit (.scan 56 (s.captured))
     exec .tapReset s = .next { s with dbg := { s.dbg with ir := 1 } } ∧
     exec .idcode s = .next ((ir 1).emit (.scan 32 (s.fld GLB_SI_REV % 16 * 2 ^ 28 + 0x1024 * 2 ^ 12 + 0x4B3 * 2 + 1))) ∧
     exec .samplePreload s = .next (shifted (ir 2)) ∧
     exec .extest s = .next (shifted ((ir 3).raise Ev.SAFE_REQ { data := 2 })) ∧
     exec .bypass s = .next ((ir 0xFF).emit (.scan 1 0)) ∧
     exec .clamp s = .next ((ir 4).raise Ev.SAFE_REQ { data := 2 }) ∧
     exec .highz s = .next ((ir 5).raise Ev.SAFE_REQ { data := 2 }) ∧
     exec .dbgStatus s = .next ((ir 0x11).emit (.scan 32 (s.fld BOOT_DBG_KILL * 2 ^ 16 + s.fld BOOT_TEST_KILL * 2 ^ 17 +
       s.fld BOOT_STAGE % 8 * 2 ^ 18 + s.fld FLT_SAFE * 2 ^ 21 + s.fld FLT_FATAL * 2 ^ 22))) ∧
     (s.dbg.killed = true → exec .attach s = .next ((ir 0x10).emit (.scan 1 0)) ∧
       exec (.dbgRead 0) s = .next ((ir 0x10).emit (.scan 1 0))) ∧
     (s.dbg.killed = false → s.dbg.op = none →
       exec .attach s = .next ((scan.writeAttach 1).beginOpen 0) ∧ exec .detach s = .next ((scan.writeAttach 0).beginOpen 0) ∧
       (s.fldOn DBG_ATTACH = true → s.gated 183 = false →
         (∀ a : BitVec 16, a.toNat ≠ 0 → exec (.dbgRead a) s = .next (scan.dbgReadAt (4 * a.toNat)) ∧
           ∀ v : Word, exec (.dbgWrite a v) s = .next (scan.dbgWriteAt (4 * a.toNat) v.toNat)) ∧
         exec .goRd s = .next (scan.dbgWriteAt 0x1C (1 + 4 * s.fld DBG_AUTOINC)) ∧
         exec .goWr s = .next (scan.dbgWriteAt 0x1C (2 + 4 * s.fld DBG_AUTOINC)) ∧
         ∀ k : Fin 36,
           (∀ hi : Bool, exec (.regData k hi none) s = .next (scan.dbgReadAt ((if hi then 0x138 else 0x134) + 0x40 * k.val)) ∧
             ∀ v : Word, exec (.regData k hi (some v)) s =
               .next (scan.dbgWriteAt ((if hi then 0x138 else 0x134) + 0x40 * k.val) v.toNat)) ∧
           exec (.haltReq k) s = .next (scan.dbgWriteAt (0x100 + 0x40 * k.val) (1 + 256 * s.fld DBGC_HALT_ON_ENTRY 0 k)) ∧
           exec (.resume k) s = .next (scan.dbgWriteAt (0x100 + 0x40 * k.val) (2 + 256 * s.fld DBGC_HALT_ON_ENTRY 0 k)) ∧
           exec (.step k) s = .next (scan.dbgWriteAt (0x100 + 0x40 * k.val) (4 + 256 * s.fld DBGC_HALT_ON_ENTRY 0 k)))) ∧
     (∀ o, s.dbg.op = some o → o.bus = false → exec .dbgOperationDone s =
       .next { s with dbg := { s.dbg with op := none, status := o.status, data := o.data } }) ∧
     (∀ x, s.dbg.access = some x →
       let failed : State → Nat → State := fun u resp => u.endAccess (if x.write.isSome then none else some 0) resp
       (∀ t, busTarget x.addr = some t →
         (s.icWaits 11 = true → ∀ d : Word, exec (.busAccessDone (.data d)) s = .next s) ∧
         (s.icWaits 11 = false → ∀ d : Word,
           (∀ v, x.write = some v → exec (.busAccessDone (.data d)) s = .next ((s.busWrite t v).endAccess none 0)) ∧
           (x.write = none → exec (.busAccessDone (.data d)) s =
             .next ((s.busRead t d.toNat).1.endAccess (some (s.busRead t d.toNat).2) 0))) ∧
         (s.expired x.since (s.fld IC_TIMEOUT_US) 1000 = true →
           exec (.busAccessDone .timeout) s = .next (failed s.icTimedOut 2)) ∧
         (s.expired x.since (s.fld IC_TIMEOUT_US) 1000 = false → exec (.busAccessDone .timeout) s = .next s)) ∧
       (busTarget x.addr = none → ∀ answer, exec (.busAccessDone answer) s = .next (failed s 1))) ∧
     (∀ (t : Fin 14) (m : Fin 12) (x : Unanswered),
       (masterReaches m t = true → m.val ≠ 11 → 1000 * s.fld IC_TIMEOUT_US ≤ x.waited →
         exec (.icTimeout (some t) m x) s = .next s.icTimedOut) ∧
       (masterReaches m t = true → m.val ≠ 11 → x.waited < 1000 * s.fld IC_TIMEOUT_US →
         exec (.icTimeout (some t) m x) s = .next s) ∧
       (masterReaches m t = false → exec (.icTimeout (some t) m x) s = .next (s.decodeError m x.addr.toNat)) ∧
       exec (.icTimeout none m x) s = .next (s.decodeError m x.addr.toNat)) ∧
     (∀ (rs : List IcReq) (r : IcReq), s.firstServed rs = some r → r ∈ rs ∧ ∀ q ∈ rs, s.effQos q ≤ s.effQos r) ∧
     (∀ t m : Nat, (s.ic.grant t m).sinceServed t m = 0) ∧
     ∀ w : Fin 8, s.writable w 0x43054 → exec (.decSeen w) s = .next ((s.setFld IC_DEC_SEEN 0).disarmed w)) ∧
  (∀ (s : State) (a : BitVec 16) (v : Word), a.toNat ≠ 0 → s.fldOn DBG_ATTACH = false →
     ∃ t, exec (.dbgWrite a v) s = .next t ∧ t.regs = s.regs ∧ t.probe = s.probe ∧ t.boot = s.boot ∧ t.anc = s.anc ∧
       t.dbg.cores = s.dbg.cores ∧ t.dbg.cmem = s.dbg.cmem ∧
       (s.dbg.killed = false → s.dbg.op = none → t.dbg.op.map (·.status) = some 3))
end

