-- ==== Sys2Proof/Laws/Tab.lean ====
section
/-! SUPPORT. What a sparse table reads after a write, and that every write keeps the canonical form. -/

namespace Sys2Proof.Machine

section
variable {α : Type}

theorem Tab.find?_insert_self (t : Tab α) (i : Nat) (v : α) : Tab.find? (Tab.insert t i v) i = some v := by
  induction t with
  | nil => simp [Tab.insert, Tab.find?]
  | cons e t ih =>
    obtain ⟨k, w⟩ := e
    simp only [Tab.insert]
    split
    · simp [Tab.find?]
    · split
      · simp [Tab.find?]
      · have hk : k ≠ i := by omega
        simp [Tab.find?, hk, ih]

theorem Tab.find?_insert_ne (t : Tab α) {i j : Nat} (v : α) (h : i ≠ j) :
    Tab.find? (Tab.insert t i v) j = Tab.find? t j := by
  induction t with
  | nil => simp [Tab.insert, Tab.find?, h]
  | cons e t ih =>
    obtain ⟨k, w⟩ := e
    simp only [Tab.insert]
    split
    · simp [Tab.find?, h]
    · split
      · subst_vars; simp [Tab.find?, h]
      · simp [Tab.find?, ih]

theorem Tab.find?_erase_ne (t : Tab α) {i j : Nat} (h : i ≠ j) : Tab.find? (Tab.erase t i) j = Tab.find? t j := by
  induction t with
  | nil => rfl
  | cons e t ih =>
    obtain ⟨k, w⟩ := e
    simp only [Tab.erase]
    split
    · subst_vars; simp [Tab.find?, h, ih]
    · simp [Tab.find?, ih]

/-- In a rising list every later key is above the first one. -/
theorem Tab.rising_cons_iff (k : Nat) (w : α) (t : Tab α) :
    Tab.rising ((k, w) :: t) = true ↔ (∀ e ∈ t, k < e.1) ∧ Tab.rising t = true := by
  induction t generalizing k w with
  | nil => simp [Tab.rising]
  | cons e t ih =>
    obtain ⟨k', w'⟩ := e
    simp only [Tab.rising, Bool.and_eq_true, decide_eq_true_eq, List.mem_cons, forall_eq_or_imp]
    rw [ih k' w']
    constructor
    · rintro ⟨h, h1, h2⟩
      exact ⟨⟨h, fun e he => Nat.lt_trans h (h1 e he)⟩, h1, h2⟩
    · rintro ⟨⟨h, _⟩, h1, h2⟩
      exact ⟨h, h1, h2⟩

theorem Tab.mem_insert {t : Tab α} {i : Nat} {v : α} {e : Nat × α} (h : e ∈ Tab.insert t i v) :
    e = (i, v) ∨ e ∈ t := by
  induction t with
  | nil => simpa [Tab.insert] using h
  | cons x t ih =>
    obtain ⟨k, w⟩ := x
    simp only [Tab.insert] at h
    split at h
    · simpa using h
    · split at h
      · simp only [List.mem_cons] at h ⊢
        exact h.elim .inl (fun h => .inr (.inr h))
      · simp only [List.mem_cons] at h ⊢
        rcases h with h | h
        · exact .inr (.inl h)
        · rcases ih h with h | h
          · exact .inl h
          · exact .inr (.inr h)

theorem Tab.mem_erase {t : Tab α} {i : Nat} {e : Nat × α} (h : e ∈ Tab.erase t i) : e ∈ t := by
  induction t with
  | nil => simp [Tab.erase] at h
  | cons x t ih =>
    obtain ⟨k, w⟩ := x
    simp only [Tab.erase] at h
    split at h
    · exact List.mem_cons_of_mem _ (ih h)
    · simp only [List.mem_cons] at h ⊢
      rcases h with h | h
      · exact .inl h
      · exact .inr (ih h)

theorem Tab.rising_insert {t : Tab α} (h : Tab.rising t = true) (i : Nat) (v : α) :
    Tab.rising (Tab.insert t i v) = true := by
  induction t with
  | nil => rfl
  | cons x t ih =>
    obtain ⟨k, w⟩ := x
    have h' := h
    rw [rising_cons_iff] at h
    simp only [Tab.insert]
    split
    · rw [rising_cons_iff]
      refine ⟨?_, h'⟩
      intro e he
      rcases List.mem_cons.1 he with he | he
      · subst he; assumption
      · exact Nat.lt_trans ‹_› (h.1 e he)
    · split
      · subst_vars
        rw [rising_cons_iff]
        exact h
      · rw [rising_cons_iff]
        refine ⟨?_, ih h.2⟩
        intro e he
        rcases mem_insert he with he | he
        · subst he; simp only; omega
        · exact h.1 e he

theorem Tab.rising_erase {t : Tab α} (h : Tab.rising t = true) (i : Nat) : Tab.rising (Tab.erase t i) = true := by
  induction t with
  | nil => rfl
  | cons x t ih =>
    obtain ⟨k, w⟩ := x
    rw [rising_cons_iff] at h
    simp only [Tab.erase]
    split
    · exact ih h.2
    · rw [rising_cons_iff]
      exact ⟨fun e he => h.1 e (mem_erase he), ih h.2⟩

theorem Tab.rising_filter {t : Tab α} (h : Tab.rising t = true) (p : Nat × α → Bool) :
    Tab.rising (t.filter p : Tab α) = true := by
  induction t with
  | nil => rfl
  | cons x t ih =>
    obtain ⟨k, w⟩ := x
    rw [rising_cons_iff] at h
    rw [List.filter_cons]
    split
    · rw [rising_cons_iff]
      exact ⟨fun e he => h.1 e (List.mem_filter.1 he).1, ih h.2⟩
    · exact ih h.2

theorem Tab.rising_map {β : Type} {t : Tab α} (h : Tab.rising t = true) (f : Nat × α → β) :
    Tab.rising (t.map (fun e => (e.1, f e)) : Tab β) = true := by
  induction t with
  | nil => rfl
  | cons x t ih =>
    obtain ⟨k, w⟩ := x
    rw [rising_cons_iff] at h
    rw [List.map_cons, rising_cons_iff]
    refine ⟨?_, ih h.2⟩
    intro e he
    obtain ⟨y, hy, rfl⟩ := List.mem_map.1 he
    exact h.1 y hy

theorem Tab.find?_erase_self (t : Tab α) (i : Nat) : Tab.find? (Tab.erase t i) i = none := by
  induction t with
  | nil => rfl
  | cons x t ih =>
    obtain ⟨k, w⟩ := x
    simp only [Tab.erase]
    split
    · exact ih
    · have hne : k ≠ i := by assumption
      simp [Tab.find?, hne, ih]

/-! ### The canonical form -/

variable [DecidableEq α]

theorem Tab.wf_iff (d : α) (t : Tab α) : Tab.wf d t = true ↔ Tab.rising t = true ∧ ∀ e ∈ t, e.2 ≠ d := by
  simp [Tab.wf]

theorem Tab.wf_nil (d : α) : Tab.wf d ([] : Tab α) = true := rfl

theorem Tab.wf_set {d : α} {t : Tab α} (h : Tab.wf d t = true) (i : Nat) (v : α) : Tab.wf d (Tab.set d t i v) = true := by
  rw [wf_iff] at h ⊢
  unfold Tab.set
  split
  · exact ⟨rising_erase h.1 i, fun e he => h.2 e (mem_erase he)⟩
  · refine ⟨rising_insert h.1 i v, fun e he => ?_⟩
    rcases mem_insert he with he | he
    · subst he; assumption
    · exact h.2 e he

theorem Tab.wf_setRange {d : α} (vs : List α) {t : Tab α} (h : Tab.wf d t = true) (i : Nat) :
    Tab.wf d (Tab.setRange d t i vs) = true := by
  induction vs generalizing t i with
  | nil => exact h
  | cons v vs ih => exact ih (wf_set h i v) (i + 1)

theorem Tab.wf_filter {d : α} {t : Tab α} (h : Tab.wf d t = true) (p : Nat × α → Bool) :
    Tab.wf d (t.filter p : Tab α) = true := by
  rw [wf_iff] at h ⊢
  exact ⟨rising_filter h.1 p, fun e he => h.2 e (List.mem_filter.1 he).1⟩

/-! ### Reads after writes -/

/-- A key reads as what was written to it. -/
@[simp] theorem Tab.get_set_self {d : α} (t : Tab α) (i : Nat) (v : α) :
    Tab.get d (Tab.set d t i v) i = v := by
  unfold Tab.get Tab.set
  split
  · subst_vars; rw [find?_erase_self]; rfl
  · rw [find?_insert_self]; rfl

/-- Every other key reads as before. -/
@[simp] theorem Tab.get_set_ne {d : α} (t : Tab α) {i j : Nat} (v : α) (h : i ≠ j) :
    Tab.get d (Tab.set d t i v) j = Tab.get d t j := by
  unfold Tab.get Tab.set
  split
  · rw [find?_erase_ne _ h]
  · rw [find?_insert_ne _ _ h]

end
end Sys2Proof.Machine
end

