-- ==== Sys2Proof/Laws/Canon.lean ====
section
/-! SUPPORT. The canonical form of a state, kept by the shared operations. -/

namespace Sys2Proof.Machine
open Reg

variable {z : State}

/-- What every command keeps, counted from a state z: the parts of the state that `State.canonical` concerns are
canonical, the queue is that of z, what has left the block stays, and the counter of free values does not go back. -/
structure CanonParts (z : State) (regs : Tab Nat) (anc flash page msix : Tab Nat) (cores : Tab CoreRun)
    (pending : List Instr) (out : List Output) (free : Nat) : Prop where
  regsRise : Tab.rising regs = true
  ancOk : Tab.wf 0 anc = true
  flashOk : Tab.wf 0 flash = true
  pageOk : Tab.wf 0 page = true
  msixOk : Tab.wf 0 msix = true
  coresOk : ∀ e ∈ cores, Tab.wf 0 e.2.imem = true ∧ Tab.wf 0 e.2.dmem = true
  queue : pending = z.pending
  outStays : z.out <:+ out
  freeGrows : z.free ≤ free

def Canon (z s : State) : Prop :=
  CanonParts z s.regs s.anc.mem s.boot.flash s.boot.page s.host.msix s.probe.cores s.pending s.out s.free

theorem Canon.parts {s : State} (h : Canon z s) :
    CanonParts z s.regs s.anc.mem s.boot.flash s.boot.page s.host.msix s.probe.cores s.pending s.out s.free := h

/-- A canonical state keeps what every command keeps, counted from itself. -/
theorem Canon.start {s : State} (h : s.canonical = true) : Canon s s := by
  have m : Memory.wf s = true := (Bool.and_eq_true_iff.1 h).2
  unfold Memory.wf at m
  simp only [Bool.and_eq_true, List.all_eq_true] at m
  exact { regsRise := (Bool.and_eq_true_iff.1 h).1, ancOk := m.1.1.1.1, flashOk := m.1.1.1.2, pageOk := m.1.1.2, msixOk := m.1.2
          coresOk := m.2, queue := rfl, outStays := List.suffix_refl _, freeGrows := Nat.le_refl _ }

theorem Canon.canonical {s : State} (h : Canon z s) : s.canonical = true := by
  have m : Memory.wf s = true := by
    unfold Memory.wf
    rw [h.ancOk, h.flashOk, h.pageOk, h.msixOk]
    exact List.all_eq_true.2 fun e he => Bool.and_eq_true_iff.2 (h.coresOk e he)
  unfold State.canonical
  rw [h.regsRise, m]
  rfl

theorem Canon.ofMk {pending regs free out host time take store faults cway sdi media lane audio aes anc probe clk tow boot ic dbg}
    (h : CanonParts z regs (AncState.mem anc) (BootRun.flash boot) (BootRun.page boot) (HostState.msix host)
      (ProbeState.cores probe) pending out free) :
    Canon z { pending := pending, regs := regs, free := free, out := out, host := host, time := time, take := take,
              store := store, faults := faults, cway := cway, sdi := sdi, media := media, lane := lane, audio := audio,
              aes := aes, anc := anc, probe := probe, clk := clk, tow := tow, boot := boot, ic := ic, dbg := dbg } := h

theorem Canon.ite {c : Prop} [Decidable c] {s t : State} (hs : Canon z s) (ht : Canon z t) : Canon z (if c then s else t) := by
  split <;> assumption

/-- Every state that an optional one may be is canonical. -/
def CanonO (z : State) (o : Option State) : Prop := ∀ t, o = some t → Canon z t

theorem CanonO.none : CanonO z none := fun _ e => nomatch e
theorem CanonO.some {s : State} (h : Canon z s) : CanonO z (some s) := fun _ e => Option.some.inj e ▸ h
theorem CanonO.of {o : Option State} {t : State} (e : o = Option.some t) (h : CanonO z o) : Canon z t := h t e
theorem CanonO.ite {c : Prop} [Decidable c] {a b : Option State} (ha : CanonO z a) (hb : CanonO z b) :
    CanonO z (if c then a else b) := by
  split <;> assumption

/-- The next state of an outcome, if it has one, is canonical. -/
def CanonX (z : State) (o : Host.Outcome State Fault Refusal) : Prop := ∀ t, o = .next t → Canon z t

theorem CanonX.next {s : State} (h : Canon z s) : CanonX z (.next s) := fun _ e => Host.Outcome.next.inj e ▸ h
theorem CanonX.ite {c : Prop} [Decidable c] {a b : Host.Outcome State Fault Refusal} (ha : CanonX z a) (hb : CanonX z b) :
    CanonX z (if c then a else b) := by
  split <;> assumption

/-- The state of a pair is canonical. -/
def CanonP (z : State) {α : Type} (p : State × α) : Prop := Canon z p.1

theorem CanonP.mk {α : Type} {s : State} (h : Canon z s) (a : α) : CanonP z (s, a) := h
theorem CanonP.fst {α : Type} {p : State × α} (h : CanonP z p) : Canon z p.1 := h
theorem CanonP.of {α : Type} {x : State} {y : α} {p : State × α} (e : p = (x, y)) (h : CanonP z p) : Canon z x := by
  rw [e] at h; exact h
theorem CanonP.ite {α : Type} {c : Prop} [Decidable c] {a b : State × α} (ha : CanonP z a) (hb : CanonP z b) :
    CanonP z (if c then a else b) := by
  split <;> assumption

theorem CanonP.foldl {α β : Type} {f : State × β → α → State × β} (l : List α) {p : State × β} (h : CanonP z p)
    (hf : ∀ q a, CanonP z q → CanonP z (f q a)) : CanonP z (l.foldl f p) := by
  induction l generalizing p with
  | nil => exact h
  | cons a l ih => exact ih (hf p a h)

theorem Canon.foldl {α : Type} {f : State → α → State} (l : List α) {s : State} (h : Canon z s)
    (hf : ∀ t a, Canon z t → Canon z (f t a)) : Canon z (l.foldl f s) := by
  induction l generalizing s with
  | nil => exact h
  | cons a l ih => exact ih (hf s a h)

theorem Canon.each {α : Type} {f : State → α → State} (l : List α) {s : State} (h : Canon z s)
    (hf : ∀ t a, Canon z t → Canon z (f t a)) : Canon z (s.each l f) := Canon.foldl l h hf

theorem Canon.upTo {f : State → Nat → State} (n : Nat) {s : State} (h : Canon z s)
    (hf : ∀ t a, Canon z t → Canon z (f t a)) : Canon z (s.upTo n f) := Canon.foldl _ h hf

theorem Canon.when {f : State → State} (c : Bool) {s : State} (h : Canon z s)
    (hf : ∀ t, Canon z t → Canon z (f t)) : Canon z (s.when c f) := by
  unfold State.when; split
  · exact hf s h
  · exact h

theorem Canon.regs {s : State} (h : Canon z s) {t : Tab Nat} (ht : Tab.rising t = true) :
    Canon z { s with regs := t } := { h.parts with regsRise := ht }

theorem Canon.setHost {s : State} (h : Canon z s) {x : HostState} (hx : Tab.wf 0 x.msix = true) :
    Canon z { s with host := x } := { h.parts with msixOk := hx }

theorem Canon.setAnc {s : State} (h : Canon z s) {x : AncState} (hx : Tab.wf 0 x.mem = true) :
    Canon z { s with anc := x } := { h.parts with ancOk := hx }

theorem Canon.setBoot {s : State} (h : Canon z s) {x : BootRun} (hf : Tab.wf 0 x.flash = true)
    (hp : Tab.wf 0 x.page = true) : Canon z { s with boot := x } :=
  { h.parts with flashOk := hf, pageOk := hp }

theorem Canon.setProbe {s : State} (h : Canon z s) {x : ProbeState}
    (hx : ∀ e ∈ x.cores, Tab.wf 0 e.2.imem = true ∧ Tab.wf 0 e.2.dmem = true) :
    Canon z { s with probe := x } := { h.parts with coresOk := hx }

theorem Canon.setFld {s : State} (h : Canon z s) (f : Field) (v i j : Nat) : Canon z (s.setFld f v i j) := by
  refine h.regs ?_
  unfold regsSet; split
  · exact Tab.rising_erase h.regsRise _
  · exact Tab.rising_insert h.regsRise _ _

theorem Canon.resetFld {s : State} (h : Canon z s) (f : Field) (i j : Nat) : Canon z (s.resetFld f i j) :=
  h.regs (Tab.rising_erase h.regsRise _)

theorem Canon.addFld {s : State} (h : Canon z s) (f : Field) (n i j : Nat) : Canon z (s.addFld f n i j) := h.setFld f _ i j
theorem Canon.satFld {s : State} (h : Canon z s) (f : Field) (i j : Nat) : Canon z (s.satFld f i j) := h.setFld f _ i j
theorem Canon.setPair {s : State} (h : Canon z s) (lo hi : Field) (v i j : Nat) : Canon z (s.setPair lo hi v i j) :=
  (h.setFld lo _ i j).setFld hi _ i j
theorem Canon.addPair {s : State} (h : Canon z s) (lo hi : Field) (n i j : Nat) : Canon z (s.addPair lo hi n i j) :=
  h.setPair lo hi _ i j
theorem Canon.setOwner {s : State} (h : Canon z s) (ori : Nat) (p : Option Nat) : Canon z (s.setOwner ori p) := h.setFld _ _ _ _
theorem Canon.setFree {s : State} (h : Canon z s) {n : Nat} (hn : s.free ≤ n) : Canon z { s with free := n } :=
  { h.parts with freeGrows := Nat.le_trans h.freeGrows hn }
theorem Canon.advance {s : State} (h : Canon z s) : Canon z s.advance := h.setFree (Nat.le_succ _)
theorem Canon.emit {s : State} (h : Canon z s) (o : Output) : Canon z (s.emit o) :=
  { h.parts with outStays := h.outStays.trans (List.suffix_cons _ _) }
theorem Canon.setPart {s : State} (h : Canon z s) (p : Nat) (r : PartRun) : Canon z (s.setPart p r) := h
theorem Canon.setRing {s : State} (h : Canon z s) (p k : Nat) (r : RingRun) : Canon z (s.setRing p k r) := h
theorem Canon.setEvtRing {s : State} (h : Canon z s) (p e : Nat) (r : EvtRingRun) : Canon z (s.setEvtRing p e r) := h
theorem Canon.setEngine {s : State} (h : Canon z s) (e : Nat) (x : Engine) : Canon z (s.setEngine e x) := h
theorem Canon.clearClass {s : State} (h : Canon z s) (c : ResetClass) : Canon z (s.clearClass c) :=
  h.regs (Tab.rising_filter h.regsRise _)

/-! ### The memories of a probe core -/

def CoreOk (x : CoreRun) : Prop := Tab.wf 0 x.imem = true ∧ Tab.wf 0 x.dmem = true

theorem CoreOk.empty : CoreOk {} := ⟨rfl, rfl⟩

theorem Tab.mem_find? {α : Type} {t : Tab α} {k : Nat} {v : α} (h : Tab.find? t k = some v) : (k, v) ∈ t := by
  induction t with
  | nil => simp [Tab.find?] at h
  | cons e t ih =>
    obtain ⟨k', w⟩ := e
    simp only [Tab.find?] at h
    split at h
    · simp_all
    · exact List.mem_cons_of_mem _ (ih h)

theorem Canon.core {s : State} (h : Canon z s) (c : Nat) : CoreOk (s.core c) := by
  unfold State.core Tab.get
  cases e : Tab.find? s.probe.cores c with
  | none => exact CoreOk.empty
  | some x => exact h.coresOk _ (Tab.mem_find? e)

theorem Canon.setCore {s : State} (h : Canon z s) (c : Nat) {x : CoreRun} (hx : CoreOk x) : Canon z (s.setCore c x) := by
  refine { h.parts with coresOk := fun e he => ?_ }
  simp only [State.setCore, Tab.set] at he
  split at he
  · exact h.coresOk e (Tab.mem_erase he)
  · rcases Tab.mem_insert he with he | he
    · subst he; exact hx
    · exact h.coresOk e he

theorem CoreOk.of_eq {x y : CoreRun} (h : CoreOk x) (ei : y.imem = x.imem) (ed : y.dmem = x.dmem) : CoreOk y := by
  unfold CoreOk; rw [ei, ed]; exact h

theorem CoreOk.setData {x : CoreRun} (h : CoreOk x) (a v : Nat) : CoreOk (x.setData a v) := ⟨h.1, Tab.wf_set h.2 _ _⟩
theorem CoreOk.setAcc {x : CoreRun} (h : CoreOk x) (k : Nat) (v : Int) : CoreOk (x.setAcc k v) := by
  unfold CoreRun.setAcc; split <;> exact h
theorem CoreOk.setD {x : CoreRun} (h : CoreOk x) (i v : Nat) : CoreOk (x.setD i v) := h
theorem CoreOk.setXf {x : CoreRun} (h : CoreOk x) (i f v : Nat) : CoreOk (x.setXf i f v) := h
theorem CoreOk.zn {x : CoreRun} (h : CoreOk x) (r : Nat) : CoreOk (x.zn r) := h
theorem CoreOk.flagsAdd {x : CoreRun} (h : CoreOk x) (a b : Nat) : CoreOk (x.flagsAdd a b).2 := h
theorem CoreOk.flagsSub {x : CoreRun} (h : CoreOk x) (a b : Nat) : CoreOk (x.flagsSub a b).2 := h
theorem CoreOk.modify {x : CoreRun} (h : CoreOk x) (i mode : Nat) : CoreOk (x.modify i mode) := by
  unfold CoreRun.modify; split <;> exact h
theorem CoreOk.setLoop {x : CoreRun} (h : CoreOk x) (l : Nat) (v : ProbeLoop) : CoreOk (x.setLoop l v) := by
  unfold CoreRun.setLoop; split <;> exact h
theorem CoreOk.startLoop {x : CoreRun} (h : CoreOk x) (l count start last : Nat) :
    CoreOk (x.startLoop l count start last) := (h.setLoop _ _).setLoop _ _
theorem CoreOk.loopEnd {x : CoreRun} (h : CoreOk x) (l pc : Nat) : CoreOk (x.loopEnd l pc).1 := by
  simp only [CoreRun.loopEnd]
  split
  · split
    · exact h.setLoop _ _
    · exact h.setLoop _ _
  · exact h
theorem CoreOk.sequential {x : CoreRun} (h : CoreOk x) (pc : Nat) : CoreOk (x.sequential pc).1 := by
  simp only [CoreRun.sequential]
  split
  · exact h.loopEnd _ _
  · exact (h.loopEnd _ _).loopEnd _ _
theorem CoreOk.setRange {x : CoreRun} (h : CoreOk x) (a : Nat) (l : List Nat) :
    CoreOk { x with dmem := Tab.setRange 0 x.dmem a l } := ⟨h.1, Tab.wf_setRange _ h.2 _⟩
theorem CoreOk.setImem {x : CoreRun} (h : CoreOk x) (a : Nat) (l : List Nat) :
    CoreOk { x with imem := Tab.setRange 0 x.imem a l } := ⟨Tab.wf_setRange _ h.1 _, h.2⟩
theorem CoreOk.putImem {x : CoreRun} (h : CoreOk x) (a v : Nat) :
    CoreOk { x with imem := Tab.set 0 x.imem a v } := ⟨Tab.wf_set h.1 _ _, h.2⟩
theorem CoreOk.setWin {x : CoreRun} (h : CoreOk x) (i : Nat) (w : TapWin) : CoreOk (x.setWin i w) := h
theorem CoreOk.ite {c : Prop} [Decidable c] {x y : CoreRun} (hx : CoreOk x) (hy : CoreOk y) : CoreOk (if c then x else y) := by
  split <;> assumption

/-- What an instruction of a probe core leaves is canonical. -/
def StepOk (z : State) : ProbeStep → Prop
  | .next t x _ => Canon z t ∧ CoreOk x
  | .jump t x _ _ => Canon z t ∧ CoreOk x
  | .done x => CoreOk x
  | .stall t => Canon z t
  | .fault _ => True

def SemOk (z : State) (f : ProbeSem) : Prop := ∀ s c w pc x, Canon z s → CoreOk x → StepOk z (f s c w pc x)

end Sys2Proof.Machine
end

