-- ==== Sys2Proof/Laws/CanonOps.lean ====
section
/-! SUPPORT. The operations of Machine/Ops.lean keep the canonical form of a state. -/

namespace Sys2Proof.Machine
open Reg

variable {z : State}

theorem Canon.crosses {s : State} (h : Canon z s) (m : Nat) (ts : List Nat) : Canon z (State.crosses s m ts) := by
  unfold State.crosses
  repeat' first
    | (with_reducible first | assumption | refine CanonP.foldl _ ?_ (fun _ _ _ => ?_)
                            | exact CanonP.fst (by with_reducible assumption)
                            | refine Canon.foldl _ ?_ (fun _ _ _ => ?_))
    | split
    | with_reducible refine CanonP.mk ?_ _
    | (with_reducible apply Canon.ofMk; with_reducible refine Canon.parts ?_)

end Sys2Proof.Machine
end

