-- ==== Sys2Proof/Laws/CanonCwCode.lean ====
section
/-! SUPPORT. The operations of Machine/CwCode.lean keep the canonical form of a state. -/

namespace Sys2Proof.Machine
open Reg

variable {z : State}

theorem Canon.setCwTx {s : State} (h : Canon z s) (t : CwTx) : Canon z (State.setCwTx s t) := by
  unfold State.setCwTx
  repeat' first
    | (with_reducible first | assumption)
    | split
    | (with_reducible apply Canon.ofMk; with_reducible refine Canon.parts ?_)

theorem Canon.queueMessage {s : State} (h : Canon z s) (cls ty flags mseq : Nat) (words : List Nat) :
    Canon z (State.queueMessage s cls ty flags mseq words) := by
  unfold State.queueMessage
  repeat' first
    | (with_reducible first | assumption | apply Canon.setCwTx)
    | split
    | (with_reducible apply Canon.ofMk; with_reducible refine Canon.parts ?_)
    | dsimp only

end Sys2Proof.Machine
end

