-- ==== Sys2Proof/Laws/CanonRaise.lean ====
section
/-! SUPPORT. The operations of Machine/Raise.lean keep the canonical form of a state. -/

namespace Sys2Proof.Machine
open Reg

variable {z : State}

theorem Canon.sendVector {s : State} (h : Canon z s) (p v : Nat) : Canon z (State.sendVector s p v) := by
  unfold State.sendVector
  repeat' first
    | (with_reducible first | assumption | apply Canon.ite | apply Canon.setPart | apply Canon.emit)
    | split
    | (with_reducible apply Canon.ofMk; with_reducible refine Canon.parts ?_)
    | dsimp only

theorem Canon.sendPending {s : State} (h : Canon z s) (p : Nat) : Canon z (State.sendPending s p) := by
  unfold State.sendPending
  repeat' first
    | (with_reducible first | assumption | apply Canon.ite | refine Canon.upTo _ ?_ (fun _ _ _ => ?_)
                            | apply Canon.setPart | apply Canon.sendVector)
    | split
    | (with_reducible apply Canon.ofMk; with_reducible refine Canon.parts ?_)
    | dsimp only

theorem Canon.writeEvent {s : State} (h : Canon z s) (p e ev cls index sub data seq : Nat) :
    Canon z (State.writeEvent s p e ev cls index sub data seq) := by
  unfold State.writeEvent
  repeat' first
    | (with_reducible first | assumption | apply Canon.ite | refine Canon.when _ ?_ (fun _ _ => ?_)
                            | apply Canon.satFld | apply Canon.emit | apply Canon.setFld | apply Canon.setEvtRing
                            | apply Canon.sendVector)
    | split
    | (with_reducible apply Canon.ofMk; with_reducible refine Canon.parts ?_)
    | dsimp only

theorem Canon.deliver {s : State} (h : Canon z s) (ev cls index sub data p : Nat) :
    Canon z (State.deliver s ev cls index sub data p) := by
  unfold State.deliver
  repeat' first
    | (with_reducible first | assumption | apply Canon.ite | apply Canon.setPart | apply Canon.addFld
                            | apply Canon.writeEvent)
    | split
    | (with_reducible apply Canon.ofMk; with_reducible refine Canon.parts ?_)
    | dsimp only

theorem Canon.react {s : State} (h : Canon z s) (cls ev index sub data : Nat) (rec : Fin 16) :
    Canon z (State.react s cls ev index sub data rec) := by
  unfold State.react
  repeat' first
    | (with_reducible first | assumption | apply Canon.ite | refine Canon.when _ ?_ (fun _ _ => ?_)
                            | apply Canon.setFld)
    | split
    | (with_reducible apply Canon.ofMk; with_reducible refine Canon.parts ?_)
    | dsimp only

theorem Canon.mergeFault {s : State} (h : Canon z s) (i : Fin 16) (cls ev index sub data : Nat) :
    Canon z (State.mergeFault s i cls ev index sub data) := by
  unfold State.mergeFault
  repeat' first
    | (with_reducible first | assumption | apply Canon.ite | refine Canon.when _ ?_ (fun _ _ => ?_)
                            | apply Canon.satFld | apply Canon.setFld | apply Canon.react)
    | split
    | (with_reducible apply Canon.ofMk; with_reducible refine Canon.parts ?_)
    | dsimp only

theorem Canon.createFault {s : State} (h : Canon z s) (i : Fin 16) (cls ev index sub data : Nat) (holds : Bool) :
    Canon z (State.createFault s i cls ev index sub data holds) := by
  unfold State.createFault
  repeat' first
    | (with_reducible first | assumption | refine Canon.each _ ?_ (fun _ _ _ => ?_) | apply Canon.setFld
                            | apply Canon.react)
    | split
    | (with_reducible apply Canon.ofMk; with_reducible refine Canon.parts ?_)
    | dsimp only

theorem Canon.placeFault {s : State} (h : Canon z s) (cls ev index sub data : Nat) (holds : Bool) :
    Canon z (State.placeFault s cls ev index sub data holds) := by
  unfold State.placeFault
  repeat' first
    | (with_reducible first | assumption | apply Canon.mergeFault | apply Canon.createFault | apply Canon.setFld)
    | split
    | (with_reducible apply Canon.ofMk; with_reducible refine Canon.parts ?_)

theorem Canon.raise {s : State} (h : Canon z s) (ev : Nat) (r : Raise) : Canon z (State.raise s ev r) := by
  unfold State.raise
  repeat' first
    | (with_reducible first | assumption | refine Canon.each _ ?_ (fun _ _ _ => ?_)
                            | refine Canon.upTo _ ?_ (fun _ _ _ => ?_) | refine Canon.when _ ?_ (fun _ _ => ?_)
                            | apply Canon.addFld | apply Canon.placeFault | apply Canon.deliver | apply Canon.setFld)
    | split
    | (with_reducible apply Canon.ofMk; with_reducible refine Canon.parts ?_)
    | dsimp only

theorem Canon.raiseOpen {s : State} (h : Canon z s) (ev : Nat) (r : Raise) : Canon z (State.raiseOpen s ev r) := by
  unfold State.raiseOpen
  repeat' first
    | (with_reducible first | assumption | apply Canon.advance | apply Canon.raise)
    | split
    | (with_reducible apply Canon.ofMk; with_reducible refine Canon.parts ?_)

theorem Canon.conditionEnds {s : State} (h : Canon z s) (ev index : Nat) :
    Canon z (State.conditionEnds s ev index) := by
  unfold State.conditionEnds
  repeat' first
    | (with_reducible first | assumption | refine Canon.upTo _ ?_ (fun _ _ _ => ?_)
                            | refine Canon.when _ ?_ (fun _ _ => ?_) | apply Canon.setFld)
    | split
    | (with_reducible apply Canon.ofMk; with_reducible refine Canon.parts ?_)

end Sys2Proof.Machine
end

