-- ==== Sys2Proof/Laws/CanonPairOps.lean ====
section
/-! SUPPORT. The operations of Machine/PairOps.lean keep the canonical form of a state. -/

namespace Sys2Proof.Machine
open Reg

variable {z : State}

theorem Canon.putMsg {s : State} (h : Canon z s) (flags mseq : Nat) (m : CwMsg) :
    Canon z (State.putMsg s flags mseq m) := by
  unfold State.putMsg
  repeat' first
    | (with_reducible first | assumption | refine Canon.when _ ?_ (fun _ _ => ?_) | apply Canon.emit
                            | apply Canon.queueMessage)
    | split
    | (with_reducible apply Canon.ofMk; with_reducible refine Canon.parts ?_)

theorem Canon.sendNow {s : State} (h : Canon z s) (m : CwMsg) : Canon z (State.sendNow s m) := by
  unfold State.sendNow
  repeat' first
    | (with_reducible first | assumption | apply Canon.ite | apply Canon.putMsg)
    | split
    | (with_reducible apply Canon.ofMk; with_reducible refine Canon.parts ?_)
    | dsimp only

theorem Canon.send {s : State} (h : Canon z s) (ty : Nat) (words : List Nat) : Canon z (State.send s ty words) := by
  unfold State.send
  repeat' first
    | (with_reducible first | assumption | apply Canon.ite | apply Canon.sendNow)
    | split
    | (with_reducible apply Canon.ofMk; with_reducible refine Canon.parts ?_)
    | dsimp only

theorem Canon.enterRole {s : State} (h : Canon z s) (r cause : Nat) : Canon z (State.enterRole s r cause) := by
  unfold State.enterRole
  repeat' first
    | (with_reducible first | assumption | apply Canon.ite | refine Canon.when _ ?_ (fun _ _ => ?_)
                            | apply Canon.setFld | apply Canon.raise | apply Canon.send)
    | split
    | (with_reducible apply Canon.ofMk; with_reducible refine Canon.parts ?_)
    | dsimp only

end Sys2Proof.Machine
end

