-- ==== Sys2Proof/Laws/CanonRings.lean ====
section
/-! SUPPORT. The operations of Machine/Rings.lean keep the canonical form of a state. -/

namespace Sys2Proof.Machine
open Reg

variable {z : State}

theorem Canon.hostFault {s : State} (h : Canon z s) (p : Nat) (ring : RingId) (sub addr : Nat) :
    Canon z (State.hostFault s p ring sub addr) := by
  unfold State.hostFault
  repeat' first
    | (with_reducible first | assumption | apply Canon.ite | apply Canon.setFld | apply Canon.raise)
    | split
    | (with_reducible apply Canon.ofMk; with_reducible refine Canon.parts ?_)
    | dsimp only

theorem Canon.dataToHost {s : State} (h : Canon z s) (p k addr : Nat) (bytes : List Byte) :
    Canon z (State.dataToHost s p k addr bytes) := by
  unfold State.dataToHost
  repeat' first
    | (with_reducible first | assumption | apply Canon.ite | apply Canon.setRing | apply Canon.emit)
    | split
    | (with_reducible apply Canon.ofMk; with_reducible refine Canon.parts ?_)
    | dsimp only

theorem Canon.writeCompletion {s : State} (h : Canon z s) (p k : Nat) (c : Completion) :
    Canon z (State.writeCompletion s p k c) := by
  unfold State.writeCompletion
  repeat' first
    | (with_reducible first | assumption | apply Canon.ite | refine Canon.when _ ?_ (fun _ _ => ?_) | apply Canon.emit
                            | apply Canon.setFld | apply Canon.setRing | apply Canon.sendVector)
    | split
    | (with_reducible apply Canon.ofMk; with_reducible refine Canon.parts ?_)
    | dsimp only

theorem Canon.complete {s : State} (h : Canon z s) (r : Request) (status v0 v1 detail : Nat) :
    Canon z (State.complete s r status v0 v1 detail) := by
  unfold State.complete
  repeat' first
    | (with_reducible first | assumption | apply Canon.ite | apply Canon.crosses | apply Canon.setRing
                            | apply Canon.place | apply Canon.writeCompletion)
    | split
    | (with_reducible apply Canon.ofMk; with_reducible refine Canon.parts ?_)
    | dsimp only

theorem Canon.writeHeld {s : State} (h : Canon z s) (p : Nat) : Canon z (State.writeHeld s p) := by
  unfold State.writeHeld
  repeat' first
    | (with_reducible first | assumption | refine Canon.each _ ?_ (fun _ _ _ => ?_)
                            | refine Canon.upTo _ ?_ (fun _ _ _ => ?_) | apply Canon.emit
                            | apply Canon.writeCompletion | apply Canon.setRing)
    | split
    | (with_reducible apply Canon.ofMk; with_reducible refine Canon.parts ?_)
    | dsimp only

theorem Canon.setPlace {s : State} (h : Canon z s) (p k : Nat) (x : ReqPlace) :
    Canon z (State.setPlace s p k x) := by
  unfold State.setPlace
  repeat' first
    | (with_reducible first | assumption | apply Canon.setRing | apply Canon.place)
    | split
    | (with_reducible apply Canon.ofMk; with_reducible refine Canon.parts ?_)

theorem Canon.grant {s : State} (h : Canon z s) (e : Nat) (r : Request) : Canon z (State.grant s e r) := by
  unfold State.grant
  repeat' first
    | (with_reducible first | assumption | apply Canon.setEngine | apply Canon.setPlace)
    | split
    | (with_reducible apply Canon.ofMk; with_reducible refine Canon.parts ?_)

theorem Canon.putAt {s : State} (h : Canon z s) (at' : Nat × Bool) (r : Request) :
    Canon z (State.putAt s at' r) := by
  unfold State.putAt
  repeat' first
    | (with_reducible first | assumption | apply Canon.ite | apply Canon.grant | apply Canon.setEngine
                            | apply Canon.setPlace)
    | split
    | (with_reducible apply Canon.ofMk; with_reducible refine Canon.parts ?_)
    | dsimp only

theorem Canon.placeHeld {s : State} (h : Canon z s) : Canon z (State.placeHeld s) := by
  unfold State.placeHeld
  repeat' first
    | (with_reducible first | assumption | refine CanonP.foldl _ ?_ (fun _ _ _ => ?_)
                            | exact CanonP.fst (by with_reducible assumption)
                            | refine Canon.foldl _ ?_ (fun _ _ _ => ?_) | apply Canon.putAt)
    | split
    | with_reducible refine CanonP.mk ?_ _
    | (with_reducible apply Canon.ofMk; with_reducible refine Canon.parts ?_)
    | dsimp only

theorem Canon.place {s : State} (h : Canon z s) (r : Request) : Canon z (State.place s r) := by
  unfold State.place
  repeat' first
    | (with_reducible first | assumption | apply Canon.placeHeld | apply Canon.putAt | apply Canon.setPlace)
    | split
    | (with_reducible apply Canon.ofMk; with_reducible refine Canon.parts ?_)
    | dsimp only

theorem Canon.draw {s : State} (h : Canon z s) (e : Nat) : Canon z (State.draw s e) := by
  unfold State.draw
  repeat' first
    | (with_reducible first | assumption | apply Canon.setEngine | apply Canon.grant)
    | split
    | (with_reducible apply Canon.ofMk; with_reducible refine Canon.parts ?_)
    | dsimp only

theorem Canon.freeEngine {s : State} (h : Canon z s) (e : Nat) : Canon z (State.freeEngine s e) := by
  unfold State.freeEngine
  repeat' first
    | (with_reducible first | assumption | apply Canon.setEngine | apply Canon.placeHeld)
    | split
    | (with_reducible apply Canon.ofMk; with_reducible refine Canon.parts ?_)

theorem Canon.finish {s : State} (h : Canon z s) (e : Nat) (r : Request) (status v0 v1 detail : Nat) :
    Canon z (State.finish s e r status v0 v1 detail) := by
  unfold State.finish
  repeat' first
    | (with_reducible first | assumption | apply Canon.complete | apply Canon.freeEngine)
    | split
    | (with_reducible apply Canon.ofMk; with_reducible refine Canon.parts ?_)

theorem Canon.unplace {s : State} (h : Canon z s) (p k : Nat) : Canon z (State.unplace s p k) := by
  unfold State.unplace
  repeat' first
    | (with_reducible first | assumption | refine Canon.upTo _ ?_ (fun _ _ _ => ?_) | apply Canon.setEngine)
    | split
    | (with_reducible apply Canon.ofMk; with_reducible refine Canon.parts ?_)
    | dsimp only

theorem Canon.disableRing {s : State} (h : Canon z s) (p k : Nat) : Canon z (State.disableRing s p k) := by
  unfold State.disableRing
  repeat' first
    | (with_reducible first | assumption | apply Canon.ite | apply Canon.unplace | apply Canon.setFld
                            | apply Canon.setRing | apply Canon.place | apply Canon.placeHeld)
    | split
    | (with_reducible apply Canon.ofMk; with_reducible refine Canon.parts ?_)
    | dsimp only

theorem Canon.enableRing {s : State} (h : Canon z s) (p k : Nat) : Canon z (State.enableRing s p k) := by
  unfold State.enableRing
  repeat' first
    | (with_reducible first | assumption | apply Canon.ite | apply Canon.setFld | apply Canon.setRing)
    | split
    | (with_reducible apply Canon.ofMk; with_reducible refine Canon.parts ?_)
    | dsimp only

theorem Canon.disableEvtRing {s : State} (h : Canon z s) (p e : Nat) : Canon z (State.disableEvtRing s p e) := by
  unfold State.disableEvtRing
  repeat' first
    | (with_reducible first | assumption | apply Canon.setFld)
    | split
    | (with_reducible apply Canon.ofMk; with_reducible refine Canon.parts ?_)

theorem Canon.enableEvtRing {s : State} (h : Canon z s) (p e : Nat) : Canon z (State.enableEvtRing s p e) := by
  unfold State.enableEvtRing
  repeat' first
    | (with_reducible first | assumption | apply Canon.ite | apply Canon.setFld | apply Canon.setEvtRing)
    | split
    | (with_reducible apply Canon.ofMk; with_reducible refine Canon.parts ?_)

end Sys2Proof.Machine
end

