-- ==== Sys2Proof/Laws/CanonDigest.lean ====
section
/-! SUPPORT. The operations of Machine/Digest.lean keep the canonical form of a state. -/

namespace Sys2Proof.Machine
open Reg

variable {z : State}

theorem Canon.setCway {s : State} (h : Canon z s) (p : PairRun) : Canon z (State.setCway s p) := by
  unfold State.setCway
  repeat' first
    | (with_reducible first | assumption)
    | split
    | (with_reducible apply Canon.ofMk; with_reducible refine Canon.parts ?_)

theorem Canon.askKat {s : State} (h : Canon z s) (isl : List Nat) : Canon z (State.askKat s isl) := by
  unfold State.askKat
  repeat' first
    | (with_reducible first | assumption | apply Canon.setCway)
    | split
    | (with_reducible apply Canon.ofMk; with_reducible refine Canon.parts ?_)
    | dsimp only

theorem Canon.requestKat {s : State} (h : Canon z s) (isl : List Nat) : Canon z (State.requestKat s isl) := by
  unfold State.requestKat
  repeat' first
    | (with_reducible first | assumption | apply Canon.askKat | apply Canon.send)
    | split
    | (with_reducible apply Canon.ofMk; with_reducible refine Canon.parts ?_)

theorem Canon.digestMismatch {s : State} (h : Canon z s) (d : Dig) (bothComplete : Bool) :
    Canon z (State.digestMismatch s d bothComplete) := by
  unfold State.digestMismatch
  repeat' first
    | (with_reducible first | assumption | apply Canon.ite | apply Canon.addFld | apply Canon.setCway
                            | apply Canon.raise | apply Canon.requestKat)
    | split
    | (with_reducible apply Canon.ofMk; with_reducible refine Canon.parts ?_)
    | dsimp only

theorem Canon.joinDone {s : State} (h : Canon z s) : Canon z (State.joinDone s) := by
  unfold State.joinDone
  repeat' first
    | (with_reducible first | assumption | refine Canon.when _ ?_ (fun _ _ => ?_) | apply Canon.enterRole)
    | split
    | (with_reducible apply Canon.ofMk; with_reducible refine Canon.parts ?_)
    | dsimp only

theorem Canon.outputAgrees {s : State} (h : Canon z s) (d : Nat) : Canon z (State.outputAgrees s d) := by
  unfold State.outputAgrees
  repeat' first
    | (with_reducible first | assumption | apply Canon.setCway | apply Canon.joinDone)
    | split
    | (with_reducible apply Canon.ofMk; with_reducible refine Canon.parts ?_)
    | dsimp only

theorem Canon.compareDigests {s : State} (h : Canon z s) (own peer : Dig) :
    Canon z (State.compareDigests s own peer) := by
  unfold State.compareDigests
  repeat' first
    | (with_reducible first | assumption | apply Canon.ite | refine Canon.when _ ?_ (fun _ _ => ?_)
                            | apply Canon.addFld | apply Canon.outputAgrees | apply Canon.digestMismatch)
    | split
    | (with_reducible apply Canon.ofMk; with_reducible refine Canon.parts ?_)
    | dsimp only

theorem Canon.ownDigest {s : State} (h : Canon z s) (d : Dig) : Canon z (State.ownDigest s d) := by
  unfold State.ownDigest
  repeat' first
    | (with_reducible first | assumption | apply Canon.ite | apply Canon.send | apply Canon.setCway
                            | apply Canon.compareDigests)
    | split
    | (with_reducible apply Canon.ofMk; with_reducible refine Canon.parts ?_)
    | dsimp only

theorem Canon.peerDigest {s : State} (h : Canon z s) (d : Dig) : Canon z (State.peerDigest s d) := by
  unfold State.peerDigest
  repeat' first
    | (with_reducible first | assumption | apply Canon.setCway | apply Canon.compareDigests)
    | split
    | (with_reducible apply Canon.ofMk; with_reducible refine Canon.parts ?_)
    | dsimp only

end Sys2Proof.Machine
end

