-- ==== Sys2Proof/Laws/CanonPlanes.lean ====
section
/-! SUPPORT. The operations of Machine/Planes.lean keep the canonical form of a state. -/

namespace Sys2Proof.Machine
open Reg

variable {z : State}

theorem Canon.setPlaneRun {s : State} (h : Canon z s) (p : Nat) (r : PlaneRun) :
    Canon z (State.setPlaneRun s p r) := by
  unfold State.setPlaneRun
  repeat' first
    | (with_reducible first | assumption)
    | split
    | (with_reducible apply Canon.ofMk; with_reducible refine Canon.parts ?_)

theorem Canon.setAud {s : State} (h : Canon z s) (c : AudioClock) : Canon z (State.setAud s c) := by
  unfold State.setAud
  repeat' first
    | (with_reducible first | assumption)
    | split
    | (with_reducible apply Canon.ofMk; with_reducible refine Canon.parts ?_)

theorem Canon.audioEdge {s : State} (h : Canon z s) (e : Int) (m : Nat) : Canon z (State.audioEdge s e m) := by
  unfold State.audioEdge
  repeat' first
    | (with_reducible first | assumption | apply Canon.ite | apply Canon.setFld | apply Canon.setAud)
    | split
    | (with_reducible apply Canon.ofMk; with_reducible refine Canon.parts ?_)
    | dsimp only

theorem Canon.renumber {s : State} (h : Canon z s) (d : Int) : Canon z (State.renumber s d) := by
  unfold State.renumber
  repeat' first
    | (with_reducible first | assumption | apply Canon.ite | apply Canon.setAud)
    | split
    | (with_reducible apply Canon.ofMk; with_reducible refine Canon.parts ?_)
    | dsimp only

end Sys2Proof.Machine
end

