-- ==== Sys2Proof/Laws/CanonThumb.lean ====
section
/-! SUPPORT. The operations of Machine/Thumb.lean keep the canonical form of a state. -/

namespace Sys2Proof.Machine
open Reg

variable {z : State}

theorem Canon.copyThumbs {s : State} (h : Canon z s) (n : Nat) (sl : Slot) (store ladder : Nat) :
    Canon z (State.copyThumbs s n sl store ladder) := by
  unfold State.copyThumbs
  repeat' first
    | (with_reducible first | assumption | apply Canon.ite | refine Canon.each _ ?_ (fun _ _ _ => ?_)
                            | apply Canon.setRing | apply Canon.dataToHost)
    | split
    | (with_reducible apply Canon.ofMk; with_reducible refine Canon.parts ?_)
    | dsimp only

end Sys2Proof.Machine
end

