-- ==== Sys2Proof/Laws/CanonStore.lean ====
section
/-! SUPPORT. The operations of Machine/Store.lean keep the canonical form of a state. -/

namespace Sys2Proof.Machine
open Reg

variable {z : State}

theorem Canon.setSrc {s : State} (h : Canon z s) (n : Nat) (x : SrcRun) : Canon z (State.setSrc s n x) := by
  unfold State.setSrc
  repeat' first
    | (with_reducible first | assumption)
    | split
    | (with_reducible apply Canon.ofMk; with_reducible refine Canon.parts ?_)

theorem Canon.setCfg {s : State} (h : Canon z s) (g : Cfg) : Canon z (State.setCfg s g) := by
  unfold State.setCfg
  repeat' first
    | (with_reducible first | assumption)
    | split
    | (with_reducible apply Canon.ofMk; with_reducible refine Canon.parts ?_)

theorem Canon.claimPages {s : State} (h : Canon z s) (mask pages : Nat) :
    CanonP z (State.claimPages s mask pages) := by
  unfold State.claimPages
  repeat' first
    | (with_reducible first | assumption | apply Canon.ite | apply CanonP.ite
                            | refine Canon.upTo _ ?_ (fun _ _ _ => ?_) | apply Canon.setFld)
    | split
    | with_reducible refine CanonP.mk ?_ _
    | (with_reducible apply Canon.ofMk; with_reducible refine Canon.parts ?_)
    | dsimp only

theorem Canon.returnPages {s : State} (h : Canon z s) (ps : List Page) : Canon z (State.returnPages s ps) := by
  unfold State.returnPages
  repeat' first
    | (with_reducible first | assumption | refine Canon.upTo _ ?_ (fun _ _ _ => ?_) | apply Canon.setFld)
    | split
    | (with_reducible apply Canon.ofMk; with_reducible refine Canon.parts ?_)
    | dsimp only

theorem Canon.addReserved {s : State} (h : Canon z s) (mask pages : Nat) :
    Canon z (State.addReserved s mask pages) := by
  unfold State.addReserved
  repeat' first
    | (with_reducible first | assumption | refine Canon.upTo _ ?_ (fun _ _ _ => ?_) | apply Canon.setFld)
    | split
    | (with_reducible apply Canon.ofMk; with_reducible refine Canon.parts ?_)

theorem Canon.subReserved {s : State} (h : Canon z s) (mask pages : Nat) :
    Canon z (State.subReserved s mask pages) := by
  unfold State.subReserved
  repeat' first
    | (with_reducible first | assumption | refine Canon.upTo _ ?_ (fun _ _ _ => ?_) | apply Canon.setFld)
    | split
    | (with_reducible apply Canon.ofMk; with_reducible refine Canon.parts ?_)

theorem Canon.reservePages {s : State} (h : Canon z s) (mask pages : Nat) :
    Canon z (State.reservePages s mask pages) := by
  unfold State.reservePages
  repeat' first
    | (with_reducible first | assumption | apply Canon.claimPages | apply Canon.addReserved | apply CanonP.fst
                            | refine CanonP.of (by with_reducible assumption) ?_)
    | split
    | (with_reducible apply Canon.ofMk; with_reducible refine Canon.parts ?_)
    | dsimp only

theorem Canon.usePages {s : State} (h : Canon z s) (mask pages : Nat) : CanonP z (State.usePages s mask pages) := by
  unfold State.usePages
  repeat' first
    | (with_reducible first | assumption | apply Canon.subReserved)
    | split
    | with_reducible refine CanonP.mk ?_ _
    | (with_reducible apply Canon.ofMk; with_reducible refine Canon.parts ?_)
    | dsimp only

theorem Canon.unreservePages {s : State} (h : Canon z s) (mask pages : Nat) :
    Canon z (State.unreservePages s mask pages) := by
  unfold State.unreservePages
  repeat' first
    | (with_reducible first | assumption | apply Canon.usePages | apply Canon.returnPages | apply CanonP.fst
                            | refine CanonP.of (by with_reducible assumption) ?_)
    | split
    | (with_reducible apply Canon.ofMk; with_reducible refine Canon.parts ?_)
    | dsimp only

theorem Canon.setHoldBytes {s : State} (h : Canon z s) (n : Nat) : Canon z (State.setHoldBytes s n) := by
  unfold State.setHoldBytes
  repeat' first
    | (with_reducible first | assumption | apply Canon.ite | apply Canon.claimPages | apply Canon.returnPages
                            | apply CanonP.fst | refine CanonP.of (by with_reducible assumption) ?_)
    | split
    | (with_reducible apply Canon.ofMk; with_reducible refine Canon.parts ?_)
    | dsimp only

theorem Canon.setReader {s : State} (h : Canon z s) (r : Nat) (x : ReaderRun) :
    Canon z (State.setReader s r x) := by
  unfold State.setReader
  repeat' first
    | (with_reducible first | assumption)
    | split
    | (with_reducible apply Canon.ofMk; with_reducible refine Canon.parts ?_)

theorem Canon.updSlot {s : State} (h : Canon z s) (x : SlotRef) (f : Slot → Slot) :
    Canon z (State.updSlot s x f) := by
  unfold State.updSlot
  repeat' first
    | (with_reducible first | assumption | apply Canon.ite | apply Canon.setSrc)
    | split
    | (with_reducible apply Canon.ofMk; with_reducible refine Canon.parts ?_)
    | dsimp only

theorem Canon.sweepRings {s : State} (h : Canon z s) (n : Nat) : Canon z (State.sweepRings s n) := by
  unfold State.sweepRings
  repeat' first
    | (with_reducible first | assumption | apply Canon.ite | apply Canon.returnPages | apply Canon.setSrc)
    | split
    | (with_reducible apply Canon.ofMk; with_reducible refine Canon.parts ?_)
    | dsimp only

theorem Canon.settleErrors {s : State} (h : Canon z s) : Canon z (State.settleErrors s) := by
  unfold State.settleErrors
  repeat' first
    | (with_reducible first | assumption | apply Canon.ite | refine Canon.each _ ?_ (fun _ _ _ => ?_)
                            | apply Canon.updSlot)
    | split
    | (with_reducible apply Canon.ofMk; with_reducible refine Canon.parts ?_)
    | dsimp only

theorem Canon.bindChase {s : State} (h : Canon z s) (n : Nat) (ref : SlotRef) :
    Canon z (State.bindChase s n ref) := by
  unfold State.bindChase
  repeat' first
    | (with_reducible first | assumption | apply Canon.ite)
    | split
    | (with_reducible apply Canon.ofMk; with_reducible refine Canon.parts ?_)

theorem Canon.closeSlot {s : State} (h : Canon z s) (x : SlotRef) : Canon z (State.closeSlot s x) := by
  unfold State.closeSlot
  repeat' first
    | (with_reducible first | assumption | apply Canon.ite | refine Canon.when _ ?_ (fun _ _ => ?_)
                            | apply Canon.updSlot | apply Canon.addFld | apply Canon.ownDigest
                            | apply Canon.copyThumbs | apply Canon.sweepRings)
    | split
    | (with_reducible apply Canon.ofMk; with_reducible refine Canon.parts ?_)
    | dsimp only

theorem Canon.dropFrame {s : State} (h : Canon z s) (n seq : Nat) : Canon z (State.dropFrame s n seq) := by
  unfold State.dropFrame
  repeat' first
    | (with_reducible first | assumption | refine Canon.when _ ?_ (fun _ _ => ?_) | apply Canon.addFld
                            | apply Canon.setFld | apply Canon.setSrc | apply Canon.raise)
    | split
    | (with_reducible apply Canon.ofMk; with_reducible refine Canon.parts ?_)
    | dsimp only

theorem Canon.openSlot {s : State} (h : Canon z s) (n t : Nat) : Canon z (State.openSlot s n t) := by
  unfold State.openSlot
  repeat' first
    | (with_reducible first | assumption | apply Canon.ite | refine Canon.when _ ?_ (fun _ _ => ?_)
                            | apply Canon.updSlot | apply Canon.closeSlot | apply Canon.setFld | apply Canon.dropFrame
                            | apply Canon.setSrc | apply Canon.bindChase)
    | split
    | (with_reducible apply Canon.ofMk; with_reducible refine Canon.parts ?_)
    | dsimp only

theorem Canon.placeRing {s : State} (h : Canon z s) (n : Nat) (sh : RingShape) (pages : Nat) :
    CanonP z (State.placeRing s n sh pages) := by
  unfold State.placeRing
  repeat' first
    | (with_reducible first | assumption | apply Canon.ite | apply CanonP.ite | apply Canon.usePages
                            | apply Canon.unreservePages | apply Canon.claimPages | apply CanonP.fst
                            | refine CanonP.of (by with_reducible assumption) ?_)
    | split
    | with_reducible refine CanonP.mk ?_ _
    | (with_reducible apply Canon.ofMk; with_reducible refine Canon.parts ?_)
    | dsimp only

theorem Canon.applyAlloc {s : State} (h : Canon z s) (n : Nat) (sh : RingShape) (pages : Nat) :
    Canon z (State.applyAlloc s n sh pages) := by
  unfold State.applyAlloc
  repeat' first
    | (with_reducible first | assumption | apply Canon.ite | refine Canon.when _ ?_ (fun _ _ => ?_)
                            | apply Canon.setCfg | apply Canon.setRing | apply Canon.setSrc | apply Canon.setFld
                            | apply Canon.sweepRings | apply Canon.unreservePages | apply Canon.placeRing
                            | apply CanonP.fst | refine CanonP.of (by with_reducible assumption) ?_)
    | split
    | (with_reducible apply Canon.ofMk; with_reducible refine Canon.parts ?_)
    | dsimp only

theorem Canon.placeSource {s : State} (h : Canon z s) (n : Nat) : Canon z (State.placeSource s n) := by
  unfold State.placeSource
  repeat' first
    | (with_reducible first | assumption | apply Canon.ite | apply Canon.setSrc)
    | split
    | (with_reducible apply Canon.ofMk; with_reducible refine Canon.parts ?_)

end Sys2Proof.Machine
end

