-- ==== Sys2Proof/Laws/CanonTakes.lean ====
section
/-! SUPPORT. The operations of Machine/Takes.lean keep the canonical form of a state. -/

namespace Sys2Proof.Machine
open Reg

variable {z : State}

theorem Canon.setDstRun {s : State} (h : Canon z s) (d : Nat) (x : DstRun) : Canon z (State.setDstRun s d x) := by
  unfold State.setDstRun
  repeat' first
    | (with_reducible first | assumption)
    | split
    | (with_reducible apply Canon.ofMk; with_reducible refine Canon.parts ?_)

theorem Canon.setCmpRun {s : State} (h : Canon z s) (c : Nat) (x : CmpRun) : Canon z (State.setCmpRun s c x) := by
  unfold State.setCmpRun
  repeat' first
    | (with_reducible first | assumption)
    | split
    | (with_reducible apply Canon.ofMk; with_reducible refine Canon.parts ?_)

theorem Canon.setTakes {s : State} (h : Canon z s) (ks : List Take) : Canon z (State.setTakes s ks) := by
  unfold State.setTakes
  repeat' first
    | (with_reducible first | assumption)
    | split
    | (with_reducible apply Canon.ofMk; with_reducible refine Canon.parts ?_)

theorem Canon.updTake {s : State} (h : Canon z s) (k : Take) (f : Take → Take) : Canon z (State.updTake s k f) := by
  unfold State.updTake
  repeat' first
    | (with_reducible first | assumption | apply Canon.ite | apply Canon.setTakes)
    | split
    | (with_reducible apply Canon.ofMk; with_reducible refine Canon.parts ?_)

theorem Canon.removeTake {s : State} (h : Canon z s) (k : Take) : Canon z (State.removeTake s k) := by
  unfold State.removeTake
  repeat' first
    | (with_reducible first | assumption | apply Canon.setTakes)
    | split
    | (with_reducible apply Canon.ofMk; with_reducible refine Canon.parts ?_)

theorem Canon.setBank {s : State} (h : Canon z s) (p : Nat) (b : Bank) : Canon z (State.setBank s p b) := by
  unfold State.setBank
  repeat' first
    | (with_reducible first | assumption)
    | split
    | (with_reducible apply Canon.ofMk; with_reducible refine Canon.parts ?_)

theorem Canon.takeSeq {s : State} (h : Canon z s) : Canon z (State.takeSeq s) := by
  unfold State.takeSeq
  repeat' first
    | (with_reducible first | assumption)
    | split
    | (with_reducible apply Canon.ofMk; with_reducible refine Canon.parts ?_)

theorem Canon.reserve {s : State} (h : Canon z s) (ch : Change) : CanonO z (State.reserve s ch) := by
  unfold State.reserve
  repeat' first
    | (with_reducible first | assumption | apply Canon.ite | apply CanonO.ite | exact CanonO.none | apply CanonO.some
                            | apply Canon.reservePages | apply Canon.setHoldBytes)
    | split
    | (with_reducible apply Canon.ofMk; with_reducible refine Canon.parts ?_)
    | dsimp only

theorem Canon.reserveAll {s : State} (h : Canon z s) (cs : List Change) : CanonO z (State.reserveAll s cs) := by
  unfold State.reserveAll
  have key : ∀ (l : List Change) (o : Option State), CanonO z o →
      CanonO z (l.foldl (fun acc c => acc.bind (fun s => s.reserve c)) o) := by
    intro l
    induction l with
    | nil => exact fun _ h => h
    | cons c l ih =>
      intro o ho
      refine ih _ ?_
      cases o with
      | none => exact CanonO.none
      | some x => exact Canon.reserve (ho x rfl) c
  exact key cs _ (CanonO.some h)

theorem Canon.unreserve {s : State} (h : Canon z s) (ch : Change) : Canon z (State.unreserve s ch) := by
  unfold State.unreserve
  repeat' first
    | (with_reducible first | assumption | apply Canon.unreservePages | apply Canon.setHoldBytes)
    | split
    | (with_reducible apply Canon.ofMk; with_reducible refine Canon.parts ?_)

theorem Canon.discardTake {s : State} (h : Canon z s) (k : Take) : Canon z (State.discardTake s k) := by
  unfold State.discardTake
  repeat' first
    | (with_reducible first | assumption | refine Canon.each _ ?_ (fun _ _ _ => ?_)
                            | refine Canon.when _ ?_ (fun _ _ => ?_) | apply Canon.unreserve | apply Canon.removeTake)
    | split
    | (with_reducible apply Canon.ofMk; with_reducible refine Canon.parts ?_)
    | dsimp only

theorem Canon.failGroup {s : State} (h : Canon z s) (r : Request) : Canon z (State.failGroup s r) := by
  unfold State.failGroup
  repeat' first
    | (with_reducible first | assumption | apply Canon.ite | apply Canon.updTake)
    | split
    | (with_reducible apply Canon.ofMk; with_reducible refine Canon.parts ?_)

theorem Canon.discardBank {s : State} (h : Canon z s) (p : Nat) : Canon z (State.discardBank s p) := by
  unfold State.discardBank
  repeat' first
    | (with_reducible first | assumption | refine Canon.each _ ?_ (fun _ _ _ => ?_) | apply Canon.unreserve
                            | apply Canon.setBank | apply Canon.setFld)
    | split
    | (with_reducible apply Canon.ofMk; with_reducible refine Canon.parts ?_)
    | dsimp only

theorem Canon.abortPart {s : State} (h : Canon z s) (p : Nat) : Canon z (State.abortPart s p) := by
  unfold State.abortPart
  repeat' first
    | (with_reducible first | assumption | apply Canon.ite | refine Canon.each _ ?_ (fun _ _ _ => ?_)
                            | apply Canon.discardTake | apply Canon.discardBank)
    | split
    | (with_reducible apply Canon.ofMk; with_reducible refine Canon.parts ?_)
    | dsimp only

theorem Canon.sendGroupEnd {s : State} (h : Canon z s) (k : Take) : Canon z (State.sendGroupEnd s k) := by
  unfold State.sendGroupEnd
  repeat' first
    | (with_reducible first | assumption | refine Canon.when _ ?_ (fun _ _ => ?_) | apply Canon.send)
    | split
    | (with_reducible apply Canon.ofMk; with_reducible refine Canon.parts ?_)

theorem Canon.refuseTake {s : State} (h : Canon z s) (k : Take) (reason what : Nat) :
    Canon z (State.refuseTake s k reason what) := by
  unfold State.refuseTake
  repeat' first
    | (with_reducible first | assumption | apply Canon.ite | apply Canon.discardTake | apply Canon.addFld
                            | apply Canon.raise)
    | split
    | (with_reducible apply Canon.ofMk; with_reducible refine Canon.parts ?_)
    | dsimp only

theorem Canon.queueCopy {s : State} (h : Canon z s) (k : Take) : Canon z (State.queueCopy s k) := by
  unfold State.queueCopy
  repeat' first
    | (with_reducible first | assumption | apply Canon.ite | apply Canon.updTake)
    | split
    | (with_reducible apply Canon.ofMk; with_reducible refine Canon.parts ?_)
    | dsimp only

theorem Canon.sealTake {s : State} (h : Canon z s) (k : Take) : Canon z (State.sealTake s k) := by
  unfold State.sealTake
  repeat' first
    | (with_reducible first | assumption | refine Canon.when _ ?_ (fun _ _ => ?_) | apply Canon.send
                            | apply Canon.refuseTake | apply Canon.queueCopy | apply Canon.updTake)
    | split
    | (with_reducible apply Canon.ofMk; with_reducible refine Canon.parts ?_)
    | dsimp only

theorem Canon.sendDecision {s : State} (h : Canon z s) (k : Take) (apply : Bool) :
    Canon z (State.sendDecision s k apply) := by
  unfold State.sendDecision
  repeat' first
    | (with_reducible first | assumption | refine Canon.when _ ?_ (fun _ _ => ?_) | apply Canon.send)
    | split
    | (with_reducible apply Canon.ofMk; with_reducible refine Canon.parts ?_)

theorem Canon.deferTake {s : State} (h : Canon z s) (k : Take) (cause : Nat) :
    Canon z (State.deferTake s k cause) := by
  unfold State.deferTake
  repeat' first
    | (with_reducible first | assumption | apply Canon.ite | apply Canon.refuseTake | apply Canon.on_step
                            | apply Canon.updTake | apply Canon.sendDecision | apply Canon.addFld | apply Canon.raise)
    | split
    | (with_reducible apply Canon.ofMk; with_reducible refine Canon.parts ?_)
    | dsimp only

theorem Canon.decideTake {s : State} (h : Canon z s) (k : Take) (copied : Bool) :
    Canon z (State.decideTake s k copied) := by
  unfold State.decideTake
  repeat' first
    | (with_reducible first | assumption | apply Canon.deferTake | apply Canon.decided | apply Canon.updTake
                            | apply Canon.sendDecision)
    | split
    | (with_reducible apply Canon.ofMk; with_reducible refine Canon.parts ?_)
    | dsimp only

end Sys2Proof.Machine
end

