-- ==== Sys2Proof/Laws/CanonAudioPool.lean ====
section
/-! SUPPORT. The operations of Machine/AudioPool.lean keep the canonical form of a state. -/

namespace Sys2Proof.Machine
open Reg

variable {z : State}

theorem Canon.setChanIn {s : State} (h : Canon z s) (ch : Nat) (x : ChanIn) : Canon z (State.setChanIn s ch x) := by
  unfold State.setChanIn
  repeat' first
    | (with_reducible first | assumption)
    | split
    | (with_reducible apply Canon.ofMk; with_reducible refine Canon.parts ?_)

theorem Canon.setChanOut {s : State} (h : Canon z s) (o : Nat) (x : ChanOut) :
    Canon z (State.setChanOut s o x) := by
  unfold State.setChanOut
  repeat' first
    | (with_reducible first | assumption)
    | split
    | (with_reducible apply Canon.ofMk; with_reducible refine Canon.parts ?_)

theorem Canon.setAudSrc {s : State} (h : Canon z s) (n : Nat) (x : AudSrc) : Canon z (State.setAudSrc s n x) := by
  unfold State.setAudSrc
  repeat' first
    | (with_reducible first | assumption)
    | split
    | (with_reducible apply Canon.ofMk; with_reducible refine Canon.parts ?_)

theorem Canon.setAudGroup {s : State} (h : Canon z s) (g : Nat) (x : AudGroup) :
    Canon z (State.setAudGroup s g x) := by
  unfold State.setAudGroup
  repeat' first
    | (with_reducible first | assumption)
    | split
    | (with_reducible apply Canon.ofMk; with_reducible refine Canon.parts ?_)

theorem Canon.writeFifo {s : State} (h : Canon z s) (n feed ch : Nat) (x : Sample) :
    Canon z (State.writeFifo s n feed ch x) := by
  unfold State.writeFifo
  repeat' first
    | (with_reducible first | assumption | apply Canon.ite | apply Canon.setChanIn)
    | split
    | (with_reducible apply Canon.ofMk; with_reducible refine Canon.parts ?_)
    | dsimp only

theorem Canon.writeFlowSample {s : State} (h : Canon z s) (n ch span r : Nat) (x : Sample) :
    Canon z (State.writeFlowSample s n ch span r x) := by
  unfold State.writeFlowSample
  repeat' first
    | (with_reducible first | assumption | apply Canon.ite | apply Canon.writeFifo | apply Canon.setChanIn)
    | split
    | (with_reducible apply Canon.ofMk; with_reducible refine Canon.parts ?_)
    | dsimp only

theorem Canon.underrun {s : State} (h : Canon z s) (ch : Nat) : Canon z (State.underrun s ch) := by
  unfold State.underrun
  repeat' first
    | (with_reducible first | assumption | apply Canon.ite | apply Canon.setChanIn | apply Canon.under
                            | apply Canon.addFld | apply Canon.setAudSrc | apply Canon.raise)
    | split
    | (with_reducible apply Canon.ofMk; with_reducible refine Canon.parts ?_)
    | dsimp only

theorem Canon.reenter {s : State} (h : Canon z s) (ch : Nat) : Canon z (State.reenter s ch) := by
  unfold State.reenter
  repeat' first
    | (with_reducible first | assumption | apply Canon.setChanIn | apply Canon.under)
    | split
    | (with_reducible apply Canon.ofMk; with_reducible refine Canon.parts ?_)

theorem Canon.switchAsrc {s : State} (h : Canon z s) (n : Nat) : Canon z (State.switchAsrc s n) := by
  unfold State.switchAsrc
  repeat' first
    | (with_reducible first | assumption | apply Canon.ite | refine Canon.each _ ?_ (fun _ _ _ => ?_)
                            | refine Canon.when _ ?_ (fun _ _ => ?_) | apply Canon.setFld | apply Canon.setChanIn)
    | split
    | (with_reducible apply Canon.ofMk; with_reducible refine Canon.parts ?_)
    | dsimp only

theorem Canon.trySwitch {s : State} (h : Canon z s) (n : Nat) : CanonP z (State.trySwitch s n) := by
  unfold State.trySwitch
  repeat' first
    | (with_reducible first | assumption | apply Canon.ite | apply CanonP.ite
                            | refine Canon.each _ ?_ (fun _ _ _ => ?_) | apply Canon.switchAsrc | apply Canon.raise)
    | split
    | with_reducible refine CanonP.mk ?_ _
    | (with_reducible apply Canon.ofMk; with_reducible refine Canon.parts ?_)
    | dsimp only

theorem Canon.countSlip {s : State} (h : Canon z s) (n : Nat) (group : Option Nat) (forward : Bool) :
    Canon z (State.countSlip s n group forward) := by
  unfold State.countSlip
  repeat' first
    | (with_reducible first | assumption | apply Canon.ite | apply Canon.addFld | apply Canon.setAudSrc
                            | apply Canon.raise)
    | split
    | (with_reducible apply Canon.ofMk; with_reducible refine Canon.parts ?_)
    | dsimp only

theorem Canon.doSlip {s : State} (h : Canon z s) (ch : Nat) (forward : Bool) :
    Canon z (State.doSlip s ch forward) := by
  unfold State.doSlip
  repeat' first
    | (with_reducible first | assumption | apply Canon.ite | refine Canon.each _ ?_ (fun _ _ _ => ?_)
                            | apply Canon.trySwitch | apply Canon.setChanIn | apply Canon.addFld
                            | apply Canon.countSlip | apply CanonP.fst
                            | refine CanonP.of (by with_reducible assumption) ?_)
    | split
    | (with_reducible apply Canon.ofMk; with_reducible refine Canon.parts ?_)
    | dsimp only

theorem Canon.lateLock {s : State} (h : Canon z s) (ch : Nat) : Canon z (State.lateLock s ch) := by
  unfold State.lateLock
  repeat' first
    | (with_reducible first | assumption | refine Canon.when _ ?_ (fun _ _ => ?_) | apply Canon.setChanIn)
    | split
    | (with_reducible apply Canon.ofMk; with_reducible refine Canon.parts ?_)
    | dsimp only

theorem Canon.decided {s : State} (h : Canon z s) (d : AudDec) : Canon z (State.decided s d) := by
  unfold State.decided
  repeat' first
    | (with_reducible first | assumption | refine Canon.when _ ?_ (fun _ _ => ?_) | apply Canon.send)
    | split
    | (with_reducible apply Canon.ofMk; with_reducible refine Canon.parts ?_)
    | dsimp only

theorem Canon.decideChan {s : State} (h : Canon z s) (k ch : Nat) : Canon z (State.decideChan s k ch) := by
  unfold State.decideChan
  repeat' first
    | (with_reducible first | assumption | apply Canon.ite | apply Canon.lateLock | apply Canon.decided
                            | apply Canon.underrun | apply Canon.reenter | apply Canon.setChanIn | apply Canon.doSlip)
    | split
    | (with_reducible apply Canon.ofMk; with_reducible refine Canon.parts ?_)
    | dsimp only

theorem Canon.reenterFlows {s : State} (h : Canon z s) (k : Nat) : Canon z (State.reenterFlows s k) := by
  unfold State.reenterFlows
  repeat' first
    | (with_reducible first | assumption | refine Canon.each _ ?_ (fun _ _ _ => ?_)
                            | refine Canon.when _ ?_ (fun _ _ => ?_) | apply Canon.reenter | apply Canon.decided)
    | split
    | (with_reducible apply Canon.ofMk; with_reducible refine Canon.parts ?_)
    | dsimp only

theorem Canon.countDeadline {s : State} (h : Canon z s) (k ch : Nat) : Canon z (State.countDeadline s k ch) := by
  unfold State.countDeadline
  repeat' first
    | (with_reducible first | assumption | apply Canon.ite | apply Canon.setChanIn)
    | split
    | (with_reducible apply Canon.ofMk; with_reducible refine Canon.parts ?_)
    | dsimp only

theorem Canon.inputTick {s : State} (h : Canon z s) (k : Nat) : Canon z (State.inputTick s k) := by
  unfold State.inputTick
  repeat' first
    | (with_reducible first | assumption | apply Canon.ite | refine CanonP.foldl _ ?_ (fun _ _ _ => ?_)
                            | exact CanonP.fst (by with_reducible assumption)
                            | refine Canon.foldl _ ?_ (fun _ _ _ => ?_) | apply Canon.decideChan
                            | apply Canon.countDeadline | apply Canon.setChanIn | apply CanonP.fst
                            | refine CanonP.of (by with_reducible assumption) ?_)
    | split
    | with_reducible refine CanonP.mk ?_ _
    | (with_reducible apply Canon.ofMk; with_reducible refine Canon.parts ?_)
    | dsimp only

end Sys2Proof.Machine
end

