-- ==== Sys2Proof/Laws/CanonAudioOut.lean ====
section
/-! SUPPORT. The operations of Machine/AudioOut.lean keep the canonical form of a state. -/

namespace Sys2Proof.Machine
open Reg

variable {z : State}

theorem Canon.outputTick {s : State} (h : Canon z s) (k : Nat) : Canon z (State.outputTick s k) := by
  unfold State.outputTick
  repeat' first
    | (with_reducible first | assumption | refine CanonP.foldl _ ?_ (fun _ _ _ => ?_)
                            | exact CanonP.fst (by with_reducible assumption)
                            | refine Canon.foldl _ ?_ (fun _ _ _ => ?_) | apply Canon.setAudGroup
                            | apply Canon.setChanOut | apply CanonP.fst
                            | refine CanonP.of (by with_reducible assumption) ?_)
    | split
    | with_reducible refine CanonP.mk ?_ _
    | (with_reducible apply Canon.ofMk; with_reducible refine Canon.parts ?_)
    | dsimp only

theorem Canon.changeChan {s : State} (h : Canon z s) (o changes : Nat) (f : ChanOut → ChanOut) :
    Canon z (State.changeChan s o changes f) := by
  unfold State.changeChan
  repeat' first
    | (with_reducible first | assumption | apply Canon.setChanOut | apply Canon.setAudGroup)
    | split
    | (with_reducible apply Canon.ofMk; with_reducible refine Canon.parts ?_)
    | dsimp only

theorem Canon.sendAudioDigests {s : State} (h : Canon z s) (block : Nat) :
    Canon z (State.sendAudioDigests s block) := by
  unfold State.sendAudioDigests
  repeat' first
    | (with_reducible first | assumption | refine Canon.each _ ?_ (fun _ _ _ => ?_)
                            | refine Canon.when _ ?_ (fun _ _ => ?_) | apply Canon.ownDigest | apply Canon.setAudGroup)
    | split
    | (with_reducible apply Canon.ofMk; with_reducible refine Canon.parts ?_)
    | dsimp only

theorem Canon.setEmb {s : State} (h : Canon z s) (d : Nat) (x : EmbRun) : Canon z (State.setEmb s d x) := by
  unfold State.setEmb
  repeat' first
    | (with_reducible first | assumption)
    | split
    | (with_reducible apply Canon.ofMk; with_reducible refine Canon.parts ?_)

theorem Canon.embFrame {s : State} (h : Canon z s) (d k : Nat) : Canon z (State.embFrame s d k) := by
  unfold State.embFrame
  repeat' first
    | (with_reducible first | assumption | apply Canon.ite | refine Canon.when _ ?_ (fun _ _ => ?_)
                            | apply Canon.setEmb | apply Canon.setFld | apply Canon.raise)
    | split
    | (with_reducible apply Canon.ofMk; with_reducible refine Canon.parts ?_)
    | dsimp only

theorem Canon.embTick {s : State} (h : Canon z s) (d k : Nat) : Canon z (State.embTick s d k) := by
  unfold State.embTick
  repeat' first
    | (with_reducible first | assumption | apply Canon.ite | apply Canon.setEmb)
    | split
    | (with_reducible apply Canon.ofMk; with_reducible refine Canon.parts ?_)
    | dsimp only

theorem Canon.embLine {s : State} (h : Canon z s) (d line : Nat) : Canon z (State.embLine s d line) := by
  unfold State.embLine
  repeat' first
    | (with_reducible first | assumption | apply Canon.ite | refine Canon.each _ ?_ (fun _ _ _ => ?_)
                            | refine Canon.when _ ?_ (fun _ _ => ?_) | apply Canon.setEmb | apply Canon.emit)
    | split
    | (with_reducible apply Canon.ofMk; with_reducible refine Canon.parts ?_)
    | dsimp only

theorem Canon.embedTick {s : State} (h : Canon z s) (k : Nat) : Canon z (State.embedTick s k) := by
  unfold State.embedTick
  repeat' first
    | (with_reducible first | assumption | refine Canon.each _ ?_ (fun _ _ _ => ?_)
                            | refine Canon.when _ ?_ (fun _ _ => ?_) | apply Canon.embTick)
    | split
    | (with_reducible apply Canon.ofMk; with_reducible refine Canon.parts ?_)

end Sys2Proof.Machine
end

