-- ==== Sys2Proof/Laws/CanonAes.lean ====
section
/-! SUPPORT. The operations of Machine/Aes.lean keep the canonical form of a state. -/

namespace Sys2Proof.Machine
open Reg

variable {z : State}

theorem Canon.setAesIn {s : State} (h : Canon z s) (i : Nat) (x : AesIn) : Canon z (State.setAesIn s i x) := by
  unfold State.setAesIn
  repeat' first
    | (with_reducible first | assumption)
    | split
    | (with_reducible apply Canon.ofMk; with_reducible refine Canon.parts ?_)

theorem Canon.setAesOut {s : State} (h : Canon z s) (o : Nat) (x : AesOut) : Canon z (State.setAesOut s o x) := by
  unfold State.setAesOut
  repeat' first
    | (with_reducible first | assumption)
    | split
    | (with_reducible apply Canon.ofMk; with_reducible refine Canon.parts ?_)

theorem Canon.unlockAes {s : State} (h : Canon z s) (i : Nat) : Canon z (State.unlockAes s i) := by
  unfold State.unlockAes
  repeat' first
    | (with_reducible first | assumption | apply Canon.setAesIn)
    | split
    | (with_reducible apply Canon.ofMk; with_reducible refine Canon.parts ?_)

theorem Canon.setAesLock {s : State} (h : Canon z s) (i : Nat) (locked : Bool) :
    Canon z (State.setAesLock s i locked) := by
  unfold State.setAesLock
  repeat' first
    | (with_reducible first | assumption | refine Canon.each _ ?_ (fun _ _ _ => ?_)
                            | refine Canon.when _ ?_ (fun _ _ => ?_) | apply Canon.unlockAes | apply Canon.setChanIn)
    | split
    | (with_reducible apply Canon.ofMk; with_reducible refine Canon.parts ?_)
    | dsimp only

theorem Canon.muteAes {s : State} (h : Canon z s) (i : Nat) : Canon z (State.muteAes s i) := by
  unfold State.muteAes
  repeat' first
    | (with_reducible first | assumption | apply Canon.ite | refine Canon.each _ ?_ (fun _ _ _ => ?_)
                            | apply Canon.unlockAes | apply Canon.setChanIn)
    | split
    | (with_reducible apply Canon.ofMk; with_reducible refine Canon.parts ?_)
    | dsimp only

theorem Canon.aesRateChange {s : State} (h : Canon z s) (i new : Nat) : Canon z (State.aesRateChange s i new) := by
  unfold State.aesRateChange
  repeat' first
    | (with_reducible first | assumption | apply Canon.setAesIn | apply Canon.setAesLock | apply Canon.setFld
                            | apply Canon.raise)
    | split
    | (with_reducible apply Canon.ofMk; with_reducible refine Canon.parts ?_)
    | dsimp only

theorem Canon.aesInterval {s : State} (h : Canon z s) (i rate : Nat) : Canon z (State.aesInterval s i rate) := by
  unfold State.aesInterval
  repeat' first
    | (with_reducible first | assumption | apply Canon.ite | apply Canon.setFld | apply Canon.muteAes
                            | apply Canon.raise | apply Canon.aesRateChange | apply Canon.setAesIn)
    | split
    | (with_reducible apply Canon.ofMk; with_reducible refine Canon.parts ?_)
    | dsimp only

theorem Canon.aesBlockError {s : State} (h : Canon z s) (i : Nat) : Canon z (State.aesBlockError s i) := by
  unfold State.aesBlockError
  repeat' first
    | (with_reducible first | assumption | apply Canon.ite | apply Canon.addFld | apply Canon.setFld
                            | apply Canon.aesRateChange)
    | split
    | (with_reducible apply Canon.ofMk; with_reducible refine Canon.parts ?_)
    | dsimp only

theorem Canon.darsEdge {s : State} (h : Canon z s) (i : Nat) : Canon z (State.darsEdge s i) := by
  unfold State.darsEdge
  repeat' first
    | (with_reducible first | assumption | refine Canon.when _ ?_ (fun _ _ => ?_) | apply Canon.audioEdge)
    | split
    | (with_reducible apply Canon.ofMk; with_reducible refine Canon.parts ?_)

theorem Canon.on_execZPreamble {s : State} (h : Canon z s) (i : Fin 64) : CanonX z (execZPreamble i s) := by
  unfold execZPreamble
  repeat' first
    | (with_reducible first | assumption | apply Canon.ite | apply CanonX.ite | apply CanonX.next
                            | apply Canon.setAesIn | apply Canon.darsEdge | apply Canon.aesInterval
                            | apply Canon.aesBlockError)
    | split
    | (with_reducible apply Canon.ofMk; with_reducible refine Canon.parts ?_)
    | dsimp only

theorem Canon.countAesErrors {s : State} (h : Canon z s) (i : Nat) (f : AesFrame) :
    Canon z (State.countAesErrors s i f) := by
  unfold State.countAesErrors
  repeat' first
    | (with_reducible first | assumption | apply Canon.ite | apply Canon.addFld)
    | split
    | (with_reducible apply Canon.ofMk; with_reducible refine Canon.parts ?_)

theorem Canon.aesSamples {s : State} (h : Canon z s) (i : Nat) : Canon z (State.aesSamples s i) := by
  unfold State.aesSamples
  repeat' first
    | (with_reducible first | assumption | apply Canon.ite | apply Canon.setAesIn | apply Canon.writeFifo)
    | split
    | (with_reducible apply Canon.ofMk; with_reducible refine Canon.parts ?_)
    | dsimp only

theorem Canon.amendV {s : State} (h : Canon z s) (i before : Nat) : Canon z (State.amendV s i before) := by
  unfold State.amendV
  repeat' first
    | (with_reducible first | assumption | apply Canon.ite)
    | split
    | (with_reducible apply Canon.ofMk; with_reducible refine Canon.parts ?_)
    | dsimp only

theorem Canon.on_execAesFrame {s : State} (h : Canon z s) (i : Fin 64) (f : AesFrame) :
    CanonX z (execAesFrame i f s) := by
  unfold execAesFrame
  repeat' first
    | (with_reducible first | assumption | apply Canon.ite | apply CanonX.ite | apply CanonX.next
                            | apply Canon.countAesErrors | apply Canon.setAesIn | apply Canon.amendV
                            | apply Canon.aesSamples | apply Canon.aesBlockError)
    | split
    | (with_reducible apply Canon.ofMk; with_reducible refine Canon.parts ?_)
    | dsimp only

theorem Canon.on_execAesLoss {s : State} (h : Canon z s) (i : Fin 64) : CanonX z (execAesLoss i s) := by
  unfold execAesLoss
  repeat' first
    | (with_reducible first | assumption | apply Canon.ite | apply CanonX.ite | apply CanonX.next
                            | refine Canon.when _ ?_ (fun _ _ => ?_) | apply Canon.setAesIn | apply Canon.setFld
                            | apply Canon.setAesLock | apply Canon.addFld | apply Canon.raise)
    | split
    | (with_reducible apply Canon.ofMk; with_reducible refine Canon.parts ?_)
    | dsimp only

theorem Canon.latchStatus {s : State} (h : Canon z s) (i : Nat) (bytes : List Nat) :
    Canon z (State.latchStatus s i bytes) := by
  unfold State.latchStatus
  repeat' first
    | (with_reducible first | assumption | apply Canon.ite | refine Canon.upTo _ ?_ (fun _ _ _ => ?_)
                            | refine Canon.when _ ?_ (fun _ _ => ?_) | apply Canon.setAesIn | apply Canon.setFld
                            | apply Canon.muteAes | apply Canon.raise)
    | split
    | (with_reducible apply Canon.ofMk; with_reducible refine Canon.parts ?_)
    | dsimp only

theorem Canon.on_execChannelStatusBlock {s : State} (h : Canon z s) (i : Fin 64) :
    CanonX z (execChannelStatusBlock i s) := by
  unfold execChannelStatusBlock
  repeat' first
    | (with_reducible first | assumption | apply Canon.ite | apply CanonX.ite | apply CanonX.next
                            | apply Canon.setAesIn | apply Canon.addFld | apply Canon.raise | apply Canon.latchStatus)
    | split
    | (with_reducible apply Canon.ofMk; with_reducible refine Canon.parts ?_)
    | dsimp only

theorem Canon.aesLock {s : State} (h : Canon z s) (i : Nat) : Canon z (State.aesLock s i) := by
  unfold State.aesLock
  repeat' first
    | (with_reducible first | assumption | apply Canon.ite | apply Canon.setAesIn | apply Canon.setAesLock
                            | apply Canon.setFld | apply Canon.raise)
    | split
    | (with_reducible apply Canon.ofMk; with_reducible refine Canon.parts ?_)
    | dsimp only

theorem Canon.aesLateLock {s : State} (h : Canon z s) (i : Nat) : Canon z (State.aesLateLock s i) := by
  unfold State.aesLateLock
  repeat' first
    | (with_reducible first | assumption | refine Canon.when _ ?_ (fun _ _ => ?_) | apply Canon.aesLock)
    | split
    | (with_reducible apply Canon.ofMk; with_reducible refine Canon.parts ?_)
    | dsimp only

theorem Canon.aesSides {s : State} (h : Canon z s) (k : Nat) : Canon z (State.aesSides s k) := by
  unfold State.aesSides
  repeat' first
    | (with_reducible first | assumption | refine Canon.each _ ?_ (fun _ _ _ => ?_)
                            | refine Canon.when _ ?_ (fun _ _ => ?_) | apply Canon.aesLateLock | apply Canon.setAesIn
                            | apply Canon.setChanIn)
    | split
    | (with_reducible apply Canon.ofMk; with_reducible refine Canon.parts ?_)
    | dsimp only

theorem Canon.aesSend {s : State} (h : Canon z s) (o k : Nat) : Canon z (State.aesSend s o k) := by
  unfold State.aesSend
  repeat' first
    | (with_reducible first | assumption | apply Canon.ite | refine Canon.when _ ?_ (fun _ _ => ?_)
                            | apply Canon.setAesOut | apply Canon.setFld | apply Canon.addFld | apply Canon.emit)
    | split
    | (with_reducible apply Canon.ofMk; with_reducible refine Canon.parts ?_)
    | dsimp only

theorem Canon.aesStage {s : State} (h : Canon z s) (o k : Nat) : Canon z (State.aesStage s o k) := by
  unfold State.aesStage
  repeat' first
    | (with_reducible first | assumption | apply Canon.ite | apply Canon.setAesOut | apply Canon.setFld)
    | split
    | (with_reducible apply Canon.ofMk; with_reducible refine Canon.parts ?_)
    | dsimp only

theorem Canon.aesTick {s : State} (h : Canon z s) (k : Nat) : Canon z (State.aesTick s k) := by
  unfold State.aesTick
  repeat' first
    | (with_reducible first | assumption | refine Canon.upTo _ ?_ (fun _ _ _ => ?_)
                            | refine Canon.when _ ?_ (fun _ _ => ?_) | apply Canon.aesStage | apply Canon.aesSend)
    | split
    | (with_reducible apply Canon.ofMk; with_reducible refine Canon.parts ?_)
    | dsimp only

end Sys2Proof.Machine
end

