-- ==== Sys2Proof/Laws/CanonAudioWrite.lean ====
section
/-! SUPPORT. The operations of Machine/AudioWrite.lean keep the canonical form of a state. -/

namespace Sys2Proof.Machine
open Reg

variable {z : State}

theorem Canon.putFld {s : State} (h : Canon z s) (f : Field) (v i j : Nat) : Canon z (State.putFld s f v i j) := by
  unfold State.putFld
  repeat' first
    | (with_reducible first | assumption | apply Canon.ite | apply Canon.setFld)
    | split
    | (with_reducible apply Canon.ofMk; with_reducible refine Canon.parts ?_)

theorem Canon.reclock {s : State} (h : Canon z s) (n : Nat) : Canon z (State.reclock s n) := by
  unfold State.reclock
  repeat' first
    | (with_reducible first | assumption | apply Canon.ite | refine Canon.each _ ?_ (fun _ _ _ => ?_)
                            | apply Canon.setChanIn)
    | split
    | (with_reducible apply Canon.ofMk; with_reducible refine Canon.parts ?_)
    | dsimp only

theorem Canon.writeAin {s : State} (h : Canon z s) (n v : Nat) : Canon z (State.writeAin s n v) := by
  unfold State.writeAin
  repeat' first
    | (with_reducible first | assumption | apply Canon.ite | apply Canon.setFld | apply Canon.reclock)
    | split
    | (with_reducible apply Canon.ofMk; with_reducible refine Canon.parts ?_)
    | dsimp only

theorem Canon.writeAgrp {s : State} (h : Canon z s) (g v : Nat) : Canon z (State.writeAgrp s g v) := by
  unfold State.writeAgrp
  repeat' first
    | (with_reducible first | assumption | apply Canon.ite | apply Canon.setFld)
    | split
    | (with_reducible apply Canon.ofMk; with_reducible refine Canon.parts ?_)
    | dsimp only

theorem Canon.writeEmb0 {s : State} (h : Canon z s) (d v : Nat) : Canon z (State.writeEmb0 s d v) := by
  unfold State.writeEmb0
  repeat' first
    | (with_reducible first | assumption | apply Canon.ite | apply Canon.setFld)
    | split
    | (with_reducible apply Canon.ofMk; with_reducible refine Canon.parts ?_)
    | dsimp only

theorem Canon.writeEmb4 {s : State} (h : Canon z s) (d v : Nat) : Canon z (State.writeEmb4 s d v) := by
  unfold State.writeEmb4
  repeat' first
    | (with_reducible first | assumption | apply Canon.ite | refine Canon.when _ ?_ (fun _ _ => ?_)
                            | apply Canon.setFld)
    | split
    | (with_reducible apply Canon.ofMk; with_reducible refine Canon.parts ?_)
    | dsimp only

theorem Canon.unbindAes {s : State} (h : Canon z s) (i : Nat) : Canon z (State.unbindAes s i) := by
  unfold State.unbindAes
  repeat' first
    | (with_reducible first | assumption | refine Canon.each _ ?_ (fun _ _ _ => ?_)
                            | refine Canon.when _ ?_ (fun _ _ => ?_) | apply Canon.setChanIn)
    | split
    | (with_reducible apply Canon.ofMk; with_reducible refine Canon.parts ?_)

theorem Canon.bindAes {s : State} (h : Canon z s) (w i n wofs : Nat) : Canon z (State.bindAes s w i n wofs) := by
  unfold State.bindAes
  repeat' first
    | (with_reducible first | assumption | apply Canon.ite | refine Canon.when _ ?_ (fun _ _ => ?_)
                            | apply Canon.setFld | apply Canon.unbindAes | apply Canon.setAesLock)
    | split
    | (with_reducible apply Canon.ofMk; with_reducible refine Canon.parts ?_)
    | dsimp only

theorem Canon.enableAesIn {s : State} (h : Canon z s) (i : Nat) (en : Bool) :
    Canon z (State.enableAesIn s i en) := by
  unfold State.enableAesIn
  repeat' first
    | (with_reducible first | assumption | apply Canon.ite | apply Canon.setFld | apply Canon.setAesIn
                            | apply Canon.setAesLock)
    | split
    | (with_reducible apply Canon.ofMk; with_reducible refine Canon.parts ?_)
    | dsimp only

theorem Canon.writeAesIn0 {s : State} (h : Canon z s) (w i v : Nat) : Canon z (State.writeAesIn0 s w i v) := by
  unfold State.writeAesIn0
  repeat' first
    | (with_reducible first | assumption | apply Canon.ite | apply Canon.setFld | apply Canon.bindAes
                            | apply Canon.enableAesIn)
    | split
    | (with_reducible apply Canon.ofMk; with_reducible refine Canon.parts ?_)
    | dsimp only

theorem Canon.writeAesIn4 {s : State} (h : Canon z s) (w i v : Nat) : Canon z (State.writeAesIn4 s w i v) := by
  unfold State.writeAesIn4
  repeat' first
    | (with_reducible first | assumption | apply Canon.bindAes)
    | split
    | (with_reducible apply Canon.ofMk; with_reducible refine Canon.parts ?_)

theorem Canon.writeAesOut0 {s : State} (h : Canon z s) (o v : Nat) : Canon z (State.writeAesOut0 s o v) := by
  unfold State.writeAesOut0
  repeat' first
    | (with_reducible first | assumption | apply Canon.ite | apply Canon.setFld)
    | split
    | (with_reducible apply Canon.ofMk; with_reducible refine Canon.parts ?_)
    | dsimp only

theorem Canon.writeOutCh {s : State} (h : Canon z s) (o v : Nat) : Canon z (State.writeOutCh s o v) := by
  unfold State.writeOutCh
  repeat' first
    | (with_reducible first | assumption | apply Canon.ite | apply Canon.setFld)
    | split
    | (with_reducible apply Canon.ofMk; with_reducible refine Canon.parts ?_)
    | dsimp only

end Sys2Proof.Machine
end

