-- ==== Sys2Proof/Laws/CanonAnc.lean ====
section
/-! SUPPORT. The operations of Machine/Anc.lean keep the canonical form of a state. -/

namespace Sys2Proof.Machine
open Reg

variable {z : State}

theorem Canon.setAncCycle {s : State} (h : Canon z s) (q : Nat) (x : AncCycle) :
    Canon z (State.setAncCycle s q x) := by
  unfold State.setAncCycle
  repeat' first
    | (with_reducible first | assumption)
    | split
    | (with_reducible apply Canon.ofMk; with_reducible refine Canon.parts ?_)

theorem Canon.ancTouch {s : State} (h : Canon z s) (q : Nat) : Canon z (State.ancTouch s q) := by
  unfold State.ancTouch
  repeat' first
    | (with_reducible first | assumption | apply Canon.setAncCycle)
    | split
    | (with_reducible apply Canon.ofMk; with_reducible refine Canon.parts ?_)

theorem Canon.ancPaused {s : State} (h : Canon z s) (q : Nat) : Canon z (State.ancPaused s q) := by
  unfold State.ancPaused
  repeat' first
    | (with_reducible first | assumption | apply Canon.setFld)
    | split
    | (with_reducible apply Canon.ofMk; with_reducible refine Canon.parts ?_)

theorem Canon.ancRefresh {s : State} (h : Canon z s) (q : Nat) : Canon z (State.ancRefresh s q) := by
  unfold State.ancRefresh
  repeat' first
    | (with_reducible first | assumption | apply Canon.setFld)
    | split
    | (with_reducible apply Canon.ofMk; with_reducible refine Canon.parts ?_)
    | dsimp only

theorem Canon.ancWatermarks {s : State} (h : Canon z s) (q : Nat) : Canon z (State.ancWatermarks s q) := by
  unfold State.ancWatermarks
  repeat' first
    | (with_reducible first | assumption | apply Canon.ite | apply Canon.setFld | apply Canon.raise
                            | apply Canon.ancPaused)
    | split
    | (with_reducible apply Canon.ofMk; with_reducible refine Canon.parts ?_)
    | dsimp only

theorem Canon.ancNextCycle {s : State} (h : Canon z s) : Canon z (State.ancNextCycle s) := by
  unfold State.ancNextCycle
  repeat' first
    | (with_reducible first | assumption | refine Canon.each _ ?_ (fun _ _ _ => ?_) | apply Canon.ancWatermarks)
    | split
    | (with_reducible apply Canon.ofMk; with_reducible refine Canon.parts ?_)
    | dsimp only

theorem Canon.ancStore {s : State} (h : Canon z s) (q word : Nat) (last : Bool) : Canon z (State.ancStore s q word last) := by
  unfold State.ancStore
  have h1 : ∀ k w, Canon z { s with anc := { s.anc with mem := Tab.set 0 s.anc.mem k w } } :=
    fun k w => Canon.setAnc h (Tab.wf_set h.ancOk k w)
  refine Canon.when _ (Canon.setFld (h1 _ _) _ _ _ _) (fun _ hs => Canon.addFld hs _ _ _ _)

theorem Canon.ancPacket {s : State} (h : Canon z s) (q : Nat) (ws : List Nat) :
    Canon z (State.ancPacket s q ws) := by
  unfold State.ancPacket
  repeat' first
    | (with_reducible first | assumption | apply Canon.ite | refine CanonP.foldl _ ?_ (fun _ _ _ => ?_)
                            | exact CanonP.fst (by with_reducible assumption)
                            | refine Canon.foldl _ ?_ (fun _ _ _ => ?_) | apply Canon.addFld | apply Canon.raise
                            | apply Canon.ancStore | apply Canon.ancRefresh)
    | split
    | with_reducible refine CanonP.mk ?_ _
    | (with_reducible apply Canon.ofMk; with_reducible refine Canon.parts ?_)
    | dsimp only

theorem Canon.ancArrive {s : State} (h : Canon z s) (q n : Nat) (ws : List Nat) :
    Canon z (State.ancArrive s q n ws) := by
  unfold State.ancArrive
  repeat' first
    | (with_reducible first | assumption | apply Canon.ite | refine CanonP.foldl _ ?_ (fun _ _ _ => ?_)
                            | exact CanonP.fst (by with_reducible assumption)
                            | refine Canon.foldl _ ?_ (fun _ _ _ => ?_) | apply Canon.ancTouch | apply Canon.setFld
                            | apply Canon.ancPacket | apply Canon.setAncCycle | apply CanonP.fst
                            | refine CanonP.of (by with_reducible assumption) ?_)
    | split
    | with_reducible refine CanonP.mk ?_ _
    | (with_reducible apply Canon.ofMk; with_reducible refine Canon.parts ?_)
    | dsimp only

theorem Canon.ancRelease {s : State} (h : Canon z s) (q : Nat) : Canon z (State.ancRelease s q) := by
  unfold State.ancRelease
  repeat' first
    | (with_reducible first | assumption | apply Canon.ite | apply Canon.ancTouch | apply Canon.setFld
                            | apply Canon.raise | apply Canon.ancRefresh)
    | split
    | (with_reducible apply Canon.ofMk; with_reducible refine Canon.parts ?_)
    | dsimp only

theorem Canon.ancMark {s : State} (h : Canon z s) (q : Nat) : Canon z (State.ancMark s q) := by
  unfold State.ancMark
  repeat' first
    | (with_reducible first | assumption | apply Canon.setFld)
    | split
    | (with_reducible apply Canon.ofMk; with_reducible refine Canon.parts ?_)

theorem Canon.ancRewind {s : State} (h : Canon z s) (q : Nat) : CanonO z (State.ancRewind s q) := by
  unfold State.ancRewind
  repeat' first
    | (with_reducible first | assumption | apply Canon.ite | apply CanonO.ite | exact CanonO.none | apply CanonO.some
                            | apply Canon.ancTouch | apply Canon.setFld | apply Canon.ancRefresh)
    | split
    | (with_reducible apply Canon.ofMk; with_reducible refine Canon.parts ?_)

theorem Canon.ancRead {s : State} (h : Canon z s) (q n : Nat) : Canon z (State.ancRead s q n) := by
  unfold State.ancRead
  repeat' first
    | (with_reducible first | assumption | apply Canon.ancTouch | apply Canon.setFld | apply Canon.ancRefresh)
    | split
    | (with_reducible apply Canon.ofMk; with_reducible refine Canon.parts ?_)

theorem Canon.ancOffer {s : State} (h : Canon z s) (n seq : Nat) (p : AncPacket) :
    Canon z (State.ancOffer s n seq p) := by
  unfold State.ancOffer
  repeat' first
    | (with_reducible first | assumption | refine Canon.upTo _ ?_ (fun _ _ _ => ?_)
                            | refine Canon.when _ ?_ (fun _ _ => ?_) | apply Canon.ancArrive)
    | split
    | (with_reducible apply Canon.ofMk; with_reducible refine Canon.parts ?_)

theorem Canon.setAncAreas {s : State} (h : Canon z s) (n : Nat) (l : List AncArea) :
    Canon z (State.setAncAreas s n l) := by
  unfold State.setAncAreas
  repeat' first
    | (with_reducible first | assumption)
    | split
    | (with_reducible apply Canon.ofMk; with_reducible refine Canon.parts ?_)

theorem Canon.ancKeep {s : State} (h : Canon z s) (n seq : Nat) (p : AncPacket) :
    CanonP z (State.ancKeep s n seq p) := by
  unfold State.ancKeep
  repeat' first
    | (with_reducible first | assumption | apply Canon.ite | apply CanonP.ite | apply Canon.setAncAreas)
    | split
    | with_reducible refine CanonP.mk ?_ _
    | (with_reducible apply Canon.ofMk; with_reducible refine Canon.parts ?_)
    | dsimp only

theorem Canon.deembed {s : State} (h : Canon z s) (n group link : Nat) (samples : List (List SideSample)) :
    Canon z (State.deembed s n group link samples) := by
  unfold State.deembed
  repeat' first
    | (with_reducible first | assumption | apply Canon.ite | refine Canon.each _ ?_ (fun _ _ _ => ?_)
                            | refine Canon.when _ ?_ (fun _ _ => ?_) | refine CanonP.foldl _ ?_ (fun _ _ _ => ?_)
                            | exact CanonP.fst (by with_reducible assumption)
                            | refine Canon.foldl _ ?_ (fun _ _ _ => ?_) | apply Canon.writeFifo)
    | split
    | with_reducible refine CanonP.mk ?_ _
    | (with_reducible apply Canon.ofMk; with_reducible refine Canon.parts ?_)
    | dsimp only

theorem Canon.audioControl {s : State} (h : Canon z s) (n group rate : Nat) :
    Canon z (State.audioControl s n group rate) := by
  unfold State.audioControl
  repeat' first
    | (with_reducible first | assumption | apply Canon.ite | apply Canon.setAudSrc | apply Canon.setFld
                            | apply Canon.raise)
    | split
    | (with_reducible apply Canon.ofMk; with_reducible refine Canon.parts ?_)
    | dsimp only

theorem Canon.ancAudio {s : State} (h : Canon z s) (n : Nat) (p : AncPacket) : Canon z (State.ancAudio s n p) := by
  unfold State.ancAudio
  repeat' first
    | (with_reducible first | assumption | apply Canon.deembed | apply Canon.audioControl)
    | split
    | (with_reducible apply Canon.ofMk; with_reducible refine Canon.parts ?_)

theorem Canon.ancHeard {s : State} (h : Canon z s) (n : Nat) (p : AncPacket) : Canon z (State.ancHeard s n p) := by
  unfold State.ancHeard
  repeat' first
    | (with_reducible first | assumption | apply Canon.ite | apply Canon.ancAudio)
    | split
    | (with_reducible apply Canon.ofMk; with_reducible refine Canon.parts ?_)

theorem Canon.ancTake {s : State} (h : Canon z s) (n seq : Nat) (p : AncPacket) :
    CanonP z (State.ancTake s n seq p) := by
  unfold State.ancTake
  repeat' first
    | (with_reducible first | assumption | apply Canon.ite | apply CanonP.ite | apply Canon.ancHeard
                            | apply Canon.ancOffer | apply Canon.ancKeep | apply CanonP.fst
                            | refine CanonP.of (by with_reducible assumption) ?_)
    | split
    | with_reducible refine CanonP.mk ?_ _
    | (with_reducible apply Canon.ofMk; with_reducible refine Canon.parts ?_)
    | dsimp only

theorem Canon.writeConsumer {s : State} (h : Canon z s) (q v : Nat) : Canon z (State.writeConsumer s q v) := by
  unfold State.writeConsumer
  repeat' first
    | (with_reducible first | assumption | apply Canon.ite | apply Canon.setFld)
    | split
    | (with_reducible apply Canon.ofMk; with_reducible refine Canon.parts ?_)
    | dsimp only

theorem Canon.ancClear {s : State} (h : Canon z s) (q ptr : Nat) : Canon z (State.ancClear s q ptr) := by
  unfold State.ancClear
  repeat' first
    | (with_reducible first | assumption | apply Canon.setFld | apply Canon.setAncCycle)
    | split
    | (with_reducible apply Canon.ofMk; with_reducible refine Canon.parts ?_)
    | dsimp only

theorem Canon.enableAncq {s : State} (h : Canon z s) (q : Nat) (en : Bool) : Canon z (State.enableAncq s q en) := by
  unfold State.enableAncq
  repeat' first
    | (with_reducible first | assumption | apply Canon.ite | apply Canon.setFld | apply Canon.ancClear)
    | split
    | (with_reducible apply Canon.ofMk; with_reducible refine Canon.parts ?_)

theorem Canon.writeAncq0 {s : State} (h : Canon z s) (q v : Nat) : Canon z (State.writeAncq0 s q v) := by
  unfold State.writeAncq0
  repeat' first
    | (with_reducible first | assumption | apply Canon.writeConsumer | apply Canon.setFld | apply Canon.enableAncq
                            | apply Canon.ancTouch | apply Canon.ancPaused)
    | split
    | (with_reducible apply Canon.ofMk; with_reducible refine Canon.parts ?_)

theorem Canon.writeAncq4 {s : State} (h : Canon z s) (q v : Nat) : Canon z (State.writeAncq4 s q v) := by
  unfold State.writeAncq4
  repeat' first
    | (with_reducible first | assumption | apply Canon.ite | apply Canon.setFld)
    | split
    | (with_reducible apply Canon.ofMk; with_reducible refine Canon.parts ?_)
    | dsimp only

theorem Canon.writeFsrc {s : State} (h : Canon z s) (q v : Nat) : Canon z (State.writeFsrc s q v) := by
  unfold State.writeFsrc
  repeat' first
    | (with_reducible first | assumption | apply Canon.ite | apply Canon.setFld)
    | split
    | (with_reducible apply Canon.ofMk; with_reducible refine Canon.parts ?_)
    | dsimp only

theorem Canon.writeWatermark {s : State} (h : Canon z s) (q v : Nat) : Canon z (State.writeWatermark s q v) := by
  unfold State.writeWatermark
  repeat' first
    | (with_reducible first | assumption | apply Canon.ite | apply Canon.setFld | apply Canon.ancTouch)
    | split
    | (with_reducible apply Canon.ofMk; with_reducible refine Canon.parts ?_)
    | dsimp only

end Sys2Proof.Machine
end

