-- ==== Sys2Proof/Laws/CanonIngest.lean ====
section
/-! SUPPORT. The operations of Machine/Ingest.lean keep the canonical form of a state. -/

namespace Sys2Proof.Machine
open Reg

variable {z : State}

theorem Canon.updSrc {s : State} (h : Canon z s) (n : Nat) (f : SrcRun → SrcRun) :
    Canon z (State.updSrc s n f) := by
  unfold State.updSrc
  repeat' first
    | (with_reducible first | assumption | apply Canon.setSrc)
    | split
    | (with_reducible apply Canon.ofMk; with_reducible refine Canon.parts ?_)

theorem Canon.growSlots {s : State} (h : Canon z s) (n fmt : Nat) : Canon z (State.growSlots s n fmt) := by
  unfold State.growSlots
  repeat' first
    | (with_reducible first | assumption | apply Canon.ite | apply Canon.claimPages | apply Canon.setCfg
                            | apply Canon.setRing | apply Canon.updSrc | apply CanonP.fst
                            | refine CanonP.of (by with_reducible assumption) ?_)
    | split
    | (with_reducible apply Canon.ofMk; with_reducible refine Canon.parts ?_)
    | dsimp only

theorem Canon.takeFormat {s : State} (h : Canon z s) (n fmt : Nat) : Canon z (State.takeFormat s n fmt) := by
  unfold State.takeFormat
  repeat' first
    | (with_reducible first | assumption | apply Canon.ite | refine Canon.each _ ?_ (fun _ _ _ => ?_)
                            | refine Canon.when _ ?_ (fun _ _ => ?_) | apply Canon.growSlots | apply Canon.hold
                            | apply Canon.setHoldBytes | apply Canon.setReader | apply Canon.updSrc | apply CanonP.fst
                            | refine CanonP.of (by with_reducible assumption) ?_)
    | split
    | (with_reducible apply Canon.ofMk; with_reducible refine Canon.parts ?_)
    | dsimp only

theorem Canon.becomePresent {s : State} (h : Canon z s) (n : Nat) : Canon z (State.becomePresent s n) := by
  unfold State.becomePresent
  repeat' first
    | (with_reducible first | assumption | refine Canon.when _ ?_ (fun _ _ => ?_) | apply Canon.setFld
                            | apply Canon.reclock | apply Canon.setAudSrc)
    | split
    | (with_reducible apply Canon.ofMk; with_reducible refine Canon.parts ?_)
    | dsimp only

theorem Canon.becomeAbsent {s : State} (h : Canon z s) (n : Nat) (cut : Bool) :
    Canon z (State.becomeAbsent s n cut) := by
  unfold State.becomeAbsent
  repeat' first
    | (with_reducible first | assumption | apply Canon.ite | refine Canon.each _ ?_ (fun _ _ _ => ?_)
                            | refine Canon.when _ ?_ (fun _ _ => ?_) | apply Canon.setFld | apply Canon.updSlot
                            | apply Canon.closeSlot)
    | split
    | (with_reducible apply Canon.ofMk; with_reducible refine Canon.parts ?_)
    | dsimp only

end Sys2Proof.Machine
end

