-- ==== Sys2Proof/Laws/CanonFlows.lean ====
section
/-! SUPPORT. The operations of Machine/Flows.lean keep the canonical form of a state. -/

namespace Sys2Proof.Machine
open Reg

variable {z : State}

theorem Canon.setFlow {s : State} (h : Canon z s) (f : Nat) (x : Option FlowRun) :
    Canon z (State.setFlow s f x) := by
  unfold State.setFlow
  repeat' first
    | (with_reducible first | assumption)
    | split
    | (with_reducible apply Canon.ofMk; with_reducible refine Canon.parts ?_)

theorem Canon.updFlow {s : State} (h : Canon z s) (f : Nat) (g : FlowRun → FlowRun) :
    Canon z (State.updFlow s f g) := by
  unfold State.updFlow
  repeat' first
    | (with_reducible first | assumption | apply Canon.setFlow)
    | split
    | (with_reducible apply Canon.ofMk; with_reducible refine Canon.parts ?_)

theorem Canon.setStream {s : State} (h : Canon z s) (k : Nat) (x : StreamRun) :
    Canon z (State.setStream s k x) := by
  unfold State.setStream
  repeat' first
    | (with_reducible first | assumption)
    | split
    | (with_reducible apply Canon.ofMk; with_reducible refine Canon.parts ?_)

theorem Canon.flowEvent {s : State} (h : Canon z s) (ev f : Nat) (ws : FlowWords) :
    Canon z (State.flowEvent s ev f ws) := by
  unfold State.flowEvent
  repeat' first
    | (with_reducible first | assumption | apply Canon.raise)
    | split
    | (with_reducible apply Canon.ofMk; with_reducible refine Canon.parts ?_)

theorem Canon.flowDown {s : State} (h : Canon z s) (f : Nat) : Canon z (State.flowDown s f) := by
  unfold State.flowDown
  repeat' first
    | (with_reducible first | assumption | apply Canon.ite | apply Canon.setFlow | apply Canon.flowEvent)
    | split
    | (with_reducible apply Canon.ofMk; with_reducible refine Canon.parts ?_)

theorem Canon.on_execFlowLegDown {s : State} (h : Canon z s) (f : Fin 262144) : CanonX z (execFlowLegDown f s) := by
  unfold execFlowLegDown
  repeat' first
    | (with_reducible first | assumption | apply Canon.ite | apply CanonX.ite | apply CanonX.next
                            | apply Canon.flowDown)
    | split
    | (with_reducible apply Canon.ofMk; with_reducible refine Canon.parts ?_)

theorem Canon.applyFlowAdd {s : State} (h : Canon z s) (f t : Nat) (ws : FlowWords) :
    Canon z (State.applyFlowAdd s f t ws) := by
  unfold State.applyFlowAdd
  repeat' first
    | (with_reducible first | assumption | apply Canon.ite | refine Canon.when _ ?_ (fun _ _ => ?_)
                            | apply Canon.setFlow | apply Canon.setFld)
    | split
    | (with_reducible apply Canon.ofMk; with_reducible refine Canon.parts ?_)
    | dsimp only

theorem Canon.applyFlowDel {s : State} (h : Canon z s) (f : Nat) : Canon z (State.applyFlowDel s f) := by
  unfold State.applyFlowDel
  repeat' first
    | (with_reducible first | assumption | apply Canon.ite | apply Canon.setFlow | apply Canon.setStream)
    | split
    | (with_reducible apply Canon.ofMk; with_reducible refine Canon.parts ?_)
    | dsimp only

end Sys2Proof.Machine
end

