-- ==== Sys2Proof/Laws/CanonSelect.lean ====
section
/-! SUPPORT. The operations of Machine/Select.lean keep the canonical form of a state. -/

namespace Sys2Proof.Machine
open Reg

variable {z : State}

theorem Canon.selectionEvents {s : State} (h : Canon z s) (x : ReaderCfg) (r : ReaderRun) (d : Selected) :
    Canon z (State.selectionEvents s x r d) := by
  unfold State.selectionEvents
  repeat' first
    | (with_reducible first | assumption | refine Canon.when _ ?_ (fun _ _ => ?_) | apply Canon.raise)
    | split
    | (with_reducible apply Canon.ofMk; with_reducible refine Canon.parts ?_)
    | dsimp only

theorem Canon.selectFor {s : State} (h : Canon z s) (g : Cfg) (rd k : Nat) (f at' : Int) :
    Canon z (State.selectFor s g rd k f at') := by
  unfold State.selectFor
  repeat' first
    | (with_reducible first | assumption | refine Canon.when _ ?_ (fun _ _ => ?_) | apply Canon.settleErrors
                            | apply Canon.setReader | apply Canon.selectionEvents | apply Canon.send)
    | split
    | (with_reducible apply Canon.ofMk; with_reducible refine Canon.parts ?_)
    | dsimp only

theorem Canon.selectAt {s : State} (h : Canon z s) (rd : Nat) : Canon z (State.selectAt s rd) := by
  unfold State.selectAt
  repeat' first
    | (with_reducible first | assumption | apply Canon.ite | apply Canon.settleErrors | apply Canon.selectFor)
    | split
    | (with_reducible apply Canon.ofMk; with_reducible refine Canon.parts ?_)
    | dsimp only

end Sys2Proof.Machine
end

