-- ==== Sys2Proof/Laws/CanonRender.lean ====
section
/-! SUPPORT. The operations of Machine/Render.lean keep the canonical form of a state. -/

namespace Sys2Proof.Machine
open Reg

variable {z : State}

theorem Canon.dstStatus {s : State} (h : Canon z s) (d : Nat) (r : ReaderRun) (x : Shown) :
    Canon z (State.dstStatus s d r x) := by
  unfold State.dstStatus
  repeat' first
    | (with_reducible first | assumption | apply Canon.ite | refine Canon.upTo _ ?_ (fun _ _ _ => ?_)
                            | refine Canon.when _ ?_ (fun _ _ => ?_) | apply Canon.setFld)
    | split
    | (with_reducible apply Canon.ofMk; with_reducible refine Canon.parts ?_)
    | dsimp only

theorem Tab.rising_inserts {α : Type} (l : List (Nat × α)) {t : Tab α} (h : Tab.rising t = true) :
    Tab.rising (l.foldl (fun r e => Tab.insert r e.1 e.2) t) = true := by
  induction l generalizing t with
  | nil => exact h
  | cons e l ih => exact ih (Tab.rising_insert h _ _)

theorem Canon.under {s : State} (h : Canon z s) (obj : Nat) (t : Tab Nat) : Canon z (State.under s obj t) :=
  h.regs (Tab.rising_inserts t (Tab.rising_filter h.regsRise _))

theorem Canon.readerStatus {s : State} (h : Canon z s) (rd : Nat) : Canon z (State.readerStatus s rd) := by
  unfold State.readerStatus
  repeat' first
    | (with_reducible first | assumption | apply Canon.ite | apply Canon.setReader)
    | split
    | (with_reducible apply Canon.ofMk; with_reducible refine Canon.parts ?_)
    | dsimp only

theorem Canon.layerStatus {s : State} (h : Canon z s) (c l : Nat) (m : CmpCfg) :
    Canon z (State.layerStatus s c l m) := by
  unfold State.layerStatus
  repeat' first
    | (with_reducible first | assumption | apply Canon.ite | refine Canon.each _ ?_ (fun _ _ _ => ?_)
                            | refine Canon.when _ ?_ (fun _ _ => ?_) | apply Canon.setFld | apply Canon.readerStatus)
    | split
    | (with_reducible apply Canon.ofMk; with_reducible refine Canon.parts ?_)
    | dsimp only

end Sys2Proof.Machine
end

