-- ==== Sys2Proof/Laws/CanonProbeOps.lean ====
section
/-! SUPPORT. The operations of Machine/ProbeOps.lean keep the canonical form of a state. -/

namespace Sys2Proof.Machine
open Reg

variable {z : State}

theorem Canon.probeFault {s : State} (h : Canon z s) (c pc cause : Nat) :
    Canon z (State.probeFault s c pc cause) := by
  unfold State.probeFault
  repeat' first
    | (with_reducible first | assumption | apply Canon.setFld | apply Canon.raise)
    | split
    | (with_reducible apply Canon.ofMk; with_reducible refine Canon.parts ?_)
    | dsimp only

theorem Canon.enterDebug {s : State} (h : Canon z s) (c cause : Nat) : Canon z (State.enterDebug s c cause) := by
  unfold State.enterDebug
  repeat' first
    | (with_reducible first | assumption | apply Canon.setFld | refine Canon.setCore ?_ _ ?_ | apply CoreOk.ite
                            | apply Canon.core (z := z))
    | exact CoreOk.setRange (Canon.core (z := z) (by with_reducible assumption) _) _ _
    | exact CoreOk.of_eq (Canon.core (z := z) (by with_reducible assumption) _) rfl rfl
    | refine CoreOk.of_eq (Canon.core (z := z) ?_ _) rfl rfl
    | split
    | (with_reducible apply Canon.ofMk; with_reducible refine Canon.parts ?_)
    | dsimp only

theorem Canon.boundary {s : State} (h : Canon z s) (c : Nat) (touched : List (Nat × Bool)) :
    Canon z (State.boundary s c touched) := by
  unfold State.boundary
  repeat' first
    | (with_reducible first | assumption | apply Canon.ite | apply Canon.enterDebug | refine Canon.setCore ?_ _ ?_
                            | apply CoreOk.ite | apply Canon.core (z := z))
    | exact CoreOk.setRange (Canon.core (z := z) (by with_reducible assumption) _) _ _
    | exact CoreOk.of_eq (Canon.core (z := z) (by with_reducible assumption) _) rfl rfl
    | refine CoreOk.of_eq (Canon.core (z := z) ?_ _) rfl rfl
    | split
    | (with_reducible apply Canon.ofMk; with_reducible refine Canon.parts ?_)
    | dsimp only

theorem Canon.finishProbe {s : State} (h : Canon z s) (c pc : Nat) {st : ProbeStep} (hst : StepOk z st) :
    Canon z (State.finishProbe s c pc st) := by
  unfold State.finishProbe
  cases st with
  | next t x touched =>
    have hx : CoreOk (CoreRun.sequential { x with cycles := x.cycles + 1 } pc).1 :=
      CoreOk.sequential (x := { x with cycles := x.cycles + 1 }) hst.2 pc
    dsimp only
    generalize CoreRun.sequential { x with cycles := x.cycles + 1 } pc = q at hx
    obtain ⟨y, d⟩ := q
    have ht := hst.1.setCore c hx
    exact Canon.ite (ht.probeFault _ _ _) (Canon.boundary (ht.setFld _ _ _ _) _ _)
  | jump t x dest cycles =>
    have ht := hst.1.setCore c (x := { x with cycles := x.cycles + cycles }) hst.2
    exact Canon.ite (ht.probeFault _ _ _) (Canon.boundary (ht.setFld _ _ _ _) _ _)
  | done x =>
    dsimp only
    refine Canon.setFld (Canon.setCore (Canon.setFld h _ _ _ _) c ?_) _ _ _ _
    exact hst
  | stall t =>
    have h1 : Canon z (t.setFld PROBE_STATE coreStalled c) := Canon.setFld hst _ _ _ _
    exact h1.setCore c (CoreOk.of_eq (h1.core c) rfl rfl)
  | fault cause => exact h.probeFault _ _ _

theorem Canon.probeRow {s : State} (h : Canon z s) (c : Nat) (op : Nat → Bool) (mask : Nat) {f : ProbeSem} (hf : SemOk z f) :
    Canon z (State.probeRow s c op mask f) := by
  unfold State.probeRow
  repeat' first
    | with_reducible assumption
    | with_reducible apply Canon.ite
    | with_reducible apply Canon.enterDebug
    | with_reducible apply Canon.probeFault
    | with_reducible refine Canon.finishProbe ?_ _ _ ?_
    | exact hf _ _ _ _ _ h (h.core c)

end Sys2Proof.Machine
end

