-- ==== Sys2Proof/Laws/CanonProbeIsa.lean ====
section
/-! SUPPORT. The operations of Machine/ProbeIsa.lean keep the canonical form of a state. -/

namespace Sys2Proof.Machine
open Reg

variable {z : State}

theorem StepOk.ite {c : Prop} [Decidable c] {a b : ProbeStep} (ha : StepOk z a) (hb : StepOk z b) :
    StepOk z (if c then a else b) := by
  split <;> assumption
theorem StepOk.next {s : State} {x : CoreRun} {l : List (Nat × Bool)} (h : Canon z s) (hx : CoreOk x) : StepOk z (.next s x l) := ⟨h, hx⟩
theorem StepOk.jump {s : State} {x : CoreRun} {pc n : Nat} (h : Canon z s) (hx : CoreOk x) : StepOk z (.jump s x pc n) := ⟨h, hx⟩
theorem StepOk.done {x : CoreRun} (hx : CoreOk x) : StepOk z (.done x) := hx
theorem StepOk.stall {s : State} (h : Canon z s) : StepOk z (.stall s) := h
theorem StepOk.fault (n : Nat) : StepOk z (.fault n) := trivial

theorem Canon.ancPush {s : State} (h : Canon z s) (q word : Nat) (last : Bool) : Canon z (s.ancPush q word last) := by
  unfold State.ancPush
  have h1 : ∀ a, Canon z { s with anc := { s.anc with pushed := a } } := fun _ => h
  with_reducible exact ((Canon.ancStore (h1 _) _ _ _).ancRefresh _).setAncCycle _ _

theorem StepOk.startProbeLoop {s : State} (h : Canon z s) (w pc count : Nat) {x : CoreRun} (hx : CoreOk x) :
    StepOk z (startProbeLoop s w pc count x) := by
  unfold Machine.startProbeLoop
  repeat' first
    | with_reducible assumption
    | with_reducible apply StepOk.ite
    | with_reducible apply StepOk.next
    | with_reducible apply StepOk.jump
    | with_reducible exact StepOk.done hx
    | with_reducible exact StepOk.fault _
    | with_reducible apply StepOk.stall
    | with_reducible apply CoreOk.setD
    | with_reducible apply CoreOk.setXf
    | with_reducible apply CoreOk.setAcc
    | with_reducible apply CoreOk.setData
    | with_reducible apply CoreOk.modify
    | with_reducible apply CoreOk.zn
    | with_reducible apply CoreOk.flagsAdd
    | with_reducible apply CoreOk.flagsSub
    | with_reducible apply CoreOk.startLoop
    | with_reducible apply CoreOk.setLoop
    | with_reducible apply Canon.setFld
    | with_reducible apply Canon.addFld
    | with_reducible apply Canon.raise
    | with_reducible apply Canon.ancRead
    | with_reducible apply Canon.ancPush
    | with_reducible apply Canon.ancMark
    | with_reducible apply Canon.ancRelease
    | with_reducible apply Canon.updSlot
    | with_reducible refine CanonO.of (by with_reducible assumption) ?_
    | with_reducible apply Canon.ancRewind
    | split
    | dsimp only
    | exact CoreOk.of_eq hx rfl rfl
    | exact CoreOk.of_eq (CoreOk.setD (CoreOk.setD hx _ _) _ _) rfl rfl

theorem StepOk.pushNow {s : State} (h : Canon z s) (c w : Nat) {x : CoreRun} (hx : CoreOk x) :
    StepOk z (pushNow s c w x) := by
  unfold Machine.pushNow
  repeat' first
    | with_reducible assumption
    | with_reducible apply StepOk.ite
    | with_reducible apply StepOk.next
    | with_reducible apply StepOk.jump
    | with_reducible exact StepOk.done hx
    | with_reducible exact StepOk.fault _
    | with_reducible apply StepOk.stall
    | with_reducible apply CoreOk.setD
    | with_reducible apply CoreOk.setXf
    | with_reducible apply CoreOk.setAcc
    | with_reducible apply CoreOk.setData
    | with_reducible apply CoreOk.modify
    | with_reducible apply CoreOk.zn
    | with_reducible apply CoreOk.flagsAdd
    | with_reducible apply CoreOk.flagsSub
    | with_reducible apply CoreOk.startLoop
    | with_reducible apply CoreOk.setLoop
    | with_reducible apply Canon.setFld
    | with_reducible apply Canon.addFld
    | with_reducible apply Canon.raise
    | with_reducible apply Canon.ancRead
    | with_reducible apply Canon.ancPush
    | with_reducible apply Canon.ancMark
    | with_reducible apply Canon.ancRelease
    | with_reducible apply Canon.updSlot
    | with_reducible refine CanonO.of (by with_reducible assumption) ?_
    | with_reducible apply Canon.ancRewind
    | with_reducible apply StepOk.startProbeLoop
    | split
    | dsimp only
    | exact CoreOk.of_eq hx rfl rfl
    | exact CoreOk.of_eq (CoreOk.setD (CoreOk.setD hx _ _) _ _) rfl rfl

theorem SemOk.product (f : Int → Int → Int) : SemOk z (product f) := by
  intro s c w pc x h hx
  unfold Machine.product
  repeat' first
    | with_reducible assumption
    | with_reducible apply StepOk.ite
    | with_reducible apply StepOk.next
    | with_reducible apply StepOk.jump
    | with_reducible exact StepOk.done hx
    | with_reducible exact StepOk.fault _
    | with_reducible apply StepOk.stall
    | with_reducible apply CoreOk.setD
    | with_reducible apply CoreOk.setXf
    | with_reducible apply CoreOk.setAcc
    | with_reducible apply CoreOk.setData
    | with_reducible apply CoreOk.modify
    | with_reducible apply CoreOk.zn
    | with_reducible apply CoreOk.flagsAdd
    | with_reducible apply CoreOk.flagsSub
    | with_reducible apply CoreOk.startLoop
    | with_reducible apply CoreOk.setLoop
    | with_reducible apply Canon.setFld
    | with_reducible apply Canon.addFld
    | with_reducible apply Canon.raise
    | with_reducible apply Canon.ancRead
    | with_reducible apply Canon.ancPush
    | with_reducible apply Canon.ancMark
    | with_reducible apply Canon.ancRelease
    | with_reducible apply Canon.updSlot
    | with_reducible refine CanonO.of (by with_reducible assumption) ?_
    | with_reducible apply Canon.ancRewind
    | with_reducible apply StepOk.pushNow
    | with_reducible apply StepOk.startProbeLoop
    | split
    | dsimp only
    | exact CoreOk.of_eq hx rfl rfl
    | exact CoreOk.of_eq (CoreOk.setD (CoreOk.setD hx _ _) _ _) rfl rfl

theorem SemOk.semBr : SemOk z semBr := by
  intro s c w pc x h hx
  unfold Machine.semBr
  repeat' first
    | with_reducible assumption
    | with_reducible apply StepOk.ite
    | with_reducible apply StepOk.next
    | with_reducible apply StepOk.jump
    | with_reducible exact StepOk.done hx
    | with_reducible exact StepOk.fault _
    | with_reducible apply StepOk.stall
    | with_reducible apply CoreOk.setD
    | with_reducible apply CoreOk.setXf
    | with_reducible apply CoreOk.setAcc
    | with_reducible apply CoreOk.setData
    | with_reducible apply CoreOk.modify
    | with_reducible apply CoreOk.zn
    | with_reducible apply CoreOk.flagsAdd
    | with_reducible apply CoreOk.flagsSub
    | with_reducible apply CoreOk.startLoop
    | with_reducible apply CoreOk.setLoop
    | with_reducible apply Canon.setFld
    | with_reducible apply Canon.addFld
    | with_reducible apply Canon.raise
    | with_reducible apply Canon.ancRead
    | with_reducible apply Canon.ancPush
    | with_reducible apply Canon.ancMark
    | with_reducible apply Canon.ancRelease
    | with_reducible apply Canon.updSlot
    | with_reducible refine CanonO.of (by with_reducible assumption) ?_
    | with_reducible apply Canon.ancRewind
    | with_reducible apply StepOk.pushNow
    | with_reducible apply StepOk.startProbeLoop
    | split
    | dsimp only
    | exact CoreOk.of_eq hx rfl rfl
    | exact CoreOk.of_eq (CoreOk.setD (CoreOk.setD hx _ _) _ _) rfl rfl

theorem SemOk.semCall : SemOk z semCall := by
  intro s c w pc x h hx
  unfold Machine.semCall
  repeat' first
    | with_reducible assumption
    | with_reducible apply StepOk.ite
    | with_reducible apply StepOk.next
    | with_reducible apply StepOk.jump
    | with_reducible exact StepOk.done hx
    | with_reducible exact StepOk.fault _
    | with_reducible apply StepOk.stall
    | with_reducible apply CoreOk.setD
    | with_reducible apply CoreOk.setXf
    | with_reducible apply CoreOk.setAcc
    | with_reducible apply CoreOk.setData
    | with_reducible apply CoreOk.modify
    | with_reducible apply CoreOk.zn
    | with_reducible apply CoreOk.flagsAdd
    | with_reducible apply CoreOk.flagsSub
    | with_reducible apply CoreOk.startLoop
    | with_reducible apply CoreOk.setLoop
    | with_reducible apply Canon.setFld
    | with_reducible apply Canon.addFld
    | with_reducible apply Canon.raise
    | with_reducible apply Canon.ancRead
    | with_reducible apply Canon.ancPush
    | with_reducible apply Canon.ancMark
    | with_reducible apply Canon.ancRelease
    | with_reducible apply Canon.updSlot
    | with_reducible refine CanonO.of (by with_reducible assumption) ?_
    | with_reducible apply Canon.ancRewind
    | with_reducible apply StepOk.pushNow
    | with_reducible apply StepOk.startProbeLoop
    | split
    | dsimp only
    | exact CoreOk.of_eq hx rfl rfl
    | exact CoreOk.of_eq (CoreOk.setD (CoreOk.setD hx _ _) _ _) rfl rfl

theorem SemOk.semRet : SemOk z semRet := by
  intro s c w pc x h hx
  unfold Machine.semRet
  repeat' first
    | with_reducible assumption
    | with_reducible apply StepOk.ite
    | with_reducible apply StepOk.next
    | with_reducible apply StepOk.jump
    | with_reducible exact StepOk.done hx
    | with_reducible exact StepOk.fault _
    | with_reducible apply StepOk.stall
    | with_reducible apply CoreOk.setD
    | with_reducible apply CoreOk.setXf
    | with_reducible apply CoreOk.setAcc
    | with_reducible apply CoreOk.setData
    | with_reducible apply CoreOk.modify
    | with_reducible apply CoreOk.zn
    | with_reducible apply CoreOk.flagsAdd
    | with_reducible apply CoreOk.flagsSub
    | with_reducible apply CoreOk.startLoop
    | with_reducible apply CoreOk.setLoop
    | with_reducible apply Canon.setFld
    | with_reducible apply Canon.addFld
    | with_reducible apply Canon.raise
    | with_reducible apply Canon.ancRead
    | with_reducible apply Canon.ancPush
    | with_reducible apply Canon.ancMark
    | with_reducible apply Canon.ancRelease
    | with_reducible apply Canon.updSlot
    | with_reducible refine CanonO.of (by with_reducible assumption) ?_
    | with_reducible apply Canon.ancRewind
    | with_reducible apply StepOk.pushNow
    | with_reducible apply StepOk.startProbeLoop
    | split
    | dsimp only
    | exact CoreOk.of_eq hx rfl rfl
    | exact CoreOk.of_eq (CoreOk.setD (CoreOk.setD hx _ _) _ _) rfl rfl

theorem SemOk.semAbs : SemOk z semAbs := by
  intro s c w pc x h hx
  unfold Machine.semAbs
  repeat' first
    | with_reducible assumption
    | with_reducible apply StepOk.ite
    | with_reducible apply StepOk.next
    | with_reducible apply StepOk.jump
    | with_reducible exact StepOk.done hx
    | with_reducible exact StepOk.fault _
    | with_reducible apply StepOk.stall
    | with_reducible apply CoreOk.setD
    | with_reducible apply CoreOk.setXf
    | with_reducible apply CoreOk.setAcc
    | with_reducible apply CoreOk.setData
    | with_reducible apply CoreOk.modify
    | with_reducible apply CoreOk.zn
    | with_reducible apply CoreOk.flagsAdd
    | with_reducible apply CoreOk.flagsSub
    | with_reducible apply CoreOk.startLoop
    | with_reducible apply CoreOk.setLoop
    | with_reducible apply Canon.setFld
    | with_reducible apply Canon.addFld
    | with_reducible apply Canon.raise
    | with_reducible apply Canon.ancRead
    | with_reducible apply Canon.ancPush
    | with_reducible apply Canon.ancMark
    | with_reducible apply Canon.ancRelease
    | with_reducible apply Canon.updSlot
    | with_reducible refine CanonO.of (by with_reducible assumption) ?_
    | with_reducible apply Canon.ancRewind
    | with_reducible apply StepOk.pushNow
    | with_reducible apply StepOk.startProbeLoop
    | split
    | dsimp only
    | exact CoreOk.of_eq hx rfl rfl
    | exact CoreOk.of_eq (CoreOk.setD (CoreOk.setD hx _ _) _ _) rfl rfl

theorem SemOk.semLd : SemOk z semLd := by
  intro s c w pc x h hx
  unfold Machine.semLd
  repeat' first
    | with_reducible assumption
    | with_reducible apply StepOk.ite
    | with_reducible apply StepOk.next
    | with_reducible apply StepOk.jump
    | with_reducible exact StepOk.done hx
    | with_reducible exact StepOk.fault _
    | with_reducible apply StepOk.stall
    | with_reducible apply CoreOk.setD
    | with_reducible apply CoreOk.setXf
    | with_reducible apply CoreOk.setAcc
    | with_reducible apply CoreOk.setData
    | with_reducible apply CoreOk.modify
    | with_reducible apply CoreOk.zn
    | with_reducible apply CoreOk.flagsAdd
    | with_reducible apply CoreOk.flagsSub
    | with_reducible apply CoreOk.startLoop
    | with_reducible apply CoreOk.setLoop
    | with_reducible apply Canon.setFld
    | with_reducible apply Canon.addFld
    | with_reducible apply Canon.raise
    | with_reducible apply Canon.ancRead
    | with_reducible apply Canon.ancPush
    | with_reducible apply Canon.ancMark
    | with_reducible apply Canon.ancRelease
    | with_reducible apply Canon.updSlot
    | with_reducible refine CanonO.of (by with_reducible assumption) ?_
    | with_reducible apply Canon.ancRewind
    | with_reducible apply StepOk.pushNow
    | with_reducible apply StepOk.startProbeLoop
    | split
    | dsimp only
    | exact CoreOk.of_eq hx rfl rfl
    | exact CoreOk.of_eq (CoreOk.setD (CoreOk.setD hx _ _) _ _) rfl rfl

theorem SemOk.semSt : SemOk z semSt := by
  intro s c w pc x h hx
  unfold Machine.semSt
  repeat' first
    | with_reducible assumption
    | with_reducible apply StepOk.ite
    | with_reducible apply StepOk.next
    | with_reducible apply StepOk.jump
    | with_reducible exact StepOk.done hx
    | with_reducible exact StepOk.fault _
    | with_reducible apply StepOk.stall
    | with_reducible apply CoreOk.setD
    | with_reducible apply CoreOk.setXf
    | with_reducible apply CoreOk.setAcc
    | with_reducible apply CoreOk.setData
    | with_reducible apply CoreOk.modify
    | with_reducible apply CoreOk.zn
    | with_reducible apply CoreOk.flagsAdd
    | with_reducible apply CoreOk.flagsSub
    | with_reducible apply CoreOk.startLoop
    | with_reducible apply CoreOk.setLoop
    | with_reducible apply Canon.setFld
    | with_reducible apply Canon.addFld
    | with_reducible apply Canon.raise
    | with_reducible apply Canon.ancRead
    | with_reducible apply Canon.ancPush
    | with_reducible apply Canon.ancMark
    | with_reducible apply Canon.ancRelease
    | with_reducible apply Canon.updSlot
    | with_reducible refine CanonO.of (by with_reducible assumption) ?_
    | with_reducible apply Canon.ancRewind
    | with_reducible apply StepOk.pushNow
    | with_reducible apply StepOk.startProbeLoop
    | split
    | dsimp only
    | exact CoreOk.of_eq hx rfl rfl
    | exact CoreOk.of_eq (CoreOk.setD (CoreOk.setD hx _ _) _ _) rfl rfl

theorem SemOk.semLdd : SemOk z semLdd := by
  intro s c w pc x h hx
  unfold Machine.semLdd
  repeat' first
    | with_reducible assumption
    | with_reducible apply StepOk.ite
    | with_reducible apply StepOk.next
    | with_reducible apply StepOk.jump
    | with_reducible exact StepOk.done hx
    | with_reducible exact StepOk.fault _
    | with_reducible apply StepOk.stall
    | with_reducible apply CoreOk.setD
    | with_reducible apply CoreOk.setXf
    | with_reducible apply CoreOk.setAcc
    | with_reducible apply CoreOk.setData
    | with_reducible apply CoreOk.modify
    | with_reducible apply CoreOk.zn
    | with_reducible apply CoreOk.flagsAdd
    | with_reducible apply CoreOk.flagsSub
    | with_reducible apply CoreOk.startLoop
    | with_reducible apply CoreOk.setLoop
    | with_reducible apply Canon.setFld
    | with_reducible apply Canon.addFld
    | with_reducible apply Canon.raise
    | with_reducible apply Canon.ancRead
    | with_reducible apply Canon.ancPush
    | with_reducible apply Canon.ancMark
    | with_reducible apply Canon.ancRelease
    | with_reducible apply Canon.updSlot
    | with_reducible refine CanonO.of (by with_reducible assumption) ?_
    | with_reducible apply Canon.ancRewind
    | with_reducible apply StepOk.pushNow
    | with_reducible apply StepOk.startProbeLoop
    | split
    | dsimp only
    | exact CoreOk.of_eq hx rfl rfl
    | exact CoreOk.of_eq (CoreOk.setD (CoreOk.setD hx _ _) _ _) rfl rfl

theorem SemOk.semGets : SemOk z semGets := by
  intro s c w pc x h hx
  unfold Machine.semGets
  repeat' first
    | with_reducible assumption
    | with_reducible apply StepOk.ite
    | with_reducible apply StepOk.next
    | with_reducible apply StepOk.jump
    | with_reducible exact StepOk.done hx
    | with_reducible exact StepOk.fault _
    | with_reducible apply StepOk.stall
    | with_reducible apply CoreOk.setD
    | with_reducible apply CoreOk.setXf
    | with_reducible apply CoreOk.setAcc
    | with_reducible apply CoreOk.setData
    | with_reducible apply CoreOk.modify
    | with_reducible apply CoreOk.zn
    | with_reducible apply CoreOk.flagsAdd
    | with_reducible apply CoreOk.flagsSub
    | with_reducible apply CoreOk.startLoop
    | with_reducible apply CoreOk.setLoop
    | with_reducible apply Canon.setFld
    | with_reducible apply Canon.addFld
    | with_reducible apply Canon.raise
    | with_reducible apply Canon.ancRead
    | with_reducible apply Canon.ancPush
    | with_reducible apply Canon.ancMark
    | with_reducible apply Canon.ancRelease
    | with_reducible apply Canon.updSlot
    | with_reducible refine CanonO.of (by with_reducible assumption) ?_
    | with_reducible apply Canon.ancRewind
    | with_reducible apply StepOk.pushNow
    | with_reducible apply StepOk.startProbeLoop
    | split
    | dsimp only
    | exact CoreOk.of_eq hx rfl rfl
    | exact CoreOk.of_eq (CoreOk.setD (CoreOk.setD hx _ _) _ _) rfl rfl

theorem SemOk.semAda : SemOk z semAda := by
  intro s c w pc x h hx
  unfold Machine.semAda
  repeat' first
    | with_reducible assumption
    | with_reducible apply StepOk.ite
    | with_reducible apply StepOk.next
    | with_reducible apply StepOk.jump
    | with_reducible exact StepOk.done hx
    | with_reducible exact StepOk.fault _
    | with_reducible apply StepOk.stall
    | with_reducible apply CoreOk.setD
    | with_reducible apply CoreOk.setXf
    | with_reducible apply CoreOk.setAcc
    | with_reducible apply CoreOk.setData
    | with_reducible apply CoreOk.modify
    | with_reducible apply CoreOk.zn
    | with_reducible apply CoreOk.flagsAdd
    | with_reducible apply CoreOk.flagsSub
    | with_reducible apply CoreOk.startLoop
    | with_reducible apply CoreOk.setLoop
    | with_reducible apply Canon.setFld
    | with_reducible apply Canon.addFld
    | with_reducible apply Canon.raise
    | with_reducible apply Canon.ancRead
    | with_reducible apply Canon.ancPush
    | with_reducible apply Canon.ancMark
    | with_reducible apply Canon.ancRelease
    | with_reducible apply Canon.updSlot
    | with_reducible refine CanonO.of (by with_reducible assumption) ?_
    | with_reducible apply Canon.ancRewind
    | with_reducible apply StepOk.pushNow
    | with_reducible apply StepOk.startProbeLoop
    | split
    | dsimp only
    | exact CoreOk.of_eq hx rfl rfl
    | exact CoreOk.of_eq (CoreOk.setD (CoreOk.setD hx _ _) _ _) rfl rfl

theorem SemOk.semPop : SemOk z semPop := by
  intro s c w pc x h hx
  unfold Machine.semPop
  repeat' first
    | with_reducible assumption
    | with_reducible apply StepOk.ite
    | with_reducible apply StepOk.next
    | with_reducible apply StepOk.jump
    | with_reducible exact StepOk.done hx
    | with_reducible exact StepOk.fault _
    | with_reducible apply StepOk.stall
    | with_reducible apply CoreOk.setD
    | with_reducible apply CoreOk.setXf
    | with_reducible apply CoreOk.setAcc
    | with_reducible apply CoreOk.setData
    | with_reducible apply CoreOk.modify
    | with_reducible apply CoreOk.zn
    | with_reducible apply CoreOk.flagsAdd
    | with_reducible apply CoreOk.flagsSub
    | with_reducible apply CoreOk.startLoop
    | with_reducible apply CoreOk.setLoop
    | with_reducible apply Canon.setFld
    | with_reducible apply Canon.addFld
    | with_reducible apply Canon.raise
    | with_reducible apply Canon.ancRead
    | with_reducible apply Canon.ancPush
    | with_reducible apply Canon.ancMark
    | with_reducible apply Canon.ancRelease
    | with_reducible apply Canon.updSlot
    | with_reducible refine CanonO.of (by with_reducible assumption) ?_
    | with_reducible apply Canon.ancRewind
    | with_reducible apply StepOk.pushNow
    | with_reducible apply StepOk.startProbeLoop
    | split
    | dsimp only
    | exact CoreOk.of_eq hx rfl rfl
    | exact CoreOk.of_eq (CoreOk.setD (CoreOk.setD hx _ _) _ _) rfl rfl

theorem SemOk.semPush : SemOk z semPush := by
  intro s c w pc x h hx
  unfold Machine.semPush
  repeat' first
    | with_reducible assumption
    | with_reducible apply StepOk.ite
    | with_reducible apply StepOk.next
    | with_reducible apply StepOk.jump
    | with_reducible exact StepOk.done hx
    | with_reducible exact StepOk.fault _
    | with_reducible apply StepOk.stall
    | with_reducible apply CoreOk.setD
    | with_reducible apply CoreOk.setXf
    | with_reducible apply CoreOk.setAcc
    | with_reducible apply CoreOk.setData
    | with_reducible apply CoreOk.modify
    | with_reducible apply CoreOk.zn
    | with_reducible apply CoreOk.flagsAdd
    | with_reducible apply CoreOk.flagsSub
    | with_reducible apply CoreOk.startLoop
    | with_reducible apply CoreOk.setLoop
    | with_reducible apply Canon.setFld
    | with_reducible apply Canon.addFld
    | with_reducible apply Canon.raise
    | with_reducible apply Canon.ancRead
    | with_reducible apply Canon.ancPush
    | with_reducible apply Canon.ancMark
    | with_reducible apply Canon.ancRelease
    | with_reducible apply Canon.updSlot
    | with_reducible refine CanonO.of (by with_reducible assumption) ?_
    | with_reducible apply Canon.ancRewind
    | with_reducible apply StepOk.pushNow
    | with_reducible apply StepOk.startProbeLoop
    | split
    | dsimp only
    | exact CoreOk.of_eq hx rfl rfl
    | exact CoreOk.of_eq (CoreOk.setD (CoreOk.setD hx _ _) _ _) rfl rfl

theorem SemOk.semQctl : SemOk z semQctl := by
  intro s c w pc x h hx
  unfold Machine.semQctl
  repeat' first
    | with_reducible assumption
    | with_reducible apply StepOk.ite
    | with_reducible apply StepOk.next
    | with_reducible apply StepOk.jump
    | with_reducible exact StepOk.done hx
    | with_reducible exact StepOk.fault _
    | with_reducible apply StepOk.stall
    | with_reducible apply CoreOk.setD
    | with_reducible apply CoreOk.setXf
    | with_reducible apply CoreOk.setAcc
    | with_reducible apply CoreOk.setData
    | with_reducible apply CoreOk.modify
    | with_reducible apply CoreOk.zn
    | with_reducible apply CoreOk.flagsAdd
    | with_reducible apply CoreOk.flagsSub
    | with_reducible apply CoreOk.startLoop
    | with_reducible apply CoreOk.setLoop
    | with_reducible apply Canon.setFld
    | with_reducible apply Canon.addFld
    | with_reducible apply Canon.raise
    | with_reducible apply Canon.ancRead
    | with_reducible apply Canon.ancPush
    | with_reducible apply Canon.ancMark
    | with_reducible apply Canon.ancRelease
    | with_reducible apply Canon.updSlot
    | with_reducible refine CanonO.of (by with_reducible assumption) ?_
    | with_reducible apply Canon.ancRewind
    | with_reducible apply StepOk.pushNow
    | with_reducible apply StepOk.startProbeLoop
    | split
    | dsimp only
    | exact CoreOk.of_eq hx rfl rfl
    | exact CoreOk.of_eq (CoreOk.setD (CoreOk.setD hx _ _) _ _) rfl rfl

theorem SemOk.semPost : SemOk z semPost := by
  intro s c w pc x h hx
  unfold Machine.semPost
  repeat' first
    | with_reducible assumption
    | with_reducible apply StepOk.ite
    | with_reducible apply StepOk.next
    | with_reducible apply StepOk.jump
    | with_reducible exact StepOk.done hx
    | with_reducible exact StepOk.fault _
    | with_reducible apply StepOk.stall
    | with_reducible apply CoreOk.setD
    | with_reducible apply CoreOk.setXf
    | with_reducible apply CoreOk.setAcc
    | with_reducible apply CoreOk.setData
    | with_reducible apply CoreOk.modify
    | with_reducible apply CoreOk.zn
    | with_reducible apply CoreOk.flagsAdd
    | with_reducible apply CoreOk.flagsSub
    | with_reducible apply CoreOk.startLoop
    | with_reducible apply CoreOk.setLoop
    | with_reducible apply Canon.setFld
    | with_reducible apply Canon.addFld
    | with_reducible apply Canon.raise
    | with_reducible apply Canon.ancRead
    | with_reducible apply Canon.ancPush
    | with_reducible apply Canon.ancMark
    | with_reducible apply Canon.ancRelease
    | with_reducible apply Canon.updSlot
    | with_reducible refine CanonO.of (by with_reducible assumption) ?_
    | with_reducible apply Canon.ancRewind
    | with_reducible apply StepOk.pushNow
    | with_reducible apply StepOk.startProbeLoop
    | split
    | dsimp only
    | exact CoreOk.of_eq hx rfl rfl
    | exact CoreOk.of_eq (CoreOk.setD (CoreOk.setD hx _ _) _ _) rfl rfl

theorem SemOk.semVrd : SemOk z semVrd := by
  intro s c w pc x h hx
  unfold Machine.semVrd
  repeat' first
    | with_reducible assumption
    | with_reducible apply StepOk.ite
    | with_reducible apply StepOk.next
    | with_reducible apply StepOk.jump
    | with_reducible exact StepOk.done hx
    | with_reducible exact StepOk.fault _
    | with_reducible apply StepOk.stall
    | with_reducible apply CoreOk.setD
    | with_reducible apply CoreOk.setXf
    | with_reducible apply CoreOk.setAcc
    | with_reducible apply CoreOk.setData
    | with_reducible apply CoreOk.modify
    | with_reducible apply CoreOk.zn
    | with_reducible apply CoreOk.flagsAdd
    | with_reducible apply CoreOk.flagsSub
    | with_reducible apply CoreOk.startLoop
    | with_reducible apply CoreOk.setLoop
    | with_reducible apply Canon.setFld
    | with_reducible apply Canon.addFld
    | with_reducible apply Canon.raise
    | with_reducible apply Canon.ancRead
    | with_reducible apply Canon.ancPush
    | with_reducible apply Canon.ancMark
    | with_reducible apply Canon.ancRelease
    | with_reducible apply Canon.updSlot
    | with_reducible refine CanonO.of (by with_reducible assumption) ?_
    | with_reducible apply Canon.ancRewind
    | with_reducible apply StepOk.pushNow
    | with_reducible apply StepOk.startProbeLoop
    | split
    | dsimp only
    | exact CoreOk.of_eq hx rfl rfl
    | exact CoreOk.of_eq (CoreOk.setD (CoreOk.setD hx _ _) _ _) rfl rfl

theorem SemOk.semSig : SemOk z semSig := by
  intro s c w pc x h hx
  unfold Machine.semSig
  repeat' first
    | with_reducible assumption
    | with_reducible apply StepOk.ite
    | with_reducible apply StepOk.next
    | with_reducible apply StepOk.jump
    | with_reducible exact StepOk.done hx
    | with_reducible exact StepOk.fault _
    | with_reducible apply StepOk.stall
    | with_reducible apply CoreOk.setD
    | with_reducible apply CoreOk.setXf
    | with_reducible apply CoreOk.setAcc
    | with_reducible apply CoreOk.setData
    | with_reducible apply CoreOk.modify
    | with_reducible apply CoreOk.zn
    | with_reducible apply CoreOk.flagsAdd
    | with_reducible apply CoreOk.flagsSub
    | with_reducible apply CoreOk.startLoop
    | with_reducible apply CoreOk.setLoop
    | with_reducible apply Canon.setFld
    | with_reducible apply Canon.addFld
    | with_reducible apply Canon.raise
    | with_reducible apply Canon.ancRead
    | with_reducible apply Canon.ancPush
    | with_reducible apply Canon.ancMark
    | with_reducible apply Canon.ancRelease
    | with_reducible apply Canon.updSlot
    | with_reducible refine CanonO.of (by with_reducible assumption) ?_
    | with_reducible apply Canon.ancRewind
    | with_reducible apply StepOk.pushNow
    | with_reducible apply StepOk.startProbeLoop
    | split
    | dsimp only
    | exact CoreOk.of_eq hx rfl rfl
    | exact CoreOk.of_eq (CoreOk.setD (CoreOk.setD hx _ _) _ _) rfl rfl

theorem Canon.on_execProbeNop {s : State} (h : Canon z s) (c : Fin 32) : CanonX z (execProbeNop c s) := by
  refine CanonX.next (h.probeRow _ _ _ ?_)
  intro s c w pc x h hx
  try unfold Machine.putZn
  try unfold Machine.putSum
  repeat' first
    | with_reducible assumption
    | with_reducible apply StepOk.ite
    | with_reducible apply StepOk.next
    | with_reducible apply StepOk.jump
    | with_reducible exact StepOk.done hx
    | with_reducible exact StepOk.fault _
    | with_reducible apply StepOk.stall
    | with_reducible apply CoreOk.setD
    | with_reducible apply CoreOk.setXf
    | with_reducible apply CoreOk.setAcc
    | with_reducible apply CoreOk.setData
    | with_reducible apply CoreOk.modify
    | with_reducible apply CoreOk.zn
    | with_reducible apply CoreOk.flagsAdd
    | with_reducible apply CoreOk.flagsSub
    | with_reducible apply CoreOk.startLoop
    | with_reducible apply CoreOk.setLoop
    | with_reducible apply Canon.setFld
    | with_reducible apply Canon.addFld
    | with_reducible apply Canon.raise
    | with_reducible apply Canon.ancRead
    | with_reducible apply Canon.ancPush
    | with_reducible apply Canon.ancMark
    | with_reducible apply Canon.ancRelease
    | with_reducible apply Canon.updSlot
    | with_reducible refine CanonO.of (by with_reducible assumption) ?_
    | with_reducible apply Canon.ancRewind
    | with_reducible apply StepOk.pushNow
    | with_reducible apply StepOk.startProbeLoop
    | split
    | dsimp only
    | exact CoreOk.of_eq hx rfl rfl
    | exact CoreOk.of_eq (CoreOk.setD (CoreOk.setD hx _ _) _ _) rfl rfl

theorem Canon.on_execHalt {s : State} (h : Canon z s) (c : Fin 32) : CanonX z (execHalt c s) := by
  refine CanonX.next (h.probeRow _ _ _ ?_)
  intro s c w pc x h hx
  try unfold Machine.putZn
  try unfold Machine.putSum
  repeat' first
    | with_reducible assumption
    | with_reducible apply StepOk.ite
    | with_reducible apply StepOk.next
    | with_reducible apply StepOk.jump
    | with_reducible exact StepOk.done hx
    | with_reducible exact StepOk.fault _
    | with_reducible apply StepOk.stall
    | with_reducible apply CoreOk.setD
    | with_reducible apply CoreOk.setXf
    | with_reducible apply CoreOk.setAcc
    | with_reducible apply CoreOk.setData
    | with_reducible apply CoreOk.modify
    | with_reducible apply CoreOk.zn
    | with_reducible apply CoreOk.flagsAdd
    | with_reducible apply CoreOk.flagsSub
    | with_reducible apply CoreOk.startLoop
    | with_reducible apply CoreOk.setLoop
    | with_reducible apply Canon.setFld
    | with_reducible apply Canon.addFld
    | with_reducible apply Canon.raise
    | with_reducible apply Canon.ancRead
    | with_reducible apply Canon.ancPush
    | with_reducible apply Canon.ancMark
    | with_reducible apply Canon.ancRelease
    | with_reducible apply Canon.updSlot
    | with_reducible refine CanonO.of (by with_reducible assumption) ?_
    | with_reducible apply Canon.ancRewind
    | with_reducible apply StepOk.pushNow
    | with_reducible apply StepOk.startProbeLoop
    | split
    | dsimp only
    | exact CoreOk.of_eq hx rfl rfl
    | exact CoreOk.of_eq (CoreOk.setD (CoreOk.setD hx _ _) _ _) rfl rfl

theorem Canon.on_execCall {s : State} (h : Canon z s) (c : Fin 32) : CanonX z (execCall c s) := CanonX.next (h.probeRow _ _ _ SemOk.semCall)

theorem Canon.on_execRet {s : State} (h : Canon z s) (c : Fin 32) : CanonX z (execRet c s) := CanonX.next (h.probeRow _ _ _ SemOk.semRet)

theorem Canon.on_execLp {s : State} (h : Canon z s) (c : Fin 32) : CanonX z (execLp c s) := by
  refine CanonX.next (h.probeRow _ _ _ ?_)
  intro s c w pc x h hx
  try unfold Machine.putZn
  try unfold Machine.putSum
  repeat' first
    | with_reducible assumption
    | with_reducible apply StepOk.ite
    | with_reducible apply StepOk.next
    | with_reducible apply StepOk.jump
    | with_reducible exact StepOk.done hx
    | with_reducible exact StepOk.fault _
    | with_reducible apply StepOk.stall
    | with_reducible apply CoreOk.setD
    | with_reducible apply CoreOk.setXf
    | with_reducible apply CoreOk.setAcc
    | with_reducible apply CoreOk.setData
    | with_reducible apply CoreOk.modify
    | with_reducible apply CoreOk.zn
    | with_reducible apply CoreOk.flagsAdd
    | with_reducible apply CoreOk.flagsSub
    | with_reducible apply CoreOk.startLoop
    | with_reducible apply CoreOk.setLoop
    | with_reducible apply Canon.setFld
    | with_reducible apply Canon.addFld
    | with_reducible apply Canon.raise
    | with_reducible apply Canon.ancRead
    | with_reducible apply Canon.ancPush
    | with_reducible apply Canon.ancMark
    | with_reducible apply Canon.ancRelease
    | with_reducible apply Canon.updSlot
    | with_reducible refine CanonO.of (by with_reducible assumption) ?_
    | with_reducible apply Canon.ancRewind
    | with_reducible apply StepOk.pushNow
    | with_reducible apply StepOk.startProbeLoop
    | split
    | dsimp only
    | exact CoreOk.of_eq hx rfl rfl
    | exact CoreOk.of_eq (CoreOk.setD (CoreOk.setD hx _ _) _ _) rfl rfl

theorem Canon.on_execLpr {s : State} (h : Canon z s) (c : Fin 32) : CanonX z (execLpr c s) := by
  refine CanonX.next (h.probeRow _ _ _ ?_)
  intro s c w pc x h hx
  try unfold Machine.putZn
  try unfold Machine.putSum
  repeat' first
    | with_reducible assumption
    | with_reducible apply StepOk.ite
    | with_reducible apply StepOk.next
    | with_reducible apply StepOk.jump
    | with_reducible exact StepOk.done hx
    | with_reducible exact StepOk.fault _
    | with_reducible apply StepOk.stall
    | with_reducible apply CoreOk.setD
    | with_reducible apply CoreOk.setXf
    | with_reducible apply CoreOk.setAcc
    | with_reducible apply CoreOk.setData
    | with_reducible apply CoreOk.modify
    | with_reducible apply CoreOk.zn
    | with_reducible apply CoreOk.flagsAdd
    | with_reducible apply CoreOk.flagsSub
    | with_reducible apply CoreOk.startLoop
    | with_reducible apply CoreOk.setLoop
    | with_reducible apply Canon.setFld
    | with_reducible apply Canon.addFld
    | with_reducible apply Canon.raise
    | with_reducible apply Canon.ancRead
    | with_reducible apply Canon.ancPush
    | with_reducible apply Canon.ancMark
    | with_reducible apply Canon.ancRelease
    | with_reducible apply Canon.updSlot
    | with_reducible refine CanonO.of (by with_reducible assumption) ?_
    | with_reducible apply Canon.ancRewind
    | with_reducible apply StepOk.pushNow
    | with_reducible apply StepOk.startProbeLoop
    | split
    | dsimp only
    | exact CoreOk.of_eq hx rfl rfl
    | exact CoreOk.of_eq (CoreOk.setD (CoreOk.setD hx _ _) _ _) rfl rfl

theorem Canon.on_execLpx {s : State} (h : Canon z s) (c : Fin 32) : CanonX z (execLpx c s) := by
  refine CanonX.next (h.probeRow _ _ _ ?_)
  intro s c w pc x h hx
  try unfold Machine.putZn
  try unfold Machine.putSum
  repeat' first
    | with_reducible assumption
    | with_reducible apply StepOk.ite
    | with_reducible apply StepOk.next
    | with_reducible apply StepOk.jump
    | with_reducible exact StepOk.done hx
    | with_reducible exact StepOk.fault _
    | with_reducible apply StepOk.stall
    | with_reducible apply CoreOk.setD
    | with_reducible apply CoreOk.setXf
    | with_reducible apply CoreOk.setAcc
    | with_reducible apply CoreOk.setData
    | with_reducible apply CoreOk.modify
    | with_reducible apply CoreOk.zn
    | with_reducible apply CoreOk.flagsAdd
    | with_reducible apply CoreOk.flagsSub
    | with_reducible apply CoreOk.startLoop
    | with_reducible apply CoreOk.setLoop
    | with_reducible apply Canon.setFld
    | with_reducible apply Canon.addFld
    | with_reducible apply Canon.raise
    | with_reducible apply Canon.ancRead
    | with_reducible apply Canon.ancPush
    | with_reducible apply Canon.ancMark
    | with_reducible apply Canon.ancRelease
    | with_reducible apply Canon.updSlot
    | with_reducible refine CanonO.of (by with_reducible assumption) ?_
    | with_reducible apply Canon.ancRewind
    | with_reducible apply StepOk.pushNow
    | with_reducible apply StepOk.startProbeLoop
    | split
    | dsimp only
    | exact CoreOk.of_eq hx rfl rfl
    | exact CoreOk.of_eq (CoreOk.setD (CoreOk.setD hx _ _) _ _) rfl rfl

theorem Canon.on_execLdi {s : State} (h : Canon z s) (c : Fin 32) : CanonX z (execLdi c s) := by
  refine CanonX.next (h.probeRow _ _ _ ?_)
  intro s c w pc x h hx
  try unfold Machine.putZn
  try unfold Machine.putSum
  repeat' first
    | with_reducible assumption
    | with_reducible apply StepOk.ite
    | with_reducible apply StepOk.next
    | with_reducible apply StepOk.jump
    | with_reducible exact StepOk.done hx
    | with_reducible exact StepOk.fault _
    | with_reducible apply StepOk.stall
    | with_reducible apply CoreOk.setD
    | with_reducible apply CoreOk.setXf
    | with_reducible apply CoreOk.setAcc
    | with_reducible apply CoreOk.setData
    | with_reducible apply CoreOk.modify
    | with_reducible apply CoreOk.zn
    | with_reducible apply CoreOk.flagsAdd
    | with_reducible apply CoreOk.flagsSub
    | with_reducible apply CoreOk.startLoop
    | with_reducible apply CoreOk.setLoop
    | with_reducible apply Canon.setFld
    | with_reducible apply Canon.addFld
    | with_reducible apply Canon.raise
    | with_reducible apply Canon.ancRead
    | with_reducible apply Canon.ancPush
    | with_reducible apply Canon.ancMark
    | with_reducible apply Canon.ancRelease
    | with_reducible apply Canon.updSlot
    | with_reducible refine CanonO.of (by with_reducible assumption) ?_
    | with_reducible apply Canon.ancRewind
    | with_reducible apply StepOk.pushNow
    | with_reducible apply StepOk.startProbeLoop
    | split
    | dsimp only
    | exact CoreOk.of_eq hx rfl rfl
    | exact CoreOk.of_eq (CoreOk.setD (CoreOk.setD hx _ _) _ _) rfl rfl

theorem Canon.on_execMov {s : State} (h : Canon z s) (c : Fin 32) : CanonX z (execMov c s) := by
  refine CanonX.next (h.probeRow _ _ _ ?_)
  intro s c w pc x h hx
  try unfold Machine.putZn
  try unfold Machine.putSum
  repeat' first
    | with_reducible assumption
    | with_reducible apply StepOk.ite
    | with_reducible apply StepOk.next
    | with_reducible apply StepOk.jump
    | with_reducible exact StepOk.done hx
    | with_reducible exact StepOk.fault _
    | with_reducible apply StepOk.stall
    | with_reducible apply CoreOk.setD
    | with_reducible apply CoreOk.setXf
    | with_reducible apply CoreOk.setAcc
    | with_reducible apply CoreOk.setData
    | with_reducible apply CoreOk.modify
    | with_reducible apply CoreOk.zn
    | with_reducible apply CoreOk.flagsAdd
    | with_reducible apply CoreOk.flagsSub
    | with_reducible apply CoreOk.startLoop
    | with_reducible apply CoreOk.setLoop
    | with_reducible apply Canon.setFld
    | with_reducible apply Canon.addFld
    | with_reducible apply Canon.raise
    | with_reducible apply Canon.ancRead
    | with_reducible apply Canon.ancPush
    | with_reducible apply Canon.ancMark
    | with_reducible apply Canon.ancRelease
    | with_reducible apply Canon.updSlot
    | with_reducible refine CanonO.of (by with_reducible assumption) ?_
    | with_reducible apply Canon.ancRewind
    | with_reducible apply StepOk.pushNow
    | with_reducible apply StepOk.startProbeLoop
    | split
    | dsimp only
    | exact CoreOk.of_eq hx rfl rfl
    | exact CoreOk.of_eq (CoreOk.setD (CoreOk.setD hx _ _) _ _) rfl rfl

theorem Canon.on_execAdd {s : State} (h : Canon z s) (c : Fin 32) : CanonX z (execAdd c s) := by
  refine CanonX.next (h.probeRow _ _ _ ?_)
  intro s c w pc x h hx
  try unfold Machine.putZn
  try unfold Machine.putSum
  repeat' first
    | with_reducible assumption
    | with_reducible apply StepOk.ite
    | with_reducible apply StepOk.next
    | with_reducible apply StepOk.jump
    | with_reducible exact StepOk.done hx
    | with_reducible exact StepOk.fault _
    | with_reducible apply StepOk.stall
    | with_reducible apply CoreOk.setD
    | with_reducible apply CoreOk.setXf
    | with_reducible apply CoreOk.setAcc
    | with_reducible apply CoreOk.setData
    | with_reducible apply CoreOk.modify
    | with_reducible apply CoreOk.zn
    | with_reducible apply CoreOk.flagsAdd
    | with_reducible apply CoreOk.flagsSub
    | with_reducible apply CoreOk.startLoop
    | with_reducible apply CoreOk.setLoop
    | with_reducible apply Canon.setFld
    | with_reducible apply Canon.addFld
    | with_reducible apply Canon.raise
    | with_reducible apply Canon.ancRead
    | with_reducible apply Canon.ancPush
    | with_reducible apply Canon.ancMark
    | with_reducible apply Canon.ancRelease
    | with_reducible apply Canon.updSlot
    | with_reducible refine CanonO.of (by with_reducible assumption) ?_
    | with_reducible apply Canon.ancRewind
    | with_reducible apply StepOk.pushNow
    | with_reducible apply StepOk.startProbeLoop
    | split
    | dsimp only
    | exact CoreOk.of_eq hx rfl rfl
    | exact CoreOk.of_eq (CoreOk.setD (CoreOk.setD hx _ _) _ _) rfl rfl

theorem Canon.on_execSub {s : State} (h : Canon z s) (c : Fin 32) : CanonX z (execSub c s) := by
  refine CanonX.next (h.probeRow _ _ _ ?_)
  intro s c w pc x h hx
  try unfold Machine.putZn
  try unfold Machine.putSum
  repeat' first
    | with_reducible assumption
    | with_reducible apply StepOk.ite
    | with_reducible apply StepOk.next
    | with_reducible apply StepOk.jump
    | with_reducible exact StepOk.done hx
    | with_reducible exact StepOk.fault _
    | with_reducible apply StepOk.stall
    | with_reducible apply CoreOk.setD
    | with_reducible apply CoreOk.setXf
    | with_reducible apply CoreOk.setAcc
    | with_reducible apply CoreOk.setData
    | with_reducible apply CoreOk.modify
    | with_reducible apply CoreOk.zn
    | with_reducible apply CoreOk.flagsAdd
    | with_reducible apply CoreOk.flagsSub
    | with_reducible apply CoreOk.startLoop
    | with_reducible apply CoreOk.setLoop
    | with_reducible apply Canon.setFld
    | with_reducible apply Canon.addFld
    | with_reducible apply Canon.raise
    | with_reducible apply Canon.ancRead
    | with_reducible apply Canon.ancPush
    | with_reducible apply Canon.ancMark
    | with_reducible apply Canon.ancRelease
    | with_reducible apply Canon.updSlot
    | with_reducible refine CanonO.of (by with_reducible assumption) ?_
    | with_reducible apply Canon.ancRewind
    | with_reducible apply StepOk.pushNow
    | with_reducible apply StepOk.startProbeLoop
    | split
    | dsimp only
    | exact CoreOk.of_eq hx rfl rfl
    | exact CoreOk.of_eq (CoreOk.setD (CoreOk.setD hx _ _) _ _) rfl rfl

theorem Canon.on_execAndReg {s : State} (h : Canon z s) (c : Fin 32) : CanonX z (execAndReg c s) := by
  refine CanonX.next (h.probeRow _ _ _ ?_)
  intro s c w pc x h hx
  try unfold Machine.putZn
  try unfold Machine.putSum
  repeat' first
    | with_reducible assumption
    | with_reducible apply StepOk.ite
    | with_reducible apply StepOk.next
    | with_reducible apply StepOk.jump
    | with_reducible exact StepOk.done hx
    | with_reducible exact StepOk.fault _
    | with_reducible apply StepOk.stall
    | with_reducible apply CoreOk.setD
    | with_reducible apply CoreOk.setXf
    | with_reducible apply CoreOk.setAcc
    | with_reducible apply CoreOk.setData
    | with_reducible apply CoreOk.modify
    | with_reducible apply CoreOk.zn
    | with_reducible apply CoreOk.flagsAdd
    | with_reducible apply CoreOk.flagsSub
    | with_reducible apply CoreOk.startLoop
    | with_reducible apply CoreOk.setLoop
    | with_reducible apply Canon.setFld
    | with_reducible apply Canon.addFld
    | with_reducible apply Canon.raise
    | with_reducible apply Canon.ancRead
    | with_reducible apply Canon.ancPush
    | with_reducible apply Canon.ancMark
    | with_reducible apply Canon.ancRelease
    | with_reducible apply Canon.updSlot
    | with_reducible refine CanonO.of (by with_reducible assumption) ?_
    | with_reducible apply Canon.ancRewind
    | with_reducible apply StepOk.pushNow
    | with_reducible apply StepOk.startProbeLoop
    | split
    | dsimp only
    | exact CoreOk.of_eq hx rfl rfl
    | exact CoreOk.of_eq (CoreOk.setD (CoreOk.setD hx _ _) _ _) rfl rfl

theorem Canon.on_execOrReg {s : State} (h : Canon z s) (c : Fin 32) : CanonX z (execOrReg c s) := by
  refine CanonX.next (h.probeRow _ _ _ ?_)
  intro s c w pc x h hx
  try unfold Machine.putZn
  try unfold Machine.putSum
  repeat' first
    | with_reducible assumption
    | with_reducible apply StepOk.ite
    | with_reducible apply StepOk.next
    | with_reducible apply StepOk.jump
    | with_reducible exact StepOk.done hx
    | with_reducible exact StepOk.fault _
    | with_reducible apply StepOk.stall
    | with_reducible apply CoreOk.setD
    | with_reducible apply CoreOk.setXf
    | with_reducible apply CoreOk.setAcc
    | with_reducible apply CoreOk.setData
    | with_reducible apply CoreOk.modify
    | with_reducible apply CoreOk.zn
    | with_reducible apply CoreOk.flagsAdd
    | with_reducible apply CoreOk.flagsSub
    | with_reducible apply CoreOk.startLoop
    | with_reducible apply CoreOk.setLoop
    | with_reducible apply Canon.setFld
    | with_reducible apply Canon.addFld
    | with_reducible apply Canon.raise
    | with_reducible apply Canon.ancRead
    | with_reducible apply Canon.ancPush
    | with_reducible apply Canon.ancMark
    | with_reducible apply Canon.ancRelease
    | with_reducible apply Canon.updSlot
    | with_reducible refine CanonO.of (by with_reducible assumption) ?_
    | with_reducible apply Canon.ancRewind
    | with_reducible apply StepOk.pushNow
    | with_reducible apply StepOk.startProbeLoop
    | split
    | dsimp only
    | exact CoreOk.of_eq hx rfl rfl
    | exact CoreOk.of_eq (CoreOk.setD (CoreOk.setD hx _ _) _ _) rfl rfl

theorem Canon.on_execXorReg {s : State} (h : Canon z s) (c : Fin 32) : CanonX z (execXorReg c s) := by
  refine CanonX.next (h.probeRow _ _ _ ?_)
  intro s c w pc x h hx
  try unfold Machine.putZn
  try unfold Machine.putSum
  repeat' first
    | with_reducible assumption
    | with_reducible apply StepOk.ite
    | with_reducible apply StepOk.next
    | with_reducible apply StepOk.jump
    | with_reducible exact StepOk.done hx
    | with_reducible exact StepOk.fault _
    | with_reducible apply StepOk.stall
    | with_reducible apply CoreOk.setD
    | with_reducible apply CoreOk.setXf
    | with_reducible apply CoreOk.setAcc
    | with_reducible apply CoreOk.setData
    | with_reducible apply CoreOk.modify
    | with_reducible apply CoreOk.zn
    | with_reducible apply CoreOk.flagsAdd
    | with_reducible apply CoreOk.flagsSub
    | with_reducible apply CoreOk.startLoop
    | with_reducible apply CoreOk.setLoop
    | with_reducible apply Canon.setFld
    | with_reducible apply Canon.addFld
    | with_reducible apply Canon.raise
    | with_reducible apply Canon.ancRead
    | with_reducible apply Canon.ancPush
    | with_reducible apply Canon.ancMark
    | with_reducible apply Canon.ancRelease
    | with_reducible apply Canon.updSlot
    | with_reducible refine CanonO.of (by with_reducible assumption) ?_
    | with_reducible apply Canon.ancRewind
    | with_reducible apply StepOk.pushNow
    | with_reducible apply StepOk.startProbeLoop
    | split
    | dsimp only
    | exact CoreOk.of_eq hx rfl rfl
    | exact CoreOk.of_eq (CoreOk.setD (CoreOk.setD hx _ _) _ _) rfl rfl

theorem Canon.on_execCmp {s : State} (h : Canon z s) (c : Fin 32) : CanonX z (execCmp c s) := by
  refine CanonX.next (h.probeRow _ _ _ ?_)
  intro s c w pc x h hx
  try unfold Machine.putZn
  try unfold Machine.putSum
  repeat' first
    | with_reducible assumption
    | with_reducible apply StepOk.ite
    | with_reducible apply StepOk.next
    | with_reducible apply StepOk.jump
    | with_reducible exact StepOk.done hx
    | with_reducible exact StepOk.fault _
    | with_reducible apply StepOk.stall
    | with_reducible apply CoreOk.setD
    | with_reducible apply CoreOk.setXf
    | with_reducible apply CoreOk.setAcc
    | with_reducible apply CoreOk.setData
    | with_reducible apply CoreOk.modify
    | with_reducible apply CoreOk.zn
    | with_reducible apply CoreOk.flagsAdd
    | with_reducible apply CoreOk.flagsSub
    | with_reducible apply CoreOk.startLoop
    | with_reducible apply CoreOk.setLoop
    | with_reducible apply Canon.setFld
    | with_reducible apply Canon.addFld
    | with_reducible apply Canon.raise
    | with_reducible apply Canon.ancRead
    | with_reducible apply Canon.ancPush
    | with_reducible apply Canon.ancMark
    | with_reducible apply Canon.ancRelease
    | with_reducible apply Canon.updSlot
    | with_reducible refine CanonO.of (by with_reducible assumption) ?_
    | with_reducible apply Canon.ancRewind
    | with_reducible apply StepOk.pushNow
    | with_reducible apply StepOk.startProbeLoop
    | split
    | dsimp only
    | exact CoreOk.of_eq hx rfl rfl
    | exact CoreOk.of_eq (CoreOk.setD (CoreOk.setD hx _ _) _ _) rfl rfl

theorem Canon.on_execAddi {s : State} (h : Canon z s) (c : Fin 32) : CanonX z (execAddi c s) := by
  refine CanonX.next (h.probeRow _ _ _ ?_)
  intro s c w pc x h hx
  try unfold Machine.putZn
  try unfold Machine.putSum
  repeat' first
    | with_reducible assumption
    | with_reducible apply StepOk.ite
    | with_reducible apply StepOk.next
    | with_reducible apply StepOk.jump
    | with_reducible exact StepOk.done hx
    | with_reducible exact StepOk.fault _
    | with_reducible apply StepOk.stall
    | with_reducible apply CoreOk.setD
    | with_reducible apply CoreOk.setXf
    | with_reducible apply CoreOk.setAcc
    | with_reducible apply CoreOk.setData
    | with_reducible apply CoreOk.modify
    | with_reducible apply CoreOk.zn
    | with_reducible apply CoreOk.flagsAdd
    | with_reducible apply CoreOk.flagsSub
    | with_reducible apply CoreOk.startLoop
    | with_reducible apply CoreOk.setLoop
    | with_reducible apply Canon.setFld
    | with_reducible apply Canon.addFld
    | with_reducible apply Canon.raise
    | with_reducible apply Canon.ancRead
    | with_reducible apply Canon.ancPush
    | with_reducible apply Canon.ancMark
    | with_reducible apply Canon.ancRelease
    | with_reducible apply Canon.updSlot
    | with_reducible refine CanonO.of (by with_reducible assumption) ?_
    | with_reducible apply Canon.ancRewind
    | with_reducible apply StepOk.pushNow
    | with_reducible apply StepOk.startProbeLoop
    | split
    | dsimp only
    | exact CoreOk.of_eq hx rfl rfl
    | exact CoreOk.of_eq (CoreOk.setD (CoreOk.setD hx _ _) _ _) rfl rfl

theorem Canon.on_execCmpi {s : State} (h : Canon z s) (c : Fin 32) : CanonX z (execCmpi c s) := by
  refine CanonX.next (h.probeRow _ _ _ ?_)
  intro s c w pc x h hx
  try unfold Machine.putZn
  try unfold Machine.putSum
  repeat' first
    | with_reducible assumption
    | with_reducible apply StepOk.ite
    | with_reducible apply StepOk.next
    | with_reducible apply StepOk.jump
    | with_reducible exact StepOk.done hx
    | with_reducible exact StepOk.fault _
    | with_reducible apply StepOk.stall
    | with_reducible apply CoreOk.setD
    | with_reducible apply CoreOk.setXf
    | with_reducible apply CoreOk.setAcc
    | with_reducible apply CoreOk.setData
    | with_reducible apply CoreOk.modify
    | with_reducible apply CoreOk.zn
    | with_reducible apply CoreOk.flagsAdd
    | with_reducible apply CoreOk.flagsSub
    | with_reducible apply CoreOk.startLoop
    | with_reducible apply CoreOk.setLoop
    | with_reducible apply Canon.setFld
    | with_reducible apply Canon.addFld
    | with_reducible apply Canon.raise
    | with_reducible apply Canon.ancRead
    | with_reducible apply Canon.ancPush
    | with_reducible apply Canon.ancMark
    | with_reducible apply Canon.ancRelease
    | with_reducible apply Canon.updSlot
    | with_reducible refine CanonO.of (by with_reducible assumption) ?_
    | with_reducible apply Canon.ancRewind
    | with_reducible apply StepOk.pushNow
    | with_reducible apply StepOk.startProbeLoop
    | split
    | dsimp only
    | exact CoreOk.of_eq hx rfl rfl
    | exact CoreOk.of_eq (CoreOk.setD (CoreOk.setD hx _ _) _ _) rfl rfl

theorem Canon.on_execAndi {s : State} (h : Canon z s) (c : Fin 32) : CanonX z (execAndi c s) := by
  refine CanonX.next (h.probeRow _ _ _ ?_)
  intro s c w pc x h hx
  try unfold Machine.putZn
  try unfold Machine.putSum
  repeat' first
    | with_reducible assumption
    | with_reducible apply StepOk.ite
    | with_reducible apply StepOk.next
    | with_reducible apply StepOk.jump
    | with_reducible exact StepOk.done hx
    | with_reducible exact StepOk.fault _
    | with_reducible apply StepOk.stall
    | with_reducible apply CoreOk.setD
    | with_reducible apply CoreOk.setXf
    | with_reducible apply CoreOk.setAcc
    | with_reducible apply CoreOk.setData
    | with_reducible apply CoreOk.modify
    | with_reducible apply CoreOk.zn
    | with_reducible apply CoreOk.flagsAdd
    | with_reducible apply CoreOk.flagsSub
    | with_reducible apply CoreOk.startLoop
    | with_reducible apply CoreOk.setLoop
    | with_reducible apply Canon.setFld
    | with_reducible apply Canon.addFld
    | with_reducible apply Canon.raise
    | with_reducible apply Canon.ancRead
    | with_reducible apply Canon.ancPush
    | with_reducible apply Canon.ancMark
    | with_reducible apply Canon.ancRelease
    | with_reducible apply Canon.updSlot
    | with_reducible refine CanonO.of (by with_reducible assumption) ?_
    | with_reducible apply Canon.ancRewind
    | with_reducible apply StepOk.pushNow
    | with_reducible apply StepOk.startProbeLoop
    | split
    | dsimp only
    | exact CoreOk.of_eq hx rfl rfl
    | exact CoreOk.of_eq (CoreOk.setD (CoreOk.setD hx _ _) _ _) rfl rfl

theorem Canon.on_execShl {s : State} (h : Canon z s) (c : Fin 32) : CanonX z (execShl c s) := by
  refine CanonX.next (h.probeRow _ _ _ ?_)
  intro s c w pc x h hx
  try unfold Machine.putZn
  try unfold Machine.putSum
  repeat' first
    | with_reducible assumption
    | with_reducible apply StepOk.ite
    | with_reducible apply StepOk.next
    | with_reducible apply StepOk.jump
    | with_reducible exact StepOk.done hx
    | with_reducible exact StepOk.fault _
    | with_reducible apply StepOk.stall
    | with_reducible apply CoreOk.setD
    | with_reducible apply CoreOk.setXf
    | with_reducible apply CoreOk.setAcc
    | with_reducible apply CoreOk.setData
    | with_reducible apply CoreOk.modify
    | with_reducible apply CoreOk.zn
    | with_reducible apply CoreOk.flagsAdd
    | with_reducible apply CoreOk.flagsSub
    | with_reducible apply CoreOk.startLoop
    | with_reducible apply CoreOk.setLoop
    | with_reducible apply Canon.setFld
    | with_reducible apply Canon.addFld
    | with_reducible apply Canon.raise
    | with_reducible apply Canon.ancRead
    | with_reducible apply Canon.ancPush
    | with_reducible apply Canon.ancMark
    | with_reducible apply Canon.ancRelease
    | with_reducible apply Canon.updSlot
    | with_reducible refine CanonO.of (by with_reducible assumption) ?_
    | with_reducible apply Canon.ancRewind
    | with_reducible apply StepOk.pushNow
    | with_reducible apply StepOk.startProbeLoop
    | split
    | dsimp only
    | exact CoreOk.of_eq hx rfl rfl
    | exact CoreOk.of_eq (CoreOk.setD (CoreOk.setD hx _ _) _ _) rfl rfl

theorem Canon.on_execShr {s : State} (h : Canon z s) (c : Fin 32) : CanonX z (execShr c s) := by
  refine CanonX.next (h.probeRow _ _ _ ?_)
  intro s c w pc x h hx
  try unfold Machine.putZn
  try unfold Machine.putSum
  repeat' first
    | with_reducible assumption
    | with_reducible apply StepOk.ite
    | with_reducible apply StepOk.next
    | with_reducible apply StepOk.jump
    | with_reducible exact StepOk.done hx
    | with_reducible exact StepOk.fault _
    | with_reducible apply StepOk.stall
    | with_reducible apply CoreOk.setD
    | with_reducible apply CoreOk.setXf
    | with_reducible apply CoreOk.setAcc
    | with_reducible apply CoreOk.setData
    | with_reducible apply CoreOk.modify
    | with_reducible apply CoreOk.zn
    | with_reducible apply CoreOk.flagsAdd
    | with_reducible apply CoreOk.flagsSub
    | with_reducible apply CoreOk.startLoop
    | with_reducible apply CoreOk.setLoop
    | with_reducible apply Canon.setFld
    | with_reducible apply Canon.addFld
    | with_reducible apply Canon.raise
    | with_reducible apply Canon.ancRead
    | with_reducible apply Canon.ancPush
    | with_reducible apply Canon.ancMark
    | with_reducible apply Canon.ancRelease
    | with_reducible apply Canon.updSlot
    | with_reducible refine CanonO.of (by with_reducible assumption) ?_
    | with_reducible apply Canon.ancRewind
    | with_reducible apply StepOk.pushNow
    | with_reducible apply StepOk.startProbeLoop
    | split
    | dsimp only
    | exact CoreOk.of_eq hx rfl rfl
    | exact CoreOk.of_eq (CoreOk.setD (CoreOk.setD hx _ _) _ _) rfl rfl

theorem Canon.on_execSra {s : State} (h : Canon z s) (c : Fin 32) : CanonX z (execSra c s) := by
  refine CanonX.next (h.probeRow _ _ _ ?_)
  intro s c w pc x h hx
  try unfold Machine.putZn
  try unfold Machine.putSum
  repeat' first
    | with_reducible assumption
    | with_reducible apply StepOk.ite
    | with_reducible apply StepOk.next
    | with_reducible apply StepOk.jump
    | with_reducible exact StepOk.done hx
    | with_reducible exact StepOk.fault _
    | with_reducible apply StepOk.stall
    | with_reducible apply CoreOk.setD
    | with_reducible apply CoreOk.setXf
    | with_reducible apply CoreOk.setAcc
    | with_reducible apply CoreOk.setData
    | with_reducible apply CoreOk.modify
    | with_reducible apply CoreOk.zn
    | with_reducible apply CoreOk.flagsAdd
    | with_reducible apply CoreOk.flagsSub
    | with_reducible apply CoreOk.startLoop
    | with_reducible apply CoreOk.setLoop
    | with_reducible apply Canon.setFld
    | with_reducible apply Canon.addFld
    | with_reducible apply Canon.raise
    | with_reducible apply Canon.ancRead
    | with_reducible apply Canon.ancPush
    | with_reducible apply Canon.ancMark
    | with_reducible apply Canon.ancRelease
    | with_reducible apply Canon.updSlot
    | with_reducible refine CanonO.of (by with_reducible assumption) ?_
    | with_reducible apply Canon.ancRewind
    | with_reducible apply StepOk.pushNow
    | with_reducible apply StepOk.startProbeLoop
    | split
    | dsimp only
    | exact CoreOk.of_eq hx rfl rfl
    | exact CoreOk.of_eq (CoreOk.setD (CoreOk.setD hx _ _) _ _) rfl rfl

theorem Canon.on_execAbsReg {s : State} (h : Canon z s) (c : Fin 32) : CanonX z (execAbsReg c s) := CanonX.next (h.probeRow _ _ _ SemOk.semAbs)

theorem Canon.on_execMinReg {s : State} (h : Canon z s) (c : Fin 32) : CanonX z (execMinReg c s) := by
  refine CanonX.next (h.probeRow _ _ _ ?_)
  intro s c w pc x h hx
  try unfold Machine.putZn
  try unfold Machine.putSum
  repeat' first
    | with_reducible assumption
    | with_reducible apply StepOk.ite
    | with_reducible apply StepOk.next
    | with_reducible apply StepOk.jump
    | with_reducible exact StepOk.done hx
    | with_reducible exact StepOk.fault _
    | with_reducible apply StepOk.stall
    | with_reducible apply CoreOk.setD
    | with_reducible apply CoreOk.setXf
    | with_reducible apply CoreOk.setAcc
    | with_reducible apply CoreOk.setData
    | with_reducible apply CoreOk.modify
    | with_reducible apply CoreOk.zn
    | with_reducible apply CoreOk.flagsAdd
    | with_reducible apply CoreOk.flagsSub
    | with_reducible apply CoreOk.startLoop
    | with_reducible apply CoreOk.setLoop
    | with_reducible apply Canon.setFld
    | with_reducible apply Canon.addFld
    | with_reducible apply Canon.raise
    | with_reducible apply Canon.ancRead
    | with_reducible apply Canon.ancPush
    | with_reducible apply Canon.ancMark
    | with_reducible apply Canon.ancRelease
    | with_reducible apply Canon.updSlot
    | with_reducible refine CanonO.of (by with_reducible assumption) ?_
    | with_reducible apply Canon.ancRewind
    | with_reducible apply StepOk.pushNow
    | with_reducible apply StepOk.startProbeLoop
    | split
    | dsimp only
    | exact CoreOk.of_eq hx rfl rfl
    | exact CoreOk.of_eq (CoreOk.setD (CoreOk.setD hx _ _) _ _) rfl rfl

theorem Canon.on_execMaxReg {s : State} (h : Canon z s) (c : Fin 32) : CanonX z (execMaxReg c s) := by
  refine CanonX.next (h.probeRow _ _ _ ?_)
  intro s c w pc x h hx
  try unfold Machine.putZn
  try unfold Machine.putSum
  repeat' first
    | with_reducible assumption
    | with_reducible apply StepOk.ite
    | with_reducible apply StepOk.next
    | with_reducible apply StepOk.jump
    | with_reducible exact StepOk.done hx
    | with_reducible exact StepOk.fault _
    | with_reducible apply StepOk.stall
    | with_reducible apply CoreOk.setD
    | with_reducible apply CoreOk.setXf
    | with_reducible apply CoreOk.setAcc
    | with_reducible apply CoreOk.setData
    | with_reducible apply CoreOk.modify
    | with_reducible apply CoreOk.zn
    | with_reducible apply CoreOk.flagsAdd
    | with_reducible apply CoreOk.flagsSub
    | with_reducible apply CoreOk.startLoop
    | with_reducible apply CoreOk.setLoop
    | with_reducible apply Canon.setFld
    | with_reducible apply Canon.addFld
    | with_reducible apply Canon.raise
    | with_reducible apply Canon.ancRead
    | with_reducible apply Canon.ancPush
    | with_reducible apply Canon.ancMark
    | with_reducible apply Canon.ancRelease
    | with_reducible apply Canon.updSlot
    | with_reducible refine CanonO.of (by with_reducible assumption) ?_
    | with_reducible apply Canon.ancRewind
    | with_reducible apply StepOk.pushNow
    | with_reducible apply StepOk.startProbeLoop
    | split
    | dsimp only
    | exact CoreOk.of_eq hx rfl rfl
    | exact CoreOk.of_eq (CoreOk.setD (CoreOk.setD hx _ _) _ _) rfl rfl

theorem Canon.on_execLd {s : State} (h : Canon z s) (c : Fin 32) : CanonX z (execLd c s) := CanonX.next (h.probeRow _ _ _ SemOk.semLd)

theorem Canon.on_execSt {s : State} (h : Canon z s) (c : Fin 32) : CanonX z (execSt c s) := CanonX.next (h.probeRow _ _ _ SemOk.semSt)

theorem Canon.on_execLdd {s : State} (h : Canon z s) (c : Fin 32) : CanonX z (execLdd c s) := CanonX.next (h.probeRow _ _ _ SemOk.semLdd)

theorem Canon.on_execSetx {s : State} (h : Canon z s) (c : Fin 32) : CanonX z (execSetx c s) := by
  refine CanonX.next (h.probeRow _ _ _ ?_)
  intro s c w pc x h hx
  try unfold Machine.putZn
  try unfold Machine.putSum
  repeat' first
    | with_reducible assumption
    | with_reducible apply StepOk.ite
    | with_reducible apply StepOk.next
    | with_reducible apply StepOk.jump
    | with_reducible exact StepOk.done hx
    | with_reducible exact StepOk.fault _
    | with_reducible apply StepOk.stall
    | with_reducible apply CoreOk.setD
    | with_reducible apply CoreOk.setXf
    | with_reducible apply CoreOk.setAcc
    | with_reducible apply CoreOk.setData
    | with_reducible apply CoreOk.modify
    | with_reducible apply CoreOk.zn
    | with_reducible apply CoreOk.flagsAdd
    | with_reducible apply CoreOk.flagsSub
    | with_reducible apply CoreOk.startLoop
    | with_reducible apply CoreOk.setLoop
    | with_reducible apply Canon.setFld
    | with_reducible apply Canon.addFld
    | with_reducible apply Canon.raise
    | with_reducible apply Canon.ancRead
    | with_reducible apply Canon.ancPush
    | with_reducible apply Canon.ancMark
    | with_reducible apply Canon.ancRelease
    | with_reducible apply Canon.updSlot
    | with_reducible refine CanonO.of (by with_reducible assumption) ?_
    | with_reducible apply Canon.ancRewind
    | with_reducible apply StepOk.pushNow
    | with_reducible apply StepOk.startProbeLoop
    | split
    | dsimp only
    | exact CoreOk.of_eq hx rfl rfl
    | exact CoreOk.of_eq (CoreOk.setD (CoreOk.setD hx _ _) _ _) rfl rfl

theorem Canon.on_execMovx {s : State} (h : Canon z s) (c : Fin 32) : CanonX z (execMovx c s) := by
  refine CanonX.next (h.probeRow _ _ _ ?_)
  intro s c w pc x h hx
  try unfold Machine.putZn
  try unfold Machine.putSum
  repeat' first
    | with_reducible assumption
    | with_reducible apply StepOk.ite
    | with_reducible apply StepOk.next
    | with_reducible apply StepOk.jump
    | with_reducible exact StepOk.done hx
    | with_reducible exact StepOk.fault _
    | with_reducible apply StepOk.stall
    | with_reducible apply CoreOk.setD
    | with_reducible apply CoreOk.setXf
    | with_reducible apply CoreOk.setAcc
    | with_reducible apply CoreOk.setData
    | with_reducible apply CoreOk.modify
    | with_reducible apply CoreOk.zn
    | with_reducible apply CoreOk.flagsAdd
    | with_reducible apply CoreOk.flagsSub
    | with_reducible apply CoreOk.startLoop
    | with_reducible apply CoreOk.setLoop
    | with_reducible apply Canon.setFld
    | with_reducible apply Canon.addFld
    | with_reducible apply Canon.raise
    | with_reducible apply Canon.ancRead
    | with_reducible apply Canon.ancPush
    | with_reducible apply Canon.ancMark
    | with_reducible apply Canon.ancRelease
    | with_reducible apply Canon.updSlot
    | with_reducible refine CanonO.of (by with_reducible assumption) ?_
    | with_reducible apply Canon.ancRewind
    | with_reducible apply StepOk.pushNow
    | with_reducible apply StepOk.startProbeLoop
    | split
    | dsimp only
    | exact CoreOk.of_eq hx rfl rfl
    | exact CoreOk.of_eq (CoreOk.setD (CoreOk.setD hx _ _) _ _) rfl rfl

theorem Canon.on_execGetx {s : State} (h : Canon z s) (c : Fin 32) : CanonX z (execGetx c s) := by
  refine CanonX.next (h.probeRow _ _ _ ?_)
  intro s c w pc x h hx
  try unfold Machine.putZn
  try unfold Machine.putSum
  repeat' first
    | with_reducible assumption
    | with_reducible apply StepOk.ite
    | with_reducible apply StepOk.next
    | with_reducible apply StepOk.jump
    | with_reducible exact StepOk.done hx
    | with_reducible exact StepOk.fault _
    | with_reducible apply StepOk.stall
    | with_reducible apply CoreOk.setD
    | with_reducible apply CoreOk.setXf
    | with_reducible apply CoreOk.setAcc
    | with_reducible apply CoreOk.setData
    | with_reducible apply CoreOk.modify
    | with_reducible apply CoreOk.zn
    | with_reducible apply CoreOk.flagsAdd
    | with_reducible apply CoreOk.flagsSub
    | with_reducible apply CoreOk.startLoop
    | with_reducible apply CoreOk.setLoop
    | with_reducible apply Canon.setFld
    | with_reducible apply Canon.addFld
    | with_reducible apply Canon.raise
    | with_reducible apply Canon.ancRead
    | with_reducible apply Canon.ancPush
    | with_reducible apply Canon.ancMark
    | with_reducible apply Canon.ancRelease
    | with_reducible apply Canon.updSlot
    | with_reducible refine CanonO.of (by with_reducible assumption) ?_
    | with_reducible apply Canon.ancRewind
    | with_reducible apply StepOk.pushNow
    | with_reducible apply StepOk.startProbeLoop
    | split
    | dsimp only
    | exact CoreOk.of_eq hx rfl rfl
    | exact CoreOk.of_eq (CoreOk.setD (CoreOk.setD hx _ _) _ _) rfl rfl

theorem Canon.on_execGets {s : State} (h : Canon z s) (c : Fin 32) : CanonX z (execGets c s) := CanonX.next (h.probeRow _ _ _ SemOk.semGets)

theorem Canon.on_execMpy {s : State} (h : Canon z s) (c : Fin 32) : CanonX z (execMpy c s) := CanonX.next (h.probeRow _ _ _ (SemOk.product _))

theorem Canon.on_execMac {s : State} (h : Canon z s) (c : Fin 32) : CanonX z (execMac c s) := CanonX.next (h.probeRow _ _ _ (SemOk.product _))

theorem Canon.on_execMsu {s : State} (h : Canon z s) (c : Fin 32) : CanonX z (execMsu c s) := CanonX.next (h.probeRow _ _ _ (SemOk.product _))

theorem Canon.on_execAda {s : State} (h : Canon z s) (c : Fin 32) : CanonX z (execAda c s) := CanonX.next (h.probeRow _ _ _ SemOk.semAda)

theorem Canon.on_execClra {s : State} (h : Canon z s) (c : Fin 32) : CanonX z (execClra c s) := by
  refine CanonX.next (h.probeRow _ _ _ ?_)
  intro s c w pc x h hx
  try unfold Machine.putZn
  try unfold Machine.putSum
  repeat' first
    | with_reducible assumption
    | with_reducible apply StepOk.ite
    | with_reducible apply StepOk.next
    | with_reducible apply StepOk.jump
    | with_reducible exact StepOk.done hx
    | with_reducible exact StepOk.fault _
    | with_reducible apply StepOk.stall
    | with_reducible apply CoreOk.setD
    | with_reducible apply CoreOk.setXf
    | with_reducible apply CoreOk.setAcc
    | with_reducible apply CoreOk.setData
    | with_reducible apply CoreOk.modify
    | with_reducible apply CoreOk.zn
    | with_reducible apply CoreOk.flagsAdd
    | with_reducible apply CoreOk.flagsSub
    | with_reducible apply CoreOk.startLoop
    | with_reducible apply CoreOk.setLoop
    | with_reducible apply Canon.setFld
    | with_reducible apply Canon.addFld
    | with_reducible apply Canon.raise
    | with_reducible apply Canon.ancRead
    | with_reducible apply Canon.ancPush
    | with_reducible apply Canon.ancMark
    | with_reducible apply Canon.ancRelease
    | with_reducible apply Canon.updSlot
    | with_reducible refine CanonO.of (by with_reducible assumption) ?_
    | with_reducible apply Canon.ancRewind
    | with_reducible apply StepOk.pushNow
    | with_reducible apply StepOk.startProbeLoop
    | split
    | dsimp only
    | exact CoreOk.of_eq hx rfl rfl
    | exact CoreOk.of_eq (CoreOk.setD (CoreOk.setD hx _ _) _ _) rfl rfl

theorem Canon.on_execMova {s : State} (h : Canon z s) (c : Fin 32) : CanonX z (execMova c s) := by
  refine CanonX.next (h.probeRow _ _ _ ?_)
  intro s c w pc x h hx
  try unfold Machine.putZn
  try unfold Machine.putSum
  repeat' first
    | with_reducible assumption
    | with_reducible apply StepOk.ite
    | with_reducible apply StepOk.next
    | with_reducible apply StepOk.jump
    | with_reducible exact StepOk.done hx
    | with_reducible exact StepOk.fault _
    | with_reducible apply StepOk.stall
    | with_reducible apply CoreOk.setD
    | with_reducible apply CoreOk.setXf
    | with_reducible apply CoreOk.setAcc
    | with_reducible apply CoreOk.setData
    | with_reducible apply CoreOk.modify
    | with_reducible apply CoreOk.zn
    | with_reducible apply CoreOk.flagsAdd
    | with_reducible apply CoreOk.flagsSub
    | with_reducible apply CoreOk.startLoop
    | with_reducible apply CoreOk.setLoop
    | with_reducible apply Canon.setFld
    | with_reducible apply Canon.addFld
    | with_reducible apply Canon.raise
    | with_reducible apply Canon.ancRead
    | with_reducible apply Canon.ancPush
    | with_reducible apply Canon.ancMark
    | with_reducible apply Canon.ancRelease
    | with_reducible apply Canon.updSlot
    | with_reducible refine CanonO.of (by with_reducible assumption) ?_
    | with_reducible apply Canon.ancRewind
    | with_reducible apply StepOk.pushNow
    | with_reducible apply StepOk.startProbeLoop
    | split
    | dsimp only
    | exact CoreOk.of_eq hx rfl rfl
    | exact CoreOk.of_eq (CoreOk.setD (CoreOk.setD hx _ _) _ _) rfl rfl

theorem Canon.on_execSta {s : State} (h : Canon z s) (c : Fin 32) : CanonX z (execSta c s) := by
  refine CanonX.next (h.probeRow _ _ _ ?_)
  intro s c w pc x h hx
  try unfold Machine.putZn
  try unfold Machine.putSum
  repeat' first
    | with_reducible assumption
    | with_reducible apply StepOk.ite
    | with_reducible apply StepOk.next
    | with_reducible apply StepOk.jump
    | with_reducible exact StepOk.done hx
    | with_reducible exact StepOk.fault _
    | with_reducible apply StepOk.stall
    | with_reducible apply CoreOk.setD
    | with_reducible apply CoreOk.setXf
    | with_reducible apply CoreOk.setAcc
    | with_reducible apply CoreOk.setData
    | with_reducible apply CoreOk.modify
    | with_reducible apply CoreOk.zn
    | with_reducible apply CoreOk.flagsAdd
    | with_reducible apply CoreOk.flagsSub
    | with_reducible apply CoreOk.startLoop
    | with_reducible apply CoreOk.setLoop
    | with_reducible apply Canon.setFld
    | with_reducible apply Canon.addFld
    | with_reducible apply Canon.raise
    | with_reducible apply Canon.ancRead
    | with_reducible apply Canon.ancPush
    | with_reducible apply Canon.ancMark
    | with_reducible apply Canon.ancRelease
    | with_reducible apply Canon.updSlot
    | with_reducible refine CanonO.of (by with_reducible assumption) ?_
    | with_reducible apply Canon.ancRewind
    | with_reducible apply StepOk.pushNow
    | with_reducible apply StepOk.startProbeLoop
    | split
    | dsimp only
    | exact CoreOk.of_eq hx rfl rfl
    | exact CoreOk.of_eq (CoreOk.setD (CoreOk.setD hx _ _) _ _) rfl rfl

theorem Canon.on_execPop {s : State} (h : Canon z s) (c : Fin 32) : CanonX z (execPop c s) := CanonX.next (h.probeRow _ _ _ SemOk.semPop)

theorem Canon.on_execPush {s : State} (h : Canon z s) (c : Fin 32) : CanonX z (execPush c s) := CanonX.next (h.probeRow _ _ _ SemOk.semPush)

theorem Canon.on_execQctl {s : State} (h : Canon z s) (c : Fin 32) : CanonX z (execQctl c s) := CanonX.next (h.probeRow _ _ _ SemOk.semQctl)

theorem Canon.on_execPost {s : State} (h : Canon z s) (c : Fin 32) : CanonX z (execPost c s) := CanonX.next (h.probeRow _ _ _ SemOk.semPost)

theorem Canon.on_execVrd {s : State} (h : Canon z s) (c : Fin 32) : CanonX z (execVrd c s) := CanonX.next (h.probeRow _ _ _ SemOk.semVrd)

theorem Canon.on_execSig {s : State} (h : Canon z s) (c : Fin 32) : CanonX z (execSig c s) := CanonX.next (h.probeRow _ _ _ SemOk.semSig)

theorem Canon.on_execBr {s : State} (h : Canon z s) (c : Fin 32) : CanonX z (execBr c s) := by
  unfold Machine.execBr
  refine CanonX.ite (CanonX.next (h.probeRow _ _ _ ?_)) (CanonX.next (h.probeRow _ _ _ SemOk.semBr))
  intro s c w pc x _ _
  exact trivial

theorem Canon.on_execPushResume {s : State} (h : Canon z s) (c : Fin 32) : CanonX z (execPushResume c s) := by
  unfold Machine.execPushResume
  dsimp only
  generalize hw : (match State.produced s c.val (bitField (State.probeWord s c.val) 0 1) with
    | some q => s.pushWaits q
    | none => false) = waits
  refine CanonX.ite (CanonX.next h) (CanonX.next ?_)
  have h1 : Canon z (s.setFld PROBE_STATE coreRunning c) := h.setFld _ _ _ _
  refine h1.finishProbe _ _ (StepOk.pushNow h1 _ _ ?_)
  exact h.core c.val

theorem Canon.on_probeAny {s : State} (h : Canon z s) (c : Fin 32) (n : Nat) : CanonX z (probeAny c n s) := by
  unfold Machine.probeAny
  split
  · exact h.on_execProbeNop c
  · exact h.on_execHalt c
  · exact h.on_execCall c
  · exact h.on_execRet c
  · exact h.on_execLp c
  · exact h.on_execLpr c
  · exact h.on_execLpx c
  · exact h.on_execLdi c
  · exact h.on_execMov c
  · exact h.on_execAdd c
  · exact h.on_execSub c
  · exact h.on_execAndReg c
  · exact h.on_execOrReg c
  · exact h.on_execXorReg c
  · exact h.on_execCmp c
  · exact h.on_execAddi c
  · exact h.on_execCmpi c
  · exact h.on_execAndi c
  · exact h.on_execShl c
  · exact h.on_execShr c
  · exact h.on_execSra c
  · exact h.on_execAbsReg c
  · exact h.on_execMinReg c
  · exact h.on_execMaxReg c
  · exact h.on_execLd c
  · exact h.on_execSt c
  · exact h.on_execLdd c
  · exact h.on_execSetx c
  · exact h.on_execMovx c
  · exact h.on_execGetx c
  · exact h.on_execGets c
  · exact h.on_execMpy c
  · exact h.on_execMac c
  · exact h.on_execMsu c
  · exact h.on_execAda c
  · exact h.on_execClra c
  · exact h.on_execMova c
  · exact h.on_execSta c
  · exact h.on_execPop c
  · exact h.on_execPush c
  · exact h.on_execQctl c
  · exact h.on_execPost c
  · exact h.on_execVrd c
  · exact h.on_execSig c
  · exact h.on_execBr c

end Sys2Proof.Machine
end

