-- ==== Sys2Proof/Laws/CanonProbe.lean ====
section
/-! SUPPORT. The operations of Machine/Probe.lean keep the canonical form of a state. -/

namespace Sys2Proof.Machine
open Reg

variable {z : State}

theorem Canon.fillVideo {s : State} (h : Canon z s) (c i : Nat) (w : WinSet) :
    Canon z (State.fillVideo s c i w) := by
  unfold State.fillVideo
  repeat' first
    | (with_reducible first | assumption | apply Canon.ite | apply Canon.setFld | apply Canon.crosses
                            | refine Canon.setCore ?_ _ ?_ | apply CoreOk.ite | apply CoreOk.setWin
                            | apply Canon.core (z := z))
    | exact CoreOk.setRange (Canon.core (z := z) (by with_reducible assumption) _) _ _
    | exact CoreOk.of_eq (Canon.core (z := z) (by with_reducible assumption) _) rfl rfl
    | refine CoreOk.of_eq (Canon.core (z := z) ?_ _) rfl rfl
    | split
    | (with_reducible apply Canon.ofMk; with_reducible refine Canon.parts ?_)
    | dsimp only

theorem Canon.fillAudio {s : State} (h : Canon z s) (c i : Nat) (w : WinSet) :
    Canon z (State.fillAudio s c i w) := by
  unfold State.fillAudio
  repeat' first
    | (with_reducible first | assumption | apply Canon.ite | apply Canon.setFld | apply Canon.reverse
                            | refine Canon.setCore ?_ _ ?_ | apply CoreOk.ite | apply CoreOk.setWin
                            | apply Canon.core (z := z))
    | exact CoreOk.setRange (Canon.core (z := z) (by with_reducible assumption) _) _ _
    | exact CoreOk.of_eq (Canon.core (z := z) (by with_reducible assumption) _) rfl rfl
    | refine CoreOk.of_eq (Canon.core (z := z) ?_ _) rfl rfl
    | split
    | (with_reducible apply Canon.ofMk; with_reducible refine Canon.parts ?_)
    | dsimp only

theorem Canon.fillWindow {s : State} (h : Canon z s) (c i : Nat) : Canon z (State.fillWindow s c i) := by
  unfold State.fillWindow
  repeat' first
    | (with_reducible first | assumption | apply Canon.ite | apply Canon.fillVideo | apply Canon.fillAudio
                            | apply Canon.setFld | refine Canon.setCore ?_ _ ?_ | apply CoreOk.ite
                            | apply CoreOk.setWin | apply Canon.core (z := z))
    | exact CoreOk.setRange (Canon.core (z := z) (by with_reducible assumption) _) _ _
    | exact CoreOk.of_eq (Canon.core (z := z) (by with_reducible assumption) _) rfl rfl
    | refine CoreOk.of_eq (Canon.core (z := z) ?_ _) rfl rfl
    | split
    | (with_reducible apply Canon.ofMk; with_reducible refine Canon.parts ?_)
    | dsimp only

theorem Canon.triggerToken {s : State} (h : Canon z s) (c : Nat) : Canon z (State.triggerToken s c) := by
  unfold State.triggerToken
  repeat' first
    | (with_reducible first | assumption | apply Canon.ite | refine Canon.upTo _ ?_ (fun _ _ _ => ?_)
                            | apply Canon.setFld | apply Canon.addFld | apply Canon.fillWindow | apply Canon.raise
                            | refine Canon.setCore ?_ _ ?_ | apply CoreOk.ite | apply Canon.core (z := z))
    | exact CoreOk.setRange (Canon.core (z := z) (by with_reducible assumption) _) _ _
    | exact CoreOk.of_eq (Canon.core (z := z) (by with_reducible assumption) _) rfl rfl
    | refine CoreOk.of_eq (Canon.core (z := z) ?_ _) rfl rfl
    | split
    | (with_reducible apply Canon.ofMk; with_reducible refine Canon.parts ?_)
    | dsimp only

theorem Canon.endFill {s : State} (h : Canon z s) (c i : Nat) : Canon z (State.endFill s c i) := by
  unfold State.endFill
  repeat' first
    | (with_reducible first | assumption | apply Canon.ite | apply Canon.setFld | refine Canon.setCore ?_ _ ?_
                            | apply CoreOk.ite | apply CoreOk.setWin | apply Canon.core (z := z))
    | exact CoreOk.setRange (Canon.core (z := z) (by with_reducible assumption) _) _ _
    | exact CoreOk.of_eq (Canon.core (z := z) (by with_reducible assumption) _) rfl rfl
    | refine CoreOk.of_eq (Canon.core (z := z) ?_ _) rfl rfl
    | split
    | (with_reducible apply Canon.ofMk; with_reducible refine Canon.parts ?_)
    | dsimp only

theorem Canon.setWinField {s : State} (h : Canon z s) (c i v : Nat) (f : Field) :
    Canon z (State.setWinField s c i v f) := by
  unfold State.setWinField
  repeat' first
    | (with_reducible first | assumption | apply Canon.setFld)
    | split
    | (with_reducible apply Canon.ofMk; with_reducible refine Canon.parts ?_)

theorem Canon.writeWindow {s : State} (h : Canon z s) (c i word v : Nat) :
    Canon z (State.writeWindow s c i word v) := by
  unfold State.writeWindow
  repeat' first
    | (with_reducible first | assumption | apply Canon.ite | refine Canon.each _ ?_ (fun _ _ _ => ?_)
                            | apply Canon.setFld | apply Canon.setWinField | refine Canon.setCore ?_ _ ?_
                            | apply CoreOk.ite | apply CoreOk.setWin | apply Canon.core (z := z))
    | exact CoreOk.setRange (Canon.core (z := z) (by with_reducible assumption) _) _ _
    | exact CoreOk.of_eq (Canon.core (z := z) (by with_reducible assumption) _) rfl rfl
    | refine CoreOk.of_eq (Canon.core (z := z) ?_ _) rfl rfl
    | split
    | (with_reducible apply Canon.ofMk; with_reducible refine Canon.parts ?_)
    | dsimp only

theorem Canon.probeStop {s : State} (h : Canon z s) (c : Nat) : Canon z (State.probeStop s c) := by
  unfold State.probeStop
  repeat' first
    | (with_reducible first | assumption | apply Canon.setFld | refine Canon.setCore ?_ _ ?_ | apply CoreOk.ite
                            | apply Canon.core (z := z))
    | exact CoreOk.setRange (Canon.core (z := z) (by with_reducible assumption) _) _ _
    | exact CoreOk.of_eq (Canon.core (z := z) (by with_reducible assumption) _) rfl rfl
    | refine CoreOk.of_eq (Canon.core (z := z) ?_ _) rfl rfl
    | split
    | (with_reducible apply Canon.ofMk; with_reducible refine Canon.parts ?_)
    | dsimp only

theorem Canon.probeReset {s : State} (h : Canon z s) (c : Nat) : Canon z (State.probeReset s c) := by
  unfold State.probeReset
  repeat' first
    | (with_reducible first | assumption | refine Canon.upTo _ ?_ (fun _ _ _ => ?_) | apply Canon.probeStop
                            | apply Canon.setFld | refine Canon.setCore ?_ _ ?_ | apply CoreOk.ite
                            | apply Canon.core (z := z))
    | exact CoreOk.setRange (Canon.core (z := z) (by with_reducible assumption) _) _ _
    | exact CoreOk.of_eq (Canon.core (z := z) (by with_reducible assumption) _) rfl rfl
    | refine CoreOk.of_eq (Canon.core (z := z) ?_ _) rfl rfl
    | split
    | (with_reducible apply Canon.ofMk; with_reducible refine Canon.parts ?_)
    | dsimp only

theorem Canon.probeStart {s : State} (h : Canon z s) (c pc : Nat) : Canon z (State.probeStart s c pc) := by
  unfold State.probeStart
  repeat' first
    | (with_reducible first | assumption | apply Canon.ite | refine CanonP.foldl _ ?_ (fun _ _ _ => ?_)
                            | exact CanonP.fst (by with_reducible assumption)
                            | refine Canon.foldl _ ?_ (fun _ _ _ => ?_) | apply Canon.setFld
                            | refine Canon.setCore ?_ _ ?_ | apply CoreOk.ite | apply Canon.core (z := z))
    | exact CoreOk.setRange (Canon.core (z := z) (by with_reducible assumption) _) _ _
    | exact CoreOk.of_eq (Canon.core (z := z) (by with_reducible assumption) _) rfl rfl
    | refine CoreOk.of_eq (Canon.core (z := z) ?_ _) rfl rfl
    | split
    | with_reducible refine CanonP.mk ?_ _
    | (with_reducible apply Canon.ofMk; with_reducible refine Canon.parts ?_)
    | dsimp only

theorem Canon.probeCtl {s : State} (h : Canon z s) (c act pc : Nat) : Canon z (State.probeCtl s c act pc) := by
  unfold State.probeCtl
  repeat' first
    | (with_reducible first | assumption | apply Canon.ite | apply Canon.probeStart | apply Canon.probeStop
                            | apply Canon.probeReset)
    | split
    | (with_reducible apply Canon.ofMk; with_reducible refine Canon.parts ?_)

end Sys2Proof.Machine
end

