-- ==== Sys2Proof/Laws/CanonSdi.lean ====
section
/-! SUPPORT. The operations of Machine/Sdi.lean keep the canonical form of a state. -/

namespace Sys2Proof.Machine
open Reg

variable {z : State}

theorem Canon.setRx {s : State} (h : Canon z s) (i : Nat) (x : RxRun) : Canon z (State.setRx s i x) := by
  unfold State.setRx
  repeat' first
    | (with_reducible first | assumption)
    | split
    | (with_reducible apply Canon.ofMk; with_reducible refine Canon.parts ?_)

theorem Canon.setRxFld {s : State} (h : Canon z s) (i : Nat) (f : Field) (v : Nat) :
    Canon z (State.setRxFld s i f v) := by
  unfold State.setRxFld
  repeat' first
    | (with_reducible first | assumption | apply Canon.ite | apply Canon.setFld)
    | split
    | (with_reducible apply Canon.ofMk; with_reducible refine Canon.parts ?_)

theorem Canon.addRxFld {s : State} (h : Canon z s) (i : Nat) (f : Field) (n : Nat) :
    Canon z (State.addRxFld s i f n) := by
  unfold State.addRxFld
  repeat' first
    | (with_reducible first | assumption | apply Canon.ite | apply Canon.addFld)
    | split
    | (with_reducible apply Canon.ofMk; with_reducible refine Canon.parts ?_)

theorem Canon.judge {s : State} (h : Canon z s) (i n : Nat) (d : Detected) : Canon z (State.judge s i n d) := by
  unfold State.judge
  repeat' first
    | (with_reducible first | assumption | apply Canon.ite | apply Canon.takeFormat | apply Canon.becomePresent
                            | apply Canon.raise | apply Canon.setFld)
    | split
    | (with_reducible apply Canon.ofMk; with_reducible refine Canon.parts ?_)
    | dsimp only

theorem Canon.judgeNow {s : State} (h : Canon z s) (n : Nat) : Canon z (State.judgeNow s n) := by
  unfold State.judgeNow
  repeat' first
    | (with_reducible first | assumption | apply Canon.ite | apply Canon.judge)
    | split
    | (with_reducible apply Canon.ofMk; with_reducible refine Canon.parts ?_)
    | dsimp only

theorem Canon.writeArrived {s : State} (h : Canon z s) (ref : SlotRef) (a : Arrived) (flags : Nat) :
    Canon z (State.writeArrived s ref a flags) := by
  unfold State.writeArrived
  repeat' first
    | (with_reducible first | assumption | apply Canon.ite | apply Canon.updSlot)
    | split
    | (with_reducible apply Canon.ofMk; with_reducible refine Canon.parts ?_)
    | dsimp only

theorem Canon.showRx {s : State} (h : Canon z s) (i : Nat) : Canon z (State.showRx s i) := by
  unfold State.showRx
  repeat' first
    | (with_reducible first | assumption | apply Canon.ite | apply Canon.setRxFld)
    | split
    | (with_reducible apply Canon.ofMk; with_reducible refine Canon.parts ?_)
    | dsimp only

theorem Canon.rxAcquire {s : State} (h : Canon z s) (i : Nat) (lost : List Nat) :
    Canon z (State.rxAcquire s i lost) := by
  unfold State.rxAcquire
  repeat' first
    | (with_reducible first | assumption | apply Canon.setRx | apply Canon.showRx)
    | split
    | (with_reducible apply Canon.ofMk; with_reducible refine Canon.parts ?_)

theorem Canon.showMember {s : State} (h : Canon z s) (i k : Nat) (on : Bool) :
    Canon z (State.showMember s i k on) := by
  unfold State.showMember
  repeat' first
    | (with_reducible first | assumption | apply Canon.ite | apply Canon.join | apply Canon.setFld)
    | split
    | (with_reducible apply Canon.ofMk; with_reducible refine Canon.parts ?_)
    | dsimp only

theorem Canon.on_execSdiLaneLock {s : State} (h : Canon z s) (l : Fin 256) (rate : BitVec 4) :
    CanonX z (execSdiLaneLock l rate s) := by
  unfold execSdiLaneLock
  repeat' first
    | (with_reducible first | assumption | apply Canon.ite | apply CanonX.ite | apply CanonX.next | apply Canon.setFld
                            | apply Canon.setRx | apply Canon.rxAcquire)
    | split
    | (with_reducible apply Canon.ofMk; with_reducible refine Canon.parts ?_)
    | dsimp only

theorem Canon.countErrors {s : State} (h : Canon z s) (l : Nat) (m : SdiMember) :
    Canon z (State.countErrors s l m) := by
  unfold State.countErrors
  repeat' first
    | (with_reducible first | assumption | apply Canon.addRxFld)
    | split
    | (with_reducible apply Canon.ofMk; with_reducible refine Canon.parts ?_)
    | dsimp only

theorem Canon.frameErrors {s : State} (h : Canon z s) (i : Nat) (ms : List SdiMember) :
    Canon z (State.frameErrors s i ms) := by
  unfold State.frameErrors
  repeat' first
    | (with_reducible first | assumption | apply Canon.ite | refine CanonP.foldl _ ?_ (fun _ _ _ => ?_)
                            | exact CanonP.fst (by with_reducible assumption)
                            | refine Canon.foldl _ ?_ (fun _ _ _ => ?_) | apply Canon.countErrors)
    | split
    | with_reducible refine CanonP.mk ?_ _
    | (with_reducible apply Canon.ofMk; with_reducible refine Canon.parts ?_)
    | dsimp only

theorem Canon.glitch {s : State} (h : Canon z s) (i flags : Nat) : Canon z (State.glitch s i flags) := by
  unfold State.glitch
  repeat' first
    | (with_reducible first | assumption | apply Canon.ite | apply Canon.setRxFld | apply Canon.setRx
                            | apply Canon.raise)
    | split
    | (with_reducible apply Canon.ofMk; with_reducible refine Canon.parts ?_)
    | dsimp only

theorem Canon.endSlot {s : State} (h : Canon z s) (i : Nat) (a : Arrived) (flags : Nat) :
    Canon z (State.endSlot s i a flags) := by
  unfold State.endSlot
  repeat' first
    | (with_reducible first | assumption | refine Canon.each _ ?_ (fun _ _ _ => ?_) | apply Canon.writeArrived)
    | split
    | (with_reducible apply Canon.ofMk; with_reducible refine Canon.parts ?_)

theorem Canon.cutFrame {s : State} (h : Canon z s) (i : Nat) (cut : SdiFrame) (stays : Bool) :
    Canon z (State.cutFrame s i cut stays) := by
  unfold State.cutFrame
  repeat' first
    | (with_reducible first | assumption | refine Canon.when _ ?_ (fun _ _ => ?_) | apply Canon.frameErrors
                            | apply Canon.glitch | apply Canon.endSlot)
    | split
    | (with_reducible apply Canon.ofMk; with_reducible refine Canon.parts ?_)
    | dsimp only

theorem Canon.on_execSourceFrameStart {s : State} (h : Canon z s) (rx : VideoIn) (cut : SdiFrame) :
    CanonX z (execSourceFrameStart rx cut s) := by
  unfold execSourceFrameStart
  repeat' first
    | (with_reducible first | assumption | apply Canon.ite | apply CanonX.ite | apply CanonX.next
                            | refine Canon.when _ ?_ (fun _ _ => ?_) | apply Canon.cutFrame | apply Canon.setRx
                            | apply Canon.showRx | apply Canon.openSlot)
    | split
    | (with_reducible apply Canon.ofMk; with_reducible refine Canon.parts ?_)
    | dsimp only

theorem Canon.memberEvents {s : State} (h : Canon z s) (i : Nat) (ms : List SdiMember) (a : Arrived) :
    Canon z (State.memberEvents s i ms a) := by
  unfold State.memberEvents
  repeat' first
    | (with_reducible first | assumption | apply Canon.ite | refine Canon.upTo _ ?_ (fun _ _ _ => ?_)
                            | apply Canon.raise)
    | split
    | (with_reducible apply Canon.ofMk; with_reducible refine Canon.parts ?_)

theorem Canon.showFrame {s : State} (h : Canon z s) (i : Nat) (d : Detected) (ms : List SdiMember) (a : Arrived) :
    Canon z (State.showFrame s i d ms a) := by
  unfold State.showFrame
  repeat' first
    | (with_reducible first | assumption | apply Canon.ite | refine CanonP.foldl _ ?_ (fun _ _ _ => ?_)
                            | exact CanonP.fst (by with_reducible assumption)
                            | refine Canon.foldl _ ?_ (fun _ _ _ => ?_) | apply Canon.setFld | apply Canon.setRxFld
                            | apply Canon.setRx)
    | split
    | with_reducible refine CanonP.mk ?_ _
    | (with_reducible apply Canon.ofMk; with_reducible refine Canon.parts ?_)
    | dsimp only

theorem Canon.declareChange {s : State} (h : Canon z s) (i : Nat) (d : Detected) :
    Canon z (State.declareChange s i d) := by
  unfold State.declareChange
  repeat' first
    | (with_reducible first | assumption | refine Canon.each _ ?_ (fun _ _ _ => ?_) | apply Canon.setRx
                            | apply Canon.showRx | apply Canon.setRxFld | apply Canon.updSlot
                            | apply Canon.becomeAbsent)
    | split
    | (with_reducible apply Canon.ofMk; with_reducible refine Canon.parts ?_)
    | dsimp only

theorem Canon.runFrame {s : State} (h : Canon z s) (i : Nat) (d : Detected) (a : Arrived) (flags errs : Nat) :
    Canon z (State.runFrame s i d a flags errs) := by
  unfold State.runFrame
  repeat' first
    | (with_reducible first | assumption | apply Canon.ite | refine Canon.when _ ?_ (fun _ _ => ?_)
                            | apply Canon.glitch | apply Canon.endSlot | apply Canon.setRx | apply Canon.declareChange)
    | split
    | (with_reducible apply Canon.ofMk; with_reducible refine Canon.parts ?_)
    | dsimp only

theorem Canon.acquireFrame {s : State} (h : Canon z s) (i : Nat) (d : Detected) (good : Bool) :
    Canon z (State.acquireFrame s i d good) := by
  unfold State.acquireFrame
  repeat' first
    | (with_reducible first | assumption | apply Canon.ite | apply Canon.setRx | apply Canon.showRx
                            | apply Canon.judge)
    | split
    | (with_reducible apply Canon.ofMk; with_reducible refine Canon.parts ?_)
    | dsimp only

theorem Canon.frameReceived {s : State} (h : Canon z s) (i : Nat) (ms : List SdiMember) (a : Arrived) (m : SdiMember) :
    Canon z (State.frameReceived s i ms a m) := by
  unfold State.frameReceived
  repeat' first
    | (with_reducible first | assumption | apply Canon.ite | refine Canon.when _ ?_ (fun _ _ => ?_)
                            | apply Canon.frameErrors | apply Canon.memberEvents | apply Canon.showFrame
                            | apply Canon.addRxFld | apply Canon.runFrame | apply Canon.acquireFrame)
    | split
    | (with_reducible apply Canon.ofMk; with_reducible refine Canon.parts ?_)
    | dsimp only

theorem Canon.setLaneRun {s : State} (h : Canon z s) (l : Nat) (x : LaneRun) :
    Canon z (State.setLaneRun s l x) := by
  unfold State.setLaneRun
  repeat' first
    | (with_reducible first | assumption)
    | split
    | (with_reducible apply Canon.ofMk; with_reducible refine Canon.parts ?_)

theorem Canon.stopScan {s : State} (h : Canon z s) (l : Nat) : Canon z (State.stopScan s l) := by
  unfold State.stopScan
  repeat' first
    | (with_reducible first | assumption | refine Canon.when _ ?_ (fun _ _ => ?_) | apply Canon.setLaneRun)
    | split
    | (with_reducible apply Canon.ofMk; with_reducible refine Canon.parts ?_)

theorem Canon.laneUnlock {s : State} (h : Canon z s) (l : Nat) (signal : Bool) :
    Canon z (State.laneUnlock s l signal) := by
  unfold State.laneUnlock
  repeat' first
    | (with_reducible first | assumption | refine Canon.when _ ?_ (fun _ _ => ?_) | apply Canon.addFld
                            | apply Canon.setFld | apply Canon.stopScan)
    | split
    | (with_reducible apply Canon.ofMk; with_reducible refine Canon.parts ?_)
    | dsimp only

theorem Canon.rxLoss {s : State} (h : Canon z s) (i : Nat) (cut : SdiFrame) (unlock : Bool) :
    Canon z (State.rxLoss s i cut unlock) := by
  unfold State.rxLoss
  repeat' first
    | (with_reducible first | assumption | apply Canon.ite | refine Canon.each _ ?_ (fun _ _ _ => ?_)
                            | refine Canon.when _ ?_ (fun _ _ => ?_) | apply Canon.cutFrame | apply Canon.closeSlot
                            | apply Canon.becomeAbsent | apply Canon.setRx | apply Canon.showRx
                            | apply Canon.rxAcquire | apply Canon.setFld | apply Canon.laneUnlock
                            | apply Canon.setRxFld | apply Canon.addRxFld | apply Canon.raise)
    | split
    | (with_reducible apply Canon.ofMk; with_reducible refine Canon.parts ?_)
    | dsimp only

theorem Canon.memberLost {s : State} (h : Canon z s) (l : Nat) (skew : Bool) (cut : SdiFrame) :
    Canon z (State.memberLost s l skew cut) := by
  unfold State.memberLost
  repeat' first
    | (with_reducible first | assumption | apply Canon.ite | refine Canon.when _ ?_ (fun _ _ => ?_)
                            | apply Canon.rxLoss | apply Canon.showMember | apply Canon.setRx | apply Canon.laneUnlock
                            | apply Canon.setFld | apply Canon.raise)
    | split
    | (with_reducible apply Canon.ofMk; with_reducible refine Canon.parts ?_)
    | dsimp only

theorem Canon.farEnd {s : State} (h : Canon z s) (i : Nat) (ms : List SdiMember) :
    Canon z (State.farEnd s i ms) := by
  unfold State.farEnd
  repeat' first
    | (with_reducible first | assumption | refine Canon.when _ ?_ (fun _ _ => ?_)
                            | refine CanonP.foldl _ ?_ (fun _ _ _ => ?_)
                            | exact CanonP.fst (by with_reducible assumption)
                            | refine Canon.foldl _ ?_ (fun _ _ _ => ?_) | apply Canon.emit)
    | split
    | with_reducible refine CanonP.mk ?_ _
    | (with_reducible apply Canon.ofMk; with_reducible refine Canon.parts ?_)

theorem Canon.on_execSdiFrameEnd {s : State} (h : Canon z s) (rx : VideoIn) (frame : SdiFrame) :
    CanonX z (execSdiFrameEnd rx frame s) := by
  unfold execSdiFrameEnd
  repeat' first
    | (with_reducible first | assumption | apply Canon.ite | apply CanonX.ite | apply CanonX.next | apply Canon.farEnd
                            | apply Canon.rxLoss | apply Canon.frameErrors | apply Canon.setRx | apply Canon.showRx
                            | apply Canon.frameReceived)
    | split
    | (with_reducible apply Canon.ofMk; with_reducible refine Canon.parts ?_)
    | dsimp only

theorem Canon.on_execSdiLoss {s : State} (h : Canon z s) (rx : VideoIn) (cut : SdiFrame) :
    CanonX z (execSdiLoss rx cut s) := by
  unfold execSdiLoss
  repeat' first
    | (with_reducible first | assumption | apply Canon.ite | apply CanonX.ite | apply CanonX.next
                            | apply Canon.memberLost | apply Canon.rxLoss)
    | split
    | (with_reducible apply Canon.ofMk; with_reducible refine Canon.parts ?_)
    | dsimp only

theorem Canon.on_execQuadMemberLost {s : State} (h : Canon z s) (l : Fin 256) (skew : Bool) :
    CanonX z (execQuadMemberLost l skew s) := by
  unfold execQuadMemberLost
  repeat' first
    | (with_reducible first | assumption | apply CanonX.next | apply Canon.memberLost)
    | split
    | (with_reducible apply Canon.ofMk; with_reducible refine Canon.parts ?_)

theorem Canon.on_execQuadMemberRejoin {s : State} (h : Canon z s) (l : Fin 256) :
    CanonX z (execQuadMemberRejoin l s) := by
  unfold execQuadMemberRejoin
  repeat' first
    | (with_reducible first | assumption | apply Canon.ite | apply CanonX.ite | apply CanonX.next
                            | apply Canon.showMember | apply Canon.setRx | apply Canon.setFld | apply Canon.raise)
    | split
    | (with_reducible apply Canon.ofMk; with_reducible refine Canon.parts ?_)
    | dsimp only

theorem Canon.relink {s : State} (h : Canon z s) (l : Nat) : Canon z (State.relink s l) := by
  unfold State.relink
  repeat' first
    | (with_reducible first | assumption | apply Canon.ite | refine Canon.upTo _ ?_ (fun _ _ _ => ?_)
                            | refine Canon.when _ ?_ (fun _ _ => ?_) | apply Canon.becomeAbsent | apply Canon.setFld
                            | apply Canon.rxAcquire | apply Canon.setRx | apply Canon.showRx)
    | split
    | (with_reducible apply Canon.ofMk; with_reducible refine Canon.parts ?_)
    | dsimp only

theorem Canon.on_execAncPacketReceived {s : State} (h : Canon z s) (rx : VideoIn) (p : AncPacket) :
    CanonX z (execAncPacketReceived rx p s) := by
  unfold execAncPacketReceived
  repeat' first
    | (with_reducible first | assumption | apply Canon.ite | apply CanonX.ite | apply CanonX.next
                            | apply Canon.addRxFld | apply Canon.setRxFld | apply Canon.ancTake | apply CanonP.fst
                            | refine CanonP.of (by with_reducible assumption) ?_)
    | split
    | (with_reducible apply Canon.ofMk; with_reducible refine Canon.parts ?_)
    | dsimp only

end Sys2Proof.Machine
end

