-- ==== Sys2Proof/Laws/CanonApply.lean ====
section
/-! SUPPORT. The operations of Machine/Apply.lean keep the canonical form of a state. -/

namespace Sys2Proof.Machine
open Reg

variable {z : State}

theorem Canon.applyRing {s : State} (h : Canon z s) (n : Nat) (sh : RingShape) (pages : Nat) :
    Canon z (State.applyRing s n sh pages) := by
  unfold State.applyRing
  repeat' first
    | (with_reducible first | assumption | apply Canon.ite | apply Canon.applyAlloc | apply Canon.updSrc
                            | apply Canon.placeSource | apply Canon.judgeNow)
    | split
    | (with_reducible apply Canon.ofMk; with_reducible refine Canon.parts ?_)
    | dsimp only

theorem Canon.applyChange {s : State} (h : Canon z s) (t : Nat) (ch : Change) :
    Canon z (State.applyChange s t ch) := by
  unfold State.applyChange
  repeat' first
    | (with_reducible first | assumption | apply Canon.ite | apply Canon.unreservePages | apply Canon.applyRing
                            | apply Canon.setReader | apply Canon.setDstRun | apply Canon.applyFlowAdd
                            | apply Canon.applyFlowDel | apply Canon.probeCtl | apply Canon.setCfg)
    | split
    | (with_reducible apply Canon.ofMk; with_reducible refine Canon.parts ?_)
    | dsimp only

theorem Canon.finishTake {s : State} (h : Canon z s) (k : Take) : Canon z (State.finishTake s k) := by
  unfold State.finishTake
  repeat' first
    | (with_reducible first | assumption | apply Canon.removeTake | apply Canon.addFld | apply Canon.raise)
    | split
    | (with_reducible apply Canon.ofMk; with_reducible refine Canon.parts ?_)

theorem Canon.finishIfEnded {s : State} (h : Canon z s) (k : Take) : Canon z (State.finishIfEnded s k) := by
  unfold State.finishIfEnded
  repeat' first
    | (with_reducible first | assumption | apply Canon.ite | apply Canon.finishTake)
    | split
    | (with_reducible apply Canon.ofMk; with_reducible refine Canon.parts ?_)

theorem Canon.noteEnabled {s : State} (h : Canon z s) (obj : Nat) (before : Bool) :
    Canon z (State.noteEnabled s obj before) := by
  unfold State.noteEnabled
  repeat' first
    | (with_reducible first | assumption | apply Canon.ite | apply Canon.setCmpRun)
    | split
    | (with_reducible apply Canon.ofMk; with_reducible refine Canon.parts ?_)
    | dsimp only

theorem Canon.applyOn {s : State} (h : Canon z s) (obj : Nat) (k : Take) : Canon z (State.applyOn s obj k) := by
  unfold State.applyOn
  repeat' first
    | (with_reducible first | assumption | refine Canon.each _ ?_ (fun _ _ _ => ?_)
                            | refine Canon.when _ ?_ (fun _ _ => ?_) | apply Canon.setCfg | apply Canon.applyChange
                            | apply Canon.noteEnabled | apply Canon.updTake)
    | split
    | (with_reducible apply Canon.ofMk; with_reducible refine Canon.parts ?_)
    | dsimp only

theorem Canon.releaseHolds {s : State} (h : Canon z s) (obj : Nat) : Canon z (State.releaseHolds s obj) := by
  unfold State.releaseHolds
  repeat' first
    | (with_reducible first | assumption | apply Canon.ite | refine Canon.each _ ?_ (fun _ _ _ => ?_)
                            | refine Canon.when _ ?_ (fun _ _ => ?_) | apply Canon.setHoldBytes
                            | apply Canon.setReader | apply Canon.hold | apply CanonP.fst
                            | refine CanonP.of (by with_reducible assumption) ?_)
    | split
    | (with_reducible apply Canon.ofMk; with_reducible refine Canon.parts ?_)
    | dsimp only

theorem Canon.applyTakes {s : State} (h : Canon z s) (obj : Nat) (ks : List Take) :
    Canon z (State.applyTakes s obj ks) := by
  unfold State.applyTakes
  repeat' first
    | (with_reducible first | assumption | refine Canon.each _ ?_ (fun _ _ _ => ?_) | apply Canon.applyOn
                            | apply Canon.releaseHolds | apply Canon.finishIfEnded)
    | split
    | (with_reducible apply Canon.ofMk; with_reducible refine Canon.parts ?_)
    | dsimp only

theorem Canon.applyBoundary {s : State} (h : Canon z s) (obj : Nat) (f : Int) (lead : Nat) :
    Canon z (State.applyBoundary s obj f lead) := by
  unfold State.applyBoundary
  repeat' first
    | (with_reducible first | assumption | apply Canon.applyTakes)
    | split
    | (with_reducible apply Canon.ofMk; with_reducible refine Canon.parts ?_)

theorem Canon.awaitEnable {s : State} (h : Canon z s) (obj : Nat) (k : Take) :
    CanonO z (State.awaitEnable s obj k) := by
  unfold State.awaitEnable
  repeat' first
    | (with_reducible first | assumption | apply Canon.ite | apply CanonO.ite | exact CanonO.none | apply CanonO.some
                            | apply Canon.setCmpRun)
    | split
    | (with_reducible apply Canon.ofMk; with_reducible refine Canon.parts ?_)
    | dsimp only

theorem Canon.reachObj {s : State} (h : Canon z s) (obj : Nat) (k : Take) : Canon z (State.reachObj s obj k) := by
  unfold State.reachObj
  repeat' first
    | (with_reducible first | assumption | apply Canon.awaitEnable | apply Canon.applyOn | apply Canon.releaseHolds
                            | refine CanonO.of (by with_reducible assumption) ?_)
    | split
    | (with_reducible apply Canon.ofMk; with_reducible refine Canon.parts ?_)

theorem Canon.reachTake {s : State} (h : Canon z s) (k : Take) : Canon z (State.reachTake s k) := by
  unfold State.reachTake
  repeat' first
    | (with_reducible first | assumption | refine Canon.each _ ?_ (fun _ _ _ => ?_)
                            | refine Canon.when _ ?_ (fun _ _ => ?_) | apply Canon.reachObj | apply Canon.setFld
                            | apply Canon.updTake | apply Canon.finishIfEnded)
    | split
    | (with_reducible apply Canon.ofMk; with_reducible refine Canon.parts ?_)
    | dsimp only

theorem Canon.reachAll {s : State} (h : Canon z s) : Canon z (State.reachAll s) := by
  unfold State.reachAll
  repeat' first
    | (with_reducible first | assumption | refine Canon.each _ ?_ (fun _ _ _ => ?_) | apply Canon.decided
                            | apply Canon.reachTake)
    | split
    | (with_reducible apply Canon.ofMk; with_reducible refine Canon.parts ?_)

theorem Canon.on_execMilepost {s : State} (h : Canon z s) : CanonX z (execMilepost s) := by
  unfold execMilepost
  repeat' first
    | (with_reducible first | assumption | apply CanonX.next | apply Canon.reachAll)
    | split
    | (with_reducible apply Canon.ofMk; with_reducible refine Canon.parts ?_)

theorem Canon.sealDue {s : State} (h : Canon z s) : Canon z (State.sealDue s) := by
  unfold State.sealDue
  repeat' first
    | (with_reducible first | assumption | refine Canon.each _ ?_ (fun _ _ _ => ?_) | apply Canon.sealTake)
    | split
    | (with_reducible apply Canon.ofMk; with_reducible refine Canon.parts ?_)
    | dsimp only

theorem Canon.on_execStagingDeadline {s : State} (h : Canon z s) : CanonX z (execStagingDeadline s) := by
  unfold execStagingDeadline
  repeat' first
    | (with_reducible first | assumption | apply CanonX.next | apply Canon.sealDue)
    | split
    | (with_reducible apply Canon.ofMk; with_reducible refine Canon.parts ?_)

theorem Canon.postTokens {s : State} (h : Canon z s) : Canon z (State.postTokens s) := by
  unfold State.postTokens
  repeat' first
    | (with_reducible first | assumption | apply Canon.sealDue | apply Canon.reachAll)
    | split
    | (with_reducible apply Canon.ofMk; with_reducible refine Canon.parts ?_)

theorem Canon.setHandovers {s : State} (h : Canon z s) (f : List Handover → List Handover) :
    Canon z (State.setHandovers s f) := by
  unfold State.setHandovers
  repeat' first
    | (with_reducible first | assumption | apply Canon.setCway)
    | split
    | (with_reducible apply Canon.ofMk; with_reducible refine Canon.parts ?_)
    | dsimp only

theorem Canon.decideHandover {s : State} (h : Canon z s) (h : Handover) : Canon z (State.decideHandover s h) := by
  unfold State.decideHandover
  repeat' first
    | (with_reducible first | assumption | apply Canon.ite | apply Canon.send | apply Canon.setHandovers
                            | apply Canon.decided | apply Canon.raise)
    | split
    | (with_reducible apply Canon.ofMk; with_reducible refine Canon.parts ?_)
    | dsimp only

theorem Canon.on_execDecisionInstant {s : State} (h : Canon z s) (late : List Nat) :
    CanonX z (execDecisionInstant late s) := by
  unfold execDecisionInstant
  repeat' first
    | (with_reducible first | assumption | apply Canon.ite | apply CanonX.ite | apply CanonX.next
                            | refine Canon.each _ ?_ (fun _ _ _ => ?_) | apply Canon.decideTake | apply Canon.decided
                            | apply Canon.decideHandover)
    | split
    | (with_reducible apply Canon.ofMk; with_reducible refine Canon.parts ?_)
    | dsimp only

theorem Canon.on_execFlipSettle {s : State} (h : Canon z s) (p : Fin 8) : CanonX z (execFlipSettle p s) := by
  unfold execFlipSettle
  repeat' first
    | (with_reducible first | assumption | apply Canon.ite | apply CanonX.ite | apply CanonX.next
                            | apply Canon.decided | apply Canon.removeTake | apply Canon.setBank | apply Canon.setFld
                            | apply Canon.addFld | apply Canon.raise)
    | split
    | (with_reducible apply Canon.ofMk; with_reducible refine Canon.parts ?_)
    | dsimp only

theorem Canon.applyChan {s : State} (h : Canon z s) (o : Nat) (t : Int) : Canon z (State.applyChan s o t) := by
  unfold State.applyChan
  repeat' first
    | (with_reducible first | assumption | apply Canon.ite | refine CanonP.foldl _ ?_ (fun _ _ _ => ?_)
                            | exact CanonP.fst (by with_reducible assumption)
                            | refine Canon.foldl _ ?_ (fun _ _ _ => ?_) | apply Canon.changeChan
                            | apply Canon.applyTakes)
    | split
    | with_reducible refine CanonP.mk ?_ _
    | (with_reducible apply Canon.ofMk; with_reducible refine Canon.parts ?_)
    | dsimp only

end Sys2Proof.Machine
end

