-- ==== Sys2Proof/Laws/CanonArbiter.lean ====
section
/-! SUPPORT. The operations of Machine/Arbiter.lean keep the canonical form of a state. -/

namespace Sys2Proof.Machine
open Reg

variable {z : State}

theorem Canon.icGrant {s : State} (h : Canon z s) (r : IcReq) : Canon z (State.icGrant s r) := by
  unfold State.icGrant
  repeat' first
    | (with_reducible first | assumption | apply Canon.ite | apply Canon.grant)
    | split
    | (with_reducible apply Canon.ofMk; with_reducible refine Canon.parts ?_)
    | dsimp only

theorem Canon.icArrive {s : State} (h : Canon z s) (m t line : Nat) (write : Bool) :
    Canon z (State.icArrive s m t line write) := by
  unfold State.icArrive
  repeat' first
    | (with_reducible first | assumption | apply Canon.ite | apply Canon.icGrant)
    | split
    | (with_reducible apply Canon.ofMk; with_reducible refine Canon.parts ?_)
    | dsimp only

theorem Canon.icCountHeld {s : State} (h : Canon z s) (t : Nat) : Canon z (State.icCountHeld s t) := by
  unfold State.icCountHeld
  repeat' first
    | (with_reducible first | assumption | apply Canon.ite)
    | split
    | (with_reducible apply Canon.ofMk; with_reducible refine Canon.parts ?_)
    | dsimp only

theorem Canon.icServe {s : State} (h : Canon z s) (t : Nat) : Canon z (State.icServe s t) := by
  unfold State.icServe
  repeat' first
    | (with_reducible first | assumption | apply Canon.ite | apply Canon.icCountHeld | apply Canon.icGrant)
    | split
    | (with_reducible apply Canon.ofMk; with_reducible refine Canon.parts ?_)
    | dsimp only

theorem Canon.icTick {s : State} (h : Canon z s) : Canon z (State.icTick s) := by
  unfold State.icTick
  repeat' first
    | (with_reducible first | assumption | apply Canon.ite | refine Canon.upTo _ ?_ (fun _ _ _ => ?_)
                            | apply Canon.icServe)
    | split
    | (with_reducible apply Canon.ofMk; with_reducible refine Canon.parts ?_)
    | dsimp only

theorem Canon.icEnd {s : State} (h : Canon z s) (m : Nat) : Canon z (State.icEnd s m) := by
  unfold State.icEnd
  repeat' first
    | (with_reducible first | assumption)
    | split
    | (with_reducible apply Canon.ofMk; with_reducible refine Canon.parts ?_)
    | dsimp only

end Sys2Proof.Machine
end

