-- ==== Sys2Proof/Laws/CanonAudio.lean ====
section
/-! SUPPORT. The operations of Machine/Audio.lean keep the canonical form of a state. -/

namespace Sys2Proof.Machine
open Reg

variable {z : State}

theorem Canon.setRatio {s : State} (h : Canon z s) (head : Nat) (value : Int) :
    Canon z (State.setRatio s head value) := by
  unfold State.setRatio
  repeat' first
    | (with_reducible first | assumption | refine Canon.each _ ?_ (fun _ _ _ => ?_) | apply Canon.setChanIn)
    | split
    | (with_reducible apply Canon.ofMk; with_reducible refine Canon.parts ?_)

theorem Canon.ratioUpdates {s : State} (h : Canon z s) (k : Nat) : Canon z (State.ratioUpdates s k) := by
  unfold State.ratioUpdates
  repeat' first
    | (with_reducible first | assumption | refine Canon.each _ ?_ (fun _ _ _ => ?_) | apply Canon.advance
                            | apply Canon.setRatio | apply Canon.decided)
    | split
    | (with_reducible apply Canon.ofMk; with_reducible refine Canon.parts ?_)
    | dsimp only

theorem Canon.audioDiffers {s : State} (h : Canon z s) (ch : Nat) : Canon z (State.audioDiffers s ch) := by
  unfold State.audioDiffers
  repeat' first
    | (with_reducible first | assumption | refine Canon.each _ ?_ (fun _ _ _ => ?_) | apply Canon.setAudGroup)
    | split
    | (with_reducible apply Canon.ofMk; with_reducible refine Canon.parts ?_)
    | dsimp only

theorem Canon.takeBack {s : State} (h : Canon z s) (d : AudDec) : Canon z (State.takeBack s d) := by
  unfold State.takeBack
  repeat' first
    | (with_reducible first | assumption | apply Canon.ite | refine Canon.each _ ?_ (fun _ _ _ => ?_)
                            | apply Canon.setChanIn | apply Canon.under | apply Canon.setFld | apply Canon.reclock)
    | split
    | (with_reducible apply Canon.ofMk; with_reducible refine Canon.parts ?_)
    | dsimp only

theorem Canon.settleDecs {s : State} (h : Canon z s) (b : Nat) : Canon z (State.settleDecs s b) := by
  unfold State.settleDecs
  repeat' first
    | (with_reducible first | assumption | apply Canon.ite | refine Canon.each _ ?_ (fun _ _ _ => ?_)
                            | refine Canon.when _ ?_ (fun _ _ => ?_) | apply Canon.audioDiffers | apply Canon.takeBack)
    | split
    | (with_reducible apply Canon.ofMk; with_reducible refine Canon.parts ?_)
    | dsimp only

theorem Canon.startBlock {s : State} (h : Canon z s) (b : Nat) : Canon z (State.startBlock s b) := by
  unfold State.startBlock
  repeat' first
    | (with_reducible first | assumption | refine Canon.each _ ?_ (fun _ _ _ => ?_)
                            | refine Canon.when _ ?_ (fun _ _ => ?_) | apply Canon.settleDecs
                            | apply Canon.sendAudioDigests | apply Canon.applyChan | apply Canon.reenterFlows
                            | apply Canon.ratioUpdates)
    | split
    | (with_reducible apply Canon.ofMk; with_reducible refine Canon.parts ?_)
    | dsimp only

theorem Canon.dueBlock {s : State} (h : Canon z s) : Canon z (State.dueBlock s) := by
  unfold State.dueBlock
  repeat' first
    | (with_reducible first | assumption | apply Canon.ite | apply Canon.startBlock)
    | split
    | (with_reducible apply Canon.ofMk; with_reducible refine Canon.parts ?_)

theorem Canon.sampleAt {s : State} (h : Canon z s) (k : Nat) : Canon z (State.sampleAt s k) := by
  unfold State.sampleAt
  repeat' first
    | (with_reducible first | assumption | apply Canon.aesSides | apply Canon.inputTick | apply Canon.outputTick
                            | apply Canon.embedTick | apply Canon.aesTick)
    | split
    | (with_reducible apply Canon.ofMk; with_reducible refine Canon.parts ?_)

theorem Canon.blockToken {s : State} (h : Canon z s) : Canon z (State.blockToken s) := by
  unfold State.blockToken
  repeat' first
    | (with_reducible first | assumption | apply Canon.ite | apply Canon.dueBlock)
    | split
    | (with_reducible apply Canon.ofMk; with_reducible refine Canon.parts ?_)

theorem Canon.sampleToken {s : State} (h : Canon z s) : Canon z (State.sampleToken s) := by
  unfold State.sampleToken
  repeat' first
    | (with_reducible first | assumption | apply Canon.ite | apply Canon.dueBlock | apply Canon.sampleAt)
    | split
    | (with_reducible apply Canon.ofMk; with_reducible refine Canon.parts ?_)
    | dsimp only

theorem Canon.on_execAsrcLock {s : State} (h : Canon z s) (feed : AsrcFeed) : CanonX z (execAsrcLock feed s) := by
  unfold execAsrcLock
  repeat' first
    | (with_reducible first | assumption | apply Canon.ite | apply CanonX.ite | apply CanonX.next
                            | refine Canon.each _ ?_ (fun _ _ _ => ?_) | refine Canon.when _ ?_ (fun _ _ => ?_)
                            | apply Canon.aesLock | apply Canon.setChanIn)
    | split
    | (with_reducible apply Canon.ofMk; with_reducible refine Canon.parts ?_)
    | dsimp only

end Sys2Proof.Machine
end

