-- ==== Sys2Proof/Laws/CanonOwner.lean ====
section
/-! SUPPORT. The operations of Machine/Owner.lean keep the canonical form of a state. -/

namespace Sys2Proof.Machine
open Reg

variable {z : State}

theorem Canon.setPortRun {s : State} (h : Canon z s) (m : Nat) (x : PortRun) :
    Canon z (State.setPortRun s m x) := by
  unfold State.setPortRun
  repeat' first
    | (with_reducible first | assumption)
    | split
    | (with_reducible apply Canon.ofMk; with_reducible refine Canon.parts ?_)

theorem Canon.clearHostPath {s : State} (h : Canon z s) (m : Nat) : Canon z (State.clearHostPath s m) := by
  unfold State.clearHostPath
  repeat' first
    | (with_reducible first | assumption | refine Canon.each _ ?_ (fun _ _ _ => ?_) | apply Canon.resetFld
                            | apply Canon.setPortRun)
    | split
    | (with_reducible apply Canon.ofMk; with_reducible refine Canon.parts ?_)
    | dsimp only

theorem Canon.clearPorts {s : State} (h : Canon z s) (p : Nat) : Canon z (State.clearPorts s p) := by
  unfold State.clearPorts
  repeat' first
    | (with_reducible first | assumption | refine Canon.each _ ?_ (fun _ _ _ => ?_) | apply Canon.clearHostPath)
    | split
    | (with_reducible apply Canon.ofMk; with_reducible refine Canon.parts ?_)

theorem Canon.passTo {s : State} (h : Canon z s) (ori : Nat) (p : Option Nat) : Canon z (State.passTo s ori p) := by
  unfold State.passTo
  repeat' first
    | (with_reducible first | assumption | refine Canon.when _ ?_ (fun _ _ => ?_) | apply Canon.setOwner
                            | apply Canon.clearHostPath)
    | split
    | (with_reducible apply Canon.ofMk; with_reducible refine Canon.parts ?_)

end Sys2Proof.Machine
end

