-- ==== Sys2Proof/Laws/CanonMediaPort.lean ====
section
/-! SUPPORT. The operations of Machine/MediaPort.lean keep the canonical form of a state. -/

namespace Sys2Proof.Machine
open Reg

variable {z : State}

theorem Canon.enablePort {s : State} (h : Canon z s) (m : Nat) : Canon z (State.enablePort s m) := by
  unfold State.enablePort
  repeat' first
    | (with_reducible first | assumption | apply Canon.ite | refine Canon.each _ ?_ (fun _ _ _ => ?_)
                            | apply Canon.setFld | apply Canon.setPortRun)
    | split
    | (with_reducible apply Canon.ofMk; with_reducible refine Canon.parts ?_)
    | dsimp only

theorem Canon.portDown {s : State} (h : Canon z s) (m : Nat) : Canon z (State.portDown s m) := by
  unfold State.portDown
  repeat' first
    | (with_reducible first | assumption | apply Canon.ite | refine Canon.each _ ?_ (fun _ _ _ => ?_)
                            | refine Canon.when _ ?_ (fun _ _ => ?_) | apply Canon.setFld | apply Canon.addFld
                            | apply Canon.setPortRun | apply Canon.raise | apply Canon.flowDown)
    | split
    | (with_reducible apply Canon.ofMk; with_reducible refine Canon.parts ?_)
    | dsimp only

theorem Canon.disablePort {s : State} (h : Canon z s) (m : Nat) : Canon z (State.disablePort s m) := by
  unfold State.disablePort
  repeat' first
    | (with_reducible first | assumption | apply Canon.ite | refine Canon.each _ ?_ (fun _ _ _ => ?_)
                            | apply Canon.portDown | apply Canon.setFld | apply Canon.setPortRun)
    | split
    | (with_reducible apply Canon.ofMk; with_reducible refine Canon.parts ?_)
    | dsimp only

theorem Canon.setTaps {s : State} (h : Canon z s) (l pre main post : Nat) :
    Canon z (State.setTaps s l pre main post) := by
  unfold State.setTaps
  repeat' first
    | (with_reducible first | assumption | apply Canon.setFld)
    | split
    | (with_reducible apply Canon.ofMk; with_reducible refine Canon.parts ?_)

theorem Canon.on_execLinkTrainingEnd {s : State} (h : Canon z s) (l : Fin 64) (taps : Option EqNow) :
    CanonX z (execLinkTrainingEnd l taps s) := by
  unfold execLinkTrainingEnd
  repeat' first
    | (with_reducible first | assumption | apply CanonX.next | apply Canon.setPortRun | apply Canon.setTaps
                            | apply Canon.setFld)
    | split
    | (with_reducible apply Canon.ofMk; with_reducible refine Canon.parts ?_)
    | dsimp only

theorem Canon.on_execPortUp {s : State} (h : Canon z s) (m : Fin 64) : CanonX z (execPortUp m s) := by
  unfold execPortUp
  repeat' first
    | (with_reducible first | assumption | apply Canon.ite | apply CanonX.ite | apply CanonX.next | apply Canon.setFld
                            | apply Canon.raise)
    | split
    | (with_reducible apply Canon.ofMk; with_reducible refine Canon.parts ?_)

theorem Canon.on_execPortDown {s : State} (h : Canon z s) (m : Fin 64) : CanonX z (execPortDown m s) := by
  unfold execPortDown
  repeat' first
    | (with_reducible first | assumption | apply CanonX.next | apply Canon.portDown)
    | split
    | (with_reducible apply Canon.ofMk; with_reducible refine Canon.parts ?_)

theorem Canon.hpDrop {s : State} (h : Canon z s) (m : Nat) : Canon z (State.hpDrop s m) := by
  unfold State.hpDrop
  repeat' first
    | (with_reducible first | assumption | apply Canon.ite | apply Canon.addFld | apply Canon.setPortRun
                            | apply Canon.raise)
    | split
    | (with_reducible apply Canon.ofMk; with_reducible refine Canon.parts ?_)
    | dsimp only

theorem Canon.hostPath {s : State} (h : Canon z s) (m reason rxTime : Nat) (bytes : List Byte) :
    Canon z (State.hostPath s m reason rxTime bytes) := by
  unfold State.hostPath
  repeat' first
    | (with_reducible first | assumption | apply Canon.ite | refine Canon.when _ ?_ (fun _ _ => ?_)
                            | apply Canon.hpDrop | apply Canon.emit | apply Canon.setFld | apply Canon.addFld
                            | apply Canon.setPortRun | apply Canon.sendVector)
    | split
    | (with_reducible apply Canon.ofMk; with_reducible refine Canon.parts ?_)
    | dsimp only

theorem Canon.writeHpRxHead {s : State} (h : Canon z s) (m v : Nat) : Canon z (State.writeHpRxHead s m v) := by
  unfold State.writeHpRxHead
  repeat' first
    | (with_reducible first | assumption | apply Canon.ite | apply Canon.setFld)
    | split
    | (with_reducible apply Canon.ofMk; with_reducible refine Canon.parts ?_)
    | dsimp only

theorem Canon.writeHpTxTail {s : State} (h : Canon z s) (m v : Nat) : Canon z (State.writeHpTxTail s m v) := by
  unfold State.writeHpTxTail
  repeat' first
    | (with_reducible first | assumption | apply Canon.ite | apply Canon.setFld)
    | split
    | (with_reducible apply Canon.ofMk; with_reducible refine Canon.parts ?_)
    | dsimp only

theorem Canon.writeHpRxRing {s : State} (h : Canon z s) (m v : Nat) : Canon z (State.writeHpRxRing s m v) := by
  unfold State.writeHpRxRing
  repeat' first
    | (with_reducible first | assumption | apply Canon.ite | refine Canon.when _ ?_ (fun _ _ => ?_)
                            | apply Canon.setFld | apply Canon.setPortRun)
    | split
    | (with_reducible apply Canon.ofMk; with_reducible refine Canon.parts ?_)
    | dsimp only

theorem Canon.writeHpTxRing {s : State} (h : Canon z s) (m v : Nat) : Canon z (State.writeHpTxRing s m v) := by
  unfold State.writeHpTxRing
  repeat' first
    | (with_reducible first | assumption | apply Canon.ite | refine Canon.when _ ?_ (fun _ _ => ?_)
                            | apply Canon.setFld)
    | split
    | (with_reducible apply Canon.ofMk; with_reducible refine Canon.parts ?_)
    | dsimp only

theorem Canon.sendFrame {s : State} (h : Canon z s) (m : Nat) (bytes : List Byte) :
    CanonP z (State.sendFrame s m bytes) := by
  unfold State.sendFrame
  repeat' first
    | (with_reducible first | assumption | apply Canon.ite | apply CanonP.ite | apply Canon.setPortRun
                            | apply Canon.addPair | apply Canon.emit | apply Canon.addFld)
    | split
    | with_reducible refine CanonP.mk ?_ _
    | (with_reducible apply Canon.ofMk; with_reducible refine Canon.parts ?_)
    | dsimp only

end Sys2Proof.Machine
end

