-- ==== Sys2Proof/Laws/CanonTiming.lean ====
section
/-! SUPPORT. The operations of Machine/Timing.lean keep the canonical form of a state. -/

namespace Sys2Proof.Machine
open Reg

variable {z : State}

theorem Canon.setRefRun {s : State} (h : Canon z s) (r : Nat) (x : RefRun) : Canon z (State.setRefRun s r x) := by
  unfold State.setRefRun
  repeat' first
    | (with_reducible first | assumption)
    | split
    | (with_reducible apply Canon.ofMk; with_reducible refine Canon.parts ?_)

theorem Canon.setTm {s : State} (h : Canon z s) (st : Nat) : Canon z (State.setTm s st) := by
  unfold State.setTm
  repeat' first
    | (with_reducible first | assumption | apply Canon.setFld)
    | split
    | (with_reducible apply Canon.ofMk; with_reducible refine Canon.parts ?_)

theorem Canon.outOfSpec {s : State} (h : Canon z s) : Canon z (State.outOfSpec s) := by
  unfold State.outOfSpec
  repeat' first
    | (with_reducible first | assumption | apply Canon.setFld | apply Canon.raise)
    | split
    | (with_reducible apply Canon.ofMk; with_reducible refine Canon.parts ?_)

theorem Canon.enterHoldover {s : State} (h : Canon z s) (last : Nat) : Canon z (State.enterHoldover s last) := by
  unfold State.enterHoldover
  repeat' first
    | (with_reducible first | assumption | apply Canon.ite | refine Canon.when _ ?_ (fun _ _ => ?_)
                            | apply Canon.setTm | apply Canon.raise | apply Canon.outOfSpec)
    | split
    | (with_reducible apply Canon.ofMk; with_reducible refine Canon.parts ?_)
    | dsimp only

theorem Canon.acquire {s : State} (h : Canon z s) : Canon z (State.acquire s) := by
  unfold State.acquire
  repeat' first
    | (with_reducible first | assumption | apply Canon.setTm | apply Canon.setFld)
    | split
    | (with_reducible apply Canon.ofMk; with_reducible refine Canon.parts ?_)
    | dsimp only

theorem Canon.mapProbe {s : State} (h : Canon z s) (g : Nat × CoreRun → Nat × CoreRun)
    (hi : ∀ e, (g e).2.imem = e.2.imem) (hd : ∀ e, (g e).2.dmem = e.2.dmem) :
    Canon z { s with probe := { s.probe with cores := s.probe.cores.map g } } := by
  refine Canon.setProbe h (fun e he => ?_)
  obtain ⟨x, hx, rfl⟩ := List.mem_map.1 he
  rw [hi, hd]
  exact h.coresOk x hx

theorem Canon.rephase {s : State} (h : Canon z s) (d : Int) : Canon z (State.rephase s d) := by
  unfold State.rephase
  have hp : ∀ (t : State) (f : State → Nat → PlaneRun), Canon z t →
      Canon z (t.upTo 8 (fun s p => s.setPlaneRun p (f s p))) :=
    fun t f ht => Canon.upTo _ ht (fun _ _ hs => Canon.setPlaneRun hs _ _)
  with_reducible apply Canon.ofMk
  with_reducible refine Canon.parts ?_
  refine Canon.renumber ?_ d
  refine Canon.mapProbe ?_ _ (fun _ => rfl) (fun _ => rfl)
  refine hp _ _ ?_
  exact h

theorem Canon.stepTime {s : State} (h : Canon z s) (d : Int) : Canon z (State.stepTime s d) := by
  unfold State.stepTime
  repeat' first
    | (with_reducible first | assumption | apply Canon.on_step | apply Canon.rephase)
    | split
    | (with_reducible apply Canon.ofMk; with_reducible refine Canon.parts ?_)
    | dsimp only

theorem Canon.setTime {s : State} (h : Canon z s) (d : Int) : Canon z (State.setTime s d) := by
  unfold State.setTime
  repeat' first
    | (with_reducible first | assumption | apply Canon.stepTime | apply Canon.setFld | apply Canon.raise)
    | split
    | (with_reducible apply Canon.ofMk; with_reducible refine Canon.parts ?_)
    | dsimp only

theorem Canon.setPending {s : State} (h : Canon z s) (d : Int) : Canon z (State.setPending s d) := by
  unfold State.setPending
  repeat' first
    | (with_reducible first | assumption | apply Canon.setPair)
    | split
    | (with_reducible apply Canon.ofMk; with_reducible refine Canon.parts ?_)

theorem Canon.clearPending {s : State} (h : Canon z s) : Canon z (State.clearPending s) := by
  unfold State.clearPending
  repeat' first
    | (with_reducible first | assumption | apply Canon.setFld | apply Canon.setPending)
    | split
    | (with_reducible apply Canon.ofMk; with_reducible refine Canon.parts ?_)
    | dsimp only

theorem Canon.reportPending {s : State} (h : Canon z s) : Canon z (State.reportPending s) := by
  unfold State.reportPending
  repeat' first
    | (with_reducible first | assumption | apply Canon.raise)
    | split
    | (with_reducible apply Canon.ofMk; with_reducible refine Canon.parts ?_)
    | dsimp only

theorem Canon.refuseStep {s : State} (h : Canon z s) (d : Int) (host : Bool) (last : Nat) :
    Canon z (State.refuseStep s d host last) := by
  unfold State.refuseStep
  repeat' first
    | (with_reducible first | assumption | apply Canon.enterHoldover | apply Canon.setFld | apply Canon.setPending
                            | apply Canon.reportPending)
    | split
    | (with_reducible apply Canon.ofMk; with_reducible refine Canon.parts ?_)
    | dsimp only

theorem Canon.slewBy {s : State} (h : Canon z s) (d : Int) : Canon z (State.slewBy s d) := by
  unfold State.slewBy
  repeat' first
    | (with_reducible first | assumption)
    | split
    | (with_reducible apply Canon.ofMk; with_reducible refine Canon.parts ?_)

theorem Canon.applyPending {s : State} (h : Canon z s) : Canon z (State.applyPending s) := by
  unfold State.applyPending
  repeat' first
    | (with_reducible first | assumption | refine Canon.when _ ?_ (fun _ _ => ?_) | apply Canon.clearPending
                            | apply Canon.stepTime | apply Canon.acquire | apply Canon.raise)
    | split
    | (with_reducible apply Canon.ofMk; with_reducible refine Canon.parts ?_)
    | dsimp only

theorem Canon.nameRef {s : State} (h : Canon z s) (r : Nat) : Canon z (State.nameRef s r) := by
  unfold State.nameRef
  repeat' first
    | (with_reducible first | assumption | refine Canon.each _ ?_ (fun _ _ _ => ?_) | apply Canon.setFld
                            | apply Canon.setRefRun)
    | split
    | (with_reducible apply Canon.ofMk; with_reducible refine Canon.parts ?_)
    | dsimp only

theorem Canon.selectRef {s : State} (h : Canon z s) (r : Nat) : Canon z (State.selectRef s r) := by
  unfold State.selectRef
  repeat' first
    | (with_reducible first | assumption | apply Canon.ite | apply Canon.clearPending | apply Canon.nameRef
                            | apply Canon.setRefRun | apply Canon.raise | apply Canon.acquire | apply Canon.slewBy
                            | apply Canon.setTime | apply Canon.refuseStep)
    | split
    | (with_reducible apply Canon.ofMk; with_reducible refine Canon.parts ?_)
    | dsimp only

theorem Canon.reselect {s : State} (h : Canon z s) : Canon z (State.reselect s) := by
  unfold State.reselect
  repeat' first
    | (with_reducible first | assumption | refine Canon.when _ ?_ (fun _ _ => ?_) | apply Canon.raise
                            | apply Canon.selectRef | apply Canon.clearPending | apply Canon.nameRef
                            | apply Canon.enterHoldover)
    | split
    | (with_reducible apply Canon.ofMk; with_reducible refine Canon.parts ?_)
    | dsimp only

theorem Canon.loseRef {s : State} (h : Canon z s) (r : Nat) : Canon z (State.loseRef s r) := by
  unfold State.loseRef
  repeat' first
    | (with_reducible first | assumption | apply Canon.ite | refine Canon.when _ ?_ (fun _ _ => ?_)
                            | apply Canon.setFld | apply Canon.setRefRun | apply Canon.clearPending)
    | split
    | (with_reducible apply Canon.ofMk; with_reducible refine Canon.parts ?_)
    | dsimp only

theorem Canon.refWritten {s : State} (h : Canon z s) (r : Nat) : Canon z (State.refWritten s r) := by
  unfold State.refWritten
  repeat' first
    | (with_reducible first | assumption | apply Canon.ite | apply Canon.setRefRun | apply Canon.loseRef)
    | split
    | (with_reducible apply Canon.ofMk; with_reducible refine Canon.parts ?_)
    | dsimp only

theorem Canon.readNowLo {s : State} (h : Canon z s) : CanonP z (State.readNowLo s) := by
  unfold State.readNowLo
  repeat' first
    | (with_reducible first | assumption | apply Canon.setFld)
    | split
    | with_reducible refine CanonP.mk ?_ _
    | (with_reducible apply Canon.ofMk; with_reducible refine Canon.parts ?_)

theorem Canon.refPresent {s : State} (h : Canon z s) (r : Nat) : Canon z (State.refPresent s r) := by
  unfold State.refPresent
  repeat' first
    | (with_reducible first | assumption | apply Canon.ite | refine Canon.when _ ?_ (fun _ _ => ?_)
                            | apply Canon.setFld | apply Canon.setRefRun | apply Canon.raise)
    | split
    | (with_reducible apply Canon.ofMk; with_reducible refine Canon.parts ?_)
    | dsimp only

theorem Canon.on_execRefSignalPresent {s : State} (h : Canon z s) (r : Fin 11) :
    CanonX z (execRefSignalPresent r s) := by
  unfold execRefSignalPresent
  repeat' first
    | (with_reducible first | assumption | apply CanonX.next | apply Canon.refPresent)
    | split
    | (with_reducible apply Canon.ofMk; with_reducible refine Canon.parts ?_)

theorem Canon.on_execRefQualified {s : State} (h : Canon z s) (r : Fin 11) : CanonX z (execRefQualified r s) := by
  unfold execRefQualified
  repeat' first
    | (with_reducible first | assumption | apply Canon.ite | apply CanonX.ite | apply CanonX.next | apply Canon.setFld
                            | apply Canon.setRefRun)
    | split
    | (with_reducible apply Canon.ofMk; with_reducible refine Canon.parts ?_)

theorem Canon.on_execRefLoss {s : State} (h : Canon z s) (loss : LostRef) :
    CanonX z (execRefLoss loss s) := by
  unfold execRefLoss
  repeat' first
    | (with_reducible first | assumption | apply Canon.ite | apply CanonX.ite | apply CanonX.next
                            | refine Canon.when _ ?_ (fun _ _ => ?_) | apply Canon.setFld | apply Canon.loseRef)
    | split
    | (with_reducible apply Canon.ofMk; with_reducible refine Canon.parts ?_)
    | dsimp only

theorem Canon.holdoffPassed {s : State} (h : Canon z s) : Canon z (State.holdoffPassed s) := by
  unfold State.holdoffPassed
  repeat' first
    | (with_reducible first | assumption | apply Canon.ite | refine Canon.when _ ?_ (fun _ _ => ?_)
                            | apply Canon.reselect)
    | split
    | (with_reducible apply Canon.ofMk; with_reducible refine Canon.parts ?_)
    | dsimp only

theorem Canon.takeMeasure {s : State} (h : Canon z s) (r : Nat) (m : Option RefMeasure) :
    Canon z (State.takeMeasure s r m) := by
  unfold State.takeMeasure
  repeat' first
    | (with_reducible first | assumption | apply Canon.ite | apply Canon.setRefRun | apply Canon.setFld)
    | split
    | (with_reducible apply Canon.ofMk; with_reducible refine Canon.parts ?_)
    | dsimp only

theorem Canon.takeMeasures {s : State} (h : Canon z s) (m : TimeMeasure) : Canon z (State.takeMeasures s m) := by
  unfold State.takeMeasures
  repeat' first
    | (with_reducible first | assumption | apply Canon.ite | refine Canon.each _ ?_ (fun _ _ _ => ?_)
                            | apply Canon.takeMeasure | apply Canon.audioEdge | apply Canon.setFld)
    | split
    | (with_reducible apply Canon.ofMk; with_reducible refine Canon.parts ?_)
    | dsimp only

theorem Canon.loopStep {s : State} (h : Canon z s) : Canon z (State.loopStep s) := by
  unfold State.loopStep
  repeat' first
    | (with_reducible first | assumption | apply Canon.ite | apply Canon.advance)
    | split
    | (with_reducible apply Canon.ofMk; with_reducible refine Canon.parts ?_)
    | dsimp only

theorem Canon.learn {s : State} (h : Canon z s) : Canon z (State.learn s) := by
  unfold State.learn
  repeat' first
    | (with_reducible first | assumption | apply Canon.ite | apply Canon.setFld)
    | split
    | (with_reducible apply Canon.ofMk; with_reducible refine Canon.parts ?_)
    | dsimp only

theorem Canon.trackLock {s : State} (h : Canon z s) : Canon z (State.trackLock s) := by
  unfold State.trackLock
  repeat' first
    | (with_reducible first | assumption | apply Canon.ite)
    | split
    | (with_reducible apply Canon.ofMk; with_reducible refine Canon.parts ?_)
    | dsimp only

theorem Canon.trackPending {s : State} (h : Canon z s) : Canon z (State.trackPending s) := by
  unfold State.trackPending
  repeat' first
    | (with_reducible first | assumption | apply Canon.ite | refine Canon.when _ ?_ (fun _ _ => ?_)
                            | apply Canon.setPending | apply Canon.reportPending)
    | split
    | (with_reducible apply Canon.ofMk; with_reducible refine Canon.parts ?_)
    | dsimp only

theorem Canon.trackAbove {s : State} (h : Canon z s) : Canon z (State.trackAbove s) := by
  unfold State.trackAbove
  repeat' first
    | (with_reducible first | assumption | apply Canon.ite | refine Canon.each _ ?_ (fun _ _ _ => ?_)
                            | apply Canon.setRefRun)
    | split
    | (with_reducible apply Canon.ofMk; with_reducible refine Canon.parts ?_)
    | dsimp only

theorem Canon.selectionTick {s : State} (h : Canon z s) (m : TimeMeasure) : Canon z (State.selectionTick s m) := by
  unfold State.selectionTick
  repeat' first
    | (with_reducible first | assumption | apply Canon.ite | apply Canon.takeMeasures | apply Canon.selectRef
                            | apply Canon.trackPending | apply Canon.trackLock | apply Canon.trackAbove
                            | apply Canon.loopStep | apply Canon.learn)
    | split
    | (with_reducible apply Canon.ofMk; with_reducible refine Canon.parts ?_)
    | dsimp only

theorem Canon.revert {s : State} (h : Canon z s) : Canon z (State.revert s) := by
  unfold State.revert
  repeat' first
    | (with_reducible first | assumption | apply Canon.ite | apply Canon.selectRef)
    | split
    | (with_reducible apply Canon.ofMk; with_reducible refine Canon.parts ?_)

theorem Canon.on_execLockAcquired {s : State} (h : Canon z s) : CanonX z (execLockAcquired s) := by
  unfold execLockAcquired
  repeat' first
    | (with_reducible first | assumption | apply Canon.ite | apply CanonX.ite | apply CanonX.next | apply Canon.setTm
                            | apply Canon.raise)
    | split
    | (with_reducible apply Canon.ofMk; with_reducible refine Canon.parts ?_)

theorem Canon.on_execLockLost {s : State} (h : Canon z s) : CanonX z (execLockLost s) := by
  unfold execLockLost
  repeat' first
    | (with_reducible first | assumption | apply Canon.ite | apply CanonX.ite | apply CanonX.next
                            | apply Canon.acquire)
    | split
    | (with_reducible apply Canon.ofMk; with_reducible refine Canon.parts ?_)

theorem Canon.holdoverOos {s : State} (h : Canon z s) : Canon z (State.holdoverOos s) := by
  unfold State.holdoverOos
  repeat' first
    | (with_reducible first | assumption | apply Canon.ite | apply Canon.outOfSpec)
    | split
    | (with_reducible apply Canon.ofMk; with_reducible refine Canon.parts ?_)

theorem Canon.setGo {s : State} (h : Canon z s) : Canon z (State.setGo s) := by
  unfold State.setGo
  repeat' first
    | (with_reducible first | assumption | apply Canon.ite | apply Canon.setTime | apply Canon.slewBy
                            | apply Canon.refuseStep)
    | split
    | (with_reducible apply Canon.ofMk; with_reducible refine Canon.parts ?_)
    | dsimp only

theorem Canon.acceptStep {s : State} (h : Canon z s) (want : Int) : CanonP z (State.acceptStep s want) := by
  unfold State.acceptStep
  repeat' first
    | (with_reducible first | assumption | apply Canon.ite | apply CanonP.ite | apply Canon.applyPending)
    | split
    | with_reducible refine CanonP.mk ?_ _
    | (with_reducible apply Canon.ofMk; with_reducible refine Canon.parts ?_)
    | dsimp only

theorem Canon.audioSource {s : State} (h : Canon z s) (old : State) : Canon z (State.audioSource s old) := by
  unfold State.audioSource
  dsimp only
  split
  · exact h
  · with_reducible apply Canon.ofMk
    with_reducible refine Canon.parts ?_
    exact ((h.setFld _ _ _ _).setFld _ _ _ _).setAud _

theorem Canon.on_execWclkLost {s : State} (h : Canon z s) : CanonX z (execWclkLost s) := by
  unfold execWclkLost
  repeat' first
    | (with_reducible first | assumption | apply Canon.ite | apply CanonX.ite | apply CanonX.next
                            | refine Canon.when _ ?_ (fun _ _ => ?_) | apply Canon.setFld | apply Canon.raise)
    | split
    | (with_reducible apply Canon.ofMk; with_reducible refine Canon.parts ?_)
    | dsimp only

theorem Canon.on_execAudioPlaneSourceReturn {s : State} (h : Canon z s) :
    CanonX z (execAudioPlaneSourceReturn s) := by
  unfold execAudioPlaneSourceReturn
  repeat' first
    | (with_reducible first | assumption | apply Canon.ite | apply CanonX.ite | apply CanonX.next
                            | refine Canon.when _ ?_ (fun _ _ => ?_) | apply Canon.setFld | apply Canon.setAud)
    | split
    | (with_reducible apply Canon.ofMk; with_reducible refine Canon.parts ?_)
    | dsimp only

end Sys2Proof.Machine
end

