-- ==== Sys2Proof/Laws/CanonMediaRx.lean ====
section
/-! SUPPORT. The operations of Machine/MediaRx.lean keep the canonical form of a state. -/

namespace Sys2Proof.Machine
open Reg

variable {z : State}

theorem Canon.flowAccept {s : State} (h : Canon z s) (f seq : Nat) : Canon z (State.flowAccept s f seq) := by
  unfold State.flowAccept
  repeat' first
    | (with_reducible first | assumption | apply Canon.ite | refine Canon.when _ ?_ (fun _ _ => ?_)
                            | apply Canon.setFlow | apply Canon.updSrc | apply Canon.flowEvent)
    | split
    | (with_reducible apply Canon.ofMk; with_reducible refine Canon.parts ?_)
    | dsimp only

theorem Canon.flowBad {s : State} (h : Canon z s) (f : Nat) : Canon z (State.flowBad s f) := by
  unfold State.flowBad
  repeat' first
    | (with_reducible first | assumption | apply Canon.updFlow)
    | split
    | (with_reducible apply Canon.ofMk; with_reducible refine Canon.parts ?_)

theorem Canon.flowDup {s : State} (h : Canon z s) (f : Nat) : Canon z (State.flowDup s f) := by
  unfold State.flowDup
  repeat' first
    | (with_reducible first | assumption | apply Canon.updFlow)
    | split
    | (with_reducible apply Canon.ofMk; with_reducible refine Canon.parts ?_)

theorem Canon.flowLate {s : State} (h : Canon z s) (f : Nat) : Canon z (State.flowLate s f) := by
  unfold State.flowLate
  repeat' first
    | (with_reducible first | assumption | apply Canon.updFlow)
    | split
    | (with_reducible apply Canon.ofMk; with_reducible refine Canon.parts ?_)

theorem Canon.mergePacket {s : State} (h : Canon z s) (f seq : Nat) (ws : FlowWords) :
    CanonP z (State.mergePacket s f seq ws) := by
  unfold State.mergePacket
  repeat' first
    | (with_reducible first | assumption | apply Canon.setStream | apply Canon.flowDup | apply Canon.flowLate)
    | split
    | with_reducible refine CanonP.mk ?_ _
    | (with_reducible apply Canon.ofMk; with_reducible refine Canon.parts ?_)
    | dsimp only

theorem Canon.coverPacket {s : State} (h : Canon z s) (f : Nat) (ref : SlotRef) (leg seq : Nat) (rows : List SampleRow) :
    Canon z (State.coverPacket s f ref leg seq rows) := by
  unfold State.coverPacket
  repeat' first
    | (with_reducible first | assumption | apply Canon.ite | apply Canon.flowDup | apply Canon.updSlot)
    | split
    | (with_reducible apply Canon.ofMk; with_reducible refine Canon.parts ?_)
    | dsimp only

theorem Canon.stampSlot {s : State} (h : Canon z s) (n t : Nat) : Canon z (State.stampSlot s n t) := by
  unfold State.stampSlot
  repeat' first
    | (with_reducible first | assumption | apply Canon.ite | apply Canon.updSlot)
    | split
    | (with_reducible apply Canon.ofMk; with_reducible refine Canon.parts ?_)
    | dsimp only

theorem Canon.openFlowSlot {s : State} (h : Canon z s) (n t : Nat) : Canon z (State.openFlowSlot s n t) := by
  unfold State.openFlowSlot
  repeat' first
    | (with_reducible first | assumption | refine Canon.when _ ?_ (fun _ _ => ?_) | apply Canon.becomePresent
                            | apply Canon.openSlot | apply Canon.updSrc | apply Canon.stampSlot)
    | split
    | (with_reducible apply Canon.ofMk; with_reducible refine Canon.parts ?_)
    | dsimp only

theorem Canon.startFrame {s : State} (h : Canon z s) (n f t : Nat) : Canon z (State.startFrame s n f t) := by
  unfold State.startFrame
  repeat' first
    | (with_reducible first | assumption | apply Canon.ite | apply Canon.openFlowSlot | apply Canon.takeFormat
                            | apply Canon.setFld)
    | split
    | (with_reducible apply Canon.ofMk; with_reducible refine Canon.parts ?_)
    | dsimp only

theorem Canon.placePacket {s : State} (h : Canon z s) (f n leg seq t : Nat) (rows : List SampleRow) :
    Canon z (State.placePacket s f n leg seq t rows) := by
  unfold State.placePacket
  repeat' first
    | (with_reducible first | assumption | apply Canon.ite | apply Canon.coverPacket | apply Canon.addFld
                            | apply Canon.flowLate)
    | split
    | (with_reducible apply Canon.ofMk; with_reducible refine Canon.parts ?_)
    | dsimp only

theorem Canon.videoPacket {s : State} (h : Canon z s) (f : Nat) (ws : FlowWords) (r : Rtp) (rows : List SampleRow) :
    Canon z (State.videoPacket s f ws r rows) := by
  unfold State.videoPacket
  repeat' first
    | (with_reducible first | assumption | apply Canon.ite | apply Canon.startFrame | apply Canon.placePacket
                            | apply Canon.updSrc | apply Canon.updSlot)
    | split
    | (with_reducible apply Canon.ofMk; with_reducible refine Canon.parts ?_)
    | dsimp only

theorem Canon.audioPacket {s : State} (h : Canon z s) (ws : FlowWords) (r : Rtp) :
    Canon z (State.audioPacket s ws r) := by
  unfold State.audioPacket
  repeat' first
    | (with_reducible first | assumption | refine Canon.upTo _ ?_ (fun _ _ _ => ?_) | apply Canon.writeFlowSample)
    | split
    | (with_reducible apply Canon.ofMk; with_reducible refine Canon.parts ?_)
    | dsimp only

theorem Canon.ancPacketsOf {s : State} (h : Canon z s) (ws : FlowWords) (r : Rtp) :
    Canon z (State.ancPacketsOf s ws r) := by
  unfold State.ancPacketsOf
  repeat' first
    | (with_reducible first | assumption | refine Canon.each _ ?_ (fun _ _ _ => ?_) | apply Canon.ancTake
                            | apply CanonP.fst | refine CanonP.of (by with_reducible assumption) ?_)
    | split
    | (with_reducible apply Canon.ofMk; with_reducible refine Canon.parts ?_)
    | dsimp only

theorem Canon.deliverFlow {s : State} (h : Canon z s) (f : Nat) (ws : FlowWords) (u : UdpFrame) :
    Canon z (State.deliverFlow s f ws u) := by
  unfold State.deliverFlow
  repeat' first
    | (with_reducible first | assumption | apply Canon.ite | refine Canon.when _ ?_ (fun _ _ => ?_)
                            | apply Canon.flowBad | apply Canon.flowAccept | apply Canon.videoPacket
                            | apply Canon.mergePacket | apply Canon.audioPacket | apply Canon.ancPacketsOf
                            | apply Canon.rxAcquire | apply CanonP.fst
                            | refine CanonP.of (by with_reducible assumption) ?_)
    | split
    | (with_reducible apply Canon.ofMk; with_reducible refine Canon.parts ?_)
    | dsimp only

theorem Canon.lookupFrame {s : State} (h : Canon z s) (m rxTime : Nat) (bytes : List Byte) (u : UdpFrame) (short : Bool) :
    Canon z (State.lookupFrame s m rxTime bytes u short) := by
  unfold State.lookupFrame
  repeat' first
    | (with_reducible first | assumption | apply Canon.ite | apply Canon.addFld | apply Canon.deliverFlow
                            | apply Canon.hostPath)
    | split
    | (with_reducible apply Canon.ofMk; with_reducible refine Canon.parts ?_)

theorem Canon.countFec {s : State} (h : Canon z s) (m : Nat) (f : NetFrame) : Canon z (State.countFec s m f) := by
  unfold State.countFec
  repeat' first
    | (with_reducible first | assumption | apply Canon.ite | apply Canon.addFld | apply Canon.setPortRun
                            | apply Canon.raise)
    | split
    | (with_reducible apply Canon.ofMk; with_reducible refine Canon.parts ?_)
    | dsimp only

theorem Canon.setShortQueue {s : State} (h : Canon z s) (i : Nat) (q : List ShortFrame) :
    Canon z (State.setShortQueue s i q) := by
  unfold State.setShortQueue
  repeat' first
    | (with_reducible first | assumption)
    | split
    | (with_reducible apply Canon.ofMk; with_reducible refine Canon.parts ?_)

theorem Canon.delayReqs {s : State} (h : Canon z s) (m : Nat) : Canon z (State.delayReqs s m) := by
  unfold State.delayReqs
  repeat' first
    | (with_reducible first | assumption | apply Canon.ite | refine Canon.each _ ?_ (fun _ _ _ => ?_)
                            | apply Canon.advance | apply Canon.emit | apply Canon.addFld)
    | split
    | (with_reducible apply Canon.ofMk; with_reducible refine Canon.parts ?_)

theorem Canon.parseChain {s : State} (h : Canon z s) (m : Nat) (bytes : List Byte) :
    Canon z (State.parseChain s m bytes) := by
  unfold State.parseChain
  repeat' first
    | (with_reducible first | assumption | apply Canon.ite | refine Canon.when _ ?_ (fun _ _ => ?_)
                            | apply Canon.hostPath | apply Canon.addFld | apply Canon.delayReqs
                            | apply Canon.setShortQueue | apply Canon.lookupFrame)
    | split
    | (with_reducible apply Canon.ofMk; with_reducible refine Canon.parts ?_)
    | dsimp only

theorem Canon.on_execMediaFrameReceive {s : State} (h : Canon z s) (m : Fin 64) (frame : NetFrame) :
    CanonX z (execMediaFrameReceive m frame s) := by
  unfold execMediaFrameReceive
  repeat' first
    | (with_reducible first | assumption | apply Canon.ite | apply CanonX.ite | apply CanonX.next
                            | apply Canon.addPair | apply Canon.countFec | apply Canon.addFld | apply Canon.parseChain)
    | split
    | (with_reducible apply Canon.ofMk; with_reducible refine Canon.parts ?_)
    | dsimp only

theorem Canon.on_execShortPathLookup {s : State} (h : Canon z s) (i : Fin 16) :
    CanonX z (execShortPathLookup i s) := by
  unfold execShortPathLookup
  repeat' first
    | (with_reducible first | assumption | apply Canon.ite | apply CanonX.ite | apply CanonX.next
                            | apply Canon.setShortQueue | apply Canon.lookupFrame)
    | split
    | (with_reducible apply Canon.ofMk; with_reducible refine Canon.parts ?_)
    | dsimp only

theorem Canon.on_execNetLoss {s : State} (h : Canon z s) (n : Fin 1024) : CanonX z (execNetLoss n s) := by
  unfold execNetLoss
  repeat' first
    | (with_reducible first | assumption | apply Canon.ite | apply CanonX.ite | apply CanonX.next
                            | apply Canon.becomeAbsent | apply Canon.setRx | apply Canon.raise)
    | split
    | (with_reducible apply Canon.ofMk; with_reducible refine Canon.parts ?_)
    | dsimp only

theorem Canon.on_execCloseDeadline {s : State} (h : Canon z s) (n : Fin 1024) :
    CanonX z (execCloseDeadline n s) := by
  unfold execCloseDeadline
  repeat' first
    | (with_reducible first | assumption | apply Canon.ite | apply CanonX.ite | apply CanonX.next
                            | refine Canon.each _ ?_ (fun _ _ _ => ?_) | apply Canon.updSlot | apply Canon.closeSlot)
    | split
    | (with_reducible apply Canon.ofMk; with_reducible refine Canon.parts ?_)

end Sys2Proof.Machine
end

