-- ==== Sys2Proof/Laws/CanonSdiTx.lean ====
section
/-! SUPPORT. The operations of Machine/SdiTx.lean keep the canonical form of a state. -/

namespace Sys2Proof.Machine
open Reg

variable {z : State}

theorem Canon.bindTx {s : State} (h : Canon z s) (d : Nat) : Canon z (State.bindTx s d) := by
  unfold State.bindTx
  repeat' first
    | (with_reducible first | assumption | refine CanonP.foldl _ ?_ (fun _ _ _ => ?_)
                            | exact CanonP.fst (by with_reducible assumption)
                            | refine Canon.foldl _ ?_ (fun _ _ _ => ?_) | apply Canon.setFld)
    | split
    | with_reducible refine CanonP.mk ?_ _
    | (with_reducible apply Canon.ofMk; with_reducible refine Canon.parts ?_)
    | dsimp only

theorem Canon.idleTx {s : State} (h : Canon z s) (d : Nat) : Canon z (State.idleTx s d) := by
  unfold State.idleTx
  repeat' first
    | (with_reducible first | assumption | refine Canon.each _ ?_ (fun _ _ _ => ?_) | apply Canon.setFld)
    | split
    | (with_reducible apply Canon.ofMk; with_reducible refine Canon.parts ?_)

theorem Canon.unbindTx {s : State} (h : Canon z s) (d : Nat) : Canon z (State.unbindTx s d) := by
  unfold State.unbindTx
  repeat' first
    | (with_reducible first | assumption | refine Canon.each _ ?_ (fun _ _ _ => ?_) | apply Canon.idleTx
                            | apply Canon.setFld)
    | split
    | (with_reducible apply Canon.ofMk; with_reducible refine Canon.parts ?_)
    | dsimp only

theorem Canon.ancFrame {s : State} (h : Canon z s) (d : Nat) (at' : Int) : CanonP z (State.ancFrame s d at') := by
  unfold State.ancFrame
  repeat' first
    | (with_reducible first | assumption | apply Canon.ite | apply CanonP.ite
                            | refine CanonP.foldl _ ?_ (fun _ _ _ => ?_)
                            | exact CanonP.fst (by with_reducible assumption)
                            | refine Canon.foldl _ ?_ (fun _ _ _ => ?_) | apply Canon.setDstRun)
    | split
    | with_reducible refine CanonP.mk ?_ _
    | (with_reducible apply Canon.ofMk; with_reducible refine Canon.parts ?_)
    | dsimp only

theorem Canon.sdiTxFrame {s : State} (h : Canon z s) (d k : Nat) (at' : Int) (irregular : Bool) :
    Canon z (State.sdiTxFrame s d k at' irregular) := by
  unfold State.sdiTxFrame
  repeat' first
    | (with_reducible first | assumption | refine Canon.each _ ?_ (fun _ _ _ => ?_)
                            | refine Canon.when _ ?_ (fun _ _ => ?_) | apply Canon.ancFrame | apply Canon.setFld
                            | apply Canon.addFld | apply Canon.emit | apply Canon.raise | apply CanonP.fst
                            | refine CanonP.of (by with_reducible assumption) ?_)
    | split
    | (with_reducible apply Canon.ofMk; with_reducible refine Canon.parts ?_)
    | dsimp only

end Sys2Proof.Machine
end

