-- ==== Sys2Proof/Laws/CanonMediaTx.lean ====
section
/-! SUPPORT. The operations of Machine/MediaTx.lean keep the canonical form of a state. -/

namespace Sys2Proof.Machine
open Reg

variable {z : State}

theorem Canon.streamBase {s : State} (h : Canon z s) (c : Nat) (ws : FlowWords) (k count : Nat) :
    CanonP z (State.streamBase s c ws k count) := by
  unfold State.streamBase
  repeat' first
    | (with_reducible first | assumption | apply Canon.ite | apply CanonP.ite | apply Canon.setStream)
    | split
    | with_reducible refine CanonP.mk ?_ _
    | (with_reducible apply Canon.ofMk; with_reducible refine Canon.parts ?_)
    | dsimp only

theorem Canon.queueFlow {s : State} (h : Canon z s) (c k : Nat) (f : Int) (p : Nat) :
    Canon z (State.queueFlow s c k f p) := by
  unfold State.queueFlow
  repeat' first
    | (with_reducible first | assumption | apply Canon.ite | apply Canon.streamBase | apply Canon.updFlow
                            | apply CanonP.fst | refine CanonP.of (by with_reducible assumption) ?_)
    | split
    | (with_reducible apply Canon.ofMk; with_reducible refine Canon.parts ?_)
    | dsimp only

theorem Canon.queueSends {s : State} (h : Canon z s) (d k : Nat) (f : Int) (p : Nat) :
    Canon z (State.queueSends s d k f p) := by
  unfold State.queueSends
  repeat' first
    | (with_reducible first | assumption | refine Canon.each _ ?_ (fun _ _ _ => ?_) | apply Canon.queueFlow)
    | split
    | (with_reducible apply Canon.ofMk; with_reducible refine Canon.parts ?_)

theorem Canon.keepSent {s : State} (h : Canon z s) (d : Nat) : Canon z (State.keepSent s d) := by
  unfold State.keepSent
  repeat' first
    | (with_reducible first | assumption)
    | split
    | (with_reducible apply Canon.ofMk; with_reducible refine Canon.parts ?_)
    | dsimp only

theorem Canon.on_execHpTxSend {s : State} (h : Canon z s) (m : Fin 64) (answer : HostAnswer) :
    CanonX z (execHpTxSend m answer s) := by
  unfold execHpTxSend
  repeat' first
    | (with_reducible first | assumption | apply Canon.ite | apply CanonX.ite | apply CanonX.next
                            | refine Canon.when _ ?_ (fun _ _ => ?_) | apply Canon.setFld | apply Canon.sendFrame
                            | apply Canon.addFld | apply Canon.emit | apply CanonP.fst
                            | refine CanonP.of (by with_reducible assumption) ?_)
    | split
    | (with_reducible apply Canon.ofMk; with_reducible refine Canon.parts ?_)
    | dsimp only

theorem Canon.sendMedia {s : State} (h : Canon z s) (f : Nat) (ws : FlowWords) (due slack : Int) (rtp : List Byte) :
    Canon z (State.sendMedia s f ws due slack rtp) := by
  unfold State.sendMedia
  repeat' first
    | (with_reducible first | assumption | apply Canon.ite | refine Canon.when _ ?_ (fun _ _ => ?_)
                            | apply Canon.advance | apply Canon.sendFrame | apply Canon.addFld | apply Canon.updFlow
                            | apply CanonP.fst | refine CanonP.of (by with_reducible assumption) ?_)
    | split
    | (with_reducible apply Canon.ofMk; with_reducible refine Canon.parts ?_)
    | dsimp only

theorem Canon.sendAudio {s : State} (h : Canon z s) (f : Nat) (x : FlowRun) : Canon z (State.sendAudio s f x) := by
  unfold State.sendAudio
  repeat' first
    | (with_reducible first | assumption | apply Canon.ite | apply Canon.setStream | apply Canon.updFlow
                            | apply Canon.sendMedia)
    | split
    | (with_reducible apply Canon.ofMk; with_reducible refine Canon.parts ?_)
    | dsimp only

theorem Canon.sendVideo {s : State} (h : Canon z s) (f : Nat) (x : FlowRun) : Canon z (State.sendVideo s f x) := by
  unfold State.sendVideo
  repeat' first
    | (with_reducible first | assumption | apply Canon.ite | apply Canon.updFlow | apply Canon.sendMedia)
    | split
    | (with_reducible apply Canon.ofMk; with_reducible refine Canon.parts ?_)
    | dsimp only

theorem Canon.on_execSendPacketDue {s : State} (h : Canon z s) (f : Fin 262144) :
    CanonX z (execSendPacketDue f s) := by
  unfold execSendPacketDue
  repeat' first
    | (with_reducible first | assumption | apply Canon.ite | apply CanonX.ite | apply CanonX.next
                            | apply Canon.updFlow | apply Canon.sendAudio | apply Canon.sendVideo)
    | split
    | (with_reducible apply Canon.ofMk; with_reducible refine Canon.parts ?_)

end Sys2Proof.Machine
end

