-- ==== Sys2Proof/Laws/CanonSdiSignal.lean ====
section
/-! SUPPORT. The operations of Machine/SdiSignal.lean keep the canonical form of a state. -/

namespace Sys2Proof.Machine
open Reg

variable {z : State}

theorem Canon.sendSignal {s : State} (h : Canon z s) (d : Nat) (f : Int) (irregular : Bool) :
    Canon z (State.sendSignal s d f irregular) := by
  unfold State.sendSignal
  repeat' first
    | (with_reducible first | assumption | refine Canon.upTo _ ?_ (fun _ _ _ => ?_)
                            | refine Canon.when _ ?_ (fun _ _ => ?_) | apply Canon.emit)
    | split
    | (with_reducible apply Canon.ofMk; with_reducible refine Canon.parts ?_)
    | dsimp only

end Sys2Proof.Machine
end

