-- ==== Sys2Proof/Laws/CanonFrames.lean ====
section
/-! SUPPORT. The operations of Machine/Frames.lean keep the canonical form of a state. -/

namespace Sys2Proof.Machine
open Reg

variable {z : State}

theorem Canon.planeFrame {s : State} (h : Canon z s) (p : Nat) : Canon z (State.planeFrame s p) := by
  unfold State.planeFrame
  repeat' first
    | (with_reducible first | assumption | apply Canon.ite | apply Canon.setPlaneRun)
    | split
    | (with_reducible apply Canon.ofMk; with_reducible refine Canon.parts ?_)
    | dsimp only

theorem Canon.readerChoice {s : State} (h : Canon z s) (rd k : Nat) (f : Int) (lead : Nat) :
    Canon z (State.readerChoice s rd k f lead) := by
  unfold State.readerChoice
  repeat' first
    | (with_reducible first | assumption | apply Canon.ite | refine Canon.when _ ?_ (fun _ _ => ?_)
                            | apply Canon.addFld | apply Canon.selectFor)
    | split
    | (with_reducible apply Canon.ofMk; with_reducible refine Canon.parts ?_)
    | dsimp only

theorem Canon.fillHold {s : State} (h : Canon z s) (rd : Nat) : Canon z (State.fillHold s rd) := by
  unfold State.fillHold
  repeat' first
    | (with_reducible first | assumption | apply Canon.ite | apply Canon.setReader | apply Canon.hold
                            | apply CanonP.fst | refine CanonP.of (by with_reducible assumption) ?_)
    | split
    | (with_reducible apply Canon.ofMk; with_reducible refine Canon.parts ?_)
    | dsimp only

theorem Canon.advanceReader {s : State} (h : Canon z s) (rd k : Nat) (f : Int) (lead : Nat) :
    Canon z (State.advanceReader s rd k f lead) := by
  unfold State.advanceReader
  repeat' first
    | (with_reducible first | assumption | refine Canon.each _ ?_ (fun _ _ _ => ?_) | apply Canon.readerChoice
                            | apply Canon.setReader | apply Canon.fillHold | apply Canon.sweepRings)
    | split
    | (with_reducible apply Canon.ofMk; with_reducible refine Canon.parts ?_)
    | dsimp only

theorem Canon.clearReader {s : State} (h : Canon z s) (rd : Nat) : Canon z (State.clearReader s rd) := by
  unfold State.clearReader
  repeat' first
    | (with_reducible first | assumption | refine Canon.each _ ?_ (fun _ _ _ => ?_) | apply Canon.setReader
                            | apply Canon.sweepRings)
    | split
    | (with_reducible apply Canon.ofMk; with_reducible refine Canon.parts ?_)
    | dsimp only

theorem Canon.countShown {s : State} (h : Canon z s) (d : Nat) : Canon z (State.countShown s d) := by
  unfold State.countShown
  repeat' first
    | (with_reducible first | assumption | apply Canon.ite | apply Canon.setFld | apply Canon.addFld
                            | apply Canon.setDstRun)
    | split
    | (with_reducible apply Canon.ofMk; with_reducible refine Canon.parts ?_)
    | dsimp only

theorem Canon.sendPicture {s : State} (h : Canon z s) (d k : Nat) (p : Pic) :
    Canon z (State.sendPicture s d k p) := by
  unfold State.sendPicture
  repeat' first
    | (with_reducible first | assumption | refine Canon.when _ ?_ (fun _ _ => ?_) | apply Canon.emit
                            | apply Canon.ownDigest)
    | split
    | (with_reducible apply Canon.ofMk; with_reducible refine Canon.parts ?_)
    | dsimp only

theorem Canon.endDstFrame {s : State} (h : Canon z s) (d : Nat) (f : Int) (irregular : Bool) :
    Canon z (State.endDstFrame s d f irregular) := by
  unfold State.endDstFrame
  repeat' first
    | (with_reducible first | assumption | apply Canon.ite | apply Canon.setDstRun | apply Canon.sendPicture
                            | apply Canon.dstStatus | apply Canon.countShown | apply Canon.sendSignal
                            | apply Canon.keepSent)
    | split
    | (with_reducible apply Canon.ofMk; with_reducible refine Canon.parts ?_)
    | dsimp only

theorem Canon.stopDst {s : State} (h : Canon z s) (d : Nat) : Canon z (State.stopDst s d) := by
  unfold State.stopDst
  repeat' first
    | (with_reducible first | assumption | apply Canon.setFld | apply Canon.unbindTx | apply Canon.setDstRun
                            | apply Canon.clearReader | apply Canon.setEmb | apply Canon.reachAll)
    | split
    | (with_reducible apply Canon.ofMk; with_reducible refine Canon.parts ?_)
    | dsimp only

theorem Canon.renderFrame {s : State} (h : Canon z s) (d k : Nat) : Canon z (State.renderFrame s d k) := by
  unfold State.renderFrame
  repeat' first
    | (with_reducible first | assumption | apply Canon.ite | apply Canon.setDstRun | apply Canon.sendPicture
                            | apply Canon.dstStatus | apply Canon.countShown)
    | split
    | (with_reducible apply Canon.ofMk; with_reducible refine Canon.parts ?_)
    | dsimp only

theorem Canon.motionAtStart {s : State} (h : Canon z s) (d : Nat) (f : Int) (lead : Nat) :
    Canon z (State.motionAtStart s d f lead) := by
  unfold State.motionAtStart
  repeat' first
    | (with_reducible first | assumption | apply Canon.ite | apply Canon.setReader)
    | split
    | (with_reducible apply Canon.ofMk; with_reducible refine Canon.parts ?_)
    | dsimp only

theorem Canon.startDstFrame {s : State} (h : Canon z s) (d k : Nat) (f ph : Int) (lead : Nat) :
    Canon z (State.startDstFrame s d k f ph lead) := by
  unfold State.startDstFrame
  repeat' first
    | (with_reducible first | assumption | refine Canon.when _ ?_ (fun _ _ => ?_) | apply Canon.setFld
                            | apply Canon.setDstRun | apply Canon.advanceReader | apply Canon.motionAtStart
                            | apply Canon.addFld | apply Canon.renderFrame | apply Canon.embFrame
                            | apply Canon.sdiTxFrame | apply Canon.queueSends)
    | split
    | (with_reducible apply Canon.ofMk; with_reducible refine Canon.parts ?_)
    | dsimp only

theorem Canon.dstFrame {s : State} (h : Canon z s) (d : Nat) : Canon z (State.dstFrame s d) := by
  unfold State.dstFrame
  repeat' first
    | (with_reducible first | assumption | apply Canon.ite | apply Canon.endDstFrame | apply Canon.applyBoundary
                            | apply Canon.stopDst | apply Canon.startDstFrame)
    | split
    | (with_reducible apply Canon.ofMk; with_reducible refine Canon.parts ?_)
    | dsimp only

theorem Canon.writeOutput {s : State} (h : Canon z s) (c k : Nat) (ref : SlotRef) :
    Canon z (State.writeOutput s c k ref) := by
  unfold State.writeOutput
  repeat' first
    | (with_reducible first | assumption | apply Canon.ite | refine Canon.upTo _ ?_ (fun _ _ _ => ?_)
                            | apply Canon.under | apply Canon.updSlot | apply Canon.layerStatus)
    | split
    | (with_reducible apply Canon.ofMk; with_reducible refine Canon.parts ?_)
    | dsimp only

theorem Canon.endCmpFrame {s : State} (h : Canon z s) (c : Nat) : Canon z (State.endCmpFrame s c) := by
  unfold State.endCmpFrame
  repeat' first
    | (with_reducible first | assumption | apply Canon.writeOutput | apply Canon.setCmpRun)
    | split
    | (with_reducible apply Canon.ofMk; with_reducible refine Canon.parts ?_)
    | dsimp only

theorem Canon.stopCmp {s : State} (h : Canon z s) (c : Nat) : Canon z (State.stopCmp s c) := by
  unfold State.stopCmp
  repeat' first
    | (with_reducible first | assumption | refine Canon.each _ ?_ (fun _ _ _ => ?_)
                            | refine Canon.when _ ?_ (fun _ _ => ?_) | apply Canon.setFld | apply Canon.setCmpRun
                            | apply Canon.clearReader)
    | split
    | (with_reducible apply Canon.ofMk; with_reducible refine Canon.parts ?_)
    | dsimp only

theorem Canon.cmpFormat {s : State} (h : Canon z s) (c : Nat) : Canon z (State.cmpFormat s c) := by
  unfold State.cmpFormat
  repeat' first
    | (with_reducible first | assumption | apply Canon.ite | apply Canon.updSrc)
    | split
    | (with_reducible apply Canon.ofMk; with_reducible refine Canon.parts ?_)
    | dsimp only

theorem Canon.countActed {s : State} (h : Canon z s) (c : Nat) : Canon z (State.countActed s c) := by
  unfold State.countActed
  repeat' first
    | (with_reducible first | assumption | refine Canon.upTo _ ?_ (fun _ _ _ => ?_)
                            | refine Canon.when _ ?_ (fun _ _ => ?_) | apply Canon.addFld)
    | split
    | (with_reducible apply Canon.ofMk; with_reducible refine Canon.parts ?_)
    | dsimp only

theorem Canon.startCmpFrame {s : State} (h : Canon z s) (c k : Nat) (f ph : Int) (lead : Nat) :
    Canon z (State.startCmpFrame s c k f ph lead) := by
  unfold State.startCmpFrame
  repeat' first
    | (with_reducible first | assumption | apply Canon.ite | refine Canon.each _ ?_ (fun _ _ _ => ?_)
                            | refine Canon.when _ ?_ (fun _ _ => ?_) | apply Canon.setFld | apply Canon.setCmpRun
                            | apply Canon.cmpFormat | apply Canon.advanceReader | apply Canon.countActed
                            | apply Canon.openSlot | apply Canon.writeOutput)
    | split
    | (with_reducible apply Canon.ofMk; with_reducible refine Canon.parts ?_)
    | dsimp only

theorem Canon.cmpFrame {s : State} (h : Canon z s) (c : Nat) : Canon z (State.cmpFrame s c) := by
  unfold State.cmpFrame
  repeat' first
    | (with_reducible first | assumption | apply Canon.ite | apply Canon.endCmpFrame | apply Canon.setCmpRun
                            | apply Canon.applyBoundary | apply Canon.startCmpFrame | apply Canon.stopCmp)
    | split
    | (with_reducible apply Canon.ofMk; with_reducible refine Canon.parts ?_)
    | dsimp only

theorem Canon.frameToken {s : State} (h : Canon z s) (p : Nat) : Canon z (State.frameToken s p) := by
  unfold State.frameToken
  repeat' first
    | (with_reducible first | assumption | apply Canon.ite | refine Canon.each _ ?_ (fun _ _ _ => ?_)
                            | apply Canon.planeFrame | apply Canon.dstFrame | apply Canon.cmpFrame)
    | split
    | (with_reducible apply Canon.ofMk; with_reducible refine Canon.parts ?_)
    | dsimp only

theorem Canon.on_execFrameStart {s : State} (h : Canon z s) (p : Fin 8) : CanonX z (execFrameStart p s) := by
  unfold execFrameStart
  repeat' first
    | (with_reducible first | assumption | apply CanonX.next | apply Canon.postTokens | apply Canon.frameToken)
    | split
    | (with_reducible apply Canon.ofMk; with_reducible refine Canon.parts ?_)

theorem Canon.frameTokens {s : State} (h : Canon z s) : Canon z (State.frameTokens s) := by
  unfold State.frameTokens
  repeat' first
    | (with_reducible first | assumption | refine Canon.upTo _ ?_ (fun _ _ _ => ?_) | apply Canon.postTokens
                            | apply Canon.frameToken)
    | split
    | (with_reducible apply Canon.ofMk; with_reducible refine Canon.parts ?_)

theorem Canon.tearTo {s : State} (h : Canon z s) (rd j : Nat) (other : Option SlotRef) :
    Canon z (State.tearTo s rd j other) := by
  unfold State.tearTo
  repeat' first
    | (with_reducible first | assumption | apply Canon.ite | apply Canon.addFld | apply Canon.setReader)
    | split
    | (with_reducible apply Canon.ofMk; with_reducible refine Canon.parts ?_)
    | dsimp only

theorem Canon.tear {s : State} (h : Canon z s) (rd j k : Nat) : Canon z (State.tear s rd j k) := by
  unfold State.tear
  repeat' first
    | (with_reducible first | assumption | apply Canon.ite | refine Canon.when _ ?_ (fun _ _ => ?_)
                            | apply Canon.tearTo | apply Canon.send)
    | split
    | (with_reducible apply Canon.ofMk; with_reducible refine Canon.parts ?_)
    | dsimp only

theorem Canon.tearOn {s : State} (h : Canon z s) (p rd : Nat) : Canon z (State.tearOn s p rd) := by
  unfold State.tearOn
  repeat' first
    | (with_reducible first | assumption | apply Canon.ite | apply Canon.tear)
    | split
    | (with_reducible apply Canon.ofMk; with_reducible refine Canon.parts ?_)
    | dsimp only

theorem Canon.dstLine {s : State} (h : Canon z s) (p d : Nat) : Canon z (State.dstLine s p d) := by
  unfold State.dstLine
  repeat' first
    | (with_reducible first | assumption | apply Canon.ite | apply Canon.embLine)
    | split
    | (with_reducible apply Canon.ofMk; with_reducible refine Canon.parts ?_)
    | dsimp only

theorem Canon.lineToken {s : State} (h : Canon z s) (p : Nat) : Canon z (State.lineToken s p) := by
  unfold State.lineToken
  repeat' first
    | (with_reducible first | assumption | apply Canon.ite | refine Canon.each _ ?_ (fun _ _ _ => ?_)
                            | apply Canon.setPlaneRun | apply Canon.dstLine)
    | split
    | (with_reducible apply Canon.ofMk; with_reducible refine Canon.parts ?_)
    | dsimp only

theorem Canon.on_execLineStart {s : State} (h : Canon z s) (p : Fin 8) (late : List Reader) :
    CanonX z (execLineStart p late s) := by
  unfold execLineStart
  repeat' first
    | (with_reducible first | assumption | apply Canon.ite | apply CanonX.ite | apply CanonX.next
                            | refine Canon.each _ ?_ (fun _ _ _ => ?_) | apply Canon.frameTokens
                            | apply Canon.lineToken | apply Canon.tearOn)
    | split
    | (with_reducible apply Canon.ofMk; with_reducible refine Canon.parts ?_)
    | dsimp only

theorem Canon.lineTokens {s : State} (h : Canon z s) : Canon z (State.lineTokens s) := by
  unfold State.lineTokens
  repeat' first
    | (with_reducible first | assumption | refine Canon.upTo _ ?_ (fun _ _ _ => ?_) | apply Canon.frameTokens
                            | apply Canon.lineToken)
    | split
    | (with_reducible apply Canon.ofMk; with_reducible refine Canon.parts ?_)

theorem Canon.on_execSelectionInstant {s : State} (h : Canon z s) (reader : Reader) :
    CanonX z (execSelectionInstant reader s) := by
  unfold execSelectionInstant
  repeat' first
    | (with_reducible first | assumption | apply Canon.ite | apply CanonX.ite | apply CanonX.next
                            | apply Canon.lineTokens | apply Canon.selectAt)
    | split
    | (with_reducible apply Canon.ofMk; with_reducible refine Canon.parts ?_)
    | dsimp only

theorem Canon.selectTokens {s : State} (h : Canon z s) : Canon z (State.selectTokens s) := by
  unfold State.selectTokens
  repeat' first
    | (with_reducible first | assumption | apply Canon.ite | refine Canon.each _ ?_ (fun _ _ _ => ?_)
                            | apply Canon.lineTokens | apply Canon.selectAt)
    | split
    | (with_reducible apply Canon.ofMk; with_reducible refine Canon.parts ?_)
    | dsimp only

theorem Canon.on_execSlotClose {s : State} (h : Canon z s) (n : Fin 1120) : CanonX z (execSlotClose n s) := by
  unfold execSlotClose
  repeat' first
    | (with_reducible first | assumption | apply Canon.ite | apply CanonX.ite | apply CanonX.next
                            | refine CanonP.foldl _ ?_ (fun _ _ _ => ?_)
                            | exact CanonP.fst (by with_reducible assumption)
                            | refine Canon.foldl _ ?_ (fun _ _ _ => ?_) | apply Canon.endCmpFrame
                            | apply Canon.closeSlot)
    | split
    | with_reducible refine CanonP.mk ?_ _
    | (with_reducible apply Canon.ofMk; with_reducible refine Canon.parts ?_)
    | dsimp only

end Sys2Proof.Machine
end

