-- ==== Sys2Proof/Laws/CanonLanes.lean ====
section
/-! SUPPORT. The operations of Machine/Lanes.lean keep the canonical form of a state. -/

namespace Sys2Proof.Machine
open Reg

variable {z : State}

theorem Canon.writeTxEq {s : State} (h : Canon z s) (l v : Nat) : Canon z (State.writeTxEq s l v) := by
  unfold State.writeTxEq
  repeat' first
    | (with_reducible first | assumption | apply Canon.ite | apply Canon.setFld)
    | split
    | (with_reducible apply Canon.ofMk; with_reducible refine Canon.parts ?_)
    | dsimp only

theorem Canon.manualRx {s : State} (h : Canon z s) (l : Nat) : Canon z (State.manualRx s l) := by
  unfold State.manualRx
  repeat' first
    | (with_reducible first | assumption | refine Canon.each _ ?_ (fun _ _ _ => ?_)
                            | refine Canon.when _ ?_ (fun _ _ => ?_) | apply Canon.setFld)
    | split
    | (with_reducible apply Canon.ofMk; with_reducible refine Canon.parts ?_)

theorem Canon.writeRxEq {s : State} (h : Canon z s) (l v : Nat) : Canon z (State.writeRxEq s l v) := by
  unfold State.writeRxEq
  repeat' first
    | (with_reducible first | assumption | apply Canon.setFld | apply Canon.manualRx | apply Canon.stopScan)
    | split
    | (with_reducible apply Canon.ofMk; with_reducible refine Canon.parts ?_)

theorem Canon.writeDfe {s : State} (h : Canon z s) (l word v : Nat) : Canon z (State.writeDfe s l word v) := by
  unfold State.writeDfe
  repeat' first
    | (with_reducible first | assumption | apply Canon.ite | apply Canon.setFld | apply Canon.manualRx
                            | apply Canon.stopScan)
    | split
    | (with_reducible apply Canon.ofMk; with_reducible refine Canon.parts ?_)
    | dsimp only

theorem Canon.on_execAdaptDone {s : State} (h : Canon z s) (l : Fin 584) (eq : EqNow) :
    CanonX z (execAdaptDone l eq s) := by
  unfold execAdaptDone
  repeat' first
    | (with_reducible first | assumption | apply Canon.ite | apply CanonX.ite | apply CanonX.next
                            | refine CanonP.foldl _ ?_ (fun _ _ _ => ?_)
                            | exact CanonP.fst (by with_reducible assumption)
                            | refine Canon.foldl _ ?_ (fun _ _ _ => ?_) | apply Canon.setFld)
    | split
    | with_reducible refine CanonP.mk ?_ _
    | (with_reducible apply Canon.ofMk; with_reducible refine Canon.parts ?_)
    | dsimp only

theorem Canon.linkDown {s : State} (h : Canon z s) : Canon z (State.linkDown s) := by
  unfold State.linkDown
  repeat' first
    | (with_reducible first | assumption | apply Canon.setFld | apply Canon.setCwTx)
    | split
    | (with_reducible apply Canon.ofMk; with_reducible refine Canon.parts ?_)
    | dsimp only

theorem Canon.cwLose {s : State} (h : Canon z s) (k : Nat) (block : Bool) : Canon z (State.cwLose s k block) := by
  unfold State.cwLose
  repeat' first
    | (with_reducible first | assumption | apply Canon.ite | refine Canon.when _ ?_ (fun _ _ => ?_)
                            | apply Canon.setFld | apply Canon.setLaneRun | apply Canon.missed | apply Canon.linkDown
                            | apply Canon.raise)
    | split
    | (with_reducible apply Canon.ofMk; with_reducible refine Canon.parts ?_)
    | dsimp only

theorem Canon.pllLost {s : State} (h : Canon z s) (pll : LanePll) : Canon z (State.pllLost s pll) := by
  unfold State.pllLost
  repeat' first
    | (with_reducible first | assumption | refine Canon.each _ ?_ (fun _ _ _ => ?_)
                            | refine Canon.upTo _ ?_ (fun _ _ _ => ?_) | refine Canon.when _ ?_ (fun _ _ => ?_)
                            | apply Canon.laneUnlock | apply Canon.setFld | apply Canon.portDown | apply Canon.cwLose)
    | split
    | (with_reducible apply Canon.ofMk; with_reducible refine Canon.parts ?_)
    | dsimp only

theorem Canon.unlockPll {s : State} (h : Canon z s) (pll : LanePll) : Canon z (State.unlockPll s pll) := by
  unfold State.unlockPll
  repeat' first
    | (with_reducible first | assumption | apply Canon.ite | apply Canon.pllLost | apply Canon.raise)
    | split
    | (with_reducible apply Canon.ofMk; with_reducible refine Canon.parts ?_)
    | dsimp only

theorem Canon.on_execLanePllUnlock {s : State} (h : Canon z s) (pll : LanePll) :
    CanonX z (execLanePllUnlock pll s) := by
  unfold execLanePllUnlock
  repeat' first
    | (with_reducible first | assumption | apply CanonX.next | apply Canon.unlockPll)
    | split
    | (with_reducible apply Canon.ofMk; with_reducible refine Canon.parts ?_)

theorem Canon.calibrate {s : State} (h : Canon z s) (l : Nat) : Canon z (State.calibrate s l) := by
  unfold State.calibrate
  repeat' first
    | (with_reducible first | assumption | apply Canon.setLaneRun)
    | split
    | (with_reducible apply Canon.ofMk; with_reducible refine Canon.parts ?_)

theorem Canon.on_execLanePllRelock {s : State} (h : Canon z s) (pll : LanePll) :
    CanonX z (execLanePllRelock pll s) := by
  unfold execLanePllRelock
  repeat' first
    | (with_reducible first | assumption | apply Canon.ite | apply CanonX.ite | apply CanonX.next
                            | refine Canon.each _ ?_ (fun _ _ _ => ?_) | refine Canon.when _ ?_ (fun _ _ => ?_)
                            | apply Canon.calibrate)
    | split
    | (with_reducible apply Canon.ofMk; with_reducible refine Canon.parts ?_)
    | dsimp only

theorem Canon.laneReady {s : State} (h : Canon z s) (l : Nat) : Canon z (State.laneReady s l) := by
  unfold State.laneReady
  repeat' first
    | (with_reducible first | assumption | refine Canon.when _ ?_ (fun _ _ => ?_) | apply Canon.setLaneRun
                            | apply Canon.setFld)
    | split
    | (with_reducible apply Canon.ofMk; with_reducible refine Canon.parts ?_)
    | dsimp only

theorem Canon.on_execLaneReady {s : State} (h : Canon z s) (l : Fin 584) : CanonX z (execLaneReady l s) := by
  unfold execLaneReady
  repeat' first
    | (with_reducible first | assumption | apply CanonX.next | refine Canon.when _ ?_ (fun _ _ => ?_)
                            | apply Canon.laneReady)
    | split
    | (with_reducible apply Canon.ofMk; with_reducible refine Canon.parts ?_)

theorem Canon.lanePowerOff {s : State} (h : Canon z s) (l : Nat) : Canon z (State.lanePowerOff s l) := by
  unfold State.lanePowerOff
  repeat' first
    | (with_reducible first | assumption | apply Canon.ite | apply Canon.rxLoss | apply Canon.memberLost
                            | apply Canon.laneUnlock | apply Canon.setFld | apply Canon.setLaneRun)
    | split
    | (with_reducible apply Canon.ofMk; with_reducible refine Canon.parts ?_)
    | dsimp only

theorem Canon.writePwr {s : State} (h : Canon z s) (l : Nat) (on : Bool) : Canon z (State.writePwr s l on) := by
  unfold State.writePwr
  repeat' first
    | (with_reducible first | assumption | apply Canon.ite | apply Canon.setFld | apply Canon.calibrate
                            | apply Canon.lanePowerOff)
    | split
    | (with_reducible apply Canon.ofMk; with_reducible refine Canon.parts ?_)

theorem Canon.writeLoops {s : State} (h : Canon z s) (l v : Nat) : Canon z (State.writeLoops s l v) := by
  unfold State.writeLoops
  repeat' first
    | (with_reducible first | assumption | apply Canon.ite | apply Canon.setFld | apply Canon.setLaneRun)
    | split
    | (with_reducible apply Canon.ofMk; with_reducible refine Canon.parts ?_)
    | dsimp only

theorem Canon.checkPattern {s : State} (h : Canon z s) (l bits : Nat) : Canon z (State.checkPattern s l bits) := by
  unfold State.checkPattern
  repeat' first
    | (with_reducible first | assumption | apply Canon.ite | refine Canon.when _ ?_ (fun _ _ => ?_)
                            | apply Canon.satFld | apply Canon.setLaneRun | apply Canon.setFld)
    | split
    | (with_reducible apply Canon.ofMk; with_reducible refine Canon.parts ?_)
    | dsimp only

theorem Canon.checkPatterns {s : State} (h : Canon z s) : Canon z (State.checkPatterns s) := by
  unfold State.checkPatterns
  repeat' first
    | (with_reducible first | assumption | refine Canon.each _ ?_ (fun _ _ _ => ?_) | apply Canon.checkPattern)
    | split
    | (with_reducible apply Canon.ofMk; with_reducible refine Canon.parts ?_)

theorem Canon.writeManualEq {s : State} (h : Canon z s) (l : Nat) (on : Bool) :
    Canon z (State.writeManualEq s l on) := by
  unfold State.writeManualEq
  repeat' first
    | (with_reducible first | assumption | refine Canon.when _ ?_ (fun _ _ => ?_) | apply Canon.setFld
                            | apply Canon.stopScan | apply Canon.manualRx | apply Canon.setPortRun)
    | split
    | (with_reducible apply Canon.ofMk; with_reducible refine Canon.parts ?_)
    | dsimp only

theorem Canon.writeLaneCtl {s : State} (h : Canon z s) (l v : Nat) : Canon z (State.writeLaneCtl s l v) := by
  unfold State.writeLaneCtl
  repeat' first
    | (with_reducible first | assumption | refine Canon.when _ ?_ (fun _ _ => ?_) | apply Canon.writePwr
                            | apply Canon.writeLoops | apply Canon.setFld | apply Canon.writeManualEq)
    | split
    | (with_reducible apply Canon.ofMk; with_reducible refine Canon.parts ?_)
    | dsimp only

theorem Canon.writeScan {s : State} (h : Canon z s) (l v : Nat) : Canon z (State.writeScan s l v) := by
  unfold State.writeScan
  repeat' first
    | (with_reducible first | assumption | apply Canon.ite | apply Canon.setFld)
    | split
    | (with_reducible apply Canon.ofMk; with_reducible refine Canon.parts ?_)
    | dsimp only

theorem Canon.scanGo {s : State} (h : Canon z s) (l : Nat) : Canon z (State.scanGo s l) := by
  unfold State.scanGo
  repeat' first
    | (with_reducible first | assumption | apply Canon.ite | apply Canon.setFld | apply Canon.setLaneRun)
    | split
    | (with_reducible apply Canon.ofMk; with_reducible refine Canon.parts ?_)
    | dsimp only

theorem Canon.on_execEsDone {s : State} (h : Canon z s) (l : Fin 584) (errors : Word) :
    CanonX z (execEsDone l errors s) := by
  unfold execEsDone
  repeat' first
    | (with_reducible first | assumption | apply Canon.ite | apply CanonX.ite | apply CanonX.next | apply Canon.setFld)
    | split
    | (with_reducible apply Canon.ofMk; with_reducible refine Canon.parts ?_)
    | dsimp only

theorem Canon.on_execEsAbort {s : State} (h : Canon z s) (l : Fin 584) (errors bits : Word) :
    CanonX z (execEsAbort l errors bits s) := by
  unfold execEsAbort
  repeat' first
    | (with_reducible first | assumption | apply Canon.ite | apply CanonX.ite | apply CanonX.next | apply Canon.setFld
                            | apply Canon.setLaneRun)
    | split
    | (with_reducible apply Canon.ofMk; with_reducible refine Canon.parts ?_)
    | dsimp only

theorem Canon.on_execCwBlockLockGained {s : State} (h : Canon z s) (seen : LaneHeaders) :
    CanonX z (execCwBlockLockGained seen s) := by
  unfold execCwBlockLockGained
  repeat' first
    | (with_reducible first | assumption | apply Canon.ite | apply CanonX.ite | apply CanonX.next | apply Canon.setFld
                            | apply Canon.setLaneRun | apply Canon.missed)
    | split
    | (with_reducible apply Canon.ofMk; with_reducible refine Canon.parts ?_)
    | dsimp only

theorem Canon.on_execCwLaneDown {s : State} (h : Canon z s) (l : Fin 8) (headers : List (BitVec 2)) :
    CanonX z (execCwLaneDown l headers s) := by
  unfold execCwLaneDown
  repeat' first
    | (with_reducible first | assumption | apply CanonX.next | refine Canon.when _ ?_ (fun _ _ => ?_)
                            | apply Canon.cwLose)
    | split
    | (with_reducible apply Canon.ofMk; with_reducible refine Canon.parts ?_)

theorem Canon.bipError {s : State} (h : Canon z s) (k : Nat) : Canon z (State.bipError s k) := by
  unfold State.bipError
  repeat' first
    | (with_reducible first | assumption | apply Canon.ite | apply Canon.addFld | apply Canon.setLaneRun
                            | apply Canon.raise)
    | split
    | (with_reducible apply Canon.ofMk; with_reducible refine Canon.parts ?_)
    | dsimp only

theorem Canon.marker {s : State} (h : Canon z s) (k : Nat) (control : Bool) (payload apart bip skew : Nat) :
    Canon z (State.marker s k control payload apart bip skew) := by
  unfold State.marker
  repeat' first
    | (with_reducible first | assumption | apply Canon.ite | refine Canon.when _ ?_ (fun _ _ => ?_)
                            | apply Canon.bipError | apply Canon.setLaneRun | apply Canon.missed | apply Canon.setFld
                            | apply Canon.linkDown | apply Canon.raise | apply Canon.cwLose)
    | split
    | (with_reducible apply Canon.ofMk; with_reducible refine Canon.parts ?_)
    | dsimp only

theorem Canon.on_execAlignmentMarker {s : State} (h : Canon z s) (l : Fin 8) (marker : MarkerBlock) (bip : Byte) (skew : Nat) :
    CanonX z (execAlignmentMarker l marker bip skew s) := by
  unfold execAlignmentMarker
  repeat' first
    | (with_reducible first | assumption | apply CanonX.next | apply Canon.marker)
    | split
    | (with_reducible apply Canon.ofMk; with_reducible refine Canon.parts ?_)

theorem Canon.on_execCwMarkerSend {s : State} (h : Canon z s) : CanonX z (execCwMarkerSend s) := by
  unfold execCwMarkerSend
  repeat' first
    | (with_reducible first | assumption | apply Canon.ite | apply CanonX.ite | apply CanonX.next | apply Canon.emit)
    | split
    | (with_reducible apply Canon.ofMk; with_reducible refine Canon.parts ?_)
    | dsimp only

theorem Canon.on_execFiller {s : State} (h : Canon z s) (arrived : ElasticColumn) :
    CanonX z (execFiller arrived s) := by
  unfold execFiller
  repeat' first
    | (with_reducible first | assumption | apply Canon.ite | apply CanonX.ite | apply CanonX.next | apply Canon.addFld
                            | apply Canon.setFld)
    | split
    | (with_reducible apply Canon.ofMk; with_reducible refine Canon.parts ?_)

end Sys2Proof.Machine
end

