-- ==== Sys2Proof/Laws/CanonPower.lean ====
section
/-! SUPPORT. The operations of Machine/Power.lean keep the canonical form of a state. -/

namespace Sys2Proof.Machine
open Reg

variable {z : State}

theorem Canon.resetFields {s : State} (h : Canon z s) (fs : List Field) (sel : Nat → Nat → Bool) :
    Canon z (s.resetFields fs sel) := h.regs (Tab.rising_filter h.regsRise _)

theorem Canon.resetIngest {s : State} (h : Canon z s) (i : Nat) : Canon z (State.resetIngest s i) := by
  unfold State.resetIngest
  repeat' first
    | (with_reducible first | assumption | refine Canon.each _ ?_ (fun _ _ _ => ?_) | apply Canon.updSlot
                            | apply Canon.closeSlot | apply Canon.resetFields)
    | split
    | (with_reducible apply Canon.ofMk; with_reducible refine Canon.parts ?_)
    | dsimp only

theorem Canon.resetDest {s : State} (h : Canon z s) (j : Nat) : Canon z (State.resetDest s j) := by
  unfold State.resetDest
  repeat' first
    | (with_reducible first | assumption | refine Canon.each _ ?_ (fun _ _ _ => ?_) | apply Canon.setDstRun
                            | apply Canon.resetFields)
    | split
    | (with_reducible apply Canon.ofMk; with_reducible refine Canon.parts ?_)
    | dsimp only

theorem Canon.resetComp {s : State} (h : Canon z s) (k : Nat) : Canon z (State.resetComp s k) := by
  unfold State.resetComp
  repeat' first
    | (with_reducible first | assumption | refine Canon.each _ ?_ (fun _ _ _ => ?_)
                            | refine Canon.upTo _ ?_ (fun _ _ _ => ?_) | apply Canon.updSlot | apply Canon.setCmpRun
                            | apply Canon.resetFields)
    | split
    | (with_reducible apply Canon.ofMk; with_reducible refine Canon.parts ?_)
    | dsimp only

theorem Canon.resetLane {s : State} (h : Canon z s) (l : Nat) : Canon z (State.resetLane s l) := by
  unfold State.resetLane
  repeat' first
    | (with_reducible first | assumption | apply Canon.ite | refine Canon.when _ ?_ (fun _ _ => ?_)
                            | apply Canon.rxLoss | apply Canon.memberLost | apply Canon.setLaneRun
                            | apply Canon.resetFields | apply Canon.calibrate)
    | split
    | (with_reducible apply Canon.ofMk; with_reducible refine Canon.parts ?_)
    | dsimp only

theorem Canon.resetQuad {s : State} (h : Canon z s) (q : Nat) : Canon z (State.resetQuad s q) := by
  unfold State.resetQuad
  repeat' first
    | (with_reducible first | assumption | refine Canon.upTo _ ?_ (fun _ _ _ => ?_) | apply Canon.resetLane
                            | apply Canon.resetFields)
    | split
    | (with_reducible apply Canon.ofMk; with_reducible refine Canon.parts ?_)
    | dsimp only

theorem Canon.resetMedia {s : State} (h : Canon z s) (i : Nat) : Canon z (State.resetMedia s i) := by
  unfold State.resetMedia
  repeat' first
    | (with_reducible first | assumption | refine Canon.upTo _ ?_ (fun _ _ _ => ?_) | apply Canon.portDown
                            | apply Canon.resetLane | apply Canon.resetFields)
    | split
    | (with_reducible apply Canon.ofMk; with_reducible refine Canon.parts ?_)
    | dsimp only

theorem Canon.resetAudio {s : State} (h : Canon z s) : Canon z (State.resetAudio s) := by
  unfold State.resetAudio
  repeat' first
    | (with_reducible first | assumption | apply Canon.resetFields)
    | split
    | (with_reducible apply Canon.ofMk; with_reducible refine Canon.parts ?_)
    | dsimp only

theorem Canon.resetAesio {s : State} (h : Canon z s) : Canon z (State.resetAesio s) := by
  unfold State.resetAesio
  repeat' first
    | (with_reducible first | assumption | refine Canon.upTo _ ?_ (fun _ _ _ => ?_) | apply Canon.setAesLock
                            | apply Canon.resetFields)
    | split
    | (with_reducible apply Canon.ofMk; with_reducible refine Canon.parts ?_)
    | dsimp only

theorem Canon.resetCore {s : State} (h : Canon z s) (c : Nat) : Canon z (State.resetCore s c) := by
  unfold State.resetCore
  repeat' first
    | (with_reducible first | assumption | apply Canon.resetFields | apply Canon.setFld | refine Canon.setCore ?_ _ ?_
                            | apply CoreOk.ite | apply Canon.core (z := z))
    | exact CoreOk.setRange (Canon.core (z := z) (by with_reducible assumption) _) _ _
    | exact CoreOk.of_eq (Canon.core (z := z) (by with_reducible assumption) _) rfl rfl
    | refine CoreOk.of_eq (Canon.core (z := z) ?_ _) rfl rfl
    | split
    | (with_reducible apply Canon.ofMk; with_reducible refine Canon.parts ?_)
    | dsimp only

theorem Canon.resetCway {s : State} (h : Canon z s) : Canon z (State.resetCway s) := by
  unfold State.resetCway
  repeat' first
    | (with_reducible first | assumption | refine Canon.upTo _ ?_ (fun _ _ _ => ?_) | apply Canon.cwLose
                            | apply Canon.resetLane)
    | split
    | (with_reducible apply Canon.ofMk; with_reducible refine Canon.parts ?_)
    | dsimp only

theorem Canon.setTow {s : State} (h : Canon z s) (b : Nat) (x : TowRun) : Canon z (State.setTow s b x) := by
  unfold State.setTow
  repeat' first
    | (with_reducible first | assumption)
    | split
    | (with_reducible apply Canon.ofMk; with_reducible refine Canon.parts ?_)

theorem Canon.resetTow {s : State} (h : Canon z s) : Canon z (State.resetTow s) := by
  unfold State.resetTow
  repeat' first
    | (with_reducible first | assumption | refine Canon.upTo _ ?_ (fun _ _ _ => ?_) | apply Canon.setTow
                            | apply Canon.resetFields)
    | split
    | (with_reducible apply Canon.ofMk; with_reducible refine Canon.parts ?_)
    | dsimp only

theorem Canon.islReset {s : State} (h : Canon z s) (d : Nat) : Canon z (State.islReset s d) := by
  unfold State.islReset
  repeat' first
    | (with_reducible first | assumption | apply Canon.ite | apply Canon.resetQuad | apply Canon.resetMedia
                            | apply Canon.resetIngest | apply Canon.resetDest | apply Canon.resetComp
                            | apply Canon.resetAudio | apply Canon.resetAesio | apply Canon.resetCore
                            | apply Canon.resetCway | apply Canon.resetTow | refine Canon.setCore ?_ _ ?_
                            | apply CoreOk.ite | apply CoreOk.setD | apply Canon.core (z := z))
    | exact CoreOk.setRange (Canon.core (z := z) (by with_reducible assumption) _) _ _
    | exact CoreOk.of_eq (Canon.core (z := z) (by with_reducible assumption) _) rfl rfl
    | refine CoreOk.of_eq (Canon.core (z := z) ?_ _) rfl rfl
    | split
    | (with_reducible apply Canon.ofMk; with_reducible refine Canon.parts ?_)

theorem Canon.writeIslRst {s : State} (h : Canon z s) (d : Nat) : Canon z (State.writeIslRst s d) := by
  unfold State.writeIslRst
  repeat' first
    | (with_reducible first | assumption | apply Canon.ite | apply Canon.islReset)
    | split
    | (with_reducible apply Canon.ofMk; with_reducible refine Canon.parts ?_)

theorem Canon.setRamp {s : State} (h : Canon z s) (i : Nat) (r : Option ClkRamp) :
    Canon z (State.setRamp s i r) := by
  unfold State.setRamp
  repeat' first
    | (with_reducible first | assumption)
    | split
    | (with_reducible apply Canon.ofMk; with_reducible refine Canon.parts ?_)

theorem Canon.admitRamps {s : State} (h : Canon z s) : Canon z (State.admitRamps s) := by
  unfold State.admitRamps
  repeat' first
    | (with_reducible first | assumption | apply Canon.ite | refine Canon.each _ ?_ (fun _ _ _ => ?_)
                            | apply Canon.setRamp | apply Canon.setFld)
    | split
    | (with_reducible apply Canon.ofMk; with_reducible refine Canon.parts ?_)
    | dsimp only

theorem Canon.sscTick {s : State} (h : Canon z s) : Canon z (State.sscTick s) := by
  unfold State.sscTick
  repeat' first
    | (with_reducible first | assumption | refine CanonP.foldl _ ?_ (fun _ _ _ => ?_)
                            | exact CanonP.fst (by with_reducible assumption)
                            | refine Canon.foldl _ ?_ (fun _ _ _ => ?_))
    | split
    | with_reducible refine CanonP.mk ?_ _
    | (with_reducible apply Canon.ofMk; with_reducible refine Canon.parts ?_)
    | dsimp only

theorem Canon.startRamp {s : State} (h : Canon z s) (i : Nat) (up : Bool) : Canon z (State.startRamp s i up) := by
  unfold State.startRamp
  repeat' first
    | (with_reducible first | assumption | apply Canon.ite | refine Canon.when _ ?_ (fun _ _ => ?_)
                            | apply Canon.setFld | apply Canon.setRamp | apply Canon.admitRamps)
    | split
    | (with_reducible apply Canon.ofMk; with_reducible refine Canon.parts ?_)
    | dsimp only

theorem Canon.endRamp {s : State} (h : Canon z s) (i : Nat) (up : Bool) : Canon z (State.endRamp s i up) := by
  unfold State.endRamp
  repeat' first
    | (with_reducible first | assumption | apply Canon.ite | apply Canon.setRamp | apply Canon.setFld
                            | apply Canon.admitRamps)
    | split
    | (with_reducible apply Canon.ofMk; with_reducible refine Canon.parts ?_)
    | dsimp only

theorem Canon.on_execIcgRampStep {s : State} (h : Canon z s) (isl : Fin 145) :
    CanonX z (execIcgRampStep isl s) := by
  unfold execIcgRampStep
  repeat' first
    | (with_reducible first | assumption | apply Canon.ite | apply CanonX.ite | apply CanonX.next | apply Canon.setFld
                            | apply Canon.setRamp | apply Canon.endRamp)
    | split
    | (with_reducible apply Canon.ofMk; with_reducible refine Canon.parts ?_)
    | dsimp only

theorem Canon.refuseGate {s : State} (h : Canon z s) (d reason : Nat) : Canon z (State.refuseGate s d reason) := by
  unfold State.refuseGate
  repeat' first
    | (with_reducible first | assumption | apply Canon.setFld | apply Canon.addFld | apply Canon.raise)
    | split
    | (with_reducible apply Canon.ofMk; with_reducible refine Canon.parts ?_)
    | dsimp only

theorem Canon.clearMemories {s : State} (h : Canon z s) (d : Nat) : Canon z (s.clearMemories d) := by
  unfold State.clearMemories
  refine Canon.ite (h.setCore _ ⟨rfl, rfl⟩) (Canon.ite ?_ (Canon.ite h (Canon.ite h h)))
  exact Canon.setAnc h (Tab.wf_filter h.ancOk _)

theorem Canon.wakeDomain {s : State} (h : Canon z s) (d : Nat) : Canon z (State.wakeDomain s d) := by
  unfold State.wakeDomain
  repeat' first
    | (with_reducible first | assumption | refine Canon.each _ ?_ (fun _ _ _ => ?_) | apply Canon.setFld
                            | apply Canon.clearMemories | apply Canon.startRamp)
    | split
    | (with_reducible apply Canon.ofMk; with_reducible refine Canon.parts ?_)

theorem Canon.writeReq {s : State} (h : Canon z s) (d v : Nat) : Canon z (State.writeReq s d v) := by
  unfold State.writeReq
  repeat' first
    | (with_reducible first | assumption | apply Canon.ite | refine Canon.each _ ?_ (fun _ _ _ => ?_)
                            | apply Canon.setFld | apply Canon.refuseGate | apply Canon.startRamp
                            | apply Canon.wakeDomain)
    | split
    | (with_reducible apply Canon.ofMk; with_reducible refine Canon.parts ?_)
    | dsimp only

theorem Canon.domainOff {s : State} (h : Canon z s) (d : Nat) : Canon z (State.domainOff s d) := by
  unfold State.domainOff
  repeat' first
    | (with_reducible first | assumption | apply Canon.ite | refine Canon.upTo _ ?_ (fun _ _ _ => ?_)
                            | apply Canon.setFld | apply Canon.islReset)
    | split
    | (with_reducible apply Canon.ofMk; with_reducible refine Canon.parts ?_)
    | dsimp only

theorem Canon.on_execDomainOffReached {s : State} (h : Canon z s) (d : Fin 184) :
    CanonX z (execDomainOffReached d s) := by
  unfold execDomainOffReached
  repeat' first
    | (with_reducible first | assumption | apply Canon.ite | apply CanonX.ite | apply CanonX.next
                            | apply Canon.domainOff | apply Canon.wakeDomain)
    | split
    | (with_reducible apply Canon.ofMk; with_reducible refine Canon.parts ?_)
    | dsimp only

theorem Canon.on_execDomainOnReached {s : State} (h : Canon z s) (d : Fin 184) :
    CanonX z (execDomainOnReached d s) := by
  unfold execDomainOnReached
  repeat' first
    | (with_reducible first | assumption | apply Canon.ite | apply CanonX.ite | apply CanonX.next | apply Canon.setFld
                            | apply Canon.islReset)
    | split
    | (with_reducible apply Canon.ofMk; with_reducible refine Canon.parts ?_)

theorem Canon.applyGateInit {s : State} (h : Canon z s) : Canon z (State.applyGateInit s) := by
  unfold State.applyGateInit
  repeat' first
    | (with_reducible first | assumption | apply Canon.ite | refine Canon.each _ ?_ (fun _ _ _ => ?_)
                            | refine Canon.upTo _ ?_ (fun _ _ _ => ?_) | apply Canon.setFld | apply Canon.setRamp)
    | split
    | (with_reducible apply Canon.ofMk; with_reducible refine Canon.parts ?_)

end Sys2Proof.Machine
end

