-- ==== Sys2Proof/Laws/CanonTow.lean ====
section
/-! SUPPORT. The operations of Machine/Tow.lean keep the canonical form of a state. -/

namespace Sys2Proof.Machine
open Reg

variable {z : State}

theorem Canon.towCount {s : State} (h : Canon z s) (f : Field) (b j : Nat) : Canon z (State.towCount s f b j) := by
  unfold State.towCount
  repeat' first
    | (with_reducible first | assumption | apply Canon.ite | apply Canon.addFld | apply Canon.raise)
    | split
    | (with_reducible apply Canon.ofMk; with_reducible refine Canon.parts ?_)
    | dsimp only

theorem Canon.towSignal {s : State} (h : Canon z s) (b : Nat) : Canon z (State.towSignal s b) := by
  unfold State.towSignal
  repeat' first
    | (with_reducible first | assumption | apply Canon.sendVector)
    | split
    | (with_reducible apply Canon.ofMk; with_reducible refine Canon.parts ?_)

theorem Canon.towRelease {s : State} (h : Canon z s) (b : Nat) (bits : List Bool) :
    Canon z (State.towRelease s b bits) := by
  unfold State.towRelease
  repeat' first
    | (with_reducible first | assumption | apply Canon.emit | apply Canon.setTow)
    | split
    | (with_reducible apply Canon.ofMk; with_reducible refine Canon.parts ?_)

theorem Canon.towLeave {s : State} (h : Canon z s) (b outcome : Nat) : Canon z (State.towLeave s b outcome) := by
  unfold State.towLeave
  repeat' first
    | (with_reducible first | assumption | apply Canon.ite | refine Canon.when _ ?_ (fun _ _ => ?_)
                            | apply Canon.setFld | apply Canon.setTow | apply Canon.idle | apply Canon.towSignal)
    | split
    | (with_reducible apply Canon.ofMk; with_reducible refine Canon.parts ?_)
    | dsimp only

theorem Canon.towFlush {s : State} (h : Canon z s) (b : Nat) : Canon z (State.towFlush s b) := by
  unfold State.towFlush
  repeat' first
    | (with_reducible first | assumption | apply Canon.ite | refine Canon.each _ ?_ (fun _ _ _ => ?_)
                            | refine Canon.when _ ?_ (fun _ _ => ?_) | apply Canon.towCount | apply Canon.setFld
                            | apply Canon.setTow | apply Canon.towSignal)
    | split
    | (with_reducible apply Canon.ofMk; with_reducible refine Canon.parts ?_)
    | dsimp only

theorem Canon.towAbandon {s : State} (h : Canon z s) (b : Nat) : Canon z (State.towAbandon s b) := by
  unfold State.towAbandon
  repeat' first
    | (with_reducible first | assumption | apply Canon.ite | apply Canon.setTow | apply Canon.towRelease
                            | apply Canon.towCount | apply Canon.towLeave)
    | split
    | (with_reducible apply Canon.ofMk; with_reducible refine Canon.parts ?_)
    | dsimp only

theorem Canon.writeTow {s : State} (h : Canon z s) (b v : Nat) : Canon z (State.writeTow s b v) := by
  unfold State.writeTow
  repeat' first
    | (with_reducible first | assumption | apply Canon.ite | apply Canon.setFld | apply Canon.setTow
                            | apply Canon.towFlush)
    | split
    | (with_reducible apply Canon.ofMk; with_reducible refine Canon.parts ?_)
    | dsimp only

theorem Canon.towGo {s : State} (h : Canon z s) (b : Nat) : Canon z (State.towGo s b) := by
  unfold State.towGo
  repeat' first
    | (with_reducible first | assumption | apply Canon.ite | apply Canon.setFld | apply Canon.setTow)
    | split
    | (with_reducible apply Canon.ofMk; with_reducible refine Canon.parts ?_)
    | dsimp only

theorem Canon.on_execTowTxStart {s : State} (h : Canon z s) (b : Fin 2) (defers : Nat) :
    CanonX z (execTowTxStart b defers s) := by
  unfold execTowTxStart
  repeat' first
    | (with_reducible first | assumption | apply Canon.ite | apply CanonX.ite | apply CanonX.next
                            | refine CanonP.foldl _ ?_ (fun _ _ _ => ?_)
                            | exact CanonP.fst (by with_reducible assumption)
                            | refine Canon.foldl _ ?_ (fun _ _ _ => ?_) | apply Canon.idle | apply Canon.towCount
                            | apply Canon.setFld | apply Canon.setTow)
    | split
    | with_reducible refine CanonP.mk ?_ _
    | (with_reducible apply Canon.ofMk; with_reducible refine Canon.parts ?_)
    | dsimp only

theorem Canon.on_execTowCollision {s : State} (h : Canon z s) (b : Fin 2) (bitTime : Nat) :
    CanonX z (execTowCollision b bitTime s) := by
  unfold execTowCollision
  repeat' first
    | (with_reducible first | assumption | apply Canon.ite | apply CanonX.ite | apply CanonX.next | apply Canon.setTow)
    | split
    | (with_reducible apply Canon.ofMk; with_reducible refine Canon.parts ?_)
    | dsimp only

theorem Canon.towFail {s : State} (h : Canon z s) (b cause : Nat) : Canon z (State.towFail s b cause) := by
  unfold State.towFail
  repeat' first
    | (with_reducible first | assumption | apply Canon.ite | apply Canon.setTow | apply Canon.raise)
    | split
    | (with_reducible apply Canon.ofMk; with_reducible refine Canon.parts ?_)
    | dsimp only

theorem Canon.on_execTowJamEnd {s : State} (h : Canon z s) (b : Fin 2) : CanonX z (execTowJamEnd b s) := by
  unfold execTowJamEnd
  repeat' first
    | (with_reducible first | assumption | apply Canon.ite | apply CanonX.ite | apply CanonX.next
                            | apply Canon.towRelease | apply Canon.towCount | apply Canon.towLeave
                            | apply Canon.setTow | apply Canon.towFail)
    | split
    | (with_reducible apply Canon.ofMk; with_reducible refine Canon.parts ?_)
    | dsimp only

theorem Canon.on_execTowBackoffEnd {s : State} (h : Canon z s) (b : Fin 2) : CanonX z (execTowBackoffEnd b s) := by
  unfold execTowBackoffEnd
  repeat' first
    | (with_reducible first | assumption | apply Canon.ite | apply CanonX.ite | apply CanonX.next | apply Canon.setTow
                            | apply Canon.idle)
    | split
    | (with_reducible apply Canon.ofMk; with_reducible refine Canon.parts ?_)
    | dsimp only

theorem Canon.on_execTowTxDone {s : State} (h : Canon z s) (b : Fin 2) : CanonX z (execTowTxDone b s) := by
  unfold execTowTxDone
  repeat' first
    | (with_reducible first | assumption | apply Canon.ite | apply CanonX.ite | apply CanonX.next
                            | apply Canon.towRelease | apply Canon.towCount | apply Canon.setTow
                            | apply Canon.towLeave)
    | split
    | (with_reducible apply Canon.ofMk; with_reducible refine Canon.parts ?_)
    | dsimp only

theorem Canon.on_execTowBusFail {s : State} (h : Canon z s) (b : Fin 2) : CanonX z (execTowBusFail b s) := by
  unfold execTowBusFail
  repeat' first
    | (with_reducible first | assumption | apply Canon.ite | apply CanonX.ite | apply CanonX.next | apply Canon.setFld
                            | apply Canon.towFail)
    | split
    | (with_reducible apply Canon.ofMk; with_reducible refine Canon.parts ?_)

theorem Canon.setTowRx {s : State} (h : Canon z s) (b : Nat) (rx : List TowRxFrame) (popped : Option TowRxFrame) :
    Canon z (State.setTowRx s b rx popped) := by
  unfold State.setTowRx
  repeat' first
    | (with_reducible first | assumption | apply Canon.setTow)
    | split
    | (with_reducible apply Canon.ofMk; with_reducible refine Canon.parts ?_)

theorem Canon.towPop {s : State} (h : Canon z s) (b : Nat) : Canon z (State.towPop s b) := by
  unfold State.towPop
  repeat' first
    | (with_reducible first | assumption | apply Canon.ite | apply Canon.setTowRx)
    | split
    | (with_reducible apply Canon.ofMk; with_reducible refine Canon.parts ?_)

theorem Canon.towAccept {s : State} (h : Canon z s) (b kind : Nat) (f : List Nat) (time : Nat) :
    Canon z (State.towAccept s b kind f time) := by
  unfold State.towAccept
  repeat' first
    | (with_reducible first | assumption | apply Canon.ite | refine Canon.when _ ?_ (fun _ _ => ?_)
                            | apply Canon.towCount | apply Canon.setTowRx | apply Canon.towSignal)
    | split
    | (with_reducible apply Canon.ofMk; with_reducible refine Canon.parts ?_)
    | dsimp only

theorem Canon.on_execTowFrameReceive {s : State} (h : Canon z s) (b : Fin 2) (f : TowWire) :
    CanonX z (execTowFrameReceive b f s) := by
  unfold execTowFrameReceive
  repeat' first
    | (with_reducible first | assumption | apply Canon.ite | apply CanonX.ite | apply CanonX.next | apply Canon.setFld
                            | apply Canon.setTow | apply Canon.towCount | apply Canon.towAccept)
    | split
    | (with_reducible apply Canon.ofMk; with_reducible refine Canon.parts ?_)
    | dsimp only

end Sys2Proof.Machine
end

