-- ==== Sys2Proof/Laws/CanonFaults.lean ====
section
/-! SUPPORT. The operations of Machine/Faults.lean keep the canonical form of a state. -/

namespace Sys2Proof.Machine
open Reg

variable {z : State}

theorem Canon.writeSev {s : State} (h : Canon z s) (e v : Nat) : Canon z (State.writeSev s e v) := by
  unfold State.writeSev
  repeat' first
    | (with_reducible first | assumption | apply Canon.setFld)
    | split
    | (with_reducible apply Canon.ofMk; with_reducible refine Canon.parts ?_)

theorem Canon.abandonCur {s : State} (h : Canon z s) (e : Nat) : Canon z (State.abandonCur s e) := by
  unfold State.abandonCur
  repeat' first
    | (with_reducible first | assumption | apply Canon.setEngine | apply Canon.setRing)
    | split
    | (with_reducible apply Canon.ofMk; with_reducible refine Canon.parts ?_)
    | dsimp only

theorem Canon.discardScheduled {s : State} (h : Canon z s) : Canon z (State.discardScheduled s) := by
  unfold State.discardScheduled
  repeat' first
    | (with_reducible first | assumption | refine Canon.each _ ?_ (fun _ _ _ => ?_) | apply Canon.discardTake
                            | apply Canon.setCway)
    | split
    | (with_reducible apply Canon.ofMk; with_reducible refine Canon.parts ?_)
    | dsimp only

theorem Canon.idleOutputs {s : State} (h : Canon z s) : Canon z (State.idleOutputs s) := by
  unfold State.idleOutputs
  repeat' first
    | (with_reducible first | assumption | apply Canon.resetFields)
    | split
    | (with_reducible apply Canon.ofMk; with_reducible refine Canon.parts ?_)
    | dsimp only

theorem Canon.reachSafe {s : State} (h : Canon z s) (i t : Nat) : Canon z (State.reachSafe s i t) := by
  unfold State.reachSafe
  repeat' first
    | (with_reducible first | assumption | refine Canon.each _ ?_ (fun _ _ _ => ?_)
                            | refine Canon.upTo _ ?_ (fun _ _ _ => ?_) | apply Canon.setFld | apply Canon.setPair
                            | apply Canon.addFld | apply Canon.enterRole | apply Canon.abandonCur
                            | apply Canon.discardScheduled | apply Canon.idleOutputs | apply Canon.islReset
                            | apply Canon.towAbandon | apply Canon.raise)
    | split
    | (with_reducible apply Canon.ofMk; with_reducible refine Canon.parts ?_)
    | dsimp only

theorem Canon.on_execSafeStateReached {s : State} (h : Canon z s) : CanonX z (execSafeStateReached s) := by
  unfold execSafeStateReached
  repeat' first
    | (with_reducible first | assumption | apply CanonX.next | apply Canon.reachSafe)
    | split
    | (with_reducible apply Canon.ofMk; with_reducible refine Canon.parts ?_)

theorem Canon.on_execSafeReq {s : State} (h : Canon z s) : CanonX z (execSafeReq s) := by
  unfold execSafeReq
  repeat' first
    | (with_reducible first | assumption | apply Canon.ite | apply CanonX.ite | apply CanonX.next | apply Canon.raise)
    | split
    | (with_reducible apply Canon.ofMk; with_reducible refine Canon.parts ?_)

theorem Canon.on_execSafeReqNRelease {s : State} (h : Canon z s) : CanonX z (execSafeReqNRelease s) := by
  unfold execSafeReqNRelease
  repeat' first
    | (with_reducible first | assumption | apply Canon.ite | apply CanonX.ite | apply CanonX.next
                            | apply Canon.conditionEnds)
    | split
    | (with_reducible apply Canon.ofMk; with_reducible refine Canon.parts ?_)
    | dsimp only

theorem Canon.reenterSafe {s : State} (h : Canon z s) : Canon z (State.reenterSafe s) := by
  unfold State.reenterSafe
  repeat' first
    | (with_reducible first | assumption | refine Canon.when _ ?_ (fun _ _ => ?_) | apply Canon.raise
                            | apply Canon.reachSafe)
    | split
    | (with_reducible apply Canon.ofMk; with_reducible refine Canon.parts ?_)
    | dsimp only

theorem Canon.sramCorrected {s : State} (h : Canon z s) (mem unit : Nat) :
    Canon z (State.sramCorrected s mem unit) := by
  unfold State.sramCorrected
  repeat' first
    | (with_reducible first | assumption | apply Canon.ite | refine Canon.when _ ?_ (fun _ _ => ?_)
                            | apply Canon.raise)
    | split
    | (with_reducible apply Canon.ofMk; with_reducible refine Canon.parts ?_)
    | dsimp only

theorem Canon.on_execSramCe {s : State} (h : Canon z s) (mem : Fin 9) (unit : Fin 32) :
    CanonX z (execSramCe mem unit s) := by
  unfold execSramCe
  repeat' first
    | (with_reducible first | assumption | apply Canon.ite | apply CanonX.ite | apply CanonX.next
                            | apply Canon.sramCorrected)
    | split
    | (with_reducible apply Canon.ofMk; with_reducible refine Canon.parts ?_)

theorem Canon.on_execCtrlUe {s : State} (h : Canon z s) (mem : Fin 9) (unit : Fin 32) (addr : Word) :
    CanonX z (execCtrlUe mem unit addr s) := by
  unfold execCtrlUe
  repeat' first
    | (with_reducible first | assumption | apply Canon.ite | apply CanonX.ite | apply CanonX.next | apply Canon.raise)
    | split
    | (with_reducible apply Canon.ofMk; with_reducible refine Canon.parts ?_)

theorem Canon.on_execRailFault {s : State} (h : Canon z s) (rail : Fin 13) : CanonX z (execRailFault rail s) := by
  unfold execRailFault
  repeat' first
    | (with_reducible first | assumption | apply Canon.ite | apply CanonX.ite | apply CanonX.next | apply Canon.raise)
    | split
    | (with_reducible apply Canon.ofMk; with_reducible refine Canon.parts ?_)
    | dsimp only

theorem Canon.on_execRailReturn {s : State} (h : Canon z s) (rail : Fin 13) : CanonX z (execRailReturn rail s) := by
  unfold execRailReturn
  repeat' first
    | (with_reducible first | assumption | apply Canon.ite | apply CanonX.ite | apply CanonX.next
                            | apply Canon.conditionEnds)
    | split
    | (with_reducible apply Canon.ofMk; with_reducible refine Canon.parts ?_)
    | dsimp only

end Sys2Proof.Machine
end

