-- ==== Sys2Proof/Laws/CanonClk.lean ====
section
/-! SUPPORT. The operations of Machine/Clk.lean keep the canonical form of a state. -/

namespace Sys2Proof.Machine
open Reg

variable {z : State}

theorem Canon.setMon {s : State} (h : Canon z s) (m : Nat) (x : MonRun) : Canon z (State.setMon s m x) := by
  unfold State.setMon
  repeat' first
    | (with_reducible first | assumption)
    | split
    | (with_reducible apply Canon.ofMk; with_reducible refine Canon.parts ?_)

theorem Canon.refreshMons {s : State} (h : Canon z s) : Canon z (State.refreshMons s) := by
  unfold State.refreshMons
  repeat' first
    | (with_reducible first | assumption | apply Canon.ite | refine Canon.upTo _ ?_ (fun _ _ _ => ?_)
                            | apply Canon.setFld)
    | split
    | (with_reducible apply Canon.ofMk; with_reducible refine Canon.parts ?_)
    | dsimp only

theorem Canon.setMux {s : State} (h : Canon z s) (i : Nat) (x : ClkMux) : Canon z (State.setMux s i x) := by
  unfold State.setMux
  repeat' first
    | (with_reducible first | assumption)
    | split
    | (with_reducible apply Canon.ofMk; with_reducible refine Canon.parts ?_)

theorem Canon.beginSwitch {s : State} (h : Canon z s) (i code : Nat) : Canon z (State.beginSwitch s i code) := by
  unfold State.beginSwitch
  repeat' first
    | (with_reducible first | assumption | apply Canon.ite | apply Canon.setMux)
    | split
    | (with_reducible apply Canon.ofMk; with_reducible refine Canon.parts ?_)
    | dsimp only

theorem Canon.beginReturn {s : State} (h : Canon z s) (i code : Nat) : Canon z (State.beginReturn s i code) := by
  unfold State.beginReturn
  repeat' first
    | (with_reducible first | assumption | apply Canon.beginSwitch | apply Canon.setMux)
    | split
    | (with_reducible apply Canon.ofMk; with_reducible refine Canon.parts ?_)
    | dsimp only

theorem Canon.endSwitch {s : State} (h : Canon z s) (i code : Nat) : Canon z (State.endSwitch s i code) := by
  unfold State.endSwitch
  repeat' first
    | (with_reducible first | assumption | apply Canon.ite | refine Canon.upTo _ ?_ (fun _ _ _ => ?_)
                            | apply Canon.setMux | apply Canon.setFld | apply Canon.towAbandon)
    | split
    | (with_reducible apply Canon.ofMk; with_reducible refine Canon.parts ?_)
    | dsimp only

theorem Canon.cancelSwitches {s : State} (h : Canon z s) (m : Nat) : Canon z (State.cancelSwitches s m) := by
  unfold State.cancelSwitches
  repeat' first
    | (with_reducible first | assumption | apply Canon.ite | refine Canon.each _ ?_ (fun _ _ _ => ?_)
                            | apply Canon.setMux)
    | split
    | (with_reducible apply Canon.ofMk; with_reducible refine Canon.parts ?_)

theorem Canon.startRelock {s : State} (h : Canon z s) (pll ref : Nat) : Canon z (State.startRelock s pll ref) := by
  unfold State.startRelock
  repeat' first
    | (with_reducible first | assumption)
    | split
    | (with_reducible apply Canon.ofMk; with_reducible refine Canon.parts ?_)

theorem Canon.cancelRelock {s : State} (h : Canon z s) (pll : Nat) : Canon z (State.cancelRelock s pll) := by
  unfold State.cancelRelock
  repeat' first
    | (with_reducible first | assumption)
    | split
    | (with_reducible apply Canon.ofMk; with_reducible refine Canon.parts ?_)

theorem Canon.clkFault {s : State} (h : Canon z s) (m check : Nat) (pre : Bool) (source : Nat) :
    Canon z (State.clkFault s m check pre source) := by
  unfold State.clkFault
  repeat' first
    | (with_reducible first | assumption | apply Canon.raise)
    | split
    | (with_reducible apply Canon.ofMk; with_reducible refine Canon.parts ?_)

theorem Canon.coreRefLost {s : State} (h : Canon z s) : Canon z (State.coreRefLost s) := by
  unfold State.coreRefLost
  repeat' first
    | (with_reducible first | assumption | apply Canon.setFld | apply Canon.startRelock | apply Canon.beginSwitch
                            | apply Canon.unlockPll)
    | split
    | (with_reducible apply Canon.ofMk; with_reducible refine Canon.parts ?_)
    | dsimp only

theorem Canon.bothRefsLost {s : State} (h : Canon z s) (m : Nat) (pre : Bool) :
    Canon z (State.bothRefsLost s m pre) := by
  unfold State.bothRefsLost
  repeat' first
    | (with_reducible first | assumption | refine Canon.when _ ?_ (fun _ _ => ?_) | apply Canon.setFld
                            | apply Canon.cancelRelock | apply Canon.beginSwitch | apply Canon.unlockPll
                            | apply Canon.clkFault | apply Canon.raise)
    | split
    | (with_reducible apply Canon.ofMk; with_reducible refine Canon.parts ?_)
    | dsimp only

theorem Canon.fallback {s : State} (h : Canon z s) (m check : Nat) (pre : Bool) :
    Canon z (State.fallback s m check pre) := by
  unfold State.fallback
  repeat' first
    | (with_reducible first | assumption | apply Canon.ite | refine Canon.when _ ?_ (fun _ _ => ?_)
                            | apply Canon.cancelSwitches | apply Canon.bothRefsLost | apply Canon.coreRefLost
                            | apply Canon.clkFault | apply Canon.startRelock | apply Canon.raiseOpen
                            | apply Canon.setMux | apply Canon.beginSwitch)
    | split
    | (with_reducible apply Canon.ofMk; with_reducible refine Canon.parts ?_)
    | dsimp only

theorem Canon.trip {s : State} (h : Canon z s) (m check : Nat) : Canon z (State.trip s m check) := by
  unfold State.trip
  repeat' first
    | (with_reducible first | assumption | apply Canon.ite | apply Canon.addFld | apply Canon.setMon
                            | apply Canon.refreshMons | apply Canon.fallback | apply Canon.setFld)
    | split
    | (with_reducible apply Canon.ofMk; with_reducible refine Canon.parts ?_)
    | dsimp only

theorem Canon.refReturns {s : State} (h : Canon z s) : Canon z (State.refReturns s) := by
  unfold State.refReturns
  repeat' first
    | (with_reducible first | assumption | apply Canon.ite | apply Canon.conditionEnds)
    | split
    | (with_reducible apply Canon.ofMk; with_reducible refine Canon.parts ?_)
    | dsimp only

theorem Canon.checkPasses {s : State} (h : Canon z s) (m check : Nat) : Canon z (State.checkPasses s m check) := by
  unfold State.checkPasses
  repeat' first
    | (with_reducible first | assumption | apply Canon.ite | apply Canon.setMon | apply Canon.refReturns
                            | apply Canon.refreshMons)
    | split
    | (with_reducible apply Canon.ofMk; with_reducible refine Canon.parts ?_)
    | dsimp only

theorem Canon.on_execClockStopCheck {s : State} (h : Canon z s) (m : Fin 10) (stopped : Bool) :
    CanonX z (execClockStopCheck m stopped s) := by
  unfold execClockStopCheck
  repeat' first
    | (with_reducible first | assumption | apply Canon.ite | apply CanonX.ite | apply CanonX.next | apply Canon.trip
                            | apply Canon.checkPasses)
    | split
    | (with_reducible apply Canon.ofMk; with_reducible refine Canon.parts ?_)

theorem Canon.on_execClockFrequencyCheck {s : State} (h : Canon z s) (m : Fin 10) (ppm : BitVec 32) :
    CanonX z (execClockFrequencyCheck m ppm s) := by
  unfold execClockFrequencyCheck
  repeat' first
    | (with_reducible first | assumption | apply Canon.ite | apply CanonX.ite | apply CanonX.next | apply Canon.setFld
                            | apply Canon.checkPasses | apply Canon.trip)
    | split
    | (with_reducible apply Canon.ofMk; with_reducible refine Canon.parts ?_)
    | dsimp only

theorem Canon.reverse {s : State} (h : Canon z s) (m : Nat) : Canon z (State.reverse s m) := by
  unfold State.reverse
  repeat' first
    | (with_reducible first | assumption | apply Canon.ite | apply Canon.startRelock | apply Canon.beginReturn
                            | apply Canon.beginSwitch)
    | split
    | (with_reducible apply Canon.ofMk; with_reducible refine Canon.parts ?_)
    | dsimp only

theorem Canon.on_execClockReturn {s : State} (h : Canon z s) (m : Fin 10) : CanonX z (execClockReturn m s) := by
  unfold execClockReturn
  repeat' first
    | (with_reducible first | assumption | apply Canon.ite | apply CanonX.ite | apply CanonX.next | apply Canon.setMon
                            | apply Canon.refreshMons | apply Canon.reverse | apply Canon.conditionEnds)
    | split
    | (with_reducible apply Canon.ofMk; with_reducible refine Canon.parts ?_)
    | dsimp only

theorem Canon.on_execPllRelock {s : State} (h : Canon z s) (pll : Fin 3) : CanonX z (execPllRelock pll s) := by
  unfold execPllRelock
  repeat' first
    | (with_reducible first | assumption | apply Canon.ite | apply CanonX.ite | apply CanonX.next
                            | apply Canon.cancelRelock | apply Canon.setFld)
    | split
    | (with_reducible apply Canon.ofMk; with_reducible refine Canon.parts ?_)
    | dsimp only

theorem Canon.on_execClockSwitchDone {s : State} (h : Canon z s) (isl : Fin 145) :
    CanonX z (execClockSwitchDone isl s) := by
  unfold execClockSwitchDone
  repeat' first
    | (with_reducible first | assumption | apply Canon.ite | apply CanonX.ite | apply CanonX.next
                            | apply Canon.endSwitch)
    | split
    | (with_reducible apply Canon.ofMk; with_reducible refine Canon.parts ?_)

theorem Canon.on_execClkswForced {s : State} (h : Canon z s) (isl : Fin 145) :
    CanonX z (execClkswForced isl s) := by
  unfold execClkswForced
  repeat' first
    | (with_reducible first | assumption | apply Canon.ite | apply CanonX.ite | apply CanonX.next
                            | apply Canon.endSwitch | apply Canon.addFld | apply Canon.raise | apply Canon.advance)
    | split
    | (with_reducible apply Canon.ofMk; with_reducible refine Canon.parts ?_)
    | dsimp only

theorem Canon.writeMonEn {s : State} (h : Canon z s) (m v : Nat) : Canon z (State.writeMonEn s m v) := by
  unfold State.writeMonEn
  repeat' first
    | (with_reducible first | assumption | apply Canon.ite | apply Canon.setFld | apply Canon.setMon
                            | apply Canon.refreshMons | apply Canon.conditionEnds)
    | split
    | (with_reducible apply Canon.ofMk; with_reducible refine Canon.parts ?_)
    | dsimp only

theorem Canon.on_execRoscOk {s : State} (h : Canon z s) : CanonX z (execRoscOk s) := by
  unfold execRoscOk
  repeat' first
    | (with_reducible first | assumption | apply Canon.ite | apply CanonX.ite | apply CanonX.next
                            | refine Canon.each _ ?_ (fun _ _ _ => ?_) | apply Canon.setFld | apply Canon.setMon
                            | apply Canon.fallback | apply Canon.beginSwitch)
    | split
    | (with_reducible apply Canon.ofMk; with_reducible refine Canon.parts ?_)
    | dsimp only

theorem Canon.on_execRoscStartTimeout {s : State} (h : Canon z s) : CanonX z (execRoscStartTimeout s) := by
  unfold execRoscStartTimeout
  repeat' first
    | (with_reducible first | assumption | apply Canon.ite | apply CanonX.ite | apply CanonX.next)
    | split
    | (with_reducible apply Canon.ofMk; with_reducible refine Canon.parts ?_)

end Sys2Proof.Machine
end

