-- ==== Sys2Proof/Laws/CanonMirror.lean ====
section
/-! SUPPORT. The operations of Machine/Mirror.lean keep the canonical form of a state. -/

namespace Sys2Proof.Machine
open Reg

variable {z : State}

theorem Canon.sendAll {s : State} (h : Canon z s) (ms : List CwMsg) : Canon z (State.sendAll s ms) := by
  unfold State.sendAll
  repeat' first
    | (with_reducible first | assumption | refine Canon.each _ ?_ (fun _ _ _ => ?_) | apply Canon.send)
    | split
    | (with_reducible apply Canon.ofMk; with_reducible refine Canon.parts ?_)

theorem Canon.mirrorDesc {s : State} (h : Canon z s) (r : Request) (status cseq t : Nat) :
    Canon z (State.mirrorDesc s r status cseq t) := by
  unfold State.mirrorDesc
  repeat' first
    | (with_reducible first | assumption | apply Canon.ite | apply Canon.sendAll)
    | split
    | (with_reducible apply Canon.ofMk; with_reducible refine Canon.parts ?_)
    | dsimp only

theorem Canon.mirrorEarly {s : State} (h : Canon z s) (r : Request) (status : Nat) :
    Canon z (State.mirrorEarly s r status) := by
  unfold State.mirrorEarly
  repeat' first
    | (with_reducible first | assumption | apply Canon.mirrorDesc)
    | split
    | (with_reducible apply Canon.ofMk; with_reducible refine Canon.parts ?_)

theorem Canon.abandonGroup {s : State} (h : Canon z s) (r : Request) : Canon z (State.abandonGroup s r) := by
  unfold State.abandonGroup
  repeat' first
    | (with_reducible first | assumption | apply Canon.ite | apply Canon.discardTake)
    | split
    | (with_reducible apply Canon.ofMk; with_reducible refine Canon.parts ?_)

end Sys2Proof.Machine
end

