-- ==== Sys2Proof/Laws/CanonHosts.lean ====
section
/-! SUPPORT. The operations of Machine/Hosts.lean keep the canonical form of a state. -/

namespace Sys2Proof.Machine
open Reg

variable {z : State}

theorem Canon.logError {s : State} (h : Canon z s) (p : Nat) (bit' : Field) (bar off : Nat) :
    Canon z (State.logError s p bit' bar off) := by
  unfold State.logError
  repeat' first
    | (with_reducible first | assumption | apply Canon.ite | apply Canon.setFld | apply Canon.setPart)
    | split
    | (with_reducible apply Canon.ofMk; with_reducible refine Canon.parts ?_)
    | dsimp only

theorem Canon.rearmError {s : State} (h : Canon z s) (p : Nat) : Canon z (State.rearmError s p) := by
  unfold State.rearmError
  repeat' first
    | (with_reducible first | assumption | apply Canon.ite | apply Canon.setPart | apply Canon.setFld)
    | split
    | (with_reducible apply Canon.ofMk; with_reducible refine Canon.parts ?_)

theorem Canon.writeClaim {s : State} (h : Canon z s) (p val target : Nat) :
    Canon z (State.writeClaim s p val target) := by
  unfold State.writeClaim
  repeat' first
    | (with_reducible first | assumption | apply Canon.ite | apply Canon.setFld)
    | split
    | (with_reducible apply Canon.ofMk; with_reducible refine Canon.parts ?_)
    | dsimp only

theorem Canon.sendOwner {s : State} (h : Canon z s) (ori : Nat) : Canon z (State.sendOwner s ori) := by
  unfold State.sendOwner
  repeat' first
    | (with_reducible first | assumption | refine Canon.when _ ?_ (fun _ _ => ?_) | apply Canon.send)
    | split
    | (with_reducible apply Canon.ofMk; with_reducible refine Canon.parts ?_)

theorem Canon.claimEffect {s : State} (h : Canon z s) (q : ClaimReq) : Canon z (State.claimEffect s q) := by
  unfold State.claimEffect
  repeat' first
    | (with_reducible first | assumption | apply Canon.passTo | apply Canon.setFld | apply Canon.sendOwner)
    | split
    | (with_reducible apply Canon.ofMk; with_reducible refine Canon.parts ?_)
    | dsimp only

theorem Canon.on_execClaimComplete {s : State} (h : Canon z s) : CanonX z (execClaimComplete s) := by
  unfold execClaimComplete
  repeat' first
    | (with_reducible first | assumption | apply CanonX.next | apply Canon.claimEffect | apply Canon.setFld)
    | split
    | (with_reducible apply Canon.ofMk; with_reducible refine Canon.parts ?_)
    | dsimp only

theorem Canon.lapse {s : State} (h : Canon z s) (p : Nat) : Canon z (State.lapse s p) := by
  unfold State.lapse
  repeat' first
    | (with_reducible first | assumption | apply Canon.ite | apply Canon.setFld | apply Canon.setPart
                            | apply Canon.raise)
    | split
    | (with_reducible apply Canon.ofMk; with_reducible refine Canon.parts ?_)

theorem Canon.renewLease {s : State} (h : Canon z s) (p : Nat) : Canon z (State.renewLease s p) := by
  unfold State.renewLease
  repeat' first
    | (with_reducible first | assumption | apply Canon.setPart)
    | split
    | (with_reducible apply Canon.ofMk; with_reducible refine Canon.parts ?_)

theorem Canon.beat {s : State} (h : Canon z s) (p : Nat) : Canon z (State.beat s p) := by
  unfold State.beat
  repeat' first
    | (with_reducible first | assumption | apply Canon.ite | refine Canon.when _ ?_ (fun _ _ => ?_)
                            | apply Canon.lapse | apply Canon.renewLease | apply Canon.setFld | apply Canon.writeHeld
                            | apply Canon.sendPending)
    | split
    | (with_reducible apply Canon.ofMk; with_reducible refine Canon.parts ?_)
    | dsimp only

theorem Canon.writeLease {s : State} (h : Canon z s) (p val : Nat) : Canon z (State.writeLease s p val) := by
  unfold State.writeLease
  repeat' first
    | (with_reducible first | assumption | apply Canon.ite | apply Canon.setFld | apply Canon.setPart)
    | split
    | (with_reducible apply Canon.ofMk; with_reducible refine Canon.parts ?_)
    | dsimp only

theorem Canon.abandonPart {s : State} (h : Canon z s) (p : Nat) : Canon z (State.abandonPart s p) := by
  unfold State.abandonPart
  repeat' first
    | (with_reducible first | assumption | apply Canon.ite | refine Canon.upTo _ ?_ (fun _ _ _ => ?_)
                            | apply Canon.abandonGroup | apply Canon.setEngine)
    | split
    | (with_reducible apply Canon.ofMk; with_reducible refine Canon.parts ?_)

theorem Canon.abortRecords {s : State} (h : Canon z s) (p : Nat) : Canon z (State.abortRecords s p) := by
  unfold State.abortRecords
  repeat' first
    | (with_reducible first | assumption | refine Canon.upTo _ ?_ (fun _ _ _ => ?_) | apply Canon.place
                            | apply Canon.mirrorEarly | apply Canon.complete)
    | split
    | (with_reducible apply Canon.ofMk; with_reducible refine Canon.parts ?_)
    | dsimp only

theorem Canon.dropRings {s : State} (h : Canon z s) (p : Nat) : Canon z (State.dropRings s p) := by
  unfold State.dropRings
  repeat' first
    | (with_reducible first | assumption | refine Canon.upTo _ ?_ (fun _ _ _ => ?_) | apply Canon.abandonPart
                            | apply Canon.unplace | apply Canon.setRing | apply Canon.place | apply Canon.placeHeld)
    | split
    | (with_reducible apply Canon.ofMk; with_reducible refine Canon.parts ?_)
    | dsimp only

theorem Canon.dropPart {s : State} (h : Canon z s) (p : Nat) : Canon z (State.dropPart s p) :=
  { h.parts with regsRise := Tab.rising_filter h.regsRise _, msixOk := Tab.wf_filter h.msixOk _ }

theorem Canon.partReset {s : State} (h : Canon z s) (p : Nat) : Canon z (State.partReset s p) := by
  unfold State.partReset
  repeat' first
    | (with_reducible first | assumption | apply Canon.ite | refine Canon.when _ ?_ (fun _ _ => ?_)
                            | apply Canon.abortRecords | apply Canon.dropRings | apply Canon.abortPart
                            | apply Canon.clearPorts | apply Canon.dropPart | apply Canon.setPart | apply Canon.setFld
                            | apply Canon.renewLease)
    | split
    | (with_reducible apply Canon.ofMk; with_reducible refine Canon.parts ?_)
    | dsimp only

theorem Canon.endpointReset {s : State} (h : Canon z s) (n : Nat) : Canon z (State.endpointReset s n) := by
  unfold State.endpointReset
  repeat' first
    | (with_reducible first | assumption | refine Canon.each _ ?_ (fun _ _ _ => ?_) | apply Canon.partReset)
    | split
    | (with_reducible apply Canon.ofMk; with_reducible refine Canon.parts ?_)

theorem Canon.on_execPerstRelease {s : State} (h : Canon z s) (ep : Fin 4) : CanonX z (execPerstRelease ep s) := by
  unfold execPerstRelease
  repeat' first
    | (with_reducible first | assumption | apply CanonX.next | apply Canon.endpointReset)
    | split
    | (with_reducible apply Canon.ofMk; with_reducible refine Canon.parts ?_)
    | dsimp only

theorem Canon.on_execHotReset {s : State} (h : Canon z s) (ep : Fin 4) : CanonX z (execHotReset ep s) := by
  unfold execHotReset
  repeat' first
    | (with_reducible first | assumption | apply CanonX.next | apply Canon.endpointReset)
    | split
    | (with_reducible apply Canon.ofMk; with_reducible refine Canon.parts ?_)

theorem Canon.on_execPcieLinkDown {s : State} (h : Canon z s) (ep : Fin 4) : CanonX z (execPcieLinkDown ep s) := by
  unfold execPcieLinkDown
  repeat' first
    | (with_reducible first | assumption | apply Canon.ite | apply CanonX.ite | apply CanonX.next
                            | apply Canon.endpointReset | apply Canon.raise)
    | split
    | (with_reducible apply Canon.ofMk; with_reducible refine Canon.parts ?_)

theorem Canon.on_execFunctionLevelReset {s : State} (h : Canon z s) (p : Fin 8) :
    CanonX z (execFunctionLevelReset p s) := by
  unfold execFunctionLevelReset
  repeat' first
    | (with_reducible first | assumption | apply Canon.ite | apply CanonX.ite | apply CanonX.next
                            | apply Canon.partReset)
    | split
    | (with_reducible apply Canon.ofMk; with_reducible refine Canon.parts ?_)

theorem Canon.beginRevoke {s : State} (h : Canon z s) (p by' : Nat) : Canon z (State.beginRevoke s p by') := by
  unfold State.beginRevoke
  repeat' first
    | (with_reducible first | assumption | apply Canon.ite | refine Canon.upTo _ ?_ (fun _ _ _ => ?_)
                            | apply Canon.dropRings | apply Canon.abortPart | apply Canon.clearPorts
                            | apply Canon.setFld | apply Canon.setPart)
    | split
    | (with_reducible apply Canon.ofMk; with_reducible refine Canon.parts ?_)
    | dsimp only

theorem Canon.writeRevoke {s : State} (h : Canon z s) (w p : Nat) : Canon z (State.writeRevoke s w p) := by
  unfold State.writeRevoke
  repeat' first
    | (with_reducible first | assumption | apply Canon.ite | apply Canon.beginRevoke)
    | split
    | (with_reducible apply Canon.ofMk; with_reducible refine Canon.parts ?_)

theorem Canon.turnOff {s : State} (h : Canon z s) (p : Nat) : Canon z (State.turnOff s p) := by
  unfold State.turnOff
  repeat' first
    | (with_reducible first | assumption | apply Canon.partReset | apply Canon.setFld | apply Canon.setPart)
    | split
    | (with_reducible apply Canon.ofMk; with_reducible refine Canon.parts ?_)
    | dsimp only

theorem Canon.on_execRevocationTransfer {s : State} (h : Canon z s) (p : Fin 8) :
    CanonX z (execRevocationTransfer p s) := by
  unfold execRevocationTransfer
  repeat' first
    | (with_reducible first | assumption | apply Canon.ite | apply CanonX.ite | apply CanonX.next
                            | refine Canon.each _ ?_ (fun _ _ _ => ?_) | refine Canon.when _ ?_ (fun _ _ => ?_)
                            | apply Canon.passTo | apply Canon.sendOwner | apply Canon.setPart | apply Canon.setFld
                            | apply Canon.raise | apply Canon.turnOff)
    | split
    | (with_reducible apply Canon.ofMk; with_reducible refine Canon.parts ?_)
    | dsimp only

theorem Canon.turnOn {s : State} (h : Canon z s) (p : Nat) : Canon z (State.turnOn s p) := by
  unfold State.turnOn
  repeat' first
    | (with_reducible first | assumption | apply Canon.ite | refine Canon.when _ ?_ (fun _ _ => ?_)
                            | apply Canon.partReset | apply Canon.setFld | apply Canon.renewLease)
    | split
    | (with_reducible apply Canon.ofMk; with_reducible refine Canon.parts ?_)

theorem Canon.writeEnable {s : State} (h : Canon z s) (p val : Nat) : Canon z (State.writeEnable s p val) := by
  unfold State.writeEnable
  repeat' first
    | (with_reducible first | assumption | apply Canon.ite | apply Canon.setFld | apply Canon.turnOn
                            | apply Canon.beginRevoke | apply Canon.setPart)
    | split
    | (with_reducible apply Canon.ofMk; with_reducible refine Canon.parts ?_)
    | dsimp only

theorem Canon.badDoorbell {s : State} (h : Canon z s) (p ring sub val off : Nat) :
    Canon z (State.badDoorbell s p ring sub val off) := by
  unfold State.badDoorbell
  repeat' first
    | (with_reducible first | assumption | apply Canon.raise)
    | split
    | (with_reducible apply Canon.ofMk; with_reducible refine Canon.parts ?_)

theorem Canon.on_execCommandTailDoorbell {s : State} (h : Canon z s) (p : Fin 8) (k : Fin 64) (width : Nat) (val : Word) :
    CanonX z (execCommandTailDoorbell p k width val s) := by
  unfold execCommandTailDoorbell
  repeat' first
    | (with_reducible first | assumption | apply Canon.ite | apply CanonX.ite | apply CanonX.next
                            | apply Canon.setRing | apply Canon.badDoorbell)
    | split
    | (with_reducible apply Canon.ofMk; with_reducible refine Canon.parts ?_)
    | dsimp only

theorem Canon.on_execCompletionHeadDoorbell {s : State} (h : Canon z s) (p : Fin 8) (k : Fin 64) (width : Nat) (val : Word) :
    CanonX z (execCompletionHeadDoorbell p k width val s) := by
  unfold execCompletionHeadDoorbell
  repeat' first
    | (with_reducible first | assumption | apply Canon.ite | apply CanonX.ite | apply CanonX.next
                            | apply Canon.setRing | apply Canon.badDoorbell)
    | split
    | (with_reducible apply Canon.ofMk; with_reducible refine Canon.parts ?_)
    | dsimp only

theorem Canon.on_execEventHeadDoorbell {s : State} (h : Canon z s) (p : Fin 8) (e : Fin 4) (width : Nat) (val : Word) :
    CanonX z (execEventHeadDoorbell p e width val s) := by
  unfold execEventHeadDoorbell
  repeat' first
    | (with_reducible first | assumption | apply Canon.ite | apply CanonX.ite | apply CanonX.next
                            | apply Canon.setEvtRing | apply Canon.badDoorbell)
    | split
    | (with_reducible apply Canon.ofMk; with_reducible refine Canon.parts ?_)
    | dsimp only

theorem Canon.on_execRingFetch {s : State} (h : Canon z s) (p : Fin 8) (k : Fin 64) (answer : List Descriptor) :
    CanonX z (execRingFetch p k answer s) := by
  unfold execRingFetch
  repeat' first
    | (with_reducible first | assumption | apply Canon.ite | apply CanonX.ite | apply CanonX.next | apply Canon.lapse
                            | apply Canon.setRing)
    | split
    | (with_reducible apply Canon.ofMk; with_reducible refine Canon.parts ?_)
    | dsimp only

theorem Canon.on_execDescriptorReadError {s : State} (h : Canon z s) (p : Fin 8) (access : HostAccess) (addr : BitVec 64) :
    CanonX z (execDescriptorReadError p access addr s) := by
  unfold execDescriptorReadError
  repeat' first
    | (with_reducible first | assumption | apply Canon.ite | apply CanonX.ite | apply CanonX.next
                            | apply Canon.setRing | apply Canon.hostFault)
    | split
    | (with_reducible apply Canon.ofMk; with_reducible refine Canon.parts ?_)

theorem Canon.clearHostFault {s : State} (h : Canon z s) (p : Nat) (ring : RingId) :
    Canon z (State.clearHostFault s p ring) := by
  unfold State.clearHostFault
  repeat' first
    | (with_reducible first | assumption | apply Canon.setFld | apply Canon.setRing)
    | split
    | (with_reducible apply Canon.ofMk; with_reducible refine Canon.parts ?_)

theorem Canon.on_execBufferRead {s : State} (h : Canon z s) (p : Fin 8) (k : Fin 64) (answer : HostAnswer) :
    CanonX z (execBufferRead p k answer s) := by
  unfold execBufferRead
  repeat' first
    | (with_reducible first | assumption | apply Canon.ite | apply CanonX.ite | apply CanonX.next | apply Canon.place
                            | apply Canon.setRing | apply Canon.hostFault | apply Canon.failGroup
                            | apply Canon.mirrorEarly | apply Canon.complete)
    | split
    | (with_reducible apply Canon.ofMk; with_reducible refine Canon.parts ?_)
    | dsimp only

theorem Canon.on_execEnginePlacement {s : State} (h : Canon z s) (p : Fin 8) (k : Fin 64) :
    CanonX z (execEnginePlacement p k s) := by
  unfold execEnginePlacement
  repeat' first
    | (with_reducible first | assumption | apply Canon.ite | apply CanonX.ite | apply CanonX.next | apply Canon.place)
    | split
    | (with_reducible apply Canon.ofMk; with_reducible refine Canon.parts ?_)
    | dsimp only

theorem Canon.on_execEngineDraw {s : State} (h : Canon z s) (e : Fin 16) : CanonX z (execEngineDraw e s) := by
  unfold execEngineDraw
  repeat' first
    | (with_reducible first | assumption | apply Canon.ite | apply CanonX.ite | apply CanonX.next
                            | apply Canon.placeHeld | apply Canon.draw)
    | split
    | (with_reducible apply Canon.ofMk; with_reducible refine Canon.parts ?_)
    | dsimp only

theorem Canon.writeFreeze {s : State} (h : Canon z s) (e val : Nat) : Canon z (State.writeFreeze s e val) := by
  unfold State.writeFreeze
  repeat' first
    | (with_reducible first | assumption | apply Canon.ite | apply Canon.setFld | apply Canon.placeHeld)
    | split
    | (with_reducible apply Canon.ofMk; with_reducible refine Canon.parts ?_)
    | dsimp only

theorem Canon.engineReset {s : State} (h : Canon z s) (e : Nat) : Canon z (State.engineReset s e) := by
  unfold State.engineReset
  repeat' first
    | (with_reducible first | assumption | apply Canon.abandonGroup | apply Canon.mirrorEarly | apply Canon.finish)
    | split
    | (with_reducible apply Canon.ofMk; with_reducible refine Canon.parts ?_)

theorem Canon.checkStuck {s : State} (h : Canon z s) (e : Nat) : Canon z (State.checkStuck s e) := by
  unfold State.checkStuck
  repeat' first
    | (with_reducible first | assumption | apply Canon.ite | apply Canon.setEngine | apply Canon.raise)
    | split
    | (with_reducible apply Canon.ofMk; with_reducible refine Canon.parts ?_)
    | dsimp only

theorem Canon.on_execEngineStuck {s : State} (h : Canon z s) (e : Fin 16) : CanonX z (execEngineStuck e s) := by
  unfold execEngineStuck
  repeat' first
    | (with_reducible first | assumption | apply CanonX.next | apply Canon.checkStuck)
    | split
    | (with_reducible apply Canon.ofMk; with_reducible refine Canon.parts ?_)

theorem Canon.seedLfsr {s : State} (h : Canon z s) (e val : Nat) : Canon z (State.seedLfsr s e val) := by
  unfold State.seedLfsr
  repeat' first
    | (with_reducible first | assumption | apply Canon.ite | apply Canon.setEngine)
    | split
    | (with_reducible apply Canon.ofMk; with_reducible refine Canon.parts ?_)

theorem Canon.coalesced {s : State} (h : Canon z s) (p : Nat) (ring : RingId) :
    Canon z (State.coalesced s p ring) := by
  unfold State.coalesced
  repeat' first
    | (with_reducible first | assumption | apply Canon.ite | apply Canon.setRing | apply Canon.sendVector
                            | apply Canon.setEvtRing)
    | split
    | (with_reducible apply Canon.ofMk; with_reducible refine Canon.parts ?_)
    | dsimp only

theorem Canon.writeMsix {s : State} (h : Canon z s) (p v i val : Nat) : Canon z (State.writeMsix s p v i val) := by
  unfold State.writeMsix
  have h1 : ∀ k w, Canon z { s with host := { s.host with msix := Tab.set 0 s.host.msix k w } } :=
    fun k w => Canon.setHost h (Tab.wf_set h.msixOk k w)
  refine Canon.ite ?_ (h1 _ _)
  exact ((h1 _ _).setPart _ _).sendVector _ _

theorem Canon.on_execMsixTableWrite {s : State} (h : Canon z s) (p : Fin 8) (dword : Fin 256) (val : Word) :
    CanonX z (execMsixTableWrite p dword val s) := by
  unfold execMsixTableWrite
  repeat' first
    | (with_reducible first | assumption | apply CanonX.next | apply Canon.writeMsix)
    | split
    | (with_reducible apply Canon.ofMk; with_reducible refine Canon.parts ?_)

end Sys2Proof.Machine
end

