-- ==== Sys2Proof/Laws/CanonMemory.lean ====
section
/-! SUPPORT. The operations of Machine/Memory.lean keep the canonical form of a state. -/

namespace Sys2Proof.Machine
open Reg

variable {z : State}

theorem Canon.retire {s : State} (h : Canon z s) (stack qp : Nat) : Canon z (State.retire s stack qp) := by
  unfold State.retire
  repeat' first
    | (with_reducible first | assumption | apply Canon.ite | refine Canon.when _ ?_ (fun _ _ => ?_)
                            | apply Canon.addFld | apply Canon.setFld | apply Canon.raiseOpen)
    | split
    | (with_reducible apply Canon.ofMk; with_reducible refine Canon.parts ?_)
    | dsimp only

theorem Canon.showError {s : State} (h : Canon z s) (stack addr : Nat) (ue : Bool) :
    Canon z (State.showError s stack addr ue) := by
  unfold State.showError
  repeat' first
    | (with_reducible first | assumption | apply Canon.setFld)
    | split
    | (with_reducible apply Canon.ofMk; with_reducible refine Canon.parts ?_)

theorem Canon.on_execEccCorrected {s : State} (h : Canon z s) (stack : Fin 4) (qp : BitVec 16) (byte : BitVec 19) (scrub : Bool) :
    CanonX z (execEccCorrected stack qp byte scrub s) := by
  unfold execEccCorrected
  repeat' first
    | (with_reducible first | assumption | apply Canon.ite | apply CanonX.ite | apply CanonX.next | apply Canon.addFld
                            | apply Canon.showError | apply Canon.retire)
    | split
    | (with_reducible apply Canon.ofMk; with_reducible refine Canon.parts ?_)
    | dsimp only

theorem Canon.putStoreWord {s : State} (h : Canon z s) (stack addr word : Nat) :
    Canon z (State.putStoreWord s stack addr word) := by
  unfold State.putStoreWord
  repeat' first
    | (with_reducible first | assumption | apply Canon.ite | apply Canon.setSrc)
    | split
    | (with_reducible apply Canon.ofMk; with_reducible refine Canon.parts ?_)
    | dsimp only

theorem Canon.slotError {s : State} (h : Canon z s) (n id i byte : Nat) :
    Canon z (State.slotError s n id i byte) := by
  unfold State.slotError
  repeat' first
    | (with_reducible first | assumption | apply Canon.ite | refine Canon.when _ ?_ (fun _ _ => ?_)
                            | apply Canon.setSrc | apply Canon.setFld | apply Canon.raiseOpen)
    | split
    | (with_reducible apply Canon.ofMk; with_reducible refine Canon.parts ?_)
    | dsimp only

theorem Canon.otherError {s : State} (h : Canon z s) (stack addr : Nat) :
    Canon z (State.otherError s stack addr) := by
  unfold State.otherError
  repeat' first
    | (with_reducible first | assumption | apply Canon.ite | apply Canon.advance | apply Canon.hold | apply CanonP.fst
                            | refine CanonP.of (by with_reducible assumption) ?_)
    | split
    | (with_reducible apply Canon.ofMk; with_reducible refine Canon.parts ?_)
    | dsimp only

theorem Canon.on_execMemUe {s : State} (h : Canon z s) (stack : Fin 4) (qp : BitVec 16) (line : BitVec 13)
    (byte : BitVec 6) : CanonX z (execMemUe stack qp line byte s) := by
  unfold execMemUe
  repeat' first
    | (with_reducible first | assumption | apply Canon.ite | apply CanonX.ite | apply CanonX.next | apply Canon.addFld
                            | apply Canon.showError | apply Canon.raiseOpen | apply Canon.slotError
                            | apply Canon.otherError | apply Canon.retire)
    | split
    | (with_reducible apply Canon.ofMk; with_reducible refine Canon.parts ?_)
    | dsimp only

theorem Canon.on_execScrubPassEnd {s : State} (h : Canon z s) (stack : Fin 4) (finished : Bool) :
    CanonX z (execScrubPassEnd stack finished s) := by
  unfold execScrubPassEnd
  repeat' first
    | (with_reducible first | assumption | apply Canon.ite | apply CanonX.ite | apply CanonX.next | apply Canon.addFld
                            | apply Canon.setFld)
    | split
    | (with_reducible apply Canon.ofMk; with_reducible refine Canon.parts ?_)
    | dsimp only

theorem Canon.stackTemp {s : State} (h : Canon z s) (i t : Nat) : Canon z (State.stackTemp s i t) := by
  unfold State.stackTemp
  repeat' first
    | (with_reducible first | assumption | apply Canon.ite | apply Canon.setFld | apply Canon.conditionEnds
                            | apply Canon.raiseOpen)
    | split
    | (with_reducible apply Canon.ofMk; with_reducible refine Canon.parts ?_)
    | dsimp only

theorem Canon.dieTemp {s : State} (h : Canon z s) (t : Nat) : Canon z (State.dieTemp s t) := by
  unfold State.dieTemp
  repeat' first
    | (with_reducible first | assumption | apply Canon.ite | apply Canon.conditionEnds | apply Canon.raiseOpen)
    | split
    | (with_reducible apply Canon.ofMk; with_reducible refine Canon.parts ?_)
    | dsimp only

theorem Canon.on_execTempSensorRead {s : State} (h : Canon z s) (die : Vector (BitVec 8) 16) (hbm : Vector (BitVec 8) 4) :
    CanonX z (execTempSensorRead die hbm s) := by
  unfold execTempSensorRead
  repeat' first
    | (with_reducible first | assumption | apply CanonX.next | refine Canon.upTo _ ?_ (fun _ _ _ => ?_)
                            | refine CanonP.foldl _ ?_ (fun _ _ _ => ?_)
                            | exact CanonP.fst (by with_reducible assumption)
                            | refine Canon.foldl _ ?_ (fun _ _ _ => ?_) | apply Canon.dieTemp | apply Canon.stackTemp)
    | split
    | with_reducible refine CanonP.mk ?_ _
    | (with_reducible apply Canon.ofMk; with_reducible refine Canon.parts ?_)
    | dsimp only

end Sys2Proof.Machine
end

