-- ==== Sys2Proof/Laws/CanonBoot.lean ====
section
/-! SUPPORT. The operations of Machine/Boot.lean keep the canonical form of a state. -/

namespace Sys2Proof.Machine
open Reg

variable {z : State}

theorem Canon.sampleStraps {s : State} (h : Canon z s) (x : Straps) : Canon z (State.sampleStraps s x) := by
  unfold State.sampleStraps
  repeat' first
    | (with_reducible first | assumption | apply Canon.setFld)
    | split
    | (with_reducible apply Canon.ofMk; with_reducible refine Canon.parts ?_)
    | dsimp only

theorem Canon.applyDbgKill {s : State} (h : Canon z s) : Canon z (State.applyDbgKill s) := by
  unfold State.applyDbgKill
  repeat' first
    | (with_reducible first | assumption | refine Canon.when _ ?_ (fun _ _ => ?_) | apply Canon.setFld)
    | split
    | (with_reducible apply Canon.ofMk; with_reducible refine Canon.parts ?_)
    | dsimp only

theorem Canon.powerOn {s : State} (h : Canon z s) (x : Straps) : Canon z (State.powerOn s x) := by
  unfold State.powerOn
  dsimp only
  refine Canon.each _ (Canon.reenterSafe (Canon.sampleStraps (Canon.applyDbgKill ?_) x)) (fun _ _ ht => ht.raise _ _)
  exact { h.parts with regsRise := rfl, ancOk := rfl, pageOk := rfl, msixOk := rfl, coresOk := fun _ he => absurd he (by simp) }

theorem Canon.restart {s : State} (h : Canon z s) : Canon z (State.restart s) := by
  unfold State.restart
  exact { h.parts with ancOk := rfl, coresOk := fun _ he => absurd he (by simp) }

theorem Canon.refill {s : State} (h : Canon z s) : Canon z (State.refill s) := by
  unfold State.refill
  repeat' first
    | (with_reducible first | assumption | refine Canon.upTo _ ?_ (fun _ _ _ => ?_)
                            | refine Canon.when _ ?_ (fun _ _ => ?_) | apply Canon.setFld | apply Canon.calibrate)
    | split
    | (with_reducible apply Canon.ofMk; with_reducible refine Canon.parts ?_)
    | dsimp only

theorem Canon.seedTow {s : State} (h : Canon z s) : Canon z (State.seedTow s) := by
  unfold State.seedTow
  repeat' first
    | (with_reducible first | assumption | refine Canon.upTo _ ?_ (fun _ _ _ => ?_) | apply Canon.setTow)
    | split
    | (with_reducible apply Canon.ofMk; with_reducible refine Canon.parts ?_)

theorem Canon.startClocks {s : State} (h : Canon z s) : Canon z (State.startClocks s) := by
  unfold State.startClocks
  repeat' first
    | (with_reducible first | assumption | apply Canon.ite | refine Canon.upTo _ ?_ (fun _ _ _ => ?_)
                            | apply Canon.startRamp)
    | split
    | (with_reducible apply Canon.ofMk; with_reducible refine Canon.parts ?_)

theorem Canon.pinReset {s : State} (h : Canon z s) (x : Straps) : Canon z (State.pinReset s x) := by
  unfold State.pinReset
  have h1 := (h.clearClass .pin).restart
  dsimp only
  revert h1
  generalize (s.clearClass .pin).restart = t
  intro h1
  refine Canon.reenterSafe (Canon.setFld (Canon.sampleStraps (Canon.applyDbgKill ?_) x) _ _ _ _)
  exact { h1.parts with pageOk := rfl, msixOk := rfl }

theorem Canon.restartWarm {s : State} (h : Canon z s) : Canon z (State.restartWarm s) := by
  unfold State.restartWarm
  have h1 := (h.clearClass .warm).restart
  dsimp only
  revert h1
  generalize (s.clearClass .warm).restart = t
  intro h1
  refine ((((Canon.refill ?_).seedTow).applyGateInit).startClocks).reenterSafe
  refine Canon.when _ ?_ (fun _ hs => hs.enterRole _ _)
  refine Canon.setFld (Canon.setFld (Canon.setFld (Canon.upTo _ ?_ (fun _ _ hs => hs.setFld _ _ _ _)) _ _ _ _) _ _ _ _) _ _ _ _
  refine Canon.setFld (Canon.setFld ?_ _ _ _ _) _ _ _ _
  exact { h1.parts with pageOk := rfl }

theorem Canon.warmReset {s : State} (h : Canon z s) : Canon z (State.warmReset s) := by
  unfold State.warmReset
  repeat' first
    | (with_reducible first | assumption | apply Canon.ite | apply Canon.restartWarm)
    | split
    | (with_reducible apply Canon.ofMk; with_reducible refine Canon.parts ?_)

theorem Canon.on_execPowerOnReset {s : State} (h : Canon z s) (straps : Straps) :
    CanonX z (execPowerOnReset straps s) := by
  unfold execPowerOnReset
  repeat' first
    | (with_reducible first | assumption | apply CanonX.next | apply Canon.powerOn)
    | split
    | (with_reducible apply Canon.ofMk; with_reducible refine Canon.parts ?_)

theorem Canon.on_execPinReset {s : State} (h : Canon z s) (straps : Straps) : CanonX z (execPinReset straps s) := by
  unfold execPinReset
  repeat' first
    | (with_reducible first | assumption | apply CanonX.next | apply Canon.pinReset)
    | split
    | (with_reducible apply Canon.ofMk; with_reducible refine Canon.parts ?_)

theorem Canon.on_execBrownOut {s : State} (h : Canon z s) (_rail : Fin 13) (straps : Straps) :
    CanonX z (execBrownOut _rail straps s) := by
  unfold execBrownOut
  repeat' first
    | (with_reducible first | assumption | apply CanonX.next | apply Canon.powerOn)
    | split
    | (with_reducible apply Canon.ofMk; with_reducible refine Canon.parts ?_)

theorem Canon.flashWrite {s : State} (h : Canon z s) (a : Nat) (bytes : List Nat) : Canon z (State.flashWrite s a bytes) :=
  Canon.setBoot h (Tab.wf_setRange _ h.flashOk _) h.pageOk

theorem Canon.flashErase {s : State} (h : Canon z s) (a n : Nat) : Canon z (State.flashErase s a n) :=
  Canon.setBoot h (Tab.wf_filter h.flashOk _) h.pageOk

theorem Canon.writeBootControl {s : State} (h : Canon z s) (pref : Nat) :
    Canon z (State.writeBootControl s pref) := by
  unfold State.writeBootControl
  repeat' first
    | (with_reducible first | assumption | apply Canon.flashErase | apply Canon.flashWrite | apply Canon.setFld)
    | split
    | (with_reducible apply Canon.ofMk; with_reducible refine Canon.parts ?_)
    | dsimp only

theorem Canon.enterRecovery {s : State} (h : Canon z s) : Canon z (State.enterRecovery s) := by
  unfold State.enterRecovery
  repeat' first
    | (with_reducible first | assumption | apply Canon.setFld)
    | split
    | (with_reducible apply Canon.ofMk; with_reducible refine Canon.parts ?_)

theorem Canon.on_execFuseLoadDone {s : State} (h : Canon z s) (fuses : Option Fuses) :
    CanonX z (execFuseLoadDone fuses s) := by
  unfold execFuseLoadDone
  repeat' first
    | (with_reducible first | assumption | apply Canon.ite | apply CanonX.ite | apply CanonX.next
                            | apply Canon.raiseOpen | apply Canon.setPair | apply Canon.setFld | apply Canon.seedTow
                            | apply Canon.startClocks | apply Canon.enterRecovery)
    | split
    | (with_reducible apply Canon.ofMk; with_reducible refine Canon.parts ?_)
    | dsimp only

theorem Canon.on_execBankCheckDone {s : State} (h : Canon z s) (readOk : Bool) :
    CanonX z (execBankCheckDone readOk s) := by
  unfold execBankCheckDone
  repeat' first
    | (with_reducible first | assumption | apply Canon.ite | apply CanonX.ite | apply CanonX.next | apply Canon.setFld
                            | apply Canon.enterRecovery)
    | split
    | (with_reducible apply Canon.ofMk; with_reducible refine Canon.parts ?_)
    | dsimp only

theorem Canon.on_execBootRecordApplied {s : State} (h : Canon z s) (record : BootRecord) :
    CanonX z (execBootRecordApplied record s) := by
  unfold execBootRecordApplied
  repeat' first
    | (with_reducible first | assumption | apply Canon.ite | apply CanonX.ite | apply CanonX.next
                            | refine Canon.each _ ?_ (fun _ _ _ => ?_) | apply Canon.setFld | apply Canon.turnOn
                            | apply Canon.applyGateInit)
    | split
    | (with_reducible apply Canon.ofMk; with_reducible refine Canon.parts ?_)
    | dsimp only

theorem Canon.on_execMemoryTrainingDone {s : State} (h : Canon z s) (ok : BitVec 4) :
    CanonX z (execMemoryTrainingDone ok s) := by
  unfold execMemoryTrainingDone
  repeat' first
    | (with_reducible first | assumption | apply Canon.ite | apply CanonX.ite | apply CanonX.next
                            | refine Canon.upTo _ ?_ (fun _ _ _ => ?_) | apply Canon.setFld | apply Canon.raiseOpen
                            | apply Canon.refill)
    | split
    | (with_reducible apply Canon.ofMk; with_reducible refine Canon.parts ?_)
    | dsimp only

theorem Canon.flashErr {s : State} (h : Canon z s) (cause : Nat) : Canon z (State.flashErr s cause) := by
  unfold State.flashErr
  repeat' first
    | (with_reducible first | assumption | apply Canon.setFld)
    | split
    | (with_reducible apply Canon.ofMk; with_reducible refine Canon.parts ?_)

theorem Canon.flashStart {s : State} (h : Canon z s) (op : FlashOp) : Canon z (State.flashStart s op) := by
  unfold State.flashStart
  repeat' first
    | (with_reducible first | assumption | apply Canon.setFld)
    | split
    | (with_reducible apply Canon.ofMk; with_reducible refine Canon.parts ?_)

theorem Canon.readFlData {s : State} (h : Canon z s) : CanonP z (State.readFlData s) := by
  unfold State.readFlData
  repeat' first
    | (with_reducible first | assumption | apply Canon.setFld)
    | split
    | with_reducible refine CanonP.mk ?_ _
    | (with_reducible apply Canon.ofMk; with_reducible refine Canon.parts ?_)
    | dsimp only

theorem Canon.writeFlData {s : State} (h : Canon z s) (v : Nat) : Canon z (State.writeFlData s v) := by
  unfold State.writeFlData
  have hp : ∀ pg : Tab Nat, Tab.wf 0 pg = true → Canon z { s with boot := { s.boot with page := pg } } :=
    fun _ hpg => { h.parts with pageOk := hpg }
  have hq := fun a l => Tab.wf_setRange (d := 0) l h.pageOk a
  with_reducible exact Canon.setFld (hp _ (hq _ _)) _ _ _ _

theorem Canon.eraseCmd {s : State} (h : Canon z s) : Canon z (State.eraseCmd s) := by
  unfold State.eraseCmd
  repeat' first
    | (with_reducible first | assumption | apply Canon.ite | apply Canon.flashErr | apply Canon.flashStart)
    | split
    | (with_reducible apply Canon.ofMk; with_reducible refine Canon.parts ?_)
    | dsimp only

theorem Canon.programCmd {s : State} (h : Canon z s) : Canon z (State.programCmd s) := by
  unfold State.programCmd
  repeat' first
    | (with_reducible first | assumption | apply Canon.ite | apply Canon.flashErr | apply Canon.flashStart)
    | split
    | (with_reducible apply Canon.ofMk; with_reducible refine Canon.parts ?_)
    | dsimp only

theorem Canon.deltaCmd {s : State} (h : Canon z s) : Canon z (State.deltaCmd s) := by
  unfold State.deltaCmd
  repeat' first
    | (with_reducible first | assumption | apply Canon.ite | apply Canon.flashErr | apply Canon.flashStart)
    | split
    | (with_reducible apply Canon.ofMk; with_reducible refine Canon.parts ?_)

theorem Canon.prefCmd {s : State} (h : Canon z s) (bank : Nat) : Canon z (State.prefCmd s bank) := by
  unfold State.prefCmd
  repeat' first
    | (with_reducible first | assumption | apply Canon.ite | apply Canon.flashErr | apply Canon.flashStart)
    | split
    | (with_reducible apply Canon.ofMk; with_reducible refine Canon.parts ?_)

theorem Canon.putSettings {s : State} (h : Canon z s) (c : Nat) (x : SettingsCopy) :
    Canon z (State.putSettings s c x) := by
  unfold State.putSettings
  repeat' first
    | (with_reducible first | assumption | apply Canon.ite)
    | split
    | (with_reducible apply Canon.ofMk; with_reducible refine Canon.parts ?_)

theorem Canon.saveCmd {s : State} (h : Canon z s) : Canon z (State.saveCmd s) := by
  unfold State.saveCmd
  repeat' first
    | (with_reducible first | assumption | apply Canon.ite | apply Canon.flashErr | apply Canon.flashStart)
    | split
    | (with_reducible apply Canon.ofMk; with_reducible refine Canon.parts ?_)

theorem Canon.flashCmd {s : State} (h : Canon z s) (c : Nat) : Canon z (State.flashCmd s c) := by
  unfold State.flashCmd
  repeat' first
    | (with_reducible first | assumption | apply Canon.eraseCmd | apply Canon.programCmd | apply Canon.deltaCmd
                            | apply Canon.prefCmd | apply Canon.saveCmd)
    | split
    | (with_reducible apply Canon.ofMk; with_reducible refine Canon.parts ?_)

theorem Canon.flashIdle {s : State} (h : Canon z s) : Canon z (State.flashIdle s) := by
  unfold State.flashIdle
  repeat' first
    | (with_reducible first | assumption | apply Canon.setFld)
    | split
    | (with_reducible apply Canon.ofMk; with_reducible refine Canon.parts ?_)

theorem Canon.on_execFlashOpDone {s : State} (h : Canon z s) (ok : Bool) : CanonX z (execFlashOpDone ok s) := by
  unfold execFlashOpDone
  repeat' first
    | (with_reducible first | assumption | apply Canon.ite | apply CanonX.ite | apply CanonX.next
                            | apply Canon.flashIdle | apply Canon.flashErase | apply Canon.flashErr
                            | apply Canon.flashWrite | apply Canon.writeBootControl | apply Canon.putSettings)
    | split
    | (with_reducible apply Canon.ofMk; with_reducible refine Canon.parts ?_)

theorem Canon.applyDelta {s : State} (h : Canon z s) (ok : Bool) : CanonP z (State.applyDelta s ok) := by
  unfold State.applyDelta
  repeat' first
    | (with_reducible first | assumption | apply Canon.ite | apply CanonP.ite | apply Canon.reverse
                            | apply Canon.flashErase | apply Canon.flashWrite | apply Canon.writeBootControl)
    | split
    | with_reducible refine CanonP.mk ?_ _
    | (with_reducible apply Canon.ofMk; with_reducible refine Canon.parts ?_)
    | dsimp only

theorem Canon.on_execFwDeltaDone {s : State} (h : Canon z s) (readOk eraseOk programOk : Bool) :
    CanonX z (execFwDeltaDone readOk eraseOk programOk s) := by
  unfold execFwDeltaDone
  repeat' first
    | (with_reducible first | assumption | apply Canon.ite | apply CanonX.ite | apply CanonX.next
                            | apply Canon.flashIdle | apply Canon.applyDelta | apply Canon.flashErr
                            | apply Canon.raise | apply CanonP.fst
                            | refine CanonP.of (by with_reducible assumption) ?_)
    | split
    | (with_reducible apply Canon.ofMk; with_reducible refine Canon.parts ?_)
    | dsimp only

theorem Canon.writeFuseKey {s : State} (h : Canon z s) (v : Nat) : Canon z (State.writeFuseKey s v) := by
  unfold State.writeFuseKey
  repeat' first
    | (with_reducible first | assumption)
    | split
    | (with_reducible apply Canon.ofMk; with_reducible refine Canon.parts ?_)

theorem Canon.blowDbg {s : State} (h : Canon z s) : Canon z (State.blowDbg s) := by
  unfold State.blowDbg
  repeat' first
    | (with_reducible first | assumption)
    | split
    | (with_reducible apply Canon.ofMk; with_reducible refine Canon.parts ?_)

end Sys2Proof.Machine
end

