-- ==== Sys2Proof/Laws/CanonSubmit.lean ====
section
/-! SUPPORT. The operations of Machine/Submit.lean keep the canonical form of a state. -/

namespace Sys2Proof.Machine
open Reg

variable {z : State}

theorem Canon.joinGroup {s : State} (h : Canon z s) (r : Request) (cs : List Change) (n : Nat) :
    Canon z (State.joinGroup s r cs n) := by
  unfold State.joinGroup
  repeat' first
    | (with_reducible first | assumption | apply Canon.updTake | apply Canon.setTakes)
    | split
    | (with_reducible apply Canon.ofMk; with_reducible refine Canon.parts ?_)

theorem Canon.writeBank {s : State} (h : Canon z s) (p : Nat) (cs : List Change) (view : Cfg) (n : Nat) :
    Canon z (State.writeBank s p cs view n) := by
  unfold State.writeBank
  repeat' first
    | (with_reducible first | assumption | refine CanonP.foldl _ ?_ (fun _ _ _ => ?_)
                            | exact CanonP.fst (by with_reducible assumption)
                            | refine Canon.foldl _ ?_ (fun _ _ _ => ?_) | apply Canon.setBank | apply Canon.setFld)
    | split
    | with_reducible refine CanonP.mk ?_ _
    | (with_reducible apply Canon.ofMk; with_reducible refine Canon.parts ?_)
    | dsimp only

theorem Canon.takeImmediate {s : State} (h : Canon z s) (p : Nat) (cs : List Change) (n : Nat) :
    CanonP z (State.takeImmediate s p cs n) := by
  unfold State.takeImmediate
  repeat' first
    | (with_reducible first | assumption | apply Canon.ite | apply CanonP.ite
                            | refine CanonP.foldl _ ?_ (fun _ _ _ => ?_)
                            | exact CanonP.fst (by with_reducible assumption)
                            | refine Canon.foldl _ ?_ (fun _ _ _ => ?_) | apply Canon.on_step | apply Canon.takeSeq
                            | apply Canon.setTakes | apply Canon.decided | apply Canon.reachTake)
    | split
    | with_reducible refine CanonP.mk ?_ _
    | (with_reducible apply Canon.ofMk; with_reducible refine Canon.parts ?_)
    | dsimp only

theorem Canon.refuse {s : State} (h : Canon z s) (r : Request) (d : Done) : CanonP z (State.refuse s r d) := by
  unfold State.refuse
  repeat' first
    | (with_reducible first | assumption | apply Canon.failGroup)
    | split
    | with_reducible refine CanonP.mk ?_ _
    | (with_reducible apply Canon.ofMk; with_reducible refine Canon.parts ?_)

theorem Canon.hold {s : State} (h : Canon z s) (r : Request) (n : Nat) (g : Cfg) (p : Plan) (value : State → Plan → Nat × Nat) :
    CanonP z (State.hold s r n g p value) := by
  unfold State.hold
  dsimp only
  split
  · exact h.refuse _ _
  · split
    · exact h.refuse _ _
    · cases e : s.reserveAll p.changes with
      | none => exact h.refuse _ _
      | some s' =>
        have hs' : Canon z s' := h.reserveAll _ _ e
        dsimp only
        split
        · exact h.refuse _ _
        · refine CanonP.ite (CanonP.mk h _) (CanonP.ite (CanonP.mk (hs'.joinGroup _ _ _) _)
            (CanonP.ite (CanonP.mk (hs'.writeBank _ _ _ _) _) ?_))
          exact hs'.takeImmediate _ _ _

theorem Canon.planAndHold {s : State} (h : Canon z s) (r : Request) (cs : List Change) (value : State → Plan → Nat × Nat) :
    CanonP z (State.planAndHold s r cs value) := by
  unfold State.planAndHold
  repeat' first
    | (with_reducible first | assumption | apply Canon.ite | apply CanonP.ite | apply Canon.refuse | apply Canon.hold
                            | apply CanonP.fst | refine CanonP.of (by with_reducible assumption) ?_)
    | split
    | with_reducible refine CanonP.mk ?_ _
    | (with_reducible apply Canon.ofMk; with_reducible refine Canon.parts ?_)
    | dsimp only

theorem Canon.submit {s : State} (h : Canon z s) (r : Request) (es : List Entry) (lenBad : Bool) (value : State → Plan → Nat × Nat) :
    CanonP z (State.submit s r es lenBad value) := by
  unfold State.submit
  repeat' first
    | (with_reducible first | assumption | apply Canon.ite | apply CanonP.ite | apply Canon.refuse
                            | apply Canon.planAndHold | apply CanonP.fst
                            | refine CanonP.of (by with_reducible assumption) ?_)
    | split
    | with_reducible refine CanonP.mk ?_ _
    | (with_reducible apply Canon.ofMk; with_reducible refine Canon.parts ?_)
    | dsimp only

theorem Canon.opRoute {s : State} (h : Canon z s) (r : Request) : CanonP z (State.opRoute s r) := by
  unfold State.opRoute
  repeat' first
    | (with_reducible first | assumption | apply Canon.submit | apply CanonP.fst
                            | refine CanonP.of (by with_reducible assumption) ?_)
    | split
    | with_reducible refine CanonP.mk ?_ _
    | (with_reducible apply Canon.ofMk; with_reducible refine Canon.parts ?_)

theorem Canon.opBulk {s : State} (h : Canon z s) (r : Request) (f : Nat → Nat → Entry) :
    CanonP z (State.opBulk s r f) := by
  unfold State.opBulk
  repeat' first
    | (with_reducible first | assumption | apply Canon.submit | apply CanonP.fst
                            | refine CanonP.of (by with_reducible assumption) ?_)
    | split
    | with_reducible refine CanonP.mk ?_ _
    | (with_reducible apply Canon.ofMk; with_reducible refine Canon.parts ?_)
    | dsimp only

theorem Canon.opLayer {s : State} (h : Canon z s) (r : Request) : CanonP z (State.opLayer s r) := by
  unfold State.opLayer
  repeat' first
    | (with_reducible first | assumption | apply Canon.submit | apply CanonP.fst
                            | refine CanonP.of (by with_reducible assumption) ?_)
    | split
    | with_reducible refine CanonP.mk ?_ _
    | (with_reducible apply Canon.ofMk; with_reducible refine Canon.parts ?_)
    | dsimp only

theorem Canon.opComp {s : State} (h : Canon z s) (r : Request) : CanonP z (State.opComp s r) := by
  unfold State.opComp
  repeat' first
    | (with_reducible first | assumption | apply Canon.submit | apply CanonP.fst
                            | refine CanonP.of (by with_reducible assumption) ?_)
    | split
    | with_reducible refine CanonP.mk ?_ _
    | (with_reducible apply Canon.ofMk; with_reducible refine Canon.parts ?_)

theorem Canon.opFresh {s : State} (h : Canon z s) (r : Request) : CanonP z (State.opFresh s r) := by
  unfold State.opFresh
  repeat' first
    | (with_reducible first | assumption | apply Canon.submit | apply CanonP.fst
                            | refine CanonP.of (by with_reducible assumption) ?_)
    | split
    | with_reducible refine CanonP.mk ?_ _
    | (with_reducible apply Canon.ofMk; with_reducible refine Canon.parts ?_)

theorem Canon.opAlloc {s : State} (h : Canon z s) (r : Request) : CanonP z (State.opAlloc s r) := by
  unfold State.opAlloc
  repeat' first
    | (with_reducible first | assumption | apply Canon.submit | apply CanonP.fst
                            | refine CanonP.of (by with_reducible assumption) ?_)
    | split
    | with_reducible refine CanonP.mk ?_ _
    | (with_reducible apply Canon.ofMk; with_reducible refine Canon.parts ?_)

theorem Canon.opInsert {s : State} (h : Canon z s) (r : Request) : CanonP z (State.opInsert s r) := by
  unfold State.opInsert
  repeat' first
    | (with_reducible first | assumption | apply Canon.submit | apply CanonP.fst
                            | refine CanonP.of (by with_reducible assumption) ?_)
    | split
    | with_reducible refine CanonP.mk ?_ _
    | (with_reducible apply Canon.ofMk; with_reducible refine Canon.parts ?_)

theorem Canon.opFlowAdd {s : State} (h : Canon z s) (r : Request) : CanonP z (State.opFlowAdd s r) := by
  unfold State.opFlowAdd
  repeat' first
    | (with_reducible first | assumption | apply Canon.ite | apply CanonP.ite | apply Canon.submit | apply CanonP.fst
                            | refine CanonP.of (by with_reducible assumption) ?_)
    | split
    | with_reducible refine CanonP.mk ?_ _
    | (with_reducible apply Canon.ofMk; with_reducible refine Canon.parts ?_)
    | dsimp only

theorem Canon.opFlowDel {s : State} (h : Canon z s) (r : Request) : CanonP z (State.opFlowDel s r) := by
  unfold State.opFlowDel
  repeat' first
    | (with_reducible first | assumption | apply Canon.submit | apply CanonP.fst
                            | refine CanonP.of (by with_reducible assumption) ?_)
    | split
    | with_reducible refine CanonP.mk ?_ _
    | (with_reducible apply Canon.ofMk; with_reducible refine Canon.parts ?_)
    | dsimp only

theorem Canon.opProbeCtl {s : State} (h : Canon z s) (r : Request) : CanonP z (State.opProbeCtl s r) := by
  unfold State.opProbeCtl
  repeat' first
    | (with_reducible first | assumption | apply Canon.ite | apply CanonP.ite | apply Canon.probeCtl
                            | apply Canon.refuse | apply Canon.submit | apply CanonP.fst
                            | refine CanonP.of (by with_reducible assumption) ?_)
    | split
    | with_reducible refine CanonP.mk ?_ _
    | (with_reducible apply Canon.ofMk; with_reducible refine Canon.parts ?_)
    | dsimp only

end Sys2Proof.Machine
end

