-- ==== Sys2Proof/Laws/CanonCommands.lean ====
section
/-! SUPPORT. The operations of Machine/Commands.lean keep the canonical form of a state. -/

namespace Sys2Proof.Machine
open Reg

variable {z : State}

theorem Canon.abortTake {s : State} (h : Canon z s) (r : Request) (k : Take) :
    CanonP z (State.abortTake s r k) := by
  unfold State.abortTake
  repeat' first
    | (with_reducible first | assumption | apply Canon.ite | apply CanonP.ite | apply Canon.discardTake)
    | split
    | with_reducible refine CanonP.mk ?_ _
    | (with_reducible apply Canon.ofMk; with_reducible refine Canon.parts ?_)

theorem Canon.commitOpen {s : State} (h : Canon z s) (r : Request) (k : Take) :
    CanonP z (State.commitOpen s r k) := by
  unfold State.commitOpen
  repeat' first
    | (with_reducible first | assumption | apply Canon.ite | apply CanonP.ite | apply Canon.removeTake
                            | apply Canon.updTake | apply Canon.takeSeq)
    | split
    | with_reducible refine CanonP.mk ?_ _
    | (with_reducible apply Canon.ofMk; with_reducible refine Canon.parts ?_)
    | dsimp only

theorem Canon.opCommit {s : State} (h : Canon z s) (r : Request) : CanonP z (State.opCommit s r) := by
  unfold State.opCommit
  repeat' first
    | (with_reducible first | assumption | apply Canon.ite | apply CanonP.ite | apply Canon.abortTake
                            | apply Canon.discardTake | apply Canon.commitOpen | apply CanonP.fst
                            | refine CanonP.of (by with_reducible assumption) ?_)
    | split
    | with_reducible refine CanonP.mk ?_ _
    | (with_reducible apply Canon.ofMk; with_reducible refine Canon.parts ?_)
    | dsimp only

theorem Canon.flipBank {s : State} (h : Canon z s) (r : Request) : CanonP z (State.flipBank s r) := by
  unfold State.flipBank
  repeat' first
    | (with_reducible first | assumption | apply Canon.ite | apply CanonP.ite | apply Canon.setTakes
                            | apply Canon.takeSeq)
    | split
    | with_reducible refine CanonP.mk ?_ _
    | (with_reducible apply Canon.ofMk; with_reducible refine Canon.parts ?_)
    | dsimp only

theorem Canon.opFlip {s : State} (h : Canon z s) (r : Request) : CanonP z (State.opFlip s r) := by
  unfold State.opFlip
  repeat' first
    | (with_reducible first | assumption | apply Canon.ite | apply CanonP.ite | apply Canon.abortTake
                            | apply Canon.flipBank | apply CanonP.fst
                            | refine CanonP.of (by with_reducible assumption) ?_)
    | split
    | with_reducible refine CanonP.mk ?_ _
    | (with_reducible apply Canon.ofMk; with_reducible refine Canon.parts ?_)

theorem Canon.opNop {s : State} (h : Canon z s) (r : Request) : CanonP z (State.opNop s r) := by
  unfold State.opNop
  repeat' first
    | (with_reducible first | assumption)
    | split
    | with_reducible refine CanonP.mk ?_ _
    | (with_reducible apply Canon.ofMk; with_reducible refine Canon.parts ?_)

theorem Canon.opTimeQuery {s : State} (h : Canon z s) (r : Request) : CanonP z (State.opTimeQuery s r) := by
  unfold State.opTimeQuery
  repeat' first
    | (with_reducible first | assumption)
    | split
    | with_reducible refine CanonP.mk ?_ _
    | (with_reducible apply Canon.ofMk; with_reducible refine Canon.parts ?_)

theorem Canon.opAcceptStep {s : State} (h : Canon z s) (r : Request) : CanonP z (State.opAcceptStep s r) := by
  unfold State.opAcceptStep
  repeat' first
    | (with_reducible first | assumption | apply Canon.ite | apply CanonP.ite | apply Canon.acceptStep
                            | apply CanonP.fst | refine CanonP.of (by with_reducible assumption) ?_)
    | split
    | with_reducible refine CanonP.mk ?_ _
    | (with_reducible apply Canon.ofMk; with_reducible refine Canon.parts ?_)
    | dsimp only

theorem Canon.setGraphic {s : State} (h : Canon z s) (p h : Nat) (g : Option Plane) :
    Canon z (State.setGraphic s p h g) := by
  unfold State.setGraphic
  repeat' first
    | (with_reducible first | assumption)
    | split
    | (with_reducible apply Canon.ofMk; with_reducible refine Canon.parts ?_)

theorem Canon.placeGraphic {s : State} (h : Canon z s) (p h : Nat) (g : Option Plane) :
    CanonO z (State.placeGraphic s p h g) := by
  unfold State.placeGraphic
  repeat' first
    | (with_reducible first | assumption | apply Canon.ite | apply CanonO.ite | exact CanonO.none | apply CanonO.some
                            | apply Canon.returnPages | apply Canon.claimPages | apply Canon.setGraphic
                            | apply CanonP.fst | refine CanonP.of (by with_reducible assumption) ?_)
    | split
    | (with_reducible apply Canon.ofMk; with_reducible refine Canon.parts ?_)
    | dsimp only

theorem Canon.opGraphic {s : State} (h : Canon z s) (r : Request) : CanonP z (State.opGraphic s r) := by
  unfold State.opGraphic
  dsimp only
  generalize State.entryChecks s r _ _ = e
  cases e with
  | some d => exact CanonP.mk h _
  | none =>
    dsimp only
    repeat' first
      | with_reducible apply CanonP.ite
      | exact CanonP.mk h _
      | split
      | exact CanonP.mk (CanonO.of (by with_reducible assumption) (Canon.placeGraphic h _ _ _)) _

theorem Canon.opProbeLoad {s : State} (h : Canon z s) (r : Request) : CanonP z (State.opProbeLoad s r) := by
  unfold State.opProbeLoad
  dsimp only
  generalize State.entryChecks s r _ _ = e
  cases e with
  | some d => exact CanonP.mk h _
  | none =>
    refine CanonP.ite (CanonP.mk h _) (CanonP.ite (CanonP.mk h _) (CanonP.mk (h.setCore _ ?_) _))
    exact CoreOk.ite (CoreOk.setImem (h.core _) _ _) (CoreOk.setRange (h.core _) _ _)

theorem Canon.opOf {s : State} (h : Canon z s) (r : Request) : CanonP z (State.opOf s r) := by
  unfold State.opOf
  repeat' first
    | (with_reducible first | assumption | apply Canon.opRoute | apply Canon.opBulk | apply Canon.opLayer
                            | apply Canon.opComp | apply Canon.opFresh | apply Canon.opCommit | apply Canon.opFlip
                            | apply Canon.opAlloc | apply Canon.opGraphic | apply Canon.opInsert
                            | apply Canon.opFlowAdd | apply Canon.opFlowDel | apply Canon.opProbeLoad
                            | apply Canon.opProbeCtl | apply CanonP.fst
                            | refine CanonP.of (by with_reducible assumption) ?_)
    | split
    | with_reducible refine CanonP.mk ?_ _
    | (with_reducible apply Canon.ofMk; with_reducible refine Canon.parts ?_)

theorem Canon.mirrorCmd {s : State} (h : Canon z s) (r : Request) (d : Done) : Canon z (State.mirrorCmd s r d) := by
  unfold State.mirrorCmd
  repeat' first
    | (with_reducible first | assumption | apply Canon.mirrorDesc)
    | split
    | (with_reducible apply Canon.ofMk; with_reducible refine Canon.parts ?_)

theorem Canon.announce {s : State} (h : Canon z s) (d : Done) : Canon z (State.announce s d) := by
  unfold State.announce
  repeat' first
    | (with_reducible first | assumption | apply Canon.sendGroupEnd)
    | split
    | (with_reducible apply Canon.ofMk; with_reducible refine Canon.parts ?_)

theorem Canon.processWhen {s : State} (h : Canon z s) (e op : Nat) (ok : Request → Bool)
    {f : State → Request → State × Done} (hf : ∀ r, CanonP z (f s r)) : Canon z (s.processWhen e op ok f) := by
  unfold State.processWhen
  split
  · exact h
  · refine Canon.ite h (Canon.ite (h.finish _ _ _ _ _ _) ?_)
    exact ((CanonP.fst (hf _)).mirrorCmd _ _).announce _ |>.finish _ _ _ _ _ _

theorem Canon.process {s : State} (h : Canon z s) (e op : Nat)
    {f : State → Request → State × Done} (hf : ∀ r, CanonP z (f s r)) : Canon z (s.process e op f) := h.processWhen e op _ hf

theorem Canon.on_execNop {s : State} (h : Canon z s) (e : Fin 16) : CanonX z (execNop e s) := by
  unfold execNop
  repeat' first
    | (with_reducible first | assumption | apply CanonX.next | refine Canon.process ?_ _ _ (fun _ => ?_)
                            | refine Canon.processWhen ?_ _ _ _ (fun _ => ?_) | apply Canon.opNop | apply CanonP.fst
                            | refine CanonP.of (by with_reducible assumption) ?_)
    | split
    | (with_reducible apply Canon.ofMk; with_reducible refine Canon.parts ?_)

theorem Canon.on_execBadOpcode {s : State} (h : Canon z s) (e : Fin 16) : CanonX z (execBadOpcode e s) := by
  unfold execBadOpcode
  repeat' first
    | (with_reducible first | assumption | apply Canon.ite | apply CanonX.ite | apply CanonX.next | apply Canon.finish)
    | split
    | (with_reducible apply Canon.ofMk; with_reducible refine Canon.parts ?_)

theorem Canon.on_execRoute {s : State} (h : Canon z s) (e : Fin 16) : CanonX z (execRoute e s) := by
  unfold execRoute
  repeat' first
    | (with_reducible first | assumption | apply CanonX.next | refine Canon.process ?_ _ _ (fun _ => ?_)
                            | refine Canon.processWhen ?_ _ _ _ (fun _ => ?_) | apply Canon.opRoute | apply CanonP.fst
                            | refine CanonP.of (by with_reducible assumption) ?_)
    | split
    | (with_reducible apply Canon.ofMk; with_reducible refine Canon.parts ?_)

theorem Canon.on_execRouteBulk {s : State} (h : Canon z s) (e : Fin 16) : CanonX z (execRouteBulk e s) := by
  unfold execRouteBulk
  repeat' first
    | (with_reducible first | assumption | apply CanonX.next | refine Canon.process ?_ _ _ (fun _ => ?_)
                            | refine Canon.processWhen ?_ _ _ _ (fun _ => ?_) | apply Canon.opBulk | apply CanonP.fst
                            | refine CanonP.of (by with_reducible assumption) ?_)
    | split
    | (with_reducible apply Canon.ofMk; with_reducible refine Canon.parts ?_)

theorem Canon.on_execAudioMap {s : State} (h : Canon z s) (e : Fin 16) : CanonX z (execAudioMap e s) := by
  unfold execAudioMap
  repeat' first
    | (with_reducible first | assumption | apply CanonX.next | refine Canon.process ?_ _ _ (fun _ => ?_)
                            | refine Canon.processWhen ?_ _ _ _ (fun _ => ?_) | apply Canon.opBulk | apply CanonP.fst
                            | refine CanonP.of (by with_reducible assumption) ?_)
    | split
    | (with_reducible apply Canon.ofMk; with_reducible refine Canon.parts ?_)

theorem Canon.on_execAudioGain {s : State} (h : Canon z s) (e : Fin 16) : CanonX z (execAudioGain e s) := by
  unfold execAudioGain
  repeat' first
    | (with_reducible first | assumption | apply CanonX.next | refine Canon.process ?_ _ _ (fun _ => ?_)
                            | refine Canon.processWhen ?_ _ _ _ (fun _ => ?_) | apply Canon.opBulk | apply CanonP.fst
                            | refine CanonP.of (by with_reducible assumption) ?_)
    | split
    | (with_reducible apply Canon.ofMk; with_reducible refine Canon.parts ?_)

theorem Canon.on_execLayer {s : State} (h : Canon z s) (e : Fin 16) : CanonX z (execLayer e s) := by
  unfold execLayer
  repeat' first
    | (with_reducible first | assumption | apply CanonX.next | refine Canon.process ?_ _ _ (fun _ => ?_)
                            | refine Canon.processWhen ?_ _ _ _ (fun _ => ?_) | apply Canon.opLayer | apply CanonP.fst
                            | refine CanonP.of (by with_reducible assumption) ?_)
    | split
    | (with_reducible apply Canon.ofMk; with_reducible refine Canon.parts ?_)

theorem Canon.on_execCompositorSet {s : State} (h : Canon z s) (e : Fin 16) : CanonX z (execCompositorSet e s) := by
  unfold execCompositorSet
  repeat' first
    | (with_reducible first | assumption | apply CanonX.next | refine Canon.process ?_ _ _ (fun _ => ?_)
                            | refine Canon.processWhen ?_ _ _ _ (fun _ => ?_) | apply Canon.opComp | apply CanonP.fst
                            | refine CanonP.of (by with_reducible assumption) ?_)
    | split
    | (with_reducible apply Canon.ofMk; with_reducible refine Canon.parts ?_)

theorem Canon.on_execFreshPolicy {s : State} (h : Canon z s) (e : Fin 16) : CanonX z (execFreshPolicy e s) := by
  unfold execFreshPolicy
  repeat' first
    | (with_reducible first | assumption | apply CanonX.next | refine Canon.process ?_ _ _ (fun _ => ?_)
                            | refine Canon.processWhen ?_ _ _ _ (fun _ => ?_) | apply Canon.opFresh | apply CanonP.fst
                            | refine CanonP.of (by with_reducible assumption) ?_)
    | split
    | (with_reducible apply Canon.ofMk; with_reducible refine Canon.parts ?_)

theorem Canon.on_execCommit {s : State} (h : Canon z s) (e : Fin 16) : CanonX z (execCommit e s) := by
  unfold execCommit
  repeat' first
    | (with_reducible first | assumption | apply CanonX.next | refine Canon.process ?_ _ _ (fun _ => ?_)
                            | refine Canon.processWhen ?_ _ _ _ (fun _ => ?_) | apply Canon.opCommit
                            | apply CanonP.fst | refine CanonP.of (by with_reducible assumption) ?_)
    | split
    | (with_reducible apply Canon.ofMk; with_reducible refine Canon.parts ?_)

theorem Canon.on_execCommitAbort {s : State} (h : Canon z s) (e : Fin 16) : CanonX z (execCommitAbort e s) := by
  unfold execCommitAbort
  repeat' first
    | (with_reducible first | assumption | apply CanonX.next | refine Canon.process ?_ _ _ (fun _ => ?_)
                            | refine Canon.processWhen ?_ _ _ _ (fun _ => ?_) | apply Canon.opCommit
                            | apply CanonP.fst | refine CanonP.of (by with_reducible assumption) ?_)
    | split
    | (with_reducible apply Canon.ofMk; with_reducible refine Canon.parts ?_)

theorem Canon.on_execBankFlip {s : State} (h : Canon z s) (e : Fin 16) : CanonX z (execBankFlip e s) := by
  unfold execBankFlip
  repeat' first
    | (with_reducible first | assumption | apply CanonX.next | refine Canon.process ?_ _ _ (fun _ => ?_)
                            | refine Canon.processWhen ?_ _ _ _ (fun _ => ?_) | apply Canon.opFlip | apply CanonP.fst
                            | refine CanonP.of (by with_reducible assumption) ?_)
    | split
    | (with_reducible apply Canon.ofMk; with_reducible refine Canon.parts ?_)

theorem Canon.on_execBankFlipAbort {s : State} (h : Canon z s) (e : Fin 16) : CanonX z (execBankFlipAbort e s) := by
  unfold execBankFlipAbort
  repeat' first
    | (with_reducible first | assumption | apply CanonX.next | refine Canon.process ?_ _ _ (fun _ => ?_)
                            | refine Canon.processWhen ?_ _ _ _ (fun _ => ?_) | apply Canon.opFlip | apply CanonP.fst
                            | refine CanonP.of (by with_reducible assumption) ?_)
    | split
    | (with_reducible apply Canon.ofMk; with_reducible refine Canon.parts ?_)

theorem Canon.on_execAlloc {s : State} (h : Canon z s) (e : Fin 16) : CanonX z (execAlloc e s) := by
  unfold execAlloc
  repeat' first
    | (with_reducible first | assumption | apply CanonX.next | refine Canon.process ?_ _ _ (fun _ => ?_)
                            | refine Canon.processWhen ?_ _ _ _ (fun _ => ?_) | apply Canon.opAlloc | apply CanonP.fst
                            | refine CanonP.of (by with_reducible assumption) ?_)
    | split
    | (with_reducible apply Canon.ofMk; with_reducible refine Canon.parts ?_)

theorem Canon.on_execGraphicLoad {s : State} (h : Canon z s) (e : Fin 16) : CanonX z (execGraphicLoad e s) := by
  unfold execGraphicLoad
  repeat' first
    | (with_reducible first | assumption | apply CanonX.next | refine Canon.process ?_ _ _ (fun _ => ?_)
                            | refine Canon.processWhen ?_ _ _ _ (fun _ => ?_) | apply Canon.opGraphic
                            | apply CanonP.fst | refine CanonP.of (by with_reducible assumption) ?_)
    | split
    | (with_reducible apply Canon.ofMk; with_reducible refine Canon.parts ?_)

theorem Canon.on_execAncInsert {s : State} (h : Canon z s) (e : Fin 16) : CanonX z (execAncInsert e s) := by
  unfold execAncInsert
  repeat' first
    | (with_reducible first | assumption | apply CanonX.next | refine Canon.process ?_ _ _ (fun _ => ?_)
                            | refine Canon.processWhen ?_ _ _ _ (fun _ => ?_) | apply Canon.opInsert
                            | apply CanonP.fst | refine CanonP.of (by with_reducible assumption) ?_)
    | split
    | (with_reducible apply Canon.ofMk; with_reducible refine Canon.parts ?_)

theorem Canon.on_execFlowAdd {s : State} (h : Canon z s) (e : Fin 16) : CanonX z (execFlowAdd e s) := by
  unfold execFlowAdd
  repeat' first
    | (with_reducible first | assumption | apply CanonX.next | refine Canon.process ?_ _ _ (fun _ => ?_)
                            | refine Canon.processWhen ?_ _ _ _ (fun _ => ?_) | apply Canon.opFlowAdd
                            | apply CanonP.fst | refine CanonP.of (by with_reducible assumption) ?_)
    | split
    | (with_reducible apply Canon.ofMk; with_reducible refine Canon.parts ?_)

theorem Canon.on_execFlowDel {s : State} (h : Canon z s) (e : Fin 16) : CanonX z (execFlowDel e s) := by
  unfold execFlowDel
  repeat' first
    | (with_reducible first | assumption | apply CanonX.next | refine Canon.process ?_ _ _ (fun _ => ?_)
                            | refine Canon.processWhen ?_ _ _ _ (fun _ => ?_) | apply Canon.opFlowDel
                            | apply CanonP.fst | refine CanonP.of (by with_reducible assumption) ?_)
    | split
    | (with_reducible apply Canon.ofMk; with_reducible refine Canon.parts ?_)

theorem Canon.on_execProbeLoad {s : State} (h : Canon z s) (e : Fin 16) : CanonX z (execProbeLoad e s) := by
  unfold execProbeLoad
  repeat' first
    | (with_reducible first | assumption | apply CanonX.next | refine Canon.process ?_ _ _ (fun _ => ?_)
                            | refine Canon.processWhen ?_ _ _ _ (fun _ => ?_) | apply Canon.opProbeLoad
                            | apply CanonP.fst | refine CanonP.of (by with_reducible assumption) ?_)
    | split
    | (with_reducible apply Canon.ofMk; with_reducible refine Canon.parts ?_)

theorem Canon.on_execProbeStart {s : State} (h : Canon z s) (e : Fin 16) : CanonX z (execProbeStart e s) := by
  unfold execProbeStart
  repeat' first
    | (with_reducible first | assumption | apply CanonX.next | refine Canon.process ?_ _ _ (fun _ => ?_)
                            | refine Canon.processWhen ?_ _ _ _ (fun _ => ?_) | apply Canon.opProbeCtl
                            | apply CanonP.fst | refine CanonP.of (by with_reducible assumption) ?_)
    | split
    | (with_reducible apply Canon.ofMk; with_reducible refine Canon.parts ?_)

theorem Canon.on_execProbeStop {s : State} (h : Canon z s) (e : Fin 16) : CanonX z (execProbeStop e s) := by
  unfold execProbeStop
  repeat' first
    | (with_reducible first | assumption | apply CanonX.next | refine Canon.process ?_ _ _ (fun _ => ?_)
                            | refine Canon.processWhen ?_ _ _ _ (fun _ => ?_) | apply Canon.opProbeCtl
                            | apply CanonP.fst | refine CanonP.of (by with_reducible assumption) ?_)
    | split
    | (with_reducible apply Canon.ofMk; with_reducible refine Canon.parts ?_)

theorem Canon.on_execProbeReset {s : State} (h : Canon z s) (e : Fin 16) : CanonX z (execProbeReset e s) := by
  unfold execProbeReset
  repeat' first
    | (with_reducible first | assumption | apply CanonX.next | refine Canon.process ?_ _ _ (fun _ => ?_)
                            | refine Canon.processWhen ?_ _ _ _ (fun _ => ?_) | apply Canon.opProbeCtl
                            | apply CanonP.fst | refine CanonP.of (by with_reducible assumption) ?_)
    | split
    | (with_reducible apply Canon.ofMk; with_reducible refine Canon.parts ?_)

theorem Canon.on_execProbeResetStart {s : State} (h : Canon z s) (e : Fin 16) :
    CanonX z (execProbeResetStart e s) := by
  unfold execProbeResetStart
  repeat' first
    | (with_reducible first | assumption | apply CanonX.next | refine Canon.process ?_ _ _ (fun _ => ?_)
                            | refine Canon.processWhen ?_ _ _ _ (fun _ => ?_) | apply Canon.opProbeCtl
                            | apply CanonP.fst | refine CanonP.of (by with_reducible assumption) ?_)
    | split
    | (with_reducible apply Canon.ofMk; with_reducible refine Canon.parts ?_)

theorem Canon.on_execTimeQuery {s : State} (h : Canon z s) (e : Fin 16) : CanonX z (execTimeQuery e s) := by
  unfold execTimeQuery
  repeat' first
    | (with_reducible first | assumption | apply CanonX.next | refine Canon.process ?_ _ _ (fun _ => ?_)
                            | refine Canon.processWhen ?_ _ _ _ (fun _ => ?_) | apply Canon.opTimeQuery
                            | apply CanonP.fst | refine CanonP.of (by with_reducible assumption) ?_)
    | split
    | (with_reducible apply Canon.ofMk; with_reducible refine Canon.parts ?_)

theorem Canon.on_execAcceptStep {s : State} (h : Canon z s) (e : Fin 16) : CanonX z (execAcceptStep e s) := by
  unfold execAcceptStep
  repeat' first
    | (with_reducible first | assumption | apply CanonX.next | refine Canon.process ?_ _ _ (fun _ => ?_)
                            | refine Canon.processWhen ?_ _ _ _ (fun _ => ?_) | apply Canon.opAcceptStep
                            | apply CanonP.fst | refine CanonP.of (by with_reducible assumption) ?_)
    | split
    | (with_reducible apply Canon.ofMk; with_reducible refine Canon.parts ?_)

theorem Canon.park {s : State} (h : Canon z s) (e : Nat) (r : Request) (f : RingRun → RingRun) :
    Canon z (State.park s e r f) := by
  unfold State.park
  repeat' first
    | (with_reducible first | assumption | apply Canon.setRing | apply Canon.place | apply Canon.freeEngine)
    | split
    | (with_reducible apply Canon.ofMk; with_reducible refine Canon.parts ?_)

theorem Canon.on_execFence {s : State} (h : Canon z s) (e : Fin 16) : CanonX z (execFence e s) := by
  unfold execFence
  repeat' first
    | (with_reducible first | assumption | apply Canon.ite | apply CanonX.ite | apply CanonX.next | apply Canon.finish
                            | apply Canon.park)
    | split
    | (with_reducible apply Canon.ofMk; with_reducible refine Canon.parts ?_)
    | dsimp only

theorem Canon.on_execFenceMet {s : State} (h : Canon z s) (p : Fin 8) (k : Fin 64) :
    CanonX z (execFenceMet p k s) := by
  unfold execFenceMet
  repeat' first
    | (with_reducible first | assumption | apply Canon.ite | apply CanonX.ite | apply CanonX.next
                            | apply Canon.complete)
    | split
    | (with_reducible apply Canon.ofMk; with_reducible refine Canon.parts ?_)

theorem Canon.fenceTimeout {s : State} (h : Canon z s) (p k : Nat) : Canon z (State.fenceTimeout s p k) := by
  unfold State.fenceTimeout
  repeat' first
    | (with_reducible first | assumption | apply Canon.ite | apply Canon.complete)
    | split
    | (with_reducible apply Canon.ofMk; with_reducible refine Canon.parts ?_)

theorem Canon.on_execThumbCapture {s : State} (h : Canon z s) (e : Fin 16) : CanonX z (execThumbCapture e s) := by
  unfold execThumbCapture
  repeat' first
    | (with_reducible first | assumption | apply Canon.ite | apply CanonX.ite | apply CanonX.next | apply Canon.finish
                            | apply Canon.park)
    | split
    | (with_reducible apply Canon.ofMk; with_reducible refine Canon.parts ?_)
    | dsimp only

theorem Canon.on_execThumbCaptureDone {s : State} (h : Canon z s) (p : Fin 8) (k : Fin 64) (fail : Option (BitVec 64)) :
    CanonX z (execThumbCaptureDone p k fail s) := by
  unfold execThumbCaptureDone
  repeat' first
    | (with_reducible first | assumption | apply Canon.ite | apply CanonX.ite | apply CanonX.next | apply Canon.place
                            | apply Canon.hostFault | apply Canon.complete)
    | split
    | (with_reducible apply Canon.ofMk; with_reducible refine Canon.parts ?_)

theorem CanonO.getD {o : Option State} {s : State} (ho : CanonO z o) (h : Canon z s) : Canon z (o.getD s) := by
  cases o with
  | none => exact h
  | some t => exact ho t rfl

/-- The state of a pair, if there is one, is canonical. -/
def CanonOP (z : State) {α : Type} (o : Option (State × α)) : Prop := ∀ t a, o = Option.some (t, a) → Canon z t

theorem CanonOP.none {α : Type} : CanonOP z (α := α) Option.none := fun _ _ e => nomatch e
theorem CanonOP.some {α : Type} {s : State} (h : Canon z s) (a : α) : CanonOP z (Option.some (s, a)) :=
  fun _ _ e => (Prod.mk.inj (Option.some.inj e)).1 ▸ h
theorem CanonOP.ite {α : Type} {c : Prop} [Decidable c] {a b : Option (State × α)} (ha : CanonOP z a) (hb : CanonOP z b) :
    CanonOP z (if c then a else b) := by
  split <;> assumption

theorem Canon.drainQueue {s : State} (h : Canon z s) (r : Request) (q : Nat) : CanonOP z (State.drainQueue s r q) := by
  unfold State.drainQueue
  have h1 : Canon z (if bitAt (r.word 6) 1 then (s.ancRewind q).getD s else s) :=
    Canon.ite (CanonO.getD (h.ancRewind q) h) h
  dsimp only
  revert h1
  generalize (if bitAt (r.word 6) 1 then (s.ancRewind q).getD s else s) = t
  intro h1
  have h2 : Canon z (if bitAt (r.word 6) 0 then t.ancMark q else t) := Canon.ite (h1.ancMark q) h1
  revert h2
  generalize (if bitAt (r.word 6) 0 then t.ancMark q else t) = u
  intro h2
  refine CanonOP.ite (CanonOP.some h2 _) (CanonOP.ite CanonOP.none (CanonOP.some ?_ _))
  exact Canon.ite ((h2.ancRead _ _).ancRelease _) (h2.ancRead _ _)

theorem Canon.opDrain {s : State} (h : Canon z s) (r : Request) : CanonP z (State.opDrain s r) := by
  unfold State.opDrain
  dsimp only
  generalize State.entryChecks s r _ _ = e
  cases e with
  | some d => exact CanonP.mk h _
  | none =>
    refine CanonP.ite (CanonP.mk h _) (CanonP.ite (CanonP.mk h _) (CanonP.ite (CanonP.mk h _) ?_))
    cases e : s.drainQueue r (bitField (r.word 5) 0 8) with
    | none => exact CanonP.mk h _
    | some p =>
      obtain ⟨t, ps⟩ := p
      exact CanonP.mk (Canon.drainQueue h _ _ t ps e) _

theorem Canon.deliverData {s : State} (h : Canon z s) (e : Nat) (r : Request) (d : Done) (bs : List Byte) (bad : Option (BitVec 64)) :
    Canon z (State.deliverData s e r d bs bad) := by
  unfold State.deliverData
  repeat' first
    | (with_reducible first | assumption | apply Canon.ite | apply Canon.finish | apply Canon.hostFault
                            | apply Canon.dataToHost)
    | split
    | (with_reducible apply Canon.ofMk; with_reducible refine Canon.parts ?_)

theorem Canon.on_execAncDrain {s : State} (h : Canon z s) (e : Fin 16) (fail : Option (BitVec 64)) :
    CanonX z (execAncDrain e fail s) := by
  unfold execAncDrain
  repeat' first
    | (with_reducible first | assumption | apply CanonX.next | apply Canon.opDrain | apply Canon.deliverData
                            | apply CanonP.fst | refine CanonP.of (by with_reducible assumption) ?_)
    | split
    | (with_reducible apply Canon.ofMk; with_reducible refine Canon.parts ?_)
    | dsimp only

end Sys2Proof.Machine
end

