-- ==== Sys2Proof/Laws/CanonPairMsg.lean ====
section
/-! SUPPORT. The operations of Machine/PairMsg.lean keep the canonical form of a state. -/

namespace Sys2Proof.Machine
open Reg

variable {z : State}

theorem Canon.receive {s : State} (h : Canon z s) {f : State → State} (hf : ∀ t, Canon z t → Canon z (f t)) :
    Canon z (State.receive s f) := Canon.ite (hf s h) h

theorem Canon.hear {s : State} (h : Canon z s) {f : State → State} (hf : ∀ t, Canon z t → Canon z (f t)) :
    Canon z (State.hear s f) := Canon.ite (hf s h) h

theorem Canon.took {s : State} (h : Canon z s) (mseq : Nat) : Canon z (State.took s mseq) := by
  unfold State.took
  repeat' first
    | (with_reducible first | assumption | apply Canon.setCway)
    | split
    | (with_reducible apply Canon.ofMk; with_reducible refine Canon.parts ?_)
    | dsimp only

theorem Canon.receive3 {s : State} (h : Canon z s) (ty mseq : Nat) {f : State → State} (hf : ∀ t, Canon z t → Canon z (f t)) :
    Canon z (State.receive3 s ty mseq f) := by
  unfold State.receive3
  have h1 : Canon z (s.took mseq) := h
  repeat' first
    | with_reducible assumption
    | with_reducible exact hf _ h1
    | with_reducible apply Canon.ite
    | with_reducible apply Canon.send
    | with_reducible apply Canon.setCway

theorem Canon.resend {s : State} (h : Canon z s) : Canon z (State.resend s) := by
  unfold State.resend
  repeat' first
    | (with_reducible first | assumption | refine Canon.each _ ?_ (fun _ _ _ => ?_) | apply Canon.putMsg
                            | apply Canon.addFld)
    | split
    | (with_reducible apply Canon.ofMk; with_reducible refine Canon.parts ?_)

theorem Canon.acknowledge {s : State} (h : Canon z s) (next : Nat) : Canon z (State.acknowledge s next) := by
  unfold State.acknowledge
  repeat' first
    | (with_reducible first | assumption | apply Canon.ite | apply Canon.setCway)
    | split
    | (with_reducible apply Canon.ofMk; with_reducible refine Canon.parts ?_)
    | dsimp only

theorem Canon.toHeld {s : State} (h : Canon z s) (cause : Nat) : Canon z (State.toHeld s cause) := by
  unfold State.toHeld
  repeat' first
    | (with_reducible first | assumption | apply Canon.ite | apply Canon.enterRole)
    | split
    | (with_reducible apply Canon.ofMk; with_reducible refine Canon.parts ?_)

theorem Canon.sendHealth {s : State} (h : Canon z s) : Canon z (State.sendHealth s) := by
  unfold State.sendHealth
  repeat' first
    | (with_reducible first | assumption | refine Canon.each _ ?_ (fun _ _ _ => ?_) | apply Canon.setFld
                            | apply Canon.setCway | apply Canon.send)
    | split
    | (with_reducible apply Canon.ofMk; with_reducible refine Canon.parts ?_)
    | dsimp only

theorem Canon.startHandover {s : State} (h : Canon z s) (part t : Nat) :
    CanonP z (State.startHandover s part t) := by
  unfold State.startHandover
  repeat' first
    | (with_reducible first | assumption | apply Canon.takeSeq | apply Canon.setHandovers | apply Canon.send)
    | split
    | with_reducible refine CanonP.mk ?_ _
    | (with_reducible apply Canon.ofMk; with_reducible refine Canon.parts ?_)
    | dsimp only

theorem Canon.autoYield {s : State} (h : Canon z s) : Canon z (State.autoYield s) := by
  unfold State.autoYield
  repeat' first
    | (with_reducible first | assumption | apply Canon.ite | apply Canon.startHandover | apply CanonP.fst
                            | refine CanonP.of (by with_reducible assumption) ?_)
    | split
    | (with_reducible apply Canon.ofMk; with_reducible refine Canon.parts ?_)

theorem Canon.refreshReady {s : State} (h : Canon z s) : Canon z (State.refreshReady s) := by
  unfold State.refreshReady
  repeat' first
    | (with_reducible first | assumption | apply Canon.ite | apply Canon.setFld | apply Canon.sendHealth
                            | apply Canon.enterRole | apply Canon.autoYield)
    | split
    | (with_reducible apply Canon.ofMk; with_reducible refine Canon.parts ?_)
    | dsimp only

theorem Canon.join {s : State} (h : Canon z s) : Canon z (State.join s) := by
  unfold State.join
  repeat' first
    | (with_reducible first | assumption | apply Canon.enterRole)
    | split
    | (with_reducible apply Canon.ofMk; with_reducible refine Canon.parts ?_)

theorem Canon.winToken {s : State} (h : Canon z s) : Canon z (State.winToken s) := by
  unfold State.winToken
  repeat' first
    | (with_reducible first | assumption | apply Canon.ite | apply Canon.join | apply Canon.enterRole)
    | split
    | (with_reducible apply Canon.ofMk; with_reducible refine Canon.parts ?_)

theorem Canon.initSettle {s : State} (h : Canon z s) : Canon z (State.initSettle s) := by
  unfold State.initSettle
  repeat' first
    | (with_reducible first | assumption | apply Canon.ite | apply Canon.join)
    | split
    | (with_reducible apply Canon.ofMk; with_reducible refine Canon.parts ?_)

theorem Canon.unseePeer {s : State} (h : Canon z s) (why : Nat) : Canon z (State.unseePeer s why) := by
  unfold State.unseePeer
  repeat' first
    | (with_reducible first | assumption | refine Canon.when _ ?_ (fun _ _ => ?_) | apply Canon.setCway
                            | apply Canon.setFld | apply Canon.raise | apply Canon.enterRole)
    | split
    | (with_reducible apply Canon.ofMk; with_reducible refine Canon.parts ?_)
    | dsimp only

theorem Canon.peerSettle {s : State} (h : Canon z s) : Canon z (State.peerSettle s) := by
  unfold State.peerSettle
  repeat' first
    | (with_reducible first | assumption | apply Canon.ite | apply Canon.unseePeer | apply Canon.enterRole)
    | split
    | (with_reducible apply Canon.ofMk; with_reducible refine Canon.parts ?_)
    | dsimp only

theorem Canon.ackCopied {s : State} (h : Canon z s) : Canon z (State.ackCopied s) := by
  unfold State.ackCopied
  repeat' first
    | (with_reducible first | assumption | refine Canon.each _ ?_ (fun _ _ _ => ?_)
                            | refine Canon.when _ ?_ (fun _ _ => ?_) | apply Canon.updTake | apply Canon.send)
    | split
    | (with_reducible apply Canon.ofMk; with_reducible refine Canon.parts ?_)
    | dsimp only

theorem Canon.pairSettle {s : State} (h : Canon z s) : Canon z (State.pairSettle s) := by
  unfold State.pairSettle
  repeat' first
    | (with_reducible first | assumption | apply Canon.peerSettle | apply Canon.ackCopied | apply Canon.joinDone)
    | split
    | (with_reducible apply Canon.ofMk; with_reducible refine Canon.parts ?_)

theorem Canon.dropDigests {s : State} (h : Canon z s) : Canon z (State.dropDigests s) := by
  unfold State.dropDigests
  repeat' first
    | (with_reducible first | assumption | apply Canon.setCway | apply Canon.addFld)
    | split
    | (with_reducible apply Canon.ofMk; with_reducible refine Canon.parts ?_)
    | dsimp only

theorem Canon.startKatPass {s : State} (h : Canon z s) : Canon z (State.startKatPass s) := by
  unfold State.startKatPass
  repeat' first
    | (with_reducible first | assumption | apply Canon.ite | apply Canon.setCway)
    | split
    | (with_reducible apply Canon.ofMk; with_reducible refine Canon.parts ?_)
    | dsimp only

theorem Canon.bothFail {s : State} (h : Canon z s) (i : Nat) : Canon z (State.bothFail s i) := by
  unfold State.bothFail
  repeat' first
    | (with_reducible first | assumption | refine Canon.when _ ?_ (fun _ _ => ?_) | apply Canon.raise)
    | split
    | (with_reducible apply Canon.ofMk; with_reducible refine Canon.parts ?_)

theorem Canon.checkDiverged {s : State} (h : Canon z s) : Canon z (State.checkDiverged s) := by
  unfold State.checkDiverged
  repeat' first
    | (with_reducible first | assumption | apply Canon.ite | apply Canon.raise | apply Canon.toHeld)
    | split
    | (with_reducible apply Canon.ofMk; with_reducible refine Canon.parts ?_)
    | dsimp only

theorem Canon.katDone {s : State} (h : Canon z s) (i : Nat) (pass : Bool) : Canon z (State.katDone s i pass) := by
  unfold State.katDone
  repeat' first
    | (with_reducible first | assumption | apply Canon.ite | apply Canon.setCway | apply Canon.checkDiverged
                            | apply Canon.bothFail | apply Canon.refreshReady)
    | split
    | (with_reducible apply Canon.ofMk; with_reducible refine Canon.parts ?_)
    | dsimp only

end Sys2Proof.Machine
end

