-- ==== Sys2Proof/Laws/CanonDest.lean ====
section
/-! SUPPORT. The operations of Machine/Dest.lean keep the canonical form of a state. -/

namespace Sys2Proof.Machine
open Reg

variable {z : State}

theorem Canon.enableDst {s : State} (h : Canon z s) (d : Nat) : Canon z (State.enableDst s d) := by
  unfold State.enableDst
  repeat' first
    | (with_reducible first | assumption | apply Canon.ite | apply Canon.setFld | apply Canon.setDstRun
                            | apply Canon.bindTx)
    | split
    | (with_reducible apply Canon.ofMk; with_reducible refine Canon.parts ?_)
    | dsimp only

theorem Canon.disableDst {s : State} (h : Canon z s) (d : Nat) : Canon z (State.disableDst s d) := by
  unfold State.disableDst
  repeat' first
    | (with_reducible first | assumption | apply Canon.ite | apply Canon.setFld | apply Canon.setDstRun)
    | split
    | (with_reducible apply Canon.ofMk; with_reducible refine Canon.parts ?_)
    | dsimp only

theorem Canon.dstLead {s : State} (h : Canon z s) (d : Nat) : Canon z (State.dstLead s d) := by
  unfold State.dstLead
  repeat' first
    | (with_reducible first | assumption | apply Canon.ite | apply Canon.setDstRun)
    | split
    | (with_reducible apply Canon.ofMk; with_reducible refine Canon.parts ?_)
    | dsimp only

theorem Canon.cmpLead {s : State} (h : Canon z s) (c : Nat) : Canon z (State.cmpLead s c) := by
  unfold State.cmpLead
  repeat' first
    | (with_reducible first | assumption | apply Canon.ite | apply Canon.setCmpRun)
    | split
    | (with_reducible apply Canon.ofMk; with_reducible refine Canon.parts ?_)
    | dsimp only

theorem Canon.writePlane {s : State} (h : Canon z s) (p v : Nat) : Canon z (State.writePlane s p v) := by
  unfold State.writePlane
  repeat' first
    | (with_reducible first | assumption | apply Canon.ite | apply Canon.putFld | apply Canon.setPlaneRun)
    | split
    | (with_reducible apply Canon.ofMk; with_reducible refine Canon.parts ?_)
    | dsimp only

theorem Canon.writeOffset {s : State} (h : Canon z s) (p v : Nat) : Canon z (State.writeOffset s p v) := by
  unfold State.writeOffset
  repeat' first
    | (with_reducible first | assumption | apply Canon.ite | apply Canon.setFld | apply Canon.setPlaneRun)
    | split
    | (with_reducible apply Canon.ofMk; with_reducible refine Canon.parts ?_)
    | dsimp only

theorem Canon.writePairEn {s : State} (h : Canon z s) (v : Nat) : Canon z (State.writePairEn s v) := by
  unfold State.writePairEn
  repeat' first
    | (with_reducible first | assumption | apply Canon.ite | apply Canon.setFld | apply Canon.enterRole)
    | split
    | (with_reducible apply Canon.ofMk; with_reducible refine Canon.parts ?_)
    | dsimp only

end Sys2Proof.Machine
end

