-- ==== Sys2Proof/Laws/CanonStanding.lean ====
section
/-! SUPPORT. The operations of Machine/Standing.lean keep the canonical form of a state. -/

namespace Sys2Proof.Machine
open Reg

variable {z : State}

theorem Canon.faultSettle {s : State} (h : Canon z s) : Canon z (State.faultSettle s) := by
  unfold State.faultSettle
  repeat' first
    | (with_reducible first | assumption | refine Canon.upTo _ ?_ (fun _ _ _ => ?_)
                            | refine Canon.when _ ?_ (fun _ _ => ?_) | apply Canon.setFld)
    | split
    | (with_reducible apply Canon.ofMk; with_reducible refine Canon.parts ?_)

theorem Canon.ackFault {s : State} (h : Canon z s) (i : Nat) : Canon z (State.ackFault s i) := by
  unfold State.ackFault
  repeat' first
    | (with_reducible first | assumption | apply Canon.ite | apply Canon.setFld)
    | split
    | (with_reducible apply Canon.ofMk; with_reducible refine Canon.parts ?_)

theorem Canon.safeSettle {s : State} (h : Canon z s) : Canon z (State.safeSettle s) := by
  unfold State.safeSettle
  repeat' first
    | (with_reducible first | assumption | apply Canon.ite | apply Canon.reachSafe)
    | split
    | (with_reducible apply Canon.ofMk; with_reducible refine Canon.parts ?_)

end Sys2Proof.Machine
end

