-- ==== Sys2Proof/Laws/CanonRegWrite.lean ====
section
/-! SUPPORT. The operations of Machine/RegWrite.lean keep the canonical form of a state. -/

namespace Sys2Proof.Machine
open Reg

variable {z : State}

theorem Canon.putWord {s : State} (h : Canon z s) (fs : List (Field × Nat × Nat)) (v : Nat) (keep : Field → Bool) :
    Canon z (State.putWord s fs v keep) := by
  unfold State.putWord
  repeat' first
    | (with_reducible first | assumption | apply Canon.ite | refine Canon.each _ ?_ (fun _ _ _ => ?_)
                            | apply Canon.putFld | apply Canon.setFld)
    | split
    | (with_reducible apply Canon.ofMk; with_reducible refine Canon.parts ?_)

theorem Canon.putRwl {s : State} (h : Canon z s) (fs : List (Field × Nat × Nat)) (v : Nat) (locked : Bool) :
    Canon z (State.putRwl s fs v locked) := by
  unfold State.putRwl
  repeat' first
    | (with_reducible first | assumption | apply Canon.ite | refine Canon.each _ ?_ (fun _ _ _ => ?_)
                            | apply Canon.putFld)
    | split
    | (with_reducible apply Canon.ofMk; with_reducible refine Canon.parts ?_)

theorem Canon.writeGlb {s : State} (h : Canon z s) (fs : RegFields) (off v : Nat) :
    Canon z (State.writeGlb s fs off v) := by
  unfold State.writeGlb
  repeat' first
    | (with_reducible first | assumption | apply Canon.ite | apply Canon.warmReset | apply Canon.putWord)
    | split
    | (with_reducible apply Canon.ofMk; with_reducible refine Canon.parts ?_)

theorem Canon.writeRingCtl {s : State} (h : Canon z s) (p k v : Nat) : Canon z (State.writeRingCtl s p k v) := by
  unfold State.writeRingCtl
  repeat' first
    | (with_reducible first | assumption | apply Canon.ite | refine Canon.when _ ?_ (fun _ _ => ?_)
                            | apply Canon.setFld | apply Canon.enableRing | apply Canon.disableRing)
    | split
    | (with_reducible apply Canon.ofMk; with_reducible refine Canon.parts ?_)
    | dsimp only

theorem Canon.writeEvtRingCtl {s : State} (h : Canon z s) (p e v : Nat) :
    Canon z (State.writeEvtRingCtl s p e v) := by
  unfold State.writeEvtRingCtl
  repeat' first
    | (with_reducible first | assumption | apply Canon.ite | refine Canon.when _ ?_ (fun _ _ => ?_)
                            | apply Canon.setFld | apply Canon.enableEvtRing | apply Canon.disableEvtRing)
    | split
    | (with_reducible apply Canon.ofMk; with_reducible refine Canon.parts ?_)
    | dsimp only

theorem Canon.writeRing {s : State} (h : Canon z s) (fs : RegFields) (p k rel v : Nat) :
    Canon z (State.writeRing s fs p k rel v) := by
  unfold State.writeRing
  repeat' first
    | (with_reducible first | assumption | apply Canon.ite | apply Canon.putWord | apply Canon.writeRingCtl
                            | apply Canon.clearHostFault)
    | split
    | (with_reducible apply Canon.ofMk; with_reducible refine Canon.parts ?_)

theorem Canon.writeEvtRing {s : State} (h : Canon z s) (fs : RegFields) (p e rel v : Nat) :
    Canon z (State.writeEvtRing s fs p e rel v) := by
  unfold State.writeEvtRing
  repeat' first
    | (with_reducible first | assumption | apply Canon.ite | apply Canon.putWord | apply Canon.writeEvtRingCtl
                            | apply Canon.clearHostFault)
    | split
    | (with_reducible apply Canon.ofMk; with_reducible refine Canon.parts ?_)

theorem Canon.writePcbCtl {s : State} (h : Canon z s) (w p v : Nat) : Canon z (State.writePcbCtl s w p v) := by
  unfold State.writePcbCtl
  repeat' first
    | (with_reducible first | assumption | refine Canon.when _ ?_ (fun _ _ => ?_) | apply Canon.writeEnable
                            | apply Canon.writeRevoke | apply Canon.partReset)
    | split
    | (with_reducible apply Canon.ofMk; with_reducible refine Canon.parts ?_)
    | dsimp only

theorem Canon.writePcb {s : State} (h : Canon z s) (fs : RegFields) (w p rel v : Nat) :
    Canon z (State.writePcb s fs w p rel v) := by
  unfold State.writePcb
  repeat' first
    | (with_reducible first | assumption | apply Canon.ite | apply Canon.writePcbCtl | apply Canon.putWord
                            | apply Canon.writeLease | apply Canon.beat | apply Canon.writeClaim
                            | apply Canon.rearmError | apply Canon.writeRing | apply Canon.writeEvtRing
                            | apply Canon.discardBank)
    | split
    | (with_reducible apply Canon.ofMk; with_reducible refine Canon.parts ?_)

theorem Canon.writeCmdeng {s : State} (h : Canon z s) (fs : RegFields) (e rel v : Nat) :
    Canon z (State.writeCmdeng s fs e rel v) := by
  unfold State.writeCmdeng
  repeat' first
    | (with_reducible first | assumption | apply Canon.ite | refine Canon.when _ ?_ (fun _ _ => ?_)
                            | apply Canon.writeFreeze | apply Canon.engineReset | apply Canon.putWord
                            | apply Canon.checkStuck | apply Canon.seedLfsr)
    | split
    | (with_reducible apply Canon.ofMk; with_reducible refine Canon.parts ?_)

theorem Canon.writeFlt {s : State} (h : Canon z s) (fs : RegFields) (rel v : Nat) :
    Canon z (State.writeFlt s fs rel v) := by
  unfold State.writeFlt
  repeat' first
    | (with_reducible first | assumption | apply Canon.ite | apply Canon.ackFault | apply Canon.writeSev
                            | apply Canon.putWord)
    | split
    | (with_reducible apply Canon.ofMk; with_reducible refine Canon.parts ?_)

theorem Canon.writeRefReg {s : State} (h : Canon z s) (fs : RegFields) (v : Nat) :
    Canon z (State.writeRefReg s fs v) := by
  unfold State.writeRefReg
  repeat' first
    | (with_reducible first | assumption | apply Canon.ite | refine Canon.each _ ?_ (fun _ _ _ => ?_)
                            | apply Canon.putWord | apply Canon.refWritten)
    | split
    | (with_reducible apply Canon.ofMk; with_reducible refine Canon.parts ?_)

theorem Canon.writePlaneReg {s : State} (h : Canon z s) (fs : RegFields) (v : Nat) :
    Canon z (State.writePlaneReg s fs v) := by
  unfold State.writePlaneReg
  repeat' first
    | (with_reducible first | assumption | apply Canon.ite | apply Canon.writePlane | apply Canon.writeOffset
                            | apply Canon.putWord)
    | split
    | (with_reducible apply Canon.ofMk; with_reducible refine Canon.parts ?_)

theorem Canon.writeTime {s : State} (h : Canon z s) (fs : RegFields) (rel v : Nat) :
    Canon z (State.writeTime s fs rel v) := by
  unfold State.writeTime
  repeat' first
    | (with_reducible first | assumption | apply Canon.ite | apply Canon.setGo | apply Canon.writeRefReg
                            | apply Canon.writePlaneReg | apply Canon.putWord | apply Canon.audioSource)
    | split
    | (with_reducible apply Canon.ofMk; with_reducible refine Canon.parts ?_)

theorem Canon.writeClk {s : State} (h : Canon z s) (fs : RegFields) (rel v : Nat) :
    Canon z (State.writeClk s fs rel v) := by
  unfold State.writeClk
  repeat' first
    | (with_reducible first | assumption | apply Canon.ite | apply Canon.putWord | apply Canon.writeMonEn)
    | split
    | (with_reducible apply Canon.ofMk; with_reducible refine Canon.parts ?_)

theorem Canon.writePwr' {s : State} (h : Canon z s) (rel v : Nat) : Canon z (State.writePwr' s rel v) := by
  unfold State.writePwr'
  repeat' first
    | (with_reducible first | assumption | apply Canon.ite | refine Canon.when _ ?_ (fun _ _ => ?_)
                            | apply Canon.writeReq | apply Canon.writeIslRst)
    | split
    | (with_reducible apply Canon.ofMk; with_reducible refine Canon.parts ?_)
    | dsimp only

theorem Canon.writeListEntry {s : State} (h : Canon z s) (ofs val : Option Nat) :
    Canon z (State.writeListEntry s ofs val) := by
  unfold State.writeListEntry
  repeat' first
    | (with_reducible first | assumption)
    | split
    | (with_reducible apply Canon.ofMk; with_reducible refine Canon.parts ?_)
    | dsimp only

theorem Canon.writeBoot {s : State} (h : Canon z s) (fs : RegFields) (rel v : Nat) :
    Canon z (State.writeBoot s fs rel v) := by
  unfold State.writeBoot
  repeat' first
    | (with_reducible first | assumption | apply Canon.ite | apply Canon.writeFlData | apply Canon.flashCmd
                            | apply Canon.writeListEntry | apply Canon.writeFuseKey | apply Canon.blowDbg
                            | apply Canon.putWord)
    | split
    | (with_reducible apply Canon.ofMk; with_reducible refine Canon.parts ?_)

theorem Canon.writeCway {s : State} (h : Canon z s) (fs : RegFields) (rel v : Nat) :
    Canon z (State.writeCway s fs rel v) := by
  unfold State.writeCway
  repeat' first
    | (with_reducible first | assumption | apply Canon.ite | apply Canon.putWord | apply Canon.writePairEn)
    | split
    | (with_reducible apply Canon.ofMk; with_reducible refine Canon.parts ?_)

theorem Canon.writeTowpath {s : State} (h : Canon z s) (fs : RegFields) (b rel v : Nat) :
    Canon z (State.writeTowpath s fs b rel v) := by
  unfold State.writeTowpath
  repeat' first
    | (with_reducible first | assumption | apply Canon.ite | refine Canon.when _ ?_ (fun _ _ => ?_)
                            | apply Canon.writeTow | apply Canon.towGo | apply Canon.towFlush | apply Canon.towPop
                            | apply Canon.putWord)
    | split
    | (with_reducible apply Canon.ofMk; with_reducible refine Canon.parts ?_)
    | dsimp only

theorem Canon.writeAud {s : State} (h : Canon z s) (fs : RegFields) (rel v : Nat) :
    Canon z (State.writeAud s fs rel v) := by
  unfold State.writeAud
  repeat' first
    | (with_reducible first | assumption | apply Canon.ite | apply Canon.writeAin | apply Canon.writeEmb0
                            | apply Canon.writeEmb4 | apply Canon.writeAgrp | apply Canon.putWord)
    | split
    | (with_reducible apply Canon.ofMk; with_reducible refine Canon.parts ?_)

theorem Canon.writeAncq {s : State} (h : Canon z s) (fs : RegFields) (q rel v : Nat) :
    Canon z (State.writeAncq s fs q rel v) := by
  unfold State.writeAncq
  repeat' first
    | (with_reducible first | assumption | apply Canon.ite | apply Canon.writeAncq0 | apply Canon.writeAncq4
                            | apply Canon.writeFsrc | apply Canon.writeWatermark | apply Canon.putWord)
    | split
    | (with_reducible apply Canon.ofMk; with_reducible refine Canon.parts ?_)

theorem Canon.writeProbe {s : State} (h : Canon z s) (fs : RegFields) (c rel v : Nat) :
    Canon z (State.writeProbe s fs c rel v) := by
  unfold State.writeProbe
  repeat' first
    | (with_reducible first | assumption | apply Canon.ite | apply Canon.writeWindow | apply Canon.putWord)
    | split
    | (with_reducible apply Canon.ofMk; with_reducible refine Canon.parts ?_)

theorem Canon.writeLane {s : State} (h : Canon z s) (fs : RegFields) (l rel v : Nat) :
    Canon z (State.writeLane s fs l rel v) := by
  unfold State.writeLane
  repeat' first
    | (with_reducible first | assumption | apply Canon.ite | refine Canon.when _ ?_ (fun _ _ => ?_)
                            | apply Canon.writeLaneCtl | apply Canon.writeTxEq | apply Canon.writeRxEq
                            | apply Canon.writeDfe | apply Canon.writeScan | apply Canon.putWord | apply Canon.scanGo)
    | split
    | (with_reducible apply Canon.ofMk; with_reducible refine Canon.parts ?_)

theorem Canon.writeSdirx {s : State} (h : Canon z s) (fs : RegFields) (l rel v : Nat) :
    Canon z (State.writeSdirx s fs l rel v) := by
  unfold State.writeSdirx
  repeat' first
    | (with_reducible first | assumption | apply Canon.ite | apply Canon.putWord | apply Canon.putRwl
                            | apply Canon.relink)
    | split
    | (with_reducible apply Canon.ofMk; with_reducible refine Canon.parts ?_)
    | dsimp only

theorem Canon.writeMport {s : State} (h : Canon z s) (fs : RegFields) (m rel v : Nat) :
    Canon z (State.writeMport s fs m rel v) := by
  unfold State.writeMport
  repeat' first
    | (with_reducible first | assumption | apply Canon.ite | apply Canon.putRwl | apply Canon.putFld
                            | apply Canon.enablePort | apply Canon.disablePort | apply Canon.putWord
                            | apply Canon.writeHpRxRing | apply Canon.writeHpRxHead | apply Canon.writeHpTxRing
                            | apply Canon.writeHpTxTail)
    | split
    | (with_reducible apply Canon.ofMk; with_reducible refine Canon.parts ?_)
    | dsimp only

theorem Canon.writeSrc {s : State} (h : Canon z s) (fs : RegFields) (n rel v : Nat) :
    Canon z (State.writeSrc s fs n rel v) := by
  unfold State.writeSrc
  repeat' first
    | (with_reducible first | assumption | apply Canon.ite | apply Canon.putWord | apply Canon.putRwl)
    | split
    | (with_reducible apply Canon.ofMk; with_reducible refine Canon.parts ?_)

theorem Canon.writeDst {s : State} (h : Canon z s) (fs : RegFields) (d rel v : Nat) :
    Canon z (State.writeDst s fs d rel v) := by
  unfold State.writeDst
  repeat' first
    | (with_reducible first | assumption | apply Canon.ite | apply Canon.enableDst | apply Canon.disableDst
                            | apply Canon.putRwl | apply Canon.setFld | apply Canon.putWord | apply Canon.dstLead)
    | split
    | (with_reducible apply Canon.ofMk; with_reducible refine Canon.parts ?_)
    | dsimp only

theorem Canon.writeCmp {s : State} (h : Canon z s) (fs : RegFields) (c rel v : Nat) :
    Canon z (State.writeCmp s fs c rel v) := by
  unfold State.writeCmp
  repeat' first
    | (with_reducible first | assumption | apply Canon.ite | apply Canon.putWord | apply Canon.cmpLead)
    | split
    | (with_reducible apply Canon.ofMk; with_reducible refine Canon.parts ?_)

theorem Canon.regWrite {s : State} (h : Canon z s) (w off v : Nat) : Canon z (State.regWrite s w off v) := by
  unfold State.regWrite
  repeat' first
    | (with_reducible first | assumption | apply Canon.ite | apply Canon.writeGlb | apply Canon.writePcb
                            | apply Canon.writeCmdeng | apply Canon.putWord | apply Canon.writeFlt
                            | apply Canon.writeTime | apply Canon.writeClk | apply Canon.writePwr'
                            | apply Canon.writeBoot | apply Canon.writeCway | apply Canon.writeTowpath
                            | apply Canon.writeAud | apply Canon.writeAesIn0 | apply Canon.writeAesIn4
                            | apply Canon.writeAesOut0 | apply Canon.writeOutCh | apply Canon.writeAncq
                            | apply Canon.writeProbe | apply Canon.writeLane | apply Canon.writeSdirx
                            | apply Canon.writeMport | apply Canon.writeSrc | apply Canon.writeDst
                            | apply Canon.writeCmp)
    | split
    | (with_reducible apply Canon.ofMk; with_reducible refine Canon.parts ?_)
    | dsimp only

theorem Canon.logBar {s : State} (h : Canon z s) (p : Nat) (bar : AccessBar) : Canon z (State.logBar s p bar) := by
  unfold State.logBar
  repeat' first
    | (with_reducible first | assumption | apply Canon.logError)
    | split
    | (with_reducible apply Canon.ofMk; with_reducible refine Canon.parts ?_)

theorem Canon.holdWrite {s : State} (h : Canon z s) (w off v : Nat) (b : Blk) :
    Canon z (State.holdWrite s w off v b) := by
  unfold State.holdWrite
  repeat' first
    | (with_reducible first | assumption | apply Canon.putWord | apply Canon.send | apply Canon.setCway)
    | split
    | (with_reducible apply Canon.ofMk; with_reducible refine Canon.parts ?_)
    | dsimp only

theorem Canon.mirrorWrite {s : State} (h : Canon z s) (b : Blk) (off v : Nat) :
    Canon z (State.mirrorWrite s b off v) := by
  unfold State.mirrorWrite
  repeat' first
    | (with_reducible first | assumption | refine Canon.when _ ?_ (fun _ _ => ?_) | apply Canon.send)
    | split
    | (with_reducible apply Canon.ofMk; with_reducible refine Canon.parts ?_)
    | dsimp only

theorem Canon.acceptWrite {s : State} (h : Canon z s) (w off v : Nat) : Canon z (State.acceptWrite s w off v) := by
  unfold State.acceptWrite
  repeat' first
    | (with_reducible first | assumption | apply Canon.ite | apply Canon.holdWrite | apply Canon.mirrorWrite
                            | apply Canon.regWrite)
    | split
    | (with_reducible apply Canon.ofMk; with_reducible refine Canon.parts ?_)
    | dsimp only

theorem Canon.hostCrossed {s : State} (h : Canon z s) (w : Nat) : Canon z (State.hostCrossed s w) := by
  unfold State.hostCrossed
  repeat' first
    | (with_reducible first | assumption | apply Canon.crosses)
    | split
    | (with_reducible apply Canon.ofMk; with_reducible refine Canon.parts ?_)

theorem Canon.hostWrite {s : State} (h : Canon z s) (w off width v : Nat) :
    Canon z (State.hostWrite s w off width v) := by
  unfold State.hostWrite
  repeat' first
    | (with_reducible first | assumption | apply Canon.ite | apply Canon.logBar | apply Canon.acceptWrite
                            | apply Canon.hostCrossed)
    | split
    | (with_reducible apply Canon.ofMk; with_reducible refine Canon.parts ?_)
    | dsimp only

theorem Canon.write32 {s : State} (h : Canon z s) (w off v : Nat) : Canon z (State.write32 s w off v) := by
  unfold State.write32
  repeat' first
    | (with_reducible first | assumption | apply Canon.hostWrite)
    | split
    | (with_reducible apply Canon.ofMk; with_reducible refine Canon.parts ?_)

theorem Canon.applyHeld {s : State} (h : Canon z s) : Canon z (State.applyHeld s) := by
  unfold State.applyHeld
  repeat' first
    | (with_reducible first | assumption | refine Canon.each _ ?_ (fun _ _ _ => ?_)
                            | refine Canon.when _ ?_ (fun _ _ => ?_) | apply Canon.setCway | apply Canon.regWrite
                            | apply Canon.crosses)
    | split
    | (with_reducible apply Canon.ofMk; with_reducible refine Canon.parts ?_)
    | dsimp only

theorem Canon.on_execMirrorRegApply {s : State} (h : Canon z s) : CanonX z (execMirrorRegApply s) := by
  unfold execMirrorRegApply
  repeat' first
    | (with_reducible first | assumption | apply CanonX.next | apply Canon.applyHeld)
    | split
    | (with_reducible apply Canon.ofMk; with_reducible refine Canon.parts ?_)

end Sys2Proof.Machine
end

