-- ==== Sys2Proof/Laws/CanonPairSnap.lean ====
section
/-! SUPPORT. The operations of Machine/PairSnap.lean keep the canonical form of a state. -/

namespace Sys2Proof.Machine
open Reg

variable {z : State}

theorem Canon.sendSnapshot {s : State} (h : Canon z s) : Canon z (State.sendSnapshot s) := by
  unfold State.sendSnapshot
  repeat' first
    | (with_reducible first | assumption | apply Canon.setCway | apply Canon.send | apply Canon.sendAll)
    | split
    | (with_reducible apply Canon.ofMk; with_reducible refine Canon.parts ?_)
    | dsimp only

theorem Canon.peerIs {s : State} (h : Canon z s) (st : Nat) : Canon z (State.peerIs s st) := by
  unfold State.peerIs
  repeat' first
    | (with_reducible first | assumption | apply Canon.ite | refine Canon.when _ ?_ (fun _ _ => ?_)
                            | apply Canon.setFld | apply Canon.setCway | apply Canon.enterRole
                            | apply Canon.sendSnapshot)
    | split
    | (with_reducible apply Canon.ofMk; with_reducible refine Canon.parts ?_)
    | dsimp only

end Sys2Proof.Machine
end

