-- ==== Sys2Proof/Laws/CanonPairFollow.lean ====
section
/-! SUPPORT. The operations of Machine/PairFollow.lean keep the canonical form of a state. -/

namespace Sys2Proof.Machine
open Reg

variable {z : State}

theorem Canon.followSelect {s : State} (h : Canon z s) (a b : Nat) : Canon z (State.followSelect s a b) := by
  unfold State.followSelect
  repeat' first
    | (with_reducible first | assumption | apply Canon.ite | apply Canon.setReader | apply Canon.selectionEvents)
    | split
    | (with_reducible apply Canon.ofMk; with_reducible refine Canon.parts ?_)
    | dsimp only

theorem Canon.notComparable {s : State} (h : Canon z s) (obj : Nat) : Canon z (State.notComparable s obj) := by
  unfold State.notComparable
  repeat' first
    | (with_reducible first | assumption | refine Canon.when _ ?_ (fun _ _ => ?_) | apply Canon.setDstRun)
    | split
    | (with_reducible apply Canon.ofMk; with_reducible refine Canon.parts ?_)

theorem Canon.missed {s : State} (h : Canon z s) (obj : Nat) : Canon z (State.missed s obj) := by
  unfold State.missed
  repeat' first
    | (with_reducible first | assumption | apply Canon.addFld | apply Canon.notComparable)
    | split
    | (with_reducible apply Canon.ofMk; with_reducible refine Canon.parts ?_)

theorem Canon.followTear {s : State} (h : Canon z s) (a b : Nat) : Canon z (State.followTear s a b) := by
  unfold State.followTear
  repeat' first
    | (with_reducible first | assumption | apply Canon.ite | apply Canon.missed | apply Canon.tearTo
                            | apply Canon.tear)
    | split
    | (with_reducible apply Canon.ofMk; with_reducible refine Canon.parts ?_)
    | dsimp only

theorem Canon.takeOver {s : State} (h : Canon z s) (d : AudDec) : Canon z (State.takeOver s d) := by
  unfold State.takeOver
  repeat' first
    | (with_reducible first | assumption | apply Canon.setRatio | apply Canon.doSlip | apply Canon.underrun
                            | apply Canon.reenter | apply Canon.switchAsrc)
    | split
    | (with_reducible apply Canon.ofMk; with_reducible refine Canon.parts ?_)

theorem Canon.followAudio {s : State} (h : Canon z s) (a b : Nat) : Canon z (State.followAudio s a b) := by
  unfold State.followAudio
  repeat' first
    | (with_reducible first | assumption | apply Canon.ite | apply Canon.takeOver | apply Canon.audioDiffers)
    | split
    | (with_reducible apply Canon.ofMk; with_reducible refine Canon.parts ?_)
    | dsimp only

theorem Canon.applyNow {s : State} (h : Canon z s) (c : Change) : Canon z (State.applyNow s c) := by
  unfold State.applyNow
  repeat' first
    | (with_reducible first | assumption | apply Canon.reserve | apply Canon.toHeld | apply Canon.changeChan
                            | apply Canon.applyChange | apply Canon.noteEnabled
                            | refine CanonO.of (by with_reducible assumption) ?_)
    | split
    | (with_reducible apply Canon.ofMk; with_reducible refine Canon.parts ?_)
    | dsimp only

theorem Canon.applySnap {s : State} (h : Canon z s) (c : Change) : Canon z (State.applySnap s c) := by
  unfold State.applySnap
  repeat' first
    | (with_reducible first | assumption | apply Canon.ite | refine Canon.each _ ?_ (fun _ _ _ => ?_)
                            | apply Canon.applyNow)
    | split
    | (with_reducible apply Canon.ofMk; with_reducible refine Canon.parts ?_)
    | dsimp only

theorem Canon.snapGraphic {s : State} (h : Canon z s) (r : Request) : Canon z (State.snapGraphic s r) := by
  unfold State.snapGraphic
  dsimp only
  cases e : State.placeGraphic s r.part _ _ with
  | none => exact h.toHeld _
  | some t => exact CanonO.of e (h.placeGraphic _ _ _)

theorem Canon.snapSchedule {s : State} (h : Canon z s) (r : Request) : Canon z (State.snapSchedule s r) := by
  unfold State.snapSchedule
  repeat' first
    | (with_reducible first | assumption | apply Canon.ite | apply Canon.updTake | apply Canon.takeSeq
                            | apply Canon.setTakes)
    | split
    | (with_reducible apply Canon.ofMk; with_reducible refine Canon.parts ?_)
    | dsimp only

theorem Canon.useSeq {s : State} (h : Canon z s) (cseq : Nat) : Canon z (State.useSeq s cseq) := by
  unfold State.useSeq
  repeat' first
    | (with_reducible first | assumption | apply Canon.ite)
    | split
    | (with_reducible apply Canon.ofMk; with_reducible refine Canon.parts ?_)

theorem Canon.snapCmd {s : State} (h : Canon z s) (r : Request) (cseq : Nat) :
    Canon z (State.snapCmd s r cseq) := by
  unfold State.snapCmd
  repeat' first
    | (with_reducible first | assumption | apply Canon.ite | refine Canon.each _ ?_ (fun _ _ _ => ?_)
                            | apply Canon.snapSchedule | apply Canon.snapGraphic | apply Canon.opProbeLoad
                            | apply Canon.applySnap | apply Canon.opOf | apply CanonP.fst
                            | refine CanonP.of (by with_reducible assumption) ?_)
    | split
    | (with_reducible apply Canon.ofMk; with_reducible refine Canon.parts ?_)

theorem Canon.followEarly {s : State} (h : Canon z s) (r : Request) (status : Nat) :
    Canon z (State.followEarly s r status) := by
  unfold State.followEarly
  repeat' first
    | (with_reducible first | assumption | apply Canon.ite | apply Canon.failGroup | apply Canon.abandonGroup)
    | split
    | (with_reducible apply Canon.ofMk; with_reducible refine Canon.parts ?_)

theorem Canon.runMirror {s : State} (h : Canon z s) (m : MirrorIn) : Canon z (State.runMirror s m) := by
  unfold State.runMirror
  repeat' first
    | (with_reducible first | assumption | apply Canon.ite | apply Canon.useSeq | apply Canon.snapCmd
                            | apply Canon.followEarly | apply Canon.opOf | apply Canon.toHeld | apply CanonP.fst
                            | refine CanonP.of (by with_reducible assumption) ?_)
    | split
    | (with_reducible apply Canon.ofMk; with_reducible refine Canon.parts ?_)
    | dsimp only

theorem Canon.pumpMirror {s : State} (h : Canon z s) : Canon z (State.pumpMirror s) := by
  unfold State.pumpMirror
  repeat' first
    | (with_reducible first | assumption | refine Canon.each _ ?_ (fun _ _ _ => ?_) | apply Canon.complete
                            | apply Canon.setCway | apply Canon.runMirror)
    | split
    | (with_reducible apply Canon.ofMk; with_reducible refine Canon.parts ?_)
    | dsimp only

theorem Canon.recvCmd {s : State} (h : Canon z s) (ws : List Nat) : Canon z (State.recvCmd s ws) := by
  unfold State.recvCmd
  repeat' first
    | (with_reducible first | assumption | apply Canon.ite | apply Canon.setCway | apply Canon.pumpMirror)
    | split
    | (with_reducible apply Canon.ofMk; with_reducible refine Canon.parts ?_)
    | dsimp only

theorem Canon.recvData {s : State} (h : Canon z s) (ws : List Nat) : Canon z (State.recvData s ws) := by
  unfold State.recvData
  repeat' first
    | (with_reducible first | assumption | apply Canon.setCway | apply Canon.pumpMirror)
    | split
    | (with_reducible apply Canon.ofMk; with_reducible refine Canon.parts ?_)
    | dsimp only

theorem Canon.recvReg {s : State} (h : Canon z s) (ws : List Nat) : Canon z (State.recvReg s ws) := by
  unfold State.recvReg
  repeat' first
    | (with_reducible first | assumption | apply Canon.ite | apply Canon.setCway | apply Canon.applyHeld)
    | split
    | (with_reducible apply Canon.ofMk; with_reducible refine Canon.parts ?_)
    | dsimp only

theorem Canon.recvOwn {s : State} (h : Canon z s) (ws : List Nat) : Canon z (State.recvOwn s ws) := by
  unfold State.recvOwn
  repeat' first
    | (with_reducible first | assumption | apply Canon.ite | apply Canon.passTo | apply Canon.setFld)
    | split
    | (with_reducible apply Canon.ofMk; with_reducible refine Canon.parts ?_)
    | dsimp only

theorem Canon.recvGroupEnd {s : State} (h : Canon z s) (ws : List Nat) : Canon z (State.recvGroupEnd s ws) := by
  unfold State.recvGroupEnd
  repeat' first
    | (with_reducible first | assumption | apply Canon.ite | apply Canon.setHandovers | apply Canon.send
                            | apply Canon.updTake | apply Canon.toHeld)
    | split
    | (with_reducible apply Canon.ofMk; with_reducible refine Canon.parts ?_)
    | dsimp only

theorem Canon.recvGroupAck {s : State} (h : Canon z s) (ws : List Nat) : Canon z (State.recvGroupAck s ws) := by
  unfold State.recvGroupAck
  repeat' first
    | (with_reducible first | assumption | apply Canon.ite | apply Canon.setHandovers | apply Canon.updTake)
    | split
    | (with_reducible apply Canon.ofMk; with_reducible refine Canon.parts ?_)
    | dsimp only

theorem Canon.followDefer {s : State} (h : Canon z s) (k : Take) (t : Nat) : Canon z (State.followDefer s k t) := by
  unfold State.followDefer
  repeat' first
    | (with_reducible first | assumption | apply Canon.ite | apply Canon.updTake | apply Canon.advance
                            | apply Canon.addFld | apply Canon.raise)
    | split
    | (with_reducible apply Canon.ofMk; with_reducible refine Canon.parts ?_)
    | dsimp only

theorem Canon.recvDecision {s : State} (h : Canon z s) (ws : List Nat) : Canon z (State.recvDecision s ws) := by
  unfold State.recvDecision
  repeat' first
    | (with_reducible first | assumption | apply Canon.ite | apply Canon.setHandovers | apply Canon.decided
                            | apply Canon.updTake | apply Canon.followDefer | apply Canon.toHeld)
    | split
    | (with_reducible apply Canon.ofMk; with_reducible refine Canon.parts ?_)
    | dsimp only

theorem Canon.dropUndecided {s : State} (h : Canon z s) : Canon z (State.dropUndecided s) := by
  unfold State.dropUndecided
  repeat' first
    | (with_reducible first | assumption | apply Canon.ite | refine Canon.each _ ?_ (fun _ _ _ => ?_)
                            | apply Canon.discardTake | apply Canon.toHeld)
    | split
    | (with_reducible apply Canon.ofMk; with_reducible refine Canon.parts ?_)
    | dsimp only

theorem Canon.snapStart {s : State} (h : Canon z s) (ws : List Nat) : Canon z (State.snapStart s ws) := by
  unfold State.snapStart
  repeat' first
    | (with_reducible first | assumption | refine Canon.each _ ?_ (fun _ _ _ => ?_)
                            | refine Canon.upTo _ ?_ (fun _ _ _ => ?_) | apply Canon.discardTake
                            | apply Canon.discardBank | apply Canon.setCway | apply Canon.useSeq)
    | split
    | (with_reducible apply Canon.ofMk; with_reducible refine Canon.parts ?_)
    | dsimp only

theorem Canon.snapEnd {s : State} (h : Canon z s) (ws : List Nat) : Canon z (State.snapEnd s ws) := by
  unfold State.snapEnd
  repeat' first
    | (with_reducible first | assumption | apply Canon.ite | apply Canon.useSeq | apply Canon.setCway
                            | apply Canon.joinDone)
    | split
    | (with_reducible apply Canon.ofMk; with_reducible refine Canon.parts ?_)
    | dsimp only

theorem Canon.shiftSource {s : State} (h : Canon z s) (n d : Nat) : Canon z (State.shiftSource s n d) := by
  unfold State.shiftSource
  repeat' first
    | (with_reducible first | assumption | apply Canon.setSrc)
    | split
    | (with_reducible apply Canon.ofMk; with_reducible refine Canon.parts ?_)
    | dsimp only

theorem Canon.alignSeq {s : State} (h : Canon z s) (a b : Nat) : Canon z (State.alignSeq s a b) := by
  unfold State.alignSeq
  repeat' first
    | (with_reducible first | assumption | apply Canon.ite | apply Canon.shiftSource | apply Canon.setSrc)
    | split
    | (with_reducible apply Canon.ofMk; with_reducible refine Canon.parts ?_)
    | dsimp only

theorem Canon.followStep {s : State} (h : Canon z s) (d : Int) : Canon z (State.followStep s d) := by
  unfold State.followStep
  repeat' first
    | (with_reducible first | assumption | apply Canon.ite | apply Canon.setPending | apply Canon.applyPending)
    | split
    | (with_reducible apply Canon.ofMk; with_reducible refine Canon.parts ?_)

theorem Canon.recvTime {s : State} (h : Canon z s) (ws : List Nat) : Canon z (State.recvTime s ws) := by
  unfold State.recvTime
  repeat' first
    | (with_reducible first | assumption | refine Canon.when _ ?_ (fun _ _ => ?_) | apply Canon.setCway
                            | apply Canon.setFld | apply Canon.setRefRun | apply Canon.followStep)
    | split
    | (with_reducible apply Canon.ofMk; with_reducible refine Canon.parts ?_)
    | dsimp only

theorem Canon.recvHealth {s : State} (h : Canon z s) (ws : List Nat) : Canon z (State.recvHealth s ws) := by
  unfold State.recvHealth
  repeat' first
    | (with_reducible first | assumption | refine Canon.each _ ?_ (fun _ _ _ => ?_)
                            | refine Canon.upTo _ ?_ (fun _ _ _ => ?_) | apply Canon.setFld | apply Canon.setCway
                            | apply Canon.bothFail | apply Canon.peerIs)
    | split
    | (with_reducible apply Canon.ofMk; with_reducible refine Canon.parts ?_)
    | dsimp only

theorem Canon.negotiate {s : State} (h : Canon z s) (strap state serial : Nat) :
    Canon z (State.negotiate s strap state serial) := by
  unfold State.negotiate
  repeat' first
    | (with_reducible first | assumption | apply Canon.ite | refine Canon.when _ ?_ (fun _ _ => ?_)
                            | apply Canon.raise | apply Canon.join | apply Canon.winToken | apply Canon.setCway)
    | split
    | (with_reducible apply Canon.ofMk; with_reducible refine Canon.parts ?_)
    | dsimp only

theorem Canon.recvHello {s : State} (h : Canon z s) (ws : List Nat) : Canon z (State.recvHello s ws) := by
  unfold State.recvHello
  repeat' first
    | (with_reducible first | assumption | apply Canon.ite | refine Canon.when _ ?_ (fun _ _ => ?_)
                            | apply Canon.setCway | apply Canon.setFld | apply Canon.setPair | apply Canon.peerIs
                            | apply Canon.negotiate)
    | split
    | (with_reducible apply Canon.ofMk; with_reducible refine Canon.parts ?_)
    | dsimp only

theorem Canon.recvRole {s : State} (h : Canon z s) (ws : List Nat) : Canon z (State.recvRole s ws) := by
  unfold State.recvRole
  repeat' first
    | (with_reducible first | assumption | apply Canon.ite | apply Canon.peerIs | apply Canon.toHeld)
    | split
    | (with_reducible apply Canon.ofMk; with_reducible refine Canon.parts ?_)
    | dsimp only

end Sys2Proof.Machine
end

