-- ==== Sys2Proof/Laws/CanonPair.lean ====
section
/-! SUPPORT. The operations of Machine/Pair.lean keep the canonical form of a state. -/

namespace Sys2Proof.Machine
open Reg

variable {z : State}

theorem Canon.loseTake {s : State} (h : Canon z s) (k : Take) : Canon z (State.loseTake s k) := by
  unfold State.loseTake
  repeat' first
    | (with_reducible first | assumption | apply Canon.ite | apply Canon.discardTake | apply Canon.raise)
    | split
    | (with_reducible apply Canon.ofMk; with_reducible refine Canon.parts ?_)
    | dsimp only

theorem Canon.takeover {s : State} (h : Canon z s) (stale unverified : Bool) :
    Canon z (State.takeover s stale unverified) := by
  unfold State.takeover
  repeat' first
    | (with_reducible first | assumption | refine Canon.each _ ?_ (fun _ _ _ => ?_)
                            | refine Canon.upTo _ ?_ (fun _ _ _ => ?_) | apply Canon.enterRole | apply Canon.addFld
                            | apply Canon.loseTake | apply Canon.setTakes | apply Canon.renewLease
                            | apply Canon.setHandovers | apply Canon.raise)
    | split
    | (with_reducible apply Canon.ofMk; with_reducible refine Canon.parts ?_)
    | dsimp only

theorem Canon.splitBrain {s : State} (h : Canon z s) : Canon z (State.splitBrain s) := by
  unfold State.splitBrain
  repeat' first
    | (with_reducible first | assumption | apply Canon.ite | apply Canon.raise | apply Canon.enterRole
                            | apply Canon.join)
    | split
    | (with_reducible apply Canon.ofMk; with_reducible refine Canon.parts ?_)
    | dsimp only

theorem Canon.on_execTokenInAsserted {s : State} (h : Canon z s) : CanonX z (execTokenInAsserted s) := by
  unfold execTokenInAsserted
  repeat' first
    | (with_reducible first | assumption | apply Canon.ite | apply CanonX.ite | apply CanonX.next | apply Canon.setFld
                            | apply Canon.join | apply Canon.splitBrain)
    | split
    | (with_reducible apply Canon.ofMk; with_reducible refine Canon.parts ?_)
    | dsimp only

theorem Canon.on_execTokenInDeasserted {s : State} (h : Canon z s) : CanonX z (execTokenInDeasserted s) := by
  unfold execTokenInDeasserted
  repeat' first
    | (with_reducible first | assumption | apply Canon.ite | apply CanonX.ite | apply CanonX.next | apply Canon.setFld
                            | apply Canon.takeover | apply Canon.enterRole)
    | split
    | (with_reducible apply Canon.ofMk; with_reducible refine Canon.parts ?_)
    | dsimp only

theorem Canon.on_execPairFaultNLow {s : State} (h : Canon z s) : CanonX z (execPairFaultNLow s) := by
  unfold execPairFaultNLow
  repeat' first
    | (with_reducible first | assumption | apply Canon.ite | apply CanonX.ite | apply CanonX.next | apply Canon.setFld
                            | apply Canon.raise)
    | split
    | (with_reducible apply Canon.ofMk; with_reducible refine Canon.parts ?_)
    | dsimp only

theorem Canon.on_execNegotiationWait {s : State} (h : Canon z s) : CanonX z (execNegotiationWait s) := by
  unfold execNegotiationWait
  repeat' first
    | (with_reducible first | assumption | apply Canon.ite | apply CanonX.ite | apply CanonX.next
                            | apply Canon.winToken)
    | split
    | (with_reducible apply Canon.ofMk; with_reducible refine Canon.parts ?_)

theorem Canon.on_execHelloInterval {s : State} (h : Canon z s) : CanonX z (execHelloInterval s) := by
  unfold execHelloInterval
  repeat' first
    | (with_reducible first | assumption | apply Canon.ite | apply CanonX.ite | apply CanonX.next
                            | apply Canon.setCway | apply Canon.send | apply Canon.initSettle)
    | split
    | (with_reducible apply Canon.ofMk; with_reducible refine Canon.parts ?_)
    | dsimp only

theorem Canon.on_execTimeInterval {s : State} (h : Canon z s) : CanonX z (execTimeInterval s) := by
  unfold execTimeInterval
  repeat' first
    | (with_reducible first | assumption | apply Canon.ite | apply CanonX.ite | apply CanonX.next | apply Canon.send
                            | apply Canon.setCway | apply Canon.on_step)
    | split
    | (with_reducible apply Canon.ofMk; with_reducible refine Canon.parts ?_)
    | dsimp only

theorem Canon.on_execHealthInterval {s : State} (h : Canon z s) : CanonX z (execHealthInterval s) := by
  unfold execHealthInterval
  repeat' first
    | (with_reducible first | assumption | apply Canon.ite | apply CanonX.ite | apply CanonX.next
                            | apply Canon.refreshReady | apply Canon.sendHealth)
    | split
    | (with_reducible apply Canon.ofMk; with_reducible refine Canon.parts ?_)

theorem Canon.on_execPeerLost {s : State} (h : Canon z s) : CanonX z (execPeerLost s) := by
  unfold execPeerLost
  repeat' first
    | (with_reducible first | assumption | apply CanonX.next | apply Canon.peerSettle)
    | split
    | (with_reducible apply Canon.ofMk; with_reducible refine Canon.parts ?_)

theorem Canon.on_execJoinTimeout {s : State} (h : Canon z s) : CanonX z (execJoinTimeout s) := by
  unfold execJoinTimeout
  repeat' first
    | (with_reducible first | assumption | apply Canon.ite | apply CanonX.ite | apply CanonX.next
                            | apply Canon.enterRole)
    | split
    | (with_reducible apply Canon.ofMk; with_reducible refine Canon.parts ?_)

theorem Canon.on_execHeldRetry {s : State} (h : Canon z s) : CanonX z (execHeldRetry s) := by
  unfold execHeldRetry
  repeat' first
    | (with_reducible first | assumption | apply Canon.ite | apply CanonX.ite | apply CanonX.next
                            | apply Canon.refreshReady | apply Canon.join)
    | split
    | (with_reducible apply Canon.ofMk; with_reducible refine Canon.parts ?_)
    | dsimp only

theorem Canon.on_execHello {s : State} (h : Canon z s) (_flags : BitVec 8) (_mseq : BitVec 24) (words : List (BitVec 64)) :
    CanonX z (execHello _flags _mseq words s) := by
  unfold execHello
  repeat' first
    | (with_reducible first | assumption | apply CanonX.next | refine Canon.hear ?_ (fun _ _ => ?_)
                            | apply Canon.recvHello)
    | split
    | (with_reducible apply Canon.ofMk; with_reducible refine Canon.parts ?_)

theorem Canon.on_execRole {s : State} (h : Canon z s) (_flags : BitVec 8) (_mseq : BitVec 24) (words : List (BitVec 64)) :
    CanonX z (execRole _flags _mseq words s) := by
  unfold execRole
  repeat' first
    | (with_reducible first | assumption | apply CanonX.next | refine Canon.receive ?_ (fun _ _ => ?_)
                            | apply Canon.recvRole)
    | split
    | (with_reducible apply Canon.ofMk; with_reducible refine Canon.parts ?_)

theorem Canon.on_execLinkAck {s : State} (h : Canon z s) (_flags : BitVec 8) (_mseq : BitVec 24) (words : List (BitVec 64)) :
    CanonX z (execLinkAck _flags _mseq words s) := by
  unfold execLinkAck
  repeat' first
    | (with_reducible first | assumption | apply Canon.ite | apply CanonX.ite | apply CanonX.next
                            | refine Canon.receive ?_ (fun _ _ => ?_) | apply Canon.acknowledge | apply Canon.resend)
    | split
    | (with_reducible apply Canon.ofMk; with_reducible refine Canon.parts ?_)
    | dsimp only

theorem Canon.on_execTime {s : State} (h : Canon z s) (_flags : BitVec 8) (_mseq : BitVec 24) (words : List (BitVec 64)) :
    CanonX z (execTime _flags _mseq words s) := by
  unfold execTime
  repeat' first
    | (with_reducible first | assumption | apply CanonX.next | refine Canon.receive ?_ (fun _ _ => ?_)
                            | apply Canon.recvTime)
    | split
    | (with_reducible apply Canon.ofMk; with_reducible refine Canon.parts ?_)

theorem Canon.followRecords {s : State} (h : Canon z s) (words : List (BitVec 64)) {f : State → Nat → Nat → State}
    (hf : ∀ t a b, Canon z t → Canon z (f t a b)) : Canon z (State.followRecords s words f) :=
  h.receive (fun _ ht => Canon.ite (Canon.each _ ht (fun _ _ hu => hf _ _ _ hu)) ht)

theorem Canon.on_execSelect {s : State} (h : Canon z s) (_flags : BitVec 8) (_mseq : BitVec 24) (words : List (BitVec 64)) :
    CanonX z (execSelect _flags _mseq words s) := by
  unfold execSelect
  repeat' first
    | (with_reducible first | assumption | apply CanonX.next | refine Canon.followRecords ?_ _ (fun _ _ _ _ => ?_)
                            | apply Canon.followSelect)
    | split
    | (with_reducible apply Canon.ofMk; with_reducible refine Canon.parts ?_)

theorem Canon.on_execTear {s : State} (h : Canon z s) (_flags : BitVec 8) (_mseq : BitVec 24) (words : List (BitVec 64)) :
    CanonX z (execTear _flags _mseq words s) := by
  unfold execTear
  repeat' first
    | (with_reducible first | assumption | apply CanonX.next | refine Canon.followRecords ?_ _ (fun _ _ _ _ => ?_)
                            | apply Canon.followTear)
    | split
    | (with_reducible apply Canon.ofMk; with_reducible refine Canon.parts ?_)

theorem Canon.on_execAudioDec {s : State} (h : Canon z s) (_flags : BitVec 8) (_mseq : BitVec 24) (words : List (BitVec 64)) :
    CanonX z (execAudioDec _flags _mseq words s) := by
  unfold execAudioDec
  repeat' first
    | (with_reducible first | assumption | apply CanonX.next | refine Canon.followRecords ?_ _ (fun _ _ _ _ => ?_)
                            | apply Canon.followAudio)
    | split
    | (with_reducible apply Canon.ofMk; with_reducible refine Canon.parts ?_)

theorem Canon.recvDigests {s : State} (h : Canon z s) (words : List (BitVec 64)) (f : Nat → Nat → Dig) :
    Canon z (State.recvDigests s words f) := by
  unfold State.recvDigests
  repeat' first
    | (with_reducible first | assumption | apply Canon.ite | refine Canon.each _ ?_ (fun _ _ _ => ?_)
                            | refine Canon.receive ?_ (fun _ _ => ?_) | apply Canon.peerDigest)
    | split
    | (with_reducible apply Canon.ofMk; with_reducible refine Canon.parts ?_)

theorem Canon.on_execDigIn {s : State} (h : Canon z s) (_flags : BitVec 8) (_mseq : BitVec 24) (words : List (BitVec 64)) :
    CanonX z (execDigIn _flags _mseq words s) := by
  unfold execDigIn
  repeat' first
    | (with_reducible first | assumption | apply CanonX.next | apply Canon.recvDigests)
    | split
    | (with_reducible apply Canon.ofMk; with_reducible refine Canon.parts ?_)

theorem Canon.on_execDigOut {s : State} (h : Canon z s) (_flags : BitVec 8) (_mseq : BitVec 24) (words : List (BitVec 64)) :
    CanonX z (execDigOut _flags _mseq words s) := by
  unfold execDigOut
  repeat' first
    | (with_reducible first | assumption | apply CanonX.next | apply Canon.recvDigests)
    | split
    | (with_reducible apply Canon.ofMk; with_reducible refine Canon.parts ?_)

theorem Canon.on_execDigAud {s : State} (h : Canon z s) (_flags : BitVec 8) (_mseq : BitVec 24) (words : List (BitVec 64)) :
    CanonX z (execDigAud _flags _mseq words s) := by
  unfold execDigAud
  repeat' first
    | (with_reducible first | assumption | apply CanonX.next | apply Canon.recvDigests)
    | split
    | (with_reducible apply Canon.ofMk; with_reducible refine Canon.parts ?_)

theorem Canon.on_execDigestMissing {s : State} (h : Canon z s) : CanonX z (execDigestMissing s) := by
  unfold execDigestMissing
  repeat' first
    | (with_reducible first | assumption | apply CanonX.next | refine Canon.receive ?_ (fun _ _ => ?_)
                            | apply Canon.dropDigests)
    | split
    | (with_reducible apply Canon.ofMk; with_reducible refine Canon.parts ?_)

theorem Canon.on_execHealth {s : State} (h : Canon z s) (_flags : BitVec 8) (_mseq : BitVec 24) (words : List (BitVec 64)) :
    CanonX z (execHealth _flags _mseq words s) := by
  unfold execHealth
  repeat' first
    | (with_reducible first | assumption | apply CanonX.next | refine Canon.hear ?_ (fun _ _ => ?_)
                            | apply Canon.recvHealth)
    | split
    | (with_reducible apply Canon.ofMk; with_reducible refine Canon.parts ?_)

theorem Canon.on_execKatReq {s : State} (h : Canon z s) (_flags : BitVec 8) (_mseq : BitVec 24) (words : List (BitVec 64)) :
    CanonX z (execKatReq _flags _mseq words s) := by
  unfold execKatReq
  repeat' first
    | (with_reducible first | assumption | apply CanonX.next | refine Canon.receive ?_ (fun _ _ => ?_)
                            | apply Canon.askKat)
    | split
    | (with_reducible apply Canon.ofMk; with_reducible refine Canon.parts ?_)
    | dsimp only

theorem Canon.followMsg {s : State} (h : Canon z s) (ty : Nat) (mseq : BitVec 24) (words : List (BitVec 64))
    {f : State → List Nat → State} (hf : ∀ t ws, Canon z t → Canon z (f t ws)) : Canon z (State.followMsg s ty mseq words f) := by
  unfold State.followMsg
  refine h.receive3 _ _ (fun t ht => ?_)
  repeat' first
    | with_reducible assumption
    | with_reducible exact hf _ _ ht
    | with_reducible apply Canon.ite

theorem Canon.on_execMirrorCmd {s : State} (h : Canon z s) (_flags : BitVec 8) (mseq : BitVec 24) (words : List (BitVec 64)) :
    CanonX z (execMirrorCmd _flags mseq words s) := by
  unfold execMirrorCmd
  repeat' first
    | (with_reducible first | assumption | apply CanonX.next | refine Canon.followMsg ?_ _ _ _ (fun _ _ _ => ?_)
                            | apply Canon.recvCmd)
    | split
    | (with_reducible apply Canon.ofMk; with_reducible refine Canon.parts ?_)

theorem Canon.on_execMirrorData {s : State} (h : Canon z s) (_flags : BitVec 8) (mseq : BitVec 24) (words : List (BitVec 64)) :
    CanonX z (execMirrorData _flags mseq words s) := by
  unfold execMirrorData
  repeat' first
    | (with_reducible first | assumption | apply CanonX.next | refine Canon.followMsg ?_ _ _ _ (fun _ _ _ => ?_)
                            | apply Canon.recvData)
    | split
    | (with_reducible apply Canon.ofMk; with_reducible refine Canon.parts ?_)

theorem Canon.on_execMirrorReg {s : State} (h : Canon z s) (_flags : BitVec 8) (mseq : BitVec 24) (words : List (BitVec 64)) :
    CanonX z (execMirrorReg _flags mseq words s) := by
  unfold execMirrorReg
  repeat' first
    | (with_reducible first | assumption | apply CanonX.next | refine Canon.followMsg ?_ _ _ _ (fun _ _ _ => ?_)
                            | apply Canon.recvReg)
    | split
    | (with_reducible apply Canon.ofMk; with_reducible refine Canon.parts ?_)

theorem Canon.on_execMirrorOwn {s : State} (h : Canon z s) (_flags : BitVec 8) (mseq : BitVec 24) (words : List (BitVec 64)) :
    CanonX z (execMirrorOwn _flags mseq words s) := by
  unfold execMirrorOwn
  repeat' first
    | (with_reducible first | assumption | apply CanonX.next | refine Canon.followMsg ?_ _ _ _ (fun _ _ _ => ?_)
                            | apply Canon.recvOwn)
    | split
    | (with_reducible apply Canon.ofMk; with_reducible refine Canon.parts ?_)

theorem Canon.on_execGroupEnd {s : State} (h : Canon z s) (_flags : BitVec 8) (mseq : BitVec 24) (words : List (BitVec 64)) :
    CanonX z (execGroupEnd _flags mseq words s) := by
  unfold execGroupEnd
  repeat' first
    | (with_reducible first | assumption | apply CanonX.next | refine Canon.followMsg ?_ _ _ _ (fun _ _ _ => ?_)
                            | apply Canon.recvGroupEnd)
    | split
    | (with_reducible apply Canon.ofMk; with_reducible refine Canon.parts ?_)

theorem Canon.on_execGroupAck {s : State} (h : Canon z s) (_flags : BitVec 8) (mseq : BitVec 24) (words : List (BitVec 64)) :
    CanonX z (execGroupAck _flags mseq words s) := by
  unfold execGroupAck
  repeat' first
    | (with_reducible first | assumption | apply Canon.ite | apply CanonX.ite | apply CanonX.next
                            | refine Canon.receive3 ?_ _ _ (fun _ _ => ?_) | apply Canon.recvGroupAck)
    | split
    | (with_reducible apply Canon.ofMk; with_reducible refine Canon.parts ?_)

theorem Canon.on_execDecision {s : State} (h : Canon z s) (_flags : BitVec 8) (mseq : BitVec 24) (words : List (BitVec 64)) :
    CanonX z (execDecision _flags mseq words s) := by
  unfold execDecision
  repeat' first
    | (with_reducible first | assumption | apply CanonX.next | refine Canon.followMsg ?_ _ _ _ (fun _ _ _ => ?_)
                            | apply Canon.recvDecision)
    | split
    | (with_reducible apply Canon.ofMk; with_reducible refine Canon.parts ?_)

theorem Canon.on_execDecisionMissing {s : State} (h : Canon z s) : CanonX z (execDecisionMissing s) := by
  unfold execDecisionMissing
  repeat' first
    | (with_reducible first | assumption | apply CanonX.next | refine Canon.receive ?_ (fun _ _ => ?_)
                            | apply Canon.dropUndecided)
    | split
    | (with_reducible apply Canon.ofMk; with_reducible refine Canon.parts ?_)

theorem Canon.on_execSnapBegin {s : State} (h : Canon z s) (_flags : BitVec 8) (mseq : BitVec 24) (words : List (BitVec 64)) :
    CanonX z (execSnapBegin _flags mseq words s) := by
  unfold execSnapBegin
  repeat' first
    | (with_reducible first | assumption | apply Canon.ite | apply CanonX.ite | apply CanonX.next
                            | refine Canon.receive3 ?_ _ _ (fun _ _ => ?_) | apply Canon.snapStart)
    | split
    | (with_reducible apply Canon.ofMk; with_reducible refine Canon.parts ?_)

theorem Canon.on_execSnapEnd {s : State} (h : Canon z s) (_flags : BitVec 8) (mseq : BitVec 24) (words : List (BitVec 64)) :
    CanonX z (execSnapEnd _flags mseq words s) := by
  unfold execSnapEnd
  repeat' first
    | (with_reducible first | assumption | apply CanonX.next | refine Canon.followMsg ?_ _ _ _ (fun _ _ _ => ?_)
                            | apply Canon.snapEnd)
    | split
    | (with_reducible apply Canon.ofMk; with_reducible refine Canon.parts ?_)

theorem Canon.on_execSeqAlign {s : State} (h : Canon z s) (_flags : BitVec 8) (mseq : BitVec 24) (words : List (BitVec 64)) :
    CanonX z (execSeqAlign _flags mseq words s) := by
  unfold execSeqAlign
  repeat' first
    | (with_reducible first | assumption | apply CanonX.next | refine Canon.each _ ?_ (fun _ _ _ => ?_)
                            | refine Canon.followMsg ?_ _ _ _ (fun _ _ _ => ?_) | apply Canon.alignSeq)
    | split
    | (with_reducible apply Canon.ofMk; with_reducible refine Canon.parts ?_)

theorem Canon.on_execRetransmitTimeout {s : State} (h : Canon z s) : CanonX z (execRetransmitTimeout s) := by
  unfold execRetransmitTimeout
  repeat' first
    | (with_reducible first | assumption | apply Canon.ite | apply CanonX.ite | apply CanonX.next
                            | apply Canon.setCway | apply Canon.resend)
    | split
    | (with_reducible apply Canon.ofMk; with_reducible refine Canon.parts ?_)
    | dsimp only

theorem Canon.on_execLinkAckInterval {s : State} (h : Canon z s) : CanonX z (execLinkAckInterval s) := by
  unfold execLinkAckInterval
  repeat' first
    | (with_reducible first | assumption | apply Canon.ite | apply CanonX.ite | apply CanonX.next
                            | apply Canon.setCway | apply Canon.send)
    | split
    | (with_reducible apply Canon.ofMk; with_reducible refine Canon.parts ?_)
    | dsimp only

theorem Canon.on_execMessageTimeout {s : State} (h : Canon z s) : CanonX z (execMessageTimeout s) := by
  unfold execMessageTimeout
  repeat' first
    | (with_reducible first | assumption | apply CanonX.next)
    | split
    | (with_reducible apply Canon.ofMk; with_reducible refine Canon.parts ?_)

theorem Canon.on_execMsgCrcErr {s : State} (h : Canon z s) :
    CanonX z (execMsgCrcErr s) := by
  unfold execMsgCrcErr
  repeat' first
    | (with_reducible first | assumption | apply CanonX.next | refine Canon.when _ ?_ (fun _ _ => ?_)
                            | refine Canon.receive ?_ (fun _ _ => ?_) | apply Canon.addFld)
    | split
    | (with_reducible apply Canon.ofMk; with_reducible refine Canon.parts ?_)

theorem Canon.on_execKatPeriod {s : State} (h : Canon z s) : CanonX z (execKatPeriod s) := by
  unfold execKatPeriod
  repeat' first
    | (with_reducible first | assumption | apply Canon.ite | apply CanonX.ite | apply CanonX.next
                            | apply Canon.startKatPass)
    | split
    | (with_reducible apply Canon.ofMk; with_reducible refine Canon.parts ?_)
    | dsimp only

theorem Canon.on_execKatComplete {s : State} (h : Canon z s) (island : Fin 145) (pass : Bool) :
    CanonX z (execKatComplete island pass s) := by
  unfold execKatComplete
  repeat' first
    | (with_reducible first | assumption | apply CanonX.next | apply Canon.katDone)
    | split
    | (with_reducible apply Canon.ofMk; with_reducible refine Canon.parts ?_)

theorem Canon.opHandover {s : State} (h : Canon z s) (r : Request) : CanonP z (State.opHandover s r) := by
  unfold State.opHandover
  repeat' first
    | (with_reducible first | assumption | apply Canon.ite | apply CanonP.ite | apply Canon.startHandover
                            | apply CanonP.fst | refine CanonP.of (by with_reducible assumption) ?_)
    | split
    | with_reducible refine CanonP.mk ?_ _
    | (with_reducible apply Canon.ofMk; with_reducible refine Canon.parts ?_)
    | dsimp only

theorem Canon.on_execHandover {s : State} (h : Canon z s) (e : Fin 16) : CanonX z (execHandover e s) := by
  unfold execHandover
  repeat' first
    | (with_reducible first | assumption | apply CanonX.next | refine Canon.process ?_ _ _ (fun _ => ?_)
                            | refine Canon.processWhen ?_ _ _ _ (fun _ => ?_) | apply Canon.opHandover
                            | apply CanonP.fst | refine CanonP.of (by with_reducible assumption) ?_)
    | split
    | (with_reducible apply Canon.ofMk; with_reducible refine Canon.parts ?_)

theorem Canon.handedOver {s : State} (h : Canon z s) (h : Handover) (r : Nat) :
    Canon z (State.handedOver s h r) := by
  unfold State.handedOver
  repeat' first
    | (with_reducible first | assumption | apply Canon.setHandovers | apply Canon.enterRole | apply Canon.addFld
                            | apply Canon.raise)
    | split
    | (with_reducible apply Canon.ofMk; with_reducible refine Canon.parts ?_)
    | dsimp only

theorem Canon.sendsFrom {s : State} (h : Canon z s) (t : Nat) : Canon z (State.sendsFrom s t) := by
  unfold State.sendsFrom
  repeat' first
    | (with_reducible first | assumption | apply Canon.setCway)
    | split
    | (with_reducible apply Canon.ofMk; with_reducible refine Canon.parts ?_)

theorem Canon.on_execHandoverApply {s : State} (h : Canon z s) : CanonX z (execHandoverApply s) := by
  unfold execHandoverApply
  repeat' first
    | (with_reducible first | assumption | apply Canon.ite | apply CanonX.ite | apply CanonX.next
                            | apply Canon.decided | apply Canon.handedOver | apply Canon.sendsFrom)
    | split
    | (with_reducible apply Canon.ofMk; with_reducible refine Canon.parts ?_)

theorem Canon.ownTakesWhole {s : State} (h : Canon z s) : Canon z (State.ownTakesWhole s) := by
  unfold State.ownTakesWhole
  repeat' first
    | (with_reducible first | assumption | apply Canon.setTakes)
    | split
    | (with_reducible apply Canon.ofMk; with_reducible refine Canon.parts ?_)

theorem Canon.on_execHandoverRelease {s : State} (h : Canon z s) : CanonX z (execHandoverRelease s) := by
  unfold execHandoverRelease
  repeat' first
    | (with_reducible first | assumption | apply Canon.ite | apply CanonX.ite | apply CanonX.next
                            | apply Canon.decided | apply Canon.handedOver | apply Canon.ownTakesWhole)
    | split
    | (with_reducible apply Canon.ofMk; with_reducible refine Canon.parts ?_)

end Sys2Proof.Machine
end

