-- ==== Sys2Proof/Laws/CanonService.lean ====
section
/-! SUPPORT. The operations of Machine/Service.lean keep the canonical form of a state. -/

namespace Sys2Proof.Machine
open Reg

variable {z : State}

theorem Canon.markRetired {s : State} (h : Canon z s) (x : Nat × Nat) : Canon z (State.markRetired s x) := by
  unfold State.markRetired
  repeat' first
    | (with_reducible first | assumption | apply Canon.ite | apply Canon.addFld | apply Canon.setFld)
    | split
    | (with_reducible apply Canon.ofMk; with_reducible refine Canon.parts ?_)
    | dsimp only

theorem Canon.applyEntry {s : State} (h : Canon z s) (x : Nat × Nat) : Canon z (State.applyEntry s x) := by
  unfold State.applyEntry
  repeat' first
    | (with_reducible first | assumption | apply Canon.ite | apply Canon.addFld | apply Canon.regWrite)
    | split
    | (with_reducible apply Canon.ofMk; with_reducible refine Canon.parts ?_)
    | dsimp only

theorem Canon.useSettings {s : State} (h : Canon z s) (c : Nat) (x : SettingsCopy) :
    Canon z (State.useSettings s c x) := by
  unfold State.useSettings
  repeat' first
    | (with_reducible first | assumption | refine Canon.each _ ?_ (fun _ _ _ => ?_) | apply Canon.markRetired
                            | apply Canon.setFld | apply Canon.applyEntry)
    | split
    | (with_reducible apply Canon.ofMk; with_reducible refine Canon.parts ?_)
    | dsimp only

theorem Canon.on_execSettingsApplied {s : State} (h : Canon z s) : CanonX z (execSettingsApplied s) := by
  unfold execSettingsApplied
  repeat' first
    | (with_reducible first | assumption | apply Canon.ite | apply CanonX.ite | apply CanonX.next
                            | apply Canon.useSettings | apply Canon.setFld | apply Canon.startKatPass)
    | split
    | (with_reducible apply Canon.ofMk; with_reducible refine Canon.parts ?_)
    | dsimp only

theorem Canon.reportFallback {s : State} (h : Canon z s) : Canon z (State.reportFallback s) := by
  unfold State.reportFallback
  repeat' first
    | (with_reducible first | assumption | apply Canon.ite | apply Canon.writeBootControl | apply Canon.raise)
    | split
    | (with_reducible apply Canon.ofMk; with_reducible refine Canon.parts ?_)
    | dsimp only

theorem Canon.commitSvn {s : State} (h : Canon z s) : Canon z (State.commitSvn s) := by
  unfold State.commitSvn
  repeat' first
    | (with_reducible first | assumption | apply Canon.ite | apply Canon.setFld)
    | split
    | (with_reducible apply Canon.ofMk; with_reducible refine Canon.parts ?_)
    | dsimp only

theorem Canon.revokeKeys {s : State} (h : Canon z s) (readOk : Bool) : Canon z (State.revokeKeys s readOk) := by
  unfold State.revokeKeys
  repeat' first
    | (with_reducible first | assumption | apply Canon.ite | apply Canon.setFld)
    | split
    | (with_reducible apply Canon.ofMk; with_reducible refine Canon.parts ?_)
    | dsimp only

theorem Canon.on_execServiceReached {s : State} (h : Canon z s) (readOk : Bool) :
    CanonX z (execServiceReached readOk s) := by
  unfold execServiceReached
  repeat' first
    | (with_reducible first | assumption | apply Canon.ite | apply CanonX.ite | apply CanonX.next
                            | refine Canon.when _ ?_ (fun _ _ => ?_) | apply Canon.setFld | apply Canon.reportFallback
                            | apply Canon.commitSvn | apply Canon.revokeKeys | apply Canon.enterRole)
    | split
    | (with_reducible apply Canon.ofMk; with_reducible refine Canon.parts ?_)
    | dsimp only

theorem Canon.on_execSettingsMigrated {s : State} (h : Canon z s) (ok : Bool) :
    CanonX z (execSettingsMigrated ok s) := by
  unfold execSettingsMigrated
  repeat' first
    | (with_reducible first | assumption | apply Canon.ite | apply CanonX.ite | apply CanonX.next
                            | apply Canon.putSettings | apply Canon.setFld | apply Canon.raise)
    | split
    | (with_reducible apply Canon.ofMk; with_reducible refine Canon.parts ?_)
    | dsimp only

theorem Canon.on_execSettingsAutosave {s : State} (h : Canon z s) : CanonX z (execSettingsAutosave s) := by
  unfold execSettingsAutosave
  repeat' first
    | (with_reducible first | assumption | apply Canon.ite | apply CanonX.ite | apply CanonX.next
                            | apply Canon.putSettings)
    | split
    | (with_reducible apply Canon.ofMk; with_reducible refine Canon.parts ?_)
    | dsimp only

end Sys2Proof.Machine
end

