-- ==== Sys2Proof/Laws/CanonViews.lean ====
section
/-! SUPPORT. The operations of Machine/Views.lean keep the canonical form of a state. -/

namespace Sys2Proof.Machine
open Reg

variable {z : State}

theorem Canon.readAt {s : State} (h : Canon z s) (off : Nat) : CanonP z (State.readAt s off) := by
  unfold State.readAt
  repeat' first
    | (with_reducible first | assumption | apply Canon.ite | apply CanonP.ite | apply Canon.readNowLo
                            | apply Canon.readFlData | apply CanonP.fst
                            | refine CanonP.of (by with_reducible assumption) ?_)
    | split
    | with_reducible refine CanonP.mk ?_ _
    | (with_reducible apply Canon.ofMk; with_reducible refine Canon.parts ?_)

theorem Canon.hostRead {s : State} (h : Canon z s) (r off width : Nat) :
    Canon z (State.hostRead s r off width) := by
  unfold State.hostRead
  repeat' first
    | (with_reducible first | assumption | apply Canon.ite | apply Canon.logBar | apply Canon.emit
                            | apply Canon.hostCrossed | apply Canon.readAt | apply CanonP.fst
                            | refine CanonP.of (by with_reducible assumption) ?_)
    | split
    | (with_reducible apply Canon.ofMk; with_reducible refine Canon.parts ?_)
    | dsimp only

end Sys2Proof.Machine
end

