-- ==== Sys2Proof/Laws/CanonDbg.lean ====
section
/-! SUPPORT. The operations of Machine/Dbg.lean keep the canonical form of a state. -/

namespace Sys2Proof.Machine
open Reg

variable {z : State}

theorem Canon.loadIr {s : State} (h : Canon z s) (code : Nat) : Canon z (State.loadIr s code) := by
  unfold State.loadIr
  repeat' first
    | (with_reducible first | assumption)
    | split
    | (with_reducible apply Canon.ofMk; with_reducible refine Canon.parts ?_)

theorem Canon.scanIr {s : State} (h : Canon z s) (code : Nat) : Canon z (State.scanIr s code) := by
  unfold State.scanIr
  repeat' first
    | (with_reducible first | assumption | apply Canon.ite | apply Canon.emit | apply Canon.loadIr)
    | split
    | (with_reducible apply Canon.ofMk; with_reducible refine Canon.parts ?_)

theorem Canon.boundaryScan {s : State} (h : Canon z s) : Canon z (State.boundaryScan s) := by
  unfold State.boundaryScan
  repeat' first
    | (with_reducible first | assumption | apply Canon.emit | apply Canon.advance)
    | split
    | (with_reducible apply Canon.ofMk; with_reducible refine Canon.parts ?_)
    | dsimp only

theorem Canon.scanRequest {s : State} (h : Canon z s) (code : Nat) : Canon z (State.scanRequest s code) := by
  unfold State.scanRequest
  repeat' first
    | (with_reducible first | assumption | apply Canon.scanIr | apply Canon.raise)
    | split
    | (with_reducible apply Canon.ofMk; with_reducible refine Canon.parts ?_)

theorem Canon.setConductor {s : State} (h : Canon z s) (k : Nat) (x : Conductor) :
    Canon z (State.setConductor s k x) := by
  unfold State.setConductor
  repeat' first
    | (with_reducible first | assumption)
    | split
    | (with_reducible apply Canon.ofMk; with_reducible refine Canon.parts ?_)

theorem Canon.drawConductor {s : State} (h : Canon z s) (k : Nat) : Canon z (State.drawConductor s k) := by
  unfold State.drawConductor
  repeat' first
    | (with_reducible first | assumption | apply Canon.advance | apply Canon.setConductor)
    | split
    | (with_reducible apply Canon.ofMk; with_reducible refine Canon.parts ?_)

theorem Canon.losePtp {s : State} (h : Canon z s) : Canon z (State.losePtp s) := by
  unfold State.losePtp
  repeat' first
    | (with_reducible first | assumption | apply Canon.ite | refine Canon.each _ ?_ (fun _ _ _ => ?_)
                            | apply Canon.loseRef)
    | split
    | (with_reducible apply Canon.ofMk; with_reducible refine Canon.parts ?_)

theorem Canon.haltConductor {s : State} (h : Canon z s) (k cause : Nat) :
    Canon z (State.haltConductor s k cause) := by
  unfold State.haltConductor
  repeat' first
    | (with_reducible first | assumption | apply Canon.drawConductor | apply Canon.setFld | apply Canon.losePtp
                            | apply Canon.refreshReady)
    | split
    | (with_reducible apply Canon.ofMk; with_reducible refine Canon.parts ?_)
    | dsimp only

theorem Canon.haltReq {s : State} (h : Canon z s) (k : Nat) : Canon z (State.haltReq s k) := by
  unfold State.haltReq
  repeat' first
    | (with_reducible first | assumption | apply Canon.ite | apply Canon.haltConductor | apply Canon.enterDebug
                            | refine Canon.setCore ?_ _ ?_ | apply CoreOk.ite | apply Canon.core (z := z))
    | exact CoreOk.setRange (Canon.core (z := z) (by with_reducible assumption) _) _ _
    | exact CoreOk.of_eq (Canon.core (z := z) (by with_reducible assumption) _) rfl rfl
    | refine CoreOk.of_eq (Canon.core (z := z) ?_ _) rfl rfl
    | split
    | (with_reducible apply Canon.ofMk; with_reducible refine Canon.parts ?_)
    | dsimp only

theorem Canon.resumeCore {s : State} (h : Canon z s) (k : Nat) : Canon z (State.resumeCore s k) := by
  unfold State.resumeCore
  repeat' first
    | (with_reducible first | assumption | apply Canon.ite | apply Canon.setFld | apply Canon.refreshReady
                            | refine Canon.setCore ?_ _ ?_ | apply CoreOk.ite | apply Canon.core (z := z))
    | exact CoreOk.setRange (Canon.core (z := z) (by with_reducible assumption) _) _ _
    | exact CoreOk.of_eq (Canon.core (z := z) (by with_reducible assumption) _) rfl rfl
    | refine CoreOk.of_eq (Canon.core (z := z) ?_ _) rfl rfl
    | split
    | (with_reducible apply Canon.ofMk; with_reducible refine Canon.parts ?_)
    | dsimp only

theorem Canon.after {s : State} (h : Canon z s) {o : Out} (ho : CanonX z o) : Canon z (after s o) := by
  cases o with
  | next t => exact ho t rfl
  | fault _ => exact h
  | refused _ => exact h

theorem Canon.stepCore {s : State} (h : Canon z s) (k : Nat) : Canon z (State.stepCore s k) := by
  unfold State.stepCore
  refine Canon.ite h (Canon.ite ?_ ?_)
  · with_reducible apply Canon.ofMk
    with_reducible refine Canon.parts ?_
    exact (h.drawConductor _).setFld _ _ _ _
  · have h1 := h.resumeCore k
    have h2 : Canon z ((s.resumeCore k).setCore k { (s.resumeCore k).core k with stepping := true }) :=
      h1.setCore k (CoreOk.of_eq (h1.core k) rfl rfl)
    exact Canon.after h2 (h2.on_probeAny _ _)

theorem Canon.setProbeReg {s : State} (h : Canon z s) (k sel lo hi : Nat) :
    Canon z (State.setProbeReg s k sel lo hi) := by
  unfold State.setProbeReg
  repeat' first
    | (with_reducible first | assumption | apply Canon.ite | apply Canon.setFld | refine Canon.setCore ?_ _ ?_
                            | apply CoreOk.ite | apply CoreOk.setAcc | apply CoreOk.setD | apply CoreOk.setXf
                            | apply CoreOk.setLoop | apply Canon.core (z := z))
    | exact CoreOk.setRange (Canon.core (z := z) (by with_reducible assumption) _) _ _
    | exact CoreOk.of_eq (Canon.core (z := z) (by with_reducible assumption) _) rfl rfl
    | refine CoreOk.of_eq (Canon.core (z := z) ?_ _) rfl rfl
    | split
    | (with_reducible apply Canon.ofMk; with_reducible refine Canon.parts ?_)
    | dsimp only

theorem Canon.setConductorReg {s : State} (h : Canon z s) (k sel lo : Nat) :
    Canon z (State.setConductorReg s k sel lo) := by
  unfold State.setConductorReg
  repeat' first
    | (with_reducible first | assumption | apply Canon.ite | apply Canon.setConductor)
    | split
    | (with_reducible apply Canon.ofMk; with_reducible refine Canon.parts ?_)
    | dsimp only

theorem Canon.writeRegData {s : State} (h : Canon z s) (k : Nat) (hi : Bool) (v : Nat) :
    Canon z (State.writeRegData s k hi v) := by
  unfold State.writeRegData
  repeat' first
    | (with_reducible first | assumption | apply Canon.ite | apply Canon.setConductorReg | apply Canon.setProbeReg)
    | split
    | (with_reducible apply Canon.ofMk; with_reducible refine Canon.parts ?_)
    | dsimp only

theorem Canon.beginOp {s : State} (h : Canon z s) (status data : Nat) (bus : Bool) :
    Canon z (State.beginOp s status data bus) := by
  unfold State.beginOp
  repeat' first
    | (with_reducible first | assumption)
    | split
    | (with_reducible apply Canon.ofMk; with_reducible refine Canon.parts ?_)

theorem Canon.beginOpen {s : State} (h : Canon z s) (status : Nat) (bus : Bool) :
    Canon z (State.beginOpen s status bus) := by
  unfold State.beginOpen
  repeat' first
    | (with_reducible first | assumption | apply Canon.advance | apply Canon.beginOp)
    | split
    | (with_reducible apply Canon.ofMk; with_reducible refine Canon.parts ?_)

theorem Canon.readRegData {s : State} (h : Canon z s) (k : Nat) (hi : Bool) :
    Canon z (State.readRegData s k hi) := by
  unfold State.readRegData
  repeat' first
    | (with_reducible first | assumption | apply Canon.ite | apply Canon.beginOp | apply Canon.beginOpen)
    | split
    | (with_reducible apply Canon.ofMk; with_reducible refine Canon.parts ?_)

theorem Canon.detach {s : State} (h : Canon z s) : Canon z (State.detach s) := by
  unfold State.detach
  repeat' first
    | (with_reducible first | assumption | refine Canon.each _ ?_ (fun _ _ _ => ?_)
                            | refine Canon.upTo _ ?_ (fun _ _ _ => ?_) | apply Canon.resumeCore | apply Canon.resetFld
                            | apply Canon.setFld | apply Canon.raise)
    | split
    | (with_reducible apply Canon.ofMk; with_reducible refine Canon.parts ?_)
    | dsimp only

theorem Canon.writeAttach {s : State} (h : Canon z s) (v : Nat) : Canon z (State.writeAttach s v) := by
  unfold State.writeAttach
  repeat' first
    | (with_reducible first | assumption | apply Canon.ite | apply Canon.detach | apply Canon.setFld
                            | apply Canon.writeReq | apply Canon.raise)
    | split
    | (with_reducible apply Canon.ofMk; with_reducible refine Canon.parts ?_)

theorem Canon.startAccess {s : State} (h : Canon z s) (write : Option Nat) :
    Canon z (State.startAccess s write) := by
  unfold State.startAccess
  repeat' first
    | (with_reducible first | assumption | apply Canon.icArrive | apply Canon.setFld | apply Canon.beginOpen)
    | split
    | (with_reducible apply Canon.ofMk; with_reducible refine Canon.parts ?_)
    | dsimp only

theorem Canon.writeBusCtl {s : State} (h : Canon z s) (v : Nat) : Canon z (State.writeBusCtl s v) := by
  unfold State.writeBusCtl
  repeat' first
    | (with_reducible first | assumption | apply Canon.ite | apply Canon.setFld | apply Canon.startAccess
                            | apply Canon.beginOpen)
    | split
    | (with_reducible apply Canon.ofMk; with_reducible refine Canon.parts ?_)
    | dsimp only

theorem Canon.writeCoreCtl {s : State} (h : Canon z s) (k v : Nat) : Canon z (State.writeCoreCtl s k v) := by
  unfold State.writeCoreCtl
  repeat' first
    | (with_reducible first | assumption | apply Canon.ite | refine Canon.when _ ?_ (fun _ _ => ?_)
                            | apply Canon.setFld | apply Canon.resumeCore | apply Canon.stepCore | apply Canon.haltReq)
    | split
    | (with_reducible apply Canon.ofMk; with_reducible refine Canon.parts ?_)
    | dsimp only

theorem Canon.dbgReadAt {s : State} (h : Canon z s) (off : Nat) : Canon z (State.dbgReadAt s off) := by
  unfold State.dbgReadAt
  repeat' first
    | (with_reducible first | assumption | apply Canon.ite | apply Canon.beginOpen | apply Canon.readRegData
                            | apply Canon.beginOp)
    | split
    | (with_reducible apply Canon.ofMk; with_reducible refine Canon.parts ?_)

theorem Canon.dbgWriteAt {s : State} (h : Canon z s) (off v : Nat) : Canon z (State.dbgWriteAt s off v) := by
  unfold State.dbgWriteAt
  repeat' first
    | (with_reducible first | assumption | apply Canon.ite | apply Canon.beginOpen | apply Canon.writeBusCtl
                            | apply Canon.writeCoreCtl | apply Canon.writeRegData | apply Canon.putWord)
    | split
    | (with_reducible apply Canon.ofMk; with_reducible refine Canon.parts ?_)

theorem Canon.dbgUpdate {s : State} (h : Canon z s) (off : Nat) (v : Option Nat) :
    Canon z (State.dbgUpdate s off v) := by
  unfold State.dbgUpdate
  repeat' first
    | (with_reducible first | assumption | apply Canon.ite | apply Canon.writeAttach | apply Canon.beginOpen
                            | apply Canon.beginOp | apply Canon.dbgWriteAt | apply Canon.dbgReadAt)
    | split
    | (with_reducible apply Canon.ofMk; with_reducible refine Canon.parts ?_)

theorem Canon.dbgScan {s : State} (h : Canon z s) (off : Nat) (v : Option Nat) :
    Canon z (State.dbgScan s off v) := by
  unfold State.dbgScan
  repeat' first
    | (with_reducible first | assumption | apply Canon.ite | apply Canon.scanIr | apply Canon.emit
                            | apply Canon.dbgUpdate)
    | split
    | (with_reducible apply Canon.ofMk; with_reducible refine Canon.parts ?_)
    | dsimp only

theorem Canon.coreCtl {s : State} (h : Canon z s) (k bits : Nat) : Canon z (State.coreCtl s k bits) := by
  unfold State.coreCtl
  repeat' first
    | (with_reducible first | assumption | apply Canon.dbgScan)
    | split
    | (with_reducible apply Canon.ofMk; with_reducible refine Canon.parts ?_)

theorem Canon.publishOp {s : State} (h : Canon z s) : Canon z (State.publishOp s) := by
  unfold State.publishOp
  repeat' first
    | (with_reducible first | assumption)
    | split
    | (with_reducible apply Canon.ofMk; with_reducible refine Canon.parts ?_)

theorem Canon.busRead {s : State} (h : Canon z s) (t : BusTarget) (v : Nat) : CanonP z (State.busRead s t v) := by
  unfold State.busRead
  repeat' first
    | (with_reducible first | assumption | apply Canon.ite | apply CanonP.ite | apply Canon.readAt | apply CanonP.fst
                            | refine CanonP.of (by with_reducible assumption) ?_)
    | split
    | with_reducible refine CanonP.mk ?_ _
    | (with_reducible apply Canon.ofMk; with_reducible refine Canon.parts ?_)

theorem Canon.busWriteBar {s : State} (h : Canon z s) (off v : Nat) : Canon z (State.busWriteBar s off v) := by
  unfold State.busWriteBar
  repeat' first
    | (with_reducible first | assumption | apply Canon.ite | apply Canon.regWrite)
    | split
    | (with_reducible apply Canon.ofMk; with_reducible refine Canon.parts ?_)
    | dsimp only

theorem Canon.busWriteFlow {s : State} (h : Canon z s) (f w v : Nat) : Canon z (State.busWriteFlow s f w v) := by
  unfold State.busWriteFlow
  repeat' first
    | (with_reducible first | assumption | apply Canon.ite | apply Canon.setFlow)
    | split
    | (with_reducible apply Canon.ofMk; with_reducible refine Canon.parts ?_)
    | dsimp only

theorem Canon.busWrite {s : State} (h : Canon z s) (t : BusTarget) (v : Nat) : Canon z (State.busWrite s t v) := by
  unfold State.busWrite
  refine Canon.ite h ?_
  cases t with
  | imem c w => exact h.setCore _ (CoreOk.putImem (h.core c) w v)
  | dmem c w => exact h.setCore _ (((h.core c).setData _ _).setData _ _)
  | anc w => exact Canon.setAnc h (Tab.wf_set h.ancOk _ _)
  | _ =>
    dsimp only
    repeat' first
      | with_reducible assumption
      | with_reducible apply Canon.ite
      | with_reducible apply Canon.busWriteBar
      | with_reducible apply Canon.busWriteFlow
      | with_reducible apply Canon.putStoreWord
      | with_reducible apply Canon.otherError
      | split
      | (with_reducible apply Canon.ofMk; with_reducible refine Canon.parts ?_)

theorem Canon.icTimedOut {s : State} (h : Canon z s) : Canon z (State.icTimedOut s) := by
  unfold State.icTimedOut
  repeat' first
    | (with_reducible first | assumption | apply Canon.addFld | apply Canon.raiseOpen)
    | split
    | (with_reducible apply Canon.ofMk; with_reducible refine Canon.parts ?_)

theorem Canon.endAccess {s : State} (h : Canon z s) (read : Option Nat) (resp : Nat) :
    Canon z (State.endAccess s read resp) := by
  unfold State.endAccess
  repeat' first
    | (with_reducible first | assumption | refine Canon.when _ ?_ (fun _ _ => ?_) | apply Canon.icEnd
                            | apply Canon.setFld | apply Canon.setPair | apply Canon.publishOp)
    | split
    | (with_reducible apply Canon.ofMk; with_reducible refine Canon.parts ?_)
    | dsimp only

theorem Canon.failAccess {s : State} (h : Canon z s) (x : BusAccess) (resp : Nat) :
    Canon z (State.failAccess s x resp) := by
  unfold State.failAccess
  repeat' first
    | (with_reducible first | assumption | apply Canon.ite | apply Canon.endAccess)
    | split
    | (with_reducible apply Canon.ofMk; with_reducible refine Canon.parts ?_)

theorem Canon.accessTimeout {s : State} (h : Canon z s) : Canon z (State.accessTimeout s) := by
  unfold State.accessTimeout
  repeat' first
    | (with_reducible first | assumption | apply Canon.ite | apply Canon.icTimedOut | apply Canon.failAccess)
    | split
    | (with_reducible apply Canon.ofMk; with_reducible refine Canon.parts ?_)

theorem Canon.accessDone {s : State} (h : Canon z s) (answer : BusAnswer) : Canon z (State.accessDone s answer) := by
  unfold State.accessDone
  cases s.dbg.access with
  | none => exact h
  | some x =>
    dsimp only
    cases busTarget x.addr with
    | none => exact h.failAccess _ _
    | some t =>
      cases answer with
      | timeout => exact h.accessTimeout
      | data d =>
        refine Canon.ite h ?_
        cases x.write with
        | none => exact (CanonP.fst (h.busRead t _)).endAccess _ _
        | some v => exact (h.busWrite t v).endAccess _ _

theorem Canon.decodeError {s : State} (h : Canon z s) (m addr : Nat) : Canon z (State.decodeError s m addr) := by
  unfold State.decodeError
  repeat' first
    | (with_reducible first | assumption | apply Canon.ite | refine Canon.when _ ?_ (fun _ _ => ?_)
                            | apply Canon.failAccess | apply Canon.addFld | apply Canon.setPair | apply Canon.setFld
                            | apply Canon.raise)
    | split
    | (with_reducible apply Canon.ofMk; with_reducible refine Canon.parts ?_)
    | dsimp only

end Sys2Proof.Machine
end

