-- ==== Sys2Proof/Laws/CanonStats.lean ====
section
/-! SUPPORT. The operations of Machine/Stats.lean keep the canonical form of a state. -/

namespace Sys2Proof.Machine
open Reg

variable {z : State}

theorem Canon.clearCounters {s : State} (h : Canon z s) (b : Blk) (i base lo hi : Nat) (ok : Nat → Bool) :
    Canon z (State.clearCounters s b i base lo hi ok) := by
  unfold State.clearCounters
  repeat' first
    | (with_reducible first | assumption | refine Canon.each _ ?_ (fun _ _ _ => ?_)
                            | refine Canon.upTo _ ?_ (fun _ _ _ => ?_) | apply Canon.setFld)
    | split
    | (with_reducible apply Canon.ofMk; with_reducible refine Canon.parts ?_)
    | dsimp only

theorem Canon.statsClear {s : State} (h : Canon z s) (set i : Nat) : Canon z (State.statsClear s set i) := by
  unfold State.statsClear
  repeat' first
    | (with_reducible first | assumption | apply Canon.clearCounters | apply Canon.updFlow | apply Canon.setAudGroup)
    | split
    | (with_reducible apply Canon.ofMk; with_reducible refine Canon.parts ?_)
    | dsimp only

theorem Canon.opStats {s : State} (h : Canon z s) (r : Request) : CanonP z (State.opStats s r) := by
  unfold State.opStats
  dsimp only
  generalize State.entryChecks s r _ _ = e
  cases e with
  | some d => exact CanonP.mk h _
  | none =>
    refine CanonP.mk (Canon.setFree ?_ (Nat.le_trans (Nat.le_add_right _ _) (Nat.le_add_right _ _))) _
    exact Canon.when _ h (fun _ ht => Canon.each _ ht (fun _ _ hu => hu.statsClear _ _))

theorem Canon.on_execStatsSnapshot {s : State} (h : Canon z s) (e : Fin 16) (bad : Option (BitVec 64)) :
    CanonX z (execStatsSnapshot e bad s) := by
  unfold execStatsSnapshot
  repeat' first
    | (with_reducible first | assumption | apply CanonX.next | apply Canon.opStats | apply Canon.deliverData
                            | apply CanonP.fst | refine CanonP.of (by with_reducible assumption) ?_)
    | split
    | (with_reducible apply Canon.ofMk; with_reducible refine Canon.parts ?_)
    | dsimp only

end Sys2Proof.Machine
end

