-- ==== Sys2Proof/Laws/CanonTick.lean ====
section
/-! SUPPORT. The operations of Machine/Tick.lean keep the canonical form of a state. -/

namespace Sys2Proof.Machine
open Reg

variable {z : State}

theorem Canon.advanceTime {s : State} (h : Canon z s) : Canon z (State.advanceTime s) :=
  h.setFree (Nat.le_succ _)

theorem Canon.stepLfsrs {s : State} (h : Canon z s) : Canon z (State.stepLfsrs s) := by
  unfold State.stepLfsrs
  repeat' first
    | (with_reducible first | assumption | refine Canon.upTo _ ?_ (fun _ _ _ => ?_) | apply Canon.setEngine)
    | split
    | (with_reducible apply Canon.ofMk; with_reducible refine Canon.parts ?_)
    | dsimp only

theorem Canon.stepTow {s : State} (h : Canon z s) : Canon z (State.stepTow s) := by
  unfold State.stepTow
  repeat' first
    | (with_reducible first | assumption | apply Canon.ite | refine Canon.upTo _ ?_ (fun _ _ _ => ?_)
                            | apply Canon.setTow)
    | split
    | (with_reducible apply Canon.ofMk; with_reducible refine Canon.parts ?_)
    | dsimp only

theorem Canon.idle {s : State} (h : Canon z s) : Canon z (State.idle s) := by
  unfold State.idle
  repeat' first
    | (with_reducible first | assumption | apply Canon.advanceTime | apply Canon.icTick | apply Canon.sscTick
                            | apply Canon.stepLfsrs | apply Canon.stepTow | apply Canon.ancNextCycle
                            | apply Canon.checkPatterns | apply Canon.refreshReady | apply Canon.initSettle
                            | apply Canon.pairSettle | apply Canon.faultSettle | apply Canon.safeSettle)
    | split
    | (with_reducible apply Canon.ofMk; with_reducible refine Canon.parts ?_)
    | dsimp only

end Sys2Proof.Machine
end

