-- ==== Sys2Proof/Laws/CanonTokens.lean ====
section
/-! SUPPORT. The operations of Machine/Tokens.lean keep the canonical form of a state. -/

namespace Sys2Proof.Machine
open Reg

variable {z : State}

theorem Canon.on_execProbeTrigger {s : State} (h : Canon z s) (c : Fin 32) : CanonX z (execProbeTrigger c s) := by
  unfold execProbeTrigger
  repeat' first
    | (with_reducible first | assumption | apply CanonX.next | apply Canon.selectTokens | apply Canon.triggerToken)
    | split
    | (with_reducible apply Canon.ofMk; with_reducible refine Canon.parts ?_)

theorem Canon.probeTokens {s : State} (h : Canon z s) : Canon z (State.probeTokens s) := by
  unfold State.probeTokens
  repeat' first
    | (with_reducible first | assumption | refine Canon.upTo _ ?_ (fun _ _ _ => ?_) | apply Canon.selectTokens
                            | apply Canon.triggerToken)
    | split
    | (with_reducible apply Canon.ofMk; with_reducible refine Canon.parts ?_)

theorem Canon.on_execAudioBlock {s : State} (h : Canon z s) : CanonX z (execAudioBlock s) := by
  unfold execAudioBlock
  repeat' first
    | (with_reducible first | assumption | apply CanonX.next | apply Canon.probeTokens | apply Canon.blockToken)
    | split
    | (with_reducible apply Canon.ofMk; with_reducible refine Canon.parts ?_)

theorem Canon.on_execSampleTick {s : State} (h : Canon z s) : CanonX z (execSampleTick s) := by
  unfold execSampleTick
  repeat' first
    | (with_reducible first | assumption | apply CanonX.next | apply Canon.probeTokens | apply Canon.sampleToken)
    | split
    | (with_reducible apply Canon.ofMk; with_reducible refine Canon.parts ?_)

theorem Canon.tokens {s : State} (h : Canon z s) : Canon z (State.tokens s) := by
  unfold State.tokens
  repeat' first
    | (with_reducible first | assumption | apply Canon.probeTokens | apply Canon.sampleToken)
    | split
    | (with_reducible apply Canon.ofMk; with_reducible refine Canon.parts ?_)

theorem Canon.on_execRefSelectionTick {s : State} (h : Canon z s) (m : TimeMeasure) :
    CanonX z (execRefSelectionTick m s) := by
  unfold execRefSelectionTick
  repeat' first
    | (with_reducible first | assumption | apply CanonX.next | apply Canon.tokens | apply Canon.selectionTick)
    | split
    | (with_reducible apply Canon.ofMk; with_reducible refine Canon.parts ?_)

theorem Canon.on_execHoldoffExpiry {s : State} (h : Canon z s) : CanonX z (execHoldoffExpiry s) := by
  unfold execHoldoffExpiry
  repeat' first
    | (with_reducible first | assumption | apply CanonX.next | apply Canon.tokens | apply Canon.holdoffPassed)
    | split
    | (with_reducible apply Canon.ofMk; with_reducible refine Canon.parts ?_)

theorem Canon.on_execWtrExpiry {s : State} (h : Canon z s) : CanonX z (execWtrExpiry s) := by
  unfold execWtrExpiry
  repeat' first
    | (with_reducible first | assumption | apply CanonX.next | apply Canon.tokens | apply Canon.revert)
    | split
    | (with_reducible apply Canon.ofMk; with_reducible refine Canon.parts ?_)

theorem Canon.on_execHoldoverOos {s : State} (h : Canon z s) : CanonX z (execHoldoverOos s) := by
  unfold execHoldoverOos
  repeat' first
    | (with_reducible first | assumption | apply CanonX.next | apply Canon.tokens | apply Canon.holdoverOos)
    | split
    | (with_reducible apply Canon.ofMk; with_reducible refine Canon.parts ?_)

theorem Canon.on_execLeaseExpiry {s : State} (h : Canon z s) (p : Fin 8) : CanonX z (execLeaseExpiry p s) := by
  unfold execLeaseExpiry
  repeat' first
    | (with_reducible first | assumption | apply CanonX.next | apply Canon.tokens | apply Canon.lapse)
    | split
    | (with_reducible apply Canon.ofMk; with_reducible refine Canon.parts ?_)

theorem Canon.on_execCoalescingTimeout {s : State} (h : Canon z s) (p : Fin 8) (ring : RingId) :
    CanonX z (execCoalescingTimeout p ring s) := by
  unfold execCoalescingTimeout
  repeat' first
    | (with_reducible first | assumption | apply CanonX.next | apply Canon.tokens | apply Canon.coalesced)
    | split
    | (with_reducible apply Canon.ofMk; with_reducible refine Canon.parts ?_)

theorem Canon.on_execFenceTimeout {s : State} (h : Canon z s) (p : Fin 8) (k : Fin 64) :
    CanonX z (execFenceTimeout p k s) := by
  unfold execFenceTimeout
  repeat' first
    | (with_reducible first | assumption | apply CanonX.next | apply Canon.tokens | apply Canon.fenceTimeout)
    | split
    | (with_reducible apply Canon.ofMk; with_reducible refine Canon.parts ?_)

end Sys2Proof.Machine
end

