-- ==== Sys2Proof/Laws/CanonWrites.lean ====
section
/-! SUPPORT. The operations of Machine/Writes.lean keep the canonical form of a state. -/

namespace Sys2Proof.Machine
open Reg

variable {z : State}

theorem Canon.on_execRegisterWrite {s : State} (h : Canon z s) (w : Fin 8) (off : BitVec 26) (width : Nat) (val : BitVec 64) :
    CanonX z (execRegisterWrite w off width val s) := by
  unfold execRegisterWrite
  repeat' first
    | (with_reducible first | assumption | apply CanonX.next | apply Canon.hostWrite)
    | split
    | (with_reducible apply Canon.ofMk; with_reducible refine Canon.parts ?_)

theorem Canon.on_execBar0ReadError {s : State} (h : Canon z s) (r : Fin 8) (off : BitVec 26) (width : Nat) :
    CanonX z (execBar0ReadError r off width s) := by
  unfold execBar0ReadError
  repeat' first
    | (with_reducible first | assumption | apply CanonX.next | apply Canon.hostRead)
    | split
    | (with_reducible apply Canon.ofMk; with_reducible refine Canon.parts ?_)

theorem Canon.on_execBar2AccessError {s : State} (h : Canon z s) (r : Fin 8) (off : BitVec 19) (isRead : Bool) :
    CanonX z (execBar2AccessError r off isRead s) := by
  unfold execBar2AccessError
  repeat' first
    | (with_reducible first | assumption | apply Canon.ite | apply CanonX.ite | apply CanonX.next
                            | refine Canon.when _ ?_ (fun _ _ => ?_) | apply Canon.emit | apply Canon.logError)
    | split
    | (with_reducible apply Canon.ofMk; with_reducible refine Canon.parts ?_)
    | dsimp only

theorem Canon.on_execTmNowLo {s : State} (h : Canon z s) (r : Fin 8) : CanonX z (execTmNowLo r s) := by
  unfold execTmNowLo
  repeat' first
    | (with_reducible first | assumption | apply CanonX.next | apply Canon.hostRead)
    | split
    | (with_reducible apply Canon.ofMk; with_reducible refine Canon.parts ?_)

theorem Canon.on_execFlDataRead {s : State} (h : Canon z s) (r : Fin 8) : CanonX z (execFlDataRead r s) := by
  unfold execFlDataRead
  repeat' first
    | (with_reducible first | assumption | apply CanonX.next | apply Canon.hostRead)
    | split
    | (with_reducible apply Canon.ofMk; with_reducible refine Canon.parts ?_)

theorem Canon.on_execAccerrClear {s : State} (h : Canon z s) (w p : Fin 8) (val : Word) :
    CanonX z (execAccerrClear w p val s) := by
  unfold execAccerrClear
  repeat' first
    | (with_reducible first | assumption | apply CanonX.next | apply Canon.write32)
    | split
    | (with_reducible apply Canon.ofMk; with_reducible refine Canon.parts ?_)

theorem Canon.on_execPartRst {s : State} (h : Canon z s) (w p : Fin 8) : CanonX z (execPartRst w p s) := by
  unfold execPartRst
  repeat' first
    | (with_reducible first | assumption | apply CanonX.next | apply Canon.write32)
    | split
    | (with_reducible apply Canon.ofMk; with_reducible refine Canon.parts ?_)

theorem Canon.on_execClaim {s : State} (h : Canon z s) (w p : Fin 8) (ori : BitVec 12) :
    CanonX z (execClaim w p ori s) := by
  unfold execClaim
  repeat' first
    | (with_reducible first | assumption | apply CanonX.next | apply Canon.write32)
    | split
    | (with_reducible apply Canon.ofMk; with_reducible refine Canon.parts ?_)

theorem Canon.on_execRelease {s : State} (h : Canon z s) (w p : Fin 8) (ori : BitVec 12) :
    CanonX z (execRelease w p ori s) := by
  unfold execRelease
  repeat' first
    | (with_reducible first | assumption | apply CanonX.next | apply Canon.write32)
    | split
    | (with_reducible apply Canon.ofMk; with_reducible refine Canon.parts ?_)

theorem Canon.on_execShare {s : State} (h : Canon z s) (w p : Fin 8) (ori : BitVec 12) :
    CanonX z (execShare w p ori s) := by
  unfold execShare
  repeat' first
    | (with_reducible first | assumption | apply CanonX.next | apply Canon.write32)
    | split
    | (with_reducible apply Canon.ofMk; with_reducible refine Canon.parts ?_)

theorem Canon.on_execUnshare {s : State} (h : Canon z s) (w p : Fin 8) (ori : BitVec 12) :
    CanonX z (execUnshare w p ori s) := by
  unfold execUnshare
  repeat' first
    | (with_reducible first | assumption | apply CanonX.next | apply Canon.write32)
    | split
    | (with_reducible apply Canon.ofMk; with_reducible refine Canon.parts ?_)

theorem Canon.on_execAssign {s : State} (h : Canon z s) (w p : Fin 8) (ori : BitVec 12) (target : Fin 8) :
    CanonX z (execAssign w p ori target s) := by
  unfold execAssign
  repeat' first
    | (with_reducible first | assumption | apply CanonX.next | apply Canon.write32)
    | split
    | (with_reducible apply Canon.ofMk; with_reducible refine Canon.parts ?_)

theorem Canon.on_execHeartbeat {s : State} (h : Canon z s) (w p : Fin 8) : CanonX z (execHeartbeat w p s) := by
  unfold execHeartbeat
  repeat' first
    | (with_reducible first | assumption | apply CanonX.next | apply Canon.write32)
    | split
    | (with_reducible apply Canon.ofMk; with_reducible refine Canon.parts ?_)

theorem Canon.on_execLeaseMs {s : State} (h : Canon z s) (w p : Fin 8) (val : Word) :
    CanonX z (execLeaseMs w p val s) := by
  unfold execLeaseMs
  repeat' first
    | (with_reducible first | assumption | apply CanonX.next | apply Canon.write32)
    | split
    | (with_reducible apply Canon.ofMk; with_reducible refine Canon.parts ?_)

theorem Canon.on_execRevoke {s : State} (h : Canon z s) (w p : Fin 8) : CanonX z (execRevoke w p s) := by
  unfold execRevoke
  repeat' first
    | (with_reducible first | assumption | apply CanonX.next | apply Canon.write32)
    | split
    | (with_reducible apply Canon.ofMk; with_reducible refine Canon.parts ?_)

theorem Canon.on_execPcbEnableSet {s : State} (h : Canon z s) (w p : Fin 8) :
    CanonX z (execPcbEnableSet w p s) := by
  unfold execPcbEnableSet
  repeat' first
    | (with_reducible first | assumption | apply CanonX.next | apply Canon.write32)
    | split
    | (with_reducible apply Canon.ofMk; with_reducible refine Canon.parts ?_)

theorem Canon.on_execPcbEnableClear {s : State} (h : Canon z s) (w p : Fin 8) :
    CanonX z (execPcbEnableClear w p s) := by
  unfold execPcbEnableClear
  repeat' first
    | (with_reducible first | assumption | apply CanonX.next | apply Canon.write32)
    | split
    | (with_reducible apply Canon.ofMk; with_reducible refine Canon.parts ?_)

theorem Canon.on_execRingEnable {s : State} (h : Canon z s) (w p : Fin 8) (ring : RingId) (val : Word) :
    CanonX z (execRingEnable w p ring val s) := by
  unfold execRingEnable
  repeat' first
    | (with_reducible first | assumption | apply CanonX.next | apply Canon.write32)
    | split
    | (with_reducible apply Canon.ofMk; with_reducible refine Canon.parts ?_)

theorem Canon.on_execRingDisable {s : State} (h : Canon z s) (w p : Fin 8) (ring : RingId) (val : Word) :
    CanonX z (execRingDisable w p ring val s) := by
  unfold execRingDisable
  repeat' first
    | (with_reducible first | assumption | apply CanonX.next | apply Canon.write32)
    | split
    | (with_reducible apply Canon.ofMk; with_reducible refine Canon.parts ?_)

theorem Canon.on_execHostFaultClear {s : State} (h : Canon z s) (w p : Fin 8) (ring : RingId) :
    CanonX z (execHostFaultClear w p ring s) := by
  unfold execHostFaultClear
  repeat' first
    | (with_reducible first | assumption | apply CanonX.next | apply Canon.write32)
    | split
    | (with_reducible apply Canon.ofMk; with_reducible refine Canon.parts ?_)

theorem Canon.on_execCmdFreeze {s : State} (h : Canon z s) (w : Fin 8) (e : Fin 16) (freeze : Bool) :
    CanonX z (execCmdFreeze w e freeze s) := by
  unfold execCmdFreeze
  repeat' first
    | (with_reducible first | assumption | apply CanonX.next | apply Canon.write32)
    | split
    | (with_reducible apply Canon.ofMk; with_reducible refine Canon.parts ?_)

theorem Canon.on_execEngRst {s : State} (h : Canon z s) (w : Fin 8) (e : Fin 16) : CanonX z (execEngRst w e s) := by
  unfold execEngRst
  repeat' first
    | (with_reducible first | assumption | apply CanonX.next | apply Canon.write32)
    | split
    | (with_reducible apply Canon.ofMk; with_reducible refine Canon.parts ?_)

theorem Canon.on_execWdogUs {s : State} (h : Canon z s) (w : Fin 8) (e : Fin 16) (val : Word) :
    CanonX z (execWdogUs w e val s) := by
  unfold execWdogUs
  repeat' first
    | (with_reducible first | assumption | apply CanonX.next | apply Canon.write32)
    | split
    | (with_reducible apply Canon.ofMk; with_reducible refine Canon.parts ?_)

theorem Canon.on_execLfsrSeed {s : State} (h : Canon z s) (w : Fin 8) (e : Fin 16) (val : Word) :
    CanonX z (execLfsrSeed w e val s) := by
  unfold execLfsrSeed
  repeat' first
    | (with_reducible first | assumption | apply CanonX.next | apply Canon.write32)
    | split
    | (with_reducible apply Canon.ofMk; with_reducible refine Canon.parts ?_)

theorem Canon.on_execPrioWrite {s : State} (h : Canon z s) (w : Fin 8) (r : Fin 11) (val : Word) :
    CanonX z (execPrioWrite w r val s) := by
  unfold execPrioWrite
  repeat' first
    | (with_reducible first | assumption | apply CanonX.next | apply Canon.write32)
    | split
    | (with_reducible apply Canon.ofMk; with_reducible refine Canon.parts ?_)

theorem Canon.on_execSetGo {s : State} (h : Canon z s) (w : Fin 8) : CanonX z (execSetGo w s) := by
  unfold execSetGo
  repeat' first
    | (with_reducible first | assumption | apply CanonX.next | apply Canon.write32)
    | split
    | (with_reducible apply Canon.ofMk; with_reducible refine Canon.parts ?_)

theorem Canon.on_execOffsetNs {s : State} (h : Canon z s) (w plane : Fin 8) (val : Word) :
    CanonX z (execOffsetNs w plane val s) := by
  unfold execOffsetNs
  repeat' first
    | (with_reducible first | assumption | apply CanonX.next | apply Canon.write32)
    | split
    | (with_reducible apply Canon.ofMk; with_reducible refine Canon.parts ?_)

theorem Canon.on_execDiscard {s : State} (h : Canon z s) (w p : Fin 8) : CanonX z (execDiscard w p s) := by
  unfold execDiscard
  repeat' first
    | (with_reducible first | assumption | apply CanonX.next | apply Canon.write32)
    | split
    | (with_reducible apply Canon.ofMk; with_reducible refine Canon.parts ?_)

theorem Canon.on_execDstEnable {s : State} (h : Canon z s) (w : Fin 8) (d : Fin 1024) :
    CanonX z (execDstEnable w d s) := by
  unfold execDstEnable
  repeat' first
    | (with_reducible first | assumption | apply CanonX.next | apply Canon.write32)
    | split
    | (with_reducible apply Canon.ofMk; with_reducible refine Canon.parts ?_)

theorem Canon.on_execDstDisable {s : State} (h : Canon z s) (w : Fin 8) (d : Fin 1024) :
    CanonX z (execDstDisable w d s) := by
  unfold execDstDisable
  repeat' first
    | (with_reducible first | assumption | apply CanonX.next | apply Canon.write32)
    | split
    | (with_reducible apply Canon.ofMk; with_reducible refine Canon.parts ?_)

theorem Canon.on_execMportEnable {s : State} (h : Canon z s) (w : Fin 8) (m : Fin 64) :
    CanonX z (execMportEnable w m s) := by
  unfold execMportEnable
  repeat' first
    | (with_reducible first | assumption | apply CanonX.next | apply Canon.write32)
    | split
    | (with_reducible apply Canon.ofMk; with_reducible refine Canon.parts ?_)

theorem Canon.on_execMportDisable {s : State} (h : Canon z s) (w : Fin 8) (m : Fin 64) :
    CanonX z (execMportDisable w m s) := by
  unfold execMportDisable
  repeat' first
    | (with_reducible first | assumption | apply CanonX.next | apply Canon.write32)
    | split
    | (with_reducible apply Canon.ofMk; with_reducible refine Canon.parts ?_)

theorem Canon.on_execHpRxHead {s : State} (h : Canon z s) (w : Fin 8) (m : Fin 64) (val : Word) :
    CanonX z (execHpRxHead w m val s) := by
  unfold execHpRxHead
  repeat' first
    | (with_reducible first | assumption | apply CanonX.next | apply Canon.write32)
    | split
    | (with_reducible apply Canon.ofMk; with_reducible refine Canon.parts ?_)

theorem Canon.on_execHpTxTail {s : State} (h : Canon z s) (w : Fin 8) (m : Fin 64) (val : Word) :
    CanonX z (execHpTxTail w m val s) := by
  unfold execHpTxTail
  repeat' first
    | (with_reducible first | assumption | apply CanonX.next | apply Canon.write32)
    | split
    | (with_reducible apply Canon.ofMk; with_reducible refine Canon.parts ?_)

theorem Canon.on_execHpRingEnable {s : State} (h : Canon z s) (w : Fin 8) (m : Fin 64) (tx : Bool) (val : Word) :
    CanonX z (execHpRingEnable w m tx val s) := by
  unfold execHpRingEnable
  repeat' first
    | (with_reducible first | assumption | apply Canon.ite | apply CanonX.ite | apply CanonX.next
                            | apply Canon.write32)
    | split
    | (with_reducible apply Canon.ofMk; with_reducible refine Canon.parts ?_)

theorem Canon.on_execLanePowerUp {s : State} (h : Canon z s) (w : Fin 8) (l : Fin 584) :
    CanonX z (execLanePowerUp w l s) := by
  unfold execLanePowerUp
  repeat' first
    | (with_reducible first | assumption | apply CanonX.next | apply Canon.write32)
    | split
    | (with_reducible apply Canon.ofMk; with_reducible refine Canon.parts ?_)

theorem Canon.on_execLanePowerDown {s : State} (h : Canon z s) (w : Fin 8) (l : Fin 584) :
    CanonX z (execLanePowerDown w l s) := by
  unfold execLanePowerDown
  repeat' first
    | (with_reducible first | assumption | apply CanonX.next | apply Canon.write32)
    | split
    | (with_reducible apply Canon.ofMk; with_reducible refine Canon.parts ?_)

theorem Canon.on_execTxeqWrite {s : State} (h : Canon z s) (w : Fin 8) (l : Fin 584) (val : Word) :
    CanonX z (execTxeqWrite w l val s) := by
  unfold execTxeqWrite
  repeat' first
    | (with_reducible first | assumption | apply CanonX.next | apply Canon.write32)
    | split
    | (with_reducible apply Canon.ofMk; with_reducible refine Canon.parts ?_)

theorem Canon.on_execLoopWrite {s : State} (h : Canon z s) (w : Fin 8) (l : Fin 584) (val : Word) :
    CanonX z (execLoopWrite w l val s) := by
  unfold execLoopWrite
  repeat' first
    | (with_reducible first | assumption | apply CanonX.next | apply Canon.write32)
    | split
    | (with_reducible apply Canon.ofMk; with_reducible refine Canon.parts ?_)

theorem Canon.on_execPrbsChkWrite {s : State} (h : Canon z s) (w : Fin 8) (l : Fin 584) (val : Word) :
    CanonX z (execPrbsChkWrite w l val s) := by
  unfold execPrbsChkWrite
  repeat' first
    | (with_reducible first | assumption | apply CanonX.next | apply Canon.write32)
    | split
    | (with_reducible apply Canon.ofMk; with_reducible refine Canon.parts ?_)

theorem Canon.on_execEsGo {s : State} (h : Canon z s) (w : Fin 8) (l : Fin 584) : CanonX z (execEsGo w l s) := by
  unfold execEsGo
  repeat' first
    | (with_reducible first | assumption | apply CanonX.next | apply Canon.write32)
    | split
    | (with_reducible apply Canon.ofMk; with_reducible refine Canon.parts ?_)

theorem Canon.on_execAinWrite {s : State} (h : Canon z s) (w : Fin 8) (n : Fin 1024) (word : Fin 2) (val : Word) :
    CanonX z (execAinWrite w n word val s) := by
  unfold execAinWrite
  repeat' first
    | (with_reducible first | assumption | apply CanonX.next | apply Canon.write32)
    | split
    | (with_reducible apply Canon.ofMk; with_reducible refine Canon.parts ?_)

theorem Canon.on_execAgrpWrite {s : State} (h : Canon z s) (w : Fin 8) (g : Fin 512) (val : Word) :
    CanonX z (execAgrpWrite w g val s) := by
  unfold execAgrpWrite
  repeat' first
    | (with_reducible first | assumption | apply CanonX.next | apply Canon.write32)
    | split
    | (with_reducible apply Canon.ofMk; with_reducible refine Canon.parts ?_)

theorem Canon.on_execEmbWrite {s : State} (h : Canon z s) (w : Fin 8) (d : Fin 1024) (word : Fin 2) (val : Word) :
    CanonX z (execEmbWrite w d word val s) := by
  unfold execEmbWrite
  repeat' first
    | (with_reducible first | assumption | apply CanonX.next | apply Canon.write32)
    | split
    | (with_reducible apply Canon.ofMk; with_reducible refine Canon.parts ?_)

theorem Canon.on_execAesinEnable {s : State} (h : Canon z s) (w : Fin 8) (i : Fin 64) (en : Bool) :
    CanonX z (execAesinEnable w i en s) := by
  unfold execAesinEnable
  repeat' first
    | (with_reducible first | assumption | apply CanonX.next | apply Canon.write32)
    | split
    | (with_reducible apply Canon.ofMk; with_reducible refine Canon.parts ?_)

theorem Canon.on_execAesinBind {s : State} (h : Canon z s) (w : Fin 8) (i : Fin 64) (word : Fin 2) (val : Word) :
    CanonX z (execAesinBind w i word val s) := by
  unfold execAesinBind
  repeat' first
    | (with_reducible first | assumption | apply CanonX.next | apply Canon.write32)
    | split
    | (with_reducible apply Canon.ofMk; with_reducible refine Canon.parts ?_)

theorem Canon.on_execAesoutEnable {s : State} (h : Canon z s) (w : Fin 8) (o : Fin 64) :
    CanonX z (execAesoutEnable w o s) := by
  unfold execAesoutEnable
  repeat' first
    | (with_reducible first | assumption | apply CanonX.next | apply Canon.write32)
    | split
    | (with_reducible apply Canon.ofMk; with_reducible refine Canon.parts ?_)

theorem Canon.on_execAesoutDisable {s : State} (h : Canon z s) (w : Fin 8) (o : Fin 64) :
    CanonX z (execAesoutDisable w o s) := by
  unfold execAesoutDisable
  repeat' first
    | (with_reducible first | assumption | apply CanonX.next | apply Canon.write32)
    | split
    | (with_reducible apply Canon.ofMk; with_reducible refine Canon.parts ?_)

theorem Canon.on_execOutCh {s : State} (h : Canon z s) (w : Fin 8) (o : Fin 64) (val : Word) :
    CanonX z (execOutCh w o val s) := by
  unfold execOutCh
  repeat' first
    | (with_reducible first | assumption | apply CanonX.next | apply Canon.write32)
    | split
    | (with_reducible apply Canon.ofMk; with_reducible refine Canon.parts ?_)

theorem Canon.on_execAncqEnable {s : State} (h : Canon z s) (w : Fin 8) (q : Fin 256) :
    CanonX z (execAncqEnable w q s) := by
  unfold execAncqEnable
  repeat' first
    | (with_reducible first | assumption | apply CanonX.next | apply Canon.write32)
    | split
    | (with_reducible apply Canon.ofMk; with_reducible refine Canon.parts ?_)

theorem Canon.on_execAncqDisable {s : State} (h : Canon z s) (w : Fin 8) (q : Fin 256) :
    CanonX z (execAncqDisable w q s) := by
  unfold execAncqDisable
  repeat' first
    | (with_reducible first | assumption | apply CanonX.next | apply Canon.write32)
    | split
    | (with_reducible apply Canon.ofMk; with_reducible refine Canon.parts ?_)

theorem Canon.on_execFsrcWrite {s : State} (h : Canon z s) (w : Fin 8) (q : Fin 256) (val : Word) :
    CanonX z (execFsrcWrite w q val s) := by
  unfold execFsrcWrite
  repeat' first
    | (with_reducible first | assumption | apply CanonX.next | apply Canon.write32)
    | split
    | (with_reducible apply Canon.ofMk; with_reducible refine Canon.parts ?_)

theorem Canon.on_execWatermarkWrite {s : State} (h : Canon z s) (w : Fin 8) (q : Fin 256) (val : Word) :
    CanonX z (execWatermarkWrite w q val s) := by
  unfold execWatermarkWrite
  repeat' first
    | (with_reducible first | assumption | apply CanonX.next | apply Canon.write32)
    | split
    | (with_reducible apply Canon.ofMk; with_reducible refine Canon.parts ?_)

theorem Canon.on_execConsumerWrite {s : State} (h : Canon z s) (w : Fin 8) (q : Fin 256) (val : Word) :
    CanonX z (execConsumerWrite w q val s) := by
  unfold execConsumerWrite
  repeat' first
    | (with_reducible first | assumption | apply CanonX.next | apply Canon.write32)
    | split
    | (with_reducible apply Canon.ofMk; with_reducible refine Canon.parts ?_)

theorem Canon.on_execProbeWindowWrite {s : State} (h : Canon z s) (w : Fin 8) (c : Fin 32) (win : Fin 4) (word : Fin 6) (val : Word) :
    CanonX z (execProbeWindowWrite w c win word val s) := by
  unfold execProbeWindowWrite
  repeat' first
    | (with_reducible first | assumption | apply CanonX.next | apply Canon.write32)
    | split
    | (with_reducible apply Canon.ofMk; with_reducible refine Canon.parts ?_)

theorem Canon.on_execFltSevWrite {s : State} (h : Canon z s) (w : Fin 8) (source : Fin 1024) (val : Word) :
    CanonX z (execFltSevWrite w source val s) := by
  unfold execFltSevWrite
  repeat' first
    | (with_reducible first | assumption | apply CanonX.next | apply Canon.write32)
    | split
    | (with_reducible apply Canon.ofMk; with_reducible refine Canon.parts ?_)

theorem Canon.on_execAckGo {s : State} (h : Canon z s) (w : Fin 8) (record : Fin 16) :
    CanonX z (execAckGo w record s) := by
  unfold execAckGo
  repeat' first
    | (with_reducible first | assumption | apply CanonX.next | apply Canon.write32)
    | split
    | (with_reducible apply Canon.ofMk; with_reducible refine Canon.parts ?_)

theorem Canon.on_execTowEnable {s : State} (h : Canon z s) (w : Fin 8) (b : Fin 2) (val : Word) :
    CanonX z (execTowEnable w b val s) := by
  unfold execTowEnable
  repeat' first
    | (with_reducible first | assumption | apply CanonX.next | apply Canon.write32)
    | split
    | (with_reducible apply Canon.ofMk; with_reducible refine Canon.parts ?_)

theorem Canon.on_execTowDisable {s : State} (h : Canon z s) (w : Fin 8) (b : Fin 2) (val : Word) :
    CanonX z (execTowDisable w b val s) := by
  unfold execTowDisable
  repeat' first
    | (with_reducible first | assumption | apply CanonX.next | apply Canon.write32)
    | split
    | (with_reducible apply Canon.ofMk; with_reducible refine Canon.parts ?_)

theorem Canon.on_execTxGo {s : State} (h : Canon z s) (w : Fin 8) (b : Fin 2) : CanonX z (execTxGo w b s) := by
  unfold execTxGo
  repeat' first
    | (with_reducible first | assumption | apply CanonX.next | apply Canon.write32)
    | split
    | (with_reducible apply Canon.ofMk; with_reducible refine Canon.parts ?_)

theorem Canon.on_execTxFlush {s : State} (h : Canon z s) (w : Fin 8) (b : Fin 2) :
    CanonX z (execTxFlush w b s) := by
  unfold execTxFlush
  repeat' first
    | (with_reducible first | assumption | apply CanonX.next | apply Canon.write32)
    | split
    | (with_reducible apply Canon.ofMk; with_reducible refine Canon.parts ?_)

theorem Canon.on_execRxPop {s : State} (h : Canon z s) (w : Fin 8) (b : Fin 2) : CanonX z (execRxPop w b s) := by
  unfold execRxPop
  repeat' first
    | (with_reducible first | assumption | apply CanonX.next | apply Canon.write32)
    | split
    | (with_reducible apply Canon.ofMk; with_reducible refine Canon.parts ?_)

theorem Canon.on_execWarmRst {s : State} (h : Canon z s) (w : Fin 8) : CanonX z (execWarmRst w s) := by
  unfold execWarmRst
  repeat' first
    | (with_reducible first | assumption | apply CanonX.next | apply Canon.write32)
    | split
    | (with_reducible apply Canon.ofMk; with_reducible refine Canon.parts ?_)

theorem Canon.on_execFlDataWrite {s : State} (h : Canon z s) (w : Fin 8) (val : Word) :
    CanonX z (execFlDataWrite w val s) := by
  unfold execFlDataWrite
  repeat' first
    | (with_reducible first | assumption | apply CanonX.next | apply Canon.write32)
    | split
    | (with_reducible apply Canon.ofMk; with_reducible refine Canon.parts ?_)

theorem Canon.on_execErase {s : State} (h : Canon z s) (w : Fin 8) : CanonX z (execErase w s) := by
  unfold execErase
  repeat' first
    | (with_reducible first | assumption | apply CanonX.next | apply Canon.write32)
    | split
    | (with_reducible apply Canon.ofMk; with_reducible refine Canon.parts ?_)

theorem Canon.on_execProgram {s : State} (h : Canon z s) (w : Fin 8) : CanonX z (execProgram w s) := by
  unfold execProgram
  repeat' first
    | (with_reducible first | assumption | apply CanonX.next | apply Canon.write32)
    | split
    | (with_reducible apply Canon.ofMk; with_reducible refine Canon.parts ?_)

theorem Canon.on_execDeltaGo {s : State} (h : Canon z s) (w : Fin 8) : CanonX z (execDeltaGo w s) := by
  unfold execDeltaGo
  repeat' first
    | (with_reducible first | assumption | apply CanonX.next | apply Canon.write32)
    | split
    | (with_reducible apply Canon.ofMk; with_reducible refine Canon.parts ?_)

theorem Canon.on_execPrefA {s : State} (h : Canon z s) (w : Fin 8) : CanonX z (execPrefA w s) := by
  unfold execPrefA
  repeat' first
    | (with_reducible first | assumption | apply CanonX.next | apply Canon.write32)
    | split
    | (with_reducible apply Canon.ofMk; with_reducible refine Canon.parts ?_)

theorem Canon.on_execPrefB {s : State} (h : Canon z s) (w : Fin 8) : CanonX z (execPrefB w s) := by
  unfold execPrefB
  repeat' first
    | (with_reducible first | assumption | apply CanonX.next | apply Canon.write32)
    | split
    | (with_reducible apply Canon.ofMk; with_reducible refine Canon.parts ?_)

theorem Canon.on_execSave {s : State} (h : Canon z s) (w : Fin 8) : CanonX z (execSave w s) := by
  unfold execSave
  repeat' first
    | (with_reducible first | assumption | apply CanonX.next | apply Canon.write32)
    | split
    | (with_reducible apply Canon.ofMk; with_reducible refine Canon.parts ?_)

theorem Canon.on_execBlowDbg {s : State} (h : Canon z s) (w : Fin 8) : CanonX z (execBlowDbg w s) := by
  unfold execBlowDbg
  repeat' first
    | (with_reducible first | assumption | apply CanonX.next | apply Canon.write32)
    | split
    | (with_reducible apply Canon.ofMk; with_reducible refine Canon.parts ?_)

theorem Canon.on_execFuseKey {s : State} (h : Canon z s) (w : Fin 8) (val : Word) :
    CanonX z (execFuseKey w val s) := by
  unfold execFuseKey
  repeat' first
    | (with_reducible first | assumption | apply CanonX.next | apply Canon.write32)
    | split
    | (with_reducible apply Canon.ofMk; with_reducible refine Canon.parts ?_)

theorem Canon.on_execDomainGateRequest {s : State} (h : Canon z s) (w : Fin 8) (d : Fin 184) :
    CanonX z (execDomainGateRequest w d s) := by
  unfold execDomainGateRequest
  repeat' first
    | (with_reducible first | assumption | apply CanonX.next | apply Canon.write32)
    | split
    | (with_reducible apply Canon.ofMk; with_reducible refine Canon.parts ?_)

theorem Canon.on_execDomainWakeRequest {s : State} (h : Canon z s) (w : Fin 8) (d : Fin 184) :
    CanonX z (execDomainWakeRequest w d s) := by
  unfold execDomainWakeRequest
  repeat' first
    | (with_reducible first | assumption | apply CanonX.next | apply Canon.write32)
    | split
    | (with_reducible apply Canon.ofMk; with_reducible refine Canon.parts ?_)

theorem Canon.on_execIslRst {s : State} (h : Canon z s) (w : Fin 8) (d : Fin 184) :
    CanonX z (execIslRst w d s) := by
  unfold execIslRst
  repeat' first
    | (with_reducible first | assumption | apply CanonX.next | apply Canon.write32)
    | split
    | (with_reducible apply Canon.ofMk; with_reducible refine Canon.parts ?_)

theorem Canon.on_execDecSeen {s : State} (h : Canon z s) (w : Fin 8) : CanonX z (execDecSeen w s) := by
  unfold execDecSeen
  repeat' first
    | (with_reducible first | assumption | apply CanonX.next | apply Canon.write32)
    | split
    | (with_reducible apply Canon.ofMk; with_reducible refine Canon.parts ?_)

end Sys2Proof.Machine
end

