-- ==== Sys2Proof/Laws/Exec.lean ====
section
/-! SUPPORT. What `exec` is of each command: its meaning. One lemma per command. -/

namespace Sys2Proof.Machine

@[simp] theorem exec_registerWrite (w : Fin 8) (off : BitVec 26) (width : Nat) (val : BitVec 64) (s : State) : exec (.registerWrite w off width val) s = execRegisterWrite w off width val s := rfl
@[simp] theorem exec_bar0ReadError (r : Fin 8) (off : BitVec 26) (width : Nat) (s : State) : exec (.bar0ReadError r off width) s = execBar0ReadError r off width s := rfl
@[simp] theorem exec_bar2AccessError (r : Fin 8) (off : BitVec 19) (isRead : Bool) (s : State) : exec (.bar2AccessError r off isRead) s = execBar2AccessError r off isRead s := rfl
@[simp] theorem exec_accerrClear (w p : Fin 8) (val : Word) (s : State) : exec (.accerrClear w p val) s = execAccerrClear w p val s := rfl
@[simp] theorem exec_perstRelease (ep : Fin 4) (s : State) : exec (.perstRelease ep) s = execPerstRelease ep s := rfl
@[simp] theorem exec_pcieLinkDown (ep : Fin 4) (s : State) : exec (.pcieLinkDown ep) s = execPcieLinkDown ep s := rfl
@[simp] theorem exec_hotReset (ep : Fin 4) (s : State) : exec (.hotReset ep) s = execHotReset ep s := rfl
@[simp] theorem exec_functionLevelReset (p : Fin 8) (s : State) : exec (.functionLevelReset p) s = execFunctionLevelReset p s := rfl
@[simp] theorem exec_partRst (w p : Fin 8) (s : State) : exec (.partRst w p) s = execPartRst w p s := rfl
@[simp] theorem exec_claim (w p : Fin 8) (ori : BitVec 12) (s : State) : exec (.claim w p ori) s = execClaim w p ori s := rfl
@[simp] theorem exec_release (w p : Fin 8) (ori : BitVec 12) (s : State) : exec (.release w p ori) s = execRelease w p ori s := rfl
@[simp] theorem exec_share (w p : Fin 8) (ori : BitVec 12) (s : State) : exec (.share w p ori) s = execShare w p ori s := rfl
@[simp] theorem exec_unshare (w p : Fin 8) (ori : BitVec 12) (s : State) : exec (.unshare w p ori) s = execUnshare w p ori s := rfl
@[simp] theorem exec_assign (w p : Fin 8) (ori : BitVec 12) (target : Fin 8) (s : State) : exec (.assign w p ori target) s = execAssign w p ori target s := rfl
@[simp] theorem exec_heartbeat (w p : Fin 8) (s : State) : exec (.heartbeat w p) s = execHeartbeat w p s := rfl
@[simp] theorem exec_leaseMs (w p : Fin 8) (val : Word) (s : State) : exec (.leaseMs w p val) s = execLeaseMs w p val s := rfl
@[simp] theorem exec_leaseExpiry (p : Fin 8) (s : State) : exec (.leaseExpiry p) s = execLeaseExpiry p s := rfl
@[simp] theorem exec_revoke (w p : Fin 8) (s : State) : exec (.revoke w p) s = execRevoke w p s := rfl
@[simp] theorem exec_revocationTransfer (p : Fin 8) (s : State) : exec (.revocationTransfer p) s = execRevocationTransfer p s := rfl
@[simp] theorem exec_pcbEnableSet (w p : Fin 8) (s : State) : exec (.pcbEnableSet w p) s = execPcbEnableSet w p s := rfl
@[simp] theorem exec_pcbEnableClear (w p : Fin 8) (s : State) : exec (.pcbEnableClear w p) s = execPcbEnableClear w p s := rfl
@[simp] theorem exec_ringEnable (w p : Fin 8) (ring : RingId) (val : Word) (s : State) : exec (.ringEnable w p ring val) s = execRingEnable w p ring val s := rfl
@[simp] theorem exec_ringDisable (w p : Fin 8) (ring : RingId) (val : Word) (s : State) : exec (.ringDisable w p ring val) s = execRingDisable w p ring val s := rfl
@[simp] theorem exec_commandTailDoorbell (p : Fin 8) (k : Fin 64) (width : Nat) (val : Word) (s : State) : exec (.commandTailDoorbell p k width val) s = execCommandTailDoorbell p k width val s := rfl
@[simp] theorem exec_completionHeadDoorbell (p : Fin 8) (k : Fin 64) (width : Nat) (val : Word) (s : State) : exec (.completionHeadDoorbell p k width val) s = execCompletionHeadDoorbell p k width val s := rfl
@[simp] theorem exec_eventHeadDoorbell (p : Fin 8) (e : Fin 4) (width : Nat) (val : Word) (s : State) : exec (.eventHeadDoorbell p e width val) s = execEventHeadDoorbell p e width val s := rfl
@[simp] theorem exec_ringFetch (p : Fin 8) (k : Fin 64) (answer : List Descriptor) (s : State) : exec (.ringFetch p k answer) s = execRingFetch p k answer s := rfl
@[simp] theorem exec_descriptorReadError (p : Fin 8) (access : HostAccess) (addr : BitVec 64) (s : State) : exec (.descriptorReadError p access addr) s = execDescriptorReadError p access addr s := rfl
@[simp] theorem exec_bufferRead (p : Fin 8) (k : Fin 64) (answer : HostAnswer) (s : State) : exec (.bufferRead p k answer) s = execBufferRead p k answer s := rfl
@[simp] theorem exec_hostFaultClear (w p : Fin 8) (ring : RingId) (s : State) : exec (.hostFaultClear w p ring) s = execHostFaultClear w p ring s := rfl
@[simp] theorem exec_enginePlacement (p : Fin 8) (k : Fin 64) (s : State) : exec (.enginePlacement p k) s = execEnginePlacement p k s := rfl
@[simp] theorem exec_engineDraw (e : Fin 16) (s : State) : exec (.engineDraw e) s = execEngineDraw e s := rfl
@[simp] theorem exec_cmdFreeze (w : Fin 8) (e : Fin 16) (freeze : Bool) (s : State) : exec (.cmdFreeze w e freeze) s = execCmdFreeze w e freeze s := rfl
@[simp] theorem exec_engRst (w : Fin 8) (e : Fin 16) (s : State) : exec (.engRst w e) s = execEngRst w e s := rfl
@[simp] theorem exec_wdogUs (w : Fin 8) (e : Fin 16) (val : Word) (s : State) : exec (.wdogUs w e val) s = execWdogUs w e val s := rfl
@[simp] theorem exec_lfsrSeed (w : Fin 8) (e : Fin 16) (val : Word) (s : State) : exec (.lfsrSeed w e val) s = execLfsrSeed w e val s := rfl
@[simp] theorem exec_engineStuck (e : Fin 16) (s : State) : exec (.engineStuck e) s = execEngineStuck e s := rfl
@[simp] theorem exec_coalescingTimeout (p : Fin 8) (ring : RingId) (s : State) : exec (.coalescingTimeout p ring) s = execCoalescingTimeout p ring s := rfl
@[simp] theorem exec_nop (e : Fin 16) (s : State) : exec (.nop e) s = execNop e s := rfl
@[simp] theorem exec_badOpcode (e : Fin 16) (s : State) : exec (.badOpcode e) s = execBadOpcode e s := rfl
@[simp] theorem exec_fence (e : Fin 16) (s : State) : exec (.fence e) s = execFence e s := rfl
@[simp] theorem exec_fenceMet (p : Fin 8) (k : Fin 64) (s : State) : exec (.fenceMet p k) s = execFenceMet p k s := rfl
@[simp] theorem exec_fenceTimeout (p : Fin 8) (k : Fin 64) (s : State) : exec (.fenceTimeout p k) s = execFenceTimeout p k s := rfl
@[simp] theorem exec_route (e : Fin 16) (s : State) : exec (.route e) s = execRoute e s := rfl
@[simp] theorem exec_routeBulk (e : Fin 16) (s : State) : exec (.routeBulk e) s = execRouteBulk e s := rfl
@[simp] theorem exec_audioMap (e : Fin 16) (s : State) : exec (.audioMap e) s = execAudioMap e s := rfl
@[simp] theorem exec_audioGain (e : Fin 16) (s : State) : exec (.audioGain e) s = execAudioGain e s := rfl
@[simp] theorem exec_layer (e : Fin 16) (s : State) : exec (.layer e) s = execLayer e s := rfl
@[simp] theorem exec_compositorSet (e : Fin 16) (s : State) : exec (.compositorSet e) s = execCompositorSet e s := rfl
@[simp] theorem exec_freshPolicy (e : Fin 16) (s : State) : exec (.freshPolicy e) s = execFreshPolicy e s := rfl
@[simp] theorem exec_commit (e : Fin 16) (s : State) : exec (.commit e) s = execCommit e s := rfl
@[simp] theorem exec_commitAbort (e : Fin 16) (s : State) : exec (.commitAbort e) s = execCommitAbort e s := rfl
@[simp] theorem exec_bankFlip (e : Fin 16) (s : State) : exec (.bankFlip e) s = execBankFlip e s := rfl
@[simp] theorem exec_bankFlipAbort (e : Fin 16) (s : State) : exec (.bankFlipAbort e) s = execBankFlipAbort e s := rfl
@[simp] theorem exec_alloc (e : Fin 16) (s : State) : exec (.alloc e) s = execAlloc e s := rfl
@[simp] theorem exec_graphicLoad (e : Fin 16) (s : State) : exec (.graphicLoad e) s = execGraphicLoad e s := rfl
@[simp] theorem exec_thumbCapture (e : Fin 16) (s : State) : exec (.thumbCapture e) s = execThumbCapture e s := rfl
@[simp] theorem exec_thumbCaptureDone (p : Fin 8) (k : Fin 64) (fail : Option (BitVec 64)) (s : State) : exec (.thumbCaptureDone p k fail) s = execThumbCaptureDone p k fail s := rfl
@[simp] theorem exec_ancDrain (e : Fin 16) (fail : Option (BitVec 64)) (s : State) : exec (.ancDrain e fail) s = execAncDrain e fail s := rfl
@[simp] theorem exec_ancInsert (e : Fin 16) (s : State) : exec (.ancInsert e) s = execAncInsert e s := rfl
@[simp] theorem exec_statsSnapshot (e : Fin 16) (fail : Option (BitVec 64)) (s : State) : exec (.statsSnapshot e fail) s = execStatsSnapshot e fail s := rfl
@[simp] theorem exec_flowAdd (e : Fin 16) (s : State) : exec (.flowAdd e) s = execFlowAdd e s := rfl
@[simp] theorem exec_flowDel (e : Fin 16) (s : State) : exec (.flowDel e) s = execFlowDel e s := rfl
@[simp] theorem exec_probeLoad (e : Fin 16) (s : State) : exec (.probeLoad e) s = execProbeLoad e s := rfl
@[simp] theorem exec_probeStart (e : Fin 16) (s : State) : exec (.probeStart e) s = execProbeStart e s := rfl
@[simp] theorem exec_probeStop (e : Fin 16) (s : State) : exec (.probeStop e) s = execProbeStop e s := rfl
@[simp] theorem exec_probeReset (e : Fin 16) (s : State) : exec (.probeReset e) s = execProbeReset e s := rfl
@[simp] theorem exec_probeResetStart (e : Fin 16) (s : State) : exec (.probeResetStart e) s = execProbeResetStart e s := rfl
@[simp] theorem exec_timeQuery (e : Fin 16) (s : State) : exec (.timeQuery e) s = execTimeQuery e s := rfl
@[simp] theorem exec_acceptStep (e : Fin 16) (s : State) : exec (.acceptStep e) s = execAcceptStep e s := rfl
@[simp] theorem exec_handover (e : Fin 16) (s : State) : exec (.handover e) s = execHandover e s := rfl
@[simp] theorem exec_tmNowLo (r : Fin 8) (s : State) : exec (.tmNowLo r) s = execTmNowLo r s := rfl
@[simp] theorem exec_refSignalPresent (r : Fin 11) (s : State) : exec (.refSignalPresent r) s = execRefSignalPresent r s := rfl
@[simp] theorem exec_refQualified (r : Fin 11) (s : State) : exec (.refQualified r) s = execRefQualified r s := rfl
@[simp] theorem exec_refLoss (loss : LostRef) (s : State) : exec (.refLoss loss) s = execRefLoss loss s := rfl
@[simp] theorem exec_holdoffExpiry  (s : State) : exec (.holdoffExpiry ) s = execHoldoffExpiry  s := rfl
@[simp] theorem exec_refSelectionTick (m : TimeMeasure) (s : State) : exec (.refSelectionTick m) s = execRefSelectionTick m s := rfl
@[simp] theorem exec_wtrExpiry  (s : State) : exec (.wtrExpiry ) s = execWtrExpiry  s := rfl
@[simp] theorem exec_prioWrite (w : Fin 8) (r : Fin 11) (val : Word) (s : State) : exec (.prioWrite w r val) s = execPrioWrite w r val s := rfl
@[simp] theorem exec_lockAcquired  (s : State) : exec (.lockAcquired ) s = execLockAcquired  s := rfl
@[simp] theorem exec_lockLost  (s : State) : exec (.lockLost ) s = execLockLost  s := rfl
@[simp] theorem exec_holdoverOos  (s : State) : exec (.holdoverOos ) s = execHoldoverOos  s := rfl
@[simp] theorem exec_setGo (w : Fin 8) (s : State) : exec (.setGo w) s = execSetGo w s := rfl
@[simp] theorem exec_offsetNs (w : Fin 8) (plane : Fin 8) (val : Word) (s : State) : exec (.offsetNs w plane val) s = execOffsetNs w plane val s := rfl
@[simp] theorem exec_wclkLost  (s : State) : exec (.wclkLost ) s = execWclkLost  s := rfl
@[simp] theorem exec_frameStart (plane : Fin 8) (s : State) : exec (.frameStart plane) s = execFrameStart plane s := rfl
@[simp] theorem exec_lineStart (plane : Fin 8) (late : List Reader) (s : State) : exec (.lineStart plane late) s = execLineStart plane late s := rfl
@[simp] theorem exec_selectionInstant (reader : Reader) (s : State) : exec (.selectionInstant reader) s = execSelectionInstant reader s := rfl
@[simp] theorem exec_sampleTick  (s : State) : exec (.sampleTick ) s = execSampleTick  s := rfl
@[simp] theorem exec_audioBlock  (s : State) : exec (.audioBlock ) s = execAudioBlock  s := rfl
@[simp] theorem exec_milepost  (s : State) : exec (.milepost ) s = execMilepost  s := rfl
@[simp] theorem exec_stagingDeadline  (s : State) : exec (.stagingDeadline ) s = execStagingDeadline  s := rfl
@[simp] theorem exec_decisionInstant (late : List Nat) (s : State) : exec (.decisionInstant late) s = execDecisionInstant late s := rfl
@[simp] theorem exec_flipSettle (p : Fin 8) (s : State) : exec (.flipSettle p) s = execFlipSettle p s := rfl
@[simp] theorem exec_discard (w p : Fin 8) (s : State) : exec (.discard w p) s = execDiscard w p s := rfl
@[simp] theorem exec_sourceFrameStart (rx : VideoIn) (cut : SdiFrame) (s : State) : exec (.sourceFrameStart rx cut) s = execSourceFrameStart rx cut s := rfl
@[simp] theorem exec_sdiFrameEnd (rx : VideoIn) (frame : SdiFrame) (s : State) : exec (.sdiFrameEnd rx frame) s = execSdiFrameEnd rx frame s := rfl
@[simp] theorem exec_slotClose (n : Fin 1120) (s : State) : exec (.slotClose n) s = execSlotClose n s := rfl
@[simp] theorem exec_closeDeadline (n : Fin 1024) (s : State) : exec (.closeDeadline n) s = execCloseDeadline n s := rfl
@[simp] theorem exec_eccCorrected (stack : Fin 4) (qp : BitVec 16) (byte : BitVec 19) (scrub : Bool) (s : State) : exec (.eccCorrected stack qp byte scrub) s = execEccCorrected stack qp byte scrub s := rfl
@[simp] theorem exec_memUe (stack : Fin 4) (qp : BitVec 16) (line : BitVec 13) (byte : BitVec 6) (s : State) : exec (.memUe stack qp line byte) s = execMemUe stack qp line byte s := rfl
@[simp] theorem exec_scrubPassEnd (stack : Fin 4) (finished : Bool) (s : State) : exec (.scrubPassEnd stack finished) s = execScrubPassEnd stack finished s := rfl
@[simp] theorem exec_tempSensorRead (die : Vector (BitVec 8) 16) (hbm : Vector (BitVec 8) 4) (s : State) : exec (.tempSensorRead die hbm) s = execTempSensorRead die hbm s := rfl
@[simp] theorem exec_dstEnable (w : Fin 8) (d : Fin 1024) (s : State) : exec (.dstEnable w d) s = execDstEnable w d s := rfl
@[simp] theorem exec_dstDisable (w : Fin 8) (d : Fin 1024) (s : State) : exec (.dstDisable w d) s = execDstDisable w d s := rfl
@[simp] theorem exec_sdiLaneLock (l : Fin 256) (rate : BitVec 4) (s : State) : exec (.sdiLaneLock l rate) s = execSdiLaneLock l rate s := rfl
@[simp] theorem exec_sdiLoss (rx : VideoIn) (cut : SdiFrame) (s : State) : exec (.sdiLoss rx cut) s = execSdiLoss rx cut s := rfl
@[simp] theorem exec_quadMemberLost (l : Fin 256) (skew : Bool) (s : State) : exec (.quadMemberLost l skew) s = execQuadMemberLost l skew s := rfl
@[simp] theorem exec_quadMemberRejoin (l : Fin 256) (s : State) : exec (.quadMemberRejoin l) s = execQuadMemberRejoin l s := rfl
@[simp] theorem exec_ancPacketReceived (rx : VideoIn) (packet : AncPacket) (s : State) : exec (.ancPacketReceived rx packet) s = execAncPacketReceived rx packet s := rfl
@[simp] theorem exec_mportEnable (w : Fin 8) (m : Fin 64) (s : State) : exec (.mportEnable w m) s = execMportEnable w m s := rfl
@[simp] theorem exec_mportDisable (w : Fin 8) (m : Fin 64) (s : State) : exec (.mportDisable w m) s = execMportDisable w m s := rfl
@[simp] theorem exec_portUp (m : Fin 64) (s : State) : exec (.portUp m) s = execPortUp m s := rfl
@[simp] theorem exec_portDown (m : Fin 64) (s : State) : exec (.portDown m) s = execPortDown m s := rfl
@[simp] theorem exec_linkTrainingEnd (l : Fin 64) (taps : Option EqNow) (s : State) : exec (.linkTrainingEnd l taps) s = execLinkTrainingEnd l taps s := rfl
@[simp] theorem exec_mediaFrameReceive (m : Fin 64) (frame : NetFrame) (s : State) : exec (.mediaFrameReceive m frame) s = execMediaFrameReceive m frame s := rfl
@[simp] theorem exec_shortPathLookup (isl : Fin 16) (s : State) : exec (.shortPathLookup isl) s = execShortPathLookup isl s := rfl
@[simp] theorem exec_hpRxHead (w : Fin 8) (m : Fin 64) (val : Word) (s : State) : exec (.hpRxHead w m val) s = execHpRxHead w m val s := rfl
@[simp] theorem exec_hpTxTail (w : Fin 8) (m : Fin 64) (val : Word) (s : State) : exec (.hpTxTail w m val) s = execHpTxTail w m val s := rfl
@[simp] theorem exec_hpRingEnable (w : Fin 8) (m : Fin 64) (tx : Bool) (val : Word) (s : State) : exec (.hpRingEnable w m tx val) s = execHpRingEnable w m tx val s := rfl
@[simp] theorem exec_hpTxSend (m : Fin 64) (answer : HostAnswer) (s : State) : exec (.hpTxSend m answer) s = execHpTxSend m answer s := rfl
@[simp] theorem exec_flowLegDown (f : Fin 262144) (s : State) : exec (.flowLegDown f) s = execFlowLegDown f s := rfl
@[simp] theorem exec_netLoss (n : Fin 1024) (s : State) : exec (.netLoss n) s = execNetLoss n s := rfl
@[simp] theorem exec_sendPacketDue (f : Fin 262144) (s : State) : exec (.sendPacketDue f) s = execSendPacketDue f s := rfl
@[simp] theorem exec_lanePllUnlock (pll : LanePll) (s : State) : exec (.lanePllUnlock pll) s = execLanePllUnlock pll s := rfl
@[simp] theorem exec_lanePllRelock (pll : LanePll) (s : State) : exec (.lanePllRelock pll) s = execLanePllRelock pll s := rfl
@[simp] theorem exec_lanePowerUp (w : Fin 8) (l : Fin 584) (s : State) : exec (.lanePowerUp w l) s = execLanePowerUp w l s := rfl
@[simp] theorem exec_lanePowerDown (w : Fin 8) (l : Fin 584) (s : State) : exec (.lanePowerDown w l) s = execLanePowerDown w l s := rfl
@[simp] theorem exec_laneReady (l : Fin 584) (s : State) : exec (.laneReady l) s = execLaneReady l s := rfl
@[simp] theorem exec_adaptDone (l : Fin 584) (eq : EqNow) (s : State) : exec (.adaptDone l eq) s = execAdaptDone l eq s := rfl
@[simp] theorem exec_txeqWrite (w : Fin 8) (l : Fin 584) (val : Word) (s : State) : exec (.txeqWrite w l val) s = execTxeqWrite w l val s := rfl
@[simp] theorem exec_loopWrite (w : Fin 8) (l : Fin 584) (val : Word) (s : State) : exec (.loopWrite w l val) s = execLoopWrite w l val s := rfl
@[simp] theorem exec_prbsChkWrite (w : Fin 8) (l : Fin 584) (val : Word) (s : State) : exec (.prbsChkWrite w l val) s = execPrbsChkWrite w l val s := rfl
@[simp] theorem exec_esGo (w : Fin 8) (l : Fin 584) (s : State) : exec (.esGo w l) s = execEsGo w l s := rfl
@[simp] theorem exec_esDone (l : Fin 584) (errors : Word) (s : State) : exec (.esDone l errors) s = execEsDone l errors s := rfl
@[simp] theorem exec_esAbort (l : Fin 584) (errors bits : Word) (s : State) : exec (.esAbort l errors bits) s = execEsAbort l errors bits s := rfl
@[simp] theorem exec_cwBlockLockGained (seen : LaneHeaders) (s : State) : exec (.cwBlockLockGained seen) s = execCwBlockLockGained seen s := rfl
@[simp] theorem exec_cwLaneDown (l : Fin 8) (headers : List (BitVec 2)) (s : State) : exec (.cwLaneDown l headers) s = execCwLaneDown l headers s := rfl
@[simp] theorem exec_alignmentMarker (l : Fin 8) (marker : MarkerBlock) (bip : Byte) (skew : Nat) (s : State) : exec (.alignmentMarker l marker bip skew) s = execAlignmentMarker l marker bip skew s := rfl
@[simp] theorem exec_cwMarkerSend  (s : State) : exec (.cwMarkerSend ) s = execCwMarkerSend  s := rfl
@[simp] theorem exec_filler (arrived : ElasticColumn) (s : State) : exec (.filler arrived) s = execFiller arrived s := rfl
@[simp] theorem exec_ainWrite (w : Fin 8) (n : Fin 1024) (word : Fin 2) (val : Word) (s : State) : exec (.ainWrite w n word val) s = execAinWrite w n word val s := rfl
@[simp] theorem exec_agrpWrite (w : Fin 8) (g : Fin 512) (val : Word) (s : State) : exec (.agrpWrite w g val) s = execAgrpWrite w g val s := rfl
@[simp] theorem exec_embWrite (w : Fin 8) (d : Fin 1024) (word : Fin 2) (val : Word) (s : State) : exec (.embWrite w d word val) s = execEmbWrite w d word val s := rfl
@[simp] theorem exec_asrcLock (feed : AsrcFeed) (s : State) : exec (.asrcLock feed) s = execAsrcLock feed s := rfl
@[simp] theorem exec_aesinEnable (w : Fin 8) (i : Fin 64) (en : Bool) (s : State) : exec (.aesinEnable w i en) s = execAesinEnable w i en s := rfl
@[simp] theorem exec_aesinBind (w : Fin 8) (i : Fin 64) (word : Fin 2) (val : Word) (s : State) : exec (.aesinBind w i word val) s = execAesinBind w i word val s := rfl
@[simp] theorem exec_aesFrame (i : Fin 64) (frame : AesFrame) (s : State) : exec (.aesFrame i frame) s = execAesFrame i frame s := rfl
@[simp] theorem exec_zPreamble (i : Fin 64) (s : State) : exec (.zPreamble i) s = execZPreamble i s := rfl
@[simp] theorem exec_channelStatusBlock (i : Fin 64) (s : State) : exec (.channelStatusBlock i) s = execChannelStatusBlock i s := rfl
@[simp] theorem exec_aesLoss (i : Fin 64) (s : State) : exec (.aesLoss i) s = execAesLoss i s := rfl
@[simp] theorem exec_aesoutEnable (w : Fin 8) (o : Fin 64) (s : State) : exec (.aesoutEnable w o) s = execAesoutEnable w o s := rfl
@[simp] theorem exec_aesoutDisable (w : Fin 8) (o : Fin 64) (s : State) : exec (.aesoutDisable w o) s = execAesoutDisable w o s := rfl
@[simp] theorem exec_outCh (w : Fin 8) (o : Fin 64) (val : Word) (s : State) : exec (.outCh w o val) s = execOutCh w o val s := rfl
@[simp] theorem exec_ancqEnable (w : Fin 8) (q : Fin 256) (s : State) : exec (.ancqEnable w q) s = execAncqEnable w q s := rfl
@[simp] theorem exec_ancqDisable (w : Fin 8) (q : Fin 256) (s : State) : exec (.ancqDisable w q) s = execAncqDisable w q s := rfl
@[simp] theorem exec_fsrcWrite (w : Fin 8) (q : Fin 256) (val : Word) (s : State) : exec (.fsrcWrite w q val) s = execFsrcWrite w q val s := rfl
@[simp] theorem exec_watermarkWrite (w : Fin 8) (q : Fin 256) (val : Word) (s : State) : exec (.watermarkWrite w q val) s = execWatermarkWrite w q val s := rfl
@[simp] theorem exec_consumerWrite (w : Fin 8) (q : Fin 256) (val : Word) (s : State) : exec (.consumerWrite w q val) s = execConsumerWrite w q val s := rfl
@[simp] theorem exec_probeTrigger (c : Fin 32) (s : State) : exec (.probeTrigger c) s = execProbeTrigger c s := rfl
@[simp] theorem exec_probeFillDone (c : Fin 32) (s : State) : exec (.probeFillDone c) s = execProbeFillDone c s := rfl
@[simp] theorem exec_probeWindowWrite (w : Fin 8) (c : Fin 32) (win : Fin 4) (word : Fin 6) (val : Word) (s : State) : exec (.probeWindowWrite w c win word val) s = execProbeWindowWrite w c win word val s := rfl
@[simp] theorem exec_probeNop (c : Fin 32) (s : State) : exec (.probeNop c) s = execProbeNop c s := rfl
@[simp] theorem exec_halt (c : Fin 32) (s : State) : exec (.halt c) s = execHalt c s := rfl
@[simp] theorem exec_br (c : Fin 32) (s : State) : exec (.br c) s = execBr c s := rfl
@[simp] theorem exec_call (c : Fin 32) (s : State) : exec (.call c) s = execCall c s := rfl
@[simp] theorem exec_ret (c : Fin 32) (s : State) : exec (.ret c) s = execRet c s := rfl
@[simp] theorem exec_lp (c : Fin 32) (s : State) : exec (.lp c) s = execLp c s := rfl
@[simp] theorem exec_lpr (c : Fin 32) (s : State) : exec (.lpr c) s = execLpr c s := rfl
@[simp] theorem exec_lpx (c : Fin 32) (s : State) : exec (.lpx c) s = execLpx c s := rfl
@[simp] theorem exec_ldi (c : Fin 32) (s : State) : exec (.ldi c) s = execLdi c s := rfl
@[simp] theorem exec_mov (c : Fin 32) (s : State) : exec (.mov c) s = execMov c s := rfl
@[simp] theorem exec_add (c : Fin 32) (s : State) : exec (.add c) s = execAdd c s := rfl
@[simp] theorem exec_sub (c : Fin 32) (s : State) : exec (.sub c) s = execSub c s := rfl
@[simp] theorem exec_andReg (c : Fin 32) (s : State) : exec (.andReg c) s = execAndReg c s := rfl
@[simp] theorem exec_orReg (c : Fin 32) (s : State) : exec (.orReg c) s = execOrReg c s := rfl
@[simp] theorem exec_xorReg (c : Fin 32) (s : State) : exec (.xorReg c) s = execXorReg c s := rfl
@[simp] theorem exec_cmp (c : Fin 32) (s : State) : exec (.cmp c) s = execCmp c s := rfl
@[simp] theorem exec_addi (c : Fin 32) (s : State) : exec (.addi c) s = execAddi c s := rfl
@[simp] theorem exec_cmpi (c : Fin 32) (s : State) : exec (.cmpi c) s = execCmpi c s := rfl
@[simp] theorem exec_andi (c : Fin 32) (s : State) : exec (.andi c) s = execAndi c s := rfl
@[simp] theorem exec_shl (c : Fin 32) (s : State) : exec (.shl c) s = execShl c s := rfl
@[simp] theorem exec_shr (c : Fin 32) (s : State) : exec (.shr c) s = execShr c s := rfl
@[simp] theorem exec_sra (c : Fin 32) (s : State) : exec (.sra c) s = execSra c s := rfl
@[simp] theorem exec_absReg (c : Fin 32) (s : State) : exec (.absReg c) s = execAbsReg c s := rfl
@[simp] theorem exec_minReg (c : Fin 32) (s : State) : exec (.minReg c) s = execMinReg c s := rfl
@[simp] theorem exec_maxReg (c : Fin 32) (s : State) : exec (.maxReg c) s = execMaxReg c s := rfl
@[simp] theorem exec_ld (c : Fin 32) (s : State) : exec (.ld c) s = execLd c s := rfl
@[simp] theorem exec_st (c : Fin 32) (s : State) : exec (.st c) s = execSt c s := rfl
@[simp] theorem exec_ldd (c : Fin 32) (s : State) : exec (.ldd c) s = execLdd c s := rfl
@[simp] theorem exec_setx (c : Fin 32) (s : State) : exec (.setx c) s = execSetx c s := rfl
@[simp] theorem exec_movx (c : Fin 32) (s : State) : exec (.movx c) s = execMovx c s := rfl
@[simp] theorem exec_getx (c : Fin 32) (s : State) : exec (.getx c) s = execGetx c s := rfl
@[simp] theorem exec_gets (c : Fin 32) (s : State) : exec (.gets c) s = execGets c s := rfl
@[simp] theorem exec_mpy (c : Fin 32) (s : State) : exec (.mpy c) s = execMpy c s := rfl
@[simp] theorem exec_mac (c : Fin 32) (s : State) : exec (.mac c) s = execMac c s := rfl
@[simp] theorem exec_msu (c : Fin 32) (s : State) : exec (.msu c) s = execMsu c s := rfl
@[simp] theorem exec_ada (c : Fin 32) (s : State) : exec (.ada c) s = execAda c s := rfl
@[simp] theorem exec_clra (c : Fin 32) (s : State) : exec (.clra c) s = execClra c s := rfl
@[simp] theorem exec_mova (c : Fin 32) (s : State) : exec (.mova c) s = execMova c s := rfl
@[simp] theorem exec_sta (c : Fin 32) (s : State) : exec (.sta c) s = execSta c s := rfl
@[simp] theorem exec_pop (c : Fin 32) (s : State) : exec (.pop c) s = execPop c s := rfl
@[simp] theorem exec_push (c : Fin 32) (s : State) : exec (.push c) s = execPush c s := rfl
@[simp] theorem exec_pushResume (c : Fin 32) (s : State) : exec (.pushResume c) s = execPushResume c s := rfl
@[simp] theorem exec_qctl (c : Fin 32) (s : State) : exec (.qctl c) s = execQctl c s := rfl
@[simp] theorem exec_post (c : Fin 32) (s : State) : exec (.post c) s = execPost c s := rfl
@[simp] theorem exec_vrd (c : Fin 32) (s : State) : exec (.vrd c) s = execVrd c s := rfl
@[simp] theorem exec_sig (c : Fin 32) (s : State) : exec (.sig c) s = execSig c s := rfl
@[simp] theorem exec_tokenInAsserted  (s : State) : exec (.tokenInAsserted ) s = execTokenInAsserted  s := rfl
@[simp] theorem exec_tokenInDeasserted  (s : State) : exec (.tokenInDeasserted ) s = execTokenInDeasserted  s := rfl
@[simp] theorem exec_pairFaultNLow  (s : State) : exec (.pairFaultNLow ) s = execPairFaultNLow  s := rfl
@[simp] theorem exec_negotiationWait  (s : State) : exec (.negotiationWait ) s = execNegotiationWait  s := rfl
@[simp] theorem exec_helloInterval  (s : State) : exec (.helloInterval ) s = execHelloInterval  s := rfl
@[simp] theorem exec_timeInterval  (s : State) : exec (.timeInterval ) s = execTimeInterval  s := rfl
@[simp] theorem exec_healthInterval  (s : State) : exec (.healthInterval ) s = execHealthInterval  s := rfl
@[simp] theorem exec_peerLost  (s : State) : exec (.peerLost ) s = execPeerLost  s := rfl
@[simp] theorem exec_joinTimeout  (s : State) : exec (.joinTimeout ) s = execJoinTimeout  s := rfl
@[simp] theorem exec_heldRetry  (s : State) : exec (.heldRetry ) s = execHeldRetry  s := rfl
@[simp] theorem exec_hello (flags : BitVec 8) (mseq : BitVec 24) (words : List (BitVec 64)) (s : State) : exec (.hello flags mseq words) s = execHello flags mseq words s := rfl
@[simp] theorem exec_role (flags : BitVec 8) (mseq : BitVec 24) (words : List (BitVec 64)) (s : State) : exec (.role flags mseq words) s = execRole flags mseq words s := rfl
@[simp] theorem exec_linkAck (flags : BitVec 8) (mseq : BitVec 24) (words : List (BitVec 64)) (s : State) : exec (.linkAck flags mseq words) s = execLinkAck flags mseq words s := rfl
@[simp] theorem exec_time (flags : BitVec 8) (mseq : BitVec 24) (words : List (BitVec 64)) (s : State) : exec (.time flags mseq words) s = execTime flags mseq words s := rfl
@[simp] theorem exec_select (flags : BitVec 8) (mseq : BitVec 24) (words : List (BitVec 64)) (s : State) : exec (.select flags mseq words) s = execSelect flags mseq words s := rfl
@[simp] theorem exec_tear (flags : BitVec 8) (mseq : BitVec 24) (words : List (BitVec 64)) (s : State) : exec (.tear flags mseq words) s = execTear flags mseq words s := rfl
@[simp] theorem exec_audioDec (flags : BitVec 8) (mseq : BitVec 24) (words : List (BitVec 64)) (s : State) : exec (.audioDec flags mseq words) s = execAudioDec flags mseq words s := rfl
@[simp] theorem exec_digIn (flags : BitVec 8) (mseq : BitVec 24) (words : List (BitVec 64)) (s : State) : exec (.digIn flags mseq words) s = execDigIn flags mseq words s := rfl
@[simp] theorem exec_digOut (flags : BitVec 8) (mseq : BitVec 24) (words : List (BitVec 64)) (s : State) : exec (.digOut flags mseq words) s = execDigOut flags mseq words s := rfl
@[simp] theorem exec_digAud (flags : BitVec 8) (mseq : BitVec 24) (words : List (BitVec 64)) (s : State) : exec (.digAud flags mseq words) s = execDigAud flags mseq words s := rfl
@[simp] theorem exec_digestMissing  (s : State) : exec (.digestMissing ) s = execDigestMissing  s := rfl
@[simp] theorem exec_health (flags : BitVec 8) (mseq : BitVec 24) (words : List (BitVec 64)) (s : State) : exec (.health flags mseq words) s = execHealth flags mseq words s := rfl
@[simp] theorem exec_katReq (flags : BitVec 8) (mseq : BitVec 24) (words : List (BitVec 64)) (s : State) : exec (.katReq flags mseq words) s = execKatReq flags mseq words s := rfl
@[simp] theorem exec_mirrorCmd (flags : BitVec 8) (mseq : BitVec 24) (words : List (BitVec 64)) (s : State) : exec (.mirrorCmd flags mseq words) s = execMirrorCmd flags mseq words s := rfl
@[simp] theorem exec_mirrorData (flags : BitVec 8) (mseq : BitVec 24) (words : List (BitVec 64)) (s : State) : exec (.mirrorData flags mseq words) s = execMirrorData flags mseq words s := rfl
@[simp] theorem exec_mirrorReg (flags : BitVec 8) (mseq : BitVec 24) (words : List (BitVec 64)) (s : State) : exec (.mirrorReg flags mseq words) s = execMirrorReg flags mseq words s := rfl
@[simp] theorem exec_mirrorRegApply  (s : State) : exec (.mirrorRegApply ) s = execMirrorRegApply  s := rfl
@[simp] theorem exec_mirrorOwn (flags : BitVec 8) (mseq : BitVec 24) (words : List (BitVec 64)) (s : State) : exec (.mirrorOwn flags mseq words) s = execMirrorOwn flags mseq words s := rfl
@[simp] theorem exec_groupEnd (flags : BitVec 8) (mseq : BitVec 24) (words : List (BitVec 64)) (s : State) : exec (.groupEnd flags mseq words) s = execGroupEnd flags mseq words s := rfl
@[simp] theorem exec_groupAck (flags : BitVec 8) (mseq : BitVec 24) (words : List (BitVec 64)) (s : State) : exec (.groupAck flags mseq words) s = execGroupAck flags mseq words s := rfl
@[simp] theorem exec_decision (flags : BitVec 8) (mseq : BitVec 24) (words : List (BitVec 64)) (s : State) : exec (.decision flags mseq words) s = execDecision flags mseq words s := rfl
@[simp] theorem exec_decisionMissing  (s : State) : exec (.decisionMissing ) s = execDecisionMissing  s := rfl
@[simp] theorem exec_snapBegin (flags : BitVec 8) (mseq : BitVec 24) (words : List (BitVec 64)) (s : State) : exec (.snapBegin flags mseq words) s = execSnapBegin flags mseq words s := rfl
@[simp] theorem exec_snapEnd (flags : BitVec 8) (mseq : BitVec 24) (words : List (BitVec 64)) (s : State) : exec (.snapEnd flags mseq words) s = execSnapEnd flags mseq words s := rfl
@[simp] theorem exec_seqAlign (flags : BitVec 8) (mseq : BitVec 24) (words : List (BitVec 64)) (s : State) : exec (.seqAlign flags mseq words) s = execSeqAlign flags mseq words s := rfl
@[simp] theorem exec_retransmitTimeout  (s : State) : exec (.retransmitTimeout ) s = execRetransmitTimeout  s := rfl
@[simp] theorem exec_linkAckInterval  (s : State) : exec (.linkAckInterval ) s = execLinkAckInterval  s := rfl
@[simp] theorem exec_messageTimeout  (s : State) : exec (.messageTimeout ) s = execMessageTimeout  s := rfl
@[simp] theorem exec_katPeriod  (s : State) : exec (.katPeriod ) s = execKatPeriod  s := rfl
@[simp] theorem exec_katComplete (island : Fin 145) (pass : Bool) (s : State) : exec (.katComplete island pass) s = execKatComplete island pass s := rfl
@[simp] theorem exec_handoverApply  (s : State) : exec (.handoverApply ) s = execHandoverApply  s := rfl
@[simp] theorem exec_handoverRelease  (s : State) : exec (.handoverRelease ) s = execHandoverRelease  s := rfl
@[simp] theorem exec_fltSevWrite (w : Fin 8) (source : Fin 1024) (val : Word) (s : State) : exec (.fltSevWrite w source val) s = execFltSevWrite w source val s := rfl
@[simp] theorem exec_ackGo (w : Fin 8) (record : Fin 16) (s : State) : exec (.ackGo w record) s = execAckGo w record s := rfl
@[simp] theorem exec_safeStateReached  (s : State) : exec (.safeStateReached ) s = execSafeStateReached  s := rfl
@[simp] theorem exec_safeReq  (s : State) : exec (.safeReq ) s = execSafeReq  s := rfl
@[simp] theorem exec_sramCe (mem : Fin 9) (unit : Fin 32) (s : State) : exec (.sramCe mem unit) s = execSramCe mem unit s := rfl
@[simp] theorem exec_ctrlUe (mem : Fin 9) (unit : Fin 32) (addr : Word) (s : State) : exec (.ctrlUe mem unit addr) s = execCtrlUe mem unit addr s := rfl
@[simp] theorem exec_railFault (rail : Fin 13) (s : State) : exec (.railFault rail) s = execRailFault rail s := rfl
@[simp] theorem exec_brownOut (rail : Fin 13) (straps : Straps) (s : State) : exec (.brownOut rail straps) s = execBrownOut rail straps s := rfl
@[simp] theorem exec_roscOk  (s : State) : exec (.roscOk ) s = execRoscOk  s := rfl
@[simp] theorem exec_roscStartTimeout  (s : State) : exec (.roscStartTimeout ) s = execRoscStartTimeout  s := rfl
@[simp] theorem exec_clockStopCheck (mon : Fin 10) (stopped : Bool) (s : State) : exec (.clockStopCheck mon stopped) s = execClockStopCheck mon stopped s := rfl
@[simp] theorem exec_clockFrequencyCheck (mon : Fin 10) (ppm : BitVec 32) (s : State) : exec (.clockFrequencyCheck mon ppm) s = execClockFrequencyCheck mon ppm s := rfl
@[simp] theorem exec_clockReturn (mon : Fin 10) (s : State) : exec (.clockReturn mon) s = execClockReturn mon s := rfl
@[simp] theorem exec_pllRelock (pll : Fin 3) (s : State) : exec (.pllRelock pll) s = execPllRelock pll s := rfl
@[simp] theorem exec_clockSwitchDone (isl : Fin 145) (s : State) : exec (.clockSwitchDone isl) s = execClockSwitchDone isl s := rfl
@[simp] theorem exec_clkswForced (isl : Fin 145) (s : State) : exec (.clkswForced isl) s = execClkswForced isl s := rfl
@[simp] theorem exec_icgRampStep (isl : Fin 145) (s : State) : exec (.icgRampStep isl) s = execIcgRampStep isl s := rfl
@[simp] theorem exec_towEnable (w : Fin 8) (b : Fin 2) (val : Word) (s : State) : exec (.towEnable w b val) s = execTowEnable w b val s := rfl
@[simp] theorem exec_towDisable (w : Fin 8) (b : Fin 2) (val : Word) (s : State) : exec (.towDisable w b val) s = execTowDisable w b val s := rfl
@[simp] theorem exec_txGo (w : Fin 8) (b : Fin 2) (s : State) : exec (.txGo w b) s = execTxGo w b s := rfl
@[simp] theorem exec_txFlush (w : Fin 8) (b : Fin 2) (s : State) : exec (.txFlush w b) s = execTxFlush w b s := rfl
@[simp] theorem exec_rxPop (w : Fin 8) (b : Fin 2) (s : State) : exec (.rxPop w b) s = execRxPop w b s := rfl
@[simp] theorem exec_towFrameReceive (b : Fin 2) (f : TowWire) (s : State) : exec (.towFrameReceive b f) s = execTowFrameReceive b f s := rfl
@[simp] theorem exec_towTxStart (b : Fin 2) (defers : Nat) (s : State) : exec (.towTxStart b defers) s = execTowTxStart b defers s := rfl
@[simp] theorem exec_towCollision (b : Fin 2) (bitTime : Nat) (s : State) : exec (.towCollision b bitTime) s = execTowCollision b bitTime s := rfl
@[simp] theorem exec_towJamEnd (b : Fin 2) (s : State) : exec (.towJamEnd b) s = execTowJamEnd b s := rfl
@[simp] theorem exec_towBackoffEnd (b : Fin 2) (s : State) : exec (.towBackoffEnd b) s = execTowBackoffEnd b s := rfl
@[simp] theorem exec_towTxDone (b : Fin 2) (s : State) : exec (.towTxDone b) s = execTowTxDone b s := rfl
@[simp] theorem exec_towBusFail (b : Fin 2) (s : State) : exec (.towBusFail b) s = execTowBusFail b s := rfl
@[simp] theorem exec_powerOnReset (straps : Straps) (s : State) : exec (.powerOnReset straps) s = execPowerOnReset straps s := rfl
@[simp] theorem exec_pinReset (straps : Straps) (s : State) : exec (.pinReset straps) s = execPinReset straps s := rfl
@[simp] theorem exec_warmRst (w : Fin 8) (s : State) : exec (.warmRst w) s = execWarmRst w s := rfl
@[simp] theorem exec_fuseLoadDone (fuses : Option Fuses) (s : State) : exec (.fuseLoadDone fuses) s = execFuseLoadDone fuses s := rfl
@[simp] theorem exec_bankCheckDone (readOk : Bool) (s : State) : exec (.bankCheckDone readOk) s = execBankCheckDone readOk s := rfl
@[simp] theorem exec_bootRecordApplied (record : BootRecord) (s : State) : exec (.bootRecordApplied record) s = execBootRecordApplied record s := rfl
@[simp] theorem exec_memoryTrainingDone (ok : BitVec 4) (s : State) : exec (.memoryTrainingDone ok) s = execMemoryTrainingDone ok s := rfl
@[simp] theorem exec_settingsApplied  (s : State) : exec (.settingsApplied ) s = execSettingsApplied  s := rfl
@[simp] theorem exec_serviceReached (readOk : Bool) (s : State) : exec (.serviceReached readOk) s = execServiceReached readOk s := rfl
@[simp] theorem exec_flDataRead (r : Fin 8) (s : State) : exec (.flDataRead r) s = execFlDataRead r s := rfl
@[simp] theorem exec_flDataWrite (w : Fin 8) (val : Word) (s : State) : exec (.flDataWrite w val) s = execFlDataWrite w val s := rfl
@[simp] theorem exec_erase (w : Fin 8) (s : State) : exec (.erase w) s = execErase w s := rfl
@[simp] theorem exec_program (w : Fin 8) (s : State) : exec (.program w) s = execProgram w s := rfl
@[simp] theorem exec_deltaGo (w : Fin 8) (s : State) : exec (.deltaGo w) s = execDeltaGo w s := rfl
@[simp] theorem exec_prefA (w : Fin 8) (s : State) : exec (.prefA w) s = execPrefA w s := rfl
@[simp] theorem exec_prefB (w : Fin 8) (s : State) : exec (.prefB w) s = execPrefB w s := rfl
@[simp] theorem exec_save (w : Fin 8) (s : State) : exec (.save w) s = execSave w s := rfl
@[simp] theorem exec_flashOpDone (ok : Bool) (s : State) : exec (.flashOpDone ok) s = execFlashOpDone ok s := rfl
@[simp] theorem exec_fwDeltaDone (readOk eraseOk programOk : Bool) (s : State) : exec (.fwDeltaDone readOk eraseOk programOk) s = execFwDeltaDone readOk eraseOk programOk s := rfl
@[simp] theorem exec_settingsMigrated (ok : Bool) (s : State) : exec (.settingsMigrated ok) s = execSettingsMigrated ok s := rfl
@[simp] theorem exec_settingsAutosave  (s : State) : exec (.settingsAutosave ) s = execSettingsAutosave  s := rfl
@[simp] theorem exec_blowDbg (w : Fin 8) (s : State) : exec (.blowDbg w) s = execBlowDbg w s := rfl
@[simp] theorem exec_fuseKey (w : Fin 8) (val : Word) (s : State) : exec (.fuseKey w val) s = execFuseKey w val s := rfl
@[simp] theorem exec_domainGateRequest (w : Fin 8) (d : Fin 184) (s : State) : exec (.domainGateRequest w d) s = execDomainGateRequest w d s := rfl
@[simp] theorem exec_domainWakeRequest (w : Fin 8) (d : Fin 184) (s : State) : exec (.domainWakeRequest w d) s = execDomainWakeRequest w d s := rfl
@[simp] theorem exec_domainOffReached (d : Fin 184) (s : State) : exec (.domainOffReached d) s = execDomainOffReached d s := rfl
@[simp] theorem exec_domainOnReached (d : Fin 184) (s : State) : exec (.domainOnReached d) s = execDomainOnReached d s := rfl
@[simp] theorem exec_islRst (w : Fin 8) (d : Fin 184) (s : State) : exec (.islRst w d) s = execIslRst w d s := rfl
@[simp] theorem exec_tapReset  (s : State) : exec (.tapReset ) s = execTapReset  s := rfl
@[simp] theorem exec_idcode  (s : State) : exec (.idcode ) s = execIdcode  s := rfl
@[simp] theorem exec_samplePreload  (s : State) : exec (.samplePreload ) s = execSamplePreload  s := rfl
@[simp] theorem exec_extest  (s : State) : exec (.extest ) s = execExtest  s := rfl
@[simp] theorem exec_clamp  (s : State) : exec (.clamp ) s = execClamp  s := rfl
@[simp] theorem exec_highz  (s : State) : exec (.highz ) s = execHighz  s := rfl
@[simp] theorem exec_bypass  (s : State) : exec (.bypass ) s = execBypass  s := rfl
@[simp] theorem exec_dbgStatus  (s : State) : exec (.dbgStatus ) s = execDbgStatus  s := rfl
@[simp] theorem exec_dbgRead (addr : BitVec 16) (s : State) : exec (.dbgRead addr) s = execDbgRead addr s := rfl
@[simp] theorem exec_dbgWrite (addr : BitVec 16) (val : Word) (s : State) : exec (.dbgWrite addr val) s = execDbgWrite addr val s := rfl
@[simp] theorem exec_attach  (s : State) : exec (.attach ) s = execAttach  s := rfl
@[simp] theorem exec_detach  (s : State) : exec (.detach ) s = execDetach  s := rfl
@[simp] theorem exec_goRd  (s : State) : exec (.goRd ) s = execGoRd  s := rfl
@[simp] theorem exec_goWr  (s : State) : exec (.goWr ) s = execGoWr  s := rfl
@[simp] theorem exec_busAccessDone (answer : BusAnswer) (s : State) : exec (.busAccessDone answer) s = execBusAccessDone answer s := rfl
@[simp] theorem exec_haltReq (k : Fin 36) (s : State) : exec (.haltReq k) s = execHaltReq k s := rfl
@[simp] theorem exec_resume (k : Fin 36) (s : State) : exec (.resume k) s = execResume k s := rfl
@[simp] theorem exec_step (k : Fin 36) (s : State) : exec (.step k) s = execStep k s := rfl
@[simp] theorem exec_regData (k : Fin 36) (hi : Bool) (write : Option Word) (s : State) : exec (.regData k hi write) s = execRegData k hi write s := rfl
@[simp] theorem exec_icTimeout (target : Option (Fin 14)) (master : Fin 12) (request : Unanswered) (s : State) : exec (.icTimeout target master request) s = execIcTimeout target master request s := rfl
@[simp] theorem exec_decSeen (w : Fin 8) (s : State) : exec (.decSeen w) s = execDecSeen w s := rfl
@[simp] theorem exec_audioPlaneSourceReturn  (s : State) : exec (.audioPlaneSourceReturn ) s = execAudioPlaneSourceReturn  s := rfl
@[simp] theorem exec_railReturn (rail : Fin 13) (s : State) : exec (.railReturn rail) s = execRailReturn rail s := rfl
@[simp] theorem exec_safeReqNRelease  (s : State) : exec (.safeReqNRelease ) s = execSafeReqNRelease  s := rfl
@[simp] theorem exec_msgCrcErr  (s : State) : exec (.msgCrcErr ) s = execMsgCrcErr  s := rfl
@[simp] theorem exec_claimComplete  (s : State) : exec (.claimComplete ) s = execClaimComplete  s := rfl
@[simp] theorem exec_dbgOperationDone  (s : State) : exec (.dbgOperationDone ) s = execDbgOperationDone  s := rfl
@[simp] theorem exec_msixTableWrite (p : Fin 8) (dword : Fin 256) (val : Word) (s : State) : exec (.msixTableWrite p dword val) s = execMsixTableWrite p dword val s := rfl

end Sys2Proof.Machine
end

