-- ==== Sys2Proof/Laws/Commands.lean ====
section
/-! SUPPORT. What an engine does with the descriptor that it holds, said once for every opcode. -/

namespace Sys2Proof.Machine

/-- A change that is held has succeeded. -/
theorem holdAs_ok (s : State) (r : Request) (es : List Entry) (p : Plan) (v : Nat × Nat) :
    (s.holdAs r es p v).2.status = St.OK := by
  have imm : ∀ (s : State) (p : Nat) (cs : List Change) (n : Nat), (s.takeImmediate p cs n).2.status = St.OK := by
    intro s p cs n
    show (if s.takeSeq.pairedTakes = true then _ else _ : State × Done).2.status = _
    cases s.takeSeq.pairedTakes <;> rfl
  unfold State.holdAs
  split
  · rfl
  · split
    · rfl
    · exact imm ..

/-- A change descriptor that passes every check is held as its form says; with CHECK_ONLY nothing changes. -/
theorem submit_accepted {s s' : State} {r : Request} {es : List Entry} {lenBad : Bool} {p : Plan}
    (h : Accepted s r es lenBad p s') (value : State → Plan → Nat × Nat) :
    s.submit r es lenBad value =
      if r.checkOnly then (s, done (value s' p).1 (value s' p).2) else s'.holdAs r es p (value s' p) := by
  have held : s.planAndHold r (changesOf es) value =
      if r.checkOnly then (s, done (value s' p).1 (value s' p).2) else s'.holdAs r es p (value s' p) := by
    have h2 := h.planned
    unfold State.checkedOn at h2
    have h3 := h.form
    unfold Plan.count at h3
    have h4 := h.budget
    have h7 := h.stack
    unfold State.checkedOn at h4 h7
    unfold State.planAndHold
    simp only [h2]
    unfold State.hold
    simp only [h3, h4, h.graphics, h.pages, h7]
    unfold State.holdAs Plan.count
    simp
  unfold State.submit
  rw [h.checks]
  show (if bulkOp r.opcode = true ∧ (s.planAndHold r (changesOf es) value).2.status ≠ St.OK then _ else _) = _
  have ok : (s.planAndHold r (changesOf es) value).2.status = St.OK := by
    rw [held]
    split
    · rfl
    · exact holdAs_ok ..
  rw [if_neg (fun e => e.2 ok)]
  exact held

/-- A change descriptor that fails a check of R74, steps 2 to 7, is refused. -/
theorem submit_refused {s : State} {r : Request} {es : List Entry} {lenBad : Bool} {d : Done}
    (h : s.entryChecks r es lenBad = some d) (value : State → Plan → Nat × Nat) :
    s.submit r es lenBad value = s.refuse r d := by
  unfold State.submit
  rw [h]

/-- With CHECK_ONLY nothing is sent or announced. -/
theorem conclude_checkOnly {s : State} {e : Nat} {r : Request} (h : r.checkOnly = true) (v0 v1 : Nat) :
    s.conclude e r (done v0 v1) = s.finish e r St.OK v0 v1 0 := by
  have h1 : s.mirrorCmd r (done v0 v1) = s := by unfold State.mirrorCmd State.mirrorDesc; simp [h]
  have h2 : s.announce (done v0 v1) = s := by
    unfold State.announce
    have : s.take.takes.find? (fun k => (done v0 v1).cseq != 0 && k.seq == (done v0 v1).cseq && k.state == .scheduled) = none := by
      rw [List.find?_eq_none]; intro k _; simp [done]
    rw [this]
  unfold State.conclude
  rw [h1, h2]
  rfl

/-- An engine that holds the opcode it is to process answers with its effect. -/
theorem process_ready {s : State} {e op : Nat} {r : Request} (h : s.ready e op r) (f : State → Request → State × Done) :
    s.process e op f = (f s r).1.conclude e r (f s r).2 := by
  obtain ⟨h1, h2⟩ := h
  unfold State.process State.processWhen State.conclude
  rw [h1]
  rcases h2 with h2 | h2
  · simp [h2]
  · simp only [h2]; simp

/-- The same where the row takes only some of the descriptors with its opcode. -/
theorem processWhen_ready {s : State} {e op : Nat} {r : Request} (h : s.ready e op r) {ok : Request → Bool} (hk : ok r = true)
    (f : State → Request → State × Done) : s.processWhen e op ok f = (f s r).1.conclude e r (f s r).2 := by
  obtain ⟨h1, h2⟩ := h
  unfold State.processWhen State.conclude
  rw [h1]
  simp only [hk]
  rcases h2 with h2 | h2
  · simp [h2]
  · simp only [h2]; simp

end Sys2Proof.Machine
end

