-- ==== Sys2Proof/Laws/State.lean ====
section
/-! SUPPORT. What each update of the state leaves alone: one lemma for each part of the state. -/

namespace Sys2Proof.Machine

@[simp] theorem State.when_true (s : State) (f : State → State) : s.when true f = f s := rfl
@[simp] theorem State.when_false (s : State) (f : State → State) : s.when false f = s := rfl
@[simp] theorem State.each_nil {α : Type} (s : State) (f : State → α → State) : s.each [] f = s := rfl
@[simp] theorem State.each_cons {α : Type} (s : State) (a : α) (l : List α) (f : State → α → State) :
    s.each (a :: l) f = (f s a).each l f := rfl

@[simp] theorem State.setFld_pending (s : State) (f : Field) (v : Nat) (i : Nat) (j : Nat) :
    (s.setFld f v i j).pending = s.pending := rfl
@[simp] theorem State.setFld_free (s : State) (f : Field) (v : Nat) (i : Nat) (j : Nat) :
    (s.setFld f v i j).free = s.free := rfl
@[simp] theorem State.setFld_out (s : State) (f : Field) (v : Nat) (i : Nat) (j : Nat) :
    (s.setFld f v i j).out = s.out := rfl
@[simp] theorem State.setFld_host (s : State) (f : Field) (v : Nat) (i : Nat) (j : Nat) :
    (s.setFld f v i j).host = s.host := rfl
@[simp] theorem State.setFld_time (s : State) (f : Field) (v : Nat) (i : Nat) (j : Nat) :
    (s.setFld f v i j).time = s.time := rfl
@[simp] theorem State.setFld_take (s : State) (f : Field) (v : Nat) (i : Nat) (j : Nat) :
    (s.setFld f v i j).take = s.take := rfl
@[simp] theorem State.setFld_store (s : State) (f : Field) (v : Nat) (i : Nat) (j : Nat) :
    (s.setFld f v i j).store = s.store := rfl
@[simp] theorem State.setFld_faults (s : State) (f : Field) (v : Nat) (i : Nat) (j : Nat) :
    (s.setFld f v i j).faults = s.faults := rfl
@[simp] theorem State.setFld_cway (s : State) (f : Field) (v : Nat) (i : Nat) (j : Nat) :
    (s.setFld f v i j).cway = s.cway := rfl
@[simp] theorem State.setFld_sdi (s : State) (f : Field) (v : Nat) (i : Nat) (j : Nat) :
    (s.setFld f v i j).sdi = s.sdi := rfl
@[simp] theorem State.setFld_media (s : State) (f : Field) (v : Nat) (i : Nat) (j : Nat) :
    (s.setFld f v i j).media = s.media := rfl
@[simp] theorem State.setFld_lane (s : State) (f : Field) (v : Nat) (i : Nat) (j : Nat) :
    (s.setFld f v i j).lane = s.lane := rfl
@[simp] theorem State.setFld_audio (s : State) (f : Field) (v : Nat) (i : Nat) (j : Nat) :
    (s.setFld f v i j).audio = s.audio := rfl
@[simp] theorem State.setFld_aes (s : State) (f : Field) (v : Nat) (i : Nat) (j : Nat) :
    (s.setFld f v i j).aes = s.aes := rfl
@[simp] theorem State.setFld_anc (s : State) (f : Field) (v : Nat) (i : Nat) (j : Nat) :
    (s.setFld f v i j).anc = s.anc := rfl
@[simp] theorem State.setFld_probe (s : State) (f : Field) (v : Nat) (i : Nat) (j : Nat) :
    (s.setFld f v i j).probe = s.probe := rfl
@[simp] theorem State.setFld_clk (s : State) (f : Field) (v : Nat) (i : Nat) (j : Nat) :
    (s.setFld f v i j).clk = s.clk := rfl
@[simp] theorem State.setFld_tow (s : State) (f : Field) (v : Nat) (i : Nat) (j : Nat) :
    (s.setFld f v i j).tow = s.tow := rfl
@[simp] theorem State.setFld_boot (s : State) (f : Field) (v : Nat) (i : Nat) (j : Nat) :
    (s.setFld f v i j).boot = s.boot := rfl
@[simp] theorem State.setFld_ic (s : State) (f : Field) (v : Nat) (i : Nat) (j : Nat) :
    (s.setFld f v i j).ic = s.ic := rfl
@[simp] theorem State.setFld_dbg (s : State) (f : Field) (v : Nat) (i : Nat) (j : Nat) :
    (s.setFld f v i j).dbg = s.dbg := rfl

@[simp] theorem State.resetFld_pending (s : State) (f : Field) (i : Nat) (j : Nat) :
    (s.resetFld f i j).pending = s.pending := rfl
@[simp] theorem State.resetFld_free (s : State) (f : Field) (i : Nat) (j : Nat) :
    (s.resetFld f i j).free = s.free := rfl
@[simp] theorem State.resetFld_out (s : State) (f : Field) (i : Nat) (j : Nat) : (s.resetFld f i j).out = s.out := rfl
@[simp] theorem State.resetFld_host (s : State) (f : Field) (i : Nat) (j : Nat) :
    (s.resetFld f i j).host = s.host := rfl
@[simp] theorem State.resetFld_time (s : State) (f : Field) (i : Nat) (j : Nat) :
    (s.resetFld f i j).time = s.time := rfl
@[simp] theorem State.resetFld_take (s : State) (f : Field) (i : Nat) (j : Nat) :
    (s.resetFld f i j).take = s.take := rfl
@[simp] theorem State.resetFld_store (s : State) (f : Field) (i : Nat) (j : Nat) :
    (s.resetFld f i j).store = s.store := rfl
@[simp] theorem State.resetFld_faults (s : State) (f : Field) (i : Nat) (j : Nat) :
    (s.resetFld f i j).faults = s.faults := rfl
@[simp] theorem State.resetFld_cway (s : State) (f : Field) (i : Nat) (j : Nat) :
    (s.resetFld f i j).cway = s.cway := rfl
@[simp] theorem State.resetFld_sdi (s : State) (f : Field) (i : Nat) (j : Nat) : (s.resetFld f i j).sdi = s.sdi := rfl
@[simp] theorem State.resetFld_media (s : State) (f : Field) (i : Nat) (j : Nat) :
    (s.resetFld f i j).media = s.media := rfl
@[simp] theorem State.resetFld_lane (s : State) (f : Field) (i : Nat) (j : Nat) :
    (s.resetFld f i j).lane = s.lane := rfl
@[simp] theorem State.resetFld_audio (s : State) (f : Field) (i : Nat) (j : Nat) :
    (s.resetFld f i j).audio = s.audio := rfl
@[simp] theorem State.resetFld_aes (s : State) (f : Field) (i : Nat) (j : Nat) : (s.resetFld f i j).aes = s.aes := rfl
@[simp] theorem State.resetFld_anc (s : State) (f : Field) (i : Nat) (j : Nat) : (s.resetFld f i j).anc = s.anc := rfl
@[simp] theorem State.resetFld_probe (s : State) (f : Field) (i : Nat) (j : Nat) :
    (s.resetFld f i j).probe = s.probe := rfl
@[simp] theorem State.resetFld_clk (s : State) (f : Field) (i : Nat) (j : Nat) : (s.resetFld f i j).clk = s.clk := rfl
@[simp] theorem State.resetFld_tow (s : State) (f : Field) (i : Nat) (j : Nat) : (s.resetFld f i j).tow = s.tow := rfl
@[simp] theorem State.resetFld_boot (s : State) (f : Field) (i : Nat) (j : Nat) :
    (s.resetFld f i j).boot = s.boot := rfl
@[simp] theorem State.resetFld_ic (s : State) (f : Field) (i : Nat) (j : Nat) : (s.resetFld f i j).ic = s.ic := rfl
@[simp] theorem State.resetFld_dbg (s : State) (f : Field) (i : Nat) (j : Nat) : (s.resetFld f i j).dbg = s.dbg := rfl

@[simp] theorem State.addFld_pending (s : State) (f : Field) (n : Nat) (i : Nat) (j : Nat) :
    (s.addFld f n i j).pending = s.pending := rfl
@[simp] theorem State.addFld_free (s : State) (f : Field) (n : Nat) (i : Nat) (j : Nat) :
    (s.addFld f n i j).free = s.free := rfl
@[simp] theorem State.addFld_out (s : State) (f : Field) (n : Nat) (i : Nat) (j : Nat) :
    (s.addFld f n i j).out = s.out := rfl
@[simp] theorem State.addFld_host (s : State) (f : Field) (n : Nat) (i : Nat) (j : Nat) :
    (s.addFld f n i j).host = s.host := rfl
@[simp] theorem State.addFld_time (s : State) (f : Field) (n : Nat) (i : Nat) (j : Nat) :
    (s.addFld f n i j).time = s.time := rfl
@[simp] theorem State.addFld_take (s : State) (f : Field) (n : Nat) (i : Nat) (j : Nat) :
    (s.addFld f n i j).take = s.take := rfl
@[simp] theorem State.addFld_store (s : State) (f : Field) (n : Nat) (i : Nat) (j : Nat) :
    (s.addFld f n i j).store = s.store := rfl
@[simp] theorem State.addFld_faults (s : State) (f : Field) (n : Nat) (i : Nat) (j : Nat) :
    (s.addFld f n i j).faults = s.faults := rfl
@[simp] theorem State.addFld_cway (s : State) (f : Field) (n : Nat) (i : Nat) (j : Nat) :
    (s.addFld f n i j).cway = s.cway := rfl
@[simp] theorem State.addFld_sdi (s : State) (f : Field) (n : Nat) (i : Nat) (j : Nat) :
    (s.addFld f n i j).sdi = s.sdi := rfl
@[simp] theorem State.addFld_media (s : State) (f : Field) (n : Nat) (i : Nat) (j : Nat) :
    (s.addFld f n i j).media = s.media := rfl
@[simp] theorem State.addFld_lane (s : State) (f : Field) (n : Nat) (i : Nat) (j : Nat) :
    (s.addFld f n i j).lane = s.lane := rfl
@[simp] theorem State.addFld_audio (s : State) (f : Field) (n : Nat) (i : Nat) (j : Nat) :
    (s.addFld f n i j).audio = s.audio := rfl
@[simp] theorem State.addFld_aes (s : State) (f : Field) (n : Nat) (i : Nat) (j : Nat) :
    (s.addFld f n i j).aes = s.aes := rfl
@[simp] theorem State.addFld_anc (s : State) (f : Field) (n : Nat) (i : Nat) (j : Nat) :
    (s.addFld f n i j).anc = s.anc := rfl
@[simp] theorem State.addFld_probe (s : State) (f : Field) (n : Nat) (i : Nat) (j : Nat) :
    (s.addFld f n i j).probe = s.probe := rfl
@[simp] theorem State.addFld_clk (s : State) (f : Field) (n : Nat) (i : Nat) (j : Nat) :
    (s.addFld f n i j).clk = s.clk := rfl
@[simp] theorem State.addFld_tow (s : State) (f : Field) (n : Nat) (i : Nat) (j : Nat) :
    (s.addFld f n i j).tow = s.tow := rfl
@[simp] theorem State.addFld_boot (s : State) (f : Field) (n : Nat) (i : Nat) (j : Nat) :
    (s.addFld f n i j).boot = s.boot := rfl
@[simp] theorem State.addFld_ic (s : State) (f : Field) (n : Nat) (i : Nat) (j : Nat) :
    (s.addFld f n i j).ic = s.ic := rfl
@[simp] theorem State.addFld_dbg (s : State) (f : Field) (n : Nat) (i : Nat) (j : Nat) :
    (s.addFld f n i j).dbg = s.dbg := rfl

@[simp] theorem State.satFld_pending (s : State) (f : Field) (i : Nat) (j : Nat) :
    (s.satFld f i j).pending = s.pending := rfl
@[simp] theorem State.satFld_free (s : State) (f : Field) (i : Nat) (j : Nat) : (s.satFld f i j).free = s.free := rfl
@[simp] theorem State.satFld_out (s : State) (f : Field) (i : Nat) (j : Nat) : (s.satFld f i j).out = s.out := rfl
@[simp] theorem State.satFld_host (s : State) (f : Field) (i : Nat) (j : Nat) : (s.satFld f i j).host = s.host := rfl
@[simp] theorem State.satFld_time (s : State) (f : Field) (i : Nat) (j : Nat) : (s.satFld f i j).time = s.time := rfl
@[simp] theorem State.satFld_take (s : State) (f : Field) (i : Nat) (j : Nat) : (s.satFld f i j).take = s.take := rfl
@[simp] theorem State.satFld_store (s : State) (f : Field) (i : Nat) (j : Nat) :
    (s.satFld f i j).store = s.store := rfl
@[simp] theorem State.satFld_faults (s : State) (f : Field) (i : Nat) (j : Nat) :
    (s.satFld f i j).faults = s.faults := rfl
@[simp] theorem State.satFld_cway (s : State) (f : Field) (i : Nat) (j : Nat) : (s.satFld f i j).cway = s.cway := rfl
@[simp] theorem State.satFld_sdi (s : State) (f : Field) (i : Nat) (j : Nat) : (s.satFld f i j).sdi = s.sdi := rfl
@[simp] theorem State.satFld_media (s : State) (f : Field) (i : Nat) (j : Nat) :
    (s.satFld f i j).media = s.media := rfl
@[simp] theorem State.satFld_lane (s : State) (f : Field) (i : Nat) (j : Nat) : (s.satFld f i j).lane = s.lane := rfl
@[simp] theorem State.satFld_audio (s : State) (f : Field) (i : Nat) (j : Nat) :
    (s.satFld f i j).audio = s.audio := rfl
@[simp] theorem State.satFld_aes (s : State) (f : Field) (i : Nat) (j : Nat) : (s.satFld f i j).aes = s.aes := rfl
@[simp] theorem State.satFld_anc (s : State) (f : Field) (i : Nat) (j : Nat) : (s.satFld f i j).anc = s.anc := rfl
@[simp] theorem State.satFld_probe (s : State) (f : Field) (i : Nat) (j : Nat) :
    (s.satFld f i j).probe = s.probe := rfl
@[simp] theorem State.satFld_clk (s : State) (f : Field) (i : Nat) (j : Nat) : (s.satFld f i j).clk = s.clk := rfl
@[simp] theorem State.satFld_tow (s : State) (f : Field) (i : Nat) (j : Nat) : (s.satFld f i j).tow = s.tow := rfl
@[simp] theorem State.satFld_boot (s : State) (f : Field) (i : Nat) (j : Nat) : (s.satFld f i j).boot = s.boot := rfl
@[simp] theorem State.satFld_ic (s : State) (f : Field) (i : Nat) (j : Nat) : (s.satFld f i j).ic = s.ic := rfl
@[simp] theorem State.satFld_dbg (s : State) (f : Field) (i : Nat) (j : Nat) : (s.satFld f i j).dbg = s.dbg := rfl

@[simp] theorem State.setPair_pending (s : State) (lo : Field) (hi : Field) (v : Nat) (i : Nat) (j : Nat) :
    (s.setPair lo hi v i j).pending = s.pending := rfl
@[simp] theorem State.setPair_free (s : State) (lo : Field) (hi : Field) (v : Nat) (i : Nat) (j : Nat) :
    (s.setPair lo hi v i j).free = s.free := rfl
@[simp] theorem State.setPair_out (s : State) (lo : Field) (hi : Field) (v : Nat) (i : Nat) (j : Nat) :
    (s.setPair lo hi v i j).out = s.out := rfl
@[simp] theorem State.setPair_host (s : State) (lo : Field) (hi : Field) (v : Nat) (i : Nat) (j : Nat) :
    (s.setPair lo hi v i j).host = s.host := rfl
@[simp] theorem State.setPair_time (s : State) (lo : Field) (hi : Field) (v : Nat) (i : Nat) (j : Nat) :
    (s.setPair lo hi v i j).time = s.time := rfl
@[simp] theorem State.setPair_take (s : State) (lo : Field) (hi : Field) (v : Nat) (i : Nat) (j : Nat) :
    (s.setPair lo hi v i j).take = s.take := rfl
@[simp] theorem State.setPair_store (s : State) (lo : Field) (hi : Field) (v : Nat) (i : Nat) (j : Nat) :
    (s.setPair lo hi v i j).store = s.store := rfl
@[simp] theorem State.setPair_faults (s : State) (lo : Field) (hi : Field) (v : Nat) (i : Nat) (j : Nat) :
    (s.setPair lo hi v i j).faults = s.faults := rfl
@[simp] theorem State.setPair_cway (s : State) (lo : Field) (hi : Field) (v : Nat) (i : Nat) (j : Nat) :
    (s.setPair lo hi v i j).cway = s.cway := rfl
@[simp] theorem State.setPair_sdi (s : State) (lo : Field) (hi : Field) (v : Nat) (i : Nat) (j : Nat) :
    (s.setPair lo hi v i j).sdi = s.sdi := rfl
@[simp] theorem State.setPair_media (s : State) (lo : Field) (hi : Field) (v : Nat) (i : Nat) (j : Nat) :
    (s.setPair lo hi v i j).media = s.media := rfl
@[simp] theorem State.setPair_lane (s : State) (lo : Field) (hi : Field) (v : Nat) (i : Nat) (j : Nat) :
    (s.setPair lo hi v i j).lane = s.lane := rfl
@[simp] theorem State.setPair_audio (s : State) (lo : Field) (hi : Field) (v : Nat) (i : Nat) (j : Nat) :
    (s.setPair lo hi v i j).audio = s.audio := rfl
@[simp] theorem State.setPair_aes (s : State) (lo : Field) (hi : Field) (v : Nat) (i : Nat) (j : Nat) :
    (s.setPair lo hi v i j).aes = s.aes := rfl
@[simp] theorem State.setPair_anc (s : State) (lo : Field) (hi : Field) (v : Nat) (i : Nat) (j : Nat) :
    (s.setPair lo hi v i j).anc = s.anc := rfl
@[simp] theorem State.setPair_probe (s : State) (lo : Field) (hi : Field) (v : Nat) (i : Nat) (j : Nat) :
    (s.setPair lo hi v i j).probe = s.probe := rfl
@[simp] theorem State.setPair_clk (s : State) (lo : Field) (hi : Field) (v : Nat) (i : Nat) (j : Nat) :
    (s.setPair lo hi v i j).clk = s.clk := rfl
@[simp] theorem State.setPair_tow (s : State) (lo : Field) (hi : Field) (v : Nat) (i : Nat) (j : Nat) :
    (s.setPair lo hi v i j).tow = s.tow := rfl
@[simp] theorem State.setPair_boot (s : State) (lo : Field) (hi : Field) (v : Nat) (i : Nat) (j : Nat) :
    (s.setPair lo hi v i j).boot = s.boot := rfl
@[simp] theorem State.setPair_ic (s : State) (lo : Field) (hi : Field) (v : Nat) (i : Nat) (j : Nat) :
    (s.setPair lo hi v i j).ic = s.ic := rfl
@[simp] theorem State.setPair_dbg (s : State) (lo : Field) (hi : Field) (v : Nat) (i : Nat) (j : Nat) :
    (s.setPair lo hi v i j).dbg = s.dbg := rfl

@[simp] theorem State.addPair_pending (s : State) (lo : Field) (hi : Field) (n : Nat) (i : Nat) (j : Nat) :
    (s.addPair lo hi n i j).pending = s.pending := rfl
@[simp] theorem State.addPair_free (s : State) (lo : Field) (hi : Field) (n : Nat) (i : Nat) (j : Nat) :
    (s.addPair lo hi n i j).free = s.free := rfl
@[simp] theorem State.addPair_out (s : State) (lo : Field) (hi : Field) (n : Nat) (i : Nat) (j : Nat) :
    (s.addPair lo hi n i j).out = s.out := rfl
@[simp] theorem State.addPair_host (s : State) (lo : Field) (hi : Field) (n : Nat) (i : Nat) (j : Nat) :
    (s.addPair lo hi n i j).host = s.host := rfl
@[simp] theorem State.addPair_time (s : State) (lo : Field) (hi : Field) (n : Nat) (i : Nat) (j : Nat) :
    (s.addPair lo hi n i j).time = s.time := rfl
@[simp] theorem State.addPair_take (s : State) (lo : Field) (hi : Field) (n : Nat) (i : Nat) (j : Nat) :
    (s.addPair lo hi n i j).take = s.take := rfl
@[simp] theorem State.addPair_store (s : State) (lo : Field) (hi : Field) (n : Nat) (i : Nat) (j : Nat) :
    (s.addPair lo hi n i j).store = s.store := rfl
@[simp] theorem State.addPair_faults (s : State) (lo : Field) (hi : Field) (n : Nat) (i : Nat) (j : Nat) :
    (s.addPair lo hi n i j).faults = s.faults := rfl
@[simp] theorem State.addPair_cway (s : State) (lo : Field) (hi : Field) (n : Nat) (i : Nat) (j : Nat) :
    (s.addPair lo hi n i j).cway = s.cway := rfl
@[simp] theorem State.addPair_sdi (s : State) (lo : Field) (hi : Field) (n : Nat) (i : Nat) (j : Nat) :
    (s.addPair lo hi n i j).sdi = s.sdi := rfl
@[simp] theorem State.addPair_media (s : State) (lo : Field) (hi : Field) (n : Nat) (i : Nat) (j : Nat) :
    (s.addPair lo hi n i j).media = s.media := rfl
@[simp] theorem State.addPair_lane (s : State) (lo : Field) (hi : Field) (n : Nat) (i : Nat) (j : Nat) :
    (s.addPair lo hi n i j).lane = s.lane := rfl
@[simp] theorem State.addPair_audio (s : State) (lo : Field) (hi : Field) (n : Nat) (i : Nat) (j : Nat) :
    (s.addPair lo hi n i j).audio = s.audio := rfl
@[simp] theorem State.addPair_aes (s : State) (lo : Field) (hi : Field) (n : Nat) (i : Nat) (j : Nat) :
    (s.addPair lo hi n i j).aes = s.aes := rfl
@[simp] theorem State.addPair_anc (s : State) (lo : Field) (hi : Field) (n : Nat) (i : Nat) (j : Nat) :
    (s.addPair lo hi n i j).anc = s.anc := rfl
@[simp] theorem State.addPair_probe (s : State) (lo : Field) (hi : Field) (n : Nat) (i : Nat) (j : Nat) :
    (s.addPair lo hi n i j).probe = s.probe := rfl
@[simp] theorem State.addPair_clk (s : State) (lo : Field) (hi : Field) (n : Nat) (i : Nat) (j : Nat) :
    (s.addPair lo hi n i j).clk = s.clk := rfl
@[simp] theorem State.addPair_tow (s : State) (lo : Field) (hi : Field) (n : Nat) (i : Nat) (j : Nat) :
    (s.addPair lo hi n i j).tow = s.tow := rfl
@[simp] theorem State.addPair_boot (s : State) (lo : Field) (hi : Field) (n : Nat) (i : Nat) (j : Nat) :
    (s.addPair lo hi n i j).boot = s.boot := rfl
@[simp] theorem State.addPair_ic (s : State) (lo : Field) (hi : Field) (n : Nat) (i : Nat) (j : Nat) :
    (s.addPair lo hi n i j).ic = s.ic := rfl
@[simp] theorem State.addPair_dbg (s : State) (lo : Field) (hi : Field) (n : Nat) (i : Nat) (j : Nat) :
    (s.addPair lo hi n i j).dbg = s.dbg := rfl

@[simp] theorem State.setOwner_pending (s : State) (ori : Nat) (p : Option Nat) :
    (s.setOwner ori p).pending = s.pending := rfl
@[simp] theorem State.setOwner_free (s : State) (ori : Nat) (p : Option Nat) : (s.setOwner ori p).free = s.free := rfl
@[simp] theorem State.setOwner_out (s : State) (ori : Nat) (p : Option Nat) : (s.setOwner ori p).out = s.out := rfl
@[simp] theorem State.setOwner_host (s : State) (ori : Nat) (p : Option Nat) : (s.setOwner ori p).host = s.host := rfl
@[simp] theorem State.setOwner_time (s : State) (ori : Nat) (p : Option Nat) : (s.setOwner ori p).time = s.time := rfl
@[simp] theorem State.setOwner_take (s : State) (ori : Nat) (p : Option Nat) : (s.setOwner ori p).take = s.take := rfl
@[simp] theorem State.setOwner_store (s : State) (ori : Nat) (p : Option Nat) :
    (s.setOwner ori p).store = s.store := rfl
@[simp] theorem State.setOwner_faults (s : State) (ori : Nat) (p : Option Nat) :
    (s.setOwner ori p).faults = s.faults := rfl
@[simp] theorem State.setOwner_cway (s : State) (ori : Nat) (p : Option Nat) : (s.setOwner ori p).cway = s.cway := rfl
@[simp] theorem State.setOwner_sdi (s : State) (ori : Nat) (p : Option Nat) : (s.setOwner ori p).sdi = s.sdi := rfl
@[simp] theorem State.setOwner_media (s : State) (ori : Nat) (p : Option Nat) :
    (s.setOwner ori p).media = s.media := rfl
@[simp] theorem State.setOwner_lane (s : State) (ori : Nat) (p : Option Nat) : (s.setOwner ori p).lane = s.lane := rfl
@[simp] theorem State.setOwner_audio (s : State) (ori : Nat) (p : Option Nat) :
    (s.setOwner ori p).audio = s.audio := rfl
@[simp] theorem State.setOwner_aes (s : State) (ori : Nat) (p : Option Nat) : (s.setOwner ori p).aes = s.aes := rfl
@[simp] theorem State.setOwner_anc (s : State) (ori : Nat) (p : Option Nat) : (s.setOwner ori p).anc = s.anc := rfl
@[simp] theorem State.setOwner_probe (s : State) (ori : Nat) (p : Option Nat) :
    (s.setOwner ori p).probe = s.probe := rfl
@[simp] theorem State.setOwner_clk (s : State) (ori : Nat) (p : Option Nat) : (s.setOwner ori p).clk = s.clk := rfl
@[simp] theorem State.setOwner_tow (s : State) (ori : Nat) (p : Option Nat) : (s.setOwner ori p).tow = s.tow := rfl
@[simp] theorem State.setOwner_boot (s : State) (ori : Nat) (p : Option Nat) : (s.setOwner ori p).boot = s.boot := rfl
@[simp] theorem State.setOwner_ic (s : State) (ori : Nat) (p : Option Nat) : (s.setOwner ori p).ic = s.ic := rfl
@[simp] theorem State.setOwner_dbg (s : State) (ori : Nat) (p : Option Nat) : (s.setOwner ori p).dbg = s.dbg := rfl

@[simp] theorem State.advance_pending (s : State) : (s.advance).pending = s.pending := rfl
@[simp] theorem State.advance_regs (s : State) : (s.advance).regs = s.regs := rfl
@[simp] theorem State.advance_out (s : State) : (s.advance).out = s.out := rfl
@[simp] theorem State.advance_host (s : State) : (s.advance).host = s.host := rfl
@[simp] theorem State.advance_time (s : State) : (s.advance).time = s.time := rfl
@[simp] theorem State.advance_take (s : State) : (s.advance).take = s.take := rfl
@[simp] theorem State.advance_store (s : State) : (s.advance).store = s.store := rfl
@[simp] theorem State.advance_faults (s : State) : (s.advance).faults = s.faults := rfl
@[simp] theorem State.advance_cway (s : State) : (s.advance).cway = s.cway := rfl
@[simp] theorem State.advance_sdi (s : State) : (s.advance).sdi = s.sdi := rfl
@[simp] theorem State.advance_media (s : State) : (s.advance).media = s.media := rfl
@[simp] theorem State.advance_lane (s : State) : (s.advance).lane = s.lane := rfl
@[simp] theorem State.advance_audio (s : State) : (s.advance).audio = s.audio := rfl
@[simp] theorem State.advance_aes (s : State) : (s.advance).aes = s.aes := rfl
@[simp] theorem State.advance_anc (s : State) : (s.advance).anc = s.anc := rfl
@[simp] theorem State.advance_probe (s : State) : (s.advance).probe = s.probe := rfl
@[simp] theorem State.advance_clk (s : State) : (s.advance).clk = s.clk := rfl
@[simp] theorem State.advance_tow (s : State) : (s.advance).tow = s.tow := rfl
@[simp] theorem State.advance_boot (s : State) : (s.advance).boot = s.boot := rfl
@[simp] theorem State.advance_ic (s : State) : (s.advance).ic = s.ic := rfl
@[simp] theorem State.advance_dbg (s : State) : (s.advance).dbg = s.dbg := rfl

@[simp] theorem State.emit_pending (s : State) (o : Output) : (s.emit o).pending = s.pending := rfl
@[simp] theorem State.emit_regs (s : State) (o : Output) : (s.emit o).regs = s.regs := rfl
@[simp] theorem State.emit_free (s : State) (o : Output) : (s.emit o).free = s.free := rfl
@[simp] theorem State.emit_host (s : State) (o : Output) : (s.emit o).host = s.host := rfl
@[simp] theorem State.emit_time (s : State) (o : Output) : (s.emit o).time = s.time := rfl
@[simp] theorem State.emit_take (s : State) (o : Output) : (s.emit o).take = s.take := rfl
@[simp] theorem State.emit_store (s : State) (o : Output) : (s.emit o).store = s.store := rfl
@[simp] theorem State.emit_faults (s : State) (o : Output) : (s.emit o).faults = s.faults := rfl
@[simp] theorem State.emit_cway (s : State) (o : Output) : (s.emit o).cway = s.cway := rfl
@[simp] theorem State.emit_sdi (s : State) (o : Output) : (s.emit o).sdi = s.sdi := rfl
@[simp] theorem State.emit_media (s : State) (o : Output) : (s.emit o).media = s.media := rfl
@[simp] theorem State.emit_lane (s : State) (o : Output) : (s.emit o).lane = s.lane := rfl
@[simp] theorem State.emit_audio (s : State) (o : Output) : (s.emit o).audio = s.audio := rfl
@[simp] theorem State.emit_aes (s : State) (o : Output) : (s.emit o).aes = s.aes := rfl
@[simp] theorem State.emit_anc (s : State) (o : Output) : (s.emit o).anc = s.anc := rfl
@[simp] theorem State.emit_probe (s : State) (o : Output) : (s.emit o).probe = s.probe := rfl
@[simp] theorem State.emit_clk (s : State) (o : Output) : (s.emit o).clk = s.clk := rfl
@[simp] theorem State.emit_tow (s : State) (o : Output) : (s.emit o).tow = s.tow := rfl
@[simp] theorem State.emit_boot (s : State) (o : Output) : (s.emit o).boot = s.boot := rfl
@[simp] theorem State.emit_dbg (s : State) (o : Output) : (s.emit o).dbg = s.dbg := rfl

@[simp] theorem State.setPart_pending (s : State) (p : Nat) (r : PartRun) : (s.setPart p r).pending = s.pending := rfl
@[simp] theorem State.setPart_regs (s : State) (p : Nat) (r : PartRun) : (s.setPart p r).regs = s.regs := rfl
@[simp] theorem State.setPart_free (s : State) (p : Nat) (r : PartRun) : (s.setPart p r).free = s.free := rfl
@[simp] theorem State.setPart_out (s : State) (p : Nat) (r : PartRun) : (s.setPart p r).out = s.out := rfl
@[simp] theorem State.setPart_time (s : State) (p : Nat) (r : PartRun) : (s.setPart p r).time = s.time := rfl
@[simp] theorem State.setPart_take (s : State) (p : Nat) (r : PartRun) : (s.setPart p r).take = s.take := rfl
@[simp] theorem State.setPart_store (s : State) (p : Nat) (r : PartRun) : (s.setPart p r).store = s.store := rfl
@[simp] theorem State.setPart_faults (s : State) (p : Nat) (r : PartRun) : (s.setPart p r).faults = s.faults := rfl
@[simp] theorem State.setPart_cway (s : State) (p : Nat) (r : PartRun) : (s.setPart p r).cway = s.cway := rfl
@[simp] theorem State.setPart_sdi (s : State) (p : Nat) (r : PartRun) : (s.setPart p r).sdi = s.sdi := rfl
@[simp] theorem State.setPart_media (s : State) (p : Nat) (r : PartRun) : (s.setPart p r).media = s.media := rfl
@[simp] theorem State.setPart_lane (s : State) (p : Nat) (r : PartRun) : (s.setPart p r).lane = s.lane := rfl
@[simp] theorem State.setPart_audio (s : State) (p : Nat) (r : PartRun) : (s.setPart p r).audio = s.audio := rfl
@[simp] theorem State.setPart_aes (s : State) (p : Nat) (r : PartRun) : (s.setPart p r).aes = s.aes := rfl
@[simp] theorem State.setPart_anc (s : State) (p : Nat) (r : PartRun) : (s.setPart p r).anc = s.anc := rfl
@[simp] theorem State.setPart_probe (s : State) (p : Nat) (r : PartRun) : (s.setPart p r).probe = s.probe := rfl
@[simp] theorem State.setPart_clk (s : State) (p : Nat) (r : PartRun) : (s.setPart p r).clk = s.clk := rfl
@[simp] theorem State.setPart_tow (s : State) (p : Nat) (r : PartRun) : (s.setPart p r).tow = s.tow := rfl
@[simp] theorem State.setPart_boot (s : State) (p : Nat) (r : PartRun) : (s.setPart p r).boot = s.boot := rfl
@[simp] theorem State.setPart_ic (s : State) (p : Nat) (r : PartRun) : (s.setPart p r).ic = s.ic := rfl
@[simp] theorem State.setPart_dbg (s : State) (p : Nat) (r : PartRun) : (s.setPart p r).dbg = s.dbg := rfl

@[simp] theorem State.setRing_pending (s : State) (p : Nat) (k : Nat) (r : RingRun) :
    (s.setRing p k r).pending = s.pending := rfl
@[simp] theorem State.setRing_regs (s : State) (p : Nat) (k : Nat) (r : RingRun) :
    (s.setRing p k r).regs = s.regs := rfl
@[simp] theorem State.setRing_free (s : State) (p : Nat) (k : Nat) (r : RingRun) :
    (s.setRing p k r).free = s.free := rfl
@[simp] theorem State.setRing_out (s : State) (p : Nat) (k : Nat) (r : RingRun) : (s.setRing p k r).out = s.out := rfl
@[simp] theorem State.setRing_time (s : State) (p : Nat) (k : Nat) (r : RingRun) :
    (s.setRing p k r).time = s.time := rfl
@[simp] theorem State.setRing_take (s : State) (p : Nat) (k : Nat) (r : RingRun) :
    (s.setRing p k r).take = s.take := rfl
@[simp] theorem State.setRing_store (s : State) (p : Nat) (k : Nat) (r : RingRun) :
    (s.setRing p k r).store = s.store := rfl
@[simp] theorem State.setRing_faults (s : State) (p : Nat) (k : Nat) (r : RingRun) :
    (s.setRing p k r).faults = s.faults := rfl
@[simp] theorem State.setRing_cway (s : State) (p : Nat) (k : Nat) (r : RingRun) :
    (s.setRing p k r).cway = s.cway := rfl
@[simp] theorem State.setRing_sdi (s : State) (p : Nat) (k : Nat) (r : RingRun) : (s.setRing p k r).sdi = s.sdi := rfl
@[simp] theorem State.setRing_media (s : State) (p : Nat) (k : Nat) (r : RingRun) :
    (s.setRing p k r).media = s.media := rfl
@[simp] theorem State.setRing_lane (s : State) (p : Nat) (k : Nat) (r : RingRun) :
    (s.setRing p k r).lane = s.lane := rfl
@[simp] theorem State.setRing_audio (s : State) (p : Nat) (k : Nat) (r : RingRun) :
    (s.setRing p k r).audio = s.audio := rfl
@[simp] theorem State.setRing_aes (s : State) (p : Nat) (k : Nat) (r : RingRun) : (s.setRing p k r).aes = s.aes := rfl
@[simp] theorem State.setRing_anc (s : State) (p : Nat) (k : Nat) (r : RingRun) : (s.setRing p k r).anc = s.anc := rfl
@[simp] theorem State.setRing_probe (s : State) (p : Nat) (k : Nat) (r : RingRun) :
    (s.setRing p k r).probe = s.probe := rfl
@[simp] theorem State.setRing_clk (s : State) (p : Nat) (k : Nat) (r : RingRun) : (s.setRing p k r).clk = s.clk := rfl
@[simp] theorem State.setRing_tow (s : State) (p : Nat) (k : Nat) (r : RingRun) : (s.setRing p k r).tow = s.tow := rfl
@[simp] theorem State.setRing_boot (s : State) (p : Nat) (k : Nat) (r : RingRun) :
    (s.setRing p k r).boot = s.boot := rfl
@[simp] theorem State.setRing_ic (s : State) (p : Nat) (k : Nat) (r : RingRun) : (s.setRing p k r).ic = s.ic := rfl
@[simp] theorem State.setRing_dbg (s : State) (p : Nat) (k : Nat) (r : RingRun) : (s.setRing p k r).dbg = s.dbg := rfl

@[simp] theorem State.setEvtRing_pending (s : State) (p : Nat) (e : Nat) (r : EvtRingRun) :
    (s.setEvtRing p e r).pending = s.pending := rfl
@[simp] theorem State.setEvtRing_regs (s : State) (p : Nat) (e : Nat) (r : EvtRingRun) :
    (s.setEvtRing p e r).regs = s.regs := rfl
@[simp] theorem State.setEvtRing_free (s : State) (p : Nat) (e : Nat) (r : EvtRingRun) :
    (s.setEvtRing p e r).free = s.free := rfl
@[simp] theorem State.setEvtRing_out (s : State) (p : Nat) (e : Nat) (r : EvtRingRun) :
    (s.setEvtRing p e r).out = s.out := rfl
@[simp] theorem State.setEvtRing_time (s : State) (p : Nat) (e : Nat) (r : EvtRingRun) :
    (s.setEvtRing p e r).time = s.time := rfl
@[simp] theorem State.setEvtRing_take (s : State) (p : Nat) (e : Nat) (r : EvtRingRun) :
    (s.setEvtRing p e r).take = s.take := rfl
@[simp] theorem State.setEvtRing_store (s : State) (p : Nat) (e : Nat) (r : EvtRingRun) :
    (s.setEvtRing p e r).store = s.store := rfl
@[simp] theorem State.setEvtRing_faults (s : State) (p : Nat) (e : Nat) (r : EvtRingRun) :
    (s.setEvtRing p e r).faults = s.faults := rfl
@[simp] theorem State.setEvtRing_cway (s : State) (p : Nat) (e : Nat) (r : EvtRingRun) :
    (s.setEvtRing p e r).cway = s.cway := rfl
@[simp] theorem State.setEvtRing_sdi (s : State) (p : Nat) (e : Nat) (r : EvtRingRun) :
    (s.setEvtRing p e r).sdi = s.sdi := rfl
@[simp] theorem State.setEvtRing_media (s : State) (p : Nat) (e : Nat) (r : EvtRingRun) :
    (s.setEvtRing p e r).media = s.media := rfl
@[simp] theorem State.setEvtRing_lane (s : State) (p : Nat) (e : Nat) (r : EvtRingRun) :
    (s.setEvtRing p e r).lane = s.lane := rfl
@[simp] theorem State.setEvtRing_audio (s : State) (p : Nat) (e : Nat) (r : EvtRingRun) :
    (s.setEvtRing p e r).audio = s.audio := rfl
@[simp] theorem State.setEvtRing_aes (s : State) (p : Nat) (e : Nat) (r : EvtRingRun) :
    (s.setEvtRing p e r).aes = s.aes := rfl
@[simp] theorem State.setEvtRing_anc (s : State) (p : Nat) (e : Nat) (r : EvtRingRun) :
    (s.setEvtRing p e r).anc = s.anc := rfl
@[simp] theorem State.setEvtRing_probe (s : State) (p : Nat) (e : Nat) (r : EvtRingRun) :
    (s.setEvtRing p e r).probe = s.probe := rfl
@[simp] theorem State.setEvtRing_clk (s : State) (p : Nat) (e : Nat) (r : EvtRingRun) :
    (s.setEvtRing p e r).clk = s.clk := rfl
@[simp] theorem State.setEvtRing_tow (s : State) (p : Nat) (e : Nat) (r : EvtRingRun) :
    (s.setEvtRing p e r).tow = s.tow := rfl
@[simp] theorem State.setEvtRing_boot (s : State) (p : Nat) (e : Nat) (r : EvtRingRun) :
    (s.setEvtRing p e r).boot = s.boot := rfl
@[simp] theorem State.setEvtRing_ic (s : State) (p : Nat) (e : Nat) (r : EvtRingRun) :
    (s.setEvtRing p e r).ic = s.ic := rfl
@[simp] theorem State.setEvtRing_dbg (s : State) (p : Nat) (e : Nat) (r : EvtRingRun) :
    (s.setEvtRing p e r).dbg = s.dbg := rfl

@[simp] theorem State.setEngine_pending (s : State) (e : Nat) (x : Engine) :
    (s.setEngine e x).pending = s.pending := rfl
@[simp] theorem State.setEngine_regs (s : State) (e : Nat) (x : Engine) : (s.setEngine e x).regs = s.regs := rfl
@[simp] theorem State.setEngine_free (s : State) (e : Nat) (x : Engine) : (s.setEngine e x).free = s.free := rfl
@[simp] theorem State.setEngine_out (s : State) (e : Nat) (x : Engine) : (s.setEngine e x).out = s.out := rfl
@[simp] theorem State.setEngine_time (s : State) (e : Nat) (x : Engine) : (s.setEngine e x).time = s.time := rfl
@[simp] theorem State.setEngine_take (s : State) (e : Nat) (x : Engine) : (s.setEngine e x).take = s.take := rfl
@[simp] theorem State.setEngine_store (s : State) (e : Nat) (x : Engine) : (s.setEngine e x).store = s.store := rfl
@[simp] theorem State.setEngine_faults (s : State) (e : Nat) (x : Engine) : (s.setEngine e x).faults = s.faults := rfl
@[simp] theorem State.setEngine_cway (s : State) (e : Nat) (x : Engine) : (s.setEngine e x).cway = s.cway := rfl
@[simp] theorem State.setEngine_sdi (s : State) (e : Nat) (x : Engine) : (s.setEngine e x).sdi = s.sdi := rfl
@[simp] theorem State.setEngine_media (s : State) (e : Nat) (x : Engine) : (s.setEngine e x).media = s.media := rfl
@[simp] theorem State.setEngine_lane (s : State) (e : Nat) (x : Engine) : (s.setEngine e x).lane = s.lane := rfl
@[simp] theorem State.setEngine_audio (s : State) (e : Nat) (x : Engine) : (s.setEngine e x).audio = s.audio := rfl
@[simp] theorem State.setEngine_aes (s : State) (e : Nat) (x : Engine) : (s.setEngine e x).aes = s.aes := rfl
@[simp] theorem State.setEngine_anc (s : State) (e : Nat) (x : Engine) : (s.setEngine e x).anc = s.anc := rfl
@[simp] theorem State.setEngine_probe (s : State) (e : Nat) (x : Engine) : (s.setEngine e x).probe = s.probe := rfl
@[simp] theorem State.setEngine_clk (s : State) (e : Nat) (x : Engine) : (s.setEngine e x).clk = s.clk := rfl
@[simp] theorem State.setEngine_tow (s : State) (e : Nat) (x : Engine) : (s.setEngine e x).tow = s.tow := rfl
@[simp] theorem State.setEngine_boot (s : State) (e : Nat) (x : Engine) : (s.setEngine e x).boot = s.boot := rfl
@[simp] theorem State.setEngine_ic (s : State) (e : Nat) (x : Engine) : (s.setEngine e x).ic = s.ic := rfl
@[simp] theorem State.setEngine_dbg (s : State) (e : Nat) (x : Engine) : (s.setEngine e x).dbg = s.dbg := rfl

@[simp] theorem State.setCore_pending (s : State) (c : Nat) (x : CoreRun) : (s.setCore c x).pending = s.pending := rfl
@[simp] theorem State.setCore_regs (s : State) (c : Nat) (x : CoreRun) : (s.setCore c x).regs = s.regs := rfl
@[simp] theorem State.setCore_free (s : State) (c : Nat) (x : CoreRun) : (s.setCore c x).free = s.free := rfl
@[simp] theorem State.setCore_out (s : State) (c : Nat) (x : CoreRun) : (s.setCore c x).out = s.out := rfl
@[simp] theorem State.setCore_host (s : State) (c : Nat) (x : CoreRun) : (s.setCore c x).host = s.host := rfl
@[simp] theorem State.setCore_time (s : State) (c : Nat) (x : CoreRun) : (s.setCore c x).time = s.time := rfl
@[simp] theorem State.setCore_take (s : State) (c : Nat) (x : CoreRun) : (s.setCore c x).take = s.take := rfl
@[simp] theorem State.setCore_store (s : State) (c : Nat) (x : CoreRun) : (s.setCore c x).store = s.store := rfl
@[simp] theorem State.setCore_faults (s : State) (c : Nat) (x : CoreRun) : (s.setCore c x).faults = s.faults := rfl
@[simp] theorem State.setCore_cway (s : State) (c : Nat) (x : CoreRun) : (s.setCore c x).cway = s.cway := rfl
@[simp] theorem State.setCore_sdi (s : State) (c : Nat) (x : CoreRun) : (s.setCore c x).sdi = s.sdi := rfl
@[simp] theorem State.setCore_media (s : State) (c : Nat) (x : CoreRun) : (s.setCore c x).media = s.media := rfl
@[simp] theorem State.setCore_lane (s : State) (c : Nat) (x : CoreRun) : (s.setCore c x).lane = s.lane := rfl
@[simp] theorem State.setCore_audio (s : State) (c : Nat) (x : CoreRun) : (s.setCore c x).audio = s.audio := rfl
@[simp] theorem State.setCore_aes (s : State) (c : Nat) (x : CoreRun) : (s.setCore c x).aes = s.aes := rfl
@[simp] theorem State.setCore_anc (s : State) (c : Nat) (x : CoreRun) : (s.setCore c x).anc = s.anc := rfl
@[simp] theorem State.setCore_clk (s : State) (c : Nat) (x : CoreRun) : (s.setCore c x).clk = s.clk := rfl
@[simp] theorem State.setCore_tow (s : State) (c : Nat) (x : CoreRun) : (s.setCore c x).tow = s.tow := rfl
@[simp] theorem State.setCore_boot (s : State) (c : Nat) (x : CoreRun) : (s.setCore c x).boot = s.boot := rfl
@[simp] theorem State.setCore_ic (s : State) (c : Nat) (x : CoreRun) : (s.setCore c x).ic = s.ic := rfl
@[simp] theorem State.setCore_dbg (s : State) (c : Nat) (x : CoreRun) : (s.setCore c x).dbg = s.dbg := rfl

@[simp] theorem State.setCway_pending (s : State) (p : PairRun) : (s.setCway p).pending = s.pending := rfl
@[simp] theorem State.setCway_regs (s : State) (p : PairRun) : (s.setCway p).regs = s.regs := rfl
@[simp] theorem State.setCway_free (s : State) (p : PairRun) : (s.setCway p).free = s.free := rfl
@[simp] theorem State.setCway_out (s : State) (p : PairRun) : (s.setCway p).out = s.out := rfl
@[simp] theorem State.setCway_host (s : State) (p : PairRun) : (s.setCway p).host = s.host := rfl
@[simp] theorem State.setCway_time (s : State) (p : PairRun) : (s.setCway p).time = s.time := rfl
@[simp] theorem State.setCway_take (s : State) (p : PairRun) : (s.setCway p).take = s.take := rfl
@[simp] theorem State.setCway_store (s : State) (p : PairRun) : (s.setCway p).store = s.store := rfl
@[simp] theorem State.setCway_faults (s : State) (p : PairRun) : (s.setCway p).faults = s.faults := rfl
@[simp] theorem State.setCway_sdi (s : State) (p : PairRun) : (s.setCway p).sdi = s.sdi := rfl
@[simp] theorem State.setCway_media (s : State) (p : PairRun) : (s.setCway p).media = s.media := rfl
@[simp] theorem State.setCway_lane (s : State) (p : PairRun) : (s.setCway p).lane = s.lane := rfl
@[simp] theorem State.setCway_audio (s : State) (p : PairRun) : (s.setCway p).audio = s.audio := rfl
@[simp] theorem State.setCway_aes (s : State) (p : PairRun) : (s.setCway p).aes = s.aes := rfl
@[simp] theorem State.setCway_anc (s : State) (p : PairRun) : (s.setCway p).anc = s.anc := rfl
@[simp] theorem State.setCway_probe (s : State) (p : PairRun) : (s.setCway p).probe = s.probe := rfl
@[simp] theorem State.setCway_clk (s : State) (p : PairRun) : (s.setCway p).clk = s.clk := rfl
@[simp] theorem State.setCway_tow (s : State) (p : PairRun) : (s.setCway p).tow = s.tow := rfl
@[simp] theorem State.setCway_boot (s : State) (p : PairRun) : (s.setCway p).boot = s.boot := rfl
@[simp] theorem State.setCway_ic (s : State) (p : PairRun) : (s.setCway p).ic = s.ic := rfl
@[simp] theorem State.setCway_dbg (s : State) (p : PairRun) : (s.setCway p).dbg = s.dbg := rfl

@[simp] theorem State.setTow_pending (s : State) (b : Nat) (x : TowRun) : (s.setTow b x).pending = s.pending := rfl
@[simp] theorem State.setTow_regs (s : State) (b : Nat) (x : TowRun) : (s.setTow b x).regs = s.regs := rfl
@[simp] theorem State.setTow_free (s : State) (b : Nat) (x : TowRun) : (s.setTow b x).free = s.free := rfl
@[simp] theorem State.setTow_out (s : State) (b : Nat) (x : TowRun) : (s.setTow b x).out = s.out := rfl
@[simp] theorem State.setTow_host (s : State) (b : Nat) (x : TowRun) : (s.setTow b x).host = s.host := rfl
@[simp] theorem State.setTow_time (s : State) (b : Nat) (x : TowRun) : (s.setTow b x).time = s.time := rfl
@[simp] theorem State.setTow_take (s : State) (b : Nat) (x : TowRun) : (s.setTow b x).take = s.take := rfl
@[simp] theorem State.setTow_store (s : State) (b : Nat) (x : TowRun) : (s.setTow b x).store = s.store := rfl
@[simp] theorem State.setTow_faults (s : State) (b : Nat) (x : TowRun) : (s.setTow b x).faults = s.faults := rfl
@[simp] theorem State.setTow_cway (s : State) (b : Nat) (x : TowRun) : (s.setTow b x).cway = s.cway := rfl
@[simp] theorem State.setTow_sdi (s : State) (b : Nat) (x : TowRun) : (s.setTow b x).sdi = s.sdi := rfl
@[simp] theorem State.setTow_media (s : State) (b : Nat) (x : TowRun) : (s.setTow b x).media = s.media := rfl
@[simp] theorem State.setTow_lane (s : State) (b : Nat) (x : TowRun) : (s.setTow b x).lane = s.lane := rfl
@[simp] theorem State.setTow_audio (s : State) (b : Nat) (x : TowRun) : (s.setTow b x).audio = s.audio := rfl
@[simp] theorem State.setTow_aes (s : State) (b : Nat) (x : TowRun) : (s.setTow b x).aes = s.aes := rfl
@[simp] theorem State.setTow_anc (s : State) (b : Nat) (x : TowRun) : (s.setTow b x).anc = s.anc := rfl
@[simp] theorem State.setTow_probe (s : State) (b : Nat) (x : TowRun) : (s.setTow b x).probe = s.probe := rfl
@[simp] theorem State.setTow_clk (s : State) (b : Nat) (x : TowRun) : (s.setTow b x).clk = s.clk := rfl
@[simp] theorem State.setTow_boot (s : State) (b : Nat) (x : TowRun) : (s.setTow b x).boot = s.boot := rfl
@[simp] theorem State.setTow_ic (s : State) (b : Nat) (x : TowRun) : (s.setTow b x).ic = s.ic := rfl
@[simp] theorem State.setTow_dbg (s : State) (b : Nat) (x : TowRun) : (s.setTow b x).dbg = s.dbg := rfl

@[simp] theorem State.setAesIn_pending (s : State) (i : Nat) (x : AesIn) : (s.setAesIn i x).pending = s.pending := rfl
@[simp] theorem State.setAesIn_regs (s : State) (i : Nat) (x : AesIn) : (s.setAesIn i x).regs = s.regs := rfl
@[simp] theorem State.setAesIn_free (s : State) (i : Nat) (x : AesIn) : (s.setAesIn i x).free = s.free := rfl
@[simp] theorem State.setAesIn_out (s : State) (i : Nat) (x : AesIn) : (s.setAesIn i x).out = s.out := rfl
@[simp] theorem State.setAesIn_host (s : State) (i : Nat) (x : AesIn) : (s.setAesIn i x).host = s.host := rfl
@[simp] theorem State.setAesIn_time (s : State) (i : Nat) (x : AesIn) : (s.setAesIn i x).time = s.time := rfl
@[simp] theorem State.setAesIn_take (s : State) (i : Nat) (x : AesIn) : (s.setAesIn i x).take = s.take := rfl
@[simp] theorem State.setAesIn_store (s : State) (i : Nat) (x : AesIn) : (s.setAesIn i x).store = s.store := rfl
@[simp] theorem State.setAesIn_faults (s : State) (i : Nat) (x : AesIn) : (s.setAesIn i x).faults = s.faults := rfl
@[simp] theorem State.setAesIn_cway (s : State) (i : Nat) (x : AesIn) : (s.setAesIn i x).cway = s.cway := rfl
@[simp] theorem State.setAesIn_sdi (s : State) (i : Nat) (x : AesIn) : (s.setAesIn i x).sdi = s.sdi := rfl
@[simp] theorem State.setAesIn_media (s : State) (i : Nat) (x : AesIn) : (s.setAesIn i x).media = s.media := rfl
@[simp] theorem State.setAesIn_lane (s : State) (i : Nat) (x : AesIn) : (s.setAesIn i x).lane = s.lane := rfl
@[simp] theorem State.setAesIn_audio (s : State) (i : Nat) (x : AesIn) : (s.setAesIn i x).audio = s.audio := rfl
@[simp] theorem State.setAesIn_anc (s : State) (i : Nat) (x : AesIn) : (s.setAesIn i x).anc = s.anc := rfl
@[simp] theorem State.setAesIn_probe (s : State) (i : Nat) (x : AesIn) : (s.setAesIn i x).probe = s.probe := rfl
@[simp] theorem State.setAesIn_clk (s : State) (i : Nat) (x : AesIn) : (s.setAesIn i x).clk = s.clk := rfl
@[simp] theorem State.setAesIn_tow (s : State) (i : Nat) (x : AesIn) : (s.setAesIn i x).tow = s.tow := rfl
@[simp] theorem State.setAesIn_boot (s : State) (i : Nat) (x : AesIn) : (s.setAesIn i x).boot = s.boot := rfl
@[simp] theorem State.setAesIn_ic (s : State) (i : Nat) (x : AesIn) : (s.setAesIn i x).ic = s.ic := rfl
@[simp] theorem State.setAesIn_dbg (s : State) (i : Nat) (x : AesIn) : (s.setAesIn i x).dbg = s.dbg := rfl

@[simp] theorem State.setAesOut_pending (s : State) (o : Nat) (x : AesOut) :
    (s.setAesOut o x).pending = s.pending := rfl
@[simp] theorem State.setAesOut_regs (s : State) (o : Nat) (x : AesOut) : (s.setAesOut o x).regs = s.regs := rfl
@[simp] theorem State.setAesOut_free (s : State) (o : Nat) (x : AesOut) : (s.setAesOut o x).free = s.free := rfl
@[simp] theorem State.setAesOut_out (s : State) (o : Nat) (x : AesOut) : (s.setAesOut o x).out = s.out := rfl
@[simp] theorem State.setAesOut_host (s : State) (o : Nat) (x : AesOut) : (s.setAesOut o x).host = s.host := rfl
@[simp] theorem State.setAesOut_time (s : State) (o : Nat) (x : AesOut) : (s.setAesOut o x).time = s.time := rfl
@[simp] theorem State.setAesOut_take (s : State) (o : Nat) (x : AesOut) : (s.setAesOut o x).take = s.take := rfl
@[simp] theorem State.setAesOut_store (s : State) (o : Nat) (x : AesOut) : (s.setAesOut o x).store = s.store := rfl
@[simp] theorem State.setAesOut_faults (s : State) (o : Nat) (x : AesOut) : (s.setAesOut o x).faults = s.faults := rfl
@[simp] theorem State.setAesOut_cway (s : State) (o : Nat) (x : AesOut) : (s.setAesOut o x).cway = s.cway := rfl
@[simp] theorem State.setAesOut_sdi (s : State) (o : Nat) (x : AesOut) : (s.setAesOut o x).sdi = s.sdi := rfl
@[simp] theorem State.setAesOut_media (s : State) (o : Nat) (x : AesOut) : (s.setAesOut o x).media = s.media := rfl
@[simp] theorem State.setAesOut_lane (s : State) (o : Nat) (x : AesOut) : (s.setAesOut o x).lane = s.lane := rfl
@[simp] theorem State.setAesOut_audio (s : State) (o : Nat) (x : AesOut) : (s.setAesOut o x).audio = s.audio := rfl
@[simp] theorem State.setAesOut_anc (s : State) (o : Nat) (x : AesOut) : (s.setAesOut o x).anc = s.anc := rfl
@[simp] theorem State.setAesOut_probe (s : State) (o : Nat) (x : AesOut) : (s.setAesOut o x).probe = s.probe := rfl
@[simp] theorem State.setAesOut_clk (s : State) (o : Nat) (x : AesOut) : (s.setAesOut o x).clk = s.clk := rfl
@[simp] theorem State.setAesOut_tow (s : State) (o : Nat) (x : AesOut) : (s.setAesOut o x).tow = s.tow := rfl
@[simp] theorem State.setAesOut_boot (s : State) (o : Nat) (x : AesOut) : (s.setAesOut o x).boot = s.boot := rfl
@[simp] theorem State.setAesOut_ic (s : State) (o : Nat) (x : AesOut) : (s.setAesOut o x).ic = s.ic := rfl
@[simp] theorem State.setAesOut_dbg (s : State) (o : Nat) (x : AesOut) : (s.setAesOut o x).dbg = s.dbg := rfl

@[simp] theorem State.setEmb_pending (s : State) (d : Nat) (x : EmbRun) : (s.setEmb d x).pending = s.pending := rfl
@[simp] theorem State.setEmb_regs (s : State) (d : Nat) (x : EmbRun) : (s.setEmb d x).regs = s.regs := rfl
@[simp] theorem State.setEmb_free (s : State) (d : Nat) (x : EmbRun) : (s.setEmb d x).free = s.free := rfl
@[simp] theorem State.setEmb_out (s : State) (d : Nat) (x : EmbRun) : (s.setEmb d x).out = s.out := rfl
@[simp] theorem State.setEmb_host (s : State) (d : Nat) (x : EmbRun) : (s.setEmb d x).host = s.host := rfl
@[simp] theorem State.setEmb_time (s : State) (d : Nat) (x : EmbRun) : (s.setEmb d x).time = s.time := rfl
@[simp] theorem State.setEmb_take (s : State) (d : Nat) (x : EmbRun) : (s.setEmb d x).take = s.take := rfl
@[simp] theorem State.setEmb_store (s : State) (d : Nat) (x : EmbRun) : (s.setEmb d x).store = s.store := rfl
@[simp] theorem State.setEmb_faults (s : State) (d : Nat) (x : EmbRun) : (s.setEmb d x).faults = s.faults := rfl
@[simp] theorem State.setEmb_cway (s : State) (d : Nat) (x : EmbRun) : (s.setEmb d x).cway = s.cway := rfl
@[simp] theorem State.setEmb_sdi (s : State) (d : Nat) (x : EmbRun) : (s.setEmb d x).sdi = s.sdi := rfl
@[simp] theorem State.setEmb_media (s : State) (d : Nat) (x : EmbRun) : (s.setEmb d x).media = s.media := rfl
@[simp] theorem State.setEmb_lane (s : State) (d : Nat) (x : EmbRun) : (s.setEmb d x).lane = s.lane := rfl
@[simp] theorem State.setEmb_aes (s : State) (d : Nat) (x : EmbRun) : (s.setEmb d x).aes = s.aes := rfl
@[simp] theorem State.setEmb_anc (s : State) (d : Nat) (x : EmbRun) : (s.setEmb d x).anc = s.anc := rfl
@[simp] theorem State.setEmb_probe (s : State) (d : Nat) (x : EmbRun) : (s.setEmb d x).probe = s.probe := rfl
@[simp] theorem State.setEmb_clk (s : State) (d : Nat) (x : EmbRun) : (s.setEmb d x).clk = s.clk := rfl
@[simp] theorem State.setEmb_tow (s : State) (d : Nat) (x : EmbRun) : (s.setEmb d x).tow = s.tow := rfl
@[simp] theorem State.setEmb_boot (s : State) (d : Nat) (x : EmbRun) : (s.setEmb d x).boot = s.boot := rfl
@[simp] theorem State.setEmb_ic (s : State) (d : Nat) (x : EmbRun) : (s.setEmb d x).ic = s.ic := rfl
@[simp] theorem State.setEmb_dbg (s : State) (d : Nat) (x : EmbRun) : (s.setEmb d x).dbg = s.dbg := rfl

@[simp] theorem State.setChanIn_pending (s : State) (ch : Nat) (x : ChanIn) :
    (s.setChanIn ch x).pending = s.pending := rfl
@[simp] theorem State.setChanIn_regs (s : State) (ch : Nat) (x : ChanIn) : (s.setChanIn ch x).regs = s.regs := rfl
@[simp] theorem State.setChanIn_free (s : State) (ch : Nat) (x : ChanIn) : (s.setChanIn ch x).free = s.free := rfl
@[simp] theorem State.setChanIn_out (s : State) (ch : Nat) (x : ChanIn) : (s.setChanIn ch x).out = s.out := rfl
@[simp] theorem State.setChanIn_host (s : State) (ch : Nat) (x : ChanIn) : (s.setChanIn ch x).host = s.host := rfl
@[simp] theorem State.setChanIn_time (s : State) (ch : Nat) (x : ChanIn) : (s.setChanIn ch x).time = s.time := rfl
@[simp] theorem State.setChanIn_take (s : State) (ch : Nat) (x : ChanIn) : (s.setChanIn ch x).take = s.take := rfl
@[simp] theorem State.setChanIn_store (s : State) (ch : Nat) (x : ChanIn) : (s.setChanIn ch x).store = s.store := rfl
@[simp] theorem State.setChanIn_faults (s : State) (ch : Nat) (x : ChanIn) :
    (s.setChanIn ch x).faults = s.faults := rfl
@[simp] theorem State.setChanIn_cway (s : State) (ch : Nat) (x : ChanIn) : (s.setChanIn ch x).cway = s.cway := rfl
@[simp] theorem State.setChanIn_sdi (s : State) (ch : Nat) (x : ChanIn) : (s.setChanIn ch x).sdi = s.sdi := rfl
@[simp] theorem State.setChanIn_media (s : State) (ch : Nat) (x : ChanIn) : (s.setChanIn ch x).media = s.media := rfl
@[simp] theorem State.setChanIn_lane (s : State) (ch : Nat) (x : ChanIn) : (s.setChanIn ch x).lane = s.lane := rfl
@[simp] theorem State.setChanIn_aes (s : State) (ch : Nat) (x : ChanIn) : (s.setChanIn ch x).aes = s.aes := rfl
@[simp] theorem State.setChanIn_anc (s : State) (ch : Nat) (x : ChanIn) : (s.setChanIn ch x).anc = s.anc := rfl
@[simp] theorem State.setChanIn_probe (s : State) (ch : Nat) (x : ChanIn) : (s.setChanIn ch x).probe = s.probe := rfl
@[simp] theorem State.setChanIn_clk (s : State) (ch : Nat) (x : ChanIn) : (s.setChanIn ch x).clk = s.clk := rfl
@[simp] theorem State.setChanIn_tow (s : State) (ch : Nat) (x : ChanIn) : (s.setChanIn ch x).tow = s.tow := rfl
@[simp] theorem State.setChanIn_boot (s : State) (ch : Nat) (x : ChanIn) : (s.setChanIn ch x).boot = s.boot := rfl
@[simp] theorem State.setChanIn_ic (s : State) (ch : Nat) (x : ChanIn) : (s.setChanIn ch x).ic = s.ic := rfl
@[simp] theorem State.setChanIn_dbg (s : State) (ch : Nat) (x : ChanIn) : (s.setChanIn ch x).dbg = s.dbg := rfl

@[simp] theorem State.setChanOut_pending (s : State) (o : Nat) (x : ChanOut) :
    (s.setChanOut o x).pending = s.pending := rfl
@[simp] theorem State.setChanOut_regs (s : State) (o : Nat) (x : ChanOut) : (s.setChanOut o x).regs = s.regs := rfl
@[simp] theorem State.setChanOut_free (s : State) (o : Nat) (x : ChanOut) : (s.setChanOut o x).free = s.free := rfl
@[simp] theorem State.setChanOut_out (s : State) (o : Nat) (x : ChanOut) : (s.setChanOut o x).out = s.out := rfl
@[simp] theorem State.setChanOut_host (s : State) (o : Nat) (x : ChanOut) : (s.setChanOut o x).host = s.host := rfl
@[simp] theorem State.setChanOut_time (s : State) (o : Nat) (x : ChanOut) : (s.setChanOut o x).time = s.time := rfl
@[simp] theorem State.setChanOut_take (s : State) (o : Nat) (x : ChanOut) : (s.setChanOut o x).take = s.take := rfl
@[simp] theorem State.setChanOut_store (s : State) (o : Nat) (x : ChanOut) : (s.setChanOut o x).store = s.store := rfl
@[simp] theorem State.setChanOut_faults (s : State) (o : Nat) (x : ChanOut) :
    (s.setChanOut o x).faults = s.faults := rfl
@[simp] theorem State.setChanOut_cway (s : State) (o : Nat) (x : ChanOut) : (s.setChanOut o x).cway = s.cway := rfl
@[simp] theorem State.setChanOut_sdi (s : State) (o : Nat) (x : ChanOut) : (s.setChanOut o x).sdi = s.sdi := rfl
@[simp] theorem State.setChanOut_media (s : State) (o : Nat) (x : ChanOut) : (s.setChanOut o x).media = s.media := rfl
@[simp] theorem State.setChanOut_lane (s : State) (o : Nat) (x : ChanOut) : (s.setChanOut o x).lane = s.lane := rfl
@[simp] theorem State.setChanOut_aes (s : State) (o : Nat) (x : ChanOut) : (s.setChanOut o x).aes = s.aes := rfl
@[simp] theorem State.setChanOut_anc (s : State) (o : Nat) (x : ChanOut) : (s.setChanOut o x).anc = s.anc := rfl
@[simp] theorem State.setChanOut_probe (s : State) (o : Nat) (x : ChanOut) : (s.setChanOut o x).probe = s.probe := rfl
@[simp] theorem State.setChanOut_clk (s : State) (o : Nat) (x : ChanOut) : (s.setChanOut o x).clk = s.clk := rfl
@[simp] theorem State.setChanOut_tow (s : State) (o : Nat) (x : ChanOut) : (s.setChanOut o x).tow = s.tow := rfl
@[simp] theorem State.setChanOut_boot (s : State) (o : Nat) (x : ChanOut) : (s.setChanOut o x).boot = s.boot := rfl
@[simp] theorem State.setChanOut_ic (s : State) (o : Nat) (x : ChanOut) : (s.setChanOut o x).ic = s.ic := rfl
@[simp] theorem State.setChanOut_dbg (s : State) (o : Nat) (x : ChanOut) : (s.setChanOut o x).dbg = s.dbg := rfl

@[simp] theorem State.setAudSrc_pending (s : State) (n : Nat) (x : AudSrc) :
    (s.setAudSrc n x).pending = s.pending := rfl
@[simp] theorem State.setAudSrc_regs (s : State) (n : Nat) (x : AudSrc) : (s.setAudSrc n x).regs = s.regs := rfl
@[simp] theorem State.setAudSrc_free (s : State) (n : Nat) (x : AudSrc) : (s.setAudSrc n x).free = s.free := rfl
@[simp] theorem State.setAudSrc_out (s : State) (n : Nat) (x : AudSrc) : (s.setAudSrc n x).out = s.out := rfl
@[simp] theorem State.setAudSrc_host (s : State) (n : Nat) (x : AudSrc) : (s.setAudSrc n x).host = s.host := rfl
@[simp] theorem State.setAudSrc_time (s : State) (n : Nat) (x : AudSrc) : (s.setAudSrc n x).time = s.time := rfl
@[simp] theorem State.setAudSrc_take (s : State) (n : Nat) (x : AudSrc) : (s.setAudSrc n x).take = s.take := rfl
@[simp] theorem State.setAudSrc_store (s : State) (n : Nat) (x : AudSrc) : (s.setAudSrc n x).store = s.store := rfl
@[simp] theorem State.setAudSrc_faults (s : State) (n : Nat) (x : AudSrc) : (s.setAudSrc n x).faults = s.faults := rfl
@[simp] theorem State.setAudSrc_cway (s : State) (n : Nat) (x : AudSrc) : (s.setAudSrc n x).cway = s.cway := rfl
@[simp] theorem State.setAudSrc_sdi (s : State) (n : Nat) (x : AudSrc) : (s.setAudSrc n x).sdi = s.sdi := rfl
@[simp] theorem State.setAudSrc_media (s : State) (n : Nat) (x : AudSrc) : (s.setAudSrc n x).media = s.media := rfl
@[simp] theorem State.setAudSrc_lane (s : State) (n : Nat) (x : AudSrc) : (s.setAudSrc n x).lane = s.lane := rfl
@[simp] theorem State.setAudSrc_aes (s : State) (n : Nat) (x : AudSrc) : (s.setAudSrc n x).aes = s.aes := rfl
@[simp] theorem State.setAudSrc_anc (s : State) (n : Nat) (x : AudSrc) : (s.setAudSrc n x).anc = s.anc := rfl
@[simp] theorem State.setAudSrc_probe (s : State) (n : Nat) (x : AudSrc) : (s.setAudSrc n x).probe = s.probe := rfl
@[simp] theorem State.setAudSrc_clk (s : State) (n : Nat) (x : AudSrc) : (s.setAudSrc n x).clk = s.clk := rfl
@[simp] theorem State.setAudSrc_tow (s : State) (n : Nat) (x : AudSrc) : (s.setAudSrc n x).tow = s.tow := rfl
@[simp] theorem State.setAudSrc_boot (s : State) (n : Nat) (x : AudSrc) : (s.setAudSrc n x).boot = s.boot := rfl
@[simp] theorem State.setAudSrc_ic (s : State) (n : Nat) (x : AudSrc) : (s.setAudSrc n x).ic = s.ic := rfl
@[simp] theorem State.setAudSrc_dbg (s : State) (n : Nat) (x : AudSrc) : (s.setAudSrc n x).dbg = s.dbg := rfl

@[simp] theorem State.setAudGroup_pending (s : State) (g : Nat) (x : AudGroup) :
    (s.setAudGroup g x).pending = s.pending := rfl
@[simp] theorem State.setAudGroup_regs (s : State) (g : Nat) (x : AudGroup) : (s.setAudGroup g x).regs = s.regs := rfl
@[simp] theorem State.setAudGroup_free (s : State) (g : Nat) (x : AudGroup) : (s.setAudGroup g x).free = s.free := rfl
@[simp] theorem State.setAudGroup_out (s : State) (g : Nat) (x : AudGroup) : (s.setAudGroup g x).out = s.out := rfl
@[simp] theorem State.setAudGroup_host (s : State) (g : Nat) (x : AudGroup) : (s.setAudGroup g x).host = s.host := rfl
@[simp] theorem State.setAudGroup_time (s : State) (g : Nat) (x : AudGroup) : (s.setAudGroup g x).time = s.time := rfl
@[simp] theorem State.setAudGroup_take (s : State) (g : Nat) (x : AudGroup) : (s.setAudGroup g x).take = s.take := rfl
@[simp] theorem State.setAudGroup_store (s : State) (g : Nat) (x : AudGroup) :
    (s.setAudGroup g x).store = s.store := rfl
@[simp] theorem State.setAudGroup_faults (s : State) (g : Nat) (x : AudGroup) :
    (s.setAudGroup g x).faults = s.faults := rfl
@[simp] theorem State.setAudGroup_cway (s : State) (g : Nat) (x : AudGroup) : (s.setAudGroup g x).cway = s.cway := rfl
@[simp] theorem State.setAudGroup_sdi (s : State) (g : Nat) (x : AudGroup) : (s.setAudGroup g x).sdi = s.sdi := rfl
@[simp] theorem State.setAudGroup_media (s : State) (g : Nat) (x : AudGroup) :
    (s.setAudGroup g x).media = s.media := rfl
@[simp] theorem State.setAudGroup_lane (s : State) (g : Nat) (x : AudGroup) : (s.setAudGroup g x).lane = s.lane := rfl
@[simp] theorem State.setAudGroup_aes (s : State) (g : Nat) (x : AudGroup) : (s.setAudGroup g x).aes = s.aes := rfl
@[simp] theorem State.setAudGroup_anc (s : State) (g : Nat) (x : AudGroup) : (s.setAudGroup g x).anc = s.anc := rfl
@[simp] theorem State.setAudGroup_probe (s : State) (g : Nat) (x : AudGroup) :
    (s.setAudGroup g x).probe = s.probe := rfl
@[simp] theorem State.setAudGroup_clk (s : State) (g : Nat) (x : AudGroup) : (s.setAudGroup g x).clk = s.clk := rfl
@[simp] theorem State.setAudGroup_tow (s : State) (g : Nat) (x : AudGroup) : (s.setAudGroup g x).tow = s.tow := rfl
@[simp] theorem State.setAudGroup_boot (s : State) (g : Nat) (x : AudGroup) : (s.setAudGroup g x).boot = s.boot := rfl
@[simp] theorem State.setAudGroup_ic (s : State) (g : Nat) (x : AudGroup) : (s.setAudGroup g x).ic = s.ic := rfl
@[simp] theorem State.setAudGroup_dbg (s : State) (g : Nat) (x : AudGroup) : (s.setAudGroup g x).dbg = s.dbg := rfl

@[simp] theorem State.setMon_pending (s : State) (m : Nat) (x : MonRun) : (s.setMon m x).pending = s.pending := rfl
@[simp] theorem State.setMon_regs (s : State) (m : Nat) (x : MonRun) : (s.setMon m x).regs = s.regs := rfl
@[simp] theorem State.setMon_free (s : State) (m : Nat) (x : MonRun) : (s.setMon m x).free = s.free := rfl
@[simp] theorem State.setMon_out (s : State) (m : Nat) (x : MonRun) : (s.setMon m x).out = s.out := rfl
@[simp] theorem State.setMon_host (s : State) (m : Nat) (x : MonRun) : (s.setMon m x).host = s.host := rfl
@[simp] theorem State.setMon_time (s : State) (m : Nat) (x : MonRun) : (s.setMon m x).time = s.time := rfl
@[simp] theorem State.setMon_take (s : State) (m : Nat) (x : MonRun) : (s.setMon m x).take = s.take := rfl
@[simp] theorem State.setMon_store (s : State) (m : Nat) (x : MonRun) : (s.setMon m x).store = s.store := rfl
@[simp] theorem State.setMon_faults (s : State) (m : Nat) (x : MonRun) : (s.setMon m x).faults = s.faults := rfl
@[simp] theorem State.setMon_cway (s : State) (m : Nat) (x : MonRun) : (s.setMon m x).cway = s.cway := rfl
@[simp] theorem State.setMon_sdi (s : State) (m : Nat) (x : MonRun) : (s.setMon m x).sdi = s.sdi := rfl
@[simp] theorem State.setMon_media (s : State) (m : Nat) (x : MonRun) : (s.setMon m x).media = s.media := rfl
@[simp] theorem State.setMon_lane (s : State) (m : Nat) (x : MonRun) : (s.setMon m x).lane = s.lane := rfl
@[simp] theorem State.setMon_audio (s : State) (m : Nat) (x : MonRun) : (s.setMon m x).audio = s.audio := rfl
@[simp] theorem State.setMon_aes (s : State) (m : Nat) (x : MonRun) : (s.setMon m x).aes = s.aes := rfl
@[simp] theorem State.setMon_anc (s : State) (m : Nat) (x : MonRun) : (s.setMon m x).anc = s.anc := rfl
@[simp] theorem State.setMon_probe (s : State) (m : Nat) (x : MonRun) : (s.setMon m x).probe = s.probe := rfl
@[simp] theorem State.setMon_tow (s : State) (m : Nat) (x : MonRun) : (s.setMon m x).tow = s.tow := rfl
@[simp] theorem State.setMon_boot (s : State) (m : Nat) (x : MonRun) : (s.setMon m x).boot = s.boot := rfl
@[simp] theorem State.setMon_ic (s : State) (m : Nat) (x : MonRun) : (s.setMon m x).ic = s.ic := rfl
@[simp] theorem State.setMon_dbg (s : State) (m : Nat) (x : MonRun) : (s.setMon m x).dbg = s.dbg := rfl

@[simp] theorem State.setMux_pending (s : State) (i : Nat) (x : ClkMux) : (s.setMux i x).pending = s.pending := rfl
@[simp] theorem State.setMux_regs (s : State) (i : Nat) (x : ClkMux) : (s.setMux i x).regs = s.regs := rfl
@[simp] theorem State.setMux_free (s : State) (i : Nat) (x : ClkMux) : (s.setMux i x).free = s.free := rfl
@[simp] theorem State.setMux_out (s : State) (i : Nat) (x : ClkMux) : (s.setMux i x).out = s.out := rfl
@[simp] theorem State.setMux_host (s : State) (i : Nat) (x : ClkMux) : (s.setMux i x).host = s.host := rfl
@[simp] theorem State.setMux_time (s : State) (i : Nat) (x : ClkMux) : (s.setMux i x).time = s.time := rfl
@[simp] theorem State.setMux_take (s : State) (i : Nat) (x : ClkMux) : (s.setMux i x).take = s.take := rfl
@[simp] theorem State.setMux_store (s : State) (i : Nat) (x : ClkMux) : (s.setMux i x).store = s.store := rfl
@[simp] theorem State.setMux_faults (s : State) (i : Nat) (x : ClkMux) : (s.setMux i x).faults = s.faults := rfl
@[simp] theorem State.setMux_cway (s : State) (i : Nat) (x : ClkMux) : (s.setMux i x).cway = s.cway := rfl
@[simp] theorem State.setMux_sdi (s : State) (i : Nat) (x : ClkMux) : (s.setMux i x).sdi = s.sdi := rfl
@[simp] theorem State.setMux_media (s : State) (i : Nat) (x : ClkMux) : (s.setMux i x).media = s.media := rfl
@[simp] theorem State.setMux_lane (s : State) (i : Nat) (x : ClkMux) : (s.setMux i x).lane = s.lane := rfl
@[simp] theorem State.setMux_audio (s : State) (i : Nat) (x : ClkMux) : (s.setMux i x).audio = s.audio := rfl
@[simp] theorem State.setMux_aes (s : State) (i : Nat) (x : ClkMux) : (s.setMux i x).aes = s.aes := rfl
@[simp] theorem State.setMux_anc (s : State) (i : Nat) (x : ClkMux) : (s.setMux i x).anc = s.anc := rfl
@[simp] theorem State.setMux_probe (s : State) (i : Nat) (x : ClkMux) : (s.setMux i x).probe = s.probe := rfl
@[simp] theorem State.setMux_tow (s : State) (i : Nat) (x : ClkMux) : (s.setMux i x).tow = s.tow := rfl
@[simp] theorem State.setMux_boot (s : State) (i : Nat) (x : ClkMux) : (s.setMux i x).boot = s.boot := rfl
@[simp] theorem State.setMux_ic (s : State) (i : Nat) (x : ClkMux) : (s.setMux i x).ic = s.ic := rfl
@[simp] theorem State.setMux_dbg (s : State) (i : Nat) (x : ClkMux) : (s.setMux i x).dbg = s.dbg := rfl

@[simp] theorem State.setGraphic_pending (s : State) (p : Nat) (h : Nat) (g : Option Plane) :
    (s.setGraphic p h g).pending = s.pending := rfl
@[simp] theorem State.setGraphic_regs (s : State) (p : Nat) (h : Nat) (g : Option Plane) :
    (s.setGraphic p h g).regs = s.regs := rfl
@[simp] theorem State.setGraphic_free (s : State) (p : Nat) (h : Nat) (g : Option Plane) :
    (s.setGraphic p h g).free = s.free := rfl
@[simp] theorem State.setGraphic_out (s : State) (p : Nat) (h : Nat) (g : Option Plane) :
    (s.setGraphic p h g).out = s.out := rfl
@[simp] theorem State.setGraphic_host (s : State) (p : Nat) (h : Nat) (g : Option Plane) :
    (s.setGraphic p h g).host = s.host := rfl
@[simp] theorem State.setGraphic_time (s : State) (p : Nat) (h : Nat) (g : Option Plane) :
    (s.setGraphic p h g).time = s.time := rfl
@[simp] theorem State.setGraphic_take (s : State) (p : Nat) (h : Nat) (g : Option Plane) :
    (s.setGraphic p h g).take = s.take := rfl
@[simp] theorem State.setGraphic_faults (s : State) (p : Nat) (h : Nat) (g : Option Plane) :
    (s.setGraphic p h g).faults = s.faults := rfl
@[simp] theorem State.setGraphic_cway (s : State) (p : Nat) (h : Nat) (g : Option Plane) :
    (s.setGraphic p h g).cway = s.cway := rfl
@[simp] theorem State.setGraphic_sdi (s : State) (p : Nat) (h : Nat) (g : Option Plane) :
    (s.setGraphic p h g).sdi = s.sdi := rfl
@[simp] theorem State.setGraphic_media (s : State) (p : Nat) (h : Nat) (g : Option Plane) :
    (s.setGraphic p h g).media = s.media := rfl
@[simp] theorem State.setGraphic_lane (s : State) (p : Nat) (h : Nat) (g : Option Plane) :
    (s.setGraphic p h g).lane = s.lane := rfl
@[simp] theorem State.setGraphic_audio (s : State) (p : Nat) (h : Nat) (g : Option Plane) :
    (s.setGraphic p h g).audio = s.audio := rfl
@[simp] theorem State.setGraphic_aes (s : State) (p : Nat) (h : Nat) (g : Option Plane) :
    (s.setGraphic p h g).aes = s.aes := rfl
@[simp] theorem State.setGraphic_anc (s : State) (p : Nat) (h : Nat) (g : Option Plane) :
    (s.setGraphic p h g).anc = s.anc := rfl
@[simp] theorem State.setGraphic_probe (s : State) (p : Nat) (h : Nat) (g : Option Plane) :
    (s.setGraphic p h g).probe = s.probe := rfl
@[simp] theorem State.setGraphic_clk (s : State) (p : Nat) (h : Nat) (g : Option Plane) :
    (s.setGraphic p h g).clk = s.clk := rfl
@[simp] theorem State.setGraphic_tow (s : State) (p : Nat) (h : Nat) (g : Option Plane) :
    (s.setGraphic p h g).tow = s.tow := rfl
@[simp] theorem State.setGraphic_boot (s : State) (p : Nat) (h : Nat) (g : Option Plane) :
    (s.setGraphic p h g).boot = s.boot := rfl
@[simp] theorem State.setGraphic_ic (s : State) (p : Nat) (h : Nat) (g : Option Plane) :
    (s.setGraphic p h g).ic = s.ic := rfl
@[simp] theorem State.setGraphic_dbg (s : State) (p : Nat) (h : Nat) (g : Option Plane) :
    (s.setGraphic p h g).dbg = s.dbg := rfl

@[simp] theorem State.setConductor_pending (s : State) (k : Nat) (x : Conductor) :
    (s.setConductor k x).pending = s.pending := rfl
@[simp] theorem State.setConductor_regs (s : State) (k : Nat) (x : Conductor) :
    (s.setConductor k x).regs = s.regs := rfl
@[simp] theorem State.setConductor_free (s : State) (k : Nat) (x : Conductor) :
    (s.setConductor k x).free = s.free := rfl
@[simp] theorem State.setConductor_out (s : State) (k : Nat) (x : Conductor) : (s.setConductor k x).out = s.out := rfl
@[simp] theorem State.setConductor_host (s : State) (k : Nat) (x : Conductor) :
    (s.setConductor k x).host = s.host := rfl
@[simp] theorem State.setConductor_time (s : State) (k : Nat) (x : Conductor) :
    (s.setConductor k x).time = s.time := rfl
@[simp] theorem State.setConductor_take (s : State) (k : Nat) (x : Conductor) :
    (s.setConductor k x).take = s.take := rfl
@[simp] theorem State.setConductor_store (s : State) (k : Nat) (x : Conductor) :
    (s.setConductor k x).store = s.store := rfl
@[simp] theorem State.setConductor_faults (s : State) (k : Nat) (x : Conductor) :
    (s.setConductor k x).faults = s.faults := rfl
@[simp] theorem State.setConductor_cway (s : State) (k : Nat) (x : Conductor) :
    (s.setConductor k x).cway = s.cway := rfl
@[simp] theorem State.setConductor_sdi (s : State) (k : Nat) (x : Conductor) : (s.setConductor k x).sdi = s.sdi := rfl
@[simp] theorem State.setConductor_media (s : State) (k : Nat) (x : Conductor) :
    (s.setConductor k x).media = s.media := rfl
@[simp] theorem State.setConductor_lane (s : State) (k : Nat) (x : Conductor) :
    (s.setConductor k x).lane = s.lane := rfl
@[simp] theorem State.setConductor_audio (s : State) (k : Nat) (x : Conductor) :
    (s.setConductor k x).audio = s.audio := rfl
@[simp] theorem State.setConductor_aes (s : State) (k : Nat) (x : Conductor) : (s.setConductor k x).aes = s.aes := rfl
@[simp] theorem State.setConductor_anc (s : State) (k : Nat) (x : Conductor) : (s.setConductor k x).anc = s.anc := rfl
@[simp] theorem State.setConductor_probe (s : State) (k : Nat) (x : Conductor) :
    (s.setConductor k x).probe = s.probe := rfl
@[simp] theorem State.setConductor_clk (s : State) (k : Nat) (x : Conductor) : (s.setConductor k x).clk = s.clk := rfl
@[simp] theorem State.setConductor_tow (s : State) (k : Nat) (x : Conductor) : (s.setConductor k x).tow = s.tow := rfl
@[simp] theorem State.setConductor_boot (s : State) (k : Nat) (x : Conductor) :
    (s.setConductor k x).boot = s.boot := rfl
@[simp] theorem State.setConductor_ic (s : State) (k : Nat) (x : Conductor) : (s.setConductor k x).ic = s.ic := rfl

@[simp] theorem State.setFlow_pending (s : State) (f : Nat) (x : Option FlowRun) :
    (s.setFlow f x).pending = s.pending := rfl
@[simp] theorem State.setFlow_regs (s : State) (f : Nat) (x : Option FlowRun) : (s.setFlow f x).regs = s.regs := rfl
@[simp] theorem State.setFlow_free (s : State) (f : Nat) (x : Option FlowRun) : (s.setFlow f x).free = s.free := rfl
@[simp] theorem State.setFlow_out (s : State) (f : Nat) (x : Option FlowRun) : (s.setFlow f x).out = s.out := rfl
@[simp] theorem State.setFlow_host (s : State) (f : Nat) (x : Option FlowRun) : (s.setFlow f x).host = s.host := rfl
@[simp] theorem State.setFlow_time (s : State) (f : Nat) (x : Option FlowRun) : (s.setFlow f x).time = s.time := rfl
@[simp] theorem State.setFlow_take (s : State) (f : Nat) (x : Option FlowRun) : (s.setFlow f x).take = s.take := rfl
@[simp] theorem State.setFlow_store (s : State) (f : Nat) (x : Option FlowRun) :
    (s.setFlow f x).store = s.store := rfl
@[simp] theorem State.setFlow_faults (s : State) (f : Nat) (x : Option FlowRun) :
    (s.setFlow f x).faults = s.faults := rfl
@[simp] theorem State.setFlow_cway (s : State) (f : Nat) (x : Option FlowRun) : (s.setFlow f x).cway = s.cway := rfl
@[simp] theorem State.setFlow_sdi (s : State) (f : Nat) (x : Option FlowRun) : (s.setFlow f x).sdi = s.sdi := rfl
@[simp] theorem State.setFlow_lane (s : State) (f : Nat) (x : Option FlowRun) : (s.setFlow f x).lane = s.lane := rfl
@[simp] theorem State.setFlow_audio (s : State) (f : Nat) (x : Option FlowRun) :
    (s.setFlow f x).audio = s.audio := rfl
@[simp] theorem State.setFlow_aes (s : State) (f : Nat) (x : Option FlowRun) : (s.setFlow f x).aes = s.aes := rfl
@[simp] theorem State.setFlow_anc (s : State) (f : Nat) (x : Option FlowRun) : (s.setFlow f x).anc = s.anc := rfl
@[simp] theorem State.setFlow_probe (s : State) (f : Nat) (x : Option FlowRun) :
    (s.setFlow f x).probe = s.probe := rfl
@[simp] theorem State.setFlow_clk (s : State) (f : Nat) (x : Option FlowRun) : (s.setFlow f x).clk = s.clk := rfl
@[simp] theorem State.setFlow_tow (s : State) (f : Nat) (x : Option FlowRun) : (s.setFlow f x).tow = s.tow := rfl
@[simp] theorem State.setFlow_boot (s : State) (f : Nat) (x : Option FlowRun) : (s.setFlow f x).boot = s.boot := rfl
@[simp] theorem State.setFlow_ic (s : State) (f : Nat) (x : Option FlowRun) : (s.setFlow f x).ic = s.ic := rfl
@[simp] theorem State.setFlow_dbg (s : State) (f : Nat) (x : Option FlowRun) : (s.setFlow f x).dbg = s.dbg := rfl

@[simp] theorem State.setStream_pending (s : State) (k : Nat) (x : StreamRun) :
    (s.setStream k x).pending = s.pending := rfl
@[simp] theorem State.setStream_regs (s : State) (k : Nat) (x : StreamRun) : (s.setStream k x).regs = s.regs := rfl
@[simp] theorem State.setStream_free (s : State) (k : Nat) (x : StreamRun) : (s.setStream k x).free = s.free := rfl
@[simp] theorem State.setStream_out (s : State) (k : Nat) (x : StreamRun) : (s.setStream k x).out = s.out := rfl
@[simp] theorem State.setStream_host (s : State) (k : Nat) (x : StreamRun) : (s.setStream k x).host = s.host := rfl
@[simp] theorem State.setStream_time (s : State) (k : Nat) (x : StreamRun) : (s.setStream k x).time = s.time := rfl
@[simp] theorem State.setStream_take (s : State) (k : Nat) (x : StreamRun) : (s.setStream k x).take = s.take := rfl
@[simp] theorem State.setStream_store (s : State) (k : Nat) (x : StreamRun) : (s.setStream k x).store = s.store := rfl
@[simp] theorem State.setStream_faults (s : State) (k : Nat) (x : StreamRun) :
    (s.setStream k x).faults = s.faults := rfl
@[simp] theorem State.setStream_cway (s : State) (k : Nat) (x : StreamRun) : (s.setStream k x).cway = s.cway := rfl
@[simp] theorem State.setStream_sdi (s : State) (k : Nat) (x : StreamRun) : (s.setStream k x).sdi = s.sdi := rfl
@[simp] theorem State.setStream_lane (s : State) (k : Nat) (x : StreamRun) : (s.setStream k x).lane = s.lane := rfl
@[simp] theorem State.setStream_audio (s : State) (k : Nat) (x : StreamRun) : (s.setStream k x).audio = s.audio := rfl
@[simp] theorem State.setStream_aes (s : State) (k : Nat) (x : StreamRun) : (s.setStream k x).aes = s.aes := rfl
@[simp] theorem State.setStream_anc (s : State) (k : Nat) (x : StreamRun) : (s.setStream k x).anc = s.anc := rfl
@[simp] theorem State.setStream_probe (s : State) (k : Nat) (x : StreamRun) : (s.setStream k x).probe = s.probe := rfl
@[simp] theorem State.setStream_clk (s : State) (k : Nat) (x : StreamRun) : (s.setStream k x).clk = s.clk := rfl
@[simp] theorem State.setStream_tow (s : State) (k : Nat) (x : StreamRun) : (s.setStream k x).tow = s.tow := rfl
@[simp] theorem State.setStream_boot (s : State) (k : Nat) (x : StreamRun) : (s.setStream k x).boot = s.boot := rfl
@[simp] theorem State.setStream_ic (s : State) (k : Nat) (x : StreamRun) : (s.setStream k x).ic = s.ic := rfl
@[simp] theorem State.setStream_dbg (s : State) (k : Nat) (x : StreamRun) : (s.setStream k x).dbg = s.dbg := rfl

@[simp] theorem State.setPortRun_pending (s : State) (m : Nat) (x : PortRun) :
    (s.setPortRun m x).pending = s.pending := rfl
@[simp] theorem State.setPortRun_regs (s : State) (m : Nat) (x : PortRun) : (s.setPortRun m x).regs = s.regs := rfl
@[simp] theorem State.setPortRun_free (s : State) (m : Nat) (x : PortRun) : (s.setPortRun m x).free = s.free := rfl
@[simp] theorem State.setPortRun_out (s : State) (m : Nat) (x : PortRun) : (s.setPortRun m x).out = s.out := rfl
@[simp] theorem State.setPortRun_host (s : State) (m : Nat) (x : PortRun) : (s.setPortRun m x).host = s.host := rfl
@[simp] theorem State.setPortRun_time (s : State) (m : Nat) (x : PortRun) : (s.setPortRun m x).time = s.time := rfl
@[simp] theorem State.setPortRun_take (s : State) (m : Nat) (x : PortRun) : (s.setPortRun m x).take = s.take := rfl
@[simp] theorem State.setPortRun_store (s : State) (m : Nat) (x : PortRun) : (s.setPortRun m x).store = s.store := rfl
@[simp] theorem State.setPortRun_faults (s : State) (m : Nat) (x : PortRun) :
    (s.setPortRun m x).faults = s.faults := rfl
@[simp] theorem State.setPortRun_cway (s : State) (m : Nat) (x : PortRun) : (s.setPortRun m x).cway = s.cway := rfl
@[simp] theorem State.setPortRun_sdi (s : State) (m : Nat) (x : PortRun) : (s.setPortRun m x).sdi = s.sdi := rfl
@[simp] theorem State.setPortRun_lane (s : State) (m : Nat) (x : PortRun) : (s.setPortRun m x).lane = s.lane := rfl
@[simp] theorem State.setPortRun_audio (s : State) (m : Nat) (x : PortRun) : (s.setPortRun m x).audio = s.audio := rfl
@[simp] theorem State.setPortRun_aes (s : State) (m : Nat) (x : PortRun) : (s.setPortRun m x).aes = s.aes := rfl
@[simp] theorem State.setPortRun_anc (s : State) (m : Nat) (x : PortRun) : (s.setPortRun m x).anc = s.anc := rfl
@[simp] theorem State.setPortRun_probe (s : State) (m : Nat) (x : PortRun) : (s.setPortRun m x).probe = s.probe := rfl
@[simp] theorem State.setPortRun_clk (s : State) (m : Nat) (x : PortRun) : (s.setPortRun m x).clk = s.clk := rfl
@[simp] theorem State.setPortRun_tow (s : State) (m : Nat) (x : PortRun) : (s.setPortRun m x).tow = s.tow := rfl
@[simp] theorem State.setPortRun_boot (s : State) (m : Nat) (x : PortRun) : (s.setPortRun m x).boot = s.boot := rfl
@[simp] theorem State.setPortRun_ic (s : State) (m : Nat) (x : PortRun) : (s.setPortRun m x).ic = s.ic := rfl
@[simp] theorem State.setPortRun_dbg (s : State) (m : Nat) (x : PortRun) : (s.setPortRun m x).dbg = s.dbg := rfl

@[simp] theorem State.setShortQueue_pending (s : State) (i : Nat) (q : List ShortFrame) :
    (s.setShortQueue i q).pending = s.pending := rfl
@[simp] theorem State.setShortQueue_regs (s : State) (i : Nat) (q : List ShortFrame) :
    (s.setShortQueue i q).regs = s.regs := rfl
@[simp] theorem State.setShortQueue_free (s : State) (i : Nat) (q : List ShortFrame) :
    (s.setShortQueue i q).free = s.free := rfl
@[simp] theorem State.setShortQueue_out (s : State) (i : Nat) (q : List ShortFrame) :
    (s.setShortQueue i q).out = s.out := rfl
@[simp] theorem State.setShortQueue_host (s : State) (i : Nat) (q : List ShortFrame) :
    (s.setShortQueue i q).host = s.host := rfl
@[simp] theorem State.setShortQueue_time (s : State) (i : Nat) (q : List ShortFrame) :
    (s.setShortQueue i q).time = s.time := rfl
@[simp] theorem State.setShortQueue_take (s : State) (i : Nat) (q : List ShortFrame) :
    (s.setShortQueue i q).take = s.take := rfl
@[simp] theorem State.setShortQueue_store (s : State) (i : Nat) (q : List ShortFrame) :
    (s.setShortQueue i q).store = s.store := rfl
@[simp] theorem State.setShortQueue_faults (s : State) (i : Nat) (q : List ShortFrame) :
    (s.setShortQueue i q).faults = s.faults := rfl
@[simp] theorem State.setShortQueue_cway (s : State) (i : Nat) (q : List ShortFrame) :
    (s.setShortQueue i q).cway = s.cway := rfl
@[simp] theorem State.setShortQueue_sdi (s : State) (i : Nat) (q : List ShortFrame) :
    (s.setShortQueue i q).sdi = s.sdi := rfl
@[simp] theorem State.setShortQueue_lane (s : State) (i : Nat) (q : List ShortFrame) :
    (s.setShortQueue i q).lane = s.lane := rfl
@[simp] theorem State.setShortQueue_audio (s : State) (i : Nat) (q : List ShortFrame) :
    (s.setShortQueue i q).audio = s.audio := rfl
@[simp] theorem State.setShortQueue_aes (s : State) (i : Nat) (q : List ShortFrame) :
    (s.setShortQueue i q).aes = s.aes := rfl
@[simp] theorem State.setShortQueue_anc (s : State) (i : Nat) (q : List ShortFrame) :
    (s.setShortQueue i q).anc = s.anc := rfl
@[simp] theorem State.setShortQueue_probe (s : State) (i : Nat) (q : List ShortFrame) :
    (s.setShortQueue i q).probe = s.probe := rfl
@[simp] theorem State.setShortQueue_clk (s : State) (i : Nat) (q : List ShortFrame) :
    (s.setShortQueue i q).clk = s.clk := rfl
@[simp] theorem State.setShortQueue_tow (s : State) (i : Nat) (q : List ShortFrame) :
    (s.setShortQueue i q).tow = s.tow := rfl
@[simp] theorem State.setShortQueue_boot (s : State) (i : Nat) (q : List ShortFrame) :
    (s.setShortQueue i q).boot = s.boot := rfl
@[simp] theorem State.setShortQueue_ic (s : State) (i : Nat) (q : List ShortFrame) :
    (s.setShortQueue i q).ic = s.ic := rfl
@[simp] theorem State.setShortQueue_dbg (s : State) (i : Nat) (q : List ShortFrame) :
    (s.setShortQueue i q).dbg = s.dbg := rfl

@[simp] theorem State.setPlaneRun_pending (s : State) (p : Nat) (r : PlaneRun) :
    (s.setPlaneRun p r).pending = s.pending := rfl
@[simp] theorem State.setPlaneRun_regs (s : State) (p : Nat) (r : PlaneRun) : (s.setPlaneRun p r).regs = s.regs := rfl
@[simp] theorem State.setPlaneRun_free (s : State) (p : Nat) (r : PlaneRun) : (s.setPlaneRun p r).free = s.free := rfl
@[simp] theorem State.setPlaneRun_out (s : State) (p : Nat) (r : PlaneRun) : (s.setPlaneRun p r).out = s.out := rfl
@[simp] theorem State.setPlaneRun_host (s : State) (p : Nat) (r : PlaneRun) : (s.setPlaneRun p r).host = s.host := rfl
@[simp] theorem State.setPlaneRun_take (s : State) (p : Nat) (r : PlaneRun) : (s.setPlaneRun p r).take = s.take := rfl
@[simp] theorem State.setPlaneRun_store (s : State) (p : Nat) (r : PlaneRun) :
    (s.setPlaneRun p r).store = s.store := rfl
@[simp] theorem State.setPlaneRun_faults (s : State) (p : Nat) (r : PlaneRun) :
    (s.setPlaneRun p r).faults = s.faults := rfl
@[simp] theorem State.setPlaneRun_cway (s : State) (p : Nat) (r : PlaneRun) : (s.setPlaneRun p r).cway = s.cway := rfl
@[simp] theorem State.setPlaneRun_sdi (s : State) (p : Nat) (r : PlaneRun) : (s.setPlaneRun p r).sdi = s.sdi := rfl
@[simp] theorem State.setPlaneRun_media (s : State) (p : Nat) (r : PlaneRun) :
    (s.setPlaneRun p r).media = s.media := rfl
@[simp] theorem State.setPlaneRun_lane (s : State) (p : Nat) (r : PlaneRun) : (s.setPlaneRun p r).lane = s.lane := rfl
@[simp] theorem State.setPlaneRun_audio (s : State) (p : Nat) (r : PlaneRun) :
    (s.setPlaneRun p r).audio = s.audio := rfl
@[simp] theorem State.setPlaneRun_aes (s : State) (p : Nat) (r : PlaneRun) : (s.setPlaneRun p r).aes = s.aes := rfl
@[simp] theorem State.setPlaneRun_anc (s : State) (p : Nat) (r : PlaneRun) : (s.setPlaneRun p r).anc = s.anc := rfl
@[simp] theorem State.setPlaneRun_probe (s : State) (p : Nat) (r : PlaneRun) :
    (s.setPlaneRun p r).probe = s.probe := rfl
@[simp] theorem State.setPlaneRun_clk (s : State) (p : Nat) (r : PlaneRun) : (s.setPlaneRun p r).clk = s.clk := rfl
@[simp] theorem State.setPlaneRun_tow (s : State) (p : Nat) (r : PlaneRun) : (s.setPlaneRun p r).tow = s.tow := rfl
@[simp] theorem State.setPlaneRun_boot (s : State) (p : Nat) (r : PlaneRun) : (s.setPlaneRun p r).boot = s.boot := rfl
@[simp] theorem State.setPlaneRun_ic (s : State) (p : Nat) (r : PlaneRun) : (s.setPlaneRun p r).ic = s.ic := rfl
@[simp] theorem State.setPlaneRun_dbg (s : State) (p : Nat) (r : PlaneRun) : (s.setPlaneRun p r).dbg = s.dbg := rfl

@[simp] theorem State.setRamp_pending (s : State) (i : Nat) (r : Option ClkRamp) :
    (s.setRamp i r).pending = s.pending := rfl
@[simp] theorem State.setRamp_regs (s : State) (i : Nat) (r : Option ClkRamp) : (s.setRamp i r).regs = s.regs := rfl
@[simp] theorem State.setRamp_free (s : State) (i : Nat) (r : Option ClkRamp) : (s.setRamp i r).free = s.free := rfl
@[simp] theorem State.setRamp_out (s : State) (i : Nat) (r : Option ClkRamp) : (s.setRamp i r).out = s.out := rfl
@[simp] theorem State.setRamp_host (s : State) (i : Nat) (r : Option ClkRamp) : (s.setRamp i r).host = s.host := rfl
@[simp] theorem State.setRamp_time (s : State) (i : Nat) (r : Option ClkRamp) : (s.setRamp i r).time = s.time := rfl
@[simp] theorem State.setRamp_take (s : State) (i : Nat) (r : Option ClkRamp) : (s.setRamp i r).take = s.take := rfl
@[simp] theorem State.setRamp_store (s : State) (i : Nat) (r : Option ClkRamp) :
    (s.setRamp i r).store = s.store := rfl
@[simp] theorem State.setRamp_faults (s : State) (i : Nat) (r : Option ClkRamp) :
    (s.setRamp i r).faults = s.faults := rfl
@[simp] theorem State.setRamp_cway (s : State) (i : Nat) (r : Option ClkRamp) : (s.setRamp i r).cway = s.cway := rfl
@[simp] theorem State.setRamp_sdi (s : State) (i : Nat) (r : Option ClkRamp) : (s.setRamp i r).sdi = s.sdi := rfl
@[simp] theorem State.setRamp_media (s : State) (i : Nat) (r : Option ClkRamp) :
    (s.setRamp i r).media = s.media := rfl
@[simp] theorem State.setRamp_lane (s : State) (i : Nat) (r : Option ClkRamp) : (s.setRamp i r).lane = s.lane := rfl
@[simp] theorem State.setRamp_audio (s : State) (i : Nat) (r : Option ClkRamp) :
    (s.setRamp i r).audio = s.audio := rfl
@[simp] theorem State.setRamp_aes (s : State) (i : Nat) (r : Option ClkRamp) : (s.setRamp i r).aes = s.aes := rfl
@[simp] theorem State.setRamp_anc (s : State) (i : Nat) (r : Option ClkRamp) : (s.setRamp i r).anc = s.anc := rfl
@[simp] theorem State.setRamp_probe (s : State) (i : Nat) (r : Option ClkRamp) :
    (s.setRamp i r).probe = s.probe := rfl
@[simp] theorem State.setRamp_tow (s : State) (i : Nat) (r : Option ClkRamp) : (s.setRamp i r).tow = s.tow := rfl
@[simp] theorem State.setRamp_boot (s : State) (i : Nat) (r : Option ClkRamp) : (s.setRamp i r).boot = s.boot := rfl
@[simp] theorem State.setRamp_ic (s : State) (i : Nat) (r : Option ClkRamp) : (s.setRamp i r).ic = s.ic := rfl
@[simp] theorem State.setRamp_dbg (s : State) (i : Nat) (r : Option ClkRamp) : (s.setRamp i r).dbg = s.dbg := rfl

@[simp] theorem State.setRx_pending (s : State) (i : Nat) (x : RxRun) : (s.setRx i x).pending = s.pending := rfl
@[simp] theorem State.setRx_regs (s : State) (i : Nat) (x : RxRun) : (s.setRx i x).regs = s.regs := rfl
@[simp] theorem State.setRx_free (s : State) (i : Nat) (x : RxRun) : (s.setRx i x).free = s.free := rfl
@[simp] theorem State.setRx_out (s : State) (i : Nat) (x : RxRun) : (s.setRx i x).out = s.out := rfl
@[simp] theorem State.setRx_host (s : State) (i : Nat) (x : RxRun) : (s.setRx i x).host = s.host := rfl
@[simp] theorem State.setRx_time (s : State) (i : Nat) (x : RxRun) : (s.setRx i x).time = s.time := rfl
@[simp] theorem State.setRx_take (s : State) (i : Nat) (x : RxRun) : (s.setRx i x).take = s.take := rfl
@[simp] theorem State.setRx_store (s : State) (i : Nat) (x : RxRun) : (s.setRx i x).store = s.store := rfl
@[simp] theorem State.setRx_faults (s : State) (i : Nat) (x : RxRun) : (s.setRx i x).faults = s.faults := rfl
@[simp] theorem State.setRx_cway (s : State) (i : Nat) (x : RxRun) : (s.setRx i x).cway = s.cway := rfl
@[simp] theorem State.setRx_media (s : State) (i : Nat) (x : RxRun) : (s.setRx i x).media = s.media := rfl
@[simp] theorem State.setRx_lane (s : State) (i : Nat) (x : RxRun) : (s.setRx i x).lane = s.lane := rfl
@[simp] theorem State.setRx_audio (s : State) (i : Nat) (x : RxRun) : (s.setRx i x).audio = s.audio := rfl
@[simp] theorem State.setRx_aes (s : State) (i : Nat) (x : RxRun) : (s.setRx i x).aes = s.aes := rfl
@[simp] theorem State.setRx_anc (s : State) (i : Nat) (x : RxRun) : (s.setRx i x).anc = s.anc := rfl
@[simp] theorem State.setRx_probe (s : State) (i : Nat) (x : RxRun) : (s.setRx i x).probe = s.probe := rfl
@[simp] theorem State.setRx_clk (s : State) (i : Nat) (x : RxRun) : (s.setRx i x).clk = s.clk := rfl
@[simp] theorem State.setRx_tow (s : State) (i : Nat) (x : RxRun) : (s.setRx i x).tow = s.tow := rfl
@[simp] theorem State.setRx_boot (s : State) (i : Nat) (x : RxRun) : (s.setRx i x).boot = s.boot := rfl
@[simp] theorem State.setRx_ic (s : State) (i : Nat) (x : RxRun) : (s.setRx i x).ic = s.ic := rfl
@[simp] theorem State.setRx_dbg (s : State) (i : Nat) (x : RxRun) : (s.setRx i x).dbg = s.dbg := rfl

@[simp] theorem State.setLaneRun_pending (s : State) (l : Nat) (x : LaneRun) :
    (s.setLaneRun l x).pending = s.pending := rfl
@[simp] theorem State.setLaneRun_regs (s : State) (l : Nat) (x : LaneRun) : (s.setLaneRun l x).regs = s.regs := rfl
@[simp] theorem State.setLaneRun_free (s : State) (l : Nat) (x : LaneRun) : (s.setLaneRun l x).free = s.free := rfl
@[simp] theorem State.setLaneRun_out (s : State) (l : Nat) (x : LaneRun) : (s.setLaneRun l x).out = s.out := rfl
@[simp] theorem State.setLaneRun_host (s : State) (l : Nat) (x : LaneRun) : (s.setLaneRun l x).host = s.host := rfl
@[simp] theorem State.setLaneRun_time (s : State) (l : Nat) (x : LaneRun) : (s.setLaneRun l x).time = s.time := rfl
@[simp] theorem State.setLaneRun_take (s : State) (l : Nat) (x : LaneRun) : (s.setLaneRun l x).take = s.take := rfl
@[simp] theorem State.setLaneRun_store (s : State) (l : Nat) (x : LaneRun) : (s.setLaneRun l x).store = s.store := rfl
@[simp] theorem State.setLaneRun_faults (s : State) (l : Nat) (x : LaneRun) :
    (s.setLaneRun l x).faults = s.faults := rfl
@[simp] theorem State.setLaneRun_cway (s : State) (l : Nat) (x : LaneRun) : (s.setLaneRun l x).cway = s.cway := rfl
@[simp] theorem State.setLaneRun_sdi (s : State) (l : Nat) (x : LaneRun) : (s.setLaneRun l x).sdi = s.sdi := rfl
@[simp] theorem State.setLaneRun_media (s : State) (l : Nat) (x : LaneRun) : (s.setLaneRun l x).media = s.media := rfl
@[simp] theorem State.setLaneRun_audio (s : State) (l : Nat) (x : LaneRun) : (s.setLaneRun l x).audio = s.audio := rfl
@[simp] theorem State.setLaneRun_aes (s : State) (l : Nat) (x : LaneRun) : (s.setLaneRun l x).aes = s.aes := rfl
@[simp] theorem State.setLaneRun_anc (s : State) (l : Nat) (x : LaneRun) : (s.setLaneRun l x).anc = s.anc := rfl
@[simp] theorem State.setLaneRun_probe (s : State) (l : Nat) (x : LaneRun) : (s.setLaneRun l x).probe = s.probe := rfl
@[simp] theorem State.setLaneRun_clk (s : State) (l : Nat) (x : LaneRun) : (s.setLaneRun l x).clk = s.clk := rfl
@[simp] theorem State.setLaneRun_tow (s : State) (l : Nat) (x : LaneRun) : (s.setLaneRun l x).tow = s.tow := rfl
@[simp] theorem State.setLaneRun_boot (s : State) (l : Nat) (x : LaneRun) : (s.setLaneRun l x).boot = s.boot := rfl
@[simp] theorem State.setLaneRun_ic (s : State) (l : Nat) (x : LaneRun) : (s.setLaneRun l x).ic = s.ic := rfl
@[simp] theorem State.setLaneRun_dbg (s : State) (l : Nat) (x : LaneRun) : (s.setLaneRun l x).dbg = s.dbg := rfl

@[simp] theorem State.setSrc_pending (s : State) (n : Nat) (x : SrcRun) : (s.setSrc n x).pending = s.pending := rfl
@[simp] theorem State.setSrc_regs (s : State) (n : Nat) (x : SrcRun) : (s.setSrc n x).regs = s.regs := rfl
@[simp] theorem State.setSrc_free (s : State) (n : Nat) (x : SrcRun) : (s.setSrc n x).free = s.free := rfl
@[simp] theorem State.setSrc_out (s : State) (n : Nat) (x : SrcRun) : (s.setSrc n x).out = s.out := rfl
@[simp] theorem State.setSrc_host (s : State) (n : Nat) (x : SrcRun) : (s.setSrc n x).host = s.host := rfl
@[simp] theorem State.setSrc_time (s : State) (n : Nat) (x : SrcRun) : (s.setSrc n x).time = s.time := rfl
@[simp] theorem State.setSrc_take (s : State) (n : Nat) (x : SrcRun) : (s.setSrc n x).take = s.take := rfl
@[simp] theorem State.setSrc_faults (s : State) (n : Nat) (x : SrcRun) : (s.setSrc n x).faults = s.faults := rfl
@[simp] theorem State.setSrc_cway (s : State) (n : Nat) (x : SrcRun) : (s.setSrc n x).cway = s.cway := rfl
@[simp] theorem State.setSrc_sdi (s : State) (n : Nat) (x : SrcRun) : (s.setSrc n x).sdi = s.sdi := rfl
@[simp] theorem State.setSrc_media (s : State) (n : Nat) (x : SrcRun) : (s.setSrc n x).media = s.media := rfl
@[simp] theorem State.setSrc_lane (s : State) (n : Nat) (x : SrcRun) : (s.setSrc n x).lane = s.lane := rfl
@[simp] theorem State.setSrc_audio (s : State) (n : Nat) (x : SrcRun) : (s.setSrc n x).audio = s.audio := rfl
@[simp] theorem State.setSrc_aes (s : State) (n : Nat) (x : SrcRun) : (s.setSrc n x).aes = s.aes := rfl
@[simp] theorem State.setSrc_anc (s : State) (n : Nat) (x : SrcRun) : (s.setSrc n x).anc = s.anc := rfl
@[simp] theorem State.setSrc_probe (s : State) (n : Nat) (x : SrcRun) : (s.setSrc n x).probe = s.probe := rfl
@[simp] theorem State.setSrc_clk (s : State) (n : Nat) (x : SrcRun) : (s.setSrc n x).clk = s.clk := rfl
@[simp] theorem State.setSrc_tow (s : State) (n : Nat) (x : SrcRun) : (s.setSrc n x).tow = s.tow := rfl
@[simp] theorem State.setSrc_boot (s : State) (n : Nat) (x : SrcRun) : (s.setSrc n x).boot = s.boot := rfl
@[simp] theorem State.setSrc_ic (s : State) (n : Nat) (x : SrcRun) : (s.setSrc n x).ic = s.ic := rfl
@[simp] theorem State.setSrc_dbg (s : State) (n : Nat) (x : SrcRun) : (s.setSrc n x).dbg = s.dbg := rfl

@[simp] theorem State.setCfg_pending (s : State) (g : Cfg) : (s.setCfg g).pending = s.pending := rfl
@[simp] theorem State.setCfg_regs (s : State) (g : Cfg) : (s.setCfg g).regs = s.regs := rfl
@[simp] theorem State.setCfg_free (s : State) (g : Cfg) : (s.setCfg g).free = s.free := rfl
@[simp] theorem State.setCfg_out (s : State) (g : Cfg) : (s.setCfg g).out = s.out := rfl
@[simp] theorem State.setCfg_host (s : State) (g : Cfg) : (s.setCfg g).host = s.host := rfl
@[simp] theorem State.setCfg_time (s : State) (g : Cfg) : (s.setCfg g).time = s.time := rfl
@[simp] theorem State.setCfg_store (s : State) (g : Cfg) : (s.setCfg g).store = s.store := rfl
@[simp] theorem State.setCfg_faults (s : State) (g : Cfg) : (s.setCfg g).faults = s.faults := rfl
@[simp] theorem State.setCfg_cway (s : State) (g : Cfg) : (s.setCfg g).cway = s.cway := rfl
@[simp] theorem State.setCfg_sdi (s : State) (g : Cfg) : (s.setCfg g).sdi = s.sdi := rfl
@[simp] theorem State.setCfg_media (s : State) (g : Cfg) : (s.setCfg g).media = s.media := rfl
@[simp] theorem State.setCfg_lane (s : State) (g : Cfg) : (s.setCfg g).lane = s.lane := rfl
@[simp] theorem State.setCfg_audio (s : State) (g : Cfg) : (s.setCfg g).audio = s.audio := rfl
@[simp] theorem State.setCfg_aes (s : State) (g : Cfg) : (s.setCfg g).aes = s.aes := rfl
@[simp] theorem State.setCfg_anc (s : State) (g : Cfg) : (s.setCfg g).anc = s.anc := rfl
@[simp] theorem State.setCfg_probe (s : State) (g : Cfg) : (s.setCfg g).probe = s.probe := rfl
@[simp] theorem State.setCfg_clk (s : State) (g : Cfg) : (s.setCfg g).clk = s.clk := rfl
@[simp] theorem State.setCfg_tow (s : State) (g : Cfg) : (s.setCfg g).tow = s.tow := rfl
@[simp] theorem State.setCfg_boot (s : State) (g : Cfg) : (s.setCfg g).boot = s.boot := rfl
@[simp] theorem State.setCfg_ic (s : State) (g : Cfg) : (s.setCfg g).ic = s.ic := rfl
@[simp] theorem State.setCfg_dbg (s : State) (g : Cfg) : (s.setCfg g).dbg = s.dbg := rfl

@[simp] theorem State.setReader_pending (s : State) (r : Nat) (x : ReaderRun) :
    (s.setReader r x).pending = s.pending := rfl
@[simp] theorem State.setReader_regs (s : State) (r : Nat) (x : ReaderRun) : (s.setReader r x).regs = s.regs := rfl
@[simp] theorem State.setReader_free (s : State) (r : Nat) (x : ReaderRun) : (s.setReader r x).free = s.free := rfl
@[simp] theorem State.setReader_out (s : State) (r : Nat) (x : ReaderRun) : (s.setReader r x).out = s.out := rfl
@[simp] theorem State.setReader_host (s : State) (r : Nat) (x : ReaderRun) : (s.setReader r x).host = s.host := rfl
@[simp] theorem State.setReader_time (s : State) (r : Nat) (x : ReaderRun) : (s.setReader r x).time = s.time := rfl
@[simp] theorem State.setReader_take (s : State) (r : Nat) (x : ReaderRun) : (s.setReader r x).take = s.take := rfl
@[simp] theorem State.setReader_faults (s : State) (r : Nat) (x : ReaderRun) :
    (s.setReader r x).faults = s.faults := rfl
@[simp] theorem State.setReader_cway (s : State) (r : Nat) (x : ReaderRun) : (s.setReader r x).cway = s.cway := rfl
@[simp] theorem State.setReader_sdi (s : State) (r : Nat) (x : ReaderRun) : (s.setReader r x).sdi = s.sdi := rfl
@[simp] theorem State.setReader_media (s : State) (r : Nat) (x : ReaderRun) : (s.setReader r x).media = s.media := rfl
@[simp] theorem State.setReader_lane (s : State) (r : Nat) (x : ReaderRun) : (s.setReader r x).lane = s.lane := rfl
@[simp] theorem State.setReader_audio (s : State) (r : Nat) (x : ReaderRun) : (s.setReader r x).audio = s.audio := rfl
@[simp] theorem State.setReader_aes (s : State) (r : Nat) (x : ReaderRun) : (s.setReader r x).aes = s.aes := rfl
@[simp] theorem State.setReader_anc (s : State) (r : Nat) (x : ReaderRun) : (s.setReader r x).anc = s.anc := rfl
@[simp] theorem State.setReader_probe (s : State) (r : Nat) (x : ReaderRun) : (s.setReader r x).probe = s.probe := rfl
@[simp] theorem State.setReader_clk (s : State) (r : Nat) (x : ReaderRun) : (s.setReader r x).clk = s.clk := rfl
@[simp] theorem State.setReader_tow (s : State) (r : Nat) (x : ReaderRun) : (s.setReader r x).tow = s.tow := rfl
@[simp] theorem State.setReader_boot (s : State) (r : Nat) (x : ReaderRun) : (s.setReader r x).boot = s.boot := rfl
@[simp] theorem State.setReader_ic (s : State) (r : Nat) (x : ReaderRun) : (s.setReader r x).ic = s.ic := rfl
@[simp] theorem State.setReader_dbg (s : State) (r : Nat) (x : ReaderRun) : (s.setReader r x).dbg = s.dbg := rfl

@[simp] theorem State.setDstRun_pending (s : State) (d : Nat) (x : DstRun) :
    (s.setDstRun d x).pending = s.pending := rfl
@[simp] theorem State.setDstRun_regs (s : State) (d : Nat) (x : DstRun) : (s.setDstRun d x).regs = s.regs := rfl
@[simp] theorem State.setDstRun_free (s : State) (d : Nat) (x : DstRun) : (s.setDstRun d x).free = s.free := rfl
@[simp] theorem State.setDstRun_out (s : State) (d : Nat) (x : DstRun) : (s.setDstRun d x).out = s.out := rfl
@[simp] theorem State.setDstRun_host (s : State) (d : Nat) (x : DstRun) : (s.setDstRun d x).host = s.host := rfl
@[simp] theorem State.setDstRun_time (s : State) (d : Nat) (x : DstRun) : (s.setDstRun d x).time = s.time := rfl
@[simp] theorem State.setDstRun_take (s : State) (d : Nat) (x : DstRun) : (s.setDstRun d x).take = s.take := rfl
@[simp] theorem State.setDstRun_faults (s : State) (d : Nat) (x : DstRun) : (s.setDstRun d x).faults = s.faults := rfl
@[simp] theorem State.setDstRun_cway (s : State) (d : Nat) (x : DstRun) : (s.setDstRun d x).cway = s.cway := rfl
@[simp] theorem State.setDstRun_sdi (s : State) (d : Nat) (x : DstRun) : (s.setDstRun d x).sdi = s.sdi := rfl
@[simp] theorem State.setDstRun_media (s : State) (d : Nat) (x : DstRun) : (s.setDstRun d x).media = s.media := rfl
@[simp] theorem State.setDstRun_lane (s : State) (d : Nat) (x : DstRun) : (s.setDstRun d x).lane = s.lane := rfl
@[simp] theorem State.setDstRun_audio (s : State) (d : Nat) (x : DstRun) : (s.setDstRun d x).audio = s.audio := rfl
@[simp] theorem State.setDstRun_aes (s : State) (d : Nat) (x : DstRun) : (s.setDstRun d x).aes = s.aes := rfl
@[simp] theorem State.setDstRun_anc (s : State) (d : Nat) (x : DstRun) : (s.setDstRun d x).anc = s.anc := rfl
@[simp] theorem State.setDstRun_probe (s : State) (d : Nat) (x : DstRun) : (s.setDstRun d x).probe = s.probe := rfl
@[simp] theorem State.setDstRun_clk (s : State) (d : Nat) (x : DstRun) : (s.setDstRun d x).clk = s.clk := rfl
@[simp] theorem State.setDstRun_tow (s : State) (d : Nat) (x : DstRun) : (s.setDstRun d x).tow = s.tow := rfl
@[simp] theorem State.setDstRun_boot (s : State) (d : Nat) (x : DstRun) : (s.setDstRun d x).boot = s.boot := rfl
@[simp] theorem State.setDstRun_ic (s : State) (d : Nat) (x : DstRun) : (s.setDstRun d x).ic = s.ic := rfl
@[simp] theorem State.setDstRun_dbg (s : State) (d : Nat) (x : DstRun) : (s.setDstRun d x).dbg = s.dbg := rfl

@[simp] theorem State.setCmpRun_pending (s : State) (c : Nat) (x : CmpRun) :
    (s.setCmpRun c x).pending = s.pending := rfl
@[simp] theorem State.setCmpRun_regs (s : State) (c : Nat) (x : CmpRun) : (s.setCmpRun c x).regs = s.regs := rfl
@[simp] theorem State.setCmpRun_free (s : State) (c : Nat) (x : CmpRun) : (s.setCmpRun c x).free = s.free := rfl
@[simp] theorem State.setCmpRun_out (s : State) (c : Nat) (x : CmpRun) : (s.setCmpRun c x).out = s.out := rfl
@[simp] theorem State.setCmpRun_host (s : State) (c : Nat) (x : CmpRun) : (s.setCmpRun c x).host = s.host := rfl
@[simp] theorem State.setCmpRun_time (s : State) (c : Nat) (x : CmpRun) : (s.setCmpRun c x).time = s.time := rfl
@[simp] theorem State.setCmpRun_take (s : State) (c : Nat) (x : CmpRun) : (s.setCmpRun c x).take = s.take := rfl
@[simp] theorem State.setCmpRun_faults (s : State) (c : Nat) (x : CmpRun) : (s.setCmpRun c x).faults = s.faults := rfl
@[simp] theorem State.setCmpRun_cway (s : State) (c : Nat) (x : CmpRun) : (s.setCmpRun c x).cway = s.cway := rfl
@[simp] theorem State.setCmpRun_sdi (s : State) (c : Nat) (x : CmpRun) : (s.setCmpRun c x).sdi = s.sdi := rfl
@[simp] theorem State.setCmpRun_media (s : State) (c : Nat) (x : CmpRun) : (s.setCmpRun c x).media = s.media := rfl
@[simp] theorem State.setCmpRun_lane (s : State) (c : Nat) (x : CmpRun) : (s.setCmpRun c x).lane = s.lane := rfl
@[simp] theorem State.setCmpRun_audio (s : State) (c : Nat) (x : CmpRun) : (s.setCmpRun c x).audio = s.audio := rfl
@[simp] theorem State.setCmpRun_aes (s : State) (c : Nat) (x : CmpRun) : (s.setCmpRun c x).aes = s.aes := rfl
@[simp] theorem State.setCmpRun_anc (s : State) (c : Nat) (x : CmpRun) : (s.setCmpRun c x).anc = s.anc := rfl
@[simp] theorem State.setCmpRun_probe (s : State) (c : Nat) (x : CmpRun) : (s.setCmpRun c x).probe = s.probe := rfl
@[simp] theorem State.setCmpRun_clk (s : State) (c : Nat) (x : CmpRun) : (s.setCmpRun c x).clk = s.clk := rfl
@[simp] theorem State.setCmpRun_tow (s : State) (c : Nat) (x : CmpRun) : (s.setCmpRun c x).tow = s.tow := rfl
@[simp] theorem State.setCmpRun_boot (s : State) (c : Nat) (x : CmpRun) : (s.setCmpRun c x).boot = s.boot := rfl
@[simp] theorem State.setCmpRun_ic (s : State) (c : Nat) (x : CmpRun) : (s.setCmpRun c x).ic = s.ic := rfl
@[simp] theorem State.setCmpRun_dbg (s : State) (c : Nat) (x : CmpRun) : (s.setCmpRun c x).dbg = s.dbg := rfl

@[simp] theorem State.setTakes_pending (s : State) (ks : List Take) : (s.setTakes ks).pending = s.pending := rfl
@[simp] theorem State.setTakes_regs (s : State) (ks : List Take) : (s.setTakes ks).regs = s.regs := rfl
@[simp] theorem State.setTakes_free (s : State) (ks : List Take) : (s.setTakes ks).free = s.free := rfl
@[simp] theorem State.setTakes_out (s : State) (ks : List Take) : (s.setTakes ks).out = s.out := rfl
@[simp] theorem State.setTakes_host (s : State) (ks : List Take) : (s.setTakes ks).host = s.host := rfl
@[simp] theorem State.setTakes_time (s : State) (ks : List Take) : (s.setTakes ks).time = s.time := rfl
@[simp] theorem State.setTakes_store (s : State) (ks : List Take) : (s.setTakes ks).store = s.store := rfl
@[simp] theorem State.setTakes_faults (s : State) (ks : List Take) : (s.setTakes ks).faults = s.faults := rfl
@[simp] theorem State.setTakes_cway (s : State) (ks : List Take) : (s.setTakes ks).cway = s.cway := rfl
@[simp] theorem State.setTakes_sdi (s : State) (ks : List Take) : (s.setTakes ks).sdi = s.sdi := rfl
@[simp] theorem State.setTakes_media (s : State) (ks : List Take) : (s.setTakes ks).media = s.media := rfl
@[simp] theorem State.setTakes_lane (s : State) (ks : List Take) : (s.setTakes ks).lane = s.lane := rfl
@[simp] theorem State.setTakes_audio (s : State) (ks : List Take) : (s.setTakes ks).audio = s.audio := rfl
@[simp] theorem State.setTakes_aes (s : State) (ks : List Take) : (s.setTakes ks).aes = s.aes := rfl
@[simp] theorem State.setTakes_anc (s : State) (ks : List Take) : (s.setTakes ks).anc = s.anc := rfl
@[simp] theorem State.setTakes_probe (s : State) (ks : List Take) : (s.setTakes ks).probe = s.probe := rfl
@[simp] theorem State.setTakes_clk (s : State) (ks : List Take) : (s.setTakes ks).clk = s.clk := rfl
@[simp] theorem State.setTakes_tow (s : State) (ks : List Take) : (s.setTakes ks).tow = s.tow := rfl
@[simp] theorem State.setTakes_boot (s : State) (ks : List Take) : (s.setTakes ks).boot = s.boot := rfl
@[simp] theorem State.setTakes_ic (s : State) (ks : List Take) : (s.setTakes ks).ic = s.ic := rfl
@[simp] theorem State.setTakes_dbg (s : State) (ks : List Take) : (s.setTakes ks).dbg = s.dbg := rfl

@[simp] theorem State.setBank_pending (s : State) (p : Nat) (b : Bank) : (s.setBank p b).pending = s.pending := rfl
@[simp] theorem State.setBank_regs (s : State) (p : Nat) (b : Bank) : (s.setBank p b).regs = s.regs := rfl
@[simp] theorem State.setBank_free (s : State) (p : Nat) (b : Bank) : (s.setBank p b).free = s.free := rfl
@[simp] theorem State.setBank_out (s : State) (p : Nat) (b : Bank) : (s.setBank p b).out = s.out := rfl
@[simp] theorem State.setBank_host (s : State) (p : Nat) (b : Bank) : (s.setBank p b).host = s.host := rfl
@[simp] theorem State.setBank_time (s : State) (p : Nat) (b : Bank) : (s.setBank p b).time = s.time := rfl
@[simp] theorem State.setBank_store (s : State) (p : Nat) (b : Bank) : (s.setBank p b).store = s.store := rfl
@[simp] theorem State.setBank_faults (s : State) (p : Nat) (b : Bank) : (s.setBank p b).faults = s.faults := rfl
@[simp] theorem State.setBank_cway (s : State) (p : Nat) (b : Bank) : (s.setBank p b).cway = s.cway := rfl
@[simp] theorem State.setBank_sdi (s : State) (p : Nat) (b : Bank) : (s.setBank p b).sdi = s.sdi := rfl
@[simp] theorem State.setBank_media (s : State) (p : Nat) (b : Bank) : (s.setBank p b).media = s.media := rfl
@[simp] theorem State.setBank_lane (s : State) (p : Nat) (b : Bank) : (s.setBank p b).lane = s.lane := rfl
@[simp] theorem State.setBank_audio (s : State) (p : Nat) (b : Bank) : (s.setBank p b).audio = s.audio := rfl
@[simp] theorem State.setBank_aes (s : State) (p : Nat) (b : Bank) : (s.setBank p b).aes = s.aes := rfl
@[simp] theorem State.setBank_anc (s : State) (p : Nat) (b : Bank) : (s.setBank p b).anc = s.anc := rfl
@[simp] theorem State.setBank_probe (s : State) (p : Nat) (b : Bank) : (s.setBank p b).probe = s.probe := rfl
@[simp] theorem State.setBank_clk (s : State) (p : Nat) (b : Bank) : (s.setBank p b).clk = s.clk := rfl
@[simp] theorem State.setBank_tow (s : State) (p : Nat) (b : Bank) : (s.setBank p b).tow = s.tow := rfl
@[simp] theorem State.setBank_boot (s : State) (p : Nat) (b : Bank) : (s.setBank p b).boot = s.boot := rfl
@[simp] theorem State.setBank_ic (s : State) (p : Nat) (b : Bank) : (s.setBank p b).ic = s.ic := rfl
@[simp] theorem State.setBank_dbg (s : State) (p : Nat) (b : Bank) : (s.setBank p b).dbg = s.dbg := rfl

@[simp] theorem State.setRefRun_pending (s : State) (r : Nat) (x : RefRun) :
    (s.setRefRun r x).pending = s.pending := rfl
@[simp] theorem State.setRefRun_regs (s : State) (r : Nat) (x : RefRun) : (s.setRefRun r x).regs = s.regs := rfl
@[simp] theorem State.setRefRun_free (s : State) (r : Nat) (x : RefRun) : (s.setRefRun r x).free = s.free := rfl
@[simp] theorem State.setRefRun_out (s : State) (r : Nat) (x : RefRun) : (s.setRefRun r x).out = s.out := rfl
@[simp] theorem State.setRefRun_host (s : State) (r : Nat) (x : RefRun) : (s.setRefRun r x).host = s.host := rfl
@[simp] theorem State.setRefRun_take (s : State) (r : Nat) (x : RefRun) : (s.setRefRun r x).take = s.take := rfl
@[simp] theorem State.setRefRun_store (s : State) (r : Nat) (x : RefRun) : (s.setRefRun r x).store = s.store := rfl
@[simp] theorem State.setRefRun_faults (s : State) (r : Nat) (x : RefRun) : (s.setRefRun r x).faults = s.faults := rfl
@[simp] theorem State.setRefRun_cway (s : State) (r : Nat) (x : RefRun) : (s.setRefRun r x).cway = s.cway := rfl
@[simp] theorem State.setRefRun_sdi (s : State) (r : Nat) (x : RefRun) : (s.setRefRun r x).sdi = s.sdi := rfl
@[simp] theorem State.setRefRun_media (s : State) (r : Nat) (x : RefRun) : (s.setRefRun r x).media = s.media := rfl
@[simp] theorem State.setRefRun_lane (s : State) (r : Nat) (x : RefRun) : (s.setRefRun r x).lane = s.lane := rfl
@[simp] theorem State.setRefRun_audio (s : State) (r : Nat) (x : RefRun) : (s.setRefRun r x).audio = s.audio := rfl
@[simp] theorem State.setRefRun_aes (s : State) (r : Nat) (x : RefRun) : (s.setRefRun r x).aes = s.aes := rfl
@[simp] theorem State.setRefRun_anc (s : State) (r : Nat) (x : RefRun) : (s.setRefRun r x).anc = s.anc := rfl
@[simp] theorem State.setRefRun_probe (s : State) (r : Nat) (x : RefRun) : (s.setRefRun r x).probe = s.probe := rfl
@[simp] theorem State.setRefRun_clk (s : State) (r : Nat) (x : RefRun) : (s.setRefRun r x).clk = s.clk := rfl
@[simp] theorem State.setRefRun_tow (s : State) (r : Nat) (x : RefRun) : (s.setRefRun r x).tow = s.tow := rfl
@[simp] theorem State.setRefRun_boot (s : State) (r : Nat) (x : RefRun) : (s.setRefRun r x).boot = s.boot := rfl
@[simp] theorem State.setRefRun_ic (s : State) (r : Nat) (x : RefRun) : (s.setRefRun r x).ic = s.ic := rfl
@[simp] theorem State.setRefRun_dbg (s : State) (r : Nat) (x : RefRun) : (s.setRefRun r x).dbg = s.dbg := rfl

@[simp] theorem State.setTm_pending (s : State) (st : Nat) : (s.setTm st).pending = s.pending := rfl
@[simp] theorem State.setTm_free (s : State) (st : Nat) : (s.setTm st).free = s.free := rfl
@[simp] theorem State.setTm_out (s : State) (st : Nat) : (s.setTm st).out = s.out := rfl
@[simp] theorem State.setTm_host (s : State) (st : Nat) : (s.setTm st).host = s.host := rfl
@[simp] theorem State.setTm_time (s : State) (st : Nat) : (s.setTm st).time = s.time := rfl
@[simp] theorem State.setTm_take (s : State) (st : Nat) : (s.setTm st).take = s.take := rfl
@[simp] theorem State.setTm_store (s : State) (st : Nat) : (s.setTm st).store = s.store := rfl
@[simp] theorem State.setTm_faults (s : State) (st : Nat) : (s.setTm st).faults = s.faults := rfl
@[simp] theorem State.setTm_cway (s : State) (st : Nat) : (s.setTm st).cway = s.cway := rfl
@[simp] theorem State.setTm_sdi (s : State) (st : Nat) : (s.setTm st).sdi = s.sdi := rfl
@[simp] theorem State.setTm_media (s : State) (st : Nat) : (s.setTm st).media = s.media := rfl
@[simp] theorem State.setTm_lane (s : State) (st : Nat) : (s.setTm st).lane = s.lane := rfl
@[simp] theorem State.setTm_audio (s : State) (st : Nat) : (s.setTm st).audio = s.audio := rfl
@[simp] theorem State.setTm_aes (s : State) (st : Nat) : (s.setTm st).aes = s.aes := rfl
@[simp] theorem State.setTm_anc (s : State) (st : Nat) : (s.setTm st).anc = s.anc := rfl
@[simp] theorem State.setTm_probe (s : State) (st : Nat) : (s.setTm st).probe = s.probe := rfl
@[simp] theorem State.setTm_clk (s : State) (st : Nat) : (s.setTm st).clk = s.clk := rfl
@[simp] theorem State.setTm_tow (s : State) (st : Nat) : (s.setTm st).tow = s.tow := rfl
@[simp] theorem State.setTm_boot (s : State) (st : Nat) : (s.setTm st).boot = s.boot := rfl
@[simp] theorem State.setTm_ic (s : State) (st : Nat) : (s.setTm st).ic = s.ic := rfl
@[simp] theorem State.setTm_dbg (s : State) (st : Nat) : (s.setTm st).dbg = s.dbg := rfl

@[simp] theorem State.setAncCycle_pending (s : State) (q : Nat) (x : AncCycle) :
    (s.setAncCycle q x).pending = s.pending := rfl
@[simp] theorem State.setAncCycle_regs (s : State) (q : Nat) (x : AncCycle) : (s.setAncCycle q x).regs = s.regs := rfl
@[simp] theorem State.setAncCycle_free (s : State) (q : Nat) (x : AncCycle) : (s.setAncCycle q x).free = s.free := rfl
@[simp] theorem State.setAncCycle_out (s : State) (q : Nat) (x : AncCycle) : (s.setAncCycle q x).out = s.out := rfl
@[simp] theorem State.setAncCycle_host (s : State) (q : Nat) (x : AncCycle) : (s.setAncCycle q x).host = s.host := rfl
@[simp] theorem State.setAncCycle_time (s : State) (q : Nat) (x : AncCycle) : (s.setAncCycle q x).time = s.time := rfl
@[simp] theorem State.setAncCycle_take (s : State) (q : Nat) (x : AncCycle) : (s.setAncCycle q x).take = s.take := rfl
@[simp] theorem State.setAncCycle_store (s : State) (q : Nat) (x : AncCycle) :
    (s.setAncCycle q x).store = s.store := rfl
@[simp] theorem State.setAncCycle_faults (s : State) (q : Nat) (x : AncCycle) :
    (s.setAncCycle q x).faults = s.faults := rfl
@[simp] theorem State.setAncCycle_cway (s : State) (q : Nat) (x : AncCycle) : (s.setAncCycle q x).cway = s.cway := rfl
@[simp] theorem State.setAncCycle_sdi (s : State) (q : Nat) (x : AncCycle) : (s.setAncCycle q x).sdi = s.sdi := rfl
@[simp] theorem State.setAncCycle_media (s : State) (q : Nat) (x : AncCycle) :
    (s.setAncCycle q x).media = s.media := rfl
@[simp] theorem State.setAncCycle_lane (s : State) (q : Nat) (x : AncCycle) : (s.setAncCycle q x).lane = s.lane := rfl
@[simp] theorem State.setAncCycle_audio (s : State) (q : Nat) (x : AncCycle) :
    (s.setAncCycle q x).audio = s.audio := rfl
@[simp] theorem State.setAncCycle_aes (s : State) (q : Nat) (x : AncCycle) : (s.setAncCycle q x).aes = s.aes := rfl
@[simp] theorem State.setAncCycle_probe (s : State) (q : Nat) (x : AncCycle) :
    (s.setAncCycle q x).probe = s.probe := rfl
@[simp] theorem State.setAncCycle_clk (s : State) (q : Nat) (x : AncCycle) : (s.setAncCycle q x).clk = s.clk := rfl
@[simp] theorem State.setAncCycle_tow (s : State) (q : Nat) (x : AncCycle) : (s.setAncCycle q x).tow = s.tow := rfl
@[simp] theorem State.setAncCycle_boot (s : State) (q : Nat) (x : AncCycle) : (s.setAncCycle q x).boot = s.boot := rfl
@[simp] theorem State.setAncCycle_ic (s : State) (q : Nat) (x : AncCycle) : (s.setAncCycle q x).ic = s.ic := rfl
@[simp] theorem State.setAncCycle_dbg (s : State) (q : Nat) (x : AncCycle) : (s.setAncCycle q x).dbg = s.dbg := rfl

@[simp] theorem State.setAncAreas_pending (s : State) (n : Nat) (l : List AncArea) :
    (s.setAncAreas n l).pending = s.pending := rfl
@[simp] theorem State.setAncAreas_regs (s : State) (n : Nat) (l : List AncArea) :
    (s.setAncAreas n l).regs = s.regs := rfl
@[simp] theorem State.setAncAreas_free (s : State) (n : Nat) (l : List AncArea) :
    (s.setAncAreas n l).free = s.free := rfl
@[simp] theorem State.setAncAreas_out (s : State) (n : Nat) (l : List AncArea) :
    (s.setAncAreas n l).out = s.out := rfl
@[simp] theorem State.setAncAreas_host (s : State) (n : Nat) (l : List AncArea) :
    (s.setAncAreas n l).host = s.host := rfl
@[simp] theorem State.setAncAreas_time (s : State) (n : Nat) (l : List AncArea) :
    (s.setAncAreas n l).time = s.time := rfl
@[simp] theorem State.setAncAreas_take (s : State) (n : Nat) (l : List AncArea) :
    (s.setAncAreas n l).take = s.take := rfl
@[simp] theorem State.setAncAreas_store (s : State) (n : Nat) (l : List AncArea) :
    (s.setAncAreas n l).store = s.store := rfl
@[simp] theorem State.setAncAreas_faults (s : State) (n : Nat) (l : List AncArea) :
    (s.setAncAreas n l).faults = s.faults := rfl
@[simp] theorem State.setAncAreas_cway (s : State) (n : Nat) (l : List AncArea) :
    (s.setAncAreas n l).cway = s.cway := rfl
@[simp] theorem State.setAncAreas_media (s : State) (n : Nat) (l : List AncArea) :
    (s.setAncAreas n l).media = s.media := rfl
@[simp] theorem State.setAncAreas_lane (s : State) (n : Nat) (l : List AncArea) :
    (s.setAncAreas n l).lane = s.lane := rfl
@[simp] theorem State.setAncAreas_audio (s : State) (n : Nat) (l : List AncArea) :
    (s.setAncAreas n l).audio = s.audio := rfl
@[simp] theorem State.setAncAreas_aes (s : State) (n : Nat) (l : List AncArea) :
    (s.setAncAreas n l).aes = s.aes := rfl
@[simp] theorem State.setAncAreas_anc (s : State) (n : Nat) (l : List AncArea) :
    (s.setAncAreas n l).anc = s.anc := rfl
@[simp] theorem State.setAncAreas_probe (s : State) (n : Nat) (l : List AncArea) :
    (s.setAncAreas n l).probe = s.probe := rfl
@[simp] theorem State.setAncAreas_clk (s : State) (n : Nat) (l : List AncArea) :
    (s.setAncAreas n l).clk = s.clk := rfl
@[simp] theorem State.setAncAreas_tow (s : State) (n : Nat) (l : List AncArea) :
    (s.setAncAreas n l).tow = s.tow := rfl
@[simp] theorem State.setAncAreas_boot (s : State) (n : Nat) (l : List AncArea) :
    (s.setAncAreas n l).boot = s.boot := rfl
@[simp] theorem State.setAncAreas_ic (s : State) (n : Nat) (l : List AncArea) : (s.setAncAreas n l).ic = s.ic := rfl
@[simp] theorem State.setAncAreas_dbg (s : State) (n : Nat) (l : List AncArea) :
    (s.setAncAreas n l).dbg = s.dbg := rfl

@[simp] theorem State.setCwTx_pending (s : State) (t : CwTx) : (s.setCwTx t).pending = s.pending := rfl
@[simp] theorem State.setCwTx_regs (s : State) (t : CwTx) : (s.setCwTx t).regs = s.regs := rfl
@[simp] theorem State.setCwTx_free (s : State) (t : CwTx) : (s.setCwTx t).free = s.free := rfl
@[simp] theorem State.setCwTx_out (s : State) (t : CwTx) : (s.setCwTx t).out = s.out := rfl
@[simp] theorem State.setCwTx_host (s : State) (t : CwTx) : (s.setCwTx t).host = s.host := rfl
@[simp] theorem State.setCwTx_time (s : State) (t : CwTx) : (s.setCwTx t).time = s.time := rfl
@[simp] theorem State.setCwTx_take (s : State) (t : CwTx) : (s.setCwTx t).take = s.take := rfl
@[simp] theorem State.setCwTx_store (s : State) (t : CwTx) : (s.setCwTx t).store = s.store := rfl
@[simp] theorem State.setCwTx_faults (s : State) (t : CwTx) : (s.setCwTx t).faults = s.faults := rfl
@[simp] theorem State.setCwTx_cway (s : State) (t : CwTx) : (s.setCwTx t).cway = s.cway := rfl
@[simp] theorem State.setCwTx_sdi (s : State) (t : CwTx) : (s.setCwTx t).sdi = s.sdi := rfl
@[simp] theorem State.setCwTx_media (s : State) (t : CwTx) : (s.setCwTx t).media = s.media := rfl
@[simp] theorem State.setCwTx_audio (s : State) (t : CwTx) : (s.setCwTx t).audio = s.audio := rfl
@[simp] theorem State.setCwTx_aes (s : State) (t : CwTx) : (s.setCwTx t).aes = s.aes := rfl
@[simp] theorem State.setCwTx_anc (s : State) (t : CwTx) : (s.setCwTx t).anc = s.anc := rfl
@[simp] theorem State.setCwTx_probe (s : State) (t : CwTx) : (s.setCwTx t).probe = s.probe := rfl
@[simp] theorem State.setCwTx_clk (s : State) (t : CwTx) : (s.setCwTx t).clk = s.clk := rfl
@[simp] theorem State.setCwTx_tow (s : State) (t : CwTx) : (s.setCwTx t).tow = s.tow := rfl
@[simp] theorem State.setCwTx_boot (s : State) (t : CwTx) : (s.setCwTx t).boot = s.boot := rfl
@[simp] theorem State.setCwTx_ic (s : State) (t : CwTx) : (s.setCwTx t).ic = s.ic := rfl
@[simp] theorem State.setCwTx_dbg (s : State) (t : CwTx) : (s.setCwTx t).dbg = s.dbg := rfl

@[simp] theorem State.setAud_pending (s : State) (c : AudioClock) : (s.setAud c).pending = s.pending := rfl
@[simp] theorem State.setAud_regs (s : State) (c : AudioClock) : (s.setAud c).regs = s.regs := rfl
@[simp] theorem State.setAud_free (s : State) (c : AudioClock) : (s.setAud c).free = s.free := rfl
@[simp] theorem State.setAud_out (s : State) (c : AudioClock) : (s.setAud c).out = s.out := rfl
@[simp] theorem State.setAud_host (s : State) (c : AudioClock) : (s.setAud c).host = s.host := rfl
@[simp] theorem State.setAud_take (s : State) (c : AudioClock) : (s.setAud c).take = s.take := rfl
@[simp] theorem State.setAud_store (s : State) (c : AudioClock) : (s.setAud c).store = s.store := rfl
@[simp] theorem State.setAud_faults (s : State) (c : AudioClock) : (s.setAud c).faults = s.faults := rfl
@[simp] theorem State.setAud_cway (s : State) (c : AudioClock) : (s.setAud c).cway = s.cway := rfl
@[simp] theorem State.setAud_sdi (s : State) (c : AudioClock) : (s.setAud c).sdi = s.sdi := rfl
@[simp] theorem State.setAud_media (s : State) (c : AudioClock) : (s.setAud c).media = s.media := rfl
@[simp] theorem State.setAud_lane (s : State) (c : AudioClock) : (s.setAud c).lane = s.lane := rfl
@[simp] theorem State.setAud_audio (s : State) (c : AudioClock) : (s.setAud c).audio = s.audio := rfl
@[simp] theorem State.setAud_aes (s : State) (c : AudioClock) : (s.setAud c).aes = s.aes := rfl
@[simp] theorem State.setAud_anc (s : State) (c : AudioClock) : (s.setAud c).anc = s.anc := rfl
@[simp] theorem State.setAud_probe (s : State) (c : AudioClock) : (s.setAud c).probe = s.probe := rfl
@[simp] theorem State.setAud_clk (s : State) (c : AudioClock) : (s.setAud c).clk = s.clk := rfl
@[simp] theorem State.setAud_tow (s : State) (c : AudioClock) : (s.setAud c).tow = s.tow := rfl
@[simp] theorem State.setAud_boot (s : State) (c : AudioClock) : (s.setAud c).boot = s.boot := rfl
@[simp] theorem State.setAud_ic (s : State) (c : AudioClock) : (s.setAud c).ic = s.ic := rfl
@[simp] theorem State.setAud_dbg (s : State) (c : AudioClock) : (s.setAud c).dbg = s.dbg := rfl

@[simp] theorem State.crosses_pending (s : State) (m : Nat) (ts : List Nat) :
    (s.crosses m ts).pending = s.pending := rfl
@[simp] theorem State.crosses_regs (s : State) (m : Nat) (ts : List Nat) : (s.crosses m ts).regs = s.regs := rfl
@[simp] theorem State.crosses_free (s : State) (m : Nat) (ts : List Nat) : (s.crosses m ts).free = s.free := rfl
@[simp] theorem State.crosses_out (s : State) (m : Nat) (ts : List Nat) : (s.crosses m ts).out = s.out := rfl
@[simp] theorem State.crosses_host (s : State) (m : Nat) (ts : List Nat) : (s.crosses m ts).host = s.host := rfl
@[simp] theorem State.crosses_time (s : State) (m : Nat) (ts : List Nat) : (s.crosses m ts).time = s.time := rfl
@[simp] theorem State.crosses_take (s : State) (m : Nat) (ts : List Nat) : (s.crosses m ts).take = s.take := rfl
@[simp] theorem State.crosses_store (s : State) (m : Nat) (ts : List Nat) : (s.crosses m ts).store = s.store := rfl
@[simp] theorem State.crosses_faults (s : State) (m : Nat) (ts : List Nat) : (s.crosses m ts).faults = s.faults := rfl
@[simp] theorem State.crosses_cway (s : State) (m : Nat) (ts : List Nat) : (s.crosses m ts).cway = s.cway := rfl
@[simp] theorem State.crosses_sdi (s : State) (m : Nat) (ts : List Nat) : (s.crosses m ts).sdi = s.sdi := rfl
@[simp] theorem State.crosses_media (s : State) (m : Nat) (ts : List Nat) : (s.crosses m ts).media = s.media := rfl
@[simp] theorem State.crosses_lane (s : State) (m : Nat) (ts : List Nat) : (s.crosses m ts).lane = s.lane := rfl
@[simp] theorem State.crosses_audio (s : State) (m : Nat) (ts : List Nat) : (s.crosses m ts).audio = s.audio := rfl
@[simp] theorem State.crosses_aes (s : State) (m : Nat) (ts : List Nat) : (s.crosses m ts).aes = s.aes := rfl
@[simp] theorem State.crosses_anc (s : State) (m : Nat) (ts : List Nat) : (s.crosses m ts).anc = s.anc := rfl
@[simp] theorem State.crosses_probe (s : State) (m : Nat) (ts : List Nat) : (s.crosses m ts).probe = s.probe := rfl
@[simp] theorem State.crosses_clk (s : State) (m : Nat) (ts : List Nat) : (s.crosses m ts).clk = s.clk := rfl
@[simp] theorem State.crosses_tow (s : State) (m : Nat) (ts : List Nat) : (s.crosses m ts).tow = s.tow := rfl
@[simp] theorem State.crosses_boot (s : State) (m : Nat) (ts : List Nat) : (s.crosses m ts).boot = s.boot := rfl
@[simp] theorem State.crosses_dbg (s : State) (m : Nat) (ts : List Nat) : (s.crosses m ts).dbg = s.dbg := rfl

end Sys2Proof.Machine
end

