-- ==== Sys2Proof/Laws/Fields.lean ====
section
/-! SUPPORT. What a register field reads after a field has been set. -/

namespace Sys2Proof.Machine
open Reg

theorem find?_regsSet_ne (t : Tab Nat) (f : Field) (v i j : Nat) {k : Nat} (h : f.key i j ≠ k) :
    Tab.find? (regsSet t f v i j) k = Tab.find? t k := by
  unfold regsSet
  split
  · exact Tab.find?_erase_ne t h
  · exact Tab.find?_insert_ne t _ h

/-- A field reads as what it was set to, kept to its width. -/
theorem State.fld_setFld_self (s : State) (f : Field) (v i j : Nat) :
    (s.setFld f v i j).fld f i j = v % 2 ^ f.w := by
  simp only [State.fld, State.setFld]
  unfold regsSet
  split
  · rename_i h; rw [Tab.find?_erase_self, h]; simp [← h]
  · rw [Tab.find?_insert_self]; simp

/-- A field reads within its width. -/
theorem State.fld_lt (s : State) (f : Field) (i j : Nat) : s.fld f i j < 2 ^ f.w :=
  Nat.mod_lt _ (Nat.two_pow_pos _)

/-- Every other field reads as before. -/
theorem State.fld_setFld_ne (s : State) (f g : Field) (v i j i' j' : Nat) (h : f.key i j ≠ g.key i' j') :
    (s.setFld f v i j).fld g i' j' = s.fld g i' j' := by
  simp only [State.fld, State.setFld]
  rw [find?_regsSet_ne _ _ _ _ _ h]

/-- The registers are still in rising order. -/
theorem State.rising_setFld {s : State} (h : Tab.rising s.regs = true) (f : Field) (v i j : Nat) :
    Tab.rising (s.setFld f v i j).regs = true := by
  simp only [State.setFld]
  unfold regsSet
  split
  · exact Tab.rising_erase h _
  · exact Tab.rising_insert h _ _

/-- What reads only registers reads the same of a state with the same registers. -/
theorem State.fld_congr {s t : State} (h : t.regs = s.regs) (f : Field) (i j : Nat) : t.fld f i j = s.fld f i j := by
  unfold State.fld; rw [h]

theorem State.fldOn_congr {s t : State} (h : t.regs = s.regs) (f : Field) (i j : Nat) : t.fldOn f i j = s.fldOn f i j := by
  unfold State.fldOn; rw [State.fld_congr h]

end Sys2Proof.Machine
end

