-- ==== Sys2Proof/Laws/Probe.lean ====
section
/-! SUPPORT. Instructions of the probe cores: what a row does when the core stands at its instruction, and where flow goes
on after it. -/

namespace Sys2Proof.Machine
open Reg

/-- A core that stands at an instruction executes it. -/
theorem probeRow_at {s : State} {c op mask m : Nat} {f : ProbeSem} (h : s.atOp c op mask) (hm : m = mask) :
    s.probeRow c (· == op) m f =
      s.finishProbe c (s.fld PROBE_PC c) (f s c (s.probeWord c) (s.fld PROBE_PC c) (s.core c)) := by
  subst hm
  obtain ⟨h1, h2, h3, h4⟩ := h
  have h5 : ¬(s.breakAt c (s.fld PROBE_PC c) = true ∧ ¬(s.core c).skipBreak = true) := by
    rcases h4 with h4 | h4 <;> simp [h4]
  simp only [State.probeRow, h1, h2, h3, ne_eq, not_true_eq_false, false_or, beq_self_eq_true, Bool.true_eq_false, if_false]
  rw [if_neg h5]

/-- A core that does not stand at a row's instruction is left as it is. -/
theorem probeRow_not {s : State} {c m : Nat} {op : Nat → Bool} {f : ProbeSem}
    (h : s.fld PROBE_STATE c ≠ coreRunning ∨ op (probeOp (s.probeWord c)) = false) : s.probeRow c op m f = s := by
  simp only [State.probeRow]; rw [if_pos h]

end Sys2Proof.Machine
end

