-- ==== Sys2Proof/Laws/Raise.lean ====
section
/-! SUPPORT. What raising an event leaves alone: every register but the event counts, the fault records and the event
ring state of the partitions, and every part of the state but the output, the records and the signalling of partitions. -/

namespace Sys2Proof.Machine
open Reg

/-- Keys of the register fields that a raise may write: EVT_COUNT; the FLT registers and records; CQ_TAIL and DROPS of the
event rings; and PCB_NMI and EVT_LOST. -/
def raiseKey (k : Nat) : Bool :=
  let o := k / 8
  (decide (0x20000 ≤ o ∧ o < 0x22000 ∧ 4 ≤ o % 8) || decide (0x24000 ≤ o ∧ o < 0x24300)) ||
    (decide (0x1000 ≤ o ∧ o < 0x9000) &&
      (decide (0x980 ≤ o % 0x1000 ∧ o % 0x1000 < 0x988) ||
        decide (0x900 ≤ o % 0x1000 ∧ o % 0x1000 < 0x980 ∧ 0x18 ≤ o % 0x20 ∧ 2 ≤ o % 4)))

/-- Only what a raise may change differs. -/
structure RaiseFrame (s t : State) : Prop where
  regs : ∀ k, raiseKey k = false → Tab.find? t.regs k = Tab.find? s.regs k
  pending : t.pending = s.pending
  free : t.free = s.free
  time : t.time = s.time
  take : t.take = s.take
  store : t.store = s.store
  cway : t.cway = s.cway
  sdi : t.sdi = s.sdi
  media : t.media = s.media
  lane : t.lane = s.lane
  audio : t.audio = s.audio
  aes : t.aes = s.aes
  anc : t.anc = s.anc
  probe : t.probe = s.probe
  clk : t.clk = s.clk
  tow : t.tow = s.tow
  boot : t.boot = s.boot
  dbg : t.dbg = s.dbg
  rings : t.host.rings = s.host.rings
  claims : t.host.claims = s.host.claims
  held : t.host.held = s.host.held
  engines : t.host.engines = s.host.engines
  msix : t.host.msix = s.host.msix
  part : ∀ p, { t.part p with evtSeq := 0, pba := 0 } = { s.part p with evtSeq := 0, pba := 0 }

variable {s t : State}

theorem RaiseFrame.refl (s : State) : RaiseFrame s s := by constructor <;> intros <;> rfl

theorem RaiseFrame.trans {u : State} (h : RaiseFrame s t) (g : RaiseFrame t u) : RaiseFrame s u where
  regs k e := (g.regs k e).trans (h.regs k e)
  pending := g.pending.trans h.pending
  free := g.free.trans h.free
  time := g.time.trans h.time
  take := g.take.trans h.take
  store := g.store.trans h.store
  cway := g.cway.trans h.cway
  sdi := g.sdi.trans h.sdi
  media := g.media.trans h.media
  lane := g.lane.trans h.lane
  audio := g.audio.trans h.audio
  aes := g.aes.trans h.aes
  anc := g.anc.trans h.anc
  probe := g.probe.trans h.probe
  clk := g.clk.trans h.clk
  tow := g.tow.trans h.tow
  boot := g.boot.trans h.boot
  dbg := g.dbg.trans h.dbg
  rings := g.rings.trans h.rings
  claims := g.claims.trans h.claims
  held := g.held.trans h.held
  engines := g.engines.trans h.engines
  msix := g.msix.trans h.msix
  part p := (g.part p).trans (h.part p)

theorem RaiseFrame.setFld (h : RaiseFrame s t) (f : Field) (v i j : Nat) (hk : raiseKey (f.key i j) = true) :
    RaiseFrame s (t.setFld f v i j) := by
  refine h.trans ?_
  constructor <;> intros <;> try rfl
  rename_i k e
  refine find?_regsSet_ne _ _ _ _ _ (fun e' => ?_)
  rw [e'] at hk; simp [e] at hk

theorem RaiseFrame.ite {c : Prop} [Decidable c] {u : State} (h : RaiseFrame s t) (g : RaiseFrame s u) :
    RaiseFrame s (if c then t else u) := by split <;> assumption

theorem RaiseFrame.when {c : Bool} {f : State → State} (h : RaiseFrame s t) (g : RaiseFrame t (f t)) :
    RaiseFrame s (t.when c f) := by
  cases c
  · exact h
  · exact h.trans g

theorem RaiseFrame.each {α : Type} {f : State → α → State} (l : List α) (g : ∀ t, ∀ a ∈ l, RaiseFrame t (f t a)) (s : State) :
    RaiseFrame s (s.each l f) := by
  induction l generalizing s with
  | nil => exact .refl s
  | cons a l ih =>
    exact (g s a List.mem_cons_self).trans (ih (fun t b hb => g t b (List.mem_cons_of_mem _ hb)) (f s a))

theorem RaiseFrame.upTo {f : State → Nat → State} (n : Nat) (g : ∀ t i, i < n → RaiseFrame t (f t i)) (s : State) :
    RaiseFrame s (s.upTo n f) :=
  RaiseFrame.each (List.range n) (fun t a ha => g t a (List.mem_range.1 ha)) s

theorem RaiseFrame.emit (h : RaiseFrame s t) (o : Output) : RaiseFrame s (t.emit o) :=
  h.trans (by constructor <;> intros <;> rfl)

theorem RaiseFrame.setEvtRing (h : RaiseFrame s t) (p e : Nat) (r : EvtRingRun) : RaiseFrame s (t.setEvtRing p e r) :=
  h.trans (by constructor <;> intros <;> rfl)

theorem RaiseFrame.faults (h : RaiseFrame s t) (f : FaultRun) : RaiseFrame s { t with faults := f } :=
  h.trans (by constructor <;> intros <;> rfl)

theorem part_setPart_self (s : State) (p : Nat) (r : PartRun) : (s.setPart p r).part p = r := by
  simp [State.part, State.setPart]

theorem part_setPart_ne (s : State) {p q : Nat} (r : PartRun) (h : p ≠ q) : (s.setPart p r).part q = s.part q := by
  simp only [State.part, State.setPart, Tab.get, Tab.set]
  split
  · rw [Tab.find?_erase_ne _ h]
  · rw [Tab.find?_insert_ne _ _ h]

theorem RaiseFrame.setPart (h : RaiseFrame s t) (p : Nat) (r : PartRun)
    (e : { r with evtSeq := 0, pba := 0 } = { t.part p with evtSeq := 0, pba := 0 }) : RaiseFrame s (t.setPart p r) := by
  refine h.trans ?_
  constructor <;> intros <;> try rfl
  rename_i q
  by_cases hq : p = q
  · subst hq; rw [part_setPart_self]; exact e
  · rw [part_setPart_ne _ _ hq]

theorem sendVector_frame (s : State) (p v : Nat) : RaiseFrame s (s.sendVector p v) := by
  unfold State.sendVector
  exact .ite (.setPart (.refl _) _ _ rfl) (.emit (.refl _) _)


theorem key_tail (p e : Nat) (hp : p < 8) (he : e < 4) : raiseKey (ERING_CQ_TAIL.key p e) = true := by
  have : ∀ p : Fin 8, ∀ e : Fin 4, raiseKey (ERING_CQ_TAIL.key p e) = true := by decide
  exact this ⟨p, hp⟩ ⟨e, he⟩

theorem key_drops (p e : Nat) (hp : p < 8) (he : e < 4) : raiseKey (ERING_DROPS.key p e) = true := by
  have : ∀ p : Fin 8, ∀ e : Fin 4, raiseKey (ERING_DROPS.key p e) = true := by decide
  exact this ⟨p, hp⟩ ⟨e, he⟩

theorem key_lost (p : Nat) (hp : p < 8) : raiseKey (PCB_EVT_LOST.key p 0) = true := by
  have : ∀ p : Fin 8, raiseKey (PCB_EVT_LOST.key p 0) = true := by decide
  exact this ⟨p, hp⟩

theorem key_nmi (p : Nat) (hp : p < 8) : raiseKey (PCB_NMI_CLOCK.key p 0) = true := by
  have : ∀ p : Fin 8, raiseKey (PCB_NMI_CLOCK.key p 0) = true := by decide
  exact this ⟨p, hp⟩

theorem writeEvent_frame (s : State) (p e ev cls index sub data seq : Nat) (hp : p < 8) (he : e < 4) :
    RaiseFrame s (s.writeEvent p e ev cls index sub data seq) := by
  unfold State.writeEvent
  refine .ite (.setFld (.refl _) _ _ _ _ (key_drops p e hp he)) (.when (.setEvtRing ?_ _ _ _) (sendVector_frame _ _ _))
  exact .setFld (.setFld (.emit (.refl _) _) _ _ _ _ (key_tail p e hp he)) _ _ _ _ (key_drops p e hp he)

theorem eventRingFor_lt {s : State} {p ring e : Nat} (hr : ring < 4) (h : s.eventRingFor p ring = some e) : e < 4 := by
  unfold State.eventRingFor at h
  split at h
  · exact Option.some.inj h ▸ hr
  · exact List.mem_range.1 (List.mem_of_find?_eq_some h)

theorem deliver_frame (s : State) (ev cls index sub data p : Nat) (hp : p < 8) :
    RaiseFrame s (s.deliver ev cls index sub data p) := by
  unfold State.deliver
  have h : RaiseFrame s (s.setPart p { s.part p with evtSeq := ((s.part p).evtSeq + 1) % 2 ^ 32 }) :=
    .setPart (.refl _) _ _ rfl
  refine .ite (.setFld h _ _ _ _ (key_lost p hp)) ?_
  split
  · exact .setFld h _ _ _ _ (key_lost p hp)
  · rename_i e he
    exact h.trans (writeEvent_frame _ _ _ _ _ _ _ _ _ hp (eventRingFor_lt (State.fld_lt _ EVT_RING _ _) he))

theorem key_count (ev : Nat) (h : ev < 1024) : raiseKey (EVT_COUNT.key ev 0) = true := by
  have e : EVT_COUNT.key ev 0 = 8 * (0x20004 + ev * 8) := by simp [Field.key, Field.off, EVT_COUNT]
  unfold raiseKey
  simp only [e, Nat.mul_div_cancel_left _ (show 0 < 8 by decide)]
  rw [decide_eq_true (p := 0x20000 ≤ 0x20004 + ev * 8 ∧ _ ∧ _) ⟨by omega, by omega, by omega⟩]
  simp

theorem react_frame (s : State) (cls ev index sub data : Nat) (rec : Fin 16) :
    RaiseFrame s (s.react cls ev index sub data rec) := by
  unfold State.react
  refine .when (.when (.refl _) ?_) ?_
  · exact .faults (.setFld (.setFld (.refl _) _ _ _ _ (by decide)) _ _ _ _ (by decide)) _
  · exact .ite (.faults (.refl _) _) (.faults (.refl _) _)

theorem mergeFault_frame (s : State) (i : Fin 16) (cls ev index sub data : Nat) :
    RaiseFrame s (s.mergeFault i cls ev index sub data) := by
  have k1 : ∀ i : Fin 16, raiseKey (FREC_MERGES.key i 0) = true := by decide
  have k2 : ∀ i : Fin 16, raiseKey (FREC_LAST_EVENT.key i 0) = true := by decide
  have k3 : ∀ i : Fin 16, raiseKey (FREC_LAST_TIME.key i 0) = true := by decide
  have k4 : ∀ i : Fin 16, raiseKey (FREC_CLASS.key i 0) = true := by decide
  have k5 : ∀ i : Fin 16, raiseKey (FREC_ESCALATED.key i 0) = true := by decide
  unfold State.mergeFault
  have h : RaiseFrame s (((s.satFld FREC_MERGES i).setFld FREC_LAST_EVENT ev i).setFld FREC_LAST_TIME s.now i) :=
    .setFld (.setFld (.setFld (.refl _) _ _ _ _ (k1 i)) _ _ _ _ (k2 i)) _ _ _ _ (k3 i)
  refine .ite ?_ (.when h (react_frame _ _ _ _ _ _ _))
  exact (RaiseFrame.setFld (.setFld h _ _ _ _ (k4 i)) _ _ _ _ (k5 i)).trans (react_frame _ _ _ _ _ _ _)

/-- Fields set one after another, all of which a raise may write. -/
theorem setAll_frame (i : Nat) (l : List (Field × Nat)) (h : l.all (fun x => raiseKey (x.1.key i 0)) = true) (s : State) :
    RaiseFrame s (s.each l (fun s x => s.setFld x.1 x.2 i)) :=
  .each _ (fun _ _ hx => .setFld (.refl _) _ _ _ _ (List.all_eq_true.1 h _ hx)) _

theorem createFault_frame (s : State) (i : Fin 16) (cls ev index sub data : Nat) (holds : Bool) :
    RaiseFrame s (s.createFault i cls ev index sub data holds) := by
  have k0 : ∀ i : Fin 16, raiseKey (FREC_EVENT.key i 0) = true := by decide
  have k1 : ∀ i : Fin 16, raiseKey (FREC_CLASS.key i 0) = true := by decide
  have k2 : ∀ i : Fin 16, raiseKey (FREC_ACTIVE.key i 0) = true := by decide
  have k3 : ∀ i : Fin 16, raiseKey (FREC_HOLDS.key i 0) = true := by decide
  have k4 : ∀ i : Fin 16, raiseKey (FREC_CAUSED_SAFE.key i 0) = true := by decide
  have k5 : ∀ i : Fin 16, raiseKey (FREC_ESCALATED.key i 0) = true := by decide
  have k6 : ∀ i : Fin 16, raiseKey (FREC_VALID.key i 0) = true := by decide
  have k7 : ∀ i : Fin 16, raiseKey (FREC_INDEX.key i 0) = true := by decide
  have k8 : ∀ i : Fin 16, raiseKey (FREC_SUB.key i 0) = true := by decide
  have k9 : ∀ i : Fin 16, raiseKey (FREC_TIME_LO.key i 0) = true := by decide
  have k10 : ∀ i : Fin 16, raiseKey (FREC_TIME_HI.key i 0) = true := by decide
  have k11 : ∀ i : Fin 16, raiseKey (FREC_DATA_LO.key i 0) = true := by decide
  have k12 : ∀ i : Fin 16, raiseKey (FREC_DATA_HI.key i 0) = true := by decide
  have k13 : ∀ i : Fin 16, raiseKey (FREC_MERGES.key i 0) = true := by decide
  have k14 : ∀ i : Fin 16, raiseKey (FREC_LAST_EVENT.key i 0) = true := by decide
  have k15 : ∀ i : Fin 16, raiseKey (FREC_LAST_TIME.key i 0) = true := by decide
  unfold State.createFault
  refine RaiseFrame.trans (.faults (setAll_frame i _ ?_ _) _) (react_frame _ _ _ _ _ _ _)
  simp only [List.all_cons, List.all_nil, k0 i, k1 i, k2 i, k3 i, k4 i, k5 i, k6 i, k7 i, k8 i, k9 i, k10 i, k11 i, k12 i, k13 i, k14 i, k15 i, Bool.and_true]

theorem placeFault_frame (s : State) (cls ev index sub data : Nat) (holds : Bool) :
    RaiseFrame s (s.placeFault cls ev index sub data holds) := by
  unfold State.placeFault
  split
  · exact mergeFault_frame _ _ _ _ _ _ _
  · exact createFault_frame _ _ _ _ _ _ _ _
  · exact (mergeFault_frame _ _ _ _ _ _ _).setFld _ _ _ _ (by decide)

/-- What a raise leaves alone. -/
theorem raise_frame (s : State) (ev : Nat) (r : Raise) (hev : ev < 1024) : RaiseFrame s (s.raise ev r) := by
  unfold State.raise
  refine .when ((((RaiseFrame.refl s).setFld _ _ _ _ (key_count ev hev)).when (placeFault_frame _ _ _ _ _ _ _)).trans
    (.each _ (fun t p hp => deliver_frame _ _ _ _ _ _ _ ?_) _)) (.upTo _ (fun t p hp => .when (.refl _) ?_) _)
  · unfold State.recipients at hp; exact List.mem_range.1 (List.mem_filter.1 hp).1
  · exact .setFld (.refl _) _ _ _ _ (key_nmi p hp)

/-- A field that a raise does not concern reads as before. -/
theorem RaiseFrame.fld (h : RaiseFrame s t) (f : Field) (i j : Nat) (hk : raiseKey (f.key i j) = false) :
    t.fld f i j = s.fld f i j := by
  unfold State.fld; rw [h.regs _ hk]

theorem fld_raise (s : State) (ev : Nat) (r : Raise) (f : Field) (i j : Nat) (hev : ev < 1024)
    (hk : raiseKey (f.key i j) = false) : (s.raise ev r).fld f i j = s.fld f i j :=
  (raise_frame s ev r hev).fld f i j hk

end Sys2Proof.Machine
end

