-- ==== Sys2Proof/Laws/Writes.lean ====
section
/-! SUPPORT. Where an offset stands in the register map, and what a host write that passes its checks does. -/

namespace Sys2Proof.Machine
open Reg

/-- Two spans that hold one offset are the same. -/
theorem span_unique : ∀ a ∈ blockTable, ∀ b ∈ blockTable, a.base < b.base + b.size → b.base < a.base + a.size → a = b := by
  decide

/-- An offset within the span of a block belongs to that block. -/
theorem blockAt_eq {off : Nat} {b : Span} (hb : b ∈ blockTable) (lo : b.base ≤ off) (hi : off < b.base + b.size)
    (hole : ¬(0x24800 ≤ off ∧ off < 0x25000)) : blockAt off = some (b.blk, (off - b.base) / b.stride) := by
  unfold blockAt
  rw [if_neg hole]
  cases e : blockTable.find? (fun b => decide (b.base ≤ off ∧ off < b.base + b.size)) with
  | none =>
    have := List.find?_eq_none.1 e b hb
    simp at this
    omega
  | some a =>
    have h1 := List.find?_some e
    simp at h1
    have h2 : a = b := span_unique a (List.mem_of_find?_eq_some e) b hb (by omega) (by omega)
    rw [h2]; rfl

theorem blockAt_glb {off : Nat} (hi : off < 0x1000) : blockAt off = some (.glb, 0) := by
  rw [blockAt_eq (b := ⟨.glb, 0x0, 0x1000, 1⟩) (by decide) (Nat.zero_le _) (by simpa [Span.size] using hi) (by omega)]
  congr 2
  show (off - 0x0) / 0x1000 = 0
  omega

theorem blockAt_pcb {off i : Nat} (hn : i < 8) (lo : 0x1000 + 0x1000 * i ≤ off)
    (hi : off < 0x1000 + 0x1000 * i + 0x1000) : blockAt off = some (.pcb, i) := by
  rw [blockAt_eq (b := ⟨.pcb, 0x1000, 0x1000, 8⟩) (by decide) (by show 0x1000 ≤ off; omega)
    (by show off < 0x1000 + 0x1000 * 8; omega) (by omega)]
  congr 2
  show (off - 0x1000) / 0x1000 = i
  omega

theorem blockAt_own {off i : Nat} (hn : i < 3072) (lo : 0x10000 + 0x4 * i ≤ off)
    (hi : off < 0x10000 + 0x4 * i + 0x4) : blockAt off = some (.own, i) := by
  rw [blockAt_eq (b := ⟨.own, 0x10000, 0x4, 3072⟩) (by decide) (by show 0x10000 ≤ off; omega)
    (by show off < 0x10000 + 0x4 * 3072; omega) (by omega)]
  congr 2
  show (off - 0x10000) / 0x4 = i
  omega

theorem blockAt_cmdeng {off i : Nat} (hn : i < 16) (lo : 0x18000 + 0x100 * i ≤ off)
    (hi : off < 0x18000 + 0x100 * i + 0x100) : blockAt off = some (.cmdeng, i) := by
  rw [blockAt_eq (b := ⟨.cmdeng, 0x18000, 0x100, 16⟩) (by decide) (by show 0x18000 ≤ off; omega)
    (by show off < 0x18000 + 0x100 * 16; omega) (by omega)]
  congr 2
  show (off - 0x18000) / 0x100 = i
  omega

theorem blockAt_evt {off i : Nat} (hn : i < 1024) (lo : 0x20000 + 0x8 * i ≤ off)
    (hi : off < 0x20000 + 0x8 * i + 0x8) : blockAt off = some (.evt, i) := by
  rw [blockAt_eq (b := ⟨.evt, 0x20000, 0x8, 1024⟩) (by decide) (by show 0x20000 ≤ off; omega)
    (by show off < 0x20000 + 0x8 * 1024; omega) (by omega)]
  congr 2
  show (off - 0x20000) / 0x8 = i
  omega

theorem blockAt_time {off : Nat} (lo : 0x30000 ≤ off) (hi : off < 0x40000) : blockAt off = some (.time, 0) := by
  rw [blockAt_eq (b := ⟨.time, 0x30000, 0x10000, 1⟩) (by decide) lo (by simpa [Span.size] using hi) (by omega)]
  congr 2
  show (off - 0x30000) / 0x10000 = 0
  omega

theorem blockAt_clk {off : Nat} (lo : 0x40000 ≤ off) (hi : off < 0x41000) : blockAt off = some (.clk, 0) := by
  rw [blockAt_eq (b := ⟨.clk, 0x40000, 0x1000, 1⟩) (by decide) lo (by simpa [Span.size] using hi) (by omega)]
  congr 2
  show (off - 0x40000) / 0x1000 = 0
  omega

theorem blockAt_pwr {off : Nat} (lo : 0x41000 ≤ off) (hi : off < 0x42000) : blockAt off = some (.pwr, 0) := by
  rw [blockAt_eq (b := ⟨.pwr, 0x41000, 0x1000, 1⟩) (by decide) lo (by simpa [Span.size] using hi) (by omega)]
  congr 2
  show (off - 0x41000) / 0x1000 = 0
  omega

theorem blockAt_boot {off : Nat} (lo : 0x42000 ≤ off) (hi : off < 0x43000) : blockAt off = some (.boot, 0) := by
  rw [blockAt_eq (b := ⟨.boot, 0x42000, 0x1000, 1⟩) (by decide) lo (by simpa [Span.size] using hi) (by omega)]
  congr 2
  show (off - 0x42000) / 0x1000 = 0
  omega

theorem blockAt_ic {off : Nat} (lo : 0x43000 ≤ off) (hi : off < 0x44000) : blockAt off = some (.ic, 0) := by
  rw [blockAt_eq (b := ⟨.ic, 0x43000, 0x1000, 1⟩) (by decide) lo (by simpa [Span.size] using hi) (by omega)]
  congr 2
  show (off - 0x43000) / 0x1000 = 0
  omega

theorem blockAt_mc {off i : Nat} (hn : i < 4) (lo : 0x50000 + 0x1000 * i ≤ off)
    (hi : off < 0x50000 + 0x1000 * i + 0x1000) : blockAt off = some (.mc, i) := by
  rw [blockAt_eq (b := ⟨.mc, 0x50000, 0x1000, 4⟩) (by decide) (by show 0x50000 ≤ off; omega)
    (by show off < 0x50000 + 0x1000 * 4; omega) (by omega)]
  congr 2
  show (off - 0x50000) / 0x1000 = i
  omega

theorem blockAt_fresh {off : Nat} (lo : 0x60000 ≤ off) (hi : off < 0x68000) : blockAt off = some (.fresh, 0) := by
  rw [blockAt_eq (b := ⟨.fresh, 0x60000, 0x8000, 1⟩) (by decide) lo (by simpa [Span.size] using hi) (by omega)]
  congr 2
  show (off - 0x60000) / 0x8000 = 0
  omega

theorem blockAt_cway {off : Nat} (lo : 0x70000 ≤ off) (hi : off < 0x71000) : blockAt off = some (.cway, 0) := by
  rw [blockAt_eq (b := ⟨.cway, 0x70000, 0x1000, 1⟩) (by decide) lo (by simpa [Span.size] using hi) (by omega)]
  congr 2
  show (off - 0x70000) / 0x1000 = 0
  omega

theorem blockAt_tow {off i : Nat} (hn : i < 2) (lo : 0x71000 + 0x1000 * i ≤ off)
    (hi : off < 0x71000 + 0x1000 * i + 0x1000) : blockAt off = some (.tow, i) := by
  rw [blockAt_eq (b := ⟨.tow, 0x71000, 0x1000, 2⟩) (by decide) (by show 0x71000 ≤ off; omega)
    (by show off < 0x71000 + 0x1000 * 2; omega) (by omega)]
  congr 2
  show (off - 0x71000) / 0x1000 = i
  omega

theorem blockAt_aud {off : Nat} (lo : 0x80000 ≤ off) (hi : off < 0x90000) : blockAt off = some (.aud, 0) := by
  rw [blockAt_eq (b := ⟨.aud, 0x80000, 0x10000, 1⟩) (by decide) lo (by simpa [Span.size] using hi) (by omega)]
  congr 2
  show (off - 0x80000) / 0x10000 = 0
  omega

theorem blockAt_aesin {off i : Nat} (hn : i < 64) (lo : 0x90000 + 0x100 * i ≤ off)
    (hi : off < 0x90000 + 0x100 * i + 0x100) : blockAt off = some (.aesin, i) := by
  rw [blockAt_eq (b := ⟨.aesin, 0x90000, 0x100, 64⟩) (by decide) (by show 0x90000 ≤ off; omega)
    (by show off < 0x90000 + 0x100 * 64; omega) (by omega)]
  congr 2
  show (off - 0x90000) / 0x100 = i
  omega

theorem blockAt_aesout {off i : Nat} (hn : i < 64) (lo : 0x94000 + 0x100 * i ≤ off)
    (hi : off < 0x94000 + 0x100 * i + 0x100) : blockAt off = some (.aesout, i) := by
  rw [blockAt_eq (b := ⟨.aesout, 0x94000, 0x100, 64⟩) (by decide) (by show 0x94000 ≤ off; omega)
    (by show off < 0x94000 + 0x100 * 64; omega) (by omega)]
  congr 2
  show (off - 0x94000) / 0x100 = i
  omega

theorem blockAt_ancq {off i : Nat} (hn : i < 256) (lo : 0xA0000 + 0x40 * i ≤ off)
    (hi : off < 0xA0000 + 0x40 * i + 0x40) : blockAt off = some (.ancq, i) := by
  rw [blockAt_eq (b := ⟨.ancq, 0xA0000, 0x40, 256⟩) (by decide) (by show 0xA0000 ≤ off; omega)
    (by show off < 0xA0000 + 0x40 * 256; omega) (by omega)]
  congr 2
  show (off - 0xA0000) / 0x40 = i
  omega

theorem blockAt_probe {off i : Nat} (hn : i < 32) (lo : 0xB0000 + 0x400 * i ≤ off)
    (hi : off < 0xB0000 + 0x400 * i + 0x400) : blockAt off = some (.probe, i) := by
  rw [blockAt_eq (b := ⟨.probe, 0xB0000, 0x400, 32⟩) (by decide) (by show 0xB0000 ≤ off; omega)
    (by show off < 0xB0000 + 0x400 * 32; omega) (by omega)]
  congr 2
  show (off - 0xB0000) / 0x400 = i
  omega

theorem blockAt_lane {off i : Nat} (hn : i < 584) (lo : 0x100000 + 0x200 * i ≤ off)
    (hi : off < 0x100000 + 0x200 * i + 0x200) : blockAt off = some (.lane, i) := by
  rw [blockAt_eq (b := ⟨.lane, 0x100000, 0x200, 584⟩) (by decide) (by show 0x100000 ≤ off; omega)
    (by show off < 0x100000 + 0x200 * 584; omega) (by omega)]
  congr 2
  show (off - 0x100000) / 0x200 = i
  omega

theorem blockAt_sdirx {off i : Nat} (hn : i < 256) (lo : 0x180000 + 0x200 * i ≤ off)
    (hi : off < 0x180000 + 0x200 * i + 0x200) : blockAt off = some (.sdirx, i) := by
  rw [blockAt_eq (b := ⟨.sdirx, 0x180000, 0x200, 256⟩) (by decide) (by show 0x180000 ≤ off; omega)
    (by show off < 0x180000 + 0x200 * 256; omega) (by omega)]
  congr 2
  show (off - 0x180000) / 0x200 = i
  omega

theorem blockAt_sditx {off i : Nat} (hn : i < 256) (lo : 0x1A0000 + 0x200 * i ≤ off)
    (hi : off < 0x1A0000 + 0x200 * i + 0x200) : blockAt off = some (.sditx, i) := by
  rw [blockAt_eq (b := ⟨.sditx, 0x1A0000, 0x200, 256⟩) (by decide) (by show 0x1A0000 ≤ off; omega)
    (by show off < 0x1A0000 + 0x200 * 256; omega) (by omega)]
  congr 2
  show (off - 0x1A0000) / 0x200 = i
  omega

theorem blockAt_mport {off i : Nat} (hn : i < 64) (lo : 0x1C0000 + 0x1000 * i ≤ off)
    (hi : off < 0x1C0000 + 0x1000 * i + 0x1000) : blockAt off = some (.mport, i) := by
  rw [blockAt_eq (b := ⟨.mport, 0x1C0000, 0x1000, 64⟩) (by decide) (by show 0x1C0000 ≤ off; omega)
    (by show off < 0x1C0000 + 0x1000 * 64; omega) (by omega)]
  congr 2
  show (off - 0x1C0000) / 0x1000 = i
  omega

theorem blockAt_src {off i : Nat} (hn : i < 1120) (lo : 0x400000 + 0x400 * i ≤ off)
    (hi : off < 0x400000 + 0x400 * i + 0x400) : blockAt off = some (.src, i) := by
  rw [blockAt_eq (b := ⟨.src, 0x400000, 0x400, 1120⟩) (by decide) (by show 0x400000 ≤ off; omega)
    (by show off < 0x400000 + 0x400 * 1120; omega) (by omega)]
  congr 2
  show (off - 0x400000) / 0x400 = i
  omega

theorem blockAt_dst {off i : Nat} (hn : i < 1024) (lo : 0x600000 + 0x400 * i ≤ off)
    (hi : off < 0x600000 + 0x400 * i + 0x400) : blockAt off = some (.dst, i) := by
  rw [blockAt_eq (b := ⟨.dst, 0x600000, 0x400, 1024⟩) (by decide) (by show 0x600000 ≤ off; omega)
    (by show off < 0x600000 + 0x400 * 1024; omega) (by omega)]
  congr 2
  show (off - 0x600000) / 0x400 = i
  omega

theorem blockAt_cmp {off i : Nat} (hn : i < 96) (lo : 0x800000 + 0x1000 * i ≤ off)
    (hi : off < 0x800000 + 0x1000 * i + 0x1000) : blockAt off = some (.cmp, i) := by
  rw [blockAt_eq (b := ⟨.cmp, 0x800000, 0x1000, 96⟩) (by decide) (by show 0x800000 ≤ off; omega)
    (by show off < 0x800000 + 0x1000 * 96; omega) (by omega)]
  congr 2
  show (off - 0x800000) / 0x1000 = i
  omega

theorem blockAt_flowwin {off i : Nat} (hn : i < 262144) (lo : 0x1000000 + 0x40 * i ≤ off)
    (hi : off < 0x1000000 + 0x40 * i + 0x40) : blockAt off = some (.flowwin, i) := by
  rw [blockAt_eq (b := ⟨.flowwin, 0x1000000, 0x40, 262144⟩) (by decide) (by show 0x1000000 ≤ off; omega)
    (by show off < 0x1000000 + 0x40 * 262144; omega) (by omega)]
  congr 2
  show (off - 0x1000000) / 0x40 = i
  omega

theorem blockAt_flt {off : Nat} (lo : 0x24000 ≤ off) (hi : off < 0x26000) (hole : off < 0x24800 ∨ 0x25000 ≤ off) :
    blockAt off = some (.flt, 0) := by
  rw [blockAt_eq (b := ⟨.flt, 0x24000, 0x2000, 1⟩) (by decide) lo (by simpa [Span.size] using hi) (by omega)]
  congr 2
  show (off - 0x24000) / 0x2000 = 0
  omega

/-! ### Host writes -/

/-- A write that fails a check is logged for its partition, and has no other effect (R37). -/
theorem hostWrite_barred {s : State} {w off width : Nat} {b : AccessBar} (h : s.writeBar w off width = some b) (v : Nat) :
    s.hostWrite w off width v = (s.logBar w b).disarmed w := by
  unfold State.hostWrite State.disarmed
  rw [h]

/-- A write that passes its checks has a block. -/
theorem blockAt_of_writeBar {s : State} {w off : Nat} (h1 : s.writeBar w off 4 = none) : ∃ b, blockAt off = some b := by
  unfold State.writeBar at h1
  split at h1
  · exact nomatch h1
  · have hm := List.findSome?_eq_none_iff.1 h1 (off / 4 * 4) (by simp [covered])
    have ha : off / 4 * 4 = off := by omega
    rw [ha] at hm
    unfold State.mapped at hm
    cases e : blockAt off with
    | none => simp [e] at hm
    | some b => exact ⟨b, rfl⟩

/-- GLB and FLT are the blocks at these offsets. -/
theorem blockAt_safe {off : Nat} {b : Blk} {i : Nat} (hb : blockAt off = some (b, i))
    (h : off < 0x1000 ∨ (0x24000 ≤ off ∧ off < 0x26000)) : b = .flt ∨ b = .glb := by
  rcases h with h | ⟨h1, h2⟩
  · rw [blockAt_glb h] at hb
    simp at hb; exact .inr hb.1.symm
  · by_cases hole : 0x24800 ≤ off ∧ off < 0x25000
    · unfold blockAt at hb; rw [if_pos hole] at hb; exact nomatch hb
    · rw [blockAt_eq (b := ⟨.flt, 0x24000, 0x2000, 1⟩) (by decide) (by show 0x24000 ≤ off; omega)
        (by show off < 0x24000 + 0x2000 * 1; omega) hole] at hb
      simp at hb; exact .inl hb.1.symm

/-- A 32-bit write that goes through is the register's own effect. -/
theorem write32_accepted {s : State} {w off : Nat} (h : s.writable w off) (ho : off ≠ 0x42040) (v : Nat) :
    s.write32 w off v = (s.regWrite w off (v % 2 ^ 32)).disarmed w := by
  obtain ⟨h1, h2, h3⟩ := h
  obtain ⟨⟨b, i⟩, hb⟩ := blockAt_of_writeBar h1
  have hs : (s.safe && b != .flt && b != .glb) = false := by
    cases hv : s.safe
    · rfl
    · rcases blockAt_safe hb (h2 hv) with rfl | rfl <;> rfl
  have key : s.acceptWrite w off (v % 2 ^ 32) =
      if w = 0 then { s.regWrite w off (v % 2 ^ 32) with boot := { (s.regWrite w off (v % 2 ^ 32)).boot with armed := false } }
      else s.regWrite w off (v % 2 ^ 32) := by
    unfold State.acceptWrite
    simp only [hb, hs, Bool.false_eq_true, if_false, ho, ne_eq, not_false_eq_true, and_true]
    cases hm : mirroredAt off
    · have : (b.isMirrored && hasRw b off) = false := by unfold mirroredAt at hm; rw [hb] at hm; exact hm
      simp only [this, Bool.false_eq_true, if_false]
    · have hp : ¬(s.paired = true ∨ s.mirrors = true) := fun e => nomatch hm.symm.trans (h3 e)
      have hp1 : s.paired = false := by cases e : s.paired <;> simp_all
      have hp2 : s.mirrors = false := by cases e : s.mirrors <;> simp_all
      simp only [State.mirrorWrite, State.when, hp1, hp2, Bool.false_eq_true, if_false, ite_self]
  unfold State.write32 State.hostWrite State.disarmed
  rw [h1]
  simp only [key]
  simp

/-- A field that a word is given reads as it was given. -/
theorem bitField_putBits (v lo w x : Nat) : bitField (putBits v lo w x) lo w = x % 2 ^ w := by
  unfold putBits bitField
  have h1 : v = v / 2 ^ lo * 2 ^ lo + v % 2 ^ lo := by rw [Nat.mul_comm]; exact (Nat.div_add_mod v _).symm
  have h2 : v / 2 ^ lo = v / 2 ^ lo / 2 ^ w * 2 ^ w + v / 2 ^ lo % 2 ^ w := by
    rw [Nat.mul_comm]; exact (Nat.div_add_mod _ _).symm
  have hp : 0 < 2 ^ lo := Nat.two_pow_pos lo
  have hx : x % 2 ^ w < 2 ^ w := Nat.mod_lt _ (Nat.two_pow_pos w)
  generalize v / 2 ^ lo / 2 ^ w = q at h2
  generalize hr : v / 2 ^ lo % 2 ^ w = r at h2 ⊢
  generalize hl : v % 2 ^ lo = l at h1
  have hl' : l < 2 ^ lo := hl ▸ Nat.mod_lt _ hp
  rw [h2] at h1
  generalize x % 2 ^ w = y at hx ⊢
  have e : v - r * 2 ^ lo + y * 2 ^ lo = (q * 2 ^ w + y) * 2 ^ lo + l := by
    rw [h1, Nat.add_mul, Nat.add_mul]; omega
  rw [e, Nat.add_comm, Nat.add_mul_div_right _ _ hp, Nat.div_eq_of_lt hl', Nat.zero_add, Nat.add_comm,
    Nat.add_mul_mod_self_right, Nat.mod_eq_of_lt hx]

/-- A field of the low 32 bits of a word. -/
theorem bitField_mod (v lo w : Nat) (h : lo + w ≤ 32) : bitField (v % 2 ^ 32) lo w = bitField v lo w := by
  unfold bitField
  have e : 2 ^ 32 = 2 ^ lo * 2 ^ (32 - lo) := by rw [← Nat.pow_add]; congr 1; omega
  rw [e, Nat.mod_mul_right_div_self, Nat.mod_mod_of_dvd]
  exact Nat.pow_dvd_pow 2 (by omega)

end Sys2Proof.Machine
end

