-- ==== Sys2Proof/Machine/PciConfig.lean ====
section
/-! DEFINITION. What a host reads of a PCIe function outside BAR0 and BAR2: the answer of a configuration request, the items
that a function reports, its base address registers, and BAR4 (R28 .. R30, R32, R92, R507, R515). No row of the command
table is such a read, so these are views of the state (log 77). -/

namespace Sys2Proof.Machine
open Reg

/-- The items that every function reports (R30). -/
inductive ConfigItem where
  | vendorId | deviceId | classCode | subsystemIds | maxPayload | maxReadRequest | msixVectors
  deriving DecidableEq, Repr

/-- The answer of a configuration request. -/
inductive ConfigAnswer where
  /-- Configuration Request Retry Status (R507). -/
  | retry
  /-- The function does not appear in configuration space (R29). -/
  | absent
  /-- No answer: the device has stayed in reset extension (R477). -/
  | silent
  | value (v : Nat)
  deriving DecidableEq, Repr

/-- The value of an item; payload and read request in bytes. -/
def State.configValue (s : State) : ConfigItem → Nat
  | .vendorId => 0x1F9E
  | .deviceId => s.fld GLB_DEV_ID
  | .classCode => 0x048000
  | .subsystemIds => s.boot.subsystem
  | .maxPayload => 512
  | .maxReadRequest => 4096
  | .msixVectors => 64

/-- The configuration of endpoint n is ready: its PERSTn_N has been released since boot start, and the record has been
applied or the device is in recovery (R507, R509, R515). -/
def State.configReady (s : State) (n : Nat) : Bool :=
  bitAt s.boot.perst n && (decide (3 ≤ s.fld BOOT_STAGE) || s.boot.recovery)

/-- Function f of endpoint n appears in configuration space. In recovery only P0 does. -/
def State.functionAppears (s : State) (n f : Nat) : Bool :=
  if s.boot.recovery then n == 0 && f == 0 else s.hasEndpoint n && decide (f < 2) && s.present (2 * n + f)

/-- A configuration request for an item of function f of endpoint n. -/
def State.configRead (s : State) (n f : Nat) (item : ConfigItem) : ConfigAnswer :=
  if s.clk.noStart then .silent
  else if s.configReady n = false then .retry
  else if s.functionAppears n f = false then .absent
  else .value (s.configValue item)

/-- The bytes that the memory BAR of an even number spans; each is 64 bits wide and not prefetchable (R32). -/
def barSize (bar : Nat) : Nat :=
  match bar with
  | 0 => 64 * 1024 * 1024
  | 2 => 512 * 1024
  | 4 => 8 * 1024
  | _ => 0

/-- The double word of BAR4 of partition p at an offset: the MSI-X table, or the pending bits. DESIGN CHOICE, log 77: the
rest of BAR4, of which the spec says nothing, reads 0. -/
def State.readBar4 (s : State) (p off : Nat) : Nat :=
  if off < 64 * 16 then s.msixWord p (off / 16) (off % 16 / 4)
  else if off = 0x1000 then (s.part p).pba % 2 ^ 32
  else if off = 0x1004 then (s.part p).pba / 2 ^ 32
  else 0

end Sys2Proof.Machine
end

