-- ==== Sys2Proof/WellFormed.lean ====
section
/-! DEFINITION. Which commands are well formed: what their operands must satisfy beyond their types. exec gives every command
a meaning, well formed or not; these checks say which can arrive. -/

namespace Sys2Proof

/-- The widths of an access in bytes that a PCIe request can have. -/
def accessWidth (n : Nat) : Bool := n == 1 || n == 2 || n == 4 || n == 8

/-- A plane holds as many samples as its size says. -/
def Plane.wf (p : Plane) : Bool := p.data.length == p.w * p.h

/-- Every component of a picture is a well-formed plane. -/
def Pic.wf (p : Pic) : Bool := p.comps.all Plane.wf

/-- A frame of an SDI signal has one member, or the four of a quad-link signal (R282). -/
def SdiFrame.wf (f : SdiFrame) : Bool :=
  (f.members.length == 1 || f.members.length == 4) && f.members.all (fun m => m.pic.wf && decide (m.raster < 16 ∧ m.rate < 16))

/-- A packet has at most 255 user data words (R283). -/
def AncPacket.wf (p : AncPacket) : Bool := decide (p.udw.length ≤ 255 ∧ p.link < 4)

/-- A message on the Causeway has at most 4,095 payload words (R443). -/
def messageLen (words : List (BitVec 64)) : Bool := decide (words.length ≤ 4095)

/-- References are numbered 1 .. 10 (R104). -/
def refNumber (r : Fin 11) : Bool := r.val != 0

/-- A command that can arrive. -/
def Instr.wf : Instr → Bool
  | .registerWrite _ _ width _ => accessWidth width
  | .bar0ReadError _ _ width => accessWidth width
  | .commandTailDoorbell _ _ width _ => accessWidth width
  | .completionHeadDoorbell _ _ width _ => accessWidth width
  | .eventHeadDoorbell _ _ width _ => accessWidth width
  | .ringFetch _ _ answer => decide (answer.length ≤ 8)
  | .refSignalPresent r => refNumber r
  | .refQualified r => refNumber r
  | .refLoss loss => refNumber loss.ref
  | .prioWrite _ r _ => refNumber r
  | .sdiFrameEnd _ f => f.wf
  | .ancPacketReceived _ p => p.wf
  | .hello _ _ ws => messageLen ws
  | .role _ _ ws => messageLen ws
  | .linkAck _ _ ws => messageLen ws
  | .time _ _ ws => messageLen ws
  | .select _ _ ws => messageLen ws
  | .tear _ _ ws => messageLen ws
  | .audioDec _ _ ws => messageLen ws
  | .digIn _ _ ws => messageLen ws
  | .digOut _ _ ws => messageLen ws
  | .digAud _ _ ws => messageLen ws
  | .health _ _ ws => messageLen ws
  | .katReq _ _ ws => messageLen ws
  | .mirrorCmd _ _ ws => messageLen ws
  | .mirrorData _ _ ws => messageLen ws
  | .mirrorReg _ _ ws => messageLen ws
  | .mirrorOwn _ _ ws => messageLen ws
  | .groupEnd _ _ ws => messageLen ws
  | .groupAck _ _ ws => messageLen ws
  | .decision _ _ ws => messageLen ws
  | .snapBegin _ _ ws => messageLen ws
  | .snapEnd _ _ ws => messageLen ws
  | .seqAlign _ _ ws => messageLen ws
  | _ => true

end Sys2Proof
end

