-- ==== Sys2Proof/Tests/Slice0.lean ====
section
/-! SUPPORT. Tests: ill-formed commands, and for each statement a state and operands that meet its hypotheses, clause by
clause. Values come from the tables and encodings of spec/. -/

namespace Sys2Proof.Tests

set_option autoImplicit false
set_option Elab.async false

open Sys2Proof Sys2Proof.Machine Sys2Proof.Machine.Reg

/-! ### States -/

/-- A state with register fields set: field, first and second index, value. -/
def set (s : State) (l : List (Field × Nat × Nat × Nat)) : State := l.foldl (fun s x => s.setFld x.1 x.2.2.2 x.2.1 x.2.2.1) s

/-- A device in service, in SOLO, with its clocks up. -/
def up : State := set State.reset [(BOOT_SERVICE, 0, 0, 1), (BOOT_STAGE, 0, 0, 6), (CWAY_ROLE_STATE, 0, 0, Role.SOLO),
  (CWAY_TOKEN_OUT_A, 0, 0, 1), (CLK_ROSC_OK, 0, 0, 1), (PCB_ENABLE, 0, 0, 1), (PCB_STATE, 0, 0, partLive)]

/-- The same in the safe state. -/
def upSafe : State := set up [(FLT_SAFE, 0, 0, 1), (CWAY_ROLE_STATE, 0, 0, Role.SAFE), (CWAY_TOKEN_OUT_A, 0, 0, 0)]

/-- The same as the active device of a pair, and as a standby. -/
def upActive : State := set up [(CWAY_ROLE_STATE, 0, 0, Role.ACTIVE), (CWAY_PAIR_EN, 0, 0, 1)]

def upStandby : State := set up [(CWAY_ROLE_STATE, 0, 0, Role.STANDBY), (CWAY_PAIR_EN, 0, 0, 1), (CWAY_TOKEN_OUT_A, 0, 0, 0)]

/-- The same state at a later grid time, in ns. -/
def later (s : State) (g : Nat) : State := { s with time := { s.time with grid := g } }

/-- Whether writes pass their checks (State.writable). -/
def canWrite (s : State) (w off : Nat) : Bool :=
  decide (s.writeBar w off 4 = none) && (!s.safe || decide (off < 0x1000 ∨ (0x24000 ≤ off ∧ off < 0x26000))) &&
    (!(s.paired || s.mirrors) || !mirroredAt off)

theorem writable_of {s : State} {w off : Nat} (h : canWrite s w off = true) : s.writable w off := by
  unfold canWrite at h
  simp only [Bool.and_eq_true, decide_eq_true_eq, Bool.or_eq_true, Bool.not_eq_true'] at h
  obtain ⟨⟨h1, h2⟩, h3⟩ := h
  refine ⟨h1, fun h => ?_, fun h => ?_⟩
  · cases h2 with
    | inl g => rw [h] at g; cases g
    | inr g => exact g
  · cases h3 with
    | inl g => rcases h with h | h <;> simp [h] at g
    | inr g => exact g

/-! ### Well-formedness: one ill-formed command for each check -/

/-- R37: accesses are 1, 2, 4 or 8 bytes wide. -/
theorem test_wf_access : Instr.wf (.registerWrite 0 0x30008 3 0) = false ∧ Instr.wf (.bar0ReadError 0 0x30008 16) = false ∧
    Instr.wf (.commandTailDoorbell 0 0 5 0) = false ∧ Instr.wf (.completionHeadDoorbell 0 0 0 0) = false ∧
    Instr.wf (.eventHeadDoorbell 0 0 6 0) = false ∧ Instr.wf (.registerWrite 0 0x30008 4 0) = true := by decide

/-- R64: a read of descriptors returns at most 8. -/
theorem test_wf_fetch : Instr.wf (.ringFetch 0 0 (List.replicate 9 (Vector.replicate 16 0))) = false ∧
    Instr.wf (.ringFetch 0 0 (List.replicate 8 (Vector.replicate 16 0))) = true := by decide

/-- R104: references are numbered 1 .. 10. -/
theorem test_wf_reference : Instr.wf (.refSignalPresent 0) = false ∧ Instr.wf (.refQualified 0) = false ∧
    Instr.wf (.refLoss ⟨0, .linkDown⟩) = false ∧ Instr.wf (.prioWrite 0 0 0) = false ∧ Instr.wf (.refLoss ⟨10, .linkDown⟩) = true := by decide

/-- R443: a message has at most 4,095 payload words. -/
theorem test_wf_message : messageLen (List.replicate 4096 0) = false ∧ messageLen (List.replicate 4095 0) = true ∧
    Instr.wf (.hello 0 0 []) = true := by decide +kernel

/-! ### The queue and the invariants -/

theorem wit_StepRunsFront : ({ up with pending := [.safeReq, .tapReset] } : State).pending = .safeReq :: [.tapReset] ∧
    up.pending = [] := ⟨rfl, rfl⟩

theorem wit_StepKeepsCanonical : up.canonical = true ∧ Completes (step { up with pending := [.safeReq] }) :=
  ⟨by decide +kernel, _, rfl⟩

theorem wit_CommandsComplete : up.canonical = true ∧ Completes (exec (.st 0) up) := ⟨by decide +kernel, _, rfl⟩

/-- An input that feeds the audio plane, one that does not, and a plane on device time. -/
theorem wit_EventsStayInTheirBlock :
    Instr.st 31 ∈ ownInstructions 31 ∧ Instr.sta 0 ∈ ownInstructions 0 ∧ Completes (exec (.st 31) up) ∧
    Completes (exec (.aesLoss 63) up) ∧ Completes (exec (.towBusFail 1) up) ∧
    (let s := set up [(APLANE_SRC, 0, 0, 3), (APLANE_DARS_IN, 0, 0, 63)]
     up.fld APLANE_SRC ≠ 3 ∧ s.fld APLANE_DARS_IN ≠ 0 ∧ Completes (exec (.zPreamble 0) s) ∧ Completes (exec (.zPreamble 63) s)) :=
  ⟨by decide, by decide, ⟨_, rfl⟩, ⟨_, rfl⟩, ⟨_, rfl⟩, by decide +kernel, by decide +kernel, ⟨_, rfl⟩, ⟨_, rfl⟩⟩

/-! ### 02 -/

/-- Partitions P1 and P2 present and enabled, each with a lease, P3 present and OFF, P4 present without a lease. -/
def parts : State := set up [(GLB_PART_PRESENT, 0, 0, 31), (PCB_ENABLE, 1, 0, 1), (PCB_ENABLE, 2, 0, 1), (PCB_ENABLE, 4, 0, 1),
  (PCB_STATE, 1, 0, partLive), (PCB_STATE, 2, 0, partLive), (PCB_STATE, 4, 0, partLive), (PCB_LEASE_MS, 0, 0, 100),
  (PCB_LEASE_MS, 1, 0, 100), (PCB_LEASE_MS, 2, 0, 100), (PCB_STATE, 3, 0, partOff), (PCB_ENABLE, 3, 0, 0),
  (PCB_LEASE_MS, 4, 0, 0), (OWN_OWNER, 5, 0, 2), (OWN_OWNER, 1023, 0, 3)]

/-- A descriptor: opcode and flags, group, and the words of its body from word 2 on. -/
def desc (op flags group : Nat) (body : List Nat) : Descriptor :=
  Vector.ofFn (fun i : Fin 16 => BitVec.ofNat 32 (if i.val = 0 then op + 256 * flags else if i.val = 1 then group else body.getD (i.val - 2) 0))

def req (op flags group : Nat) (body : List Nat) (buf : List Byte := []) : Request :=
  { part := 0, ring := 0, index := 0, words := desc op flags group body, buf := buf }

theorem wit_HostAccesses :
    (parts.writeBar 0 0x30009 4 = some (.width 0x30009) ∧ parts.writeBar 0 0xC000 4 = some (.unmapped 0xC000) ∧
      parts.writeBar 1 0x30018 4 = some (.denied 0x30018)) ∧ parts.writable 0 0x30018 ∧ parts.writeBar 0 0x30018 8 = none ∧
    (parts.readBar 1 0x1FFFFFC 4 = some (.denied 0x1FFFFFC) ∧ parts.readBar 7 0x30018 4 = some (.denied 0x30018)) ∧
    parts.readBar 2 0x30018 4 = none ∧ parts.readBar 2 0x30010 8 = none ∧ parts.readBar 1 0x30008 4 = none ∧
    parts.readsReset 0x30008 = false ∧ parts.readBar 0 0x42024 4 = none ∧
    (parts.doorbell 1 0x44000 = none ∧ parts.doorbell 1 0x7FFFF = none ∧ parts.doorbell 1 0x3F800 = some 0 ∧
      parts.doorbell 1 0x43000 = some 0) :=
  ⟨by decide +kernel, writable_of (by decide +kernel), by decide +kernel⟩

/-- An error already held, and none. The blocks whose writes have a rule of their own in R36, each at its first and last
instance, and one of P0's. -/
theorem wit_AccessChecks :
    (parts.writeBar 0 0x30009 4 = some (.width 0x30009) ∧ parts.writeBar 0 0xC000 4 = some (.unmapped 0xC000) ∧
      parts.writeBar 1 0x30018 4 = some (.denied 0x30018) ∧ ((parts.setPart 1 { errHeld := true }).part 1).errHeld = true ∧
      (parts.part 1).errHeld = false) ∧
    (parts.inService = true ∧ parts.isActive = true ∧ parts.boot.recovery = false ∧ parts.fldOn PCB_ENABLE 1 = true) ∧
    ∀ x ∈ [(0x1000, Blk.pcb, 0), (0x8000, Blk.pcb, 7), (0x400000, .src, 0), (0x517C00, .src, 1119), (0x600000, .dst, 0),
        (0x6FFC00, .dst, 1023), (0x800000, .cmp, 0), (0x85F000, .cmp, 95), (0xB0000, .probe, 0), (0xB7C00, .probe, 31),
        (0xA0000, .ancq, 0), (0xA3FC0, .ancq, 255), (0x1C0000, .mport, 0), (0x1FF000, .mport, 63), (0x90000, .aesin, 0),
        (0x93F00, .aesin, 63), (0x1000000, .flowwin, 0), (0x30018, .time, 0)],
      x.1 % 4 = 0 ∧ blockAt x.1 = some (x.2.1, x.2.2) := by decide +kernel

theorem wit_DeviceTimeReadsAreConsistent : up.readBar 0 0x30008 8 = none ∧ parts.readBar 2 0x30008 4 = none ∧
    parts.readBar 2 0x3000C 4 = none ∧ up.readsReset 0x30008 = false ∧ parts.readsReset 0x30008 = false := by decide +kernel

/-- The first and the last word of the window, on an occupied context and on a free one. -/
theorem wit_FlowWindow :
    up.readBar 0 (BitVec.ofNat 26 0x1000000).toNat 4 = none ∧ up.readBar 0 (BitVec.ofNat 26 0x1FFFFFC).toNat 4 = none ∧
    (up.setFlow 262143 (some { words := [1] })).flow 262143 = some { words := [1] } ∧ up.flow 0 = none := by decide +kernel

/-- A partition's own write and P0's, a request in process, a present partition that is OFF, and a deputy of a lapsed P0. -/
theorem wit_PartitionRegisters :
    (∀ x ∈ [(0, 0), (1, 1), (0, 1)], ∀ rel ∈ [0x08, 0x10, 0x14, 0x20, 0x30, 0x11C, 0x8FC, 0x91C, 0x97C],
      parts.writable x.1 (pcbOff x.2 + rel)) ∧
    parts.fldOn PCB_BUSY 1 = false ∧ (set parts [(PCB_BUSY, 1, 0, 1)]).fldOn PCB_BUSY 1 = true ∧ parts.fld PCB_ENABLE 1 = 1 ∧
    parts.fld PCB_ENABLE 3 = 0 ∧ parts.pstate 3 = partOff ∧ parts.writable 0 (pcbOff 3 + 8) ∧
    (let s := set parts [(GLB_DEPUTY, 0, 0, 3), (PCB_STATE, 0, 0, partLapsed)]
     s.writable 2 (pcbOff 0 + 8) ∧ s.deputy = some 2 ∧ s.pstate 0 = partLapsed) := by
  refine ⟨fun x h r g => writable_of ?_, by decide +kernel, by decide +kernel, by decide +kernel, by decide +kernel,
    by decide +kernel, writable_of (by decide +kernel), writable_of (by decide +kernel), by decide +kernel⟩
  revert x r; decide +kernel

/-- Rings 0 and 63 and event rings 0 and 3, enabled and not, with size 0 and not, and with a request in process. -/
theorem wit_RingControl :
    (∀ off ∈ [ringOff 1 (.cmd 0), ringOff 1 (.cmd 63), ringOff 1 (.evt 0), ringOff 1 (.evt 3)], parts.writable 1 (off + 0x10)) ∧
    (let s := set parts [(RING_SIZE_LOG2, 1, 63, 4)]
     s.fld RING_ENABLE 1 63 = 0 ∧ s.fld RING_SIZE_LOG2 1 63 ≠ 0) ∧
    (set parts [(RING_SIZE_LOG2, 1, 0, 0)]).fld RING_SIZE_LOG2 1 0 = 0 ∧
    (let s := set parts [(RING_ENABLE, 1, 0, 1)]
     s.fldOn RING_ENABLE 1 0 = true ∧ (s.ring 1 0).inProcess = false) := by
  refine ⟨fun off h => writable_of ?_, by decide +kernel⟩
  revert off; decide +kernel

/-- One request of each act that is granted, and one for each refusal. -/
theorem wit_OwnershipRequests :
    (∀ q ∈ [(⟨1, 7, 1, 0⟩ : ClaimReq), ⟨1, 5, 2, 0⟩, ⟨1, 5, 3, 0⟩, ⟨1, 5, 4, 0⟩, ⟨0, 3071, 5, 2⟩],
      q.part < 8 ∧ q.act ≠ 0 ∧ q.act < 6 ∧ parts.claimBar q = none) ∧
    (∀ x ∈ [((⟨4, 7, 1, 0⟩ : ClaimReq), Claim.NO_LEASE), (⟨2, 5, 1, 0⟩, Claim.OWNED_ELSEWHERE), (⟨1, 1023, 2, 0⟩, Claim.NOT_OWNER),
        (⟨2, 5, 3, 0⟩, Claim.NOT_OWNER), (⟨1, 1024, 3, 0⟩, Claim.NOT_SOURCE), (⟨1, 2047, 4, 0⟩, Claim.NOT_SOURCE),
        (⟨1, 2144, 3, 0⟩, Claim.NOT_SOURCE), (⟨1, 5, 5, 2⟩, Claim.NOT_SUPERVISOR), (⟨0, 5, 5, 4⟩, Claim.NO_LEASE)],
      parts.claimBar x.1 = some x.2) ∧
    (({ parts with host := { parts.host with claims := [⟨1, 5, 2, 0⟩] } } : State).host.claims = [⟨1, 5, 2, 0⟩]) ∧
    parts.hasLease 4 = false ∧ parts.hasLease 1 = true ∧ parts.owner 5 = some 1 ∧ parts.owner 7 = none ∧
    shareable 5 = true ∧ shareable 2143 = true ∧
    parts.present 2 = true ∧ parts.pstate 2 ≠ partOff ∧ parts.present 4 = true ∧ parts.pstate 4 ≠ partOff := by decide +kernel

/-- A lease that runs out in the cycle of its tick, one that has, one that has not, and a lapsed partition. -/
theorem wit_LeasesRunOut :
    (let s := { parts with time := { parts.time with grid := 100000000 } }
     s.leaseOut 1 = true ∧ s.leaseTick 1 = s.time.grid) ∧
    parts.leaseOut 1 = false ∧ parts.pstate 1 = partLive ∧
    (let s := { set parts [(PCB_STATE, 1, 0, partLapsed)] with time := { parts.time with grid := 5 } }
     s.leaseOut 1 = false ∧ s.pstate 1 = partLapsed ∧ (s.part 1).lapsedAt ≠ s.time.grid) := by decide +kernel

theorem wit_PartitionResets :
    (set parts [(GLB_LINK_CFG, 0, 0, 3)]).hasEndpoint 3 = true ∧ (set parts [(GLB_LINK_CFG, 0, 0, 1)]).hasEndpoint 0 = true ∧ parts.present 1 = true ∧
    (let s := parts.setPart 1 { parts.part 1 with revoker := some 0 }
     (s.part 1).revoker = some 0 ∧ s.sealedOf 1 = []) ∧ parts.pstate 3 = partOff ∧ parts.pstate 1 ≠ partOff ∧
    (set parts [(OWN_OWNER, oriPort 63, 0, 2)]).owner (oriPort 63) = some 1 := by decide +kernel

/-! ### 03 -/

/-- Ring 0 of P0 with 16 entries: two descriptors posted, and room in the completion ring. -/
def ringed : State :=
  let s := set up [(RING_ENABLE, 0, 0, 1), (RING_SIZE_LOG2, 0, 0, 4), (ERING_ENABLE, 0, 3, 1), (ERING_SIZE_LOG2, 0, 3, 4)]
  s.setRing 0 0 { s.ring 0 0 with tail := 2 }

/-- A tail at its largest value, a head at the tail of the completion ring, values at the size, and a disabled ring; pointers
that have moved in the cycle and that have not. -/
theorem wit_Doorbells :
    (let s := ringed.setRing 0 0 { ringed.ring 0 0 with headWas := 1, headMoved := 1 }
     ringed.fldOn RING_ENABLE 0 0 = true ∧ 2 ^ ringed.fld RING_SIZE_LOG2 0 0 = 16 ∧
       ringed.sampled (ringed.fld RING_HEAD 0 0) (ringed.ring 0 0).headWas (ringed.ring 0 0).headMoved = 0 ∧
       ringDist 16 (ringed.ring 0 0).tail 0 ≤ ringDist 16 15 0 ∧
       s.sampled (s.fld RING_HEAD 0 0) (s.ring 0 0).headWas (s.ring 0 0).headMoved = 1 ∧
       s.sampled (s.fld RING_HEAD 0 0) (s.ring 0 0).headWas 0 = 0 ∧
       ringDist 16 (s.ring 0 0).tail 1 ≤ ringDist 16 0 1 ∧ ringDist 16 1 1 < ringDist 16 (s.ring 0 0).tail 1) ∧
    (let t := ringed.sampled (ringed.fld RING_CQ_TAIL 0 0) (ringed.ring 0 0).cqTailWas (ringed.ring 0 0).cqTailMoved
     ringDist 16 0 (ringed.ring 0 0).cqHead ≤ ringDist 16 t (ringed.ring 0 0).cqHead ∧
       ringDist 16 t (ringed.ring 0 0).cqHead < ringDist 16 1 (ringed.ring 0 0).cqHead) ∧
    up.fldOn RING_ENABLE 0 0 = false ∧
    (let t := ringed.sampled (ringed.fld ERING_CQ_TAIL 0 3) (ringed.evtRing 0 3).tailWas (ringed.evtRing 0 3).tailMoved
     ringed.fldOn ERING_ENABLE 0 3 = true ∧ 2 ^ ringed.fld ERING_SIZE_LOG2 0 3 = 16 ∧
       ringDist 16 0 (ringed.evtRing 0 3).head ≤ ringDist 16 t (ringed.evtRing 0 3).head ∧
       ringDist 16 t (ringed.evtRing 0 3).head < ringDist 16 15 (ringed.evtRing 0 3).head) ∧
    up.fldOn ERING_ENABLE 0 3 = false ∧ ((ringed.ring 0 0).tail < ringed.ringSize 0 0 ∧
      ringed.fld RING_HEAD 0 0 < ringed.ringSize 0 0 ∧ Completes (exec (.commandTailDoorbell 0 0 4 15) ringed)) :=
  ⟨by decide +kernel, by decide +kernel, by decide +kernel, by decide +kernel, by decide +kernel, by decide +kernel,
    by decide +kernel, _, rfl⟩

/-- PROBE_LOAD of 4 bytes waits for its buffer. -/
theorem wit_RingsFetch :
    (ringed.leaseOut 0 = false ∧ 0 < ringed.fetchable 0 0) ∧ (up.fetchable 0 0 = 0 ∧ up.leaseOut 0 = false) ∧
    (let s := ringed.setRing 0 0 { ringed.ring 0 0 with fetched := [req 0x50 0 0 [0, 0, 4]] }
     (s.ring 0 0).fetched = [req 0x50 0 0 [0, 0, 4]] ∧ (s.ring 0 0).place = .atRing ∧ (req 0x50 0 0 [0, 0, 4]).needsBuffer = true ∧
       s.safe = false ∧ (req 0x50 0 0 [0, 0, 4]).hostLen = 4) ∧
    up.live 1 = false ∧ up.fldOn RING_ENABLE 0 0 = false ∧ up.posted 0 0 ≤ (up.ring 0 0).fetched.length ∧
    (let s := set ringed [(RING_CQ_TAIL, 0, 0, 15)]
     s.cqFull 0 0 = true) ∧
    (set ringed [(RING_HOST_FAULT, 0, 0, 1)]).fldOn RING_HOST_FAULT 0 0 = true ∧ ringed.fldOn RING_HOST_FAULT 0 0 = false := by
  decide +kernel

/-- A ring of the pass at hand, and one that has been enabled again while a descriptor of the pass before was in process. -/
theorem wit_CompletionRecords : ringed.fld RING_SIZE_LOG2 0 0 ≤ 16 ∧ ringed.fld RING_INT_EN 0 0 = 0 ∧
    (ringed.ring 0 0).draining = false ∧
    ((ringed.setRing 0 0 { ringed.ring 0 0 with draining := true }).ring 0 0).draining = true ∧
    ringed.fldOn RING_ENABLE 0 0 = true ∧ ringed.pstate 0 ≠ partLapsed := by decide +kernel

/-- A request that is ready, one that needs no buffer, an engine with one and an idle one, a waiting interrupt of a ring and of
an event ring, an engine with room behind it and all engines frozen. -/
theorem wit_EnginesTakeRequests :
    (let s := ringed.setRing 0 0 { ringed.ring 0 0 with fetched := [req 0 0 0 []] }
     (s.ring 0 0).fetched = [req 0 0 0 []] ∧ (s.ring 0 0).place = .atRing ∧ (req 0 0 0 []).needsBuffer = false ∧ s.safe = false ∧
       s.host.held = [] ∧ s.frozen 15 = false ∧ (s.engine 15).cur = none ∧ s.engineFor = some (0, true)) ∧
    (let s := set up [(CMDENG_WDOG_US, 15, 0, 10)]
     let s := { s.setEngine 15 { s.engine 15 with cur := some (req 0 0 0 []) } with time := { s.time with grid := 10000 } }
     (s.engine 15).cur = some (req 0 0 0 []) ∧ (s.engine 15).stuck = false ∧ s.fldOn CMDENG_WDOG_US 15 = true ∧
       s.expired (s.engine 15).grantedAt (s.fld CMDENG_WDOG_US 15 * 1000) 1000 = true) ∧
    (let s := set ringed [(RING_INT_EN, 0, 0, 1), (RING_COAL_US, 0, 0, 3), (ERING_INT_EN, 0, 3, 1), (ERING_COAL_US, 0, 3, 3)]
     let s := (s.setRing 0 0 { s.ring 0 0 with unsignalled := 1 }).setEvtRing 0 3 { s.evtRing 0 3 with unsignalled := 1 }
     let s := { s with time := { s.time with grid := 3000 } }
     (s.ring 0 0).unsignalled ≠ 0 ∧ s.fldOn RING_INT_EN 0 0 = true ∧ s.fld RING_COAL_US 0 0 ≠ 0 ∧
       s.expired (s.ring 0 0).oldest (s.fld RING_COAL_US 0 0 * 1000) 1000 = true ∧ (s.evtRing 0 3).unsignalled ≠ 0 ∧
       s.fldOn ERING_INT_EN 0 3 = true ∧ s.fld ERING_COAL_US 0 3 ≠ 0 ∧
       s.expired (s.evtRing 0 3).oldest (s.fld ERING_COAL_US 0 3 * 1000) 1000 = true) ∧
    (let s := (List.range 16).foldl (fun s e => s.setEngine e { s.engine e with cur := some (req 0 0 0 []) }) up
     s.engineFor = some (0, false)) ∧
    (let s := (List.range 16).foldl (fun s e => s.setFld CMDENG_CMD_FREEZE 1 e) up
     s.engineFor = none) := by decide +kernel

/-- Engine 3 has a request of a partition with tickets behind it, engine 9 two of one without; and engines with nothing. -/
theorem wit_EnginesDraw :
    let r : Request := { req 0 0 0 [] with part := 3 }
    let s := set up [(PCB_TICKETS, 0, 0, 255), (PCB_TICKETS, 3, 0, 0)]
    let s := (s.setEngine 3 { s.engine 3 with layby := [req 0 0 0 []] }).setEngine 9 { s.engine 9 with layby := [r, { r with ring := 1 }] }
    let t := s.setEngine 3 { s.engine 3 with layby := [] }
    s.drawPlace 3 = some 3 ∧ s.drawPlace 9 = some 3 ∧ t.drawPlace 15 = some 9 ∧ t.drawPlace 9 = some 9 ∧ up.drawPlace 0 = none ∧
      drawFrom (fun p => s.fld PCB_TICKETS p) (s.engine 9).lfsr.toNat (s.engine 3).layby = some (req 0 0 0 []) ∧
      drawFrom (fun p => t.fld PCB_TICKETS p) (t.engine 15).lfsr.toNat (t.engine 9).layby = some r ∧
      (ringed.ring 0 0).unsignalled = 0 := by decide +kernel

theorem wit_EngineRegisters : ∀ off ∈ [0x18000, 0x18008, 0x1800C, 0x18F00, 0x18F08, 0x18F0C], up.writable 0 off :=
  fun off h => writable_of (by revert off; decide +kernel)

/-! ### Descriptors -/

/-- Whether a descriptor is held by engine 0 and its change descriptor passes its checks (State.ready, Accepted). -/
def acceptable (s : State) (op : Nat) (r : Request) (es : List Entry) (lenBad : Bool) : Bool :=
  decide (s.holding 0 op = some r ∧ s.isActive = true) && (s.entryChecks r es lenBad).isNone &&
  match s.plan r.part (fun k => r.group != 0 && k.kind == .group && k.part == r.part && k.group == r.group)
    (s.checkedOn r (changesOf es)) (changesOf es) with
  | .ok p => (s.formBar r (p.count es)).isNone &&
      (if r.group = 0 ∧ r.bank = false
        then s.admission (s.cfgSteps s.cfg p.changes) (s.cfgSteps (s.limitCfg s.now) p.changes)
        else s.admitStaged (s.checkedOn r (changesOf es)) p.view).isNone &&
      (p.changes.findSome? (fun c => gfxBar s p.view c <|> gfxBar s (s.withBank r.part p.view) c)).isNone &&
      (s.reserveAll p.changes).isSome &&
      (if r.group = 0 ∧ r.bank = false then s.stackAdmission (s.cfgSteps s.cfg p.changes)
        else s.stackStaged (s.checkedOn r (changesOf es)) p.view).isNone
  | .error _ => false

theorem accepted_of {s : State} {op : Nat} {r : Request} {es : List Entry} {lenBad : Bool}
    (h : acceptable s op r es lenBad = true) : s.ready 0 op r ∧ ∃ p s', Accepted s r es lenBad p s' := by
  unfold acceptable at h
  split at h
  · rename_i p hp
    simp only [Bool.and_eq_true, decide_eq_true_eq, Option.isNone_iff_eq_none, Option.isSome_iff_exists] at h
    obtain ⟨⟨⟨h1, h2⟩, h3⟩, ⟨⟨⟨h4, h5⟩, h6⟩, ⟨s', h7⟩⟩, h8⟩ := h
    exact ⟨⟨h1, .inl h2⟩, p, s', h3, hp, h4, h5, h6, h7, h8⟩
  · simp at h

/-- Engine 0 holds a descriptor. -/
def hold (s : State) (r : Request) : State := s.setEngine 0 { s.engine 0 with cur := some r }

def zeros (n : Nat) : List Byte := List.replicate n 0

def words (l : List Nat) : List Byte := l.flatMap (fun w => [BitVec.ofNat 8 w, BitVec.ofNat 8 (w / 256), BitVec.ofNat 8 (w / 65536), BitVec.ofNat 8 (w / 16777216)])

/-- One request for each change descriptor, with its state and entries. -/
def changeRequests : List (State × Nat × Request × List Entry × Bool) :=
  let bulk : (Nat → Nat → Entry) → Request → List Entry := fun f r => entriesOf f (leWords r.buf)
  let route := req 0x10 0 0 [0, 0, 0, 2047 * 65536, 1]
  let routes := req 0x11 0 0 [0, 0, 8] (words [1023 + 2047 * 65536, 0])
  let map := req 0x12 0 0 [0, 0, 8] (zeros 8)
  let gain := req 0x13 0 0 [0, 0, 8] (zeros 8)
  let layer := req 0x14 0 0 [0, 0, 0, 2047 * 65536]
  let comp := req 0x15 0 0 [0, 0, 0, 95]
  let fresh := req 0x16 0 0 [0, 0, 0, 1, 1023, 0]
  let alloc := req 0x22 0 1 [0, 0, 0, 1023, 0]
  let ins := req 0x33 0 0 [0, 0, 0, 1023]
  let add := req 0x40 0 0 [0, 0, 64, 262143] (words [1 + 5 * 16, 1, 0, 0, 0, 0, 0, 1, 0, 0, 0, 0, 0, 0, 0, 0])
  let del := req 0x41 0 0 [0, 0, 0, 7]
  let ctl := fun act : Nat => req 0x51 0 0 [0, 0, 0, 31, act, 0]
  let s := set up [(DST_ENABLE, 0, 0, 1), (DST_ENABLE, 1023, 0, 1), (MPORT_ENABLE, 0, 0, 1), (SRC_KIND, 1, 0, 3),
    (SRC_KIND, 1023, 0, 1)]
  let ctx := leWords add.buf
  let added : Entry := { field := s.flowFieldBad ctx, index := flowIndexBad ctx, change := some (.flowAdd 262143 ctx) }
  [(s, 0x10, route, [routeEntry (route.word 5) (route.word 6)], false), (s, 0x11, routes, bulk routeEntry routes, false),
   (s, 0x12, map, bulk mapEntry map, false), (s, 0x13, gain, bulk gainEntry gain, false), (s, 0x14, layer, [layer.layerEntry 0], false),
   (s, 0x15, comp, [comp.compEntry], false), (s, 0x16, fresh, [fresh.freshEntry], false), (s, 0x22, alloc, [alloc.allocEntry], false),
   (s, 0x33, ins, [s.insertEntry ins], false),
   (s, 0x40, add, [added], false), (s, 0x41, del, [{ change := some (.flowDel 7 []) }], false)] ++
  [1, 2, 3, 4].map (fun a => (s, 0x51, ctl a, [(ctl a).probeEntry], false))

/-- Requests held by engine 0 pass; the probe core is idle; and the ways to hold a change: a new group, an open one, a bank. -/
theorem wit_ChangeDescriptors :
    (∀ x ∈ changeRequests, (hold x.1 x.2.2.1).ready 0 x.2.1 x.2.2.1 ∧
      ∃ p s', Accepted (hold x.1 x.2.2.1) x.2.2.1 x.2.2.2.1 x.2.2.2.2 p s') ∧
    (up.coreGated 31 = false ∧ up.fld PROBE_STATE 31 = coreStopped ∧
      ∀ a ∈ [1, 2, 3, 4], (req 0x51 0 0 [0, 0, 0, 31, a, 0]).probeAction = a) ∧
    (up.findGroup 0 65535 = none ∧ (up.setTakes [{ kind := .group, part := 0, group := 1 }]).findGroup 0 1 =
      some { kind := .group, part := 0, group := 1 } ∧ (req 0x10 2 0 []).bank = true ∧ (req 0x10 2 0 []).group = 0 ∧
      (req 0x10 4 0 []).checkOnly = true) := by
  refine ⟨fun x h => accepted_of ?_, by decide +kernel, by decide +kernel⟩
  have t : changeRequests.all (fun x => acceptable (hold x.1 x.2.2.1) x.2.1 x.2.2.1 x.2.2.2.1 x.2.2.2.2) = true := by decide +kernel
  exact List.all_eq_true.mp t x h

/-- A ROUTE to a source that does not exist, alone and as a member; a header with a reserved flag; a length that is no
multiple of 4; and a descriptor of each kind, held. -/
theorem wit_OtherDescriptors :
    (let r := req 0x10 0 0 [0, 0, 0, 1120 * 65536]
     (hold up r).holding 0 0x10 = some r ∧ ((hold up r).entryChecks r [routeEntry (r.word 5) (r.word 6)] false).isSome = true) ∧
    (let r := req 0x10 0 5 [0, 0, 0, 2046 * 65536]
     let k : Take := { kind := .group, part := 0, group := 5 }
     let s := (hold up r).setTakes [k]
     r.group ≠ 0 ∧ r.checkOnly = false ∧ s.findGroup 0 5 = some k ∧ k.state = .opened ∧ s.isActive = true ∧ s.holding 0 0x10 = some r ∧
       (s.entryChecks r [routeEntry (r.word 5) (r.word 6)] false).isSome = true) ∧
    (req 0x10 128 0 []).headerBad.isSome = true ∧
    ((req 0x10 0 0 [0, 0, 4]).headerBad = none ∧ (req 0x10 0 0 [0, 0, 4]).lengthBad = true) ∧
    (∀ op ∈ [0x00, 0x60, 0x61, 0x01], let r := req op 0 0 []
      (hold up r).holding 0 op = some r ∧ up.isActive = true ∧ (hold up r).entryChecks r [] false = none) ∧
    (((hold up (req 0xFF 0 0 [])).engine 0).cur = some (req 0xFF 0 0 []) ∧ opcodeListed (req 0xFF 0 0 []).opcode = false ∧
      opcodeListed 0x02 = false) ∧
    (let s := set up [(TM_STEP_PENDING, 0, 0, 1), (TM_JUMP_NS, 0, 0, 10)]
     (req 0x61 0 0 []).part = 0 ∧ s.fldOn TM_STEP_PENDING = true ∧
       (signed 64 ((req 0x61 0 0 [0, 0, 0, 0, 10]).word64At 6) - s.pendingStep).natAbs ≤ s.fld TM_JUMP_NS) ∧
    (let r := req 0x01 0 0 [0, 0, 0, 0, 2, 0, 0]
     let q := req 0x01 0 0 [0, 0, 0, 0, 2, 0, 1]
     let s := (set ringed [(RING_ENABLE, 0, 1, 1), (RING_SIZE_LOG2, 0, 1, 4)]).setRing 0 1 { tail := 1 }
     ringed.fenceMet 0 0 (ringed.fenceOf (req 0x01 0 0 [])) = true ∧ s.fenceMet 0 0 (s.fenceOf r) = false ∧ (s.fenceOf r).limitUs = 0 ∧
       (s.fenceOf q).limitUs ≠ 0) ∧
    (let w : FenceWait := { rings := [], takes := [], since := 0, limitUs := 1 }
     let s := up.setRing 7 63 { place := .parked, fence := some w, fetched := [req 1 0 0 []] }
     let t : State := { s with time := { s.time with grid := 1000 } }
     s.parkedFence 7 63 = some (req 1 0 0 [], w) ∧ s.fenceMet 7 63 w = true ∧ s.fenceOver w = false ∧
       t.parkedFence 7 63 = some (req 1 0 0 [], w) ∧ t.fenceOver w = true) ∧
    (upStandby.isActive = false ∧ (hold upStandby (req 0x10 0 0 [])).holding 0 0x10 = some (req 0x10 0 0 [])) := by decide +kernel

/-- An open group with a change, a scheduled one, a partition with a marked bank, a waiting flip; deadlines on both sides. -/
theorem wit_CommitsAndFlips :
    (let r := req 0x20 0 5 []
     let k : Take := { kind := .group, part := 0, group := 5, count := 1 }
     let s := (hold up r).setTakes [k]
     let t := s.milepostOf (r.word64At 6)
     s.holding 0 0x20 = some r ∧ s.isActive = true ∧ r.group ≠ 0 ∧ s.findGroup 0 5 = some k ∧ s.entryChecks r [{}] false = none ∧
       r.checkOnly = false ∧ s.milepostFar r = false ∧ r.aborts = false ∧ s.milepostLate (r.word64At 6) = false ∧ k.state = .opened ∧
       k.count ≠ 0 ∧ s.takeAdmission k t = none) ∧
    (let r := req 0x20 0 5 []
     let k : Take := { kind := .group, part := 0, group := 5, count := 1, todo := [.layer 0 0 { kind := 1, src := 0, charge := 8 }] }
     let other : Take := { kind := .group, part := 1, group := 1, state := .scheduled, t := 9, held := [(chLayer 95 7, 16380)] }
     let s := (hold up r).setTakes [k, other]
     s.findGroup 0 5 = some k ∧ k.state = .opened ∧ k.count ≠ 0 ∧ s.entryChecks r [{}] false = none ∧
       (s.takeAdmission k (s.milepostOf (r.word64At 6))).isSome = true) ∧
    (let r := req 0x20 0 5 []
     let k : Take := { kind := .group, part := 0, group := 5, count := 1, state := .failed }
     let s := (hold up r).setTakes [k]
     s.findGroup 0 5 = some k ∧ k.state = .failed ∧ r.aborts = false ∧ s.entryChecks r [{}] false = none) ∧
    (let r := req 0x20 0 5 [0, 0, 0, 1]
     let k : Take := { kind := .group, part := 0, group := 5, state := .scheduled, t := 2000001 }
     let s := (hold up r).setTakes [k]
     s.holding 0 0x20 = some r ∧ s.findGroup 0 5 = some k ∧ s.entryChecks r [{}] false = none ∧ r.aborts = true ∧
       s.milepostFar r = false ∧ s.unsealed k = true) ∧
    (let r := req 0x21 0 0 []
     let s := hold (set up [(TK_BANK_CHANGES, 0, 0, 1), (PCB_LEASE_MS, 0, 0, 10)]) r
     let flip : Take := { kind := .flip, part := 0, count := 1 }
     let t := s.milepostOf (r.word64At 6)
     s.holding 0 0x21 = some r ∧ s.hasLease 0 = true ∧ s.entryChecks r [{}] false = none ∧ s.milepostFar r = false ∧ r.aborts = false ∧
       s.flipOf 0 = none ∧ s.milepostLate (r.word64At 6) = false ∧ s.fld TK_BANK_CHANGES 0 = 1 ∧ s.takeAdmission flip t = none) ∧
    (let r := req 0x21 0 0 [0, 0, 0, 1]
     let k : Take := { kind := .flip, part := 0, state := .scheduled, t := 2000001 }
     let s := (hold (set up [(PCB_LEASE_MS, 0, 0, 10)]) r).setTakes [k]
     s.holding 0 0x21 = some r ∧ s.hasLease 0 = true ∧ s.entryChecks r [{}] false = none ∧ r.aborts = true ∧ s.flipOf 0 = some k ∧
       s.milepostFar r = false ∧ s.unsealed k = true) ∧
    (up.milepostLate 2000000 = true ∧ up.milepostLate 2000001 = false ∧ up.milepostLate 0 = false) := by decide +kernel

/-- A picture of one pixel in the last handle, with a pool that has room and one that has not; a handle that is in use; no picture;
a core's memories, at their last words; a HANDOVER on an active device. -/
theorem wit_LoadsAndHandover :
    (let r := req 0x30 0 0 [0, 0, 4, 4095, 1 + 65536] (zeros 4)
     let s := hold (set up [(PCB_LEASE_MS, 0, 0, 10), (MC_QP_FREE, 0, 0, 1), (MC_QP_FREE, 1, 0, 1), (MC_QP_FREE, 2, 0, 1), (MC_QP_FREE, 3, 0, 1)]) r
     let t := set s [(MC_QP_FREE, 3, 0, 0)]
     let u := set s [(DST_LUT_OUT, 1023, 0, 4095), (OWN_OWNER, oriDst 1023, 0, 1)]
     s.holding 0 0x30 = some r ∧ s.isActive = true ∧ bitField (r.word 5) 0 12 = 4095 ∧ bitField (r.word 6) 0 16 = 1 ∧
       bitField (r.word 6) 16 16 = 1 ∧ s.entryChecks r [{}] (r.hostLen != 1 * 1 * 4) = none ∧ s.hasLease 0 = true ∧
       s.graphicUsed 0 4095 = false ∧ (s.returnPages (Tab.get [] s.store.gfxPages 4095)).poolHas 0 (graphicPages 1 1) = true ∧
       t.entryChecks r [{}] (r.hostLen != 1 * 1 * 4) = none ∧ t.graphicUsed 0 4095 = false ∧
       (t.returnPages (Tab.get [] t.store.gfxPages 4095)).poolHas 0 (graphicPages 1 1) = false ∧
       u.entryChecks r [{}] (r.hostLen != 1 * 1 * 4) = none ∧ u.graphicUsed 0 4095 = true) ∧
    (let r := req 0x30 0 0 [0, 0, 0, 4095, 0]
     let s := hold (set up [(PCB_LEASE_MS, 0, 0, 10)]) r
     s.holding 0 0x30 = some r ∧ bitField (r.word 6) 0 16 = 0 ∧ bitField (r.word 6) 16 16 = 0 ∧
       s.entryChecks r [{}] (r.hostLen != 0 * 0 * 4) = none ∧ s.graphicUsed 0 4095 = false) ∧
    (∀ x ∈ [(1, 65532), (2, 131068)],
      let r := req 0x50 0 0 [0, 0, 4, 31 + 256 * x.1, x.2] (zeros 4)
      let s := hold up r
      s.holding 0 0x50 = some r ∧ s.isActive = true ∧ r.word 6 % 4 = 0 ∧ s.mayChange 0 (oriProbe 31) = true ∧
        s.fld PROBE_STATE 31 = coreStopped ∧ s.coreGated 31 = false ∧ bitField (r.word 5) 8 2 = x.1 ∧
        s.entryChecks r [{}] (decide (x.2 + 4 < r.word 6 + r.hostLen)) = none) ∧
    (let r := req 0x70 0 0 []
     let s := hold (set upActive [(CWAY_PEER_READY, 0, 0, 1), (CWAY_PEER_STATE, 0, 0, Role.STANDBY)]) r
     s.holding 0 0x70 = some r ∧ s.isActive = true ∧ s.entryChecks r [] false = none ∧ r.part = 0 ∧ s.role ≠ Role.SOLO ∧
       s.fldOn CWAY_PEER_READY = true ∧ s.fld CWAY_PEER_STATE = Role.STANDBY ∧ s.milepostLate (r.word64At 6) = false) := by
  decide +kernel

/-- The last source with a slot ring; a finished capture and one that wrote; a queue that is empty, one with one packet, and one
whose packet is longer than the buffer; statistics records; a LAPSED partition. -/
theorem wit_ReadsToHostMemory :
    (∀ count ∈ [0, 1],
      let r := req 0x31 0 0 [0, 0, 0, 1119, count]
      let s := hold up r
      let s := { s with take := { s.take with cfg := { s.cfg with rings := Tab.set {} s.cfg.rings 1119 { depth := 2, ladder := 1, store := 0 } } } }
      s.holding 0 0x31 = some r ∧ bitField (r.word 5) 0 11 = 1119 ∧ bitField (r.word 5) 16 3 = 0 ∧ bitAt (s.cfg.ring 1119).ladder 0 = true ∧
        s.entryChecks r [{}] (decide (r.hostLen < count * s.thumbBytes 1119 0)) = none ∧ s.mayRead 0 1119 = true ∧
        bitField (r.word 6) 0 8 = count) ∧
    (∀ n ∈ [0, 8],
      let w : ThumbWait := { src := 0, level := 0, left := 0, addr := 0, firstSeq := 0, bytes := n, lastSeq := 0 }
      let s := up.setRing 7 63 { place := .parked, thumb := some w, fetched := [req 0x31 0 0 []] }
      (s.ring 7 63).place = .parked ∧ (s.ring 7 63).thumb = some w ∧ (s.ring 7 63).fetched = [req 0x31 0 0 []]) ∧
    (∀ x ∈ [(0, 0, some [[]]), (4, 0, some [[2 ^ 24]]), (4, 7, some [[2 ^ 24]])],
      let r := req 0x32 0 0 [0, 0, x.1, 255, x.2.1]
      let s := hold (set up [(ANCQ_SIZE, 255, 0, 1), (ANCQ_WR_PTR, 255, 0, 1), (ANCQ_CONSUMER, 255, 0, 1)]) r
      let s := { s with anc := { s.anc with mem := [(0, 2 ^ 32)] } }
      s.holding 0 0x32 = some r ∧ bitField (r.word 5) 0 8 = 255 ∧ s.entryChecks r [] false = none ∧ s.mayChange 0 (oriQueue 255) = true ∧
        s.fld ANCQ_CONSUMER 255 = 1 ∧ s.fldOn ANCQ_MARK_LOST 255 = false ∧
        (s.drainQueue r 255).map (fun y => y.2.flatten) = x.2.2.map List.flatten) ∧
    (let r := req 0x32 0 0 [0, 0, 4, 255]
     let s := hold (set up [(ANCQ_SIZE, 255, 0, 2), (ANCQ_WR_PTR, 255, 0, 2), (ANCQ_CONSUMER, 255, 0, 1)]) r
     let s := { s with anc := { s.anc with mem := [(0, 2 ^ 24), (1, 2 ^ 32)] } }
     s.entryChecks r [] false = none ∧ (s.drainQueue r 255).isNone = true) ∧
    (∀ count ∈ [0, 1],
      let r := req 0x34 0 0 [0, 0, 32, 4, 262143, count]
      let s := hold up r
      s.holding 0 0x34 = some r ∧ 1 ≤ bitField (r.word 5) 0 4 ∧ bitField (r.word 5) 0 4 ≤ 8 ∧ 262143 + count ≤ statsCount 4 ∧
        (s.statsRecord 4 262143).isEmpty = false ∧ s.entryChecks r [{}] (decide (r.hostLen < count * statsBytes 4)) = none) ∧
    (up.pstate 0 ≠ partLapsed ∧ (set up [(PCB_STATE, 0, 0, partLapsed)]).pstate 0 = partLapsed) := by
  decide +kernel

/-! ### 04 -/

/-- A reference at each end of its times, one that comes back while it is selected and one that is off; a loss of each kind, seen
and not; the limits of the loop; the audio plane's sources; and writes of P0. -/
theorem wit_TimingEvents :
    (let s := set up [(REF_PRIO, 10, 0, 1)]
     let w := (set up [(REF_PRIO, 9, 0, 1)]).setFld APLANE_WCLK_PRESENT 1
     s.refOn 10 = true ∧ s.fld REF_RSTATE 10 = 0 ∧ s.selRef = 0 ∧ s.conductorHalted = false ∧ w.refOn 9 = true ∧
       w.fld REF_RSTATE 9 = 0 ∧ (up.setFld REF_PRIO 0 10).refOn 10 = false) ∧
    (let s := ((set up [(REF_PRIO, 9, 0, 1), (TM_SEL_REF, 0, 0, 9)]).setRefRun 9 { lostAt := some 0 }).setFld APLANE_WCLK_PRESENT 1
     s.refOn 9 = true ∧ s.fld REF_RSTATE 9 = 0 ∧ s.selRef = 9 ∧ (s.refRun 9).lostAt = some 0 ∧ (s.refRun 9).noHold = false ∧
       (later s 1000000).expired 0 (max 1 (s.fld TM_HOLDOFF_MS * 1000000)) 1000000 = decide (s.fld TM_HOLDOFF_MS ≤ 1) ∧
       (later s (s.fld TM_HOLDOFF_MS * 1000000 + 1000000)).expired 0 (max 1 (s.fld TM_HOLDOFF_MS * 1000000)) 1000000 = true ∧
       (later s 1000000).expired 0 1 1000000 = true ∧ s.expired 0 1 1000000 = false) ∧
    (let s := set up [(REF_RSTATE, 1, 0, 1)]
     s.fld REF_RSTATE 1 = 1 ∧ (s.refRun 1).validFrom + 2000000000 ≤ (later s 2000000000).time.grid ∧
       (later s 1999999999).time.grid < (s.refRun 1).validFrom + 2000000000) ∧
    (let s := set up [(REF_MODE, 3, 0, 2), (REF_MODE, 6, 0, 3), (REF_RSTATE, 10, 0, 2), (REF_RSTATE, 9, 0, 0)]
     s.lossSeen 1 (.noAnnounce 3000000000 0) = true ∧ s.lossSeen 2 (.noAnnounce 5999999999 1) = false ∧
       s.lossSeen 10 .linkDown = true ∧ s.fld REF_RSTATE 10 ≠ 0 ∧ s.lossSeen 9 (.noEdge 1000) = true ∧ s.fld REF_RSTATE 9 = 0 ∧
       s.lossSeen 9 (.noEdge 999) = false ∧ s.lossSeen 3 (.noEdge 1010000000) = true ∧ s.lossSeen 3 (.noEdge 1009999999) = false ∧
       s.lossSeen 6 (.noEdge 1000) = true ∧ s.lossSeen 10 (.noTime 9999999) = false) ∧
    (let m : TimeMeasure := { refs := [], utcOffset := none }
     let at' : State → State := fun s =>
       ({ s with time := { s.time with lastTick := s.time.grid / 1000000 } }).takeMeasures m
     up.time.grid / 1000000 ≤ up.time.lastTick ∧ (later up 1000000).time.lastTick < (later up 1000000).time.grid / 1000000 ∧
       (at' (later (set up [(TM_SEL_REF, 0, 0, 9)]) 1000000)).selRef ≠ 0 ∧ (at' (later up 1000000)).selRef = 0 ∧
       (at' (later up 1000000)).bestRef (fun _ => true) = none ∧
     (let s := at' (later (set up [(REF_RSTATE, 9, 0, 2), (REF_PRIO, 9, 0, 1)]) 1000000)
      s.selRef = 0 ∧ s.bestRef (fun _ => true) = some 9)) ∧
    (let s := (set up [(TM_REVERTIVE, 0, 0, 1), (TM_SEL_REF, 0, 0, 9), (REF_RSTATE, 1, 0, 2), (REF_PRIO, 1, 0, 1)]).setRefRun 1
       { aboveFrom := some 0 }
     let s := later s (s.fld TM_WTR_S * 1000000000 + 1000000)
     s.fldOn TM_REVERTIVE = true ∧ s.selRef ≠ 0 ∧ s.bestRef s.wtrPassed = some 1 ∧ up.bestRef up.wtrPassed = none) ∧
    (let s := later (set up [(TM_STATE, 0, 0, Tm.ACQUIRING)]) 5000000000
     let s := { s with time := { s.time with goodFrom := some 0 } }
     s.time.goodFrom = some 0 ∧ s.fld TM_STATE = Tm.ACQUIRING ∧ 0 + 5000000000 ≤ s.time.grid) ∧
    (let s := later (set up [(TM_STATE, 0, 0, Tm.LOCKED)]) 1000000000
     let s := { s with time := { s.time with badFrom := some 0 } }
     s.time.badFrom = some 0 ∧ s.fld TM_STATE = Tm.LOCKED ∧ 0 + 1000000000 ≤ s.time.grid) ∧
    (let s := set up [(TM_HOLDOVER, 0, 0, 1), (TM_OOS, 0, 0, 0)]
     let s := later s (s.fld TM_OOS_S * 1000000000 + 1000000)
     s.fldOn TM_HOLDOVER = true ∧ s.fldOn TM_OOS = false ∧
       s.expired s.time.holdoverFrom (s.fld TM_OOS_S * 1000000000) 1000000 = true ∧ (set s [(TM_OOS, 0, 0, 1)]).fldOn TM_OOS = true) ∧
    (∀ v ∈ [0, 1, 2, 3], let s := set up [(APLANE_SRC, 0, 0, v)]; s.fld APLANE_SRC = v ∧ s.fldOn APLANE_A_HOLDOVER = false) ∧
    (∀ off ∈ [0x30100 + 0x20 * 1, 0x30100 + 0x20 * 10, 0x30038, 0x30404, 0x30404 + 0x40 * 7], canWrite up 0 off = true) ∧
    (let s := set up [(REF_PRIO, 10, 0, 1), (TM_SEL_REF, 0, 0, 9), (REF_MODE, 6, 0, 1), (REF_RSTATE, 10, 0, 1), (REF_RSTATE, 1, 0, 1)]
     s.refOn 10 = true ∧ s.fld REF_PRIO 10 ≠ 0 ∧ s.refOn 1 = false ∧ s.fld REF_RSTATE 1 ≠ 0 ∧ s.selRef = 9) :=
  ⟨by decide +kernel, by decide +kernel, by decide +kernel, by decide +kernel, by decide +kernel, by decide +kernel, by decide +kernel, by decide +kernel, by decide +kernel, by decide +kernel, by decide +kernel, by decide +kernel⟩

/-- Device time not set, and set; a host's time within the bound and above it; a selected reference of each kind. -/
theorem wit_StepsOfDeviceTime :
    (up.writable 0 0x30038 ∧ up.selRef = 0 ∧ up.fld TM_SET = 0 ∧ up.pair TM_SET_LO TM_SET_HI < 2 ^ 64) ∧
    (let s := set up [(TM_SET, 0, 0, 1), (TM_SEL_REF, 0, 0, 9), (TM_SET_LO, 0, 0, 10), (TM_JUMP_NS, 0, 0, 10), (TM_SLEW_PPB, 0, 0, 1)]
     s.selRef ≠ 0 ∧ timeBearing s.selRef = false ∧ timeBearing 1 = true ∧ s.fldOn TM_SET = true ∧ s.fld TM_SLEW_PPB ≠ 0 ∧
       ((s.pair TM_SET_LO TM_SET_HI : Int) - s.now).natAbs = 10 ∧ s.fld TM_JUMP_NS = 10 ∧ (s.setFld TM_JUMP_NS 9).fld TM_JUMP_NS < 10) ∧
    ((-(2 ^ 63) : Int) ≤ -(2 ^ 63) ∧ (-(2 ^ 63) : Int) < 2 ^ 63) ∧ (up.pending = [] ∧ Completes (step up)) :=
  ⟨⟨writable_of (by decide +kernel), by decide +kernel⟩, by decide +kernel, by decide, rfl, _, rfl⟩

/-- The first rate and the last; an offset of 0 and the largest; a plane that is used and one that is not. -/
theorem wit_LimitsAndPlanes : 0 < 1000 ∧ (1 ≤ 1 ∧ 8 ≤ 8) ∧ (4294967295 : Nat) < 2 ^ 32 ∧ up.planeUsers 7 = 0 ∧
    (set up [(DST_ENABLE, 1023, 0, 1), (DST_PLANE, 1023, 0, 0), (PLANE_RATE, 0, 0, 3)]).planeUsers 0 ≠ 0 := by decide +kernel

/-! ### 05 to 07, 09 -/

/-- A flip that has applied; a bank of P1; one take on each side of its deadlines; members that are copied and that are not. -/
theorem wit_TakeTimeline :
    (let k : Take := { kind := .flip, part := 7, state := .decided, reached := true }
     (up.setTakes [k]).flipOf 7 = some k ∧ k.ended = true ∧ up.isActive = true ∧ upStandby.isActive = false ∧
       k.copiedBy ≤ up.time.grid) ∧
    (canWrite parts 0 (pcbOff 7 + 0xA04) = true ∧ canWrite parts 1 (pcbOff 1 + 0xA04) = true ∧ parts.flipOf 1 = none) ∧
    (∀ x ∈ [(TakeState.scheduled, 2000000), (TakeState.scheduled, 2000001), (.sealed, 1000001), (.decided, 1)],
      ∀ kind ∈ [TakeKind.group, .flip],
      let k : Take := { kind := kind, part := 0, group := 1, state := x.1, t := x.2 }
      (up.setTakes [k]).take.takes = [k] ∧ up.follows = false ∧ up.isActive = true ∧ up.cway.handovers = [] ∧
        (up.setTakes [k]).takeBarred k = none ∧ up.now < k.t) := by decide +kernel

/-- A frame that is due, in and out of the safe state; the first line of a frame and the one after it; a slot that has ended; a
receiver's source. -/
theorem wit_FrameEvents :
    (up.planeFrame 7).safe = false ∧ (upSafe.planeFrame 0).safe = true ∧
    (let s := (set up [(PLANE_RATE, 0, 0, 3), (PLANE_LINES, 0, 0, 1)]).setPlaneRun 0 { frame := 1, lastK := 1 }
     let r := s.planeRun 0
     let j := s.lineAt 0 (r.frame - 1) r.start s.nowInt
     s.safe = false ∧ r.frame ≠ 0 ∧ linesOf (s.fld PLANE_LINES 0) ≠ 0 ∧ r.start ≤ s.nowInt ∧ r.lastLine ≤ j ∧
       s.nowInt < (s.setPlaneRun 0 { r with start := 1 }).nowInt + 1 ∧ j < ({ r with lastLine := j + 1 } : PlaneRun).lastLine ∧
       (up.planeRun 7).frame = 0) ∧
    (upSafe.lineTokens.safe = true ∧ up.lineTokens.safe = false) ∧
    (∀ n ∈ [1023, 1119],
      let s := up.setSrc n { rings := [{ id := 1, shape := {}, slots := [(0, { state := 1, seq := 9, ended := true })] }] }
      (s.writing n false).filter (fun x => match s.slotAt x with | some y => y.ended | none => false) =
        [{ src := n, ring := 1, seq := 9 }] ∧ s.cmpRun (n - 1024) = {} ∧
      (up.writing n false).filter (fun x => match s.slotAt x with | some y => y.ended | none => false) = []) ∧
    (set up [(SRC_KIND, 1023, 0, 2)]).srcKind 1023 = 2 ∧ up.srcKind 0 ≠ 2 := by decide +kernel

/-- Words of the device structures, of a slot, and of neither; a stack that is scrubbed; quarter-pages at both ends of a stack. -/
theorem wit_MemoryErrors : (set up [(MC_SCRUB_MIN, 3, 0, 10)]).fld MC_SCRUB_MIN 3 ≠ 0 ∧ (set up [(MC_SCRUB_MIN, 3, 0, 0)]).fld MC_SCRUB_MIN 3 = 0 ∧
    (let s : State := { up with store := { up.store with retiredQp := [(3, 16383)] } }
     s.store.retiredQp.contains (3, 16383) = true ∧ s.store.retiredQp.contains (3, 0) = false) ∧
    ((BitVec.ofNat 35 (524288 * 256 - 8)).toNat / 524288 < poolFrom ∧ poolFrom ≤ (BitVec.ofNat 35 (524288 * 256)).toNat / 524288) ∧
    (let s := up.setSrc 7 { rings := [{ id := 1, shape := { depth := 1 }, pages := [[{ parts := [(0, [256]), (1, [256]), (2, [256]), (3, [256])] }]]
                                        slots := [(0, { state := 2, seq := 9 })] }] }
     (s.slotByte 3 (524288 * 256)).isSome = true ∧ (s.slotByte 3 (524288 * 257)).isNone = true) ∧
    ((set up [(MC_TEMP_HI, 0, 0, 1)]).fldOn MC_TEMP_HI 0 = true ∧ up.fldOn MC_TEMP_HI 3 = false) := by decide +kernel

theorem wit_ScalerArithmetic : 63 < 64 ∧ (let p : Plane := { w := 3, h := 1, data := [1, 2, 3] }
    1 < (p.w + 1) / 2 ∧ 0 < p.h ∧ (decimatePlane p).px 1 0 = 3) := by decide +kernel

/-! ### 08, 10 to 12 -/

/-- The registers written, at the first and last instance; a lane that is off and one that is on; taps of 63 and 64; a
destination that can be enabled, one that cannot, one that a route names, and one that is still stopping; host-path pointers on
each side of their limits. -/
theorem wit_MediaRegisters :
    (∀ off ∈ [0x600000, 0x6FFC00, 0x1C0000, 0x1FF000, 0x1C004C, 0x1FF05C, 0x1C0048, 0x1FF058, 0x100000, 0x100000 + 0x200 * 583,
      0x100004 + 0x200 * 256, 0x100084], canWrite up 0 off = true) ∧ isTxLane 256 = true ∧
    ((set up [(LANE_PWR, 511, 0, 0)]).fldOn LANE_PWR 511 = false ∧ up.gated (12 + 511 % 256 / 4) = false ∧ up.fldOn LANE_PWR 583 = true) ∧
    (bitField 0x003F0100 8 4 + bitField 0x003F0100 16 6 + bitField 0x003F0100 24 5 = 64 ∧
      bitField 0x003F0000 8 4 + bitField 0x003F0000 16 6 + bitField 0x003F0000 24 5 = 63) ∧
    (up.fldOn DST_ENABLE 1023 = false ∧ up.dstError 1023 ≠ 0 ∧ (up.dstRun 1023).stopping = false ∧
      (up.cfg.dst 1023).vsrc = 2047 ∧ (up.cfg.dst 1023).asrc = 2047 ∧ (up.cfg.dst 1023).nsrc = 2047 ∧ up.dstStaged 1023 = false ∧
      (set up [(DST_ENABLE, 0, 0, 1)]).fldOn DST_ENABLE 0 = true ∧
      (set up [(PLANE_RATE, 0, 0, 3), (DST_RASTER, 0, 0, 4), (DST_RATE, 0, 0, 3), (DST_BITS, 0, 0, 1)]).dstError 0 = 0 ∧
      ({ up with take := { up.take with cfg := { up.cfg with dsts := [(5, { vsrc := 2046 })] } } } : State).cfg.dst 5 = { vsrc := 2046 } ∧
      ((up.setDstRun 1023 { up.dstRun 1023 with stopping := true }).dstRun 1023).stopping = true) ∧
    (let s := set up [(MPORT_HP_RX_EN, 63, 0, 1), (MPORT_HP_RX_LOG2, 63, 0, 4), (MPORT_HP_RX_TAIL, 63, 0, 5)]
     s.fldOn MPORT_HP_RX_EN 63 = true ∧ 5 < 2 ^ s.fld MPORT_HP_RX_LOG2 63 ∧ 2 ^ s.fld MPORT_HP_RX_LOG2 63 ≤ 16 ∧
       ringDist 16 5 (s.fld MPORT_HP_RX_HEAD 63) ≤ ringDist 16 (s.fld MPORT_HP_RX_TAIL 63) (s.fld MPORT_HP_RX_HEAD 63) ∧
       ringDist 16 (s.fld MPORT_HP_RX_TAIL 63) (s.fld MPORT_HP_RX_HEAD 63) < ringDist 16 6 (s.fld MPORT_HP_RX_HEAD 63)) ∧
    (let s := set up [(MPORT_HP_TX_EN, 63, 0, 1), (MPORT_HP_TX_LOG2, 63, 0, 4), (MPORT_HP_TX_TAIL, 63, 0, 5)]
     s.fldOn MPORT_HP_TX_EN 63 = true ∧ 15 < 2 ^ s.fld MPORT_HP_TX_LOG2 63 ∧ 2 ^ s.fld MPORT_HP_TX_LOG2 63 ≤ 16 ∧
       ringDist 16 (s.fld MPORT_HP_TX_TAIL 63) (s.fld MPORT_HP_TX_HEAD 63) ≤ ringDist 16 5 (s.fld MPORT_HP_TX_HEAD 63) ∧
       ringDist 16 4 (s.fld MPORT_HP_TX_HEAD 63) < ringDist 16 (s.fld MPORT_HP_TX_TAIL 63) (s.fld MPORT_HP_TX_HEAD 63)) ∧
    up.fldOn MPORT_HP_RX_EN 0 = false ∧ up.fldOn MPORT_HP_TX_EN 0 = false := by decide +kernel

/-- One member of a frame, with its link number and nothing of its picture missing. -/
def member (link : Nat) : SdiMember :=
  { present := true, raster := 4, rate := 3, interlaced := false
    payload := some { id := 0, link := link, levelB := false, s444 := false, bits := 1, rgb := false, color := none }, pic := { comps := [] }, missing := []
    crc := 0, edh := 0, line := 0, trs := 0, skewNs := 0 }

/-- An ancillary packet without user data, with a checksum that is right and one that is not. -/
def packet (sum : Nat) : AncPacket :=
  { did := 0x161, sdid := 0x101, dc := 0x200, udw := [], checksum := BitVec.ofNat 10 sum, hanc := false, stream := false
    link := 0, field2 := false, line := 9, audio := .none }

/-- Receiver 252 is locked, as a quad of lanes 252 to 255 of which the last is lost, and feeds source 7. -/
def receiving : State :=
  let s := set up [(SDIRX_LINK, 252, 0, 3), (SRC_KIND, 7, 0, 1), (SRC_LANE, 7, 0, 252), (SRC_STATE, 7, 0, 2)]
  let s := { s with take := { s.take with cfg := { s.cfg with rings := Tab.set {} s.cfg.rings 7 { depth := 2, ladder := 1, store := 0 } } } }
  s.setRx 252 { locked := true, inFrame := true, lost := [3] }

/-- A lane that locks on a new signal, on one that a quad holds without it, and on one that is whole; frames with and without a
source, in and out of reset; frames that end with members and with none; ANC packets. -/
theorem wit_SerialVideoEvents :
    (∀ l ∈ [0, 255], up.fldOn LANE_PWR l = true ∧ up.rxHeld (up.rxHead l) = false ∧ up.fldOn LANE_PLL_LOCK l = false ∧
      ((((up.setFld LANE_PLL_LOCK 1 l).setFld LANE_SIG_DET 1 l).setFld SDIRX_RATE_DET 9 l).rx (up.rxHead l)).locked = false) ∧
    (let t := ((receiving.setFld LANE_PLL_LOCK 1 255).setFld LANE_SIG_DET 1 255).setFld SDIRX_RATE_DET 9 255
     receiving.rxHead 255 = 252 ∧ receiving.fldOn LANE_PLL_LOCK 255 = false ∧ (t.rx 252).locked = true ∧ (t.rx 252).good ≠ 3 ∧
       (t.rx 252).lost.contains 3 = true ∧ (t.rx 252).rejoin.contains 3 = false ∧
       ((t.setRx 252 { t.rx 252 with good := 3 }).rx 252).good = 3) ∧
    (let s := receiving.setRx 252 { locked := true }
     let t := (s.setRx 252 { s.rx 252 with inFrame := true }).showRx 252
     let u := (set s [(SRC_STATE, 7, 0, 1)])
     (s.rx 252).locked = true ∧ s.rxHeld 252 = false ∧ t.rxSource 252 = some 7 ∧ t.srcState 7 = 2 ∧ t.ingestHeld 7 = false ∧
       ((u.setRx 252 { u.rx 252 with inFrame := true }).showRx 252).srcState 7 ≠ 2) ∧
    (let s := up.setRx 1279 { locked := true }
     (s.rx 1279).locked = true ∧ s.rxHeld 1279 = false ∧ s.rxSource 1279 = none) ∧
    ((receiving.rx 252).locked = true ∧ (receiving.rx 252).inFrame = true ∧ receiving.rxHeld 252 = false ∧
      (let ms := receiving.frameMembers 252 { members := [1, 2, 3, 4].map member }
       (((receiving.farEnd 252 ms).frameArrival 252 ms).links.filterMap id).length = 3) ∧
      (let ms := receiving.frameMembers 252 { members := [] }
       ((receiving.farEnd 252 ms).frameArrival 252 ms).links.filterMap id = [] ∧ (receiving.rx 252).good ≠ 3)) ∧
    (receiving.rxHead 252 = 252 ∧ receiving.rxHead 254 ≠ 254) ∧
    (receiving.rxQuad (receiving.rxHead 255) = true ∧ (receiving.rx 252).lost.contains (255 % 4) = true ∧
      (receiving.rx 252).rejoin.contains (255 % 4) = false) ∧
    ((packet 0x262).good = true ∧ (packet 0x162).good = false ∧ receiving.rxSource 252 = some 7) := by decide +kernel

/-- An IPv4 datagram with an empty UDP payload. -/
def datagram : List Byte :=
  [1, 0, 0, 0, 0, 1, 2, 0, 0, 0, 0, 2, 0x08, 0x00, 0x45, 0, 0, 28, 0, 0, 0, 0, 64, 17, 0x7A, 0xD2, 0, 0, 0, 0, 0, 0, 0, 0,
   0, 0, 0x13, 0x88, 0, 8, 0, 0] ++ zeros 18

/-- A lane that trains, a port that can come up; a ring with a frame to send: lengths at their limits, a gap that a flow leaves and
one that it does not, a link that is up and one that is down; frames of each fate; a queued datagram and its time; a context each
way, and a source that has been silent for 2 ms. -/
theorem wit_MediaPortEvents :
    ((up.setPortRun 63 { training := [575] }).trainingPort (512 + 63) = some 63) ∧
    (let s := set up [(MPORT_ENABLE, 63, 0, 1)]
     s.portOn 63 = true ∧ s.fldOn MPORT_LINK_UP 63 = false ∧ (s.portRun 63).training = [] ∧ s.fldOn DOM_DSTATE (76 + 63 / 4) = false) ∧
    (let s := set up [(OWN_OWNER, oriPort 63, 0, 1), (MPORT_ENABLE, 63, 0, 1), (MPORT_HP_TX_EN, 63, 0, 1), (MPORT_HP_TX_TAIL, 63, 0, 1), (MPORT_HP_TX_LOG2, 63, 0, 4)]
     let x : FlowRun := { words := [2 + 16 * 3 + 256 * 63] }
     s.owner (oriPort 63) = some 0 ∧ s.fldOn MPORT_HP_TX_EN 63 = true ∧ s.fld MPORT_HP_TX_HEAD 63 ≠ s.fld MPORT_HP_TX_TAIL 63 ∧
       s.maySend 63 = true ∧ s.live 0 = true ∧ s.gapFor 63 14 = true ∧ s.gapFor 63 2032 = true ∧ leNat ((words [14]).take 4) % 2 ^ 14 = 14 ∧
       leNat ((words [13]).take 4) % 2 ^ 14 < 14 ∧ 2032 < leNat ((words [2033]).take 4) % 2 ^ 14 ∧
       (s.sendFrame 63 (zeros 14)).2 = false ∧ ((set s [(MPORT_LINK_UP, 63, 0, 1)]).sendFrame 63 (zeros 2032)).2 = true ∧
       (later (set (s.setFlow 0 (some x)) [(DST_LIVE, 0, 0, 1)]) 999999).gapFor 63 14 = false) ∧
    (let s := set up [(MPORT_ENABLE, 63, 0, 1), (MPORT_LINK_UP, 63, 0, 1)]
     let t := set s [(MPORT_MODE, 63, 0, 3)]
     s.portOn 63 = true ∧ s.fldOn MPORT_LINK_UP 63 = true ∧ s.safe = false ∧ datagram.length + 4 = 64 ∧ 64 ≤ s.fld MPORT_MAXFRAME 63 ∧
       beAt datagram 12 2 ≠ 0x8808 ∧ s.addressed 63 datagram = true ∧ s.fld MPORT_MAXFRAME 63 < 10000 ∧
       (set s [(FLT_SAFE, 0, 0, 1)]).safe = true ∧ s.portFec 63 = false ∧ t.portFec 63 = true ∧
       beAt ((zeros 12) ++ [0x88, 0x08] ++ zeros 46) 12 2 = 0x8808 ∧ s.addressed 63 ([2, 0, 0, 0, 0, 9] ++ zeros 54) = false) ∧
    (let x : ShortFrame := { port := 63, bytes := datagram, rxTime := 0 }
     let s := later (up.setShortQueue 15 [x]) 1000
     let at' : Nat → State := fun n => { s with media := { s.media with shortAt := [(15, n)] } }
     s.shortQueue 15 = [x] ∧ (match parseFrame datagram with | .udp _ => true | _ => false) = true ∧
       (Tab.get 0 (at' 501).media.shortAt 15 = 501 ∧ 501 + 500 ≤ s.time.grid + 1 ∧ s.time.grid + 1 < 502 + 500) ∧
       Tab.get 0 s.media.shortAt 15 = 0) ∧
    (let x : FlowRun := { words := [1 + 16, 0, 0, 0, 7] }
     let s := later (up.setFlow 262143 (some x)) 10000000
     s.flow 262143 = some x ∧ flowDir x.words = 1 ∧ x.lastGrid + s.flowLimit x.words ≤ s.time.grid) ∧
    (∀ ty ∈ [1, 3],
      let x : FlowRun := { words := [2 + 16 * ty] }
      let s := set (up.setFlow 0 (some x)) [(DST_LIVE, 0, 0, 1)]
      flowDir x.words = 2 ∧ s.fldOn DST_LIVE (flowObj x.words) = true ∧ (up.setFlow 0 (some x)).fldOn DST_LIVE (flowObj x.words) = false ∧
        flowIsAudio x.words = decide (ty = 3)) ∧
    (let s := later ((set up [(SRC_KIND, 1023, 0, 3), (SRC_KIND, 0, 0, 2), (SRC_STATE, 0, 0, 2)]).setRx 1279 { locked := true }) 2000000
     let s := { s with take := { s.take with cfg := { s.cfg with rings := [(0, { depth := 2, ladder := 1 })] } } }
     s.srcKind 1023 = 3 ∧ (s.rx (256 + 1023)).locked = true ∧ (s.src 1023).lastPacket + 2000000 ≤ s.time.grid + 1 ∧
       s.srcKind 0 = 2 ∧ s.srcState 0 = 2 ∧ (s.src 0).lastPacket + 2000000 ≤ s.time.grid + 1) :=
  ⟨by decide +kernel, by decide +kernel, by decide +kernel, by decide +kernel, by decide +kernel, by decide +kernel, by decide +kernel,
    by decide +kernel⟩

/-- A filler block as a lane carries it. -/
def filler : RxBlock :=
  { header := BitVec.ofNat 2 controlHeader, payload := BitVec.ofNat 64 (scramble 0 fillerPayload).1, before := 0 }

/-- PLLs that hold and that have lost lock; a scan that ends and one that is stopped; 64 valid headers and 63, 16 invalid ones and
15; fillers in a buffer at each side of its bounds; the largest words of a code block and of a message. -/
theorem wit_LaneEvents :
    (let s := set up [(LANE_PLL_LOCK, 0, 0, 1)]
     isRxLane 0 = true ∧ s.fldOn LANE_PLL_LOCK 0 = true ∧ s.fldOn LANE_MANUAL_EQ 0 = false) ∧
    up.lane.unlocked.contains .causeway = false ∧
    (({ up with lane := { up.lane with unlocked := [.causeway] } } : State).lane.unlocked.contains .causeway = true) ∧
    (let s := up.setLaneRun 583 { calFrom := 1 }
     (s.laneRun 583).calFrom ≠ 0 ∧ s.fldOn LANE_PWR 583 = true) ∧
    (∀ b ∈ [false, true], let s := (set up [(LANE_ES_BUSY, 583, 0, 1)]).setLaneRun 583 { scanStop := b }
      s.fldOn LANE_ES_BUSY 583 = true ∧ (s.laneRun 583).scanStop = b) ∧
    (upActive.cwayOn = true ∧ upActive.fldOn LANE_PWR (576 + 7) = true ∧ upActive.fldOn LANE_BLOCK_LOCK (576 + 7) = false ∧
      headersLock (List.replicate 64 1) = true ∧ headersLock (List.replicate 64 2) = true ∧ headersLock (List.replicate 63 1) = false ∧
      headersLock (0 :: List.replicate 63 1) = false ∧ headersLose (List.replicate 16 3 ++ List.replicate 48 1) = true ∧
      headersLose (List.replicate 15 0 ++ List.replicate 49 2) = false) ∧
    ((set up [(CWAY_LINK_UP, 0, 0, 1)]).fldOn CWAY_LINK_UP = true ∧ (Vector.replicate 8 filler).toList.all fillerBlock = true ∧
      ((Vector.replicate 8 filler).set 7 { filler with header := 1 }).toList.all fillerBlock = false ∧
      ∀ n ∈ [(5 : Fin 17), 6, 10, 11], n.val < 6 ∨ (6 ≤ n.val ∧ n.val ≤ 10) ∨ 10 < n.val) ∧
    (set up [(LANE_BLOCK_LOCK, 583, 0, 1)]).fldOn LANE_BLOCK_LOCK (576 + 7) = true ∧
    ((2 ^ 58 - 1 < 2 ^ 58 ∧ 2 ^ 64 - 1 < 2 ^ 64) ∧ knownType 0x39 = true ∧ 255 < 2 ^ 8 ∧ 2 ^ 24 - 1 < 2 ^ 24 ∧
      ∀ x ∈ [2 ^ 64 - 1, 0], x < 2 ^ 64) := by decide +kernel

/-! ### 13 to 15 -/

/-- The registers at the first and last instance; a queue of P1 with a source that P1 reads and one that it does not, and the
filter codes at their limits; watermarks on both sides. -/
theorem wit_AudioRegisters :
    (∀ off ∈ [0x81000, 0x81004 + 8 * 1023, 0x83000 + 8 * 1023, 0x83004, 0x85000 + 8 * 511, 0x90000, 0x90004 + 0x100 * 63,
      0x94000 + 0x100 * 63, 0x94004, 0xA0000 + 0x40 * 255, 0xA0008, 0xA0010 + 0x40 * 255], canWrite up 0 off = true) ∧
    (let s := set parts [(OWN_OWNER, oriQueue 255, 0, 2)]
     s.owner (oriQueue 255) = some 1 ∧ s.mayRead 1 1023 = false ∧ s.mayRead 1 5 = true ∧ bitField 1023 0 11 ≠ 2047 ∧
       1120 ≤ bitField 1120 0 11 ∧ bitField 1120 0 11 < 2047 ∧ bitField 2046 0 11 < 2047 ∧ bitField 2047 0 11 = 2047 ∧
       bitField 5 0 11 < 1120 ∧ bitField 1119 0 11 < 1120) ∧
    ((65536 + 1) % 65536 ≠ 0 ∧ (65536 + 1) % 65536 ≤ (65536 + 1) / 65536 % 65536 ∧ 2 ^ 31 % 65536 = 0 ∧
      (65536 + 2) / 65536 % 65536 < (65536 + 2) % 65536) := by decide +kernel

theorem wit_PoolWindowsStayApart :
    (∀ i j : Fin 1024, i ≠ j → rangesMeet (up.fld AIN_BASE 0 i) (up.fld AIN_COUNT 0 i) (up.fld AIN_BASE 0 j) (up.fld AIN_COUNT 0 j) =
      false) ∧ (∀ i : Fin 1024, up.fld AIN_BASE 0 i + up.fld AIN_COUNT 0 i ≤ 32768) ∧
    ∀ i j : Fin 512, i ≠ j → rangesMeet (up.fld AGRP_AG_BASE 0 i) (up.fld AGRP_AG_COUNT 0 i) (up.fld AGRP_AG_BASE 0 j)
      (up.fld AGRP_AG_COUNT 0 j) = false := by
  have a : ∀ i : Fin 1024, up.fld AIN_COUNT 0 i = 0 := by decide +kernel
  have b : ∀ i : Fin 512, up.fld AGRP_AG_COUNT 0 i = 0 := by decide +kernel
  refine ⟨fun i j _ => ?_, by decide +kernel, fun i j _ => ?_⟩
  · simp [rangesMeet, a]
  · simp [rangesMeet, b]

/-- The first sample of a block, one after it and none; an AES3 input that locks, that is locked, and at each count of frames and of
status bits; a channel status block of consumer form, a professional one with a wrong CRC just after another; silence of 64 µs. -/
theorem wit_AudioEvents :
    (up.probeTokens.safe = false ∧ up.probeTokens.time.lastBlock < up.probeTokens.blockIndex ∧
      up.probeTokens.time.lastSample < up.probeTokens.sampleIndex ∧ upSafe.probeTokens.safe = true) ∧
    (let s : State := { later up 21000 with time := { (later up 21000).time with lastBlock := 1, lastSample := 1 } }
     let p := s.probeTokens
     let q := ({ s with time := { s.time with lastSample := 1000 } } : State).probeTokens
     p.safe = false ∧ p.blockIndex ≤ p.time.lastBlock ∧ p.time.lastSample < p.sampleIndex ∧ q.sampleIndex ≤ q.time.lastSample) ∧
    (∀ x ∈ [aesLocking, aesLocked], let s := set up [(AESIN_EN, 63, 0, 1), (AESIN_STATE, 63, 0, x)]
      s.heldInReset 137 = false ∧ s.fldOn AESIN_EN 63 = true ∧ s.fld AESIN_STATE 63 = x) ∧
    (∀ n ∈ [none, some 0, some 191, some 192],
      ∀ l ∈ [[], List.replicate 191 true],
      let s := later ((set up [(AESIN_EN, 63, 0, 1)]).setAesIn 63 { frames := n, lastZ := 0, cs := l }) 4000000
      let f : AesFrame := { a := { x := 0, v := false, u := false, c := true, parityOk := true }
                            b := { x := 0, v := false, u := false, c := true, parityOk := false }, codingOk := l.isEmpty }
      let u := if f.codingOk then s.addFld AESIN_PARITY_ERR (bit (!f.a.parityOk) + bit (!f.b.parityOk)) 63
        else s.addFld AESIN_BIPHASE_ERR 1 63
      let t := ((u.setAesIn 63 ((u.aesIn 63).heard f u.time.grid)).amendV 63 (u.aesIn 63).frameAt).aesSamples 63
      s.aesHears 63 = true ∧ (s.aesIn 63).frames = n ∧ (s.aesIn 63).lastZ < s.time.grid ∧ (t.aesIn 63).frames = n ∧
        (t.aesIn 63).cs.length = l.length) ∧
    (∀ b ∈ [false, true],
      let l := b :: List.replicate 191 false
      let s := (set up [(AESIN_EN, 63, 0, 1)]).setAesIn 63 { csDone := l, lastCrc := 1 }
      s.aesHears 63 = true ∧ (s.aesIn 63).csDone.length = 192 ∧ bitAt ((bitsToBytes l).headD 0) 0 = b ∧
        csCrc ((bitsToBytes l).take 23) ≠ (bitsToBytes l).getD 23 0 ∧
        ((s.setAesIn 63 { s.aesIn 63 with csDone := [] }).aesIn 63).lastCrc ≠ 0 ∧ s.time.grid + 1 < (s.aesIn 63).lastCrc + 10 ^ 9) ∧
    (let s := (set up [(AESIN_EN, 63, 0, 1), (AESIN_STATE, 63, 0, aesLocking)]).setAesIn 63 { seen := 0 }
     s.aesHears 63 = true ∧ (later s 63999).time.grid < (s.aesIn 63).seen + 64000 ∧
       (s.aesIn 63).seen + 64000 ≤ (later s 64000).time.grid ∧ s.fld AESIN_STATE 63 = aesLocking) :=
  ⟨by decide +kernel, by decide +kernel, by decide +kernel, by decide +kernel, by decide +kernel, by decide +kernel⟩

/-! ### 16 -/

/-- Probe core 31 runs the instruction of a word at address 0, in some state. -/
def running (s : State) (x : CoreRun) (word : Nat) : State :=
  (set s [(PROBE_STATE, 31, 0, coreRunning)]).setCore 31 { x with imem := [(0, word)] }

/-- Whether the core runs an instruction (State.atOp). -/
def atOpB (s : State) (c op mask : Nat) : Bool :=
  decide (s.fld PROBE_STATE c = coreRunning ∧ probeOp (s.probeWord c) = op ∧ onlyBits (s.probeWord c) mask = true ∧
    s.breakAt c (s.fld PROBE_PC c) = false)

theorem at_of {s : State} {c op mask : Nat} (h : atOpB s c op mask = true) : s.atOp c op mask := by
  unfold atOpB at h
  obtain ⟨a, b, d, e⟩ := of_decide_eq_true h
  exact ⟨a, b, d, .inl e⟩

/-- Each opcode with its mask, with every operand bit 0 and every one 1. -/
theorem wit_ProbeArithmetic :
    ∀ x ∈ [(0x08, 0x03C0FFFF), (0x09, 0x03FC0000), (0x0A, 0x03FFC000), (0x0B, 0x03FFC000), (0x0C, 0x03FFC000), (0x0D, 0x03FFC000),
      (0x0E, 0x03FFC000), (0x0F, 0x003FC000), (0x10, 0x03C0FFFF), (0x11, 0x03C0FFFF), (0x12, 0x03C0FFFF), (0x13, 0x03FFC000),
      (0x14, 0x03FFC000), (0x15, 0x03FFC000), (0x16, 0x03FC0000), (0x17, 0x03FFC000), (0x18, 0x03FFC000)],
    ∀ operands ∈ [0, x.2], (running up {} (x.1 * 2 ^ 26 + operands)).atOp 31 x.1 x.2 :=
  fun x h o g => at_of (by revert x o; decide +kernel)

/-- The same, for words that are legal: modes 0 to 2, formats 0 to 2, different registers; and both modifications. -/
theorem wit_ProbeMemoryAndAccumulators :
    (∀ x ∈ [(0x19, 0x03FE0000, 0), (0x19, 0x03FE0000, 0x03FC0000), (0x1A, 0x03FE0000, 0x03FA0000), (0x1B, 0x03FFF000, 0x00009000),
      (0x1B, 0x03FFF000, 0x03FF6000), (0x1C, 0x03E0FFFF, 0x03E0FFFF), (0x1D, 0x03FE0000, 0x03FE0000), (0x1E, 0x03FE0000, 0x03FE0000),
      (0x1F, 0x03C000FF, 0x03C0001B), (0x20, 0x023FF800, 0x023FE800), (0x21, 0x023FF800, 0), (0x22, 0x023FF800, 0x00001000),
      (0x23, 0x023FF800, 0x00001000), (0x23, 0x023FF800, 0), (0x24, 0x02000000, 0x02000000), (0x25, 0x023C0000, 0x023C0000),
      (0x26, 0x03FFC000, 0x03FFC000), (0x26, 0x03FFC000, 0x00100000)],
     (running up {} (x.1 * 2 ^ 26 + x.2.2)).atOp 31 x.1 x.2.1) ∧
    (bitField 0x03FC0000 17 2 = 2 ∧ bitField 0x03FA0000 17 2 = 1 ∧ bitField 0x00009000 19 3 ≠ bitField 0x00009000 12 3 ∧
      bitField 0x00009000 22 4 ≠ bitField 0x00009000 15 4 ∧ bitField 0x023FE800 12 2 = 2 ∧ bitField 0x00001000 12 2 = 1 ∧
      bitField 0x03FF6000 19 3 ≠ bitField 0x03FF6000 12 3 ∧ bitField 0x03FF6000 22 4 ≠ bitField 0x03FF6000 15 4 ∧
      up.probeSystem 31 0x1B {} = some 0) ∧
    (7 < 8 ∧ ({} : CoreRun).xf 7 2 = 0 ∧ (({} : CoreRun).setXf 7 2 3).xf 7 2 ≠ 0) :=
  ⟨fun x h => at_of (by revert x; decide +kernel), by decide +kernel⟩

theorem wit_ProbeFlow :
    (∀ x ∈ [(0x00, 0, 0), (0x01, 0, 0), (0x02, 0x03C0FFFF, 0x03803FFF), (0x03, 0xFFFF, 0x3FFF), (0x04, 0, 0), (0x05, 0x02FFFFFF, 0x400),
      (0x05, 0x02FFFFFF, 0x02FFFFFF), (0x06, 0x02FFFC0F, 0x400), (0x06, 0x02FFFC0F, 0x02FFFC0F), (0x07, 0x02000000, 0x02000000)],
     (running up { d := [(15, 2)], stack := [5] } (x.1 * 2 ^ 26 + x.2.2)).atOp 31 x.1 x.2.1) ∧
    (bitField 0x03803FFF 22 4 = 14 ∧ bitField 0x03803FFF 0 16 = 16383 ∧ ({} : CoreRun).holds 14 = true ∧
      ({ f := true } : CoreRun).holds 14 = false) ∧
    (0 < bitField 0x400 10 14 ∧ bitField 0x400 0 10 = 0 ∧ bitField 0x02FFFFFF 0 10 ≠ 0 ∧ ({} : CoreRun).dreg (bitField 0x400 0 4) = 0 ∧
      ({ d := [(15, 2)] } : CoreRun).dreg (bitField 0x02FFFC0F 0 4) ≠ 0 ∧ ({ stack := [5] } : CoreRun).stack = [] ++ [5]) ∧
    (let s := running up {} 0
     let y : CoreRun := { loop0 := { active := true, count := 2, start := 0, last := 0, later := true } }
     (s.core 31).haltPend = false ∧ y.haltPend = false ∧ y.stepping = false ∧ y.loop0.active = true ∧ y.loop0.last = s.fld PROBE_PC 31 ∧
       y.loop1.active = false ∧ y.loop0.start < 16384 ∧ s.breakAt 31 y.loop0.start = false ∧ 1 < y.loop0.count ∧
       s.breakAt 31 (s.fld PROBE_PC 31 + 1) = false) :=
  ⟨fun x h => at_of (by revert x; decide +kernel), by decide +kernel⟩

/-- An opcode that is not listed, and each illegal word; a full and an empty call stack. -/
theorem wit_ProbeFaults :
    (∀ x ∈ [(0x02, 0x03C0FFFF, 0x03C00000), (0x02, 0x03C0FFFF, 0x4000), (0x03, 0xFFFF, 0x3FFF), (0x05, 0x02FFFFFF, 0), (0x06, 0x02FFFC0F, 0),
      (0x19, 0x03FE0000, 0x00060000), (0x1A, 0x03FE0000, 0x00060000), (0x1B, 0x03FFF000, 0x00008000), (0x1B, 0x03FFF000, 0x1000),
      (0x1F, 0x03C000FF, 6), (0x1F, 0x03C000FF, 15), (0x1F, 0x03C000FF, 28), (0x20, 0x023FF800, 0x3000), (0x21, 0x023FF800, 0x3000),
      (0x22, 0x023FF800, 0x3000), (0x23, 0x023FF800, 0x2000), (0x30, 0x03C00001, 0x00400000), (0x31, 0x03C00003, 0x00400000), (0x32, 7, 6),
      (0x39, 0xF, 0), (0x39, 0xF, 12), (0x3A, 0x03C000FF, 0x00400000)],
     (running up { stack := List.replicate 8 0 } (x.1 * 2 ^ 26 + x.2.2)).atOp 31 x.1 x.2.1) ∧
    (running up {} (0x04 * 2 ^ 26)).atOp 31 0x04 0 ∧ probeListed (probeOp (0x3F * 2 ^ 26)) = false ∧
    (bitField 0x00008000 19 3 = bitField 0x00008000 12 3 ∧ bitField 0x1000 22 4 = bitField 0x1000 15 4 ∧
      bitField 0x03C00000 22 4 = 15 ∧ bitField 0x4000 0 16 = 16384) :=
  ⟨fun x h => at_of (by revert x; decide +kernel), at_of (by decide +kernel), by decide +kernel⟩

/-- Port 0 of core 31 is on queue 255 as its consumer, port 1 on queue 254 as its producer; queue 255 holds a word. -/
def ported : State := set up [(PROBE_PORT0_EN, 31, 0, 1), (PROBE_PORT0_Q, 31, 0, 255), (PROBE_PORT1_EN, 31, 0, 1),
  (PROBE_PORT1_Q, 31, 0, 254), (ANCQ_CONSUMER, 255, 0, 2), (ANCQ_CONS_CORE, 255, 0, 31), (ANCQ_SIZE, 255, 0, 1), (ANCQ_WR_PTR, 255, 0, 1),
  (ANCQ_EN, 254, 0, 1), (ANCQ_PROD_EN, 254, 0, 1), (ANCQ_PROD_CORE, 254, 0, 31), (ANCQ_SIZE, 254, 0, 1)]

/-- Core 31 in a state, on a plane whose first frame has begun. -/
def triggered (st : Nat) : State :=
  (set up [(PLANE_RATE, 0, 0, 3), (PROBE_TRIG_PLANE, 31, 0, 1), (PROBE_DIV, 31, 0, 1), (PROBE_STATE, 31, 0, st)]).setCore 31 { lastOverrun := 1 }

/-- Ports with and without a queue, an empty queue, a full one, a stalled PUSH, each QCTL, a tap window with and without its slot,
a trigger that is due in each state and none, and the first and last register of a window. -/
theorem wit_ProbePortsAndCycles :
    (∀ x ∈ [(0x30, 0x03C00001, 0x03800000), (0x31, 0x03C00003, 0x03800003), (0x32, 7, 0), (0x32, 7, 2), (0x32, 7, 4), (0x38, 0x03C0000F, 0x03C0000F),
      (0x39, 0xF, 7), (0x39, 0xF, 8), (0x3A, 0x03C000FF, 0x038000FF)], (running ported {} (x.1 * 2 ^ 26 + x.2.2)).atOp 31 x.1 x.2.1) ∧
    (up.consumed 31 0 = none ∧ ported.consumed 31 0 = some 255 ∧ ported.depthSeen 255 = 1 ∧ (set ported [(ANCQ_RD_PTR, 255, 0, 1)]).depthSeen 255 = 0 ∧
      up.produced 31 1 = none ∧ ported.produced 31 1 = some 254 ∧ ported.pushWaits 254 = false ∧
      (set ported [(ANCQ_PAUSED, 254, 0, 1)]).pushWaits 254 = true ∧ (ported.ancRewind 255).isSome = true ∧
      (set ported [(ANCQ_MARK_LOST, 255, 0, 1)]).ancRewind 255 = none) ∧
    (let s := set (running ported {} (0x31 * 2 ^ 26 + 1)) [(PROBE_STATE, 31, 0, coreStalled)]
     s.fld PROBE_STATE 31 = coreStalled ∧ s.produced 31 (bitField (s.probeWord 31) 0 1) = some 254 ∧ s.pushWaits 254 = false) ∧
    ((Tab.get {} ({} : CoreRun).wins 3 : TapWin).slot = none ∧
      (let ref : SlotRef := { src := 1119, ring := 1, seq := 9 }
       let s := (set up [(WIN_WSTAT, 31, 3, 1), (OWN_OWNER, oriProbe 31, 0, 1)]).setSrc 1119
         { rings := [{ id := 1, shape := {}, slots := [(0, { state := 2, seq := 9 })] }] }
       let x : CoreRun := { wins := [(3, { words := [1], slot := some ref })] }
       (Tab.get {} x.wins 3 : TapWin).slot = some ref ∧ (Tab.get {} x.wins 3 : TapWin).words.getD 0 0 = 1 ∧ s.fld WIN_WSTAT 31 3 % 8 = 1 ∧
         s.mayJudge 31 1119 = true ∧ (s.slotAt ref).isSome = true)) ∧
    (up.selectTokens.triggerDue 31 = none ∧
     ∀ st ∈ [coreStopped, coreFault, coreWaiting, coreFilling, coreRunning, coreStalled, coreDebug],
      let p := (triggered st).selectTokens
      p.triggerDue 31 = some (0, 0) ∧ p.coreHeld 31 = false ∧ p.fld PROBE_STATE 31 = st ∧
        (p.core 31).lastOverrun ≠ 0 ∧ p.time.grid + 1 < (p.core 31).lastOverrun + 10 ^ 9) ∧
    (let s := triggered coreFilling
     let t := s.upTo 4 (fun s i => s.endFill 31 i)
     let u := (t.setFld PROBE_STATE coreRunning 31).setFld PROBE_PC (t.fld PROBE_ENTRY 31) 31
     let v := u.setCore 31 { u.core 31 with cycles := 0 }
     s.fld PROBE_STATE 31 = coreFilling ∧ (t.core 31).haltPend = false ∧ v.breakAt 31 (v.fld PROBE_PC 31) = false ∧
       v.fldOn DBGC_HALT_ON_ENTRY 0 31 = false) ∧
    (canWrite up 0 0xB0080 = true ∧ canWrite up 0 (0xB0000 + 0x400 * 31 + 0x80 + 0x20 * 3 + 4 * 5) = true) :=
  ⟨fun x h => at_of (by revert x; decide +kernel), by decide +kernel, by decide +kernel, by decide +kernel, by decide +kernel,
    by decide +kernel, by decide +kernel⟩

theorem wit_PostWritesResults : ∀ r ∈ [0, 15], (running up { d := [(15, 65535)] } (0x38 * 2 ^ 26 + 15 * 2 ^ 22 + r)).atOp 31 0x38 0x03C0000F :=
  fun r h => at_of (by revert r; decide +kernel)

/-! ### 17 -/

/-- A device of a pair in a role. -/
def inRole (r : Nat) : State := set up [(CWAY_ROLE_STATE, 0, 0, r), (CWAY_PAIR_EN, 0, 0, 1), (CWAY_LINK_UP, 0, 0, 1)]

/-- Blocks that are a message, and the same with a wrong bit (R443). -/
theorem test_cwMessage :
    (let blocks := (messageColumns 0x39 255 (2 ^ 24 - 1) [2 ^ 64 - 1]).flatten.map (·.payload)
     readMessage blocks = some (0x39, 255, 2 ^ 24 - 1, [2 ^ 64 - 1]) ∧ readMessage (blocks.modify 1 (· ^^^ 1)) = none) := by
  decide +kernel

/-- The active device and the standby, each with its peer; a pair that is not enabled; a message that has not been acknowledged
for 200 µs; an acknowledgement that is due. -/
theorem wit_PairMessages :
    (∀ r ∈ [Role.ACTIVE, Role.STANDBY], (inRole r).pairOn = true) ∧ (inRole Role.STANDBY).follows = true ∧
    (inRole Role.STANDBY).compares = true ∧ (inRole Role.ACTIVE).compares = true ∧ (inRole Role.INIT).fldOn CWAY_PAIR_EN = true ∧
    up.pairOn = false ∧ up.fldOn CWAY_PAIR_EN = false ∧ (bitAt 0xFFFFFF 24 = false ∧ bitAt 0x1000000 24 = true) ∧
    (let s := later ((inRole Role.ACTIVE).setCway { unacked := [(0, { ty := 0x33, words := [] })] }) 200000
     s.fldOn CWAY_LINK_UP = true ∧ s.cway.unacked ≠ [] ∧ s.cway.ackMoved + 200000 ≤ s.time.grid) ∧
    (let s := later ((inRole Role.STANDBY).setCway { ackDue := true }) 20000
     s.cway.ackDue = true ∧ s.cway.ackSent + 20000 ≤ s.time.grid) := by decide +kernel

/-- The expected message at both ends of its numbers, one before it and one after it. -/
theorem wit_PairMessagesInOrder :
    (∀ x ∈ [0, 2 ^ 24 - 1], ∀ ty ∈ [0x30, 0x31, 0x32, 0x33, 0x34, 0x36, 0x38, 0x39],
      ((inRole Role.STANDBY).setCway { rxNext := x }).accepts3 ty x ∧ ((inRole Role.STANDBY).setCway { rxNext := x }).follows = true) ∧
    ((inRole Role.ACTIVE).accepts3 0x35 0 ∧ (inRole Role.ACTIVE).isActive = true) ∧
    (((inRole Role.JOINING).setCway { rxSync := true }).accepts3 0x37 9 ∧ (inRole Role.JOINING).role = Role.JOINING) ∧
    bitField 3071 0 12 < 3072 ∧
    (let s := inRole Role.STANDBY
     s.pairOn = true ∧ s.cway.rxSync = false ∧ mseqBefore (2 ^ 24 - 1) s.cway.rxNext = true ∧ 1 ≠ s.cway.rxNext ∧ mseqBefore 1 s.cway.rxNext = false) :=
  ⟨fun x h ty g => ⟨⟨by revert x; decide +kernel, by revert x ty; decide +kernel⟩, by revert x; decide +kernel⟩,
    ⟨⟨by decide +kernel, by decide +kernel⟩, by decide +kernel⟩, ⟨⟨by decide +kernel, .inr rfl⟩, by decide +kernel⟩, by decide, by decide +kernel⟩

/-- Each pin, wait, interval and handover at the instant at which it acts; a peer that is lost, that was never seen, and that is
heard. -/
theorem wit_PairEvents :
    ((inRole Role.INIT).fldOn CWAY_TOKEN_IN_A = false ∧ ((inRole Role.INIT).setFld CWAY_TOKEN_IN_A 1).pairOn = true ∧
      ((inRole Role.INIT).setFld CWAY_TOKEN_IN_A 1).role = Role.INIT ∧ ((inRole Role.ACTIVE).setFld CWAY_TOKEN_IN_A 1).isActive = true ∧
      ((inRole Role.ACTIVE).setFld CWAY_TOKEN_IN_A 1).exchanging = false ∧ (up.setFld CWAY_TOKEN_IN_A 1).pairOn = false) ∧
    (∀ x ∈ [(Role.JOINING, true), (Role.JOINING, false), (Role.STANDBY, false), (Role.HELD, false)],
      let s := ((inRole x.1).setCway { snapDone := x.2 }).setFld CWAY_TOKEN_IN_A 1
      s.fldOn CWAY_TOKEN_IN_A = true ∧ (s.setFld CWAY_TOKEN_IN_A 0).pairOn = true ∧ (s.setFld CWAY_TOKEN_IN_A 0).role = x.1 ∧
        (s.setFld CWAY_TOKEN_IN_A 0).cway.snapDone = x.2) ∧
    ((inRole Role.ACTIVE).fldOn CWAY_PF_LINE = false ∧ (inRole Role.ACTIVE).fldOn CWAY_PF_DRIVE = false ∧
      (inRole Role.ACTIVE).fldOn CWAY_PAIR_EN = true) ∧
    (let s := later (inRole Role.INIT) (inRole Role.INIT).negWait
     s.pairOn = true ∧ s.role = Role.INIT ∧ s.cway.initHello = false ∧ s.cway.roleFrom + s.negWait ≤ s.time.grid) ∧
    (let s := (later (set (inRole Role.ACTIVE) [(CWAY_PEER_SEEN, 0, 0, 1)]) 100000000).setCway { helloAt := 90000001 }
     s.fldOn CWAY_PAIR_EN = true ∧ s.pairOn = true ∧ s.cway.helloSent + 1000000 ≤ s.time.grid ∧ s.cway.timeSent + 1000000 ≤ s.time.grid ∧ s.cway.healthSent + 100000000 ≤ s.time.grid ∧
       s.fldOn CWAY_PEER_SEEN = true ∧ s.fldOn CWAY_LINK_UP = true ∧ s.cway.helloAt ≠ 0 ∧
       s.cway.helloAt + 10000000 ≤ s.time.grid + 1 ∧ (later s 99999999).time.grid + 1 < s.cway.helloAt + 10000000) ∧
    (let s := set (inRole Role.STANDBY) [(CWAY_LINK_UP, 0, 0, 0)]
     s.fldOn CWAY_PAIR_EN = true ∧ s.fldOn CWAY_PEER_SEEN = false ∧ s.fldOn CWAY_LINK_UP = false ∧ s.role = Role.STANDBY ∧
       s.cway.helloAt = 0) ∧
    (let s := later (inRole Role.JOINING) ((inRole Role.JOINING).fld CWAY_JOIN_S * 1000000000)
     s.pairOn = true ∧ s.role = Role.JOINING ∧ s.expired s.cway.roleFrom (s.fld CWAY_JOIN_S * 1000000000) 1000000 = true) ∧
    (∀ x ∈ [(2, 0), (5, 10000000000)],
     let s := (later (set (inRole Role.HELD) [(CWAY_HELD_CAUSE, 0, 0, x.1), (CWAY_READY, 0, 0, 1), (TM_STATE, 0, 0, Tm.LOCKED),
       (MC_READY, 0, 0, 1), (MC_READY, 1, 0, 1), (MC_READY, 2, 0, 1), (MC_READY, 3, 0, 1)]) x.2).refreshReady
     s.pairOn = true ∧ s.role = Role.HELD ∧ s.fldOn CWAY_LINK_UP = true ∧ s.fldOn CWAY_READY = true ∧
       (s.fld CWAY_HELD_CAUSE ≤ 2 ∨ s.cway.roleFrom + 10000000000 ≤ s.time.grid)) ∧
    (let s := later (set up [(CWAY_KAT_PERIOD_S, 0, 0, 1)]) 1000000000
     s.inService = true ∧ s.safe = false ∧ s.fldOn CWAY_KAT_PERIOD_S = true ∧ s.cway.katLeft = [] ∧
       s.cway.katFrom + s.fld CWAY_KAT_PERIOD_S * 1000000000 ≤ s.time.grid) ∧
    (let h : Handover := { seq := 1, part := 0, t := 0, decided := true }
     let s := later ((inRole Role.STANDBY).setCway { handovers := [h] }) 2000
     s.cway.handovers.find? (fun h => h.decided && decide (h.t ≤ s.now)) = some h ∧
       s.cway.handovers.find? (fun h => h.decided && decide (h.t + 2000 ≤ s.now)) = some h ∧ s.pairOn = true ∧ s.role = Role.STANDBY ∧
       (inRole Role.ACTIVE).isActive = true) :=
  ⟨by decide +kernel, by decide +kernel, by decide +kernel, by decide +kernel, by decide +kernel, by decide +kernel, by decide +kernel,
    by decide +kernel, by decide +kernel, by decide +kernel⟩

theorem wit_TokenFollowsTheRole : Role.SAFE < 7 ∧ 15 < 16 ∧ (upSafe.enterRole Role.HELD 15).role = Role.HELD := by decide +kernel

/-- A standby with each descriptor, and a mirrored register. -/
theorem wit_NonActiveDevicesRefuse :
    (∀ op ∈ [0x10, 0x11, 0x12, 0x13, 0x14, 0x15, 0x16, 0x20, 0x21, 0x22, 0x30, 0x33, 0x40, 0x41, 0x50, 0x51, 0x70],
      (hold upStandby (req op 0 0 [])).holding 0 op = some (req op 0 0 [])) ∧ upStandby.isActive = false ∧
    (req 0x20 0 0 [0, 0, 0, 1]).aborts = true ∧ (req 0x20 0 0 []).aborts = false ∧
    (∀ off ∈ [0x600004, 0x400004], mirroredAt off = true ∧ off % 4 = 0 ∧ upStandby.mapped off = true) := by decide +kernel

/-- A write of a destination's register on the active device of a pair, and one of the audio engine's, at each end of its block; a
held write before its instant and at it; and the write of a device in SOLO whose peer joins. -/
theorem wit_MirroredWritesWait :
    upActive.paired = true ∧ upActive.safe = false ∧
    (∀ off ∈ [0x60000C, 0x80010, 0x97F34], upActive.writeBar 0 (BitVec.ofNat 26 off).toNat 4 = none ∧
      mirroredAt (BitVec.ofNat 26 off).toNat = true ∧
      (∀ x ∈ ((blockAt off).map (fun b => b.1.at? off)).getD [], x.1.ty ≠ .w1c)) ∧
    (let h : HeldWrite := { at' := 3000000, part := 0, off := 0x60000C, value := 1 }
     let u := upActive.setCway { held := [h] }
     u.cway.held = [h] ∧ u.now < h.at' ∧ h.at' ≤ (later u 3000000).now) ∧
    (let s := set up [(CWAY_PEER_STATE, 0, 0, Role.JOINING)]
     s.paired = false ∧ s.mirrors = true ∧ s.safe = false ∧ s.writeBar 0 (BitVec.ofNat 26 0x60000C).toNat 4 = none ∧
       blockAt 0x60000C = some (.dst, 0)) := by decide +kernel

/-! ### 18 to 20 -/

/-- The first and last register of FSEV; records that can be acknowledged and that hold; a safe state that is due, a request that
is active and one that is not, with references and without; SRAM errors on both sides of a second; rails in service and in reset
extension. -/
theorem wit_FaultEvents :
    (∀ off ∈ [0x25000, 0x25000 + 4 * 1023, 0x24008], canWrite upSafe 0 off = true) ∧
    (up.fldOn FREC_HOLDS 15 = false ∧ up.recordHolds 15 = false ∧
      (set up [(FREC_HOLDS, 15, 0, 1), (FREC_EVENT, 15, 0, Ev.RAIL_FAULT), (FREC_ACTIVE, 15, 0, 1)]).fldOn FREC_HOLDS 15 = true) ∧
    ({ up with faults := { up.faults with safeDue := some (15, 0) } } : State).faults.safeDue = some (15, 0) ∧
    up.faults.safeReqLow = false ∧ (up.clk.bothLost = false ∧ ({ up with clk := { up.clk with bothLost := true } } : State).clk.bothLost = true) ∧
    (let s : State := { up with faults := { up.faults with corrected := [(256 * 8 + sramDomain 8 31, (1, 1))] } }
     Tab.get (0, 0) s.faults.corrected (256 * 8 + sramDomain 8 31) = ((1, 1) : Nat × Nat) ∧
       (s.time.grid + 1 < 1 + 1000000000 ∧ 1 + 1000000000 ≤ (later s 1000000000).time.grid + 1)) ∧
    (Tab.get (0, 0) up.faults.corrected (256 * 1 + sramDomain 1 0) : Nat × Nat).2 = 0 ∧ up.faults.railsOut.contains 12 = false ∧
    up.fld BOOT_STAGE ≠ 0 ∧ State.reset.fld BOOT_STAGE = 0 ∧
    (∀ l ∈ [[12], [12, 3]], (l.filter (· != 12) = [] ↔ l = [12])) ∧
    eventListed 0 = true ∧ eventListed Ev.MEM_UE_STRUCT = true ∧ eventFloor Ev.MEM_UE_STRUCT < 4 ∧ eventFloor Ev.MEM_UE_STRUCT ≠ 0 := by decide +kernel

/-- A record that is handled, one of the same event, a free record, and all records valid and active. -/
theorem wit_FaultRecordsArePlaced :
    (let s : State := { set up [(FREC_CLASS, 15, 0, 2)] with faults := { up.faults with handled := some 15, handledTo := 2000 } }
     s.handledRecord = some 15) ∧
    (let s := set up [(FREC_ACTIVE, 3, 0, 1), (FREC_EVENT, 3, 0, 1023), (FREC_VALID, 3, 0, 1)]
     s.handledRecord = none ∧ (s.fldOn FREC_ACTIVE 3 = true ∧ s.fld FREC_EVENT 3 = 1023) ∧
       (∀ j < 3, ¬(s.fldOn FREC_ACTIVE j = true ∧ s.fld FREC_EVENT j = 1023)) ∧ s.fldOn FREC_VALID 0 = false ∧
       ∀ i < 16, ¬(s.fldOn FREC_ACTIVE i = true ∧ s.fld FREC_EVENT i = 1022)) ∧
    (let s := (List.range 16).foldl (fun s i => set s [(FREC_VALID, i, 0, 1), (FREC_ACTIVE, i, 0, 1)]) up
     s.handledRecord = none ∧ (∀ i < 16, s.fldOn FREC_VALID i = true ∧ s.fldOn FREC_ACTIVE i = true) ∧
       ∀ i < 16, ¬(s.fldOn FREC_ACTIVE i = true ∧ s.fld FREC_EVENT i = 1022)) := by decide +kernel

/-- A SERVICE record inside and at the end of its 2 µs, and a CRITICAL one in the safe state and out of it. -/
theorem wit_FaultsAreHandledInWindows :
    (let t := up.createFault 15 2 5 0 0 0 false
     (∀ j < 16, (later t 2000).fld FREC_CLASS j = t.fld FREC_CLASS j) ∧ (later t 2000).faults = t.faults ∧
       (later t 1999).handledRecord = some 15 ∧ (later t 2000).handledRecord = none) ∧
    (let t := up.createFault 15 3 5 0 0 0 false
     let u : State := { set t [(FLT_SAFE, 0, 0, 1)] with faults := { t.faults with safeDue := none } }
     (∀ j < 16, u.fld FREC_CLASS j = t.fld FREC_CLASS j) ∧ u.faults = { t.faults with safeDue := none } ∧ u.safe = true ∧
       u.handledRecord = some 15) := by decide +kernel

theorem wit_SafeStateStandsStill : upSafe.safe = true ∧ upSafe.leaseOut 7 = false ∧ upSafe.take.takes = [] ∧
    upSafe.frameTokens.safe = true ∧ upSafe.probeTokens.safe = true ∧
    (∀ off ∈ [0x1000, 0x23000, 0x26000, 0x30018], off ≠ 0x42040 ∧ 0x1000 ≤ off ∧ (off < 0x24000 ∨ 0x26000 ≤ off)) ∧
    upSafe.writeBar 0 (BitVec.ofNat 26 0x30018).toNat 4 = none := by decide +kernel

/-- Clocks before and after the oscillator is good, a monitor in each state, a PLL, multiplexers that switch and that go back, ramps
at each end, and domains. -/
theorem wit_ClockAndPowerEvents :
    (State.reset.fldOn CLK_ROSC_OK = false ∧ ∀ m < 10, (State.reset.mon m).latched = 0) ∧
    (∀ x ∈ [(false, false), (true, false), (false, true)],
      let s := (set up [(CLKMON_EN, 9, 0, 1)]).setMon 9 { stop := x.1, freq := x.2 }
      s.fldOn CLKMON_EN 9 = true ∧ (s.mon 9).stop = x.1 ∧ (s.mon 9).freq = x.2 ∧ s.freqSuspended = false ∧
        (s.setFld CLKMON_LAST_PPM 200000 9).freqBound 9 = some 200000 ∧ ((s.setFld CLKMON_LAST_PPM 200000 9).mon 9).freq = x.2) ∧
    (200000 < (BitVec.ofInt 32 (-200001)).toInt.natAbs ∧ (BitVec.ofInt 32 (-200000)).toInt.natAbs ≤ 200000) ∧
    (let s := later (up.setMon 5 { goodFrom := 1 }) (up.fld CLK_RETURN_MS * 1000000)
     (s.mon 5).goodFrom ≠ 0 ∧ s.fldOn CLK_ROSC_OK = true ∧ clkFaultMons.contains 5 = false ∧
       s.expired ((s.mon 5).goodFrom - 1) (s.fld CLK_RETURN_MS * 1000000) 1 = true) ∧
    (∀ p ∈ [0, 1, 2], Tab.get 0 ({ up.clk with relock := Tab.set 0 up.clk.relock p 2 } : ClkState).relock p = 1 + 1) ∧
    (∀ b ∈ [false, true],
      let s := (up.setMon 6 { stop := b }).setMon 0 { stop := b }
      let s : State := { s with clk := { s.clk with muxes := [(0, { src := 1, dest := some 0 }), (7, { src := 0, dest := some 0, back := true }), (144, { src := 0, dest := some 1 })] } }
      (s.mux 0).dest = some 0 ∧ s.oldStopped 0 = b ∧ (s.mux 144).dest = some 1 ∧ s.oldStopped 144 = b ∧ (s.mux 0).back = false ∧
        (s.mux 7).back = true ∧ (s.mux 7).dest = some 0) ∧
    (∀ up' ∈ [false, true],
      let r : ClkRamp := { up := up', runs := true, at' := 0 }
      let s := later (up.setRamp 92 (some r)) (up.fld CLK_RAMP_STEP_NS)
      s.ramp 92 = some r ∧ s.switching 92 = false ∧ s.expired r.at' (s.fld CLK_RAMP_STEP_NS) 1 = true) ∧
    (canWrite up 0 0x41100 = true ∧ canWrite up 0 (0x41100 + 4 * 183) = true) ∧
    (∀ x ∈ [(1, 0), (3, 1)], let s := set up [(DOM_DSTATE, 183, 0, x.1), (DOM_REQ, 183, 0, x.2)]
      s.rampsDone 183 = true ∧ s.fld DOM_DSTATE 183 = x.1 ∧ (x.1 = 1 → (s.domainOff 183).fldOn DOM_REQ 183 = false)) ∧
    (up.gateReason 0 ≠ 0 ∧ up.fld DOM_DSTATE 0 ≠ 2 ∧ up.gateReason 183 = 0 ∧ domainIslands 183 = [] ∧ up.fld DOM_DSTATE 183 ≠ 2 ∧
      (set up [(DOM_DSTATE, 183, 0, 2)]).fld DOM_DSTATE 183 = 2 ∧ (set up [(DOM_LOCKED_OFF, 183, 0, 1)]).fldOn DOM_LOCKED_OFF 183 = true) :=
  ⟨by decide +kernel, by decide +kernel, by decide +kernel, by decide +kernel, by decide +kernel, by decide +kernel, by decide +kernel,
    by decide +kernel, by decide +kernel, by decide +kernel⟩

/-- A frame to station 9 with no payload, whose check sequence is right. -/
def frame (dst : Nat) : TowWire :=
  { bytes := [BitVec.ofNat 8 dst, 1, 0, 0] ++ words [crc32 [dst, 1, 0, 0]], manchOk := true, spare := 0, time := 0 }

/-- Bus 1 in each phase, on both sides of the limits; frames of each fate; frames to send of each length. -/
theorem wit_TowpathCommands :
    (∀ off ∈ [0x71000, 0x72000, 0x71008, 0x72008], canWrite up 0 off = true) ∧
    (let s := later (up.setTow 1 { tx := [[9, 1, 0, 0]], idleFrom := 160 }) 4000
     (s.towRun 1).phase = .idle ∧ (s.towRun 1).tx ≠ [] ∧ s.safe = false ∧ (s.towRun 1).idleFrom + 3840 ≤ s.time.grid ∧
       (later s 3999).time.grid < (s.towRun 1).idleFrom + 3840) ∧
    ((up.setTow 1 { phase := .sending }).towRun 1).phase = .sending ∧
    (∀ x ∈ [(true, 0), (false, 0), (false, 14), (false, 15)],
      let s := up.setTow 1 { phase := .jam, late := x.1, colls := x.2, tx := [[9, 1, 0, 0]] }
      let t := (s.towRelease 1 (s.towJammed 1)).towCount TOW_TX_COLL 1
      (s.towRun 1).phase = .jam ∧ (s.towRun 1).late = x.1 ∧ (t.towRun 1).colls = x.2) ∧
    (let s := up.setTow 1 { phase := .backoff 20480 }
     (s.towRun 1).phase = .backoff 20480 ∧ s.time.grid < 20480 ∧ 20480 ≤ (later s 20480).time.grid) ∧
    (let s := set up [(TOW_EN, 1, 0, 1), (TOW_ADDR, 1, 0, 9), (TOW_TYPE_MASK, 1, 0, 1)]
     let t := (s.setFld TOW_STUCK 0 1).setTow 1 { s.towRun 1 with idleFrom := s.time.grid }
     s.fldOn TOW_EN 1 = true ∧ (s.towRun 1).phase ≠ .sending ∧ (s.towRun 1).phase ≠ .jam ∧ towCheck (t.towBroken 1 (frame 9)) = none ∧
       t.towKind 1 9 = some 0 ∧ bitAt (t.fld TOW_TYPE_MASK 1 (0 / 32)) (0 % 32) = true ∧ towCheck (t.towBroken 1 (frame 8)) = none ∧
       t.towKind 1 8 = none ∧ (towCheck (t.towBroken 1 { frame 9 with manchOk := false })).isSome = true) ∧
    (∀ n ∈ [240, 241],
      let s := set up [(TOW_EN, 1, 0, 1), (TOW_ADDR, 1, 0, 9), (TOW_TX_BUF, 1, 0, n * 2 ^ 24)]
      bitField (s.fld TOW_TX_BUF 1 0) 24 8 = n ∧ (s.towRun 1).tx.length < 4 ∧ s.fld TOW_ADDR 1 ≠ 0 ∧ s.fldOn TOW_EN 1 = true) ∧
    4 ≤ ((up.setTow 1 { tx := [[], [], [], []] }).towRun 1).tx.length := by decide +kernel

/-- The wait after a first collision. -/
theorem wit_TowpathCommands_wait :
    let s := up.setTow 1 { phase := .jam }
    (s.towRun 1).late = false ∧ (s.towRun 1).colls < 15 ∧
      ∃ t dest, exec (.towJamEnd 1) s = .next t ∧ (t.towRun 1).phase = .backoff dest := ⟨by decide +kernel, by decide +kernel, _, _, rfl, rfl⟩

/-! ### 21 and 22 -/

theorem wit_Resets : up.faults.safeReqLow = false ∧ up.faults.railsAtBoot = [] ∧ up.fldOn FLT_FATAL = false ∧ up.resetting 1 = false ∧
    canWrite up 0 0xC = true := by decide +kernel

/-- A device at a stage of its boot. -/
def atStage (n : Nat) : State := set State.reset [(BOOT_STAGE, 0, 0, n), (CLK_ROSC_OK, 0, 0, 1)]

/-- A number as bytes, the most significant first. -/
def bigBytes (n v : Nat) : List Nat := (List.range n).map (fun i => v / 256 ^ (n - 1 - i) % 256)

/-- An image of the one byte 5A, signed under a key of a test (R513, R514): header, signature and payload. -/
def image : List Nat :=
  [0x43, 0x55, 0x48, 0x4E, 1, 0, 1, 0, 1, 0, 0, 0, 0, 0, 0, 0, 1] ++ List.replicate 15 0 ++
  bigBytes 48 0x40cd056bb48d25cacb34e2b1b1e81c53ef4d210b57597bfa323ca2d430d133af9aa70b5db0b40937561bf5e7e1942053 ++
  List.replicate 48 0 ++ [4] ++
  bigBytes 48 0xe86b995e350e4d312a95a6b7d5d8cdcdb4682f588800a1cd6c972e1dcb2a5ac38d90046951b03ccb3b179a89fda88b1b ++
  bigBytes 48 0x485b9f2c1f44b0dd41ce6e3c3a690bbfaabec1e1ff4aefb2461fdda6629becbd43cf74c13d8c1a1625612243f0046148 ++
  List.replicate 31 0 ++
  bigBytes 48 0x479f140942db0682c03aa99e659256bdd007f96cb9428bce27c96e3830fc939376016b08385d12557266caa2cbda602d ++
  bigBytes 48 0xec9b2bbb7834a18354a101fc8ade026fd9e4003afff7e8335e9fde4d195e67319474bfc85001eea1a75581b8747ab0c1 ++
  List.replicate 160 0 ++ [0x5A]

/-- Fuses that hold the hash of that key in slot 0. -/
def fuses : Fuses :=
  { serial := 0, revoked := 0, svn := 0
    keyHash := #v[0x2b893d76e46a74adda946a7cbe33c77119dcf216197f612279e2c210b0d1a4d7a527df930810918248ae5e6496ab2e11, 0, 0] }

/-- The image in bank 0, and the fuses loaded. -/
def flashed (s : State) : State :=
  { s with boot := { s.boot with
    flash := (image.zipIdx.filter (fun x => x.1 != 255)).map (fun x => (bankBase 0 + x.2, 255 - x.1)), fuses := some fuses } }

/-- The bank passes, and one that is empty fails. -/
theorem wit_BootStages_check : (flashed (atStage 1)).bankCause 0 true = 0 ∧ (flashed (atStage 1)).bankCause 0 false = 7 ∧
    (atStage 1).bankCause 1 true = 1 := by decide +kernel

/-- The stages, each at its own; fuses that load and that do not; and a bank for the first check and for the second. -/
theorem wit_BootStages :
    ((atStage 0).fldOn CLK_ROSC_OK = true ∧ (atStage 0).fld BOOT_STAGE = 0 ∧ (atStage 0).fld BOOT_MODE ≠ 2 ∧
      (atStage 0).faults.railsAtBoot = []) ∧
    ((atStage 1).fld BOOT_STAGE = 1 ∧ (atStage 1).fld BOOT_PREF = 0 ∧ (atStage 1).boot.triedOther = false) ∧
    (({ atStage 1 with boot := { (atStage 1).boot with triedOther := true } } : State).boot.triedOther = true) ∧
    ((atStage 2).fld BOOT_STAGE = 2 ∧ (atStage 2).boot.recovery = false) ∧ (atStage 3).fld BOOT_STAGE = 3 ∧
    ((atStage 4).fld BOOT_STAGE = 4 ∧ (atStage 4).settingsUsed = none) ∧
    (let s := (atStage 5).setCway { katPasses := 1 }
     s.fld BOOT_STAGE = 5 ∧ s.cway.katPasses ≠ 0 ∧ s.boot.booted = false ∧
       let t := ((s.setFld BOOT_STAGE 6).setFld BOOT_SERVICE 1).reportFallback
       t.role = Role.INIT ∧ t.fldOn CWAY_PAIR_EN = false) ∧
    (let s := set ((atStage 5).setCway { katPasses := 1 }) [(CWAY_PAIR_EN, 0, 0, 1)]
     (((s.setFld BOOT_STAGE 6).setFld BOOT_SERVICE 1).reportFallback).fldOn CWAY_PAIR_EN = true) ∧
    (atStage 6).fld BOOT_STAGE = 6 := by decide +kernel

theorem wit_FirmwareCommands :
    (∀ off ∈ [0x42024, 0x42028, 0x42040, 0x42044], canWrite up 0 off = true) ∧
    (∀ o ∈ [FlashOp.erase 0, .program 0 [], .pref 1, .delta, .save 1 { fmtVer := 0, seq := 0, list := [], hoFreq := 0, hoAge := 0, retired := [] }],
      ({ up with boot := { up.boot with op := some o } } : State).boot.op = some o) ∧
    (let c : SettingsCopy := { fmtVer := 0, seq := 0, list := [], hoFreq := 0, hoAge := 0, retired := [] }
     let s : State := { set up [(BOOT_MIGRATING, 0, 0, 1)] with boot := { up.boot with copy1 := some c, copyUsed := 2 } }
     s.fldOn BOOT_MIGRATING = true ∧ s.inService = true ∧ s.settingsCopy (s.boot.copyUsed - 1) = some c) ∧
    ({ up with store := { up.store with retiredQp := [(0, 0)] } } : State).autosaveDue = true ∧
    (∀ x ∈ [(0x1FFFF, true), (0x20000, false), (0x4FFFFF, false), (0x500000, true), (0x6FFFFF, true), (0x700000, false)],
      (set up [(BOOT_FL_ADDR, 0, 0, x.1)]).flashProtected ((set up [(BOOT_FL_ADDR, 0, 0, x.1)]).fld BOOT_FL_ADDR) = x.2) ∧
    (set up [(BOOT_FL_BUSY, 0, 0, 1)]).fldOn BOOT_FL_BUSY = true ∧ (65536 ≤ 131071 ∧ 131071 < 65536 + 65536 ∧ 65536 + 65536 ≤ 131072) := by
  decide +kernel

/-- A port that is attached, detached and bypassed; an operation and an access that wait for their grant and that do not; targets
that exist and that do not; limits on both sides. -/
theorem wit_DebugCommands :
    (up.dbg.killed = false ∧ up.dbg.op = none ∧ up.fldOn DBG_ATTACH = false ∧ (set up [(DBG_ATTACH, 0, 0, 1)]).fldOn DBG_ATTACH = true ∧
      up.gated 183 = false ∧ (BitVec.ofNat 16 65535).toNat ≠ 0 ∧ ({ up with dbg := { up.dbg with killed := true } } : State).dbg.killed = true) ∧
    (let o : DbgOp := { status := 0, data := 1 }
     ({ up with dbg := { up.dbg with op := some o } } : State).dbg.op = some o ∧ o.bus = false) ∧
    (∀ w ∈ [none, some 1], ∀ a ∈ [0x3FFFFFF, 0x4000000],
      let x : BusAccess := { addr := a, write := w, since := 0 }
      let s : State := { up with dbg := { up.dbg with access := some x } }
      let t := later s (1000 * s.fld IC_TIMEOUT_US + 1000)
      s.dbg.access = some x ∧ (busTarget x.addr).isSome = decide (a = 0x3FFFFFF) ∧ s.icWaits 11 = false ∧
        s.expired x.since (s.fld IC_TIMEOUT_US) 1000 = false ∧ t.expired x.since (t.fld IC_TIMEOUT_US) 1000 = true) ∧
    (let r : IcReq := { master := 11, target := 0, line := 0, write := false, since := 0 }
     let s : State := { up with ic := { up.ic with waiting := [r] } }
     s.icWaits 11 = true ∧ s.firstServed [r] = some r) ∧
    masterReaches 8 12 = true ∧ masterReaches 3 0 = true ∧ masterReaches 0 13 = false ∧ canWrite up 0 0x43054 = true := by decide +kernel

/-! ### Worked examples of the spec -/

/-- 00_scope: 4096 x 2160p59.94 4:4:4 10-bit costs 103/16. 09: budgets of a compositor. -/
theorem test_costs : fmtCost (fmtOf 7 7 0 1 2 0 0) = 103 ∧ layerBudget 0x14 7 = 48 ∧ layerBudget 0x16 7 = 192 ∧ layerBudget 0x17 8 = 204 := by
  decide +kernel

/-- 05: a 1080p59.94 4:2:2 10-bit slot with every level ends at byte 6,944,000 and needs 4 pages. -/
theorem test_slot : slotBytes (fmtOf 4 7 0 0 2 0 0) 1 31 false = 6944000 ∧ slotPagesOf (fmtOf 4 7 0 0 2 0 0) 1 31 false = 4 := by decide +kernel

/-- 03: two draws among P0 with 32 tickets, P1 with 16 and P3 with none. -/
theorem test_draws :
    let layby := [req 0 0 0 [], { req 0 0 0 [] with part := 3 }, { req 0 0 0 [] with part := 1 }]
    let tickets : Nat → Nat := fun p => if p = 0 then 32 else if p = 1 then 16 else 0
    (drawFrom tickets 0x90000000 layby).map (·.part) = some 0 ∧ (drawFrom tickets 0xC0000000 layby).map (·.part) = some 1 ∧
      ringDist 256 4 250 = 10 := by decide +kernel

/-- 09: scaler coefficients at phases 0 and 32; alpha, and the luma of a half-transparent graphic over grey. -/
theorem test_pixels : (List.range 4).map (basicTaps 32) = [-16, 144, 144, -16] ∧ (List.range 4).map (basicTaps 0) = [0, 256, 0, 0] ∧
    graphicAlpha 128 = 2056 ∧ effectiveAlpha 2056 4096 = 2056 ∧ blendStep 1744 1001 256 2056 = 1243 := by decide +kernel

/-- 16: words of the freeze detector, each with its opcode and legal bits. -/
theorem test_probe_words :
    ∀ x ∈ [(0x1F, 0x03C000FF, 0x7E000010), (0x09, 0x03FC0000, 0x26600000), (0x12, 0x03C0FFFF, 0x4A400007), (0x11, 0x03C0FFFF, 0x46400001),
      (0x02, 0x03C0FFFF, 0x0880002C), (0x08, 0x03C0FFFF, 0x23800064), (0x1C, 0x03E0FFFF, 0x70807E90), (0x24, 0x02000000, 0x90000000),
      (0x06, 0x02FFFC0F, 0x1800640A), (0x1B, 0x03FFF000, 0x6C009000), (0x23, 0x023FF800, 0x8C005000), (0x26, 0x03FFC000, 0x9946C000),
      (0x38, 0x03C0000F, 0xE1400000), (0x10, 0x03C0FFFF, 0x43400001), (0x0F, 0x003FC000, 0x3C178000), (0x17, 0x03FFC000, 0x5F77C000),
      (0x39, 0xF, 0xE4000008), (0x01, 0, 0x04000000)], (running up {} x.2.2).atOp 31 x.1 x.2.1 :=
  fun x h => at_of (by revert x; decide +kernel)

/-- The state that a command answers. -/
def after (i : Instr) (s : State) : State := match exec i s with | .next t => t | _ => s

/-- 16: LDI D14, #100; SETX X1, CUR, #32400; STA D5 of the largest sum; ADDI D13, #1; LPR 0, D10, 25; MIN D13, D13, D15. -/
theorem test_probe_results :
    (((after (.ldi 31) (running up {} 0x23800064)).core 31).dreg 14 = 100) ∧
    (((after (.setx 31) (running up {} 0x70807E90)).core 31).xf 1 0 = 32400) ∧
    (((after (.sta 31) (running up { a0 := 33145200 } 0x9946C000)).core 31).dreg 5 = 32368) ∧
    (((after (.addi 31) (running up { d := [(13, 29)] } 0x43400001)).core 31).dreg 13 = 30) ∧
    (((after (.lpr 31) (running up { d := [(10, 32400)] } 0x1800640A)).core 31).loop0.count = 32400) ∧
    (((after (.minReg 31) (running up { d := [(13, 31), (15, 30)] } 0x5F77C000)).core 31).dreg 13 = 30) := by decide +kernel

/-- 13: a gain of one half on 0x12_3457. -/
theorem test_gain : mixTerm 305420032 0x00800000 false = 152710016 := by decide +kernel

/-- 21: SHA-384 of the three bytes "abc", as FIPS 180-4 gives it. -/
theorem test_sha384 : sha384 [0x61, 0x62, 0x63] =
    0xcb00753f45a35e8bb5a03d699ac65007272c32ab0eded1631a8b605a43ff5bed8086072ba1e7cc2358baeca134c825a7 := by decide +kernel

/-- 23: the examples of R563 and R564. -/
theorem test_balls : (sdiRxBall 200 false).name = "P20" ∧ (sdiRxBall 200 true).name = "P21" ∧ (medRxBall 37 false).name = "AF10" ∧
    (medRxBall 37 true).name = "AG10" ∧ siteSignal 83 = .aesIn 5 ∧ (siteBall 83).name = "AL60" := by decide +kernel

end Sys2Proof.Tests
end

/-! # Proofs: every step keeps the canonical form, and every command completes -/

namespace Sys2Proof.Machine
open Reg

section
variable {z : State}

/-! ### The last commands of the table: the fill of a probe core, and the debug port -/

/-- A core that starts anew counts its cycles from 0. -/
theorem Canon.restartCycles {s : State} (h : Canon z s) (c : Nat) : Canon z (s.setCore c { s.core c with cycles := 0 }) :=
  h.setCore c (CoreOk.of_eq (h.core c) rfl rfl)

theorem Canon.on_execProbeFillDone {s : State} (h : Canon z s) (c : Fin 32) : CanonX z (execProbeFillDone c s) := by
  have filled : Canon z (s.upTo 4 fun s i => s.endFill c i) := h.upTo 4 fun _ _ ht => ht.endFill _ _
  unfold execProbeFillDone
  dsimp only
  generalize (s.upTo 4 fun s i => s.endFill c i) = t at filled
  have started := ((filled.setFld PROBE_STATE coreRunning c 0).setFld PROBE_PC (t.fld PROBE_ENTRY c) c 0).restartCycles c
  exact .ite (.next h) (.next (.ite (started.enterDebug _ _) started))

theorem Canon.on_execIcTimeout {s : State} (h : Canon z s) (target : Option (Fin 14)) (master : Fin 12) (request : Unanswered) :
    CanonX z (execIcTimeout target master request s) := by
  cases target with
  | none => exact .next (h.decodeError _ _)
  | some t =>
    exact .ite (.next (h.decodeError _ _)) (.ite (.next h.accessTimeout) (.ite (.next h.icTimedOut) (.next h)))

theorem Canon.on_execDbgOperationDone {s : State} (h : Canon z s) : CanonX z (execDbgOperationDone s) := by
  unfold execDbgOperationDone
  cases s.dbg.op with
  | none => exact .next h
  | some o => exact .next (.ite h h.publishOp)

/-! ### One command, one step -/

/-- Every command keeps the canonical form, the queue, what has left the block and the count of free values: each by the
law of its own meaning. -/
theorem Canon.on_exec {s : State} (h : Canon z s) (c : Instr) : CanonX z (exec c s) := by
  cases c with
  | registerWrite w off width val => exact h.on_execRegisterWrite w off width val
  | bar0ReadError r off width => exact h.on_execBar0ReadError r off width
  | bar2AccessError r off isRead => exact h.on_execBar2AccessError r off isRead
  | accerrClear w p val => exact h.on_execAccerrClear w p val
  | perstRelease ep => exact h.on_execPerstRelease ep
  | pcieLinkDown ep => exact h.on_execPcieLinkDown ep
  | hotReset ep => exact h.on_execHotReset ep
  | functionLevelReset p => exact h.on_execFunctionLevelReset p
  | partRst w p => exact h.on_execPartRst w p
  | claim w p ori => exact h.on_execClaim w p ori
  | release w p ori => exact h.on_execRelease w p ori
  | share w p ori => exact h.on_execShare w p ori
  | unshare w p ori => exact h.on_execUnshare w p ori
  | assign w p ori target => exact h.on_execAssign w p ori target
  | heartbeat w p => exact h.on_execHeartbeat w p
  | leaseMs w p val => exact h.on_execLeaseMs w p val
  | leaseExpiry p => exact h.on_execLeaseExpiry p
  | revoke w p => exact h.on_execRevoke w p
  | revocationTransfer p => exact h.on_execRevocationTransfer p
  | pcbEnableSet w p => exact h.on_execPcbEnableSet w p
  | pcbEnableClear w p => exact h.on_execPcbEnableClear w p
  | ringEnable w p ring val => exact h.on_execRingEnable w p ring val
  | ringDisable w p ring val => exact h.on_execRingDisable w p ring val
  | commandTailDoorbell p k width val => exact h.on_execCommandTailDoorbell p k width val
  | completionHeadDoorbell p k width val => exact h.on_execCompletionHeadDoorbell p k width val
  | eventHeadDoorbell p e width val => exact h.on_execEventHeadDoorbell p e width val
  | ringFetch p k answer => exact h.on_execRingFetch p k answer
  | descriptorReadError p access addr => exact h.on_execDescriptorReadError p access addr
  | bufferRead p k answer => exact h.on_execBufferRead p k answer
  | hostFaultClear w p ring => exact h.on_execHostFaultClear w p ring
  | enginePlacement p k => exact h.on_execEnginePlacement p k
  | engineDraw e => exact h.on_execEngineDraw e
  | cmdFreeze w e freeze => exact h.on_execCmdFreeze w e freeze
  | engRst w e => exact h.on_execEngRst w e
  | wdogUs w e val => exact h.on_execWdogUs w e val
  | lfsrSeed w e val => exact h.on_execLfsrSeed w e val
  | engineStuck e => exact h.on_execEngineStuck e
  | coalescingTimeout p ring => exact h.on_execCoalescingTimeout p ring
  | nop e => exact h.on_execNop e
  | badOpcode e => exact h.on_execBadOpcode e
  | fence e => exact h.on_execFence e
  | fenceMet p k => exact h.on_execFenceMet p k
  | fenceTimeout p k => exact h.on_execFenceTimeout p k
  | route e => exact h.on_execRoute e
  | routeBulk e => exact h.on_execRouteBulk e
  | audioMap e => exact h.on_execAudioMap e
  | audioGain e => exact h.on_execAudioGain e
  | layer e => exact h.on_execLayer e
  | compositorSet e => exact h.on_execCompositorSet e
  | freshPolicy e => exact h.on_execFreshPolicy e
  | commit e => exact h.on_execCommit e
  | commitAbort e => exact h.on_execCommitAbort e
  | bankFlip e => exact h.on_execBankFlip e
  | bankFlipAbort e => exact h.on_execBankFlipAbort e
  | alloc e => exact h.on_execAlloc e
  | graphicLoad e => exact h.on_execGraphicLoad e
  | thumbCapture e => exact h.on_execThumbCapture e
  | thumbCaptureDone p k fail => exact h.on_execThumbCaptureDone p k fail
  | ancDrain e fail => exact h.on_execAncDrain e fail
  | ancInsert e => exact h.on_execAncInsert e
  | statsSnapshot e fail => exact h.on_execStatsSnapshot e fail
  | flowAdd e => exact h.on_execFlowAdd e
  | flowDel e => exact h.on_execFlowDel e
  | probeLoad e => exact h.on_execProbeLoad e
  | probeStart e => exact h.on_execProbeStart e
  | probeStop e => exact h.on_execProbeStop e
  | probeReset e => exact h.on_execProbeReset e
  | probeResetStart e => exact h.on_execProbeResetStart e
  | timeQuery e => exact h.on_execTimeQuery e
  | acceptStep e => exact h.on_execAcceptStep e
  | handover e => exact h.on_execHandover e
  | tmNowLo r => exact h.on_execTmNowLo r
  | refSignalPresent r => exact h.on_execRefSignalPresent r
  | refQualified r => exact h.on_execRefQualified r
  | refLoss loss => exact h.on_execRefLoss loss
  | holdoffExpiry => exact h.on_execHoldoffExpiry
  | refSelectionTick m => exact h.on_execRefSelectionTick m
  | wtrExpiry => exact h.on_execWtrExpiry
  | prioWrite w r val => exact h.on_execPrioWrite w r val
  | lockAcquired => exact h.on_execLockAcquired
  | lockLost => exact h.on_execLockLost
  | holdoverOos => exact h.on_execHoldoverOos
  | setGo w => exact h.on_execSetGo w
  | offsetNs w plane val => exact h.on_execOffsetNs w plane val
  | wclkLost => exact h.on_execWclkLost
  | frameStart plane => exact h.on_execFrameStart plane
  | lineStart plane late => exact h.on_execLineStart plane late
  | selectionInstant reader => exact h.on_execSelectionInstant reader
  | sampleTick => exact h.on_execSampleTick
  | audioBlock => exact h.on_execAudioBlock
  | milepost => exact h.on_execMilepost
  | stagingDeadline => exact h.on_execStagingDeadline
  | decisionInstant late => exact h.on_execDecisionInstant late
  | flipSettle p => exact h.on_execFlipSettle p
  | discard w p => exact h.on_execDiscard w p
  | sourceFrameStart rx cut => exact h.on_execSourceFrameStart rx cut
  | sdiFrameEnd rx frame => exact h.on_execSdiFrameEnd rx frame
  | slotClose n => exact h.on_execSlotClose n
  | closeDeadline n => exact h.on_execCloseDeadline n
  | eccCorrected stack qp byte scrub => exact h.on_execEccCorrected stack qp byte scrub
  | memUe stack qp line byte => exact h.on_execMemUe stack qp line byte
  | scrubPassEnd stack finished => exact h.on_execScrubPassEnd stack finished
  | tempSensorRead die hbm => exact h.on_execTempSensorRead die hbm
  | dstEnable w d => exact h.on_execDstEnable w d
  | dstDisable w d => exact h.on_execDstDisable w d
  | sdiLaneLock l rate => exact h.on_execSdiLaneLock l rate
  | sdiLoss rx cut => exact h.on_execSdiLoss rx cut
  | quadMemberLost l skew => exact h.on_execQuadMemberLost l skew
  | quadMemberRejoin l => exact h.on_execQuadMemberRejoin l
  | ancPacketReceived rx packet => exact h.on_execAncPacketReceived rx packet
  | mportEnable w m => exact h.on_execMportEnable w m
  | mportDisable w m => exact h.on_execMportDisable w m
  | portUp m => exact h.on_execPortUp m
  | portDown m => exact h.on_execPortDown m
  | linkTrainingEnd l taps => exact h.on_execLinkTrainingEnd l taps
  | mediaFrameReceive m frame => exact h.on_execMediaFrameReceive m frame
  | shortPathLookup isl => exact h.on_execShortPathLookup isl
  | hpRxHead w m val => exact h.on_execHpRxHead w m val
  | hpTxTail w m val => exact h.on_execHpTxTail w m val
  | hpRingEnable w m tx val => exact h.on_execHpRingEnable w m tx val
  | hpTxSend m answer => exact h.on_execHpTxSend m answer
  | flowLegDown f => exact h.on_execFlowLegDown f
  | netLoss n => exact h.on_execNetLoss n
  | sendPacketDue f => exact h.on_execSendPacketDue f
  | lanePllUnlock pll => exact h.on_execLanePllUnlock pll
  | lanePllRelock pll => exact h.on_execLanePllRelock pll
  | lanePowerUp w l => exact h.on_execLanePowerUp w l
  | lanePowerDown w l => exact h.on_execLanePowerDown w l
  | laneReady l => exact h.on_execLaneReady l
  | adaptDone l eq => exact h.on_execAdaptDone l eq
  | txeqWrite w l val => exact h.on_execTxeqWrite w l val
  | loopWrite w l val => exact h.on_execLoopWrite w l val
  | prbsChkWrite w l val => exact h.on_execPrbsChkWrite w l val
  | esGo w l => exact h.on_execEsGo w l
  | esDone l errors => exact h.on_execEsDone l errors
  | esAbort l errors bits => exact h.on_execEsAbort l errors bits
  | cwBlockLockGained seen => exact h.on_execCwBlockLockGained seen
  | cwLaneDown l headers => exact h.on_execCwLaneDown l headers
  | alignmentMarker l marker bip skew => exact h.on_execAlignmentMarker l marker bip skew
  | cwMarkerSend => exact h.on_execCwMarkerSend
  | filler arrived => exact h.on_execFiller arrived
  | ainWrite w n word val => exact h.on_execAinWrite w n word val
  | agrpWrite w g val => exact h.on_execAgrpWrite w g val
  | embWrite w d word val => exact h.on_execEmbWrite w d word val
  | asrcLock feed => exact h.on_execAsrcLock feed
  | aesinEnable w ix en => exact h.on_execAesinEnable w ix en
  | aesinBind w ix word val => exact h.on_execAesinBind w ix word val
  | aesFrame ix frame => exact h.on_execAesFrame ix frame
  | zPreamble ix => exact h.on_execZPreamble ix
  | channelStatusBlock ix => exact h.on_execChannelStatusBlock ix
  | aesLoss ix => exact h.on_execAesLoss ix
  | aesoutEnable w o => exact h.on_execAesoutEnable w o
  | aesoutDisable w o => exact h.on_execAesoutDisable w o
  | outCh w o val => exact h.on_execOutCh w o val
  | ancqEnable w q => exact h.on_execAncqEnable w q
  | ancqDisable w q => exact h.on_execAncqDisable w q
  | fsrcWrite w q val => exact h.on_execFsrcWrite w q val
  | watermarkWrite w q val => exact h.on_execWatermarkWrite w q val
  | consumerWrite w q val => exact h.on_execConsumerWrite w q val
  | probeTrigger c => exact h.on_execProbeTrigger c
  | probeFillDone c => exact h.on_execProbeFillDone c
  | probeWindowWrite w c win word val => exact h.on_execProbeWindowWrite w c win word val
  | probeNop c => exact h.on_execProbeNop c
  | halt c => exact h.on_execHalt c
  | br c => exact h.on_execBr c
  | call c => exact h.on_execCall c
  | ret c => exact h.on_execRet c
  | lp c => exact h.on_execLp c
  | lpr c => exact h.on_execLpr c
  | lpx c => exact h.on_execLpx c
  | ldi c => exact h.on_execLdi c
  | mov c => exact h.on_execMov c
  | add c => exact h.on_execAdd c
  | sub c => exact h.on_execSub c
  | andReg c => exact h.on_execAndReg c
  | orReg c => exact h.on_execOrReg c
  | xorReg c => exact h.on_execXorReg c
  | cmp c => exact h.on_execCmp c
  | addi c => exact h.on_execAddi c
  | cmpi c => exact h.on_execCmpi c
  | andi c => exact h.on_execAndi c
  | shl c => exact h.on_execShl c
  | shr c => exact h.on_execShr c
  | sra c => exact h.on_execSra c
  | absReg c => exact h.on_execAbsReg c
  | minReg c => exact h.on_execMinReg c
  | maxReg c => exact h.on_execMaxReg c
  | ld c => exact h.on_execLd c
  | st c => exact h.on_execSt c
  | ldd c => exact h.on_execLdd c
  | setx c => exact h.on_execSetx c
  | movx c => exact h.on_execMovx c
  | getx c => exact h.on_execGetx c
  | gets c => exact h.on_execGets c
  | mpy c => exact h.on_execMpy c
  | mac c => exact h.on_execMac c
  | msu c => exact h.on_execMsu c
  | ada c => exact h.on_execAda c
  | clra c => exact h.on_execClra c
  | mova c => exact h.on_execMova c
  | sta c => exact h.on_execSta c
  | pop c => exact h.on_execPop c
  | push c => exact h.on_execPush c
  | pushResume c => exact h.on_execPushResume c
  | qctl c => exact h.on_execQctl c
  | post c => exact h.on_execPost c
  | vrd c => exact h.on_execVrd c
  | sig c => exact h.on_execSig c
  | tokenInAsserted => exact h.on_execTokenInAsserted
  | tokenInDeasserted => exact h.on_execTokenInDeasserted
  | pairFaultNLow => exact h.on_execPairFaultNLow
  | negotiationWait => exact h.on_execNegotiationWait
  | helloInterval => exact h.on_execHelloInterval
  | timeInterval => exact h.on_execTimeInterval
  | healthInterval => exact h.on_execHealthInterval
  | peerLost => exact h.on_execPeerLost
  | joinTimeout => exact h.on_execJoinTimeout
  | heldRetry => exact h.on_execHeldRetry
  | hello flags mseq words => exact h.on_execHello flags mseq words
  | role flags mseq words => exact h.on_execRole flags mseq words
  | linkAck flags mseq words => exact h.on_execLinkAck flags mseq words
  | time flags mseq words => exact h.on_execTime flags mseq words
  | select flags mseq words => exact h.on_execSelect flags mseq words
  | tear flags mseq words => exact h.on_execTear flags mseq words
  | audioDec flags mseq words => exact h.on_execAudioDec flags mseq words
  | digIn flags mseq words => exact h.on_execDigIn flags mseq words
  | digOut flags mseq words => exact h.on_execDigOut flags mseq words
  | digAud flags mseq words => exact h.on_execDigAud flags mseq words
  | digestMissing => exact h.on_execDigestMissing
  | health flags mseq words => exact h.on_execHealth flags mseq words
  | katReq flags mseq words => exact h.on_execKatReq flags mseq words
  | mirrorCmd flags mseq words => exact h.on_execMirrorCmd flags mseq words
  | mirrorData flags mseq words => exact h.on_execMirrorData flags mseq words
  | mirrorReg flags mseq words => exact h.on_execMirrorReg flags mseq words
  | mirrorRegApply => exact h.on_execMirrorRegApply
  | mirrorOwn flags mseq words => exact h.on_execMirrorOwn flags mseq words
  | groupEnd flags mseq words => exact h.on_execGroupEnd flags mseq words
  | groupAck flags mseq words => exact h.on_execGroupAck flags mseq words
  | decision flags mseq words => exact h.on_execDecision flags mseq words
  | decisionMissing => exact h.on_execDecisionMissing
  | snapBegin flags mseq words => exact h.on_execSnapBegin flags mseq words
  | snapEnd flags mseq words => exact h.on_execSnapEnd flags mseq words
  | seqAlign flags mseq words => exact h.on_execSeqAlign flags mseq words
  | retransmitTimeout => exact h.on_execRetransmitTimeout
  | linkAckInterval => exact h.on_execLinkAckInterval
  | messageTimeout => exact h.on_execMessageTimeout
  | katPeriod => exact h.on_execKatPeriod
  | katComplete island pass => exact h.on_execKatComplete island pass
  | handoverApply => exact h.on_execHandoverApply
  | handoverRelease => exact h.on_execHandoverRelease
  | fltSevWrite w source val => exact h.on_execFltSevWrite w source val
  | ackGo w record => exact h.on_execAckGo w record
  | safeStateReached => exact h.on_execSafeStateReached
  | safeReq => exact h.on_execSafeReq
  | sramCe mem unit => exact h.on_execSramCe mem unit
  | ctrlUe mem unit addr => exact h.on_execCtrlUe mem unit addr
  | railFault rail => exact h.on_execRailFault rail
  | brownOut rail straps => exact h.on_execBrownOut rail straps
  | roscOk => exact h.on_execRoscOk
  | roscStartTimeout => exact h.on_execRoscStartTimeout
  | clockStopCheck mon stopped => exact h.on_execClockStopCheck mon stopped
  | clockFrequencyCheck mon ppm => exact h.on_execClockFrequencyCheck mon ppm
  | clockReturn mon => exact h.on_execClockReturn mon
  | pllRelock pll => exact h.on_execPllRelock pll
  | clockSwitchDone isl => exact h.on_execClockSwitchDone isl
  | clkswForced isl => exact h.on_execClkswForced isl
  | icgRampStep isl => exact h.on_execIcgRampStep isl
  | towEnable w b val => exact h.on_execTowEnable w b val
  | towDisable w b val => exact h.on_execTowDisable w b val
  | txGo w b => exact h.on_execTxGo w b
  | txFlush w b => exact h.on_execTxFlush w b
  | rxPop w b => exact h.on_execRxPop w b
  | towFrameReceive b f => exact h.on_execTowFrameReceive b f
  | towTxStart b defers => exact h.on_execTowTxStart b defers
  | towCollision b bitTime => exact h.on_execTowCollision b bitTime
  | towJamEnd b => exact h.on_execTowJamEnd b
  | towBackoffEnd b => exact h.on_execTowBackoffEnd b
  | towTxDone b => exact h.on_execTowTxDone b
  | towBusFail b => exact h.on_execTowBusFail b
  | powerOnReset straps => exact h.on_execPowerOnReset straps
  | pinReset straps => exact h.on_execPinReset straps
  | warmRst w => exact h.on_execWarmRst w
  | fuseLoadDone fuses => exact h.on_execFuseLoadDone fuses
  | bankCheckDone readOk => exact h.on_execBankCheckDone readOk
  | bootRecordApplied record => exact h.on_execBootRecordApplied record
  | memoryTrainingDone ok => exact h.on_execMemoryTrainingDone ok
  | settingsApplied => exact h.on_execSettingsApplied
  | serviceReached readOk => exact h.on_execServiceReached readOk
  | flDataRead r => exact h.on_execFlDataRead r
  | flDataWrite w val => exact h.on_execFlDataWrite w val
  | erase w => exact h.on_execErase w
  | program w => exact h.on_execProgram w
  | deltaGo w => exact h.on_execDeltaGo w
  | prefA w => exact h.on_execPrefA w
  | prefB w => exact h.on_execPrefB w
  | save w => exact h.on_execSave w
  | flashOpDone ok => exact h.on_execFlashOpDone ok
  | fwDeltaDone readOk eraseOk programOk => exact h.on_execFwDeltaDone readOk eraseOk programOk
  | settingsMigrated ok => exact h.on_execSettingsMigrated ok
  | settingsAutosave => exact h.on_execSettingsAutosave
  | blowDbg w => exact h.on_execBlowDbg w
  | fuseKey w val => exact h.on_execFuseKey w val
  | domainGateRequest w d => exact h.on_execDomainGateRequest w d
  | domainWakeRequest w d => exact h.on_execDomainWakeRequest w d
  | domainOffReached d => exact h.on_execDomainOffReached d
  | domainOnReached d => exact h.on_execDomainOnReached d
  | islRst w d => exact h.on_execIslRst w d
  | tapReset => exact .next (h.loadIr _)
  | idcode => exact .next ((h.scanIr _).emit _)
  | samplePreload => exact .next (h.scanIr _).boundaryScan
  | extest => exact .next (h.scanRequest _).boundaryScan
  | clamp => exact .next (h.scanRequest _)
  | highz => exact .next (h.scanRequest _)
  | bypass => exact .next ((h.scanIr _).emit _)
  | dbgStatus => exact .next ((h.scanIr _).emit _)
  | dbgRead addr => exact .next (h.dbgScan _ _)
  | dbgWrite addr val => exact .next (h.dbgScan _ _)
  | attach => exact .next (h.dbgScan _ _)
  | detach => exact .next (h.dbgScan _ _)
  | goRd => exact .next (h.dbgScan _ _)
  | goWr => exact .next (h.dbgScan _ _)
  | busAccessDone answer => exact .next (h.accessDone _)
  | haltReq k => exact .next (h.coreCtl _ _)
  | resume k => exact .next (h.coreCtl _ _)
  | step k => exact .next (h.coreCtl _ _)
  | regData k hi write => exact .next (h.dbgScan _ _)
  | icTimeout target master request => exact h.on_execIcTimeout target master request
  | decSeen w => exact h.on_execDecSeen w
  | audioPlaneSourceReturn => exact h.on_execAudioPlaneSourceReturn
  | railReturn rail => exact h.on_execRailReturn rail
  | safeReqNRelease => exact h.on_execSafeReqNRelease
  | msgCrcErr => exact h.on_execMsgCrcErr
  | claimComplete => exact h.on_execClaimComplete
  | dbgOperationDone => exact h.on_execDbgOperationDone
  | msixTableWrite p dword val => exact h.on_execMsixTableWrite p dword val

end

/-- A step runs the front command on the rest of the queue, or passes one nanosecond; either keeps the canonical form. -/
theorem canonical_of_step {s t : State} (hs : s.canonical = true) (h : step s = .next t) : t.canonical = true := by
  unfold step at h
  cases hp : s.pending with
  | nil =>
    rw [hp] at h
    exact Host.Outcome.next.inj h ▸ (Canon.start hs).idle.canonical
  | cons c rest =>
    rw [hp] at h
    have dequeued : State.canonical { s with pending := rest } = true := hs
    exact ((Canon.start dequeued).on_exec c t h).canonical

/-- Settles O2: from a canonical state, the step keeps what `Canon` says, whatever command stands at the front. -/
theorem stepKeepsCanonical : Obligations.StepKeepsCanonical := fun _ _ => canonical_of_step

/-! ### No command faults or is refused -/

theorem Completes.next (s : State) : Completes (.next s) := ⟨s, rfl⟩

theorem Completes.ite {c : Prop} [Decidable c] {a b : Host.Outcome State Fault Refusal} (ha : Completes a)
    (hb : Completes b) : Completes (if c then a else b) := by
  split <;> assumption

/-- Every command answers a next state. Three shapes of meaning: commands that take effect under a condition, commands
that look something up first (a descriptor in hand, a running operation, an operand's form), and commands that take
effect at once. -/
theorem exec_completes (c : Instr) (s : State) : Completes (exec c s) := by
  cases c with
  | pcieLinkDown | commandTailDoorbell | completionHeadDoorbell | eventHeadDoorbell | refQualified | refLoss |
  wclkLost | decisionInstant | closeDeadline | eccCorrected | scrubPassEnd | sdiLaneLock | quadMemberRejoin | portUp |
  mediaFrameReceive | netLoss | lanePllRelock | adaptDone | esDone | esAbort | cwBlockLockGained | cwMarkerSend |
  filler | channelStatusBlock | aesLoss | probeFillDone | br | pushResume | tokenInAsserted | tokenInDeasserted |
  negotiationWait | helloInterval | timeInterval | healthInterval | joinTimeout | heldRetry | retransmitTimeout |
  linkAckInterval | katPeriod | safeReq | railFault | roscOk | clockReturn | towTxStart | towCollision | towJamEnd |
  towTxDone | bankCheckDone | bootRecordApplied | memoryTrainingDone | settingsApplied | serviceReached | fwDeltaDone
  | settingsAutosave | domainOffReached | domainOnReached | audioPlaneSourceReturn =>
    repeat' first | exact .next _ | refine .ite ?_ ?_
  | bar2AccessError | revocationTransfer | descriptorReadError | bufferRead | enginePlacement | badOpcode | fence |
  fenceMet | thumbCapture | thumbCaptureDone | ancDrain | statsSnapshot | lockAcquired | lockLost | flipSettle |
  sourceFrameStart | sdiFrameEnd | slotClose | ancPacketReceived | linkTrainingEnd | shortPathLookup | hpTxSend |
  flowLegDown | sendPacketDue | asrcLock | aesFrame | zPreamble | handoverApply | handoverRelease | safeStateReached |
  pllRelock | clockSwitchDone | clkswForced | icgRampStep | towFrameReceive | towBackoffEnd | fuseLoadDone |
  flashOpDone | settingsMigrated | icTimeout | claimComplete =>
    dsimp only
      [exec, execBar2AccessError, execRevocationTransfer, execDescriptorReadError, execBufferRead,
       execEnginePlacement, execBadOpcode, execFence, execFenceMet, execThumbCapture, execThumbCaptureDone,
       execAncDrain, execStatsSnapshot, execLockAcquired, execLockLost, execFlipSettle, execSourceFrameStart,
       execSdiFrameEnd, execSlotClose, execAncPacketReceived, execLinkTrainingEnd, execShortPathLookup, execHpTxSend,
       execFlowLegDown, execSendPacketDue, execAsrcLock, execAesFrame, execZPreamble, execHandoverApply,
       execHandoverRelease, execSafeStateReached, execPllRelock, execClockSwitchDone, execClkswForced,
       execIcgRampStep, execTowFrameReceive, execTowBackoffEnd, execFuseLoadDone, execFlashOpDone,
       execSettingsMigrated, execIcTimeout, execClaimComplete]
    repeat' first | exact .next _ | refine .ite ?_ ?_ | split
  | _ => exact .next _

/-- Settles O3: every command completes by its shape, and what it keeps is what `Canon` counts from the state before. -/
theorem commandsComplete : Obligations.CommandsComplete := by
  refine ⟨exec_completes, fun c s t hs ht => ?_⟩
  have kept := (Canon.start hs).on_exec c t ht
  exact ⟨kept.queue, kept.outStays, kept.freeGrows⟩

end Sys2Proof.Machine

/-! # Proofs: the state after reset, and what each reset restarts and keeps -/

namespace Sys2Proof.Machine
open Reg

/-! ### Register fields after a reset of a class -/

/-- A filter on keys keeps an entry or drops it, whatever stands before it. -/
theorem Tab.find?_filter_key {α : Type} (t : Tab α) (p : Nat → Bool) (k : Nat) :
    Tab.find? (t.filter fun e => p e.1) k = if p k then Tab.find? t k else none := by
  induction t with
  | nil => simp [Tab.find?]
  | cons e t ih =>
    obtain ⟨k', v⟩ := e
    by_cases hk : k' = k
    · subst hk
      cases hp : p k' <;> simp [Tab.find?, hp, ih]
    · cases hp : p k' <;> simp [Tab.find?, hp, hk, ih]

/-- A reset of a class keeps a field of a stronger Keep class and puts every other one at its reset value (R9). -/
theorem State.fld_clearClass (s : State) (c : ResetClass) {f g : Field} {i j : Nat} (hg : fieldOfKey (f.key i j) = some g) :
    (s.clearClass c).fld f i j = if c.rank < g.keep.rank then s.fld f i j else f.reset i j % 2 ^ f.w := by
  have hf : Tab.find? (s.clearClass c).regs (f.key i j) = if c.rank < g.keep.rank then Tab.find? s.regs (f.key i j) else none := by
    have := Tab.find?_filter_key s.regs
      (fun k => match fieldOfKey k with | some f => decide (c.rank < f.keep.rank) | none => false) (f.key i j)
    simp only [hg, decide_eq_true_eq] at this
    exact this
  unfold State.fld
  rw [hf]
  split <;> rfl

/-! ### What every power-on and pin reset does after its restart -/

/-- The register fields that a blown DBG_KILL and the straps decide (R4, R430, R506). -/
def strapKeys : List Nat :=
  [DOM_REQ.key 183 0, DOM_DSTATE.key 183 0, DOM_LOCKED_OFF.key 183 0, CWAY_ROLE_STRAP.key 0 0, BOOT_MODE.key 0 0,
   BOOT_TESTMODE_SEEN.key 0 0]

theorem State.fld_when {s : State} {b : Bool} {g : State → State} {f : Field} {i j : Nat} 
    (h : (g s).fld f i j = s.fld f i j) : (s.when b g).fld f i j = s.fld f i j := by
  cases b
  · rfl
  · exact h

/-- DBG_KILL and the straps touch no other field. -/
theorem State.fld_sampleStraps_applyDbgKill (s : State) (x : Straps) {f : Field} {i j : Nat} (h : f.key i j ∉ strapKeys) :
    (s.applyDbgKill.sampleStraps x).fld f i j = s.fld f i j := by
  simp only [strapKeys, List.mem_cons, List.not_mem_nil, or_false, not_or] at h
  obtain ⟨hReq, hState, hLocked, hStrap, hMode, hTest⟩ := h
  have killed : s.applyDbgKill.fld f i j = s.fld f i j := by
    refine State.fld_when (s := { s with dbg := { s.dbg with killed := s.boot.blownDbg } }) ?_
    rw [fld_setFld_ne _ _ _ _ _ _ _ _ (Ne.symm hLocked), fld_setFld_ne _ _ _ _ _ _ _ _ (Ne.symm hState),
      fld_setFld_ne _ _ _ _ _ _ _ _ (Ne.symm hReq)]
  unfold State.sampleStraps
  rw [fld_setFld_ne _ _ _ _ _ _ _ _ (Ne.symm hTest), fld_setFld_ne _ _ _ _ _ _ _ _ (Ne.symm hMode),
    fld_setFld_ne _ _ _ _ _ _ _ _ (Ne.symm hStrap), killed]

/-- Beside register fields, DBG_KILL and the straps decide whether the debug functions have ended, and nothing else. -/
theorem State.sampleStraps_applyDbgKill (s : State) (x : Straps) : s.applyDbgKill.sampleStraps x =
    { s with regs := (s.applyDbgKill.sampleStraps x).regs, dbg := { s.dbg with killed := s.boot.blownDbg } } := by
  unfold State.sampleStraps State.applyDbgKill State.when
  dsimp only
  cases s.boot.blownDbg <;> rfl

/-- The role strap as it was sampled. -/
theorem State.roleStrap_sampleStraps (s : State) (x : Straps) : (s.sampleStraps x).fldOn CWAY_ROLE_STRAP = x.role := by
  unfold State.fldOn State.sampleStraps
  rw [fld_setFld_ne _ _ _ _ _ _ _ _ (by decide), fld_setFld_ne _ _ _ _ _ _ _ _ (by decide), fld_setFld_self]
  cases x.role <;> rfl

/-- Without FATAL, a low SAFE_REQ_N or a safe state that is due, nothing enters the safe state again (R464). -/
theorem State.reenterSafe_of_none {s : State} (hf : s.fldOn FLT_FATAL = false) (hs : s.faults.safeReqLow = false)
    (hd : s.faults.safeDue = none) : s.reenterSafe = s := by
  unfold State.reenterSafe
  simp only [hf, hs, hd, State.when_false]

/-! ### The power-on reset -/

/-- What a power-on reset leaves before DBG_KILL and the straps act: what the flash and the fuses hold, SAFE_REQ_N, the
queue and what has left the block. -/
def State.poweredOff (s : State) : State :=
  { pending := s.pending, free := s.free, out := s.out, boot := s.boot.afterReset
    faults := { safeReqLow := s.faults.safeReqLow } }

/-- A power-on reset with SAFE_REQ_N high and no rail that failed. -/
theorem State.powerOn_eq {s : State} (x : Straps) (hs : s.faults.safeReqLow = false) (hr : s.faults.railsAtBoot = []) :
    s.powerOn x = s.poweredOff.applyDbgKill.sampleStraps x := by
  have quiet : (s.poweredOff.applyDbgKill.sampleStraps x).reenterSafe = s.poweredOff.applyDbgKill.sampleStraps x := by
    refine State.reenterSafe_of_none ?_ ?_ ?_
    · unfold State.fldOn
      rw [State.fld_sampleStraps_applyDbgKill _ _ (by decide)]; rfl
    · rw [State.sampleStraps_applyDbgKill]; exact hs
    · rw [State.sampleStraps_applyDbgKill]; rfl
  calc s.powerOn x = (s.poweredOff.applyDbgKill.sampleStraps x).reenterSafe.each s.faults.railsAtBoot
        (fun s n => s.raise Ev.RAIL_FAULT { data := n }) := rfl
    _ = s.poweredOff.applyDbgKill.sampleStraps x := by rw [hr, quiet]; rfl

/-! ### The pin reset -/

/-- What a pin reset leaves before DBG_KILL and the straps act. -/
def State.pinCleared (s : State) : State :=
  { (s.clearClass .pin).restart with
    host := {}, cway := {}, dbg := { ir := s.dbg.ir, cells := s.dbg.cells }, boot := s.boot.afterReset, lane := {}
    store := { retiredQp := s.store.retiredQp } }

/-- A pin reset outside a POR boot, with SAFE_REQ_N high and no FATAL. -/
theorem State.pinReset_eq {s : State} (x : Straps) (hs : s.faults.safeReqLow = false) (hf : s.fldOn FLT_FATAL = false)
    (hr : s.resetting 1 = false) :
    s.pinReset x = (s.pinCleared.applyDbgKill.sampleStraps x).setFld BOOT_LAST_RESET 2 := by
  have kept : ((s.pinCleared.applyDbgKill.sampleStraps x).setFld BOOT_LAST_RESET 2).fldOn FLT_FATAL = false := by
    unfold State.fldOn
    rw [State.fld_setFld_ne _ _ _ _ _ _ _ _ (by decide), State.fld_sampleStraps_applyDbgKill _ _ (by decide)]
    have := State.fld_clearClass s .pin (f := FLT_FATAL) (i := 0) (j := 0) (g := FLT_FATAL) rfl
    exact (congrArg (· != 0) this).trans hf
  calc s.pinReset x = ((s.pinCleared.applyDbgKill.sampleStraps x).setFld BOOT_LAST_RESET 
        (if s.resetting 1 then 1 else 2)).reenterSafe := rfl
    _ = _ := by
      rw [hr]
      refine State.reenterSafe_of_none kept ?_ ?_
      · rw [State.sampleStraps_applyDbgKill]; exact hs
      · rw [State.sampleStraps_applyDbgKill]; rfl

/-- A pin reset clears the stage of the boot, which lasts until PIN (R526). -/
theorem State.stage_pinCleared (s : State) : s.pinCleared.fld BOOT_STAGE = 0 :=
  State.fld_clearClass s .pin (f := BOOT_STAGE) (i := 0) (j := 0) (g := BOOT_STAGE) rfl

/-! ### The warm reset -/

/-- WARM_RST is a write of 1 at its offset in GLB. -/
theorem State.regWrite_warmRst (s : State) (w : Nat) : s.regWrite w 0xC 1 = s.warmReset := by
  unfold State.regWrite
  rw [blockAt_glb (by decide)]
  show s.writeGlb _ 0xC 1 = s.warmReset
  unfold State.writeGlb
  rw [if_pos rfl, if_pos (by decide)]

/-! ### The state right after reset -/

theorem State.reset_canonical : State.reset.canonical = true := rfl

/-- No register field is listed at reset, so each reads its table's reset value (R8). -/
theorem State.fld_reset (f : Field) (i j : Nat) : State.reset.fld f i j = f.reset i j % 2 ^ f.w := rfl

/-- Every engine is idle with its seed (R95). -/
theorem State.engine_reset (e : Nat) : State.reset.engine e = { lfsr := BitVec.ofNat 32 (e + 1) } := rfl

/-- Settles O56: the tables of State.reset list nothing, so every field, ring and engine reads its reset value. -/
theorem resetState : Obligations.ResetState := by
  refine ⟨State.reset_canonical, rfl, rfl, rfl, rfl, State.fld_reset CWAY_ROLE_STATE 0 0, State.fld_reset BOOT_STAGE 0 0,
    ?_, ?_, ?_, fun c => State.fld_reset PROBE_STATE c 0, fun p k => ⟨State.fld_reset RING_ENABLE p k, rfl⟩,
    fun e => ?_, State.fld_reset⟩
  · exact congrArg (· != 0) (State.fld_reset BOOT_SERVICE 0 0)
  · exact congrArg (· != 0) (State.fld_reset FLT_SAFE 0 0)
  · exact congrArg (· != 0) (State.fld_reset CWAY_TOKEN_OUT_A 0 0)
  · rw [State.engine_reset]; exact ⟨rfl, rfl⟩

/-- Settles O57: a power-on and a pin reset are a cleared state on which only DBG_KILL and the straps act, a warm reset is
the write of WARM_RST, and what the common restart clears and keeps stands in its definition. -/
theorem resets : Obligations.Resets := by
  intro s x
  refine ⟨fun _ => rfl, rfl, fun hs hr => ⟨_, rfl, ?_⟩, fun hs hf hr => ⟨_, rfl, ?_⟩, fun w hw => ?_,
    rfl, rfl, rfl, rfl, rfl, rfl, rfl, rfl, rfl⟩
  · rw [State.powerOn_eq x hs hr]
    refine ⟨State.fld_sampleStraps_applyDbgKill _ _ (by decide), ?_, State.fld_sampleStraps_applyDbgKill _ _ (by decide),
      State.roleStrap_sampleStraps _ _, ?_⟩
    · exact congrArg (· != 0) (State.fld_sampleStraps_applyDbgKill s.poweredOff x (f := FLT_SAFE) (by decide))
    · rw [State.sampleStraps_applyDbgKill]
      exact ⟨rfl, rfl, rfl, rfl, rfl, rfl, rfl, rfl, rfl, rfl, rfl, rfl⟩
  · rw [State.pinReset_eq x hs hf hr]
    refine ⟨?_, State.fld_setFld_self _ _ _ _ _, ?_⟩
    · rw [State.fld_setFld_ne _ _ _ _ _ _ _ _ (by decide), State.fld_sampleStraps_applyDbgKill _ _ (by decide)]
      exact s.stage_pinCleared
    · rw [State.sampleStraps_applyDbgKill]
      exact ⟨rfl, rfl, rfl, rfl, rfl, rfl, rfl, rfl⟩
  · exact congrArg Host.Outcome.next
      ((write32_accepted hw (by decide) 1).trans (congrArg (State.disarmed · w) (s.regWrite_warmRst w)))

end Sys2Proof.Machine

/-! # Proofs: register writes of audio windows, embedders, channel groups, AES3 ports and ANC queues -/

namespace Sys2Proof.Machine
open Reg

/-! ### What the blocks from AUD to ANCQ do with a word -/

theorem State.regWrite_aud (s : State) (w v : Nat) {off : Nat} (lo : 0x80000 ≤ off) (hi : off < 0x90000) :
    s.regWrite w off v = s.writeAud (Blk.aud.at? off) (off - 0x80000) v := by
  unfold State.regWrite
  rw [blockAt_aud lo hi]
  simp only [Nat.zero_mul, Nat.sub_zero]

theorem State.regWrite_ancq (s : State) (w v : Nat) {q rel : Nat} (hq : q < 256) (hr : rel < 0x40) :
    s.regWrite w (0xA0000 + 0x40 * q + rel) v = s.writeAncq (Blk.ancq.at? (0xA0000 + 0x40 * q + rel)) q rel v := by
  have hrel : 0xA0000 + 0x40 * q + rel - 0xA0000 - 0x40 * q = rel := by omega
  unfold State.regWrite
  rw [blockAt_ancq hq (by omega) (by omega)]
  simp only [hrel]

/-! ### What each register does with a word -/

/-- AIN[n] + 0 (R357). -/
theorem State.regWrite_ain (s : State) (w v : Nat) {n : Nat} (hn : n < 1024) :
    s.regWrite w (0x81000 + 8 * n) v = s.writeAin n v := by
  have hrel : (0x81000 + 8 * n - 0x80000 - 0x1000) / 8 = n := by omega
  rw [s.regWrite_aud w v (by omega) (by omega)]
  unfold State.writeAud
  rw [if_pos (by omega), hrel]

/-- AIN[n] + 4 holds plain fields (R361). -/
theorem State.regWrite_ain_link (s : State) (w v : Nat) {n : Nat} (hn : n < 1024) :
    s.regWrite w (0x81004 + 8 * n) v = s.putWord (Blk.aud.at? (0x81004 + 8 * n)) v := by
  rw [s.regWrite_aud w v (by omega) (by omega)]
  unfold State.writeAud
  rw [if_neg (by omega), if_neg (by omega), if_neg (by omega)]

/-- EMB[d] + 0 (R370). -/
theorem State.regWrite_emb0 (s : State) (w v : Nat) {d : Nat} (hd : d < 1024) :
    s.regWrite w (0x83000 + 8 * d) v = s.writeEmb0 d v := by
  have hrel : (0x83000 + 8 * d - 0x80000 - 0x3000) / 8 = d := by omega
  rw [s.regWrite_aud w v (by omega) (by omega)]
  unfold State.writeAud
  rw [if_neg (by omega), if_pos (by omega), if_pos (by omega), hrel]

/-- EMB[d] + 4 (R372). -/
theorem State.regWrite_emb4 (s : State) (w v : Nat) {d : Nat} (hd : d < 1024) :
    s.regWrite w (0x83004 + 8 * d) v = s.writeEmb4 d v := by
  have hrel : (0x83004 + 8 * d - 0x80000 - 0x3000) / 8 = d := by omega
  rw [s.regWrite_aud w v (by omega) (by omega)]
  unfold State.writeAud
  rw [if_neg (by omega), if_pos (by omega), if_neg (by omega), hrel]

/-- AGRP[g] (R365). -/
theorem State.regWrite_agrp (s : State) (w v : Nat) {g : Nat} (hg : g < 512) :
    s.regWrite w (0x85000 + 8 * g) v = s.writeAgrp g v := by
  have hrel : (0x85000 + 8 * g - 0x80000 - 0x5000) / 8 = g := by omega
  rw [s.regWrite_aud w v (by omega) (by omega)]
  unfold State.writeAud
  rw [if_neg (by omega), if_neg (by omega), if_pos (by omega), hrel]

/-- AESIN[i] + 0 (R380). -/
theorem State.regWrite_aesin0 (s : State) (w v : Nat) {i : Nat} (hi : i < 64) :
    s.regWrite w (0x90000 + 0x100 * i) v = s.writeAesIn0 w i v := by
  have hrel : 0x90000 + 0x100 * i - 0x90000 - 0x100 * i = 0 := by omega
  unfold State.regWrite
  rw [blockAt_aesin hi (by omega) (by omega)]
  exact if_pos hrel

/-- AESIN[i] + 4 (R380). -/
theorem State.regWrite_aesin4 (s : State) (w v : Nat) {i : Nat} (hi : i < 64) :
    s.regWrite w (0x90004 + 0x100 * i) v = s.writeAesIn4 w i v := by
  have hrel : 0x90004 + 0x100 * i - 0x90000 - 0x100 * i = 4 := by omega
  unfold State.regWrite
  rw [blockAt_aesin hi (by omega) (by omega)]
  simp only [hrel]
  rfl

/-- AESOUT[o] + 0 (R387). -/
theorem State.regWrite_aesout0 (s : State) (w v : Nat) {o : Nat} (ho : o < 64) :
    s.regWrite w (0x94000 + 0x100 * o) v = s.writeAesOut0 o v := by
  have hrel : 0x94000 + 0x100 * o - 0x94000 - 0x100 * o = 0 := by omega
  unfold State.regWrite
  rw [blockAt_aesout ho (by omega) (by omega)]
  exact if_pos hrel

/-- AESOUT[o] + 4 (R383). -/
theorem State.regWrite_outCh (s : State) (w v : Nat) {o : Nat} (ho : o < 64) :
    s.regWrite w (0x94004 + 0x100 * o) v = s.writeOutCh o v := by
  have hrel : 0x94004 + 0x100 * o - 0x94000 - 0x100 * o = 4 := by omega
  unfold State.regWrite
  rw [blockAt_aesout ho (by omega) (by omega)]
  simp only [hrel]
  rfl

/-- ANCQ[q] + 0 (R401, R402). -/
theorem State.regWrite_ancq0 (s : State) (w v : Nat) {q : Nat} (hq : q < 256) :
    s.regWrite w (0xA0000 + 0x40 * q) v = s.writeAncq0 q v :=
  s.regWrite_ancq w v hq (rel := 0) (by decide)

/-- ANCQ[q] + 8 (R394). -/
theorem State.regWrite_fsrc (s : State) (w v : Nat) {q : Nat} (hq : q < 256) :
    s.regWrite w (0xA0008 + 0x40 * q) v = s.writeFsrc q v := by
  rw [Nat.add_right_comm 0xA0000 8 (0x40 * q)]
  exact s.regWrite_ancq w v hq (rel := 8) (by decide)

/-- ANCQ[q] + 0x10 (R400). -/
theorem State.regWrite_watermark (s : State) (w v : Nat) {q : Nat} (hq : q < 256) :
    s.regWrite w (0xA0010 + 0x40 * q) v = s.writeWatermark q v := by
  rw [Nat.add_right_comm 0xA0000 0x10 (0x40 * q)]
  exact s.regWrite_ancq w v hq (rel := 0x10) (by decide)

/-! ### The commands that write a register from AUD upwards -/

/-- What is left of a write whose checks hold: its register's effect. Only BLOW_DBG's key register, below AUD, keeps the
key armed. -/
theorem write32_next {s t : State} {w off v : Nat} (h : s.writable w off) (ho : 0x80000 ≤ off)
    (effect : s.regWrite w off (v % 2 ^ 32) = t) :
    (Host.Outcome.next (s.write32 w off v) : Host.Outcome State Fault Refusal) = .next (t.disarmed w) := by
  rw [write32_accepted h (by omega), effect]

/-- A command's operand is a whole word. -/
theorem write32_word {s t : State} {w off : Nat} {val : Word} (h : s.writable w off) (ho : 0x80000 ≤ off)
    (effect : s.regWrite w off val.toNat = t) :
    (Host.Outcome.next (s.write32 w off val.toNat) : Host.Outcome State Fault Refusal) = .next (t.disarmed w) :=
  write32_next h ho (by rw [Nat.mod_eq_of_lt val.isLt]; exact effect)

theorem ainWrite_effects (s : State) (w : Fin 8) (val : Word) (n : Fin 1024) :
    (s.writable w (0x81000 + 8 * n) → exec (.ainWrite w n 0 val) s = .next ((s.writeAin n val.toNat).disarmed w)) ∧
    (s.writable w (0x81004 + 8 * n) → exec (.ainWrite w n 1 val) s =
      .next ((s.putWord (Blk.aud.at? (0x81004 + 8 * n)) val.toNat).disarmed w)) := by
  have second : 0x81000 + 8 * n.val + 4 * (1 : Fin 2).val = 0x81004 + 8 * n.val := by show _ + 4 * 1 = _; omega
  refine ⟨fun h => write32_word h (by omega) (s.regWrite_ain _ _ n.isLt), fun h => ?_⟩
  rw [exec_ainWrite, execAinWrite, second]
  exact write32_word h (by omega) (s.regWrite_ain_link _ _ n.isLt)

theorem embWrite_effects (s : State) (w : Fin 8) (val : Word) (d : Fin 1024) :
    (s.writable w (0x83000 + 8 * d) → exec (.embWrite w d 0 val) s = .next ((s.writeEmb0 d val.toNat).disarmed w)) ∧
    (s.writable w (0x83004 + 8 * d) → exec (.embWrite w d 1 val) s = .next ((s.writeEmb4 d val.toNat).disarmed w)) := by
  have second : 0x83000 + 8 * d.val + 4 * (1 : Fin 2).val = 0x83004 + 8 * d.val := by show _ + 4 * 1 = _; omega
  refine ⟨fun h => write32_word h (by omega) (s.regWrite_emb0 _ _ d.isLt), fun h => ?_⟩
  rw [exec_embWrite, execEmbWrite, second]
  exact write32_word h (by omega) (s.regWrite_emb4 _ _ d.isLt)

theorem agrpWrite_effect (s : State) (w : Fin 8) (val : Word) (g : Fin 512) (h : s.writable w (0x85000 + 8 * g)) :
    exec (.agrpWrite w g val) s = .next ((s.writeAgrp g val.toNat).disarmed w) :=
  write32_word h (by omega) (s.regWrite_agrp _ _ g.isLt)

theorem aesinBind_effects (s : State) (w : Fin 8) (val : Word) (i : Fin 64) :
    (s.writable w (0x90000 + 0x100 * i) →
      exec (.aesinBind w i 0 val) s = .next ((s.writeAesIn0 w i val.toNat).disarmed w)) ∧
    (s.writable w (0x90004 + 0x100 * i) →
      exec (.aesinBind w i 1 val) s = .next ((s.writeAesIn4 w i val.toNat).disarmed w)) := by
  have second : 0x90000 + 0x100 * i.val + 4 * (1 : Fin 2).val = 0x90004 + 0x100 * i.val := by show _ + 4 * 1 = _; omega
  refine ⟨fun h => write32_word h (by omega) (s.regWrite_aesin0 _ _ i.isLt), fun h => ?_⟩
  rw [exec_aesinBind, execAesinBind, second]
  exact write32_word h (by omega) (s.regWrite_aesin4 _ _ i.isLt)

theorem aesinEnable_effect (s : State) (w : Fin 8) (i : Fin 64) (en : Bool) (h : s.writable w (0x90000 + 0x100 * i)) :
    exec (.aesinEnable w i en) s =
      .next ((s.writeAesIn0 w i (s.wordWith (0x90000 + 0x100 * i) 0 1 (bit en))).disarmed w) :=
  write32_next h (by omega) (s.regWrite_aesin0 _ _ i.isLt)

theorem aesoutEnable_effect (s : State) (w : Fin 8) (o : Fin 64) (h : s.writable w (0x94000 + 0x100 * o)) :
    exec (.aesoutEnable w o) s = .next ((s.writeAesOut0 o (s.wordWith (0x94000 + 0x100 * o) 0 1 1)).disarmed w) :=
  write32_next h (by omega) (s.regWrite_aesout0 _ _ o.isLt)

theorem aesoutDisable_effect (s : State) (w : Fin 8) (o : Fin 64) (h : s.writable w (0x94000 + 0x100 * o)) :
    exec (.aesoutDisable w o) s = .next ((s.writeAesOut0 o (s.wordWith (0x94000 + 0x100 * o) 0 1 0)).disarmed w) :=
  write32_next h (by omega) (s.regWrite_aesout0 _ _ o.isLt)

theorem outCh_effect (s : State) (w : Fin 8) (val : Word) (o : Fin 64) (h : s.writable w (0x94004 + 0x100 * o)) :
    exec (.outCh w o val) s = .next ((s.writeOutCh o val.toNat).disarmed w) :=
  write32_word h (by omega) (s.regWrite_outCh _ _ o.isLt)

theorem ancqEnable_effect (s : State) (w : Fin 8) (q : Fin 256) (h : s.writable w (0xA0000 + 0x40 * q)) :
    exec (.ancqEnable w q) s = .next ((s.writeAncq0 q (s.wordWith (0xA0000 + 0x40 * q) 0 1 1)).disarmed w) :=
  write32_next h (by omega) (s.regWrite_ancq0 _ _ q.isLt)

theorem ancqDisable_effect (s : State) (w : Fin 8) (q : Fin 256) (h : s.writable w (0xA0000 + 0x40 * q)) :
    exec (.ancqDisable w q) s = .next ((s.writeAncq0 q (s.wordWith (0xA0000 + 0x40 * q) 0 1 0)).disarmed w) :=
  write32_next h (by omega) (s.regWrite_ancq0 _ _ q.isLt)

theorem consumerWrite_effect (s : State) (w : Fin 8) (val : Word) (q : Fin 256) (h : s.writable w (0xA0000 + 0x40 * q)) :
    exec (.consumerWrite w q val) s = .next ((s.writeAncq0 q val.toNat).disarmed w) :=
  write32_word h (by omega) (s.regWrite_ancq0 _ _ q.isLt)

theorem fsrcWrite_effect (s : State) (w : Fin 8) (val : Word) (q : Fin 256) (h : s.writable w (0xA0008 + 0x40 * q)) :
    exec (.fsrcWrite w q val) s = .next ((s.writeFsrc q val.toNat).disarmed w) :=
  write32_word h (by omega) (s.regWrite_fsrc _ _ q.isLt)

theorem watermarkWrite_effect (s : State) (w : Fin 8) (val : Word) (q : Fin 256)
    (h : s.writable w (0xA0010 + 0x40 * q)) :
    exec (.watermarkWrite w q val) s = .next ((s.writeWatermark q val.toNat).disarmed w) :=
  write32_word h (by omega) (s.regWrite_watermark _ _ q.isLt)

/-! ### Fields of one queue, and the rights that a filter is judged by -/

/-- Two fields of a block that stand apart in its first copy stand apart in every copy. -/
theorem Field.key_ne {f g : Field} (stride : f.s1 = g.s1) (apart : 8 * f.base + f.lo ≠ 8 * g.base + g.lo) (i : Nat) :
    f.key i 0 ≠ g.key i 0 := by
  unfold Field.key Field.off
  rw [stride, Nat.zero_mul, Nat.zero_mul]
  omega

/-- No field above the OWN table bears on an owner. -/
theorem State.owner_setFld {f : Field} {i ori : Nat} (s : State) (v : Nat) (hf : 0x13000 ≤ f.base) (ho : ori < 3072) :
    (s.setFld f v i).owner ori = s.owner ori := by
  have apart : f.key i 0 ≠ OWN_OWNER.key ori 0 := by
    have ownKey : OWN_OWNER.key ori 0 = 8 * (0x10000 + ori * 4 + 0) + 0 := by simp [Field.key, Field.off, OWN_OWNER]
    rw [ownKey]
    unfold Field.key Field.off
    omega
  unfold State.owner
  rw [s.fld_setFld_ne f OWN_OWNER v i 0 ori 0 apart]

/-- No field above the OWN table bears on the right to read a source. -/
theorem State.mayRead_setFld {f : Field} {i n : Nat} (s : State) (v p : Nat) (hf : 0x13000 ≤ f.base) (hn : oriSrc n < 3072) :
    (s.setFld f v i).mayRead p n = s.mayRead p n := by
  have apart : f.key i 0 ≠ OWN_SHARED.key (oriSrc n) 0 := by
    have sharedKey : OWN_SHARED.key (oriSrc n) 0 = 8 * (0x10000 + oriSrc n * 4 + 0) + 4 := by
      simp [Field.key, Field.off, OWN_SHARED]
    rw [sharedKey]
    unfold Field.key Field.off
    omega
  unfold State.mayRead State.fldOn
  rw [s.owner_setFld v hf hn, s.fld_setFld_ne f OWN_SHARED v i 0 (oriSrc n) 0 apart]

/-! ### Filters (R394) -/

/-- The rest of a filter word beside FSRC: all sources or one, and where in the picture. -/
def State.setFilterScope (s : State) (q v : Nat) : State :=
  (s.setFld ANCQ_SRC_ALL (bitField v 12 1) q).setFld ANCQ_LOC (bitField v 16 2) q

theorem State.fsrc_setFilterScope (s : State) (q v : Nat) : (s.setFilterScope q v).fld ANCQ_FSRC q = s.fld ANCQ_FSRC q := by
  unfold State.setFilterScope
  rw [fld_setFld_ne _ _ _ _ _ _ _ _ (Field.key_ne (by decide) (by decide) q),
    fld_setFld_ne _ _ _ _ _ _ _ _ (Field.key_ne (by decide) (by decide) q)]

/-- The owner of queue q, P0 of an unowned one (log 63), may read source n. -/
def State.queueReads (s : State) (q n : Nat) : Bool := s.mayRead ((s.owner (oriQueue q)).getD 0) n

theorem State.queueReads_setFilterScope (s : State) {q n : Nat} (v : Nat) (hq : q < 256) (hn : n < 2048) :
    (s.setFilterScope q v).queueReads q n = s.queueReads q n := by
  have queue : oriQueue q < 3072 := by unfold oriQueue; omega
  have source : oriSrc n < 3072 := by unfold oriSrc; split <;> omega
  unfold State.setFilterScope State.queueReads
  rw [owner_setFld _ _ (by decide) queue, owner_setFld _ _ (by decide) queue, mayRead_setFld _ _ _ (by decide) source,
    mayRead_setFld _ _ _ (by decide) source]

/-- A number that is no source and not "none" changes nothing but CFG_ERR (R14). -/
theorem State.writeFsrc_invalid (s : State) (q v : Nat) (lo : 1120 ≤ bitField v 0 11) (hi : bitField v 0 11 < 2047) :
    s.writeFsrc q v = s.setFld ANCQ_CFG_ERR 1 q :=
  if_pos ⟨lo, hi⟩

/-- A source's number, or "none", is judged by the rights as they stand before the write, and the rest of the word is taken. -/
theorem State.writeFsrc_valid (s : State) {q : Nat} (v : Nat) (hq : q < 256)
    (hn : ¬(1120 ≤ bitField v 0 11 ∧ bitField v 0 11 < 2047)) :
    s.writeFsrc q v = if bitField v 0 11 = 2047 ∨ s.queueReads q (bitField v 0 11) = true
      then (s.setFilterScope q v).setFld ANCQ_FSRC (bitField v 0 11) q
      else (s.setFilterScope q v).setFld ANCQ_CFG_ERR 1 q := by
  have bound : bitField v 0 11 < 2048 := Nat.mod_lt _ (Nat.two_pow_pos 11)
  rw [← s.queueReads_setFilterScope v hq bound]
  exact if_neg hn

/-- A refused number leaves FSRC and sets CFG_ERR. -/
theorem State.writeFsrc_refused (s : State) {q : Nat} (v : Nat) (hq : q < 256) (hn : bitField v 0 11 ≠ 2047)
    (refused : 1120 ≤ bitField v 0 11 ∨ s.queueReads q (bitField v 0 11) = false) :
    (s.writeFsrc q v).fld ANCQ_FSRC q = s.fld ANCQ_FSRC q ∧ (s.writeFsrc q v).fld ANCQ_CFG_ERR q = 1 := by
  have errApart : ANCQ_CFG_ERR.key q 0 ≠ ANCQ_FSRC.key q 0 := Field.key_ne (by decide) (by decide) q
  have bound : bitField v 0 11 < 2048 := Nat.mod_lt _ (Nat.two_pow_pos 11)
  by_cases invalid : 1120 ≤ bitField v 0 11
  · rw [s.writeFsrc_invalid q v invalid (by omega)]
    exact ⟨s.fld_setFld_ne _ _ _ _ _ _ _ errApart, s.fld_setFld_self _ _ _ _⟩
  · have barred : ¬(bitField v 0 11 = 2047 ∨ s.queueReads q (bitField v 0 11) = true) := by
      rw [refused.resolve_left invalid]
      simp [hn]
    rw [s.writeFsrc_valid v hq (by omega), if_neg barred]
    refine ⟨?_, State.fld_setFld_self _ _ _ _ _⟩
    rw [State.fld_setFld_ne _ _ _ _ _ _ _ _ errApart, s.fsrc_setFilterScope]

/-- "None" and a source that the owner can read are taken. -/
theorem State.writeFsrc_taken (s : State) {q : Nat} (v : Nat) (hq : q < 256)
    (taken : bitField v 0 11 = 2047 ∨ (bitField v 0 11 < 1120 ∧ s.queueReads q (bitField v 0 11) = true)) :
    (s.writeFsrc q v).fld ANCQ_FSRC q = bitField v 0 11 := by
  rw [s.writeFsrc_valid v hq (by omega), if_pos (taken.imp_right And.right), State.fld_setFld_self]
  exact Nat.mod_mod _ _

/-! ### Watermarks (R400) -/

/-- A high watermark that is not above the low one leaves both and sets CFG_ERR. -/
theorem State.writeWatermark_refused (s : State) (q v : Nat) (hi : v % 65536 ≠ 0) (le : v % 65536 ≤ v / 65536 % 65536) :
    (s.writeWatermark q v).fld ANCQ_HI_WM q = s.fld ANCQ_HI_WM q ∧
    (s.writeWatermark q v).fld ANCQ_LO_WM q = s.fld ANCQ_LO_WM q ∧ (s.writeWatermark q v).fld ANCQ_CFG_ERR q = 1 := by
  have refused : s.writeWatermark q v = s.setFld ANCQ_CFG_ERR 1 q := if_pos ⟨hi, le⟩
  rw [refused]
  exact ⟨s.fld_setFld_ne _ _ _ _ _ _ _ (Field.key_ne (by decide) (by decide) q),
    s.fld_setFld_ne _ _ _ _ _ _ _ (Field.key_ne (by decide) (by decide) q), s.fld_setFld_self _ _ _ _⟩

/-- Watermarks in order, or none, are taken; that the cycle touches the queue changes no register. -/
theorem State.writeWatermark_taken (s : State) (q v : Nat) (ok : v % 65536 = 0 ∨ v / 65536 % 65536 < v % 65536) :
    (s.writeWatermark q v).fld ANCQ_HI_WM q = v % 65536 ∧
    (s.writeWatermark q v).fld ANCQ_LO_WM q = v / 65536 % 65536 := by
  have taken : s.writeWatermark q v =
      ((s.setFld ANCQ_HI_WM (v % 65536) q).setFld ANCQ_LO_WM (v / 65536 % 65536) q).ancTouch q := if_neg (by omega)
  have same : (s.writeWatermark q v).regs =
      ((s.setFld ANCQ_HI_WM (v % 65536) q).setFld ANCQ_LO_WM (v / 65536 % 65536) q).regs := by rw [taken]; rfl
  rw [State.fld_congr same, State.fld_congr same]
  constructor
  · rw [State.fld_setFld_ne _ _ _ _ _ _ _ _ (Field.key_ne (by decide) (by decide) q), State.fld_setFld_self]
    exact Nat.mod_mod _ _
  · rw [State.fld_setFld_self]
    exact Nat.mod_mod _ _

/-- Settles O35: each write goes to its register by the block table, a filter is judged by rights that its own word does not
touch, and the fields of one queue do not overlap. -/
theorem audioRegisters : Obligations.AudioRegisters := by
  refine ⟨fun s w val => ⟨fun n => ?_, agrpWrite_effect s w val, fun i => ?_, fun q => ?_⟩, fun s q v => ?_⟩
  · obtain ⟨ain0, ain4⟩ := ainWrite_effects s w val n
    obtain ⟨emb0, emb4⟩ := embWrite_effects s w val n
    exact ⟨ain0, ain4, emb0, emb4⟩
  · obtain ⟨bind0, bind4⟩ := aesinBind_effects s w val i
    exact ⟨fun h => ⟨fun en => aesinEnable_effect s w i en h, bind0 h⟩, bind4,
      fun h => ⟨aesoutEnable_effect s w i h, aesoutDisable_effect s w i h⟩, outCh_effect s w val i⟩
  · exact ⟨fun h => ⟨ancqEnable_effect s w q h, ancqDisable_effect s w q h, consumerWrite_effect s w val q h⟩,
      fsrcWrite_effect s w val q, watermarkWrite_effect s w val q⟩
  · exact ⟨s.writeFsrc_invalid q v, s.writeFsrc_refused v q.isLt, s.writeFsrc_taken v q.isLt,
      s.writeWatermark_refused q v, s.writeWatermark_taken q v⟩

end Sys2Proof.Machine

/-! # Proofs: accesses of hosts, writes of partitions' control blocks, ownership requests, leases, and a PART reset -/

namespace Sys2Proof.Machine
open Reg

/-! ### Access errors (R37) -/

@[simp] theorem State.regs_disarmed (s : State) (w : Nat) : (s.disarmed w).regs = s.regs := by
  unfold State.disarmed
  split <;> rfl

@[simp] theorem State.part_disarmed (s : State) (w p : Nat) : (s.disarmed w).part p = s.part p := by
  unfold State.disarmed
  split <;> rfl

@[simp] theorem State.fld_disarmed (s : State) (w : Nat) (f : Field) (i j : Nat) : (s.disarmed w).fld f i j = s.fld f i j :=
  State.fld_congr (s.regs_disarmed w) f i j

/-- A write that fails a check only logs that check. -/
theorem registerWrite_barred {s : State} {w : Fin 8} {off : BitVec 26} {width : Nat} (val : BitVec 64) {bar : AccessBar}
    (h : s.writeBar w off.toNat width = some bar) :
    exec (.registerWrite w off width val) s = .next ((s.logBar w bar).disarmed w) :=
  congrArg Host.Outcome.next (hostWrite_barred h val.toNat)

section
variable (s : State) {bit' : Field} (p bar off : Nat)

/-- While an error is held, another one sets its bit alone. -/
theorem State.logError_held (held : (s.part p).errHeld = true) : s.logError p bit' bar off = s.setFld bit' 1 p :=
  if_pos held

/-- The first error is held with its offset and its BAR. -/
theorem State.logError_first (free : (s.part p).errHeld = false) : s.logError p bit' bar off =
    (((s.setFld bit' 1 p).setFld PCB_ERR_OFFSET off p).setFld PCB_ERR_BAR bar p).setPart p
      { (s.part p) with errHeld := true } :=
  if_neg (ne_true_of_eq_false free)

theorem State.errHeld_logError : ((s.logError p bit' bar off).part p).errHeld = true := by
  cases h : (s.part p).errHeld with
  | true => rw [s.logError_held p bar off h]; exact h
  | false => rw [s.logError_first p bar off h, part_setPart_self]

/-- But for ERR_OFFSET and ERR_BAR, an error writes its bit alone. -/
theorem State.fld_logError {f : Field} (stride : f.s1 = 0x1000) (below : 8 * f.base + f.lo < 8 * 0x1034) :
    (s.logError p bit' bar off).fld f p = (s.setFld bit' 1 p).fld f p := by
  have offApart : PCB_ERR_OFFSET.key p 0 ≠ f.key p 0 :=
    Field.key_ne stride.symm (by simp only [PCB_ERR_OFFSET]; omega) p
  have barApart : PCB_ERR_BAR.key p 0 ≠ f.key p 0 := Field.key_ne stride.symm (by simp only [PCB_ERR_BAR]; omega) p
  cases h : (s.part p).errHeld with
  | true => rw [s.logError_held p bar off h]
  | false =>
    rw [s.logError_first p bar off h, State.fld_congr (State.setPart_regs _ _ _),
      State.fld_setFld_ne _ _ _ _ _ _ _ _ barApart, State.fld_setFld_ne _ _ _ _ _ _ _ _ offApart]

theorem State.fld_logError_other {f : Field} (stride : f.s1 = 0x1000) (below : 8 * f.base + f.lo < 8 * 0x1034)
    (bitStride : bit'.s1 = 0x1000) (apart : 8 * bit'.base + bit'.lo ≠ 8 * f.base + f.lo) :
    (s.logError p bit' bar off).fld f p = s.fld f p :=
  (s.fld_logError p bar off stride below).trans
    (s.fld_setFld_ne _ _ _ _ _ _ _ (Field.key_ne (bitStride.trans stride.symm) apart p))

variable (stride : bit'.s1 = 0x1000) (below : 8 * bit'.base + bit'.lo < 8 * 0x1034)
include stride below

theorem State.fld_logError_bit : (s.logError p bit' bar off).fld bit' p = 1 % 2 ^ bit'.w :=
  (s.fld_logError p bar off stride below).trans (s.fld_setFld_self _ _ _ _)

/-- ERR_OFFSET and ERR_BAR hold the first error. -/
theorem State.fld_logError_first :
    ((s.part p).errHeld = true → (s.logError p bit' bar off).fld PCB_ERR_OFFSET p = s.fld PCB_ERR_OFFSET p ∧
      (s.logError p bit' bar off).fld PCB_ERR_BAR p = s.fld PCB_ERR_BAR p) ∧
    ((s.part p).errHeld = false → (s.logError p bit' bar off).fld PCB_ERR_BAR p = bar % 2 ∧
      (s.logError p bit' bar off).fld PCB_ERR_OFFSET p = off % 2 ^ 26) := by
  have offApart : bit'.key p 0 ≠ PCB_ERR_OFFSET.key p 0 := Field.key_ne stride (by simp only [PCB_ERR_OFFSET]; omega) p
  have barApart : bit'.key p 0 ≠ PCB_ERR_BAR.key p 0 := Field.key_ne stride (by simp only [PCB_ERR_BAR]; omega) p
  refine ⟨fun h => ?_, fun h => ?_⟩
  · rw [s.logError_held p bar off h]
    exact ⟨s.fld_setFld_ne _ _ _ _ _ _ _ offApart, s.fld_setFld_ne _ _ _ _ _ _ _ barApart⟩
  · rw [s.logError_first p bar off h, State.fld_congr (State.setPart_regs _ _ _),
      State.fld_congr (State.setPart_regs _ _ _)]
    refine ⟨State.fld_setFld_self _ _ _ _ _, ?_⟩
    rw [State.fld_setFld_ne _ _ _ _ _ _ _ _ (Field.key_ne (by decide) (by decide) p)]
    exact State.fld_setFld_self _ _ _ _ _

end

/-! ### Which writes pass (R36, R38) -/

/-- The checks of an aligned 32-bit write. -/
theorem State.writeBar_word (s : State) (w : Nat) {off : Nat} (aligned : off % 4 = 0) :
    s.writeBar w off 4 = none ↔ s.mapped off = true ∧ s.mayWrite w off = true := by
  have self : off / 4 * 4 = off := by omega
  unfold State.writeBar covered
  rw [if_neg (by simp [aligned]), if_neg (by decide), self]
  cases hm : s.mapped off <;> cases hw : s.mayWrite w off <;> simp [hm, hw]

/-- A compositor's output source is owned with the compositor (R40). -/
theorem blockOri_src (i : Nat) : blockOri .src i = some (oriSrc i) := by
  unfold blockOri oriSrc oriCmp
  dsimp only
  split
  · rfl
  · exact congrArg some (by omega)

/-- The right of R36 to write instance i of block b. -/
def State.blockRight (s : State) (w : Nat) (b : Blk) (i : Nat) : Bool :=
  match b with
  | .pcb => w == 0 || w == i || (i == 0 && s.deputy == some w)
  | .own => false
  | .flowwin => false
  | _ => match blockOri b i with
    | some o => s.mayChange w o
    | none => w == 0

/-- In service, on an active device, that right is all that an enabled partition needs. -/
theorem State.mayWrite_inService {s : State} {w off : Nat} {b : Blk} {i : Nat} (at' : blockAt off = some (b, i))
    (service : s.inService = true) (active : s.isActive = true) (enabled : w = 0 ∨ s.fldOn PCB_ENABLE w = true) :
    s.mayWrite w off = s.blockRight w b i := by
  have entitled : (w == 0 || s.fldOn PCB_ENABLE w || (b == .pcb && i == w)) = true := by
    rcases enabled with h | h <;> simp [h]
  unfold State.mayWrite
  simp only [at', entitled, service, active, Bool.true_or, Bool.and_true]
  cases b <;> rfl

/-- Settles O6: the log of an error writes its bit and the first error's place, and the rights of a block are a column of
R36's table. -/
theorem accessChecks : Obligations.AccessChecks := by
  refine ⟨fun s w off width val bar h => ⟨_, registerWrite_barred val h, ?_⟩,
    fun s w off b i aligned at' service active recovery enabled => ?_⟩
  · simp only [State.fld_disarmed, State.part_disarmed]
    cases bar with
    | width o =>
      exact ⟨s.fld_logError_bit w 0 o rfl (by decide),
        s.fld_logError_other w 0 o rfl (by decide) rfl (by decide),
        s.fld_logError_other w 0 o rfl (by decide) rfl (by decide),
        s.fld_logError_other w 0 o rfl (by decide) rfl (by decide),
        s.errHeld_logError w 0 o, s.fld_logError_first w 0 o rfl (by decide)⟩
    | unmapped o =>
      exact ⟨s.fld_logError_other w 0 o rfl (by decide) rfl (by decide),
        s.fld_logError_bit w 0 o rfl (by decide),
        s.fld_logError_other w 0 o rfl (by decide) rfl (by decide),
        s.fld_logError_other w 0 o rfl (by decide) rfl (by decide),
        s.errHeld_logError w 0 o, s.fld_logError_first w 0 o rfl (by decide)⟩
    | denied o =>
      exact ⟨s.fld_logError_other w 0 o rfl (by decide) rfl (by decide),
        s.fld_logError_other w 0 o rfl (by decide) rfl (by decide),
        s.fld_logError_bit w 0 o rfl (by decide),
        s.fld_logError_other w 0 o rfl (by decide) rfl (by decide),
        s.errHeld_logError w 0 o, s.fld_logError_first w 0 o rfl (by decide)⟩
  · have mapped : s.mapped off = true := by
      unfold State.mapped
      simp [at', recovery]
    rw [s.writeBar_word w aligned, mapped, State.mayWrite_inService at' service active enabled]
    simp only [true_and]
    cases b with
    | pcb => simp [State.blockRight, or_assoc]
    | src => simp [State.blockRight, blockOri_src]
    | _ => simp [State.blockRight, blockOri]

/-! ### Reads of BAR0 (R37, R102, R516) -/

/-- A read that fails a check is logged, and P0 reads zero where another partition is told of the error. -/
theorem hostRead_barred {s : State} {r off width : Nat} {bar : AccessBar} (h : s.readBar r off width = some bar) :
    s.hostRead r off width = ((s.logBar r bar).emit (.readAnswer r (if r = 0 then 0 else bar.status) 0)).hostCrossed r := by
  unfold State.hostRead
  rw [h]

/-- A read of one register answers the part of its word that the access covers. -/
theorem hostRead_register {s t : State} {r off width lo : Nat} (h : s.readBar r off width = none) (hw : width ≠ 8)
    (word : s.readAt (off / 4 * 4) = (t, lo)) : s.hostRead r off width =
      (t.emit (.readAnswer r 0 (lo / 2 ^ (8 * (off % 4)) % 2 ^ (8 * width)))).hostCrossed r := by
  unfold State.hostRead
  rw [h]
  simp only [word, if_neg hw]
  rfl

/-- An aligned 32-bit read answers the whole word. -/
theorem hostRead_word {s t : State} {r off lo : Nat} (h : s.readBar r off 4 = none) (aligned : off % 4 = 0)
    (word : s.readAt off = (t, lo)) : s.hostRead r off 4 = (t.emit (.readAnswer r 0 (lo % 2 ^ 32))).hostCrossed r := by
  have self : off / 4 * 4 = off := by omega
  rw [hostRead_register h (by decide) (self.symm ▸ word), aligned, Nat.mul_zero, Nat.pow_zero, Nat.div_one]

/-- A read of two registers answers both words. -/
theorem hostRead_pair {s t u : State} {r off lo hi : Nat} (h : s.readBar r off 8 = none)
    (low : s.readAt (off / 4 * 4) = (t, lo)) (high : t.readAt (off + 4) = (u, hi)) :
    s.hostRead r off 8 = (u.emit (.readAnswer r 0 (lo + 2 ^ 32 * hi))).hostCrossed r := by
  unfold State.hostRead
  rw [h]
  simp only [low, high, if_true]

/-- A read of another register than TM_NOW_LO and FL_DATA does nothing. -/
theorem State.readAt_plain (s : State) {off : Nat} (now : off ≠ 0x30008) (data : off ≠ 0x42024) :
    s.readAt off = (s, s.word off) := by
  unfold State.readAt State.word
  rw [if_neg now, if_neg data]
  split <;> rfl

/-- A 64-bit access is aligned. -/
theorem State.readBar_aligned {s : State} {r off : Nat} (h : s.readBar r off 8 = none) : off % 8 = 0 := by
  unfold State.readBar at h
  split at h
  · exact nomatch h
  · omega

/-- FL_DATA is read before SERVICE as after it. -/
theorem State.readAt_flData (s : State) : s.readAt 0x42024 = s.readFlData := by
  have always : s.readsReset 0x42024 = false := by
    unfold State.readsReset
    rw [blockAt_boot (by decide) (by decide)]
    exact Bool.and_false _
  unfold State.readAt
  rw [always]
  rfl

/-! ### BAR2 (R62) -/

theorem bar2Access_unmapped {s : State} {r : Fin 8} {off : BitVec 19} (h : s.doorbell r off.toNat = none) (isRead : Bool) :
    exec (.bar2AccessError r off isRead) s = .next ((s.logError r PCB_UNMAPPED 1 off.toNat).when isRead
      (fun s => s.emit (.readAnswer r (if r.val = 0 then 0 else 1) 0))) := by
  rw [exec_bar2AccessError, execBar2AccessError, h]

theorem bar2Access_doorbell {s : State} {r : Fin 8} {off : BitVec 19} {v : Nat} (h : s.doorbell r off.toNat = some v)
    (isRead : Bool) :
    exec (.bar2AccessError r off isRead) s = .next (s.when isRead (fun s => s.emit (.readAnswer r 0 v))) := by
  rw [exec_bar2AccessError, execBar2AccessError, h]

/-- A 64-bit write is its two words, the low one first. -/
theorem hostWrite_pair {s : State} {w off v : Nat} (h : s.writeBar w off 8 = none) (hv : v < 2 ^ 64) :
    s.hostWrite w off 8 v =
      ((s.acceptWrite w off (v % 2 ^ 32)).acceptWrite w (off + 4) (v / 2 ^ 32)).hostCrossed w := by
  unfold State.hostWrite
  rw [h]
  simp only [if_true]
  rw [Nat.mod_eq_of_lt (a := v / 2 ^ 32) (by omega)]

/-- Settles O5: each access is the log of its error, or the effect or the word of its register, and then its crossing of the
interconnect. -/
theorem hostAccesses : Obligations.HostAccesses := by
  refine ⟨fun _ _ _ _ val _ h => registerWrite_barred val h, fun s w off val h ho => ?_, fun s w off val h => ?_,
    fun s r off width bar h => ?_, fun s r off width h hw now data => ?_, fun s r off h now data => ?_,
    fun s r h service => ?_, fun s r h => ?_, fun s r off h => ?_, fun s r off v h => bar2Access_doorbell h true⟩
  · exact congrArg Host.Outcome.next (write32_accepted h ho val.toNat)
  · exact congrArg Host.Outcome.next (hostWrite_pair h val.isLt)
  · exact congrArg Host.Outcome.next (hostRead_barred h)
  · exact congrArg Host.Outcome.next (hostRead_register h hw (s.readAt_plain (by omega) (by omega)))
  · have aligned := State.readBar_aligned h
    have self : off.toNat / 4 * 4 = off.toNat := by omega
    have pair := hostRead_pair h (s.readAt_plain (by omega) (by omega)) (s.readAt_plain (by omega) (by omega))
    rw [self] at pair
    exact congrArg Host.Outcome.next pair
  · have latch : s.readAt 0x30008 = s.readNowLo := by
      unfold State.readAt
      rw [if_neg (by simp [service])]
      rfl
    rw [exec_tmNowLo, execTmNowLo, hostRead_word h (by decide) latch, Nat.mod_mod]
  · rw [exec_flDataRead, execFlDataRead, hostRead_word h (by decide) s.readAt_flData]
  · exact ⟨bar2Access_unmapped h true, bar2Access_unmapped h false⟩

/-! ### Writes of a partition's control block (R53) -/

theorem State.regWrite_pcb (s : State) (w v : Nat) {p rel : Nat} (hp : p < 8) (hr : rel < 0x1000) :
    s.regWrite w (pcbOff p + rel) v = s.writePcb (Blk.pcb.at? (pcbOff p + rel)) w p rel v := by
  have hrel : pcbOff p + rel - 0x1000 - 0x1000 * p = rel := by unfold pcbOff; omega
  unfold State.regWrite
  rw [blockAt_pcb hp (by unfold pcbOff; omega) (by unfold pcbOff; omega)]
  simp only [hrel]

/-- What is left of a write of a control block whose checks hold. -/
theorem pcbWrite_next {s t : State} {w p rel v : Nat} (hp : p < 8) (hr : rel < 0x1000) (h : s.writable w (pcbOff p + rel))
    (effect : s.writePcb (Blk.pcb.at? (pcbOff p + rel)) w p rel (v % 2 ^ 32) = t) :
    (Host.Outcome.next (s.write32 w (pcbOff p + rel) v) : Host.Outcome State Fault Refusal) = .next (t.disarmed w) := by
  rw [write32_accepted h (by unfold pcbOff; omega), s.regWrite_pcb w _ hp hr, effect]

section
variable {w p : Nat} (own : w = 0 ∨ w = p) (s : State) (fs : RegFields) (v : Nat)
include own

theorem State.writePcb_lease : s.writePcb fs w p 0x10 v = s.writeLease p v := by
  unfold State.writePcb
  rw [if_neg (by decide), if_neg (by omega), if_neg (by decide), if_pos rfl]

theorem State.writePcb_heartbeat : s.writePcb fs w p 0x14 v = s.beat p := by
  unfold State.writePcb
  rw [if_neg (by decide), if_neg (by omega), if_neg (by decide), if_neg (by decide), if_pos rfl]

theorem State.writePcb_claim : s.writePcb fs w p 0x20 v = s.writeClaim p v (if w = 0 then bitField v 16 3 else 0) := by
  unfold State.writePcb
  rw [if_neg (by decide), if_neg (by omega), if_neg (by decide), if_neg (by decide), if_neg (by decide), if_pos rfl]

theorem State.writePcb_accerr : s.writePcb fs w p 0x30 v = (s.putWord fs v).rearmError p := by
  unfold State.writePcb
  rw [if_neg (by decide), if_neg (by omega), if_neg (by decide), if_neg (by decide), if_neg (by decide), if_neg (by decide),
    if_pos rfl]

/-- The registers of a command ring. -/
theorem State.writePcb_ring {k rel : Nat} (hk : k < 64) (hr : rel < 0x20) :
    s.writePcb fs w p (0x100 + 0x20 * k + rel) v = s.writeRing fs p k rel v := by
  have ring : (0x100 + 0x20 * k + rel - 0x100) / 0x20 = k := by omega
  have inner : (0x100 + 0x20 * k + rel - 0x100) % 0x20 = rel := by omega
  unfold State.writePcb
  rw [if_neg (by omega), if_neg (by omega), if_neg (by omega), if_neg (by omega), if_neg (by omega), if_neg (by omega),
    if_neg (by omega), if_pos (by omega), ring, inner]

/-- The registers of an event ring. -/
theorem State.writePcb_evtRing {e rel : Nat} (he : e < 4) (hr : rel < 0x20) :
    s.writePcb fs w p (0x900 + 0x20 * e + rel) v = s.writeEvtRing fs p e rel v := by
  have ring : (0x900 + 0x20 * e + rel - 0x900) / 0x20 = e := by omega
  have inner : (0x900 + 0x20 * e + rel - 0x900) % 0x20 = rel := by omega
  unfold State.writePcb
  rw [if_neg (by omega), if_neg (by omega), if_neg (by omega), if_neg (by omega), if_neg (by omega), if_neg (by omega),
    if_neg (by omega), if_neg (by omega), if_pos (by omega), ring, inner]

end

/-! ### Ownership requests as they are written (R45) -/

/-- A request of partition p waits. -/
def State.askClaim (s : State) (p ori act target : Nat) : State :=
  { ((s.setFld PCB_BUSY 1 p).setFld PCB_LAST_ORI ori p).setFld PCB_LAST_ACT act p with
    host := { s.host with claims := s.host.claims ++ [{ part := p, ori := ori, act := act, target := target }] } }

/-- The fields of PCB_CLAIM. -/
theorem claimWord_fields {ori act target : Nat} (ho : ori < 4096) (ha : act < 8) (ht : target < 8) :
    let v := (ori + act * 2 ^ 12 + target * 2 ^ 16) % 2 ^ 32
    bitField v 0 12 = ori ∧ bitField v 12 3 = act ∧ bitField v 16 3 = target := by
  unfold bitField
  omega

section
variable {s : State} {w p : Fin 8} (own : w.val = 0 ∨ w = p) (h : s.writable w (pcbOff p + 0x20)) {ori act target : Nat}
  (ho : ori < 4096) (ha : act ≠ 0 ∧ act < 6) (ht : target < 8)
include own h ho ha ht

theorem request_idle (idle : s.fldOn PCB_BUSY p = false) :
    (Host.Outcome.next (s.write32 w (pcbOff p + 0x20) (ori + act * 2 ^ 12 + target * 2 ^ 16)) :
      Host.Outcome State Fault Refusal) = .next ((s.askClaim p ori act (if w.val = 0 then target else 0)).disarmed w) := by
  obtain ⟨fOri, fAct, fTarget⟩ := claimWord_fields (act := act) ho (by omega) ht
  refine pcbWrite_next p.isLt (by decide) h ?_
  rw [State.writePcb_claim (own.imp_right (congrArg Fin.val)), fTarget]
  unfold State.writeClaim
  simp only [fOri, fAct]
  rw [if_neg (by omega), if_neg (by simp [idle])]
  rfl

omit ht in
/-- A request without a target. -/
theorem request_idle_plain (idle : s.fldOn PCB_BUSY p = false) :
    (Host.Outcome.next (s.write32 w (pcbOff p + 0x20) (ori + act * 2 ^ 12)) : Host.Outcome State Fault Refusal) =
      .next ((s.askClaim p ori act 0).disarmed w) := by
  have asked := request_idle own h ho ha (target := 0) (by decide) idle
  rwa [Nat.zero_mul, Nat.add_zero, ite_self] at asked

omit ht in
theorem request_busy (busy : s.fldOn PCB_BUSY p = true) :
    (Host.Outcome.next (s.write32 w (pcbOff p + 0x20) (ori + act * 2 ^ 12)) : Host.Outcome State Fault Refusal) =
      .next ((s.setFld PCB_CLAIM_BUSY 1 p).disarmed w) := by
  obtain ⟨_, fAct, _⟩ := claimWord_fields (act := act) (target := 0) ho (by omega) (by decide)
  rw [Nat.zero_mul, Nat.add_zero] at fAct
  refine pcbWrite_next p.isLt (by decide) h ?_
  rw [State.writePcb_claim (own.imp_right (congrArg Fin.val))]
  unfold State.writeClaim
  simp only [fAct]
  rw [if_neg (by omega), if_pos busy]

end

/-! ### HOST_FAULT_CLEAR (R66) -/

theorem hostFaultClear_effect {s : State} {w p : Fin 8} (own : w.val = 0 ∨ w = p) (ring : RingId)
    (h : s.writable w (ringOff p ring + 0x1C)) :
    exec (.hostFaultClear w p ring) s = .next ((s.clearHostFault p ring).disarmed w) := by
  have own' := own.imp_right (congrArg Fin.val)
  cases ring with
  | cmd k =>
    have number : Fin.ofNat 64 k.val = k := Fin.ext (Nat.mod_eq_of_lt k.isLt)
    have place : ringOff p (.cmd k) + 0x1C = pcbOff p + (0x100 + 0x20 * k.val + 0x1C) := by
      simp only [ringOff]; omega
    rw [exec_hostFaultClear, execHostFaultClear, place]
    refine pcbWrite_next p.isLt (by omega) (place ▸ h) ?_
    rw [State.writePcb_ring own' _ _ _ k.isLt (by decide)]
    unfold State.writeRing
    rw [if_neg (by decide), if_neg (by decide), if_pos rfl, if_pos (by decide), number]
  | evt e =>
    have number : Fin.ofNat 4 e.val = e := Fin.ext (Nat.mod_eq_of_lt e.isLt)
    have place : ringOff p (.evt e) + 0x1C = pcbOff p + (0x900 + 0x20 * e.val + 0x1C) := by
      simp only [ringOff]; omega
    rw [exec_hostFaultClear, execHostFaultClear, place]
    refine pcbWrite_next p.isLt (by omega) (place ▸ h) ?_
    rw [State.writePcb_evtRing own' _ _ _ e.isLt (by decide)]
    unfold State.writeEvtRing
    rw [if_neg (by decide), if_neg (by decide), if_pos rfl, if_pos (by decide), number]

/-! ### PART_RST, REVOKE and ENABLE (R51, R54, R55) -/

/-- The fields of the control word, none of which a view shows. -/
theorem pcbCtl_fields (p : Fin 8) : Blk.pcb.at? (pcbOff p + 8) =
    [(PCB_PART_RST, p.val, 0), (PCB_REVOKE, p.val, 0), (PCB_ENABLE, p.val, 0)] := by
  match p with
  | 0 | 1 | 2 | 3 | 4 | 5 | 6 | 7 => rfl

theorem readFld_enable (s : State) (p : Nat) : s.readFld PCB_ENABLE p 0 = s.fld PCB_ENABLE p := by
  have noView : allViews.find? (fun v => v.1.base == PCB_ENABLE.base && v.1.lo == PCB_ENABLE.lo) = none := by rfl
  unfold State.readFld
  rw [if_neg (by decide), noView]

/-- The control word reads ENABLE alone. -/
theorem readReg_pcbCtl (s : State) (p : Fin 8) : s.readReg (pcbOff p + 8) = s.fld PCB_ENABLE p * 2 ^ 8 := by
  unfold State.readReg
  rw [blockAt_pcb p.isLt (by unfold pcbOff; omega) (by unfold pcbOff; omega)]
  simp only
  rw [if_neg (by simp), pcbCtl_fields]
  simp only [List.map_cons, List.map_nil, List.sum_cons, List.sum_nil, readFld_enable]
  have wo1 : s.readFld PCB_PART_RST p 0 = 0 := if_pos rfl
  have wo2 : s.readFld PCB_REVOKE p 0 = 0 := if_pos rfl
  rw [wo1, wo2]
  simp [PCB_ENABLE]

/-- ENABLE as it stands, with PART_RST or REVOKE. -/
theorem State.withField_pcbCtl (s : State) (p : Fin 8) {lo : Nat} (hlo : lo = 0 ∨ lo = 1) :
    let v := s.withField (pcbOff p + 8) lo 1 1 % 2 ^ 32
    bitField v 8 1 = s.fld PCB_ENABLE p ∧ bitAt v 0 = decide (lo = 0) ∧ bitAt v 1 = decide (lo = 1) := by
  have word : ∀ e < 2, ∀ lo < 2, bitField (putBits (e * 2 ^ 8) lo 1 1 % 2 ^ 32) 8 1 = e ∧
      bitAt (putBits (e * 2 ^ 8) lo 1 1 % 2 ^ 32) 0 = decide (lo = 0) ∧
      bitAt (putBits (e * 2 ^ 8) lo 1 1 % 2 ^ 32) 1 = decide (lo = 1) := by decide
  unfold State.withField
  rw [readReg_pcbCtl]
  exact word _ (s.fld_lt PCB_ENABLE p 0) lo (by omega)

/-- P0 writes all three fields. -/
theorem State.writePcbCtl_sup (s : State) {p v : Nat} {rst revoke : Bool} (h0 : bitAt v 0 = rst) (h1 : bitAt v 1 = revoke) :
    s.writePcbCtl 0 p v =
      ((s.writeEnable p (bitField v 8 1)).when revoke (fun s => s.writeRevoke 0 p)).when rst (fun s => s.partReset p) := by
  subst h0 h1
  unfold State.writePcbCtl
  simp

/-- Another partition does not write ENABLE, and resets only itself. -/
theorem State.writePcbCtl_other (s : State) {w p v : Nat} (hw : w ≠ 0) {rst revoke : Bool} (h0 : bitAt v 0 = rst)
    (h1 : bitAt v 1 = revoke) : s.writePcbCtl w p v =
      (s.when revoke (fun s => s.writeRevoke w p)).when (rst && w == p) (fun s => s.partReset p) := by
  subst h0 h1
  have notSup : (w == 0) = false := by simpa using hw
  unfold State.writePcbCtl
  simp only [notSup, Bool.false_or, State.when_false]

theorem State.writeEnable_same {s : State} {p : Nat} (h : s.fld PCB_ENABLE p = 1) : s.writeEnable p 1 = s := by
  have on : s.fldOn PCB_ENABLE p = true := by simp [State.fldOn, h]
  exact ite_eq_left_iff.2 fun _ => (if_pos rfl).trans (if_pos on)

theorem State.writeEnable_off {s : State} {p : Fin 8} (hp : p.val ≠ 0) (off : s.pstate p = partOff) :
    s.writeEnable p 0 = s.setFld PCB_ENABLE 0 p := by
  have stays : (s.setFld PCB_ENABLE 0 p).pstate p = partOff :=
    (s.fld_setFld_ne _ PCB_STATE _ _ _ _ _ (Field.key_ne (by decide) (by decide) p)).trans off
  unfold State.writeEnable
  rw [if_neg hp, if_neg (by decide)]
  exact if_pos stays

section
variable {s t : State} {w p : Fin 8} (h : s.writable w (pcbOff p + 8))
include h

theorem partRst_next (effect : s.writePcbCtl w p (s.withField (pcbOff p + 8) 0 1 1 % 2 ^ 32) = t) :
    exec (.partRst w p) s = .next (t.disarmed w) := pcbWrite_next p.isLt (by decide) h effect

theorem revoke_next (effect : s.writePcbCtl w p (s.withField (pcbOff p + 8) 1 1 1 % 2 ^ 32) = t) :
    exec (.revoke w p) s = .next (t.disarmed w) := pcbWrite_next p.isLt (by decide) h effect

/-- A partition other than P0 resets itself, whatever ENABLE says. -/
theorem partRst_own (hw : w.val ≠ 0) (self : w = p) : exec (.partRst w p) s = .next ((s.partReset p).disarmed w) := by
  obtain ⟨_, rst, revoke⟩ := s.withField_pcbCtl p (.inl rfl)
  refine partRst_next h ?_
  rw [s.writePcbCtl_other hw rst revoke, self]
  simp

/-- P0 writes PART_RST or REVOKE with ENABLE as it stands. -/
theorem partRst_sup (hw : w.val = 0) (written : s.writeEnable p (s.fld PCB_ENABLE p) = t) :
    exec (.partRst w p) s = .next ((t.partReset p).disarmed 0) := by
  obtain ⟨enable, rst, revoke⟩ := s.withField_pcbCtl p (.inl rfl)
  refine (partRst_next h (t := t.partReset p) ?_).trans (by rw [hw])
  rw [hw, s.writePcbCtl_sup rst revoke, enable, written]
  rfl

theorem revoke_sup (hw : w.val = 0) (hp : p.val ≠ 0) (written : s.writeEnable p (s.fld PCB_ENABLE p) = t) :
    exec (.revoke w p) s = .next ((t.beginRevoke p 0).disarmed 0) := by
  obtain ⟨enable, rst, revoke⟩ := s.withField_pcbCtl p (.inr rfl)
  refine (revoke_next h (t := t.beginRevoke p 0) ?_).trans (by rw [hw])
  rw [hw, s.writePcbCtl_sup rst revoke, enable, written]
  show t.writeRevoke 0 p = t.beginRevoke p 0
  unfold State.writeRevoke
  rw [if_neg hp, if_pos rfl]

/-- The deputy revokes P0 while it is LAPSED. -/
theorem revoke_deputy (hw : w.val ≠ 0) (hp : p.val = 0) (deputy : s.deputy = some w.val)
    (lapsed : s.pstate 0 = partLapsed) :
    exec (.revoke w p) s = .next ((s.beginRevoke 0 w).disarmed w) := by
  obtain ⟨_, rst, revoke⟩ := s.withField_pcbCtl p (.inr rfl)
  refine revoke_next h ?_
  rw [s.writePcbCtl_other hw rst revoke, hp]
  show s.writeRevoke w 0 = s.beginRevoke 0 w
  unfold State.writeRevoke
  rw [if_pos rfl, if_pos ⟨deputy, lapsed⟩]

/-- P0 writes ENABLE alone. -/
theorem enable_next (hw : w.val = 0) {v : Nat} (rst : bitAt (v % 2 ^ 32) 0 = false) (revoke : bitAt (v % 2 ^ 32) 1 = false) :
    (Host.Outcome.next (s.write32 w (pcbOff p + 8) v) : Host.Outcome State Fault Refusal) =
      .next ((s.writeEnable p (bitField (v % 2 ^ 32) 8 1)).disarmed 0) := by
  refine (pcbWrite_next (t := s.writeEnable p (bitField (v % 2 ^ 32) 8 1)) p.isLt (by decide) h ?_).trans (by rw [hw])
  rw [hw]
  exact s.writePcbCtl_sup rst revoke

end

/-- Settles O9: each write goes to its register of the control block, and the control word is ENABLE as it stands beside the
bit that the command sets. -/
theorem partitionRegisters : Obligations.PartitionRegisters := by
  refine ⟨fun s w p own => ?_, fun s w p h => ?_⟩
  · have own' := own.imp_right (congrArg Fin.val)
    refine ⟨fun h idle => ⟨fun ori => ⟨?_, ?_, ?_, ?_⟩, fun ori target => ?_⟩, fun h busy ori => ?_, fun h => ?_,
      fun h val => ?_, fun h val => ?_, fun ring h => hostFaultClear_effect own ring h⟩
    · exact request_idle_plain own h ori.isLt (act := 1) (by decide) idle
    · exact request_idle_plain own h ori.isLt (act := 2) (by decide) idle
    · exact request_idle_plain own h ori.isLt (act := 3) (by decide) idle
    · exact request_idle_plain own h ori.isLt (act := 4) (by decide) idle
    · exact request_idle own h ori.isLt (act := 5) (by decide) target.isLt idle
    · exact request_busy own h ori.isLt (act := 1) (by decide) busy
    · exact pcbWrite_next p.isLt (by decide) h (State.writePcb_heartbeat own' _ _ _)
    · refine pcbWrite_next p.isLt (by decide) h ?_
      rw [State.writePcb_lease own', Nat.mod_eq_of_lt val.isLt]
    · refine pcbWrite_next p.isLt (by decide) h ?_
      rw [State.writePcb_accerr own', Nat.mod_eq_of_lt val.isLt]
  · refine ⟨fun own on => ?_, fun self hp => partRst_own h (self ▸ hp) self, fun hw hp on => ?_,
      fun hw hp disabled off => ⟨?_, ?_⟩, fun hp hw => revoke_deputy h hw hp, fun hw _ => ⟨?_, ?_⟩⟩
    · by_cases hw : w.val = 0
      · exact (partRst_sup (t := s) h hw (by rw [on]; exact State.writeEnable_same on)).trans (by rw [hw])
      · exact partRst_own h hw (own.resolve_left hw)
    · exact revoke_sup h hw hp (by rw [on]; exact State.writeEnable_same on)
    · exact partRst_sup h hw (by rw [disabled]; exact State.writeEnable_off hp off)
    · exact revoke_sup h hw hp (by rw [disabled]; exact State.writeEnable_off hp off)
    · exact enable_next h hw (v := 0x100) (by decide) (by decide)
    · exact enable_next h hw (v := 0) (by decide) (by decide)

/-! ### The keys of the OWN table and of the partition control blocks -/

theorem ownOwner_key (o : Nat) : OWN_OWNER.key o 0 = 0x80000 + 32 * o := by
  simp only [Field.key, Field.off, OWN_OWNER]; omega

theorem ownShared_key (o : Nat) : OWN_SHARED.key o 0 = 0x80004 + 32 * o := by
  simp only [Field.key, Field.off, OWN_SHARED]; omega

/-- A field of the partition control blocks stands below the OWN table. -/
theorem pcb_key_lt {f : Field} {p : Nat} (stride : f.s1 = 0x1000) (base : f.base < 0x2000) (lo : f.lo < 32) (hp : p < 8) :
    f.key p 0 < 0x80000 := by
  unfold Field.key Field.off
  rw [stride]
  omega

/-- A write of such a field changes no owner. -/
theorem State.owner_setFld_pcb {f : Field} {p : Nat} (s : State) (v o : Nat) (stride : f.s1 = 0x1000)
    (base : f.base < 0x2000) (lo : f.lo < 32) (hp : p < 8) : (s.setFld f v p).owner o = s.owner o := by
  have key := pcb_key_lt stride base lo hp
  unfold State.owner
  rw [s.fld_setFld_ne f OWN_OWNER v p 0 o 0 (by rw [ownOwner_key]; omega)]

/-- Nor what is shared. -/
theorem State.shared_setFld_pcb {f : Field} {p : Nat} (s : State) (v o : Nat) (stride : f.s1 = 0x1000)
    (base : f.base < 0x2000) (lo : f.lo < 32) (hp : p < 8) : (s.setFld f v p).fld OWN_SHARED o = s.fld OWN_SHARED o := by
  have key := pcb_key_lt stride base lo hp
  exact s.fld_setFld_ne f OWN_SHARED v p 0 o 0 (by rw [ownShared_key]; omega)

/-! ### Messages to the peer -/

/-- A message changes no register and nothing of the hosts. -/
theorem State.putMsg_regs_host (s : State) (flags mseq : Nat) (m : CwMsg) :
    (s.putMsg flags mseq m).regs = s.regs ∧ (s.putMsg flags mseq m).host = s.host := by
  unfold State.putMsg
  cases s.fldOn CWAY_LINK_UP <;> exact ⟨rfl, rfl⟩

theorem State.send_regs_host (s : State) (ty : Nat) (words : List Nat) :
    (s.send ty words).regs = s.regs ∧ (s.send ty words).host = s.host := by
  unfold State.send
  dsimp only
  split <;> exact State.putMsg_regs_host _ _ _ _

theorem State.sendOwner_regs_host (s : State) (ori : Nat) :
    (s.sendOwner ori).regs = s.regs ∧ (s.sendOwner ori).host = s.host := by
  unfold State.sendOwner
  cases s.mirrors
  · exact ⟨rfl, rfl⟩
  · exact s.send_regs_host _ _

@[simp] theorem State.fld_sendOwner (s : State) (ori : Nat) (f : Field) (i j : Nat) :
    (s.sendOwner ori).fld f i j = s.fld f i j := fld_congr (s.sendOwner_regs_host ori).1 f i j

@[simp] theorem State.owner_sendOwner (s : State) (ori o : Nat) : (s.sendOwner ori).owner o = s.owner o := by
  unfold State.owner
  rw [State.fld_sendOwner]

/-! ### A resource passes -/

theorem State.fld_each_resetFld (l : List Field) (s : State) (m : Nat) {f : Field} {i j : Nat}
    (apart : ∀ g ∈ l, g.key m 0 ≠ f.key i j) : (s.each l (fun s g => s.resetFld g m)).fld f i j = s.fld f i j := by
  induction l generalizing s with
  | nil => rfl
  | cons g l ih =>
    rw [State.each_cons, ih _ fun x hx => apart x (List.mem_cons_of_mem _ hx)]
    unfold State.fld State.resetFld
    rw [Tab.find?_erase_ne _ (apart g List.mem_cons_self)]

theorem State.host_each_resetFld (l : List Field) (s : State) (m : Nat) :
    (s.each l (fun s g => s.resetFld g m)).host = s.host := by
  induction l generalizing s with
  | nil => rfl
  | cons g l ih => rw [State.each_cons, ih, State.resetFld_host]

/-- Clearing a host path changes no field below the media ports. -/
theorem State.fld_clearHostPath (s : State) (m : Nat) {f : Field} {i j : Nat} (below : f.key i j < 0xE00000) :
    (s.clearHostPath m).fld f i j = s.fld f i j := by
  have bases : ∀ g ∈ hostPathFields, 0x1C0000 ≤ g.base := by decide
  have ports : (s.clearHostPath m).regs = (s.each hostPathFields (fun s g => s.resetFld g m)).regs :=
    State.setPortRun_regs _ _ _
  rw [State.fld_congr ports]
  refine s.fld_each_resetFld hostPathFields m fun g hg e => ?_
  have above : 0xE00000 ≤ g.key m 0 := by
    have := bases g hg
    unfold Field.key Field.off
    omega
  omega

theorem State.host_clearHostPath (s : State) (m : Nat) : (s.clearHostPath m).host = s.host :=
  (State.setPortRun_host _ _ _).trans (s.host_each_resetFld hostPathFields m)

theorem State.fld_passTo (s : State) (ori : Nat) (p : Option Nat) {f : Field} {i j : Nat} (below : f.key i j < 0xE00000) :
    (s.passTo ori p).fld f i j = (s.setOwner ori p).fld f i j :=
  State.fld_when (State.fld_clearHostPath _ _ below)

theorem State.host_passTo (s : State) (ori : Nat) (p : Option Nat) : (s.passTo ori p).host = s.host := by
  unfold State.passTo State.when
  split
  · exact (State.host_clearHostPath _ _).trans (s.setOwner_host ori p)
  · rfl

/-- The resource that passes has its new owner. -/
theorem State.owner_passTo_self (s : State) {ori : Nat} {p : Option Nat} (ho : ori < 3072) (hp : ∀ q, p = some q → q < 8) :
    (s.passTo ori p).owner ori = p := by
  have below : OWN_OWNER.key ori 0 < 0xE00000 := by rw [ownOwner_key]; omega
  unfold State.owner
  rw [s.fld_passTo ori p below]
  unfold State.setOwner
  rw [State.fld_setFld_self]
  cases p with
  | none => rfl
  | some q =>
    have := hp q rfl
    have small : (q + 1) % 2 ^ OWN_OWNER.w = q + 1 := Nat.mod_eq_of_lt (by show q + 1 < 2 ^ 4; omega)
    simp only [small]
    rw [if_pos (by omega), Nat.add_sub_cancel]

/-- Every other resource keeps its owner. -/
theorem State.owner_passTo_ne (s : State) {ori o : Nat} (p : Option Nat) (ho : o < 3072) (ne : o ≠ ori) :
    (s.passTo ori p).owner o = s.owner o := by
  have below : OWN_OWNER.key o 0 < 0xE00000 := by rw [ownOwner_key]; omega
  unfold State.owner
  rw [s.fld_passTo ori p below]
  unfold State.setOwner
  rw [s.fld_setFld_ne _ OWN_OWNER _ _ _ o 0 (by rw [ownOwner_key, ownOwner_key]; omega)]

/-- No share bit changes. -/
theorem State.shared_passTo (s : State) (ori : Nat) {o : Nat} (p : Option Nat) (ho : o < 3072) :
    (s.passTo ori p).fld OWN_SHARED o = s.fld OWN_SHARED o := by
  rw [s.fld_passTo ori p (by rw [ownShared_key]; omega)]
  exact s.fld_setFld_ne _ OWN_SHARED _ _ _ o 0 (by rw [ownOwner_key, ownShared_key]; omega)

/-! ### Ownership requests (R45) -/

theorem State.owner_setFld_shared (s : State) (v ori o : Nat) : (s.setFld OWN_SHARED v ori).owner o = s.owner o := by
  unfold State.owner
  rw [s.fld_setFld_ne OWN_SHARED OWN_OWNER v ori 0 o 0 (by rw [ownOwner_key, ownShared_key]; omega)]

theorem State.shared_setFld_ne (s : State) (v : Nat) {ori o : Nat} (ne : o ≠ ori) :
    (s.setFld OWN_SHARED v ori).fld OWN_SHARED o = s.fld OWN_SHARED o :=
  s.fld_setFld_ne OWN_SHARED OWN_SHARED v ori 0 o 0 (by rw [ownShared_key, ownShared_key]; omega)

/-- A granted request reaches its own resource only. -/
theorem State.claimEffect_elsewhere (s : State) (q : ClaimReq) {o : Nat} (ho : o < 3072) (ne : o ≠ q.ori) :
    (s.claimEffect q).owner o = s.owner o ∧ (s.claimEffect q).fld OWN_SHARED o = s.fld OWN_SHARED o := by
  unfold State.claimEffect
  simp only [State.owner_sendOwner, State.fld_sendOwner]
  split
  · exact ⟨s.owner_passTo_ne _ ho ne, s.shared_passTo _ _ ho⟩
  · rw [State.owner_setFld_shared, State.shared_setFld_ne _ _ ne]
    exact ⟨s.owner_passTo_ne _ ho ne, s.shared_passTo _ _ ho⟩
  · exact ⟨s.owner_setFld_shared _ _ _, s.shared_setFld_ne _ ne⟩
  · exact ⟨s.owner_setFld_shared _ _ _, s.shared_setFld_ne _ ne⟩
  · exact ⟨s.owner_passTo_ne _ ho ne, s.shared_passTo _ _ ho⟩

/-- What a granted request makes of its resource, by its act. -/
theorem State.claimEffect_resource (s : State) (q : ClaimReq) (ho : q.ori < 3072) (hp : q.part < 8) :
    let t := s.claimEffect q
    (q.act = 1 → t.owner q.ori = some q.part ∧ t.fld OWN_SHARED q.ori = s.fld OWN_SHARED q.ori) ∧
    (q.act = 2 → t.owner q.ori = none ∧ t.fld OWN_SHARED q.ori = 0) ∧
    (q.act = 3 → t.owner q.ori = s.owner q.ori ∧ t.fld OWN_SHARED q.ori = 1) ∧
    (q.act = 4 → t.owner q.ori = s.owner q.ori ∧ t.fld OWN_SHARED q.ori = 0) ∧
    (q.act = 5 → q.target < 8 → t.owner q.ori = some q.target ∧ t.fld OWN_SHARED q.ori = s.fld OWN_SHARED q.ori) := by
  have passes : ∀ p < 8, (s.passTo q.ori (some p)).owner q.ori = some p ∧
      (s.passTo q.ori (some p)).fld OWN_SHARED q.ori = s.fld OWN_SHARED q.ori := fun p hp =>
    ⟨s.owner_passTo_self ho (fun x e => by cases e; exact hp), s.shared_passTo _ _ ho⟩
  unfold State.claimEffect
  simp only [State.owner_sendOwner, State.fld_sendOwner]
  refine ⟨fun act => ?_, fun act => ?_, fun act => ?_, fun act => ?_, fun act target => ?_⟩
  all_goals rw [act]
  · exact passes _ hp
  · exact ⟨(State.owner_setFld_shared _ _ _ _).trans (s.owner_passTo_self ho (fun _ e => nomatch e)),
      State.fld_setFld_self _ _ _ _ _⟩
  · exact ⟨s.owner_setFld_shared _ _ _, s.fld_setFld_self _ _ _ _⟩
  · exact ⟨s.owner_setFld_shared _ _ _, s.fld_setFld_self _ _ _ _⟩
  · exact passes _ target

theorem State.host_claimEffect (s : State) (q : ClaimReq) : (s.claimEffect q).host = s.host := by
  unfold State.claimEffect
  refine (State.sendOwner_regs_host _ _).2.trans ?_
  split
  · exact s.host_passTo _ _
  · exact s.host_passTo _ _
  · rfl
  · rfl
  · exact s.host_passTo _ _

/-- The requests that wait are those of a list. -/
def State.withClaims (s : State) (l : List ClaimReq) : State := { s with host := { s.host with claims := l } }

/-- A request of partition p is answered. -/
def State.answerClaim (s : State) (p result : Nat) : State := (s.setFld PCB_RESULT result p).setFld PCB_BUSY 0 p

/-- CLAIM_COMPLETE takes the oldest request: a barred one is answered with its bar, a granted one takes effect. -/
theorem claimComplete_eq {s : State} {q : ClaimReq} {rest : List ClaimReq} (h : s.host.claims = q :: rest) :
    (∀ bar, s.claimBar q = some bar → exec .claimComplete s = .next ((s.withClaims rest).answerClaim q.part bar)) ∧
    (s.claimBar q = none →
      exec .claimComplete s = .next (((s.withClaims rest).claimEffect q).answerClaim q.part Claim.DONE)) := by
  have run : exec .claimComplete s = execClaimComplete s := rfl
  refine ⟨fun bar hb => ?_, fun hb => ?_⟩
  · have taken : ({ s with host := { s.host with claims := rest } } : State).claimBar q = some bar := hb
    rw [run, execClaimComplete, h]
    simp only [taken]
    rfl
  · have taken : ({ s with host := { s.host with claims := rest } } : State).claimBar q = none := hb
    rw [run, execClaimComplete, h]
    simp only [taken]
    rfl

/-! ### Why a request is refused (R45, R48) -/

/-- An index above the OWN table bars every act. -/
theorem State.ori_lt_of_granted {s : State} {q : ClaimReq} (granted : s.claimBar q = none) : q.ori < 3072 :=
  Nat.lt_of_not_le fun high => by
    have barred : s.claimBar q = some Claim.BAD_INDEX := if_pos high
    rw [granted] at barred
    exact nomatch barred

/-- CLAIM needs the lease of the partition and a resource that nobody else owns. -/
theorem State.claimBar_claim (s : State) {q : ClaimReq} (ho : q.ori < 3072) (act : q.act = 1) :
    s.claimBar q = if s.hasLease q.part = false then some Claim.NO_LEASE
      else if (s.owner q.ori).isSome = true ∧ s.owner q.ori ≠ some q.part then some Claim.OWNED_ELSEWHERE else none := by
  simp [State.claimBar, act, Nat.not_le.2 ho]

/-- ASSIGN is P0's, and its target holds a lease. -/
theorem State.claimBar_assign (s : State) {q : ClaimReq} (ho : q.ori < 3072) (act : q.act = 5) :
    s.claimBar q = if q.part ≠ 0 then some Claim.NOT_SUPERVISOR
      else if s.present q.target = false ∨ s.pstate q.target = partOff then some Claim.BAD_TARGET
      else if s.hasLease q.target = false then some Claim.NO_LEASE else none := by
  simp [State.claimBar, act, Nat.not_le.2 ho]

/-- RELEASE, SHARE and UNSHARE are the owner's; the last two concern sources and compositors, and a resource in use is
neither released nor unshared. -/
theorem State.claimBar_owned (s : State) {q : ClaimReq} (ho : q.ori < 3072) (act : q.act = 2 ∨ q.act = 3 ∨ q.act = 4) :
    s.claimBar q = if (q.act = 3 ∨ q.act = 4) ∧ shareable q.ori = false then some Claim.NOT_SOURCE
      else if s.owner q.ori ≠ some q.part then some Claim.NOT_OWNER
      else if (q.act = 2 ∨ q.act = 4) ∧ (s.refsTo q.ori ≠ 0 ∨ s.stagedTouches q.part q.ori = true) then some Claim.IN_USE
      else none := by
  have notClaim : q.act ≠ 1 := by omega
  have notAssign : q.act ≠ 5 := by omega
  simp [State.claimBar, notClaim, notAssign, Nat.not_le.2 ho]

/-- The owner's RELEASE or UNSHARE is barred only by the use of the resource. -/
theorem State.claimBar_inUse (s : State) {q : ClaimReq} (ho : q.ori < 3072)
    (act : q.act = 2 ∨ (q.act = 4 ∧ shareable q.ori = true)) (own : s.owner q.ori = some q.part) :
    s.claimBar q = some Claim.IN_USE ↔ s.refsTo q.ori ≠ 0 ∨ s.stagedTouches q.part q.ori = true := by
  have sharing : ¬((q.act = 3 ∨ q.act = 4) ∧ shareable q.ori = false) := by
    rintro ⟨_, no⟩
    rcases act with act | ⟨_, yes⟩
    · omega
    · simp [yes] at no
  have frees : q.act = 2 ∨ q.act = 4 := act.imp_right And.left
  rw [s.claimBar_owned ho (frees.imp_right .inr), if_neg sharing, if_neg (fun other => other own)]
  by_cases use : s.refsTo q.ori ≠ 0 ∨ s.stagedTouches q.part q.ori = true
  · exact iff_of_true (if_pos ⟨frees, use⟩) use
  · rw [if_neg (fun h => use h.2)]
    exact iff_of_false nofun use

/-- A bar is one of the results of R53. -/
theorem State.claimBar_lt {s : State} {q : ClaimReq} {bar : Nat} (h : s.claimBar q = some bar) : bar < 16 := by
  unfold State.claimBar at h
  dsimp only at h
  have codes : ∀ x ∈ [Claim.OWNED_ELSEWHERE, Claim.NOT_OWNER, Claim.IN_USE, Claim.NO_LEASE, Claim.BAD_INDEX,
      Claim.NOT_SOURCE, Claim.NOT_SUPERVISOR, Claim.BAD_TARGET], x < 16 := by decide
  apply codes
  repeat' split at h
  all_goals simp_all

/-- The answer stands in RESULT, with BUSY clear; owners, share bits and what waits are as before. -/
theorem State.answerClaim_spec (s : State) {p result : Nat} (hp : p < 8) (hr : result < 16) :
    let t := s.answerClaim p result
    t.fld PCB_BUSY p = 0 ∧ t.fld PCB_RESULT p = result ∧ t.host = s.host ∧
      ∀ o, t.owner o = s.owner o ∧ t.fld OWN_SHARED o = s.fld OWN_SHARED o := by
  refine ⟨State.fld_setFld_self _ _ _ _ _, ?_, rfl, fun o => ⟨?_, ?_⟩⟩
  · unfold State.answerClaim
    rw [State.fld_setFld_ne _ _ _ _ _ _ _ _ (Field.key_ne (by decide) (by decide) p), State.fld_setFld_self]
    exact Nat.mod_eq_of_lt hr
  · unfold State.answerClaim
    rw [State.owner_setFld_pcb _ _ _ rfl (by decide) (by decide) hp,
      State.owner_setFld_pcb _ _ _ rfl (by decide) (by decide) hp]
  · unfold State.answerClaim
    rw [State.shared_setFld_pcb _ _ _ rfl (by decide) (by decide) hp,
      State.shared_setFld_pcb _ _ _ rfl (by decide) (by decide) hp]

/-- A barred request is answered with its bar, and nobody's resources change. -/
theorem claimComplete_barred {s : State} {q : ClaimReq} {rest : List ClaimReq} (h : s.host.claims = q :: rest)
    (hp : q.part < 8) {bar : Nat} (hb : s.claimBar q = some bar) :
    ∃ t, exec .claimComplete s = .next t ∧ t.host.claims = rest ∧ t.fld PCB_BUSY q.part = 0 ∧ t.fld PCB_RESULT q.part = bar ∧
      ∀ o, t.owner o = s.owner o ∧ t.fld OWN_SHARED o = s.fld OWN_SHARED o := by
  obtain ⟨busy, result, host, same⟩ := (s.withClaims rest).answerClaim_spec hp (State.claimBar_lt hb)
  exact ⟨_, (claimComplete_eq h).1 bar hb, congrArg HostState.claims host, busy, result, same⟩

/-- A granted request is answered with DONE, and its effect is on the state without it. -/
theorem claimComplete_granted {s : State} {q : ClaimReq} {rest : List ClaimReq} (h : s.host.claims = q :: rest)
    (hp : q.part < 8) (hb : s.claimBar q = none) :
    ∃ t, exec .claimComplete s = .next t ∧ t.host.claims = rest ∧ t.fld PCB_BUSY q.part = 0 ∧
      t.fld PCB_RESULT q.part = Claim.DONE ∧ ∀ o, t.owner o = ((s.withClaims rest).claimEffect q).owner o ∧
        t.fld OWN_SHARED o = ((s.withClaims rest).claimEffect q).fld OWN_SHARED o := by
  obtain ⟨busy, result, host, same⟩ :=
    ((s.withClaims rest).claimEffect q).answerClaim_spec hp (result := Claim.DONE) (by decide)
  have claims : (((s.withClaims rest).claimEffect q).answerClaim q.part Claim.DONE).host.claims = rest :=
    congrArg HostState.claims (host.trans ((s.withClaims rest).host_claimEffect q))
  exact ⟨_, (claimComplete_eq h).2 hb, claims, busy, result, same⟩

/-- Settles O11: a request takes effect on its resource alone, and its bars are read off the tests of each act. -/
theorem ownershipRequests : Obligations.OwnershipRequests := by
  refine ⟨fun s q rest h hp _ _ => ?_, fun s q ho => ⟨?_, ?_, ?_, ?_, ?_, ?_, ?_, ?_, ?_, ?_, ?_, ?_⟩⟩
  · cases hb : s.claimBar q with
    | some bar =>
      obtain ⟨t, run, claims, busy, result, same⟩ := claimComplete_barred h hp hb
      exact ⟨t, run, claims, busy, result, fun _ o _ => same o, fun e => (nomatch e)⟩
    | none =>
      obtain ⟨t, run, claims, busy, result, same⟩ := claimComplete_granted h hp hb
      have ho := State.ori_lt_of_granted hb
      refine ⟨t, run, claims, busy, result, fun e => (nomatch e), fun _ => ⟨fun o ho' ne => ?_, ?_⟩⟩
      · rw [(same o).1, (same o).2]
        exact (s.withClaims rest).claimEffect_elsewhere q ho' ne
      · rw [(same q.ori).1, (same q.ori).2]
        exact (s.withClaims rest).claimEffect_resource q ho hp
  · intro act lease
    rw [s.claimBar_claim ho act, if_pos lease]
  · intro act lease own
    rw [s.claimBar_claim ho act, if_neg (by simp [lease]), if_neg]
    rintro ⟨some', ne⟩
    rcases own with own | own
    · simp [own] at some'
    · exact ne own
  · intro act lease x own ne
    rw [s.claimBar_claim ho act, if_neg (by simp [lease]), if_pos]
    simp [own, ne]
  · intro act own
    rw [s.claimBar_owned ho (.inl act), if_neg (by omega), if_pos own]
  · intro act not
    have no : shareable q.ori = false := decide_eq_false not
    rw [s.claimBar_owned ho (.inr act), if_pos ⟨act, no⟩]
  · exact fun act => s.claimBar_inUse ho (.inl act)
  · exact fun act share => s.claimBar_inUse ho (.inr ⟨act, share⟩)
  · intro act share own
    rw [s.claimBar_owned ho (.inr (.inl act)), if_neg (by simp [share]), if_neg (fun other => other own), if_neg (by omega)]
  · intro act share own
    rw [s.claimBar_owned ho (.inr act), if_neg (by simp [share]), if_pos own]
  · intro act part
    rw [s.claimBar_assign ho act, if_pos part]
  · intro act part here on lease
    rw [s.claimBar_assign ho act, if_neg (by omega), if_neg (by simp [here, on]), if_pos lease]
  · intro act part here on lease
    rw [s.claimBar_assign ho act, if_neg (by omega), if_neg (by simp [here, on]), if_neg (by simp [lease])]

/-! ### Leases (R49, R50) -/

/-- STATE, LEASE_MS and the like stand apart from what a raise writes. -/
theorem raiseKey_pcbState (p : Fin 8) : raiseKey (PCB_STATE.key p 0) = false := by revert p; decide

theorem raiseKey_ownOwner {o : Nat} (ho : o < 3072) : raiseKey (OWN_OWNER.key o 0) = false := by
  unfold raiseKey
  simp only [ownOwner_key, Bool.or_eq_false_iff, Bool.and_eq_false_iff, decide_eq_false_iff_not]
  omega

/-- The tick at which a lease has run out makes its partition LAPSED, raises PART_LAPSED, and changes nothing else. -/
theorem State.lapse_of_out {s : State} {p : Nat} (h : s.leaseOut p = true) :
    s.lapse p = ((s.setFld PCB_STATE partLapsed p).setPart p { s.part p with lapsedAt := s.leaseTick p }).raise
      Ev.PART_LAPSED { index := p, dest := 0 :: s.deputy.toList } := if_pos h

theorem State.lapse_of_not_out {s : State} {p : Nat} (h : s.leaseOut p = false) : s.lapse p = s :=
  if_neg (by simp [h])

theorem RaiseFrame.lapsedAt {s t : State} (h : RaiseFrame s t) (p : Nat) : (t.part p).lapsedAt = (s.part p).lapsedAt :=
  (congrArg PartRun.lapsedAt (h.part p) :)

theorem RaiseFrame.owner {s t : State} (h : RaiseFrame s t) {o : Nat} (ho : o < 3072) : t.owner o = s.owner o := by
  unfold State.owner
  rw [h.fld OWN_OWNER o 0 (raiseKey_ownOwner ho)]

theorem State.lapse_lapsed {s : State} {p : Fin 8} (h : s.leaseOut p = true) :
    (s.lapse p).pstate p = partLapsed ∧ ((s.lapse p).part p).lapsedAt = s.leaseTick p ∧
      (s.lapse p).time = s.time ∧ ∀ o, o < 3072 → (s.lapse p).owner o = s.owner o := by
  have frame := raise_frame ((s.setFld PCB_STATE partLapsed p).setPart p { s.part p with lapsedAt := s.leaseTick p })
    Ev.PART_LAPSED { index := p, dest := 0 :: s.deputy.toList } (by decide)
  rw [← State.lapse_of_out h] at frame
  refine ⟨?_, ?_, frame.time, fun o ho => ?_⟩
  · exact (frame.fld PCB_STATE p 0 (raiseKey_pcbState p)).trans (s.fld_setFld_self PCB_STATE partLapsed p 0)
  · rw [frame.lapsedAt, part_setPart_self]
  · exact (frame.owner ho).trans (s.owner_setFld_pcb (f := PCB_STATE) _ o rfl (by decide) (by decide) p.isLt)

/-! ### What a partition that is LIVE again is sent -/

theorem State.regs_sendVector (s : State) (p v : Nat) : (s.sendVector p v).regs = s.regs := by
  unfold State.sendVector
  split <;> rfl

theorem State.upTo_invariant {α : Type} (s : State) (n : Nat) (f : State → Nat → State) (view : State → α)
    (step : ∀ t k, k < n → view (f t k) = view t) : view (s.upTo n f) = view s := by
  have fold : ∀ (l : List Nat), (∀ k ∈ l, k < n) → ∀ t, view (l.foldl f t) = view t := by
    intro l
    induction l with
    | nil => exact fun _ _ => rfl
    | cons k l ih =>
      intro below t
      exact (ih (fun x hx => below x (List.mem_cons_of_mem _ hx)) _).trans (step t k (below k List.mem_cons_self))
  exact fold (List.range n) (fun _ hk => List.mem_range.1 hk) s

theorem State.regs_sendPending (s : State) (p : Nat) : (s.sendPending p).regs = s.regs := by
  refine s.upTo_invariant 64 _ State.regs fun t v _ => ?_
  dsimp only
  split
  · exact State.regs_sendVector _ _ _
  · rfl

/-- Data that waited leaves the block, and no register changes. -/
theorem State.regs_each_emit {α : Type} (l : List α) (s : State) (o : α → Output) :
    (s.each l (fun s x => s.emit (o x))).regs = s.regs := by
  induction l generalizing s with
  | nil => rfl
  | cons x l ih => exact ih (s.emit (o x))

/-- A record moves HEAD and CQ_TAIL of its ring; every other field is as before. -/
theorem State.fld_writeCompletion (s : State) (p k : Nat) (c : Completion) {f : Field} {i j : Nat}
    (head : RING_HEAD.key p k ≠ f.key i j) (tail : RING_CQ_TAIL.key p k ≠ f.key i j) :
    (s.writeCompletion p k c).fld f i j = s.fld f i j := by
  unfold State.writeCompletion
  dsimp only
  refine (State.fld_when (g := fun s => s.sendVector p (s.fld RING_VECTOR p k))
    (State.fld_congr (State.regs_sendVector _ _ _) f i j)).trans ?_
  refine (State.fld_congr (State.setRing_regs _ _ _ _) f i j).trans ?_
  split
  · exact State.fld_setFld_ne _ _ _ _ _ _ _ _ tail
  · exact (State.fld_setFld_ne _ _ _ _ _ _ _ _ head).trans (State.fld_setFld_ne _ _ _ _ _ _ _ _ tail)

theorem State.pstate_writeHeld (s : State) (p : Fin 8) : (s.writeHeld p).pstate p = s.pstate p := by
  have head : ∀ k < 64, RING_HEAD.key p k ≠ PCB_STATE.key p 0 := fun k hk => by
    simp only [Field.key, Field.off, RING_HEAD, PCB_STATE]; omega
  have tail : ∀ k < 64, RING_CQ_TAIL.key p k ≠ PCB_STATE.key p 0 := fun k hk => by
    simp only [Field.key, Field.off, RING_CQ_TAIL, PCB_STATE]; omega
  refine s.upTo_invariant 64 _ (State.pstate · p) fun t k hk => ?_
  have data := State.fld_congr (State.regs_each_emit (t.ring p k).heldData t fun x => .hostData p x.1 x.2) PCB_STATE p 0
  dsimp only
  split
  · exact (State.fld_writeCompletion _ _ _ _ (head k hk) (tail k hk)).trans data
  · exact data

/-- A heartbeat of a LAPSED partition, in a later cycle than its lapse, makes it LIVE. -/
theorem State.beat_revives {s : State} {p : Fin 8} (out : s.leaseOut p = false) (lapsed : s.pstate p = partLapsed)
    (later : (s.part p).lapsedAt ≠ s.time.grid) : (s.beat p).pstate p = partLive := by
  have renewed : (s.renewLease p).pstate p = partLapsed := lapsed
  unfold State.beat
  simp only [State.lapse_of_not_out out]
  rw [if_neg fun h => later h.2, renewed]
  show ((((s.renewLease p).setFld PCB_STATE partLive p).writeHeld p).sendPending p).pstate p = partLive
  exact (State.fld_congr (State.regs_sendPending _ _) PCB_STATE p 0).trans
    ((State.pstate_writeHeld _ p).trans (State.fld_setFld_self _ _ _ _ _))

/-- Settles O12: the lapse is the raise of PART_LAPSED on a state that differs in STATE and the instant of the lapse. -/
theorem leasesRunOut : Obligations.LeasesRunOut := by
  refine fun s p => ⟨rfl, fun out => ?_, State.lapse_of_not_out, State.beat_revives, fun out tick => ?_,
    fun live out => ?_⟩
  · obtain ⟨state, instant, _, owners⟩ := State.lapse_lapsed out
    exact ⟨state, instant, owners⟩
  · obtain ⟨state, instant, time, _⟩ := State.lapse_lapsed out
    have stays : s.beat p = s.lapse p := if_pos ⟨state, by rw [instant, time, tick]⟩
    exact ⟨stays, stays ▸ state⟩
  · have renewed : (s.renewLease p).pstate p = partLive := live
    unfold State.beat
    simp only [State.lapse_of_not_out out, live, renewed]
    rfl

/-! ### What a PART reset does to a descriptor of no partition (R54, R99) -/

/-- A descriptor under partition number 15. Only P0 .. P7 fetch descriptors, but the type of a request bounds no number. -/
def strayRequest : Request := { part := 15, ring := 0, index := 0, words := Vector.replicate 16 0, buf := [] }

/-- P0 owns resource 70, and its ring 0 holds that descriptor, granted to an engine. -/
def strayState : State := (State.reset.setOwner 70 (some 0)).setRing 0 0 { fetched := [strayRequest], place := .engine }

theorem owner_strayState : strayState.owner 70 = some 0 := by decide +kernel

/-- The reset ends the descriptor with ABORTED, and its record moves HEAD of "ring 0 of partition 15", whose key is that of
the owner of resource 70. -/
theorem owner_partReset_strayState : (strayState.partReset 0).owner 70 = none := by decide +kernel

/-- Refutes O13: the statement is of every state, and in one whose ring 0 of P0 holds a descriptor filed under a partition
that does not exist, the PART reset of P0 takes resource 70 from it, where every owner should stay. -/
theorem not_partitionResets : ¬ Obligations.PartitionResets := by
  rintro ⟨_, reset⟩
  obtain ⟨_, _, _, _, _, _, owners, _⟩ := reset strayState 0
  have kept : (strayState.partReset 0).owner 70 = strayState.owner 70 := owners 70 (by decide)
  rw [owner_partReset_strayState, owner_strayState] at kept
  exact nomatch kept

end Sys2Proof.Machine

/-! # Proofs: errors of the frame store, scrubbing, retirement of quarter-pages, and temperatures -/

namespace Sys2Proof.Machine
open Reg

/-! ### What a raise and the end of a condition leave of the memory controllers' fields -/

/-- A raise with free data writes the keys that a raise writes. -/
theorem State.fld_raiseOpen (s : State) {ev : Nat} (r : Raise) {f : Field} {i j : Nat} (hev : ev < 1024)
    (hk : raiseKey (f.key i j) = false) : (s.raiseOpen ev r).fld f i j = s.fld f i j :=
  (fld_raise _ ev _ f i j hev hk).trans (State.fld_congr s.advance_regs f i j)

theorem State.store_raiseOpen (s : State) {ev : Nat} (r : Raise) (hev : ev < 1024) :
    (s.raiseOpen ev r).store = s.store :=
  (raise_frame s.advance ev _ hev).store

/-- The end of a condition writes HOLDS of the fault records only. -/
theorem State.fld_conditionEnds (s : State) (ev index : Nat) {f : Field} {i j : Nat}
    (apart : ∀ k < 16, FREC_HOLDS.key k 0 ≠ f.key i j) : (s.conditionEnds ev index).fld f i j = s.fld f i j :=
  s.upTo_invariant 16 _ (State.fld · f i j) fun _ k hk => State.fld_when (State.fld_setFld_ne _ _ _ _ _ _ _ _ (apart k hk))

/-- A field at or above the memory controllers' registers stands above the fault records. -/
theorem Field.key_ge_mc {f : Field} (base : 0x50000 ≤ f.base) (i : Nat) : 8 * 0x50000 ≤ f.key i 0 := by
  unfold Field.key Field.off
  omega

section
variable {f : Field} (s : State) (base : 0x50000 ≤ f.base) (i : Nat)
include base

theorem State.fld_raiseOpen_mc {ev : Nat} (r : Raise) (hev : ev < 1024) : (s.raiseOpen ev r).fld f i = s.fld f i := by
  have key := Field.key_ge_mc base i
  refine s.fld_raiseOpen r hev ?_
  simp only [raiseKey, Bool.or_eq_false_iff, Bool.and_eq_false_iff, decide_eq_false_iff_not]
  omega

theorem State.fld_conditionEnds_mc (ev index : Nat) : (s.conditionEnds ev index).fld f i = s.fld f i := by
  have key := Field.key_ge_mc base i
  refine s.fld_conditionEnds ev index fun k hk => ?_
  have record : FREC_HOLDS.key k 0 = 8 * (0x24100 + k * 0x20 + 0) + 17 := by simp [Field.key, Field.off, FREC_HOLDS]
  omega

end

/-- Two fields of one copy of a block that stand apart. -/
theorem State.fld_setFld_apart (s : State) (f g : Field) (v i : Nat) (stride : f.s1 = g.s1)
    (apart : 8 * f.base + f.lo ≠ 8 * g.base + g.lo) : (s.setFld f v i).fld g i = s.fld g i :=
  s.fld_setFld_ne f g v i 0 i 0 (Field.key_ne stride apart i)

/-! ### Retirement (R161) -/

/-- A quarter-page is listed as retired, and MC_RETIRED counts it. -/
def State.listRetired (s : State) (stack qp : Nat) : State :=
  { s with store := { s.store with retiredQp := (stack, qp) :: s.store.retiredQp } }.addFld MC_RETIRED 1 stack

/-- A quarter-page of the pool leaves its total, and the free ones where it is free. -/
def State.leavePool (s : State) (stack : Nat) (free : Bool) : State :=
  let t := s.setFld MC_QP_TOTAL (s.fld MC_QP_TOTAL stack - 1) stack
  t.when free (fun t => t.setFld MC_QP_FREE (t.fld MC_QP_FREE stack - 1) stack)

theorem State.retire_again {s : State} {stack qp : Nat} (h : s.store.retiredQp.contains (stack, qp) = true) :
    s.retire stack qp = s := if_pos h

theorem State.retire_first {s : State} {stack qp : Nat} (h : s.store.retiredQp.contains (stack, qp) = false) :
    s.retire stack qp = ((s.listRetired stack qp).when (decide (poolFrom ≤ qp))
      (·.leavePool stack (!s.store.used.contains (stack, qp)))).raiseOpen Ev.PAGE_RETIRED { index := stack } :=
  if_neg fun again => Bool.false_ne_true (h.symm.trans again)

theorem State.store_leavePool (s : State) (stack : Nat) (free : Bool) : (s.leavePool stack free).store = s.store := by
  cases free <;> rfl

theorem State.fld_leavePool (s : State) (stack : Nat) (free : Bool) {f : Field}
    (stride : MC_QP_TOTAL.s1 = f.s1) (total : 8 * MC_QP_TOTAL.base + MC_QP_TOTAL.lo ≠ 8 * f.base + f.lo)
    (left : 8 * MC_QP_FREE.base + MC_QP_FREE.lo ≠ 8 * f.base + f.lo) :
    (s.leavePool stack free).fld f stack = s.fld f stack :=
  (State.fld_when (State.fld_setFld_apart _ MC_QP_FREE f _ _ stride left)).trans
    (State.fld_setFld_apart _ MC_QP_TOTAL f _ _ stride total)

theorem State.total_leavePool (s : State) (stack : Nat) (free : Bool) :
    (s.leavePool stack free).fld MC_QP_TOTAL stack = (s.fld MC_QP_TOTAL stack - 1) % 2 ^ MC_QP_TOTAL.w :=
  (State.fld_when (State.fld_setFld_apart _ MC_QP_FREE MC_QP_TOTAL _ _ rfl (by decide))).trans
    (State.fld_setFld_self _ _ _ _ _)

theorem State.retired_listRetired (s : State) (stack qp : Nat) :
    (s.listRetired stack qp).fld MC_RETIRED stack = (s.fld MC_RETIRED stack + 1) % 2 ^ MC_RETIRED.w :=
  State.fld_setFld_self _ _ _ _ _

theorem State.total_listRetired (s : State) (stack qp : Nat) :
    (s.listRetired stack qp).fld MC_QP_TOTAL stack = s.fld MC_QP_TOTAL stack :=
  State.fld_setFld_apart _ MC_RETIRED MC_QP_TOTAL _ _ rfl (by decide)

section
variable {s : State} {stack qp : Nat} (first : s.store.retiredQp.contains (stack, qp) = false)
include first

theorem State.retiredQp_retire : (s.retire stack qp).store.retiredQp = (stack, qp) :: s.store.retiredQp := by
  rw [State.retire_first first, State.store_raiseOpen _ _ (by decide)]
  unfold State.when
  split
  · rw [State.store_leavePool]; rfl
  · rfl

theorem State.retired_retire :
    (s.retire stack qp).fld MC_RETIRED stack = (s.fld MC_RETIRED stack + 1) % 2 ^ MC_RETIRED.w := by
  rw [State.retire_first first, State.fld_raiseOpen_mc _ (by decide) _ _ (by decide)]
  exact (State.fld_when (State.fld_leavePool (f := MC_RETIRED) _ _ _ rfl (by decide) (by decide))).trans
    (s.retired_listRetired stack qp)

/-- A quarter-page of the device structures is in no pool (R129). -/
theorem State.total_retire_structure (below : qp < poolFrom) :
    (s.retire stack qp).fld MC_QP_TOTAL stack = s.fld MC_QP_TOTAL stack := by
  rw [State.retire_first first, State.fld_raiseOpen_mc _ (by decide) _ _ (by decide), decide_eq_false (by omega)]
  exact s.total_listRetired stack qp

theorem State.total_retire_pool (pool : poolFrom ≤ qp) :
    (s.retire stack qp).fld MC_QP_TOTAL stack = (s.fld MC_QP_TOTAL stack - 1) % 2 ^ MC_QP_TOTAL.w := by
  rw [State.retire_first first, State.fld_raiseOpen_mc _ (by decide) _ _ (by decide), decide_eq_true pool]
  exact (State.total_leavePool _ _ _).trans (by rw [s.total_listRetired])

end

/-! ### Errors (R158, R160) -/

theorem qpAt_byte (qp : BitVec 16) (byte : BitVec 19) : qpAt (524288 * qp.toNat + byte.toNat) = qp.toNat := by
  have := byte.isLt
  unfold qpAt
  omega

/-- The address that an uncorrectable error names within its stack. -/
def errorAddr (qp : BitVec 16) (line : BitVec 13) (b : BitVec 6) : Nat := 524288 * qp.toNat + 64 * line.toNat + b.toNat

theorem qpAt_errorAddr (qp : BitVec 16) (line : BitVec 13) (b : BitVec 6) : qpAt (errorAddr qp line b) = qp.toNat := by
  have := line.isLt
  have := b.isLt
  unfold qpAt errorAddr
  omega

/-- In a scrub pass the word of a corrected error is also listed, and one that the last pass listed too retires its
quarter-page. -/
theorem eccCorrected_scrubbed (s : State) (stack : Fin 4) (qp : BitVec 16) (byte : BitVec 19) :
    let a := 524288 * qp.toNat + byte.toNat
    let t := (s.addFld MC_CE_CNT 1 stack).showError stack a false
    let u := { t with store := { t.store with thisPass := if t.store.thisPass.contains (stack.val, a / 8)
      then t.store.thisPass else (stack.val, a / 8) :: t.store.thisPass } }
    exec (.eccCorrected stack qp byte true) s =
      .next (if t.store.lastPass.contains (stack.val, a / 8) then u.retire stack qp.toNat else u) := by
  rw [exec_eccCorrected, execEccCorrected, qpAt_byte]
  rfl

/-- An uncorrectable error counts and is shown. -/
def State.errorShown (s : State) (stack : Fin 4) (qp : BitVec 16) (line : BitVec 13) (b : BitVec 6) : State :=
  (s.addFld MC_UE_CNT 1 stack).showError stack (errorAddr qp line b) true

/-- Beyond the device structures an uncorrectable error damages the slot that lies at the address, or what else lies there. -/
def State.poolDamaged (s : State) (stack addr : Nat) : State :=
  match s.slotByte stack addr with
  | some (n, id, i, byte) => s.slotError n id i byte
  | none => s.otherError stack addr

theorem State.poolDamaged_slot {s : State} {stack addr n id i byte : Nat}
    (found : s.slotByte stack addr = some (n, id, i, byte)) : s.poolDamaged stack addr = s.slotError n id i byte := by
  unfold State.poolDamaged
  rw [found]

theorem State.poolDamaged_noSlot {s : State} {stack addr : Nat} (absent : s.slotByte stack addr = none) :
    s.poolDamaged stack addr = s.otherError stack addr := by
  unfold State.poolDamaged
  rw [absent]

section
variable (s : State) (stack : Fin 4) (qp : BitVec 16) (line : BitVec 13) (b : BitVec 6)

theorem memUe_structure (below : qp.toNat < poolFrom) : exec (.memUe stack qp line b) s =
    .next (((s.errorShown stack qp line b).raiseOpen Ev.MEM_UE_STRUCT { index := stack }).retire stack qp.toNat) := by
  have at' : qpAt (errorAddr qp line b) < poolFrom := qpAt_errorAddr qp line b ▸ below
  rw [← qpAt_errorAddr qp line b]
  exact congrArg (fun t : State => Host.Outcome.next (t.retire stack _)) (if_pos at')

theorem memUe_pool (pool : poolFrom ≤ qp.toNat) : exec (.memUe stack qp line b) s =
    .next (((s.errorShown stack qp line b).poolDamaged stack (errorAddr qp line b)).retire stack qp.toNat) := by
  have at' : ¬qpAt (errorAddr qp line b) < poolFrom := by rw [qpAt_errorAddr]; omega
  rw [← qpAt_errorAddr qp line b]
  exact congrArg (fun t : State => Host.Outcome.next (t.retire stack _)) (if_neg at')

theorem memUe_slot {n id i byte : Nat} (pool : poolFrom ≤ qp.toNat)
    (found : (s.errorShown stack qp line b).slotByte stack (errorAddr qp line b) = some (n, id, i, byte)) :
    exec (.memUe stack qp line b) s =
      .next (((s.errorShown stack qp line b).slotError n id i byte).retire stack qp.toNat) := by
  rw [memUe_pool s stack qp line b pool, State.poolDamaged_slot found]

theorem memUe_noSlot (pool : poolFrom ≤ qp.toNat)
    (absent : (s.errorShown stack qp line b).slotByte stack (errorAddr qp line b) = none) :
    exec (.memUe stack qp line b) s =
      .next (((s.errorShown stack qp line b).otherError stack (errorAddr qp line b)).retire stack qp.toNat) := by
  rw [memUe_pool s stack qp line b pool, State.poolDamaged_noSlot absent]

end

/-! ### Scrubbing (R162) -/

theorem scrubPassEnd_off {s : State} {stack : Fin 4} (off : s.fld MC_SCRUB_MIN stack = 0) (b : Bool) :
    exec (.scrubPassEnd stack b) s = .next s := if_pos off

/-! ### The temperature of a stack (R162) -/

theorem State.hot_setTemp (s : State) (stack t : Nat) :
    (s.setFld MC_TEMP t stack).fld MC_TEMP_HI stack = s.fld MC_TEMP_HI stack :=
  s.fld_setFld_apart MC_TEMP MC_TEMP_HI _ _ rfl (by decide)

section
variable {s : State} {stack : Nat} (t : Nat)

theorem State.fldOn_hot_setTemp : (s.setFld MC_TEMP t stack).fldOn MC_TEMP_HI stack = s.fldOn MC_TEMP_HI stack := by
  unfold State.fldOn
  rw [s.hot_setTemp]

theorem State.stackTemp_hot (hot : s.fldOn MC_TEMP_HI stack = true) : s.stackTemp stack t = if t < 90
    then ((s.setFld MC_TEMP t stack).setFld MC_TEMP_HI 0 stack).conditionEnds Ev.HBM_HOT stack
    else s.setFld MC_TEMP t stack :=
  if_pos ((State.fldOn_hot_setTemp t).trans hot)

theorem State.stackTemp_cool (cool : s.fldOn MC_TEMP_HI stack = false) : s.stackTemp stack t = if 95 ≤ t
    then ((s.setFld MC_TEMP t stack).setFld MC_TEMP_HI 1 stack).raiseOpen Ev.HBM_HOT { index := stack, holds := true }
    else s.setFld MC_TEMP t stack :=
  if_neg (by rw [State.fldOn_hot_setTemp, cool]; exact Bool.false_ne_true)

end

/-- TEMP of a stack stands apart from TEMP_HI, the event and the fault records. -/
theorem State.temp_stackTemp (s : State) (stack t : Nat) :
    (s.stackTemp stack t).fld MC_TEMP stack = (s.setFld MC_TEMP t stack).fld MC_TEMP stack := by
  have apart : ∀ v, ((s.setFld MC_TEMP t stack).setFld MC_TEMP_HI v stack).fld MC_TEMP stack =
      (s.setFld MC_TEMP t stack).fld MC_TEMP stack := fun v =>
    State.fld_setFld_apart _ MC_TEMP_HI MC_TEMP _ _ rfl (by decide)
  cases hot : s.fldOn MC_TEMP_HI stack with
  | true =>
    rw [State.stackTemp_hot t hot]
    split
    · exact (State.fld_conditionEnds_mc _ (by decide) _ _ _).trans (apart 0)
    · rfl
  | false =>
    rw [State.stackTemp_cool t hot]
    split
    · exact (State.fld_raiseOpen_mc _ (by decide) _ _ (by decide)).trans (apart 1)
    · rfl

/-- A cool stack is hot from 95 degrees on. -/
theorem State.heats_iff {s : State} {stack : Nat} (t : Nat) (cool : s.fldOn MC_TEMP_HI stack = false) :
    (s.stackTemp stack t).fld MC_TEMP_HI stack = 1 ↔ 95 ≤ t := by
  rw [State.stackTemp_cool t cool]
  split
  next reached =>
    rw [State.fld_raiseOpen_mc _ (by decide) _ _ (by decide), State.fld_setFld_self]
    exact ⟨fun _ => reached, fun _ => rfl⟩
  next below =>
    have zero : s.fld MC_TEMP_HI stack = 0 := by simpa [State.fldOn] using cool
    rw [State.hot_setTemp, zero]
    exact ⟨fun h => absurd h (by decide), fun h => absurd h below⟩

/-- A hot stack is cool again below 90 degrees. -/
theorem State.cools_iff {s : State} {stack : Nat} (t : Nat) (hot : s.fldOn MC_TEMP_HI stack = true) :
    (s.stackTemp stack t).fld MC_TEMP_HI stack = 0 ↔ t < 90 := by
  rw [State.stackTemp_hot t hot]
  split
  next below =>
    rw [State.fld_conditionEnds_mc _ (by decide), State.fld_setFld_self]
    exact ⟨fun _ => below, fun _ => rfl⟩
  next reached =>
    have nonzero : s.fld MC_TEMP_HI stack ≠ 0 := by simpa [State.fldOn] using hot
    rw [State.hot_setTemp]
    exact ⟨fun h => absurd h nonzero, fun h => absurd h reached⟩

/-- Settles O29: each command by its effect, and retirement by what its first time adds. -/
theorem memoryErrors : Obligations.MemoryErrors := by
  refine ⟨fun s stack => ⟨fun qp byte => ?_, fun qp line b => ?_, fun on => ?_, scrubPassEnd_off, fun _ _ => rfl⟩,
    fun s stack t ht => ?_, fun s stack qp => ⟨State.retire_again, fun first => ?_⟩⟩
  · exact ⟨rfl, eccCorrected_scrubbed s stack qp byte⟩
  · exact ⟨memUe_structure s stack qp line b, fun _ _ _ _ => memUe_slot s stack qp line b, memUe_noSlot s stack qp line b⟩
  · exact ⟨if_neg on, if_neg on⟩
  · have shown : (s.stackTemp stack t).fld MC_TEMP stack = t :=
      (s.temp_stackTemp stack t).trans ((State.fld_setFld_self _ _ _ _ _).trans (Nat.mod_eq_of_lt ht))
    exact ⟨shown, State.heats_iff t, State.cools_iff t⟩
  · exact ⟨State.retiredQp_retire first, State.retired_retire first, State.total_retire_structure first,
      State.total_retire_pool first⟩

end Sys2Proof.Machine

/-! # Proofs: what serial video receivers do with locks, frames, losses, members and ancillary packets -/

namespace Sys2Proof.Machine
open Reg

/-! ### A lane that locks (R291, R335) -/

/-- The lane shows its lock, its signal and its rate. -/
def State.laneLocked (s : State) (l rate : Nat) : State :=
  ((s.setFld LANE_PLL_LOCK 1 l).setFld LANE_SIG_DET 1 l).setFld SDIRX_RATE_DET rate l

section
variable {s : State} {l : Fin 256} {rate : BitVec 4}
  (free : s.fldOn LANE_PWR l ∧ ¬s.rxHeld (s.rxHead l) ∧ 1 ≤ rate.toNat ∧ rate.toNat ≤ 9 ∧ ¬s.fldOn LANE_PLL_LOCK l)
include free

theorem sdiLaneLock_acquires (idle : ((s.laneLocked l rate.toNat).rx (s.rxHead l)).locked = false) :
    let t := s.laneLocked l rate.toNat
    exec (.sdiLaneLock l rate) s = .next (t.rxAcquire (s.rxHead l)
      (if t.rxQuad (s.rxHead l) then (List.range 4).filter (· != l.val % 4) else [])) := by
  have unlocked : ¬((s.laneLocked l rate.toNat).rx (s.rxHead l)).locked = true := by simp [idle]
  exact (if_pos free).trans ((if_neg (unlocked ·.1)).trans (if_neg unlocked))

theorem sdiLaneLock_runs (locked : ((s.laneLocked l rate.toNat).rx (s.rxHead l)).locked = true)
    (runs : ((s.laneLocked l rate.toNat).rx (s.rxHead l)).good = 3) :
    exec (.sdiLaneLock l rate) s = .next (s.laneLocked l rate.toNat) :=
  (if_pos free).trans (if_pos ⟨locked, runs⟩)

theorem sdiLaneLock_rejoins {r : RxRun} (now : (s.laneLocked l rate.toNat).rx (s.rxHead l) = r) (locked : r.locked = true)
    (acquires : r.good ≠ 3) (lost : r.lost.contains (l.val % 4) = true) (apart : r.rejoin.contains (l.val % 4) = false) :
    exec (.sdiLaneLock l rate) s =
      .next ((s.laneLocked l rate.toNat).setRx (s.rxHead l) { r with rejoin := r.rejoin ++ [l.val % 4] }) := by
  subst now
  refine (if_pos free).trans ((if_neg (acquires ·.2)).trans ((if_pos locked).trans ?_))
  exact congrArg (fun x => Host.Outcome.next ((s.laneLocked l rate.toNat).setRx (s.rxHead l)
    { (s.laneLocked l rate.toNat).rx (s.rxHead l) with rejoin := x })) (if_pos ⟨lost, fun h => Bool.false_ne_true (apart.symm.trans h)⟩)

end

/-! ### Frames that start (R145, R281, R285) -/

/-- A frame that is still in progress is cut off, and a receiver that acquires counts anew. -/
def State.frameInterrupted (s : State) (i : Nat) (cut : SdiFrame) : State :=
  if (s.rx i).inFrame then (s.cutFrame i cut true).setRx i { (s.cutFrame i cut true).rx i with
    good := if (s.rx i).good = 3 then 3 else 0 } else s

/-- The receiver takes in a frame: members that wait to rejoin have a part in it. -/
def State.frameBegun (s : State) (i : Nat) : State :=
  (s.setRx i { s.rx i with
    inFrame := true, crcMask := decide (i < 256) && s.fldOn SDIRX_CRC_MASK i, frameAt := some s.time.grid,
    lost := (s.rx i).lost.filter (fun k => !(s.rx i).rejoin.contains k), rejoin := [] }).showRx i

section
variable {s : State} {rx : VideoIn} (cut : SdiFrame) (locked : (s.rx rx.idx).locked = true) (held : s.rxHeld rx.idx = false)
include locked held

theorem sourceFrameStart_unfed (unfed : ((s.frameInterrupted rx.idx cut).frameBegun rx.idx).rxSource rx.idx = none) :
    exec (.sourceFrameStart rx cut) s = .next ((s.frameInterrupted rx.idx cut).frameBegun rx.idx) := by
  refine (if_neg (by simp [locked, held])).trans ?_
  change (match ((s.frameInterrupted rx.idx cut).frameBegun rx.idx).rxSource rx.idx with
    | some n => _ | none => _) = _
  rw [unfed]
  rfl

variable {n : Nat} (feeds : ((s.frameInterrupted rx.idx cut).frameBegun rx.idx).rxSource rx.idx = some n)
include feeds

theorem sourceFrameStart_feeds : exec (.sourceFrameStart rx cut) s =
    let t := (s.frameInterrupted rx.idx cut).frameBegun rx.idx
    .next (if t.srcState n = 2 ∧ ¬t.ingestHeld n then t.openSlot n t.now else t) := by
  refine (if_neg (by simp [locked, held])).trans ?_
  change (match ((s.frameInterrupted rx.idx cut).frameBegun rx.idx).rxSource rx.idx with
    | some n => _ | none => _) = _
  rw [feeds]
  rfl

theorem sourceFrameStart_opens (accepts : ((s.frameInterrupted rx.idx cut).frameBegun rx.idx).srcState n = 2)
    (up : ((s.frameInterrupted rx.idx cut).frameBegun rx.idx).ingestHeld n = false) :
    let t := (s.frameInterrupted rx.idx cut).frameBegun rx.idx
    exec (.sourceFrameStart rx cut) s = .next (t.openSlot n t.now) :=
  (sourceFrameStart_feeds cut locked held feeds).trans (congrArg Host.Outcome.next (if_pos ⟨accepts, by simp [up]⟩))

theorem sourceFrameStart_barred (barred : ((s.frameInterrupted rx.idx cut).frameBegun rx.idx).srcState n ≠ 2 ∨
      ((s.frameInterrupted rx.idx cut).frameBegun rx.idx).ingestHeld n = true) :
    exec (.sourceFrameStart rx cut) s = .next ((s.frameInterrupted rx.idx cut).frameBegun rx.idx) :=
  (sourceFrameStart_feeds cut locked held feeds).trans
    (congrArg Host.Outcome.next (if_neg fun h => barred.elim (· h.1) h.2))

end

/-! ### Frames that end (R279, R288, R291) -/

section
variable {s : State} {rx : VideoIn} {frame : SdiFrame} (locked : (s.rx rx.idx).locked = true)
  (inFrame : (s.rx rx.idx).inFrame = true) (held : s.rxHeld rx.idx = false)
include locked inFrame held

theorem sdiFrameEnd_received {ms : List SdiMember} (members : s.frameMembers rx.idx frame = ms) {m : SdiMember}
    {more : List SdiMember} (arrived : ((s.farEnd rx.idx ms).frameArrival rx.idx ms).links.filterMap id = m :: more) :
    exec (.sdiFrameEnd rx frame) s =
      .next ((s.farEnd rx.idx ms).frameReceived rx.idx ms ((s.farEnd rx.idx ms).frameArrival rx.idx ms) m) := by
  subst members
  refine (if_neg (by simp [locked, inFrame, held])).trans ?_
  change (match ((s.farEnd rx.idx _).frameArrival rx.idx _).links.filterMap id with | [] => _ | m :: _ => _) = _
  rw [arrived]

/-- When no link counts, a running signal is lost, and an acquiring one starts its count anew. -/
theorem sdiFrameEnd_nothing {ms : List SdiMember} (members : s.frameMembers rx.idx frame = ms)
    (nothing : ((s.farEnd rx.idx ms).frameArrival rx.idx ms).links.filterMap id = []) :
    exec (.sdiFrameEnd rx frame) s = if (s.rx rx.idx).good = 3 then .next ((s.farEnd rx.idx ms).rxLoss rx.idx frame false)
      else .next ((((s.farEnd rx.idx ms).frameErrors rx.idx ms).setRx rx.idx
        { s.rx rx.idx with inFrame := false, good := 0, prev := none }).showRx rx.idx) := by
  subst members
  refine (if_neg (by simp [locked, inFrame, held])).trans ?_
  change (match ((s.farEnd rx.idx _).frameArrival rx.idx _).links.filterMap id with | [] => _ | m :: _ => _) = _
  rw [nothing]

end

/-! ### Loss, and members that come back (R288, R291) -/

theorem sdiLoss_signal {s : State} {rx : VideoIn} (cut : SdiFrame) (head : rx.idx < 256 → s.rxHead rx.idx = rx.idx) :
    exec (.sdiLoss rx cut) s = .next (s.rxLoss rx.idx cut true) :=
  congrArg Host.Outcome.next (if_neg fun h => h.2 (head h.1))

theorem sdiLoss_member {s : State} {rx : VideoIn} (cut : SdiFrame) (lane : rx.idx < 256) (member : s.rxHead rx.idx ≠ rx.idx) :
    exec (.sdiLoss rx cut) s = .next (s.memberLost rx.idx false cut) :=
  congrArg Host.Outcome.next (if_pos ⟨lane, member⟩)

theorem quadMemberRejoin_effect {s : State} {l : Fin 256} {i : Nat} (head : s.rxHead l = i) (quad : s.rxQuad i = true)
    (locked : (s.rx i).locked = true) (lost : (s.rx i).lost.contains (l.val % 4) = true)
    (apart : (s.rx i).rejoin.contains (l.val % 4) = false) :
    let t := (((s.showMember i (l.val % 4) true).setRx i { s.rx i with rejoin := (s.rx i).rejoin ++ [l.val % 4] }).setFld
      LANE_PLL_LOCK 1 l).setFld LANE_SIG_DET 1 l
    exec (.quadMemberRejoin l) s = .next (t.raise Ev.QUAD_MEMBER
      { index := i, data := l.val % 4 + 2 ^ 8 * 3, dest := t.rxOwners i }) := by
  subst head
  refine if_neg ?_
  simp only [quad, locked, lost, apart]
  decide

/-! ### Ancillary packets (R283) -/

/-- A time code packet is shown in ATC of its receiver. -/
def State.atcShown (s : State) (i : Nat) (p : AncPacket) : State :=
  if p.did8 = 0x60 ∧ p.sdid8 = 0x60 then s.setRxFld i SDIRX_ATC (atcWord p.udw) else s

section
variable {s : State} {rx : VideoIn} {p : AncPacket} (locked : (s.rx rx.idx).locked = true) (held : s.rxHeld rx.idx = false)
include locked held

theorem ancPacketReceived_bad (bad : p.good = false) :
    exec (.ancPacketReceived rx p) s = .next (s.addRxFld rx.idx SDIRX_ANC_CS_ERR 1) :=
  (if_neg (by simp [locked, held])).trans (if_pos bad)

theorem ancPacketReceived_unfed (good : p.good = true) (unfed : (s.atcShown rx.idx p).rxSource rx.idx = none) :
    exec (.ancPacketReceived rx p) s = .next (s.atcShown rx.idx p) := by
  refine (if_neg (by simp [locked, held])).trans ((if_neg (by simp [good])).trans ?_)
  change (match (s.atcShown rx.idx p).rxSource rx.idx with | none => _ | some n => _) = _
  rw [unfed]
  rfl

/-- A packet that the source's store cannot take is counted in ANC_OVF. -/
theorem ancPacketReceived_feeds (good : p.good = true) {n : Nat} (feeds : (s.atcShown rx.idx p).rxSource rx.idx = some n) :
    let x := (s.atcShown rx.idx p).ancTake n ((s.atcShown rx.idx p).ancSeq n) p
    exec (.ancPacketReceived rx p) s = .next (if x.2 then x.1 else x.1.addRxFld rx.idx SDIRX_ANC_OVF 1) := by
  refine (if_neg (by simp [locked, held])).trans ((if_neg (by simp [good])).trans ?_)
  change (match (s.atcShown rx.idx p).rxSource rx.idx with | none => _ | some n => _) = _
  rw [feeds]
  rfl

end

/-- Settles O32: the effect of each command, one lemma for each of its cases. -/
theorem serialVideoEvents : Obligations.SerialVideoEvents := by
  refine fun s => ⟨fun l rate pwr held lo hi free => ?_, fun rx cut locked held => ⟨?_, fun n feeds => ?_⟩,
    fun rx frame locked inFrame held => ⟨fun _ _ => ?_, fun nothing runs => ?_, fun nothing acquires => ?_⟩,
    fun _ => sdiLoss_signal, fun _ => sdiLoss_member, fun _ _ => rfl, fun _ => quadMemberRejoin_effect rfl,
    fun rx p locked held => ⟨ancPacketReceived_bad locked held, fun good => ⟨?_, fun n => ?_⟩⟩⟩
  · have ready : s.fldOn LANE_PWR l ∧ ¬s.rxHeld (s.rxHead l) ∧ 1 ≤ rate.toNat ∧ rate.toNat ≤ 9 ∧
        ¬s.fldOn LANE_PLL_LOCK l := ⟨pwr, by simp [held], lo, hi, by simp [free]⟩
    exact ⟨sdiLaneLock_acquires ready, sdiLaneLock_runs ready, sdiLaneLock_rejoins ready rfl⟩
  · exact sourceFrameStart_unfed cut locked held
  · exact ⟨sourceFrameStart_opens cut locked held feeds, sourceFrameStart_barred cut locked held feeds⟩
  · exact sdiFrameEnd_received locked inFrame held rfl
  · exact (sdiFrameEnd_nothing locked inFrame held rfl nothing).trans (if_pos runs)
  · exact (sdiFrameEnd_nothing locked inFrame held rfl nothing).trans (if_neg acquires)
  · exact ancPacketReceived_unfed locked held good
  · exact ancPacketReceived_feeds locked held good

end Sys2Proof.Machine

/-! # Proofs: when takes are sealed, decided and applied, and what ends a flip and empties a bank -/

namespace Sys2Proof.Machine
open Reg

/-! ### The only take of a state (R180) -/

theorem Take.same_refl (k : Take) : k.same k = true := by
  simp [Take.same]

/-- An update of a state's only take, named by what identifies it, leaves the updated take alone. -/
theorem State.updTake_alone (s : State) {k x : Take} (f : Take → Take) (alone : s.take.takes = [x])
    (same : x.same k = true) : s.updTake k f = s.setTakes [f x] := by
  unfold State.updTake
  rw [alone, List.map_singleton, if_pos same]

theorem State.updTake_setTakes (s : State) {k x : Take} (f : Take → Take) (same : x.same k = true) :
    (s.setTakes [x]).updTake k f = s.setTakes [f x] :=
  (s.setTakes [x]).updTake_alone f rfl same

/-! ### The seal (R177) -/

theorem State.follows_queueCopy (s : State) (k : Take) : (s.queueCopy k).follows = s.follows := by
  unfold State.queueCopy
  split <;> rfl

/-- A take whose members pass the second check joins the copies; only a device that follows owes an answer. -/
theorem State.sealTake_passes {s : State} {k : Take} (passes : s.takeBarred k = none) :
    s.sealTake k = (s.queueCopy k).updTake k (fun x => { x with ackDue := s.follows }) := by
  unfold State.sealTake
  rw [passes, ← s.follows_queueCopy k]

section
variable {s : State} {k : Take} (alone : s.take.takes = [k])
include alone

theorem State.queueCopy_flip (flip : k.kind = .flip) : s.queueCopy k = s.setTakes [{ k with state := .sealed }] :=
  (if_pos flip).trans (s.updTake_alone _ alone k.same_refl)

/-- The copies of a take begin now, or after the last one of the takes sealed before it. -/
theorem State.queueCopy_copied (copied : k.kind ≠ .flip) :
    let busy := max s.time.grid s.take.copyBusy + 125 * k.count
    s.queueCopy k = ({ s with take := { s.take with copyBusy := busy } }).setTakes
      [{ k with state := .sealed, copiedBy := busy }] :=
  (if_neg copied).trans (State.updTake_alone _ _ alone k.same_refl)

section
variable (leads : s.follows = false) (passes : s.takeBarred k = none)
include leads passes

theorem State.sealTake_flip (flip : k.kind = .flip) :
    s.sealTake k = s.setTakes [{ k with state := .sealed, ackDue := false }] := by
  rw [State.sealTake_passes passes, State.queueCopy_flip alone flip, leads]
  exact State.updTake_setTakes _ _ k.same_refl

theorem State.sealTake_copied (copied : k.kind ≠ .flip) :
    let busy := max s.time.grid s.take.copyBusy + 125 * k.count
    s.sealTake k = ({ s with take := { s.take with copyBusy := busy } }).setTakes
      [{ k with state := .sealed, copiedBy := busy, ackDue := false }] := by
  rw [State.sealTake_passes passes, State.queueCopy_copied alone copied, leads]
  exact State.updTake_setTakes _ _ k.same_refl

end

/-! ### A lone take before and at its instants (R169, R177, R178) -/

theorem stagingDeadline_early (early : s.now + 2000000 < k.t) : exec .stagingDeadline s = .next s := by
  have notDue : s.take.takes.filter (fun k => k.state == .scheduled && decide (k.t ≤ s.now + 2000000)) = [] := by
    simp [alone, early]
  rw [exec_stagingDeadline, execStagingDeadline, State.sealDue, notDue, List.mergeSort_nil, State.each_nil]

theorem stagingDeadline_due (scheduled : k.state = .scheduled) (due : k.t ≤ s.now + 2000000) :
    exec .stagingDeadline s = .next (s.sealTake k) := by
  have first : s.take.takes.filter (fun k => k.state == .scheduled && decide (k.t ≤ s.now + 2000000)) = [k] := by
    simp [alone, scheduled, due]
  rw [exec_stagingDeadline, execStagingDeadline, State.sealDue, first, List.mergeSort_singleton, State.each_cons, State.each_nil]

theorem milepost_early (early : s.now < k.t) : exec .milepost s = .next s := by
  have notDue : s.take.takes.filter (fun k => k.state == .decided && decide (k.t ≤ s.now)) = [] := by
    simp [alone, early]
  rw [exec_milepost, execMilepost, State.reachAll, notDue]
  rfl

end

/-- The active device decides the takes whose instant has come, then the handovers. -/
theorem decisionInstant_active {s : State} (active : s.isActive = true) (late : List Nat) :
    exec (.decisionInstant late) s = .next ((s.each ((s.take.takes.filter (fun k => k.state == .sealed &&
      decide (k.t ≤ s.now + 1000000))).mergeSort (fun a b => decide (a.seq ≤ b.seq)))
      (fun s k => s.decideTake k (s.copiedAll late k))).each
      (s.cway.handovers.filter (fun h => !h.decided && decide (h.t ≤ s.now + 1000000))) State.decideHandover) :=
  if_pos active

/-- The decision on each take is left to the active device (R440). -/
theorem decisionInstant_inactive {s : State} (inactive : s.isActive = false) (late : List Nat) :
    exec (.decisionInstant late) s = .next s :=
  if_neg (ne_true_of_eq_false inactive)

theorem decisionInstant_early {s : State} {k : Take} (alone : s.take.takes = [k]) (active : s.isActive = true)
    (noHandover : s.cway.handovers = []) (early : s.now + 1000000 < k.t) (late : List Nat) :
    exec (.decisionInstant late) s = .next s := by
  have notDue : s.take.takes.filter (fun k => k.state == .sealed && decide (k.t ≤ s.now + 1000000)) = [] := by
    simp [alone, early]
  rw [decisionInstant_active active, notDue, noHandover, List.mergeSort_nil, List.filter_nil, State.each_nil, State.each_nil]

/-- A take counts as copied once the sequencer has had its time, or when no take is named late. -/
theorem State.copiedAll_of {s : State} {late : List Nat} {k : Take} (h : k.copiedBy ≤ s.time.grid ∨ late = []) :
    s.copiedAll late k = true := by
  unfold State.copiedAll
  rcases h with inTime | noneLate
  · simp [inTime]
  · simp [noneLate]

/-! ### The end of a flip (R190) -/

theorem flipSettle_ended {s : State} {p : Fin 8} {k : Take} (flip : s.flipOf p = some k) (decided : k.state = .decided)
    (ended : k.ended = true) :
    exec (.flipSettle p) s = .next (((((s.removeTake k).setBank p {}).setFld TK_BANK_CHANGES 0 p).addFld TK_APPLIED 1 p).raise
      Ev.GROUP_APPLIED { index := 0, sub := k.deferrals, data := k.count + 2 ^ 32 * (k.seq % 2 ^ 32), dest := [p.val] }) := by
  rw [exec_flipSettle, execFlipSettle, flip]
  exact if_pos ⟨decided, ended⟩

/-! ### A bank is discarded (R188) -/

/-- What no change of a list touches is as it was. -/
theorem State.each_invariant {α β : Type} (l : List α) (f : State → α → State) (view : State → β)
    (step : ∀ t a, view (f t a) = view t) (s : State) : view (s.each l f) = view s := by
  induction l generalizing s with
  | nil => rfl
  | cons a l ih => exact (ih (f s a)).trans (step s a)

theorem State.take_claimPages (s : State) (mask pages : Nat) : (s.claimPages mask pages).1.take = s.take :=
  s.upTo_invariant 4 _ State.take fun _ _ _ => rfl

theorem State.take_returnPages (s : State) (ps : List Page) : (s.returnPages ps).take = s.take :=
  s.upTo_invariant 4 _ State.take fun _ _ _ => rfl

theorem State.take_usePages (s : State) (mask pages : Nat) : (s.usePages mask pages).1.take = s.take :=
  s.upTo_invariant 4 _ State.take fun _ _ _ => rfl

/-- Pages claimed for hold buffers join those that they have. -/
def State.addHoldPages (c : State × List Page) : State :=
  { c.1 with store := { c.1.store with holdPages := c.1.store.holdPages ++ c.2 } }

theorem State.setHoldBytes_grows {s : State} {n : Nat} (grows : holdPages s.store.holdBytes ≤ holdPages n) :
    s.setHoldBytes n = State.addHoldPages (({ s with store := { s.store with holdBytes := n } }).claimPages 0
      (holdPages n - holdPages s.store.holdBytes)) :=
  if_pos grows

theorem State.setHoldBytes_shrinks {s : State} {n : Nat} (shrinks : ¬holdPages s.store.holdBytes ≤ holdPages n) :
    s.setHoldBytes n = ({ s with store := { s.store with
      holdBytes := n, holdPages := s.store.holdPages.take (holdPages n) } }).returnPages
      (s.store.holdPages.drop (holdPages n)) :=
  if_neg shrinks

theorem State.take_addHoldPages (c : State × List Page) : (State.addHoldPages c).take = c.1.take := rfl

theorem State.take_setHoldBytes (s : State) (n : Nat) : (s.setHoldBytes n).take = s.take := by
  by_cases grows : holdPages s.store.holdBytes ≤ holdPages n
  · rw [State.setHoldBytes_grows grows, State.take_addHoldPages, State.take_claimPages]
  · rw [State.setHoldBytes_shrinks grows, State.take_returnPages]

/-- Reservations return to the frame store alone: the takes, the banks and the live configuration stand. -/
theorem State.take_unreserve (s : State) (c : Change) : (s.unreserve c).take = s.take := by
  cases c with
  | alloc n sh pages explicit => exact (State.take_returnPages _ _).trans (s.take_usePages sh.mask pages)
  | holdBuf rd bytes => exact s.take_setHoldBytes _
  | _ => rfl

/-- Of what the takes hold, a discard empties the partition's bank alone. -/
theorem State.take_discardBank (s : State) (p : Nat) :
    (s.discardBank p).take = { s.take with banks := Tab.set {} s.take.banks p {} } := by
  have kept := s.each_invariant (s.bank p).steps State.unreserve State.take State.take_unreserve
  exact congrArg (fun t : TakeRun => { t with banks := Tab.set {} t.banks p {} }) kept

theorem State.bank_discardBank (s : State) (p : Nat) : (s.discardBank p).bank p = {} := by
  unfold State.bank
  rw [s.take_discardBank p, Tab.get_set_self]

theorem State.bankChanges_discardBank (s : State) (p : Nat) : (s.discardBank p).fld TK_BANK_CHANGES p = 0 :=
  State.fld_setFld_self _ _ _ _ _

theorem State.writePcb_discard {s : State} {w p : Nat} (own : w = 0 ∨ w = p) (noFlip : s.flipOf p = none) (fs : RegFields)
    {v : Nat} (discard : bitAt v 8 = true) : s.writePcb fs w p 0xA04 v = s.discardBank p := by
  unfold State.writePcb
  rw [if_neg (by decide), if_neg (by omega), if_neg (by decide), if_neg (by decide), if_neg (by decide), if_neg (by decide),
    if_neg (by decide), if_neg (by decide), if_neg (by decide), if_pos rfl, if_pos ⟨discard, by rw [noFlip]; rfl⟩]

/-- A DISCARD of the supervisor or of the partition itself is obeyed while no flip stands. -/
theorem discard_effect {s : State} {w p : Fin 8} (own : w.val = 0 ∨ w = p) (h : s.writable w (pcbOff p + 0xA04))
    (noFlip : s.flipOf p = none) : exec (.discard w p) s = .next ((s.discardBank p).disarmed w) :=
  pcbWrite_next p.isLt (by decide) h
    (State.writePcb_discard (own.imp_right (congrArg Fin.val)) noFlip _ (by decide))

/-- Settles O27: each command by its effect, a lone take on each side of its instants, and the frame of a discard. -/
theorem takeTimeline : Obligations.TakeTimeline := by
  refine ⟨fun s => ⟨rfl, rfl, fun late active => decisionInstant_active active late,
      fun late inactive => decisionInstant_inactive inactive late, fun _ _ => State.copiedAll_of,
      fun _ _ => flipSettle_ended, fun _ _ => discard_effect⟩,
    fun s k alone leads active noHandover => ⟨fun _ => stagingDeadline_early alone, fun scheduled due passes => ⟨?_, ?_⟩,
      fun _ => decisionInstant_early alone active noHandover, fun _ => milepost_early alone⟩,
    fun s p => ⟨s.bank_discardBank p, s.bankChanges_discardBank p, ?_, ?_⟩⟩
  · intro flip
    rw [stagingDeadline_due alone scheduled due, State.sealTake_flip alone leads passes flip]
  · intro copied
    rw [stagingDeadline_due alone scheduled due, State.sealTake_copied alone leads passes copied]
  · exact congrArg (·.cfg) (s.take_discardBank p)
  · exact congrArg (·.takes) (s.take_discardBank p)

end Sys2Proof.Machine

/-! # Proofs: the arithmetic of the scaler's coefficients and of chroma decimation -/

namespace Sys2Proof

/-! ### Samples of a plane -/

/-- An index at or past 0 is clamped from above alone. -/
theorem clampIdx_natCast {n : Nat} (pos : 0 < n) (k : Nat) : clampIdx n k = min (n - 1) k := by
  unfold clampIdx
  omega

/-- The index before an even one, at the first sample the first sample itself. -/
theorem clampIdx_two_mul_sub_one {n : Nat} (pos : 0 < n) (i : Nat) :
    clampIdx n (2 * (i : Int) - 1) = min (n - 1) (2 * i - 1) := by
  unfold clampIdx
  omega

/-- An index within the plane is not clamped. -/
theorem clampIdx_of_lt {n k : Nat} (lt : k < n) : clampIdx n k = k := by
  rw [clampIdx_natCast (by omega)]
  omega

theorem Plane.getD_tabulate (w h : Nat) (f : Nat → Nat → Nat) {k : Nat} (lt : k < w * h) :
    (Plane.tabulate w h f).data.getD k 0 = f (k % w) (k / w) := by
  simp [Plane.tabulate, List.getD, lt]

/-- A tabulated plane holds at each place what the function gives there. -/
theorem Plane.px_tabulate (f : Nat → Nat → Nat) {w h x y : Nat} (hx : x < w) (hy : y < h) :
    (Plane.tabulate w h f).px x y = f x y := by
  have inside : y * w + x < w * h :=
    calc y * w + x < (y + 1) * w := by rw [Nat.succ_mul]; omega
      _ ≤ h * w := Nat.mul_le_mul_right w hy
      _ = w * h := Nat.mul_comm h w
  have column : (y * w + x) % w = x := by rw [Nat.mul_add_mod', Nat.mod_eq_of_lt hx]
  have row : (y * w + x) / w = y := by
    rw [Nat.mul_comm, Nat.mul_add_div (by omega), Nat.div_eq_of_lt hx, Nat.add_zero]
  calc (Plane.tabulate w h f).px x y
      = (Plane.tabulate w h f).data.getD (clampIdx h y * w + clampIdx w x) 0 := rfl
    _ = f x y := by rw [clampIdx_of_lt hx, clampIdx_of_lt hy, Plane.getD_tabulate w h f inside, column, row]

/-- The samples of row y, read by column with the columns clamped to the row. -/
def Plane.rowAt (p : Plane) (y k : Nat) : Nat := p.data.getD (y * p.w + min (p.w - 1) k) 0

theorem Plane.px_eq_rowAt (p : Plane) {x : Int} {y k : Nat} (hy : y < p.h)
    (clamped : clampIdx p.w x = min (p.w - 1) k) : p.px x y = p.rowAt y k := by
  rw [Plane.px, clampIdx_of_lt hy, clamped, Plane.rowAt]

end Sys2Proof

namespace Sys2Proof.Machine

/-! ### The basic coefficients (R229) -/

theorem square_eq_mul (t : Int) : t ^ 2 = t * t :=
  calc t ^ 2 = t ^ 0 * t * t := (Int.pow_succ t 1).trans (congrArg (· * t) (Int.pow_succ t 0))
    _ = 1 * t * t := congrArg (· * t * t) (Int.pow_zero t)
    _ = t * t := congrArg (· * t) (Int.one_mul t)

theorem cube_eq_mul (t : Int) : t ^ 3 = t * t * t :=
  (Int.pow_succ t 2).trans (congrArg (· * t) (square_eq_mul t))

/-- The coefficients with the powers of R229; the model writes them as products. -/
theorem basicTaps_eq_floors (t : Nat) :
    basicTaps t 0 = (-(t : Int) ^ 3 + 128 * (t : Int) ^ 2 - 4096 * t + 1024) / 2048 ∧
    basicTaps t 2 = (-3 * (t : Int) ^ 3 + 256 * (t : Int) ^ 2 + 4096 * t + 1024) / 2048 ∧
    basicTaps t 3 = ((t : Int) ^ 3 - 64 * (t : Int) ^ 2 + 1024) / 2048 := by
  rw [cube_eq_mul, square_eq_mul]
  refine ⟨?_, ?_, ?_⟩
  · rw [← Int.neg_mul, ← Int.neg_mul, ← Int.mul_assoc]
    rfl
  · rw [← Int.mul_assoc, ← Int.mul_assoc, ← Int.mul_assoc]
    rfl
  · rw [← Int.mul_assoc]
    rfl

/-- c_0 is what the other three leave of 256. -/
theorem basicTaps_one (t : Nat) : basicTaps t 1 = 256 - basicTaps t 0 - basicTaps t 2 - basicTaps t 3 := rfl

/-! ### Chroma decimation (R230) -/

/-- A sample that is not negative is clamped from above alone. -/
theorem clamp12_natCast (n : Nat) : clamp12 n = min 4095 n := by
  unfold clamp12
  omega

/-- A decimated plane has a column for every even column of its source. -/
theorem ceilDiv_two (w : Nat) : ceilDiv w 2 = (w + 1) / 2 := rfl

theorem px_decimatePlane (p : Plane) {i y : Nat} (hi : i < (p.w + 1) / 2) (hy : y < p.h) :
    (decimatePlane p).px i y =
      min 4095 ((p.rowAt y (2 * i - 1) + 2 * p.rowAt y (2 * i) + p.rowAt y (2 * i + 1) + 2) / 4) := by
  have pos : 0 < p.w := by omega
  have before : p.px (2 * i - 1) y = p.rowAt y (2 * i - 1) := p.px_eq_rowAt hy (clampIdx_two_mul_sub_one pos i)
  have centre : p.px (2 * i) y = p.rowAt y (2 * i) := p.px_eq_rowAt hy (clampIdx_natCast pos (2 * i))
  have after : p.px (2 * i + 1) y = p.rowAt y (2 * i + 1) := p.px_eq_rowAt hy (clampIdx_natCast pos (2 * i + 1))
  rw [decimatePlane, Plane.px_tabulate _ (ceilDiv_two p.w ▸ hi) hy, clamp12_natCast, before, centre, after]

/-- Settles O30: each coefficient as its floor, and each decimated sample from three samples of its row. -/
theorem scalerArithmetic : Obligations.ScalerArithmetic := by
  refine ⟨fun t _ => ?_, fun p i y hi hy => px_decimatePlane p hi hy⟩
  obtain ⟨before, after, last⟩ := basicTaps_eq_floors t
  exact ⟨before, after, last, basicTaps_one t⟩

end Sys2Proof.Machine

/-! # Proofs: the window of the flow contexts -/

namespace Sys2Proof.Machine
open Reg

/-! ### FLOWWIN (R333) -/

/-- Where FLOWWIN shows word i of context f. -/
def flowWordOff (f i : Nat) : Nat := 0x1000000 + 0x40 * f + 4 * i

theorem toNat_flowWordOff (f : Fin 262144) (i : Fin 16) : (BitVec.ofNat 26 (flowWordOff f i)).toNat = flowWordOff f i := by
  rw [BitVec.toNat_ofNat]
  exact Nat.mod_eq_of_lt (by unfold flowWordOff; omega)

theorem blockAt_flowWordOff (f : Fin 262144) (i : Fin 16) : blockAt (flowWordOff f i) = some (.flowwin, f.val) :=
  blockAt_flowwin f.isLt (Nat.le_add_right _ _) (by unfold flowWordOff; omega)

theorem State.readReg_flowWordOff (s : State) (f : Fin 262144) (i : Fin 16) :
    s.readReg (flowWordOff f i) = ((s.flow f).map fun x => wordAt x.words i).getD 0 := by
  have word : flowWordOff f i % 64 / 4 = i := by unfold flowWordOff; omega
  unfold State.readReg
  rw [blockAt_flowWordOff]
  simp only [word]

/-- The gates that stand closed at reset are registers and ramps. -/
theorem State.media_applyGateInit (s : State) : s.applyGateInit.media = s.media := by
  unfold State.applyGateInit
  refine s.upTo_invariant _ _ State.media fun t d _ => ?_
  split
  · rfl
  · split
    · exact State.each_invariant _ _ State.media (by intros; rfl) _
    · rfl

/-- At reset there is no context. -/
theorem State.flow_atReset (s : State) (f : Nat) : s.atReset.flow f = none := by
  unfold State.flow State.atReset
  rw [State.media_applyGateInit]
  rfl

theorem State.word_flowWordOff (s : State) (f : Fin 262144) (i : Fin 16) :
    s.word (flowWordOff f i) = if s.inService then ((s.flow f).map fun x => wordAt x.words i).getD 0 else 0 := by
  have waits : s.readsReset (flowWordOff f i) = !s.inService := by
    unfold State.readsReset
    rw [blockAt_flowWordOff]
    exact Bool.and_true _
  unfold State.word
  rw [waits, State.readReg_flowWordOff, State.readReg_flowWordOff, State.flow_atReset]
  cases s.inService <;> rfl

theorem flowWin_read {s : State} {r : Fin 8} {f : Fin 262144} {i : Fin 16} (h : s.readBar r (flowWordOff f i) 4 = none) :
    exec (.bar0ReadError r (BitVec.ofNat 26 (flowWordOff f i)) 4) s =
      .next ((s.emit (.readAnswer r 0 (s.word (flowWordOff f i) % 2 ^ 32))).hostCrossed r) := by
  have plain := s.readAt_plain (off := flowWordOff f i) (by unfold flowWordOff; omega) (by unfold flowWordOff; omega)
  rw [exec_bar0ReadError, execBar0ReadError, toNat_flowWordOff, hostRead_word h (by unfold flowWordOff; omega) plain]

/-- No partition but P0 reads the window. -/
theorem State.readBar_flowWin (s : State) {r : Nat} (hr : r ≠ 0) (f : Fin 262144) (i : Fin 16) :
    ∃ bar, s.readBar r (flowWordOff f i) 4 = some bar := by
  have aligned : flowWordOff f i % 4 = 0 := by unfold flowWordOff; omega
  have self : flowWordOff f i / 4 * 4 = flowWordOff f i := by omega
  have denied : s.mayReadReg r (flowWordOff f i) = false := by
    unfold State.mayReadReg
    rw [blockAt_flowWordOff]
    simp [hr]
  unfold State.readBar covered
  rw [if_neg (by simp [aligned]), if_neg (by decide), self]
  cases hm : s.mapped (flowWordOff f i) <;> simp [hm, denied]

/-- Settles O8: a word of the window is the context's word by the block table, and no word by the state at reset. -/
theorem flowWindow : Obligations.FlowWindow := by
  intro s r f i
  have offset : (BitVec.ofNat 26 (0x1000000 + 0x40 * f + 4 * i)).toNat = flowWordOff f i := toNat_flowWordOff f i
  dsimp only
  rw [offset]
  refine ⟨fun h => ⟨fun x context => (flowWin_read h).trans ?_, fun empty => (flowWin_read h).trans ?_⟩,
    fun hr => s.readBar_flowWin hr f i⟩
  · rw [State.word_flowWordOff, context]
    cases s.inService <;> rfl
  · rw [State.word_flowWordOff, empty]
    cases s.inService <;> rfl

end Sys2Proof.Machine

/-! # Proofs: the line code of the Causeway -/

namespace Sys2Proof.Machine

/-! ### Scrambler (R347) -/

/-- A bit at place k and the bits above it. -/
theorem add_bit_above (acc k b x : Nat) : acc + b * 2 ^ k + 2 ^ (k + 1) * x = acc + 2 ^ k * (b + 2 * x) := by
  rw [Nat.pow_succ, Nat.mul_add, Nat.mul_comm b, Nat.mul_assoc, Nat.add_assoc]

/-- The bits already on the line stay below the ones that follow. -/
theorem scrambleBits_fst (n : Nat) : ∀ k v acc st : Nat,
    (scrambleBits n k v acc st).1 = acc + 2 ^ k * (scrambleBits n 0 v 0 st).1 := by
  induction n with
  | zero => intro k v acc st; simp [scrambleBits]
  | succ n ih =>
    intro k v acc st
    unfold scrambleBits
    rw [ih (k + 1), ih (0 + 1), add_bit_above, add_bit_above, Nat.zero_add, Nat.pow_zero, Nat.one_mul]

/-- The first bit on the line, and the others above it. -/
theorem scrambleBits_succ (n v st : Nat) :
    (scrambleBits (n + 1) 0 v 0 st).1 = (v + st / 2 ^ 38 + st / 2 ^ 57) % 2 +
      2 * (scrambleBits n 0 (v / 2) 0 ((2 * st + (v + st / 2 ^ 38 + st / 2 ^ 57) % 2) % 2 ^ 58)).1 := by
  rw [scrambleBits, scrambleBits_fst, add_bit_above, Nat.zero_add, Nat.pow_zero, Nat.one_mul]

/-- The same register adds the same two bits again, which leaves the payload's. -/
theorem descrambleBits_scrambleBits (n : Nat) : ∀ k v acc st : Nat,
    descrambleBits n k (scrambleBits n 0 v 0 st).1 acc st = acc + 2 ^ k * (v % 2 ^ n) := by
  induction n with
  | zero => intro k v acc st; simp [descrambleBits, Nat.mod_one]
  | succ n ih =>
    intro k v acc st
    rw [scrambleBits_succ, descrambleBits]
    generalize hb : (v + st / 2 ^ 38 + st / 2 ^ 57) % 2 = b
    generalize hx : scrambleBits n 0 (v / 2) 0 ((2 * st + b) % 2 ^ 58) = x
    have low : (b + 2 * x.1) % 2 = b := by omega
    have high : (b + 2 * x.1) / 2 = x.1 := by omega
    have bit : (b + st / 2 ^ 38 + st / 2 ^ 57) % 2 = v % 2 := by omega
    have parts : v % 2 ^ (n + 1) = v % 2 + 2 * (v / 2 % 2 ^ n) := by rw [Nat.pow_succ', Nat.mod_mul]
    rw [low, high, bit, ← hx, ih, parts, add_bit_above]

theorem descramble_scramble (st : Nat) {v : Nat} (hv : v < 2 ^ 64) : descramble st (scramble st v).1 = v := by
  rw [descramble, scramble, descrambleBits_scrambleBits, Nat.mod_eq_of_lt hv, Nat.pow_zero, Nat.one_mul, Nat.zero_add]

/-! ### Columns as they are sent (R349) -/

theorem CwTx.length_columns (n : Nat) : ∀ t : CwTx, (CwTx.columns n t).2.length = n := by
  induction n with
  | zero => intro t; rfl
  | succ n ih => intro t; exact congrArg (· + 1) (ih t.column.1)

/-- The definition is opened as a function, and its number of columns as a variable: a kernel that meets the columns of the
numeral computes them one by one. -/
theorem CwTx.length_period (t : CwTx) (count : Nat) : (t.period count).2.length = 16384 := by
  obtain ⟨n, upToMarker⟩ : ∃ n, 16383 = n := ⟨_, rfl⟩
  obtain ⟨period, opened⟩ : ∃ f, f = CwTx.period := ⟨_, rfl⟩
  rw [← opened]
  delta CwTx.period at opened
  rw [upToMarker] at opened
  rw [opened, List.length_append, CwTx.length_columns, List.length_singleton, ← upToMarker]

/-! ### Messages (R443) -/

theorem crcShift_lt (n : Nat) : ∀ c : Nat, c < 2 ^ 32 → crcShift n c < 2 ^ 32 := by
  induction n with
  | zero => exact fun _ h => h
  | succ n ih =>
    intro c h
    refine ih _ ?_
    split
    · exact Nat.xor_lt_two_pow (by omega) (by decide)
    · omega

theorem crc32_lt (bs : List Nat) : crc32 bs < 2 ^ 32 := by
  refine Nat.xor_lt_two_pow (List.foldlRecOn (motive := (· < 2 ^ 32)) bs _ (by decide) fun c hc b _ => ?_) (by decide)
  exact crcShift_lt 8 _ (Nat.xor_lt_two_pow hc (by omega))

/-- The blocks of the columns are the blocks, and zero data blocks after the last. -/
theorem flatten_columnsOf (n : Nat) : ∀ bs : List CwBlock, bs.length ≤ n →
    ∃ m, (columnsOf n bs).flatten = bs ++ List.replicate m { header := dataHeader, payload := 0 } := by
  induction n with
  | zero =>
    intro bs h
    exact ⟨0, by rw [List.length_eq_zero_iff.mp (Nat.le_zero.mp h)]; rfl⟩
  | succ n ih =>
    intro bs h
    rw [columnsOf]
    by_cases empty : bs.isEmpty = true
    · exact ⟨0, by rw [if_pos empty, List.isEmpty_iff.mp empty]; rfl⟩
    · have pos : 0 < bs.length := List.length_pos_iff.mpr (by simpa using empty)
      rw [if_neg empty, List.flatten_cons]
      by_cases short : bs.length ≤ 8
      · obtain ⟨m, rest⟩ := ih [] (Nat.zero_le n)
        refine ⟨8 - bs.length + m, ?_⟩
        rw [List.take_of_length_le short, List.drop_of_length_le short, rest, List.nil_append, List.append_assoc,
          List.replicate_append_replicate]
      · obtain ⟨m, rest⟩ := ih (bs.drop 8) (by rw [List.length_drop]; omega)
        refine ⟨m, ?_⟩
        have full : (bs.take 8).length = 8 := by rw [List.length_take]; omega
        rw [rest, full, Nat.sub_self, List.replicate_zero, List.append_nil, ← List.append_assoc, List.take_append_drop]

/-- The fields of a message's first block. -/
theorem bitField_messageHead {ty len flags mseq : Nat} (hty : ty < 256) (hlen : len < 2 ^ 16) (hflags : flags < 2 ^ 8)
    (hmseq : mseq < 2 ^ 24) :
    bitField (messageHead ty len flags mseq) 0 8 = 0x78 ∧ bitField (messageHead ty len flags mseq) 8 8 = ty ∧
    bitField (messageHead ty len flags mseq) 16 16 = len ∧ bitField (messageHead ty len flags mseq) 32 8 = flags ∧
    bitField (messageHead ty len flags mseq) 40 24 = mseq := by
  unfold bitField messageHead
  omega

/-- What follows a message's blocks is not read. -/
theorem readMessage_blocks {ty flags mseq : Nat} {words : List Nat} (known : knownType ty = true) (hty : ty < 256)
    (hflags : flags < 2 ^ 8) (hmseq : mseq < 2 ^ 24) (hlen : words.length ≤ 4095) (rest : List Nat) :
    readMessage (messageHead ty words.length flags mseq ::
      (words ++ messageCrc (messageHead ty words.length flags mseq) words :: rest)) = some (ty, flags, mseq, words) := by
  obtain ⟨start, type, len, flag, seq⟩ :=
    bitField_messageHead (len := words.length) hty (by omega) hflags hmseq
  simp [readMessage, start, type, len, flag, seq, known, hlen]

theorem lt_of_knownType {ty : Nat} (known : knownType ty = true) : ty < 256 := by
  simp [knownType] at known
  omega

/-- A payload of 64 bits is sent as it is. -/
theorem payload_dataBlocks {vs : List Nat} (small : ∀ x ∈ vs, x < 2 ^ 64) :
    (vs.map fun v => ({ header := dataHeader, payload := v % 2 ^ 64 } : CwBlock)).map (·.payload) = vs := by
  rw [List.map_map]
  exact (List.map_congr_left fun v hv => Nat.mod_eq_of_lt (small v hv)).trans (List.map_id vs)

/-- What is received of a message's columns: its blocks, and zeros to the end of the last column. -/
theorem payload_messageColumns (ty flags mseq : Nat) {words : List Nat} (small : ∀ x ∈ words, x < 2 ^ 64) :
    ∃ zeros, (messageColumns ty flags mseq words).flatten.map (·.payload) =
      messageHead ty words.length flags mseq ::
        (words ++ messageCrc (messageHead ty words.length flags mseq) words :: zeros) := by
  generalize head : messageHead ty words.length flags mseq = h
  have crc : messageCrc h words < 2 ^ 64 := Nat.lt_trans (crc32_lt _) (by decide)
  have data := payload_dataBlocks (vs := words ++ [messageCrc h words])
    fun x hx => (List.mem_append.mp hx).elim (small x) fun e => List.mem_singleton.mp e ▸ crc
  obtain ⟨m, columns⟩ := flatten_columnsOf _ ({ header := controlHeader, payload := h } ::
    (words ++ [messageCrc h words]).map fun v => ({ header := dataHeader, payload := v % 2 ^ 64 } : CwBlock)) (Nat.le_refl _)
  refine ⟨List.replicate m 0, ?_⟩
  unfold messageColumns
  rw [head, columns, List.map_append, List.map_cons, data, List.map_replicate]
  simp

theorem readMessage_messageColumns {ty flags mseq : Nat} {words : List Nat} (known : knownType ty = true)
    (hflags : flags < 2 ^ 8) (hmseq : mseq < 2 ^ 24) (hlen : words.length ≤ 4095) (small : ∀ x ∈ words, x < 2 ^ 64) :
    readMessage ((messageColumns ty flags mseq words).flatten.map (·.payload)) = some (ty, flags, mseq, words) := by
  obtain ⟨zeros, blocks⟩ := payload_messageColumns ty flags mseq small
  rw [blocks, readMessage_blocks known (lt_of_knownType known) hflags hmseq hlen]

end Sys2Proof.Machine

/-! # Proofs: what lanes do with locks, scans, markers and columns -/

namespace Sys2Proof.Machine
open Reg

/-! ### Receive equalisation (R339) -/

/-- The DFE taps in use stand apart from the CTLE in use and from the status word. -/
theorem State.fld_dfeNow {f : Field × Field} (mem : f ∈ dfeFields) (s : State) (v l : Nat) :
    (s.setFld f.2 v l).fld LANE_ADAPT_DONE l = s.fld LANE_ADAPT_DONE l ∧
    (s.setFld f.2 v l).fld LANE_CTLE_NOW l = s.fld LANE_CTLE_NOW l := by
  have apart : ∀ f ∈ dfeFields, f.2.s1 = 0x200 ∧ 8 * 0x100044 < 8 * f.2.base + f.2.lo := by decide
  obtain ⟨stride, above⟩ := apart f mem
  exact ⟨s.fld_setFld_apart _ _ v l stride (by simp only [LANE_ADAPT_DONE]; omega),
    s.fld_setFld_apart _ _ v l stride (by simp only [LANE_CTLE_NOW]; omega)⟩

/-- A state that shows the first adaptation of lane l, and has sent nothing since s. -/
def State.adaptShown (s : State) (l : Nat) (eq : EqNow) (t : State) : Prop :=
  t.fld LANE_ADAPT_DONE l = 1 ∧ t.fld LANE_CTLE_NOW l = eq.ctle.toNat % 2 ^ LANE_CTLE_NOW.w ∧ t.out = s.out

/-- The first adaptation shows CTLE, and writes the taps beside it. -/
theorem adaptDone_shows {s : State} {l : Fin 584} (eq : EqNow) (rx : isRxLane l = true) (lock : s.fldOn LANE_PLL_LOCK l = true)
    (own : s.fldOn LANE_MANUAL_EQ l = false) :
    ∃ t, exec (.adaptDone l eq) s = .next t ∧ s.adaptShown l eq t := by
  rw [exec_adaptDone, execAdaptDone, if_pos ⟨rx, lock, ne_true_of_eq_false own⟩]
  refine ⟨_, rfl, List.foldlRecOn (motive := s.adaptShown l eq) _ _ ?_ fun t ⟨done, ctle, out⟩ k _ => ?_⟩
  · refine ⟨?_, State.fld_setFld_self _ _ _ _ _, rfl⟩
    rw [State.fld_setFld_apart _ LANE_CTLE_NOW LANE_ADAPT_DONE _ _ rfl (by decide)]
    exact State.fld_setFld_self _ _ _ _ _
  · cases found : dfeFields[k]? with
    | none => exact ⟨done, ctle, out⟩
    | some f =>
      obtain ⟨sameDone, sameCtle⟩ := State.fld_dfeNow (List.mem_of_getElem? found) t _ l
      exact ⟨sameDone.trans done, sameCtle.trans ctle, out⟩

/-! ### PLLs (R336) -/

/-- The four transmit lanes of quad q. -/
theorem quad_lanes (q : Nat) :
    (List.range 4).map (fun k => 256 + 4 * q + k) = [256 + 4 * q, 257 + 4 * q, 258 + 4 * q, 259 + 4 * q] := by
  change (List.range 4).map _ = (List.range 4).map fun k => 256 + k + 4 * q
  exact List.map_congr_left fun k _ => by omega

theorem lanePllUnlock_effect {s : State} {pll : LanePll} (held : s.lane.unlocked.contains pll = false) :
    exec (.lanePllUnlock pll) s =
      .next (({ s.pllLost pll with lane :=
        { (s.pllLost pll).lane with unlocked := pll :: (s.pllLost pll).lane.unlocked } }).raise
        Ev.LANE_PLL_UNLOCK { index := (pllFirst pll).1, sub := (pllFirst pll).2, data := (s.pllLanes pll).length }) :=
  congrArg Host.Outcome.next (if_neg (ne_true_of_eq_false held))

/-- The PLL is locked, and of the lanes that it may feed those that are on and not ready calibrate. -/
def State.relocked (s : State) (pll : LanePll) (lanes : List Nat) : State :=
  ({ s with lane := { s.lane with unlocked := s.lane.unlocked.filter (· != pll) } }).each lanes fun s l =>
    s.when (s.fldOn LANE_PWR l && !s.fldOn LANE_READY l) fun s => s.calibrate l

/-! ### Eye scans (R342, R343) -/

section
variable {s : State} {l : Fin 584} (errors : Word) (busy : s.fldOn LANE_ES_BUSY l = true)
include busy

theorem esDone_effect (runs : (s.laneRun l).scanStop = false) : exec (.esDone l errors) s =
    .next ((((s.setFld LANE_ES_BUSY 0 l).setFld LANE_ES_DONE 1 l).setFld LANE_ES_BITS (2 ^ s.fld LANE_ES_DWELL_LOG2 l) l).setFld
      LANE_ES_ERR (min errors.toNat (2 ^ s.fld LANE_ES_DWELL_LOG2 l)) l) :=
  if_pos ⟨busy, ne_true_of_eq_false runs⟩

theorem esAbort_effect (bits : Word) (stopped : (s.laneRun l).scanStop = true) :
    let t := (((s.setFld LANE_ES_BUSY 0 l).setFld LANE_ES_ABORT 1 l).setFld LANE_ES_BITS bits.toNat l).setFld LANE_ES_ERR
      (min errors.toNat bits.toNat) l
    exec (.esAbort l errors bits) s = .next (t.setLaneRun l { t.laneRun l with scanStop := false }) :=
  if_pos ⟨busy, stopped⟩

end

/-! ### Block lock (R350) -/

theorem cwBlockLockGained_locks {s : State} {l : Fin 8} {headers : List (BitVec 2)} (on : s.cwayOn = true)
    (pwr : s.fldOn LANE_PWR (576 + l) = true) (free : s.fldOn LANE_BLOCK_LOCK (576 + l) = false)
    (valid : headersLock headers = true) :
    let t := ((s.setFld LANE_BLOCK_LOCK 1 (576 + l)).setFld LANE_SIG_DET 1 (576 + l)).setFld LANE_PLL_LOCK 1 (576 + l)
    exec (.cwBlockLockGained ⟨l, headers⟩) s =
      .next (t.setLaneRun (576 + l) { t.laneRun (576 + l) with good := 0, missed := 0 }) :=
  if_pos ⟨valid, on, pwr, ne_true_of_eq_false free⟩

theorem cwBlockLockGained_invalid {headers : List (BitVec 2)} (invalid : headersLock headers = false) (l : Fin 8) (s : State) :
    exec (.cwBlockLockGained ⟨l, headers⟩) s = .next s :=
  if_neg fun h => ne_true_of_eq_false invalid h.1

theorem cwLaneDown_loses {headers : List (BitVec 2)} (lost : headersLose headers = true) (l : Fin 8) (s : State) :
    exec (.cwLaneDown l headers) s = .next (s.cwLose l true) := by
  rw [exec_cwLaneDown, execCwLaneDown, lost, State.when_true]

theorem cwLaneDown_keeps {headers : List (BitVec 2)} (kept : headersLose headers = false) (l : Fin 8) (s : State) :
    exec (.cwLaneDown l headers) s = .next s := by
  rw [exec_cwLaneDown, execCwLaneDown, kept, State.when_false]

/-- A field at or above the memory controllers' registers stands above what a raise writes. -/
theorem State.fld_raise_mc {f : Field} (s : State) (base : 0x50000 ≤ f.base) (i : Nat) {ev : Nat} (r : Raise)
    (hev : ev < 1024) : (s.raise ev r).fld f i = s.fld f i := by
  have key := Field.key_ge_mc base i
  refine fld_raise s ev r f i 0 hev ?_
  simp only [raiseKey, Bool.or_eq_false_iff, Bool.and_eq_false_iff, decide_eq_false_iff_not]
  omega

/-- A lane whose block lock is lost, with its marker lock and its skew. -/
def State.lockLost (s : State) (l : Nat) : State :=
  let t := ((s.setFld LANE_BLOCK_LOCK 0 l).setFld LANE_MARKER_LOCK 0 l).setFld LANE_SKEW 0 l
  t.setLaneRun l { t.laneRun l with good := 0, missed := 0, skew := 0 }

theorem State.cwLose_locked {s : State} {k : Nat} (lock : s.fldOn LANE_BLOCK_LOCK (576 + k) = true) :
    s.cwLose k true = (s.lockLost (576 + k)).linkDown.raise Ev.CW_LANE_DOWN
      { index := k, sub := 3, data := 1 + 2 * bit (s.fldOn LANE_MARKER_LOCK (576 + k)) } := by
  unfold State.cwLose
  simp only [lock, Bool.and_self, Bool.true_or, if_true, State.when_true]
  rfl

theorem State.fld_lockLost (s : State) (l : Nat) :
    (s.lockLost l).fld LANE_BLOCK_LOCK l = 0 ∧ (s.lockLost l).fld LANE_MARKER_LOCK l = 0 := by
  unfold State.lockLost
  simp only [State.fld_congr (State.setLaneRun_regs _ _ _)]
  rw [State.fld_setFld_apart _ LANE_SKEW LANE_BLOCK_LOCK _ _ rfl (by decide),
    State.fld_setFld_apart _ LANE_SKEW LANE_MARKER_LOCK _ _ rfl (by decide),
    State.fld_setFld_apart _ LANE_MARKER_LOCK LANE_BLOCK_LOCK _ _ rfl (by decide)]
  exact ⟨State.fld_setFld_self _ _ _ _ _, State.fld_setFld_self _ _ _ _ _⟩

/-- The link's end leaves the locks of the lanes. -/
theorem State.fld_linkDown (s : State) {f : Field} {l : Nat} (link : CWAY_LINK_UP.key 0 0 ≠ f.key l 0)
    (fill : LANE_EB_FILL.key 576 0 ≠ f.key l 0) : s.linkDown.fld f l = s.fld f l := by
  unfold State.linkDown
  rw [State.fld_congr (State.setCwTx_regs _ _), State.fld_setFld_ne _ _ _ _ _ _ _ _ fill,
    State.fld_setFld_ne _ _ _ _ _ _ _ _ link]

theorem State.fld_linkDown_linkUp (s : State) : s.linkDown.fld CWAY_LINK_UP = 0 := by
  unfold State.linkDown
  rw [State.fld_congr (State.setCwTx_regs _ _), State.fld_setFld_ne _ _ _ _ _ _ _ _ (by decide)]
  exact State.fld_setFld_self _ _ _ _ _

/-- The locks of a lane stand apart from the link's state and from the elastic buffer's fill. -/
theorem laneLocks_apart_from_link (l : Nat) : CWAY_LINK_UP.key 0 0 ≠ LANE_BLOCK_LOCK.key l 0 ∧
    LANE_EB_FILL.key 576 0 ≠ LANE_BLOCK_LOCK.key l 0 ∧ CWAY_LINK_UP.key 0 0 ≠ LANE_MARKER_LOCK.key l 0 ∧
    LANE_EB_FILL.key 576 0 ≠ LANE_MARKER_LOCK.key l 0 := by
  simp only [Field.key, Field.off, CWAY_LINK_UP, LANE_EB_FILL, LANE_BLOCK_LOCK, LANE_MARKER_LOCK]
  omega

theorem State.cwLose_clears {s : State} {k : Nat} (lock : s.fldOn LANE_BLOCK_LOCK (576 + k) = true) :
    (s.cwLose k true).fld LANE_BLOCK_LOCK (576 + k) = 0 ∧ (s.cwLose k true).fld LANE_MARKER_LOCK (576 + k) = 0 ∧
    (s.cwLose k true).fld CWAY_LINK_UP = 0 := by
  obtain ⟨block, marker⟩ := s.fld_lockLost (576 + k)
  obtain ⟨linkBlock, fillBlock, linkMarker, fillMarker⟩ := laneLocks_apart_from_link (576 + k)
  rw [State.cwLose_locked lock, State.fld_raise_mc _ (by decide) _ _ (by decide),
    State.fld_raise_mc _ (by decide) _ _ (by decide), State.fld_raise_mc _ (by decide) _ _ (by decide),
    State.fld_linkDown _ linkBlock fillBlock, State.fld_linkDown _ linkMarker fillMarker]
  exact ⟨block, marker, State.fld_linkDown_linkUp _⟩

/-! ### Markers and fillers (R349, R351) -/

theorem controlHeader_eq (h : BitVec 2) : (h.toNat == controlHeader) = (h == 0b10#2) := by revert h; decide

section
variable {s : State} {column : Vector RxBlock 8} {fill : Fin 17}

theorem filler_kept (data : column.toList.all fillerBlock = false) : exec (.filler ⟨column, fill⟩) s = .next s :=
  if_pos (.inr (ne_true_of_eq_false data))

variable (up : s.fldOn CWAY_LINK_UP = true) (spare : column.toList.all fillerBlock = true)
include up spare

theorem filler_spare : exec (.filler ⟨column, fill⟩) s =
    if 10 < fill.val then .next ((s.addFld LANE_FILL_DEL 1 576).setFld LANE_EB_FILL (fill.val - 1) 576)
    else if fill.val < 6 then .next ((s.addFld LANE_FILL_INS 1 576).setFld LANE_EB_FILL (fill.val + 1) 576)
    else .next (s.setFld LANE_EB_FILL fill.val 576) :=
  if_neg (by simp only [up, spare, not_true_eq_false, or_self, not_false_eq_true])

end

/-- Settles O34: each command by its effect, what a lost lane clears, and the line code read back. -/
theorem laneEvents : Obligations.LaneEvents := by
  refine ⟨fun s => ⟨fun l eq => adaptDone_shows eq, fun pll => lanePllUnlock_effect, fun pll h => ?_, fun l cal pwr => ?_,
    fun l errors bits busy => ⟨esDone_effect errors busy, esAbort_effect errors busy bits⟩,
    fun l on pwr free headers => cwBlockLockGained_locks on pwr free,
    fun l headers => ⟨fun h => cwBlockLockGained_invalid h l s, fun h => cwLaneDown_loses h l s,
      fun h => cwLaneDown_keeps h l s⟩, fun l b apart bip skew => ?_, fun on => if_pos on, fun column fill up => ?_⟩,
    fun s l headers lost lock => ⟨_, cwLaneDown_loses lost l s, State.cwLose_clears lock⟩, fun t => t.length_period 0,
    fun st v _ => descramble_scramble st,
    fun ty flags mseq words known hflags hmseq => readMessage_messageColumns known hflags hmseq⟩
  · cases pll with
    | sdiTx q frac => exact (if_pos h).trans (congrArg (Host.Outcome.next ∘ s.relocked (.sdiTx q frac)) (quad_lanes q))
    | media l => exact if_pos h
    | causeway => exact if_pos h
  · rw [exec_laneReady, execLaneReady, pwr, bne_iff_ne.mpr cal, Bool.and_self, State.when_true]
  · rw [exec_alignmentMarker, execAlignmentMarker, controlHeader_eq]
  · refine ⟨filler_kept, fun spare high => ?_, fun spare low => ?_, fun spare ge le => ?_⟩
    · rw [filler_spare up spare, if_pos high]
    · rw [filler_spare up spare, if_neg (by omega), if_pos low]
    · rw [filler_spare up spare, if_neg (by omega), if_neg (by omega)]

end Sys2Proof.Machine

/-! # Proofs: what media ports do with training, links, host slots, frames and flows -/

namespace Sys2Proof.Machine
open Reg

/-! ### Training and the link (R340) -/

theorem linkTrainingEnd_effect {s : State} {l m : Fin 64} (taps : Option EqNow) (port : s.trainingPort (512 + l) = some m.val) :
    let t := s.setPortRun m { s.portRun m with training := (s.portRun m).training.filter (· != 512 + l.val) }
    exec (.linkTrainingEnd l taps) s = .next (match taps with
      | some e => (((t.setFld LANE_TXPRE_NOW e.pre.toNat (512 + l)).setFld LANE_TXMAIN_NOW e.main.toNat (512 + l)).setFld
          LANE_TXPOST_NOW e.post.toNat (512 + l)).setFld LANE_LT_DONE 1 (512 + l)
      | none => t.setFld LANE_LT_DONE 0 (512 + l)) := by
  dsimp only
  rw [exec_linkTrainingEnd, execLinkTrainingEnd, port]
  cases taps <;> rfl

theorem portUp_effect {s : State} {m : Fin 64} (on : s.portOn m = true) (down : s.fldOn MPORT_LINK_UP m = false)
    (trained : (s.portRun m).training = []) (runs : s.fldOn DOM_DSTATE (76 + m / 4) = false) :
    exec (.portUp m) s = .next ((s.setFld MPORT_LINK_UP 1 m).raise Ev.PORT_UP
      { index := m, data := (s.setFld MPORT_LINK_UP 1 m).now,
        dest := (s.setFld MPORT_LINK_UP 1 m).ownerList (oriPort m) }) := by
  have owners : (s.setFld MPORT_LINK_UP 1 m).ownerList (oriPort m) = s.ownerList (oriPort m) :=
    congrArg Option.toList (s.owner_setFld 1 (by decide) (by unfold oriPort; omega))
  rw [exec_portUp, execPortUp, if_pos ⟨on, ne_true_of_eq_false down, trained, ne_true_of_eq_false runs⟩, owners]
  rfl

/-! ### The host path (R308 .. R310) -/

/-- A posted frame may leave: the port sends, and its owner lives. -/
structure HostFrameReady (s : State) (m p : Nat) : Prop where
  owner : s.owner (oriPort m) = some p
  enabled : s.fldOn MPORT_HP_TX_EN m = true
  posted : s.fld MPORT_HP_TX_HEAD m ≠ s.fld MPORT_HP_TX_TAIL m
  sends : s.maySend m = true
  lives : s.live p = true

/-- The slot after HEAD of the transmit ring. -/
def State.nextHostSlot (s : State) (m : Nat) : Nat := (s.fld MPORT_HP_TX_HEAD m + 1) % 2 ^ s.fld MPORT_HP_TX_LOG2 m

/-- The length of the frame in a slot. -/
def slotFrameLen (slot : List Byte) : Nat := leNat (slot.take 4) % 2 ^ 14

/-- A frame that has left counts, and one that asks for it is answered with the time of its leaving. -/
def State.hostFrameSent (s : State) (m p addr stamp : Nat) (slot : List Byte) : State :=
  let y := s.addFld MPORT_HP_TX_PKTS 1 m
  if bitAt (leNat (slot.take 4)) 16 then y.emit (.hostData p addr (leBytes 8 stamp)) else y

section
variable {s : State} {m : Fin 64} {p : Nat} (ready : HostFrameReady s m p) {slot : List Byte}
include ready

theorem HostFrameReady.leaves : ¬(¬s.fldOn MPORT_HP_TX_EN m = true ∨ s.fld MPORT_HP_TX_HEAD m = s.fld MPORT_HP_TX_TAIL m ∨
    ¬s.maySend m = true ∨ ¬s.live p = true) := by
  simp [ready.enabled, ready.posted, ready.sends, ready.lives]

theorem hpTxSend_error (answer : BitVec 64) : exec (.hpTxSend m (.error answer)) s =
    .next ((s.setFld MPORT_HP_FAULT 1 m).setFld MPORT_HP_TX_HEAD (s.nextHostSlot m) m) := by
  rw [exec_hpTxSend, execHpTxSend]
  simp only [ready.owner]
  rw [if_neg ready.leaves]
  rfl

/-- What is read of a slot is judged by its length, then by the gap that it needs. -/
theorem hpTxSend_bytes : exec (.hpTxSend m (.bytes slot)) s =
    if slotFrameLen slot < 14 ∨ 2032 < slotFrameLen slot then
      .next ((s.setFld MPORT_HP_BAD 1 m).setFld MPORT_HP_TX_HEAD (s.nextHostSlot m) m)
    else if ¬s.gapFor m (slotFrameLen slot) then .next s
    else
      let x := s.sendFrame m (slice 16 (slotFrameLen slot) slot)
      let addr := x.1.hpBase MPORT_HP_TX_BASE_LO MPORT_HP_TX_BASE_HI m + 2048 * s.fld MPORT_HP_TX_HEAD m + 8
      .next ((if x.2 then x.1.hostFrameSent m p addr (s.txStamp m) slot else x.1).setFld MPORT_HP_TX_HEAD
        (s.nextHostSlot m) m) := by
  rw [exec_hpTxSend, execHpTxSend]
  simp only [ready.owner]
  rw [if_neg ready.leaves]
  rfl

theorem hpTxSend_badLength (bad : slotFrameLen slot < 14 ∨ 2032 < slotFrameLen slot) :
    exec (.hpTxSend m (.bytes slot)) s =
      .next ((s.setFld MPORT_HP_BAD 1 m).setFld MPORT_HP_TX_HEAD (s.nextHostSlot m) m) := by
  rw [hpTxSend_bytes ready, if_pos bad]

variable (lo : 14 ≤ slotFrameLen slot) (hi : slotFrameLen slot ≤ 2032)
include lo hi

theorem hpTxSend_noGap (gap : s.gapFor m (slotFrameLen slot) = false) : exec (.hpTxSend m (.bytes slot)) s = .next s := by
  rw [hpTxSend_bytes ready, if_neg (by omega), if_pos (ne_true_of_eq_false gap)]

variable (gap : s.gapFor m (slotFrameLen slot) = true)
include gap

theorem hpTxSend_discarded (lost : (s.sendFrame m (slice 16 (slotFrameLen slot) slot)).2 = false) :
    exec (.hpTxSend m (.bytes slot)) s =
      .next ((s.sendFrame m (slice 16 (slotFrameLen slot) slot)).1.setFld MPORT_HP_TX_HEAD (s.nextHostSlot m) m) := by
  rw [hpTxSend_bytes ready, if_neg (by omega), if_neg (not_not_intro gap)]
  dsimp only
  rw [if_neg (ne_true_of_eq_false lost)]

theorem hpTxSend_sent (sent : (s.sendFrame m (slice 16 (slotFrameLen slot) slot)).2 = true) :
    let x := s.sendFrame m (slice 16 (slotFrameLen slot) slot)
    let addr := x.1.hpBase MPORT_HP_TX_BASE_LO MPORT_HP_TX_BASE_HI m + 2048 * s.fld MPORT_HP_TX_HEAD m + 8
    exec (.hpTxSend m (.bytes slot)) s =
      .next ((x.1.hostFrameSent m p addr (s.txStamp m) slot).setFld MPORT_HP_TX_HEAD (s.nextHostSlot m) m) := by
  rw [hpTxSend_bytes ready, if_neg (by omega), if_neg (not_not_intro gap)]
  dsimp only
  rw [if_pos sent]

end

/-! ### Frames that arrive (R304 .. R306) -/

/-- Every frame counts, with its length and with what FEC found in it. -/
def State.frameCounted (s : State) (m : Nat) (frame : NetFrame) : State :=
  ((s.addPair MPORT_RX_FRAMES_LO MPORT_RX_FRAMES_HI 1 m).addPair MPORT_RX_BYTES_LO MPORT_RX_BYTES_HI
    (frame.bytes.length + 4) m).countFec m frame

/-- The first reason of R304 that drops a frame, or the parse chain. -/
def State.frameJudged (s : State) (m : Nat) (frame : NetFrame) : State :=
  if frame.fcsOk = false ∨ (s.portFec m = true ∧ frame.fecBad ≠ 0) then s.addFld MPORT_RX_FCS_ERR 1 m
  else if frame.bytes.length + 4 < 64 then s.addFld MPORT_RX_RUNT 1 m
  else if s.fld MPORT_MAXFRAME m < frame.bytes.length + 4 then s.addFld MPORT_RX_OVERSIZE 1 m
  else if beAt frame.bytes 12 2 = 0x8808 then s.addFld MPORT_RX_PAUSE 1 m
  else if ¬s.addressed m frame.bytes then s.addFld MPORT_RX_NOFLOW 1 m
  else s.parseChain m frame.bytes

theorem mediaFrameReceive_counts {s : State} {m : Fin 64} (frame : NetFrame) (on : s.portOn m = true)
    (up : s.fldOn MPORT_LINK_UP m = true) : exec (.mediaFrameReceive m frame) s =
      .next (if (s.frameCounted m frame).safe then s.frameCounted m frame
        else (s.frameCounted m frame).frameJudged m frame) := by
  rw [exec_mediaFrameReceive, execMediaFrameReceive]
  dsimp only
  rw [if_neg (by simp [on, up])]
  rfl

/-- A frame arrived whole: its FCS fits, and FEC, where the port has it, left nothing wrong. -/
def State.frameWhole (s : State) (m : Nat) (frame : NetFrame) : Prop :=
  frame.fcsOk = true ∧ (s.portFec m = true → frame.fecBad = 0)

section
variable {t : State} {m : Nat} {frame : NetFrame}

theorem State.frameJudged_broken (broken : ¬t.frameWhole m frame) : t.frameJudged m frame = t.addFld MPORT_RX_FCS_ERR 1 m := by
  rw [State.frameWhole, Classical.not_and_iff_not_or_not, Classical.not_imp, Bool.not_eq_true] at broken
  exact if_pos broken

variable (whole : t.frameWhole m frame)
include whole

theorem State.frameWhole.fits : ¬(frame.fcsOk = false ∨ (t.portFec m = true ∧ frame.fecBad ≠ 0)) := by
  obtain ⟨fcs, fec⟩ := whole
  simpa [fcs] using fec

theorem State.frameJudged_runt (short : frame.bytes.length + 4 < 64) : t.frameJudged m frame = t.addFld MPORT_RX_RUNT 1 m := by
  rw [State.frameJudged, if_neg whole.fits, if_pos short]

variable (long : 64 ≤ frame.bytes.length + 4)
include long

theorem State.frameJudged_oversize (big : t.fld MPORT_MAXFRAME m < frame.bytes.length + 4) :
    t.frameJudged m frame = t.addFld MPORT_RX_OVERSIZE 1 m := by
  rw [State.frameJudged, if_neg whole.fits, if_neg (by omega), if_pos big]

variable (within : frame.bytes.length + 4 ≤ t.fld MPORT_MAXFRAME m)
include within

theorem State.frameJudged_pause (pause : beAt frame.bytes 12 2 = 0x8808) :
    t.frameJudged m frame = t.addFld MPORT_RX_PAUSE 1 m := by
  rw [State.frameJudged, if_neg whole.fits, if_neg (by omega), if_neg (by omega), if_pos pause]

variable (data : beAt frame.bytes 12 2 ≠ 0x8808)
include data

theorem State.frameJudged_stranger (stranger : t.addressed m frame.bytes = false) :
    t.frameJudged m frame = t.addFld MPORT_RX_NOFLOW 1 m := by
  rw [State.frameJudged, if_neg whole.fits, if_neg (by omega), if_neg (by omega), if_neg data,
    if_pos (ne_true_of_eq_false stranger)]

theorem State.frameJudged_parsed (addressed : t.addressed m frame.bytes = true) :
    t.frameJudged m frame = t.parseChain m frame.bytes := by
  rw [State.frameJudged, if_neg whole.fits, if_neg (by omega), if_neg (by omega), if_neg data, if_neg (not_not_intro addressed)]

end

/-! ### The short path (R307) -/

section
variable {s : State} {i : Fin 16} {x : ShortFrame} {rest : List ShortFrame} (queue : s.shortQueue i = x :: rest)
include queue

theorem shortPathLookup_waits
    (recent : Tab.get 0 s.media.shortAt i ≠ 0 ∧ s.time.grid + 1 < Tab.get 0 s.media.shortAt i + 500) :
    exec (.shortPathLookup i) s = .next s := by
  rw [exec_shortPathLookup, execShortPathLookup, queue]
  exact if_pos recent

theorem shortPathLookup_looksUp {u : UdpFrame} (udp : parseFrame x.bytes = .udp u)
    (due : Tab.get 0 s.media.shortAt i = 0 ∨ Tab.get 0 s.media.shortAt i + 500 ≤ s.time.grid + 1) :
    let t := s.setShortQueue i rest
    exec (.shortPathLookup i) s = .next (({ t with media := { t.media with
      shortAt := Tab.set 0 t.media.shortAt i (t.time.grid + 1) } }).lookupFrame x.port x.rxTime x.bytes u true) := by
  rw [exec_shortPathLookup, execShortPathLookup, queue]
  dsimp only
  rw [if_neg (by omega), udp]

end

/-! ### Flows (R322, R325) -/

section
variable {s : State} {f : Fin 262144} {x : FlowRun} (context : s.flow f = some x)
include context

theorem flowLegDown_silent (recv : flowDir x.words = 1) (silent : x.lastGrid + s.flowLimit x.words ≤ s.time.grid) :
    exec (.flowLegDown f) s = .next (s.flowDown f) := by
  rw [exec_flowLegDown, execFlowLegDown, context]
  exact if_pos ⟨recv, silent⟩

variable (send : flowDir x.words = 2)
include send

theorem sendPacketDue_idle (idle : s.fldOn DST_LIVE (flowObj x.words) = false) : exec (.sendPacketDue f) s =
    .next (s.updFlow f fun x => { x with queue := [], next := 0, sides := [] }) := by
  rw [exec_sendPacketDue, execSendPacketDue, context]
  dsimp only
  rw [if_neg (not_not_intro send), if_pos (ne_true_of_eq_false idle)]

theorem sendPacketDue_live (live : s.fldOn DST_LIVE (flowObj x.words) = true) : exec (.sendPacketDue f) s =
    .next (if flowIsAudio x.words then s.sendAudio f x else s.sendVideo f x) := by
  rw [exec_sendPacketDue, execSendPacketDue, context]
  dsimp only
  rw [if_neg (not_not_intro send), if_neg (not_not_intro live)]
  exact (apply_ite Host.Outcome.next _ _ _).symm

end

/-! ### Loss of a network source (R317): closing its slots leaves the receivers -/

section
variable (s : State)

theorem State.sdi_when {c : Bool} {g : State → State} (h : (g s).sdi = s.sdi) : (s.when c g).sdi = s.sdi := by
  cases c
  · rfl
  · exact h

theorem State.sdi_ite {c : Prop} [Decidable c] {t u : State} (ht : t.sdi = s.sdi) (hu : u.sdi = s.sdi) :
    (if c then t else u).sdi = s.sdi := by
  split
  · exact ht
  · exact hu

theorem State.sdi_raise {ev : Nat} (r : Raise) (hev : ev < 1024) : (s.raise ev r).sdi = s.sdi := (raise_frame s ev r hev).sdi

theorem State.sdi_sendNow (m : CwMsg) : (s.sendNow m).sdi = s.sdi := State.sdi_when _ rfl

theorem State.sdi_send (ty : Nat) (words : List Nat) : (s.send ty words).sdi = s.sdi :=
  s.sdi_ite (State.sdi_sendNow _ _) (s.sdi_sendNow _)

theorem State.sdi_enterRole (r cause : Nat) : (s.enterRole r cause).sdi = s.sdi := by
  unfold State.enterRole
  dsimp only
  rw [State.sdi_when _ (State.sdi_send _ _ _), State.sdi_raise _ _ (by decide)]
  exact State.sdi_when _ rfl

theorem State.sdi_joinDone : s.joinDone.sdi = s.sdi := by
  unfold State.joinDone
  exact s.sdi_when (s.sdi_enterRole _ _)

theorem State.sdi_outputAgrees (d : Nat) : (s.outputAgrees d).sdi = s.sdi := by
  unfold State.outputAgrees
  rw [State.sdi_joinDone, State.setCway_sdi]

theorem State.sdi_requestKat (isl : List Nat) : (s.requestKat isl).sdi = s.sdi := State.sdi_send _ _ _

theorem State.sdi_digestMismatch (d : Dig) (b : Bool) : (s.digestMismatch d b).sdi = s.sdi := by
  unfold State.digestMismatch
  refine s.sdi_ite ?_ (s.sdi_ite ?_ ((State.sdi_requestKat _ _).trans ?_))
  all_goals rw [State.sdi_raise _ _ (by decide), State.setCway_sdi, State.addFld_sdi]

theorem State.sdi_compareDigests (own peer : Dig) : (s.compareDigests own peer).sdi = s.sdi :=
  s.sdi_ite rfl (s.sdi_ite (s.addFld_sdi _ _ _ _) (s.sdi_ite (s.sdi_when (s.sdi_outputAgrees _)) (s.sdi_digestMismatch _ _)))

theorem State.sdi_ownDigest (d : Dig) : (s.ownDigest d).sdi = s.sdi := by
  unfold State.ownDigest
  split
  · dsimp only
    split
    · exact (State.sdi_compareDigests _ _ _).trans (State.sdi_send _ _ _)
    · exact State.sdi_send _ _ _
  · rfl

theorem State.sdi_dataToHost (p k addr : Nat) (bytes : List Byte) : (s.dataToHost p k addr bytes).sdi = s.sdi := by
  unfold State.dataToHost
  split <;> rfl

theorem State.sdi_copyThumbs (n : Nat) (sl : Slot) (store ladder : Nat) : (s.copyThumbs n sl store ladder).sdi = s.sdi := by
  refine State.each_invariant _ _ State.sdi (fun t e => ?_) s
  dsimp only
  cases bitAt ladder e.2.level
  · rfl
  · exact State.sdi_dataToHost _ _ _ _ _

theorem State.sdi_sweepRings (n : Nat) : (s.sweepRings n).sdi = s.sdi :=
  s.upTo_invariant 4 _ State.sdi fun _ _ _ => rfl

theorem State.sdi_closeSlot (x : SlotRef) : (s.closeSlot x).sdi = s.sdi := by
  unfold State.closeSlot
  split
  · rfl
  · split
    · dsimp only
      rw [State.sdi_sweepRings]
      split
      · rw [State.sdi_when _ (State.sdi_copyThumbs _ _ _ _ _), State.sdi_ownDigest, State.sdi_when _ rfl, State.sdi_when _ rfl]
        rfl
      · rw [State.sdi_ownDigest, State.sdi_when _ rfl, State.sdi_when _ rfl]
        rfl
    · rfl

theorem State.sdi_updSlot (x : SlotRef) (f : Slot → Slot) : (s.updSlot x f).sdi = s.sdi := rfl

theorem State.sdi_becomeAbsent (n : Nat) : (s.becomeAbsent n true).sdi = s.sdi := by
  unfold State.becomeAbsent
  dsimp only
  rw [if_pos rfl]
  have closed : ∀ (t : State) (x : SlotRef),
      ((t.updSlot x fun y => { y with flags := y.flags ||| flagIncomplete }).closeSlot x).sdi = t.sdi :=
    fun t x => (State.sdi_closeSlot _ x).trans (t.sdi_updSlot x _)
  exact (State.each_invariant _ _ State.sdi closed _).trans (s.sdi_when rfl)

end

theorem netLoss_effect {s : State} {n : Fin 1024}
    (receives : (s.srcKind n = 2 ∧ s.srcState n = 2) ∨ (s.srcKind n = 3 ∧ (s.rx (256 + n)).locked = true))
    (silent : (s.src n).lastPacket + 2000000 ≤ s.time.grid + 1) :
    let seq := match s.writing n true with | r :: _ => r.seq | [] => 0
    let t := (s.becomeAbsent n true).setRx (256 + n) ((s.becomeAbsent n true).rx (256 + n)).blank
    exec (.netLoss n) s = .next (t.raise Ev.NET_LOSS { index := n, data := seq, dest := t.ownerList (oriSrc n) }) := by
  have receiver : (s.becomeAbsent n true).rx (256 + n) = s.rx (256 + n) := by
    unfold State.rx
    rw [State.sdi_becomeAbsent]
  dsimp only
  rw [exec_netLoss, execNetLoss, receiver]
  exact if_pos ⟨receives, silent⟩

/-- Settles O33: each command by its effect; a frame is judged after it has counted, and a slot by its length and its gap. -/
theorem mediaPortEvents : Obligations.MediaPortEvents := by
  refine fun s => ⟨fun l m taps => linkTrainingEnd_effect taps, fun m => portUp_effect, fun m => rfl,
    fun m p answer owner enabled posted sends lives => ?_, fun m frame on up => ?_,
    fun i x rest u queue udp => ⟨fun some recent => shortPathLookup_waits queue ⟨some, recent⟩,
      shortPathLookup_looksUp queue udp⟩,
    fun f x context => ⟨flowLegDown_silent context, sendPacketDue_idle context,
      fun send live => ⟨fun audio => ?_, fun video => ?_⟩⟩,
    fun n => netLoss_effect⟩
  · have ready : HostFrameReady s m p := ⟨owner, enabled, posted, sends, lives⟩
    exact ⟨hpTxSend_error ready answer, fun slot => ⟨hpTxSend_noGap ready, hpTxSend_badLength ready,
      fun lo hi gap => ⟨hpTxSend_discarded ready lo hi gap, hpTxSend_sent ready lo hi gap⟩⟩⟩
  · have counted := mediaFrameReceive_counts frame on up
    refine ⟨fun safe => ?_, fun working => ?_⟩
    · exact counted.trans (congrArg Host.Outcome.next (if_pos safe))
    · have judged : exec (.mediaFrameReceive m frame) s = .next ((s.frameCounted m frame).frameJudged m frame) :=
        counted.trans (congrArg Host.Outcome.next (if_neg (ne_true_of_eq_false working)))
      refine ⟨fun broken => ?_, fun whole short => ?_, fun whole long big => ?_,
        fun whole long within => ⟨fun pause => ?_, fun data stranger => ?_, fun data addressed => ?_⟩⟩
      · exact judged.trans (congrArg _ (State.frameJudged_broken broken))
      · exact judged.trans (congrArg _ (State.frameJudged_runt whole short))
      · exact judged.trans (congrArg _ (State.frameJudged_oversize whole long big))
      · exact judged.trans (congrArg _ (State.frameJudged_pause whole long within pause))
      · exact judged.trans (congrArg _ (State.frameJudged_stranger whole long within data stranger))
      · exact judged.trans (congrArg _ (State.frameJudged_parsed whole long within data addressed))
  · rw [sendPacketDue_live context send live, if_pos audio]
  · rw [sendPacketDue_live context send live, if_neg (ne_true_of_eq_false video)]

end Sys2Proof.Machine

/-! # Proofs: writes of the audio pool's input windows and channel groups -/

namespace Sys2Proof.Machine
open Reg

/-! ### Ranges of pool channels held in a table of registers: BASE at bit 0 and COUNT at bit 16 of every second word -/

/-- The key that a field of a table of 8-byte rows has in row j. -/
theorem Field.key_row {f : Field} (stride : f.s2 = 8) (j : Nat) : f.key 0 j = 8 * f.base + 64 * j + f.lo := by
  unfold Field.key Field.off
  rw [stride]
  omega

/-- The fields b and c are BASE and COUNT of one table. -/
structure RangeFields (b c : Field) : Prop where
  baseRow : b.s2 = 8
  countRow : c.s2 = 8
  same : c.base = b.base
  baseLo : b.lo = 0
  countLo : c.lo = 16

/-- No two of the first N ranges share a channel. -/
def State.RangesApart (s : State) (b c : Field) (N : Nat) : Prop :=
  ∀ i j : Fin N, i ≠ j → rangesMeet (s.fld b 0 i) (s.fld c 0 i) (s.fld b 0 j) (s.fld c 0 j) = false

/-- Every one of the first N ranges ends within the pool. -/
def State.RangesInPool (s : State) (b c : Field) (N : Nat) : Prop := ∀ i : Fin N, s.fld b 0 i + s.fld c 0 i ≤ 32768

/-- The first N ranges are the same in both states. -/
def State.SameRanges (s t : State) (b c : Field) (N : Nat) : Prop :=
  ∀ i : Fin N, t.fld b 0 i = s.fld b 0 i ∧ t.fld c 0 i = s.fld c 0 i

/-- Range n set to [x, x + y). -/
def State.storeRange (s : State) (b c : Field) (n x y : Nat) : State := (s.setFld b x 0 n).setFld c y 0 n

theorem rangesMeet_comm (b n b' n' : Nat) : rangesMeet b n b' n' = rangesMeet b' n' b n := by
  unfold rangesMeet
  exact decide_eq_decide.2 (by omega)

section
variable {s t : State} {b c : Field} {N : Nat}

theorem State.SameRanges.trans {u : State} (first : s.SameRanges t b c N) (second : t.SameRanges u b c N) :
    s.SameRanges u b c N := fun i => by
  obtain ⟨base, count⟩ := first i
  obtain ⟨base', count'⟩ := second i
  exact ⟨base'.trans base, count'.trans count⟩

theorem State.SameRanges.of_regs (h : t.regs = s.regs) : s.SameRanges t b c N :=
  fun _ => ⟨State.fld_congr h _ _ _, State.fld_congr h _ _ _⟩

theorem State.sameRanges_setFld {f : Field} {n : Nat} (v : Nat)
    (apart : ∀ i < N, f.key 0 n ≠ b.key 0 i ∧ f.key 0 n ≠ c.key 0 i) : s.SameRanges (s.setFld f v 0 n) b c N := fun i => by
  obtain ⟨base, count⟩ := apart i i.isLt
  exact ⟨s.fld_setFld_ne _ _ _ _ _ _ _ base, s.fld_setFld_ne _ _ _ _ _ _ _ count⟩

theorem State.RangesApart.of_same (apart : s.RangesApart b c N) (same : s.SameRanges t b c N) : t.RangesApart b c N := by
  intro i j ne
  rw [(same i).1, (same i).2, (same j).1, (same j).2]
  exact apart i j ne

theorem State.RangesInPool.of_same (within : s.RangesInPool b c N) (same : s.SameRanges t b c N) :
    t.RangesInPool b c N := by
  intro i
  rw [(same i).1, (same i).2]
  exact within i

section
variable (rows : RangeFields b c)
include rows

theorem State.fld_storeRange_self {n x y : Nat} (hx : x < 2 ^ b.w) (hy : y < 2 ^ c.w) :
    (s.storeRange b c n x y).fld b 0 n = x ∧ (s.storeRange b c n x y).fld c 0 n = y := by
  obtain ⟨bRow, cRow, base, bLo, cLo⟩ := rows
  have apart : c.key 0 n ≠ b.key 0 n := by
    rw [Field.key_row bRow, Field.key_row cRow]
    omega
  unfold State.storeRange
  rw [State.fld_setFld_ne _ _ _ _ _ _ _ _ apart, State.fld_setFld_self, State.fld_setFld_self]
  exact ⟨Nat.mod_eq_of_lt hx, Nat.mod_eq_of_lt hy⟩

theorem State.fld_storeRange_ne {n m : Nat} (x y : Nat) (ne : m ≠ n) :
    (s.storeRange b c n x y).fld b 0 m = s.fld b 0 m ∧ (s.storeRange b c n x y).fld c 0 m = s.fld c 0 m := by
  obtain ⟨bRow, cRow, base, bLo, cLo⟩ := rows
  have apart {f g : Field} (fRow : f.s2 = 8) (gRow : g.s2 = 8) (same : f.base = g.base) (fLo : f.lo < 64)
      (gLo : g.lo < 64) : f.key 0 n ≠ g.key 0 m := by
    rw [Field.key_row fRow, Field.key_row gRow]
    omega
  unfold State.storeRange
  rw [State.fld_setFld_ne _ _ _ _ _ _ _ _ (apart cRow bRow base (by omega) (by omega)),
    State.fld_setFld_ne _ _ _ _ _ _ _ _ (apart bRow bRow rfl (by omega) (by omega)),
    State.fld_setFld_ne _ _ _ _ _ _ _ _ (apart cRow cRow rfl (by omega) (by omega)),
    State.fld_setFld_ne _ _ _ _ _ _ _ _ (apart bRow cRow base.symm (by omega) (by omega))]
  exact ⟨rfl, rfl⟩

/-- A range that shares no channel with the others may take the place of range n. -/
theorem State.RangesApart.storeRange (apart : s.RangesApart b c N) {n : Fin N} {x y : Nat} (hx : x < 2 ^ b.w)
    (hy : y < 2 ^ c.w) (free : ∀ m : Fin N, m ≠ n → rangesMeet x y (s.fld b 0 m) (s.fld c 0 m) = false) :
    (s.storeRange b c n x y).RangesApart b c N := by
  obtain ⟨base, count⟩ := State.fld_storeRange_self (s := s) (n := n) rows hx hy
  have others : ∀ m : Fin N, m ≠ n → (s.storeRange b c n x y).fld b 0 m = s.fld b 0 m ∧
      (s.storeRange b c n x y).fld c 0 m = s.fld c 0 m :=
    fun m ne => State.fld_storeRange_ne rows x y fun e => ne (Fin.ext e)
  intro i j ne
  by_cases hi : i = n
  · subst hi
    rw [base, count, (others j ne.symm).1, (others j ne.symm).2]
    exact free j ne.symm
  · rw [(others i hi).1, (others i hi).2]
    by_cases hj : j = n
    · subst hj
      rw [base, count, rangesMeet_comm]
      exact free i hi
    · rw [(others j hj).1, (others j hj).2]
      exact apart i j ne

theorem State.RangesInPool.storeRange (within : s.RangesInPool b c N) {n : Fin N} {x y : Nat} (hx : x < 2 ^ b.w)
    (hy : y < 2 ^ c.w) (fits : x + y ≤ 32768) : (s.storeRange b c n x y).RangesInPool b c N := by
  intro i
  by_cases hi : i = n
  · obtain ⟨base, count⟩ := State.fld_storeRange_self (s := s) (n := n) rows hx hy
    rw [hi, base, count]
    exact fits
  · obtain ⟨base, count⟩ := State.fld_storeRange_ne (s := s) rows x y fun e => hi (Fin.ext e)
    rw [base, count]
    exact within i

end

end

/-! ### The windows of the sources (R357) and the channel groups (R365) -/

theorem bitField_lt (v lo w : Nat) : bitField v lo w < 2 ^ w := Nat.mod_lt _ (Nat.two_pow_pos w)

/-- A count that its table row takes as 0 when it is too large still fits its field. -/
theorem zeroAbove_lt {m v k : Nat} (h : v < k) : zeroAbove m v < k := by
  unfold zeroAbove
  split <;> omega

theorem State.regs_reclock (s : State) (n : Nat) : (s.reclock n).regs = s.regs := by
  refine State.each_invariant _ _ State.regs (fun t ch => ?_) s
  dsimp only
  split
  · rfl
  · split <;> rfl

/-- The window that a word names for source n is free and within the pool, and t holds it, together with its clocking. -/
structure State.TakesWindow (s : State) (n v : Nat) (t : State) : Prop where
  free : ∀ m < 1024, m ≠ n →
    rangesMeet (AIN_BASE.inWord n v) (AIN_COUNT.inWord n v) (s.fld AIN_BASE 0 m) (s.fld AIN_COUNT 0 m) = false
  fits : AIN_BASE.inWord n v + AIN_COUNT.inWord n v ≤ 32768
  stored : ∃ clk auto, t = (((s.storeRange AIN_BASE AIN_COUNT n (AIN_BASE.inWord n v) (AIN_COUNT.inWord n v)).setFld
    AIN_CLK clk 0 n).setFld AINST_AUTO_ASRC auto 0 n).reclock n

/-- A write of a window is refused with AIN_ERR alone, or it takes the window. -/
theorem State.writeAin_cases (s : State) (n v : Nat) :
    s.writeAin n v = s.setFld AINST_AIN_ERR 1 0 n ∨ s.TakesWindow n v (s.writeAin n v) := by
  unfold State.writeAin
  refine iteInduction (motive := fun t => t = s.setFld AINST_AIN_ERR 1 0 n ∨ s.TakesWindow n v t) (fun _ => .inl rfl)
    fun taken => .inr ?_
  simp only [Bool.or_eq_true, decide_eq_true_eq, not_or, Nat.not_lt] at taken
  obtain ⟨⟨⟨free, fits⟩, -⟩, -⟩ := taken
  refine ⟨fun m hm ne => ?_, fits, _, _, rfl⟩
  simp only [List.any_eq_true, List.mem_range, Bool.and_eq_true, bne_iff_ne, not_exists, not_and,
    Bool.not_eq_true] at free
  exact free m hm ne

/-- A write of a group is refused with AG_ERR alone, or its channels are free and are taken. -/
theorem State.writeAgrp_cases (s : State) (g v : Nat) :
    s.writeAgrp g v = s.setFld AGRP_AG_ERR 1 0 g ∨
    ((∀ h < 512, h ≠ g → rangesMeet (AGRP_AG_BASE.inWord g v) (AGRP_AG_COUNT.inWord g v) (s.fld AGRP_AG_BASE 0 h)
        (s.fld AGRP_AG_COUNT 0 h) = false) ∧
      s.writeAgrp g v =
        s.storeRange AGRP_AG_BASE AGRP_AG_COUNT g (AGRP_AG_BASE.inWord g v) (AGRP_AG_COUNT.inWord g v)) := by
  unfold State.writeAgrp
  dsimp only
  split
  · exact .inl rfl
  · next free =>
    simp only [List.any_eq_true, List.mem_range, Bool.and_eq_true, bne_iff_ne, not_exists, not_and,
      Bool.not_eq_true] at free
    exact .inr ⟨free, rfl⟩

theorem ain_rows : RangeFields AIN_BASE AIN_COUNT := ⟨rfl, rfl, rfl, rfl, rfl⟩

theorem agrp_rows : RangeFields AGRP_AG_BASE AGRP_AG_COUNT := ⟨rfl, rfl, rfl, rfl, rfl⟩

/-- The clocking of a source, and what AINST says of it, stand apart from all windows. -/
theorem ain_keys_apart {f : Field} (other : f = AIN_CLK ∨ f = AINST_AUTO_ASRC ∨ f = AINST_AIN_ERR) (n : Nat) :
    ∀ i < 1024, f.key 0 n ≠ AIN_BASE.key 0 i ∧ f.key 0 n ≠ AIN_COUNT.key 0 i := by
  intro i hi
  rcases other with rfl | rfl | rfl <;>
    simp only [Field.key, Field.off, AIN_BASE, AIN_COUNT, AIN_CLK, AINST_AUTO_ASRC, AINST_AIN_ERR] <;> omega

theorem agrp_keys_apart (g : Nat) :
    ∀ i < 512, AGRP_AG_ERR.key 0 g ≠ AGRP_AG_BASE.key 0 i ∧ AGRP_AG_ERR.key 0 g ≠ AGRP_AG_COUNT.key 0 i := by
  intro i _
  simp only [Field.key, Field.off, AGRP_AG_BASE, AGRP_AG_COUNT, AGRP_AG_ERR]
  omega

/-- A write of a window keeps the windows apart and within the pool: a refused one leaves them, a taken one was judged. -/
theorem State.writeAin_keeps {s : State} (n : Fin 1024) (v : Nat) (apart : s.RangesApart AIN_BASE AIN_COUNT 1024)
    (within : s.RangesInPool AIN_BASE AIN_COUNT 1024) :
    (s.writeAin n v).RangesApart AIN_BASE AIN_COUNT 1024 ∧ (s.writeAin n v).RangesInPool AIN_BASE AIN_COUNT 1024 := by
  rcases s.writeAin_cases n v with refused | ⟨free, fits, clk, auto, taken⟩
  · have same : s.SameRanges (s.writeAin n v) AIN_BASE AIN_COUNT 1024 := by
      rw [refused]
      exact State.sameRanges_setFld 1 (ain_keys_apart (.inr (.inr rfl)) n)
    exact ⟨apart.of_same same, within.of_same same⟩
  · have baseFits : AIN_BASE.inWord n v < 2 ^ AIN_BASE.w := bitField_lt v 0 15
    have countFits : AIN_COUNT.inWord n v < 2 ^ AIN_COUNT.w := zeroAbove_lt (bitField_lt v 16 11)
    have same : (s.storeRange AIN_BASE AIN_COUNT n (AIN_BASE.inWord n v) (AIN_COUNT.inWord n v)).SameRanges
        (s.writeAin n v) AIN_BASE AIN_COUNT 1024 := by
      rw [taken]
      exact ((State.sameRanges_setFld clk (ain_keys_apart (.inl rfl) n)).trans
        (State.sameRanges_setFld auto (ain_keys_apart (.inr (.inl rfl)) n))).trans (.of_regs (State.regs_reclock _ n))
    exact ⟨(apart.storeRange ain_rows baseFits countFits fun m ne => free m m.isLt fun e => ne (Fin.ext e)).of_same same,
      (within.storeRange ain_rows baseFits countFits fits).of_same same⟩

/-- A write of a group keeps the groups apart. -/
theorem State.writeAgrp_keeps {s : State} (g : Fin 512) (v : Nat) (apart : s.RangesApart AGRP_AG_BASE AGRP_AG_COUNT 512) :
    (s.writeAgrp g v).RangesApart AGRP_AG_BASE AGRP_AG_COUNT 512 := by
  rcases s.writeAgrp_cases g v with refused | ⟨free, taken⟩
  · rw [refused]
    exact apart.of_same (State.sameRanges_setFld 1 (agrp_keys_apart g))
  · rw [taken]
    exact apart.storeRange agrp_rows (bitField_lt v 0 15) (zeroAbove_lt (bitField_lt v 16 7))
      fun m ne => free m m.isLt fun e => ne (Fin.ext e)

/-- Settles O36: a write stores a range only where it is free, and touches no other range. -/
theorem poolWindowsStayApart : Obligations.PoolWindowsStayApart :=
  fun _ n g v => ⟨State.writeAin_keeps n v, State.writeAgrp_keeps g v⟩

end Sys2Proof.Machine

/-! # Proofs: writes of mirrored registers wait for the instant that both devices share -/

namespace Sys2Proof.Machine
open Reg

/-! ### Where mirrored registers stand (R34, R439) -/

/-- The span that makes an offset belong to a block. -/
theorem blockAt_span {off : Nat} {b : Blk} {i : Nat} (at' : blockAt off = some (b, i)) :
    ∃ sp ∈ blockTable, sp.blk = b ∧ sp.base ≤ off ∧ off < sp.base + sp.size := by
  unfold blockAt at at'
  split at at'
  · exact nomatch at'
  · obtain ⟨sp, found, place⟩ := Option.map_eq_some_iff.1 at'
    exact ⟨sp, List.mem_of_find?_eq_some found, congrArg Prod.fst place, by simpa using List.find?_some found⟩

/-- The audio engine and the AES3 ports fill the space between 0x80000 and 0xA0000. -/
theorem audioSpan_iff : ∀ sp ∈ blockTable,
    (sp.blk = .aud ∨ sp.blk = .aesin ∨ sp.blk = .aesout → 0x80000 ≤ sp.base ∧ sp.base + sp.size ≤ 0xA0000) ∧
    (¬(sp.blk = .aud ∨ sp.blk = .aesin ∨ sp.blk = .aesout) → sp.base + sp.size ≤ 0x80000 ∨ 0xA0000 ≤ sp.base) := by
  decide

theorem blockAt_audio_iff {off : Nat} {b : Blk} {i : Nat} (at' : blockAt off = some (b, i)) :
    (b = .aud ∨ b = .aesin ∨ b = .aesout) ↔ 0x80000 ≤ off ∧ off < 0xA0000 := by
  obtain ⟨sp, listed, rfl, lo, hi⟩ := blockAt_span at'
  obtain ⟨inside, outside⟩ := audioSpan_iff sp listed
  by_cases audio : sp.blk = .aud ∨ sp.blk = .aesin ∨ sp.blk = .aesout
  · have := inside audio
    exact ⟨fun _ => by omega, fun _ => audio⟩
  · have := outside audio
    exact ⟨fun h => absurd h audio, fun h => by omega⟩

theorem mirroredAt_block {off : Nat} (mirrored : mirroredAt off = true) :
    ∃ b i, blockAt off = some (b, i) ∧ (b.isMirrored && hasRw b off) = true := by
  unfold mirroredAt at mirrored
  split at mirrored
  · next b i at' => exact ⟨b, i, at', mirrored⟩
  · exact nomatch mirrored

/-! ### The instants of R439, R357 and R388 -/

theorem le_ceilDiv_mul (a : Nat) {b : Nat} (pos : 0 < b) : a ≤ ceilDiv a b * b := by
  have := Nat.lt_div_mul_add pos (a := a + b - 1)
  unfold ceilDiv
  omega

theorem ceilDiv_mul_lt (a : Nat) {b : Nat} (pos : 0 < b) : ceilDiv a b * b < a + b := by
  have := Nat.div_mul_le_self (a + b - 1) b
  unfold ceilDiv
  omega

theorem State.mirrorInstant_bounds (s : State) :
    s.now + 2000000 ≤ s.mirrorInstant ∧ s.mirrorInstant < s.now + 3000000 ∧ s.mirrorInstant % 1000000 = 0 := by
  have lower := le_ceilDiv_mul (s.now + 2000000) (b := 1000000) (by decide)
  have upper := ceilDiv_mul_lt (s.now + 2000000) (b := 1000000) (by decide)
  unfold State.mirrorInstant
  exact ⟨lower, Nat.lt_of_lt_of_eq upper (Nat.add_assoc _ _ _), Nat.mul_mod_left _ _⟩

theorem State.mirrorFor_audio (s : State) {b : Blk} (audio : b = .aud ∨ b = .aesin ∨ b = .aesout) : s.mirrorFor b =
    max s.mirrorInstant (s.sampleStart (48 * ceilDiv (s.sampleFrom s.mirrorInstant) 48)).toNat :=
  if_pos audio

theorem State.mirrorFor_other (s : State) {b : Blk} (other : ¬(b = .aud ∨ b = .aesin ∨ b = .aesout)) :
    s.mirrorFor b = s.mirrorInstant :=
  if_neg other

theorem State.mirrorInstant_le_mirrorFor (s : State) (b : Blk) : s.mirrorInstant ≤ s.mirrorFor b := by
  by_cases audio : b = .aud ∨ b = .aesin ∨ b = .aesout
  · rw [s.mirrorFor_audio audio]
    exact Nat.le_max_left _ _
  · exact Nat.le_of_eq (s.mirrorFor_other audio).symm

/-! ### The messages to the peer leave what is held -/

theorem State.cway_putMsg (s : State) (flags mseq : Nat) (m : CwMsg) : (s.putMsg flags mseq m).cway = s.cway := by
  unfold State.putMsg
  cases s.fldOn CWAY_LINK_UP <;> rfl

theorem State.held_sendNow (s : State) (m : CwMsg) : (s.sendNow m).cway.held = s.cway.held := by
  unfold State.sendNow
  dsimp only
  rw [State.cway_putMsg]

theorem State.held_send (s : State) (ty : Nat) (words : List Nat) : (s.send ty words).cway.held = s.cway.held := by
  unfold State.send
  dsimp only
  split <;> exact State.held_sendNow _ _

theorem State.cway_disarmed (s : State) (w : Nat) : (s.disarmed w).cway = s.cway := by
  unfold State.disarmed
  split <;> rfl

/-! ### A write of a mirrored register -/

/-- A write of a mirrored register that passes its checks is held on a paired device; another applies it at once, and sends
it when a peer joins. -/
theorem write32_mirrored {s : State} {w off : Nat} {b : Blk} {i : Nat} (passes : s.writeBar w off 4 = none)
    (safe : s.safe = false) (at' : blockAt off = some (b, i)) (mirrored : (b.isMirrored && hasRw b off) = true) (v : Nat) :
    s.write32 w off v = (if s.paired then s.holdWrite w off (v % 2 ^ 32) b
      else (s.mirrorWrite b off (v % 2 ^ 32)).regWrite w off (v % 2 ^ 32)).disarmed w := by
  have notKey : off ≠ 0x42040 := by
    rintro rfl
    rw [blockAt_boot (by decide) (by decide)] at at'
    cases at'
    exact nomatch mirrored
  unfold State.write32 State.hostWrite State.disarmed State.acceptWrite
  simp [passes, at', safe, mirrored, notKey]

/-- Without a bit that a 1 clears, the whole word is sent and held. -/
theorem State.holdWrite_plain (s : State) (w v : Nat) {off : Nat} {b : Blk} (plain : ∀ x ∈ b.at? off, x.1.ty ≠ .w1c) :
    s.holdWrite w off v b =
      let t := s.send Msg.MIRROR_REG [word64 off v, s.mirrorFor b]
      t.setCway { t.cway with held := t.cway.held ++ [{ at' := s.mirrorFor b, part := w, off := off, value := v }] } := by
  have noOnes : (b.at? off).filter (fun x => x.1.ty == .w1c) = [] := by simpa [List.filter_eq_nil_iff] using plain
  simp [State.holdWrite, State.putWord, noOnes]

theorem registerWrite_word (s : State) (w : Fin 8) (off : BitVec 26) (val : Word) :
    exec (.registerWrite w off 4 (val.setWidth 64)) s = .next (s.write32 w off.toNat val.toNat) := by
  have word : (val.setWidth 64).toNat = val.toNat := BitVec.toNat_setWidth_of_le (by decide)
  rw [exec_registerWrite, execRegisterWrite, word]
  rfl

/-! ### What is held takes effect at its instant -/

section
variable {u : State} {h : HeldWrite} (alone : u.cway.held = [h])
include alone

theorem mirrorRegApply_before (early : u.now < h.at') : exec .mirrorRegApply u = .next u := by
  have keeps : u.setCway { u.cway with held := [h] } = u := by rw [← alone]; rfl
  rw [exec_mirrorRegApply, execMirrorRegApply, State.applyHeld, alone]
  simp [early, Nat.not_le.2 early, keeps]

theorem mirrorRegApply_due (due : h.at' ≤ u.now) : exec .mirrorRegApply u =
    let v := (u.setCway { u.cway with held := [] }).regWrite h.part h.off h.value
    .next (if u.isActive = false then v.crosses 10 [0] else v) := by
  have role : (u.setCway { u.cway with held := [] }).isActive = u.isActive := rfl
  rw [exec_mirrorRegApply, execMirrorRegApply, State.applyHeld, alone]
  cases active : u.isActive <;> simp [due, Nat.not_lt.2 due, role, active]

end

/-- Settles O49: the write is sent and held with the instant of its block, and MIRROR_REG_APPLY sorts what is held by that
instant. -/
theorem mirroredWritesWait : Obligations.MirroredWritesWait := by
  refine ⟨fun s w off val paired safe passes mirrored plain => ?_,
    fun s w off val b i alone mirrors safe passes mirrored at' => ?_⟩
  · obtain ⟨b, i, at', isMirrored⟩ := mirroredAt_block mirrored
    rw [at'] at plain
    have audio := blockAt_audio_iff at'
    obtain ⟨after, before, whole⟩ := s.mirrorInstant_bounds
    have waits := s.mirrorInstant_le_mirrorFor b
    refine ⟨_, s.mirrorFor b, (registerWrite_word s w off val).trans
      (congrArg _ (write32_mirrored passes safe at' isMirrored _)), by omega, fun outside => ?_, fun lo hi => ?_, ?_, ?_,
      fun u held => ⟨mirrorRegApply_before held, mirrorRegApply_due held⟩⟩
    · rw [s.mirrorFor_other (fun h => by have := audio.1 h; omega)]
      exact ⟨whole, before⟩
    · exact s.mirrorFor_audio (audio.2 ⟨lo, hi⟩)
    · rw [if_pos paired, s.holdWrite_plain _ _ plain, State.cway_disarmed, Nat.mod_eq_of_lt val.isLt]
      exact congrArg (· ++ _) (s.held_send _ _)
    · rw [if_pos paired, s.holdWrite_plain _ _ plain, State.regs_disarmed]
      exact (s.send_regs_host _ _).1
  · obtain ⟨b', i', at'', isMirrored⟩ := mirroredAt_block mirrored
    obtain ⟨rfl, rfl⟩ : b = b' ∧ i = i' := by simpa using at'.symm.trans at''
    rw [registerWrite_word, write32_mirrored passes safe at' isMirrored, alone, Nat.mod_eq_of_lt val.isLt]
    rfl

end Sys2Proof.Machine

/-! # Proofs: what the register, memory and accumulator instructions of the probe cores do -/

namespace Sys2Proof.Machine
open Reg

/-! ### What a row does -/

/-- A core that stands at an instruction carries out what its row means. -/
theorem probeRow_next {s : State} {c op mask m : Nat} {f : ProbeSem} {st : ProbeStep} (h : s.atOp c op mask) (hm : m = mask)
    (means : f s c (s.probeWord c) (s.fld PROBE_PC c) (s.core c) = st) :
    (Host.Outcome.next (s.probeRow c (· == op) m f) : Out) = .next (s.finishProbe c (s.fld PROBE_PC c) st) := by
  rw [probeRow_at h hm, means]

/-! ### Data registers (R412, R415) -/

theorem signed16_bounds (v : Nat) : -32768 ≤ signed 16 v ∧ signed 16 v < 32768 := by
  unfold signed
  dsimp only
  split <;> omega

/-- R412: the magnitude of a word, but for the most negative one, which has none in 16 bits. -/
theorem satSigned16_natAbs (v : Nat) : unsignedOf 16 (satSigned 16 ((signed 16 v).natAbs : Int)) =
    if signed 16 v = -32768 then 32767 else (signed 16 v).natAbs := by
  have := signed16_bounds v
  unfold unsignedOf satSigned
  split <;> omega

/-- Settles O38: each row writes its register and flags as R415 says; only ABS needs that the magnitude of a word fits. -/
theorem probeArithmetic : Obligations.ProbeArithmetic := by
  intro s c
  refine ⟨?ldi, ?mov, ?add, ?sub, ?and, ?or, ?xor, ?cmp, ?addi, ?cmpi, ?andi, ?shl, ?shr, ?sra, ?abs, ?min, ?max⟩ <;> intro h
  case abs =>
    refine probeRow_next h rfl ?_
    unfold semAbs
    simp only [satSigned16_natAbs]
    rfl
  all_goals exact probeRow_next h rfl rfl

/-! ### Memory, address registers and accumulators (R410 .. R414, R420) -/

/-- R413: an accumulator's value, wrapped to 40 bits of two's complement, or clamped with SAT. -/
def fit40 (sat : Bool) (v : Int) : Int :=
  if sat then max (-(2 ^ 39)) (min v (2 ^ 39 - 1)) else (v + 2 ^ 39) % 2 ^ 40 - 2 ^ 39

theorem acc40_eq_fit40 (sat : Bool) (v : Int) : acc40 sat v = fit40 sat v := by
  cases sat
  · show signed 40 (unsignedOf 40 v) = (v + 2 ^ 39) % 2 ^ 40 - 2 ^ 39
    unfold signed unsignedOf
    dsimp only
    split <;> omega
  · exact congrArg (max _) (Int.min_comm _ _)

section
variable {s : State} {c w pc : Nat} {x : CoreRun}

/-- R412: a product in a listed mode is accumulated, wrapped or clamped. -/
theorem product_eq (f : Int → Int → Int) (listed : bitField w 12 2 ≠ 3) : product f s c w pc x =
    let m := bitField w 12 2
    let a := x.dreg (fa w)
    let b := x.dreg (fb w)
    let p : Int := (if m = 1 then (a : Int) else signed 16 a) * (if m = 0 then signed 16 b else (b : Int))
    .next s (x.setAcc (bitField w 25 1) (fit40 (bitAt w 11) (f (x.acc (bitField w 25 1)) p))) [] := by
  unfold product operand
  simp only [if_neg listed, acc40_eq_fit40, bne_iff_ne, beq_iff_eq, ne_eq, ite_not]

/-- R412: the distance of two words, signed or not, is accumulated. -/
theorem semAda_eq (listed : bitField w 12 2 < 2) : semAda s c w pc x =
    let isSigned := bitField w 12 2 == 0
    let d := operand isSigned (x.dreg (fa w)) - operand isSigned (x.dreg (fb w))
    .next s (x.setAcc (bitField w 25 1) (fit40 (bitAt w 11) (x.acc (bitField w 25 1) + d.natAbs))) [] := by
  unfold semAda
  simp only [if_neg (Nat.not_le.2 listed), acc40_eq_fit40]

/-- R414: what STA stores, with each way to saturate. -/
theorem staValue_eq (a sh : Int) (sat u : Bool) : staValue a sh sat u =
    let v : Int := if 0 ≤ sh then a * 2 ^ sh.toNat else a / 2 ^ (-sh).toNat
    let r := v / 65536
    if sat = false then unsignedOf 16 r else if u then (max 0 (min r 65535)).toNat
      else unsignedOf 16 (max (-32768) (min r 32767)) := by
  have clamp (r : Int) : satSigned 16 r = max (-32768) (min r 32767) := congrArg (max _) (Int.min_comm _ _)
  unfold staValue
  simp only [clamp, Bool.not_eq_true']
  rfl

end

/-! ### Address registers (R410) -/

@[simp] theorem CoreRun.xf_setXf_self (x : CoreRun) (i f v : Nat) : (x.setXf i f v).xf i f = v % 2 ^ 16 :=
  Tab.get_set_self _ _ _

theorem CoreRun.xf_setXf_ne (x : CoreRun) {i f j g : Nat} (v : Nat) (apart : 4 * i + f ≠ 4 * j + g) :
    (x.setXf i f v).xf j g = x.xf j g :=
  Tab.get_set_ne _ _ apart

/-- Post-increment and post-decrement move CUR by STEP. -/
theorem CoreRun.modify_eq (x : CoreRun) (i : Nat) {mode : Nat} (moves : mode = 1 ∨ mode = 2) : x.modify i mode =
    x.setXf i 0 (nextCur (x.xf i 0) (x.xf i 1) (x.xf i 2)
      (if mode = 1 then signed 16 (x.xf i 3) else -(signed 16 (x.xf i 3)))) :=
  if_neg (by omega)

theorem unsignedOf16_lt (v : Int) : unsignedOf 16 v < 2 ^ 16 := by
  unfold unsignedOf
  omega

theorem nextCur_lt (cur base len : Nat) (st : Int) : nextCur cur base len st < 2 ^ 16 := by
  unfold nextCur
  dsimp only
  split <;> exact unsignedOf16_lt _

theorem nextCur_linear (cur base : Nat) (st : Int) : (nextCur cur base 0 st : Int) = (cur + st) % 65536 := by
  show (unsignedOf 16 (cur + st) : Int) = _
  unfold unsignedOf
  omega

/-- The offset of a circular CUR within its buffer. -/
theorem nextCur_circular (cur base : Nat) {len : Nat} (circular : len ≠ 0) (st : Int) : ∃ o, o < len ∧
    nextCur cur base len st = (base + o) % 65536 ∧ (o : Int) = ((cur : Int) + st - base) % len := by
  have pos : (0 : Int) < len := by omega
  have low := Int.emod_nonneg ((cur : Int) + st - base) (Int.ne_of_gt pos)
  have high := Int.emod_lt_of_pos ((cur : Int) + st - base) pos
  refine ⟨(((cur : Int) + st - base) % len).toNat, by omega, ?_, by omega⟩
  unfold nextCur unsignedOf
  rw [if_neg circular]
  omega

theorem CoreRun.modify_effect (x : CoreRun) {i mode : Nat} (moves : mode = 1 ∨ mode = 2) :
    let y := x.modify i mode
    let step : Int := if mode = 1 then signed 16 (x.xf i 3) else -(signed 16 (x.xf i 3))
    (x.xf i 2 = 0 → (y.xf i 0 : Int) = ((x.xf i 0 : Int) + step) % 65536) ∧
    (x.xf i 2 ≠ 0 → ∃ o, o < x.xf i 2 ∧ y.xf i 0 = (x.xf i 1 + o) % 65536 ∧
      (o : Int) = ((x.xf i 0 : Int) + step - x.xf i 1) % x.xf i 2) ∧
    (∀ f, f ≠ 0 → f < 4 → y.xf i f = x.xf i f) ∧ (∀ l f, l ≠ i → f < 4 → y.xf l f = x.xf l f) := by
  dsimp only
  rw [x.modify_eq i moves, CoreRun.xf_setXf_self, Nat.mod_eq_of_lt (nextCur_lt _ _ _ _)]
  refine ⟨fun linear => ?_, fun circular => nextCur_circular _ _ circular _, fun f other lt => ?_, fun l f other lt => ?_⟩
  · rw [linear]
    exact nextCur_linear _ _ _
  · exact x.xf_setXf_ne _ (by omega)
  · exact x.xf_setXf_ne _ (by omega)

/-- Settles O39: each row has the meaning of R412 with its accumulator wrapped or clamped, and a modification moves CUR
alone. -/
theorem probeMemoryAndAccumulators : Obligations.ProbeMemoryAndAccumulators := by
  refine ⟨fun s c => ?_, fun x i mode _ moves => CoreRun.modify_effect x moves⟩
  refine ⟨fun h mode => probeRow_next h rfl (if_neg mode), fun h mode => probeRow_next h rfl (if_neg mode),
    fun h ij de => probeRow_next h rfl (if_neg (not_or.2 ⟨ij, de⟩)), fun h => probeRow_next h rfl rfl,
    fun h => probeRow_next h rfl rfl, fun h => probeRow_next h rfl rfl, fun h v value => probeRow_next h rfl ?_,
    fun h listed => probeRow_next h rfl (product_eq _ listed), fun h listed => probeRow_next h rfl (product_eq _ listed),
    fun h listed => probeRow_next h rfl (product_eq _ listed), fun h => ⟨fun m => ?_, fun m => ?_⟩,
    fun h => probeRow_next h rfl rfl, fun h => probeRow_next h rfl rfl, fun h => probeRow_next h rfl ?_⟩
  · unfold semGets
    rw [value]
    rfl
  · refine probeRow_next h rfl ((semAda_eq (by omega)).trans ?_)
    rw [m]
    rfl
  · refine probeRow_next h rfl ((semAda_eq (by omega)).trans ?_)
    rw [m]
    rfl
  · rw [staValue_eq]
    rfl

end Sys2Proof.Machine

/-! # Proofs: flow and faults of the probe cores -/

namespace Sys2Proof.Machine
open Reg

/-! ### Fields and registers of a core -/

@[simp] theorem State.core_setCore (s : State) (c : Nat) (x : CoreRun) : (s.setCore c x).core c = x :=
  Tab.get_set_self _ _ _

/-- Two fields of the same copy of a block. -/
theorem State.fld_setFld_other {f g : Field} (s : State) (stride : f.s1 = g.s1) (apart : 8 * f.base + f.lo ≠ 8 * g.base + g.lo)
    (v i : Nat) : (s.setFld f v i).fld g i = s.fld g i :=
  State.fld_setFld_ne _ _ _ _ _ _ _ _ (Field.key_ne stride apart i)

theorem State.core_raise (s : State) {ev : Nat} (r : Raise) (hev : ev < 1024) (c : Nat) : (s.raise ev r).core c = s.core c := by
  unfold State.core
  rw [(raise_frame s ev r hev).probe]

/-! ### Faults (R411, R412, R416) -/

section
variable (s : State) (c : Fin 32)

/-- What R416 says of the core, whatever the fault. -/
theorem State.probeFault_stops {pc cause : Nat} (hc : cause < 16) (hpc : pc < 16384) :
    let t := s.probeFault c pc cause
    t.fld PROBE_STATE c = coreFault ∧ t.fld PROBE_FAULT_CAUSE c = cause ∧ t.fld PROBE_FAULT_PC c = pc ∧
      t.core c = s.core c ∧ t.fld PROBE_PC c = s.fld PROBE_PC c := by
  have hev : Ev.PROBE_FAULT < 1024 := by decide
  unfold State.probeFault
  dsimp only
  refine ⟨(State.fld_raise_mc _ (by decide) _ _ hev).trans ?_, (State.fld_raise_mc _ (by decide) _ _ hev).trans ?_,
    (State.fld_raise_mc _ (by decide) _ _ hev).trans ?_, State.core_raise _ _ hev _,
    (State.fld_raise_mc _ (by decide) _ _ hev).trans ?_⟩
  · exact (State.fld_setFld_other _ (by rfl) (by decide) _ _).trans
      ((State.fld_setFld_other _ (by rfl) (by decide) _ _).trans (State.fld_setFld_self _ _ _ _ _))
  · exact (State.fld_setFld_other _ (by rfl) (by decide) _ _).trans
      ((State.fld_setFld_self _ _ _ _ _).trans (Nat.mod_eq_of_lt hc))
  · exact (State.fld_setFld_self _ _ _ _ _).trans (Nat.mod_eq_of_lt hpc)
  · exact (State.fld_setFld_other _ (by rfl) (by decide) _ _).trans
      ((State.fld_setFld_other _ (by rfl) (by decide) _ _).trans (State.fld_setFld_other _ (by rfl) (by decide) _ _))

/-- An instruction stops core c with a cause at the PC, and has no other effect on the core. -/
def State.StopsAt (i : Instr) (cause : Nat) : Prop :=
  ∃ t, exec i s = .next t ∧ t.fld PROBE_STATE c = coreFault ∧ t.fld PROBE_FAULT_CAUSE c = cause ∧
    t.fld PROBE_FAULT_PC c = s.fld PROBE_PC c ∧ t.core c = s.core c ∧ t.fld PROBE_PC c = s.fld PROBE_PC c

variable {s c}

theorem State.stopsAt_of_exec {i : Instr} {cause : Nat} (hpc : s.fld PROBE_PC c < 16384) (hc : cause < 16)
    (runs : exec i s = .next (s.probeFault c (s.fld PROBE_PC c) cause)) : s.StopsAt c i cause :=
  ⟨_, runs, s.probeFault_stops c hc hpc⟩

/-- A row whose meaning is a fault. -/
theorem State.stopsAt_of_row {i : Instr} {cause op mask m : Nat} {f : ProbeSem} (hpc : s.fld PROBE_PC c < 16384) (hc : cause < 16)
    (row : exec i s = .next (s.probeRow c (· == op) m f)) (h : s.atOp c op mask) (hm : m = mask)
    (means : f s c (s.probeWord c) (s.fld PROBE_PC c) (s.core c) = .fault cause) : s.StopsAt c i cause := by
  refine stopsAt_of_exec hpc hc ?_
  rw [row, probeRow_next h hm means]
  rfl

/-- The word of an opcode that R412 does not list. -/
theorem br_unlisted (running : s.fld PROBE_STATE c = coreRunning)
    (free : s.breakAt c (s.fld PROBE_PC c) = false ∨ (s.core c).skipBreak = true)
    (unlisted : probeListed (probeOp (s.probeWord c)) = false) :
    exec (.br c) s = .next (s.probeFault c (s.fld PROBE_PC c) 1) := by
  have runs : ¬(s.breakAt c (s.fld PROBE_PC c) = true ∧ ¬(s.core c).skipBreak = true) := by
    rcases free with free | free <;> simp [free]
  rw [exec_br, execBr, if_pos ⟨running, unlisted⟩, State.probeRow]
  simp only [running, ne_eq, not_true_eq_false, false_or, Bool.true_eq_false, if_false, if_neg runs]
  exact congrArg _ (ite_self _)

/-- BR itself. -/
theorem br_row {mask : Nat} (h : s.atOp c 0x02 mask) :
    exec (.br c) s = .next (s.probeRow c (· == 0x02) (mD ||| mImm) semBr) := by
  obtain ⟨_, op, _⟩ := h
  have listed : probeListed (probeOp (s.probeWord c)) = true := by rw [op]; rfl
  rw [exec_br, execBr, if_neg (by simp [listed])]

theorem semRet_empty {w pc : Nat} {x : CoreRun} (empty : x.stack = []) : semRet s c w pc x = .fault 4 := by
  unfold semRet
  rw [empty]
  rfl

/-- R420 lists selectors 0 to 5 and 16 to 27. -/
theorem State.probeSystem_unlisted {sel : Nat} (x : CoreRun) (low : 6 ≤ sel) (unlisted : sel < 16 ∨ 28 ≤ sel) :
    s.probeSystem c sel x = none := by
  unfold State.probeSystem
  dsimp only
  repeat rw [if_neg (by omega)]

theorem semGets_unlisted {w pc : Nat} {x : CoreRun} (none : s.probeSystem c (bitField w 0 8) x = none) :
    semGets s c w pc x = .fault 1 := by
  unfold semGets
  rw [none]

end

/-- Settles O41: each illegal word's row means a fault, and a fault leaves the core as it was. -/
theorem probeFaults : Obligations.ProbeFaults := by
  intro s c w pc stops hpc
  have row : ∀ {i : Instr} {cause op mask m : Nat} {f : ProbeSem}, cause < 16 →
      exec i s = .next (s.probeRow c (· == op) m f) → s.atOp c op mask → m = mask →
      f s c (s.probeWord c) (s.fld PROBE_PC c) (s.core c) = .fault cause → stops i cause := State.stopsAt_of_row hpc
  have illegal {i : Instr} {op mask m : Nat} {f : ProbeSem} := @row i 1 op mask m f (by decide)
  refine ⟨fun running free unlisted => State.stopsAt_of_exec hpc (by decide) (br_unlisted running free unlisted),
    fun h bad => illegal (br_row h) h rfl (if_pos bad),
    fun h fits full => row (by decide) rfl h rfl ((if_neg (Nat.not_le.2 fits)).trans (if_pos full)),
    fun h empty => row (by decide) rfl h rfl (semRet_empty empty),
    fun h last => row (by decide) rfl h rfl (if_pos (Nat.lt_succ_of_le last)),
    fun h last => row (by decide) rfl h rfl (if_pos (Nat.lt_succ_of_le last)),
    fun h bad => illegal rfl h rfl (if_pos bad), fun h bad => illegal rfl h rfl (if_pos bad),
    fun h bad => illegal rfl h rfl (if_pos bad),
    fun h low bad => illegal rfl h rfl (semGets_unlisted (State.probeSystem_unlisted _ low bad)),
    ?mpy, ?mac, ?msu, ?ada, ?pop, ?push, ?qctl, ?vrd, ?sig⟩
  all_goals exact fun h bad => illegal rfl h rfl (if_pos bad)

/-! ### Where flow goes on (R411, R540) -/

theorem CoreRun.loopEnd_idle {x : CoreRun} {l : Nat} (pc : Nat) (idle : (x.loop l).active = false) :
    x.loopEnd l pc = (x, none) := by
  unfold CoreRun.loopEnd
  simp [idle]

/-- Without a loop, flow goes on at the next address. -/
theorem CoreRun.sequential_idle {x : CoreRun} (pc : Nat) (idle0 : x.loop0.active = false) (idle1 : x.loop1.active = false) :
    x.sequential pc = (x, pc + 1) := by
  have idle (l : Nat) : x.loopEnd l pc = (x, none) := by
    refine CoreRun.loopEnd_idle pc ?_
    unfold CoreRun.loop
    split
    · exact idle0
    · exact idle1
  unfold CoreRun.sequential
  simp only [idle]
  rfl

/-- R411: at the end of the later loop, with passes left, flow goes back to its start. -/
theorem CoreRun.sequential_repeats {x : CoreRun} {pc : Nat} (active : x.loop0.active = true) (ends : x.loop0.last = pc)
    (later : x.loop0.later = true) (left : 1 < x.loop0.count) : x.sequential pc =
      ({ x with loop0 := { x.loop0 with count := x.loop0.count - 1 } }, x.loop0.start) := by
  have first : x.loopEnd 0 pc =
      ({ x with loop0 := { x.loop0 with count := x.loop0.count - 1 } }, some x.loop0.start) := by
    unfold CoreRun.loopEnd
    exact (if_pos ⟨active, ends⟩).trans (if_pos left)
  unfold CoreRun.sequential
  simp only [if_pos later, first]

section
variable {s : State} (c : Fin 32)

/-- The debug port's registers stand above those of the cores. -/
theorem State.fld_setPc_dbgc {f : Field} (dbg : 0x10000000 ≤ f.base) (s : State) (dest : Nat) :
    (s.setFld PROBE_PC dest c).fld f 0 c = s.fld f 0 c := by
  refine State.fld_setFld_ne _ _ _ _ _ _ _ _ ?_
  have pcKey : PROBE_PC.key c 0 = 8 * (0xB0000 + c * 0x400 + 0) + 16 := by simp [Field.key, Field.off, PROBE_PC]
  rw [pcKey]
  unfold Field.key Field.off
  omega

theorem State.breakAt_setPc (s : State) (dest p : Nat) : (s.setFld PROBE_PC dest c).breakAt c p = s.breakAt c p := by
  unfold State.breakAt State.fldOn
  simp only [List.any_cons, List.any_nil]
  repeat rw [State.fld_setPc_dbgc c (by decide)]

/-- R540: without a reason to halt, an instruction's end only lets the next breakpoint hold. -/
theorem State.boundary_goesOn (pend : (s.core c).haltPend = false) (step : (s.core c).stepping = false)
    (free : s.breakAt c (s.fld PROBE_PC c) = false) :
    s.boundary c [] = s.setCore c { s.core c with skipBreak := false } := by
  have quiet : s.watched c [] = false := by simp [State.watched]
  unfold State.boundary
  simp [pend, step, free, quiet, bit]

/-- Core c goes on at an address with the registers x. -/
def State.coreAt (t : State) (x : CoreRun) (dest : Nat) : State :=
  ((t.setCore c x).setFld PROBE_PC dest c).setCore c { x with skipBreak := false }

variable {c}

theorem State.boundary_coreAt {x : CoreRun} {dest : Nat} (lt : dest < 16384) (pend : x.haltPend = false)
    (step : x.stepping = false) (free : s.breakAt c dest = false) :
    ((s.setCore c x).setFld PROBE_PC dest c).boundary c [] = s.coreAt c x dest := by
  have core : ((s.setCore c x).setFld PROBE_PC dest c).core c = x := State.core_setCore _ _ _
  have pc : ((s.setCore c x).setFld PROBE_PC dest c).fld PROBE_PC c = dest :=
    (State.fld_setFld_self _ _ _ _ _).trans (Nat.mod_eq_of_lt lt)
  have goesOn := State.boundary_goesOn c (by rw [core, pend]) (by rw [core, step]) (by rw [pc, State.breakAt_setPc]; exact free)
  rw [goesOn, core]
  rfl

theorem State.coreNext_eq {x y : CoreRun} {dest : Nat}
    (flow : CoreRun.sequential { x with cycles := x.cycles + 1 } (s.fld PROBE_PC c) = (y, dest)) (lt : dest < 16384)
    (pend : y.haltPend = false) (step : y.stepping = false) (free : s.breakAt c dest = false) :
    s.coreNext c x = s.coreAt c y dest := by
  unfold State.coreNext State.finishProbe
  simp only [flow]
  rw [if_neg (Nat.not_le.2 lt), State.boundary_coreAt lt pend step free]

theorem State.coreJump_eq {x : CoreRun} {dest : Nat} (cycles : Nat) (lt : dest < 16384) (pend : x.haltPend = false)
    (step : x.stepping = false) (free : s.breakAt c dest = false) :
    s.coreJump c x dest cycles = s.coreAt c { x with cycles := x.cycles + cycles } dest :=
  (if_neg (Nat.not_le.2 lt)).trans (State.boundary_coreAt lt pend step free)

theorem State.coreAt_shows (x : CoreRun) {dest : Nat} (lt : dest < 16384) :
    (s.coreAt c x dest).fld PROBE_PC c = dest ∧ (s.coreAt c x dest).fld PROBE_STATE c = s.fld PROBE_STATE c ∧
      (s.coreAt c x dest).core c = { x with skipBreak := false } :=
  ⟨(State.fld_setFld_self _ _ _ _ _).trans (Nat.mod_eq_of_lt lt), State.fld_setFld_other _ (by rfl) (by decide) _ _,
    State.core_setCore _ _ _⟩

/-! ### HALT, RET and the loops (R407, R411) -/

theorem State.halted_shows (x : CoreRun) (pc : Nat) :
    let t := s.finishProbe c pc (.done x)
    t.fld PROBE_STATE c = coreWaiting ∧ t.fld PROBE_CYCLES_LAST c = (x.cycles + 1) % 2 ^ 32 ∧
      t.core c = { x with
        loop0 := {}, loop1 := {}, stack := [], cycles := 0, skipBreak := false
        haltPend := x.haltPend || x.stepping, haltCause := if x.stepping then x.haltCause ||| 8 else x.haltCause
        stepping := false } := by
  refine ⟨State.fld_setFld_self _ _ _ _ _, ?_, State.core_setCore _ _ _⟩
  exact (State.fld_setFld_other _ (by rfl) (by decide) _ _).trans (State.fld_setFld_self _ _ _ _ _)

theorem semRet_pops {w pc t : Nat} {x : CoreRun} {rest : List Nat} (stack : x.stack = rest ++ [t]) :
    semRet s c w pc x = .jump s { x with stack := rest } t 2 := by
  unfold semRet
  simp [stack]

variable {w pc count : Nat} {x : CoreRun}

theorem startProbeLoop_skips (after : pc < bitField w 10 14) (none : count = 0) :
    startProbeLoop s w pc count x = .jump s x (bitField w 10 14 + 1) 1 :=
  (if_neg (Nat.not_lt.2 after)).trans (if_pos none)

theorem startProbeLoop_starts (after : pc < bitField w 10 14) (some : count ≠ 0) : startProbeLoop s w pc count x =
    .next s (x.startLoop (bitField w 25 1) count (pc + 1) (bitField w 10 14)) [] :=
  (if_neg (Nat.not_lt.2 after)).trans (if_neg some)

end

/-- Settles O40: what each row of flow means, and where sequential flow and a transfer leave the core. -/
theorem probeFlow : Obligations.ProbeFlow := by
  intro s c
  refine ⟨fun h => probeRow_next h rfl rfl, fun h => ?_, fun h cond fits => ?_, fun h fits room => ?_,
    fun h rest t stack => probeRow_next h rfl (semRet_pops stack),
    fun h after => ⟨fun none => probeRow_next h rfl (startProbeLoop_skips after none),
      fun some => probeRow_next h rfl (startProbeLoop_starts after some)⟩,
    fun h after => ⟨fun none => probeRow_next h rfl (startProbeLoop_skips after none),
      fun some => probeRow_next h rfl (startProbeLoop_starts after some)⟩,
    fun h => probeRow_next h rfl rfl,
    fun y _ pend step => ⟨fun idle0 idle1 lt free => ?_, ?_, fun dest cycles lt free => ?_⟩⟩
  · obtain ⟨state, cycles, core⟩ := State.halted_shows (s := s) (c := c) (s.core c) (s.fld PROBE_PC c)
    refine ⟨_, probeRow_next h rfl rfl, state, cycles, ?_⟩
    rw [core]
    exact ⟨rfl, rfl, rfl, rfl, rfl, rfl, rfl, rfl, rfl, rfl, rfl, rfl, rfl, rfl, rfl, rfl⟩
  · have legal := not_or.2 ⟨cond, Nat.not_le.2 fits⟩
    exact ⟨fun holds => (br_row h).trans (probeRow_next h rfl ((if_neg legal).trans (if_pos holds))),
      fun fails => (br_row h).trans (probeRow_next h rfl ((if_neg legal).trans (if_neg (Bool.eq_false_iff.1 fails))))⟩
  · exact probeRow_next h rfl ((if_neg (Nat.not_le.2 fits)).trans (if_neg (Nat.not_le.2 room)))
  · rw [State.coreNext_eq (CoreRun.sequential_idle _ idle0 idle1) (Nat.succ_lt_succ lt) pend step free]
    exact State.coreAt_shows _ (Nat.succ_lt_succ lt)
  · intro active last _ later lt free left
    rw [State.coreNext_eq (CoreRun.sequential_repeats active last later left) lt pend step free]
    obtain ⟨pc, _, core⟩ := State.coreAt_shows (s := s) (c := c) _ lt
    exact ⟨pc, congrArg (·.loop0.count) core⟩
  · rw [State.coreJump_eq cycles lt pend step free]
    obtain ⟨pc, _, core⟩ := State.coreAt_shows (s := s) (c := c) _ lt
    exact ⟨pc, core⟩

end Sys2Proof.Machine

/-! # Proofs: POST writes the results that the PROBE block shows -/

namespace Sys2Proof.Machine
open Reg

/-! ### POST and the result registers (R425, R429) -/

/-- A field of the results of core c: above those that the end of an instruction writes, and below the windows. -/
def Field.isResult (f : Field) (j : Nat) : Prop :=
  f.s1 = 0x400 ∧ 0xB0040 ≤ f.base + j * f.s2 ∧ f.base + j * f.s2 < 0xB0080 ∧ f.lo < 32

/-- R540: at the end of an instruction the core halts, or only lets the next breakpoint hold. -/
theorem State.boundary_cases (s : State) (c : Nat) (touched : List (Nat × Bool)) :
    (∃ cause, s.boundary c touched = s.enterDebug c cause) ∨
      s.boundary c touched = s.setCore c { s.core c with skipBreak := false } := by
  unfold State.boundary
  exact (Classical.em _).imp (fun halts => ⟨_, if_pos halts⟩) (fun runs => if_neg runs)

section
variable {f : Field} {j : Nat} {c : Fin 32} (res : f.isResult j)
include res

theorem Field.isResult.key_eq (k : Nat) : ∃ n, 8 * 0xB0040 ≤ n ∧ n < 8 * 0xB0100 ∧ f.key k j = n + 0x2000 * k := by
  obtain ⟨stride, low, high, lo⟩ := res
  refine ⟨8 * (f.base + j * f.s2) + f.lo, by omega, by omega, ?_⟩
  unfold Field.key Field.off
  rw [stride]
  omega

/-- The end of an instruction writes no result. -/
theorem State.fld_setFld_result (s : State) {g : Field} (own : g.s1 = 0x400 ∧ g.base + 4 ≤ 0xB0040 ∧ g.lo < 32) (v : Nat) :
    (s.setFld g v c).fld f c j = s.fld f c j := by
  obtain ⟨n, low, _, key⟩ := res.key_eq c
  obtain ⟨stride, base, lo⟩ := own
  refine State.fld_setFld_ne _ _ _ _ _ _ _ _ ?_
  rw [key]
  unfold Field.key Field.off
  rw [stride]
  omega

theorem State.fld_setFld_dbgc_result (s : State) {g : Field} (dbg : 0x10000000 ≤ g.base) (v : Nat) :
    (s.setFld g v 0 c).fld f c j = s.fld f c j := by
  obtain ⟨n, _, high, key⟩ := res.key_eq c
  refine State.fld_setFld_ne _ _ _ _ _ _ _ _ ?_
  rw [key]
  unfold Field.key Field.off
  omega

theorem State.result_probeFault (s : State) (pc cause : Nat) : (s.probeFault c pc cause).fld f c j = s.fld f c j := by
  have notRaised : raiseKey (f.key c j) = false := by
    obtain ⟨n, low, _, key⟩ := res.key_eq c
    simp only [raiseKey, Bool.or_eq_false_iff, Bool.and_eq_false_iff, decide_eq_false_iff_not]
    omega
  unfold State.probeFault
  exact (fld_raise _ _ _ _ _ _ (by decide) notRaised).trans ((State.fld_setFld_result res _ (by decide) _).trans
    ((State.fld_setFld_result res _ (by decide) _).trans (State.fld_setFld_result res _ (by decide) _)))

theorem State.result_enterDebug (s : State) (cause : Nat) : (s.enterDebug c cause).fld f c j = s.fld f c j := by
  unfold State.enterDebug
  exact (State.fld_setFld_dbgc_result res _ (by decide) _).trans
    ((State.fld_setFld_dbgc_result res _ (by decide) _).trans (State.fld_setFld_result res _ (by decide) _))

theorem State.result_boundary (s : State) (touched : List (Nat × Bool)) : (s.boundary c touched).fld f c j = s.fld f c j := by
  rcases s.boundary_cases c touched with ⟨cause, halts⟩ | goesOn
  · rw [halts]
    exact State.result_enterDebug res _ _
  · rw [goesOn]
    rfl

theorem State.result_finishProbe (s t : State) (x : CoreRun) (pc : Nat) :
    (s.finishProbe c pc (.next t x [])).fld f c j = t.fld f c j := by
  unfold State.finishProbe
  dsimp only
  split
  · exact State.result_probeFault res _ _ _
  · exact (State.result_boundary res _ _).trans (State.fld_setFld_result res _ (by decide) _)

end

theorem resEven_isResult {j : Nat} (hj : j < 8) : PROBE_RES_EVEN.isResult j :=
  ⟨rfl, by show _ ≤ 0xB0040 + j * 4; omega, by show 0xB0040 + j * 4 < _; omega, by decide⟩

theorem resOdd_isResult {j : Nat} (hj : j < 8) : PROBE_RES_ODD.isResult j :=
  ⟨rfl, by show _ ≤ 0xB0040 + j * 4; omega, by show 0xB0040 + j * 4 < _; omega, by decide⟩

theorem resK_isResult : PROBE_RES_K.isResult 0 := ⟨rfl, by decide, by decide, by decide⟩

theorem resEven_key (c j : Nat) : PROBE_RES_EVEN.key c j = 8 * 0xB0040 + 0x2000 * c + 32 * j := by
  simp only [Field.key, Field.off, PROBE_RES_EVEN]; omega

theorem resOdd_key (c j : Nat) : PROBE_RES_ODD.key c j = 8 * 0xB0040 + 0x2000 * c + 32 * j + 16 := by
  simp only [Field.key, Field.off, PROBE_RES_ODD]; omega

theorem resK_key (c : Nat) : PROBE_RES_K.key c 0 = 8 * 0xB0060 + 0x2000 * c := by
  simp only [Field.key, Field.off, PROBE_RES_K]; omega

/-- What POST writes: result register r and RES_K. -/
def State.withResult (s : State) (c r v k : Nat) : State :=
  (s.setFld (if r % 2 = 0 then PROBE_RES_EVEN else PROBE_RES_ODD) v c (r / 2)).setFld PROBE_RES_K k c

section
variable (s : State) (c r v k : Nat) {j : Nat}

theorem State.even_withResult (hj : j < 8) : (s.withResult c r v k).fld PROBE_RES_EVEN c j =
    if r = 2 * j then v % 2 ^ 16 else s.fld PROBE_RES_EVEN c j := by
  refine (State.fld_setFld_ne _ _ _ _ _ _ _ _ (by rw [resEven_key, resK_key]; omega)).trans ?_
  by_cases this : r = 2 * j
  · rw [if_pos this, if_pos (by omega), show r / 2 = j by omega]
    exact State.fld_setFld_self _ _ _ _ _
  · rw [if_neg this]
    refine State.fld_setFld_ne _ _ _ _ _ _ _ _ ?_
    split
    · rw [resEven_key, resEven_key]; omega
    · rw [resOdd_key, resEven_key]; omega

theorem State.odd_withResult : (s.withResult c r v k).fld PROBE_RES_ODD c j =
    if r = 2 * j + 1 then v % 2 ^ 16 else s.fld PROBE_RES_ODD c j := by
  refine (State.fld_setFld_ne _ _ _ _ _ _ _ _ (by rw [resOdd_key, resK_key]; omega)).trans ?_
  by_cases this : r = 2 * j + 1
  · rw [if_pos this, if_neg (by omega), show r / 2 = j by omega]
    exact State.fld_setFld_self _ _ _ _ _
  · rw [if_neg this]
    refine State.fld_setFld_ne _ _ _ _ _ _ _ _ ?_
    split
    · rw [resEven_key, resOdd_key]; omega
    · rw [resOdd_key, resOdd_key]; omega

end

/-! ### Reads of the PROBE block (R429) -/

/-- A field that every core has, within its own span. -/
def Field.ofCores (f : Field) : Prop :=
  f.s1 = 0x400 ∧ f.n1 = 32 ∧ 0xB0000 ≤ f.base ∧ f.base < 0xB0400 ∧ f.base + f.n2 * f.s2 ≤ 0xB0400 ∧
    ∀ i < 32, f.only i = true

theorem probeFields_ofCores : ∀ f ∈ Blk.probe.fields, f.ofCores := by
  unfold Field.ofCores
  decide

/-- The register of core c at a place holds the fields of core 0's register at that place. -/
theorem Field.at?_core {f : Field} (all : f.ofCores) {c rel : Nat} (hc : c < 32) (hr : rel < 0x400) :
    f.at? (0xB0000 + 0x400 * c + rel) = (f.at? (0xB0000 + rel)).map fun ij => (c, ij.2) := by
  obtain ⟨s1, n1, low, high, room, only⟩ := all
  unfold Field.at?
  rw [s1, n1]
  by_cases before : 0xB0000 + rel < f.base
  · rw [if_pos before]
    by_cases first : 0xB0000 + 0x400 * c + rel < f.base
    · exact if_pos first
    · have place : (0xB0000 + 0x400 * c + rel - f.base) % 0x400 = 0xB0400 + rel - f.base := by omega
      have outside : ¬((0xB0400 + rel - f.base) % f.s2 = 0 ∧ (0xB0400 + rel - f.base) / f.s2 < f.n2) := by
        rintro ⟨whole, lt⟩
        rcases Nat.eq_zero_or_pos f.s2 with none | pos
        · rw [none, Nat.mod_zero] at whole
          omega
        · have := (Nat.div_lt_iff_lt_mul pos).1 lt
          omega
      rw [if_neg first]
      simp only [place]
      exact if_neg fun h => outside ⟨h.1, h.2.2.1⟩
  · have copy : (0xB0000 + 0x400 * c + rel - f.base) / 0x400 = c := by omega
    have copy0 : (0xB0000 + rel - f.base) / 0x400 = 0 := by omega
    have place : (0xB0000 + 0x400 * c + rel - f.base) % 0x400 = (0xB0000 + rel - f.base) % 0x400 := by omega
    rw [if_neg before, if_neg (by omega)]
    simp only [copy, copy0, place, only c hc, only 0 (by decide), hc, Nat.zero_lt_succ, true_and, and_true]
    split <;> rfl

/-- Core Lean has no such lemma, and the proofs are also built without Mathlib. -/
theorem filterMap_eq_of_mem {α β : Type} {f g : α → Option β} {l : List α} (same : ∀ x ∈ l, f x = g x) :
    l.filterMap f = l.filterMap g := by
  induction l with
  | nil => rfl
  | cons a l ih =>
    rw [List.filterMap_cons, List.filterMap_cons, same a List.mem_cons_self, ih fun x mem => same x (.tail a mem)]

theorem probe_at?_core {c rel : Nat} (hc : c < 32) (hr : rel < 0x400) :
    Blk.probe.at? (0xB0000 + 0x400 * c + rel) = (Blk.probe.at? (0xB0000 + rel)).map fun x => (x.1, c, x.2.2) := by
  unfold Blk.at?
  rw [List.map_filterMap]
  refine filterMap_eq_of_mem fun f mem => ?_
  rw [Field.at?_core (probeFields_ofCores f mem) hc hr, Option.map_map, Option.map_map]
  rfl

theorem result_fields : ∀ j : Fin 8, Blk.probe.at? (0xB0000 + (0x40 + 4 * j.val)) =
    [(PROBE_RES_EVEN, 0, j.val), (PROBE_RES_ODD, 0, j.val)]
  | 0 | 1 | 2 | 3 | 4 | 5 | 6 | 7 => rfl

theorem resK_fields : Blk.probe.at? (0xB0000 + 0x60) = [(PROBE_RES_K, 0, 0)] := rfl

/-- No result is worked out when it is read. -/
theorem State.readFld_result (s : State) {f : Field} (result : f = PROBE_RES_EVEN ∨ f = PROBE_RES_ODD ∨ f = PROBE_RES_K)
    (i j : Nat) : s.readFld f i j = s.fld f i j := by
  have plain : f.ty ≠ .wo ∧ allViews.find? (fun v => v.1.base == f.base && v.1.lo == f.lo) = none := by
    rcases result with rfl | rfl | rfl <;> exact ⟨by decide, rfl⟩
  unfold State.readFld
  rw [if_neg plain.1, plain.2]

section
variable (s : State) {c : Nat} (hc : c < 32)
include hc

theorem State.readReg_probe {rel : Nat} (hr : rel < 0x400) : s.readReg (0xB0000 + 0x400 * c + rel) =
    ((Blk.probe.at? (0xB0000 + rel)).map fun x => s.readFld x.1 c x.2.2 * 2 ^ x.1.lo).sum := by
  unfold State.readReg
  rw [blockAt_probe hc (by omega) (by omega)]
  simp only
  rw [if_neg (by simp), probe_at?_core hc hr, List.map_map]
  rfl

theorem State.readReg_result {j : Nat} (hj : j < 8) : s.readReg (0xB0040 + 0x400 * c + 4 * j) =
    s.fld PROBE_RES_EVEN c j + 2 ^ 16 * s.fld PROBE_RES_ODD c j := by
  have place : 0xB0040 + 0x400 * c + 4 * j = 0xB0000 + 0x400 * c + (0x40 + 4 * j) := by omega
  rw [place, s.readReg_probe hc (by omega), result_fields ⟨j, hj⟩]
  simp only [List.map_cons, List.map_nil, List.sum_cons, List.sum_nil]
  rw [s.readFld_result (.inl rfl), s.readFld_result (.inr (.inl rfl))]
  simp only [PROBE_RES_EVEN, PROBE_RES_ODD]
  omega

theorem State.readReg_resK : s.readReg (0xB0060 + 0x400 * c) = s.fld PROBE_RES_K c := by
  have place : 0xB0060 + 0x400 * c = 0xB0000 + 0x400 * c + 0x60 := by omega
  rw [place, s.readReg_probe hc (by decide), resK_fields]
  simp only [List.map_cons, List.map_nil, List.sum_cons, List.sum_nil]
  rw [s.readFld_result (.inr (.inr rfl))]
  exact Nat.mul_one _

end

/-- Settles O43: POST writes one result and RES_K, and the end of the instruction writes none. -/
theorem postWritesResults : Obligations.PostWritesResults := by
  intro s c h x r v
  have hr : r < 16 := bitField_lt _ 0 4
  let p := s.withResult c r (x.dreg (bitField (s.probeWord c) 22 4)) x.trigK
  have even {j : Nat} (hj : j < 8) := (State.result_finishProbe (resEven_isResult hj) s p x (s.fld PROBE_PC c)).trans
    (s.even_withResult c r _ _ hj)
  have odd {j : Nat} (hj : j < 8) := (State.result_finishProbe (resOdd_isResult hj) s p x (s.fld PROBE_PC c)).trans
    (s.odd_withResult c r _ _)
  refine ⟨s.finishProbe c (s.fld PROBE_PC c) (.next p x []), probeRow_next h rfl rfl, fun isEven => ⟨?_, ?_⟩,
    fun isOdd => ⟨?_, ?_⟩, fun j hj other => ⟨?_, ?_⟩, ?_,
    State.readReg_result _ c.isLt (by omega), State.readReg_resK _ c.isLt⟩
  · exact (even (by omega)).trans (if_pos (by omega))
  · exact (odd (by omega)).trans (if_neg (by omega))
  · exact (odd (by omega)).trans (if_pos (by omega))
  · exact (even (by omega)).trans (if_neg (by omega))
  · exact (even hj).trans (if_neg (by omega))
  · exact (odd hj).trans (if_neg (by omega))
  · exact (State.result_finishProbe resK_isResult s p x _).trans (State.fld_setFld_self _ _ _ _ _)

end Sys2Proof.Machine

/-! # Proofs: ports, verdicts, triggers, fills and windows of the probe cores -/

namespace Sys2Proof.Machine
open Reg

/-! ### ANC queue ports (R421, R422) -/

section
variable {s : State} {c w pc : Nat} {x : CoreRun}

section
variable (even : bitField w 22 4 % 2 = 0)
include even

theorem semPop_unbound (unbound : s.consumed c (bitField w 0 1) = none) :
    semPop s c w pc x = .next s { x with e := true } [] := by
  unfold semPop fd
  rw [if_neg (by omega), unbound]

theorem semPop_empty {q : Nat} (bound : s.consumed c (bitField w 0 1) = some q) (empty : s.depthSeen q = 0) :
    semPop s c w pc x = .next s { x with e := true } [] := by
  unfold semPop fd
  rw [if_neg (by omega), bound]
  exact if_pos empty

theorem semPop_word {q : Nat} (bound : s.consumed c (bitField w 0 1) = some q) (holds : s.depthSeen q ≠ 0) :
    semPop s c w pc x =
      let word := s.ancWord q (s.fld ANCQ_RD_PTR q)
      .next (s.ancRead q 1) { (x.setD (fd w) word.1).setD (fd w + 1) (word.1 / 65536) with k := word.2, e := false } [] := by
  unfold semPop fd
  rw [if_neg (by omega), bound]
  exact if_neg holds

end

theorem pushNow_unbound (unbound : s.produced c (bitField w 0 1) = none) : pushNow s c w x = .next s { x with f := true } [] := by
  unfold pushNow
  rw [unbound]

theorem pushNow_bound {q : Nat} (bound : s.produced c (bitField w 0 1) = some q) : pushNow s c w x =
    .next (s.ancPush q (x.dreg (fd w) + 65536 * x.dreg (fd w + 1)) (bitAt w 1)) { x with f := false } [] := by
  unfold pushNow
  rw [bound] <;> rfl

section
variable (even : bitField w 22 4 % 2 = 0)
include even

theorem semPush_unbound (unbound : s.produced c (bitField w 0 1) = none) :
    semPush s c w pc x = .next s { x with f := true } [] := by
  unfold semPush fd
  rw [if_neg (by omega), unbound]
  exact pushNow_unbound unbound

theorem semPush_waits {q : Nat} (bound : s.produced c (bitField w 0 1) = some q) (waits : s.pushWaits q = true) :
    semPush s c w pc x = .stall (s.addFld ANCQ_STALLS 1 q) := by
  unfold semPush fd
  rw [if_neg (by omega), bound]
  exact if_pos waits

theorem semPush_enters {q : Nat} (bound : s.produced c (bitField w 0 1) = some q) (room : s.pushWaits q = false) :
    semPush s c w pc x =
      .next (s.ancPush q (x.dreg (fd w) + 65536 * x.dreg (fd w + 1)) (bitAt w 1)) { x with f := false } [] := by
  unfold semPush fd
  rw [if_neg (by omega), bound]
  exact (if_neg (Bool.eq_false_iff.1 room)).trans (pushNow_bound bound)

end

section
variable {q : Nat} (bound : s.consumed c (bitField w 0 1) = some q)

theorem semQctl_unbound (unbound : s.consumed c (bitField w 0 1) = none) (listed : bitField w 1 2 ≠ 3) :
    semQctl s c w pc x = .next s { x with f := false } [] := by
  unfold semQctl
  rw [if_neg listed, unbound]

include bound

theorem semQctl_mark (act : bitField w 1 2 = 0) : semQctl s c w pc x = .next (s.ancMark q) { x with f := false } [] := by
  unfold semQctl
  rw [bound, act]
  rfl

theorem semQctl_release (act : bitField w 1 2 = 2) :
    semQctl s c w pc x = .next (s.ancRelease q) { x with f := false } [] := by
  unfold semQctl
  rw [bound, act]
  rfl

theorem semQctl_rewind (act : bitField w 1 2 = 1) {t : State} (marked : s.ancRewind q = some t) :
    semQctl s c w pc x = .next t { x with f := false } [] := by
  unfold semQctl
  simp only [bound, act, marked]
  rfl

theorem semQctl_lost (act : bitField w 1 2 = 1) (lost : s.ancRewind q = none) :
    semQctl s c w pc x = .next s { x with f := true } [] := by
  unfold semQctl
  simp only [bound, act, lost]
  rfl

end

end

/-! ### A stalled PUSH (R422) -/

theorem State.portQueue_lt {s : State} {c port q : Nat} (named : s.portQueue c port = some q) : q < 256 := by
  unfold State.portQueue at named
  split at named <;> split at named
  · exact Option.some.inj named ▸ s.fld_lt PROBE_PORT0_Q c 0
  · exact nomatch named
  · exact Option.some.inj named ▸ s.fld_lt PROBE_PORT1_Q c 0
  · exact nomatch named

section
variable (s : State) (v c : Nat)

theorem State.portQueue_setState (port : Nat) : (s.setFld PROBE_STATE v c).portQueue c port = s.portQueue c port := by
  unfold State.portQueue State.fldOn
  rw [s.fld_setFld_other (f := PROBE_STATE) (g := PROBE_PORT0_EN) rfl (by decide),
    s.fld_setFld_other (f := PROBE_STATE) (g := PROBE_PORT0_Q) rfl (by decide),
    s.fld_setFld_other (f := PROBE_STATE) (g := PROBE_PORT1_EN) rfl (by decide),
    s.fld_setFld_other (f := PROBE_STATE) (g := PROBE_PORT1_Q) rfl (by decide)]

/-- The queues' registers stand below those of the cores. -/
theorem State.fld_ancq_setState {f : Field} (queues : f.s1 = 0x40 ∧ f.base < 0xA0040 ∧ f.lo < 32) {q : Nat} (hq : q < 256) :
    (s.setFld PROBE_STATE v c).fld f q = s.fld f q := by
  obtain ⟨stride, base, lo⟩ := queues
  refine State.fld_setFld_ne _ _ _ _ _ _ _ _ ?_
  have stateKey : PROBE_STATE.key c 0 = 8 * (0xB0000 + c * 0x400 + 0) + 0 := by simp [Field.key, Field.off, PROBE_STATE]
  rw [stateKey]
  unfold Field.key Field.off
  rw [stride]
  omega

theorem State.produced_setState (port : Nat) : (s.setFld PROBE_STATE v c).produced c port = s.produced c port := by
  unfold State.produced
  rw [s.portQueue_setState v c port]
  cases named : s.portQueue c port with
  | none => rfl
  | some q =>
    have lt := State.portQueue_lt named
    unfold State.fldOn
    simp only [s.fld_ancq_setState v c (f := ANCQ_EN) (by decide) lt,
      s.fld_ancq_setState v c (f := ANCQ_PROD_EN) (by decide) lt, s.fld_ancq_setState v c (f := ANCQ_PROD_CORE) (by decide) lt]

end

theorem pushResume_completes {s : State} {c : Fin 32} {q : Nat} (stalled : s.fld PROBE_STATE c = coreStalled)
    (bound : s.produced c (bitField (s.probeWord c) 0 1) = some q) (room : s.pushWaits q = false) :
    let x := s.core c
    let w := s.probeWord c
    let t := s.setFld PROBE_STATE coreRunning c
    exec (.pushResume c) s = .next (t.finishProbe c (t.fld PROBE_PC c)
      (.next (t.ancPush q (x.dreg (fd w) + 65536 * x.dreg (fd w + 1)) (bitAt w 1))
        { x with cycles := x.cycles + (s.time.grid - x.stallFrom), f := false } [])) := by
  have bound' := (s.produced_setState coreRunning c _).trans bound
  rw [exec_pushResume, execPushResume]
  simp only [stalled, bound, room, ne_eq, not_true_eq_false, Bool.false_eq_true, or_self, if_false]
  rw [pushNow_bound bound']
  rfl

/-! ### Verdicts (R426) -/

section
variable {s : State} {c w pc : Nat} {x : CoreRun} (listed : bitField w 2 2 = 1 ∨ bitField w 2 2 = 2)
include listed

theorem semVrd_noSlot (noSlot : (Tab.get {} x.wins (bitField w 0 2) : TapWin).slot = none) :
    semVrd s c w pc x = .next (s.addFld PROBE_VRD_LOST 1 c) { x with f := true } [] := by
  unfold semVrd
  rw [if_neg (by omega)]
  simp only [noSlot]

theorem semVrd_judges {ref : SlotRef} (slot : (Tab.get {} x.wins (bitField w 0 2) : TapWin).slot = some ref)
    (video : (Tab.get {} x.wins (bitField w 0 2) : TapWin).words.getD 0 0 = 1)
    (ok : s.fld WIN_WSTAT c (bitField w 0 2) % 8 = 1) (may : s.mayJudge c ref.src = true)
    (held : (s.slotAt ref).isSome = true) : semVrd s c w pc x =
      .next ((s.updSlot ref fun y => { y with verdict := mergeVerdict y.verdict (bitField w 2 2) }).addFld
        (if bitField w 2 2 = 1 then PROBE_VRD_PASS else PROBE_VRD_FAIL) 1 c) { x with f := false } [] := by
  unfold semVrd
  rw [if_neg (by omega)]
  simp only [slot]
  exact if_pos ⟨video, ok, may, held⟩

end

/-! ### Triggers and fills (R406, R407, R540) -/

section
variable {p : State} {c : Nat}

theorem State.triggerToken_none (none : p.triggerDue c = none) : p.triggerToken c = p := by
  unfold State.triggerToken
  rw [none]

variable {k : Nat} {at' : Int} (due : p.triggerDue c = some (k, at'))

/-- Core c with the trigger of a frame taken note of. -/
def State.noteTrigger (p : State) (c k : Nat) : State := p.setCore c { p.core c with lastTrig := p.trigMark c (k + 1) }

include due

theorem State.triggerToken_off (off : p.fld PROBE_STATE c = coreStopped ∨ p.fld PROBE_STATE c = coreFault) :
    p.triggerToken c = p.noteTrigger c k := by
  unfold State.triggerToken
  rw [due]
  exact if_pos (.inr off)

variable (free : p.coreHeld c = false)
include free

theorem State.triggerToken_starts (waiting : p.fld PROBE_STATE c = coreWaiting) : p.triggerToken c =
    let t := p.noteTrigger c k
    let u := t.setCore c { t.core c with trigK := k, trigAt := at'.toNat }
    ((u.setFld PROBE_STATE coreFilling c).addFld PROBE_TRIGGERS 1 c).upTo 4 (fun s i => s.fillWindow c i) := by
  have on : ¬(p.coreHeld c = true ∨ p.fld PROBE_STATE c = coreStopped ∨ p.fld PROBE_STATE c = coreFault) := by
    rw [free, waiting]
    decide
  unfold State.triggerToken
  rw [due]
  exact (if_neg on).trans (if_pos waiting)

theorem State.triggerToken_overruns (busy : p.fld PROBE_STATE c = coreFilling ∨ p.fld PROBE_STATE c = coreRunning ∨
      p.fld PROBE_STATE c = coreStalled ∨ p.fld PROBE_STATE c = coreDebug) (raised : (p.core c).lastOverrun ≠ 0)
    (recent : p.time.grid + 1 < (p.core c).lastOverrun + 10 ^ 9) :
    p.triggerToken c = (p.noteTrigger c k).addFld PROBE_OVERRUNS 1 c := by
  have on : ¬(p.coreHeld c = true ∨ p.fld PROBE_STATE c = coreStopped ∨ p.fld PROBE_STATE c = coreFault) ∧
      p.fld PROBE_STATE c ≠ coreWaiting := by
    rw [free]
    rcases busy with busy | busy | busy | busy <;> rw [busy] <;> decide
  have core : ((p.noteTrigger c k).addFld PROBE_OVERRUNS 1 c).core c = { p.core c with lastTrig := p.trigMark c (k + 1) } :=
    State.core_setCore _ _ _
  unfold State.triggerToken
  rw [due]
  refine (if_neg on.1).trans ((if_neg on.2).trans (if_neg ?_))
  change ¬((((p.noteTrigger c k).addFld PROBE_OVERRUNS 1 c).core c).lastOverrun = 0 ∨
    (((p.noteTrigger c k).addFld PROBE_OVERRUNS 1 c).core c).lastOverrun - 1 + 10 ^ 9 ≤ p.time.grid)
  rw [core]
  simp only
  omega

end

/-- Core c at its entry, with the cycles of a new trigger. -/
def State.entered (t : State) (c : Nat) : State :=
  let u := (t.setFld PROBE_STATE coreRunning c).setFld PROBE_PC (t.fld PROBE_ENTRY c) c
  u.setCore c { u.core c with cycles := 0 }

theorem probeFillDone_starts {s t : State} {c : Fin 32} (filling : s.fld PROBE_STATE c = coreFilling)
    (filled : s.upTo 4 (fun s i => s.endFill c i) = t) (pend : (t.core c).haltPend = false)
    (free : (t.entered c).breakAt c ((t.entered c).fld PROBE_PC c) = false)
    (entry : (t.entered c).fldOn DBGC_HALT_ON_ENTRY 0 c = false) :
    exec (.probeFillDone c) s = .next (t.entered c) := by
  rw [exec_probeFillDone, execProbeFillDone, if_neg (not_not_intro filling), filled]
  have runs : ¬((t.core c).haltPend = true ∨ ((if (t.core c).haltPend then (t.core c).haltCause else 0) |||
      2 * bit ((t.entered c).breakAt c ((t.entered c).fld PROBE_PC c))) ≠ 0 ∨
        (t.entered c).fldOn DBGC_HALT_ON_ENTRY 0 c = true) := by
    rw [pend, free, entry]
    simp [bit]
  exact congrArg _ (if_neg runs)

/-! ### Window writes (R417) -/

theorem State.regWrite_window (s : State) (w v : Nat) (c : Fin 32) (win : Fin 4) (n : Fin 6) :
    s.regWrite w (0xB0080 + 0x400 * c + 0x20 * win + 4 * n) v = s.writeWindow c win n v := by
  have rel : 0xB0080 + 0x400 * c.val + 0x20 * win.val + 4 * n.val - 0xB0000 - 0x400 * c.val =
      0x80 + 0x20 * win.val + 4 * n.val := by omega
  have window : (0x80 + 0x20 * win.val + 4 * n.val - 0x80) / 0x20 = win := by omega
  have word : (0x80 + 0x20 * win.val + 4 * n.val) % 0x20 / 4 = n := by omega
  unfold State.regWrite
  rw [blockAt_probe c.isLt (by omega) (by omega)]
  simp only [rel]
  unfold State.writeProbe
  rw [if_pos (by omega), if_pos (by omega), window, word]

theorem probeWindowWrite_effect {s : State} {w : Fin 8} {c : Fin 32} {win : Fin 4} {n : Fin 6} (val : Word)
    (h : s.writable w (0xB0000 + 0x400 * c + 0x80 + 0x20 * win + 4 * n)) :
    exec (.probeWindowWrite w c win n val) s = .next ((s.writeWindow c win n val.toNat).disarmed w) := by
  rw [show 0xB0000 + 0x400 * c.val + 0x80 = 0xB0080 + 0x400 * c.val by omega] at h
  exact write32_word h (by omega) (s.regWrite_window w _ c win n)

/-- Settles O42: each row by what its port, window or queue says, and a trigger by the state that it finds the core in. -/
theorem probePortsAndCycles : Obligations.ProbePortsAndCycles := by
  intro s c
  refine ⟨fun h even => ⟨fun unbound => probeRow_next h rfl (semPop_unbound even unbound), fun q bound =>
      ⟨fun empty => probeRow_next h rfl (semPop_empty even bound empty),
        fun holds => probeRow_next h rfl (semPop_word even bound holds)⟩⟩,
    fun h even => ⟨fun unbound => probeRow_next h rfl (semPush_unbound even unbound), fun q bound =>
      ⟨fun waits => probeRow_next h rfl (semPush_waits even bound waits),
        fun room => probeRow_next h rfl (semPush_enters even bound room)⟩⟩,
    fun stalled q bound room => pushResume_completes stalled bound room,
    fun h => ⟨fun unbound listed => probeRow_next h rfl (semQctl_unbound unbound listed), fun q bound =>
      ⟨fun act => probeRow_next h rfl (semQctl_mark bound act), fun act => probeRow_next h rfl (semQctl_release bound act),
        fun act t marked => probeRow_next h rfl (semQctl_rewind bound act marked),
        fun act lost => probeRow_next h rfl (semQctl_lost bound act lost)⟩⟩,
    fun h => probeRow_next h rfl rfl, ?_, fun h even => probeRow_next h rfl (if_neg (by unfold fd; omega)), ?_,
    fun filling pend free entry => probeFillDone_starts filling rfl pend free entry,
    fun wr win n val writable => probeWindowWrite_effect val writable⟩
  · rintro h v rfl listed
    exact ⟨fun noSlot => probeRow_next h rfl (semVrd_noSlot listed noSlot),
      fun ref slot video ok may held => probeRow_next h rfl (semVrd_judges listed slot video ok may held)⟩
  · exact ⟨fun none => congrArg Host.Outcome.next (State.triggerToken_none none), fun k at' due free =>
      ⟨fun off => congrArg Host.Outcome.next (State.triggerToken_off due off),
        fun waiting => congrArg Host.Outcome.next (State.triggerToken_starts due free waiting),
        fun busy raised recent => congrArg Host.Outcome.next (State.triggerToken_overruns due free busy raised recent)⟩⟩

end Sys2Proof.Machine

/-! # Proofs: the step, the roles of a pair, its messages and its events -/

namespace Sys2Proof.Machine
open Reg

/-- Settles O1: the step looks only at the front of the queue. -/
theorem stepRunsFront : Obligations.StepRunsFront := by
  refine ⟨fun s c rest waiting => ?_, fun s empty => ?_⟩
  · unfold step
    rw [waiting]
  · unfold step
    rw [empty]

/-! ### Entering a role (R431, R434, R435) -/

/-- The register fields that say the role of the device, and its pins. -/
def State.roleShown (s : State) (r cause : Nat) : State :=
  (((s.setFld CWAY_ROLE_STATE r).setFld CWAY_HELD_CAUSE (if r = Role.HELD then cause else 0)).setFld CWAY_TOKEN_OUT_A
    (bit (r == Role.SOLO || r == Role.ACTIVE))).when (r == Role.SAFE)
      (fun s => (s.setFld CWAY_PF_DRIVE 1).setFld CWAY_PF_LINE 1)

/-- Beside what it shows, entering a role writes only registers that raising PAIR_ROLE writes. -/
theorem State.fld_enterRole (s : State) (r cause : Nat) {f : Field} {i j : Nat} (kept : raiseKey (f.key i j) = false) :
    (s.enterRole r cause).fld f i j = (s.roleShown r cause).fld f i j := by
  unfold State.enterRole State.when
  dsimp only
  split
  · rw [State.fld_congr (State.send_regs_host _ _ _).1, fld_raise _ _ _ _ _ _ (by decide) kept]
    rfl
  · rw [fld_raise _ _ _ _ _ _ (by decide) kept]
    rfl

section
variable (s : State) (r cause : Nat)

theorem State.role_enterRole (hr : r < 7) : (s.enterRole r cause).role = r := by
  have shown : (s.roleShown r cause).fld CWAY_ROLE_STATE = r := by
    unfold State.roleShown
    rw [State.fld_when, State.fld_setFld_ne _ _ _ _ _ _ _ _ (by decide), State.fld_setFld_ne _ _ _ _ _ _ _ _ (by decide),
      State.fld_setFld_self]
    · exact Nat.mod_eq_of_lt (by show r < 8; omega)
    · rw [State.fld_setFld_ne _ _ _ _ _ _ _ _ (by decide), State.fld_setFld_ne _ _ _ _ _ _ _ _ (by decide)]
  exact (s.fld_enterRole r cause (by decide)).trans shown

theorem State.heldCause_enterRole (hc : cause < 16) :
    (s.enterRole r cause).fld CWAY_HELD_CAUSE = if r = Role.HELD then cause else 0 := by
  rw [s.fld_enterRole r cause (by decide)]
  unfold State.roleShown
  rw [State.fld_when, State.fld_setFld_ne _ _ _ _ _ _ _ _ (by decide), State.fld_setFld_self]
  · refine Nat.mod_eq_of_lt ?_
    show _ < 16
    split <;> omega
  · rw [State.fld_setFld_ne _ _ _ _ _ _ _ _ (by decide), State.fld_setFld_ne _ _ _ _ _ _ _ _ (by decide)]

theorem State.tokenOut_enterRole : (s.enterRole r cause).fldOn CWAY_TOKEN_OUT_A = (r == Role.SOLO || r == Role.ACTIVE) := by
  unfold State.fldOn
  rw [s.fld_enterRole r cause (by decide)]
  unfold State.roleShown
  rw [State.fld_when, State.fld_setFld_self]
  · cases r == Role.SOLO || r == Role.ACTIVE <;> rfl
  · rw [State.fld_setFld_ne _ _ _ _ _ _ _ _ (by decide), State.fld_setFld_ne _ _ _ _ _ _ _ _ (by decide)]

theorem State.pairFault_enterRole_safe : (s.enterRole Role.SAFE cause).fldOn CWAY_PF_DRIVE = true := by
  unfold State.fldOn
  rw [s.fld_enterRole _ cause (by decide)]
  unfold State.roleShown
  rw [beq_self_eq_true, State.when_true, State.fld_setFld_ne _ _ _ _ _ _ _ _ (by decide), State.fld_setFld_self]
  rfl

theorem State.pairFault_enterRole (other : r ≠ Role.SAFE) :
    (s.enterRole r cause).fld CWAY_PF_DRIVE = s.fld CWAY_PF_DRIVE := by
  rw [s.fld_enterRole _ cause (by decide)]
  unfold State.roleShown
  rw [beq_eq_false_iff_ne.2 other, State.when_false, State.fld_setFld_ne _ _ _ _ _ _ _ _ (by decide),
    State.fld_setFld_ne _ _ _ _ _ _ _ _ (by decide), State.fld_setFld_ne _ _ _ _ _ _ _ _ (by decide)]

end

/-- Settles O47: the pins and the role are shown together, and neither PAIR_ROLE nor ROLE touches them. -/
theorem tokenFollowsTheRole : Obligations.TokenFollowsTheRole := by
  intro s r cause hr hc
  have token := s.tokenOut_enterRole r cause
  refine ⟨s.role_enterRole r cause hr, s.heldCause_enterRole r cause hc, ?_, ?_, ?_, s.pairFault_enterRole r cause⟩
  · rw [token]
    simp
  · unfold State.isActive
    rw [s.role_enterRole r cause hr, token]
  · rintro rfl
    exact s.pairFault_enterRole_safe cause

/-! ### What a device that is not active refuses (R438) -/

/-- A device that is not active processes only the opcodes of `followerOps`. -/
theorem processWhen_inactive {s : State} {e op : Nat} {r : Request} (inactive : s.isActive = false)
    (held : s.holding e op = some r) {ok : Request → Bool} (hok : ok r = true) (changes : followerOps.contains op = false)
    (f : State → Request → State × Done) : s.processWhen e op ok f = s.finish e r St.STATE 0 0 0 := by
  unfold State.processWhen
  simp only [held, hok, inactive, changes]
  rfl

theorem State.writeBar_mirrored_inactive {s : State} (inactive : s.isActive = false) (w : Nat) {off : Nat}
    (mirrored : mirroredAt off = true) (aligned : off % 4 = 0) (mapped : s.mapped off = true) :
    s.writeBar w off 4 = some (.denied off) := by
  obtain ⟨b, i, at', isMirrored⟩ := mirroredAt_block mirrored
  have self : off / 4 * 4 = off := by omega
  have denied : s.mayWrite w off = false := by
    unfold State.mayWrite
    simp [at', inactive, isMirrored]
  unfold State.writeBar covered
  rw [if_neg (by simp [aligned]), if_neg (by decide), self]
  simp [mapped, denied]

/-- Settles O48: none of these opcodes is one that a follower processes, and the role is one of a write's checks. -/
theorem nonActiveDevicesRefuse : Obligations.NonActiveDevicesRefuse := by
  intro s inactive
  have stops {e : Fin 16} {r : Request} {op : Nat} (changes : followerOps.contains op = false) {ok : Request → Bool}
      (hok : ok r = true) (f : State → Request → State × Done) (held : s.holding e op = some r) :
      (Host.Outcome.next (s.processWhen e op ok f) : Host.Outcome State Fault Refusal) = .next (s.finish e r St.STATE 0 0 0) :=
    congrArg Host.Outcome.next (processWhen_inactive inactive held hok changes f)
  refine ⟨fun e r => ?_, fun w off => s.writeBar_mirrored_inactive inactive w⟩
  dsimp only
  refine ⟨stops rfl rfl _, stops rfl rfl _, stops rfl rfl _, stops rfl rfl _, stops rfl rfl _, stops rfl rfl _, stops rfl rfl _,
    fun h => ⟨stops rfl (by simp [h]) _, stops rfl (by simp [h]) _⟩, stops rfl rfl _, stops rfl rfl _, stops rfl rfl _,
    stops rfl rfl _, stops rfl rfl _, stops rfl rfl _, fun h => stops rfl (by simp [h]) _, fun h => stops rfl (by simp [h]) _,
    fun h => stops rfl (by simp [h]) _, fun h => stops rfl (by simp [h]) _,
    fun h => ⟨stops rfl h _, stops rfl h _⟩, stops rfl rfl _⟩

end Sys2Proof.Machine

/-! # Proofs: the messages, pins, intervals, tests and handovers of a pair -/

namespace Sys2Proof.Machine
open Reg

/-! ### What is received (R443, R457, R463) -/

section
variable {s : State} (f : State → State)

theorem State.receive_on (on : s.pairOn = true) : s.receive f = f s := if_pos on

theorem State.receive_off (off : s.pairOn = false) : s.receive f = s := if_neg (by rw [off]; decide)

theorem State.hear_on (on : s.fldOn CWAY_PAIR_EN = true) : s.hear f = f s := if_pos on

theorem State.hear_off (off : s.fldOn CWAY_PAIR_EN = false) : s.hear f = s := if_neg (by rw [off]; decide)

end

section
variable {s : State} (on : s.pairOn = true) (ws : List (BitVec 64))
include on

theorem State.followRecords_on (follows : s.follows = true) (f : State → Nat → Nat → State) :
    s.followRecords ws f = s.each (recordsOf (payload ws)) (fun s x => f s x.1 x.2) :=
  (State.receive_on _ on).trans (if_pos follows)

theorem State.recvDigests_on (compares : s.compares = true) (f : Nat → Nat → Dig) :
    s.recvDigests ws f = s.each (recordsOf (payload ws)) (fun s x => s.peerDigest (f x.1 x.2)) :=
  (State.receive_on _ on).trans (if_pos compares)

/-- A LINK_ACK acknowledges; one with the NAK bit has the rest sent again. -/
theorem linkAck_on (fl : BitVec 8) (q : BitVec 24) : exec (.linkAck fl q ws) s =
    let w := (payload ws).getD 0 0
    let t := s.acknowledge (w % 2 ^ 24)
    .next (if bitAt w 24 then t.resend else t) :=
  congrArg Host.Outcome.next (State.receive_on _ on)

end

/-- Settles O44: a message is received where the pair is on, and HELLO and HEALTH are heard wherever it is enabled. -/
theorem pairMessages : Obligations.PairMessages := by
  intro s fl q ws
  refine ⟨fun en => ⟨congrArg _ (State.hear_on _ en), congrArg _ (State.hear_on _ en)⟩,
    fun dis => ⟨congrArg _ (State.hear_off _ dis), congrArg _ (State.hear_off _ dis)⟩, fun on => ?_, fun off => ?_, rfl⟩
  · refine ⟨congrArg _ (State.receive_on _ on), congrArg _ (State.receive_on _ on), fun ack => ?_, fun nak => ?_,
      fun follows => ⟨congrArg _ (State.followRecords_on on ws follows _), congrArg _ (State.followRecords_on on ws follows _),
        congrArg _ (State.followRecords_on on ws follows _)⟩,
      fun compares => ⟨congrArg _ (State.recvDigests_on on ws compares _), congrArg _ (State.recvDigests_on on ws compares _),
        congrArg _ (State.recvDigests_on on ws compares _)⟩,
      congrArg _ (State.receive_on _ on), congrArg _ (State.receive_on _ on), congrArg _ (State.receive_on _ on),
      fun up unacked waited => if_pos ⟨on, up, unacked, waited⟩, fun due waited => if_pos ⟨on, due, waited⟩⟩
    · rw [linkAck_on on]
      exact congrArg _ (if_neg (by rw [ack]; decide))
    · rw [linkAck_on on]
      exact congrArg _ (if_pos nak)
  · exact ⟨congrArg _ (State.receive_off _ off), congrArg _ (State.receive_off _ off), congrArg _ (State.receive_off _ off),
      congrArg _ (State.receive_off _ off), congrArg _ (State.receive_off _ off)⟩

/-! ### Messages of class 3, in order (R444) -/

section
variable {s : State} {ty mseq : Nat} (f : State → State)

/-- The message that is accepted takes effect once the number expected has moved on. -/
theorem State.receive3_accepted (accepted : s.accepts3 ty mseq) : s.receive3 ty mseq f = f (s.took mseq) := by
  obtain ⟨on, next⟩ := accepted
  unfold State.receive3
  rw [if_neg (by rw [on]; decide)]
  cases sync : s.cway.rxSync
  · rw [sync, if_neg (by decide)] at next
    exact (if_neg (by decide)).trans (if_pos next)
  · rw [sync, if_pos rfl] at next
    exact (if_pos rfl).trans (if_neg (fun bars => next.elim (· bars.1) bars.2))

variable (on : s.pairOn = true) (synced : s.cway.rxSync = false)
include on synced

/-- A message that was taken before is acknowledged again. -/
theorem State.receive3_behind (behind : mseqBefore mseq s.cway.rxNext = true) :
    s.receive3 ty mseq f = s.setCway { s.cway with ackDue := true } := by
  have other : mseq ≠ s.cway.rxNext := by
    rintro rfl
    simp [mseqBefore] at behind
  unfold State.receive3
  rw [if_neg (by rw [on]; decide), if_neg (by rw [synced]; decide), if_neg other, if_pos behind]

/-- A message ahead of the number expected is answered with a NAK. -/
theorem State.receive3_ahead (other : mseq ≠ s.cway.rxNext) (ahead : mseqBefore mseq s.cway.rxNext = false) :
    s.receive3 ty mseq f = s.send Msg.LINK_ACK [s.cway.rxNext + 2 ^ 24] := by
  unfold State.receive3
  rw [if_neg (by rw [on]; decide), if_neg (by rw [synced]; decide), if_neg other, if_neg (by rw [ahead]; decide)]

end

/-- A device that follows takes the message that it accepts. -/
theorem State.followMsg_accepted {s : State} {ty : Nat} {q : BitVec 24} (follows : s.follows = true)
    (accepted : s.accepts3 ty q.toNat) (ws : List (BitVec 64)) (f : State → List Nat → State) :
    s.followMsg ty q ws f = f (s.took q.toNat) (payload ws) :=
  (State.receive3_accepted _ accepted).trans (if_pos follows)

/-- Ownership is passed only of the resources that there are. -/
theorem State.recvOwn_listed {s : State} {w : List Nat} (listed : bitField (w.getD 0 0) 0 12 < 3072) : s.recvOwn w =
    let owner := bitField (w.getD 0 0) 12 4
    (s.passTo (bitField (w.getD 0 0) 0 12) (if owner = 0 then none else some (owner - 1))).setFld OWN_SHARED
      (bitField (w.getD 0 0) 16 1) (bitField (w.getD 0 0) 0 12) :=
  if_pos listed

/-- The held writes whose instant has come are made in their order, on a standby by the message engine. -/
theorem State.applyHeld_eq (s : State) : s.applyHeld =
    let due := s.cway.held.filter (fun h => decide (h.at' ≤ s.now))
    let t := (s.setCway { s.cway with held := s.cway.held.filter (fun h => decide (s.now < h.at')) }).each due
      (fun s h => s.regWrite h.part h.off h.value)
    if due ≠ [] ∧ s.isActive = false then t.crosses 10 [0] else t := by
  unfold State.applyHeld State.when
  have role : (s.setCway { s.cway with held := s.cway.held.filter (fun h => decide (s.now < h.at')) }).isActive = s.isActive := rfl
  simp only [role, Bool.and_eq_true, Bool.not_eq_true', ← Bool.not_eq_true, List.isEmpty_iff, ne_eq]

/-- Settles O45: what a message of class 3 does is said by where its number stands to the number expected. -/
theorem pairMessagesInOrder : Obligations.PairMessagesInOrder := by
  intro s fl q ws
  refine ⟨fun follows => ⟨fun h => congrArg _ (State.followMsg_accepted follows h _ _),
      fun h => congrArg _ (State.followMsg_accepted follows h _ _), fun h => congrArg _ (State.followMsg_accepted follows h _ _),
      fun h listed => congrArg _ ((State.followMsg_accepted follows h _ _).trans (State.recvOwn_listed listed)),
      fun h => congrArg _ (State.followMsg_accepted follows h _ _), fun h => congrArg _ (State.followMsg_accepted follows h _ _),
      fun h => congrArg _ (State.followMsg_accepted follows h _ _), fun h => congrArg _ (State.followMsg_accepted follows h _ _)⟩,
    fun h active => congrArg _ ((State.receive3_accepted _ h).trans (if_pos active)),
    fun h joining => congrArg _ ((State.receive3_accepted _ h).trans (if_pos joining)),
    fun on => congrArg _ (State.receive_on _ on), congrArg _ s.applyHeld_eq,
    fun on synced => ⟨fun behind => congrArg _ (State.receive3_behind _ on synced behind),
      fun other ahead => congrArg _ (State.receive3_ahead _ on synced other ahead)⟩⟩

/-! ### Pins (R431, R432, R436, R437, R452) -/

section
variable {s : State}

section
variable (was : s.fldOn CWAY_TOKEN_IN_A = false)
include was

/-- What TOKEN_IN does when it is asserted, once it is sensed. -/
theorem tokenInAsserted_eq : exec .tokenInAsserted s =
    let t := s.setFld CWAY_TOKEN_IN_A 1
    if t.pairOn = false then .next t
    else if t.role = Role.INIT then .next t.join
    else if t.isActive = true ∧ t.exchanging = false then .next t.splitBrain
    else .next t :=
  if_neg (by rw [was]; decide)

end

section
variable (was : s.fldOn CWAY_TOKEN_IN_A = true)
include was

/-- What TOKEN_IN does when it is deasserted, once it is sensed. -/
theorem tokenInDeasserted_eq : exec .tokenInDeasserted s =
    let t := s.setFld CWAY_TOKEN_IN_A 0
    if t.pairOn = false then .next t
    else if t.role = Role.JOINING then .next (if t.cway.snapDone then t.takeover false true else t.enterRole Role.INIT 0)
    else if t.role = Role.STANDBY then .next (t.takeover false false)
    else if t.role = Role.HELD then .next (t.takeover true false)
    else .next t :=
  if_neg (by rw [was]; decide)

end

/-- An active device is in no other role. -/
theorem State.role_of_isActive (active : s.isActive = true) : s.role = Role.SOLO ∨ s.role = Role.ACTIVE := by
  simpa [State.isActive] using active

end

theorem pairFaultNLow_raises {s : State} (was : s.fldOn CWAY_PF_LINE = false) (drive : s.fldOn CWAY_PF_DRIVE = false)
    (en : s.fldOn CWAY_PAIR_EN = true) :
    exec .pairFaultNLow s = .next ((s.setFld CWAY_PF_LINE 1).raise Ev.PEER_LOST { data := 4 }) := by
  have drive' : (s.setFld CWAY_PF_LINE 1).fldOn CWAY_PF_DRIVE = false :=
    (congrArg (· != 0) (s.fld_setFld_ne _ _ _ _ _ _ _ (by decide))).trans drive
  have en' : (s.setFld CWAY_PF_LINE 1).fldOn CWAY_PAIR_EN = true :=
    (congrArg (· != 0) (s.fld_setFld_ne _ _ _ _ _ _ _ (by decide))).trans en
  rw [exec_pairFaultNLow, execPairFaultNLow]
  simp [was, drive', en']

/-! ### The peer that is lost, and the handover (R435, R454) -/

section
variable {s : State} (en : s.fldOn CWAY_PAIR_EN = true)
include en

theorem State.peerSettle_silent (seen : s.fldOn CWAY_PEER_SEEN = true) (up : s.fldOn CWAY_LINK_UP = true)
    (heard : s.cway.helloAt ≠ 0) (silent : s.cway.helloAt + 10000000 ≤ s.time.grid + 1) : s.peerSettle = s.unseePeer 2 := by
  have quiet : s.cway.helloAt ≠ 0 ∧ s.cway.helloAt - 1 + 10000000 ≤ s.time.grid := ⟨heard, by omega⟩
  unfold State.peerSettle
  simp [en, seen, up, quiet, bit]

theorem State.peerSettle_down (unseen : s.fldOn CWAY_PEER_SEEN = false) (down : s.fldOn CWAY_LINK_UP = false)
    (standby : s.role = Role.STANDBY) : s.peerSettle = s.enterRole Role.HELD 1 := by
  unfold State.peerSettle
  simp [en, unseen, down, standby]

theorem State.peerSettle_heard (up : s.fldOn CWAY_LINK_UP = true)
    (recent : s.cway.helloAt = 0 ∨ s.time.grid + 1 < s.cway.helloAt + 10000000) : s.peerSettle = s := by
  have heard : ¬(s.cway.helloAt ≠ 0 ∧ s.cway.helloAt - 1 + 10000000 ≤ s.time.grid) := by omega
  unfold State.peerSettle
  simp only [en, up, heard]
  simp

end

theorem handoverApply_standby {s : State} {h : Handover}
    (found : s.cway.handovers.find? (fun h => h.decided && decide (h.t ≤ s.now)) = some h) (on : s.pairOn = true)
    (standby : s.role = Role.STANDBY) : exec .handoverApply s = .next ((s.handedOver h Role.SOLO).sendsFrom h.t) := by
  rw [exec_handoverApply, execHandoverApply, found]
  dsimp only
  rw [if_pos ⟨on, standby⟩]

theorem handoverRelease_active {s : State} {h : Handover}
    (found : s.cway.handovers.find? (fun h => h.decided && decide (h.t + 2000 ≤ s.now)) = some h) (on : s.pairOn = true)
    (active : s.isActive = true) : exec .handoverRelease s = .next (s.handedOver h Role.STANDBY).ownTakesWhole := by
  rw [exec_handoverRelease, execHandoverRelease, found]
  dsimp only
  rw [if_pos ⟨on, active⟩]

/-- TIME is due 1 ms after the last one, and starts the account of steps anew. -/
theorem timeInterval_due {s : State} (on : s.pairOn = true) (waited : s.cway.timeSent + 1000000 ≤ s.time.grid) :
    let t := s.send Msg.TIME s.timeWords
    exec .timeInterval s = .next (t.setCway { t.cway with timeSent := t.time.grid, step := 0, stepAt := 0 }) := by
  rw [exec_timeInterval, execTimeInterval, if_pos ⟨on, waited⟩]

/-- Settles O46: each event acts where its guard holds, and a pin by the role in which it finds the device. -/
theorem pairEvents : Obligations.PairEvents := by
  intro s
  refine ⟨fun was => ⟨fun on init => ?_, fun on active alone => ?_, fun off => ?_⟩,
    fun was on => ⟨fun role done => ?_, fun role undone => ?_, fun role => ?_, fun role => ?_⟩,
    pairFaultNLow_raises, fun on init noHello waited => if_pos ⟨on, init, noHello, waited⟩,
    fun en waited => if_pos ⟨en, waited⟩, fun on waited => timeInterval_due on waited, fun en waited => if_pos ⟨en, waited⟩,
    fun en => ⟨fun seen up heard silent => congrArg Host.Outcome.next (State.peerSettle_silent en seen up heard silent),
      fun unseen down standby => congrArg Host.Outcome.next (State.peerSettle_down en unseen down standby),
      fun up recent => congrArg Host.Outcome.next (State.peerSettle_heard en up recent)⟩,
    fun on joining expired => if_pos ⟨on, joining, expired⟩, fun on held up ready waited => if_pos ⟨on, held, up, ready, waited⟩,
    fun service safe period idle due => if_pos ⟨service, safe, period, idle, due⟩, fun _ _ => rfl,
    fun h found on standby => handoverApply_standby found on standby,
    fun h found on active => handoverRelease_active found on active⟩
  · rw [tokenInAsserted_eq was]
    exact (if_neg (by rw [on]; decide)).trans (if_pos init)
  · rw [tokenInAsserted_eq was]
    refine (if_neg (by rw [on]; decide)).trans ((if_neg (fun init => ?_)).trans (if_pos ⟨active, alone⟩))
    rcases State.role_of_isActive active with role | role <;> exact absurd (role.symm.trans init) (by decide)
  · rw [tokenInAsserted_eq was]
    exact if_pos off
  · rw [tokenInDeasserted_eq was]
    exact (if_neg (by rw [on]; decide)).trans ((if_pos role).trans (congrArg _ (if_pos done)))
  · rw [tokenInDeasserted_eq was]
    exact (if_neg (by rw [on]; decide)).trans ((if_pos role).trans (congrArg _ (if_neg (by rw [undone]; decide))))
  · rw [tokenInDeasserted_eq was]
    exact (if_neg (by rw [on]; decide)).trans ((if_neg (by rw [role]; decide)).trans (if_pos role))
  · rw [tokenInDeasserted_eq was]
    exact (if_neg (by rw [on]; decide)).trans ((if_neg (by rw [role]; decide)).trans
      ((if_neg (by rw [role]; decide)).trans (if_pos role)))

end Sys2Proof.Machine

/-! # Proofs: classes of faults, their records, and the safe state's beginning -/

namespace Sys2Proof.Machine
open Reg

/-- A write that passes its checks is its register's effect; only the key register of BLOW_DBG keeps the key armed. -/
theorem write32_effect {s t : State} {w off v : Nat} (h : s.writable w off) (ho : off ≠ 0x42040)
    (effect : s.regWrite w off (v % 2 ^ 32) = t) :
    (Host.Outcome.next (s.write32 w off v) : Host.Outcome State Fault Refusal) = .next (t.disarmed w) := by
  rw [write32_accepted h ho, effect]

/-! ### Writes of FLT (R458, R462) -/

theorem State.regWrite_flt (s : State) (w v : Nat) {off : Nat} (lo : 0x24000 ≤ off) (hi : off < 0x26000)
    (hole : off < 0x24800 ∨ 0x25000 ≤ off) : s.regWrite w off v = s.writeFlt (Blk.flt.at? off) (off - 0x24000) v := by
  unfold State.regWrite
  rw [blockAt_flt lo hi hole]
  simp only [Nat.zero_mul, Nat.sub_zero]

theorem State.regWrite_fltSev (s : State) (w v : Nat) (e : Fin 1024) :
    s.regWrite w (0x25000 + 4 * e) v = s.setFld FSEV_CLASS (storedClass e (v % 8)) e := by
  have source : (0x25000 + 4 * e.val - 0x24000 - 0x1000) / 4 = e := by omega
  rw [s.regWrite_flt w v (by omega) (by omega) (by omega)]
  unfold State.writeFlt
  rw [if_neg (by omega), if_pos (by omega), source]
  rfl

theorem State.regWrite_ackGo (s : State) (w : Nat) (i : Fin 16) : s.regWrite w 0x24008 (i + 0x100) = s.ackFault i := by
  have go : ∀ i : Fin 16, bitAt (i.val + 0x100) 8 = true ∧ bitField (i.val + 0x100) 0 4 = i := by decide
  obtain ⟨go, record⟩ := go i
  rw [s.regWrite_flt w _ (by decide) (by decide) (by decide)]
  unfold State.writeFlt
  rw [if_pos (by decide), if_pos go, record]

theorem fltSevWrite_effect {s : State} {w : Fin 8} {e : Fin 1024} (h : s.writable w (0x25000 + 4 * e)) (val : Word) :
    exec (.fltSevWrite w e val) s = .next ((s.setFld FSEV_CLASS (storedClass e (val.toNat % 8)) e).disarmed w) :=
  write32_effect h (by omega) (by rw [Nat.mod_eq_of_lt val.isLt, s.regWrite_fltSev])

theorem ackGo_effect {s : State} {w : Fin 8} (h : s.writable w 0x24008) (i : Fin 16) :
    exec (.ackGo w i) s = .next ((s.ackFault i).disarmed w) :=
  write32_effect h (by decide) (by rw [Nat.mod_eq_of_lt (by omega), s.regWrite_ackGo])

/-- What a write stores as the class of a listed source (R458). -/
theorem storedClass_listed {e : Nat} (listed : eventListed e = true) (v : Nat) : storedClass e v =
    if e = 0 then 0 else if 5 ≤ v ∨ v < eventFloor e then eventFloor e
    else if v = 4 then (if eventFloor e = 4 then 4 else 3) else v := by
  have source : (e = Ev.SAFE_ENTER ∨ (!eventListed e) = true) ↔ e = 0 := by simp [listed, Ev.SAFE_ENTER]
  unfold storedClass
  simp only [source]
  split
  · rfl
  · by_cases reserved : 5 ≤ v
    · simp [reserved]
    · simp [reserved]

/-- Every floor is a class. -/
theorem eventFloor_lt (e : Nat) : eventFloor e < 5 := by
  unfold eventFloor
  cases found : Ev.catalogue.find? (fun x => x.1 == e) with
  | none => decide
  | some x => exact (by decide +kernel : ∀ x ∈ Ev.catalogue, x.2 < 5) x (List.mem_of_find?_eq_some found)

theorem storedClass_lt (e v : Nat) : storedClass e v < 5 := by
  have := eventFloor_lt e
  unfold storedClass
  dsimp only
  split
  · decide
  · split
    · exact this
    · split
      · exact this
      · split
        · split <;> decide
        · omega

/-- The records stand below the programmed classes. -/
theorem State.fld_setSev_record (s : State) (v e : Nat) {f : Field} (record : f.s1 = 0x20 ∧ f.base < 0x24120 ∧ f.lo < 32)
    (i : Fin 16) : (s.setFld FSEV_CLASS v e).fld f i = s.fld f i := by
  obtain ⟨stride, base, lo⟩ := record
  refine State.fld_setFld_ne _ _ _ _ _ _ _ _ ?_
  have classKey : FSEV_CLASS.key e 0 = 8 * (0x25000 + e * 4 + 0) + 0 := by simp [Field.key, Field.off, FSEV_CLASS]
  rw [classKey]
  unfold Field.key Field.off
  rw [stride]
  omega

/-! ### SRAM_CE once per second (R469) -/

section
variable {s : State} {m : Fin 9} (u : Fin 32) (used : m.val ≠ 0)
include used

theorem sramCe_counts (raised : (Tab.get (0, 0) s.faults.corrected (256 * m + sramDomain m u) : Nat × Nat).2 ≠ 0)
    (recent : s.time.grid + 1 < (Tab.get (0, 0) s.faults.corrected (256 * m + sramDomain m u) : Nat × Nat).2 + 1000000000) :
    exec (.sramCe m u) s =
      let key := 256 * m.val + sramDomain m u
      let x : Nat × Nat := Tab.get (0, 0) s.faults.corrected key
      .next { s with faults := { s.faults with corrected := Tab.set (0, 0) s.faults.corrected key (x.1 + 1, x.2) } } := by
  have early : ¬((Tab.get (0, 0) s.faults.corrected (256 * m + sramDomain m u) : Nat × Nat).2 = 0 ∨
      (Tab.get (0, 0) s.faults.corrected (256 * m + sramDomain m u) : Nat × Nat).2 - 1 + 10 ^ 9 ≤ s.time.grid) := by omega
  rw [exec_sramCe, execSramCe, if_neg used]
  unfold State.sramCorrected
  simp only [early, if_false, decide_false, State.when_false]

theorem sramCe_raises (due : (Tab.get (0, 0) s.faults.corrected (256 * m + sramDomain m u) : Nat × Nat).2 = 0 ∨
    (Tab.get (0, 0) s.faults.corrected (256 * m + sramDomain m u) : Nat × Nat).2 + 1000000000 ≤ s.time.grid + 1) :
    exec (.sramCe m u) s =
      let key := 256 * m.val + sramDomain m u
      let x : Nat × Nat := Tab.get (0, 0) s.faults.corrected key
      .next (({ s with
        faults := { s.faults with corrected := Tab.set (0, 0) s.faults.corrected key (0, s.time.grid + 1) } }).raise Ev.SRAM_CE
          { index := sramDomain m u, sub := m, data := (x.1 + 1) % 2 ^ 32 }) := by
  have late : (Tab.get (0, 0) s.faults.corrected (256 * m + sramDomain m u) : Nat × Nat).2 = 0 ∨
      (Tab.get (0, 0) s.faults.corrected (256 * m + sramDomain m u) : Nat × Nat).2 - 1 + 10 ^ 9 ≤ s.time.grid := by omega
  rw [exec_sramCe, execSramCe, if_neg used]
  unfold State.sramCorrected
  simp only [late, if_true, decide_true, State.when_true]

end

/-! ### The way to the safe state, and rails (R463, R467, R554) -/

theorem safeStateReached_due {s : State} {i : Fin 16} {t : Nat} (due : s.faults.safeDue = some (i, t)) :
    exec .safeStateReached s = .next (s.reachSafe i t) := by
  rw [exec_safeStateReached, execSafeStateReached, due]

/-- A rail that leaves its range is reported at once, or at the release of POR in reset extension. -/
theorem railFault_first {s : State} {r : Fin 13} (first : s.faults.railsOut.contains r.val = false) :
    exec (.railFault r) s =
      let t := { s with faults := { s.faults with railsOut := r.val :: s.faults.railsOut } }
      if s.fld BOOT_STAGE = 0 then
        .next { t with faults := { t.faults with railsAtBoot := t.faults.railsAtBoot ++ [r.val] } }
      else .next (t.raise Ev.RAIL_FAULT { data := r, holds := true }) :=
  if_neg (by rw [first]; decide)

/-- Settles O50: what FLT_SEV stores by R458's order of bounds, and each event from the guard under which it acts. -/
theorem faultEvents : Obligations.FaultEvents := by
  refine ⟨fun s => ⟨fun w e val h => fltSevWrite_effect h val, fun w i h => ⟨fun ended => ?_, fun stands => ?_, fun off => ?_⟩,
    fun i t due => safeStateReached_due due, fun high => if_neg (by rw [high]; decide), fun one => ?_, fun both => ?_,
    fun m u used => ⟨sramCe_counts u used, sramCe_raises u used, fun addr => congrArg Host.Outcome.next (if_neg used)⟩,
    fun r first => ⟨fun boot => ?_, fun boot => ?_⟩, fun r => ⟨fun none => ?_, fun some => ?_⟩⟩, fun s w e val h listed => ?_⟩
  · rw [ackGo_effect h, State.ackFault, if_neg (by rw [ended]; decide)]
  · rw [ackGo_effect h, State.ackFault, if_pos stands]
  · unfold State.recordHolds
    rw [off]
    rfl
  · exact congrArg Host.Outcome.next (if_neg (by rw [one]; decide))
  · exact congrArg Host.Outcome.next (if_pos both)
  · rw [railFault_first first]
    exact if_neg boot
  · rw [railFault_first first]
    exact if_pos boot
  · exact congrArg Host.Outcome.next (if_pos (List.isEmpty_iff.2 none))
  · exact congrArg Host.Outcome.next (if_neg (fun e => some (List.isEmpty_iff.1 e)))
  · have stored : ((s.setFld FSEV_CLASS (storedClass e (val.toNat % 8)) e).disarmed w).fld FSEV_CLASS e =
        storedClass e (val.toNat % 8) := by
      have := storedClass_lt e (val.toNat % 8)
      rw [State.fld_disarmed, State.fld_setFld_self]
      exact Nat.mod_eq_of_lt (by show _ < 8; omega)
    refine ⟨_, fltSevWrite_effect h val, fun zero => ?_, fun other => ?_, fun i => ⟨?_, ?_⟩⟩
    · rw [stored, storedClass_listed listed, if_pos zero]
    · rw [stored, storedClass_listed listed, if_neg other]
      have := eventFloor_lt e
      refine ⟨fun below => if_pos (.inr below), fun above low => ?_, fun fatal => ?_, fun reserved => if_pos (.inl reserved)⟩
      · rw [if_neg (by omega), if_neg (by omega)]
      · rw [if_neg (by omega), if_pos fatal]
    · rw [State.fld_disarmed, s.fld_setSev_record _ _ ⟨rfl, by decide, by decide⟩]
    · rw [State.fld_disarmed, s.fld_setSev_record _ _ ⟨rfl, by decide, by decide⟩]

end Sys2Proof.Machine

/-! # Proofs: where a raise is recorded, and for how long a record takes in others -/

namespace Sys2Proof.Machine
open Reg

/-! ### Where a raise goes (R460, R461) -/

/-- The records stand in ascending order, so a search of them finds the lowest. -/
theorem faultRecords_find {p : Fin 16 → Bool} {i : Fin 16} (hit : p i = true) (first : ∀ j, j < i → p j = false) :
    faultRecords.find? p = some i := by
  have place : ∀ k : Fin 16, faultRecords[k.val]? = some k := by decide
  obtain ⟨bound, at'⟩ := List.getElem?_eq_some_iff.1 (place i)
  refine List.find?_eq_some_iff_getElem.2 ⟨hit, i, bound, at', fun j hj => ?_⟩
  have lower : faultRecords[j]'(by omega) = ⟨j, by omega⟩ := (List.getElem?_eq_some_iff.1 (place ⟨j, by omega⟩)).2
  rw [lower, first ⟨j, by omega⟩ hj]
  rfl

section
variable {s : State} {ev : Nat}

theorem State.faultPlace_handled {i : Fin 16} (handled : s.handledRecord = some i) : s.faultPlace ev = .merge i := by
  unfold State.faultPlace
  rw [handled]

/-- An active record of the source takes the raise in. -/
theorem State.faultPlace_same (idle : s.handledRecord = none) {i : Fin 16} (same : s.fldOn FREC_ACTIVE i = true ∧ s.fld FREC_EVENT i = ev)
    (first : ∀ j : Fin 16, j < i → ¬(s.fldOn FREC_ACTIVE j = true ∧ s.fld FREC_EVENT j = ev)) : s.faultPlace ev = .merge i := by
  have found := faultRecords_find (p := fun i : Fin 16 => s.fldOn FREC_ACTIVE i && s.fld FREC_EVENT i == ev) (i := i)
    (by simpa using same) (fun j hj => by simpa using first j hj)
  unfold State.faultPlace
  simp only [idle, found]

variable (other : ∀ i : Fin 16, ¬(s.fldOn FREC_ACTIVE i = true ∧ s.fld FREC_EVENT i = ev))
include other

/-- No active record is of the source. -/
theorem State.activeOf_none : faultRecords.find? (fun (i : Fin 16) => s.fldOn FREC_ACTIVE i && s.fld FREC_EVENT i == ev) = none :=
  List.find?_eq_none.2 fun i _ => by simpa using other i

variable (idle : s.handledRecord = none)
include idle

/-- A new record takes the lowest place that holds none. -/
theorem State.faultPlace_free {i : Fin 16} (free : s.fldOn FREC_VALID i = false)
    (first : ∀ j : Fin 16, j < i → s.fldOn FREC_VALID j = true) : s.faultPlace ev = .create i := by
  have found := faultRecords_find (p := fun i : Fin 16 => !s.fldOn FREC_VALID i) (i := i) (by simp [free])
    (fun j hj => by simp [first j hj])
  unfold State.faultPlace
  simp only [idle, State.activeOf_none other, found]

/-- With every record active the newest takes the raise in. -/
theorem State.faultPlace_full (full : ∀ i : Fin 16, s.fldOn FREC_VALID i = true ∧ s.fldOn FREC_ACTIVE i = true) :
    s.faultPlace ev = .overflow (s.faults.order.headD 0) := by
  have valid : faultRecords.find? (fun (i : Fin 16) => !s.fldOn FREC_VALID i) = none :=
    List.find?_eq_none.2 fun i _ => by simp [(full i).1]
  have active : s.faults.order.reverse.find? (fun (i : Fin 16) => !s.fldOn FREC_ACTIVE i) = none :=
    List.find?_eq_none.2 fun i _ => by simp [(full i).2]
  unfold State.faultPlace
  simp only [idle, State.activeOf_none other, valid, active]

end

/-! ### The reaction of class CRITICAL or FATAL (R463, R465) -/

/-- A reaction writes FATAL and its event, and no other register. -/
theorem State.fld_react (s : State) (cls ev index sub data : Nat) (i : Fin 16) {f : Field} {k j : Nat}
    (fatal : FLT_FATAL.key 0 0 ≠ f.key k j) (source : FLT_FATAL_EVENT.key 0 0 ≠ f.key k j) :
    (s.react cls ev index sub data i).fld f k j = s.fld f k j := by
  unfold State.react
  dsimp only
  refine (State.fld_when ?_).trans (State.fld_when ?_)
  · split <;> rfl
  · exact (State.fld_setFld_ne _ _ _ _ _ _ _ _ source).trans (State.fld_setFld_ne _ _ _ _ _ _ _ _ fatal)

/-- A field of the fault records. -/
def Field.ofRecords (f : Field) : Prop := f.s1 = 0x20 ∧ 0x24100 ≤ f.base

theorem Field.ofRecords.key_ge {f : Field} (record : f.ofRecords) (i : Nat) : 8 * 0x24100 ≤ f.key i 0 := by
  obtain ⟨_, base⟩ := record
  unfold Field.key Field.off
  omega

theorem State.fld_react_record (s : State) (cls ev index sub data : Nat) (i : Fin 16) {f : Field} (record : f.ofRecords)
    (k : Nat) : (s.react cls ev index sub data i).fld f k = s.fld f k := by
  have above := record.key_ge k
  refine s.fld_react cls ev index sub data i (fun e => ?_) (fun e => ?_) <;> rw [← e] at above <;> revert above <;> decide

/-- FATAL latches. -/
theorem State.fatal_react (s : State) (ev index sub data : Nat) (i : Fin 16) :
    (s.react 4 ev index sub data i).fld FLT_FATAL = 1 := by
  have bit' : s.fld FLT_FATAL < 2 := s.fld_lt FLT_FATAL 0 0
  unfold State.react
  dsimp only
  refine (State.fld_when (by split <;> rfl)).trans ?_
  cases latched : s.fldOn FLT_FATAL
  · exact (State.fld_setFld_ne _ _ _ _ _ _ _ _ (by decide)).trans (State.fld_setFld_self _ _ _ _ _)
  · have : s.fld FLT_FATAL ≠ 0 := by simpa [State.fldOn] using latched
    show s.fld FLT_FATAL = 1
    omega

/-- What a reaction below CRITICAL leaves: everything. -/
theorem State.react_low (s : State) {cls : Nat} (low : cls < 3) (ev index sub data : Nat) (i : Fin 16) :
    s.react cls ev index sub data i = s := by
  have noFatal : ¬(cls = 4 ∧ (!s.fldOn FLT_FATAL) = true) := by omega
  have noSafe : ¬3 ≤ cls := by omega
  unfold State.react
  simp only [noFatal, noSafe, decide_false, State.when_false]

/-- From CRITICAL on, the record is handled and, unless the device is there or on its way, the way to the safe state
begins. -/
theorem State.faults_react (s : State) {cls : Nat} (high : 3 ≤ cls) (ev index sub data : Nat) (i : Fin 16) :
    (s.react cls ev index sub data i).faults.handled = some i ∧
      (s.react cls ev index sub data i).faults.safeDue =
        if s.safe || s.faults.safeDue.isSome then s.faults.safeDue else some (i, s.now) := by
  let u := s.when (cls = 4 ∧ !s.fldOn FLT_FATAL) fun s =>
    let s := (s.setFld FLT_FATAL 1).setFld FLT_FATAL_EVENT ev
    { s with faults := { s.faults with fatalIndex := index, fatalSub := sub, fatalData := data } }
  have safe : u.safe = s.safe := by
    refine congrArg (· != 0) (State.fld_when (f := FLT_SAFE) ?_)
    exact (State.fld_setFld_ne _ _ _ _ _ _ _ _ (by decide)).trans (State.fld_setFld_ne _ _ _ _ _ _ _ _ (by decide))
  have due : u.faults.safeDue = s.faults.safeDue := by
    unfold u State.when
    split <;> rfl
  have now : u.now = s.now := by
    unfold u State.when
    split <;> rfl
  have all : s.react cls ev index sub data i =
      if u.safe || u.faults.safeDue.isSome then { u with faults := { u.faults with handled := some i } }
      else { u with faults := { u.faults with handled := some i, safeDue := some (i, u.now) } } := by
    unfold State.react
    rw [decide_eq_true high, State.when_true]
  rw [all, safe, due, now]
  split
  · exact ⟨rfl, due⟩
  · exact ⟨rfl, rfl⟩

/-! ### What a merge keeps (R460) -/

section
variable (s : State) (i : Fin 16) (cls ev index sub data : Nat)

/-- Record i after a merge, before a higher class is taken over. -/
def State.mergeNoted (s : State) (i : Fin 16) (ev : Nat) : State :=
  ((s.satFld FREC_MERGES i).setFld FREC_LAST_EVENT ev i).setFld FREC_LAST_TIME s.now i

theorem State.fld_mergeNoted {f : Field} (stride : f.s1 = 0x20) (merges : 8 * FREC_MERGES.base + FREC_MERGES.lo ≠ 8 * f.base + f.lo)
    (event : 8 * FREC_LAST_EVENT.base + FREC_LAST_EVENT.lo ≠ 8 * f.base + f.lo)
    (time : 8 * FREC_LAST_TIME.base + FREC_LAST_TIME.lo ≠ 8 * f.base + f.lo) : (s.mergeNoted i ev).fld f i = s.fld f i := by
  unfold State.mergeNoted State.satFld
  rw [State.fld_setFld_apart _ _ _ _ _ stride.symm time, State.fld_setFld_apart _ _ _ _ _ stride.symm event,
    State.fld_setFld_apart _ _ _ _ _ stride.symm merges]

/-- A merge raises CLASS and sets ESCALATED where the class is higher, and notes the raise in every case. -/
theorem State.fld_mergeFault {f : Field} (record : f.ofRecords) :
    (s.mergeFault i cls ev index sub data).fld f i =
      if s.fld FREC_CLASS i < cls then (((s.mergeNoted i ev).setFld FREC_CLASS cls i).setFld FREC_ESCALATED 1 i).fld f i
      else (s.mergeNoted i ev).fld f i := by
  unfold State.mergeFault
  dsimp only
  split
  · exact State.fld_react_record _ _ _ _ _ _ _ record _
  · exact State.fld_when (State.fld_react_record _ _ _ _ _ _ _ record _)

/-- Fields other than CLASS and ESCALATED read after a merge as the raise was noted. -/
theorem State.fld_mergeFault_noted {f : Field} (record : f.ofRecords)
    (class' : 8 * FREC_CLASS.base + FREC_CLASS.lo ≠ 8 * f.base + f.lo)
    (escalated : 8 * FREC_ESCALATED.base + FREC_ESCALATED.lo ≠ 8 * f.base + f.lo) :
    (s.mergeFault i cls ev index sub data).fld f i = (s.mergeNoted i ev).fld f i := by
  rw [s.fld_mergeFault i cls ev index sub data record]
  split
  · rw [State.fld_setFld_apart _ _ _ _ _ record.1.symm escalated, State.fld_setFld_apart _ _ _ _ _ record.1.symm class']
  · rfl

/-- What the first raise left in the record stays. -/
theorem State.fld_mergeFault_kept {f : Field} (record : f.ofRecords) (below : 8 * f.base + f.lo < 8 * FREC_MERGES.base)
    (class' : 8 * FREC_CLASS.base + FREC_CLASS.lo ≠ 8 * f.base + f.lo)
    (escalated : 8 * FREC_ESCALATED.base + FREC_ESCALATED.lo ≠ 8 * f.base + f.lo) :
    (s.mergeFault i cls ev index sub data).fld f i = s.fld f i := by
  rw [s.fld_mergeFault_noted i cls ev index sub data record class' escalated]
  simp only [FREC_MERGES] at below
  refine s.fld_mergeNoted i ev record.1 ?_ ?_ ?_ <;> simp only [FREC_MERGES, FREC_LAST_EVENT, FREC_LAST_TIME] <;> omega

theorem State.merges_mergeFault : (s.mergeFault i cls ev index sub data).fld FREC_MERGES i =
    if s.fld FREC_MERGES i = 65535 then 65535 else s.fld FREC_MERGES i + 1 := by
  have lt : s.fld FREC_MERGES i < 65536 := s.fld_lt FREC_MERGES i 0
  rw [s.fld_mergeFault_noted i cls ev index sub data ⟨rfl, by decide⟩ (by decide) (by decide)]
  unfold State.mergeNoted State.satFld
  rw [State.fld_setFld_apart _ FREC_LAST_TIME FREC_MERGES _ _ rfl (by decide),
    State.fld_setFld_apart _ FREC_LAST_EVENT FREC_MERGES _ _ rfl (by decide), State.fld_setFld_self]
  show satInc 16 (s.fld FREC_MERGES i) % 65536 = _
  unfold satInc
  split <;> split <;> omega

theorem State.lastEvent_mergeFault (listed : ev < 1024) :
    (s.mergeFault i cls ev index sub data).fld FREC_LAST_EVENT i = ev := by
  rw [s.fld_mergeFault_noted i cls ev index sub data ⟨rfl, by decide⟩ (by decide) (by decide)]
  unfold State.mergeNoted
  rw [State.fld_setFld_apart _ FREC_LAST_TIME FREC_LAST_EVENT _ _ rfl (by decide), State.fld_setFld_self]
  exact Nat.mod_eq_of_lt listed

theorem State.class_mergeFault (class' : cls < 5) :
    (s.mergeFault i cls ev index sub data).fld FREC_CLASS i = max (s.fld FREC_CLASS i) cls := by
  rw [s.fld_mergeFault i cls ev index sub data ⟨rfl, by decide⟩]
  split
  · rw [State.fld_setFld_apart _ FREC_ESCALATED FREC_CLASS _ _ rfl (by decide), State.fld_setFld_self, Nat.max_eq_right (by omega)]
    exact Nat.mod_eq_of_lt (by show cls < 8; omega)
  · rw [s.fld_mergeNoted i ev rfl (by decide) (by decide) (by decide), Nat.max_eq_left (by omega)]

theorem State.escalated_mergeFault (higher : s.fld FREC_CLASS i < cls) :
    (s.mergeFault i cls ev index sub data).fld FREC_ESCALATED i = 1 := by
  rw [s.fld_mergeFault i cls ev index sub data ⟨rfl, by decide⟩, if_pos higher, State.fld_setFld_self]
  rfl

end

/-! ### A new record (R460, R461) -/

section
variable {l : List (Field × Nat)} (s : State) (i : Nat)

/-- Fields set one after another leave one that stands apart from them. -/
theorem State.fld_each_setFld_ne {f : Field} {k j : Nat} (apart : ∀ x ∈ l, x.1.key i 0 ≠ f.key k j) :
    (s.each l (fun s x => s.setFld x.1 x.2 i)).fld f k j = s.fld f k j := by
  induction l generalizing s with
  | nil => rfl
  | cons x l ih =>
    rw [State.each_cons, ih _ (fun y hy => apart y (List.mem_cons_of_mem _ hy)),
      State.fld_setFld_ne _ _ _ _ _ _ _ _ (apart x List.mem_cons_self)]

/-- Fields that stand apart from each other read as each was set. -/
theorem State.fld_each_setFld {f : Field} {v : Nat} (stride : ∀ g ∈ l.map Prod.fst, g.s1 = f.s1)
    (apart : (l.map Prod.fst).Pairwise (fun a b => 8 * b.base + b.lo ≠ 8 * a.base + a.lo)) (set' : (f, v) ∈ l) :
    (s.each l (fun s x => s.setFld x.1 x.2 i)).fld f i = v % 2 ^ f.w := by
  induction l generalizing s with
  | nil => exact absurd set' List.not_mem_nil
  | cons x l ih =>
    obtain ⟨first, rest⟩ := List.pairwise_cons.1 apart
    have stride' : ∀ g ∈ l.map Prod.fst, g.s1 = f.s1 := fun g hg => stride g (List.mem_cons_of_mem _ hg)
    rw [State.each_cons]
    rcases List.mem_cons.1 set' with rfl | later
    · rw [State.fld_each_setFld_ne _ _ fun y hy => Field.key_ne (stride' _ (List.mem_map_of_mem hy))
        (first _ (List.mem_map_of_mem hy)) i, State.fld_setFld_self]
    · exact ih _ stride' rest later

end

/-- The fields that a new record is given. -/
def recordFields : List Field :=
  [FREC_EVENT, FREC_CLASS, FREC_ACTIVE, FREC_HOLDS, FREC_CAUSED_SAFE, FREC_ESCALATED, FREC_VALID, FREC_INDEX, FREC_SUB,
   FREC_TIME_LO, FREC_TIME_HI, FREC_DATA_LO, FREC_DATA_HI, FREC_MERGES, FREC_LAST_EVENT, FREC_LAST_TIME]

theorem recordFields_apart : recordFields.Pairwise (fun a b => 8 * b.base + b.lo ≠ 8 * a.base + a.lo) := by decide

section
variable (s : State) (i : Fin 16) (cls ev index sub data : Nat) (holds : Bool)

/-- What a new record is given. -/
def State.recordWords (s : State) (cls ev index sub data : Nat) (holds : Bool) : List (Field × Nat) :=
  [(FREC_EVENT, ev), (FREC_CLASS, cls), (FREC_ACTIVE, 1), (FREC_HOLDS, bit holds), (FREC_CAUSED_SAFE, 0),
   (FREC_ESCALATED, 0), (FREC_VALID, 1), (FREC_INDEX, index), (FREC_SUB, sub), (FREC_TIME_LO, s.now % 2 ^ 32),
   (FREC_TIME_HI, s.now / 2 ^ 32), (FREC_DATA_LO, data % 2 ^ 32), (FREC_DATA_HI, data / 2 ^ 32), (FREC_MERGES, 0),
   (FREC_LAST_EVENT, 0), (FREC_LAST_TIME, 0)]

/-- The state with record i written and handled, before the reaction to its class. -/
def State.recorded (s : State) (i : Fin 16) (cls ev index sub data : Nat) (holds : Bool) : State :=
  { s.each (s.recordWords cls ev index sub data holds) (fun s x => s.setFld x.1 x.2 i) with
    faults := { s.faults with
      order := i :: s.faults.order.filter (· != i), handled := some i, handledTo := s.time.grid + 2000 } }

/-- Setting fields leaves the fault records' order and device time. -/
theorem State.rest_each_setFld (l : List (Field × Nat)) (i : Nat) :
    (s.each l (fun s x => s.setFld x.1 x.2 i)).faults = s.faults ∧ (s.each l (fun s x => s.setFld x.1 x.2 i)).time = s.time :=
  ⟨State.each_invariant l (fun s x => s.setFld x.1 x.2 i) State.faults (fun _ _ => rfl) s,
    State.each_invariant l (fun s x => s.setFld x.1 x.2 i) State.time (fun _ _ => rfl) s⟩

theorem State.createFault_eq : s.createFault i cls ev index sub data holds =
    (s.recorded i cls ev index sub data holds).react cls ev index sub data i := by
  obtain ⟨faults, time⟩ := s.rest_each_setFld (s.recordWords cls ev index sub data holds) i
  unfold State.createFault State.recorded
  dsimp only
  rw [← State.recordWords, faults, time]

/-- A new record reads as it was written. -/
theorem State.fld_createFault {f : Field} {v : Nat} (record : f.ofRecords)
    (set' : (f, v) ∈ s.recordWords cls ev index sub data holds) :
    (s.createFault i cls ev index sub data holds).fld f i = v % 2 ^ f.w := by
  have fields : (s.recordWords cls ev index sub data holds).map Prod.fst = recordFields := rfl
  have strides : ∀ g ∈ recordFields, g.s1 = 0x20 := by decide
  rw [s.createFault_eq, State.fld_react_record _ _ _ _ _ _ _ record]
  refine s.fld_each_setFld i (fun g hg => ?_) (fields ▸ recordFields_apart) set'
  rw [fields] at hg
  rw [strides g hg, record.1]

theorem State.handled_createFault : (s.createFault i cls ev index sub data holds).faults.handled = some i := by
  rw [s.createFault_eq]
  by_cases high : 3 ≤ cls
  · exact (State.faults_react _ high _ _ _ _ _).1
  · rw [State.react_low _ (by omega)]
    rfl

/-- The records stand apart from the safe state. -/
theorem State.safe_recorded : (s.recorded i cls ev index sub data holds).safe = s.safe := by
  refine congrArg (· != 0) (s.fld_each_setFld_ne (f := FLT_SAFE) i (fun x hx e => ?_))
  have record : ∀ g ∈ recordFields, g.s1 = 0x20 ∧ 0x24100 ≤ g.base := by decide
  have above := Field.ofRecords.key_ge (record x.1 (List.mem_map_of_mem (f := Prod.fst) hx)) i
  rw [e] at above
  revert above
  decide

theorem State.safeDue_createFault (high : 3 ≤ cls) : (s.createFault i cls ev index sub data holds).faults.safeDue =
    if s.safe || s.faults.safeDue.isSome then s.faults.safeDue else some (i, s.now) := by
  have now : (s.recorded i cls ev index sub data holds).now = s.now := by
    unfold State.now State.recorded
    rw [(s.rest_each_setFld _ i).2]
  rw [s.createFault_eq, (State.faults_react _ high _ _ _ _ _).2, s.safe_recorded, now]
  rfl

end

/-- Settles O51: a search of the records in their order, and what the merge and the new record write. -/
theorem faultRecordsArePlaced : Obligations.FaultRecordsArePlaced := by
  intro s ev cls index sub data holds
  refine ⟨fun i => State.faultPlace_handled, fun idle i same first => State.faultPlace_same idle same first,
    fun idle other i free first => State.faultPlace_free other idle free first,
    fun idle other full => State.faultPlace_full other idle full, fun i => ?_, fun i => ?_⟩
  · have kept {f : Field} (record : f.ofRecords) := s.fld_mergeFault_kept i cls ev index sub data record
    exact ⟨s.merges_mergeFault i cls ev index sub data, s.lastEvent_mergeFault i cls ev index sub data,
      s.class_mergeFault i cls ev index sub data, s.escalated_mergeFault i cls ev index sub data,
      kept ⟨rfl, by decide⟩ (by decide) (by decide) (by decide), kept ⟨rfl, by decide⟩ (by decide) (by decide) (by decide),
      kept ⟨rfl, by decide⟩ (by decide) (by decide) (by decide), kept ⟨rfl, by decide⟩ (by decide) (by decide) (by decide),
      kept ⟨rfl, by decide⟩ (by decide) (by decide) (by decide), kept ⟨rfl, by decide⟩ (by decide) (by decide) (by decide),
      kept ⟨rfl, by decide⟩ (by decide) (by decide) (by decide)⟩
  · have reads {f : Field} {v : Nat} (record : f.ofRecords) := s.fld_createFault (f := f) (v := v) i cls ev index sub data holds record
    refine ⟨fun listed => ?_, fun class' => ?_, ?_, ?_, ?_, s.handled_createFault i cls ev index sub data holds, ?_,
      fun high out idle => ?_⟩
    · rw [reads ⟨rfl, by decide⟩ (v := ev) (by simp [State.recordWords])]
      exact Nat.mod_eq_of_lt listed
    · rw [reads ⟨rfl, by decide⟩ (v := cls) (by simp [State.recordWords])]
      exact Nat.mod_eq_of_lt (by show cls < 8; omega)
    · exact reads ⟨rfl, by decide⟩ (v := 1) (by simp [State.recordWords])
    · exact reads ⟨rfl, by decide⟩ (v := 1) (by simp [State.recordWords])
    · exact reads ⟨rfl, by decide⟩ (v := 0) (by simp [State.recordWords])
    · rintro rfl
      rw [s.createFault_eq]
      exact State.fatal_react _ _ _ _ _ _
    · rw [s.safeDue_createFault i cls ev index sub data holds high, out, idle]
      rfl

/-! ### For how long a record is handled (R461) -/

section
variable {s u : State} {i : Fin 16} {cls ev index sub data : Nat} {holds : Bool}

theorem State.class_createFault (class' : cls < 8) :
    (s.createFault i cls ev index sub data holds).fld FREC_CLASS i = cls :=
  (s.fld_createFault i cls ev index sub data holds ⟨rfl, by decide⟩ (by simp [State.recordWords])).trans
    (Nat.mod_eq_of_lt class')

theorem State.safe_createFault : (s.createFault i cls ev index sub data holds).safe = s.safe := by
  rw [s.createFault_eq]
  exact (congrArg (· != 0) (State.fld_react _ _ _ _ _ _ _ (by decide) (by decide))).trans (s.safe_recorded ..)

/-- A record below CRITICAL is handled until 2 µs have passed. -/
theorem State.handledTo_createFault (low : cls < 3) :
    (s.createFault i cls ev index sub data holds).faults.handledTo = s.time.grid + 2000 := by
  rw [s.createFault_eq, State.react_low _ low]
  rfl

/-- Which record is handled, where one was taken in hand. -/
theorem State.handledRecord_of (taken : u.faults.handled = some i) : u.handledRecord =
    if 3 ≤ u.fld FREC_CLASS i then (if u.safe || u.faults.safeDue.isSome then some i else none)
    else if u.time.grid < u.faults.handledTo then some i else none := by
  unfold State.handledRecord
  rw [taken]

end

/-- Settles O52: the record in hand is the new one, below CRITICAL by its clock and from CRITICAL on by the safe state. -/
theorem faultsAreHandledInWindows : Obligations.FaultsAreHandledInWindows := by
  intro s u i cls ev index sub data holds
  dsimp only
  intro classes
  refine ⟨fun service faults => ?_, fun high => ?_, fun handled ev' => State.faultPlace_handled handled⟩
  · have taken : u.faults.handled = some i := faults ▸ s.handled_createFault ..
    have until' : u.faults.handledTo = s.time.grid + 2000 := faults ▸ State.handledTo_createFault (by omega)
    have record : u.handledRecord = if u.time.grid < s.time.grid + 2000 then some i else none := by
      rw [State.handledRecord_of taken, classes, State.class_createFault (by omega), if_neg (by omega), until']
    rw [record]
    exact ⟨by simp, fun late => if_neg (by omega)⟩
  · have class' : (s.createFault i cls ev index sub data holds).fld FREC_CLASS i = cls := State.class_createFault (by omega)
    refine ⟨?_, fun faults => ?_⟩
    · rw [State.handledRecord_of (s.handled_createFault ..), class', if_pos (by omega), s.safeDue_createFault _ _ _ _ _ _ _ (by omega),
        State.safe_createFault]
      refine if_pos ?_
      split
      · assumption
      · simp
    · have taken : u.faults.handled = some i := faults ▸ s.handled_createFault ..
      have due : u.faults.safeDue = none := by rw [faults]
      have record : u.handledRecord = if u.safe then some i else none := by
        rw [State.handledRecord_of taken, classes, class', if_pos (by omega), due]
        simp
      rw [record]
      exact ⟨by simp, fun out => by simp [out]⟩

end Sys2Proof.Machine

/-! # Proofs: what stands still in the safe state -/

namespace Sys2Proof.Machine
open Reg

/-! ### Tokens of device time (R124, R463) -/

/-- A change that leaves a state as it is may be repeated. -/
theorem State.upTo_fixed {s : State} {f : State → Nat → State} (fixed : ∀ i, f s i = s) (n : Nat) : s.upTo n f = s := by
  unfold State.upTo
  induction List.range n with
  | nil => rfl
  | cons i l ih => rw [List.foldl_cons, fixed i, ih]

/-- Without takes there is no milepost. -/
theorem State.postTokens_of_noTakes {s : State} (noTakes : s.take.takes = []) : s.postTokens = s := by
  have sealed : s.sealDue = s := by
    unfold State.sealDue
    simp [noTakes]
  unfold State.postTokens State.reachAll
  simp [sealed, noTakes, sortTakes]

/-- The frame of a plane leaves every register as it was. -/
theorem State.regs_planeFrame (s : State) (p : Nat) : (s.planeFrame p).regs = s.regs := by
  unfold State.planeFrame
  dsimp only
  split <;> rfl

section
variable {s : State} (safe : s.safe = true)
include safe

/-- In the safe state a frame start is that of its plane alone. -/
theorem State.frameToken_safe (p : Nat) : s.frameToken p = s.planeFrame p := by
  have safe' : (s.planeFrame p).safe = true := (State.fldOn_congr (s.regs_planeFrame p) FLT_SAFE 0 0).trans safe
  exact if_pos safe'

theorem State.lineToken_safe (p : Nat) : s.lineToken p = s := if_pos (.inl safe)

theorem State.blockToken_safe : s.blockToken = s := if_pos safe

theorem State.sampleToken_safe : s.sampleToken = s := if_pos (.inl safe)

end

section
variable {s : State} (safe : s.frameTokens.safe = true)
include safe

/-- No line starts after the frames that are due. -/
theorem State.lineTokens_safe : s.lineTokens = s.frameTokens := State.upTo_fixed (State.lineToken_safe safe) 8

theorem selectionInstant_safe (r : Reader) : exec (.selectionInstant r) s = .next s.frameTokens := by
  rw [exec_selectionInstant, execSelectionInstant, State.lineTokens_safe safe, if_pos safe]

theorem lineStart_safe (p : Fin 8) (late : List Reader) : exec (.lineStart p late) s = .next s.frameTokens := by
  rw [exec_lineStart, execLineStart, State.lineToken_safe safe, if_pos (.inl safe)]

end

/-! ### What is not fetched, placed, drawn, tested or sent (R463) -/

section
variable {s : State} (safe : s.safe = true)
include safe

theorem ringFetch_safe (p : Fin 8) (k : Fin 64) (answer : List Descriptor) (held : s.leaseOut p = false) :
    exec (.ringFetch p k answer) s = .next s := by
  have none : s.fetchable p k = 0 := if_neg (fun h => h.2.2.1 safe)
  rw [exec_ringFetch, execRingFetch, State.lapse_of_not_out held]
  simp [none]

theorem enginePlacement_safe (p : Fin 8) (k : Fin 64) : exec (.enginePlacement p k) s = .next s := by
  rw [exec_enginePlacement, execEnginePlacement]
  split
  · rfl
  · exact if_neg (fun h => Bool.noConfusion (h.2.symm.trans safe))

theorem engineDraw_safe (e : Fin 16) : exec (.engineDraw e) s = .next s := by
  rw [exec_engineDraw, execEngineDraw]
  simp [safe]

theorem katPeriod_safe : exec .katPeriod s = .next s :=
  if_neg (fun h => Bool.noConfusion (h.2.1.symm.trans safe))

theorem towTxStart_safe (b : Fin 2) (n : Nat) : exec (.towTxStart b n) s = .next s :=
  if_neg (fun h => Bool.noConfusion (h.2.2.1.symm.trans safe))

theorem hpTxSend_safe (m : Fin 64) (answer : HostAnswer) : exec (.hpTxSend m answer) s = .next s := by
  have barred : ¬s.maySend m = true := by simp [State.maySend, safe]
  rw [exec_hpTxSend, execHpTxSend]
  dsimp only
  split
  · rfl
  · exact if_pos (.inr (.inr (.inl barred)))

/-- The pair is off, whatever PAIR_EN says. -/
theorem State.pairOn_safe : s.pairOn = false := by simp [State.pairOn, safe]

/-- No message of class 3 is taken. -/
theorem State.followMsg_safe (ty : Nat) (q : BitVec 24) (ws : List (BitVec 64)) (f : State → List Nat → State) :
    s.followMsg ty q ws f = s :=
  if_pos (State.pairOn_safe safe)

/-- TOKEN_IN only shows its level. -/
theorem tokenInDeasserted_safe :
    exec .tokenInDeasserted s = .next (if s.fldOn CWAY_TOKEN_IN_A then s.setFld CWAY_TOKEN_IN_A 0 else s) := by
  have shown : (s.setFld CWAY_TOKEN_IN_A 0).safe = true :=
    (congrArg (· != 0) (s.fld_setFld_ne _ _ _ _ _ _ _ (by decide))).trans safe
  cases was : s.fldOn CWAY_TOKEN_IN_A
  · exact if_pos (by rw [was]; decide)
  · rw [tokenInDeasserted_eq was]
    exact if_pos (State.pairOn_safe shown)

end

/-! ### Register writes (R463) -/

/-- GLB and FLT fill their places in the register map, and no other. -/
theorem blockAt_glb_flt {off : Nat} {b : Blk} {i : Nat} (at' : blockAt off = some (b, i)) :
    (b = .glb → off < 0x1000) ∧ (b = .flt → 0x24000 ≤ off ∧ off < 0x26000) := by
  have spans : ∀ sp ∈ blockTable, (sp.blk = .glb → sp.base + sp.size ≤ 0x1000) ∧
      (sp.blk = .flt → 0x24000 ≤ sp.base ∧ sp.base + sp.size ≤ 0x26000) := by decide
  obtain ⟨sp, listed, rfl, lo, hi⟩ := blockAt_span at'
  obtain ⟨glb, flt⟩ := spans sp listed
  exact ⟨fun h => by have := glb h; omega, fun h => by have := flt h; omega⟩

/-- A write outside FLT and GLB that passes its checks changes no register in the safe state. -/
theorem registerWrite_safe {s : State} (safe : s.safe = true) {w : Fin 8} {off : BitVec 26} (val : BitVec 64)
    (passes : s.writeBar w off.toNat 4 = none) (notKey : off.toNat ≠ 0x42040) (notGlb : 0x1000 ≤ off.toNat)
    (notFlt : off.toNat < 0x24000 ∨ 0x26000 ≤ off.toNat) : exec (.registerWrite w off 4 val) s = .next (s.disarmed w) := by
  obtain ⟨⟨b, i⟩, at'⟩ := blockAt_of_writeBar passes
  obtain ⟨glb, flt⟩ := blockAt_glb_flt at'
  have other : b ≠ .flt ∧ b ≠ .glb := ⟨fun h => by have := flt h; omega, fun h => by have := glb h; omega⟩
  rw [exec_registerWrite, execRegisterWrite]
  unfold State.hostWrite State.disarmed State.acceptWrite
  simp [passes, at', safe, other, notKey]

/-- Settles O53: each command asks for the safe state, or for the pair that is off in it, before it acts. -/
theorem safeStateStandsStill : Obligations.SafeStateStandsStill := by
  intro s safe
  exact ⟨fun p k answer held => ⟨ringFetch_safe safe p k answer held, enginePlacement_safe safe p k⟩,
    engineDraw_safe safe, katPeriod_safe safe, State.postTokens_of_noTakes, State.frameToken_safe safe,
    fun later => ⟨selectionInstant_safe later, lineStart_safe later⟩,
    fun later => ⟨congrArg Host.Outcome.next (State.blockToken_safe later),
      congrArg Host.Outcome.next (State.sampleToken_safe later)⟩,
    towTxStart_safe safe, hpTxSend_safe safe,
    fun fl q ws => ⟨congrArg Host.Outcome.next (State.receive_off _ (State.pairOn_safe safe)),
      congrArg Host.Outcome.next (State.followMsg_safe safe _ q ws _),
      congrArg Host.Outcome.next (State.followMsg_safe safe _ q ws _), tokenInDeasserted_safe safe⟩,
    fun w off val => registerWrite_safe safe val⟩

end Sys2Proof.Machine

/-! # Proofs: clock checks, switches and ramps, and the gating of power domains -/

namespace Sys2Proof.Machine
open Reg

/-- No field above the fault records is one that a raise writes. -/
theorem raiseKey_above {f : Field} (base : 0x24300 ≤ f.base) (i j : Nat) : raiseKey (f.key i j) = false := by
  have above : 8 * 0x24300 ≤ f.key i j := by
    unfold Field.key Field.off
    omega
  simp only [raiseKey, Bool.or_eq_false_iff, Bool.and_eq_false_iff, decide_eq_false_iff_not]
  omega

/-! ### Oscillators and monitors (R477 .. R483) -/

/-- With no trip latched, the end of reset extension switches AON to CORE_REFCLK. -/
theorem roscOk_first {s : State} (first : s.fldOn CLK_ROSC_OK = false) (none : ∀ m, m < 10 → (s.mon m).latched = 0) :
    exec .roscOk s = .next (({ s.setFld CLK_ROSC_OK 1 with clk := { s.clk with noStart := false } }).beginSwitch 0 1) := by
  let t : State := { s.setFld CLK_ROSC_OK 1 with clk := { s.clk with noStart := false } }
  have latched : (List.range 10).filterMap (fun m => if (t.mon m).latched = 0 then Option.none else some (m, (t.mon m).latched))
      = [] := by
    refine List.filterMap_eq_nil_iff.2 fun m hm => if_pos ?_
    exact none m (List.mem_range.1 hm)
  rw [exec_roscOk, execRoscOk, if_neg (by rw [first]; decide)]
  show Host.Outcome.next (((t.each ((List.range 10).filterMap (fun m => if (t.mon m).latched = 0 then Option.none
    else some (m, (t.mon m).latched))) _).each _ _).beginSwitch 0 1) = _
  rw [latched]
  rfl

section
variable {s : State} {m : Fin 10} (en : s.fldOn CLKMON_EN m = true)
include en

theorem clockStopCheck_enabled (stopped : Bool) : exec (.clockStopCheck m stopped) s =
    .next (if stopped then (if (s.mon m).stop then s else s.trip m 1) else if (s.mon m).stop then s.checkPasses m 1 else s) :=
  congrArg Host.Outcome.next (if_neg (by rw [en]; decide))

/-- A frequency check compares the deviation, which it shows, with the bound in force. -/
theorem clockFrequencyCheck_bounded (runs : s.freqSuspended = false) {ppm : BitVec 32} {b : Nat}
    (bound : (s.setFld CLKMON_LAST_PPM ppm.toNat m).freqBound m = some b) : exec (.clockFrequencyCheck m ppm) s =
      let t := s.setFld CLKMON_LAST_PPM ppm.toNat m
      .next (if b < ppm.toInt.natAbs then (if (t.mon m).freq then t else t.trip m 2)
        else if (t.mon m).freq then t.checkPasses m 2 else t) := by
  rw [exec_clockFrequencyCheck, execClockFrequencyCheck, if_neg (by simp [en, runs])]
  simp only [bound]

end

theorem clockReturn_reference {s : State} {m : Fin 10} (good : (s.mon m).goodFrom ≠ 0) (rosc : s.fldOn CLK_ROSC_OK = true)
    (reference : clkFaultMons.contains m.val = false)
    (waited : s.expired ((s.mon m).goodFrom - 1) (s.fld CLK_RETURN_MS * 1000000) 1 = true) : exec (.clockReturn m) s =
      .next ((((s.setMon m { s.mon m with goodFrom := 0 }).refreshMons).reverse m).conditionEnds Ev.REFCLK_LOST m) := by
  rw [exec_clockReturn, execClockReturn]
  dsimp only
  rw [if_pos ⟨good, rosc, waited⟩, if_neg (by rw [reference]; decide)]

/-! ### Locks, switches and ramps (R476, R484 .. R486) -/

theorem pllRelock_locks {s : State} {pll : Fin 3} {ref : Nat} (pending : Tab.get 0 s.clk.relock pll = ref + 1) :
    exec (.pllRelock pll) s =
      let t := s.cancelRelock pll
      .next (if pll.val = 0 then t.setFld CLK_CORE_SRC ref else if pll.val = 1 then t.setFld CLK_MEM_SRC ref
        else t.setFld CLK_TIME_SRC (1 - ref)) := by
  rw [exec_pllRelock, execPllRelock, pending]

section
variable {s : State} {i : Fin 145} {code : Nat} (waits : (s.mux i).dest = some code)
include waits

theorem clockSwitchDone_waits :
    exec (.clockSwitchDone i) s = .next (if s.oldStopped i then s else s.endSwitch i code) := by
  rw [exec_clockSwitchDone, execClockSwitchDone, waits]

/-- A switch back to a clock that has returned is never forced. -/
theorem clkswForced_back (back : (s.mux i).back = true) : exec (.clkswForced i) s = .next s := by
  rw [exec_clkswForced, execClkswForced, waits]
  exact if_neg (by simp [back])

theorem clkswForced_shown (stopped : s.oldStopped i = true) (away : (s.mux i).back = false) (shown : i.val = 0 ∨ i.val = 144) :
    exec (.clkswForced i) s = .next (((s.endSwitch i code).addFld CLK_FORCED_CNT 1).raise Ev.CLKSW_FORCED
      { data := i.val + 2 ^ 8 * (s.mux i).src + 2 ^ 12 * code }) := by
  rw [exec_clkswForced, execClkswForced, waits]
  dsimp only
  rw [if_pos (by simp [stopped, away]), if_pos shown]

end

theorem icgRampStep_runs {s : State} {i : Fin 145} {r : ClkRamp} (ramp : s.ramp i = some r) (runs : r.runs = true)
    (single : s.switching i = false) (waited : s.expired r.at' (s.fld CLK_RAMP_STEP_NS) 1 = true) :
    let div := if r.up then s.fld CLKISL_DIV_NOW i - 1 else s.fld CLKISL_DIV_NOW i + 1
    let t := (s.setFld CLKISL_DIV_NOW div i).setRamp i (some { r with at' := s.time.grid })
    exec (.icgRampStep i) s = .next (if div = (if r.up then icgNominal i else 320) then t.endRamp i r.up else t) := by
  rw [exec_icgRampStep, execIcgRampStep, ramp]
  exact if_neg (by simp [runs, single, waited])

/-! ### The register of a power domain (R529, R530, R533) -/

/-- The one-copy fields of PWR stand apart from the domains' registers. -/
theorem pwr_at?_domain (d : Fin 184) : Blk.pwr.at? (0x41100 + 4 * d) =
    [(DOM_REQ, d.val, 0), (DOM_DSTATE, d.val, 0), (DOM_GATEABLE, d.val, 0), (DOM_REFUSE, d.val, 0), (DOM_ISL_RST, d.val, 0),
     (DOM_LOCKED_OFF, d.val, 0)] := by
  have single : ∀ f ∈ fieldsPWR, f.s1 = 0 ∧ f.s2 = 0 ∧ f.base < 0x41100 := by decide
  have domains : ∀ f ∈ fieldsDOM, f.base = 0x41100 ∧ f.s1 = 4 ∧ f.n1 = 184 ∧ f.s2 = 0 ∧ f.n2 = 1 := by decide
  have everyCopy : ∀ f ∈ fieldsDOM, f.only d = true := by
    simp [fieldsDOM, DOM_REQ, DOM_DSTATE, DOM_GATEABLE, DOM_REFUSE, DOM_ISL_RST, DOM_LOCKED_OFF]
  have away : ∀ f ∈ fieldsPWR, (f.at? (0x41100 + 4 * d)).map (fun ij => (f, ij.1, ij.2)) = none := by
    intro f hf
    obtain ⟨s1, s2, base⟩ := single f hf
    unfold Field.at?
    rw [s1, s2, if_neg (by omega)]
    simp only [Nat.mod_zero]
    rw [if_neg (by omega)]
    rfl
  have here : ∀ f ∈ fieldsDOM, (f.at? (0x41100 + 4 * d)).map (fun ij => (f, ij.1, ij.2)) = some (f, d.val, 0) := by
    intro f hf
    obtain ⟨base, s1, n1, s2, n2⟩ := domains f hf
    have copy : (0x41100 + 4 * d.val - 0x41100) / 4 = d := by omega
    have place : (0x41100 + 4 * d.val - 0x41100) % 4 = 0 := by omega
    unfold Field.at?
    rw [base, s1, n1, s2, n2, if_neg (by omega)]
    simp only [copy, place, everyCopy f hf]
    simp
  unfold Blk.at?
  rw [show Blk.pwr.fields = fieldsPWR ++ fieldsDOM from rfl, List.filterMap_append, List.filterMap_eq_nil_iff.2 away,
    filterMap_eq_of_mem here]
  rfl

/-- No field of a domain is worked out when it is read. -/
theorem State.readFld_domain (s : State) {f : Field} (mem : f ∈ [DOM_REQ, DOM_DSTATE, DOM_GATEABLE, DOM_REFUSE, DOM_LOCKED_OFF])
    (i j : Nat) : s.readFld f i j = s.fld f i j := by
  have plain : f.ty ≠ .wo ∧ allViews.find? (fun v => v.1.base == f.base && v.1.lo == f.lo) = none := by
    simp only [List.mem_cons, List.not_mem_nil, or_false] at mem
    rcases mem with rfl | rfl | rfl | rfl | rfl <;> exact ⟨by decide, rfl⟩
  unfold State.readFld
  rw [if_neg plain.1, plain.2]

theorem State.readReg_domain (s : State) (d : Fin 184) : s.readReg (0x41100 + 4 * d) =
    s.fld DOM_REQ d + 2 * s.fld DOM_DSTATE d + 8 * s.fld DOM_GATEABLE d + 16 * s.fld DOM_REFUSE d +
      512 * s.fld DOM_LOCKED_OFF d := by
  unfold State.readReg
  rw [blockAt_pwr (by omega) (by omega)]
  simp only
  rw [if_neg (by simp), pwr_at?_domain d]
  simp only [List.map_cons, List.map_nil, List.sum_cons, List.sum_nil]
  rw [s.readFld_domain (f := DOM_REQ) (by simp), s.readFld_domain (f := DOM_DSTATE) (by simp),
    s.readFld_domain (f := DOM_GATEABLE) (by simp), s.readFld_domain (f := DOM_REFUSE) (by simp),
    s.readFld_domain (f := DOM_LOCKED_OFF) (by simp), show s.readFld DOM_ISL_RST d 0 = 0 from if_pos rfl]
  simp only [DOM_REQ, DOM_DSTATE, DOM_GATEABLE, DOM_REFUSE, DOM_ISL_RST, DOM_LOCKED_OFF]
  omega

/-- The word that writes ISL_RST alone holds REQ as it stands. -/
theorem State.withField_islRst (s : State) (d : Fin 184) :
    let v := s.withField (0x41100 + 4 * d) 8 1 1 % 2 ^ 32
    bitField v 0 1 = s.fld DOM_REQ d ∧ bitAt v 8 = true := by
  have req : s.fld DOM_REQ d < 2 := s.fld_lt DOM_REQ d 0
  unfold State.withField
  rw [s.readReg_domain d]
  simp only [putBits, bitField, bitAt, beq_iff_eq]
  omega

theorem State.regWrite_domain (s : State) (w v : Nat) (d : Fin 184) : s.regWrite w (0x41100 + 4 * d) v =
    (s.writeReq d (bitField v 0 1)).when (bitAt v 8) (fun s => s.writeIslRst d) := by
  have domain : (0x41100 + 4 * d.val - 0x41000 - 0x100) / 4 = d := by omega
  unfold State.regWrite
  rw [blockAt_pwr (by omega) (by omega)]
  simp only [Nat.zero_mul, Nat.sub_zero]
  unfold State.writePwr'
  rw [if_pos (by omega)]
  simp only [domain]

section
variable {s : State} {w : Fin 8} {d : Fin 184} (h : s.writable w (0x41100 + 4 * d))
include h

theorem domainGateRequest_effect : exec (.domainGateRequest w d) s = .next ((s.writeReq d 0).disarmed w) :=
  write32_effect h (by omega) (s.regWrite_domain w 0 d)

theorem domainWakeRequest_effect : exec (.domainWakeRequest w d) s = .next ((s.writeReq d 1).disarmed w) :=
  write32_effect h (by omega) (s.regWrite_domain w 1 d)

theorem islRst_effect :
    exec (.islRst w d) s = .next (((s.writeReq d (s.fld DOM_REQ d)).writeIslRst d).disarmed w) := by
  obtain ⟨req, rst⟩ := s.withField_islRst d
  refine write32_effect h (by omega) ?_
  rw [s.regWrite_domain w _ d, req, rst]
  rfl

end

/-! ### Requests of a domain (R529, R530) -/

section
variable {s : State} {d : Fin 184}

/-- Fields of one domain stand apart, also where a refusal is counted. -/
theorem State.fld_refuseGate (s : State) (d : Fin 184) (reason : Nat) {f : Field} (dom : f = DOM_DSTATE ∨ f = DOM_REQ) :
    (s.refuseGate d reason).fld f d = s.fld f d := by
  have stride : f.s1 = 4 ∧ f.base = 0x41100 ∧ f.lo < 4 := by rcases dom with rfl | rfl <;> decide
  obtain ⟨stride, base, lo⟩ := stride
  have key : f.key d 0 = 8 * (0x41100 + 4 * d.val) + f.lo := by
    unfold Field.key Field.off
    rw [stride, base]
    omega
  have refused : PWR_REFUSED_CNT.key 0 0 = 8 * 0x41008 := rfl
  have last : PWR_LAST_REFUSED.key 0 0 = 8 * 0x41004 := rfl
  have why : DOM_REFUSE.key d 0 = 8 * (0x41100 + 4 * d.val) + 4 := by
    simp [Field.key, Field.off, DOM_REFUSE]
    omega
  unfold State.refuseGate State.addFld
  dsimp only
  rw [fld_raise _ _ _ _ _ _ (by decide) (raiseKey_above (by omega) _ _), State.fld_setFld_ne _ _ _ _ _ _ _ _ (by omega),
    State.fld_setFld_ne _ _ _ _ _ _ _ _ (by omega), State.fld_setFld_ne _ _ _ _ _ _ _ _ (by omega)]

section
variable (on : s.fld DOM_DSTATE d ≠ 2)
include on

theorem State.writeReq_refused (reason : s.gateReason d ≠ 0) : s.writeReq d 0 = s.refuseGate d (s.gateReason d) :=
  (if_pos rfl).trans ((if_neg on).trans (if_pos reason))

/-- A domain without islands only begins to turn off. -/
theorem State.writeReq_accepted (free : s.gateReason d = 0) (noIslands : domainIslands d = []) :
    s.writeReq d 0 = (s.setFld DOM_REQ 0 d).setFld DOM_DSTATE 1 d := by
  refine (if_pos rfl).trans ((if_neg on).trans ((if_neg (not_not_intro free)).trans ?_))
  rw [noIslands]
  rfl

end

theorem State.gating_shows (s : State) (d : Nat) :
    ((s.setFld DOM_REQ 0 d).setFld DOM_DSTATE 1 d).fld DOM_DSTATE d = 1 ∧
      ((s.setFld DOM_REQ 0 d).setFld DOM_DSTATE 1 d).fld DOM_REQ d = 0 := by
  refine ⟨State.fld_setFld_self _ _ _ _ _, ?_⟩
  rw [State.fld_setFld_apart _ DOM_DSTATE DOM_REQ _ _ rfl (by decide)]
  exact State.fld_setFld_self _ _ _ _ _

end

/-- Settles O54: checks, switches and ramps by the guard under which each acts, and a domain's request by its reason. -/
theorem clockAndPowerEvents : Obligations.ClockAndPowerEvents := by
  refine ⟨fun s => ⟨roscOk_first, fun first => congrArg Host.Outcome.next (if_neg (by rw [first]; decide)), fun m en => ?_,
      fun m good rosc reference waited => clockReturn_reference good rosc reference waited, fun pll ref pending => ?_,
      fun i code waits => ?_, fun i r ramp runs single waited => ?_,
      fun w d h => ⟨domainGateRequest_effect h, domainWakeRequest_effect h, islRst_effect h⟩, fun d done => ?_⟩,
    fun s d => ⟨fun on reason => ?_, fun on free noIslands => ?_, fun off => (if_pos rfl).trans (if_pos off),
      fun locked => (if_neg (by decide)).trans (if_pos locked)⟩⟩
  · refine ⟨fun runs => ?_, fun stopped => ⟨?_, ?_⟩, fun compared ppm b => ?_⟩
    · simp [clockStopCheck_enabled en, runs]
    · simp [clockStopCheck_enabled en, stopped]
    · simp [clockStopCheck_enabled en, stopped]
    · dsimp only
      intro bound
      rw [clockFrequencyCheck_bounded en compared bound]
      refine ⟨fun beyond good => ?_, fun within bad => ?_, fun within good => ?_⟩
      · simp [beyond, good]
      · simp [Nat.not_lt.2 within, bad]
      · simp [Nat.not_lt.2 within, good]
  · rw [pllRelock_locks pending]
    exact ⟨fun h => by simp [h], fun h => by simp [h], fun h => by simp [h]⟩
  · refine ⟨fun runs => ?_, fun _ back => clkswForced_back waits back, fun stopped away shown => clkswForced_shown waits stopped away shown⟩
    rw [clockSwitchDone_waits waits, runs]
    rfl
  · dsimp only
    rw [icgRampStep_runs ramp runs single waited]
    exact ⟨fun goes => congrArg Host.Outcome.next (if_neg goes), fun ends => congrArg Host.Outcome.next (if_pos ends)⟩
  · refine ⟨fun gating off => (if_pos ⟨gating, done⟩).trans ?_, fun waking => if_pos ⟨waking, done⟩⟩
    exact congrArg Host.Outcome.next (if_neg (by rw [off]; decide))
  · rw [State.writeReq_refused on reason]
    exact ⟨s.fld_refuseGate d _ (.inl rfl), s.fld_refuseGate d _ (.inr rfl)⟩
  · rw [State.writeReq_accepted on free noIslands]
    exact s.gating_shows d

end Sys2Proof.Machine

/-! # Proofs: the registers of the Towpath, its transmissions and the frames it hears -/

namespace Sys2Proof.Machine
open Reg

/-! ### Register writes (R498 .. R500) -/

theorem State.regWrite_towpath (s : State) (w v : Nat) (b : Fin 2) {rel : Nat} (hr : rel < 0x1000) :
    s.regWrite w (0x71000 + 0x1000 * b + rel) v = s.writeTowpath (Blk.tow.at? (0x71000 + 0x1000 * b + rel)) b rel v := by
  have place : 0x71000 + 0x1000 * b.val + rel - 0x71000 - 0x1000 * b.val = rel := by omega
  unfold State.regWrite
  rw [blockAt_tow b.isLt (by omega) (by omega)]
  simp only [place]

theorem State.regWrite_towControl (s : State) (w v : Nat) (b : Fin 2) :
    s.regWrite w (0x71000 + 0x1000 * b) v = s.writeTow b v :=
  s.regWrite_towpath w v b (rel := 0) (by decide)

section
variable {s : State} {w : Fin 8} {b : Fin 2}

theorem towEnable_effect (h : s.writable w (0x71000 + 0x1000 * b)) (val : Word) :
    exec (.towEnable w b val) s = .next ((s.writeTow b (putBits val.toNat 0 1 1 % 2 ^ 32)).disarmed w) :=
  write32_effect h (by omega) (s.regWrite_towControl w _ b)

theorem towDisable_effect (h : s.writable w (0x71000 + 0x1000 * b)) (val : Word) :
    exec (.towDisable w b val) s = .next ((s.writeTow b (putBits val.toNat 0 1 0 % 2 ^ 32)).disarmed w) :=
  write32_effect h (by omega) (s.regWrite_towControl w _ b)

section
variable (h : s.writable w (0x71000 + 0x1000 * b + 8))
include h

theorem txGo_effect : exec (.txGo w b) s = .next ((s.towGo b).disarmed w) :=
  write32_effect h (by omega) (s.regWrite_towpath w 1 b (by decide))

theorem txFlush_effect : exec (.txFlush w b) s = .next ((s.towFlush b).disarmed w) :=
  write32_effect h (by omega) (s.regWrite_towpath w 2 b (by decide))

theorem rxPop_effect : exec (.rxPop w b) s = .next ((s.towPop b).disarmed w) :=
  write32_effect h (by omega) (s.regWrite_towpath w 4 b (by decide))

end

end

/-! ### What a bus holds -/

@[simp] theorem State.towRun_setTow (s : State) (b : Nat) (x : TowRun) : (s.setTow b x).towRun b = x :=
  Tab.get_set_self _ _ _

/-- A count, and the event it may raise, touch neither the buses nor the time. -/
theorem State.towCount_frame (s : State) (f : Field) (b j : Nat) :
    (s.towCount f b j).tow = s.tow ∧ (s.towCount f b j).time = s.time := by
  have raised : ∀ ev r, ev < 1024 → ((s.addFld f 1 b j).raise ev r).tow = s.tow ∧ ((s.addFld f 1 b j).raise ev r).time = s.time :=
    fun ev r hev => ⟨(raise_frame _ ev r hev).tow, (raise_frame _ ev r hev).time⟩
  unfold State.towCount
  dsimp only
  split
  · exact raised _ _ (by decide)
  · split
    · exact raised _ _ (by decide)
    · exact ⟨rfl, rfl⟩

/-- What a bus holds is read from the buses alone. -/
theorem State.towRun_of_tow {s t : State} (h : t.tow = s.tow) (b : Nat) : t.towRun b = s.towRun b :=
  congrArg (fun x : TowState => Tab.get _ x.buses b) h

/-- The driver's release and a count after it leave everything of the bus but the instant from which it is idle. -/
theorem State.towRun_released (s : State) (b : Nat) (bits : List Bool) (f : Field) :
    ((s.towRelease b bits).towCount f b).towRun b = { s.towRun b with idleFrom := s.time.grid } :=
  (State.towRun_of_tow (State.towCount_frame _ f b 0).1 b).trans (State.towRun_setTow _ b _)

theorem State.towRun_released_kept (s : State) (b : Nat) (bits : List Bool) (f : Field) :
    let y := ((s.towRelease b bits).towCount f b).towRun b
    y.colls = (s.towRun b).colls ∧ y.lfsr = (s.towRun b).lfsr ∧ y.tx = (s.towRun b).tx := by
  dsimp only
  rw [s.towRun_released]
  exact ⟨rfl, rfl, rfl⟩

/-! ### Transmissions (R493 .. R496, R499) -/

section
variable {s : State} {b : Fin 2}

/-- A frame starts 96 bit times after the bus fell idle. -/
theorem towTxStart_gap (idle : (s.towRun b).phase = .idle) (queued : (s.towRun b).tx ≠ []) (safe : s.safe = false)
    (gap : (s.towRun b).idleFrom + 3840 ≤ s.time.grid) : exec (.towTxStart b 0) s =
      .next ((s.setFld TOW_STUCK 0 b).setTow b { s.towRun b with
        phase := .sending, started := true, attempts := (s.towRun b).attempts + 1, startAt := s.time.grid }) :=
  if_pos ⟨idle, queued, safe, gap⟩

theorem towTxStart_early (early : s.time.grid < (s.towRun b).idleFrom + 3840) (n : Nat) :
    exec (.towTxStart b n) s = .next s :=
  if_neg fun h => Nat.not_le.2 early h.2.2.2

theorem towTxDone_sending (sending : (s.towRun b).phase = .sending) :
    let f := (s.towRun b).tx.headD []
    let t := (((s.towRelease b (towWire f)).towCount TOW_TX_OK b).towCount TOW_TX_SIZE b (towBin (towByte f 3))).towCount
      TOW_TX_TYPEG b (towByte f 2 / 32)
    exec (.towTxDone b) s = .next ((t.setTow b { t.towRun b with failed := false }).towLeave b 1) :=
  if_pos sending

section
variable (jam : (s.towRun b).phase = .jam)
include jam

theorem towJamEnd_late (late : (s.towRun b).late = true) : exec (.towJamEnd b) s =
    .next (((s.towRelease b (s.towJammed b)).towCount TOW_TX_LATE b).towLeave b 3) :=
  (if_neg (not_not_intro jam)).trans (if_pos late)

variable (early : (s.towRun b).late = false)
include early

/-- A collision that is not the sixteenth draws the wait from the register as it stands. -/
theorem towJamEnd_waits (more : (s.towRun b).colls + 1 ≠ 16) :
    let t := (s.towRelease b (s.towJammed b)).towCount TOW_TX_COLL b
    let y := t.towRun b
    exec (.towJamEnd b) s = .next (t.setTow b { y with
      colls := y.colls + 1
      phase := .backoff (t.time.grid + 20480 * (y.lfsr.toNat * 2 ^ min (y.colls + 1) 10 / 2 ^ 32)) }) := by
  refine (if_neg (not_not_intro jam)).trans ((if_neg (by rw [early]; decide)).trans (if_neg ?_))
  rw [State.towRun_released]
  exact more

/-- The sixteenth collision discards the frame, and the eighth frame discarded in a row raises the event. -/
theorem towJamEnd_discards (last : (s.towRun b).colls + 1 = 16) :
    let t := (s.towRelease b (s.towJammed b)).towCount TOW_TX_COLL b
    let u := (t.towCount TOW_TX_EXCESS b).towLeave b 2
    let v := u.setTow b { u.towRun b with excess := (u.towRun b).excess + 1 }
    exec (.towJamEnd b) s = .next (if (u.towRun b).excess + 1 = 8
      then (v.setTow b { v.towRun b with excess := 0 }).towFail b 2 else v) := by
  refine (if_neg (not_not_intro jam)).trans ((if_neg (by rw [early]; decide)).trans (if_pos ?_))
  rw [State.towRun_released]
  exact last

/-- The wait is a whole number of slot times below the bound that the collisions so far set. -/
theorem towJamEnd_wait {t : State} {dest : Nat} (few : (s.towRun b).colls < 15) (next : exec (.towJamEnd b) s = .next t)
    (waits : (t.towRun b).phase = .backoff dest) :
    ∃ r, r < 2 ^ min ((s.towRun b).colls + 1) 10 ∧ dest = s.time.grid + 20480 * r ∧
      (t.towRun b).colls = (s.towRun b).colls + 1 ∧ (t.towRun b).tx = (s.towRun b).tx := by
  obtain ⟨colls, -, tx⟩ := s.towRun_released_kept b (s.towJammed b) TOW_TX_COLL
  cases (towJamEnd_waits jam early (by omega)).symm.trans next
  rw [State.towRun_setTow] at waits ⊢
  have wait := (TowPhase.backoff.inj waits).symm
  rw [(State.towCount_frame _ _ _ _).2] at wait
  refine ⟨_, ?_, wait, congrArg (· + 1) colls, tx⟩
  rw [← colls]
  exact Nat.div_lt_of_lt_mul (Nat.mul_lt_mul_of_pos_right (BitVec.isLt _) (Nat.two_pow_pos _))

end

theorem towBackoffEnd_waits {dest : Nat} (waits : (s.towRun b).phase = .backoff dest) : exec (.towBackoffEnd b) s =
    .next (if dest ≤ s.time.grid then s.setTow b { s.towRun b with phase := .idle } else s) := by
  rw [exec_towBackoffEnd, execTowBackoffEnd, waits]

/-! ### TX_GO (R499) -/

theorem State.towGo_full (full : 4 ≤ (s.towRun b).tx.length) : (s.towGo b).fld TOW_TX_ERR_CAUSE b = 1 := by
  unfold State.towGo
  dsimp only
  rw [if_pos full, if_pos (by decide)]
  exact State.fld_setFld_self _ _ _ _ _

section
variable (room : (s.towRun b).tx.length < 4)
include room

theorem State.towGo_long (long : 240 < bitField (s.fld TOW_TX_BUF b 0) 24 8) : (s.towGo b).fld TOW_TX_ERR_CAUSE b = 2 := by
  unfold State.towGo
  dsimp only
  rw [if_neg (Nat.not_le.2 room), if_pos long, if_pos (by decide)]
  exact State.fld_setFld_self _ _ _ _ _

/-- A frame that nothing is wrong with is queued last, under the station's own address. -/
theorem State.towGo_queues (fits : bitField (s.fld TOW_TX_BUF b 0) 24 8 ≤ 240) (addr : s.fld TOW_ADDR b ≠ 0)
    (en : s.fldOn TOW_EN b = true) : s.towGo b = s.setTow b { s.towRun b with
      tx := (s.towRun b).tx ++ [setAt (s.towBuf b (4 + bitField (s.fld TOW_TX_BUF b 0) 24 8)) 1 (s.fld TOW_ADDR b)] } := by
  unfold State.towGo
  dsimp only
  rw [if_neg (Nat.not_le.2 room), if_neg (Nat.not_lt.2 fits), if_neg addr, if_pos en, if_neg (by decide)]

end

@[simp] theorem State.length_towBuf (s : State) (b n : Nat) : (s.towBuf b n).length = n := by
  unfold State.towBuf
  rw [List.length_map, List.length_range]

/-- The byte that a frame carries as its source. -/
theorem towByte_setAt {f : List Nat} (long : 1 < f.length) (v : Nat) : towByte (setAt f 1 v) 1 = v := by
  simp [towByte, setAt, long]

/-! ### Frames heard (R497, R498, R501) -/

section
variable (en : s.fldOn TOW_EN b = true) (free : (s.towRun b).phase ≠ .sending) (clear : (s.towRun b).phase ≠ .jam)
include en free clear

/-- The first check that a frame fails is counted. -/
theorem towFrameReceive_fails (f : TowWire) {c : Field}
    (fails : towCheck (((s.setFld TOW_STUCK 0 b).setTow b { s.towRun b with idleFrom := s.time.grid }).towBroken b f) = some c) :
    exec (.towFrameReceive b f) s =
      .next (((s.setFld TOW_STUCK 0 b).setTow b { s.towRun b with idleFrom := s.time.grid }).towCount c b) := by
  dsimp only at fails
  rw [exec_towFrameReceive, execTowFrameReceive]
  dsimp only
  rw [if_neg (by simp [en, free, clear]), fails]

/-- A frame that passes every check carries the bus on; its address and its type then decide. -/
theorem towFrameReceive_passes (f : TowWire)
    (passes : towCheck (((s.setFld TOW_STUCK 0 b).setTow b { s.towRun b with idleFrom := s.time.grid }).towBroken b f) = none) :
    let t := (s.setFld TOW_STUCK 0 b).setTow b { s.towRun b with idleFrom := s.time.grid }
    let bs := f.bytes.map (·.toNat)
    let u := t.setTow b { t.towRun b with failed := false }
    let ty := towByte bs 2
    (∀ k, u.towKind b (towByte bs 0) = some k → bitAt (u.fld TOW_TYPE_MASK b (ty / 32)) (ty % 32) = true →
      exec (.towFrameReceive b f) s = .next (u.towAccept b k bs f.time.toNat)) ∧
    (u.towKind b (towByte bs 0) = none ∨ bitAt (u.fld TOW_TYPE_MASK b (ty / 32)) (ty % 32) = false →
      exec (.towFrameReceive b f) s = .next (u.towCount TOW_RX_FILTERED b)) := by
  dsimp only at passes ⊢
  rw [exec_towFrameReceive, execTowFrameReceive]
  dsimp only
  rw [if_neg (by simp [en, free, clear]), passes]
  dsimp only
  refine ⟨fun k kind mask => ?_, fun filtered => ?_⟩
  · rw [kind]
    exact if_pos mask
  · rcases filtered with unknown | masked
    · rw [unknown]
    · split
      · exact if_neg (by rw [masked]; decide)
      · rfl

end

end

/-- Settles O55: registers by the word they write, transmissions by the phase of the bus, frames by the first check they fail;
and the waits and queued frames with their bounds. -/
theorem towpathCommands : Obligations.TowpathCommands := by
  refine ⟨fun s b => ?_, fun s t b dest jam early few next waits => towJamEnd_wait jam early few next waits, fun s b => ?_⟩
  · refine ⟨fun w val => ⟨fun h => ⟨towEnable_effect h val, towDisable_effect h val⟩,
        fun h => ⟨txGo_effect h, txFlush_effect h, rxPop_effect h⟩⟩,
      fun idle queued safe => ⟨fun gap => towTxStart_gap idle queued safe gap, fun early n => towTxStart_early early n⟩,
      fun sending => ⟨fun n => if_pos sending, towTxDone_sending sending⟩,
      fun jam => ⟨fun late => towJamEnd_late jam late, fun early more => ?_, fun early last => ?_,
        s.towRun_released_kept b (s.towJammed b) TOW_TX_COLL⟩,
      fun dest waits => ⟨fun due => ?_, fun soon => ?_⟩, fun en => congrArg Host.Outcome.next (if_pos en),
      fun en free clear f => ⟨fun c fails => towFrameReceive_fails en free clear f fails,
        fun passes => towFrameReceive_passes en free clear f passes⟩⟩
    · rw [(s.towRun_released_kept b (s.towJammed b) TOW_TX_COLL).1] at more
      exact towJamEnd_waits jam early more
    · rw [(s.towRun_released_kept b (s.towJammed b) TOW_TX_COLL).1] at last
      exact towJamEnd_discards jam early last
    · rw [towBackoffEnd_waits waits, if_pos due]
    · rw [towBackoffEnd_waits waits, if_neg (Nat.not_le.2 soon)]
  · refine ⟨State.towGo_full, State.towGo_long, fun room fits addr en => ?_⟩
    rw [State.towGo_queues room fits addr en, State.towRun_setTow]
    have long : 1 < (s.towBuf b (4 + bitField (s.fld TOW_TX_BUF b 0) 24 8)).length := by
      rw [State.length_towBuf]
      omega
    simp only [List.getLast?_concat, Option.map_some, towByte_setAt long]
    exact ⟨List.length_append, trivial, congrArg some (by simp [setAt])⟩

end Sys2Proof.Machine

/-! # Proofs: flash commands, settings and fuses -/

namespace Sys2Proof.Machine
open Reg

/-! ### Register writes (R512, R516, R517, R520, R525) -/

theorem State.regWrite_boot (s : State) (w v : Nat) {rel : Nat} (hr : rel < 0x1000) :
    s.regWrite w (0x42000 + rel) v = s.writeBoot (Blk.boot.at? (0x42000 + rel)) rel v := by
  have place : 0x42000 + rel - 0x42000 = rel := by omega
  unfold State.regWrite
  rw [blockAt_boot (by omega) (by omega)]
  simp only [Nat.zero_mul, Nat.sub_zero, place]

section
variable {s : State} {w : Fin 8}

theorem flDataWrite_effect (h : s.writable w 0x42024) (val : Word) :
    exec (.flDataWrite w val) s = .next ((s.writeFlData val.toNat).disarmed w) := by
  refine write32_effect h (by decide) ?_
  rw [Nat.mod_eq_of_lt val.isLt]
  exact s.regWrite_boot w _ (rel := 0x24) (by decide)

/-- A write of FL_CMD gives its command. -/
theorem flCmd_effect (h : s.writable w 0x42028) (c : Nat) :
    (Host.Outcome.next (s.write32 w 0x42028 c) : Host.Outcome State Fault Refusal) =
      .next ((s.flashCmd (bitField (c % 2 ^ 32) 0 4)).disarmed w) :=
  write32_effect h (by decide) (s.regWrite_boot w _ (rel := 0x28) (by decide))

/-- FUSE_KEY is the one register write of P0 that does not disarm: it arms where the key is the one of R520. -/
theorem fuseKey_effect (p0 : w.val = 0) (h : s.writable w 0x42040) (val : Word) : exec (.fuseKey w val) s =
    .next (({ s with boot := { s.boot with armed := decide (val = 0xD8C10A55) } }).hostCrossed 0) := by
  obtain ⟨bar, safe, -⟩ := h
  have running : s.safe = false := by
    cases safe' : s.safe with
    | false => rfl
    | true => exact absurd (safe safe') (by decide)
  have key : decide (val.toNat = 0xD8C10A55) = decide (val = 0xD8C10A55) := by
    simp [← BitVec.toNat_inj]
  have accepted : s.acceptWrite w 0x42040 val.toNat = s.writeFuseKey val.toNat := by
    unfold State.acceptWrite
    rw [blockAt_boot (by decide) (by decide), if_neg (fun h => h.2 rfl)]
    dsimp only
    rw [running]
    exact s.regWrite_boot w _ (rel := 0x40) (by decide)
  rw [exec_fuseKey, execFuseKey]
  unfold State.write32 State.hostWrite
  rw [bar]
  dsimp only
  rw [Nat.mod_eq_of_lt val.isLt, accepted, p0]
  unfold State.writeFuseKey
  rw [key]
  rfl

theorem blowDbg_effect (p0 : w.val = 0) (h : s.writable w 0x42044) : exec (.blowDbg w) s =
    .next (({ s with boot := { s.boot with armed := false, blownDbg := s.boot.blownDbg || s.boot.armed } }).hostCrossed 0) := by
  have blown : s.regWrite w 0x42044 (1 % 2 ^ 32) = s.blowDbg := s.regWrite_boot w 1 (rel := 0x44) (by decide)
  rw [exec_blowDbg, execBlowDbg, write32_effect h (by decide) blown, p0]
  rfl

end

/-! ### The end of an operation (R516, R517) -/

section
variable {s : State}

theorem flashOpDone_erase {a : Nat} (op : s.boot.op = some (.erase a)) (ok : Bool) : exec (.flashOpDone ok) s =
    .next (if ok then s.flashIdle.flashErase a 65536 else s.flashIdle.flashErr 3) := by
  rw [exec_flashOpDone, execFlashOpDone, op]

theorem flashOpDone_program {a : Nat} {page : List Nat} (op : s.boot.op = some (.program a page)) (ok : Bool) :
    exec (.flashOpDone ok) s = .next (if ok then s.flashIdle.flashWrite a page else s.flashIdle.flashErr 3) := by
  rw [exec_flashOpDone, execFlashOpDone, op]

theorem flashOpDone_pref {b : Nat} (op : s.boot.op = some (.pref b)) (ok : Bool) : exec (.flashOpDone ok) s =
    .next (if ok then s.flashIdle.writeBootControl b else s.flashIdle.flashErr 3) := by
  rw [exec_flashOpDone, execFlashOpDone, op]

theorem flashOpDone_save {c : Nat} {x : SettingsCopy} (op : s.boot.op = some (.save c x)) (ok : Bool) :
    exec (.flashOpDone ok) s = .next (if ok then s.flashIdle.putSettings c x else s.flashIdle.flashErr 3) := by
  rw [exec_flashOpDone, execFlashOpDone, op]

/-- The target is written only under the booted image's digest, and without an error of the flash. -/
theorem State.applyDelta_written {ok : Bool} (written : (s.applyDelta ok).2 = 0) : s.deltaBaseGood = true ∧ ok = true := by
  cases base : s.deltaBaseGood with
  | false =>
    refine absurd written ?_
    unfold State.applyDelta
    dsimp only
    rw [base]
    split
    · exact Nat.succ_ne_zero 5
    · exact Nat.succ_ne_zero 3
  | true =>
    cases ok with
    | true => exact ⟨rfl, rfl⟩
    | false =>
      refine absurd written ?_
      unfold State.applyDelta
      dsimp only
      rw [base]
      split
      · exact Nat.succ_ne_zero 5
      · rw [if_neg (by decide)]
        split
        · exact Nat.succ_ne_zero 5
        · exact Nat.succ_ne_zero 2

theorem fwDeltaDone_delta (op : s.boot.op = some .delta) (readOk eraseOk programOk : Bool) :
    let x := s.flashIdle.applyDelta (readOk && eraseOk && programOk)
    exec (.fwDeltaDone readOk eraseOk programOk) s = .next ((if x.2 = 0 then x.1 else x.1.flashErr x.2).raise Ev.FW_DELTA_DONE
      { data := x.2 + 2 ^ 32 * s.flashNat (stagingBase + 8) 4 }) := by
  rw [exec_fwDeltaDone, execFwDeltaDone, if_pos op]

theorem settingsAutosave_due (due : s.autosaveDue = true) :
    let t := s.putSettings s.settingsNext.1 s.settingsNow
    exec .settingsAutosave s = .next { t with boot := { t.boot with
      savedRetired := t.store.retiredQp.length, lastSave := t.time.grid } } := by
  rw [exec_settingsAutosave, execSettingsAutosave, if_pos due]

theorem settingsMigrated_copy (migrating : s.fldOn BOOT_MIGRATING = true) (service : s.inService = true) {x : SettingsCopy}
    (copy : s.settingsCopy (s.boot.copyUsed - 1) = some x) :
    let y := { x with fmtVer := s.boot.image.setVer, seq := (x.seq + 1) % 2 ^ 32 }
    exec (.settingsMigrated true) s = .next ((((s.putSettings (1 - (s.boot.copyUsed - 1)) y).setFld BOOT_MIGRATING 0).setFld
      BOOT_SET_VER y.fmtVer).raise Ev.SETTINGS_MIGRATED { data := x.fmtVer + 2 ^ 16 * y.fmtVer }) := by
  rw [exec_settingsMigrated, execSettingsMigrated]
  dsimp only
  rw [if_pos ⟨migrating, service, rfl⟩, copy]

end

/-! ### Refused commands, and what an erase reaches (R516) -/

theorem State.flashErr_cause (s : State) (cause : Nat) : (s.flashErr cause).fld BOOT_FL_CAUSE = cause % 2 ^ 4 :=
  State.fld_setFld_self _ _ _ _ _

section
variable {s : State}

theorem State.flashCmds_protected (prot : s.flashProtected (s.fld BOOT_FL_ADDR) = true) :
    s.eraseCmd = s.flashErr 1 ∧ s.programCmd = s.flashErr 1 :=
  ⟨if_pos prot, if_pos prot⟩

section
variable (busy : s.fldOn BOOT_FL_BUSY = true)
include busy

theorem State.flashCmds_busy (free : s.flashProtected (s.fld BOOT_FL_ADDR) = false) :
    s.eraseCmd = s.flashErr 2 ∧ s.programCmd = s.flashErr 2 :=
  ⟨(if_neg (by rw [free]; decide)).trans (if_pos busy), (if_neg (by rw [free]; decide)).trans (if_pos busy)⟩

theorem State.deltaCmd_busy : s.deltaCmd = s.flashErr 2 := if_pos busy

theorem State.prefCmd_busy (b : Nat) : s.prefCmd b = s.flashErr 2 := if_pos busy

end

/-- An erase leaves the bytes beside its span. -/
theorem State.flashErase_beside (s : State) {a n b : Nat} (beside : b < a ∨ a + n ≤ b) :
    (s.flashErase a n).flashByte b = s.flashByte b := by
  unfold State.flashByte State.flashErase Tab.get
  dsimp only
  rw [Tab.find?_filter_key _ (fun k => decide (k < a ∨ a + n ≤ k)), if_pos (decide_eq_true beside)]

/-- An erased byte reads 0xFF. -/
theorem State.flashErase_erased (s : State) {a n b : Nat} (lo : a ≤ b) (hi : b < a + n) :
    (s.flashErase a n).flashByte b = 255 := by
  unfold State.flashByte State.flashErase Tab.get
  dsimp only
  rw [Tab.find?_filter_key _ (fun k => decide (k < a ∨ a + n ≤ k)), if_neg (by simp; omega)]
  rfl

end

/-- Settles O59: commands by the word written, operations by the one that runs, refusals by what bars them. -/
theorem firmwareCommands : Obligations.FirmwareCommands := by
  refine ⟨fun s => ⟨fun w => ⟨flDataWrite_effect, fun h => ?_, fuseKey_effect, blowDbg_effect⟩,
      fun a op => ⟨flashOpDone_erase op true, flashOpDone_erase op false⟩, fun a page op => flashOpDone_program op true,
      fun b op => flashOpDone_pref op true, fun c x op => flashOpDone_save op true,
      fun op readOk eraseOk programOk => ⟨State.applyDelta_written, fwDeltaDone_delta op readOk eraseOk programOk⟩,
      fun migrating service x copy => settingsMigrated_copy migrating service copy, settingsAutosave_due⟩,
    fun s => ⟨fun prot => ?_, fun free busy => ?_, fun busy => ?_, fun a n b => s.flashErase_beside,
      fun a n b => s.flashErase_erased⟩⟩
  · exact ⟨flCmd_effect h 1, flCmd_effect h 2, flCmd_effect h 3, flCmd_effect h 4, flCmd_effect h 5, flCmd_effect h 6⟩
  · obtain ⟨erase, program⟩ := State.flashCmds_protected prot
    rw [erase, program]
    exact ⟨s.flashErr_cause 1, s.flashErr_cause 1, rfl⟩
  · obtain ⟨erase, program⟩ := State.flashCmds_busy busy free
    rw [erase, program]
    exact ⟨s.flashErr_cause 2, s.flashErr_cause 2, rfl⟩
  · refine ⟨?_, fun b => ?_⟩
    · rw [State.deltaCmd_busy busy]
      exact s.flashErr_cause 2
    · rw [State.prefCmd_busy busy]
      exact s.flashErr_cause 2

end Sys2Proof.Machine

/-! # Proofs: the debug port, its bus accesses, and the arbitration of the interconnect -/

namespace Sys2Proof.Machine
open Reg

/-! ### Scans of the TAP (R534, R537) -/

/-- A scan of DBG_ACCESS while its instruction is loaded and the last result comes out. -/
def State.scanned (s : State) : State := (s.scanIr 0x10).emit (.scan 56 s.captured)

/-- Of the debug port an instruction scan changes the loaded instruction alone. -/
theorem State.scanIr_dbg (s : State) (code : Nat) : (s.scanIr code).dbg = { s.dbg with ir := code } := by
  unfold State.scanIr
  split
  · next loaded =>
    rw [← loaded]
  · rfl

/-- An instruction scan leaves registers, cores, boot state and memories. -/
theorem State.scanIr_frame (s : State) (code : Nat) : (s.scanIr code).regs = s.regs ∧ (s.scanIr code).probe = s.probe ∧
    (s.scanIr code).boot = s.boot ∧ (s.scanIr code).anc = s.anc := by
  unfold State.scanIr
  split <;> exact ⟨rfl, rfl, rfl, rfl⟩

theorem State.scanIr_killed (s : State) (code : Nat) : (s.scanIr code).dbg.killed = s.dbg.killed :=
  by rw [s.scanIr_dbg]

theorem State.scanIr_captured (s : State) (code : Nat) : (s.scanIr code).captured = s.captured := by
  unfold State.captured
  rw [s.scanIr_dbg]

theorem State.scanned_dbg (s : State) : s.scanned.dbg = { s.dbg with ir := 0x10 } := s.scanIr_dbg 0x10

theorem State.scanned_op (s : State) : s.scanned.dbg.op = s.dbg.op := by rw [s.scanned_dbg]

theorem State.fldOn_scanned (s : State) (f : Field) (i : Nat) : s.scanned.fldOn f i = s.fldOn f i := by
  have regs : s.scanned.regs = s.regs := (s.scanIr_frame 0x10).1
  unfold State.fldOn State.fld
  rw [regs]

theorem State.gated_scanned (s : State) (d : Nat) : s.scanned.gated d = s.gated d := by
  have regs : s.scanned.regs = s.regs := (s.scanIr_frame 0x10).1
  unfold State.gated State.fld
  rw [regs]

section
variable {s : State}

theorem State.scanned_idle (idle : s.dbg.op = none) : ¬s.scanned.dbg.op.isSome = true := by
  rw [s.scanned_op, idle]
  decide

/-- After DBG_KILL a scan of DBG_ACCESS is one of a one-bit bypass. -/
theorem State.dbgScan_killed (killed : s.dbg.killed = true) (off : Nat) (v : Option Nat) :
    s.dbgScan off v = (s.scanIr 0x10).emit (.scan 1 0) :=
  if_pos ((s.scanIr_killed _).trans killed)

section
variable (live : s.dbg.killed = false)
include live

theorem State.dbgScan_live (off : Nat) (v : Option Nat) : s.dbgScan off v = s.scanned.dbgUpdate off v := by
  unfold State.dbgScan
  dsimp only
  rw [if_neg (by rw [s.scanIr_killed, live]; decide), s.scanIr_captured]
  rfl

/-- While an operation runs, Update-DR starts none. -/
theorem State.dbgScan_busy (busy : s.dbg.op.isSome = true) (off : Nat) (v : Option Nat) : s.dbgScan off v = s.scanned := by
  rw [State.dbgScan_live live]
  exact if_pos (by rw [s.scanned_op]; exact busy)

variable (idle : s.dbg.op = none)
include idle

theorem State.dbgScan_attach (v : Nat) : s.dbgScan 0 (some v) = (s.scanned.writeAttach (v % 2)).beginOpen 0 :=
  (State.dbgScan_live live 0 _).trans ((if_neg (State.scanned_idle idle)).trans (if_pos rfl))

section
variable {off : Nat} (inside : off ≠ 0)
include inside

/-- Without ATTACH an operation answers LOCKED. -/
theorem State.dbgScan_locked (locked : s.fldOn DBG_ATTACH = false) (v : Option Nat) :
    s.dbgScan off v = s.scanned.beginOpen 3 := by
  have detached : ¬s.scanned.fldOn DBG_ATTACH = true := by
    rw [s.fldOn_scanned, locked]
    decide
  exact (State.dbgScan_live live off v).trans
    ((if_neg (State.scanned_idle idle)).trans ((if_neg inside).trans (if_pos detached)))

variable (attached : s.fldOn DBG_ATTACH = true) (powered : s.gated 183 = false)
include attached powered

/-- Of an attached port an operation reads or writes the debug space. -/
theorem State.dbgScan_attached (v : Option Nat) : s.dbgScan off v = v.elim (s.scanned.dbgReadAt off) (s.scanned.dbgWriteAt off) := by
  have open' : ¬¬s.scanned.fldOn DBG_ATTACH = true := by
    rw [s.fldOn_scanned, attached]
    decide
  have on : ¬s.scanned.gated 183 = true := by
    rw [s.gated_scanned, powered]
    decide
  refine (State.dbgScan_live live off v).trans
    ((if_neg (State.scanned_idle idle)).trans ((if_neg inside).trans ((if_neg open').trans ((if_neg on).trans ?_))))
  cases v <;> rfl

end

end

/-! ### Without ATTACH (R537) -/

/-- What a debug write leaves alone that is not let through. -/
structure DebugFrame (s t : State) : Prop where
  regs : t.regs = s.regs
  probe : t.probe = s.probe
  boot : t.boot = s.boot
  anc : t.anc = s.anc
  cores : t.dbg.cores = s.dbg.cores
  cmem : t.dbg.cmem = s.dbg.cmem

/-- An instruction scan, what leaves the port beside it, and an operation that only answers. -/
theorem State.scanIr_debugFrame (s : State) (code : Nat) : DebugFrame s (s.scanIr code) := by
  obtain ⟨regs, probe, boot, anc⟩ := s.scanIr_frame code
  exact ⟨regs, probe, boot, anc, by rw [s.scanIr_dbg], by rw [s.scanIr_dbg]⟩

theorem DebugFrame.emit {s t : State} (h : DebugFrame s t) (o : Output) : DebugFrame s (t.emit o) :=
  ⟨h.regs, h.probe, h.boot, h.anc, h.cores, h.cmem⟩

theorem DebugFrame.beginOpen {s t : State} (h : DebugFrame s t) (status : Nat) : DebugFrame s (t.beginOpen status) :=
  ⟨h.regs, h.probe, h.boot, h.anc, h.cores, h.cmem⟩

theorem State.scanned_debugFrame (s : State) : DebugFrame s s.scanned := (s.scanIr_debugFrame 0x10).emit _

/-- Without ATTACH a scan changes nothing but the port itself. -/
theorem State.dbgScan_debugFrame (locked : s.fldOn DBG_ATTACH = false) {off : Nat} (inside : off ≠ 0) (v : Option Nat) :
    DebugFrame s (s.dbgScan off v) := by
  cases live : s.dbg.killed with
  | true =>
    rw [State.dbgScan_killed live]
    exact (s.scanIr_debugFrame _).emit _
  | false =>
    cases idle : s.dbg.op with
    | some o =>
      rw [State.dbgScan_busy live (by rw [idle]; rfl)]
      exact s.scanned_debugFrame
    | none =>
      rw [State.dbgScan_locked live idle inside locked]
      exact s.scanned_debugFrame.beginOpen 3

end

/-! ### Bus accesses and error responses (R539, R544, R546, R548) -/

section
variable {s : State}

theorem dbgOperationDone_publishes {o : DbgOp} (op : s.dbg.op = some o) (own : o.bus = false) : exec .dbgOperationDone s =
    .next { s with dbg := { s.dbg with op := none, status := o.status, data := o.data } } := by
  rw [exec_dbgOperationDone, execDbgOperationDone, op]
  dsimp only
  rw [own, if_neg (by decide)]
  unfold State.publishOp
  rw [op]

section
variable {x : BusAccess} (access : s.dbg.access = some x)
include access

theorem State.accessTimeout_runs : s.accessTimeout =
    if s.expired x.since (s.fld IC_TIMEOUT_US) 1000 then s.icTimedOut.failAccess x 2 else s := by
  unfold State.accessTimeout
  rw [access]

theorem busAccessDone_unmapped (unmapped : busTarget x.addr = none) (answer : BusAnswer) :
    exec (.busAccessDone answer) s = .next (s.failAccess x 1) := by
  rw [exec_busAccessDone, execBusAccessDone]
  unfold State.accessDone
  rw [access]
  dsimp only
  rw [unmapped]

section
variable {t : BusTarget} (target : busTarget x.addr = some t)
include target

theorem busAccessDone_timeout : exec (.busAccessDone .timeout) s =
    .next (if s.expired x.since (s.fld IC_TIMEOUT_US) 1000 then s.icTimedOut.failAccess x 2 else s) := by
  rw [exec_busAccessDone, execBusAccessDone, ← State.accessTimeout_runs access]
  unfold State.accessDone
  rw [access]
  dsimp only
  rw [target]

/-- An answer ends the access once its request no longer waits. -/
theorem busAccessDone_data (d : Word) : exec (.busAccessDone (.data d)) s =
    .next (if s.icWaits 11 then s
      else x.write.elim ((s.busRead t d.toNat).1.endAccess (some (s.busRead t d.toNat).2) 0)
        (fun v => (s.busWrite t v).endAccess none 0)) := by
  rw [exec_busAccessDone, execBusAccessDone]
  unfold State.accessDone
  rw [access]
  dsimp only
  rw [target]
  cases x.write <;> rfl

end

end

section
variable {t : Fin 14} {m : Fin 12} (reaches : masterReaches m t = true) (other : m.val ≠ 11) {x : Unanswered}
include reaches other

theorem icTimeout_reached : exec (.icTimeout (some t) m x) s =
    .next (if 1000 * s.fld IC_TIMEOUT_US ≤ x.waited then s.icTimedOut else s) := by
  rw [exec_icTimeout, execIcTimeout]
  rw [if_neg (by rw [reaches]; decide), if_neg other]
  split <;> rfl

end

theorem icTimeout_unreached {t : Fin 14} {m : Fin 12} (unreached : masterReaches m t = false) (x : Unanswered) :
    exec (.icTimeout (some t) m x) s = .next (s.decodeError m x.addr.toNat) :=
  if_pos unreached

end

/-! ### Arbitration (R545) -/

/-- A request that goes before another has no lower effective QoS, and one that does not has no higher. -/
theorem State.goesBefore_qos (s : State) (a b : IcReq) :
    if s.goesBefore a b then s.effQos b ≤ s.effQos a else s.effQos a ≤ s.effQos b := by
  cases order : s.goesBefore a b with
  | true =>
    simp only [State.goesBefore, Bool.or_eq_true, decide_eq_true_eq, Bool.and_eq_true, beq_iff_eq] at order
    show s.effQos b ≤ s.effQos a
    omega
  | false =>
    simp only [State.goesBefore, Bool.or_eq_false_iff, decide_eq_false_iff_not] at order
    exact Nat.not_lt.1 order.1

/-- The request served first is one of those that wait, and of the highest effective QoS. -/
theorem State.firstServed_highest (s : State) (rs : List IcReq) {r : IcReq} (first : s.firstServed rs = some r) :
    r ∈ rs ∧ ∀ q ∈ rs, s.effQos q ≤ s.effQos r := by
  induction rs generalizing r with
  | nil => cases first
  | cons a rest ih =>
    rw [State.firstServed] at first
    cases later : s.firstServed rest with
    | none =>
      have empty : rest = [] := by
        cases rest with
        | nil => rfl
        | cons b bs =>
          rw [State.firstServed] at later
          split at later <;> cases later
      rw [later] at first
      cases first
      simp [empty]
    | some q =>
      obtain ⟨mem, highest⟩ := ih later
      rw [later] at first
      cases first
      have order := s.goesBefore_qos q a
      simp only [List.mem_cons, forall_eq_or_imp]
      cases before : s.goesBefore q a with
      | true =>
        rw [before] at order
        exact ⟨.inr mem, order, highest⟩
      | false =>
        rw [before] at order
        exact ⟨.inl rfl, Nat.le_refl _, fun p hp => Nat.le_trans (highest p hp) order⟩

/-- The master granted last is the last served. -/
theorem IcState.sinceServed_grant (x : IcState) (t m : Nat) : (x.grant t m).sinceServed t m = 0 := by
  unfold IcState.sinceServed IcState.grant
  rw [Tab.get_set_self]
  exact List.idxOf_cons_self

/-! ### DEC_SEEN (R548) -/

/-- Writing 1 to DEC_SEEN clears it, whatever it was. -/
theorem decSeen_effect {s : State} {w : Fin 8} (h : s.writable w 0x43054) :
    exec (.decSeen w) s = .next ((s.setFld IC_DEC_SEEN 0).disarmed w) := by
  refine write32_effect h (by decide) ?_
  have cleared : s.fld IC_DEC_SEEN - (s.fld IC_DEC_SEEN &&& 1) = 0 := by
    have small : s.fld IC_DEC_SEEN < 2 := s.fld_lt IC_DEC_SEEN 0 0
    rw [Nat.and_one_is_mod]
    omega
  unfold State.regWrite
  rw [blockAt_ic (by decide) (by decide)]
  show s.setFld IC_DEC_SEEN (s.fld IC_DEC_SEEN - (s.fld IC_DEC_SEEN &&& 1)) = s.setFld IC_DEC_SEEN 0
  rw [cleared]

/-- Settles O60: scans by whether the port is killed, attached and idle, accesses by the answer, requests by their order. -/
theorem debugCommands : Obligations.DebugCommands := by
  refine ⟨fun s => ?_, fun s a v inside locked => ?_⟩
  · intro ir shifted scan
    have irs : ∀ code, ir code = s.scanIr code := fun _ => rfl
    have shifts : ∀ t, shifted t = t.boundaryScan := fun _ => rfl
    have scans : scan = s.scanned := rfl
    simp only [irs, shifts, scans]
    refine ⟨rfl, rfl, rfl, rfl, rfl, rfl, rfl, rfl, fun killed => ?_, fun live idle => ?_,
      fun o op own => dbgOperationDone_publishes op own, fun x access => ⟨fun t target => ?_, busAccessDone_unmapped access⟩,
      fun t m x => ⟨fun reaches other long => ?_, fun reaches other short => ?_, fun unreached => icTimeout_unreached unreached x,
        rfl⟩,
      fun rs r first => s.firstServed_highest rs first, s.ic.sinceServed_grant, fun w h => decSeen_effect h⟩
    · exact ⟨congrArg Host.Outcome.next (State.dbgScan_killed killed _ _),
        congrArg Host.Outcome.next (State.dbgScan_killed killed _ _)⟩
    · refine ⟨congrArg Host.Outcome.next (State.dbgScan_attach live idle 1),
        congrArg Host.Outcome.next (State.dbgScan_attach live idle 0), fun attached powered => ?_⟩
      have read : ∀ off, off ≠ 0 → s.dbgScan off none = s.scanned.dbgReadAt off := fun off inside =>
        State.dbgScan_attached live idle inside attached powered none
      have write : ∀ off v, off ≠ 0 → s.dbgScan off (some v) = s.scanned.dbgWriteAt off v := fun off v inside =>
        State.dbgScan_attached live idle inside attached powered (some v)
      refine ⟨fun a inside => ⟨congrArg Host.Outcome.next (read _ (by omega)),
          fun v => congrArg Host.Outcome.next (write _ _ (by omega))⟩,
        congrArg Host.Outcome.next (write 0x1C _ (by decide)), congrArg Host.Outcome.next (write 0x1C _ (by decide)),
        fun k => ⟨fun hi => ?_, congrArg Host.Outcome.next (write _ _ (by omega)), congrArg Host.Outcome.next (write _ _ (by omega)),
          congrArg Host.Outcome.next (write _ _ (by omega))⟩⟩
      have inside : (if hi then 0x138 else 0x134) + 0x40 * k.val ≠ 0 := by cases hi <;> simp
      exact ⟨congrArg Host.Outcome.next (read _ inside), fun v => congrArg Host.Outcome.next (write _ _ inside)⟩
    · refine ⟨fun waits d => ?_, fun granted d => ⟨fun v write => ?_, fun read => ?_⟩, fun late => ?_, fun early => ?_⟩
      · rw [busAccessDone_data access target, waits]
        rfl
      · rw [busAccessDone_data access target, granted, write]
        rfl
      · rw [busAccessDone_data access target, granted, read]
        rfl
      · rw [busAccessDone_timeout access target, late]
        rfl
      · rw [busAccessDone_timeout access target, early]
        rfl
    · rw [icTimeout_reached reaches other, if_pos long]
    · rw [icTimeout_reached reaches other, if_neg (Nat.not_le.2 short)]
  · have frame := State.dbgScan_debugFrame locked (off := 4 * a.toNat) (by omega) (some v.toNat)
    refine ⟨_, rfl, frame.regs, frame.probe, frame.boot, frame.anc, frame.cores, frame.cmem, fun live idle => ?_⟩
    rw [State.dbgScan_locked live idle (by omega) locked]
    rfl

end Sys2Proof.Machine

/-! # Proofs: device time as hosts read it -/

namespace Sys2Proof.Machine
open Reg

/-- Device time is a number of 64 bits (R100). -/
theorem State.now_lt (s : State) : s.now < 2 ^ 64 := by
  unfold State.now
  omega

/-- The latch of R102 reads as it is held. -/
theorem readReg_nowHi (s : State) : s.readReg 0x3000C = s.fld TM_NOW_HI := by
  have fields : Blk.time.at? 0x3000C = [(TM_NOW_HI, 0, 0)] := rfl
  have noView : allViews.find? (fun v => v.1.base == TM_NOW_HI.base && v.1.lo == TM_NOW_HI.lo) = none := rfl
  have latch : s.readFld TM_NOW_HI 0 0 = s.fld TM_NOW_HI := by
    unfold State.readFld
    rw [if_neg (by decide), noView]
  unfold State.readReg
  rw [blockAt_time (by decide) (by decide)]
  simp only
  rw [if_neg (by simp), fields]
  simp only [List.map_cons, List.map_nil, List.sum_cons, List.sum_nil, latch]
  simp [TM_NOW_HI]

section
variable {s : State} (service : s.readsReset 0x30008 = false)
include service

/-- The two registers of device time stand in one block. -/
theorem readsReset_nowHi : s.readsReset 0x3000C = false := by
  unfold State.readsReset at service ⊢
  rw [blockAt_time (by decide) (by decide)] at service ⊢
  exact service

theorem readAt_nowLo : s.readAt 0x30008 = s.readNowLo := by
  unfold State.readAt
  rw [if_neg (by simp [service]), if_pos rfl]

theorem readAt_nowHi : s.readAt 0x3000C = (s, s.fld TM_NOW_HI) := by
  rw [s.readAt_plain (by decide) (by decide)]
  unfold State.word
  rw [readsReset_nowHi service, if_neg (by decide), readReg_nowHi]

end

/-- What device time is read from stays when the latch is set. -/
theorem readsReset_setFld_nowHi (s : State) (v off : Nat) : (s.setFld TM_NOW_HI v).readsReset off = s.readsReset off := by
  have serviceKept : (s.setFld TM_NOW_HI v).inService = s.inService :=
    congrArg (· != 0) (s.fld_setFld_ne TM_NOW_HI BOOT_SERVICE v 0 0 0 0 (by decide))
  unfold State.readsReset
  rw [serviceKept]

/-- Settles O7: the low read takes the upper half into the latch, and the read of the latch that follows in a 64-bit read is
that half. -/
theorem deviceTimeReadsAreConsistent : Obligations.DeviceTimeReadsAreConsistent := by
  intro s r
  have half : s.now / 2 ^ 32 % 2 ^ 32 = s.now / 2 ^ 32 := Nat.mod_eq_of_lt (by have := s.now_lt; omega)
  have latched : (s.setFld TM_NOW_HI (s.now / 2 ^ 32)).fld TM_NOW_HI = s.now / 2 ^ 32 :=
    (s.fld_setFld_self TM_NOW_HI _ 0 0).trans half
  refine ⟨fun service h => ⟨_, rfl, ?_⟩, fun service h => ⟨_, rfl, ?_⟩, fun service h => ?_, s.now_lt⟩
  · have high := readAt_nowHi ((readsReset_setFld_nowHi s (s.now / 2 ^ 32) 0x30008).trans service)
    rw [latched] at high
    have answer := hostRead_pair h (readAt_nowLo service) high
    rw [Nat.mod_add_div] at answer
    exact congrArg State.out answer
  · have answer := hostRead_word h (by decide) (readAt_nowLo service)
    rw [Nat.mod_mod] at answer
    exact ⟨congrArg State.out answer, (State.fld_congr (congrArg State.regs answer) _ _ _).trans latched⟩
  · have answer := hostRead_word h (by decide) (readAt_nowHi service)
    have word : s.fld TM_NOW_HI % 2 ^ 32 = s.fld TM_NOW_HI := Nat.mod_eq_of_lt (s.fld_lt TM_NOW_HI 0 0)
    rw [word] at answer
    exact congrArg Host.Outcome.next answer

end Sys2Proof.Machine

/-! # Proofs: command rings and event rings as they are enabled and disabled -/

namespace Sys2Proof.Machine
open Reg

/-! ### What is held for a ring, an event ring and an engine -/

@[simp] theorem State.ring_setRing_self (s : State) (p k : Nat) (r : RingRun) : (s.setRing p k r).ring p k = r :=
  Tab.get_set_self _ _ _

@[simp] theorem State.evtRing_setEvtRing_self (s : State) (p e : Nat) (r : EvtRingRun) :
    (s.setEvtRing p e r).evtRing p e = r :=
  Tab.get_set_self _ _ _

@[simp] theorem State.engine_setEngine_self (s : State) (e : Nat) (x : Engine) : (s.setEngine e x).engine e = x :=
  Tab.get_set_self _ _ _

theorem State.ring_setRing_ne (s : State) {p k q j : Nat} (r : RingRun) (h : ringKey p k ≠ ringKey q j) :
    (s.setRing p k r).ring q j = s.ring q j :=
  Tab.get_set_ne _ _ h

theorem State.engine_setEngine_ne (s : State) {e d : Nat} (x : Engine) (h : e ≠ d) :
    (s.setEngine e x).engine d = s.engine d := by
  unfold State.engine State.setEngine Tab.get Tab.set
  dsimp only
  split
  · rw [Tab.find?_erase_ne _ h]
  · rw [Tab.find?_insert_ne _ _ h]

/-- The place of a ring's oldest descriptor is not what the ring has fetched. -/
theorem State.fetched_setPlace (s : State) (p k q j : Nat) (x : ReqPlace) :
    ((s.setPlace p k x).ring q j).fetched = (s.ring q j).fetched := by
  by_cases h : ringKey p k = ringKey q j
  · have same : s.ring p k = s.ring q j := congrArg (Tab.get ({} : RingRun) s.host.rings) h
    have read : (s.setPlace p k x).ring q j = { s.ring p k with place := x } := by
      unfold State.setPlace State.ring State.setRing
      rw [← h]
      exact Tab.get_set_self _ _ _
    rw [read, same]
  · exact congrArg RingRun.fetched (s.ring_setRing_ne _ h)

/-! ### Placing requests (R93) -/

/-- What no placed request changes, placing the held ones does not change. -/
theorem State.placeHeld_invariant {α : Type} (s : State) (view : State → α)
    (step : ∀ (t : State) (a : Nat × Bool) (r : Request),
      view (({ t with host := { t.host with held := t.host.held.drop 1 } } : State).putAt a r) = view t) :
    view s.placeHeld = view s := by
  refine State.each_invariant s.host.held _ view (fun t r => ?_) s
  cases t.engineFor with
  | none => rfl
  | some a => exact step t a r

theorem State.putAt_cases (s : State) (a : Nat × Bool) (r : Request) :
    ∃ (e : Nat) (x : Engine) (w : ReqPlace), s.putAt a r = (s.setEngine e x).setPlace r.part r.ring w := by
  unfold State.putAt
  split
  · exact ⟨_, _, _, rfl⟩
  · exact ⟨_, _, _, rfl⟩

theorem State.regs_placeHeld (s : State) : s.placeHeld.regs = s.regs :=
  s.placeHeld_invariant State.regs fun t a r => by
    obtain ⟨e, x, w, placed⟩ := State.putAt_cases { t with host := { t.host with held := t.host.held.drop 1 } } a r
    rw [placed]
    rfl

theorem State.out_placeHeld (s : State) : s.placeHeld.out = s.out :=
  s.placeHeld_invariant State.out fun t a r => by
    obtain ⟨e, x, w, placed⟩ := State.putAt_cases { t with host := { t.host with held := t.host.held.drop 1 } } a r
    rw [placed]
    rfl

theorem State.fetched_placeHeld (s : State) (p k : Nat) : (s.placeHeld.ring p k).fetched = (s.ring p k).fetched :=
  s.placeHeld_invariant (fun t => (t.ring p k).fetched) fun t a r => by
    obtain ⟨e, x, w, placed⟩ := State.putAt_cases { t with host := { t.host with held := t.host.held.drop 1 } } a r
    rw [placed, State.fetched_setPlace]
    rfl

/-! ### The control word of a ring (R58) -/

/-- ENABLE at a value in a control word: the fields beside it are those of the word. -/
theorem ringControl_fields {v x : Nat} (hv : v < 2 ^ 32) (hx : x < 2) :
    let u := putBits v 8 1 x % 2 ^ 32
    bitField u 0 5 = bitField v 0 5 ∧ bitField u 16 6 = bitField v 16 6 ∧ bitField u 24 1 = bitField v 24 1 ∧
      bitAt u 8 = decide (x = 1) := by
  have fields : ∀ u, u = putBits v 8 1 x % 2 ^ 32 →
      bitField u 0 5 = bitField v 0 5 ∧ bitField u 16 6 = bitField v 16 6 ∧ bitField u 24 1 = bitField v 24 1 ∧
        bitField u 8 1 = x := by
    unfold putBits bitField
    omega
  obtain ⟨size, vector, intEn, enable⟩ := fields _ rfl
  refine ⟨size, vector, intEn, ?_⟩
  unfold bitAt
  unfold bitField at enable
  rw [Nat.pow_one] at enable
  rw [enable]
  rfl

section
variable {s : State} {w p : Fin 8} (own : w.val = 0 ∨ w = p) (val : Word) {x : Nat} (hx : x < 2)
include own hx

/-- The control word of a command ring, written with ENABLE at a value. -/
theorem ringControl_effect (k : Fin 64) (h : s.writable w (ringOff p (.cmd k) + 0x10)) :
    let t := ((s.when (!s.fldOn RING_ENABLE p k) (fun s =>
      s.setFld RING_SIZE_LOG2 (RING_SIZE_LOG2.norm p (bitField val.toNat 0 5)) p k)).setFld RING_VECTOR
      (bitField val.toNat 16 6) p k).setFld RING_INT_EN (bitField val.toNat 24 1) p k
    (Host.Outcome.next (s.write32 w (ringOff p (.cmd k) + 0x10) (putBits val.toNat 8 1 x)) :
      Host.Outcome State Fault Refusal) =
      .next ((if x = 1 then t.enableRing p k else t.disableRing p k).disarmed w) := by
  intro t
  have place : ringOff p (.cmd k) + 0x10 = pcbOff p + (0x100 + 0x20 * k.val + 0x10) := by
    simp only [ringOff]; omega
  obtain ⟨size, vector, intEn, enable⟩ := ringControl_fields val.isLt hx
  rw [place] at h ⊢
  refine pcbWrite_next p.isLt (by omega) h ?_
  rw [State.writePcb_ring (own.imp_right (congrArg Fin.val)) _ _ _ k.isLt (by decide)]
  unfold State.writeRing State.writeRingCtl
  rw [if_neg (by decide), if_pos rfl, size, vector, intEn, enable]
  simp only [decide_eq_true_eq]
  rfl

/-- The control word of an event ring, written with ENABLE at a value. -/
theorem evtRingControl_effect (e : Fin 4) (h : s.writable w (ringOff p (.evt e) + 0x10)) :
    let t := ((s.when (!s.fldOn ERING_ENABLE p e) (fun s =>
      s.setFld ERING_SIZE_LOG2 (ERING_SIZE_LOG2.norm p (bitField val.toNat 0 5)) p e)).setFld ERING_VECTOR
      (bitField val.toNat 16 6) p e).setFld ERING_INT_EN (bitField val.toNat 24 1) p e
    (Host.Outcome.next (s.write32 w (ringOff p (.evt e) + 0x10) (putBits val.toNat 8 1 x)) :
      Host.Outcome State Fault Refusal) =
      .next ((if x = 1 then t.enableEvtRing p e else t.disableEvtRing p e).disarmed w) := by
  intro t
  have place : ringOff p (.evt e) + 0x10 = pcbOff p + (0x900 + 0x20 * e.val + 0x10) := by
    simp only [ringOff]; omega
  obtain ⟨size, vector, intEn, enable⟩ := ringControl_fields val.isLt hx
  rw [place] at h ⊢
  refine pcbWrite_next p.isLt (by omega) h ?_
  rw [State.writePcb_evtRing (own.imp_right (congrArg Fin.val)) _ _ _ e.isLt (by decide)]
  unfold State.writeEvtRing State.writeEvtRingCtl
  rw [if_neg (by decide), if_pos rfl, size, vector, intEn, enable]
  simp only [decide_eq_true_eq]
  rfl

end

/-! ### What enabling and disabling leave (R59) -/

/-- Two fields of one table of rings stand apart in every ring. -/
theorem Field.key_ne_ring {f g : Field} (stride : f.s1 = g.s1 ∧ f.s2 = g.s2)
    (apart : 8 * f.base + f.lo ≠ 8 * g.base + g.lo) (i j : Nat) : f.key i j ≠ g.key i j := by
  unfold Field.key Field.off
  rw [stride.1, stride.2]
  omega

theorem State.fld_setFld_ring (s : State) {f g : Field} (v i j : Nat) (stride : f.s1 = g.s1 ∧ f.s2 = g.s2)
    (apart : 8 * f.base + f.lo ≠ 8 * g.base + g.lo) : (s.setFld f v i j).fld g i j = s.fld g i j :=
  s.fld_setFld_ne f g v i j i j (Field.key_ne_ring stride apart i j)

theorem State.enableRing_eq {s : State} {p k : Nat} (off : s.fld RING_ENABLE p k = 0) (sized : s.fld RING_SIZE_LOG2 p k ≠ 0) :
    s.enableRing p k =
      (((s.setFld RING_ENABLE 1 p k).setFld RING_HEAD 0 p k).setFld RING_CQ_TAIL 0 p k).setRing p k { s.ring p k with
        tail := 0, cqHead := 0, phase := true, unsignalled := 0, headMoved := 0, cqTailMoved := 0 } := by
  unfold State.enableRing
  rw [if_neg (by simp [State.fldOn, off, sized])]
  rfl

theorem State.enableRing_shows {s : State} {p k : Nat} (off : s.fld RING_ENABLE p k = 0)
    (sized : s.fld RING_SIZE_LOG2 p k ≠ 0) :
    let t := s.enableRing p k
    t.fld RING_ENABLE p k = 1 ∧ t.fld RING_HEAD p k = 0 ∧ t.fld RING_CQ_TAIL p k = 0 ∧
      (t.ring p k).tail = 0 ∧ (t.ring p k).cqHead = 0 ∧ (t.ring p k).phase = true := by
  intro t
  have enabled : t = _ := State.enableRing_eq off sized
  have fields : ∀ f, t.fld f p k =
      (((s.setFld RING_ENABLE 1 p k).setFld RING_HEAD 0 p k).setFld RING_CQ_TAIL 0 p k).fld f p k := fun f => by
    rw [enabled]; rfl
  refine ⟨?_, ?_, ?_, ?_⟩
  · rw [fields, State.fld_setFld_ring _ _ _ _ (by decide) (by decide),
      State.fld_setFld_ring _ _ _ _ (by decide) (by decide)]
    exact s.fld_setFld_self _ _ _ _
  · rw [fields, State.fld_setFld_ring _ _ _ _ (by decide) (by decide)]
    exact State.fld_setFld_self _ _ _ _ _
  · rw [fields]
    exact State.fld_setFld_self _ _ _ _ _
  · rw [enabled, State.ring_setRing_self]
    exact ⟨rfl, rfl, rfl⟩

theorem State.regs_unplace (s : State) (p k : Nat) : (s.unplace p k).regs = s.regs :=
  State.upTo_invariant _ 16 _ State.regs fun _ _ _ => rfl

theorem State.out_unplace (s : State) (p k : Nat) : (s.unplace p k).out = s.out :=
  State.upTo_invariant _ 16 _ State.out fun _ _ _ => rfl

/-- A ring that is enabled: what it leaves when it is disabled, before held requests are placed. -/
def State.ringLeft (s : State) (p k : Nat) : State :=
  let r := s.ring p k
  let s' := (s.unplace p k).setFld RING_ENABLE 0 p k
  if r.inProcess then
    s'.setRing p k { r with fetched := r.fetched.take 1, draining := true, stopped := false,
                            passed := r.passed + (s.posted p k - 1) }
  else s'.setRing p k { r with fetched := [], place := .atRing, stopped := false, passed := r.passed + s.posted p k }

theorem State.disableRing_on {s : State} {p k : Nat} (on : s.fldOn RING_ENABLE p k = true) :
    s.disableRing p k = if s.safe then s.ringLeft p k else (s.ringLeft p k).placeHeld :=
  if_pos on

theorem State.regs_ringLeft (s : State) (p k : Nat) : (s.ringLeft p k).regs = (s.setFld RING_ENABLE 0 p k).regs := by
  have unplaced : ((s.unplace p k).setFld RING_ENABLE 0 p k).regs = (s.setFld RING_ENABLE 0 p k).regs :=
    congrArg (fun r => regsSet r RING_ENABLE 0 p k) (s.regs_unplace p k)
  unfold State.ringLeft
  dsimp only
  split
  · exact unplaced
  · exact unplaced

theorem State.enable_disableRing (s : State) (p k : Nat) : (s.disableRing p k).fld RING_ENABLE p k = 0 := by
  cases on : s.fldOn RING_ENABLE p k with
  | false =>
    have same : s.disableRing p k = s := if_neg (ne_true_of_eq_false on)
    rw [same]
    simpa [State.fldOn] using on
  | true =>
    have regs : (s.disableRing p k).regs = (s.setFld RING_ENABLE 0 p k).regs := by
      rw [State.disableRing_on on]
      split
      · exact s.regs_ringLeft p k
      · exact (State.regs_placeHeld _).trans (s.regs_ringLeft p k)
    exact (State.fld_congr regs _ _ _).trans (s.fld_setFld_self _ _ _ _)

/-- Nothing is in process: what was fetched is gone, and nothing is written to the host. -/
theorem State.disableRing_drops {s : State} {p k : Nat} (on : s.fldOn RING_ENABLE p k = true)
    (waiting : (s.ring p k).inProcess = false) :
    ((s.disableRing p k).ring p k).fetched = [] ∧ (s.disableRing p k).out = s.out := by
  have emptied : ((s.ringLeft p k).ring p k).fetched = [] ∧ (s.ringLeft p k).out = s.out := by
    unfold State.ringLeft
    dsimp only
    rw [if_neg (ne_true_of_eq_false waiting), State.ring_setRing_self, State.setRing_out, State.setFld_out]
    exact ⟨rfl, s.out_unplace p k⟩
  rw [State.disableRing_on on]
  cases s.safe with
  | true => exact emptied
  | false =>
    rw [if_neg (by decide), State.fetched_placeHeld, State.out_placeHeld]
    exact emptied
/-- Settles O10: the control word is its fields with ENABLE at 1 or 0, and a ring is emptied before held requests are placed. -/
theorem ringControl : Obligations.RingControl := by
  refine ⟨fun s w p val own => ⟨fun k h => ⟨?_, ?_⟩, fun e h => ⟨?_, ?_⟩⟩, fun s p k _ _ =>
    ⟨State.enableRing_shows, fun size => if_pos (.inr size), s.enable_disableRing p k, State.disableRing_drops⟩⟩
  · exact ringControl_effect own val (x := 1) (by decide) k h
  · exact ringControl_effect own val (x := 0) (by decide) k h
  · exact evtRingControl_effect own val (x := 1) (by decide) e h
  · exact evtRingControl_effect own val (x := 0) (by decide) e h

end Sys2Proof.Machine

/-! # Proofs: doorbells, fetching, and failed accesses of the rings -/

namespace Sys2Proof.Machine
open Reg

/-! ### What a raise leaves of the rings -/

/-- No field of a command ring is written by a raise. -/
theorem raiseKey_ring {f : Field} {p k : Nat} (stride : f.s1 = 0x1000 ∧ f.s2 = 0x20)
    (place : 0x1100 ≤ f.base ∧ f.base + f.lo / 8 < 0x1120) (hp : p < 8) (hk : k < 64) :
    raiseKey (f.key p k) = false := by
  have byte : f.key p k / 8 = f.base + f.lo / 8 + 0x1000 * p + 0x20 * k := by
    unfold Field.key Field.off
    rw [stride.1, stride.2]
    omega
  unfold raiseKey
  rw [byte]
  simp only [Bool.or_eq_false_iff, Bool.and_eq_false_iff, decide_eq_false_iff_not]
  omega

theorem State.ring_raise (s : State) {ev : Nat} (r : Raise) (hev : ev < 1024) (p k : Nat) :
    (s.raise ev r).ring p k = s.ring p k :=
  congrArg (fun t => Tab.get ({} : RingRun) t (ringKey p k)) (raise_frame s ev r hev).rings

theorem State.fld_raise_ring (s : State) {ev : Nat} (r : Raise) (hev : ev < 1024) {f : Field} {p k : Nat}
    (stride : f.s1 = 0x1000 ∧ f.s2 = 0x20) (place : 0x1100 ≤ f.base ∧ f.base + f.lo / 8 < 0x1120) (hp : p < 8)
    (hk : k < 64) : (s.raise ev r).fld f p k = s.fld f p k :=
  fld_raise s ev r f p k hev (raiseKey_ring stride place hp hk)

/-! ### Doorbells (R60, R61) -/

/-- The pointer of a ring as it stood at the start of the cycle: HEAD. -/
def State.headSeen (s : State) (p k : Nat) : Nat :=
  s.sampled (s.fld RING_HEAD p k) (s.ring p k).headWas (s.ring p k).headMoved

/-- CQ_TAIL at the start of the cycle. -/
def State.cqTailSeen (s : State) (p k : Nat) : Nat :=
  s.sampled (s.fld RING_CQ_TAIL p k) (s.ring p k).cqTailWas (s.ring p k).cqTailMoved

/-- The tail of an event ring at the start of the cycle. -/
def State.evtTailSeen (s : State) (p e : Nat) : Nat :=
  s.sampled (s.fld ERING_CQ_TAIL p e) (s.evtRing p e).tailWas (s.evtRing p e).tailMoved

section
variable (s : State) (p : Fin 8) (v : Word)

/-- A doorbell of another width than 32 bits is dropped (R62). -/
theorem doorbell_width {width : Nat} (h : width ≠ 4) (k : Fin 64) (e : Fin 4) :
    exec (.commandTailDoorbell p k width v) s = .next s ∧ exec (.completionHeadDoorbell p k width v) s = .next s ∧
      exec (.eventHeadDoorbell p e width v) s = .next s :=
  ⟨if_pos h, if_pos h, if_pos h⟩

/-- A tail is taken where its ring is enabled, it lies within the ring, and it does not go back. -/
theorem commandTail_eq (k : Fin 64) : exec (.commandTailDoorbell p k 4 v) s =
    if s.fldOn RING_ENABLE p k = true ∧ v.toNat % 2 ^ 16 < s.ringSize p k ∧
        ringDist (s.ringSize p k) (s.ring p k).tail (s.headSeen p k) ≤
          ringDist (s.ringSize p k) (v.toNat % 2 ^ 16) (s.headSeen p k) then
      .next (s.setRing p k { s.ring p k with tail := v.toNat % 2 ^ 16 })
    else .next (s.raise Ev.DOORBELL_BAD
      { index := k, sub := 0, data := v.toNat + 2 ^ 32 * (0x1000 * k), dest := [p.val] }) := by
  rw [Nat.mul_comm 0x1000]
  rfl

/-- A completion ring's head is taken where its ring is enabled, it lies within the ring, and it passes no record. -/
theorem completionHead_eq (k : Fin 64) : exec (.completionHeadDoorbell p k 4 v) s =
    if s.fldOn RING_ENABLE p k = true ∧ v.toNat % 2 ^ 16 < s.ringSize p k ∧
        ringDist (s.ringSize p k) (v.toNat % 2 ^ 16) (s.ring p k).cqHead ≤
          ringDist (s.ringSize p k) (s.cqTailSeen p k) (s.ring p k).cqHead then
      .next (s.setRing p k { s.ring p k with cqHead := v.toNat % 2 ^ 16 })
    else .next (s.raise Ev.DOORBELL_BAD
      { index := k, sub := 1, data := v.toNat + 2 ^ 32 * (0x1000 * k + 0x800), dest := [p.val] }) := by
  rw [Nat.mul_comm 0x1000]
  rfl

/-- An event ring's head is taken on the same terms. -/
theorem eventHead_eq (e : Fin 4) : exec (.eventHeadDoorbell p e 4 v) s =
    if s.fldOn ERING_ENABLE p e = true ∧ v.toNat % 2 ^ 16 < 2 ^ s.fld ERING_SIZE_LOG2 p e ∧
        ringDist (2 ^ s.fld ERING_SIZE_LOG2 p e) (v.toNat % 2 ^ 16) (s.evtRing p e).head ≤
          ringDist (2 ^ s.fld ERING_SIZE_LOG2 p e) (s.evtTailSeen p e) (s.evtRing p e).head then
      .next (s.setEvtRing p e { s.evtRing p e with head := v.toNat % 2 ^ 16 })
    else .next (s.raise Ev.DOORBELL_BAD
      { index := e, sub := 2, data := v.toNat + 2 ^ 32 * (0x40000 + 0x1000 * e), dest := [p.val] }) := by
  rw [Nat.mul_comm 0x1000]
  rfl

end

/-- One of the checks of a doorbell fails. -/
theorem doorbell_refused {on : Bool} {x size a b : Nat} (h : on = false ∨ size ≤ x ∨ b < a) :
    ¬(on = true ∧ x < size ∧ a ≤ b) := by
  rintro ⟨enabled, below, within⟩
  rcases h with h | h | h
  · simp [h] at enabled
  · omega
  · omega

theorem ringDist_lt {size : Nat} (positive : 0 < size) (a b : Nat) : ringDist size a b < size :=
  Nat.mod_lt _ positive

/-- A tail doorbell leaves HEAD and the size of its ring, and its tail within the ring and no less far on. -/
theorem commandTail_advances {s t : State} {p : Fin 8} {k : Fin 64} {v : Word}
    (h : exec (.commandTailDoorbell p k 4 v) s = .next t) (tail : (s.ring p k).tail < s.ringSize p k) :
    t.ringSize p k = s.ringSize p k ∧ t.fld RING_HEAD p k = s.fld RING_HEAD p k ∧ (t.ring p k).tail < s.ringSize p k ∧
      ringDist (s.ringSize p k) (s.ring p k).tail (s.headSeen p k) ≤
        ringDist (s.ringSize p k) (t.ring p k).tail (s.headSeen p k) := by
  rw [commandTail_eq] at h
  split at h
  · next taken =>
    obtain ⟨-, below, within⟩ := taken
    cases h
    rw [State.ring_setRing_self]
    exact ⟨rfl, rfl, below, within⟩
  · cases h
    rw [State.ring_raise _ _ (by decide)]
    refine ⟨congrArg (2 ^ ·) ?_, ?_, tail, Nat.le_refl _⟩
    · exact s.fld_raise_ring _ (by decide) (by decide) (by decide) p.isLt k.isLt
    · exact s.fld_raise_ring _ (by decide) (by decide) (by decide) p.isLt k.isLt

/-- Settles O14: each doorbell is one test of the pointers seen, and a tail that passes it, or stays, is no less far on. -/
theorem doorbells : Obligations.Doorbells := by
  refine ⟨fun s p v => ⟨fun k => ?_, fun e => ?_⟩, fun s t p k v h => ?_⟩
  · refine ⟨fun on below within => ?_, fun on below within => ?_, fun refused => ?_, fun refused => ?_, fun width h =>
      ⟨(doorbell_width s p v h k 0).1, (doorbell_width s p v h k 0).2.1⟩⟩
    · exact (commandTail_eq s p v k).trans (if_pos ⟨on, below, within⟩)
    · exact (completionHead_eq s p v k).trans (if_pos ⟨on, below, within⟩)
    · exact (commandTail_eq s p v k).trans (if_neg (doorbell_refused refused))
    · exact (completionHead_eq s p v k).trans (if_neg (doorbell_refused refused))
  · refine ⟨fun on below within => ?_, fun refused => ?_, fun width h => (doorbell_width s p v h 0 e).2.2⟩
    · exact (eventHead_eq s p v e).trans (if_pos ⟨on, below, within⟩)
    · exact (eventHead_eq s p v e).trans (if_neg (doorbell_refused refused))
  · intro size head tail _
    obtain ⟨sized, headKept, below, further⟩ := commandTail_advances h tail
    have positive : 0 < size := Nat.two_pow_pos _
    refine ⟨below, further, ringDist_lt positive _ _, fun current => ?_⟩
    have before : s.posted p k = ringDist size (s.ring p k).tail head := by rw [current]; rfl
    have after : t.posted p k = ringDist size (t.ring p k).tail head := by
      unfold State.posted
      rw [sized, headKept, current]
    rw [before, after]
    exact ⟨further, ringDist_lt positive _ _⟩

/-! ### Fetching (R64) -/

/-- What a walker may fetch: at most 8, all of them posted, each with a free completion entry. -/
theorem State.fetchable_bounds (s : State) (p k : Nat) :
    s.fetchable p k ≤ 8 ∧ s.fetchable p k ≤ s.posted p k - (s.ring p k).fetched.length ∧ s.fetchable p k ≤ s.cqFree p k := by
  unfold State.fetchable
  dsimp only
  split
  · omega
  · omega

/-- Nothing while the partition is not LIVE, the ring is not enabled, nothing is posted or no completion entry is free. -/
theorem State.fetchable_barred {s : State} {p k : Nat}
    (h : s.live p = false ∨ s.fldOn RING_ENABLE p k = false ∨ s.posted p k ≤ (s.ring p k).fetched.length ∨
      s.cqFull p k = true) : s.fetchable p k = 0 := by
  obtain ⟨-, posted, free⟩ := s.fetchable_bounds p k
  rcases h with h | h | h | h
  · exact if_neg (by simp [h])
  · exact if_neg (by simp [h])
  · omega
  · have full : s.cqFree p k = 0 := by
      unfold State.cqFull at h
      simp only [Bool.and_eq_true, beq_iff_eq] at h
      exact h.2
    omega

section
variable {s : State} {p : Fin 8} {k : Fin 64}

theorem ringFetch_lapses (out : s.leaseOut p = true) (answer : List Descriptor) :
    exec (.ringFetch p k answer) s = .next (s.lapse p) := by
  have notLive : (s.lapse p).live p = false := by
    unfold State.live
    rw [(State.lapse_lapsed out).1]
    rfl
  rw [exec_ringFetch, execRingFetch]
  simp only [State.fetchable_barred (.inl notLive), List.take_zero, List.mapIdx_nil, List.isEmpty_nil, if_true]

theorem ringFetch_nothing (lease : s.leaseOut p = false) (none : s.fetchable p k = 0) (answer : List Descriptor) :
    exec (.ringFetch p k answer) s = .next s := by
  rw [exec_ringFetch, execRingFetch]
  simp only [State.lapse_of_not_out lease, none, List.take_zero, List.mapIdx_nil, List.isEmpty_nil, if_true]

theorem ringFetch_appends (lease : s.leaseOut p = false) {answer : List Descriptor} (given : answer ≠ [])
    (some : 0 < s.fetchable p k) : exec (.ringFetch p k answer) s = .next (s.setRing p k { s.ring p k with
      fetched := (s.ring p k).fetched ++ (answer.take (s.fetchable p k)).mapIdx (fun i d =>
        { part := p, ring := k,
          index := (s.fld RING_HEAD p k + (s.ring p k).fetched.length + i) % s.ringSize p k, words := d, buf := [] }) }) := by
  have taken : answer.take (s.fetchable p k) ≠ [] := fun h => (List.take_eq_nil_iff.1 h).elim (Nat.ne_of_gt some) given
  rw [exec_ringFetch, execRingFetch]
  simp only [State.lapse_of_not_out lease]
  rw [if_neg (by simpa using taken)]

/-! ### Buffers and failed accesses (R66) -/

section
variable {r : Request} {rest : List Request} (oldest : (s.ring p k).fetched = r :: rest)
  (waits : (s.ring p k).place = .atRing) (needs : r.needsBuffer = true) (runs : s.safe = false)
include oldest waits needs runs

theorem bufferRead_brings {data : List Byte} (whole : data.length = r.hostLen) :
    exec (.bufferRead p k (.bytes data)) s =
      .next (s.setRing p k { s.ring p k with fetched := { r with buf := data } :: rest, place := .ready }) := by
  rw [exec_bufferRead, execBufferRead]
  simp only [oldest]
  exact (if_pos ⟨waits, needs, runs⟩).trans (if_pos whole)

theorem bufferRead_fails (addr : BitVec 64) : exec (.bufferRead p k (.error addr)) s =
    .next ((((s.hostFault p (.cmd k) 0 addr.toNat).failGroup r).mirrorEarly r St.HOST_FAULT).complete r
      St.HOST_FAULT 0 0 0) := by
  rw [exec_bufferRead, execBufferRead]
  simp only [oldest]
  exact if_pos ⟨waits, needs, runs⟩

end

/-- A failed write of a record sets HOST_FAULT. -/
theorem State.hostFault_sets {ring : Fin 64} {q : Nat} (hq : q < 8) (off : s.fldOn RING_HOST_FAULT q ring = false)
    (sub addr : Nat) :
    s.hostFault q (.cmd ring) sub addr = (s.setFld RING_HOST_FAULT 1 q ring).raise Ev.HOST_FAULT
      { index := ring, sub := sub, data := addr, dest := [q] } ∧
    (s.hostFault q (.cmd ring) sub addr).fld RING_HOST_FAULT q ring = 1 := by
  have raised : s.hostFault q (.cmd ring) sub addr = (s.setFld RING_HOST_FAULT 1 q ring).raise Ev.HOST_FAULT
      { index := ring, sub := sub, data := addr, dest := [q] } := if_neg (ne_true_of_eq_false off)
  refine ⟨raised, ?_⟩
  rw [raised, State.fld_raise_ring _ _ (by decide) (by decide) (by decide) hq ring.isLt]
  exact s.fld_setFld_self _ _ _ _

end

/-- Settles O15: an answer is cut to what may be fetched, and a failed access is told once. -/
theorem ringsFetch : Obligations.RingsFetch := by
  refine ⟨fun s p k => ⟨fun lease answer given some => ringFetch_appends lease given some,
    fun none lease answer => ringFetch_nothing lease none answer, fun out answer => ringFetch_lapses out answer,
    fun addr some => if_neg (by omega), fun addr => rfl, fun e addr => rfl, fun r rest oldest waits needs runs =>
      ⟨fun data whole => bufferRead_brings oldest waits needs runs whole, bufferRead_fails oldest waits needs runs⟩,
    fun dword val => rfl⟩, fun s p k => ?_, fun s p k addr => ⟨fun on => congrArg Host.Outcome.next (if_pos on), fun off => ?_⟩⟩
  · obtain ⟨eight, posted, free⟩ := s.fetchable_bounds p k
    exact ⟨eight, by omega, free, State.fetchable_barred⟩
  · obtain ⟨raised, set⟩ := State.hostFault_sets p.isLt off 1 addr.toNat
    exact ⟨_, rfl, set, raised⟩

end Sys2Proof.Machine

/-! # Proofs: completion records -/

namespace Sys2Proof.Machine
open Reg

section
variable (s : State) (p k : Nat) (c : Completion)

/-- Whether the next record of ring k signals (R92). -/
def State.signals : Bool :=
  signalsNow c.irq (s.fldOn RING_INT_EN p k) (s.fld RING_COAL_US p k) (s.fld RING_COAL_CNT p k)
    ((s.ring p k).unsignalled + 1)

/-- The ring once the record is written. -/
def State.ringRecorded : RingRun :=
  let r := s.ring p k
  { r.pop with
    phase := if (s.fld RING_CQ_TAIL p k + 1) % s.ringSize p k = 0 then !r.phase else r.phase
    headWas := s.sampled (s.fld RING_HEAD p k) r.headWas r.headMoved, headMoved := s.host.cycle
    cqTailWas := s.sampled (s.fld RING_CQ_TAIL p k) r.cqTailWas r.cqTailMoved, cqTailMoved := s.host.cycle
    unsignalled := if s.signals p k c then 0 else r.unsignalled + 1
    oldest := if r.unsignalled = 0 then s.time.grid else r.oldest }

/-- The record is written and CQ_TAIL moves. -/
def State.recordOut : State :=
  (s.emit (.completion p k (s.fld RING_CQ_BASE_LO p k * 2 ^ 12 + s.fld RING_CQ_BASE_HI p k * 2 ^ 32 +
    32 * s.fld RING_CQ_TAIL p k) (c.words (s.ring p k).phase))).setFld RING_CQ_TAIL
    ((s.fld RING_CQ_TAIL p k + 1) % s.ringSize p k) p k

/-- HEAD moves with it, but for a record of an earlier pass of the ring. -/
def State.recordPut : State :=
  let t := s.recordOut p k c
  (if (s.ring p k).draining ∧ t.fldOn RING_ENABLE p k then t
    else t.setFld RING_HEAD ((t.fld RING_HEAD p k + 1) % s.ringSize p k) p k).setRing p k (s.ringRecorded p k c)

/-- A record is put, and then signalled where it signals. -/
theorem State.writeCompletion_eq : s.writeCompletion p k c =
    (s.recordPut p k c).when (s.signals p k c) (fun t => t.sendVector p (t.fld RING_VECTOR p k)) := rfl

theorem State.signals_iff : s.signals p k c = true ↔
    c.irq = true ∨ (s.fldOn RING_INT_EN p k = true ∧ (s.fld RING_COAL_US p k = 0 ∨
      (s.fld RING_COAL_CNT p k ≠ 0 ∧ s.fld RING_COAL_CNT p k ≤ (s.ring p k).unsignalled + 1))) := by
  simp [State.signals, signalsNow]

/-- The record moves no field but HEAD and CQ_TAIL. -/
theorem State.fld_recordPut {f : Field} {i j : Nat} (head : RING_HEAD.key p k ≠ f.key i j)
    (tail : RING_CQ_TAIL.key p k ≠ f.key i j) : (s.recordPut p k c).fld f i j = s.fld f i j := by
  have out : (s.recordOut p k c).fld f i j = s.fld f i j := State.fld_setFld_ne _ _ _ _ _ _ _ _ tail
  refine (State.fld_congr (State.setRing_regs _ _ _ _) f i j).trans ?_
  split
  · exact out
  · exact (State.fld_setFld_ne _ _ _ _ _ _ _ _ head).trans out

theorem State.cqTail_recordPut : (s.recordPut p k c).fld RING_CQ_TAIL p k =
    (s.fld RING_CQ_TAIL p k + 1) % s.ringSize p k % 2 ^ 16 := by
  have out : (s.recordOut p k c).fld RING_CQ_TAIL p k = (s.fld RING_CQ_TAIL p k + 1) % s.ringSize p k % 2 ^ 16 :=
    State.fld_setFld_self _ _ _ _ _
  refine (State.fld_congr (State.setRing_regs _ _ _ _) _ _ _).trans ?_
  split
  · exact out
  · exact (State.fld_setFld_ring _ _ _ _ (by decide) (by decide)).trans out

theorem State.head_recordPut : (s.recordPut p k c).fld RING_HEAD p k =
    if (s.ring p k).draining = true ∧ s.fldOn RING_ENABLE p k = true then s.fld RING_HEAD p k
    else (s.fld RING_HEAD p k + 1) % s.ringSize p k % 2 ^ 16 := by
  have out : ∀ f : Field, RING_CQ_TAIL.s1 = f.s1 ∧ RING_CQ_TAIL.s2 = f.s2 →
      8 * RING_CQ_TAIL.base + RING_CQ_TAIL.lo ≠ 8 * f.base + f.lo → (s.recordOut p k c).fld f p k = s.fld f p k :=
    fun f stride apart => State.fld_setFld_ring _ _ _ _ stride apart
  have enable : (s.recordOut p k c).fldOn RING_ENABLE p k = s.fldOn RING_ENABLE p k :=
    congrArg (· != 0) (out RING_ENABLE (by decide) (by decide))
  have head : (s.recordOut p k c).fld RING_HEAD p k = s.fld RING_HEAD p k := out RING_HEAD (by decide) (by decide)
  refine (State.fld_congr (State.setRing_regs _ _ _ _) _ _ _).trans ?_
  rw [enable, head]
  split
  · exact head
  · exact State.fld_setFld_self _ _ _ _ _

theorem State.out_recordPut : (s.recordPut p k c).out =
    .completion p k (s.fld RING_CQ_BASE_LO p k * 2 ^ 12 + s.fld RING_CQ_BASE_HI p k * 2 ^ 32 + 32 * s.fld RING_CQ_TAIL p k)
      [c.tag + 2 ^ 16 * c.opcode + 2 ^ 24 * c.status, c.index + 2 ^ 16 * c.group, c.value0 % 2 ^ 32,
       c.value0 / 2 ^ 32 % 2 ^ 32, c.value1 % 2 ^ 32, c.value1 / 2 ^ 32 % 2 ^ 32, c.detail % 2 ^ 32,
       if (s.ring p k).phase then 2 ^ 31 else 0] :: s.out := by
  have phase : 2 ^ 31 * bit (s.ring p k).phase = if (s.ring p k).phase then 2 ^ 31 else 0 := by
    cases (s.ring p k).phase <;> rfl
  rw [← phase]
  refine (State.setRing_out _ _ _ _).trans ?_
  split <;> rfl

theorem State.host_recordPut : (s.recordPut p k c).host.msix = s.host.msix ∧ (s.recordPut p k c).host.parts = s.host.parts ∧
    (s.recordPut p k c).ring p k = s.ringRecorded p k c := by
  refine ⟨?_, ?_, State.ring_setRing_self _ _ _ _⟩
  all_goals
    unfold State.recordPut
    dsimp only
    split <;> rfl

end

/-! ### Signals (R92) -/

/-- A message of a vector goes out while the vector is not masked and the partition is not LAPSED; else it pends. -/
theorem State.sendVector_sent {s : State} {p v : Nat} (h : bitAt (s.msixWord p v 3) 0 = false ∧ s.pstate p ≠ partLapsed) :
    s.sendVector p v = s.emit (.msix p v (s.msixWord p v 0 + 2 ^ 32 * s.msixWord p v 1) (s.msixWord p v 2)) :=
  if_neg (by simp [h.1, h.2])

theorem State.sendVector_pends {s : State} {p v : Nat}
    (h : ¬(bitAt (s.msixWord p v 3) 0 = false ∧ s.pstate p ≠ partLapsed)) :
    s.sendVector p v = s.setPart p { s.part p with pba := (s.part p).pba ||| 2 ^ v } :=
  if_pos (by
    cases mask : bitAt (s.msixWord p v 3) 0 with
    | true => exact .inl rfl
    | false => exact .inr (Decidable.byContradiction fun live => h ⟨mask, live⟩))

/-- A signal changes no ring. -/
theorem State.ring_sendVector (s : State) (p v q j : Nat) : (s.sendVector p v).ring q j = s.ring q j :=
  congrArg (fun t => Tab.get ({} : RingRun) t (ringKey q j)) (sendVector_frame s p v).rings

/-- Settles O16: what the record moves it moves before the signal, which moves nothing but the output or the pending bit. -/
theorem completionRecords : Obligations.CompletionRecords := by
  intro s p k c hp hk size tail v signals sent t
  have apart : ∀ f : Field, f.s1 = 0x1000 → f.s2 = 0x20 → 8 * f.base + f.lo ≠ 8 * 0x1118 → 8 * f.base + f.lo ≠ 8 * 0x1118 + 16 →
      (s.recordPut p k c).fld f p k = s.fld f p k := fun f s1 s2 head tail =>
    s.fld_recordPut p k c (Field.key_ne_ring ⟨s1.symm, s2.symm⟩ (Ne.symm head) p k)
      (Field.key_ne_ring ⟨s1.symm, s2.symm⟩ (Ne.symm tail) p k)
  have vector : (s.recordPut p k c).fld RING_VECTOR p k = v := apart RING_VECTOR rfl rfl (by decide) (by decide)
  have state : (s.recordPut p k c).pstate p = s.pstate p := s.fld_recordPut p k c
    (by simp only [Field.key, Field.off, RING_HEAD, PCB_STATE]; omega)
    (by simp only [Field.key, Field.off, RING_CQ_TAIL, PCB_STATE]; omega)
  obtain ⟨msix, parts, ring⟩ := s.host_recordPut p k c
  have word : ∀ i, (s.recordPut p k c).msixWord p v i = s.msixWord p v i := fun i => by unfold State.msixWord; rw [msix]
  have part : (s.recordPut p k c).part p = s.part p := by unfold State.part; rw [parts]
  have final : t = if signals then (s.recordPut p k c).sendVector p v else s.recordPut p k c := by
    have written := s.writeCompletion_eq p k c
    rw [State.when, vector] at written
    exact written.trans (ite_congr (propext (s.signals_iff p k c)) (fun _ => rfl) (fun _ => rfl))
  have regs : t.regs = (s.recordPut p k c).regs := by
    rw [final]
    split
    · exact State.regs_sendVector _ _ _
    · rfl
  have ringT : t.ring p k = s.ringRecorded p k c := by
    rw [← ring, final]
    split
    · exact State.ring_sendVector _ _ _ _ _
    · rfl
  have sentIff : sent ↔ signals ∧ (bitAt ((s.recordPut p k c).msixWord p v 3) 0 = false ∧
      (s.recordPut p k c).pstate p ≠ partLapsed) := by rw [word, state]
  refine ⟨?_, fun signalled unsent => ?_, ?_, (State.fld_congr regs _ _ _).trans (s.head_recordPut p k c),
    (State.fld_congr regs _ _ _).trans (s.cqTail_recordPut p k c), congrArg RingRun.phase ringT,
    congrArg RingRun.fetched ringT⟩
  · by_cases signalled : signals
    · rw [final, if_pos signalled]
      by_cases goes : sent
      · rw [State.sendVector_sent (sentIff.1 goes).2, if_pos goes, word, word, word]
        exact congrArg _ (s.out_recordPut p k c)
      · rw [State.sendVector_pends fun h => goes (sentIff.2 ⟨signalled, h⟩), if_neg goes]
        exact s.out_recordPut p k c
    · rw [final, if_neg signalled, if_neg fun h : sent => signalled h.1]
      exact s.out_recordPut p k c
  · rw [final, if_pos signalled, State.sendVector_pends fun h => unsent (sentIff.2 ⟨signalled, h⟩), part, part_setPart_self]
  · rw [ringT]
    exact ite_congr (propext (s.signals_iff p k c)) (fun _ => rfl) (fun _ => rfl)

end Sys2Proof.Machine

/-! # Proofs: which engine takes a request -/

namespace Sys2Proof.Machine
open Reg

/-! ### The best of a list, the first of equals -/

/-- Taking each next element only where its key is higher finds the highest key, and of equal ones the first. -/
theorem foldl_first_best {better : Nat → Nat → Prop} [DecidableRel better] (key : Nat → Int)
    (higher : ∀ a b, better a b ↔ key a < key b) (l : List Nat) (e : Nat) (rising : (e :: l).Pairwise (· < ·)) :
    let m := l.foldl (fun b x => if better b x then x else b) e
    m ∈ e :: l ∧ ∀ n ∈ e :: l, key n < key m ∨ (key n = key m ∧ m ≤ n) := by
  induction l generalizing e with
  | nil => simp
  | cons x l ih =>
    obtain ⟨first, rest⟩ := List.pairwise_cons.1 rising
    have next := first x List.mem_cons_self
    rw [List.foldl_cons]
    by_cases h : better e x
    · rw [if_pos h]
      obtain ⟨mem, best⟩ := ih x rest
      have higher' := (higher e x).1 h
      refine ⟨List.mem_cons_of_mem _ mem, fun n hn => ?_⟩
      rcases List.mem_cons.1 hn with rfl | hn
      · have := best x List.mem_cons_self
        omega
      · exact best n hn
    · rw [if_neg h]
      obtain ⟨mem, best⟩ := ih e (rising.sublist ((List.sublist_cons_self x l).cons_cons e))
      have lower := mt (higher e x).2 h
      refine ⟨?_, fun n hn => ?_⟩
      · rcases List.mem_cons.1 mem with mem | mem
        · rw [mem]; exact List.mem_cons_self
        · exact List.mem_cons_of_mem _ (List.mem_cons_of_mem _ mem)
      · have := best e List.mem_cons_self
        rcases List.mem_cons.1 hn with rfl | hn
        · exact this
        · rcases List.mem_cons.1 hn with rfl | hn
          · omega
          · exact best n (List.mem_cons_of_mem _ hn)

/-! ### Where an engine draws from (R94) -/

/-- A Layby that an engine may draw from: one with a ticketed request, or any that is not empty where none has one. -/
def State.drawable (s : State) (n : Nat) : Bool :=
  let ticketed := fun x => (s.engine x).layby.any (fun r => s.fldOn PCB_TICKETS r.part)
  if (List.range 16).any ticketed then ticketed n else !(s.engine n).layby.isEmpty

theorem State.drawPlace_eq (s : State) (e : Nat) :
    s.drawPlace e = if s.drawable e then some e else s.longestLayby s.drawable := by
  have same : (if (List.range 16).any (fun x => (s.engine x).layby.any (fun r => s.fldOn PCB_TICKETS r.part)) then
      (fun x => (s.engine x).layby.any (fun r => s.fldOn PCB_TICKETS r.part)) else
      (fun x => !(s.engine x).layby.isEmpty)) = s.drawable := by
    funext n
    unfold State.drawable
    dsimp only
    split <;> rfl
  unfold State.drawPlace
  dsimp only
  rw [same]

theorem State.longestLayby_none {s : State} {ok : Nat → Bool} (h : ∀ n, n < 16 → ok n = false) :
    s.longestLayby ok = none := by
  have empty : (List.range 16).filter ok = [] := List.filter_eq_nil_iff.2 fun n hn => by simp [h n (List.mem_range.1 hn)]
  unfold State.longestLayby
  rw [empty]

/-- The longest Layby, the lowest engine winning a tie. -/
theorem State.longestLayby_some {s : State} {ok : Nat → Bool} {x : Nat} (h : s.longestLayby ok = some x) :
    x < 16 ∧ ok x = true ∧ ∀ n, n < 16 → ok n = true → (s.engine n).layby.length < (s.engine x).layby.length ∨
      ((s.engine n).layby.length = (s.engine x).layby.length ∧ x ≤ n) := by
  have rising : ((List.range 16).filter ok).Pairwise (· < ·) := List.pairwise_lt_range.filter _
  have listed : ∀ n, n ∈ (List.range 16).filter ok ↔ n < 16 ∧ ok n = true := fun n => by
    rw [List.mem_filter, List.mem_range]
  unfold State.longestLayby at h
  cases found : (List.range 16).filter ok with
  | nil => rw [found] at h; exact nomatch h
  | cons e es =>
    rw [found] at h rising listed
    obtain ⟨mem, best⟩ := foldl_first_best (better := fun b x => (s.engine b).layby.length < (s.engine x).layby.length)
      (fun n => (s.engine n).layby.length) (fun a b => Int.ofNat_lt.symm) es e rising
    rw [Option.some.inj h] at mem best
    obtain ⟨below, okX⟩ := (listed x).1 mem
    refine ⟨below, okX, fun n hn okN => ?_⟩
    have := best n ((listed n).2 ⟨hn, okN⟩)
    omega

/-! ### Which request is granted (R94) -/

/-- One partition of the lottery: tickets are counted until they pass the number drawn. -/
def lotteryStep (tickets : Nat → Nat) (drawn : Nat) (acc : Nat × Option Nat) (p : Nat) : Nat × Option Nat :=
  match acc.2 with
  | some _ => acc
  | none => if drawn < acc.1 + tickets p then (acc.1, some p) else (acc.1 + tickets p, none)

theorem drawFrom_eq (tickets : Nat → Nat) (l : Nat) (layby : List Request) :
    let parts := (List.range 8).filter (fun p => layby.any (fun r => r.part == p))
    let total := (parts.map tickets).sum
    drawFrom tickets l layby = if total = 0 then layby.head?
      else match (parts.foldl (lotteryStep tickets (l * total / 2 ^ 32)) (0, none)).2 with
        | some p => layby.find? (fun r => r.part == p)
        | none => layby.head? := rfl

/-- The winner stays the winner. -/
theorem lottery_won (tickets : Nat → Nat) (drawn a p : Nat) (l : List Nat) :
    l.foldl (lotteryStep tickets drawn) (a, some p) = (a, some p) := by
  induction l with
  | nil => rfl
  | cons q l ih => exact ih

/-- The partition within whose tickets the number drawn falls wins. -/
theorem lottery_winner (tickets : Nat → Nat) {drawn p : Nat} (l : List Nat) (rising : l.Pairwise (· < ·)) (mem : p ∈ l) (a : Nat)
    (lower : a + ((l.filter (fun q => decide (q < p))).map tickets).sum ≤ drawn)
    (upper : drawn < a + ((l.filter (fun q => decide (q < p))).map tickets).sum + tickets p) :
    (l.foldl (lotteryStep tickets drawn) (a, none)).2 = some p := by
  induction l generalizing a with
  | nil => exact nomatch mem
  | cons q l ih =>
    obtain ⟨first, rest⟩ := List.pairwise_cons.1 rising
    rw [List.foldl_cons]
    rcases List.mem_cons.1 mem with rfl | mem
    · have empty : (p :: l).filter (fun q => decide (q < p)) = [] := List.filter_eq_nil_iff.2 fun n hn => by
        rcases List.mem_cons.1 hn with rfl | hn
        · simp
        · simpa using Nat.le_of_lt (first n hn)
      rw [empty, List.map_nil, List.sum_nil] at upper
      have step : lotteryStep tickets drawn (a, none) p = (a, some p) := if_pos upper
      rw [step, lottery_won]
    · have before : (q :: l).filter (fun n => decide (n < p)) = q :: l.filter (fun n => decide (n < p)) :=
        List.filter_cons_of_pos (by simpa using first p mem)
      rw [before, List.map_cons, List.sum_cons] at lower upper
      have step : lotteryStep tickets drawn (a, none) q = (a + tickets q, none) := if_neg (by dsimp only; omega)
      rw [step]
      exact ih rest mem _ (by omega) (by omega)

/-! ### Where a request goes (R93) -/

/-- An engine that takes a request at once, one whose Layby takes it, or none. -/
theorem State.engineFor_cases (s : State) :
    (∃ e, e < 16 ∧ s.frozen e = false ∧ (s.engine e).cur = none ∧
      (∀ x, x < e → s.frozen x = true ∨ (s.engine x).cur ≠ none) ∧ s.engineFor = some (e, true)) ∨
    ((∀ x, x < 16 → s.frozen x = true ∨ (s.engine x).cur ≠ none) ∧
      ((∃ e, e < 16 ∧ s.frozen e = false ∧ (s.engine e).layby.length < 64 ∧
        (∀ x, x < 16 → s.frozen x = false → (s.engine x).layby.length < 64 →
          (s.engine e).layby.length < (s.engine x).layby.length ∨
            ((s.engine e).layby.length = (s.engine x).layby.length ∧ e ≤ x)) ∧ s.engineFor = some (e, false)) ∨
      ((∀ x, x < 16 → s.frozen x = true ∨ 64 ≤ (s.engine x).layby.length) ∧ s.engineFor = none))) := by
  have busy : ∀ x, (!s.frozen x && (s.engine x).cur.isNone) = false ↔ s.frozen x = true ∨ (s.engine x).cur ≠ none :=
    fun x => by cases s.frozen x <;> cases (s.engine x).cur <;> simp
  unfold State.engineFor
  cases idle : (List.range 16).find? (fun e => !s.frozen e && (s.engine e).cur.isNone) with
  | some e =>
    obtain ⟨free, mem, before⟩ := List.find?_range_eq_some.1 idle
    rw [Bool.and_eq_true, Bool.not_eq_true', Option.isNone_iff_eq_none] at free
    exact .inl ⟨e, List.mem_range.1 mem, free.1, free.2,
      fun x hx => (busy x).1 ((Bool.not_eq_true' _).mp (before x hx)), rfl⟩
  | none =>
    refine .inr ⟨fun x hx => (busy x).1 (eq_false_of_ne_true (List.find?_eq_none.1 idle x (List.mem_range.2 hx))), ?_⟩
    have rising : ((List.range 16).filter (fun e => !s.frozen e && decide ((s.engine e).layby.length < 64))).Pairwise
      (· < ·) := List.pairwise_lt_range.filter _
    have listed : ∀ n, n ∈ (List.range 16).filter (fun e => !s.frozen e && decide ((s.engine e).layby.length < 64)) ↔
        n < 16 ∧ s.frozen n = false ∧ (s.engine n).layby.length < 64 := fun n => by
      rw [List.mem_filter, List.mem_range, Bool.and_eq_true, Bool.not_eq_true', decide_eq_true_eq]
    dsimp only
    cases room : (List.range 16).filter (fun e => !s.frozen e && decide ((s.engine e).layby.length < 64)) with
    | nil =>
      refine .inr ⟨fun x hx => ?_, rfl⟩
      rw [room] at listed
      have full := mt (listed x).2 List.not_mem_nil
      by_cases frozen : s.frozen x = true
      · exact .inl frozen
      · exact .inr (Nat.not_lt.1 fun short => full ⟨hx, eq_false_of_ne_true frozen, short⟩)
    | cons a as =>
      rw [room] at rising listed
      obtain ⟨mem, best⟩ := foldl_first_best (better := fun b x => (s.engine x).layby.length < (s.engine b).layby.length)
        (fun n => -((s.engine n).layby.length : Int)) (fun a b => by omega) as a rising
      obtain ⟨below, frozen, short⟩ := (listed _).1 mem
      refine .inl ⟨_, below, frozen, short, fun x hx frozen short => ?_, rfl⟩
      have := best x ((listed x).2 ⟨hx, frozen, short⟩)
      omega

/-! ### Commands of the engines -/

section
variable {s : State}

theorem enginePlacement_places {p : Fin 8} {k : Fin 64} {r : Request} {rest : List Request}
    (oldest : (s.ring p k).fetched = r :: rest)
    (ready : (s.ring p k).place = .ready ∨ ((s.ring p k).place = .atRing ∧ r.needsBuffer = false)) (runs : s.safe = false) :
    exec (.enginePlacement p k) s = .next (s.place r) := by
  rw [exec_enginePlacement, execEnginePlacement]
  simp only [oldest]
  exact if_pos ⟨ready, runs⟩

theorem engineDraw_runs (runs : s.safe = false) (e : Fin 16) : exec (.engineDraw e) s =
    .next (if s.placeHeld.frozen e = false ∧ (s.placeHeld.engine e).cur = none then s.placeHeld.draw e
      else s.placeHeld) := by
  have runs' : s.placeHeld.safe = false := (State.fldOn_congr s.regs_placeHeld FLT_SAFE 0 0).trans runs
  rw [exec_engineDraw, execEngineDraw]
  simp only [runs, Bool.false_eq_true, if_false, runs', true_and, Option.isNone_iff_eq_none]

theorem engineStuck_raises {e : Fin 16} {r : Request} (cur : (s.engine e).cur = some r) (first : (s.engine e).stuck = false)
    (on : s.fldOn CMDENG_WDOG_US e = true)
    (passed : s.expired (s.engine e).grantedAt (s.fld CMDENG_WDOG_US e * 1000) 1000 = true) :
    exec (.engineStuck e) s = .next ((s.setEngine e { s.engine e with stuck := true }).raise Ev.ENGINE_STUCK
      { index := e, data := 2 ^ 4 * r.part + 2 ^ 8 * r.ring + 2 ^ 32 * r.opcode, dest := [0] }) := by
  rw [exec_engineStuck, execEngineStuck, State.checkStuck]
  simp only [cur]
  exact congrArg Host.Outcome.next (if_pos ⟨first, on, passed⟩)

theorem State.draw_grants {e x : Nat} {r : Request} (place : s.drawPlace e = some x)
    (drawn : drawFrom (fun p => s.fld PCB_TICKETS p) (s.engine e).lfsr.toNat (s.engine x).layby = some r) :
    s.draw e = (s.setEngine x { s.engine x with layby := (s.engine x).layby.filter (fun q =>
      decide (¬(q.part = r.part ∧ q.ring = r.ring))) }).grant e r := by
  unfold State.draw
  simp only [place, drawn]

end

/-- Settles O17: the folds of R93 and R94 find the first of the best, and the lottery's the partition that the number drawn
falls on. -/
theorem enginesTakeRequests : Obligations.EnginesTakeRequests := by
  refine ⟨fun s => ⟨fun p k r rest oldest ready runs => enginePlacement_places oldest ready runs,
      fun e runs => engineDraw_runs runs e, fun e r cur first on passed => engineStuck_raises cur first on passed,
      fun p ring => rfl, fun p k waits on us passed => if_pos ⟨waits, on, us, passed⟩,
      fun p e waits on us passed => if_pos ⟨waits, on, us, passed⟩, fun p k none => if_neg ?_⟩,
    fun s e x => ?_, fun tickets l layby => ?_, fun s => ?_⟩
  · rintro ⟨waits, on, us, -⟩
    rcases none with h | h | h
    · exact waits h
    · exact Bool.noConfusion (on.symm.trans h)
    · exact us h
  · refine ⟨fun own => ?_, fun other place => ?_, fun other none => ?_, fun r => State.draw_grants⟩
    · rw [State.drawPlace_eq]
      exact if_pos own
    · rw [State.drawPlace_eq] at place
      exact State.longestLayby_some ((if_neg (ne_true_of_eq_false other)).symm.trans place)
    · rw [State.drawPlace_eq]
      exact (if_neg (ne_true_of_eq_false other)).trans (State.longestLayby_none none)
  · refine ⟨fun zero => if_pos zero, fun p mem some lower upper => ?_⟩
    have rising : ((List.range 8).filter (fun p => layby.any (fun r => r.part == p))).Pairwise (· < ·) :=
      List.pairwise_lt_range.filter _
    rw [drawFrom_eq, if_neg some, lottery_winner tickets _ rising mem 0 (by omega) (by omega)]
  · have both : ∀ x, (s.frozen x = true ∨ (s.engine x).cur ≠ none) → (s.frozen x = true ∨ 64 ≤ (s.engine x).layby.length) →
        s.frozen x = true ∨ ((s.engine x).cur ≠ none ∧ 64 ≤ (s.engine x).layby.length) := fun x h g => or_and_left.2 ⟨h, g⟩
    rcases s.engineFor_cases with ⟨e, below, frozen, idle, before, found⟩ |
      ⟨busy, ⟨e, below, frozen, short, best, found⟩ | ⟨full, found⟩⟩
    · rw [found]
      refine ⟨fun _ _ h => ?_, fun _ h => ?_, fun _ h => (nomatch h), fun h => (nomatch h), fun h => ?_⟩
      · cases h; exact ⟨below, frozen⟩
      · cases h; exact ⟨idle, before⟩
      · exact ((h e below).elim (fun f => Bool.noConfusion (f.symm.trans frozen)) fun f => absurd idle f.1)
    · rw [found]
      refine ⟨fun _ _ h => ?_, fun _ h => (nomatch h), fun _ h => ?_, fun h => (nomatch h), fun h => ?_⟩
      · cases h; exact ⟨below, frozen⟩
      · cases h; exact ⟨short, busy, best⟩
      · exact ((h e below).elim (fun f => Bool.noConfusion (f.symm.trans frozen)) fun f => absurd short (Nat.not_lt.2 f.2))
    · rw [found]
      exact ⟨fun _ _ h => (nomatch h), fun _ h => (nomatch h), fun _ h => (nomatch h),
        fun _ x hx => both x (busy x hx) (full x hx), fun _ => rfl⟩

end Sys2Proof.Machine

/-! # Proofs: the registers of a command engine -/

namespace Sys2Proof.Machine
open Reg

/-! ### The lottery register (R95) -/

theorem lfsrStep_eq (x : Word) : lfsrStep x = (x >>> 1) ^^^ (if x.getLsbD 0 then 0x80200003#32 else 0) := by
  unfold lfsrStep
  split
  · rfl
  · exact (BitVec.xor_zero).symm

/-- The lowest bit of a value comes back as the highest of its successor. -/
theorem getLsbD_lfsrStep (x : Word) : (lfsrStep x).getLsbD 31 = x.getLsbD 0 := by
  have shifted : (x >>> 1).getLsbD 31 = false := by
    rw [BitVec.getLsbD_ushiftRight]
    exact BitVec.getLsbD_of_ge x 32 (Nat.le_refl 32)
  rw [lfsrStep_eq, BitVec.getLsbD_xor, shifted]
  cases x.getLsbD 0 <;> rfl

theorem lfsrStep_injective {x y : Word} (h : lfsrStep x = lfsrStep y) : x = y := by
  have lowest : x.getLsbD 0 = y.getLsbD 0 := by rw [← getLsbD_lfsrStep, ← getLsbD_lfsrStep, h]
  have rest : x >>> 1 = y >>> 1 := by
    rw [lfsrStep_eq, lfsrStep_eq, lowest] at h
    exact BitVec.xor_left_inj _ |>.1 h
  refine BitVec.eq_of_getLsbD_eq fun i hi => ?_
  cases i with
  | zero => exact lowest
  | succ j =>
    have bit := congrArg (BitVec.getLsbD · j) rest
    simpa [BitVec.getLsbD_ushiftRight, Nat.add_comm] using bit

theorem lfsrStep_ne_zero {x : Word} (h : x ≠ 0) : lfsrStep x ≠ 0 := fun e =>
  h (lfsrStep_injective (y := 0) (e.trans (by decide)))

/-! ### Writes of a command engine (R97) -/

theorem State.regWrite_cmdeng (s : State) (w v : Nat) (e : Fin 16) {off rel : Nat} (place : off = 0x18000 + 0x100 * e + rel)
    (hr : rel < 0x100) : s.regWrite w off v = s.writeCmdeng (Blk.cmdeng.at? off) e rel v := by
  have inner : off - 0x18000 - 0x100 * e.val = rel := by omega
  unfold State.regWrite
  rw [blockAt_cmdeng e.isLt (by omega) (by omega)]
  simp only [inner]

/-- A register of engine e holds the fields of engine 0's register at that place. -/
theorem cmdeng_at?_engine (e : Fin 16) {rel : Nat} (hr : rel < 0x100) :
    Blk.cmdeng.at? (0x18000 + rel + 0x100 * e) = (Blk.cmdeng.at? (0x18000 + rel)).map fun x => (x.1, e.val, x.2.2) := by
  have copies : ∀ f ∈ Blk.cmdeng.fields, (f.s1 = 0x100 ∧ f.s2 = 0 ∧ f.n1 = 16 ∧ f.n2 = 1) ∧
      (0x18000 ≤ f.base ∧ f.base < 0x18100) ∧ ∀ i < 16, f.only i = true := by decide
  unfold Blk.at?
  rw [List.map_filterMap]
  refine filterMap_eq_of_mem fun f mem => ?_
  obtain ⟨⟨s1, s2, n1, n2⟩, ⟨low, high⟩, only⟩ := copies f mem
  unfold Field.at?
  rw [s1, s2, n1, n2]
  simp only [Nat.mod_zero, Nat.div_zero]
  by_cases here : rel + 0x18000 = f.base
  · have copy : (0x18000 + rel + 0x100 * e.val - f.base) / 0x100 = e := by omega
    have first : (0x18000 + rel - f.base) / 0x100 = 0 := by omega
    rw [if_neg (show ¬0x18000 + rel + 0x100 * e.val < f.base by omega), if_neg (show ¬0x18000 + rel < f.base by omega), copy, first, if_pos ⟨by omega, e.isLt, Nat.one_pos, only _ e.isLt⟩,
      if_pos ⟨by omega, by decide, Nat.one_pos, only 0 (by decide)⟩]
    rfl
  · have away : ∀ off, off % 0x100 = rel → 0x18000 ≤ off → (if off < f.base then none
        else if (off - f.base) % 0x100 = 0 ∧ (off - f.base) / 0x100 < 16 ∧ 0 < 1 ∧ f.only ((off - f.base) / 0x100) = true
          then some ((off - f.base) / 0x100, 0) else none) = (none : Option (Nat × Nat)) := by
      intro off place low
      split
      · rfl
      · exact if_neg (by omega)
    rw [away _ (by omega) (by omega), away _ (by omega) (by omega)]
    rfl

/-- The register of the watchdog holds WDOG_US alone. -/
theorem wdog_fields (e : Fin 16) : Blk.cmdeng.at? (0x18008 + 0x100 * e) = [(CMDENG_WDOG_US, e.val, 0)] :=
  cmdeng_at?_engine e (rel := 8) (by decide)

section
variable {s : State} {w : Fin 8} {e : Fin 16}

theorem cmdFreeze_effect (h : s.writable w (0x18000 + 0x100 * e)) (b : Bool) :
    exec (.cmdFreeze w e b) s = .next ((s.writeFreeze e (bit b)).disarmed w) := by
  refine write32_effect h (by omega) ?_
  rw [s.regWrite_cmdeng w _ e (off := 0x18000 + 0x100 * e) (rel := 0) rfl (by decide)]
  cases b <;> rfl

theorem engRst_effect (h : s.writable w (0x18000 + 0x100 * e)) : exec (.engRst w e) s =
    .next (((s.writeFreeze e (bitField (s.wordWith (0x18000 + 0x100 * e) 1 1 1) 0 1)).engineReset e).disarmed w) := by
  have reset : bitAt (s.wordWith (0x18000 + 0x100 * e) 1 1 1) 1 = true := by
    have field := (bitField_mod (s.withField (0x18000 + 0x100 * e) 1 1 1) 1 1 (by decide)).trans (bitField_putBits _ 1 1 1)
    exact beq_iff_eq.2 field
  refine write32_effect h (by omega) ?_
  rw [s.regWrite_cmdeng w _ e (off := 0x18000 + 0x100 * e) (rel := 0) rfl (by decide)]
  unfold State.writeCmdeng
  rw [if_pos rfl]
  exact if_pos reset

theorem wdogUs_effect (h : s.writable w (0x18008 + 0x100 * e)) (val : Word) : exec (.wdogUs w e val) s =
    .next (((s.setFld CMDENG_WDOG_US (bitField val.toNat 0 16) e).checkStuck e).disarmed w) := by
  refine write32_effect h (by omega) ?_
  rw [s.regWrite_cmdeng w _ e (rel := 8) (by omega) (by decide), wdog_fields, Nat.mod_eq_of_lt val.isLt]
  rfl

theorem lfsrSeed_effect (h : s.writable w (0x1800C + 0x100 * e)) (val : Word) : exec (.lfsrSeed w e val) s =
    .next ((s.setEngine e { s.engine e with lfsr := if val = 0 then 1 else val }).disarmed w) := by
  have seed : BitVec.ofNat 32 (if val.toNat = 0 then 1 else val.toNat) = if val = 0 then 1 else val := by
    by_cases zero : val = 0
    · rw [zero]; rfl
    · rw [if_neg zero, if_neg fun h : val.toNat = 0 => zero (BitVec.eq_of_toNat_eq h), BitVec.ofNat_toNat, BitVec.setWidth_eq]
  refine write32_effect h (by omega) ?_
  rw [s.regWrite_cmdeng w _ e (rel := 0xC) (by omega) (by decide), Nat.mod_eq_of_lt val.isLt, ← seed]
  rfl

end

/-- Settles O18: a step loses no bit of the register, so it can be undone. -/
theorem engineRegisters : Obligations.EngineRegisters :=
  ⟨fun _ _ _ => ⟨fun h => ⟨cmdFreeze_effect h, engRst_effect h⟩, wdogUs_effect, lfsrSeed_effect⟩,
    fun _ => lfsrStep_ne_zero, fun _ _ => lfsrStep_injective, lfsrStep_eq⟩

end Sys2Proof.Machine

/-! # Proofs: change descriptors -/

namespace Sys2Proof.Machine
open Reg

/-! ### A change descriptor that passes every check (R70, R73) -/

/-- What an engine does with a change descriptor, when its opcode's function submits these entries. -/
theorem processWhen_accepted {s s' : State} {e op : Nat} {r : Request} {es : List Entry} {lenBad : Bool} {p : Plan}
    {ok : Request → Bool} {f : State → Request → State × Done} {value : State → Plan → Nat × Nat} (v : Nat × Nat)
    (ready : s.ready e op r) (accepted : Accepted s r es lenBad p s') (taken : ok r = true)
    (submits : f s r = s.submit r es lenBad value) (answers : value s' p = v) :
    (r.checkOnly = false → s.processWhen e op ok f = (s'.holdAs r es p v).1.conclude e r (s'.holdAs r es p v).2) ∧
    (r.checkOnly = true → s.processWhen e op ok f = s.finish e r St.OK v.1 v.2 0) := by
  rw [processWhen_ready ready taken, submits, submit_accepted accepted, answers]
  constructor
  · intro h
    rw [h]
    rfl
  · intro h
    rw [h]
    exact conclude_checkOnly h v.1 v.2

/-- VALUE0 of FLOW_DEL: whether the context had words. -/
theorem bit_isEmpty (ws : List Nat) : bit (!ws.isEmpty) = if ws = [] then 0 else 1 := by
  cases ws <;> rfl

/-- PROBE_CTL submits its entry where the core is not gated and, for ACTION START, stopped. -/
theorem opProbeCtl_eq {s : State} {r : Request} (checks : s.entryChecks r [r.probeEntry] false = none)
    (running : s.coreGated (bitField (r.word 5) 0 5) = false)
    (stopped : r.probeAction = 1 → s.fld PROBE_STATE (bitField (r.word 5) 0 5) = coreStopped) (action : r.probeAction ≠ 0) :
    s.opProbeCtl r = s.submit r [r.probeEntry] false noValue := by
  have word : r.word 6 ≠ 0 := action
  unfold State.opProbeCtl
  dsimp only
  rw [checks, running]
  refine if_neg ?_
  by_cases start : r.word 6 = 1
  · rw [stopped start]
    simp
  · have other : r.word 6 - 1 ≠ 0 := by omega
    simp only [Request.probeEntry, if_neg word]
    split
    · next h => exact absurd (by injection h with h; injection h) other
    · simp

/-! ### Holding a change (R70, R71, R187) -/

theorem State.joinGroup_new {s : State} {r : Request} (absent : s.findGroup r.part r.group = none) (cs : List Change) (n : Nat) :
    s.joinGroup r cs n =
      s.setTakes (s.take.takes ++ [{ kind := .group, part := r.part, group := r.group, todo := cs, count := n }]) := by
  unfold State.joinGroup
  rw [absent]

theorem State.joinGroup_cfg (s : State) (r : Request) (cs : List Change) (n : Nat) : (s.joinGroup r cs n).cfg = s.cfg := by
  unfold State.joinGroup
  split <;> rfl

theorem State.holdAs_member {s : State} {r : Request} (member : r.group ≠ 0) (es : List Entry) (p : Plan) (v : Nat × Nat) :
    s.holdAs r es p v = (s.joinGroup r p.changes (p.count es), done v.1 v.2) := if_pos member

theorem State.holdAs_bank {s : State} {r : Request} (single : r.group = 0) (bank : r.bank = true) (es : List Entry) (p : Plan)
    (v : Nat × Nat) : s.holdAs r es p v = (s.writeBank r.part p.changes p.view (p.count es), done v.1 v.2) := by
  unfold State.holdAs
  rw [if_neg (fun h => h single), if_pos bank]

/-- Settles O19: each opcode submits its entries, and a submitted change that passes is held as its form says. -/
theorem changeDescriptors : Obligations.ChangeDescriptors := by
  constructor
  · intro s s' e r p
    have ok {c : Instr} {op : Nat} {k : Request → Bool} {f : State → Request → State × Done} {es : List Entry}
        {lenBad : Bool} {value : State → Plan → Nat × Nat} (v : Nat × Nat) (runs : exec c s = .next (s.processWhen e op k f))
        (taken : k r = true) (submits : s.entryChecks r es lenBad = none → f s r = s.submit r es lenBad value)
        (answers : value s' p = v) (ready : s.ready e op r) (accepted : Accepted s r es lenBad p s') :
        (r.checkOnly = false → exec c s = .next ((s'.holdAs r es p v).1.conclude e r (s'.holdAs r es p v).2)) ∧
        (r.checkOnly = true → exec c s = .next (s.finish e r St.OK v.1 v.2 0)) := by
      obtain ⟨held, checked⟩ := processWhen_accepted v ready accepted taken (submits accepted.checks) answers
      exact ⟨fun h => runs.trans (congrArg _ (held h)), fun h => runs.trans (congrArg _ (checked h))⟩
    refine ⟨ok _ rfl rfl (fun _ => rfl) rfl, ok _ rfl rfl (fun _ => rfl) rfl, ok _ rfl rfl (fun _ => rfl) rfl,
      ok _ rfl rfl (fun _ => rfl) rfl, ok _ rfl rfl (fun _ => rfl) rfl, ok _ rfl rfl (fun _ => rfl) rfl,
      ok _ rfl rfl (fun _ => rfl) rfl, ok _ rfl rfl (fun _ => rfl) rfl, ok _ rfl rfl (fun _ => rfl) rfl,
      ok _ rfl rfl (fun _ => rfl) rfl, ok _ rfl rfl (fun _ => rfl) ?_, fun running => ⟨fun action stopped => ?_,
        fun action => ?_, fun action => ?_, fun action => ?_⟩⟩
    · exact congrArg (·, 0) (bit_isEmpty _)
    · exact ok _ rfl (by simp [action]) (fun checks => opProbeCtl_eq checks running (fun _ => stopped) (by simp [action])) rfl
    all_goals exact ok _ rfl (by simp [action]) (fun checks => opProbeCtl_eq checks running (by simp [action]) (by simp [action])) rfl
  · intro s r es p v
    refine ⟨fun member absent => ?_, fun member k _ => ?_, fun single bank => ?_, holdAs_ok ..⟩
    · rw [s.holdAs_member member, s.joinGroup_new absent]
      exact ⟨rfl, rfl⟩
    · rw [s.holdAs_member member]
      exact s.joinGroup_cfg ..
    · rw [s.holdAs_bank single bank]
      exact ⟨rfl, rfl⟩

end Sys2Proof.Machine

/-! # Proofs: refused descriptors, and the descriptors that stage nothing -/

namespace Sys2Proof.Machine
open Reg

/-! ### The checks of a descriptor (R74) -/

theorem State.holding_opcode {s : State} {e op : Nat} {r : Request} (h : s.holding e op = some r) : r.opcode = op := by
  unfold State.holding at h
  split at h
  · split at h
    · next same => exact Option.some.inj h ▸ same
    · exact absurd h (by simp)
  · exact absurd h (by simp)

/-- A check that no entry fails does not decide the status. -/
theorem entryFail_none {bulk : Bool} {status : Nat} {f : Entry → Option Nat} {es : List Entry} (h : ∀ x ∈ es, f x = none) :
    entryFail bulk status f es = none := by
  unfold entryFail
  rw [List.findSome?_eq_none_iff]
  intro x mem
  rw [h x.1 (List.fst_mem_of_mem_zipIdx mem)]
  rfl

theorem State.entryChecks_headerBad {s : State} {r : Request} {x : Nat} (bad : r.headerBad = some x) (es : List Entry)
    (lenBad : Bool) : s.entryChecks r es lenBad = some (fail St.BAD_FIELD x) := by
  unfold State.entryChecks
  rw [bad]
  rfl

theorem State.entryChecks_lengthBad {s : State} {r : Request} {es : List Entry} (header : r.headerBad = none)
    (entries : ∀ x ∈ es, x.field = none ∧ x.index = none) (bad : r.lengthBad = true) (lenBad : Bool) :
    s.entryChecks r es lenBad = some (fail St.BAD_LENGTH 0) := by
  unfold State.entryChecks
  dsimp only
  rw [header, entryFail_none (fun x mem => (entries x mem).1), entryFail_none (fun x mem => (entries x mem).2), bad]
  rfl

/-! ### A refused member and its group (R72) -/

theorem State.failGroup_alone {s : State} {r : Request} (h : r.group = 0 ∨ r.checkOnly = true) : s.failGroup r = s :=
  if_pos (by grind)

theorem State.failGroup_member {s : State} {r : Request} {k : Take} (listed : allowsGroup r.opcode = true) (member : r.group ≠ 0)
    (real : r.checkOnly = false) (found : s.findGroup r.part r.group = some k) (opened : k.state = .opened) :
    s.failGroup r = s.updTake k (fun k => { k with state := .failed }) := by
  unfold State.failGroup
  rw [if_neg (by simp [listed, member, real]), found]
  exact if_pos opened

/-- A ROUTE that fails a check is answered with it, and fails its group. -/
theorem exec_route_refused {s : State} {e : Fin 16} {r : Request} {d : Done} (ready : s.ready e 0x10 r)
    (bad : s.entryChecks r [routeEntry (r.word 5) (r.word 6)] false = some d) :
    exec (.route e) s = .next ((s.failGroup r).conclude e r d) := by
  have refused : s.opRoute r = s.refuse r d := submit_refused bad noValue
  rw [exec_route]
  unfold execRoute
  rw [process_ready ready, refused]
  rfl

/-! ### FENCE (R83) -/

section
variable {s : State} {e : Fin 16} {r : Request}

theorem exec_fence_of_checks (held : s.holding e 0x01 = some r) (checks : s.entryChecks r [] false = none) :
    exec (.fence e) s =
      if s.fenceMet r.part r.ring (s.fenceOf r) = true then .next (s.finish e r St.OK s.now 0 0)
      else if (s.fenceOf r).limitUs = 0 then .next (s.finish e r St.TIMEOUT 0 0 0)
      else .next (s.park e r (fun g => { g with fence := some (s.fenceOf r) })) := by
  rw [exec_fence]
  unfold execFence
  rw [held]
  dsimp only
  rw [checks]

variable {p : Fin 8} {k : Fin 64} {w : FenceWait}

theorem State.fenceTimeout_eq (parked : s.parkedFence p k = some (r, w)) :
    s.fenceTimeout p k = if s.fenceOver w = true then s.complete r St.TIMEOUT 0 0 0 else s := by
  unfold State.fenceTimeout
  rw [parked]

theorem exec_fenceMet_of_parked (parked : s.parkedFence p k = some (r, w)) :
    exec (.fenceMet p k) s =
      .next (if (s.fenceMet p k w && !s.fenceOver w) = true then s.complete r St.OK s.now 0 0 else s) := by
  rw [exec_fenceMet]
  unfold execFenceMet
  rw [parked]

end

/-! ### NOP, TIME_QUERY, ACCEPT_STEP and opcodes that are not listed (R75, R86) -/

section
variable {s : State} {r : Request}

theorem State.opNop_ok (checks : s.entryChecks r [] false = none) : s.opNop r = (s, done 0 0) := by
  unfold State.opNop
  rw [checks]
  rfl

theorem State.opTimeQuery_ok (checks : s.entryChecks r [] false = none) : s.opTimeQuery r = (s, done s.now s.timeStatus) := by
  unfold State.opTimeQuery
  rw [checks]
  rfl

/-- A step that waits is accepted where the descriptor names it within TM_JUMP_NS (R118). -/
theorem State.acceptStep_ok {want : Int} (pending : s.fldOn TM_STEP_PENDING = true)
    (near : (want - s.pendingStep).natAbs ≤ s.fld TM_JUMP_NS) :
    s.acceptStep want = (s.applyPending, St.OK, unsignedOf 64 s.pendingStep, s.applyPending.now) := by
  unfold State.acceptStep
  rw [if_neg (by simp [pending])]
  exact if_neg (Nat.not_lt.2 near)

theorem State.opAcceptStep_ok (checks : s.entryChecks r [] false = none) (supervisor : r.part = 0)
    (pending : s.fldOn TM_STEP_PENDING = true)
    (near : (signed 64 (r.word64At 6) - s.pendingStep).natAbs ≤ s.fld TM_JUMP_NS) :
    s.opAcceptStep r =
      (s.applyPending, { status := St.OK, v0 := unsignedOf 64 s.pendingStep, v1 := s.applyPending.now }) := by
  unfold State.opAcceptStep
  rw [checks, if_neg (by simp [supervisor]), State.acceptStep_ok pending near]

theorem exec_badOpcode_unlisted {e : Fin 16} (held : (s.engine e).cur = some r) (unlisted : opcodeListed r.opcode = false) :
    exec (.badOpcode e) s = .next (s.finish e r St.BAD_OPCODE 0 0 0) := by
  rw [exec_badOpcode]
  unfold execBadOpcode
  rw [held]
  dsimp only
  rw [unlisted]
  rfl

end

/-- Settles O20: the checks decide in their order; each opcode's own lemma says the rest. -/
theorem otherDescriptors : Obligations.OtherDescriptors := by
  refine ⟨fun s e r d active => ⟨fun held bad => ?_, fun es lenBad x bad => s.entryChecks_headerBad bad es lenBad,
    fun es lenBad header entries bad => s.entryChecks_lengthBad header entries bad lenBad⟩, fun s e r => ⟨?_, ?_, ?_, ?_, ?_, ?_, ?_⟩⟩
  · have refused := exec_route_refused ⟨held, .inl active⟩ bad
    have listed : allowsGroup r.opcode = true := by rw [State.holding_opcode held]; rfl
    refine ⟨fun alone => ?_, fun k member real found opened => ?_⟩
    · rw [refused, State.failGroup_alone alone]
      rfl
    · rw [refused, State.failGroup_member listed member real found opened]
  · intro ready checks
    rw [exec_nop]
    unfold execNop
    rw [process_ready ready, State.opNop_ok checks]
  · exact exec_badOpcode_unlisted
  · intro ready checks
    rw [exec_timeQuery]
    unfold execTimeQuery
    rw [process_ready ready, State.opTimeQuery_ok checks]
  · intro ready checks supervisor pending near
    rw [exec_acceptStep]
    unfold execAcceptStep
    rw [process_ready ready, State.opAcceptStep_ok checks supervisor pending near]
  · intro held checks
    rw [exec_fence_of_checks held checks]
    refine ⟨fun met => if_pos met, fun unmet limit => ?_, fun unmet limit => ?_⟩
    · rw [if_neg (by simp [unmet]), if_pos limit]
    · rw [if_neg (by simp [unmet]), if_neg limit]
      rfl
  · intro p k w
    refine ⟨exec_fenceTimeout p k s, fun parked => ⟨fun met left => ?_, fun passed => ?_, fun left => ?_⟩⟩
    · rw [exec_fenceMet_of_parked parked, if_pos (by simp [met, left])]
    · rw [State.fenceTimeout_eq parked, if_pos passed]
    · rw [State.fenceTimeout_eq parked, if_neg (by simp [left])]
  · intro inactive held
    exact congrArg Host.Outcome.next (processWhen_inactive inactive held rfl rfl _)

end Sys2Proof.Machine

/-! # Proofs: COMMIT and BANK_FLIP -/

namespace Sys2Proof.Machine
open Reg

/-! ### Mileposts (R81, R177) -/

theorem State.milepostOf_of_ne {t : Nat} (h : t ≠ 0) (s : State) : s.milepostOf t = t := if_neg h

/-- With no MILEPOST the take waits for the first whole millisecond that is 3 ms away. -/
theorem State.milepostOf_zero (s : State) :
    s.milepostOf 0 % 1000000 = 0 ∧ s.now + 3000000 ≤ s.milepostOf 0 ∧ s.milepostOf 0 < s.now + 4000000 := by
  have whole : s.milepostOf 0 = ceilDiv (s.now + 3000000) 1000000 * 1000000 := rfl
  have lower := le_ceilDiv_mul (s.now + 3000000) (b := 1000000) (by decide)
  have upper := ceilDiv_mul_lt (s.now + 3000000) (b := 1000000) (by decide)
  rw [whole]
  omega

theorem State.milepostLate_iff (s : State) (t : Nat) : s.milepostLate t = true ↔ t ≠ 0 ∧ t ≤ s.now + 2000000 := by
  unfold State.milepostLate
  rw [Bool.and_eq_true, bne_iff_ne, decide_eq_true_iff]
  rfl

/-! ### A group or a flip that is discarded or scheduled (R81, R176, R189) -/

section
variable {s : State} {r : Request} {k : Take}

theorem State.abortTake_unsealed (real : r.checkOnly = false) (unsealed : s.unsealed k = true) :
    s.abortTake r k = (s.discardTake k, done 0 k.count) := by
  unfold State.abortTake
  rw [if_pos unsealed, real]
  rfl

section
variable (inTime : s.milepostLate (r.word64At 6) = false)
include inTime

theorem State.commitOpen_refused {d : Done} (changes : k.count ≠ 0)
    (refused : s.takeAdmission k (s.milepostOf (r.word64At 6)) = some d) : s.commitOpen r k = (s, d) := by
  unfold State.commitOpen
  simp only [inTime, if_neg changes, refused]
  rfl

theorem State.commitOpen_admitted (changes : k.count ≠ 0) (real : r.checkOnly = false)
    (admitted : s.takeAdmission k (s.milepostOf (r.word64At 6)) = none) :
    s.commitOpen r k = ((s.updTake k (fun _ => s.schedule k (s.milepostOf (r.word64At 6)))).takeSeq,
      { done (s.milepostOf (r.word64At 6)) k.count with cseq := s.take.nextSeq, t := s.milepostOf (r.word64At 6) }) := by
  unfold State.commitOpen
  simp only [inTime, if_neg changes, admitted, real]
  rfl

/-- The take that BANK_FLIP makes of a partition's bank. -/
def State.flipTake (s : State) (p : Nat) : Take :=
  { kind := .flip, part := p, todo := (s.bank p).steps, marks := (s.bank p).marks, count := s.fld TK_BANK_CHANGES p }

theorem State.flipBank_admitted (changes : s.fld TK_BANK_CHANGES r.part ≠ 0) (real : r.checkOnly = false)
    (admitted : s.takeAdmission (s.flipTake r.part) (s.milepostOf (r.word64At 6)) = none) :
    s.flipBank r = ((s.setTakes (s.take.takes ++ [s.schedule (s.flipTake r.part) (s.milepostOf (r.word64At 6))])).takeSeq,
      { done (s.milepostOf (r.word64At 6)) (s.fld TK_BANK_CHANGES r.part) with
        cseq := s.take.nextSeq, t := s.milepostOf (r.word64At 6) }) := by
  unfold State.flipTake at admitted
  unfold State.flipBank
  simp only [inTime, if_neg changes, admitted, real]
  rfl

end

/-! ### The opcodes (R81) -/

section
variable (checks : s.entryChecks r [{}] false = none) (near : s.milepostFar r = false)
include checks near

theorem State.opCommit_eq (member : r.group ≠ 0) (found : s.findGroup r.part r.group = some k) :
    s.opCommit r =
      if r.aborts = true then s.abortTake r k
      else if k.state = .failed then (if r.checkOnly then s else s.discardTake k, fail St.GROUP_FAILED 0)
      else if k.state = .opened then s.commitOpen r k
      else (s, fail St.GROUP_UNKNOWN 0) := by
  unfold State.opCommit
  simp only [if_neg member, near, Bool.false_eq_true, if_false, checks, found]

variable (lease : s.hasLease r.part = true)
include lease

theorem State.opFlip_free (flips : r.aborts = false) (free : s.flipOf r.part = none) : s.opFlip r = s.flipBank r := by
  unfold State.opFlip
  simp only [near, Bool.false_eq_true, if_false, checks, lease, if_true, free, flips]

theorem State.opFlip_abort (aborts : r.aborts = true) (flip : s.flipOf r.part = some k) : s.opFlip r = s.abortTake r k := by
  unfold State.opFlip
  simp only [near, Bool.false_eq_true, if_false, checks, lease, if_true, flip, aborts]

end
end

/-- Settles O21: the equations of `opCommit` and `opFlip` lead to the discard, the refusal or the schedule. -/
theorem commitsAndFlips : Obligations.CommitsAndFlips := by
  refine ⟨fun s e r k checks real near => ⟨fun ready member found => ?_, fun ready lease => ?_⟩, fun s => ?_⟩
  · have op := State.opCommit_eq checks near member found
    have starts (h : r.aborts = false) : exec (.commit e) s = .next ((s.opCommit r).1.conclude e r (s.opCommit r).2) :=
      congrArg Host.Outcome.next (processWhen_ready ready (by simp [h]) _)
    refine ⟨fun commits opened inTime changes admitted => ?_, fun commits opened inTime changes d refused => ?_,
      fun commits failed => ?_, fun aborts unsealed => ?_⟩
    · rw [starts commits, op, if_neg (by simp [commits]), if_neg (by simp [opened]), if_pos opened,
        State.commitOpen_admitted inTime changes real admitted]
    · rw [starts commits, op, if_neg (by simp [commits]), if_neg (by simp [opened]), if_pos opened,
        State.commitOpen_refused inTime changes refused]
    · rw [starts commits, op, if_neg (by simp [commits]), if_pos failed, real]
      rfl
    · rw [exec_commitAbort]
      unfold execCommitAbort
      rw [processWhen_ready ready aborts, op, if_pos aborts, State.abortTake_unsealed real unsealed]
  · refine ⟨fun flips free inTime changes admitted => ?_, fun aborts flip unsealed => ?_⟩
    · rw [exec_bankFlip]
      unfold execBankFlip
      rw [processWhen_ready ready (by simp [flips]), State.opFlip_free checks near lease flips free,
        State.flipBank_admitted inTime changes real admitted]
      rfl
    · rw [exec_bankFlipAbort]
      unfold execBankFlipAbort
      rw [processWhen_ready ready aborts, State.opFlip_abort checks near lease aborts flip, State.abortTake_unsealed real unsealed]
  · obtain ⟨whole, early, late⟩ := s.milepostOf_zero
    exact ⟨fun t h => s.milepostOf_of_ne h, whole, early, late, s.milepostLate_iff⟩

end Sys2Proof.Machine

/-! # Proofs: GRAPHIC_LOAD, PROBE_LOAD and HANDOVER -/

namespace Sys2Proof.Machine
open Reg

section
variable {s : State} {r : Request}

/-! ### GRAPHIC_LOAD (R84, R130) -/

/-- The picture that a GRAPHIC_LOAD of width w and height h names: none of width 0. -/
def graphicOf (w h : Nat) (data : List Nat) : Option Plane := if w = 0 then none else some { w := w, h := h, data := data }

theorem graphicPagesOf_graphicOf (w h : Nat) (data : List Nat) :
    graphicPagesOf (graphicOf w h data) = if w = 0 then 0 else graphicPages w h := by
  unfold graphicOf
  split <;> rfl

/-- No field of a GRAPHIC_LOAD of a legal size under a legal handle is out of range. -/
theorem graphicField_none {h w ht : Nat} (handle : h ≠ 0) (width : w ≤ 4096) (height : ht ≤ 2160) (both : w = 0 ↔ ht = 0) :
    (if h = 0 then some 0x14
      else if 4096 < w ∨ 2160 < ht ∨ (w = 0 ∧ ht ≠ 0) ∨ (w ≠ 0 ∧ ht = 0) then some 0x18 else none : Option Nat) = none := by
  rw [if_neg handle, if_neg (by omega)]

theorem State.opGraphic_eq (handle : bitField (r.word 5) 0 12 ≠ 0) (width : bitField (r.word 6) 0 16 ≤ 4096)
    (height : bitField (r.word 6) 16 16 ≤ 2160) (both : bitField (r.word 6) 0 16 = 0 ↔ bitField (r.word 6) 16 16 = 0)
    (checks : s.entryChecks r [{}] (r.hostLen != bitField (r.word 6) 0 16 * bitField (r.word 6) 16 16 * 4) = none)
    (lease : s.hasLease r.part = true) :
    s.opGraphic r =
      if s.graphicUsed r.part (bitField (r.word 5) 0 12) = true then (s, fail St.IN_USE 0)
      else match s.placeGraphic r.part (bitField (r.word 5) 0 12)
          (graphicOf (bitField (r.word 6) 0 16) (bitField (r.word 6) 16 16) (leWords r.buf)) with
        | some s' => (s', done r.hostLen 0)
        | none => (s, fail St.NO_MEMORY 0) := by
  unfold State.opGraphic
  simp only [graphicField_none handle width height both, checks, lease]
  rfl

/-! ### PROBE_LOAD (R86) -/

theorem State.opProbeLoad_eq (named : bitField (r.word 5) 8 2 = 1 ∨ bitField (r.word 5) 8 2 = 2) (aligned : r.word 6 % 4 = 0)
    (checks : s.entryChecks r [{}]
      (decide ((if bitField (r.word 5) 8 2 = 1 then 65536 else 131072) < r.word 6 + r.hostLen)) = none)
    (owner : s.mayChange r.part (oriProbe (bitField (r.word 5) 0 5)) = true)
    (stopped : s.fld PROBE_STATE (bitField (r.word 5) 0 5) = coreStopped)
    (running : s.coreGated (bitField (r.word 5) 0 5) = false) :
    s.opProbeLoad r = (s.setCore (bitField (r.word 5) 0 5)
      (if bitField (r.word 5) 8 2 = 1 then
        { s.core (bitField (r.word 5) 0 5) with
          loaded := true
          imem := Tab.setRange 0 (s.core (bitField (r.word 5) 0 5)).imem (r.word 6 / 4) (leWords r.buf) }
      else
        { s.core (bitField (r.word 5) 0 5) with
          loaded := true
          dmem := Tab.setRange 0 (s.core (bitField (r.word 5) 0 5)).dmem (r.word 6 / 2) (leHalves r.buf) }),
      done r.hostLen 0) := by
  have memory : ¬(bitField (r.word 5) 8 2 = 0 ∨ bitField (r.word 5) 8 2 = 3) := by omega
  unfold State.opProbeLoad
  simp only [if_neg memory, if_neg (show ¬r.word 6 % 4 ≠ 0 by omega), checks]
  rw [if_neg (by simp [owner]), if_neg (by simp [stopped, running])]

/-! ### HANDOVER (R454) -/

theorem State.opHandover_ok (checks : s.entryChecks r [] false = none) (supervisor : r.part = 0) (paired : s.role ≠ Role.SOLO)
    (ready : s.fldOn CWAY_PEER_READY = true) (standby : s.fld CWAY_PEER_STATE = Role.STANDBY)
    (inTime : s.milepostLate (r.word64At 6) = false) :
    s.opHandover r = ((s.startHandover 0 (s.milepostOf (r.word64At 6))).1,
      { done (s.milepostOf (r.word64At 6)) 0 with
        cseq := (s.startHandover 0 (s.milepostOf (r.word64At 6))).2, t := s.milepostOf (r.word64At 6) }) := by
  unfold State.opHandover
  rw [checks]
  dsimp only
  rw [if_neg (by simp [supervisor]), if_neg paired, if_neg (by simp [ready, standby]), if_neg (by simp [inTime]), supervisor]

end

/-- Settles O22: each opcode's equation on a descriptor that passes its checks. -/
theorem loadsAndHandover : Obligations.LoadsAndHandover := by
  refine fun s e r => ⟨fun loads => ?_, fun loads => ?_, fun hands checks supervisor paired ready standby inTime => ?_⟩
  · dsimp only
    intro handle width height both checks lease
    rw [exec_graphicLoad]
    unfold execGraphicLoad
    rw [process_ready loads, State.opGraphic_eq handle width height both checks lease]
    unfold State.placeGraphic
    dsimp only
    rw [graphicPagesOf_graphicOf]
    refine ⟨fun free room => ?_, fun free full => ?_, fun used => ?_⟩
    · rw [if_neg (by simp [free]), if_pos room]
      rfl
    · rw [if_neg (by simp [free]), if_neg (by simp [full])]
    · rw [if_pos used]
  · dsimp only
    intro aligned owner stopped running
    rw [exec_probeLoad]
    unfold execProbeLoad
    rw [process_ready loads]
    refine ⟨fun named checks => ?_, fun named checks => ?_⟩
    · rw [State.opProbeLoad_eq (.inl named) aligned (by rw [if_pos named]; exact checks) owner stopped running, if_pos named]
    · have other : bitField (r.word 5) 8 2 ≠ 1 := by omega
      rw [State.opProbeLoad_eq (.inr named) aligned (by rw [if_neg other]; exact checks) owner stopped running, if_neg other]
  · rw [exec_handover]
    unfold execHandover
    rw [process_ready hands, State.opHandover_ok checks supervisor paired ready standby inTime]

end Sys2Proof.Machine

/-! # Proofs: THUMB_CAPTURE, ANC_DRAIN and STATS_SNAPSHOT -/

namespace Sys2Proof.Machine
open Reg

section
variable {s : State} {r : Request}

/-! ### Data before the record (R50, R66) -/

theorem State.dataToHost_lapsed {p : Nat} (h : s.pstate p = partLapsed) (k a : Nat) (bs : List Byte) :
    s.dataToHost p k a bs = s.setRing p k { s.ring p k with heldData := (s.ring p k).heldData ++ [(a, bs)] } := if_pos h

theorem State.dataToHost_of_ne {p : Nat} (h : s.pstate p ≠ partLapsed) (k a : Nat) (bs : List Byte) :
    s.dataToHost p k a bs = s.emit (.hostData p a bs) := if_neg h

variable {e : Nat} {v0 v1 : Nat} {bs : List Byte}

theorem State.deliverData_empty (bad : Option (BitVec 64)) :
    s.deliverData e r (done v0 v1) [] bad = s.finish e r St.OK v0 v1 0 := if_pos (.inr rfl)

theorem State.deliverData_written (h : bs ≠ []) :
    s.deliverData e r (done v0 v1) bs none =
      (s.dataToHost r.part r.ring r.hostAddr bs).finish e r St.OK v0 v1 0 := if_neg (by simp [done, h])

theorem State.deliverData_failed (h : bs ≠ []) (a : BitVec 64) :
    s.deliverData e r (done v0 v1) bs (some a) =
      (s.hostFault r.part (.cmd (Fin.ofNat 64 r.ring)) 0 a.toNat).finish e r St.HOST_FAULT 0 0 0 := if_neg (by simp [done, h])

/-! ### THUMB_CAPTURE (R85) -/

theorem exec_thumbCapture_eq {e : Fin 16} (held : s.holding e 0x31 = some r) (source : bitField (r.word 5) 0 11 < 1120)
    (level : bitField (r.word 5) 16 3 < 5)
    (ladder : bitAt (s.cfg.ring (bitField (r.word 5) 0 11)).ladder (bitField (r.word 5) 16 3) = true)
    (checks : s.entryChecks r [{}] (decide (r.hostLen <
      bitField (r.word 6) 0 8 * s.thumbBytes (bitField (r.word 5) 0 11) (bitField (r.word 5) 16 3))) = none)
    (readable : s.mayRead r.part (bitField (r.word 5) 0 11) = true) :
    exec (.thumbCapture e) s =
      if bitField (r.word 6) 0 8 = 0 then .next (s.finish e r St.OK 0 0 0)
      else .next (s.park e r (fun g => { g with thumb := some {
        src := bitField (r.word 5) 0 11, level := bitField (r.word 5) 16 3, left := bitField (r.word 6) 0 8
        addr := r.hostAddr, firstSeq := 0, bytes := 0, lastSeq := (s.src (bitField (r.word 5) 0 11)).seq } })) := by
  have field : ¬(5 ≤ bitField (r.word 5) 16 3 ∨ (bitField (r.word 5) 0 11 < 1120 ∧
      bitAt (s.cfg.ring (bitField (r.word 5) 0 11)).ladder (bitField (r.word 5) 16 3) = false)) := by
    rw [ladder]
    simp [level]
  rw [exec_thumbCapture]
  unfold execThumbCapture
  simp only [held, if_neg field, if_neg (Nat.not_le.2 source), checks, readable]
  rfl

section
variable {p : Fin 8} {k : Fin 64} {w : ThumbWait} {rest : List Request}
variable (parked : (s.ring p k).place = .parked) (thumb : (s.ring p k).thumb = some w) (oldest : (s.ring p k).fetched = r :: rest)
include parked thumb oldest

theorem exec_thumbCaptureDone_whole (last : w.left = 0) :
    exec (.thumbCaptureDone p k none) s = .next (s.complete r St.OK w.bytes w.firstSeq 0) := by
  rw [exec_thumbCaptureDone]
  unfold execThumbCaptureDone
  rw [parked, thumb, oldest]
  exact if_pos last

theorem exec_thumbCaptureDone_failed (begun : w.bytes ≠ 0) (a : BitVec 64) :
    exec (.thumbCaptureDone p k (some a)) s = .next ((s.hostFault p (.cmd k) 0 a.toNat).complete r St.HOST_FAULT 0 0 0) := by
  rw [exec_thumbCaptureDone]
  unfold execThumbCaptureDone
  rw [parked, thumb, oldest]
  exact if_neg begun

end

/-! ### ANC_DRAIN (R85, R401) -/

/-- A mark that is lost bars only a drain that rewinds to it. -/
theorem mark_kept {rewinds lost : Bool} (mark : rewinds = true → lost = false) : ¬(rewinds && lost) = true := by
  cases rewinds
  · simp
  · simp [mark rfl]

section
variable (checks : s.entryChecks r [] false = none)
variable (owner : s.mayChange r.part (oriQueue (bitField (r.word 5) 0 8)) = true)
variable (consumer : s.fld ANCQ_CONSUMER (bitField (r.word 5) 0 8) = 1)
variable (mark : bitAt (r.word 6) 1 = true → s.fldOn ANCQ_MARK_LOST (bitField (r.word 5) 0 8) = false)
include checks owner consumer mark

/-- An ANC_DRAIN that passes its checks is refused only where the first packet does not fit. -/
theorem State.opDrain_short (short : s.drainQueue r (bitField (r.word 5) 0 8) = none) :
    s.opDrain r = (s, fail St.BAD_LENGTH 0, []) := by
  unfold State.opDrain
  rw [checks]
  dsimp only
  rw [if_neg (by simp [owner]), if_neg (by simp [consumer]), if_neg (mark_kept mark), short]

/-- An ANC_DRAIN that passes its checks reads the queue. -/
theorem State.opDrain_read {t : State} {ps : List (List Nat)} (read : s.drainQueue r (bitField (r.word 5) 0 8) = some (t, ps)) :
    s.opDrain r = (t, done (wordBytes ps.flatten).length ps.length, wordBytes ps.flatten) := by
  unfold State.opDrain
  rw [checks]
  dsimp only
  rw [if_neg (by simp [owner]), if_neg (by simp [consumer]), if_neg (mark_kept mark), read]

end

theorem exec_ancDrain_eq {e : Fin 16} (held : s.holding e 0x32 = some r) (bad : Option (BitVec 64)) :
    exec (.ancDrain e bad) s = .next ((s.opDrain r).1.deliverData e r (s.opDrain r).2.1 (s.opDrain r).2.2 bad) := by
  rw [exec_ancDrain]
  unfold execAncDrain
  rw [held]

/-! ### STATS_SNAPSHOT (R85) -/

/-- A STATS_SNAPSHOT that passes its checks reads the records before it clears. -/
theorem State.opStats_eq (low : 1 ≤ bitField (r.word 5) 0 4) (high : bitField (r.word 5) 0 4 ≤ 8)
    (objects : bitField (r.word 6) 0 18 + bitField (r.word 7) 0 19 ≤ statsCount (bitField (r.word 5) 0 4))
    (count : bitField (r.word 7) 0 19 ≤ 262144)
    (checks : s.entryChecks r [{}]
      (decide (r.hostLen < bitField (r.word 7) 0 19 * statsBytes (bitField (r.word 5) 0 4))) = none) :
    s.opStats r =
      let ids := (List.range (bitField (r.word 7) 0 19)).map (fun i => bitField (r.word 6) 0 18 + i)
      let t := s.when (bitAt (r.word 5) 8) (fun s => s.each ids (fun s i => s.statsClear (bitField (r.word 5) 0 4) i))
      ({ t with free := t.free + bitField (r.word 6) 0 18 + bitField (r.word 7) 0 19 }, done s.now (bitField (r.word 7) 0 19),
        ids.flatMap (s.statsRecord (bitField (r.word 5) 0 4))) := by
  have set : ¬(bitField (r.word 5) 0 4 = 0 ∨ 8 < bitField (r.word 5) 0 4) := by omega
  unfold State.opStats
  simp only [if_neg set, if_neg (Nat.not_lt.2 count), if_neg (Nat.not_lt.2 objects), checks]

theorem exec_statsSnapshot_eq {e : Fin 16} (held : s.holding e 0x34 = some r) (bad : Option (BitVec 64)) :
    exec (.statsSnapshot e bad) s = .next ((s.opStats r).1.deliverData e r (s.opStats r).2.1 (s.opStats r).2.2 bad) := by
  rw [exec_statsSnapshot]
  unfold execStatsSnapshot
  rw [held]

end

/-- Settles O23: each opcode's equation, then the data goes before the record. -/
theorem readsToHostMemory : Obligations.ReadsToHostMemory := by
  refine fun s e r => ⟨fun held => ?_, fun p k w rest parked thumb oldest => ⟨fun last => ?_, fun begun a => ?_⟩,
    fun held => ?_, fun held => ?_, fun p k a bs => ⟨fun h => s.dataToHost_of_ne h k a bs, fun h => s.dataToHost_lapsed h k a bs⟩⟩
  · dsimp only
    intro source level ladder checks readable
    rw [exec_thumbCapture_eq held source level ladder checks readable]
    exact ⟨fun asked => if_neg asked, fun nothing => if_pos nothing⟩
  · exact exec_thumbCaptureDone_whole parked thumb oldest last
  · exact exec_thumbCaptureDone_failed parked thumb oldest begun a
  · dsimp only
    intro checks owner consumer mark
    refine ⟨fun short => ?_, fun t ps read => ?_⟩
    · rw [exec_ancDrain_eq held, State.opDrain_short checks owner consumer mark short]
      rfl
    · have op := State.opDrain_read checks owner consumer mark read
      refine ⟨fun empty bad => ?_, fun full => ⟨?_, fun a => ?_⟩⟩
      · rw [exec_ancDrain_eq held, op, empty]
        exact congrArg _ (State.deliverData_empty bad)
      · rw [exec_ancDrain_eq held, op]
        exact congrArg _ (State.deliverData_written full)
      · rw [exec_ancDrain_eq held, op]
        exact congrArg _ (State.deliverData_failed full a)
  · dsimp only
    intro low high objects count checks
    have op := State.opStats_eq low high objects count checks
    refine ⟨fun empty bad => ?_, fun full => ⟨?_, fun a => ?_⟩⟩
    · rw [exec_statsSnapshot_eq held, op]
      dsimp only
      rw [empty]
      exact congrArg _ (State.deliverData_empty bad)
    · rw [exec_statsSnapshot_eq held, op]
      exact congrArg _ (State.deliverData_written full)
    · rw [exec_statsSnapshot_eq held, op]
      exact congrArg _ (State.deliverData_failed full a)

end Sys2Proof.Machine

/-! # Proofs: limits counted in ticks, the frame grid and plane offsets -/

namespace Sys2Proof.Machine
open Reg

/-! ### Limits (R103) -/

theorem expiry_mod (start len tick : Nat) : expiry start len tick % tick = 0 := Nat.mul_mod_left ..

theorem le_expiry (start len : Nat) {tick : Nat} (h : 0 < tick) : start + len ≤ expiry start len tick := le_ceilDiv_mul _ h

theorem expiry_lt (start len : Nat) {tick : Nat} (h : 0 < tick) : expiry start len tick < start + len + tick := ceilDiv_mul_lt _ h

theorem State.expired_iff (s : State) (start len tick : Nat) :
    s.expired start len tick = true ↔ expiry start len tick ≤ s.time.grid := decide_eq_true_iff

/-! ### The frame grid (R120) -/

/-- Of the rates that are in use, a frame lasts a nanosecond or more. -/
theorem rateFrac_frame {rate : Nat} (low : 1 ≤ rate) (high : rate ≤ 8) :
    0 < (rateFrac rate).1 ∧ (rateFrac rate).1 ≤ (rateFrac rate).2 * 10 ^ 9 := by
  have cases : rate = 1 ∨ rate = 2 ∨ rate = 3 ∨ rate = 4 ∨ rate = 5 ∨ rate = 6 ∨ rate = 7 ∨ rate = 8 := by omega
  rcases cases with rfl | rfl | rfl | rfl | rfl | rfl | rfl | rfl <;> decide

theorem mul_div_lt_succ {k n d : Nat} (pos : 0 < n) (frame : n ≤ d) : k * d / n < (k + 1) * d / n := by
  have one : k * d / n + 1 = (k * d + n) / n := (Nat.add_div_right _ pos).symm
  have le : (k * d + n) / n ≤ (k + 1) * d / n := Nat.div_le_div_right (by rw [Nat.succ_mul]; omega)
  omega

/-- Frame k has started by time x exactly when it is one of the frames that `gridIndex` counts. -/
theorem mul_div_le_iff {k n d x : Nat} (pos : 0 < n) (period : 0 < d) : k * d / n ≤ x ↔ k < ((x + 1) * n - 1) / d + 1 := by
  have some : 0 < (x + 1) * n := Nat.mul_pos (Nat.succ_pos x) pos
  rw [← Nat.lt_add_one_iff, Nat.div_lt_iff_lt_mul pos, Nat.lt_add_one_iff, Nat.le_div_iff_mul_le period]
  omega

theorem gridStart_eq (rate : Nat) (ofs : Int) (k : Nat) :
    gridStart rate ofs k = ((k * (rateFrac rate).2 * 10 ^ 9 / (rateFrac rate).1 : Nat) : Int) + ofs := rfl

theorem gridStart_lt_succ {rate : Nat} (low : 1 ≤ rate) (high : rate ≤ 8) (ofs : Int) (k : Nat) :
    gridStart rate ofs k < gridStart rate ofs (k + 1) := by
  obtain ⟨pos, frame⟩ := rateFrac_frame low high
  have := mul_div_lt_succ (k := k) pos frame
  rw [gridStart_eq, gridStart_eq, Nat.mul_assoc, Nat.mul_assoc]
  omega

theorem gridStart_le_iff {rate : Nat} (low : 1 ≤ rate) (high : rate ≤ 8) (ofs t : Int) (k : Nat) :
    gridStart rate ofs k ≤ t ↔ k < gridIndex rate ofs t := by
  obtain ⟨pos, frame⟩ := rateFrac_frame low high
  have counted := mul_div_le_iff (k := k) (x := (t - ofs).toNat) pos (Nat.lt_of_lt_of_le pos frame)
  unfold gridIndex
  dsimp only
  rw [gridStart_eq, Nat.mul_assoc, if_neg (Nat.ne_of_gt pos)]
  generalize k * ((rateFrac rate).2 * 10 ^ 9) / (rateFrac rate).1 = start at counted ⊢
  by_cases before : t < ofs
  · rw [if_pos before]
    omega
  · rw [if_neg before, ← counted]
    omega

/-! ### OFFSET_NS (R121) -/

theorem Field.base_le_key (f : Field) (i j : Nat) : 8 * f.base ≤ f.key i j := by
  unfold Field.key Field.off
  omega

section
variable (s : State) (p : Fin 8) (v : Nat)

/-- OFFSET_NS of a plane lies below the registers of destinations and probe cores. -/
theorem State.fld_setFld_offset {g : Field} (above : 0x30600 ≤ g.base) (i : Nat) :
    (s.setFld PLANE_OFFSET_NS v p).fld g i = s.fld g i := by
  have key : PLANE_OFFSET_NS.key p 0 = 8 * (0x30404 + 0x40 * p.val) := by
    simp [Field.key, Field.off, PLANE_OFFSET_NS, Nat.mul_comm]
  have far := g.base_le_key i 0
  exact State.fld_setFld_ne _ _ _ _ _ _ _ _ (by omega)

theorem State.planeUsers_setFld_offset (q : Nat) : (s.setFld PLANE_OFFSET_NS v p).planeUsers q = s.planeUsers q := by
  have enable := fun d => s.fld_setFld_offset p v (g := DST_ENABLE) (by decide) d
  have plane := fun d => s.fld_setFld_offset p v (g := DST_PLANE) (by decide) d
  have trigger := fun c => s.fld_setFld_offset p v (g := PROBE_TRIG_PLANE) (by decide) c
  unfold State.planeUsers State.fldOn
  simp only [enable, plane, trigger]
  rfl

theorem State.planeRun_setPlaneRun_self (q : Nat) (r : PlaneRun) : (s.setPlaneRun q r).planeRun q = r := Tab.get_set_self ..

variable {s p v}

theorem State.writeOffset_used (h : s.planeUsers p ≠ 0) : s.writeOffset p v = s.setFld PLANE_OFFSET_NS v p := by
  unfold State.writeOffset
  dsimp only
  rw [s.planeUsers_setFld_offset, if_pos h]

theorem State.writeOffset_free (h : s.planeUsers p = 0) :
    s.writeOffset p v = (s.setFld PLANE_OFFSET_NS v p).setPlaneRun p { s.planeRun p with
      offsetUsed := (s.setFld PLANE_OFFSET_NS v p).planeOffset p, offsetWas := (s.setFld PLANE_OFFSET_NS v p).planeOffset p } := by
  unfold State.writeOffset
  dsimp only
  rw [s.planeUsers_setFld_offset, if_neg (by simp [h])]
  rfl

theorem State.writeOffset_regs : (s.writeOffset p v).regs = (s.setFld PLANE_OFFSET_NS v p).regs := by
  by_cases h : s.planeUsers p = 0
  · rw [State.writeOffset_free h, State.setPlaneRun_regs]
  · rw [State.writeOffset_used h]

theorem State.planeOffset_setFld (word : v < 2 ^ 32) :
    (s.setFld PLANE_OFFSET_NS v p).planeOffset p = offsetInUse (s.planeRate p) (signed 32 v) := by
  have rate : (s.setFld PLANE_OFFSET_NS v p).planeRate p = s.planeRate p :=
    State.fld_setFld_other (f := PLANE_OFFSET_NS) (g := PLANE_RATE) s rfl (by decide) v p
  unfold State.planeOffset
  rw [rate, State.fld_setFld_self]
  exact congrArg (fun x => offsetInUse _ (signed 32 x)) (Nat.mod_eq_of_lt word)

end

theorem offsetInUse_eq (rate : Nat) (v : Int) :
    offsetInUse rate v = if v.natAbs * (rateFrac rate).1 < (rateFrac rate).2 * 10 ^ 9 then v else 0 := rfl

/-- Settles O26: expiry and frame starts are rounded quotients, and an offset written keeps to `writeOffset`. -/
theorem limitsAndPlanes : Obligations.LimitsAndPlanes := by
  refine ⟨fun s start len tick pos => ⟨expiry_mod .., le_expiry _ _ pos, expiry_lt _ _ pos, s.expired_iff ..⟩,
    fun rate ofs t k low high => ⟨gridStart_eq .., gridStart_lt_succ low high .., gridStart_le_iff low high ..⟩,
    fun s p v word => ⟨?_, fun free => ?_, fun used => ?_, fun used x => if_pos used⟩⟩
  · rw [State.fld_congr State.writeOffset_regs, State.fld_setFld_self]
    exact Nat.mod_eq_of_lt word
  · rw [State.writeOffset_free free, State.planeRun_setPlaneRun_self]
    exact (State.planeOffset_setFld word).trans (offsetInUse_eq ..)
  · rw [State.writeOffset_used used]
    rfl

end Sys2Proof.Machine

/-! # Proofs: what leaves device time and its grid as they are -/

namespace Sys2Proof.Machine
open Reg

section
variable (s : State)

/-! ### Changes that are repeated or made under a condition -/

theorem ite_time (c : Prop) [Decidable c] (s t : State) : (if c then s else t).time = if c then s.time else t.time :=
  apply_ite State.time c s t

@[simp] theorem State.when_time (c : Bool) {f : State → State} (h : ∀ t, (f t).time = t.time) : (s.when c f).time = s.time := by
  cases c
  · rfl
  · exact h s

@[simp] theorem State.each_time {α : Type} (l : List α) {f : State → α → State} (h : ∀ t a, (f t a).time = t.time) :
    (s.each l f).time = s.time := State.each_invariant l f State.time h s

theorem State.each_time_of_mem {α : Type} {f : State → α → State} (l : List α)
    (h : ∀ t, ∀ a ∈ l, (f t a).time = t.time) : (s.each l f).time = s.time := by
  induction l generalizing s with
  | nil => rfl
  | cons a l ih => exact (ih (f s a) (fun t b mem => h t b (List.mem_cons_of_mem a mem))).trans (h s a List.mem_cons_self)

@[simp] theorem State.upTo_time (n : Nat) {f : State → Nat → State} (h : ∀ t k, (f t k).time = t.time) :
    (s.upTo n f).time = s.time := s.upTo_invariant n f State.time (fun t k _ => h t k)

/-! ### Events and fault records (R89, R460) -/

@[simp] theorem State.placeFault_time (cls ev index sub data : Nat) (holds : Bool) :
    (s.placeFault cls ev index sub data holds).time = s.time := (placeFault_frame ..).time

@[simp] theorem State.sendVector_time (p v : Nat) : (s.sendVector p v).time = s.time := by
  simp [State.sendVector, ite_time]

@[simp] theorem State.writeEvent_time (p e ev cls index sub data seq : Nat) :
    (s.writeEvent p e ev cls index sub data seq).time = s.time := by
  simp [State.writeEvent, ite_time]

@[simp] theorem State.deliver_time (ev cls index sub data p : Nat) : (s.deliver ev cls index sub data p).time = s.time := by
  unfold State.deliver
  dsimp only
  split
  · simp
  · split <;> simp

@[simp] theorem State.raise_time (ev : Nat) (r : Raise) : (s.raise ev r).time = s.time := by
  have clock (t : State) : (t.upTo 8 (fun t p => t.when (t.present p) (fun t => t.setFld PCB_NMI_CLOCK 1 p))).time = t.time :=
    t.upTo_time 8 (fun t p => t.when_time _ (fun _ => rfl))
  unfold State.raise
  dsimp only
  rw [State.when_time _ _ clock]
  simp

/-! ### Messages to the peer (R443) -/

@[simp] theorem State.putMsg_time (flags mseq : Nat) (m : CwMsg) : (s.putMsg flags mseq m).time = s.time :=
  s.when_time _ (fun _ => rfl)

@[simp] theorem State.send_time (ty : Nat) (words : List Nat) : (s.send ty words).time = s.time := by
  simp [State.send, State.sendNow, ite_time]

@[simp] theorem State.enterRole_time (r cause : Nat) : (s.enterRole r cause).time = s.time := by
  have fault (t : State) (c : Bool) : (t.when c (fun t => (t.setFld CWAY_PF_DRIVE 1).setFld CWAY_PF_LINE 1)).time = t.time :=
    t.when_time c (fun _ => rfl)
  simp [State.enterRole, fault]

/-! ### Pages, takes and rings -/

@[simp] theorem State.returnPages_time (ps : List Page) : (s.returnPages ps).time = s.time :=
  s.upTo_time 4 (fun _ _ => rfl)

@[simp] theorem State.claimPages_time (mask pages : Nat) : (s.claimPages mask pages).1.time = s.time :=
  s.upTo_time 4 (fun _ _ => rfl)

@[simp] theorem State.usePages_time (mask pages : Nat) : (s.usePages mask pages).1.time = s.time :=
  s.upTo_time 4 (fun _ _ => rfl)

@[simp] theorem State.setHoldBytes_time (n : Nat) : (s.setHoldBytes n).time = s.time := by
  simp [State.setHoldBytes, ite_time]

@[simp] theorem State.unreserve_time (c : Change) : (s.unreserve c).time = s.time := by
  unfold State.unreserve
  split <;> simp [State.unreservePages]

@[simp] theorem State.discardTake_time (k : Take) : (s.discardTake k).time = s.time := by
  simp [State.discardTake, State.removeTake]

@[simp] theorem State.updTake_time (k : Take) (f : Take → Take) : (s.updTake k f).time = s.time := by
  simp [State.updTake]

@[simp] theorem State.updSlot_time (x : SlotRef) (f : Slot → Slot) : (s.updSlot x f).time = s.time := by
  simp [State.updSlot]

@[simp] theorem State.dataToHost_time (p k a : Nat) (bs : List Byte) : (s.dataToHost p k a bs).time = s.time := by
  simp [State.dataToHost, ite_time]

@[simp] theorem State.copyThumbs_time (n : Nat) (sl : Slot) (store ladder : Nat) :
    (s.copyThumbs n sl store ladder).time = s.time := by
  simp [State.copyThumbs, ite_time]

@[simp] theorem State.sweepRings_time (n : Nat) : (s.sweepRings n).time = s.time := by
  simp [State.sweepRings]

/-! ### Digests and the slots that they follow (R446 .. R448) -/

@[simp] theorem State.joinDone_time : s.joinDone.time = s.time := by
  simp [State.joinDone]

@[simp] theorem State.digestMismatch_time (d : Dig) (both : Bool) : (s.digestMismatch d both).time = s.time := by
  simp [State.digestMismatch, State.requestKat, State.askKat, ite_time]

@[simp] theorem State.compareDigests_time (own peer : Dig) : (s.compareDigests own peer).time = s.time := by
  simp [State.compareDigests, State.outputAgrees, ite_time]

@[simp] theorem State.ownDigest_time (d : Dig) : (s.ownDigest d).time = s.time := by
  unfold State.ownDigest
  split
  · dsimp only
    split <;> simp
  · rfl

@[simp] theorem State.closeSlot_time (x : SlotRef) : (s.closeSlot x).time = s.time := by
  have damaged (t : State) (c : Bool) : (t.when c (fun t => t.addFld SRC_DAMAGED 1 x.src)).time = t.time :=
    t.when_time c (fun _ => rfl)
  have frames (t : State) (c : Bool) : (t.when c (fun t => t.addFld CMP_FRAMES 1 (x.src - 1024))).time = t.time :=
    t.when_time c (fun _ => rfl)
  unfold State.closeSlot
  split
  · rfl
  · split
    · dsimp only
      split <;> simp [damaged, frames]
    · rfl

/-! ### Islands that the safe state holds in reset (R463) -/

@[simp] theorem State.resetFields_time (fs : List Field) (sel : Nat → Nat → Bool) : (s.resetFields fs sel).time = s.time := rfl

@[simp] theorem State.resetIngest_time (i : Nat) : (s.resetIngest i).time = s.time := by
  simp [State.resetIngest]

@[simp] theorem State.resetDest_time (j : Nat) : (s.resetDest j).time = s.time :=
  s.each_time _ (fun _ _ => rfl)

@[simp] theorem State.resetComp_time (k : Nat) : (s.resetComp k).time = s.time := by
  simp [State.resetComp]

@[simp] theorem State.setAesLock_time (i : Nat) (locked : Bool) : (s.setAesLock i locked).time = s.time := by
  refine (State.each_time _ _ fun t ch => ?_).trans (s.when_time _ fun t => ?_) <;> rfl

@[simp] theorem State.resetAesio_time : s.resetAesio.time = s.time := by
  simp [State.resetAesio]

@[simp] theorem State.resetAudio_time : s.resetAudio.time = s.time := rfl

@[simp] theorem State.resetCore_time (c : Nat) : (s.resetCore c).time = s.time := rfl

/-- The islands of the media and lane clocks keep running in the safe state. -/
theorem State.islReset_safe_time {d : Nat} (h : d ∈ safeDomains) : (s.islReset d).time = s.time := by
  have range : ∀ x ∈ safeDomains, 92 ≤ x ∧ x ≤ 170 := by decide
  obtain ⟨low, high⟩ := range d h
  unfold State.islReset
  rw [if_neg (by omega), if_neg (by omega), if_neg (show ¬d = 171 by omega), if_neg (show ¬d = 172 by omega)]
  simp [ite_time]

@[simp] theorem State.towCount_time (f : Field) (b j : Nat) : (s.towCount f b j).time = s.time := by
  simp [State.towCount, ite_time]

@[simp] theorem State.towLeave_time (b outcome : Nat) : (s.towLeave b outcome).time = s.time := by
  simp [State.towLeave, State.towSignal]

@[simp] theorem State.towAbandon_time (b : Nat) : (s.towAbandon b).time = s.time := by
  simp [State.towAbandon, State.towRelease, ite_time]

/-! ### The safe state and the pair (R435, R451, R463) -/

@[simp] theorem State.discardScheduled_time : s.discardScheduled.time = s.time := by
  simp [State.discardScheduled]

@[simp] theorem State.abandonCur_time (e : Nat) : (s.abandonCur e).time = s.time := by
  unfold State.abandonCur
  dsimp only
  split <;> rfl

@[simp] theorem State.reachSafe_time (i t : Nat) : (s.reachSafe i t).time = s.time := by
  have islands (t : State) : (t.each safeDomains State.islReset).time = t.time :=
    t.each_time_of_mem _ (fun u _ mem => u.islReset_safe_time mem)
  simp [State.reachSafe, State.idleOutputs, islands]

@[simp] theorem State.safeSettle_time : s.safeSettle.time = s.time := by
  unfold State.safeSettle
  split
  · simp [ite_time]
  · rfl

@[simp] theorem State.faultSettle_time : s.faultSettle.time = s.time :=
  s.upTo_time 16 (fun t _ => t.when_time _ (fun _ => rfl))

@[simp] theorem State.peerSettle_time : s.peerSettle.time = s.time := by
  simp [State.peerSettle, State.unseePeer, ite_time]

@[simp] theorem State.pairSettle_time : s.pairSettle.time = s.time := by
  simp [State.pairSettle, State.ackCopied]

@[simp] theorem State.initSettle_time : s.initSettle.time = s.time := by
  simp [State.initSettle, State.join, ite_time]

@[simp] theorem State.sendHealth_time : s.sendHealth.time = s.time := by
  unfold State.sendHealth
  dsimp only
  rw [State.send_time, State.setCway_time]
  exact s.each_time _ (fun _ _ => rfl)

@[simp] theorem State.autoYield_time : s.autoYield.time = s.time := by
  simp [State.autoYield, State.startHandover, State.setHandovers, State.takeSeq, ite_time]

@[simp] theorem State.refreshReady_time : s.refreshReady.time = s.time := by
  simp [State.refreshReady, ite_time]

/-! ### One cycle with an empty queue (R101) -/

@[simp] theorem State.icTick_time : s.icTick.time = s.time := by
  have serve (t : State) (i : Nat) : (t.icServe i).time = t.time := by
    unfold State.icServe
    dsimp only
    split
    · rfl
    · split <;> rfl
  simp [State.icTick, ite_time, serve]

@[simp] theorem State.stepLfsrs_time : s.stepLfsrs.time = s.time := by
  unfold State.stepLfsrs
  dsimp only
  exact s.upTo_time 16 (fun _ _ => rfl)

@[simp] theorem State.stepTow_time : s.stepTow.time = s.time := by
  have buses (t : State) : (t.upTo 2 (fun t b =>
      t.setTow b { t.towRun b with lfsr := lfsrSteps 1 (t.towRun b).lfsr })).time = t.time := t.upTo_time 2 (fun _ _ => rfl)
  simp [State.stepTow, ite_time, buses]

@[simp] theorem State.ancNextCycle_time : s.ancNextCycle.time = s.time := by
  simp [State.ancNextCycle, State.ancWatermarks, State.ancPaused, ite_time]

@[simp] theorem State.checkPatterns_time : s.checkPatterns.time = s.time := by
  have lock (t : State) (c : Bool) (l : Nat) : (t.when c (fun t => t.setFld LANE_PRBS_LOCK 1 l)).time = t.time :=
    t.when_time c (fun _ => rfl)
  refine s.each_time _ (fun t e => ?_)
  split
  · simp [State.checkPattern, ite_time, lock]
  · rfl

/-- In one step of the model with an empty queue nothing but `advanceTime` touches device time. -/
theorem State.idle_time : s.idle.time = s.advanceTime.time := by
  have spread : s.advanceTime.icTick.sscTick.time = s.advanceTime.icTick.time := rfl
  simp [State.idle, spread]

end

end Sys2Proof.Machine

/-! # Proofs: when device time moves -/

namespace Sys2Proof.Machine
open Reg

/-! ### The grid and the steps (R100, R103) -/

/-- What device time is computed of: the tick grid, and the sum of all steps. -/
def State.clock (s : State) : Nat × Int := (s.time.grid, s.time.stepSum)

theorem State.now_eq (s : State) : (s.now : Int) = ((s.clock.1 : Int) + s.clock.2) % 2 ^ 64 :=
  Int.toNat_of_nonneg (Int.emod_nonneg _ (by decide))

theorem State.now_congr {s t : State} (h : t.clock = s.clock) : t.now = s.now := by
  have := t.now_eq
  rw [h, ← s.now_eq] at this
  exact Int.ofNat.inj this

theorem State.clock_of_time {s t : State} (h : t.time = s.time) : t.clock = s.clock := by
  unfold State.clock
  rw [h]

theorem State.grid_of_clock {s t : State} (h : t.clock = s.clock) : t.time.grid = s.time.grid := congrArg Prod.fst h

/-! ### The registers of TIME (R35) -/

/-- A raise leaves every register above those of FLT as it is. -/
theorem State.fld_raise_above (s : State) {ev : Nat} (r : Raise) (hev : ev < 1024) {f : Field} (above : 0x30000 ≤ f.base)
    (i j : Nat) : (s.raise ev r).fld f i j = s.fld f i j := by
  have key := f.base_le_key i j
  refine fld_raise s ev r f i j hev ?_
  simp only [raiseKey, Bool.or_eq_false_iff, Bool.and_eq_false_iff, decide_eq_false_iff_not]
  omega

theorem State.regWrite_time (s : State) (w v : Nat) {off : Nat} (lo : 0x30000 ≤ off) (hi : off < 0x40000) :
    s.regWrite w off v = s.writeTime (Blk.time.at? off) (off - 0x30000) v := by
  unfold State.regWrite
  rw [blockAt_time lo hi]
  simp only [Nat.zero_mul, Nat.sub_zero]

theorem setGo_effect {s : State} {w : Fin 8} (h : s.writable w 0x30038) : exec (.setGo w) s = .next (s.setGo.disarmed w) := by
  refine write32_effect h (by decide) ?_
  rw [s.regWrite_time w _ (by decide) (by decide)]
  unfold State.writeTime
  rw [if_pos (by decide)]
  exact if_pos (by decide)

theorem State.time_disarmed (s : State) (w : Nat) : (s.disarmed w).time = s.time := by
  unfold State.disarmed
  split <;> rfl

/-! ### A step of device time (R118, R119) -/

section
variable (s : State) (d : Int)

theorem State.clock_rephase : (s.rephase d).clock = s.clock := by
  unfold State.rephase
  extract_lets now st objects planes
  have kept : planes.clock = objects.clock := objects.upTo_invariant 8 _ State.clock (fun _ _ _ => rfl)
  clear_value planes
  exact kept

theorem State.regs_rephase : (s.rephase d).regs = s.regs := by
  unfold State.rephase
  extract_lets now st objects planes
  have kept : planes.regs = objects.regs := objects.upTo_invariant 8 _ State.regs (fun _ _ _ => rfl)
  clear_value planes
  exact kept

theorem State.clock_stepTime : (s.stepTime d).clock = (s.clock.1, s.clock.2 + d) := by
  exact (State.clock_rephase ..).trans rfl

theorem State.regs_stepTime : (s.stepTime d).regs = s.regs := by
  exact State.regs_rephase ..

/-- A step moves device time by as much, modulo 2^64. -/
theorem State.now_of_stepped {t : State} (h : t.clock = (s.clock.1, s.clock.2 + d)) :
    (t.now : Int) = ((s.now : Int) + d) % 2 ^ 64 := by
  rw [t.now_eq, s.now_eq, h]
  dsimp only
  omega

theorem State.grid_of_stepped {s t : State} {d : Int} (h : t.clock = (s.clock.1, s.clock.2 + d)) : t.time.grid = s.time.grid :=
  congrArg Prod.fst h

/-! ### The first setting (R115) -/

theorem State.clock_setTime : (s.setTime d).clock = (s.clock.1, s.clock.2 + d) := by
  unfold State.setTime
  rw [State.clock_of_time (State.raise_time ..), State.clock_of_time (State.setFld_time ..), State.clock_stepTime]

theorem State.set_setTime : (s.setTime d).fld TM_SET = 1 := by
  unfold State.setTime
  rw [State.fld_raise_above _ _ (by decide) (by decide), State.fld_setFld_self]
  rfl

/-- Device time is set to a value: the sum of the steps takes what is missing. -/
theorem State.now_setTime {v : Nat} (h : v < 2 ^ 64) : (s.setTime ((v : Int) - s.now)).now = v := by
  have := s.now_of_stepped _ (s.clock_setTime ((v : Int) - s.now))
  omega

/-! ### A pending step (R116 .. R118) -/

theorem signed_unsignedOf {d : Int} (low : -(2 ^ 63) ≤ d) (high : d < 2 ^ 63) : signed 64 (unsignedOf 64 d) = d := by
  unfold signed unsignedOf
  dsimp only
  split <;> omega

theorem State.pair_setPair {lo hi : Field} (apart : lo.key 0 0 ≠ hi.key 0 0) (words : lo.w = 32 ∧ hi.w = 32) {v : Nat}
    (h : v < 2 ^ 64) : (s.setPair lo hi v).pair lo hi = v := by
  unfold State.setPair State.pair
  rw [State.fld_setFld_self, State.fld_setFld_ne _ _ _ _ _ _ _ _ apart.symm, State.fld_setFld_self, words.1, words.2]
  omega

theorem State.pendingStep_setPending {d : Int} (low : -(2 ^ 63) ≤ d) (high : d < 2 ^ 63) : (s.setPending d).pendingStep = d := by
  have size : unsignedOf 64 d < 2 ^ 64 := by unfold unsignedOf; omega
  unfold State.setPending State.pendingStep
  rw [s.pair_setPair (by decide) ⟨rfl, rfl⟩ size]
  exact signed_unsignedOf low high

theorem State.fld_setPending {f : Field} (low : f.key 0 0 ≠ TM_STEP_PEND_LO.key 0 0) (high : f.key 0 0 ≠ TM_STEP_PEND_HI.key 0 0) :
    (s.setPending d).fld f = s.fld f := by
  unfold State.setPending State.setPair
  rw [State.fld_setFld_ne _ _ _ _ _ _ _ _ high.symm, State.fld_setFld_ne _ _ _ _ _ _ _ _ low.symm]

theorem State.fld_reportPending {f : Field} (above : 0x30000 ≤ f.base) (i j : Nat) : s.reportPending.fld f i j = s.fld f i j := by
  unfold State.reportPending
  rw [State.fld_raise_above _ _ (by decide) above]
  rfl

theorem State.clock_reportPending : s.reportPending.clock = s.clock := by
  unfold State.reportPending
  rw [State.clock_of_time (State.raise_time ..)]
  rfl

theorem State.holdover_setTm : (s.setTm Tm.HOLDOVER).fld TM_HOLDOVER = 1 := by
  unfold State.setTm
  rw [State.fld_setFld_self]
  rfl

theorem State.fld_outOfSpec {f : Field} (other : f.key 0 0 ≠ TM_OOS.key 0 0) (above : 0x30000 ≤ f.base) :
    s.outOfSpec.fld f = s.fld f := by
  unfold State.outOfSpec
  rw [State.fld_raise_above _ _ (by decide) above, State.fld_setFld_ne _ _ _ _ _ _ _ _ other.symm]

/-- The core is in HOLDOVER after it has entered it. -/
theorem State.holdover_enterHoldover (last : Nat) : (s.enterHoldover last).fldOn TM_HOLDOVER = true := by
  unfold State.enterHoldover
  split
  · assumption
  · extract_lets tm src started told
    have on : told.fld TM_HOLDOVER = 1 :=
      (State.fld_raise_above started { data := last } (by decide) (by decide) 0 0).trans s.holdover_setTm
    clear_value told
    unfold State.fldOn
    have kept : (told.when (told.fld TM_OOS_S == 0) State.outOfSpec).fld TM_HOLDOVER = told.fld TM_HOLDOVER := by
      unfold State.when
      split
      · exact told.fld_outOfSpec (by decide) (by decide)
      · rfl
    rw [kept, on]
    rfl

theorem State.clock_enterHoldover (last : Nat) : (s.enterHoldover last).clock = s.clock := by
  unfold State.enterHoldover
  split
  · rfl
  · extract_lets tm src started told
    have kept : told.clock = s.clock := (State.clock_of_time (State.raise_time started _ _)).trans rfl
    clear_value told
    rw [← kept]
    refine State.clock_of_time (told.when_time _ (fun t => ?_))
    exact State.raise_time ..

section
variable (host : Bool) (last : Nat)

/-- A refused step: the core in HOLDOVER, the step pending and reported. -/
theorem State.fld_refuseStep {f : Field} (low : f.key 0 0 ≠ TM_STEP_PEND_LO.key 0 0)
    (high : f.key 0 0 ≠ TM_STEP_PEND_HI.key 0 0) (above : 0x30000 ≤ f.base) :
    (s.refuseStep d host last).fld f = ((s.enterHoldover last).setFld TM_STEP_PENDING 1).fld f := by
  unfold State.refuseStep
  extract_lets pending
  rw [State.fld_reportPending _ above]
  exact pending.fld_setPending d low high

theorem State.pendingStep_refuseStep (low : -(2 ^ 63) ≤ d) (high : d < 2 ^ 63) :
    (s.refuseStep d host last).pendingStep = d := by
  unfold State.refuseStep
  extract_lets pending
  rw [← pending.pendingStep_setPending low high]
  unfold State.pendingStep State.pair
  rw [State.fld_reportPending _ (by decide), State.fld_reportPending _ (by decide)]
  rfl

theorem State.clock_refuseStep : (s.refuseStep d host last).clock = s.clock := by
  unfold State.refuseStep
  rw [State.clock_reportPending, ← s.clock_enterHoldover last]
  rfl

end

/-! ### ACCEPT_STEP (R118) -/

theorem State.pending_clearPending : s.clearPending.fld TM_STEP_PENDING = 0 := by
  have cleared := (s.setFld TM_STEP_PENDING 0).fld_setPending 0 (f := TM_STEP_PENDING) (by decide) (by decide)
  exact cleared.trans (State.fld_setFld_self ..)

theorem State.clock_acquire : s.acquire.clock = s.clock := rfl

theorem State.pending_acquire : s.acquire.fld TM_STEP_PENDING = s.fld TM_STEP_PENDING := by
  have acquired : s.acquire.regs = ((s.setTm Tm.ACQUIRING).setFld TM_OOS 0).regs := rfl
  rw [State.fld_congr acquired]
  unfold State.setTm
  rw [State.fld_setFld_ne _ _ _ _ _ _ _ _ (by decide), State.fld_setFld_ne _ _ _ _ _ _ _ _ (by decide),
    State.fld_setFld_ne _ _ _ _ _ _ _ _ (by decide), State.fld_setFld_ne _ _ _ _ _ _ _ _ (by decide)]

theorem State.clock_applyPending : s.applyPending.clock = (s.clock.1, s.clock.2 + s.pendingStep) := by
  unfold State.applyPending
  extract_lets d stepped acquired
  have kept : stepped.clock = (s.clock.1, s.clock.2 + d) := State.clock_stepTime ..
  clear_value stepped
  rw [State.clock_of_time (State.raise_time ..), ← kept]
  unfold acquired State.when
  split <;> rfl

theorem State.pending_applyPending : s.applyPending.fld TM_STEP_PENDING = 0 := by
  unfold State.applyPending
  extract_lets d stepped acquired
  have kept : stepped.fld TM_STEP_PENDING = 0 :=
    (State.fld_congr (s.clearPending.regs_stepTime d) _ _ _).trans s.pending_clearPending
  clear_value stepped
  rw [State.fld_raise_above _ _ (by decide) (by decide)]
  unfold acquired State.when
  split
  · exact stepped.pending_acquire.trans kept
  · exact kept

end

/-! ### TM_SET_GO (R115, R116) -/

section
variable {s : State}

theorem State.setGo_first (steered : s.selRef = 0 ∨ timeBearing s.selRef = false) (first : s.fld TM_SET = 0) :
    s.setGo = s.setTime ((s.pair TM_SET_LO TM_SET_HI : Int) - s.now) := by
  unfold State.setGo
  rw [if_neg (by grind)]
  exact if_pos (by simp [State.fldOn, first])

theorem State.setGo_later (steered : s.selRef = 0 ∨ timeBearing s.selRef = false) (set : s.fldOn TM_SET = true) :
    s.setGo = if s.slewable ((s.pair TM_SET_LO TM_SET_HI : Int) - s.now) = true
      then s.slewBy ((s.pair TM_SET_LO TM_SET_HI : Int) - s.now)
      else s.refuseStep ((s.pair TM_SET_LO TM_SET_HI : Int) - s.now) true s.selRef := by
  unfold State.setGo
  rw [if_neg (by grind)]
  exact if_neg (by simp [set])

theorem State.slewable_within {d : Int} (near : d.natAbs ≤ s.fld TM_JUMP_NS) (slew : s.fld TM_SLEW_PPB ≠ 0) :
    s.slewable d = true := by
  unfold State.slewable State.fldOn
  simp [near, slew]

theorem State.slewable_beyond {d : Int} (far : s.fld TM_JUMP_NS < d.natAbs) : s.slewable d = false := by
  have moved : d ≠ 0 := by omega
  have beyond : ¬d.natAbs ≤ s.fld TM_JUMP_NS := Nat.not_le.2 far
  unfold State.slewable
  simp [moved, beyond]

/-! ### One cycle (R101) -/

theorem State.tickAdvance_le (s : State) : s.tickAdvance ≤ 2 := by
  unfold State.tickAdvance
  split
  · decide
  · split
    · decide
    · split <;> decide

theorem State.tickAdvance_rested (h : s.tickAdvance ≠ 1) : s.time.lastAdjust + 1000 ≤ s.time.grid := by
  unfold State.tickAdvance at h
  split at h
  · exact absurd rfl h
  · omega

end

/-- Settles O25: the clock is the grid and the sum of the steps, and only a step or the tick touches it. -/
theorem stepsOfDeviceTime : Obligations.StepsOfDeviceTime := by
  refine ⟨fun s w h steered first size => ?_, fun s => ⟨fun other bears => if_pos ⟨other, bears⟩, fun steered set => ?_⟩,
    fun s d host last low high => ?_, fun s => ?_, fun s t empty run => ?_⟩
  · refine ⟨s.setGo.disarmed w, setGo_effect h, ?_, ?_, ?_⟩
    · rw [State.now_congr (State.clock_of_time (State.time_disarmed ..)), State.setGo_first steered first]
      exact s.now_setTime size
    · rw [State.fld_disarmed, State.setGo_first steered first]
      exact s.set_setTime _
    · rw [State.time_disarmed, State.setGo_first steered first]
      exact State.grid_of_stepped (s.clock_setTime _)
  · rw [State.setGo_later steered set]
    refine ⟨fun near slew => ?_, fun far => ?_⟩
    · rw [if_pos (State.slewable_within near slew)]
      rfl
    · rw [if_neg (by simp [State.slewable_beyond far])]
  · have kept := s.clock_refuseStep d host last
    refine ⟨?_, ?_, s.pendingStep_refuseStep d host last low high, State.now_congr kept, State.grid_of_clock kept⟩
    · unfold State.fldOn
      rw [s.fld_refuseStep d host last (by decide) (by decide) (by decide),
        State.fld_setFld_ne _ _ _ _ _ _ _ _ (by decide)]
      exact s.holdover_enterHoldover last
    · rw [s.fld_refuseStep d host last (by decide) (by decide) (by decide), State.fld_setFld_self]
      rfl
  · have moved := s.clock_applyPending
    exact ⟨s.now_of_stepped _ moved, s.pending_applyPending, State.grid_of_stepped moved⟩
  · have idle : t = s.idle := by
      unfold step at run
      rw [empty] at run
      exact (Host.Outcome.next.inj run).symm
    have bound := s.tickAdvance_le
    have grid : s.advanceTime.time.grid = s.time.grid + s.tickAdvance := rfl
    have adjusted : s.advanceTime.time.lastAdjust =
        if s.tickAdvance = 1 then s.time.lastAdjust else s.time.grid + s.tickAdvance := rfl
    rw [idle, s.idle_time, grid, adjusted]
    refine ⟨by omega, by omega, rfl, fun moved => ?_⟩
    have other : s.tickAdvance ≠ 1 := by omega
    exact ⟨State.tickAdvance_rested other, if_neg other⟩

end Sys2Proof.Machine

/-! # Proofs: the events of the references and of the loop -/

namespace Sys2Proof.Machine
open Reg

/-! ### A reference comes and is lost (R104 .. R109) -/

/-- The registers of references lie above the word that names the selected one. -/
theorem State.selRef_setFld (s : State) {f : Field} (above : 0x30100 ≤ f.base) (v i : Nat) : (s.setFld f v i).selRef = s.selRef := by
  have key := f.base_le_key i 0
  have word : TM_SEL_REF.key 0 0 = 8 * 0x30000 + 8 := by decide
  exact State.fld_setFld_ne _ _ _ _ _ _ _ _ (by omega)

/-- A reference that is in use and absent, and whose clock is served (R106). -/
def State.returns (s : State) (r : Nat) : Prop :=
  s.refOn r = true ∧ s.fld REF_RSTATE r = 0 ∧ (r = 1 ∨ r = 2 → s.conductorHalted = false)

/-- The input of reference r carries its signal: that of the word clock shows in WCLK_PRESENT. -/
def State.sensed (s : State) (r v : Nat) : State := if r = 9 then s.setFld APLANE_WCLK_PRESENT v else s

/-- A reference has its signal again, from now on. -/
def State.validNow (s : State) (r : Nat) : State :=
  (s.setFld REF_RSTATE 1 r).setRefRun r { s.refRun r with validFrom := s.time.grid, lostAt := none, noHold := false }

theorem State.when_sensed (s : State) (r v : Nat) :
    s.when (r == 9) (fun s => s.setFld APLANE_WCLK_PRESENT v) = s.sensed r v := by
  unfold State.when State.sensed
  simp

theorem State.selRef_validNow (s : State) (r : Nat) : (s.validNow r).selRef = s.selRef :=
  s.selRef_setFld (f := REF_RSTATE) (by decide) 1 r

section
variable {s : State} {r : Fin 11}

theorem State.refPresent_absent (h : ¬(s.sensed r 1).returns r) : s.refPresent r = s.sensed r 1 := by
  unfold State.returns at h
  unfold State.refPresent
  rw [State.when_sensed]
  refine if_pos ?_
  simp only [Bool.and_eq_true, decide_eq_true_iff]
  grind

section
variable (named : r.val ≠ 0) (back : (s.sensed r 1).returns r)
include named back

theorem State.refPresent_bar : ¬(r.val = 0 ∨ (s.sensed r 1).refOn r = false ∨ (s.sensed r 1).fld REF_RSTATE r ≠ 0 ∨
    (decide (r.val = 1 ∨ r.val = 2) && (s.sensed r 1).conductorHalted) = true) := by
  obtain ⟨on, absent, served⟩ := back
  simp only [Bool.and_eq_true, decide_eq_true_iff]
  grind

theorem State.refPresent_quiet (h : (s.sensed r 1).selRef ≠ r ∨ ((s.sensed r 1).refRun r).lostAt = none) :
    s.refPresent r = (s.sensed r 1).validNow r := by
  have sel := (s.sensed r 1).selRef_validNow r
  unfold State.refPresent
  rw [State.when_sensed]
  dsimp only
  rw [if_neg (State.refPresent_bar named back)]
  split
  · next t lost =>
    have other : (s.sensed r 1).selRef ≠ r := h.resolve_right (by rw [lost]; exact nofun)
    exact if_neg (fun h => other (sel.symm.trans h))
  · rfl

theorem State.refPresent_glitch {t : Nat} (sel : (s.sensed r 1).selRef = r) (lost : ((s.sensed r 1).refRun r).lostAt = some t) :
    s.refPresent r = ((s.sensed r 1).validNow r).raise Ev.REF_GLITCH
      { data := Config.glitchData r (((s.sensed r 1).time.grid - t) / 1000) % 2 ^ 64 } := by
  have same := (s.sensed r 1).selRef_validNow r
  unfold State.refPresent
  rw [State.when_sensed]
  dsimp only
  rw [if_neg (State.refPresent_bar named back), lost]
  exact if_pos (same.trans sel)

end

theorem exec_refQualified_eq (named : r.val ≠ 0) (present : s.fld REF_RSTATE r = 1) :
    exec (.refQualified r) s = .next (if (s.refRun r).validFrom + 2000000000 ≤ s.time.grid
      then (s.setFld REF_RSTATE 2 r).setRefRun r { s.refRun r with validFrom := s.time.grid } else s) := by
  rw [exec_refQualified]
  unfold execRefQualified
  by_cases valid : (s.refRun r).validFrom + 2000000000 ≤ s.time.grid
  · rw [if_pos ⟨named, present, valid⟩, if_pos valid]
  · rw [if_neg (fun h => valid h.2.2), if_neg valid]

theorem exec_refLoss_eq (named : r.val ≠ 0) (seen : RefFault) :
    exec (.refLoss ⟨r, seen⟩) s = .next (if s.lossSeen r seen = true
      then (if (s.sensed r 0).fld REF_RSTATE r = 0 then s.sensed r 0 else (s.sensed r 0).loseRef r) else s) := by
  rw [exec_refLoss]
  unfold execRefLoss
  dsimp only
  rw [State.when_sensed]
  by_cases loss : s.lossSeen r seen = true
  · rw [if_pos loss, if_pos loss]
    by_cases absent : (s.sensed r 0).fld REF_RSTATE r = 0
    · rw [if_pos (.inr absent), if_pos absent]
    · rw [if_neg (fun h => h.elim named absent), if_neg absent]
  · rw [if_neg loss, if_neg loss]

end

/-- A reference that comes back is valid from now on; that of the selected one within its hold-off is a glitch (R108). -/
theorem exec_refSignalPresent_cases (s : State) (r : Fin 11) (named : r.val ≠ 0) :
    let w := if r.val = 9 then s.setFld APLANE_WCLK_PRESENT 1 else s
    let on := w.refOn r = true ∧ w.fld REF_RSTATE r = 0 ∧ (r.val = 1 ∨ r.val = 2 → w.conductorHalted = false)
    let v := (w.setFld REF_RSTATE 1 r).setRefRun r
      { w.refRun r with validFrom := w.time.grid, lostAt := none, noHold := false }
    (on → w.selRef ≠ r.val ∨ (w.refRun r).lostAt = none → exec (.refSignalPresent r) s = .next v) ∧
    (∀ t, on → w.selRef = r.val → (w.refRun r).lostAt = some t → exec (.refSignalPresent r) s =
      .next (v.raise Ev.REF_GLITCH { data := Config.glitchData r ((w.time.grid - t) / 1000) % 2 ^ 64 })) ∧
    (¬on → exec (.refSignalPresent r) s = .next w) :=
  ⟨fun on quiet => congrArg Host.Outcome.next (State.refPresent_quiet named on quiet),
    fun _ on sel lost => congrArg Host.Outcome.next (State.refPresent_glitch named on sel lost),
    fun off => congrArg Host.Outcome.next (State.refPresent_absent off)⟩

/-! ### What is seen as a loss (R105, R106) -/

section
variable (s : State) (r : Nat)

/-- An interval of 2^k s, for k up to 1, is one that the clock accepts. -/
theorem interval?_of_le {lo : Int} (low : lo ≤ 0) {k : Nat} (h : k ≤ 1) : interval? lo k = some (10 ^ 9 * 2 ^ k) := by
  unfold interval?
  rw [if_pos (by omega), if_pos (by omega)]
  rfl

theorem State.lossSeen_noAnnounce (ns : Nat) {k : Nat} (h : k ≤ 1) :
    s.lossSeen r (.noAnnounce ns k) = true ↔ (r = 1 ∨ r = 2) ∧ 3 * (10 ^ 9 * 2 ^ k) ≤ ns := by
  simp only [State.lossSeen, interval?_of_le (show (-3 : Int) ≤ 0 by decide) h, Bool.and_eq_true, decide_eq_true_iff]

theorem State.lossSeen_noEdge (ns : Nat) :
    s.lossSeen r (.noEdge ns) = true ↔ (3 ≤ r ∧ r ≤ 6 ∧ s.fld REF_MODE r = 2 ∧ 1010000000 ≤ ns) ∨
      (((3 ≤ r ∧ r ≤ 6 ∧ s.fld REF_MODE r = 3) ∨ r = 9) ∧ 1000 ≤ ns) := by
  simp only [State.lossSeen, Bool.or_eq_true, Bool.and_eq_true, decide_eq_true_iff, beq_iff_eq, and_assoc]

theorem State.refRun_setRefRun_self (x : RefRun) : (s.setRefRun r x).refRun r = x := Tab.get_set_self ..

/-- A reference reads ABSENT and its loss is noted. -/
def State.absent : State := (s.setFld REF_RSTATE 0 r).setFld REF_LOST_SEEN 1 r

theorem State.selRef_absent : (s.absent r).selRef = s.selRef :=
  (State.selRef_setFld _ (f := REF_LOST_SEEN) (by decide) 1 r).trans (s.selRef_setFld (f := REF_RSTATE) (by decide) 0 r)

theorem State.selRef_clearPending : s.clearPending.selRef = s.selRef := by
  have cleared := (s.setFld TM_STEP_PENDING 0).fld_setPending 0 (f := TM_SEL_REF) (by decide) (by decide)
  exact cleared.trans (State.fld_setFld_ne _ _ _ _ _ _ _ _ (by decide))

/-- The selected reference is lost from now on: its errors no longer count, and it stays selected (R108). -/
theorem State.loseRef_selected (h : s.selRef = r) : (s.loseRef r).time.goodFrom = none ∧
    ((s.loseRef r).refRun r).lostAt = some s.time.grid ∧ (s.loseRef r).fld TM_SEL_REF = r := by
  unfold State.loseRef
  extract_lets gone src off cleared
  have sel : off.selRef = r := (s.selRef_absent r).trans h
  have grid : off.time.grid = s.time.grid := rfl
  clear_value off
  rw [if_pos sel]
  have kept : cleared.selRef = off.selRef ∧ cleared.time.grid = off.time.grid := by
    unfold cleared State.when
    split
    · exact ⟨off.selRef_clearPending, rfl⟩
    · exact ⟨rfl, rfl⟩
  clear_value cleared
  refine ⟨rfl, ?_, kept.1.trans sel⟩
  rw [State.refRun_setRefRun_self]
  exact congrArg some (kept.2.trans grid)

theorem State.loseRef_other (h : s.selRef ≠ r) : (s.loseRef r).time.goodFrom = s.time.goodFrom := by
  have sel := s.selRef_absent r
  unfold State.loseRef
  extract_lets gone src off
  rw [if_neg (fun same : off.selRef = r => h (sel.symm.trans same))]
  rfl

/-! ### The selection at the ticks (R107, R108) -/

theorem State.holdoffPassed_idle (h : s.selRef = 0 ∨ (s.refRun s.selRef).lostAt = none) : s.holdoffPassed = s := by
  unfold State.holdoffPassed
  dsimp only
  by_cases free : s.selRef = 0
  · rw [if_pos free]
  · rw [if_neg free, h.resolve_left free]

theorem State.holdoffPassed_lost {t : Nat} (named : s.selRef ≠ 0) (lost : (s.refRun s.selRef).lostAt = some t) :
    s.holdoffPassed = s.when (s.expired t
      (if (s.refRun s.selRef).noHold then 1 else max 1 (s.fld TM_HOLDOFF_MS * 1000000)) 1000000) State.reselect := by
  unfold State.holdoffPassed
  dsimp only
  rw [if_neg named, lost]

/-- The measures of a tick, taken over. -/
def State.measured (m : TimeMeasure) : State :=
  ({ s with time := { s.time with lastTick := s.time.grid / 1000000 } }).takeMeasures m

section
variable (m : TimeMeasure) (due : s.time.lastTick < s.time.grid / 1000000)
include due

theorem State.selectionTick_selected (named : (s.measured m).selRef ≠ 0) :
    s.selectionTick m = (s.measured m).trackPending.trackLock.trackAbove.loopStep.learn := by
  unfold State.selectionTick
  dsimp only
  rw [if_neg (Nat.not_le.2 due)]
  exact if_neg named

theorem State.selectionTick_first (free : (s.measured m).selRef = 0) {r : Nat}
    (best : (s.measured m).bestRef (fun _ => true) = some r) : s.selectionTick m = (s.measured m).selectRef r := by
  unfold State.measured at free best
  unfold State.selectionTick
  dsimp only
  rw [if_neg (Nat.not_le.2 due), if_pos free, best]
  rfl

theorem State.selectionTick_none (free : (s.measured m).selRef = 0) (best : (s.measured m).bestRef (fun _ => true) = none) :
    s.selectionTick m = s.measured m := by
  unfold State.measured at free best
  unfold State.selectionTick
  dsimp only
  rw [if_neg (Nat.not_le.2 due), if_pos free, best]
  rfl

end

theorem State.revert_better {r : Nat} (revertive : s.fldOn TM_REVERTIVE = true) (named : s.selRef ≠ 0)
    (best : s.bestRef s.wtrPassed = some r) : s.revert = s.selectRef r := by
  unfold State.revert
  rw [if_pos ⟨revertive, named⟩, best]

theorem State.revert_none (h : s.fldOn TM_REVERTIVE = false ∨ s.bestRef s.wtrPassed = none) : s.revert = s := by
  unfold State.revert
  by_cases may : s.fldOn TM_REVERTIVE = true ∧ s.selRef ≠ 0
  · rw [if_pos may, h.resolve_left (by simp [may.1])]
  · rw [if_neg may]

/-! ### Lock and holdover (R111, R114) -/

theorem exec_lockAcquired_due {t : Nat} (good : s.time.goodFrom = some t) (acquiring : s.fld TM_STATE = Tm.ACQUIRING)
    (due : t + 5000000000 ≤ s.time.grid) :
    exec .lockAcquired s = .next ((s.setTm Tm.LOCKED).raise Ev.LOCK_ACQUIRED { data := s.selRef }) := by
  rw [exec_lockAcquired]
  unfold execLockAcquired
  rw [good]
  exact if_pos ⟨acquiring, due⟩

theorem exec_lockLost_due {t : Nat} (bad : s.time.badFrom = some t) (locked : s.fld TM_STATE = Tm.LOCKED)
    (due : t + 1000000000 ≤ s.time.grid) : exec .lockLost s = .next s.acquire := by
  rw [exec_lockLost]
  unfold execLockLost
  rw [bad]
  exact if_pos ⟨locked, due⟩

/-- OOS does not bear on how long the holdover has lasted. -/
theorem State.holdoverSeconds_setOos (v : Nat) : (s.setFld TM_OOS v).holdoverSeconds = s.holdoverSeconds := by
  have kept : (s.setFld TM_OOS v).fld TM_HOLDOVER = s.fld TM_HOLDOVER := State.fld_setFld_ne _ _ _ _ _ _ _ _ (by decide)
  unfold State.holdoverSeconds State.fldOn
  rw [kept, State.setFld_time]

theorem State.holdoverOos_due (on : s.fldOn TM_HOLDOVER = true) (still : s.fldOn TM_OOS = false)
    (due : s.expired s.time.holdoverFrom (s.fld TM_OOS_S * 1000000000) 1000000 = true) :
    s.holdoverOos = (s.setFld TM_OOS 1).raise Ev.HOLDOVER_OOS { data := (s.setFld TM_OOS 1).holdoverSeconds } := by
  unfold State.holdoverOos
  rw [if_pos ⟨on, by simp [still], due⟩, s.holdoverSeconds_setOos]
  rfl

theorem State.holdoverOos_idle (h : s.fldOn TM_HOLDOVER = false ∨ s.fldOn TM_OOS = true) : s.holdoverOos = s := by
  unfold State.holdoverOos
  exact if_neg (by grind)

/-! ### The source of the audio plane (R123) -/

section
variable (locked : s.fldOn APLANE_A_HOLDOVER = false)
include locked

theorem exec_wclkLost_word (word : s.fld APLANE_SRC = 2) :
    exec .wclkLost s = .next ((((s.setFld APLANE_A_LOCKED 0).setFld APLANE_A_HOLDOVER 1).setFld APLANE_WCLK_PRESENT 0).raise
      Ev.WCLK_LOST { data := 0 }) := by
  rw [exec_wclkLost]
  unfold execWclkLost
  dsimp only
  rw [if_neg (by simp [word, locked]), word]
  rfl

theorem exec_wclkLost_dars (internal : s.fld APLANE_SRC ≠ 1) (word : s.fld APLANE_SRC ≠ 2) :
    exec .wclkLost s = .next (((s.setFld APLANE_A_LOCKED 0).setFld APLANE_A_HOLDOVER 1).raise
      Ev.WCLK_LOST { data := 1 + ((s.setFld APLANE_A_LOCKED 0).setFld APLANE_A_HOLDOVER 1).fld APLANE_DARS_IN }) := by
  rw [exec_wclkLost]
  unfold execWclkLost
  dsimp only
  rw [if_neg (by simp [internal, locked]), beq_eq_false_iff_ne.2 word, if_neg word]
  rfl

end

/-- The plane takes edges again; of the word clock it also shows that it is there. -/
theorem exec_audioPlaneSourceReturn_eq (external : s.fld APLANE_SRC ≠ 1) :
    let t := (s.setFld APLANE_A_LOCKED 1).setFld APLANE_A_HOLDOVER 0
    let u := if s.fld APLANE_SRC = 2 then t.setFld APLANE_WCLK_PRESENT 1 else t
    exec .audioPlaneSourceReturn s = .next (u.setAud { u.time.aud with edge := none, back := true }) := by
  rw [exec_audioPlaneSourceReturn]
  unfold execAudioPlaneSourceReturn
  dsimp only
  rw [if_neg external]
  by_cases word : s.fld APLANE_SRC = 2
  · rw [word]
    rfl
  · rw [beq_eq_false_iff_ne.2 word, if_neg word]
    rfl

/-! ### PRIO, SET_GO and OFFSET_NS (R108, R115, R121) -/

theorem State.refWritten_on (on : s.refOn r = true) (h : s.selRef ≠ r ∨ s.fld REF_PRIO r ≠ 0) : s.refWritten r = s := by
  unfold State.refWritten
  dsimp only
  rw [if_pos (.inl on), if_neg (by grind)]

theorem State.refWritten_unranked (on : s.refOn r = true) (sel : s.selRef = r) (prio : s.fld REF_PRIO r = 0) :
    s.refWritten r = s.setRefRun r { s.refRun r with noHold := true } := by
  unfold State.refWritten
  dsimp only
  rw [if_pos (.inl on), if_pos ⟨sel, prio⟩]

theorem State.refWritten_off (off : s.refOn r = false) (present : s.fld REF_RSTATE r ≠ 0) :
    s.refWritten r = (s.loseRef r).setRefRun r { (s.loseRef r).refRun r with noHold := !(s.loseRef r).fldOn REF_PRIO r } := by
  unfold State.refWritten
  dsimp only
  rw [if_neg (by simp [off, present])]

end

section
variable {s : State} {w : Fin 8}

theorem prioWrite_effect {r : Fin 11} (low : 1 ≤ r.val) (val : Word) (h : s.writable w (0x30100 + 0x20 * r)) :
    exec (.prioWrite w r val) s = .next ((s.writeRefReg (Blk.time.at? (0x30100 + 0x20 * r)) val.toNat).disarmed w) := by
  refine write32_effect h (by omega) ?_
  rw [s.regWrite_time w _ (by omega) (by omega), Nat.mod_eq_of_lt val.isLt]
  unfold State.writeTime
  rw [if_neg (by omega)]
  exact if_pos (by omega)

theorem planeOffset_fields : ∀ p : Fin 8, Blk.time.at? (0x30404 + 0x40 * p) = [(PLANE_OFFSET_NS, p.val, 0)]
  | 0 | 1 | 2 | 3 | 4 | 5 | 6 | 7 => rfl

theorem offsetNs_effect (p : Fin 8) (val : Word) (h : s.writable w (0x30404 + 0x40 * p)) :
    exec (.offsetNs w p val) s = .next ((s.writeOffset p val.toNat).disarmed w) := by
  refine write32_effect h (by omega) ?_
  rw [s.regWrite_time w _ (by omega) (by omega), Nat.mod_eq_of_lt val.isLt, planeOffset_fields]
  unfold State.writeTime
  rw [if_neg (by omega), if_neg (by omega), if_pos (by omega)]
  rfl

end

/-- Settles O24: one lemma for each event and each register. -/
theorem timingEvents : Obligations.TimingEvents := by
  refine ⟨fun s r named => ?_, fun s r => ?_, fun s => ?_, fun s w => ?_⟩
  · obtain ⟨quiet, glitch, absent⟩ := exec_refSignalPresent_cases s r named
    refine ⟨quiet, glitch, absent, fun present valid => ?_, fun present early => ?_, fun seen => ⟨fun loss present => ?_,
      fun loss gone => ?_, fun unseen => ?_⟩⟩
    · rw [exec_refQualified_eq named present, if_pos valid]
    · rw [exec_refQualified_eq named present, if_neg (Nat.not_le.2 early)]
    · rw [exec_refLoss_eq named, if_pos loss]
      exact congrArg _ (if_neg present)
    · rw [exec_refLoss_eq named, if_pos loss]
      exact congrArg _ (if_pos gone)
    · rw [exec_refLoss_eq named, if_neg (by simp [unseen])]
  · refine ⟨fun ns k h => s.lossSeen_noAnnounce r ns h, beq_iff_eq, beq_iff_eq, beq_iff_eq, fun ns => ?_,
      s.lossSeen_noEdge r, s.loseRef_selected r, s.loseRef_other r⟩
    simp [State.lossSeen]
  · refine ⟨rfl, rfl, rfl, fun _ => rfl, fun t named lost => ?_, s.holdoffPassed_idle, fun m => ⟨fun early => if_pos early,
      fun due => ⟨s.selectionTick_selected m due, s.selectionTick_none m due, fun r free best => s.selectionTick_first m due free best⟩⟩,
      fun r => s.revert_better, s.revert_none, fun t => exec_lockAcquired_due s, fun t => exec_lockLost_due s,
      s.holdoverOos_due, s.holdoverOos_idle, fun locked => ⟨fun word => ?_, fun other word => ?_⟩, fun internal => ⟨?_, ?_⟩,
      fun external => ?_⟩
    · dsimp only
      rw [s.holdoffPassed_lost named lost]
      exact ⟨fun passed => by rw [passed, State.when_true], fun left => by rw [left, State.when_false]⟩
    · exact exec_wclkLost_word s locked word
    · exact exec_wclkLost_dars s locked other word
    · exact if_pos (.inl internal)
    · exact if_pos internal
    · exact exec_audioPlaneSourceReturn_eq s external
  · exact ⟨fun r val low h => prioWrite_effect low val h, setGo_effect, fun p val h => offsetNs_effect p val h, fun r =>
      ⟨s.refWritten_on r, s.refWritten_unranked r, s.refWritten_off r⟩⟩

end Sys2Proof.Machine

/-! # Proofs: frame starts -/

namespace Sys2Proof.Machine
open Reg

/-! ### The order of a frame start (R124)

FRAME_START takes the list of the plane's compositors before the destinations' frames start. A destination that stops lets
the takes apply whose milepost has come, and one of them can put a compositor on the plane: its frame does not start with
this token, though the statement says so. -/

/-- A decided group that is due, and that enables compositor 0 on plane 0. -/
def enablingTake : Take :=
  { kind := .group, part := 0, group := 1, state := .decided, todo := [.compSet 0 1 1 1 0 false 0] }

/-- Plane 0 runs at 25 Hz and destination 0 on it is stopping, while `enablingTake` is due. -/
def stoppingState : State :=
  ((State.reset.setFld PLANE_RATE 3).setDstRun 0 { stopping := true }).setTakes [enablingTake]

theorem stoppingState_safe : (stoppingState.planeFrame 0).safe = false := by decide +kernel

theorem frameToken_stoppingState : ((stoppingState.frameToken 0).cfg.cmp 0).enabled = false := by decide +kernel

/-- The destinations' frames first, and then those of the compositors that are on the plane by then. -/
def State.frameInTurn (s : State) (p : Nat) : State :=
  ((s.planeFrame p).each ((s.planeFrame p).dstsOf p) State.dstFrame).each
    (((s.planeFrame p).each ((s.planeFrame p).dstsOf p) State.dstFrame).cmpsOf p) State.cmpFrame

theorem frameInTurn_stoppingState : ((stoppingState.frameInTurn 0).cfg.cmp 0).enabled = true := by decide +kernel

/-- Refutes O28: in `stoppingState` the frame start of plane 0 leaves compositor 0 disabled, and the statement's does not. -/
theorem not_frameEvents : ¬ Obligations.FrameEvents := by
  intro h
  obtain ⟨_, frames, _⟩ := h stoppingState
  have same : stoppingState.frameToken 0 = stoppingState.frameInTurn 0 := (frames 0).1 stoppingState_safe
  have enabled : ((stoppingState.frameToken 0).cfg.cmp 0).enabled = true := same ▸ frameInTurn_stoppingState
  rw [frameToken_stoppingState] at enabled
  exact Bool.false_ne_true enabled

end Sys2Proof.Machine

/-! # Proofs: registers of destinations, media ports and lanes -/

namespace Sys2Proof.Machine
open Reg

/-! ### The blocks that the registers lie in (R35) -/

section
variable (s : State) (w v : Nat)

theorem State.regWrite_dst {d off rel : Nat} (hd : d < 1024) (place : off = 0x600000 + 0x400 * d + rel) (hr : rel < 0x400) :
    s.regWrite w off v = s.writeDst (Blk.dst.at? off) d rel v := by
  have inner : off - 0x600000 - 0x400 * d = rel := by omega
  unfold State.regWrite
  rw [blockAt_dst hd (by omega) (by omega)]
  simp only [inner]

theorem State.regWrite_mport {m off rel : Nat} (hm : m < 64) (place : off = 0x1C0000 + 0x1000 * m + rel) (hr : rel < 0x1000) :
    s.regWrite w off v = s.writeMport (Blk.mport.at? off) m rel v := by
  have inner : off - 0x1C0000 - 0x1000 * m = rel := by omega
  unfold State.regWrite
  rw [blockAt_mport hm (by omega) (by omega)]
  simp only [inner]

theorem State.regWrite_lane {l off rel : Nat} (hl : l < 584) (place : off = 0x100000 + 0x200 * l + rel) (hr : rel < 0x200) :
    s.regWrite w off v = s.writeLane (Blk.lane.at? off) l rel v := by
  have inner : off - 0x100000 - 0x200 * l = rel := by omega
  unfold State.regWrite
  rw [blockAt_lane hl (by omega) (by omega)]
  simp only [inner]

/-- A write of one field alone gives that field its value. -/
theorem State.bitField_wordWith (off x : Nat) {lo n : Nat} (fits : lo + n ≤ 32) :
    bitField (s.wordWith off lo n x) lo n = x % 2 ^ n :=
  (bitField_mod (s.withField off lo n x) lo n fits).trans (bitField_putBits ..)

end

section
variable {s : State} {w : Fin 8}

/-! ### Destinations (R215, R216) -/

section
variable {d : Fin 1024} (h : s.writable w (0x600000 + 0x400 * d))
include h

theorem dstEnable_effect : exec (.dstEnable w d) s = .next ((s.enableDst d).disarmed w) := by
  refine write32_effect h (by omega) ?_
  rw [s.regWrite_dst w _ d.isLt (off := 0x600000 + 0x400 * d) (rel := 0) rfl (by decide)]
  rfl

theorem dstDisable_effect : exec (.dstDisable w d) s = .next ((s.disableDst d).disarmed w) := by
  refine write32_effect h (by omega) ?_
  rw [s.regWrite_dst w _ d.isLt (off := 0x600000 + 0x400 * d) (rel := 0) rfl (by decide)]
  rfl

end

/-! ### Media ports (R303, R310) -/

section
variable {m : Fin 64}

theorem State.writeMport_ctl (fs : RegFields) (m v : Nat) : s.writeMport fs m 0 v =
    if bitAt v 8 = true then ((s.putRwl fs v (s.portRun m).modeLocked).putFld MPORT_HP_LONG v m).enablePort m
    else ((s.putRwl fs v (s.portRun m).modeLocked).putFld MPORT_HP_LONG v m).disablePort m := rfl

section
variable (h : s.writable w (0x1C0000 + 0x1000 * m))
include h

theorem mportEnable_effect : exec (.mportEnable w m) s = .next ((((s.putRwl (Blk.mport.at? (0x1C0000 + 0x1000 * m))
    (s.wordWith (0x1C0000 + 0x1000 * m) 8 1 1) (s.portRun m).modeLocked).putFld MPORT_HP_LONG
      (s.wordWith (0x1C0000 + 0x1000 * m) 8 1 1) m).enablePort m).disarmed w) := by
  have on : bitAt (s.wordWith (0x1C0000 + 0x1000 * m) 8 1 1) 8 = true := beq_iff_eq.2 (s.bitField_wordWith _ 1 (by decide))
  refine write32_effect h (by omega) ?_
  rw [s.regWrite_mport w _ m.isLt (off := 0x1C0000 + 0x1000 * m) (rel := 0) rfl (by decide), State.writeMport_ctl]
  exact if_pos on

theorem mportDisable_effect : exec (.mportDisable w m) s = .next ((((s.putRwl (Blk.mport.at? (0x1C0000 + 0x1000 * m))
    (s.wordWith (0x1C0000 + 0x1000 * m) 8 1 0) (s.portRun m).modeLocked).putFld MPORT_HP_LONG
      (s.wordWith (0x1C0000 + 0x1000 * m) 8 1 0) m).disablePort m).disarmed w) := by
  have off : ¬bitAt (s.wordWith (0x1C0000 + 0x1000 * m) 8 1 0) 8 = true := fun on =>
    absurd ((beq_iff_eq.1 on).symm.trans (s.bitField_wordWith _ 0 (by decide))) (by decide)
  refine write32_effect h (by omega) ?_
  rw [s.regWrite_mport w _ m.isLt (off := 0x1C0000 + 0x1000 * m) (rel := 0) rfl (by decide), State.writeMport_ctl]
  exact if_neg off

end

variable (val : Word)

theorem hpRxHead_effect (h : s.writable w (0x1C0000 + 0x1000 * m + 0x4C)) :
    exec (.hpRxHead w m val) s = .next ((s.writeHpRxHead m val.toNat).disarmed w) := by
  refine write32_effect h (by omega) ?_
  rw [s.regWrite_mport w _ m.isLt (rel := 0x4C) rfl (by decide), Nat.mod_eq_of_lt val.isLt]
  rfl

theorem hpTxTail_effect (h : s.writable w (0x1C0000 + 0x1000 * m + 0x5C)) :
    exec (.hpTxTail w m val) s = .next ((s.writeHpTxTail m val.toNat).disarmed w) := by
  refine write32_effect h (by omega) ?_
  rw [s.regWrite_mport w _ m.isLt (rel := 0x5C) rfl (by decide), Nat.mod_eq_of_lt val.isLt]
  rfl

theorem hpRxRing_effect (h : s.writable w (0x1C0000 + 0x1000 * m + 0x48)) :
    exec (.hpRingEnable w m false val) s = .next ((s.writeHpRxRing m val.toNat).disarmed w) := by
  refine write32_effect (off := 0x1C0000 + 0x1000 * m + 0x48) h (by omega) ?_
  rw [s.regWrite_mport w _ m.isLt (off := 0x1C0000 + 0x1000 * m + 0x48) (rel := 0x48) rfl (by decide), Nat.mod_eq_of_lt val.isLt]
  rfl

theorem hpTxRing_effect (h : s.writable w (0x1C0000 + 0x1000 * m + 0x58)) :
    exec (.hpRingEnable w m true val) s = .next ((s.writeHpTxRing m val.toNat).disarmed w) := by
  refine write32_effect (off := 0x1C0000 + 0x1000 * m + 0x58) h (by omega) ?_
  rw [s.regWrite_mport w _ m.isLt (off := 0x1C0000 + 0x1000 * m + 0x58) (rel := 0x58) rfl (by decide), Nat.mod_eq_of_lt val.isLt]
  rfl

end

/-! ### Lanes (R338, R341, R342) -/

section
variable {l : Fin 584}

/-- A write of the word at the start of a lane's registers. -/
theorem laneCtl_effect (h : s.writable w (0x100000 + 0x200 * l)) (v : Nat) :
    (Host.Outcome.next (s.write32 w (0x100000 + 0x200 * l) v) : Host.Outcome State Fault Refusal) =
      .next ((s.writeLaneCtl l (v % 2 ^ 32)).disarmed w) := by
  refine write32_effect h (by omega) ?_
  rw [s.regWrite_lane w _ l.isLt (off := 0x100000 + 0x200 * l) (rel := 0) rfl (by decide)]
  rfl

theorem laneCtl_effect_word (h : s.writable w (0x100000 + 0x200 * l)) (val : Word) :
    (Host.Outcome.next (s.write32 w (0x100000 + 0x200 * l) val.toNat) : Host.Outcome State Fault Refusal) =
      .next ((s.writeLaneCtl l val.toNat).disarmed w) := by
  rw [laneCtl_effect h, Nat.mod_eq_of_lt val.isLt]

theorem txeqWrite_effect (h : s.writable w (0x100000 + 0x200 * l + 4)) (transmits : isTxLane l = true) (val : Word) :
    exec (.txeqWrite w l val) s = .next ((s.writeTxEq l val.toNat).disarmed w) := by
  refine write32_effect h (by omega) ?_
  rw [s.regWrite_lane w _ l.isLt (rel := 4) rfl (by decide), Nat.mod_eq_of_lt val.isLt]
  exact if_pos transmits

theorem esGo_effect (h : s.writable w (0x100000 + 0x200 * l + 0x84)) :
    exec (.esGo w l) s = .next (((s.putWord (Blk.lane.at? (0x100000 + 0x200 * l + 0x84)) 1).scanGo l).disarmed w) := by
  refine write32_effect h (by omega) ?_
  rw [s.regWrite_lane w _ l.isLt (rel := 0x84) rfl (by decide)]
  rfl

end
end

/-! ### PWR (R338) -/

section
variable {s : State} {l : Nat}

theorem State.writePwr_up (down : s.fldOn LANE_PWR l = false) (awake : 512 ≤ l ∨ s.gated (12 + l % 256 / 4) = false) :
    s.writePwr l true = (s.setFld LANE_PWR 1 l).calibrate l := by
  unfold State.writePwr
  rw [if_pos rfl, if_neg]
  rintro (up | ⟨low, gated⟩)
  · exact Bool.false_ne_true (down.symm.trans up)
  · rcases awake with high | running
    · omega
    · exact Bool.false_ne_true (running.symm.trans gated)

theorem State.writePwr_stays (up : s.fldOn LANE_PWR l = true) : s.writePwr l true = s := by
  unfold State.writePwr
  rw [if_pos rfl, if_pos (.inl up)]

theorem State.laneRun_setLaneRun_self (s : State) (l : Nat) (x : LaneRun) : (s.setLaneRun l x).laneRun l = x :=
  Tab.get_set_self ..

theorem State.calFrom_calibrate (s : State) (l : Nat) : ((s.calibrate l).laneRun l).calFrom = s.time.grid + 1 :=
  congrArg LaneRun.calFrom (s.laneRun_setLaneRun_self ..)

/-! ### Transmit taps (R341) -/

variable {v : Nat}

theorem State.writeTxEq_refused (big : 63 < bitField v 8 4 + bitField v 16 6 + bitField v 24 5) :
    s.writeTxEq l v = s.setFld LANE_EQ_ERR 1 l := if_pos big

theorem State.writeTxEq_taken (small : bitField v 8 4 + bitField v 16 6 + bitField v 24 5 ≤ 63) : s.writeTxEq l v =
    (((s.setFld LANE_PRESET (LANE_PRESET.norm l (bitField v 0 4)) l).setFld LANE_C_PRE (bitField v 8 4) l).setFld
      LANE_C_MAIN (bitField v 16 6) l).setFld LANE_C_POST (bitField v 24 5) l := if_neg (Nat.not_lt.2 small)

/-- Taps that fit are taken, each into its own field. -/
theorem State.taps_writeTxEq (small : bitField v 8 4 + bitField v 16 6 + bitField v 24 5 ≤ 63) :
    (s.writeTxEq l v).fld LANE_C_PRE l = bitField v 8 4 ∧ (s.writeTxEq l v).fld LANE_C_MAIN l = bitField v 16 6 ∧
      (s.writeTxEq l v).fld LANE_C_POST l = bitField v 24 5 := by
  rw [State.writeTxEq_taken small]
  refine ⟨?_, ?_, ?_⟩
  · rw [State.fld_setFld_other (f := LANE_C_POST) (g := LANE_C_PRE) _ rfl (by decide),
      State.fld_setFld_other (f := LANE_C_MAIN) (g := LANE_C_PRE) _ rfl (by decide), State.fld_setFld_self]
    exact Nat.mod_eq_of_lt (bitField_lt ..)
  · rw [State.fld_setFld_other (f := LANE_C_POST) (g := LANE_C_MAIN) _ rfl (by decide), State.fld_setFld_self]
    exact Nat.mod_eq_of_lt (bitField_lt ..)
  · rw [State.fld_setFld_self]
    exact Nat.mod_eq_of_lt (bitField_lt ..)

end

/-! ### Enabling and disabling a destination (R215, R216) -/

section
variable {s : State} {d : Nat}

theorem State.dstRun_setDstRun_self (s : State) (d : Nat) (x : DstRun) : (s.setDstRun d x).dstRun d = x := Tab.get_set_self ..

/-- The registers of SDI outputs and of lanes share no place with ENABLE of a destination. -/
theorem State.enable_setFld {f : Field} (s : State) (stride : f.s1 = 0x200) (place : 8 * f.base % 0x1000 ≠ 0 ∧ 8 * f.base % 0x1000 + f.lo < 0x1000)
    (v i d : Nat) : (s.setFld f v i).fld DST_ENABLE d = s.fld DST_ENABLE d := by
  refine State.fld_setFld_ne _ _ _ _ _ _ _ _ ?_
  unfold Field.key Field.off
  rw [stride]
  simp only [DST_ENABLE]
  omega

/-- Binding its lanes does not touch ENABLE of a destination. -/
theorem State.enable_bindTx (s : State) (n d : Nat) : (s.bindTx n).fld DST_ENABLE d = s.fld DST_ENABLE d := by
  refine s.upTo_invariant _ _ (fun t => t.fld DST_ENABLE d) (fun t k _ => ?_)
  dsimp only
  rw [State.enable_setFld _ rfl (by decide), State.enable_setFld _ rfl (by decide), State.enable_setFld _ rfl (by decide),
    State.enable_setFld _ rfl (by decide)]

theorem State.enableDst_stopping (stopping : (s.dstRun d).stopping = true) :
    s.enableDst d = (s.setFld DST_ENABLE 1 d).setDstRun d { s.dstRun d with stopping := false } := if_pos stopping

section
variable (whole : (s.dstRun d).stopping = false)
include whole

theorem State.enableDst_on (on : s.fldOn DST_ENABLE d = true) : s.enableDst d = s := by
  unfold State.enableDst
  rw [if_neg (by simp [whole]), if_pos on]

theorem State.enableDst_wrong (off : s.fldOn DST_ENABLE d = false) (wrong : s.dstError d ≠ 0) :
    s.enableDst d = s.setFld DST_EN_ERR (s.dstError d) d := by
  unfold State.enableDst
  rw [if_neg (by simp [whole]), if_neg (by simp [off])]
  exact if_pos wrong

/-- A destination with which nothing is wrong is enabled. -/
theorem State.enable_enableDst (off : s.fldOn DST_ENABLE d = false) (right : s.dstError d = 0) :
    (s.enableDst d).fld DST_ENABLE d = 1 := by
  unfold State.enableDst
  rw [if_neg (by simp [whole]), if_neg (by simp [off])]
  dsimp only
  rw [if_neg (by simp [right]), State.enable_bindTx, State.fld_congr (State.setDstRun_regs ..),
    State.fld_setFld_other (f := DST_FRAMES) (g := DST_ENABLE) _ rfl (by decide), State.fld_setFld_self]
  rfl

end

theorem State.dstError_le (s : State) (d : Nat) : s.dstError d ≤ 5 := by
  unfold State.dstError
  dsimp only
  repeat' split
  all_goals decide

theorem State.disableDst_named (h : (s.cfg.dst d).vsrc ≠ 2047 ∨ (s.cfg.dst d).asrc ≠ 2047 ∨ (s.cfg.dst d).nsrc ≠ 2047 ∨
    s.dstStaged d = true) : s.disableDst d = s := by
  unfold State.disableDst
  exact if_neg (by grind)

theorem State.disableDst_free (on : s.fldOn DST_ENABLE d = true) (h : ¬((s.cfg.dst d).vsrc ≠ 2047 ∨ (s.cfg.dst d).asrc ≠ 2047 ∨
    (s.cfg.dst d).nsrc ≠ 2047 ∨ s.dstStaged d = true)) :
    s.disableDst d = (s.setFld DST_ENABLE 0 d).setDstRun d { s.dstRun d with stopping := true } := by
  unfold State.disableDst
  exact if_pos (by grind)

end

/-! ### Host-path pointers (R60, R310) -/

section
variable {s : State} {m v : Nat}

/-- The host may move HEAD of the receive ring of port m to v. -/
def State.rxHeadFits (s : State) (m v : Nat) : Prop :=
  s.fldOn MPORT_HP_RX_EN m = true ∧ v < 2 ^ s.fld MPORT_HP_RX_LOG2 m ∧
    ringDist (2 ^ s.fld MPORT_HP_RX_LOG2 m) v (s.fld MPORT_HP_RX_HEAD m) ≤
      ringDist (2 ^ s.fld MPORT_HP_RX_LOG2 m) (s.fld MPORT_HP_RX_TAIL m) (s.fld MPORT_HP_RX_HEAD m)

/-- The host may move TAIL of the transmit ring of port m to v. -/
def State.txTailFits (s : State) (m v : Nat) : Prop :=
  s.fldOn MPORT_HP_TX_EN m = true ∧ v < 2 ^ s.fld MPORT_HP_TX_LOG2 m ∧
    ringDist (2 ^ s.fld MPORT_HP_TX_LOG2 m) (s.fld MPORT_HP_TX_TAIL m) (s.fld MPORT_HP_TX_HEAD m) ≤
      ringDist (2 ^ s.fld MPORT_HP_TX_LOG2 m) v (s.fld MPORT_HP_TX_HEAD m)

variable (half : v < 2 ^ 16)
include half

theorem State.writeHpRxHead_fits (h : s.rxHeadFits m v) : s.writeHpRxHead m v = s.setFld MPORT_HP_RX_HEAD v m := by
  unfold State.writeHpRxHead
  dsimp only
  rw [Nat.mod_eq_of_lt half]
  exact if_pos h

theorem State.writeHpRxHead_bad (h : ¬s.rxHeadFits m v) : s.writeHpRxHead m v = s.setFld MPORT_HP_BAD 1 m := by
  unfold State.writeHpRxHead
  dsimp only
  rw [Nat.mod_eq_of_lt half]
  exact if_neg h

theorem State.writeHpTxTail_fits (h : s.txTailFits m v) : s.writeHpTxTail m v = s.setFld MPORT_HP_TX_TAIL v m := by
  unfold State.writeHpTxTail
  dsimp only
  rw [Nat.mod_eq_of_lt half]
  exact if_pos h

theorem State.writeHpTxTail_bad (h : ¬s.txTailFits m v) : s.writeHpTxTail m v = s.setFld MPORT_HP_BAD 1 m := by
  unfold State.writeHpTxTail
  dsimp only
  rw [Nat.mod_eq_of_lt half]
  exact if_neg h

end

/-- What does not fit: a ring that is not enabled, a value past its size, or one that was not written. -/
theorem not_fits {on : Bool} {v size : Nat} {within : Prop} (h : on = false ∨ size ≤ v ∨ ¬within) :
    ¬(on = true ∧ v < size ∧ within) := by
  rintro ⟨enabled, below, inside⟩
  rcases h with off | past | outside
  · exact Bool.false_ne_true (off.symm.trans enabled)
  · omega
  · exact outside inside

/-- Settles O31: each write is its register's function, and each function has its cases. -/
theorem mediaRegisters : Obligations.MediaRegisters := by
  refine ⟨fun s w => ⟨fun d h => ⟨dstEnable_effect h, dstDisable_effect h⟩, fun m => ⟨fun h => ⟨mportEnable_effect h,
      mportDisable_effect h⟩, fun val => ⟨hpRxHead_effect val, hpTxTail_effect val, hpRxRing_effect val, hpTxRing_effect val⟩⟩,
      fun l => ⟨fun h => ⟨laneCtl_effect h _, laneCtl_effect h _, fun val => ⟨laneCtl_effect_word h val, laneCtl_effect_word h val⟩⟩,
        fun h transmits val => txeqWrite_effect h transmits val, esGo_effect⟩⟩,
    fun s l => ⟨fun down awake => ?_, State.writePwr_stays⟩, fun s l v => ⟨fun big => ?_, State.taps_writeTxEq⟩,
    fun s d whole => ⟨State.enable_enableDst whole, fun off wrong => ?_, State.enableDst_on whole, fun on free => ?_,
      State.disableDst_named⟩,
    fun s d stopping => ?_, fun s m v half => ⟨fun on below within => ?_, fun h => ?_⟩,
    fun s m v half => ⟨fun on below within => ?_, fun h => ?_⟩⟩
  · rw [State.writePwr_up down awake]
    exact ⟨State.fld_setFld_self s LANE_PWR 1 l 0, State.calFrom_calibrate ..⟩
  · rw [State.writeTxEq_refused big]
    exact ⟨State.fld_setFld_self .., State.fld_setFld_other (f := LANE_EQ_ERR) (g := LANE_C_PRE) _ rfl (by decide) _ _,
      State.fld_setFld_other (f := LANE_EQ_ERR) (g := LANE_C_MAIN) _ rfl (by decide) _ _,
      State.fld_setFld_other (f := LANE_EQ_ERR) (g := LANE_C_POST) _ rfl (by decide) _ _⟩
  · have small := s.dstError_le d
    have kept : (s.setFld DST_EN_ERR (s.dstError d) d).fld DST_ENABLE d = s.fld DST_ENABLE d :=
      State.fld_setFld_other (f := DST_EN_ERR) (g := DST_ENABLE) _ rfl (by decide) _ _
    rw [State.enableDst_wrong whole off wrong]
    refine ⟨(State.fld_setFld_self ..).trans (Nat.mod_eq_of_lt (Nat.lt_of_le_of_lt small (by decide))), ?_⟩
    unfold State.fldOn at off ⊢
    rw [kept, off]
  · rw [State.disableDst_free on free]
    exact State.fld_setFld_self s DST_ENABLE 0 d 0
  · rw [State.enableDst_stopping stopping]
    exact ⟨State.fld_setFld_self s DST_ENABLE 1 d 0, congrArg DstRun.stopping (State.dstRun_setDstRun_self ..)⟩
  · rw [State.writeHpRxHead_fits half ⟨on, below, within⟩, State.fld_setFld_self]
    exact Nat.mod_eq_of_lt half
  · rw [State.writeHpRxHead_bad half (not_fits h)]
    exact ⟨State.fld_setFld_self .., State.fld_setFld_other (f := MPORT_HP_BAD) (g := MPORT_HP_RX_HEAD) _ rfl (by decide) _ _⟩
  · rw [State.writeHpTxTail_fits half ⟨on, below, within⟩, State.fld_setFld_self]
    exact Nat.mod_eq_of_lt half
  · rw [State.writeHpTxTail_bad half (not_fits h)]
    exact ⟨State.fld_setFld_self .., State.fld_setFld_other (f := MPORT_HP_BAD) (g := MPORT_HP_TX_TAIL) _ rfl (by decide) _ _⟩

end Sys2Proof.Machine

/-! # Proofs: audio blocks, sample ticks, and what AES3 inputs receive -/

namespace Sys2Proof.Machine
open Reg

section
variable {s : State}

/-! ### Blocks and sample ticks (R124, R463) -/

theorem State.dueBlock_new (new : s.time.lastBlock < s.blockIndex) : s.dueBlock = s.startBlock s.blockIndex := if_pos new

theorem State.dueBlock_old (old : s.blockIndex ≤ s.time.lastBlock) : s.dueBlock = s := if_neg (Nat.not_lt.mpr old)

theorem State.blockToken_runs (runs : s.safe = false) : s.blockToken = s.dueBlock := if_neg (ne_true_of_eq_false runs)

theorem State.sampleToken_old (old : s.sampleIndex ≤ s.time.lastSample) : s.sampleToken = s := if_pos (.inr old)

theorem State.sampleToken_new (runs : s.safe = false) (new : s.time.lastSample < s.sampleIndex) :
    s.sampleToken = ({ s.dueBlock with time := { s.dueBlock.time with lastSample := s.sampleIndex } }).sampleAt
      (s.sampleIndex - 1) := by
  exact if_neg (not_or.mpr ⟨ne_true_of_eq_false runs, Nat.not_le.mpr new⟩)

theorem exec_audioBlock_token : exec .audioBlock s = .next s.probeTokens.blockToken := rfl

theorem exec_sampleTick_token : exec .sampleTick s = .next s.probeTokens.sampleToken := rfl

/-! ### The lock of an input's rate converter (R363, R378) -/

variable {i : Nat}

/-- The lock of a channel lies outside the registers. -/
theorem State.setAesLock_regs (locked : Bool) : (s.setAesLock i locked).regs = s.regs := by
  unfold State.setAesLock
  refine (State.each_invariant _ _ State.regs ?_ _).trans ?_
  · intro t ch
    rfl
  · cases locked <;> rfl

theorem State.ownerList_congr {t : State} (same : t.regs = s.regs) (ori : Nat) : t.ownerList ori = s.ownerList ori := by
  unfold State.ownerList State.owner
  rw [State.fld_congr same]

theorem State.rate_aesLocked (t : State) (i v : Nat) : (t.setFld AESIN_STATE v i).fld AESIN_RATE_HZ i = t.fld AESIN_RATE_HZ i :=
  State.fld_setFld_other (f := AESIN_STATE) (g := AESIN_RATE_HZ) _ rfl (by decide) _ _

theorem State.ownerList_aesState (t : State) (v : Nat) (h : i < 64) :
    (t.setFld AESIN_STATE v i).ownerList (oriAes i) = t.ownerList (oriAes i) :=
  congrArg Option.toList (State.owner_setFld (f := AESIN_STATE) t v (by decide) (by unfold oriAes; omega))

/-- The event tells the rate and the owner as they stand once the input is locked. -/
theorem State.aesLock_locks (h : i < 64) (on : s.fldOn AESIN_EN i = true) (locking : s.fld AESIN_STATE i = aesLocking) :
    let t := s.setAesIn i { s.aesIn i with rateAtLock := s.fld AESIN_RATE_HZ i, off := 0 }
    let u := (t.setAesLock i true).setFld AESIN_STATE aesLocked i
    s.aesLock i = u.raise Ev.AES_LOCK { index := i, data := u.fld AESIN_RATE_HZ i, dest := u.ownerList (oriAes i) } := by
  intro t u
  have same : (t.setAesLock i true).regs = t.regs := State.setAesLock_regs true
  have rate : u.fld AESIN_RATE_HZ i = t.fld AESIN_RATE_HZ i :=
    (State.rate_aesLocked ..).trans (State.fld_congr same ..)
  have owner : u.ownerList (oriAes i) = t.ownerList (oriAes i) :=
    (State.ownerList_aesState _ _ h).trans (State.ownerList_congr same _)
  rw [rate, owner]
  exact if_pos ⟨on, locking⟩

theorem exec_asrcLock_aes {i : Fin 64} (awake : s.heldInReset 137 = false) :
    exec (.asrcLock (.aes i)) s = .next (s.aesLock i) := if_neg (ne_true_of_eq_false awake)

end

section
variable {s : State} {i : Fin 64}

/-! ### Z preambles (R379, R382) -/

/-- Input i at a Z preamble: a block starts, and its channel status is empty. -/
def AesIn.atZ (x : AesIn) (grid : Nat) : AesIn := { x with frames := some 0, lastZ := grid, seen := grid, cs := [] }

theorem exec_zPreamble_first (hears : s.aesHears i = true) (first : (s.aesIn i).frames = none) :
    exec (.zPreamble i) s = .next (s.setAesIn i ((s.aesIn i).atZ s.time.grid)) := by
  rw [exec_zPreamble, execZPreamble, if_pos hears]
  simp only [first, AesIn.atZ]

theorem exec_zPreamble_whole (hears : s.aesHears i = true) (whole : (s.aesIn i).frames = some 192)
    (later : (s.aesIn i).lastZ < s.time.grid) :
    exec (.zPreamble i) s = .next (((s.setAesIn i ((s.aesIn i).atZ s.time.grid)).darsEdge i).aesInterval i
      (192 * 10 ^ 9 / (s.time.grid - (s.aesIn i).lastZ))) := by
  have moved : s.time.grid - (s.aesIn i).lastZ ≠ 0 := by omega
  rw [exec_zPreamble, execZPreamble, if_pos hears]
  simp only [whole, if_neg moved, if_true, AesIn.atZ]

theorem exec_zPreamble_other {n : Nat} (hears : s.aesHears i = true) (count : (s.aesIn i).frames = some n) (other : n ≠ 192) :
    exec (.zPreamble i) s = .next ((s.setAesIn i ((s.aesIn i).atZ s.time.grid)).aesBlockError i) := by
  rw [exec_zPreamble, execZPreamble, if_pos hears]
  simp only [count, if_neg other, AesIn.atZ]

/-! ### Received frames (R378, R381, R382) -/

/-- Input i once a frame's errors are counted and its samples and V bits are taken. -/
def State.takeFrame (s : State) (i : Nat) (f : AesFrame) : State :=
  let u := s.countAesErrors i f
  ((u.setAesIn i ((u.aesIn i).heard f u.time.grid)).amendV i (u.aesIn i).frameAt).aesSamples i

variable {f : AesFrame}

/-- The frame is counted into its block, with its channel status bit c. -/
def State.countFrame (t : State) (i : Nat) (c : Bool) : Host.Outcome State Fault Refusal :=
  let x := t.aesIn i
  match x.frames with
  | none => .next (t.setAesIn i x)
  | some n =>
    if n = 192 then .next ((t.setAesIn i { x with frames := none, cs := [] }).aesBlockError i)
    else
      let cs := x.cs ++ [c]
      let x := { x with frames := some (n + 1) }
      .next (t.setAesIn i (if cs.length = 192 then { x with cs := [], csDone := cs } else { x with cs := cs }))

theorem exec_aesFrame_hears (hears : s.aesHears i = true) :
    exec (.aesFrame i f) s = (s.takeFrame i f).countFrame i f.a.c := if_pos hears

variable {t : State} {n : Nat} {c : Bool}

theorem State.countFrame_noBlock (idle : (t.aesIn i).frames = none) : t.countFrame i c = .next (t.setAesIn i (t.aesIn i)) := by
  simp only [State.countFrame, idle]

theorem State.countFrame_missingZ (full : (t.aesIn i).frames = some 192) :
    t.countFrame i c = .next ((t.setAesIn i { t.aesIn i with frames := none, cs := [] }).aesBlockError i) := by
  simp only [State.countFrame, full, if_true]

section
variable (count : (t.aesIn i).frames = some n) (other : n ≠ 192)
include count other

theorem State.countFrame_open (short : (t.aesIn i).cs.length ≠ 191) :
    t.countFrame i c = .next (t.setAesIn i { t.aesIn i with frames := some (n + 1), cs := (t.aesIn i).cs ++ [c] }) := by
  have more : ((t.aesIn i).cs ++ [c]).length ≠ 192 := by simp [short]
  simp only [State.countFrame, count, if_neg other, if_neg more]

theorem State.countFrame_last (last : (t.aesIn i).cs.length = 191) :
    t.countFrame i c =
      .next (t.setAesIn i { t.aesIn i with frames := some (n + 1), cs := [], csDone := (t.aesIn i).cs ++ [c] }) := by
  have whole : ((t.aesIn i).cs ++ [c]).length = 192 := by simp [last]
  simp only [State.countFrame, count, if_neg other, if_pos whole]

end

/-! ### Channel status blocks (R381, R382) -/

theorem exec_channelStatusBlock_latches (hears : s.aesHears i = true) (whole : (s.aesIn i).csDone.length = 192)
    (good : bitAt ((bitsToBytes (s.aesIn i).csDone).headD 0) 0 = false ∨
      csCrc ((bitsToBytes (s.aesIn i).csDone).take 23) = (bitsToBytes (s.aesIn i).csDone).getD 23 0) :
    exec (.channelStatusBlock i) s =
      .next ((s.setAesIn i { s.aesIn i with csDone := [] }).latchStatus i (bitsToBytes (s.aesIn i).csDone)) := by
  have passes : ¬ (bitAt ((bitsToBytes (s.aesIn i).csDone).headD 0) 0 = true ∧
      csCrc ((bitsToBytes (s.aesIn i).csDone).take 23) ≠ (bitsToBytes (s.aesIn i).csDone).getD 23 0) := by
    rintro ⟨prof, wrong⟩
    exact good.elim (fun no => Bool.false_ne_true (no.symm.trans prof)) wrong
  rw [exec_channelStatusBlock, execChannelStatusBlock, if_pos ⟨hears, whole⟩]
  exact if_neg passes

/-- Within a second of an event the error is counted and not told again. -/
theorem exec_channelStatusBlock_badCrc (hears : s.aesHears i = true) (whole : (s.aesIn i).csDone.length = 192)
    (prof : bitAt ((bitsToBytes (s.aesIn i).csDone).headD 0) 0 = true)
    (wrong : csCrc ((bitsToBytes (s.aesIn i).csDone).take 23) ≠ (bitsToBytes (s.aesIn i).csDone).getD 23 0)
    (told : ((s.setAesIn i { s.aesIn i with csDone := [] }).aesIn i).lastCrc ≠ 0)
    (soon : s.time.grid + 1 < ((s.setAesIn i { s.aesIn i with csDone := [] }).aesIn i).lastCrc + 10 ^ 9) :
    exec (.channelStatusBlock i) s =
      .next ((s.setAesIn i { s.aesIn i with csDone := [] }).addFld AESIN_CS_CRC_ERR 1 i) := by
  have quiet : ¬ (((s.setAesIn i { s.aesIn i with csDone := [] }).aesIn i).lastCrc = 0 ∨
      ((s.setAesIn i { s.aesIn i with csDone := [] }).aesIn i).lastCrc - 1 + 10 ^ 9 ≤ s.time.grid) := by omega
  rw [exec_channelStatusBlock, execChannelStatusBlock, if_pos ⟨hears, whole⟩]
  exact (if_pos ⟨prof, wrong⟩).trans (if_neg quiet)

/-! ### The loss of an input (R382) -/

theorem exec_aesLoss_early (early : s.time.grid < (s.aesIn i).seen + 64000) : exec (.aesLoss i) s = .next s :=
  if_neg fun h => Nat.not_le.mpr early h.2.1

theorem exec_aesLoss_locked (hears : s.aesHears i = true) (late : (s.aesIn i).seen + 64000 ≤ s.time.grid)
    (locked : s.fld AESIN_STATE i = aesLocked) :
    let t := s.setAesIn i { s.aesIn i with frames := none, cs := [], csDone := [], off := 0 }
    let u := (t.setFld AESIN_BLOCK_SYNC 0 i).setFld AESIN_RATE_HZ 0 i
    let v := ((u.setAesLock i false).setFld AESIN_STATE aesNoSignal i).addFld AESIN_LOSS_CNT 1 i
    exec (.aesLoss i) s = .next (v.raise Ev.AES_LOSS
      { index := i, data := v.fld AESIN_LOSS_CNT i, dest := v.ownerList (oriAes i) }) := by
  have signal : s.fld AESIN_STATE i ≠ aesNoSignal := by rw [locked]; decide
  have told : s.fld AESIN_STATE i = aesLocking ∨ s.fld AESIN_STATE i = aesLocked := .inr locked
  intro t u v
  rw [exec_aesLoss, execAesLoss, if_pos ⟨hears, late, .inl signal⟩]
  refine (if_neg signal).trans (congrArg _ ?_)
  unfold State.when
  rw [decide_eq_true told, if_pos rfl]

end

/-- Settles O37: blocks and ticks act on what the tokens before them leave, and each case of an AES3 input takes its own
branch. -/
theorem audioEvents : Obligations.AudioEvents := by
  refine fun s => ⟨⟨fun safe => ⟨?_, ?_⟩, fun runs => ⟨fun new => ?_, fun old => ?_, fun old => ?_, fun new => ?_⟩⟩,
    fun i => ⟨fun awake on locking => ?_, fun hears => ⟨exec_zPreamble_first hears, exec_zPreamble_whole hears,
      fun n => exec_zPreamble_other hears⟩,
      fun f hears => ?_,
      fun hears whole => ⟨exec_channelStatusBlock_latches hears whole, exec_channelStatusBlock_badCrc hears whole⟩,
      fun _ => exec_aesLoss_early, exec_aesLoss_locked⟩⟩
  · rw [exec_audioBlock_token, State.blockToken_safe safe]
  · rw [exec_sampleTick_token, State.sampleToken_safe safe]
  · rw [exec_audioBlock_token, State.blockToken_runs runs, State.dueBlock_new new]
  · rw [exec_audioBlock_token, State.blockToken_runs runs, State.dueBlock_old old]
  · rw [exec_sampleTick_token, State.sampleToken_old old]
  · rw [exec_sampleTick_token, State.sampleToken_new runs new]
    rfl
  · rw [exec_asrcLock_aes awake, State.aesLock_locks i.isLt on locking]
  · rw [exec_aesFrame_hears hears]
    exact ⟨State.countFrame_noBlock, State.countFrame_missingZ,
      fun n count other => ⟨State.countFrame_open count other, State.countFrame_last count other⟩⟩

end Sys2Proof.Machine
